-- ==== Sys2Proof/Word.lean ====
section
/-!
DEFINITION. The word and byte types, and the type that names a field of a register.
-/

namespace Sys2Proof

/-- A register or a memory word: 32 bits (spec/02 R34). -/
abbrev Word := BitVec 32

/-- A byte of the SRAM or of CALSTORE (spec/02 R34, little-endian words). -/
abbrev Byte := BitVec 8

/-- The name of a register field: the register's address, the field's lowest bit and its width. -/
structure Fld where
  addr : Nat
  lo   : Nat
  len  : Nat
  deriving DecidableEq, Repr

end Sys2Proof
end

