-- ==== Sys2Proof/Types.lean ====
section
/-!
DEFINITION. The operand types of the commands.
-/

namespace Sys2Proof

/-- A requester of the register bus (02 R49): MSPI, or a bundle that carries register frames on VC0. -/
inductive Requester where
  | mspi
  | bundle (b : Nat)
  deriving DecidableEq, Repr

/-- A commit point (02 R42), in the order of its codes 0x0 to 0x5. -/
inductive Point where
  | immediate | frame | facet | planCycle | vblank | controlTick
  deriving DecidableEq, Repr

/-- The code of a commit point in SHADOW_CTRL (02 R41). -/
def Point.code : Point → Nat
  | .immediate => 0
  | .frame => 1
  | .facet => 2
  | .planCycle => 3
  | .vblank => 4
  | .controlTick => 5

/-- The commit point of a code; the reserved codes 6 and 7 name none. -/
def Point.ofCode : Nat → Option Point
  | 0 => some .immediate
  | 1 => some .frame
  | 2 => some .facet
  | 3 => some .planCycle
  | 4 => some .vblank
  | 5 => some .controlTick
  | _ => none

/-- A link frame without its sequence number, acknowledgement and credit fields (09 R245, R247). -/
structure LinkFrame where
  type  : Nat
  vc    : Nat
  /-- The queue number of a DATA frame; 0 in other types. -/
  queue : Nat
  /-- Payload bytes before padding. -/
  len   : Nat
  body  : List Word
  deriving DecidableEq, Repr

/-- What a lane receives in the place of a training set (09 R239): the fifteen data octets after its K symbol, and
    whether a code error fell among its symbols. -/
structure TsSeen where
  sym     : List Nat
  codeErr : Bool
  deriving DecidableEq, Repr

/-- What arrives around the header and the words of a link frame (09 R236 to R238, R246). -/
structure FrameSeen where
  /-- The CRC word that closes the frame. -/
  crc   : Word
  /-- 0 for a whole frame, 1 for one with no EOF in time, a second SOF, a code error or a wrong byte count, 2 for one that
  an ABORT ended (09 R246, R250). -/
  fault : Nat
  /-- The K28.0 added to or removed from SKIP, the same on every lane of the bundle (R238). -/
  skips : Nat
  /-- By lane the code errors, misplaced K symbols among them, and the disparity errors (R236, R266). -/
  errs  : List (Nat × Nat × Nat)
  deriving DecidableEq, Repr

/-- A valid training set (09 R239). -/
structure TsSet where
  /-- 1 for TS1, 2 for TS2. -/
  kind   : Nat
  pair   : Bool
  link   : Nat
  /-- Lane count minus 1, and POSITION. -/
  count  : Nat
  pos    : Nat
  rates  : Nat
  step   : Nat
  target : Nat
  reqValid : Bool
  req    : Nat
  inUse  : Nat
  id     : Word
  deriving DecidableEq, Repr

/-- The state of a loop slot that a MIRROR frame carries (19 R478): its law's state and what remains of its blend. -/
structure SlotMirror where
  integ : Int
  df    : Int
  yPrev : Int
  vPrev : Int
  uPrev : Int
  delta : Int
  j     : Nat
  n     : Nat
  deriving DecidableEq, Repr

/-- The loop state of a MIRROR frame (19 R478): the tick it was computed for, the slots, the ramp set-points of slots 2 and 4,
the phase set-point, the electrical angle, the polygon mode, the stop state, and the segment point. -/
structure LoopMirror where
  tick  : Nat
  slots : List SlotMirror
  sp2   : Int
  sp4   : Int
  phase : Int
  angle : Nat
  mode  : Nat
  stop  : Bool
  seg   : Option Nat
  deriving DecidableEq, Repr

/-- What a HEARTBEAT carries (19 R472, R337, R485). -/
structure PairReport where
  role   : Nat
  health : Nat
  permit : Bool
  latch  : Nat
  ins    : Nat
  lampOpen : Bool
  lampProven : Bool
  /-- A takeover is asked for at the next frame boundary (R485). -/
  switch : Bool
  deriving DecidableEq, Repr

end Sys2Proof
end

