-- ==== Sys2Proof/Syntax.lean ====
section
/-!
DEFINITION. The commands of the block: one constructor per row of spec/opcode_table.json, with the row's operands.
The operand t is the instant of the command in TDC LSB (03 R71); who is the requester of a register access.
-/

namespace Sys2Proof

/-- A command: a register access, an edge on a pin, an arriving frame, or the instant at which something falls due. -/
inductive Instr where
  /-- REGISTER_WRITE (R41): A write to a register that has no row of its own; the common refusal checks of R40 apply. -/
  | registerWrite (t : Nat) (r : Requester) (a d : Nat)
  /-- ERR_CODE_CLEAR (R40): A write of ERR_CODE.CLEAR clears the page's error register, and clears GLB.ERR_ADDR on the GLB page. -/
  | errCodeClear (t : Nat) (r : Requester) (p : Nat)
  /-- EVT_RAW_CLEAR (R53): A W1C write clears event bits, except for a bit whose event occurs in the same cycle. -/
  | evtRawClear (t : Nat) (r : Requester) (p d : Nat)
  /-- EVT_FORCE (R53): A write of EVT_FORCE sets EVT_RAW bits as the events themselves would. -/
  | evtForce (t : Nat) (r : Requester) (p d : Nat)
  /-- EVENT_COUNTER_CLEAR (R58): A write of 0xFFFF_FFFF clears an event counter and its OVF flag. -/
  | eventCounterClear (t : Nat) (r : Requester) (a : Nat)
  /-- SOFT_RESET (R39): A write of CTRL.SOFT_RESET resets the block's state, registers and shadows, cancels any pending commit and closes LOCK, or is refused on pages that refuse it. -/
  | softReset (t : Nat) (r : Requester) (p : Nat)
  /-- SOFT_RESET_COMPLETE (R39): A block soft reset completes within 1 µs, and SOFT_RESET reads 0. -/
  | softResetComplete (t p : Nat)
  /-- COMMIT (R43): A write of SHADOW_CTRL.COMMIT requests a commit at the selected commit point, after the page's own checks. -/
  | commit (t : Nat) (r : Requester) (p : Nat) (q : Point)
  /-- COMMIT_APPLY (R43): At the commit point, deferred as R29 requires, all RWS fields of the page take their shadow values in one step. -/
  | commitApply (t : Nat) (q : Point)
  /-- LOCK_KEY_WRITE (R48): A write of LOCK opens the page for 64 accesses on the correct key, closes it on 0x0000, or closes it and records 0x07 on a wrong key. -/
  | lockKeyWrite (t : Nat) (r : Requester) (p d : Nat)
  /-- WIDE_VALUE_LOW_READ (R50): A read of the lowest word of a wide value latches its higher words for that requester. -/
  | wideValueLowRead (t : Nat) (r : Requester) (a : Nat)
  /-- SLOW_ACCESS_COMPLETE (R49): A memory-window or inspection-port access completes within 4 µs after waiting for memory. -/
  | slowAccessComplete (t : Nat) (r : Requester)
  /-- WRITE (R51): An MSPI WRITE transaction, opcode 0x02, posts one or more word writes. -/
  | write (t a : Nat) (words : List Nat) (done : Nat)
  /-- READ (R51): An MSPI READ transaction, opcode 0x0B, returns words after wait bytes and the marker 0x5A. -/
  | read (t a n : Nat) (waits : List Nat)
  /-- MSPI_WRITE_COMPLETE (R51): A posted MSPI write takes effect on the register bus, in order. -/
  | mspiWriteComplete (t : Nat)
  /-- MSPI_CS_EARLY_RISE (R51): MSPI_CS_N rises early; the words not yet transferred are abandoned and the words already transferred complete. -/
  | mspiCsEarlyRise (t a : Nat) (words : List Nat)
  /-- EVF_HOLDOFF_END (R57): The EVENT-frame holdoff expires, and one frame is sent for the rises that came during it. -/
  | evfHoldoffEnd (t : Nat)
  /-- PMON_SNAP (R61): A write of PMON.SNAP copies the live state of the selected monitors to their snapshot registers in one cycle. -/
  | pmonSnap (t : Nat) (r : Requester) (d : Nat)
  /-- PMON_START (R61): A write of PMON.START clears the selected monitors and sets their RUN bits. -/
  | pmonStart (t : Nat) (r : Requester) (d : Nat)
  /-- MON_WINDOW_END (R60): A monitor in MODE WINDOW reaches its window length, stops and sets DONE. -/
  | monWindowEnd (t m : Nat)
  /-- POOL_SPLIT_WRITE (R24): A write of GLB.POOL_SPLIT is checked and, when accepted, reassigns granules and starts zeroing those that change owner. -/
  | poolSplitWrite (t : Nat) (r : Requester) (d : Nat)
  /-- POOL_ZEROED (R24): Zeroing of the reassigned granules completes; POOL_ZEROING clears. -/
  | poolZeroed (t : Nat)
  /-- SCAN_MODE_WRITE (R31): A write of SCN.SCAN_MODE is accepted or refused according to the Escapement, polygon mode and interlace checks. -/
  | scanModeWrite (t : Nat) (r : Requester) (d : Nat)
  /-- OCXO_WARM_CHANGE (R65): 32 consecutive agreeing AON samples change the filtered OCXO_WARM level; WARM_CHANGE is set. -/
  | ocxoWarmChange (t : Nat) (level : Bool)
  /-- REF_LOST (R68): No REFCLK edge arrives for 1 µs after REFCLK was judged present; emission is inhibited and the PLLs enter holdover. -/
  | refLost (t : Nat)
  /-- HOLDOVER_LIMIT (R68): Holdover passes 10 ms, and the hold widens to ±2,000 ppm. -/
  | holdoverLimit (t : Nat)
  /-- REF_PRESENT (R69): 100 µs of REFCLK edges with no 1 µs gap judge REFCLK present; after a loss the PLLs leave holdover. -/
  | refPresent (t : Nat)
  /-- TDC_PLL_LOCK (R70): A quadrant PLL locks. -/
  | tdcPllLock (t q : Nat)
  /-- PLL_RELOCK (R72): 10 µs after a quadrant PLL locks, hits are accepted again and PLL_RELOCK is set. -/
  | pllRelock (t q : Nat)
  /-- PLL_UNLOCK (R72): A quadrant PLL loses lock while REFCLK is present; its hits are discarded and its groups' shots are withheld. -/
  | pllUnlock (t q : Nat)
  /-- REF_SEL_WRITE (R63): A write of CLK.REF_SEL is accepted in SLEEP only. -/
  | refSelWrite (t : Nat) (r : Requester) (d : Nat)
  /-- HIT_LEADING_EDGE (R77): A THL comparator goes active inside a gate and begins a hit, or merges the pulse into the previous hit. -/
  | hitLeadingEdge (t c : Nat)
  /-- HIT_TRAILING_EDGE (R77): The THL comparator returns inactive and the hit completes with its width. -/
  | hitTrailingEdge (t c : Nat) (high : Bool)
  /-- HIT_WIDTH_LIMIT (R77): A hit reaches 255.9375 ns without a trailing edge and completes with NO_TRAIL. -/
  | hitWidthLimit (t c : Nat) (high : Bool)
  /-- HIT_FIFO_ENTRY (R83): A completed hit enters its channel FIFO, or is dropped at a full FIFO. -/
  | hitFifoEntry (t c : Nat)
  /-- HIT_DRAIN (R83): The bank path takes a hit from a channel FIFO in its round-robin turn. -/
  | hitDrain (t bank : Nat)
  /-- HIT_TIME_FORMED (R88): Once the hit has left its FIFO and its start is resolved, t = stop − start − d is formed and passed on. -/
  | hitTimeFormed (t c : Nat)
  /-- START_EDGE (R87): A start-channel edge becomes the shot's start, or is counted as extra or stray. -/
  | startEdge (t m : Nat)
  /-- START_WINDOW_CLOSE (R87): A start window closes without an edge; ST_NOMINAL is substituted and the shot is counted in ST_MISS. -/
  | startWindowClose (t m : Nat)
  /-- ST_CTRL_WRITE (R87): A write of ST_CTRL starts 2 µs in which start edges are not used. -/
  | stCtrlWrite (t : Nat) (r : Requester) (m d : Nat)
  /-- START_SETTLE_END (R87): The 2 µs that follow an ST_CTRL write end, and start edges are used again. -/
  | startSettleEnd (t m : Nat)
  /-- CH_THRESH_WRITE (R75): A write of CH_THRESH is checked, updates the DACs and starts a settling interval. -/
  | chThreshWrite (t : Nat) (r : Requester) (c d : Nat)
  /-- SETTLING_END (R75): The 2 µs settling interval of a channel ends. -/
  | settlingEnd (t c : Nat)
  /-- FCT_SNAP (R91): A write of FCT.SNAP takes TDU snapshots and computes TDU_MEAN. -/
  | fctSnap (t : Nat) (r : Requester) (d : Nat)
  /-- FCT_START (R91): A write of FCT.START clears and runs TDUs and starts frequency counters. -/
  | fctStart (t : Nat) (r : Requester) (d : Nat)
  /-- FC_GATE_OPEN (R92): A prescaled input edge opens a frequency-counter gate. -/
  | fcGateOpen (t k : Nat)
  /-- FC_GATE_CLOSE (R93): The first prescaled edge after GATE_US closes the gate and latches N and T. -/
  | fcGateClose (t k n : Nat)
  /-- NO_SIGNAL (R94): No prescaled edge comes within one gate time; the measurement ends with NO_SIGNAL. -/
  | noSignal (t k : Nat)
  /-- IDX_RISING_EDGE (R270): A facet index rising edge is registered as the facet boundary; facet numbering, the speed model and the prediction are updated. -/
  | idxRisingEdge (t : Nat)
  /-- IDX_FALLING_EDGE (R270): The index falling edge is timed and the pulse is judged wide or narrow. -/
  | idxFallingEdge (t : Nat)
  /-- SHOT_START (R113): A scheduled shot start arrives; the gates are tested in order and the shot is fired or withheld. -/
  | shotStart (t g : Nat)
  /-- LTRIG_EDGE (R101): The commanded LTRIG edge is issued d after the shot start, unless permission was withdrawn at least 20 ns before it. -/
  | ltrigEdge (t g : Nat)
  /-- CAPTURE_GATE_OPEN (R104): A range or dark capture window opens on a group's channels. -/
  | captureGateOpen (t g : Nat) (dark : Bool)
  /-- CAPTURE_GATE_CLOSE (R104): A range or dark capture window closes. -/
  | captureGateClose (t g : Nat) (dark : Bool)
  /-- COL_DATA_ACCESS (R106): An access to ESC.COL_DATA reads or writes a column angle and advances INDEX. -/
  | colDataAccess (t : Nat) (r : Requester) (d : Option Nat)
  /-- ESC_ENABLE_WRITE (R116): A write of ESC.CTRL.ENABLE stops scheduling after the column in progress, or resumes it at the next frame boundary. -/
  | escEnableWrite (t : Nat) (r : Requester) (d : Nat)
  /-- TOUT_ARM (R117): A write of TOUT_SEC_HI arms a NETTIME output, or fires it LATE when its target has passed. -/
  | toutArm (t : Nat) (r : Requester) (i d : Nat)
  /-- TOUT_PULSE (R117): A TOUT pulse begins at its frame-relative or network-time instant. -/
  | toutPulse (t i : Nat)
  /-- TOUT_PULSE_END (R117): A TOUT pulse reaches its width and ends. -/
  | toutPulseEnd (t i : Nat)
  /-- NTT_ARM (R118): A write of NTT_CTRL.ARM arms a network-timed trigger, or fires it LATE when its target has passed. -/
  | nttArm (t : Nat) (r : Requester) (i d : Nat)
  /-- NTT_FIRED (R118): Network time reaches an armed target; the trigger fires and, with TO_ACQ 1, raises an acquisition trigger. -/
  | nttFired (t i : Nat)
  /-- COLUMN_START_MARKER (R133): A column-start marker reaches the engine, which reserves the pixel's contexts or refuses the pixel. -/
  | columnStartMarker (t c : Nat)
  /-- SHOT_MARKER (R130): A fired or withheld marker reaches the engine and updates FIRED, SCHEDULED and DARK_NS. -/
  | shotMarker (t c : Nat)
  /-- HIT_ACCUMULATE (R129): A hit time at the head of the engine queue is added to a bin, to DARK_HITS or to OOR_HITS, or is refused for SETTLING. -/
  | hitAccumulate (t c : Nat)
  /-- BOUNDARY_MARKER (R134): The coarse-to-fine boundary marker reaches the engine and starts the peak search. -/
  | boundaryMarker (t c : Nat)
  /-- ZOOM_OPEN (R135): The peak search completes; zoom contexts open or are released, and the hold buffer drains into them. -/
  | zoomOpen (t c : Nat)
  /-- PIXEL_END_MARKER (R127): The pixel-end marker moves the pixel's contexts to CLOSING. -/
  | pixelEndMarker (t c : Nat)
  /-- CONTEXT_CLOSE (R139): Close of a context completes; returns are extracted and, once every extracted context of the pixel is closed, its records are emitted. -/
  | contextClose (t n : Nat)
  /-- CONTEXT_READOUT_COMPLETE (R141): Readout of a HELD context to its destination completes and the context returns to FREE. -/
  | contextReadoutComplete (t n : Nat)
  /-- INSP_SEL_WRITE (R146): A write of VAT.INSP_SEL latches the selected context's header and resets INSP_BIN_IDX. -/
  | inspSelWrite (t : Nat) (r : Requester) (d : Nat)
  /-- INSP_BIN_DATA_READ (R146): A read of INSP_BIN_DATA returns two bins and advances the index. -/
  | inspBinDataRead (t : Nat) (r : Requester)
  /-- INSP_BIN_DATA_WRITE (R147): A write of INSP_BIN_DATA replaces two bins of an OPEN context in TEST, or is refused. -/
  | inspBinDataWrite (t : Nat) (r : Requester) (d : Nat)
  /-- RENNET_JUDGE (R152): Once every neighbourhood hit up to H after it could have arrived, a PULSE-bank hit is judged curd or whey. -/
  | rennetJudge (t c : Nat)
  /-- TEMP_STALE (R163): The walk temperature channel gives no valid result for two round periods; T is held. -/
  | tempStale (t : Nat)
  /-- FRAME_BOUNDARY (R181): A frame starts at a facet-0 index edge or a reference instant; it is numbered and FRAME_HEAD records are issued. -/
  | frameBoundary (t : Nat) (partner : Bool)
  /-- GENLOCK_EDGE (R180): An active GENLOCK_IN edge is timed and accepted or ignored, and the genlock phase is measured. -/
  | genlockEdge (t : Nat) (falling : Bool)
  /-- GENLOCK_LOST (R33): No genlock pulse comes for 2 expected periods; frames are held in network time. -/
  | genlockLost (t : Nat)
  /-- ACQ_ENABLE_WRITE (R183): A write of ACQ.CTRL.ENABLE starts or ends acquisition at the next frame boundary, or at once when no boundaries occur. -/
  | acqEnableWrite (t : Nat) (r : Requester) (d : Nat)
  /-- TRIGGER_INPUT_EDGE (R193): An edge on TRIG_IN or TB gives a trigger instant. -/
  | triggerInputEdge (t line : Nat) (falling : Bool)
  /-- HOST_TRIG (R193): A write of ACQ.CTRL.HOST_TRIG gives a host trigger instant. -/
  | hostTrig (t : Nat) (r : Requester) (d : Nat)
  /-- AUTO_TRIGGER (R196): The auto timer expires and gives a FORCED trigger. -/
  | autoTrigger (t : Nat)
  /-- TRIGGER_RESOLVE (R197): A trigger's column position is resolved; triggers are merged, MARK records are placed, and retention acts. -/
  | triggerResolve (t : Nat)
  /-- RETENTION_FILL_READY (R199): The retention fill reaches PRE and the state becomes READY. -/
  | retentionFillReady (t : Nat)
  /-- RETENTION_POST_END (R199): The last post position is captured and retention enters HOLDOFF. -/
  | retentionPostEnd (t : Nat)
  /-- RETENTION_HOLDOFF_END (R199): HOLDOFF positions pass and retention enters FILLING or READY. -/
  | retentionHoldoffEnd (t : Nat)
  /-- SEQ_DONE (R200): A retention sequence's SEQ_END has been delivered to the queues. -/
  | seqDone (t : Nat)
  /-- REARM (R206): A write of ACQ.CTRL.REARM clears STOPPED at the next frame boundary, or records 0x04. -/
  | rearm (t : Nat) (r : Requester) (d : Nat)
  /-- RECORD_ENQUEUE (R192): After its 200 ns hold a record is offered to its queues and admitted or refused. -/
  | recordEnqueue (t st : Nat)
  /-- QUEUE_CFG_WRITE (R211): A write of Q_CFG or Q_ROUTE is checked and made pending until the queue's frame boundary. -/
  | queueCfgWrite (t : Nat) (r : Requester) (k : Nat) (route : Bool) (d : Nat)
  /-- QUEUE_CFG_APPLY_IDLE (R211): With acquisition disabled, a pending queue write applies 1 µs after the write. -/
  | queueCfgApplyIdle (t k : Nat)
  /-- SEGMENT_SEND (R216): A queue sends a segment on its bundle when bytes are ready and credit allows, freeing blocks. -/
  | segmentSend (t b : Nat)
  /-- PRESS_JOB_START (R222): A Press engine starts a job for a ready queue, priming first if the queue differs from its last job's. -/
  | pressJobStart (t e : Nat)
  /-- PRESS_PRIME_DONE (R222): Priming of the hash chain from the queue's window completes. -/
  | pressPrimeDone (t e : Nat)
  /-- PRESS_BLOCK_END (R220): A Press block ends on input size, on FRAME_END, or at flush; it is aligned, checked for expansion and released. -/
  | pressBlockEnd (t k : Nat) (bytes : List Byte)
  /-- RESUMED (R224): A halted job resumes automatically once a block becomes available. -/
  | resumed (t e : Nat)
  /-- RESUME (R224): A write of PJ_CTRL.RESUME resumes a halted job in MANUAL mode, or is refused. -/
  | resume (t : Nat) (r : Requester) (e : Nat)
  /-- BUNDLE_ENABLE_WRITE (R240): A write of B.CTRL.ENABLE starts training, or disables the bundle and discards its replay region. -/
  | bundleEnableWrite (t : Nat) (r : Requester) (b d : Nat)
  /-- LANE_BIT_LOCK (R240): A lane gains bit lock in DETECT or at the target rate. -/
  | laneBitLock (t l : Nat)
  /-- TS_SET_RECEIVED (R239): A valid TS1 or TS2 set is received on a lane. -/
  | tsSetReceived (t l : Nat) (x : TsSeen)
  /-- TRAIN_STEP_COMPLETE (R240): A training step's end condition is met and the bundle moves to the next step, or goes UP. -/
  | trainStepComplete (t b seen : Nat)
  /-- TRAIN_STEP_TIMEOUT (R241): A training step times out; failed lanes are left out, or the attempt restarts or ends in FAILED. -/
  | trainStepTimeout (t b seen : Nat)
  /-- TRAIN_FAIL_RESTART (R241): 100 ms after FAILED with AUTO_RESTART 1, training restarts. -/
  | trainFailRestart (t b : Nat)
  /-- ACK (R251): An ACK LCW or ACK field releases the frames it covers from the replay region. -/
  | ack (t b seq : Nat)
  /-- NAK (R251): A NAK LCW aborts the frame in progress and replays every unacknowledged frame. -/
  | nak (t b seq : Nat)
  /-- CREDIT (R248): A CREDIT LCW or field updates a VC's LIMIT. -/
  | credit (t b vc limit : Nat)
  /-- LANE_OFFER (R256): A LANE_OFFER LCW updates the partner's offer and may change the transmit mask. -/
  | laneOffer (t b mask : Nat)
  /-- LANE_TX (R256): A LANE_TX LCW sets the receive mask from the next ALIGN. -/
  | laneTx (t b mask : Nat)
  /-- POWER (R261): A POWER LCW requests, acknowledges or refuses an L1 or L2 entry. -/
  | power (t b : Nat) (ack : Bool) (st : Nat)
  /-- FRAME_RECEIVED (R250): A received frame is checked and then accepted, discarded or NAKed. -/
  | frameReceived (t b : Nat) (hdr body : List Word) (line : FrameSeen)
  /-- REG_WR (R259): A REG_WR frame performs register writes, and answers with REG_CPL when asked or on error. -/
  | regWr (t b len : Nat) (body : List Nat)
  /-- REG_RD (R259): A REG_RD frame performs register reads and answers with REG_CPL. -/
  | regRd (t b len : Nat) (body : List Nat)
  /-- FRAME_TRANSMIT (R248): A frame starts transmission once credit and replay room allow it. -/
  | frameTransmit (t b : Nat)
  /-- ACK_INT_EXPIRE (R249): ACK_INT elapses and an ACK is sent for accepted frames. -/
  | ackIntExpire (t b : Nat)
  /-- CREDIT_INT_EXPIRE (R248): CREDIT_INT elapses after a change of LIMIT, and a CREDIT is sent. -/
  | creditIntExpire (t b : Nat)
  /-- REPLAY_TIMEOUT (R251): The oldest unacknowledged frame goes REPLAY_TO without an ACK and is replayed; after REPLAY_MAX the bundle enters RECOVERY. -/
  | replayTimeout (t b : Nat)
  /-- DOWN (R253): RECOVERY does not end within RECOVERY_MS; the bundle enters DOWN and discards its replay region. -/
  | down (t b : Nat)
  /-- RETRAIN (R265): A write of B.CTRL.RETRAIN puts an UP bundle into RECOVERY. -/
  | retrain (t : Nat) (r : Requester) (b d : Nat)
  /-- QUARANTINE (R255): A lane fault quarantines an active lane. -/
  | quarantine (t l cause codes disps : Nat)
  /-- LANE_MASK_SWITCH (R256): At the next ALIGN the transmitter or receiver switches to the new lane mask, and lanes rejoin. -/
  | laneMaskSwitch (t b : Nat) (rx : Bool)
  /-- LANE_RETRAIN_ATTEMPT (R257): A background retraining attempt starts on a quarantined lane, repeated every 10 ms. -/
  | laneRetrainAttempt (t l : Nat)
  /-- LANE_RETRAIN_END (R257): A background retraining attempt succeeds into STANDBY or fails. -/
  | laneRetrainEnd (t l : Nat) (ok : Bool)
  /-- LN_CTRL_RETRY (R257): A write of LN_CTRL.RETRY releases a HELD lane for one more retraining. -/
  | lnCtrlRetry (t : Nat) (r : Requester) (l d : Nat)
  /-- LANE_EN_WRITE (R258): A write of B_LANES.LANE_EN adds or removes positions in service. -/
  | laneEnWrite (t : Nat) (r : Requester) (b d : Nat)
  /-- POWER_REQ_WRITE (R261): A write of B.CTRL.POWER_REQ requests a bundle power state. -/
  | powerReqWrite (t : Nat) (r : Requester) (b d : Nat)
  /-- POWER_RETRY (R261): 10 µs after a refusal, a standing power request is tried again. -/
  | powerRetry (t b : Nat)
  /-- POWER_EXIT (R261): An L1 or L2 exit starts on a waiting frame, on POWER_REQ L0, or on signal detect. -/
  | powerExit (t b : Nat) (signal : Bool)
  /-- LREF_LOST (R233): A lane group's selected reference carries no edge for 1 µs; its lanes lose lock. -/
  | lrefLost (t g : Nat)
  /-- LG_RATE_WRITE (R232): A write of WNB.LG_RATE changes a group's ceiling, or is refused while its lanes are in use. -/
  | lgRateWrite (t : Nat) (r : Requester) (d : Nat)
  /-- PRBS_SYNC (R262): The PRBS checker gains sync after 64 error-free bits, or resynchronises after 8 errors. -/
  | prbsSync (t l : Nat) (sync : Bool) (errors : Nat)
  /-- CONTROL_TICK (R274): A control-engine tick latches inputs, runs the due slots and FOC, applies outputs and checks loop faults. -/
  | controlTick (t : Nat)
  /-- HALL_EDGE (R269): A filtered Hall pattern change is timed; θe, the Hall speed and the commutation checks are updated. -/
  | hallEdge (t p : Nat)
  /-- HALL_EDGE_TIMEOUT (R297): No Hall edge comes within 4 intervals above OPEN_RPM; HALL_FAULT. -/
  | hallEdgeTimeout (t : Nat)
  /-- MODE_REQ_WRITE (R286): A write of MOT.MODE_REQ requests a polygon mode, or is refused. -/
  | modeReqWrite (t : Nat) (r : Requester) (d : Nat)
  /-- ALIGN_END (R286): ALIGN_MS elapses; the Hall pattern is checked and OPEN_SPIN starts, or START_FAIL is latched. -/
  | alignEnd (t : Nat)
  /-- START_FAIL (R286): OPEN_MAX_MS passes without the OPEN_SPIN exit; START_FAIL is latched. -/
  | startFail (t : Nat)
  /-- IDX_LOST (R297): No index edge comes within 1.5 p while the model is valid; IDX_LOST is latched. -/
  | idxLost (t : Nat)
  /-- STANDSTILL (R288): 100 ms without a Hall edge at set-point 0 declares STANDSTILL and enters OFF. -/
  | standstill (t : Nat)
  /-- COASTING_CLEAR (R298): 100 ms without a Hall edge clears COASTING. -/
  | coastingClear (t : Nat)
  /-- FAULT_LATCH_CLEAR (R299): A W1C write of MOT or GAL FAULT_LATCH clears a bit when its cause has gone and the drive is idle. -/
  | faultLatchClear (t : Nat) (r : Requester) (gal : Bool) (d : Nat)
  /-- GAL_TBL_DATA_ACCESS (R295): An access to GAL.TBL_DATA reads or writes a trajectory point and advances INDEX. -/
  | galTblDataAccess (t : Nat) (r : Requester) (d : Option Nat)
  /-- SDF_OUTPUT (R309): A CIC decimation completes on a ΣΔ clock edge; the output is delivered or suppressed and the detectors run. -/
  | sdfOutput (t c : Nat) (bits : List Bool)
  /-- SDF_STUCK (R308): 128 clocks pass without a transition and the channel becomes STUCK. -/
  | sdfStuck (t c : Nat)
  /-- SDF_UNSTUCK (R308): Transitions return on a STUCK channel, which restarts. -/
  | sdfUnstuck (t c : Nat)
  /-- CLK_LOST (R306): No SDM_CLK edge comes for 1 µs in RECEIVE; every channel is invalid. -/
  | clkLost (t : Nat)
  /-- SDM_CLK_RETURN (R306): SDM_CLK edges return and the channels restart. -/
  | sdmClkReturn (t : Nat)
  /-- SDF_CFG_WRITE (R306): A write of SDF.CFG changes the clock frequency or direction and restarts every enabled channel, or is refused. -/
  | sdfCfgWrite (t : Nat) (r : Requester) (d : Nat)
  /-- SAFETY_INPUT_CHANGE (R317): A filtered safety input takes a new level, and causes are latched or cleared. -/
  | safetyInputChange (t i : Nat) (level a b : Bool)
  /-- SAFE_RESET_EDGE (R332): A filtered rising edge of SAFE_RESET is accepted, clearing latches and starting the proof cycle, or refused. -/
  | safeResetEdge (t : Nat)
  /-- RESET_STUCK (R333): SAFE_RESET stays high for 5 s and RESET_STUCK is latched. -/
  | resetStuck (t : Nat)
  /-- RESET_STUCK_CLEAR (R333): SAFE_RESET stays low for 100 ms and RESET_STUCK clears. -/
  | resetStuckClear (t : Nat)
  /-- PATH_COMPARE (R320): Every 10 µs the two paths compare; two consecutive differences latch PATH. -/
  | pathCompare (t : Nat)
  /-- SS1_STANDSTILL (R327): Each path sees no Hall edge for 100 ms during SS1, and torque is removed. -/
  | ss1Standstill (t : Nat)
  /-- SS1_MAX_EXPIRE (R327): SS1_MAX elapses during SS1, and torque is removed. -/
  | ss1MaxExpire (t : Nat)
  /-- SS_DISCREPANCY (R321): SS_A_N and SS_B_N differ for longer than DISC_TIME. -/
  | ssDiscrepancy (t : Nat)
  /-- SPEED_AGREE (R321): The paths' speeds disagree for longer than AGREE_MS. -/
  | speedAgree (t : Nat)
  /-- CONTACTOR_MISMATCH (R331): A contactor feedback departs from the complement of its command for FB_TIME; CONTACTOR is latched. -/
  | contactorMismatch (t : Nat) (motor : Bool)
  /-- PROOF_STEP_END (R334): A proof-cycle step ends on its condition or its time, passing to the next step or failing. -/
  | proofStepEnd (t : Nat)
  /-- EMIT_DELAY_END (R335): EMIT_DELAY elapses after the proof and PROOF clears. -/
  | emitDelayEnd (t : Nat)
  /-- BUDGET_SUBWINDOW (R324): A 125 µs sub-window boundary passes and the budget window moves on. -/
  | budgetSubwindow (t : Nat)
  /-- CFG_CLOSE (R340): A write of SAF.CFG_CTRL.CLOSE closes the SAFE_CONFIG window and checks the CRC. -/
  | cfgClose (t : Nat) (r : Requester)
  /-- CFG_WINDOW_TIMEOUT (R339): The SAFE_CONFIG window reaches 60 s and closes with the CRC check. -/
  | cfgWindowTimeout (t : Nat)
  /-- CRC_RUN_CHECK (R340): Every 1 ms each path recomputes the configuration CRC; a mismatch latches CONFIG. -/
  | crcRunCheck (t : Nat)
  /-- ETH_FRAME_RECEIVED (R345): A frame received on an ETH port is checked, timestamped, learnt and forwarded. -/
  | ethFrameReceived (t p sfd : Nat) (frame : List Byte) (fcsOk : Bool)
  /-- PAUSE_QUANTA_END (R345): The pause time of a received PAUSE expires. -/
  | pauseQuantaEnd (t p : Nat)
  /-- ETH_FRAME_EGRESS (R346): A queued frame leaves a bridge port, is corrected and timestamped. -/
  | ethFrameEgress (t p sfd : Nat)
  /-- LINK_UP (R344): A port gains synchronisation and negotiation completes. -/
  | linkUp (t p lp : Nat)
  /-- LINK_DOWN (R344): A port loses synchronisation; its queues and learnt addresses are discarded. -/
  | linkDown (t p : Nat)
  /-- AN_FAIL (R344): The partner offers half duplex only; the link is held down. -/
  | anFail (t p lp : Nat)
  /-- MAC_AGE_EXPIRE (R347): A learnt address reaches AGE and expires. -/
  | macAgeExpire (t : Nat)
  /-- MATCH_ENTRY_EXPIRE (R360): A two-step match entry reaches 1 s and is freed. -/
  | matchEntryExpire (t : Nat)
  /-- ETH (R349): An ETH tunnel frame from the host is assembled and switched or sent. -/
  | eth (t b len : Nat) (body : List Word)
  /-- MB_RX_DATA_READ (R350): A read of ETH.MB_RX_DATA returns the next word of the receive record. -/
  | mbRxDataRead (t : Nat) (r : Requester)
  /-- MB_TX_DATA_WRITE (R350): A write of ETH.MB_TX_DATA appends a word to the transmit record. -/
  | mbTxDataWrite (t : Nat) (r : Requester) (d : Nat)
  /-- SEND (R350): A write of MB_TX_CTRL.SEND checks and sends the transmit record. -/
  | send (t : Nat) (r : Requester)
  /-- ABORT (R350): A write of MB_TX_CTRL.ABORT discards the words written. -/
  | abort (t : Nat) (r : Requester)
  /-- INCR_NS_WRITE (R352): A write of NTM.INCR_NS sets INCREMENT at the next REFCLK edge, or is refused. -/
  | incrNsWrite (t : Nat) (r : Requester) (d : Nat)
  /-- STEP_SEC_HI_WRITE (R353): A write of NTM.STEP_SEC_HI applies a time step, or refuses it. -/
  | stepSecHiWrite (t : Nat) (r : Requester) (d : Nat)
  /-- CLEAR_COAST (R355): A write of NTM.CTRL.CLEAR_COAST clears COASTED, or is refused while REF_LOST. -/
  | clearCoast (t : Nat) (r : Requester) (d : Nat)
  /-- NOW_NS_READ (R355): A read of NTM.NOW_NS latches the other time words. -/
  | nowNsRead (t : Nat) (r : Requester)
  /-- PPS_OUT_PULSE (R361): Network time passes a whole second plus PPS_OFS and PPS_OUT rises. -/
  | ppsOutPulse (t : Nat)
  /-- PPS_OUT_END (R361): A PPS_OUT pulse reaches WIDTH and falls. -/
  | ppsOutEnd (t : Nat)
  /-- PPS_IN (R362): A PPS_IN rising edge is timed into PPSIN. -/
  | ppsIn (t : Nat)
  /-- PPSIN_NS_READ (R362): A read of PPSIN_NS latches the higher words and clears NEW and OVR. -/
  | ppsinNsRead (t : Nat) (r : Requester)
  /-- PLAN_CYCLE_START (R366): A plan cycle starts; at epoch boundaries grant changes take effect. -/
  | planCycleStart (t : Nat)
  /-- BEAT_START (R372): A beat starts; silent peers are dropped, claims complete or are chosen, and states advance. -/
  | beatStart (t : Nat)
  /-- PLAN_MSG_SEND (R369): At the unit's offset in the beat its due plan messages are sent. -/
  | planMsgSend (t : Nat)
  /-- PLAN_FRAME_RECEIVED (R370): A plan frame reaching the PLN port updates the peer table, and conflicts are resolved. -/
  | planFrameReceived (t : Nat)
  /-- PLN_ENABLE_WRITE (R377): A write of PLN.CTRL.ENABLE starts listening, or releases held slots and stops. -/
  | plnEnableWrite (t : Nat) (r : Requester) (d : Nat)
  /-- PEER_SEL_WRITE (R382): A write of PLN.PEER_SEL latches the chosen peer entry. -/
  | peerSelWrite (t : Nat) (r : Requester) (d : Nat)
  /-- VID_LATCH_POINT (R398): A video frame begins; commits apply and the latest complete source buffer is chosen. -/
  | vidLatchPoint (t : Nat)
  /-- VID_LINE_START (R401): A video line starts and the next line's layer data is fetched. -/
  | vidLineStart (t : Nat) (under : List (Nat × Nat))
  /-- VID_FRAME_END (R404): The last active line ends; freeze signatures and rectangle CRCs are checked. -/
  | vidFrameEnd (t : Nat)
  /-- TIMING_RESUMED (R399): The video PLL relocks after a clock change and the new timing starts. -/
  | timingResumed (t : Nat)
  /-- VID_TBL_DATA_ACCESS (R397): An access to VID.TBL_DATA reads or writes a table entry and advances INDEX. -/
  | vidTblDataAccess (t : Nat) (r : Requester) (d : Option Nat)
  /-- ROUND_START (R412): A housekeeping round starts, at once or from the queue, latching the enabled set. -/
  | roundStart (t : Nat)
  /-- ROUND_TIMER (R413): The round timer reaches PERIOD_US and gives a round start. -/
  | roundTimer (t : Nat)
  /-- ROUND_TRIG (R413): A write of HKA.CTRL.ROUND_TRIG gives a round start. -/
  | roundTrig (t : Nat) (r : Requester) (d : Nat)
  /-- HKA_CONVERSION_END (R409): A conversion completes; samples, averages and results are formed. -/
  | hkaConversionEnd (t code : Nat) (clamp : Bool)
  /-- URGENT (R416): A write of HKA.URGENT requests a host urgent conversion. -/
  | urgent (t : Nat) (r : Requester) (d : Nat)
  /-- BLANK_TIMEOUT (R417): A deferred hold is not taken within BLANK_MAX and the conversion is flagged. -/
  | blankTimeout (t : Nat)
  /-- EXC_LIMIT (R411): An excitation output enters current limit. -/
  | excLimit (t k : Nat) (on : Bool)
  /-- LIN_LOAD (R420): A write of LIN_LOAD starts copying linearisation records from CALSTORE. -/
  | linLoad (t : Nat) (r : Requester) (high : Bool) (d : Nat)
  /-- LIN_LOAD_DONE (R420): The coefficient copy completes within 2 µs. -/
  | linLoadDone (t c : Nat)
  /-- HKA_STALE (R421): No result is formed for 2 × PERIOD_US and STALE is set. -/
  | hkaStale (t c : Nat)
  /-- ORDERLY_STOP_STEP_END (R430): A step of an orderly thermal stop completes and the next begins, ending in READY. -/
  | orderlyStopStepEnd (t : Nat)
  /-- BUDGET_OUT (R431): ORDERLY_BUDGET expires and the stop becomes immediate. -/
  | budgetOut (t : Nat)
  /-- TRIP_LATCH_CLEAR (R429): A W1C write of THM.TRIP_LATCH clears bits whose causes have gone, or is refused. -/
  | tripLatchClear (t : Nat) (r : Requester) (d : Nat)
  /-- CAL_JOB_START (R439): A write of CAL.CTRL.START starts a calibration job, or is refused. -/
  | calJobStart (t : Nat) (r : Requester) (d : Nat)
  /-- CAL_JOB_ABORT (R440): A write of CAL.CTRL.ABORT abandons the running job. -/
  | calJobAbort (t : Nat) (r : Requester) (d : Nat)
  /-- CAL_NO_SIGNAL (R440): CAL_IN gives no edge for 10 ms and the job fails. -/
  | calNoSignal (t : Nat)
  /-- CAL_EVENT_CAPTURE (R442): A calibration pulse edge is captured for the running job. -/
  | calEventCapture (t n a b : Nat)
  /-- CAL_THRESH_STEP (R444): A threshold search step of 256 samples ends and the DACs take their next codes. -/
  | calThreshStep (t : Nat) (above : List Nat)
  /-- JOB_DONE (R442): A job has all its events; its results are computed and stored, or it fails. -/
  | jobDone (t : Nat)
  /-- RECOMPUTE (R447): A write of CAL.CTRL.RECOMPUTE starts a correction computation. -/
  | recompute (t : Nat) (r : Requester) (d : Nat)
  /-- CAL_COMPUTE_DONE (R447): A correction computation completes and awaits installation. -/
  | calComputeDone (t : Nat)
  /-- APPLIED (R449): Computed corrections are installed at a frame boundary, or within 1 µs when acquisition is stopped. -/
  | applied (t : Nat)
  /-- LMP_PERIOD_START (R454): A PWM period starts; duties are formed and pattern engines step, start and stop. -/
  | lmpPeriodStart (t : Nat)
  /-- LAMP_DIAG_SAMPLE (R459): An open or short sample of LSENSE is taken; OPEN or SHORT may be set. -/
  | lampDiagSample (t l : Nat) (short high : Bool)
  /-- ENG_START (R456): A write of ENG_START starts a HOST-source pattern engine. -/
  | engStart (t : Nat) (r : Requester) (e : Nat)
  /-- PAIR_ENABLE_WRITE (R473): A write of PAIR.CTRL.ENABLE starts pair operation, or returns the device to SINGLE. -/
  | pairEnableWrite (t : Nat) (r : Requester) (d : Nat)
  /-- ARB (R474): An ARB frame from the partner is taken, and a PAIR_ID clash is detected. -/
  | arb (t id : Nat) (prefer : Bool) (health : Nat) (runs : Bool)
  /-- ARB_DONE (R474): After 100 µs of ARB exchange, the rules decide the roles. -/
  | arbDone (t : Nat)
  /-- ARB_WAIT_EXPIRE (R474): The pair bundle is not UP within ARB_WAIT; a SOLO device becomes ACTIVE. -/
  | arbWaitExpire (t : Nat)
  /-- ALIGN_SET (R476): An ALIGN_SET frame names the edge at which the standby aligns its time. -/
  | alignSet (t edge tdc sec ns frac incr tick : Nat)
  /-- ALIGN_EDGE_REACHED (R476): At the named REFCLK edge the standby takes the named times and sets TIME_ALIGNED. -/
  | alignEdgeReached (t : Nat)
  /-- HEARTBEAT_SEND (R472): Every 10 µs, or on a health change, a HEARTBEAT is sent. -/
  | heartbeatSend (t : Nat)
  /-- HEARTBEAT (R480): A received HEARTBEAT updates the partner's state, and may start a PARTNER_FAULT takeover. -/
  | heartbeat (t : Nat) (r : PairReport)
  /-- HB_LOST (R480): No HEARTBEAT arrives for 32 µs; the standby takes over and PAIR_LOST is latched. -/
  | hbLost (t : Nat)
  /-- ACTIVE_OUT_RAISE (R481): 100 ns after takeover the new active device raises ACTIVE_OUT. -/
  | activeOutRaise (t : Nat)
  /-- TAKEN (R481): A received TAKEN makes the old active device lower ACTIVE_OUT and become STANDBY. -/
  | taken (t cause frame : Nat)
  /-- STANDBY_HOLD_APPLY (R481): 10 µs after TAKEN, the old active device applies the STANDBY holds. -/
  | standbyHoldApply (t : Nat)
  /-- MIRROR (R478): A MIRROR frame replaces the standby's loop state if it arrives in time, or counts as late. -/
  | mirror (t : Nat) (m : LoopMirror)
  /-- TIME (R477): A TIME frame schedules an INCREMENT or step on the standby at the named edge. -/
  | time (t edge : Nat) (incr : Option Nat) (step : Option Int)
  /-- TILES (R479): A TILES frame supplies the partner's P3 tiles for comparison. -/
  | tiles (t frame : Nat) (tile : Option (Nat × Nat × Nat)) (ended stopped : Bool)
  /-- PLAN (R380): A PLAN frame gives the standby the active device's plan sets. -/
  | plan (t st held pending grant : Nat)
  /-- SWITCH (R485): A write of PAIR.SWITCH requests a takeover at the next frame boundary, or is refused. -/
  | switch (t : Nat) (r : Requester)
  /-- POR (R490): Power-on reset holds the device until 1 ms after the last rail is in tolerance. -/
  | por (t : Nat) (freqSel pairId : Bool)
  /-- RESET_PIN (R490): RESET_N held low resets the device. -/
  | resetPin (t : Nat)
  /-- GLB_SOFT_RESET (R490): A write of GLB.CTRL.SOFT_RESET resets the whole device. -/
  | glbSoftReset (t : Nat) (r : Requester)
  /-- RESET_RELEASE (R491): Reset is released and the SRAM wipe starts. -/
  | resetRelease (t : Nat)
  /-- WIPE_DONE (R491): The reset wipe completes; the device enters SLEEP, latches POWER_UP and opens SAFE_CONFIG. -/
  | wipeDone (t levels : Nat)
  /-- STATE_REQ_WRITE (R495): A write of PWR.STATE_REQ requests a power state, or is refused. -/
  | stateReqWrite (t : Nat) (r : Requester) (d : Nat)
  /-- STATE_ENTRY_DONE (R497): A power-state entry sequence completes and the state changes. -/
  | stateEntryDone (t : Nat)
  /-- LOCK_TIMEOUT (R497): A PLL does not lock within 4 ms and the entry fails back. -/
  | lockTimeout (t : Nat)
  /-- CLK_REQ_WRITE (R501): A write of PWR.CLK_REQ.VID starts or stops the display clock. -/
  | clkReqWrite (t : Nat) (r : Requester) (d : Nat)
  /-- VID_LOCK (R501): The video PLL locks and the timing generator may begin. -/
  | vidLock (t : Nat)
  /-- LC_KEY_WRITE (R506): A write of PWR.LC_KEY arms a life-cycle request. -/
  | lcKeyWrite (t : Nat) (r : Requester) (d : Nat)
  /-- LC_REQ_WRITE (R506): A write of PWR.LC_REQ performs a life-cycle transition, or is refused. -/
  | lcReqWrite (t : Nat) (r : Requester) (d : Nat)
  /-- LC_TRANSITION_DONE (R506): A life-cycle transition completes with a LIFECYCLE reset. -/
  | lcTransitionDone (t : Nat)
  /-- LREF_RETURN (R233): Edges return on a lane group's selected LREFCLK pins, the group's bit of WNB.LREF_STATUS is set again and its lanes retrain. -/
  | lrefReturn (t g : Nat)
  /-- CLK_PLL_UNLOCK (R508): A system, Vat, TKP, lane-reference or lane PLL loses lock while REFCLK is present in a state that requires it, setting the CLK event PLL_UNLOCK. -/
  | clkPllUnlock (t i : Nat)
  /-- CLK_PLL_LOCK (R69): A non-TDC PLL relocks after holdover, and once every PLL is locked emission permission from the REF cause may return. -/
  | clkPllLock (t i : Nat)
  /-- TIME_EDGE_APPLY (R477): At the REFCLK edge named in a TIME frame, the standby applies the INCREMENT or step that the frame carries. -/
  | timeEdgeApply (t : Nat)
  /-- RESERVED_LCW (R244): A link control word of reserved type 0x6 or 0x7 is received, ignored and counted in CRC_ERR. -/
  | reservedLcw (t b : Nat)
  /-- JTAG_INSTRUCTION (R504): A JTAG instruction is loaded and is accepted or refused by life-cycle state and power state. -/
  | jtagInstruction (t k : Nat)
  /-- LINK_POWER_ENTRY (R261): After a POWER ACK, both ends of a bundle enter L1 or L2 at their next ALIGN. -/
  | linkPowerEntry (t b : Nat)
  /-- L1_EXIT_DONE (R261): An L1 exit completes after 800 ns of IDLE sets and an ALIGN, and frames flow again in L0. -/
  | l1ExitDone (t b : Nat)
  deriving DecidableEq, Repr

end Sys2Proof
end

