-- ==== Sys2Proof/Decode.lean ====
section
/-!
DEFINITION. The words of the opcode table: the block has no instruction decoder, and no row of the table gives a word.
-/

namespace Sys2Proof

/-- The command that a word of the opcode table spells: the table gives no row a bit, so no word spells a command. -/
def decodeTableWord (_nbits _w : Nat) : Option Instr := none

end Sys2Proof
end

