-- ==== Sys2Proof/Config.lean ====
section
/-!
DEFINITION. What one device fixes, and the free values: values the spec leaves open, of which nothing can be proved.
-/

namespace Sys2Proof.Config

/-- The unique 64-bit die number of GLB.DIE_ID (20 R507): a value per die (log entry 14). -/
opaque dieId : BitVec 64

/-- A fresh value the spec leaves open, by the number of free values taken so far (log entry 3). -/
opaque freeValue : Nat → Nat

/-- The sign and payload of the NaN that a binary32 operation gives where the spec states no result (log entry 50). -/
opaque nanBits : BitVec 32

end Sys2Proof.Config
end

