-- ==== Sys2Proof/Machine/Regs.lean ====
section
/-!
DEFINITION. Bit fields of words, sparse data by key in one canonical form, and the shape of the register tables.
-/

namespace Sys2Proof.Machine

/-! ## Bit fields -/

/-- The field of `n` bits from bit `lo` of a word, as a number. -/
def fld (w : Word) (lo n : Nat) : Nat := (w.toNat >>> lo) % 2 ^ n

/-- The word with the field of `n` bits from bit `lo` set to `v` modulo 2^n. -/
def setFld (w : Word) (lo n v : Nat) : Word :=
  BitVec.ofNat 32 (((w.toNat >>> lo) >>> n <<< n ||| v % 2 ^ n) <<< lo ||| w.toNat % 2 ^ lo)

/-- The two's complement value of the low `n` bits of `v`. -/
def signed (n v : Nat) : Int :=
  if v % 2 ^ n < 2 ^ (n - 1) then (v % 2 ^ n : Nat) else (v % 2 ^ n : Nat) - (2 ^ n : Nat)

/-- The `n`-bit two's complement code of an integer, as a number. -/
def unsigned (n : Nat) (v : Int) : Nat := (v % (2 ^ n : Nat)).toNat

/-- The signed value of a whole word. -/
def sword (w : Word) : Int := signed 32 w.toNat

/-- The word of a number, modulo 2^32. -/
def word (v : Nat) : Word := BitVec.ofNat 32 v

/-- The word of an integer, modulo 2^32. -/
def iword (v : Int) : Word := BitVec.ofNat 32 (unsigned 32 v)

/-- Bit `i` of a word. -/
def bit (w : Word) (i : Nat) : Bool := w.toNat.testBit i

/-- A flag as a number. -/
def b2n (b : Bool) : Nat := if b then 1 else 0

/-! ## Sparse data by key

A list of (key, value) pairs with keys strictly rising and no value equal to the default of its key. -/

/-- The value at a key; the default where the key is not listed. -/
def pget {α : Type} (d : α) : List (Nat × α) → Nat → α
  | [], _ => d
  | (k, v) :: r, a => if k < a then pget d r a else if k = a then v else d

/-- The list with the value at a key set; a default value is not listed. -/
def pset {α : Type} [DecidableEq α] (d : α) : List (Nat × α) → Nat → α → List (Nat × α)
  | [], a, v => if v = d then [] else [(a, v)]
  | (k, w) :: r, a, v =>
    if k < a then (k, w) :: pset d r a v
    else if k = a then (if v = d then r.dropWhile (fun p => p.1 ≤ a) else (a, v) :: r)
    else if v = d then (k, w) :: r else (a, v) :: (k, w) :: r

/-- The canonical form: keys strictly rising, no listed value equal to the default. -/
def pwf {α : Type} [DecidableEq α] (d : α) : List (Nat × α) → Bool
  | [] => true
  | [(_, v)] => v ≠ d
  | (k, v) :: (k', v') :: r => (v ≠ d) && (k < k') && pwf d ((k', v') :: r)

/-! ## Register tables -/

/-- The access codes of spec/00, with `cnt` for an event counter's whole-word clear (02 R58). -/
inductive Acc where
  | rw | rws | ro | rol | w1c | w1s | wo | cnt
  deriving DecidableEq, Repr

/-- One field of a register: lowest bit, width, access, reserved encodings as ranges, protected by LOCK. -/
structure FieldRow where
  lo   : Nat
  len  : Nat
  acc  : Acc
  bad  : List (Nat × Nat)
  prot : Bool
  deriving DecidableEq, Repr

/-- One register: offset, array length in words, reset value by block or instance number, fields. -/
structure RegRow where
  off    : Nat
  len    : Nat
  reset  : Nat → Nat
  fields : List FieldRow

/-- A repeated block of registers within a page: offset, stride, count, registers. -/
structure BlkRow where
  off    : Nat
  stride : Nat
  count  : Nat
  rows   : List RegRow

/-- The register clocks of 02 R34. -/
inductive Dom where
  | aon | sys | tdc | vat | prs | lg | ctl | eth | tkp | vid | hka | lmp | chan
  deriving DecidableEq, Repr

/-- A page or a region of 02 R34: base, distance between instances, instances, size, clock, registers, blocks. -/
structure PageRow where
  base   : Nat
  stride : Nat
  count  : Nat
  size   : Nat
  dom    : Dom
  rows   : List RegRow
  blks   : List BlkRow

/-- Where a register lies: its page's base address and instance, its register clock, its table row, and the block (or
instance) number and array index it stands at. -/
structure RegLoc where
  pbase : Nat
  inst  : Nat
  dom   : Dom
  row   : RegRow
  idx   : Nat
  arr   : Nat

/-- The common page header (02 R38) of a page with this block code, PAGE_CAPS, CTRL and STATUS rows and event bits. -/
def header (code : Nat) (caps : Nat → Nat) (ctrl status : RegRow) (evt : List (Nat × Nat)) : List RegRow :=
  [⟨0x000, 1, fun i => code * 2 ^ 16 + i * 2 ^ 8 + 1, [⟨0, 32, .ro, [], false⟩]⟩,
   ⟨0x004, 1, caps, [⟨0, 32, .ro, [], false⟩]⟩,
   ctrl, status,
   ⟨0x010, 1, fun _ => 0, evt.map fun e => ⟨e.1, e.2, .w1c, [], false⟩⟩,
   ⟨0x014, 1, fun _ => 0, evt.map fun e => ⟨e.1, e.2, .rw, [], false⟩⟩,
   ⟨0x018, 1, fun _ => 0, evt.map fun e => ⟨e.1, e.2, .ro, [], false⟩⟩,
   ⟨0x01C, 1, fun _ => 0, evt.map fun e => ⟨e.1, e.2, .w1s, [], false⟩⟩,
   ⟨0x020, 1, fun _ => 0, [⟨0, 1, .w1s, [], false⟩, ⟨1, 3, .rw, [(6, 7)], false⟩]⟩,
   ⟨0x024, 1, fun _ => 0, [⟨0, 16, .ro, [], false⟩, ⟨16, 4, .ro, [], false⟩]⟩,
   ⟨0x028, 1, fun _ => 0, [⟨0, 8, .ro, [], false⟩, ⟨8, 12, .ro, [], false⟩, ⟨30, 1, .ro, [], false⟩,
     ⟨31, 1, .wo, [], false⟩]⟩,
   ⟨0x02C, 1, fun _ => 0, [⟨0, 16, .wo, [], false⟩, ⟨31, 1, .ro, [], false⟩]⟩]

/-- The row that covers an offset, with the array index. -/
def findRow (rows : List RegRow) (off : Nat) : Option (RegRow × Nat) :=
  match rows with
  | [] => none
  | r :: rs => if r.off ≤ off ∧ off < r.off + 4 * r.len then some (r, (off - r.off) / 4) else findRow rs off

/-- The register of the first block that has one at an offset, with the block number. -/
def findBlk (blks : List BlkRow) (off : Nat) : Option (RegRow × Nat × Nat) :=
  match blks with
  | [] => none
  | b :: bs =>
    if b.off ≤ off ∧ off < b.off + b.stride * b.count then
      match findRow b.rows ((off - b.off) % b.stride) with
      | some (r, k) => some (r, (off - b.off) / b.stride, k)
      | none => findBlk bs off
    else findBlk bs off

/-- Whether an address lies in an instance of a page. -/
def inPage (p : PageRow) (a : Nat) : Bool :=
  p.base ≤ a &&
    (if p.stride = 0 then a < p.base + p.size
     else a < p.base + p.stride * p.count && (a - p.base) % p.stride < p.size)

/-- The instance of a page that an address lies in. -/
def instOf (p : PageRow) (a : Nat) : Nat := if p.stride = 0 then 0 else (a - p.base) / p.stride

/-- The register at an address of one page. -/
def locateIn (p : PageRow) (a : Nat) : Option RegLoc :=
  let i := instOf p a
  let pb := p.base + p.stride * i
  match findRow p.rows (a - pb) with
  | some (r, k) => some ⟨pb, i, p.dom, r, i, k⟩
  | none =>
    match findBlk p.blks (a - pb) with
    | some (r, b, k) => some ⟨pb, i, p.dom, r, b, k⟩
    | none => none

/-- The page an address lies in, of a list of pages. -/
def pageIn (ps : List PageRow) (a : Nat) : Option PageRow :=
  match ps with
  | [] => none
  | p :: r => if inPage p a then some p else pageIn r a

/-- The register at an address, of a list of pages. -/
def locate (ps : List PageRow) (a : Nat) : Option RegLoc :=
  match pageIn ps a with
  | some p => locateIn p a
  | none => none

/-- The reset value of a located register. -/
def resetOf (l : Option RegLoc) : Word :=
  match l with
  | some l => BitVec.ofNat 32 (l.row.reset l.idx)
  | none => 0#32

/-- Byte `i` of a word. -/
def wbyte (w : Word) (i : Nat) : Byte := BitVec.ofNat 8 (w.toNat >>> (8 * i))

end Sys2Proof.Machine
end

