-- ==== Sys2Proof/Machine/Num.lean ====
section
/-!
DEFINITION. Exact arithmetic: rounding, square roots, sines and cosines in fixed point; CRC-32.
-/

namespace Sys2Proof.Machine

/-- A quotient rounded to the nearest integer, half away from zero (00, after R9). -/
def rnd (a : Int) (b : Nat) : Int :=
  if 0 ≤ a then (2 * a + b) / (2 * b : Nat) else -((2 * -a + b) / (2 * b : Nat))

/-- A natural quotient rounded to the nearest, half up. -/
def rndN (a b : Nat) : Nat := (2 * a + b) / (2 * b)

/-- An integer limited to a range. -/
def clampI (v lo hi : Int) : Int := if v < lo then lo else if hi < v then hi else v

/-- A number limited to 48-bit two's complement (10 R278). -/
def sat48 (v : Int) : Int := clampI v (-(2 ^ 47)) (2 ^ 47 - 1)

/-- The integer square root, by bits from bit `n` down. -/
def isqrtBits (v : Nat) : Nat → Nat → Nat
  | 0, r => r
  | n + 1, r => isqrtBits v n (if (r + 2 ^ n) * (r + 2 ^ n) ≤ v then r + 2 ^ n else r)

/-- The integer square root of a number below 2^256. -/
def isqrt (v : Nat) : Nat := isqrtBits v 128 0

/-- π × 2^64. -/
def pi64 : Nat := 57952155664616982739

/-- The Taylor sum of sine and cosine in units of 2^-64: the term and the next order go down to nothing. -/
def taylor (x2 : Nat) : Nat → Nat → Nat → Int
  | 0, _, _ => 0
  | n + 1, term, k =>
    (term : Int) - taylor x2 n (term * x2 / 2 ^ 64 / (k * (k + 1))) (k + 2)

/-- The sine of an angle of `u` × 2^-16 turn in the first quarter, in units of 2^-64. -/
def sinQ (u : Nat) : Int :=
  let x := 2 * pi64 * u / 2 ^ 16
  taylor (x * x / 2 ^ 64) 20 x 2

/-- The sine of `u` × 2^-16 turn, in units of 2^-64. -/
def sinT (u : Nat) : Int :=
  let u := u % 65536
  if u ≤ 16384 then sinQ u
  else if u ≤ 32768 then sinQ (32768 - u)
  else if u ≤ 49152 then -(sinQ (u - 32768))
  else -(sinQ (65536 - u))

/-- The cosine of `u` × 2^-16 turn, in units of 2^-64. -/
def cosT (u : Nat) : Int := sinT (u + 16384)

/-- √3 × 2^64. -/
def root3 : Nat := 31950697969885030203

/-- One byte more of a CRC-32 of the IEEE 802.3 polynomial, bits reflected (09 R246). -/
def crcByte (c b : Nat) : Nat :=
  (List.range 8).foldl (fun c _ => if c % 2 = 1 then c / 2 ^^^ 0xEDB88320 else c / 2) (c ^^^ b)

/-- The CRC-32 of a list of bytes (09 R246). -/
def crc32 (l : List Nat) : Nat := l.foldl crcByte 0xFFFFFFFF ^^^ 0xFFFFFFFF

/-- The bytes of words, each little-endian. -/
def wordBytes (l : List Word) : List Nat := l.flatMap fun w => (List.range 4).map fun i => (wbyte w i).toNat

end Sys2Proof.Machine
end

