-- ==== Sys2Proof/Machine/Parts.lean ====
section
/-!
DEFINITION. The parts of the state that belong to the register bus, the interrupt page, the clocks and the power states.
-/

namespace Sys2Proof.Machine

/-- A commit that is pending on a page (02 R42, R43). -/
structure Commit where
  /-- The base address of the page. -/
  page   : Nat
  point  : Point
  /-- The instant at which the COMMIT write completed. -/
  since  : Nat
  /-- The commit waits for a frame boundary beyond its commit point (01 R29, 04 R103, 06 R155). -/
  frame  : Bool
  /-- The commit waits for a plan-epoch boundary beyond its commit point (01 R28, MEMBERSHIP). -/
  epoch  : Bool
  /-- The commit point of the page has occurred. -/
  passed : Bool
  deriving DecidableEq, Repr

/-- An access that has released the register bus and waits for memory (02 R49). -/
structure SlowAccess where
  who   : Requester
  write : Bool
  addr  : Nat
  data  : Word
  deriving DecidableEq, Repr

/-- The MSPI transaction in progress or last made (02 R51): a write, its words posted, or a read with words to come. -/
structure Mspi where
  read  : Bool
  /-- The address of the next word to read. -/
  addr  : Nat
  /-- Words still to read. -/
  left  : Nat
  /-- Words this WRITE transaction has posted and not yet completed. -/
  open_ : Nat
  /-- An access of this transaction recorded an error. -/
  err   : Bool
  /-- The wait bytes before each word still to read. -/
  waits : List Nat
  /-- The bytes driven on MSPI_MISO. -/
  miso  : List Byte
  deriving DecidableEq, Repr

/-- The register bus: what R49 to R52 hold per requester. -/
structure Bus where
  /-- Higher words of wide values, latched per requester (02 R50). -/
  latched  : List (Requester × Nat × Word)
  /-- Lower words of wide values, held per requester until the highest is written (02 R50). -/
  lower    : List (Requester × Nat × Word)
  mspi     : Mspi
  /-- Posted MSPI writes, in order (02 R51). -/
  posted   : List (Nat × Word)
  slow     : List SlowAccess
  /-- The word of the last completed register read. -/
  lastRead : Word
  /-- The error code of the last completed access, 0 for none. -/
  lastErr  : Nat
  deriving DecidableEq, Repr

/-- EVENT frames (02 R57): whether a holdoff runs, until when, and whether a frame is owed at its end. -/
structure Irq where
  holding : Bool
  endAt   : Nat
  owed    : Bool
  deriving DecidableEq, Repr

/-- The states among which a power transition passes (20 R493, R495). -/
inductive PState where
  | sleep | timekeep | ready | run
  deriving DecidableEq, Repr

/-- The power and life-cycle state that no register holds (20 R490 to R506). -/
structure Pwr where
  /-- A transition among SLEEP, TIMEKEEP and READY: the states it leaves and enters. -/
  trans   : Option (PState × PState)
  /-- The instant at which the transition was accepted. -/
  since   : Nat
  /-- The straps REF_FREQ_SEL and PAIR_ID, latched at POR. -/
  freqSel : Bool
  pairId  : Bool
  /-- The fuses: the life-cycle state 1 to 4 and the entries to SERVICE that remain. -/
  lcState : Nat
  lcLeft  : Nat
  /-- The fuses mark a transition to this state as begun (20 R506). -/
  lcBegun : Option Nat
  /-- LC_KEY was written correctly and the next access to the page may be the request. -/
  lcArmed : Bool
  /-- The power partitions: the SRAM is powered. -/
  sramOn  : Bool
  /-- The instruction register of the JTAG port (20 R504); `none` for an instruction that was refused. -/
  jtag    : Option Nat
  deriving DecidableEq, Repr

/-- The clock state that no register holds (03 R65 to R72). -/
structure Clk where
  /-- The quadrants whose PLL has left holdover or lost lock and whose hits are discarded (03 R69, R72). -/
  discard   : List Nat
  /-- The instant at which a quadrant's PLL last locked, by quadrant. -/
  lockedAt  : List (Nat × Nat)
  /-- The instant at which the filtered OCXO_WARM last went high (03 R65). -/
  warmSince : Nat
  /-- The instant at which holdover began. -/
  heldSince : Nat
  /-- Holdover has passed 10 ms, so the frequency is held within 2,000 ppm only (03 R68). -/
  wide      : Bool
  /-- Emission permission is withdrawn by the loss of REFCLK (03 R68, R69). -/
  noPermit  : Bool
  deriving DecidableEq, Repr

end Sys2Proof.Machine
end

