-- ==== Sys2Proof/Machine/PartsShot.lean ====
section
/-!
DEFINITION. The parts of the state on the path of a shot: time capture, monitors, the Escapement and the Vat.
-/

namespace Sys2Proof.Machine

/-! ## Time capture (chapter 03) -/

/-- A captured hit (03 R77 to R80). -/
structure Hit where
  /-- TDC time of the leading edge, after the interpolator table and the delay trim. -/
  time   : Nat
  /-- The raw interpolator code of the leading edge (R80). -/
  raw    : Nat
  /-- The shot it belongs to; `none` in FREE_RUN capture. -/
  shot   : Option Nat
  /-- Order of the leading edge within its shot. -/
  index  : Nat
  /-- TDC time of the last trailing edge; `none` while the comparator is active. -/
  trail  : Option Nat
  high   : Bool
  settling : Bool
  provisional : Bool
  gap    : Bool
  noTrail : Bool
  dark   : Bool
  /-- INTERP_BYPASS at the leading edge: FINE carries the raw code (R80). -/
  bypass : Bool
  deriving DecidableEq, Repr

/-- What a hit channel holds beside its registers. -/
structure Chan where
  /-- The hit whose trailing edge is awaited, or that is complete and not yet in the FIFO. -/
  cur    : Option Hit
  /-- The present pulse belongs to `cur`. -/
  live   : Bool
  /-- Complete hits that have not entered the FIFO, oldest first. -/
  done   : List Hit
  fifo   : List Hit
  /-- The next accepted hit carries FIFO_GAP (R85). -/
  gapDue : Bool
  /-- The end of the settling interval, 0 for none (R75). -/
  settle : Nat
  /-- The last leading edge that began a hit, 0 for none. -/
  lead   : Nat
  /-- The shot whose hits are counted, and how many (R82). -/
  shot   : Nat
  count  : Nat
  deriving DecidableEq, Repr

/-- A channel that holds nothing. -/
def Chan.empty : Chan := ⟨none, false, [], [], false, 0, 0, 0, 0⟩

/-- A hit with the time of R88, on its way to the rennet stage or the Vat. -/
structure HitTime where
  chan   : Nat
  shot   : Nat
  /-- t = stop − start − d, in LSB. -/
  t      : Int
  /-- TDC time of the leading edge. -/
  time   : Nat
  /-- The width code of the hit word. -/
  width  : Nat
  noTrail : Bool
  high   : Bool
  dark   : Bool
  settling : Bool
  provisional : Bool
  subst  : Bool
  deriving DecidableEq, Repr

/-- A hit in the rennet stage of its bank (06 R152 to R154), kept until no later hit can have it for a neighbour. -/
structure RennetHit where
  hit    : HitTime
  /-- RN_CTRL as it stood at entry. -/
  ctrl   : Word
  /-- The hit passes without judgement: SETTLING, or a stage that was off at its entry. -/
  pass   : Bool
  /-- The hit is counted as curd or whey: no SOFT_RESET since its entry. -/
  count  : Bool
  judged : Bool
  deriving DecidableEq, Repr

/-- The time-capture state (chapter 03). -/
structure Tdc where
  chans  : List (Nat × Chan)
  /-- The channel last served on each bank path (R83). -/
  served : List (Nat × Nat)
  /-- Hits that have left their FIFO and wait for their start (R88). -/
  waiting : List (Nat × Hit)
  /-- The instant until which a start channel's edges are not used, 0 for none (R87). -/
  stSettle : List (Nat × Nat)
  /-- The rennet stages by bank, in order of arrival (06 R152). -/
  rennet : List (Nat × List RennetHit)
  deriving DecidableEq, Repr

/-- The live state of a statistics unit: a TDU (03 R90) or a performance monitor (02 R60). -/
structure Stat where
  count : Nat
  sum   : Int
  lo    : Int
  hi    : Int
  hist  : List (Nat × Nat)
  /-- The last event of source B of a TDU. -/
  lastB : Option Nat
  /-- The instant at which the run began. -/
  since : Nat
  deriving DecidableEq, Repr

/-- A cleared statistics unit. -/
def Stat.empty : Stat := ⟨0, 0, 0x7FFFFFFF, -0x80000000, [], none, 0⟩

/-- A frequency counter (03 R92 to R94). -/
structure Fc where
  /-- A measurement is asked for; since when it waits for its first edge. -/
  armed : Option Nat
  /-- The gate is open since. -/
  open' : Option Nat
  deriving DecidableEq, Repr

/-- The FCT page's units. -/
structure Fct where
  tdu : List (Nat × Stat)
  fc  : List (Nat × Fc)
  deriving DecidableEq, Repr

/-! ## The Escapement (chapter 04) -/

/-- A sweep: one facet's schedule, or one STARE frame's (R107, R109). -/
structure Sweep where
  /-- The registered index edge, or the frame boundary in STARE, in LSB. -/
  origin : Nat
  /-- The predicted facet period in LSB with a 16-bit fraction. -/
  period : Nat
  stare  : Bool
  /-- The instant from which shots are cut: the next edge's or boundary's guard (R108, R109). -/
  limit  : Nat
  /-- The instant at which the next index edge or frame boundary occurred. -/
  next   : Option Nat
  il     : Nat
  facet  : Nat
  phys   : Nat
  frame  : Nat
  /-- Columns to schedule. -/
  columns : Nat
  /-- Scheduling has stopped: the sweep ends with the column in progress (R116). -/
  ends   : Bool
  deriving DecidableEq, Repr

/-- The values of a laser group that a column uses throughout (R103, 05 R148). -/
structure GroupCfg where
  pos    : Nat
  start  : Nat
  ltrig  : Nat
  first  : Nat
  count  : Nat
  /-- LG_CTRL.WIDTH. -/
  width  : Nat
  period : Nat
  winStart : Nat
  winLen : Nat
  /-- DARK_LEN while DARK_EN is 1, else 0. -/
  dark   : Nat
  guard  : Nat
  span   : Nat
  bank   : Nat
  /-- The interlace shift and the facet trim of the column's sweep together, STARE_FIRST and STARE_COL_NS. -/
  shift  : Int
  stareFirst : Nat
  stareCol : Nat
  /-- The dwell S and the coarse shots C. -/
  s      : Nat
  c      : Nat
  /-- log2 of the coarse bins, coarse width, coarse origin. -/
  ncLog  : Nat
  kc     : Nat
  origin : Int
  /-- log2 of the zoom bins, zoom width, PEAKS, ZOOM_MIN. -/
  nzLog  : Nat
  kz     : Nat
  peaks  : Nat
  zoomMin : Nat
  retCoarse : Bool
  p4Coarse : Bool
  p4Zoom : Bool
  deriving DecidableEq, Repr

/-- The schedule of a laser group: its sweeps, oldest first, and the next shot of the first. -/
structure GroupRun where
  sweeps : List Sweep
  col    : Nat
  shot   : Nat
  /-- The values of the column in progress. -/
  cfg    : Option GroupCfg
  /-- The dither sequence (R111), and that of the frame before while its last shots are cut (R109, R112). -/
  lfsr   : Nat
  prev   : Nat
  deriving DecidableEq, Repr

/-- A group with no schedule. -/
def GroupRun.empty : GroupRun := ⟨[], 0, 0, none, 0, 0⟩

/-- The FRAME pulses of an output that are still to begin: the instant of the next, how many, their period and width in ns
(R117). -/
structure Burst where
  out    : Nat
  start  : Nat
  left   : Nat
  period : Nat
  width  : Nat
  deriving DecidableEq, Repr

/-- A shot from its start to the close of its windows. -/
structure Shot where
  id     : Nat
  group  : Nat
  cfg    : GroupCfg
  /-- Column, shot within the dwell, interlace position, frame. -/
  col    : Nat
  j      : Nat
  il     : Nat
  frame  : Nat
  /-- The undithered instant and the dither in ns. -/
  start  : Nat
  d      : Nat
  /-- The commanded edge has been issued. -/
  issued : Bool
  /-- The shot was withheld after its start. -/
  dropped : Bool
  /-- The close of the start window. -/
  winEnd : Nat
  /-- The measured or substituted start, once resolved (03 R87). -/
  found  : Option Int
  subst  : Bool
  closed : Bool
  rangeOpen : Bool
  rangeDone : Bool
  darkOpen : Bool
  darkDone : Bool
  /-- PROVISIONAL at the shot. -/
  provisional : Bool
  /-- The emission-budget sector of the shot start (12 R324). -/
  sector : Nat
  deriving DecidableEq, Repr

/-- The Escapement. -/
structure Esc where
  /-- Columns may be scheduled: resumed at a frame boundary (R116). -/
  active : Bool
  /-- MASK_STOP acts until the host re-arms. -/
  masked : Bool
  runs   : List (Nat × GroupRun)
  shots  : List Shot
  nextId : Nat
  /-- The column banks: entry index + 4096 × bank. -/
  table  : List (Nat × Word)
  /-- A SOFT_RESET waits for the columns in progress (R120). -/
  resetDue : Bool
  /-- The rising edge and the end of the last pulse of each LTRIG output (R101). -/
  ltrigs : List (Nat × Nat × Nat)
  /-- The ends of the TOUT pulses in progress, and pulses still to begin. -/
  pulses : List (Nat × Nat)
  bursts : List Burst
  /-- TOUT_CTRL in force, the predicted next frame boundary, and the outputs whose pulses of that boundary are placed
  (R117). -/
  toutCtl : List (Nat × Word)
  toutNext : Nat
  toutDone : List Nat
  /-- The facet of the frame in progress, counted from its boundary. -/
  facet  : Nat
  deriving DecidableEq, Repr

/-! ## The Vat (chapter 05) -/

/-- The return-extraction values of a pixel, fixed at its column start (06 R163, R165, R178; 17 R448). -/
structure RetCfg where
  /-- RLG_CTRL, RLG_BG_MIN, RLG_ZERO, RLG_PART, RLG_PART_SPAN, NG, WALK_LIMIT. -/
  ctrl   : Word
  bgMin  : Nat
  zero   : Int
  part   : Word
  span   : Nat
  ng     : Nat
  limit  : Nat
  /-- The bank's WCLASS, and whether it is a PULSE bank. -/
  wclass : Nat
  pulse  : Bool
  /-- T, binary32. -/
  temp   : Word
  /-- ch_offset_q, and the bank's walk coefficients with WMIN and WMAX. -/
  offset : Int
  walk   : List Word
  /-- FG_DECOY and FG_CTRL. -/
  decoy  : Word
  fg     : Word
  deriving DecidableEq, Repr

/-- A pixel's description, fixed at its column start. -/
structure PixelId where
  group  : Nat
  chan   : Nat
  col    : Nat
  il     : Nat
  frame  : Nat
  cfg    : GroupCfg
  /-- TDC time of the column's first shot. -/
  at'    : Nat
  ret    : RetCfg
  /-- The regions it belongs to with their products; bit 5 where RETAIN sends its contexts to the ring (07 R188, R198). -/
  regs   : List (Nat × Nat)
  /-- The regions whose first channel of the group it is: they count its withheld shots (07 R187). -/
  whole  : List Nat
  /-- P1_SEL and DSCALE. -/
  sel    : Nat
  scale  : Nat
  deriving DecidableEq, Repr

/-- An item of a channel's path to its engine: a marker or a hit time (05 R129). -/
inductive VatItem where
  | column (p : PixelId)
  /-- A fired or withheld marker with its dark length in ns, PROVISIONAL, and whether its start was substituted. -/
  | shot (id : Nat) (fired : Bool) (darkNs : Nat) (provisional : Bool) (subst : Bool)
  | hit (h : HitTime)
  | boundary (after : Nat)
  /-- The pixel end, with the instant at which the last shot's range window closed, and the instant until which the filtered
  OCXO_WARM was low at that time (03 R66). -/
  | pixelEnd (after : Nat) (closed : Nat) (low : Nat)
  deriving DecidableEq, Repr

/-- An octant of a context's width store (06 R161). -/
structure Oct where
  hits   : Nat
  highs  : Nat
  wsum   : Nat
  wcount : Nat
  deriving DecidableEq, Repr

/-- A context: its header of eight words (05 R126), its bins, its bank blocks, its width store by octant. -/
structure Ctx where
  hdr    : List Word
  bins   : List (Nat × Nat)
  blocks : List Nat
  oct    : List (Nat × Oct)
  deriving DecidableEq, Repr

/-- The phase of the pixel a channel accumulates. -/
inductive Phase where
  | coarse | search | zoom
  deriving DecidableEq, Repr

/-- The pixel a channel accumulates, from its column start to its pixel end. -/
structure Pixel where
  id     : PixelId
  /-- The pixel was refused (05 R143), or there is no context for it. -/
  refused : Bool
  phase  : Phase
  /-- The slots of the coarse and zoom contexts that are open or kept; the zooms in increasing origin. -/
  coarse : Option Nat
  zooms  : List Nat
  /-- Zoom contexts reserved and not yet open. -/
  reserved : Nat
  fired  : Nat
  scheduled : Nat
  /-- Hit times and shot markers that wait for the zoom contexts (05 R138). -/
  hold   : List VatItem
  /-- Flags of the pixel's shots and hits, whatever becomes of its contexts. -/
  settling : Bool
  provisional : Bool
  subst  : Bool
  noPeak : Bool
  /-- Coarse-phase shots fired, from the boundary on (06 R156), and the instant at which the search began (05 R137). -/
  coarseFired : Nat
  searchAt : Nat
  /-- The decoy sum, the decoy bins, and the coarse background in 1/256 count, from the search (06 R167). -/
  decoy  : Option (Nat × Nat × Nat)
  deriving DecidableEq, Repr

/-- A candidate return of a context (06 R158 to R164). -/
structure Cand where
  /-- The context is the coarse one. -/
  coarse : Bool
  k      : Nat
  /-- The context's FIRED, b and the net peak A in 1/256 count; A_s as numerator and denominator in 1/256 count. -/
  fired  : Nat
  b      : Nat
  a      : Nat
  ampN   : Nat
  ampD   : Nat
  /-- The time of the peak in 1/256 LSB. -/
  qRet   : Int
  /-- The edges of the return window in LSB. -/
  winLo  : Int
  winHi  : Int
  /-- W_m rounded, and whether the high fraction is below 1/2. -/
  wm     : Nat
  low    : Bool
  /-- INTENSITY, and the width at half maximum in LSB. -/
  inten  : Nat
  half   : Nat
  snr    : Nat
  q      : Int
  range  : Nat
  walkClamp : Bool
  rangeClamp : Bool
  fallback : Bool
  /-- 1 SURFACE, 2 PARTICULATE, 3 FOREIGN. -/
  cls    : Nat
  deriving DecidableEq, Repr

/-- A pixel that has ended and whose contexts wait for close. -/
structure Closing where
  pixel  : Pixel
  /-- The slots still to close, in KIND order, and those closed. -/
  todo   : List Nat
  done   : List Nat
  /-- The close of the last shot's range window. -/
  closed : Nat
  /-- The candidates of the contexts closed so far, and the background of the first, in 1/256 count. -/
  cands  : List Cand
  bg     : Option Nat
  /-- A context had more runs than candidates are kept of; one closed with SAT. -/
  excess : Bool
  sat    : Bool
  deriving DecidableEq, Repr

/-- A HELD context (05 R141): its slot, its pixel, since when, the queues that have taken it, and whether its copy to the
retention ring is due. -/
structure HeldCtx where
  slot   : Nat
  pixel  : PixelId
  since  : Nat
  taken  : List Nat
  ring   : Bool
  deriving DecidableEq, Repr

/-- One engine beside its registers. -/
structure Engine where
  slots  : List (Nat × Option Ctx)
  closing : List Closing
  /-- HELD contexts in the order of readout. -/
  held   : List HeldCtx
  deriving DecidableEq, Repr

/-- An engine that holds nothing. -/
def Engine.empty : Engine := ⟨[], [], []⟩

/-- The Vat: engines, the paths to them by channel, and the pixels in progress by channel. -/
structure Vat where
  engines : List (Nat × Engine)
  paths   : List (Nat × List VatItem)
  pixels  : List (Nat × Option Pixel)
  deriving DecidableEq, Repr

end Sys2Proof.Machine
end

