-- ==== Sys2Proof/Machine/PartsFlow.lean ====
section
/-!
DEFINITION. The parts of the state behind the Vat: frames, triggers, retention, masks, stream queues, the Press and the
preview's source buffers (chapters 07, 08 and 15).
-/

namespace Sys2Proof.Machine

/-! ## Records (07 R184 to R192) -/

/-- A record on its way from the acquisition block to its queues. -/
structure Rec where
  /-- TYPE of the tag word. -/
  typ    : Nat
  frame  : Nat
  /-- The column position it belongs to; 0 for a head, 0xFFFFFF for an end. -/
  pos    : Nat
  words  : List Word
  /-- A record of the retention ring: the offset it is read from; `words` is empty (R200). -/
  ring   : Option Nat
  /-- The record belongs to a sequence (R200). -/
  seq    : Bool
  /-- The instant at which it was formed (R192). -/
  at'    : Nat
  /-- Engines and closes of the last range window, for SOURCE 0x021. -/
  lat    : List (Nat × Nat)
  /-- Queues that have taken it, for a record of the ring. -/
  taken  : List Nat
  deriving DecidableEq, Repr

/-- A closed pixel, as the reductions take it (07 R189, R190). -/
structure PixOut where
  chan   : Nat
  /-- Image row. -/
  row    : Nat
  regs   : List (Nat × Nat)
  recs   : List (List Word)
  p1     : Nat
  p2     : Nat
  /-- The close of its last range window. -/
  closed : Nat
  deriving DecidableEq, Repr

/-- A P3 tile in assembly (07 R191). -/
structure TileAcc where
  valid  : Nat
  empty  : Nat
  dmin   : Nat
  dmax   : Nat
  dsum   : Nat
  isum   : Nat
  flagged : Nat
  marked : Nat
  deriving DecidableEq, Repr

/-- What a frame's FRAME_END counts for a region (07 R187). -/
structure RegCount where
  pixels : Nat
  withheld : Nat
  noCtx  : Nat
  p4Drop : Nat
  deriving DecidableEq, Repr

/-- A trigger's mark that waits for its position (07 R197). -/
structure Mark where
  frame  : Nat
  pos    : Nat
  words  : List Word
  deriving DecidableEq, Repr

/-- A frame from its boundary to its FRAME_END. -/
structure Frame where
  num    : Nat
  at'    : Nat
  /-- Active streams: 8 × region + product. -/
  streams : List Nat
  /-- Interlace positions and columns, and the ordinal of its first position. -/
  il     : Nat
  columns : Nat
  base   : Nat
  /-- Closed pixels by position whose slices have not been emitted. -/
  slices : List (Nat × List PixOut)
  /-- P3 tiles not complete, by 2^32 × region + TILE; complete ones by position, with their words. -/
  tiles  : List (Nat × Option TileAcc)
  ready  : List (Nat × Nat × List Word)
  /-- Mask tiles not judged: 2^16 × row + column, violating pixels. -/
  masks  : List (Nat × Nat)
  viol   : Nat
  violated : Bool
  counts : List (Nat × RegCount)
  short  : Bool
  lastPos : Nat
  p4loss : Bool
  takeover : Bool
  stopped : Bool
  /-- The next boundary has occurred, or scheduling has stopped: no further column starts. -/
  over'  : Bool
  /-- FRAME_END has been formed; contexts of the frame are still held. -/
  ended  : Bool
  provisional : Bool
  /-- Its sweeps, in order. -/
  sweeps : List Sweep
  /-- FRAME_HEADs by stream that wait for the end of the frame before it. -/
  heads  : List (Nat × List Word)
  /-- A SOFT_RESET ends it at once, whatever pixels are in flight (07 R187, R207). -/
  atOnce : Bool
  deriving DecidableEq, Repr

/-! ## Triggers and retention (07 R193 to R202) -/

/-- A trigger event that waits for its position: source bits, instant, forced, position of a mask tile. -/
structure TrigEvent where
  src    : Nat
  at'    : Nat
  forced : Bool
  mask   : Option (Nat × Nat)
  deriving DecidableEq, Repr

/-- A record held in the ring. -/
structure RingEnt where
  off    : Nat
  len    : Nat
  typ    : Nat
  frame  : Nat
  pos    : Nat
  /-- The ordinal of its position. -/
  ord    : Nat
  /-- Regions of a P4_CTX record as bits, or of a FRAME_HEAD. -/
  regs   : Nat
  deriving DecidableEq, Repr

/-- A retention sequence (07 R200, R201). -/
structure Seq where
  num    : Nat
  frame  : Nat
  pos    : Nat
  preReq : Nat
  preCount : Nat
  post   : Nat
  short  : Bool
  /-- Ordinals of its first position, of p, and of its last. -/
  first  : Nat
  ord    : Nat
  last   : Nat
  holdoff : Nat
  /-- The last position delivered to the streams, its ordinal plus one (0 for none), and its frame and POS. -/
  done   : Nat
  lastPos : Nat
  trunc  : Nat
  stopped : Bool
  lost   : Nat
  /-- SEQ_END has been placed. -/
  closed : Bool
  /-- Marks by ordinal that its stream has not had, and the ordinal plus one up to which FRAME_HEADs have been placed. -/
  marks  : List (Nat × List Word)
  headed : Nat
  deriving DecidableEq, Repr

/-- The acquisition block (chapter 07). -/
structure Acq where
  /-- F of FREE: the first frame boundary since ENABLE took effect (R180). -/
  anchor : Option Nat
  /-- The last accepted genlock edge, and the last measured period in LSB, 0 for none. -/
  glEdge : Option Nat
  glPeriod : Nat
  /-- Records held by stream, in order. -/
  streams : List (Nat × List Rec)
  /-- Frames in flight, oldest first; the ordinal of the next frame's first position; the last frame number. -/
  frames : List Frame
  ordNext : Nat
  numbered : Option Nat
  /-- Trigger events not resolved, marks that wait, triggers since ENABLE was set. -/
  events : List TrigEvent
  marks  : List Mark
  trigNum : Nat
  /-- Marks made, by ordinal, the newest last: for events at the same position, and for the pre part of a later sequence
  (R194, R200). -/
  marked : List (Nat × Mark)
  /-- Ordinals of the contexts of retained regions that were lost (R202), and the ordinal below which a truncated sequence has no
  further context selected, 0 for none (R201). -/
  losses : List Nat
  cut    : Nat
  /-- The start of the auto timer, none while it does not run (R196). -/
  auto'  : Option Nat
  /-- The pulses driven on trigger-bus lines: the line, and when its receiver is ignored (R195). -/
  tbBusy : List (Nat × Nat × Nat)
  /-- The ring: its records, oldest first, the next offset, the ordinal from which fill counts. -/
  ring   : List RingEnt
  head   : Nat
  since  : Nat
  seqs   : List Seq
  /-- Ordinals after the last position of the last sequence, and after its hold-off. -/
  post   : Nat
  hold   : Nat
  /-- A re-arm waits for the next frame boundary (R206). -/
  rearm  : Bool
  /-- ENABLE in force (R183). -/
  on'    : Bool
  /-- The last frame boundary. -/
  bound  : Nat
  deriving DecidableEq, Repr

/-- An acquisition block that holds nothing. -/
def Acq.empty : Acq := ⟨none, none, 0, [], [], 1, none, [], [], 0, [], [], 0, none, [], [], 0, 0, [], 0, 0, false, false, 0⟩

/-! ## Stream queues (chapter 08) -/

/-- A record in a queue: its words, whether it is a FRAME_HEAD or FRAME_END, and its entry. -/
structure QRec where
  words  : List Word
  head   : Bool
  last   : Bool
  at'    : Nat
  /-- Frame × 2^24 + position: P4 contexts below it go before it (R213). -/
  key    : Nat
  deriving DecidableEq, Repr

/-- What stands in a queue, in order: records, and the changes that wait for what is before them (08 R218, R221). -/
inductive QItem where
  | data (r : QRec)
  /-- Q_ROUTE changes bundle or VC. -/
  | move (route : Word)
  /-- PRESS_EN changes. -/
  | press (on : Bool)
  /-- The queue is disabled. -/
  | close
  deriving DecidableEq, Repr

/-- A finished Press block on its way to segments, or a move between blocks. -/
inductive QOut where
  /-- Its output, what is sent of it, the flags of its segments, where its input begins in the stream, and the records that end
  in it. -/
  | block (bytes : List Byte) (sent : Nat) (restart stored head : Bool) (start recs : Nat)
  /-- The closing block of a stream (08 R221), RESTART where no block of the stream was sent. -/
  | final (bytes : List Byte) (restart : Bool)
  | move (route : Word)
  deriving DecidableEq, Repr

/-- A Press block whose output waits for blocks (08 R224). -/
structure Halt where
  input  : List Word
  out    : List Byte
  /-- Bytes that take output blocks, the headers of stored blocks only (R223), and those placed. -/
  need   : Nat
  placed : Nat
  stored : Bool
  /-- An engine has compressed the block: EXPAND, not the Press disabled or a job abandoned. -/
  coded  : Bool
  deriving DecidableEq, Repr

/-- A stream queue beside its registers. -/
structure Queue where
  /-- Bundle and VC that segments use: Q_ROUTE in force, but for a move on its way (R218). -/
  route  : Word
  /-- The stream has begun and has not ended; a FRAME_HEAD is due before anything else is admitted. -/
  live   : Bool
  /-- The queue is in DROPPING for the rest of its frame. -/
  dropping : Bool
  /-- A frame of the queue is in progress. -/
  inFrame : Bool
  /-- The instant of the last Q_CFG or Q_ROUTE write that waits. -/
  pendAt : Nat
  /-- Records of a P4 queue that wait (R213). -/
  wait   : List QRec
  items  : List QItem
  /-- Words of the first record already sent or consumed. -/
  used   : Nat
  out    : List QOut
  /-- The stream's bytes are compressed; the next block starts a new stream, or a new window. -/
  pressing : Bool
  restart : Bool
  fresh  : Bool
  /-- The last 32,768 bytes consumed. -/
  window : List Byte
  /-- Bytes put in, no longer needed of them, output bytes placed and sent. -/
  inN    : Nat
  gone   : Nat
  outN   : Nat
  outGone : Nat
  /-- The literal/length and distance counts of the last Press block, where an engine compressed it (R219). -/
  codes  : Option (List Nat × List Nat)
  /-- Records discarded since the last segment, and whether the next carries GAP whatever their number (R229). -/
  gap    : Nat
  gapDue : Bool
  halt   : Option Halt
  /-- Bytes sent beyond whole 4 KiB units. -/
  rest   : Nat
  deriving DecidableEq, Repr

/-- A queue that is off. -/
def Queue.off : Queue :=
  ⟨0x30000#32, false, false, false, 0, [], [], 0, [], false, false, false, [], 0, 0, 0, 0, none, 0, false, none, 0⟩

/-- A Press engine: the queue of its job with its start and whether it primes, and the queue of its last job. -/
structure PressEng where
  job    : Option (Nat × Nat × Bool)
  last   : Option Nat
  deriving DecidableEq, Repr

/-- The stream queues and the Press. -/
structure Stq where
  queues : List (Nat × Queue)
  engs   : List (Nat × PressEng)
  /-- The queue last served on a bundle at a priority: 4 × bundle + priority. -/
  turn   : List (Nat × Nat)
  /-- Input and output bytes beyond whole KiB. -/
  inRest : Nat
  outRest : Nat
  /-- Queues have placed bytes in the STREAM partition since it was last cleared (log entry 71). -/
  touched : Bool
  deriving DecidableEq, Repr

/-! ## Focus preview (chapter 15) -/

/-- A source buffer being written (15 R390, R391). -/
structure VidBuf where
  /-- The buffer and its address; `none` while the frame waits for the frame before it to end. -/
  idx    : Option Nat
  base   : Nat
  /-- The window, its decimation and the source image. -/
  row    : Nat
  col    : Nat
  dy     : Nat
  dx     : Nat
  ws     : Nat
  hs     : Nat
  dscale : Nat
  frame  : Nat
  provisional : Bool
  /-- Source pixels that have closed, with their P1 and P2 values while the frame waits for a buffer. -/
  wrote  : List Nat
  early  : List (Nat × Nat × Nat)
  deriving DecidableEq, Repr

/-- The preview. -/
structure Vid where
  /-- Buffers being written, oldest frame first. -/
  bufs   : List VidBuf
  /-- The latest complete buffer and the one shown: index and frame. -/
  latest : Option (Nat × Nat)
  shown  : Option (Nat × Nat)
  /-- A change of the pixel clock has stopped the timing since an instant (15 R399). -/
  gap    : Option Nat
  /-- The last active line of the frame has ended. -/
  done   : Bool
  /-- A new source buffer was taken at the frame's latch point. -/
  taken  : Bool
  /-- Line buffers: rows of P1, of P2 and of the overlay, each with its values (15 R401). -/
  held   : List (List (Nat × List Nat))
  /-- The largest fetch of a line of the frame, in bytes. -/
  peak   : Nat
  /-- Underruns of L0, L1 and L2 in the frame (15 R403). -/
  under  : List Nat
  /-- CRCs under way: the signatures of L0 and L1, then the 8 rectangles (15 R404, R405). -/
  crcs   : List Nat
  /-- Rectangles in which a layer underran. -/
  bad    : List Nat
  /-- Signatures of L0 and L1 in the frame before. -/
  sigs   : List (Option Nat)
  /-- The BT.1120 CRCs of the Y and C streams over the active part of the line before (15 R386). -/
  bt     : List Nat
  /-- The words on VID_D29 to VID_D0 in the line in progress, in order. -/
  out    : List Nat
  /-- The levels of VID_HS in the line's sync pixels and outside them, and of VID_VS in the line; VID_DE is high in the
  line's active pixels; VID_CLK runs (15 R384, R399). -/
  hsOn   : Bool
  hsOff  : Bool
  vs     : Bool
  de     : Bool
  clkOn  : Bool
  /-- Tables: 2^16 × (2 × table + bank) + entry. -/
  tables : List (Nat × Word)
  deriving DecidableEq, Repr

end Sys2Proof.Machine
end

