-- ==== Sys2Proof/Machine/PartsLink.lean ====
section
/-!
DEFINITION. The parts of the state of the link: bundles and lanes (chapter 09).
-/

namespace Sys2Proof.Machine

/-- A frame in the replay region (09 R249). -/
structure TxFrame where
  seq    : Nat
  frame  : LinkFrame
  /-- The instant of its last transmission. -/
  at'    : Nat
  deriving DecidableEq, Repr

/-- A lane beside its registers. -/
structure LaneSt where
  bit    : Bool
  /-- Consecutive valid TS1 and TS2 of the step, and the last set. -/
  ts1    : Nat
  ts2    : Nat
  set    : Option TsSet
  /-- Instants of the last quarantines (09 R257). -/
  outs   : List Nat
  /-- The start of the retraining attempt that runs, or the instant of the next. -/
  busy   : Bool
  at'    : Nat
  /-- One attempt more after RETRY. -/
  once   : Bool
  /-- The preset that the partner requests (R234), and the best of those that this end has tried (R240). -/
  req    : Option Nat
  best   : Nat
  /-- HELD until RETRY (R257). -/
  held   : Bool
  /-- A bit error has been seen since the checker's last sync (R262). -/
  prbsErr : Bool
  deriving DecidableEq, Repr

/-- A lane at rest. -/
def LaneSt.empty : LaneSt := ⟨false, 0, 0, none, [], false, 0, false, none, 0, false, false⟩

/-- A bundle beside its registers. -/
structure Bundle where
  /-- The training step: 1 IDENTITY, 2 RATE, 3 EQUALISE, 4 DESKEW, 5 CREDIT; its entry, the start of training. -/
  step   : Nat
  stepAt : Nat
  began  : Nat
  attempts : Nat
  /-- Positions in the attempt; the lanes are connected reversed. -/
  cand   : Nat
  rev    : Bool
  target : Nat
  /-- The entry of FAILED or RECOVERY. -/
  since  : Nat
  /-- The replay region, oldest first; SEQs still to send again; replays of the oldest without an ACK. -/
  sent   : List TxFrame
  replay : List Nat
  tries  : Nat
  /-- LIMIT and CONSUMED by VC (R248). -/
  limit  : List (Nat × Nat)
  consumed : List (Nat × Nat)
  /-- RX_ALLOC in force, units freed, LIMIT advertised, and units received by VC. -/
  alloc  : Nat
  freed  : List (Nat × Nat)
  adv    : List (Nat × Nat)
  got    : List (Nat × Nat)
  /-- A NAK episode is open; the instants by which an ACK and a CREDIT are due. -/
  naked  : Bool
  ackDue : Option Nat
  creditDue : Option Nat
  /-- Masks that take effect at the next ALIGN. -/
  txMask : Option Nat
  rxMask : Option Nat
  /-- The end of the frame in progress. -/
  busyTo : Nat
  /-- EVENT frames sent since UP (R260). -/
  events : Nat
  /-- A POWER request stands unanswered; the instant of the next try; the state entered at the next ALIGN. -/
  asked  : Bool
  retryAt : Nat
  enter  : Option Nat
  waking : Option Nat
  /-- Link control words that the last command sent, as their 24 data bits (R244). -/
  lcw    : List Nat
  /-- The frame that the last command started, as its words: header, padded payload and CRC (R245). -/
  wire   : List Word
  /-- A SOFT_RESET by a REG_WR on the bundle waits for its completion (R265). -/
  resetDue : Bool
  deriving DecidableEq, Repr

/-- A bundle that is DISABLED. -/
def Bundle.off : Bundle :=
  ⟨0, 0, 0, 0, 0, false, 0, 0, [], [], 0, [], [], 0, [], [], [], false, none, none, none, none, 0, 0, false, 0, none, none,
   [], [], false⟩

/-- The link: frames that wait for transmission by bundle with the instants they became ready, bundles, lanes. -/
structure Wnb where
  tx      : List (Nat × List (LinkFrame × Nat))
  bundles : List (Nat × Bundle)
  lanes   : List (Nat × LaneSt)
  deriving DecidableEq, Repr

end Sys2Proof.Machine
end

