-- ==== Sys2Proof/Machine/PartsDrive.lean ====
section
/-!
DEFINITION. The parts of the state on the drive and safety side: network time, mirror, galvanometer, control slots,
current channels and the safety block.
-/

namespace Sys2Proof.Machine

/-! ## Network time (chapter 13) -/

/-- How the network time counter advances (13 R351, R355, R537). -/
inductive NetMode where
  | held | tkp | aon
  deriving DecidableEq, Repr

/-- The network time counter. -/
structure Ntm where
  mode : NetMode
  /-- The device has reached TIMEKEEP since reset. -/
  started : Bool
  /-- TDC time of the anchor, in LSB. -/
  base : Nat
  /-- Network time at the anchor, in units of 2^-32 ns / 25,600. -/
  net  : Int
  /-- INCREMENT in force, in 2^-32 ns. -/
  incr : Nat
  /-- A written INCREMENT and the REFCLK edge at which it applies (R352). -/
  next : Option (Nat × Nat)
  /-- The level of PPS_OUT, and the instant of its last rise. -/
  pps   : Bool
  ppsAt : Nat
  deriving DecidableEq, Repr

/-! ## The control engine (chapter 10) -/

/-- What a loop slot holds beside its registers (10 R278, R296). -/
structure Slot where
  active : Bool
  integ  : Int
  df     : Int
  yPrev  : Int
  vPrev  : Int
  uPrev  : Int
  /-- The output computed at the last tick, which the next tick applies. -/
  next   : Int
  /-- The blend of a hand-over: its difference, the ticks done, the ticks of the blend. -/
  delta  : Int
  j      : Nat
  n      : Nat
  /-- A hand-over is due at the next tick. -/
  due    : Bool
  /-- The old output where it is not the slot's own (slot 2 at SPEED entry). -/
  old    : Option Int
  deriving DecidableEq, Repr

/-- A slot that is not active. -/
def Slot.empty : Slot := ⟨false, 0, 0, 0, 0, 0, 0, 0, 0, 0, false, none⟩

/-- The polygon drive. -/
structure Mot where
  /-- The filtered Hall pattern. -/
  pattern : Nat
  /-- The instant of the last Hall edge, 0 for none. -/
  edge    : Nat
  /-- The mode has left OFF; Hall edges timed since, up to 2, and the interval between the last two. -/
  left    : Bool
  edges   : Nat
  hall    : Nat
  /-- The Hall speed as last renewed, in Q24.8 rpm (10 R284). -/
  hallNow : Nat
  /-- Hall edges in sequence. -/
  seq     : Nat
  /-- Registered index edges, newest first. -/
  idx     : List Nat
  /-- The rise of a pulse that awaits its fall, with the period of the facet that it closed. -/
  rise    : Option (Nat × Option Nat)
  /-- Consecutive index edges since SPEED was entered (R283). -/
  run     : Nat
  /-- Index edges since the model became valid. -/
  since   : Nat
  /-- p of the last edge in 1/65,536 LSB. -/
  pred    : Nat
  /-- Physical facet, facet within the frame. -/
  f       : Nat
  k       : Nat
  /-- The mode requested; the step in progress began at `stepAt`. -/
  goal    : Nat
  stepAt  : Nat
  /-- A lower mode takes effect at the next slot-2 tick. -/
  lower   : Option Nat
  /-- The generated speed of OPEN_SPIN in rpm × 200,000,000, and its angle in 1/(4.8 × 10^18) turn. -/
  gen     : Nat
  angle   : Nat
  /-- The ramped set-point of slot 2 in Q24.8 × 200,000,000. -/
  sp      : Int
  /-- The set-point of slot 1 held from the entry of SPEED until slot 2 applies its first output, and whether slot 2 has ticked
  (10 R296). -/
  iq      : Option (Int × Bool)
  /-- Index edges within 0.1 % of the frame-derived speed. -/
  window  : Nat
  /-- Edge errors since PHASE entry in 2^-36 ns, newest first. -/
  errs    : List Int
  /-- The set-point of slot 3 in ns Q28.4. -/
  phase   : Int
  /-- Edges within LOCK_TOL, and beyond 4 × LOCK_TOL. -/
  good    : Nat
  bad     : Nat
  /-- The origin of the reference grid of FREE while no frame has started (log entry 36). -/
  origin  : Option Nat
  /-- The number within the frame that PHASE entry gives the present facet, from the next edge on (10 R290). -/
  renum   : Option Nat
  /-- The reference instant paired with the frame (07 R181). -/
  pairR   : Option Int
  /-- Duties of the PWM period in force and of the next, in 2^-16. -/
  duty    : List Nat
  next    : List Nat
  /-- Slot-0 ticks without a valid current sample. -/
  lost    : Nat
  deriving DecidableEq, Repr

/-- The duties of the zero vector (10 R281). -/
def noVolts : List Nat := [32768, 32768, 32768]

/-- A polygon drive at rest. -/
def Mot.empty : Mot :=
  ⟨0, 0, false, 0, 0, 0, 0, [], none, 0, 0, 0, 0, 0, 0, 0, none, 0, 0, 0, none, 0, [], 0, 0, 0, none, none, none, noVolts, noVolts, 0⟩

/-- The galvanometer drive. -/
structure Gal where
  /-- The set-point in Q16.16 × 200,000,000. -/
  sp     : Int
  /-- The next point of the segment that plays, and the instant before which it does not begin. -/
  seg    : Option Nat
  segAt  : Nat
  /-- The ramp or the segment has ended. -/
  done   : Bool
  /-- Samples within READY_TOL. -/
  good   : Nat
  /-- The slot-4 tick whose sample is awaited. -/
  asked  : Option Nat
  /-- The set-point latched at that tick. -/
  r      : Int
  /-- Samples missing in a row. -/
  missed : Nat
  /-- Raw codes and set-points of the last valid samples, newest first. -/
  raws   : List (Int × Int)
  /-- The DAC code that the next tick sends. -/
  code   : Nat
  /-- A valid result of channel 31 has been formed since POS_LOST was latched (R299). -/
  seen   : Bool
  /-- The trajectory banks: point index + 4096 × bank. -/
  table  : List (Nat × Word)
  deriving DecidableEq, Repr

/-- The control engine. -/
structure Ctl where
  /-- The number of the next tick since the enable (10 R274). -/
  tick  : Nat
  /-- The instant of the last tick. -/
  tickAt : Nat
  slots : List (Nat × Slot)
  mot   : Mot
  gal   : Gal
  deriving DecidableEq, Repr

/-! ## Current feedback (chapter 11) -/

/-- A channel's filter and detectors beside its registers. -/
structure SdfChan where
  integ : List Int
  comb  : List Int
  /-- Outputs still to be suppressed. -/
  left  : Nat
  /-- An output has been delivered since the last start. -/
  have' : Bool
  /-- RMS window: sum of squares, outputs. -/
  sum   : Nat
  count : Nat
  /-- Samples of its pin that await its next decimation (R307), and the instant of its last start. -/
  bits  : List Bool
  since : Nat
  deriving DecidableEq, Repr

/-- A channel that has not started. -/
def SdfChan.empty : SdfChan := ⟨[], [], 0, false, 0, 0, [], 0⟩

/-! ## The safety block (chapter 12) -/

/-- What one path of the safety block holds (12 R319). -/
structure Path where
  /-- Filtered input levels, bits as INPUTS. -/
  ins    : Nat
  /-- A cause that removes torque at once is latched. -/
  torque : Bool
  /-- The configuration copy of 0x100 to 0x15C. -/
  cfg    : List Word
  /-- The speed at the SS1 request, Q24.8 rpm. -/
  v0     : Nat
  /-- Weighted shots by output × 32 + sector: sub-window and weight (R324). -/
  budget : List (Nat × List (Nat × Nat))
  /-- Since when SS_A_N and SS_B_N differ. -/
  disc   : Option Nat
  /-- Since when the laser and the motor feedback depart from the complement of their command. -/
  fbLaser : Option Nat
  fbMotor : Option Nat
  deriving DecidableEq, Repr

/-- The safety block. -/
structure Saf where
  a : Path
  b : Path
  /-- The SAFE_CONFIG window opened at this instant. -/
  opened : Nat
  /-- SS1 began at this instant and runs; SS1 has ended since the last accepted reset. -/
  ss1    : Option Nat
  ended  : Bool
  /-- SPEED is present; index edges with both speeds in the window since. -/
  slow   : Bool
  steady : Nat
  /-- The last comparison of the paths, and the last exchange with the partner, differed. -/
  differ : Bool
  pairDiffer : Bool
  /-- Since when the speeds of the two paths disagree. -/
  agree  : Option Nat
  /-- Since when SAFE_RESET has held its level. -/
  pinAt  : Nat
  /-- The step of the proof cycle, 0 for none, and its start. -/
  proof  : Nat
  proofAt : Nat
  /-- EMIT_DELAY runs since. -/
  delay  : Option Nat
  /-- The laser command stands since step 3 of the proof cycle. -/
  laser  : Bool
  /-- The instant at which permission was last withdrawn. -/
  lostAt : Nat
  /-- The partner's last report withholds permission (R337). -/
  partner : Bool
  deriving DecidableEq, Repr

/-- A path that has seen no input. -/
def Path.empty : Path := ⟨0, false, [], 0, [], none, none, none⟩

/-- The safety block before the end of the reset wipe. -/
def Saf.empty : Saf :=
  ⟨Path.empty, Path.empty, 0, none, false, true, 0, false, false, none, 0, 0, 0, none, false, 0, false⟩

end Sys2Proof.Machine
end

