-- ==== Sys2Proof/Machine/PartsMore.lean ====
section
/-!
DEFINITION. The parts of the state of the lamps, the pair and housekeeping.
-/

namespace Sys2Proof.Machine

/-! ## Lamps (chapter 18) -/

/-- A pattern engine beside its registers. -/
structure LampEng where
  run    : Bool
  step   : Nat
  /-- The period start at which the step began. -/
  since  : Nat
  passes : Nat
  /-- A start or a stop takes effect at the next period start. -/
  start  : Bool
  stop   : Bool
  deriving DecidableEq, Repr

/-- An engine that does not run. -/
def LampEng.empty : LampEng := ⟨false, 0, 0, 0, false, false⟩

/-- A lamp beside its registers. -/
structure Lamp where
  /-- On-time of the sixteen sub-periods of the period in force that its duty gives, in ticks (R452). -/
  on     : List Nat
  /-- On-time of the sub-periods of the period that have begun, with proof pulses and their debt (R460, R462). -/
  ran    : List Nat
  /-- Ticks of a proof pulse still to be taken back (R460). -/
  debt   : Nat
  /-- Open and short samples in a row. -/
  opens  : Nat
  shorts : Nat
  /-- The sub-periods of the period in force that had begun at its last open and short sample; 0 before one (R459). -/
  openIn : Nat
  shortIn : Nat
  deriving DecidableEq, Repr

/-- A dark lamp. -/
def Lamp.dark : Lamp := ⟨List.replicate 16 0, [], 0, 0, 0, 0, 0⟩

/-- The lamp block. -/
structure Lmp where
  engs   : List (Nat × LampEng)
  lamps  : List (Nat × Lamp)
  /-- The number of the period and its start. -/
  period : Nat
  at'    : Nat
  /-- BASE_DIV in force; a write of it waits for the next period start. -/
  div    : Nat
  renew  : Bool
  /-- A proof request of the safety block stands unanswered (R462). -/
  asked  : Bool
  /-- The indicator is forced to EMIT_DUTY: from a proof request until the laser command falls (R461). -/
  forced : Bool
  deriving DecidableEq, Repr

/-! ## The pair (chapter 19) -/

/-- What the partner's last heartbeat said, and when it came (R472). -/
structure Partner where
  at'    : Nat
  report : PairReport
  deriving DecidableEq, Repr

/-- What the partner's ARB frames say (R474): it is ACTIVE with acquisition running, its health word, PREFER. -/
structure Rival where
  runs   : Bool
  health : Nat
  prefer : Bool
  deriving DecidableEq, Repr

/-- The values that ALIGN_SET names for an edge (R476): TDC time in LSB, network time, INCREMENT in 2^-32 ns, tick number. -/
structure Align where
  edge   : Nat
  tdc    : Nat
  sec    : Nat
  ns     : Nat
  frac   : Nat
  incr   : Nat
  tick   : Nat
  deriving DecidableEq, Repr

/-- The P3 tiles of the compared region in a frame: tile, VALID, DSUM (R479). -/
structure CmpFrame where
  frame  : Nat
  tiles  : List (Nat × Nat × Nat)
  ended  : Bool
  stopped : Bool
  deriving DecidableEq, Repr

/-- The pair. -/
structure Pair where
  partner : Option Partner
  /-- STANDBY holds of R33 act. -/
  held    : Bool
  /-- ACTIVE_OUT is high. -/
  actOut  : Bool
  /-- ACTIVE_OUT rises, and the holds are applied, at these instants (R481). -/
  raiseAt : Option Nat
  holdAt  : Option Nat
  /-- The instant of the enable; the pair bundle as last seen; the begin of arbitration, and what was heard (R474). -/
  since   : Nat
  up      : Bool
  arb     : Option Nat
  rival   : Option Rival
  align   : Option Align
  /-- TIME frames that wait for their edges: edge, INCREMENT, step in ns (R477). -/
  times   : List (Nat × Option Nat × Option Int)
  /-- The last exchange differed (12 R338). -/
  differs : Bool
  /-- The last MIRROR with its arrival, and ticks since one was late (R478). -/
  mirror  : Option (Nat × LoopMirror)
  good    : Nat
  /-- Tiles to compare (R479). -/
  mine    : List CmpFrame
  theirs  : List CmpFrame
  /-- The last 10 µs exchange, and a HEARTBEAT has come since. -/
  sentAt  : Nat
  heard   : Bool
  /-- Sequence numbers of the frames sent, by subtype (R472). -/
  seqs    : List (Nat × Nat)
  /-- SILENT: records of positions below this key are not admitted after a takeover (R483). -/
  bar     : Nat
  deriving DecidableEq, Repr

/-- A device that is no pair. -/
def Pair.empty : Pair :=
  ⟨none, false, false, none, none, 0, false, none, none, none, [], false, none, 0, [], [], 0, false, [], 0⟩

/-! ## The Ethernet bridge (chapter 13) -/

/-- A frame in an egress queue of the bridge, without its FCS. -/
structure EthItem where
  /-- Copies of one frame share a number and the ingress buffer. -/
  id     : Nat
  port   : Nat
  /-- The MEDIUM ingress instant in 2^-16 ns of TDC time, and the timestamp reported to the host in 2^-16 ns. -/
  at'    : Int
  ts     : Nat
  provisional : Bool
  degraded : Bool
  tsReq  : Bool
  tsId   : Nat
  frame  : List Byte
  deriving DecidableEq, Repr

/-- An entry of the transparent clock's match table (13 R359, R360). -/
structure MatchEnt where
  key    : List Byte
  opened : Nat
  /-- Residences by egress port, in 2^-16 ns, whose Follow_Up has not left. -/
  res    : List (Nat × Int)
  deriving DecidableEq, Repr

/-- A host frame in assembly from fragments, by bundle (13 R349). -/
structure EthFrag where
  next   : Nat
  head   : List Word
  body   : List Byte
  deriving DecidableEq, Repr

/-- The bridge. -/
structure Eth where
  /-- Learnt addresses: address, port, instant of the last refresh; newest last. -/
  macs   : List (Nat × Nat × Nat)
  ents   : List MatchEnt
  /-- The egress queues by bridge port. -/
  high   : List (Nat × List EthItem)
  low    : List (Nat × List EthItem)
  nextId : Nat
  /-- The end of a received PAUSE by port, and the ports that have sent PAUSE. -/
  pause  : List (Nat × Nat)
  paused : List Nat
  /-- The mailbox: records that wait, the first perhaps read in part; words written. -/
  mbRx   : List (List Word)
  mbTx   : List Word
  frags  : List (Nat × Option EthFrag)
  /-- The last frame sent by port. -/
  sent   : List (Nat × List Byte)
  deriving DecidableEq, Repr

/-! ## The slot plan (chapter 14) -/

/-- A peer of the plan engine. Slot sets are numbers, bit i for slot i. -/
structure Peer where
  unit     : Nat
  priority : Nat
  held     : Nat
  claim    : Nat
  /-- The beat of its claim, and the last beat taken. -/
  claimBeat : Nat
  beat     : Nat
  detached : Bool
  degraded : Bool
  /-- Beat starts since a frame was last taken. -/
  silent   : Nat
  deriving DecidableEq, Repr

/-- The plan engine. Beat numbers are of 16 bits. -/
structure Pln where
  held    : Nat
  pending : Nat
  /-- The beat at which the pending claims were made, with their slots. -/
  claims  : List (Nat × Nat)
  /-- The grant in force in the member states. -/
  grant   : Nat
  /-- Additions that wait: slots, the cycle number of their epoch boundary, the boundary has passed. -/
  adds    : List (Nat × Nat × Bool)
  /-- Removals that wait for the next epoch boundary. -/
  drops   : Nat
  /-- Messages due in this beat: released, confirmed and claimed slots; the HEARTBEAT is due. -/
  release : Nat
  confirm : Nat
  claim   : Nat
  beatDue : Bool
  /-- RELEASE of slots lost in this beat, due in the next. -/
  releaseNext : Nat
  /-- The beat in progress. -/
  beat    : Nat
  /-- Whole beats begun in LISTEN, up to 3; the beat before which no choice is made after a loss. -/
  listened : Nat
  backoff : Option Nat
  /-- Whole beats without a pending claim or a peer's claim, up to 3, and whether the present one is so. -/
  quiet   : Nat
  quietNow : Bool
  /-- The beats to the end of a farewell, and the state that follows it (R377). -/
  leaving : Nat
  after   : Nat
  /-- A rejoin after DETACHED is listening. -/
  rejoin  : Bool
  /-- Cycles within GENLOCK_TOL, a measurement made among them, and one out of it in the present cycle. -/
  within  : Nat
  measured : Bool
  outside : Bool
  peers   : List (Nat × Option Peer)
  deriving DecidableEq, Repr

/-- A plan engine that holds nothing. -/
def Pln.empty : Pln := ⟨0, 0, [], 0, [], 0, 0, 0, 0, false, 0, 0, 0, none, 0, true, 0, 0, false, 0, false, false, []⟩

/-! ## Housekeeping and thermal (chapter 16) -/

/-- A conversion that runs. -/
structure HkaConv where
  /-- 0 scan, 1 the GAL block's urgent, 2 the host's urgent. -/
  kind  : Nat
  chan  : Nat
  /-- CH_CFG as it stood at its start. -/
  cfg   : Word
  /-- The code of the first conversion of a remote-diode pair. -/
  first : Option Int
  /-- The first conversion of an urgent pair was clamped. -/
  clamp : Bool
  /-- The slot-4 tick that asked for it, of a conversion of the GAL block (10 R273). -/
  tick  : Option Nat
  /-- The instant of its start. -/
  at'   : Nat
  deriving DecidableEq, Repr

/-- The samples of the channel that a round converts. -/
structure HkaAcc where
  sum   : Int
  n     : Nat
  /-- The next sample is discarded (16 R423). -/
  skip  : Bool
  isOpen : Bool
  clamp : Bool
  ref   : Bool
  /-- The first code of the pair, kept over an abort. -/
  first : Option Int
  deriving DecidableEq, Repr

/-- No samples. -/
def HkaAcc.empty : HkaAcc := ⟨0, 0, false, false, false, false, none⟩

/-- The housekeeping block. -/
structure Hka where
  conv  : Option HkaConv
  /-- A round start has been given and the round has not begun. -/
  due   : Bool
  /-- The start of the round that runs, the set it latched, and its channel. -/
  start : Nat
  set   : Nat
  chan  : Option Nat
  acc   : HkaAcc
  /-- Channels whose average restarts at their next conversion. -/
  restart : Nat
  /-- A GAL request waits for the GAL conversion that runs. -/
  galWait : Bool
  /-- Channels that have had a valid result. -/
  ever  : Nat
  /-- Working coefficients by channel; copies by channel: 0 runs, 1 runs beside a result that began before it, 2 has been made and
  waits for that result (16 R420). -/
  coefs : List (Nat × List Word)
  loads : List (Nat × Nat)
  /-- The instant of each channel's last result. -/
  last  : List (Nat × Nat)
  /-- The commanded edges of the last microsecond that open fire windows (16 R417). -/
  fires : List Nat
  deriving DecidableEq, Repr

/-- A housekeeping block at rest. -/
def Hka.empty : Hka := ⟨none, false, 0, 0, none, HkaAcc.empty, 0, false, 0, [], [], [], []⟩

/-- The thermal block. -/
structure Thm where
  /-- Valid results of the watched channel by block, newest first: instant and y (16 R426). -/
  hist  : List (Nat × List (Nat × Word))
  /-- The step of an orderly stop, 0 for none; the instant of the trip. -/
  step  : Nat
  since : Nat
  /-- On-die diodes at or above 110 °C: bit 0 for channel 32, bit 1 for channel 33 (16 R428). -/
  die   : Nat
  /-- Blocks whose last valid y was at or above LIM_ABS. -/
  abs'  : Nat
  deriving DecidableEq, Repr

/-! ## Calibration (chapter 17) -/

/-- The corrections of an installation: by channel (0 to 511 hit, 512 to 519 start) the tap, the trims and the residual, by
bank the walk coefficients with WMIN and WMAX (17 R447). -/
structure CalSet where
  tap    : List (Nat × Nat)
  thl    : List (Nat × Int)
  thh    : List (Nat × Int)
  res    : List (Nat × Int)
  walk   : List (Nat × List Word)
  lo     : Nat
  hi     : Nat
  w16    : Nat
  single : Bool
  /-- Some set contributes. -/
  some'  : Bool
  deriving DecidableEq, Repr

/-- No correction. -/
def CalSet.empty : CalSet := ⟨[], [], [], [], [], 0, 0, 0, false, false⟩

/-- A calibration job (17 R439 to R445). -/
structure CalJob where
  type   : Nat
  set    : Nat
  events : Nat
  pass   : Nat
  orient : Nat
  /-- Events taken by channel in the present orientation, and their sums. -/
  count  : List (Nat × Nat)
  sum    : List (Nat × Int)
  /-- The sums of the NORMAL orientation, and the taps chosen in pass 1. -/
  normal : List (Nat × Int)
  taps   : List (Nat × Nat)
  /-- The last CAL_IN edge. -/
  edge   : Nat
  /-- The sum of T in 2^-149, how often it was taken, its least and largest. -/
  tSum   : Int
  tCount : Nat
  tLo    : Int
  tHi    : Int
  /-- The step of the threshold search, and the code found so far by DAC. -/
  step   : Nat
  codes  : List (Nat × Nat)
  /-- The sums of the codes of VCAL at the four gains, and the samples taken. -/
  vcal   : List Int
  samples : Nat
  deriving DecidableEq, Repr

/-- The calibration block. -/
structure Cal where
  job   : Option CalJob
  /-- A computation that runs, with its start; one that awaits its installation, with its completion. -/
  comp  : Option (Nat × CalSet)
  wait  : Option (Nat × CalSet)
  /-- The corrections in force. -/
  cur   : CalSet
  /-- T, a valid T since ENABLE, and a recomputation asked for while a job ran. -/
  temp  : Word
  have' : Bool
  again : Bool
  /-- The instant of the last installation (07 R186, CAL_STEP). -/
  stepAt : Nat
  deriving DecidableEq, Repr

end Sys2Proof.Machine
end

