-- ==== Sys2Proof/Machine/RegMapA.lean ====
section
/-!
DEFINITION. The register tables of the pages GLB, CLK, PWR, IRQ, PMON, TDC, FCT, ESC, CHA, row by row from the spec.
A row holds its offset, its array length, its reset value by instance or block number, and its fields
(lowest bit, width, access, reserved encodings, protected).
-/

namespace Sys2Proof.Machine

/-- Registers of the GLB page from 0x040 on (20 R507). -/
def rows_glb : List RegRow :=
  [
    ⟨0x050, 1, fun _ => 0x200808, [⟨16, 6, .rw, [], false⟩, ⟨8, 6, .rw, [], false⟩, ⟨0, 6, .rw, [], false⟩]⟩,
    ⟨0x040, 1, fun _ => 0x51200001, [⟨16, 16, .ro, [], false⟩, ⟨0, 16, .ro, [], false⟩]⟩,
    ⟨0x044, 1, fun _ => 0xA1, [⟨4, 4, .ro, [], false⟩, ⟨0, 4, .ro, [], false⟩]⟩,
    ⟨0x054, 1, fun _ => 0x1, [⟨3, 1, .ro, [], false⟩, ⟨2, 1, .ro, [], false⟩, ⟨1, 1, .ro, [], false⟩, ⟨0, 1, .ro, [], false⟩]⟩,
    ⟨0x058, 1, fun _ => 0, [⟨1, 1, .ro, [], false⟩, ⟨0, 1, .ro, [], false⟩]⟩,
    ⟨0x060, 1, fun _ => 0, [⟨0, 32, .rol, [], false⟩]⟩,
    ⟨0x064, 1, fun _ => 0, [⟨0, 32, .rol, [], false⟩]⟩,
    ⟨0x048, 1, fun _ => 0x0, [⟨0, 7, .rw, [(89, 127)], false⟩]⟩,
    ⟨0x04C, 1, fun _ => 0x0, [⟨0, 24, .ro, [], false⟩]⟩]

/-- The GLB page (20 R507; header of 02 R38). -/
def page_glb : PageRow :=
  ⟨0x0, 0x0, 1, 0x1000, .aon,
    header 0x1 (fun _ => 0x1)
      ⟨0x008, 1, fun _ => 0x1, [⟨0, 1, .ro, [], false⟩, ⟨1, 1, .w1s, [], true⟩]⟩
      ⟨0x00C, 1, fun _ => 0x0, [⟨2, 1, .ro, [], false⟩, ⟨1, 1, .ro, [], false⟩, ⟨0, 1, .ro, [], false⟩]⟩
      [(1, 1), (0, 1)] ++ rows_glb,
    []⟩

/-- Registers of the CLK page from 0x040 on (20 R508). -/
def rows_clk : List RegRow :=
  [
    ⟨0x040, 1, fun _ => 0, [⟨4, 1, .rw, [], false⟩, ⟨0, 1, .rw, [], false⟩]⟩,
    ⟨0x044, 1, fun _ => 0x0, [⟨0, 32, .cnt, [], false⟩]⟩,
    ⟨0x048, 1, fun _ => 0x0, [⟨0, 1, .ro, [], false⟩]⟩,
    ⟨0x04C, 1, fun _ => 0x0, [⟨0, 1, .ro, [], false⟩]⟩]

/-- The CLK page (20 R508; header of 02 R38). -/
def page_clk : PageRow :=
  ⟨0x1000, 0x0, 1, 0x1000, .aon,
    header 0x2 (fun _ => 0x1)
      ⟨0x008, 1, fun _ => 0x1, [⟨0, 1, .ro, [], false⟩, ⟨1, 1, .w1s, [], false⟩]⟩
      ⟨0x00C, 1, fun _ => 0x0, [⟨31, 1, .ro, [], false⟩, ⟨30, 1, .ro, [], false⟩, ⟨29, 1, .ro, [], false⟩, ⟨28, 1, .ro, [], false⟩, ⟨9, 1, .ro, [], false⟩, ⟨8, 1, .ro, [], false⟩, ⟨7, 1, .ro, [], false⟩, ⟨6, 1, .ro, [], false⟩, ⟨2, 4, .ro, [], false⟩, ⟨1, 1, .ro, [], false⟩, ⟨0, 1, .ro, [], false⟩]⟩
      [(3, 1), (2, 1), (1, 1), (0, 1)] ++ rows_clk,
    []⟩

/-- Registers of the PWR page from 0x040 on (20 R509). -/
def rows_pwr : List RegRow :=
  [
    ⟨0x040, 1, fun _ => 0x1, [⟨31, 1, .rw, [], false⟩, ⟨0, 3, .rw, [(0, 0), (5, 7)], false⟩]⟩,
    ⟨0x050, 1, fun _ => 0, [⟨8, 4, .ro, [], false⟩, ⟨0, 4, .ro, [], false⟩]⟩,
    ⟨0x044, 1, fun _ => 0x0, [⟨0, 1, .rw, [], false⟩]⟩,
    ⟨0x048, 1, fun _ => 0x0, [⟨0, 16, .ro, [], false⟩]⟩,
    ⟨0x054, 1, fun _ => 0x0, [⟨0, 16, .wo, [], true⟩]⟩,
    ⟨0x058, 1, fun _ => 0x0, [⟨0, 4, .wo, [], true⟩]⟩]

/-- The PWR page (20 R509; header of 02 R38). -/
def page_pwr : PageRow :=
  ⟨0x2000, 0x0, 1, 0x1000, .aon,
    header 0x3 (fun _ => 0x1)
      ⟨0x008, 1, fun _ => 0x1, [⟨0, 1, .ro, [], false⟩, ⟨1, 1, .w1s, [], false⟩]⟩
      ⟨0x00C, 1, fun _ => 0x1, [⟨7, 1, .ro, [], false⟩, ⟨6, 1, .ro, [], false⟩, ⟨5, 1, .ro, [], false⟩, ⟨4, 1, .ro, [], false⟩, ⟨0, 3, .ro, [], false⟩]⟩
      [(1, 1), (0, 1)] ++ rows_pwr,
    []⟩

/-- Registers of the IRQ page from 0x040 on (02 R55). -/
def rows_irq : List RegRow :=
  [
    ⟨0x040, 4, fun _ => 0x0, [⟨0, 32, .ro, [], false⟩]⟩,
    ⟨0x050, 1, fun _ => 0xAAAAAAA6, [⟨0, 2, .rw, [(3, 3)], false⟩, ⟨2, 2, .rw, [(3, 3)], false⟩, ⟨4, 2, .rw, [(3, 3)], false⟩, ⟨6, 2, .rw, [(3, 3)], false⟩, ⟨8, 2, .rw, [(3, 3)], false⟩, ⟨10, 2, .rw, [(3, 3)], false⟩, ⟨12, 2, .rw, [(3, 3)], false⟩, ⟨14, 2, .rw, [(3, 3)], false⟩, ⟨16, 2, .rw, [(3, 3)], false⟩, ⟨18, 2, .rw, [(3, 3)], false⟩, ⟨20, 2, .rw, [(3, 3)], false⟩, ⟨22, 2, .rw, [(3, 3)], false⟩, ⟨24, 2, .rw, [(3, 3)], false⟩, ⟨26, 2, .rw, [(3, 3)], false⟩, ⟨28, 2, .rw, [(3, 3)], false⟩, ⟨30, 2, .rw, [(3, 3)], false⟩]⟩,
    ⟨0x054, 1, fun _ => 0xAAAA6AAA, [⟨0, 2, .rw, [(3, 3)], false⟩, ⟨2, 2, .rw, [(3, 3)], false⟩, ⟨4, 2, .rw, [(3, 3)], false⟩, ⟨6, 2, .rw, [(3, 3)], false⟩, ⟨8, 2, .rw, [(3, 3)], false⟩, ⟨10, 2, .rw, [(3, 3)], false⟩, ⟨12, 2, .rw, [(3, 3)], false⟩, ⟨14, 2, .rw, [(3, 3)], false⟩, ⟨16, 2, .rw, [(3, 3)], false⟩, ⟨18, 2, .rw, [(3, 3)], false⟩, ⟨20, 2, .rw, [(3, 3)], false⟩, ⟨22, 2, .rw, [(3, 3)], false⟩, ⟨24, 2, .rw, [(3, 3)], false⟩, ⟨26, 2, .rw, [(3, 3)], false⟩, ⟨28, 2, .rw, [(3, 3)], false⟩, ⟨30, 2, .rw, [(3, 3)], false⟩]⟩,
    ⟨0x058, 1, fun _ => 0xAAAAA9A6, [⟨0, 2, .rw, [(3, 3)], false⟩, ⟨2, 2, .rw, [(3, 3)], false⟩, ⟨4, 2, .rw, [(3, 3)], false⟩, ⟨6, 2, .rw, [(3, 3)], false⟩, ⟨8, 2, .rw, [(3, 3)], false⟩, ⟨10, 2, .rw, [(3, 3)], false⟩, ⟨12, 2, .rw, [(3, 3)], false⟩, ⟨14, 2, .rw, [(3, 3)], false⟩, ⟨16, 2, .rw, [(3, 3)], false⟩, ⟨18, 2, .rw, [(3, 3)], false⟩, ⟨20, 2, .rw, [(3, 3)], false⟩, ⟨22, 2, .rw, [(3, 3)], false⟩, ⟨24, 2, .rw, [(3, 3)], false⟩, ⟨26, 2, .rw, [(3, 3)], false⟩, ⟨28, 2, .rw, [(3, 3)], false⟩, ⟨30, 2, .rw, [(3, 3)], false⟩]⟩,
    ⟨0x05C, 1, fun _ => 0xAAAAAAAA, [⟨0, 2, .rw, [(3, 3)], false⟩, ⟨2, 2, .rw, [(3, 3)], false⟩, ⟨4, 2, .rw, [(3, 3)], false⟩, ⟨6, 2, .rw, [(3, 3)], false⟩, ⟨8, 2, .rw, [(3, 3)], false⟩, ⟨10, 2, .rw, [(3, 3)], false⟩, ⟨12, 2, .rw, [(3, 3)], false⟩, ⟨14, 2, .rw, [(3, 3)], false⟩, ⟨16, 2, .rw, [(3, 3)], false⟩, ⟨18, 2, .rw, [(3, 3)], false⟩, ⟨20, 2, .rw, [(3, 3)], false⟩, ⟨22, 2, .rw, [(3, 3)], false⟩, ⟨24, 2, .rw, [(3, 3)], false⟩, ⟨26, 2, .rw, [(3, 3)], false⟩, ⟨28, 2, .rw, [(3, 3)], false⟩, ⟨30, 2, .rw, [(3, 3)], false⟩]⟩,
    ⟨0x060, 1, fun _ => 0xAAAAAAAA, [⟨0, 2, .rw, [(3, 3)], false⟩, ⟨2, 2, .rw, [(3, 3)], false⟩, ⟨4, 2, .rw, [(3, 3)], false⟩, ⟨6, 2, .rw, [(3, 3)], false⟩, ⟨8, 2, .rw, [(3, 3)], false⟩, ⟨10, 2, .rw, [(3, 3)], false⟩, ⟨12, 2, .rw, [(3, 3)], false⟩, ⟨14, 2, .rw, [(3, 3)], false⟩, ⟨16, 2, .rw, [(3, 3)], false⟩, ⟨18, 2, .rw, [(3, 3)], false⟩, ⟨20, 2, .rw, [(3, 3)], false⟩, ⟨22, 2, .rw, [(3, 3)], false⟩, ⟨24, 2, .rw, [(3, 3)], false⟩, ⟨26, 2, .rw, [(3, 3)], false⟩, ⟨28, 2, .rw, [(3, 3)], false⟩, ⟨30, 2, .rw, [(3, 3)], false⟩]⟩,
    ⟨0x064, 1, fun _ => 0xAAAAAAAA, [⟨0, 2, .rw, [(3, 3)], false⟩, ⟨2, 2, .rw, [(3, 3)], false⟩, ⟨4, 2, .rw, [(3, 3)], false⟩, ⟨6, 2, .rw, [(3, 3)], false⟩, ⟨8, 2, .rw, [(3, 3)], false⟩, ⟨10, 2, .rw, [(3, 3)], false⟩, ⟨12, 2, .rw, [(3, 3)], false⟩, ⟨14, 2, .rw, [(3, 3)], false⟩, ⟨16, 2, .rw, [(3, 3)], false⟩, ⟨18, 2, .rw, [(3, 3)], false⟩, ⟨20, 2, .rw, [(3, 3)], false⟩, ⟨22, 2, .rw, [(3, 3)], false⟩, ⟨24, 2, .rw, [(3, 3)], false⟩, ⟨26, 2, .rw, [(3, 3)], false⟩, ⟨28, 2, .rw, [(3, 3)], false⟩, ⟨30, 2, .rw, [(3, 3)], false⟩]⟩,
    ⟨0x068, 1, fun _ => 0x2AAAA, [⟨0, 2, .rw, [(3, 3)], false⟩, ⟨2, 2, .rw, [(3, 3)], false⟩, ⟨4, 2, .rw, [(3, 3)], false⟩, ⟨6, 2, .rw, [(3, 3)], false⟩, ⟨8, 2, .rw, [(3, 3)], false⟩, ⟨10, 2, .rw, [(3, 3)], false⟩, ⟨12, 2, .rw, [(3, 3)], false⟩, ⟨14, 2, .rw, [(3, 3)], false⟩, ⟨16, 2, .rw, [(3, 3)], false⟩]⟩,
    ⟨0x070, 3, fun _ => 0x0, [⟨0, 32, .rw, [], false⟩]⟩,
    ⟨0x07C, 1, fun _ => 0x0, [⟨0, 9, .rw, [], false⟩]⟩,
    ⟨0x080, 1, fun _ => 0x0, [⟨31, 1, .rw, [], false⟩, ⟨16, 5, .rw, [], false⟩, ⟨0, 16, .rw, [], false⟩]⟩,
    ⟨0x084, 1, fun _ => 0x0, [⟨1, 1, .ro, [], false⟩, ⟨0, 1, .ro, [], false⟩]⟩,
    ⟨0x088, 1, fun _ => 0x0, [⟨1, 1, .rw, [], false⟩, ⟨0, 1, .rw, [], false⟩]⟩,
    ⟨0x08C, 1, fun _ => 0x0, [⟨0, 32, .cnt, [], false⟩]⟩,
    ⟨0x090, 1, fun _ => 0x0, [⟨0, 1, .ro, [], false⟩]⟩]

/-- The IRQ page (02 R55; header of 02 R38). -/
def page_irq : PageRow :=
  ⟨0x3000, 0x0, 1, 0x1000, .aon,
    header 0x4 (fun _ => 0x1)
      ⟨0x008, 1, fun _ => 0x0, [⟨0, 1, .rw, [], false⟩, ⟨1, 1, .w1s, [], false⟩]⟩
      ⟨0x00C, 1, fun _ => 0x0, []⟩
      [] ++ rows_irq,
    []⟩

/-- Registers of the PMON page from 0x040 on (02 R60). -/
def rows_pmon : List RegRow :=
  [
    ⟨0x040, 1, fun _ => 0x0, [⟨0, 16, .wo, [], false⟩]⟩,
    ⟨0x044, 1, fun _ => 0x0, [⟨0, 16, .wo, [], false⟩]⟩]

/-- One MON block of the PMON page (02 R60). -/
def rows_mon : List RegRow :=
  [
    ⟨0x000, 1, fun _ => 0x0, [⟨4, 4, .rw, [], false⟩, ⟨1, 2, .rw, [(3, 3)], false⟩, ⟨0, 1, .rw, [], false⟩]⟩,
    ⟨0x004, 1, fun _ => 0x0, [⟨16, 16, .rw, [], false⟩, ⟨0, 12, .rw, [(1, 15), (18, 31), (34, 47), (50, 63), (65, 79), (82, 95), (97, 111), (115, 127), (129, 143), (145, 4095)], false⟩]⟩,
    ⟨0x008, 1, fun _ => 0x0, [⟨0, 32, .rw, [], false⟩]⟩,
    ⟨0x00C, 1, fun _ => 0x0, [⟨0, 32, .rw, [], false⟩]⟩,
    ⟨0x010, 1, fun _ => 0x7FFFFFFF, [⟨0, 32, .rol, [], false⟩]⟩,
    ⟨0x014, 1, fun _ => 0x80000000, [⟨0, 32, .rol, [], false⟩]⟩,
    ⟨0x018, 1, fun _ => 0x0, [⟨0, 32, .rol, [], false⟩]⟩,
    ⟨0x01C, 1, fun _ => 0x0, [⟨0, 32, .rol, [], false⟩]⟩,
    ⟨0x020, 1, fun _ => 0x0, [⟨0, 32, .rol, [], false⟩]⟩,
    ⟨0x024, 1, fun _ => 0x0, [⟨2, 1, .ro, [], false⟩, ⟨1, 1, .ro, [], false⟩, ⟨0, 1, .ro, [], false⟩]⟩,
    ⟨0x040, 32, fun _ => 0x0, [⟨0, 32, .rol, [], false⟩]⟩]

/-- The PMON page (02 R60; header of 02 R38). -/
def page_pmon : PageRow :=
  ⟨0x4000, 0x0, 1, 0x1000, .sys,
    header 0x5 (fun _ => 0x10000001)
      ⟨0x008, 1, fun _ => 0x0, [⟨0, 1, .rw, [], false⟩, ⟨1, 1, .w1s, [], false⟩]⟩
      ⟨0x00C, 1, fun _ => 0x0, []⟩
      [] ++ rows_pmon,
    [⟨0x100, 0xC0, 16, rows_mon⟩]⟩

/-- Registers of the TDC page from 0x040 on (03 R96). -/
def rows_tdc : List RegRow :=
  [
    ⟨0x040, 1, fun _ => 0x0, [⟨0, 16, .rws, [], false⟩]⟩,
    ⟨0x044, 1, fun _ => 0x0, [⟨0, 16, .ro, [], false⟩]⟩,
    ⟨0x050, 4, fun _ => 0x0, [⟨0, 32, .w1c, [], false⟩]⟩]

/-- One ST block of the TDC page (03 R96). -/
def rows_st : List RegRow :=
  [
    ⟨0x000, 1, fun _ => 0x2404000, [⟨16, 10, .rw, [], false⟩, ⟨8, 8, .rw, [(0, 0)], false⟩, ⟨1, 1, .rw, [], false⟩, ⟨0, 1, .rw, [], false⟩]⟩,
    ⟨0x004, 1, fun _ => 0x0, [⟨0, 32, .rw, [], false⟩]⟩,
    ⟨0x008, 1, fun _ => 0x0, [⟨0, 32, .ro, [], false⟩]⟩,
    ⟨0x00C, 1, fun _ => 0x0, [⟨0, 32, .cnt, [], false⟩]⟩,
    ⟨0x010, 1, fun _ => 0x0, [⟨0, 1, .ro, [], false⟩]⟩,
    ⟨0x014, 1, fun _ => 0x0, [⟨0, 32, .cnt, [], false⟩]⟩,
    ⟨0x018, 1, fun _ => 0x0, [⟨0, 1, .ro, [], false⟩]⟩,
    ⟨0x01C, 1, fun _ => 0x0, [⟨0, 32, .cnt, [], false⟩]⟩,
    ⟨0x020, 1, fun _ => 0x0, [⟨0, 1, .ro, [], false⟩]⟩,
    ⟨0x024, 1, fun _ => 0x0, [⟨0, 32, .cnt, [], false⟩]⟩,
    ⟨0x028, 1, fun _ => 0x0, [⟨0, 1, .ro, [], false⟩]⟩]

/-- The TDC page (03 R96; header of 02 R38). -/
def page_tdc : PageRow :=
  ⟨0x10000, 0x1000, 4, 0x1000, .tdc,
    header 0x10 (fun _ => 0x80280003)
      ⟨0x008, 1, fun _ => 0x0, [⟨0, 1, .rw, [], false⟩, ⟨1, 1, .w1s, [], false⟩]⟩
      ⟨0x00C, 1, fun _ => 0x0, [⟨3, 1, .ro, [], false⟩, ⟨2, 1, .ro, [], false⟩, ⟨1, 1, .ro, [], false⟩, ⟨0, 1, .ro, [], false⟩]⟩
      [(7, 1), (6, 1), (5, 1), (4, 1), (3, 1), (2, 1), (1, 1), (0, 1)] ++ rows_tdc,
    [⟨0x80, 0x40, 2, rows_st⟩]⟩

/-- Registers of the FCT page from 0x040 on (03 R99). -/
def rows_fct : List RegRow :=
  [
    ⟨0x040, 1, fun _ => 0x0, [⟨0, 16, .wo, [], false⟩]⟩,
    ⟨0x044, 1, fun _ => 0x0, [⟨16, 4, .wo, [], false⟩, ⟨0, 16, .wo, [], false⟩]⟩]

/-- One TDU block of the FCT page (03 R99). -/
def rows_tdu : List RegRow :=
  [
    ⟨0x000, 1, fun _ => 0x0, [⟨8, 4, .rw, [], false⟩, ⟨1, 2, .rw, [(3, 3)], false⟩, ⟨0, 1, .rw, [], false⟩]⟩,
    ⟨0x004, 1, fun _ => 0x0, [⟨16, 10, .rw, [(520, 527), (561, 1023)], false⟩, ⟨0, 10, .rw, [(520, 527), (561, 1023)], false⟩]⟩,
    ⟨0x008, 1, fun _ => 0x100, [⟨0, 23, .rw, [(0, 0)], false⟩]⟩,
    ⟨0x00C, 1, fun _ => 0x0, [⟨0, 32, .rw, [], false⟩]⟩,
    ⟨0x010, 1, fun _ => 0x0, [⟨0, 32, .rw, [], false⟩]⟩,
    ⟨0x014, 1, fun _ => 0x0, [⟨0, 32, .rol, [], false⟩]⟩,
    ⟨0x018, 1, fun _ => 0x0, [⟨0, 32, .rol, [], false⟩]⟩,
    ⟨0x01C, 1, fun _ => 0x0, [⟨0, 32, .rol, [], false⟩]⟩,
    ⟨0x020, 1, fun _ => 0x7FFFFFFF, [⟨0, 32, .rol, [], false⟩]⟩,
    ⟨0x024, 1, fun _ => 0x80000000, [⟨0, 32, .rol, [], false⟩]⟩,
    ⟨0x028, 1, fun _ => 0x0, [⟨0, 32, .cnt, [], false⟩]⟩,
    ⟨0x02C, 1, fun _ => 0x0, [⟨0, 1, .ro, [], false⟩]⟩,
    ⟨0x030, 1, fun _ => 0x0, [⟨4, 1, .ro, [], false⟩, ⟨3, 1, .ro, [], false⟩, ⟨2, 1, .ro, [], false⟩, ⟨1, 1, .ro, [], false⟩, ⟨0, 1, .ro, [], false⟩]⟩,
    ⟨0x034, 1, fun _ => 0x0, [⟨0, 32, .rol, [], false⟩]⟩]

/-- One TDUH block of the FCT page (03 R99). -/
def rows_tduh : List RegRow :=
  [
    ⟨0x000, 32, fun _ => 0x0, [⟨0, 32, .rol, [], false⟩]⟩]

/-- One FC block of the FCT page (03 R99). -/
def rows_fc : List RegRow :=
  [
    ⟨0x000, 1, fun _ => 0x3E800, [⟨8, 24, .rw, [(0, 999), (10000001, 16777215)], false⟩, ⟨2, 2, .rw, [(3, 3)], false⟩, ⟨1, 1, .rw, [], false⟩, ⟨0, 1, .rw, [], false⟩]⟩,
    ⟨0x004, 1, fun _ => 0x0, [⟨0, 32, .rol, [], false⟩]⟩,
    ⟨0x008, 1, fun _ => 0x0, [⟨0, 32, .rol, [], false⟩]⟩,
    ⟨0x00C, 1, fun _ => 0x0, [⟨0, 16, .rol, [], false⟩]⟩,
    ⟨0x010, 1, fun _ => 0x0, [⟨16, 16, .ro, [], false⟩, ⟨2, 1, .ro, [], false⟩, ⟨1, 1, .ro, [], false⟩, ⟨0, 1, .ro, [], false⟩]⟩]

/-- The FCT page (03 R99; header of 02 R38). -/
def page_fct : PageRow :=
  ⟨0x18000, 0x0, 1, 0x1000, .sys,
    header 0x11 (fun _ => 0x10400001)
      ⟨0x008, 1, fun _ => 0x0, [⟨0, 1, .rw, [], false⟩, ⟨1, 1, .w1s, [], false⟩]⟩
      ⟨0x00C, 1, fun _ => 0x0, [⟨16, 4, .ro, [], false⟩, ⟨0, 16, .ro, [], false⟩]⟩
      [(20, 4), (16, 4), (0, 16)] ++ rows_fct,
    [⟨0x100, 0x40, 16, rows_tdu⟩, ⟨0x800, 0x80, 16, rows_tduh⟩, ⟨0x500, 0x20, 4, rows_fc⟩]⟩

/-- Registers of the ESC page from 0x040 on (04 R120), part 0. -/
def rows_esca : List RegRow :=
  [
    ⟨0x040, 1, fun _ => 0x3FF0001, [⟨16, 12, .rws, [], false⟩, ⟨15, 1, .rws, [], false⟩, ⟨12, 2, .rws, [], false⟩, ⟨0, 12, .rws, [(0, 0)], false⟩]⟩,
    ⟨0x044, 1, fun _ => 0x3FF0001, [⟨0, 32, .ro, [], false⟩]⟩,
    ⟨0x048, 1, fun _ => 0x10, [⟨0, 8, .rws, [], false⟩]⟩,
    ⟨0x04C, 1, fun _ => 0xFF, [⟨0, 8, .rws, [], false⟩]⟩,
    ⟨0x050, 1, fun _ => 0x1F4, [⟨0, 24, .rws, [(0, 499)], false⟩]⟩,
    ⟨0x054, 1, fun _ => 0x0, [⟨0, 24, .rws, [], false⟩]⟩,
    ⟨0x058, 1, fun _ => 0x0, [⟨0, 32, .rw, [], false⟩]⟩,
    ⟨0x060, 1, fun _ => 0x0, [⟨0, 32, .cnt, [], false⟩]⟩,
    ⟨0x064, 1, fun _ => 0x0, [⟨0, 1, .ro, [], false⟩]⟩,
    ⟨0x068, 1, fun _ => 0x0, [⟨0, 32, .cnt, [], false⟩]⟩,
    ⟨0x06C, 1, fun _ => 0x0, [⟨0, 1, .ro, [], false⟩]⟩,
    ⟨0x070, 1, fun _ => 0x0, [⟨0, 32, .cnt, [], false⟩]⟩,
    ⟨0x074, 1, fun _ => 0x0, [⟨0, 1, .ro, [], false⟩]⟩,
    ⟨0x078, 1, fun _ => 0x0, [⟨0, 32, .cnt, [], false⟩]⟩,
    ⟨0x07C, 1, fun _ => 0x0, [⟨0, 1, .ro, [], false⟩]⟩,
    ⟨0x080, 1, fun _ => 0x0, [⟨0, 32, .cnt, [], false⟩]⟩,
    ⟨0x084, 1, fun _ => 0x0, [⟨0, 1, .ro, [], false⟩]⟩,
    ⟨0x088, 1, fun _ => 0x0, [⟨0, 32, .cnt, [], false⟩]⟩,
    ⟨0x08C, 1, fun _ => 0x0, [⟨0, 1, .ro, [], false⟩]⟩,
    ⟨0x090, 1, fun _ => 0x0, [⟨0, 32, .cnt, [], false⟩]⟩,
    ⟨0x094, 1, fun _ => 0x0, [⟨0, 1, .ro, [], false⟩]⟩,
    ⟨0x098, 1, fun _ => 0x0, [⟨0, 32, .cnt, [], false⟩]⟩,
    ⟨0x09C, 1, fun _ => 0x0, [⟨0, 1, .ro, [], false⟩]⟩,
    ⟨0x0A0, 1, fun _ => 0x0, [⟨12, 1, .rw, [], false⟩, ⟨0, 12, .rw, [], false⟩]⟩]

/-- Registers of the ESC page from 0x040 on (04 R120), part 1. -/
def rows_escb : List RegRow :=
  [
    ⟨0x0A4, 1, fun _ => 0x0, [⟨0, 32, .rw, [], false⟩]⟩,
    ⟨0x0B0, 4, fun _ => 0x0, [⟨0, 32, .rws, [], false⟩]⟩,
    ⟨0x0C0, 24, fun _ => 0x0, [⟨0, 32, .rws, [], false⟩]⟩]

/-- Registers of the ESC page from 0x040 on (04 R120). -/
def rows_esc : List RegRow := rows_esca ++ rows_escb

/-- One LG block of the ESC page (04 R120). -/
def rows_lg : List RegRow :=
  [
    ⟨0x000, 1, fun g => g * 2^24 + g * 2^16 + 7, [⟨31, 1, .rws, [], false⟩, ⟨24, 5, .rws, [], false⟩, ⟨16, 5, .rws, [], false⟩, ⟨12, 3, .rws, [], false⟩, ⟨0, 7, .rws, [], false⟩]⟩,
    ⟨0x004, 1, fun g => 0xF0000 + 16 * g, [⟨16, 9, .rws, [], false⟩, ⟨0, 9, .rws, [], false⟩]⟩,
    ⟨0x008, 1, fun _ => 0x1F4, [⟨0, 24, .rws, [(0, 499)], false⟩]⟩,
    ⟨0x00C, 1, fun _ => 0x0, [⟨0, 23, .rws, [], false⟩]⟩,
    ⟨0x010, 1, fun _ => 0xF0, [⟨0, 23, .rws, [(0, 0), (8388353, 8388607)], false⟩]⟩,
    ⟨0x014, 1, fun _ => 0x0, [⟨31, 1, .rws, [], false⟩, ⟨0, 8, .rws, [], false⟩]⟩,
    ⟨0x018, 1, fun _ => 0x0, [⟨16, 12, .ro, [], false⟩, ⟨0, 8, .ro, [], false⟩]⟩]

/-- One TOUT block of the ESC page (04 R120). -/
def rows_tout : List RegRow :=
  [
    ⟨0x000, 1, fun _ => 0x64, [⟨31, 1, .rw, [], false⟩, ⟨30, 1, .rw, [], false⟩, ⟨28, 2, .rw, [(3, 3)], false⟩, ⟨27, 1, .rw, [], false⟩, ⟨0, 24, .rw, [(0, 0)], false⟩]⟩,
    ⟨0x004, 1, fun _ => 0x0, [⟨0, 32, .rw, [(16777216, 4278190080)], false⟩]⟩,
    ⟨0x008, 1, fun _ => 0x1000000, [⟨24, 8, .rw, [(0, 0)], false⟩, ⟨0, 24, .rw, [], false⟩]⟩,
    ⟨0x00C, 1, fun _ => 0x0, [⟨0, 30, .rw, [(1000000000, 1073741823)], false⟩]⟩,
    ⟨0x010, 1, fun _ => 0x0, [⟨0, 32, .rw, [], false⟩]⟩,
    ⟨0x014, 1, fun _ => 0x0, [⟨0, 32, .rw, [], false⟩]⟩,
    ⟨0x018, 1, fun _ => 0x0, [⟨2, 1, .ro, [], false⟩, ⟨1, 1, .ro, [], false⟩, ⟨0, 1, .ro, [], false⟩]⟩]

/-- One NTT block of the ESC page (04 R120). -/
def rows_ntt : List RegRow :=
  [
    ⟨0x000, 1, fun _ => 0x0, [⟨0, 30, .rw, [(1000000000, 1073741823)], false⟩]⟩,
    ⟨0x004, 1, fun _ => 0x0, [⟨0, 32, .rw, [], false⟩]⟩,
    ⟨0x008, 1, fun _ => 0x0, [⟨0, 32, .rw, [], false⟩]⟩,
    ⟨0x00C, 1, fun _ => 0x0, [⟨31, 1, .w1s, [], false⟩, ⟨2, 1, .ro, [], false⟩, ⟨1, 1, .rw, [], false⟩, ⟨0, 1, .ro, [], false⟩]⟩]

/-- The ESC page (04 R120; header of 02 R38). -/
def page_esc : PageRow :=
  ⟨0x20000, 0x0, 1, 0x1000, .sys,
    header 0x20 (fun _ => 0x2044000F)
      ⟨0x008, 1, fun _ => 0x0, [⟨0, 1, .rw, [], false⟩, ⟨1, 1, .w1s, [], false⟩]⟩
      ⟨0x00C, 1, fun _ => 0x0, [⟨6, 1, .ro, [], false⟩, ⟨5, 1, .ro, [], false⟩, ⟨4, 1, .ro, [], false⟩, ⟨3, 1, .ro, [], false⟩, ⟨2, 1, .ro, [], false⟩, ⟨1, 1, .ro, [], false⟩, ⟨0, 1, .ro, [], false⟩]⟩
      [(6, 1), (5, 1), (4, 1), (3, 1), (2, 1), (1, 1), (0, 1)] ++ rows_esc,
    [⟨0x200, 0x20, 32, rows_lg⟩, ⟨0x600, 0x20, 4, rows_tout⟩, ⟨0x700, 0x10, 4, rows_ntt⟩]⟩

/-- One CH block (03 R98). -/
def rows_ch : List RegRow :=
  [
    ⟨0x000, 1, fun _ => 0x71, [⟨4, 3, .rw, [], false⟩, ⟨3, 1, .rw, [], false⟩, ⟨2, 1, .rw, [], false⟩, ⟨1, 1, .rw, [], false⟩, ⟨0, 1, .rw, [], false⟩]⟩,
    ⟨0x004, 1, fun _ => 0x3000240, [⟨16, 10, .rw, [], false⟩, ⟨0, 10, .rw, [], false⟩]⟩,
    ⟨0x008, 1, fun _ => 0x0, [⟨16, 7, .ro, [], false⟩, ⟨8, 8, .ro, [], false⟩, ⟨0, 8, .ro, [], false⟩]⟩,
    ⟨0x00C, 1, fun _ => 0x0, [⟨8, 7, .ro, [], false⟩, ⟨2, 1, .ro, [], false⟩, ⟨1, 1, .ro, [], false⟩, ⟨0, 1, .ro, [], false⟩]⟩,
    ⟨0x010, 1, fun _ => 0x0, [⟨0, 32, .cnt, [], false⟩]⟩,
    ⟨0x014, 1, fun _ => 0x0, [⟨0, 1, .ro, [], false⟩]⟩,
    ⟨0x018, 1, fun _ => 0x0, [⟨0, 32, .cnt, [], false⟩]⟩,
    ⟨0x01C, 1, fun _ => 0x0, [⟨0, 1, .ro, [], false⟩]⟩,
    ⟨0x020, 1, fun _ => 0x0, [⟨0, 32, .cnt, [], false⟩]⟩,
    ⟨0x024, 1, fun _ => 0x0, [⟨0, 1, .ro, [], false⟩]⟩,
    ⟨0x028, 1, fun _ => 0x0, [⟨0, 32, .cnt, [], false⟩]⟩,
    ⟨0x02C, 1, fun _ => 0x0, [⟨0, 1, .ro, [], false⟩]⟩,
    ⟨0x030, 1, fun _ => 0x0, [⟨0, 32, .cnt, [], false⟩]⟩,
    ⟨0x034, 1, fun _ => 0x0, [⟨0, 1, .ro, [], false⟩]⟩,
    ⟨0x038, 1, fun _ => 0x0, [⟨0, 32, .cnt, [], false⟩]⟩,
    ⟨0x03C, 1, fun _ => 0x0, [⟨0, 1, .ro, [], false⟩]⟩,
    ⟨0x040, 1, fun _ => 0x0, [⟨31, 1, .wo, [], false⟩, ⟨0, 7, .ro, [], false⟩]⟩,
    ⟨0x048, 1, fun _ => 0x0, [⟨0, 32, .rol, [], false⟩]⟩,
    ⟨0x04C, 1, fun _ => 0x0, [⟨0, 32, .rol, [], false⟩]⟩]

/-- The region of 02 R34 that holds the CH blocks (03 R98). -/
def page_cha : PageRow :=
  ⟨0x100000, 0, 1, 0x20000, .chan, [], [⟨0, 0x100, 512, rows_ch⟩]⟩

end Sys2Proof.Machine
end

