-- ==== Sys2Proof/Machine/RegMapB.lean ====
section
/-!
DEFINITION. The register tables of the pages VAT, RET, REJ, ACQ, MSK, STQ, PRS, QT, row by row from the spec.
A row holds its offset, its array length, its reset value by instance or block number, and its fields
(lowest bit, width, access, reserved encodings, protected).
-/

namespace Sys2Proof.Machine

/-- Registers of the VAT page from 0x040 on (05 R149), part 0. -/
def rows_vata : List RegRow :=
  [
    ⟨0x040, 1, fun _ => 0x1800, [⟨0, 13, .rw, [(6145, 8191)], false⟩]⟩,
    ⟨0x044, 1, fun _ => 0x100, [⟨0, 13, .rw, [(6145, 8191)], false⟩]⟩,
    ⟨0x048, 1, fun _ => 0x1800, [⟨31, 1, .wo, [], false⟩, ⟨16, 8, .ro, [], false⟩, ⟨0, 13, .ro, [], false⟩]⟩,
    ⟨0x04C, 1, fun _ => 0x0, [⟨31, 1, .wo, [], false⟩, ⟨0, 10, .ro, [], false⟩]⟩,
    ⟨0x060, 1, fun _ => 0x0, [⟨0, 32, .cnt, [], false⟩]⟩,
    ⟨0x064, 1, fun _ => 0x0, [⟨0, 1, .ro, [], false⟩]⟩,
    ⟨0x068, 1, fun _ => 0x0, [⟨0, 32, .cnt, [], false⟩]⟩,
    ⟨0x06C, 1, fun _ => 0x0, [⟨0, 1, .ro, [], false⟩]⟩,
    ⟨0x070, 1, fun _ => 0x0, [⟨0, 32, .cnt, [], false⟩]⟩,
    ⟨0x074, 1, fun _ => 0x0, [⟨0, 1, .ro, [], false⟩]⟩,
    ⟨0x078, 1, fun _ => 0x0, [⟨0, 32, .cnt, [], false⟩]⟩,
    ⟨0x07C, 1, fun _ => 0x0, [⟨0, 1, .ro, [], false⟩]⟩,
    ⟨0x080, 1, fun _ => 0x0, [⟨0, 32, .cnt, [], false⟩]⟩,
    ⟨0x084, 1, fun _ => 0x0, [⟨0, 1, .ro, [], false⟩]⟩,
    ⟨0x088, 1, fun _ => 0x0, [⟨0, 32, .cnt, [], false⟩]⟩,
    ⟨0x08C, 1, fun _ => 0x0, [⟨0, 1, .ro, [], false⟩]⟩,
    ⟨0x090, 1, fun _ => 0x0, [⟨0, 32, .cnt, [], false⟩]⟩,
    ⟨0x094, 1, fun _ => 0x0, [⟨0, 1, .ro, [], false⟩]⟩,
    ⟨0x098, 1, fun _ => 0x0, [⟨0, 32, .cnt, [], false⟩]⟩,
    ⟨0x09C, 1, fun _ => 0x0, [⟨0, 1, .ro, [], false⟩]⟩,
    ⟨0x100, 1, fun _ => 0x0, [⟨16, 8, .rw, [], false⟩, ⟨0, 9, .rw, [], false⟩]⟩,
    ⟨0x104, 8, fun _ => 0x0, [⟨0, 32, .rol, [], false⟩]⟩,
    ⟨0x124, 1, fun _ => 0x0, [⟨1, 11, .rw, [], false⟩]⟩,
    ⟨0x128, 1, fun _ => 0x0, [⟨16, 16, .rw, [], false⟩, ⟨0, 16, .rw, [], false⟩]⟩]

/-- Registers of the VAT page from 0x040 on (05 R149), part 1. -/
def rows_vatb : List RegRow :=
  [
    ⟨0x12C, 1, fun _ => 0x0, [⟨31, 1, .ro, [], false⟩, ⟨0, 13, .ro, [], false⟩]⟩]

/-- Registers of the VAT page from 0x040 on (05 R149). -/
def rows_vat : List RegRow := rows_vata ++ rows_vatb

/-- One VLG block of the VAT page (05 R149). -/
def rows_vlg : List RegRow :=
  [
    ⟨0x000, 1, fun _ => 0x3000F, [⟨16, 8, .rws, [], false⟩, ⟨0, 8, .rws, [], false⟩]⟩,
    ⟨0x004, 1, fun _ => 0xA6000000, [⟨28, 4, .rws, [(0, 5), (13, 15)], false⟩, ⟨24, 4, .rws, [(13, 15)], false⟩, ⟨17, 1, .rws, [], false⟩, ⟨16, 1, .rws, [], false⟩]⟩,
    ⟨0x008, 1, fun _ => 0x0, [⟨0, 32, .rws, [], false⟩]⟩,
    ⟨0x00C, 1, fun _ => 0x82200008, [⟨28, 4, .rws, [(0, 5), (10, 15)], false⟩, ⟨24, 4, .rws, [(5, 15)], false⟩, ⟨20, 2, .rws, [(3, 3)], false⟩, ⟨16, 1, .rws, [], false⟩, ⟨0, 16, .rws, [], false⟩]⟩,
    ⟨0x010, 1, fun _ => 0x3000F, [⟨16, 8, .ro, [], false⟩, ⟨0, 8, .ro, [], false⟩]⟩,
    ⟨0x014, 1, fun _ => 0x118, [⟨0, 11, .ro, [], false⟩]⟩]

/-- One ENGS block of the VAT page (05 R149). -/
def rows_engs : List RegRow :=
  [
    ⟨0x000, 1, fun _ => 0x18000000, [⟨31, 1, .w1c, [], false⟩, ⟨16, 13, .ro, [], false⟩, ⟨0, 10, .ro, [], false⟩]⟩]

/-- One ENGH block of the VAT page (05 R149). -/
def rows_engh : List RegRow :=
  [
    ⟨0x000, 1, fun _ => 0x0, [⟨16, 10, .ro, [], false⟩, ⟨0, 13, .ro, [], false⟩]⟩]

/-- The VAT page (05 R149; header of 02 R38). -/
def page_vat : PageRow :=
  ⟨0x30000, 0x0, 1, 0x1000, .vat,
    header 0x30 (fun _ => 0x202C0F)
      ⟨0x008, 1, fun _ => 0x0, [⟨2, 1, .rw, [], false⟩, ⟨1, 1, .w1s, [], false⟩, ⟨0, 1, .rw, [], false⟩]⟩
      ⟨0x00C, 1, fun _ => 0x0, [⟨3, 1, .ro, [], false⟩, ⟨2, 1, .ro, [], false⟩, ⟨1, 1, .ro, [], false⟩, ⟨0, 1, .ro, [], false⟩]⟩
      [(3, 1), (2, 1), (1, 1), (0, 1)] ++ rows_vat,
    [⟨0x200, 0x20, 32, rows_vlg⟩, ⟨0x800, 0x4, 256, rows_engs⟩, ⟨0xC00, 0x4, 256, rows_engh⟩]⟩

/-- Registers of the RET page from 0x040 on (06 R174). -/
def rows_ret : List RegRow :=
  [
    ⟨0x040, 1, fun _ => 0x10011E43, [⟨0, 32, .rws, [(0, 268435455), (536870912, 4294967295)], false⟩]⟩,
    ⟨0x044, 1, fun _ => 0x10011E43, [⟨0, 32, .ro, [], false⟩]⟩,
    ⟨0x048, 1, fun _ => 0x20, [⟨0, 6, .rw, [(36, 63)], false⟩]⟩,
    ⟨0x04C, 1, fun _ => 0x41C80000, [⟨0, 32, .ro, [], false⟩]⟩,
    ⟨0x050, 1, fun _ => 0x3E8, [⟨0, 16, .rws, [], false⟩]⟩,
    ⟨0x060, 1, fun _ => 0x0, [⟨0, 32, .cnt, [], false⟩]⟩,
    ⟨0x064, 1, fun _ => 0x0, [⟨0, 1, .ro, [], false⟩]⟩,
    ⟨0x068, 1, fun _ => 0x0, [⟨0, 32, .cnt, [], false⟩]⟩,
    ⟨0x06C, 1, fun _ => 0x0, [⟨0, 1, .ro, [], false⟩]⟩,
    ⟨0x070, 1, fun _ => 0x0, [⟨0, 32, .cnt, [], false⟩]⟩,
    ⟨0x074, 1, fun _ => 0x0, [⟨0, 1, .ro, [], false⟩]⟩,
    ⟨0x078, 1, fun _ => 0x0, [⟨0, 32, .cnt, [], false⟩]⟩,
    ⟨0x07C, 1, fun _ => 0x0, [⟨0, 1, .ro, [], false⟩]⟩,
    ⟨0x080, 1, fun _ => 0x0, [⟨0, 32, .cnt, [], false⟩]⟩,
    ⟨0x084, 1, fun _ => 0x0, [⟨0, 1, .ro, [], false⟩]⟩,
    ⟨0x088, 1, fun _ => 0x0, [⟨0, 32, .cnt, [], false⟩]⟩,
    ⟨0x08C, 1, fun _ => 0x0, [⟨0, 1, .ro, [], false⟩]⟩,
    ⟨0x090, 1, fun _ => 0x0, [⟨0, 32, .cnt, [], false⟩]⟩,
    ⟨0x094, 1, fun _ => 0x0, [⟨0, 1, .ro, [], false⟩]⟩,
    ⟨0x098, 1, fun _ => 0x0, [⟨0, 32, .cnt, [], false⟩]⟩,
    ⟨0x09C, 1, fun _ => 0x0, [⟨0, 1, .ro, [], false⟩]⟩,
    ⟨0x0A0, 1, fun _ => 0x0, [⟨0, 32, .cnt, [], false⟩]⟩,
    ⟨0x0A4, 1, fun _ => 0x0, [⟨0, 1, .ro, [], false⟩]⟩,
    ⟨0x100, 32, fun _ => 0x200020, [⟨16, 12, .rws, [], false⟩, ⟨0, 12, .rws, [], false⟩]⟩]

/-- One RLG block of the RET page (06 R174). -/
def rows_rlg : List RegRow :=
  [
    ⟨0x000, 1, fun _ => 0x2100002, [⟨24, 8, .rws, [], false⟩, ⟨16, 6, .rws, [], false⟩, ⟨8, 1, .rws, [], false⟩, ⟨4, 2, .rws, [(3, 3)], false⟩, ⟨0, 2, .rws, [(3, 3)], false⟩]⟩,
    ⟨0x004, 1, fun _ => 0x200, [⟨0, 16, .rws, [], false⟩]⟩,
    ⟨0x008, 1, fun _ => 0x0, [⟨0, 32, .rws, [], false⟩]⟩,
    ⟨0x00C, 1, fun _ => 0x2000400, [⟨16, 16, .rws, [], false⟩, ⟨0, 16, .rws, [], false⟩]⟩,
    ⟨0x010, 1, fun _ => 0xA00, [⟨0, 23, .rws, [], false⟩]⟩,
    ⟨0x014, 1, fun _ => 0x0, [⟨0, 32, .ro, [], false⟩]⟩]

/-- The RET page (06 R174; header of 02 R38). -/
def page_ret : PageRow :=
  ⟨0x31000, 0x0, 1, 0x1000, .vat,
    header 0x31 (fun _ => 0x4770000F)
      ⟨0x008, 1, fun _ => 0x0, [⟨1, 1, .w1s, [], false⟩, ⟨0, 1, .rw, [], false⟩]⟩
      ⟨0x00C, 1, fun _ => 0x6, [⟨2, 1, .ro, [], false⟩, ⟨1, 1, .ro, [], false⟩, ⟨0, 1, .ro, [], false⟩]⟩
      [(4, 1), (3, 1), (2, 1), (1, 1), (0, 1)] ++ rows_ret,
    [⟨0x200, 0x20, 32, rows_rlg⟩]⟩

/-- Registers of the REJ page from 0x040 on (06 R177). -/
def rows_rej : List RegRow :=
  [
    ⟨0x060, 1, fun _ => 0x0, [⟨0, 32, .cnt, [], false⟩]⟩,
    ⟨0x064, 1, fun _ => 0x0, [⟨0, 1, .ro, [], false⟩]⟩]

/-- One FG block of the REJ page (06 R177). -/
def rows_fg : List RegRow :=
  [
    ⟨0x000, 1, fun _ => 0x0, [⟨16, 13, .rws, [(4097, 8191)], false⟩, ⟨0, 12, .rws, [], false⟩]⟩,
    ⟨0x004, 1, fun _ => 0x1008, [⟨31, 1, .rws, [], false⟩, ⟨8, 6, .rws, [], false⟩, ⟨0, 6, .rws, [], false⟩]⟩]

/-- One RN block of the REJ page (06 R177). -/
def rows_rn : List RegRow :=
  [
    ⟨0x000, 1, fun _ => 0x20203, [⟨31, 1, .rws, [], false⟩, ⟨16, 4, .rws, [(0, 1), (9, 15)], false⟩, ⟨8, 4, .rws, [(0, 0), (9, 15)], false⟩, ⟨0, 6, .rws, [], false⟩]⟩,
    ⟨0x004, 1, fun _ => 0x20203, [⟨0, 32, .ro, [], false⟩]⟩,
    ⟨0x008, 1, fun _ => 0x0, [⟨0, 32, .cnt, [], false⟩]⟩,
    ⟨0x00C, 1, fun _ => 0x0, [⟨0, 1, .ro, [], false⟩]⟩,
    ⟨0x010, 1, fun _ => 0x0, [⟨0, 32, .cnt, [], false⟩]⟩,
    ⟨0x014, 1, fun _ => 0x0, [⟨0, 1, .ro, [], false⟩]⟩]

/-- The REJ page (06 R177; header of 02 R38). -/
def page_rej : PageRow :=
  ⟨0x32000, 0x0, 1, 0x1000, .vat,
    header 0x32 (fun _ => 0x40880003)
      ⟨0x008, 1, fun _ => 0x0, [⟨0, 1, .rw, [], false⟩, ⟨1, 1, .w1s, [], false⟩]⟩
      ⟨0x00C, 1, fun _ => 0x0, [⟨0, 1, .ro, [], false⟩]⟩
      [(0, 1)] ++ rows_rej,
    [⟨0x200, 0x20, 32, rows_fg⟩, ⟨0x600, 0x20, 64, rows_rn⟩]⟩

/-- Registers of the ACQ page from 0x040 on (07 R207), part 0. -/
def rows_acqa : List RegRow :=
  [
    ⟨0x040, 1, fun _ => 0x0, [⟨2, 1, .rws, [], false⟩, ⟨0, 2, .rws, [(3, 3)], false⟩]⟩,
    ⟨0x044, 1, fun _ => 0x0, [⟨1, 1, .rws, [], false⟩, ⟨0, 1, .rws, [], false⟩]⟩,
    ⟨0x080, 1, fun _ => 0x3, [⟨8, 2, .rws, [], false⟩, ⟨0, 3, .rws, [], false⟩]⟩,
    ⟨0x048, 1, fun _ => 0x0, [⟨4, 2, .ro, [], false⟩, ⟨2, 1, .ro, [], false⟩, ⟨0, 2, .ro, [], false⟩]⟩,
    ⟨0x04C, 1, fun _ => 0x27BC86A, [⟨0, 30, .rws, [(0, 999999), (1000000001, 1073741823)], false⟩]⟩,
    ⟨0x050, 1, fun _ => 0xAAAAAAAB, [⟨0, 32, .rws, [], false⟩]⟩,
    ⟨0x054, 1, fun _ => 0x0, [⟨0, 32, .rws, [], false⟩]⟩,
    ⟨0x058, 1, fun _ => 0x0, [⟨0, 32, .rws, [], false⟩]⟩,
    ⟨0x05C, 1, fun _ => 0x0, [⟨0, 30, .rws, [(1000000000, 1073741823)], false⟩]⟩,
    ⟨0x060, 1, fun _ => 0x0, [⟨0, 32, .rws, [(500000001, 3794967295)], false⟩]⟩,
    ⟨0x064, 1, fun _ => 0x0, [⟨0, 30, .ro, [], false⟩]⟩,
    ⟨0x068, 1, fun _ => 0x0, [⟨0, 32, .cnt, [], false⟩]⟩,
    ⟨0x06C, 1, fun _ => 0x0, [⟨0, 1, .ro, [], false⟩]⟩,
    ⟨0x070, 1, fun _ => 0x0, [⟨0, 32, .rol, [], false⟩]⟩,
    ⟨0x074, 1, fun _ => 0x0, [⟨0, 32, .rol, [], false⟩]⟩,
    ⟨0x078, 1, fun _ => 0x0, [⟨0, 32, .ro, [], false⟩]⟩,
    ⟨0x090, 1, fun _ => 0x100, [⟨9, 1, .rw, [], false⟩, ⟨8, 1, .rw, [], false⟩, ⟨7, 1, .rw, [], false⟩, ⟨6, 1, .rw, [], false⟩, ⟨2, 4, .rw, [], false⟩, ⟨0, 2, .rw, [], false⟩]⟩,
    ⟨0x094, 1, fun _ => 0x0, [⟨0, 2, .rw, [], false⟩]⟩,
    ⟨0x098, 1, fun _ => 0x3E8, [⟨0, 16, .rw, [(0, 0)], false⟩]⟩,
    ⟨0x0A0, 4, fun _ => 0x0, [⟨0, 16, .rw, [(8193, 57343)], false⟩]⟩,
    ⟨0x0B0, 1, fun _ => 0x32, [⟨24, 4, .rw, [], false⟩, ⟨16, 4, .rw, [], false⟩, ⟨0, 8, .rw, [(0, 9)], false⟩]⟩,
    ⟨0x0C0, 1, fun _ => 0x64, [⟨0, 16, .rws, [], false⟩]⟩,
    ⟨0x0C4, 1, fun _ => 0x64, [⟨0, 24, .rws, [], false⟩]⟩,
    ⟨0x0C8, 1, fun _ => 0x0, [⟨0, 16, .rws, [], false⟩]⟩]

/-- Registers of the ACQ page from 0x040 on (07 R207), part 1. -/
def rows_acqb : List RegRow :=
  [
    ⟨0x0CC, 1, fun _ => 0x0, [⟨0, 14, .rws, [], false⟩]⟩,
    ⟨0x0D0, 1, fun _ => 0x0, [⟨0, 14, .rws, [], false⟩]⟩,
    ⟨0x0D4, 1, fun _ => 0x0, [⟨0, 24, .ro, [], false⟩]⟩,
    ⟨0x0D8, 1, fun _ => 0x0, [⟨0, 14, .ro, [], false⟩]⟩,
    ⟨0x0DC, 1, fun _ => 0x0, [⟨0, 26, .ro, [], false⟩]⟩,
    ⟨0x100, 1, fun _ => 0x0, [⟨0, 32, .cnt, [], false⟩]⟩,
    ⟨0x104, 1, fun _ => 0x0, [⟨0, 1, .ro, [], false⟩]⟩,
    ⟨0x108, 1, fun _ => 0x0, [⟨0, 32, .cnt, [], false⟩]⟩,
    ⟨0x10C, 1, fun _ => 0x0, [⟨0, 1, .ro, [], false⟩]⟩,
    ⟨0x110, 1, fun _ => 0x0, [⟨0, 32, .cnt, [], false⟩]⟩,
    ⟨0x114, 1, fun _ => 0x0, [⟨0, 1, .ro, [], false⟩]⟩,
    ⟨0x118, 1, fun _ => 0x0, [⟨0, 32, .cnt, [], false⟩]⟩,
    ⟨0x11C, 1, fun _ => 0x0, [⟨0, 1, .ro, [], false⟩]⟩,
    ⟨0x120, 1, fun _ => 0x0, [⟨0, 32, .cnt, [], false⟩]⟩,
    ⟨0x124, 1, fun _ => 0x0, [⟨0, 1, .ro, [], false⟩]⟩,
    ⟨0x128, 1, fun _ => 0x0, [⟨0, 32, .cnt, [], false⟩]⟩,
    ⟨0x12C, 1, fun _ => 0x0, [⟨0, 1, .ro, [], false⟩]⟩,
    ⟨0x130, 1, fun _ => 0x0, [⟨0, 32, .cnt, [], false⟩]⟩,
    ⟨0x134, 1, fun _ => 0x0, [⟨0, 1, .ro, [], false⟩]⟩,
    ⟨0x138, 1, fun _ => 0x0, [⟨0, 32, .cnt, [], false⟩]⟩,
    ⟨0x13C, 1, fun _ => 0x0, [⟨0, 1, .ro, [], false⟩]⟩,
    ⟨0x140, 1, fun _ => 0x0, [⟨0, 32, .cnt, [], false⟩]⟩,
    ⟨0x144, 1, fun _ => 0x0, [⟨0, 1, .ro, [], false⟩]⟩,
    ⟨0x148, 1, fun _ => 0x0, [⟨0, 32, .cnt, [], false⟩]⟩]

/-- Registers of the ACQ page from 0x040 on (07 R207), part 2. -/
def rows_acqc : List RegRow :=
  [
    ⟨0x14C, 1, fun _ => 0x0, [⟨0, 1, .ro, [], false⟩]⟩,
    ⟨0x150, 1, fun _ => 0x0, [⟨0, 32, .rol, [], false⟩]⟩,
    ⟨0x154, 1, fun _ => 0x0, [⟨0, 32, .rol, [], false⟩]⟩,
    ⟨0x158, 1, fun _ => 0x0, [⟨0, 32, .ro, [], false⟩]⟩,
    ⟨0x15C, 1, fun _ => 0x0, [⟨16, 6, .ro, [], false⟩, ⟨0, 10, .ro, [], false⟩]⟩]

/-- Registers of the ACQ page from 0x040 on (07 R207). -/
def rows_acq : List RegRow := rows_acqa ++ rows_acqb ++ rows_acqc

/-- One REG block of the ACQ page (07 R207). -/
def rows_reg : List RegRow :=
  [
    ⟨0x000, 1, fun _ => 0x1FF0000, [⟨16, 9, .rws, [], false⟩, ⟨0, 9, .rws, [], false⟩]⟩,
    ⟨0x004, 1, fun _ => 0xFFF0000, [⟨16, 12, .rws, [], false⟩, ⟨0, 12, .rws, [], false⟩]⟩,
    ⟨0x008, 1, fun _ => 0xF0000, [⟨31, 1, .rws, [], false⟩, ⟨20, 1, .rws, [], false⟩, ⟨16, 4, .rws, [], false⟩, ⟨0, 5, .rws, [], false⟩]⟩]

/-- The ACQ page (07 R207; header of 02 R38). -/
def page_acq : PageRow :=
  ⟨0x40000, 0x0, 1, 0x1000, .sys,
    header 0x40 (fun _ => 0x1054000F)
      ⟨0x008, 1, fun _ => 0x0, [⟨3, 1, .w1s, [], false⟩, ⟨2, 1, .w1s, [], false⟩, ⟨1, 1, .w1s, [], false⟩, ⟨0, 1, .rw, [], false⟩]⟩
      ⟨0x00C, 1, fun _ => 0x0, [⟨5, 3, .ro, [], false⟩, ⟨4, 1, .ro, [], false⟩, ⟨3, 1, .ro, [], false⟩, ⟨2, 1, .ro, [], false⟩, ⟨1, 1, .ro, [], false⟩, ⟨0, 1, .ro, [], false⟩]⟩
      [(11, 1), (10, 1), (9, 1), (8, 1), (7, 1), (6, 1), (5, 1), (4, 1), (3, 1), (2, 1), (1, 1), (0, 1)] ++ rows_acq,
    [⟨0x200, 0x10, 16, rows_reg⟩]⟩

/-- Registers of the MSK page from 0x040 on (07 R209). -/
def rows_msk : List RegRow :=
  [
    ⟨0x040, 1, fun _ => 0x10000, [⟨24, 1, .rws, [], false⟩, ⟨16, 5, .rws, [(0, 0), (17, 31)], false⟩, ⟨0, 1, .rws, [], false⟩]⟩,
    ⟨0x044, 1, fun _ => 0x1, [⟨0, 16, .rws, [(0, 0)], false⟩]⟩,
    ⟨0x048, 1, fun _ => 0x3000000, [⟨12, 15, .rws, [], false⟩]⟩,
    ⟨0x04C, 1, fun _ => 0x3000000, [⟨12, 15, .rws, [], false⟩]⟩,
    ⟨0x050, 1, fun _ => 0x100, [⟨0, 11, .rws, [(0, 0), (1025, 2047)], false⟩]⟩,
    ⟨0x054, 1, fun _ => 0x10000, [⟨0, 32, .ro, [], false⟩]⟩,
    ⟨0x060, 1, fun _ => 0x0, [⟨0, 32, .cnt, [], false⟩]⟩,
    ⟨0x064, 1, fun _ => 0x0, [⟨0, 1, .ro, [], false⟩]⟩,
    ⟨0x068, 1, fun _ => 0x0, [⟨0, 16, .ro, [], false⟩]⟩,
    ⟨0x06C, 1, fun _ => 0x0, [⟨0, 32, .ro, [], false⟩]⟩,
    ⟨0x070, 1, fun _ => 0x0, [⟨0, 32, .rol, [], false⟩]⟩,
    ⟨0x074, 1, fun _ => 0x0, [⟨0, 32, .rol, [], false⟩]⟩]

/-- The MSK page (07 R209; header of 02 R38). -/
def page_msk : PageRow :=
  ⟨0x41000, 0x0, 1, 0x1000, .sys,
    header 0x41 (fun _ => 0x2000003)
      ⟨0x008, 1, fun _ => 0x0, [⟨0, 1, .rw, [], false⟩, ⟨1, 1, .w1s, [], false⟩]⟩
      ⟨0x00C, 1, fun _ => 0x0, [⟨1, 1, .ro, [], false⟩, ⟨0, 1, .ro, [], false⟩]⟩
      [(0, 1)] ++ rows_msk,
    []⟩

/-- Registers of the STQ page from 0x040 on (08 R229). -/
def rows_stq : List RegRow :=
  [
    ⟨0x040, 1, fun _ => 0x800, [⟨0, 14, .ro, [], false⟩]⟩,
    ⟨0x044, 1, fun _ => 0x800, [⟨0, 14, .ro, [], false⟩]⟩,
    ⟨0x048, 1, fun _ => 0x0, [⟨0, 14, .ro, [], false⟩]⟩,
    ⟨0x04C, 1, fun _ => 0x100, [⟨0, 14, .rw, [], false⟩]⟩,
    ⟨0x050, 1, fun _ => 0x800, [⟨31, 1, .wo, [], false⟩, ⟨0, 14, .ro, [], false⟩]⟩,
    ⟨0x054, 1, fun _ => 0x0, [⟨0, 14, .ro, [], false⟩]⟩,
    ⟨0x060, 1, fun _ => 0x0, [⟨0, 32, .cnt, [], false⟩]⟩,
    ⟨0x064, 1, fun _ => 0x0, [⟨0, 1, .ro, [], false⟩]⟩,
    ⟨0x068, 1, fun _ => 0x0, [⟨0, 32, .cnt, [], false⟩]⟩,
    ⟨0x06C, 1, fun _ => 0x0, [⟨0, 1, .ro, [], false⟩]⟩,
    ⟨0x070, 1, fun _ => 0x0, [⟨0, 32, .cnt, [], false⟩]⟩,
    ⟨0x074, 1, fun _ => 0x0, [⟨0, 1, .ro, [], false⟩]⟩,
    ⟨0x078, 1, fun _ => 0x0, [⟨0, 32, .cnt, [], false⟩]⟩,
    ⟨0x07C, 1, fun _ => 0x0, [⟨0, 1, .ro, [], false⟩]⟩]

/-- The STQ page (08 R229; header of 02 R38). -/
def page_stq : PageRow :=
  ⟨0x50000, 0x0, 1, 0x1000, .sys,
    header 0x50 (fun _ => 0xE5200001)
      ⟨0x008, 1, fun _ => 0x0, [⟨0, 1, .rw, [], false⟩, ⟨1, 1, .w1s, [], false⟩]⟩
      ⟨0x00C, 1, fun _ => 0x0, [⟨2, 1, .ro, [], false⟩, ⟨1, 1, .ro, [], false⟩, ⟨0, 1, .ro, [], false⟩]⟩
      [(2, 1), (1, 1), (0, 1)] ++ rows_stq,
    []⟩

/-- Registers of the PRS page from 0x040 on (08 R230). -/
def rows_prs : List RegRow :=
  [
    ⟨0x040, 1, fun _ => 0x100, [⟨0, 9, .rw, [(0, 127), (257, 511)], false⟩]⟩,
    ⟨0x044, 1, fun _ => 0xFA0, [⟨0, 20, .rw, [(0, 99), (1000001, 1048575)], false⟩]⟩,
    ⟨0x048, 1, fun _ => 0x0, [⟨0, 32, .ro, [], false⟩]⟩,
    ⟨0x04C, 1, fun _ => 0x0, [⟨0, 32, .ro, [], false⟩]⟩,
    ⟨0x060, 1, fun _ => 0x0, [⟨0, 32, .cnt, [], false⟩]⟩,
    ⟨0x064, 1, fun _ => 0x0, [⟨0, 1, .ro, [], false⟩]⟩,
    ⟨0x068, 1, fun _ => 0x0, [⟨0, 32, .cnt, [], false⟩]⟩,
    ⟨0x06C, 1, fun _ => 0x0, [⟨0, 1, .ro, [], false⟩]⟩,
    ⟨0x070, 1, fun _ => 0x0, [⟨0, 32, .cnt, [], false⟩]⟩,
    ⟨0x074, 1, fun _ => 0x0, [⟨0, 1, .ro, [], false⟩]⟩,
    ⟨0x078, 1, fun _ => 0x0, [⟨0, 32, .cnt, [], false⟩]⟩,
    ⟨0x07C, 1, fun _ => 0x0, [⟨0, 1, .ro, [], false⟩]⟩,
    ⟨0x080, 1, fun _ => 0x0, [⟨0, 32, .cnt, [], false⟩]⟩,
    ⟨0x084, 1, fun _ => 0x0, [⟨0, 1, .ro, [], false⟩]⟩,
    ⟨0x088, 1, fun _ => 0x0, [⟨0, 32, .cnt, [], false⟩]⟩,
    ⟨0x08C, 1, fun _ => 0x0, [⟨0, 1, .ro, [], false⟩]⟩]

/-- One PJ block of the PRS page (08 R230). -/
def rows_pj : List RegRow :=
  [
    ⟨0x000, 1, fun _ => 0x0, [⟨30, 2, .ro, [], false⟩, ⟨29, 1, .ro, [], false⟩, ⟨0, 14, .ro, [], false⟩]⟩,
    ⟨0x004, 1, fun _ => 0x0, [⟨0, 17, .ro, [], false⟩]⟩,
    ⟨0x008, 1, fun _ => 0x0, [⟨0, 18, .ro, [], false⟩]⟩,
    ⟨0x00C, 1, fun _ => 0x0, [⟨0, 1, .wo, [], false⟩]⟩]

/-- The PRS page (08 R230; header of 02 R38). -/
def page_prs : PageRow :=
  ⟨0x51000, 0x0, 1, 0x1000, .prs,
    header 0x51 (fun _ => 0x20000001)
      ⟨0x008, 1, fun _ => 0x0, [⟨2, 1, .rw, [], false⟩, ⟨1, 1, .w1s, [], false⟩, ⟨0, 1, .rw, [], false⟩]⟩
      ⟨0x00C, 1, fun _ => 0x0, [⟨1, 1, .ro, [], false⟩, ⟨0, 1, .ro, [], false⟩]⟩
      [(2, 1), (1, 1), (0, 1)] ++ rows_prs,
    [⟨0x100, 0x10, 32, rows_pj⟩]⟩

/-- One Q block (08 R227). -/
def rows_q : List RegRow :=
  [
    ⟨0x000, 1, fun _ => 0x0, [⟨31, 1, .rws, [], false⟩, ⟨30, 1, .rws, [], false⟩, ⟨29, 1, .rws, [], false⟩, ⟨28, 1, .rws, [], false⟩, ⟨24, 2, .rws, [], false⟩, ⟨20, 4, .rws, [], false⟩, ⟨16, 3, .rws, [(5, 7)], false⟩, ⟨8, 5, .rws, [], false⟩, ⟨0, 5, .rws, [], false⟩]⟩,
    ⟨0x004, 1, fun _ => 0x30000, [⟨24, 5, .rws, [], false⟩, ⟨16, 3, .rws, [(0, 2)], false⟩, ⟨0, 5, .rws, [], false⟩]⟩,
    ⟨0x008, 1, fun _ => 0x100001, [⟨16, 14, .rw, [(12289, 16383)], false⟩, ⟨0, 14, .rw, [(12289, 16383)], false⟩]⟩,
    ⟨0x00C, 1, fun _ => 0x0, [⟨30, 2, .ro, [], false⟩, ⟨29, 1, .ro, [], false⟩, ⟨28, 1, .ro, [], false⟩, ⟨23, 5, .ro, [], false⟩, ⟨20, 3, .ro, [], false⟩, ⟨0, 14, .ro, [], false⟩]⟩,
    ⟨0x010, 1, fun _ => 0x0, [⟨0, 32, .ro, [], false⟩]⟩,
    ⟨0x014, 1, fun _ => 0x0, [⟨31, 1, .cnt, [], false⟩, ⟨0, 31, .cnt, [], false⟩]⟩,
    ⟨0x018, 1, fun _ => 0x0, [⟨31, 1, .cnt, [], false⟩, ⟨0, 31, .cnt, [], false⟩]⟩,
    ⟨0x01C, 1, fun _ => 0x0, [⟨31, 1, .cnt, [], false⟩, ⟨0, 31, .cnt, [], false⟩]⟩]

/-- The region of 02 R34 that holds the Q blocks (08 R227). -/
def page_qt : PageRow :=
  ⟨0x200000, 0, 1, 0x80000, .sys, [], [⟨0, 0x20, 16384, rows_q⟩]⟩

end Sys2Proof.Machine
end

