-- ==== Sys2Proof/Machine/RegMapC.lean ====
section
/-!
DEFINITION. The register tables of the pages WNB, B, LNQ, SCN, MOT, GAL, SDF, row by row from the spec.
A row holds its offset, its array length, its reset value by instance or block number, and its fields
(lowest bit, width, access, reserved encodings, protected).
-/

namespace Sys2Proof.Machine

/-- Registers of the WNB page from 0x040 on (09 R263). -/
def rows_wnb : List RegRow :=
  [
    ⟨0x040, 1, fun _ => 0x4924924, [⟨0, 3, .rw, [(5, 7)], false⟩, ⟨3, 3, .rw, [(5, 7)], false⟩, ⟨6, 3, .rw, [(5, 7)], false⟩, ⟨9, 3, .rw, [(5, 7)], false⟩, ⟨12, 3, .rw, [(5, 7)], false⟩, ⟨15, 3, .rw, [(5, 7)], false⟩, ⟨18, 3, .rw, [(5, 7)], false⟩, ⟨21, 3, .rw, [(5, 7)], false⟩, ⟨24, 3, .rw, [(5, 7)], false⟩]⟩,
    ⟨0x044, 1, fun _ => 0x0, [⟨0, 9, .rw, [], false⟩]⟩,
    ⟨0x048, 1, fun _ => 0x0, [⟨0, 32, .rw, [], false⟩]⟩,
    ⟨0x04C, 1, fun _ => 0x0, [⟨0, 32, .rw, [], false⟩]⟩,
    ⟨0x050, 1, fun _ => 0x0, [⟨0, 9, .ro, [], false⟩]⟩,
    ⟨0x054, 1, fun _ => 0x0, [⟨8, 5, .rw, [], false⟩, ⟨0, 3, .rw, [], false⟩]⟩,
    ⟨0x058, 1, fun _ => 0x0, [⟨16, 13, .ro, [], false⟩, ⟨0, 13, .ro, [], false⟩]⟩,
    ⟨0x05C, 1, fun _ => 0x0, [⟨16, 13, .ro, [], false⟩, ⟨0, 13, .ro, [], false⟩]⟩,
    ⟨0x060, 1, fun _ => 0x0, [⟨0, 32, .cnt, [], false⟩]⟩,
    ⟨0x064, 1, fun _ => 0x0, [⟨0, 1, .ro, [], false⟩]⟩]

/-- One BA block of the WNB page (09 R263). -/
def rows_ba : List RegRow :=
  [
    ⟨0x000, 1, fun _ => 0x0, [⟨0, 32, .cnt, [], false⟩]⟩,
    ⟨0x004, 1, fun _ => 0x0, [⟨0, 1, .ro, [], false⟩]⟩,
    ⟨0x008, 1, fun _ => 0x0, [⟨0, 32, .cnt, [], false⟩]⟩,
    ⟨0x00C, 1, fun _ => 0x0, [⟨0, 1, .ro, [], false⟩]⟩,
    ⟨0x010, 1, fun _ => 0x0, [⟨0, 32, .cnt, [], false⟩]⟩,
    ⟨0x014, 1, fun _ => 0x0, [⟨0, 1, .ro, [], false⟩]⟩,
    ⟨0x018, 1, fun _ => 0x0, [⟨0, 32, .cnt, [], false⟩]⟩,
    ⟨0x01C, 1, fun _ => 0x0, [⟨0, 1, .ro, [], false⟩]⟩,
    ⟨0x020, 1, fun _ => 0x0, [⟨0, 32, .cnt, [], false⟩]⟩,
    ⟨0x024, 1, fun _ => 0x0, [⟨0, 1, .ro, [], false⟩]⟩,
    ⟨0x028, 1, fun _ => 0x0, [⟨0, 32, .cnt, [], false⟩]⟩,
    ⟨0x02C, 1, fun _ => 0x0, [⟨0, 1, .ro, [], false⟩]⟩,
    ⟨0x030, 1, fun _ => 0x664, [⟨0, 32, .rw, [], false⟩]⟩,
    ⟨0x034, 1, fun _ => 0x0, [⟨0, 8, .ro, [], false⟩]⟩,
    ⟨0x038, 1, fun _ => 0x0, [⟨0, 24, .ro, [], false⟩]⟩,
    ⟨0x03C, 1, fun _ => 0x0, [⟨0, 32, .ro, [], false⟩]⟩]

/-- The WNB page (09 R263; header of 02 R38). -/
def page_wnb : PageRow :=
  ⟨0x60000, 0x0, 1, 0x1000, .sys,
    header 0x60 (fun _ => 0x20902401)
      ⟨0x008, 1, fun _ => 0x0, [⟨0, 1, .rw, [], false⟩, ⟨1, 1, .w1s, [], false⟩]⟩
      ⟨0x00C, 1, fun _ => 0x0, [⟨0, 32, .ro, [], false⟩]⟩
      [(0, 9)] ++ rows_wnb,
    [⟨0x800, 0x40, 32, rows_ba⟩]⟩

/-- Registers of the B page from 0x040 on (09 R265). -/
def rows_b : List RegRow :=
  [
    ⟨0x040, 1, fun _ => 0x403000, [⟨31, 1, .rw, [], false⟩, ⟨30, 1, .rw, [], false⟩, ⟨24, 5, .rw, [], false⟩, ⟨20, 3, .rw, [(5, 7)], false⟩, ⟨16, 4, .rw, [], false⟩, ⟨12, 4, .rw, [(0, 0)], false⟩]⟩,
    ⟨0x044, 1, fun b => 0xF0003 + 4 * b * 2^8, [⟨16, 16, .rw, [], false⟩, ⟨8, 8, .rw, [], false⟩, ⟨0, 4, .rw, [], false⟩]⟩,
    ⟨0x048, 1, fun _ => 0x1F40A0A, [⟨16, 16, .rw, [(0, 0)], false⟩, ⟨8, 8, .rw, [(0, 0)], false⟩, ⟨0, 8, .rw, [(0, 0)], false⟩]⟩,
    ⟨0x04C, 1, fun _ => 0x204, [⟨8, 8, .rw, [(0, 0)], false⟩, ⟨0, 4, .rw, [(0, 0)], false⟩]⟩,
    ⟨0x050, 1, fun _ => 0x0, [⟨16, 16, .ro, [], false⟩, ⟨0, 16, .ro, [], false⟩]⟩,
    ⟨0x054, 1, fun _ => 0x0, [⟨16, 16, .ro, [], false⟩, ⟨0, 16, .ro, [], false⟩]⟩,
    ⟨0x058, 1, fun _ => 0x0, [⟨16, 16, .ro, [], false⟩, ⟨0, 16, .ro, [], false⟩]⟩,
    ⟨0x05C, 1, fun _ => 0x0, [⟨16, 13, .ro, [], false⟩, ⟨0, 14, .ro, [], false⟩]⟩,
    ⟨0x060, 1, fun _ => 0x0, [⟨0, 32, .cnt, [], false⟩]⟩,
    ⟨0x064, 1, fun _ => 0x0, [⟨0, 1, .ro, [], false⟩]⟩,
    ⟨0x068, 1, fun _ => 0x0, [⟨0, 32, .cnt, [], false⟩]⟩,
    ⟨0x06C, 1, fun _ => 0x0, [⟨0, 1, .ro, [], false⟩]⟩,
    ⟨0x070, 1, fun _ => 0x0, [⟨0, 32, .cnt, [], false⟩]⟩,
    ⟨0x074, 1, fun _ => 0x0, [⟨0, 1, .ro, [], false⟩]⟩,
    ⟨0x078, 1, fun _ => 0x0, [⟨0, 32, .cnt, [], false⟩]⟩,
    ⟨0x07C, 1, fun _ => 0x0, [⟨0, 1, .ro, [], false⟩]⟩]

/-- The B page (09 R265; header of 02 R38). -/
def page_b : PageRow :=
  ⟨0x61000, 0x80, 32, 0x80, .sys,
    header 0x61 (fun _ => 0x10080001)
      ⟨0x008, 1, fun _ => 0x300, [⟨9, 1, .rw, [], false⟩, ⟨8, 1, .rw, [], false⟩, ⟨4, 2, .rw, [(3, 3)], false⟩, ⟨2, 1, .w1s, [], false⟩, ⟨1, 1, .w1s, [], false⟩, ⟨0, 1, .rw, [], false⟩]⟩
      ⟨0x00C, 1, fun _ => 0x0, [⟨16, 5, .ro, [], false⟩, ⟨12, 2, .ro, [], false⟩, ⟨8, 3, .ro, [], false⟩, ⟨7, 1, .ro, [], false⟩, ⟨6, 1, .ro, [], false⟩, ⟨5, 1, .ro, [], false⟩, ⟨0, 3, .ro, [], false⟩]⟩
      [(10, 1), (9, 1), (8, 1), (7, 1), (6, 1), (5, 1), (4, 1), (3, 1), (2, 1), (1, 1), (0, 1)] ++ rows_b,
    []⟩

/-- Registers of the LNQ page from 0x040 on (09 R266). -/
def rows_lnq : List RegRow :=
  [
    ⟨0x040, 1, fun n => if n = 35 then 1 else 0, [⟨0, 1, .rw, [], false⟩]⟩]

/-- One LN block of the LNQ page (09 R266). -/
def rows_ln : List RegRow :=
  [
    ⟨0x000, 1, fun _ => 0x40000000, [⟨31, 1, .w1s, [], false⟩, ⟨28, 3, .rw, [(5, 7)], false⟩, ⟨24, 3, .rw, [(4, 7)], false⟩, ⟨20, 3, .rw, [(5, 7)], false⟩, ⟨16, 3, .rw, [(5, 7)], false⟩, ⟨9, 1, .rw, [], false⟩, ⟨8, 1, .rw, [], false⟩]⟩,
    ⟨0x004, 1, fun _ => 0x0, [⟨28, 4, .ro, [], false⟩, ⟨27, 1, .ro, [], false⟩, ⟨24, 3, .ro, [], false⟩, ⟨23, 1, .ro, [], false⟩, ⟨22, 1, .ro, [], false⟩, ⟨16, 5, .ro, [], false⟩, ⟨12, 4, .ro, [], false⟩, ⟨0, 9, .ro, [], false⟩]⟩,
    ⟨0x008, 1, fun _ => 0x41003708, [⟨31, 1, .rw, [], false⟩, ⟨30, 1, .rw, [], false⟩, ⟨24, 3, .rw, [], false⟩, ⟨16, 4, .rw, [], false⟩, ⟨8, 6, .rw, [], false⟩, ⟨0, 5, .rw, [], false⟩]⟩,
    ⟨0x00C, 1, fun _ => 0x1003708, [⟨24, 3, .ro, [], false⟩, ⟨16, 4, .ro, [], false⟩, ⟨8, 6, .ro, [], false⟩, ⟨0, 5, .ro, [], false⟩]⟩,
    ⟨0x010, 1, fun _ => 0x0, [⟨31, 1, .rw, [], false⟩, ⟨30, 1, .rw, [], false⟩, ⟨24, 4, .rw, [], false⟩, ⟨16, 4, .ro, [], false⟩]⟩,
    ⟨0x014, 1, fun _ => 0x0, [⟨0, 30, .ro, [], false⟩]⟩,
    ⟨0x018, 1, fun _ => 0x0, [⟨0, 3, .ro, [], false⟩]⟩,
    ⟨0x020, 1, fun _ => 0x0, [⟨0, 32, .cnt, [], false⟩]⟩,
    ⟨0x024, 1, fun _ => 0x0, [⟨0, 1, .ro, [], false⟩]⟩,
    ⟨0x028, 1, fun _ => 0x0, [⟨0, 32, .cnt, [], false⟩]⟩,
    ⟨0x02C, 1, fun _ => 0x0, [⟨0, 1, .ro, [], false⟩]⟩,
    ⟨0x030, 1, fun _ => 0x0, [⟨0, 32, .cnt, [], false⟩]⟩,
    ⟨0x034, 1, fun _ => 0x0, [⟨0, 1, .ro, [], false⟩]⟩,
    ⟨0x038, 1, fun _ => 0x0, [⟨0, 32, .cnt, [], false⟩]⟩,
    ⟨0x03C, 1, fun _ => 0x0, [⟨0, 1, .ro, [], false⟩]⟩,
    ⟨0x040, 1, fun _ => 0x0, [⟨0, 32, .cnt, [], false⟩]⟩,
    ⟨0x044, 1, fun _ => 0x0, [⟨0, 1, .ro, [], false⟩]⟩,
    ⟨0x048, 1, fun _ => 0x0, [⟨0, 32, .cnt, [], false⟩]⟩,
    ⟨0x04C, 1, fun _ => 0x0, [⟨0, 1, .ro, [], false⟩]⟩]

/-- The LNQ page (09 R266; header of 02 R38). -/
def page_lnq : PageRow :=
  ⟨0x70000, 0x400, 36, 0x400, .lg,
    header 0x70 (fun n => if n = 35 then 0x041F6001 else if n = 32 ∨ n = 33 then 0x041FA001 else 0x041F2001)
      ⟨0x008, 1, fun _ => 0x1, [⟨0, 1, .rw, [], false⟩, ⟨1, 1, .w1s, [], false⟩]⟩
      ⟨0x00C, 1, fun _ => 0x0, [⟨4, 4, .ro, [], false⟩, ⟨0, 4, .ro, [], false⟩, ⟨8, 1, .ro, [], false⟩]⟩
      [(0, 16)] ++ rows_lnq,
    [⟨0x100, 0xC0, 4, rows_ln⟩]⟩

/-- Registers of the SCN page from 0x040 on (10 R302). -/
def rows_scn : List RegRow :=
  [
    ⟨0x040, 1, fun _ => 0x0, [⟨0, 2, .rw, [(3, 3)], false⟩]⟩,
    ⟨0x044, 1, fun _ => 0x1388, [⟨0, 18, .rws, [(0, 2499), (200001, 262143)], false⟩]⟩,
    ⟨0x048, 1, fun _ => 0x40, [⟨0, 10, .rws, [], false⟩]⟩,
    ⟨0x04C, 1, fun _ => 0x9C40, [⟨0, 20, .rws, [(0, 0)], false⟩]⟩,
    ⟨0x050, 1, fun _ => 0x3E80010, [⟨16, 16, .rws, [(0, 0)], false⟩, ⟨0, 8, .rws, [(0, 0)], false⟩]⟩,
    ⟨0x054, 1, fun _ => 0x0, [⟨0, 32, .rws, [], false⟩]⟩,
    ⟨0x058, 1, fun _ => 0x0, [⟨0, 32, .ro, [], false⟩]⟩,
    ⟨0x05C, 1, fun _ => 0x0, [⟨0, 32, .ro, [], false⟩]⟩]

/-- SL_AUX and SL_AUX_SP, which slots 5 to 7 alone have (10 R303). -/
def rows_slx : List RegRow :=
  [
    ⟨0x000, 1, fun _ => 0x0, [⟨0, 6, .rws, [(36, 63)], false⟩]⟩,
    ⟨0x004, 1, fun _ => 0x0, [⟨0, 32, .rws, [], false⟩]⟩]

/-- One SL block of the SCN page (10 R302). -/
def rows_sl : List RegRow :=
  [
    ⟨0x000, 1, fun s => if s ≤ 1 then 0x80010000 else if s ≤ 3 then 0x80040000 else if s = 4 then 0xC0010000 else 0x00280000, [⟨31, 1, .rws, [], false⟩, ⟨30, 1, .rws, [], false⟩, ⟨16, 8, .rws, [(0, 0), (81, 255)], false⟩, ⟨8, 4, .rws, [], false⟩]⟩,
    ⟨0x004, 1, fun _ => 0x0, [⟨0, 32, .rws, [], false⟩]⟩,
    ⟨0x008, 1, fun _ => 0x0, [⟨0, 32, .rws, [], false⟩]⟩,
    ⟨0x00C, 1, fun _ => 0x0, [⟨0, 32, .rws, [], false⟩]⟩,
    ⟨0x010, 1, fun _ => 0x0, [⟨0, 32, .rws, [], false⟩]⟩,
    ⟨0x014, 1, fun _ => 0x0, [⟨0, 32, .rws, [], false⟩]⟩,
    ⟨0x018, 1, fun _ => 0x0, [⟨0, 32, .rws, [], false⟩]⟩,
    ⟨0x01C, 1, fun _ => 0x0, [⟨0, 32, .rws, [], false⟩]⟩,
    ⟨0x020, 1, fun _ => 0x10000, [⟨0, 17, .rws, [(0, 0), (65537, 131071)], false⟩]⟩,
    ⟨0x024, 1, fun _ => 0x10000, [⟨0, 17, .rws, [(0, 0), (65537, 131071)], false⟩]⟩,
    ⟨0x028, 1, fun _ => 0x0, [⟨0, 32, .ro, [], false⟩]⟩,
    ⟨0x02C, 1, fun _ => 0x0, [⟨0, 32, .ro, [], false⟩]⟩,
    ⟨0x030, 1, fun _ => 0x0, [⟨0, 32, .ro, [], false⟩]⟩,
    ⟨0x034, 1, fun _ => 0x0, [⟨0, 32, .ro, [], false⟩]⟩]

/-- The SCN page (10 R302; header of 02 R38). -/
def page_scn : PageRow :=
  ⟨0x80000, 0x0, 1, 0x1000, .ctl,
    header 0x80 (fun _ => 0x8800025)
      ⟨0x008, 1, fun _ => 0x0, [⟨0, 1, .rw, [], false⟩, ⟨1, 1, .w1s, [], false⟩]⟩
      ⟨0x00C, 1, fun _ => 0x0, [⟨9, 1, .ro, [], false⟩, ⟨8, 1, .ro, [], false⟩, ⟨0, 8, .ro, [], false⟩]⟩
      [(10, 1), (9, 1), (8, 1), (0, 8)] ++ rows_scn,
    [⟨0x278, 0x40, 3, rows_slx⟩, ⟨0x100, 0x40, 8, rows_sl⟩]⟩

/-- Registers of the MOT page from 0x040 on (10 R304), part 0. -/
def rows_mota : List RegRow :=
  [
    ⟨0x040, 1, fun _ => 0x8020000, [⟨24, 5, .rw, [(0, 3), (25, 31)], false⟩, ⟨16, 4, .rw, [(0, 0), (13, 15)], false⟩, ⟨8, 1, .rw, [], false⟩, ⟨0, 1, .rw, [], false⟩]⟩,
    ⟨0x044, 1, fun _ => 0x0, [⟨0, 3, .rw, [(5, 7)], false⟩]⟩,
    ⟨0x048, 1, fun _ => 0x140004, [⟨16, 8, .rws, [], false⟩, ⟨0, 8, .rws, [], false⟩]⟩,
    ⟨0x04C, 1, fun _ => 0x0, [⟨0, 32, .rws, [(9216001, 4294967295)], false⟩]⟩,
    ⟨0x050, 1, fun _ => 0xBB8, [⟨0, 24, .rws, [(0, 0)], false⟩]⟩,
    ⟨0x054, 1, fun _ => 0x1770, [⟨0, 24, .rws, [(0, 0)], false⟩]⟩,
    ⟨0x058, 1, fun _ => 0xC82000, [⟨16, 16, .rws, [(0, 0)], false⟩, ⟨0, 16, .rws, [], false⟩]⟩,
    ⟨0x05C, 1, fun _ => 0x12C0BB8, [⟨16, 16, .rws, [(0, 0)], false⟩, ⟨0, 16, .rws, [(0, 0)], false⟩]⟩,
    ⟨0x060, 1, fun _ => 0x10, [⟨15, 1, .rw, [], false⟩, ⟨12, 3, .rw, [], false⟩, ⟨4, 3, .rw, [], false⟩, ⟨0, 3, .rw, [], false⟩]⟩,
    ⟨0x064, 1, fun _ => 0xF000, [⟨0, 16, .rw, [], false⟩]⟩,
    ⟨0x068, 1, fun _ => 0x5, [⟨16, 16, .rw, [], false⟩, ⟨0, 8, .rw, [(101, 255)], false⟩]⟩,
    ⟨0x06C, 1, fun _ => 0x1AD29, [⟨0, 18, .rw, [], false⟩]⟩,
    ⟨0x070, 1, fun _ => 0x800, [⟨0, 16, .rw, [], false⟩]⟩,
    ⟨0x074, 1, fun _ => 0x0, [⟨0, 32, .ro, [], false⟩]⟩,
    ⟨0x078, 1, fun _ => 0x0, [⟨24, 5, .ro, [], false⟩, ⟨0, 12, .ro, [], false⟩]⟩,
    ⟨0x07C, 1, fun _ => 0x0, [⟨0, 32, .rol, [], false⟩]⟩,
    ⟨0x080, 1, fun _ => 0x0, [⟨0, 32, .rol, [], false⟩]⟩,
    ⟨0x084, 1, fun _ => 0x0, [⟨0, 16, .ro, [], false⟩]⟩,
    ⟨0x088, 1, fun _ => 0x0, [⟨5, 1, .w1c, [], false⟩, ⟨4, 1, .w1c, [], false⟩, ⟨3, 1, .w1c, [], false⟩, ⟨2, 1, .w1c, [], false⟩, ⟨1, 1, .w1c, [], false⟩, ⟨0, 1, .w1c, [], false⟩]⟩,
    ⟨0x0A0, 1, fun _ => 0x0, [⟨0, 32, .cnt, [], false⟩]⟩,
    ⟨0x0A4, 1, fun _ => 0x0, [⟨0, 1, .ro, [], false⟩]⟩,
    ⟨0x0A8, 1, fun _ => 0x0, [⟨0, 32, .cnt, [], false⟩]⟩,
    ⟨0x0AC, 1, fun _ => 0x0, [⟨0, 1, .ro, [], false⟩]⟩,
    ⟨0x0B0, 1, fun _ => 0x0, [⟨0, 32, .cnt, [], false⟩]⟩]

/-- Registers of the MOT page from 0x040 on (10 R304), part 1. -/
def rows_motb : List RegRow :=
  [
    ⟨0x0B4, 1, fun _ => 0x0, [⟨0, 1, .ro, [], false⟩]⟩,
    ⟨0x0B8, 1, fun _ => 0x0, [⟨0, 32, .cnt, [], false⟩]⟩,
    ⟨0x0BC, 1, fun _ => 0x0, [⟨0, 1, .ro, [], false⟩]⟩]

/-- Registers of the MOT page from 0x040 on (10 R304). -/
def rows_mot : List RegRow := rows_mota ++ rows_motb

/-- The MOT page (10 R304; header of 02 R38). -/
def page_mot : PageRow :=
  ⟨0x81000, 0x0, 1, 0x1000, .ctl,
    header 0x81 (fun _ => 0x18300025)
      ⟨0x008, 1, fun _ => 0x0, [⟨0, 1, .rw, [], false⟩, ⟨1, 1, .w1s, [], false⟩]⟩
      ⟨0x00C, 1, fun _ => 0x0, [⟨13, 1, .ro, [], false⟩, ⟨12, 1, .ro, [], false⟩, ⟨11, 1, .ro, [], false⟩, ⟨10, 1, .ro, [], false⟩, ⟨9, 1, .ro, [], false⟩, ⟨8, 1, .ro, [], false⟩, ⟨7, 1, .ro, [], false⟩, ⟨6, 1, .ro, [], false⟩, ⟨5, 1, .ro, [], false⟩, ⟨0, 3, .ro, [], false⟩]⟩
      [(7, 1), (6, 1), (5, 1), (4, 1), (3, 1), (2, 1), (1, 1), (0, 1)] ++ rows_mot,
    []⟩

/-- Registers of the GAL page from 0x040 on (10 R305). -/
def rows_gal : List RegRow :=
  [
    ⟨0x040, 1, fun _ => 0x0, [⟨0, 2, .rws, [(3, 3)], false⟩]⟩,
    ⟨0x044, 1, fun _ => 0x0, [⟨28, 4, .rw, [], false⟩, ⟨8, 1, .rw, [], false⟩, ⟨0, 2, .rw, [(3, 3)], false⟩]⟩,
    ⟨0x048, 1, fun _ => 0x8000, [⟨0, 18, .rw, [], false⟩]⟩,
    ⟨0x04C, 1, fun _ => 0x8000, [⟨0, 18, .rw, [], false⟩]⟩,
    ⟨0x050, 1, fun _ => 0x0, [⟨0, 32, .rws, [], false⟩]⟩,
    ⟨0x054, 1, fun _ => 0x0, [⟨0, 32, .rws, [], false⟩]⟩,
    ⟨0x058, 1, fun _ => 0x640000, [⟨0, 32, .rws, [(0, 0), (2147483648, 4294967295)], false⟩]⟩,
    ⟨0x060, 4, fun _ => 0x10000, [⟨16, 13, .rws, [(0, 0), (4097, 8191)], false⟩, ⟨0, 12, .rws, [], false⟩]⟩,
    ⟨0x070, 1, fun _ => 0x0, [⟨0, 1, .rws, [], false⟩]⟩,
    ⟨0x074, 1, fun _ => 0x0, [⟨12, 1, .rw, [], false⟩, ⟨0, 12, .rw, [], false⟩]⟩,
    ⟨0x078, 1, fun _ => 0x0, [⟨0, 32, .rw, [], false⟩]⟩,
    ⟨0x07C, 1, fun _ => 0x100, [⟨0, 32, .rws, [(0, 0), (2147483648, 4294967295)], false⟩]⟩,
    ⟨0x080, 1, fun _ => 0x8, [⟨0, 8, .rws, [(0, 0)], false⟩]⟩,
    ⟨0x084, 1, fun _ => 0x40, [⟨0, 12, .rw, [(0, 1)], false⟩]⟩,
    ⟨0x088, 1, fun _ => 0x8000, [⟨0, 32, .rw, [], false⟩]⟩,
    ⟨0x08C, 1, fun _ => 0x0, [⟨0, 32, .ro, [], false⟩]⟩,
    ⟨0x090, 1, fun _ => 0x0, [⟨0, 32, .ro, [], false⟩]⟩,
    ⟨0x094, 1, fun _ => 0x0, [⟨0, 18, .ro, [], false⟩]⟩,
    ⟨0x098, 1, fun _ => 0x0, [⟨1, 1, .w1c, [], false⟩, ⟨0, 1, .w1c, [], false⟩]⟩,
    ⟨0x0A0, 1, fun _ => 0x0, [⟨0, 32, .cnt, [], false⟩]⟩,
    ⟨0x0A4, 1, fun _ => 0x0, [⟨0, 1, .ro, [], false⟩]⟩,
    ⟨0x0A8, 1, fun _ => 0x0, [⟨0, 32, .cnt, [], false⟩]⟩,
    ⟨0x0AC, 1, fun _ => 0x0, [⟨0, 1, .ro, [], false⟩]⟩]

/-- The GAL page (10 R305; header of 02 R38). -/
def page_gal : PageRow :=
  ⟨0x82000, 0x0, 1, 0x1000, .ctl,
    header 0x82 (fun _ => 0x4C00025)
      ⟨0x008, 1, fun _ => 0x0, [⟨0, 1, .rw, [], false⟩, ⟨1, 1, .w1s, [], false⟩]⟩
      ⟨0x00C, 1, fun _ => 0x0, [⟨8, 2, .ro, [], false⟩, ⟨4, 1, .ro, [], false⟩, ⟨3, 1, .ro, [], false⟩, ⟨2, 1, .ro, [], false⟩, ⟨0, 2, .ro, [], false⟩]⟩
      [(4, 1), (3, 1), (2, 1), (1, 1), (0, 1)] ++ rows_gal,
    []⟩

/-- Registers of the SDF page from 0x040 on (11 R315). -/
def rows_sdf : List RegRow :=
  [
    ⟨0x040, 1, fun _ => 0, [⟨4, 1, .rw, [], false⟩, ⟨0, 1, .rw, [], false⟩]⟩]

/-- One SDC block of the SDF page (11 R315). -/
def rows_sdc : List RegRow :=
  [
    ⟨0x000, 1, fun c => c * 2^24 + 0x10406, [⟨31, 1, .rws, [], false⟩, ⟨30, 1, .rws, [], false⟩, ⟨29, 1, .rws, [], false⟩, ⟨24, 3, .rws, [], false⟩, ⟨16, 3, .rws, [(5, 7)], false⟩, ⟨8, 3, .rws, [(0, 2), (6, 7)], false⟩, ⟨0, 4, .rws, [(0, 2), (11, 15)], false⟩]⟩,
    ⟨0x004, 1, fun c => c * 2^24 + 0x10406, [⟨0, 32, .ro, [], false⟩]⟩,
    ⟨0x008, 1, fun _ => 0x0, [⟨0, 32, .ro, [], false⟩]⟩,
    ⟨0x00C, 1, fun _ => 0x0, [⟨31, 1, .ro, [], false⟩, ⟨30, 1, .ro, [], false⟩, ⟨29, 1, .ro, [], false⟩, ⟨16, 3, .ro, [], false⟩, ⟨0, 16, .ro, [], false⟩]⟩,
    ⟨0x010, 1, fun _ => 0x0, [⟨31, 1, .wo, [], false⟩, ⟨0, 17, .ro, [], false⟩]⟩,
    ⟨0x014, 1, fun _ => 0x0, [⟨0, 17, .ro, [], false⟩]⟩,
    ⟨0x018, 1, fun _ => 0x0, [⟨0, 17, .ro, [], false⟩]⟩,
    ⟨0x01C, 1, fun _ => 0x80008, [⟨16, 5, .rws, [(0, 3), (17, 31)], false⟩, ⟨0, 4, .rws, [(0, 0)], false⟩]⟩,
    ⟨0x020, 1, fun _ => 0x10000, [⟨0, 17, .rw, [], false⟩]⟩,
    ⟨0x024, 1, fun _ => 0x10000, [⟨0, 17, .rw, [], false⟩]⟩,
    ⟨0x028, 1, fun _ => 0x10000, [⟨0, 17, .rw, [], false⟩]⟩,
    ⟨0x02C, 1, fun _ => 0x0, [⟨2, 1, .w1c, [], false⟩, ⟨1, 1, .w1c, [], false⟩, ⟨0, 1, .w1c, [], false⟩]⟩,
    ⟨0x030, 1, fun _ => 0x0, [⟨0, 32, .cnt, [], false⟩]⟩,
    ⟨0x034, 1, fun _ => 0x0, [⟨0, 1, .ro, [], false⟩]⟩]

/-- The SDF page (11 R315; header of 02 R38). -/
def page_sdf : PageRow :=
  ⟨0x83000, 0x0, 1, 0x1000, .ctl,
    header 0x83 (fun _ => 0x85A0021)
      ⟨0x008, 1, fun _ => 0x0, [⟨1, 1, .w1s, [], false⟩, ⟨0, 1, .rw, [], false⟩]⟩
      ⟨0x00C, 1, fun _ => 0, [⟨25, 1, .ro, [], false⟩, ⟨24, 1, .ro, [], false⟩, ⟨16, 8, .ro, [], false⟩, ⟨8, 8, .ro, [], false⟩, ⟨0, 8, .ro, [], false⟩]⟩
      [(16, 1), (8, 8), (0, 8)] ++ rows_sdf,
    [⟨0x100, 0x40, 8, rows_sdc⟩]⟩

end Sys2Proof.Machine
end

