-- ==== Sys2Proof/Machine/RegMapD.lean ====
section
/-!
DEFINITION. The register tables of the pages SAF, ETH, ETHP, NTM, PLN, VID, HKA, THM, CAL, LMP, PAIR, row by row from the spec.
A row holds its offset, its array length, its reset value by instance or block number, and its fields
(lowest bit, width, access, reserved encodings, protected).
-/

namespace Sys2Proof.Machine

/-- Registers of the SAF page from 0x040 on (12 R341), part 0. -/
def rows_safa : List RegRow :=
  [
    ⟨0x040, 1, fun _ => 0x3, [⟨0, 32, .ro, [], false⟩]⟩,
    ⟨0x044, 1, fun _ => 0x3, [⟨0, 32, .ro, [], false⟩]⟩,
    ⟨0x048, 1, fun _ => 0x3, [⟨0, 32, .ro, [], false⟩]⟩,
    ⟨0x04C, 1, fun _ => 0x0, [⟨5, 1, .ro, [], false⟩, ⟨4, 1, .ro, [], false⟩, ⟨3, 1, .ro, [], false⟩, ⟨2, 1, .ro, [], false⟩, ⟨1, 1, .ro, [], false⟩, ⟨0, 1, .ro, [], false⟩]⟩,
    ⟨0x050, 1, fun _ => 0x0, [⟨8, 2, .ro, [], false⟩, ⟨5, 1, .ro, [], false⟩, ⟨4, 1, .ro, [], false⟩, ⟨3, 1, .ro, [], false⟩, ⟨2, 1, .ro, [], false⟩, ⟨1, 1, .ro, [], false⟩, ⟨0, 1, .ro, [], false⟩]⟩,
    ⟨0x054, 1, fun _ => 0x0, [⟨0, 32, .ro, [], false⟩]⟩,
    ⟨0x058, 1, fun _ => 0x0, [⟨0, 32, .ro, [], false⟩]⟩,
    ⟨0x05C, 1, fun _ => 0x0, [⟨0, 16, .ro, [], false⟩]⟩,
    ⟨0x060, 1, fun _ => 0x0, [⟨0, 32, .cnt, [], false⟩]⟩,
    ⟨0x064, 1, fun _ => 0x0, [⟨0, 1, .ro, [], false⟩]⟩,
    ⟨0x068, 1, fun _ => 0x0, [⟨0, 32, .cnt, [], false⟩]⟩,
    ⟨0x06C, 1, fun _ => 0x0, [⟨0, 1, .ro, [], false⟩]⟩,
    ⟨0x070, 1, fun _ => 0x0, [⟨0, 32, .cnt, [], false⟩]⟩,
    ⟨0x074, 1, fun _ => 0x0, [⟨0, 1, .ro, [], false⟩]⟩,
    ⟨0x078, 1, fun _ => 0x0, [⟨0, 32, .cnt, [], false⟩]⟩,
    ⟨0x07C, 1, fun _ => 0x0, [⟨0, 1, .ro, [], false⟩]⟩,
    ⟨0x080, 1, fun _ => 0x0, [⟨0, 1, .wo, [], false⟩]⟩,
    ⟨0x084, 1, fun _ => 0x0, [⟨0, 32, .rw, [], true⟩]⟩,
    ⟨0x088, 1, fun _ => 0x0, [⟨0, 32, .ro, [], false⟩]⟩,
    ⟨0x100, 1, fun _ => 0x3, [⟨1, 1, .rw, [], true⟩, ⟨0, 1, .rw, [], true⟩]⟩,
    ⟨0x104, 1, fun _ => 0x8CA00258, [⟨16, 16, .rw, [], true⟩, ⟨0, 16, .rw, [], true⟩]⟩,
    ⟨0x108, 1, fun _ => 0xA0014, [⟨16, 16, .rw, [(0, 0), (1001, 65535)], true⟩, ⟨0, 8, .rw, [(0, 0)], true⟩]⟩,
    ⟨0x10C, 1, fun _ => 0x1F4012C, [⟨16, 16, .rw, [], true⟩, ⟨0, 16, .rw, [], true⟩]⟩,
    ⟨0x110, 1, fun _ => 0xFA0, [⟨0, 24, .rw, [(0, 0)], true⟩]⟩]

/-- Registers of the SAF page from 0x040 on (12 R341), part 1. -/
def rows_safb : List RegRow :=
  [
    ⟨0x114, 1, fun _ => 0x3A98, [⟨0, 16, .rw, [(0, 99), (30001, 65535)], true⟩]⟩,
    ⟨0x118, 1, fun _ => 0x32, [⟨0, 8, .rw, [(0, 9), (171, 255)], true⟩]⟩,
    ⟨0x11C, 1, fun _ => 0x32, [⟨0, 10, .rw, [(0, 0), (501, 1023)], true⟩]⟩,
    ⟨0x120, 1, fun _ => 0x0, [⟨0, 24, .rw, [], true⟩]⟩,
    ⟨0x124, 1, fun _ => 0x0, [⟨0, 24, .rw, [], true⟩]⟩,
    ⟨0x128, 1, fun _ => 0x400, [⟨0, 24, .rw, [], true⟩]⟩,
    ⟨0x12C, 1, fun _ => 0x0, [⟨0, 16, .rw, [], true⟩]⟩,
    ⟨0x140, 8, fun _ => 0x10101010, [⟨0, 32, .rw, [], true⟩]⟩]

/-- Registers of the SAF page from 0x040 on (12 R341). -/
def rows_saf : List RegRow := rows_safa ++ rows_safb

/-- The SAF page (12 R341; header of 02 R38). -/
def page_saf : PageRow :=
  ⟨0x90000, 0x0, 1, 0x1000, .ctl,
    header 0x90 (fun _ => 0x20200901)
      ⟨0x008, 1, fun _ => 0x1, [⟨0, 1, .ro, [], false⟩, ⟨1, 1, .w1s, [], false⟩]⟩
      ⟨0x00C, 1, fun _ => 0x0, [⟨13, 1, .ro, [], false⟩, ⟨12, 1, .ro, [], false⟩, ⟨11, 1, .ro, [], false⟩, ⟨10, 1, .ro, [], false⟩, ⟨9, 1, .ro, [], false⟩, ⟨8, 1, .ro, [], false⟩, ⟨7, 1, .ro, [], false⟩, ⟨6, 1, .ro, [], false⟩, ⟨5, 1, .ro, [], false⟩, ⟨4, 1, .ro, [], false⟩, ⟨3, 1, .ro, [], false⟩, ⟨2, 1, .ro, [], false⟩, ⟨1, 1, .ro, [], false⟩, ⟨0, 1, .ro, [], false⟩]⟩
      [(10, 1), (9, 1), (8, 1), (7, 1), (6, 1), (5, 1), (4, 1), (3, 1), (2, 1), (1, 1), (0, 1)] ++ rows_saf,
    []⟩

/-- Registers of the ETH page from 0x040 on (13 R363). -/
def rows_eth : List RegRow :=
  [
    ⟨0x040, 1, fun _ => 0x3, [⟨8, 1, .rw, [], false⟩, ⟨2, 1, .rw, [], false⟩, ⟨1, 1, .rw, [], false⟩, ⟨0, 1, .rw, [], false⟩]⟩,
    ⟨0x044, 1, fun _ => 0x12C, [⟨0, 16, .rw, [(0, 0)], false⟩]⟩,
    ⟨0x048, 1, fun _ => 0x0, [⟨16, 2, .rw, [(3, 3)], false⟩, ⟨0, 5, .rw, [], false⟩]⟩,
    ⟨0x04C, 1, fun _ => 0x0, [⟨0, 11, .ro, [], false⟩]⟩,
    ⟨0x050, 1, fun _ => 0x0, [⟨16, 16, .ro, [], false⟩, ⟨0, 12, .ro, [], false⟩]⟩,
    ⟨0x054, 1, fun _ => 0x0, [⟨0, 32, .ro, [], false⟩]⟩,
    ⟨0x058, 1, fun _ => 0x0, [⟨0, 32, .wo, [], false⟩]⟩,
    ⟨0x05C, 1, fun _ => 0x0, [⟨31, 1, .w1s, [], false⟩, ⟨30, 1, .w1s, [], false⟩, ⟨0, 12, .ro, [], false⟩]⟩,
    ⟨0x060, 1, fun _ => 0x1000, [⟨0, 13, .ro, [], false⟩]⟩,
    ⟨0x080, 1, fun _ => 0x0, [⟨0, 32, .cnt, [], false⟩]⟩,
    ⟨0x084, 1, fun _ => 0x0, [⟨0, 1, .ro, [], false⟩]⟩,
    ⟨0x088, 1, fun _ => 0x0, [⟨0, 32, .cnt, [], false⟩]⟩,
    ⟨0x08C, 1, fun _ => 0x0, [⟨0, 1, .ro, [], false⟩]⟩,
    ⟨0x090, 1, fun _ => 0x0, [⟨0, 32, .cnt, [], false⟩]⟩,
    ⟨0x094, 1, fun _ => 0x0, [⟨0, 1, .ro, [], false⟩]⟩,
    ⟨0x098, 1, fun _ => 0x0, [⟨0, 32, .cnt, [], false⟩]⟩,
    ⟨0x09C, 1, fun _ => 0x0, [⟨0, 1, .ro, [], false⟩]⟩,
    ⟨0x0A0, 1, fun _ => 0x0, [⟨0, 32, .cnt, [], false⟩]⟩,
    ⟨0x0A4, 1, fun _ => 0x0, [⟨0, 1, .ro, [], false⟩]⟩,
    ⟨0x0A8, 1, fun _ => 0x0, [⟨0, 32, .cnt, [], false⟩]⟩,
    ⟨0x0AC, 1, fun _ => 0x0, [⟨0, 1, .ro, [], false⟩]⟩,
    ⟨0x0B0, 1, fun _ => 0x0, [⟨0, 32, .cnt, [], false⟩]⟩,
    ⟨0x0B4, 1, fun _ => 0x0, [⟨0, 1, .ro, [], false⟩]⟩]

/-- The ETH page (13 R363; header of 02 R38). -/
def page_eth : PageRow :=
  ⟨0xA0000, 0x0, 1, 0x1000, .eth,
    header 0xA0 (fun _ => 0x4104001)
      ⟨0x008, 1, fun _ => 0x0, [⟨0, 1, .rw, [], false⟩, ⟨1, 1, .w1s, [], false⟩]⟩
      ⟨0x00C, 1, fun _ => 0x0, [⟨4, 1, .ro, [], false⟩, ⟨3, 1, .ro, [], false⟩, ⟨2, 1, .ro, [], false⟩, ⟨1, 1, .ro, [], false⟩, ⟨0, 1, .ro, [], false⟩]⟩
      [(4, 1), (3, 1), (2, 1), (1, 1), (0, 1)] ++ rows_eth,
    []⟩

/-- Registers of the ETHP page from 0x040 on (13 R364), part 0. -/
def rows_ethpa : List RegRow :=
  [
    ⟨0x040, 1, fun _ => 0x110, [⟨11, 1, .rw, [], false⟩, ⟨10, 1, .rw, [], false⟩, ⟨9, 1, .rw, [], false⟩, ⟨8, 1, .rw, [], false⟩, ⟨4, 1, .rw, [], false⟩, ⟨0, 2, .rw, [(3, 3)], false⟩]⟩,
    ⟨0x044, 1, fun _ => 0x0, [⟨0, 1, .rw, [], false⟩]⟩,
    ⟨0x048, 1, fun _ => 0x0, [⟨0, 32, .rw, [], false⟩]⟩,
    ⟨0x04C, 1, fun _ => 0x0, [⟨0, 32, .rw, [], false⟩]⟩,
    ⟨0x050, 1, fun _ => 0x1000080, [⟨16, 16, .rw, [], false⟩, ⟨0, 16, .rw, [], false⟩]⟩,
    ⟨0x060, 1, fun _ => 0x0, [⟨0, 32, .cnt, [], false⟩]⟩,
    ⟨0x064, 1, fun _ => 0x0, [⟨0, 1, .ro, [], false⟩]⟩,
    ⟨0x068, 1, fun _ => 0x0, [⟨0, 32, .cnt, [], false⟩]⟩,
    ⟨0x06C, 1, fun _ => 0x0, [⟨0, 1, .ro, [], false⟩]⟩,
    ⟨0x070, 1, fun _ => 0x0, [⟨0, 32, .cnt, [], false⟩]⟩,
    ⟨0x074, 1, fun _ => 0x0, [⟨0, 1, .ro, [], false⟩]⟩,
    ⟨0x078, 1, fun _ => 0x0, [⟨0, 32, .cnt, [], false⟩]⟩,
    ⟨0x07C, 1, fun _ => 0x0, [⟨0, 1, .ro, [], false⟩]⟩,
    ⟨0x080, 1, fun _ => 0x0, [⟨0, 32, .cnt, [], false⟩]⟩,
    ⟨0x084, 1, fun _ => 0x0, [⟨0, 1, .ro, [], false⟩]⟩,
    ⟨0x088, 1, fun _ => 0x0, [⟨0, 32, .cnt, [], false⟩]⟩,
    ⟨0x08C, 1, fun _ => 0x0, [⟨0, 1, .ro, [], false⟩]⟩,
    ⟨0x090, 1, fun _ => 0x0, [⟨0, 32, .cnt, [], false⟩]⟩,
    ⟨0x094, 1, fun _ => 0x0, [⟨0, 1, .ro, [], false⟩]⟩,
    ⟨0x098, 1, fun _ => 0x0, [⟨0, 32, .cnt, [], false⟩]⟩,
    ⟨0x09C, 1, fun _ => 0x0, [⟨0, 1, .ro, [], false⟩]⟩,
    ⟨0x0A0, 1, fun _ => 0x0, [⟨0, 32, .cnt, [], false⟩]⟩,
    ⟨0x0A4, 1, fun _ => 0x0, [⟨0, 1, .ro, [], false⟩]⟩,
    ⟨0x0A8, 1, fun _ => 0x0, [⟨0, 32, .cnt, [], false⟩]⟩]

/-- Registers of the ETHP page from 0x040 on (13 R364), part 1. -/
def rows_ethpb : List RegRow :=
  [
    ⟨0x0AC, 1, fun _ => 0x0, [⟨0, 1, .ro, [], false⟩]⟩]

/-- Registers of the ETHP page from 0x040 on (13 R364). -/
def rows_ethp : List RegRow := rows_ethpa ++ rows_ethpb

/-- The ETHP page (13 R364; header of 02 R38). -/
def page_ethp : PageRow :=
  ⟨0xA1000, 0x1000, 4, 0x1000, .eth,
    header 0xA1 (fun _ => 0x7240001)
      ⟨0x008, 1, fun _ => 0x0, [⟨0, 1, .rw, [], false⟩, ⟨1, 1, .w1s, [], false⟩]⟩
      ⟨0x00C, 1, fun _ => 0x0, [⟨31, 1, .ro, [], false⟩, ⟨30, 1, .ro, [], false⟩, ⟨28, 2, .ro, [], false⟩, ⟨27, 1, .ro, [], false⟩, ⟨26, 1, .ro, [], false⟩, ⟨25, 1, .ro, [], false⟩, ⟨0, 16, .ro, [], false⟩]⟩
      [(3, 1), (2, 1), (1, 1), (0, 1)] ++ rows_ethp,
    []⟩

/-- Registers of the NTM page from 0x040 on (13 R365). -/
def rows_ntm : List RegRow :=
  [
    ⟨0x040, 1, fun _ => 0x0, [⟨0, 30, .ro, [], false⟩]⟩,
    ⟨0x044, 1, fun _ => 0x0, [⟨0, 16, .rol, [], false⟩]⟩,
    ⟨0x048, 1, fun _ => 0x0, [⟨0, 32, .rol, [], false⟩]⟩,
    ⟨0x04C, 1, fun _ => 0x0, [⟨0, 32, .rol, [], false⟩]⟩,
    ⟨0x050, 1, fun _ => 0x0, [⟨0, 32, .rol, [], false⟩]⟩,
    ⟨0x054, 1, fun _ => 0x0, [⟨0, 32, .rol, [], false⟩]⟩,
    ⟨0x060, 1, fun _ => 0x0, [⟨0, 32, .rw, [], false⟩]⟩,
    ⟨0x064, 1, fun _ => 100, [⟨0, 8, .rw, [], false⟩]⟩,
    ⟨0x068, 1, fun _ => 0x0, [⟨0, 32, .rw, [(1000000000, 3294967296)], false⟩]⟩,
    ⟨0x06C, 1, fun _ => 0x0, [⟨0, 32, .rw, [], false⟩]⟩,
    ⟨0x070, 1, fun _ => 0x0, [⟨0, 32, .rw, [], false⟩]⟩,
    ⟨0x074, 1, fun _ => 0xF4240, [⟨0, 32, .rw, [], true⟩]⟩,
    ⟨0x080, 1, fun _ => 0x64, [⟨31, 1, .rw, [], false⟩, ⟨0, 10, .rw, [(0, 0), (1000, 1023)], false⟩]⟩,
    ⟨0x084, 1, fun _ => 0x0, [⟨0, 32, .rw, [(500000000, 3794967296)], false⟩]⟩,
    ⟨0x088, 1, fun _ => 0x0, [⟨31, 1, .ro, [], false⟩, ⟨30, 1, .ro, [], false⟩, ⟨0, 30, .ro, [], false⟩]⟩,
    ⟨0x08C, 1, fun _ => 0x0, [⟨0, 16, .rol, [], false⟩]⟩,
    ⟨0x090, 1, fun _ => 0x0, [⟨0, 32, .rol, [], false⟩]⟩,
    ⟨0x094, 1, fun _ => 0x0, [⟨0, 32, .rol, [], false⟩]⟩,
    ⟨0x0A0, 1, fun _ => 0x0, [⟨0, 32, .cnt, [], false⟩]⟩,
    ⟨0x0A4, 1, fun _ => 0x0, [⟨0, 1, .ro, [], false⟩]⟩,
    ⟨0x0A8, 1, fun _ => 0x0, [⟨0, 32, .cnt, [], false⟩]⟩,
    ⟨0x0AC, 1, fun _ => 0x0, [⟨0, 1, .ro, [], false⟩]⟩]

/-- The NTM page (13 R365; header of 02 R38). -/
def page_ntm : PageRow :=
  ⟨0xA8000, 0x0, 1, 0x1000, .tkp,
    header 0xA8 (fun _ => 0x40100001)
      ⟨0x008, 1, fun _ => 0x1, [⟨0, 1, .rw, [], false⟩, ⟨2, 1, .w1s, [], false⟩, ⟨1, 1, .w1s, [], false⟩]⟩
      ⟨0x00C, 1, fun _ => 1, [⟨4, 1, .ro, [], false⟩, ⟨3, 1, .ro, [], false⟩, ⟨2, 1, .ro, [], false⟩, ⟨1, 1, .ro, [], false⟩, ⟨0, 1, .ro, [], false⟩]⟩
      [(3, 1), (2, 1), (1, 1), (0, 1)] ++ rows_ntm,
    []⟩

/-- Registers of the PLN page from 0x040 on (14 R382), part 0. -/
def rows_plna : List RegRow :=
  [
    ⟨0x044, 1, fun _ => 0xF424007, [⟨8, 24, .rw, [(0, 99999), (10000001, 16777215)], false⟩, ⟨0, 8, .rw, [(0, 6)], false⟩]⟩,
    ⟨0x040, 1, fun _ => 0x0, [⟨0, 32, .rw, [], false⟩]⟩,
    ⟨0x048, 1, fun _ => 0xA, [⟨0, 10, .rw, [(0, 0), (1001, 1023)], false⟩]⟩,
    ⟨0x04C, 1, fun _ => 0x88B5, [⟨0, 16, .rw, [], false⟩]⟩,
    ⟨0x050, 1, fun _ => 0xC4110001, [⟨0, 32, .rw, [], false⟩]⟩,
    ⟨0x054, 1, fun _ => 0x300, [⟨0, 16, .rw, [], false⟩]⟩,
    ⟨0x058, 1, fun _ => 0x0, [⟨0, 32, .rw, [], false⟩]⟩,
    ⟨0x05C, 1, fun _ => 0x0, [⟨0, 16, .rw, [], false⟩]⟩,
    ⟨0x060, 1, fun _ => 0x80, [⟨0, 8, .rws, [], false⟩]⟩,
    ⟨0x064, 1, fun _ => 0x0, [⟨0, 1, .rws, [], false⟩]⟩,
    ⟨0x068, 1, fun _ => 0x0, [⟨0, 9, .rws, [], false⟩]⟩,
    ⟨0x06C, 1, fun _ => 0x3E8, [⟨0, 24, .rws, [], false⟩]⟩,
    ⟨0x070, 1, fun _ => 0x0, [⟨0, 32, .ro, [], false⟩]⟩,
    ⟨0x074, 1, fun _ => 0x8000, [⟨16, 9, .ro, [], false⟩, ⟨8, 8, .ro, [], false⟩, ⟨0, 1, .ro, [], false⟩]⟩,
    ⟨0x078, 1, fun _ => 0x0, [⟨0, 32, .ro, [], false⟩]⟩,
    ⟨0x07C, 1, fun _ => 0x0, [⟨0, 16, .rol, [], false⟩]⟩,
    ⟨0x080, 1, fun _ => 0x0, [⟨0, 16, .ro, [], false⟩]⟩,
    ⟨0x0A0, 8, fun _ => 0x0, [⟨0, 32, .rws, [], false⟩]⟩,
    ⟨0x0C0, 8, fun _ => 0xFFFFFFFF, [⟨0, 32, .ro, [], false⟩]⟩,
    ⟨0x0E0, 8, fun _ => 0x0, [⟨0, 32, .ro, [], false⟩]⟩,
    ⟨0x100, 8, fun _ => 0x0, [⟨0, 32, .ro, [], false⟩]⟩,
    ⟨0x120, 1, fun _ => 0x0, [⟨0, 6, .rw, [], false⟩]⟩,
    ⟨0x124, 1, fun _ => 0x0, [⟨0, 32, .rol, [], false⟩]⟩,
    ⟨0x128, 1, fun _ => 0x0, [⟨31, 1, .rol, [], false⟩, ⟨30, 1, .rol, [], false⟩, ⟨29, 1, .rol, [], false⟩, ⟨16, 8, .rol, [], false⟩, ⟨0, 16, .rol, [], false⟩]⟩]

/-- Registers of the PLN page from 0x040 on (14 R382), part 1. -/
def rows_plnb : List RegRow :=
  [
    ⟨0x130, 8, fun _ => 0x0, [⟨0, 32, .rol, [], false⟩]⟩,
    ⟨0x160, 1, fun _ => 0x0, [⟨0, 32, .cnt, [], false⟩]⟩,
    ⟨0x164, 1, fun _ => 0x0, [⟨0, 1, .ro, [], false⟩]⟩,
    ⟨0x168, 1, fun _ => 0x0, [⟨0, 32, .cnt, [], false⟩]⟩,
    ⟨0x16C, 1, fun _ => 0x0, [⟨0, 1, .ro, [], false⟩]⟩,
    ⟨0x170, 1, fun _ => 0x0, [⟨0, 32, .cnt, [], false⟩]⟩,
    ⟨0x174, 1, fun _ => 0x0, [⟨0, 1, .ro, [], false⟩]⟩,
    ⟨0x178, 1, fun _ => 0x0, [⟨0, 32, .cnt, [], false⟩]⟩,
    ⟨0x17C, 1, fun _ => 0x0, [⟨0, 1, .ro, [], false⟩]⟩,
    ⟨0x180, 1, fun _ => 0x0, [⟨0, 32, .cnt, [], false⟩]⟩,
    ⟨0x184, 1, fun _ => 0x0, [⟨0, 1, .ro, [], false⟩]⟩,
    ⟨0x188, 1, fun _ => 0x0, [⟨0, 32, .cnt, [], false⟩]⟩,
    ⟨0x18C, 1, fun _ => 0x0, [⟨0, 1, .ro, [], false⟩]⟩,
    ⟨0x190, 1, fun _ => 0x0, [⟨0, 32, .cnt, [], false⟩]⟩,
    ⟨0x194, 1, fun _ => 0x0, [⟨0, 1, .ro, [], false⟩]⟩]

/-- Registers of the PLN page from 0x040 on (14 R382). -/
def rows_pln : List RegRow := rows_plna ++ rows_plnb

/-- The PLN page (14 R382; header of 02 R38). -/
def page_pln : PageRow :=
  ⟨0xA9000, 0x0, 1, 0x1000, .tkp,
    header 0xA9 (fun _ => 0x40080009)
      ⟨0x008, 1, fun _ => 0x0, [⟨1, 1, .w1s, [], false⟩, ⟨0, 1, .rw, [], false⟩]⟩
      ⟨0x00C, 1, fun _ => 0x0, [⟨25, 7, .ro, [], false⟩, ⟨16, 9, .ro, [], false⟩, ⟨7, 1, .ro, [], false⟩, ⟨6, 1, .ro, [], false⟩, ⟨5, 1, .ro, [], false⟩, ⟨4, 1, .ro, [], false⟩, ⟨0, 3, .ro, [], false⟩]⟩
      [(9, 1), (8, 1), (7, 1), (6, 1), (5, 1), (4, 1), (3, 1), (2, 1), (1, 1), (0, 1)] ++ rows_pln,
    []⟩

/-- Registers of the VID page from 0x040 on (15 R406), part 0. -/
def rows_vida : List RegRow :=
  [
    ⟨0x040, 1, fun _ => 0x30005, [⟨18, 1, .rws, [], false⟩, ⟨17, 1, .rws, [], false⟩, ⟨16, 1, .rws, [], false⟩, ⟨13, 1, .rws, [], false⟩, ⟨12, 1, .rws, [], false⟩, ⟨8, 2, .rws, [(3, 3)], false⟩, ⟨0, 4, .rws, [], false⟩]⟩,
    ⟨0x044, 1, fun _ => 0x46CF710, [⟨31, 1, .rws, [], false⟩, ⟨0, 29, .rws, [(0, 24999999), (297000001, 536870911)], false⟩]⟩,
    ⟨0x048, 1, fun _ => 0x27E0780, [⟨16, 16, .rws, [], false⟩, ⟨0, 13, .rws, [(0, 63), (4097, 8191)], false⟩]⟩,
    ⟨0x04C, 1, fun _ => 0x94002C, [⟨16, 16, .rws, [], false⟩, ⟨0, 16, .rws, [], false⟩]⟩,
    ⟨0x050, 1, fun _ => 0x40438, [⟨16, 16, .rws, [], false⟩, ⟨0, 12, .rws, [(0, 63)], false⟩]⟩,
    ⟨0x054, 1, fun _ => 0x240005, [⟨16, 16, .rws, [], false⟩, ⟨0, 16, .rws, [], false⟩]⟩,
    ⟨0x058, 1, fun _ => 0x30005, [⟨0, 32, .ro, [], false⟩]⟩,
    ⟨0x05C, 1, fun _ => 0x0, [⟨0, 32, .ro, [], false⟩]⟩,
    ⟨0x060, 1, fun _ => 0x30000, [⟨16, 2, .rws, [(0, 1)], false⟩, ⟨4, 2, .rws, [(3, 3)], false⟩, ⟨0, 2, .rws, [(3, 3)], false⟩]⟩,
    ⟨0x064, 1, fun _ => 0x3000000, [⟨12, 15, .rws, [], false⟩]⟩,
    ⟨0x068, 1, fun _ => 0x1FF0000, [⟨16, 12, .rws, [], false⟩, ⟨0, 12, .rws, [], false⟩]⟩,
    ⟨0x06C, 1, fun _ => 0x3FF0000, [⟨16, 12, .rws, [], false⟩, ⟨0, 12, .rws, [], false⟩]⟩,
    ⟨0x080, 1, fun _ => 0x3, [⟨0, 4, .rws, [], false⟩]⟩,
    ⟨0x084, 1, fun _ => 0x0, [⟨0, 30, .rws, [], false⟩]⟩,
    ⟨0x088, 1, fun _ => 0x0, [⟨16, 16, .rws, [], false⟩, ⟨0, 16, .rws, [], false⟩]⟩,
    ⟨0x08C, 1, fun _ => 0x4380780, [⟨16, 16, .rws, [], false⟩, ⟨0, 16, .rws, [], false⟩]⟩,
    ⟨0x090, 1, fun _ => 0xFF728000, [⟨24, 8, .rws, [], false⟩, ⟨20, 4, .rws, [], false⟩, ⟨16, 2, .rws, [], false⟩, ⟨8, 8, .rws, [], false⟩, ⟨0, 8, .rws, [], false⟩]⟩,
    ⟨0x094, 1, fun _ => 0x0, [⟨0, 24, .rws, [], false⟩]⟩,
    ⟨0x098, 1, fun _ => 0x0, [⟨0, 30, .rws, [], false⟩]⟩,
    ⟨0x09C, 1, fun _ => 0x0, [⟨0, 24, .rws, [], false⟩]⟩,
    ⟨0x0A0, 1, fun _ => 0x0, [⟨0, 24, .rws, [], false⟩]⟩,
    ⟨0x0A4, 1, fun _ => 0x3FFFFC00, [⟨0, 30, .rws, [], false⟩]⟩,
    ⟨0x0A8, 1, fun _ => 0xFF000006, [⟨24, 8, .rws, [], false⟩, ⟨0, 3, .rws, [(7, 7)], false⟩]⟩,
    ⟨0x0AC, 1, fun _ => 0x0, [⟨12, 15, .rws, [], false⟩]⟩]

/-- Registers of the VID page from 0x040 on (15 R406), part 1. -/
def rows_vidb : List RegRow :=
  [
    ⟨0x0B0, 1, fun _ => 0x0, [⟨16, 16, .rws, [], false⟩, ⟨0, 16, .rws, [], false⟩]⟩,
    ⟨0x0B4, 1, fun _ => 0x4380780, [⟨16, 16, .rws, [], false⟩, ⟨0, 16, .rws, [], false⟩]⟩,
    ⟨0x0B8, 1, fun _ => 0x780, [⟨0, 16, .rws, [], false⟩]⟩,
    ⟨0x0BC, 1, fun _ => 0x0, [⟨16, 16, .rws, [], false⟩, ⟨0, 16, .rws, [], false⟩]⟩,
    ⟨0x0C0, 1, fun _ => 0x0, [⟨3, 1, .rws, [], false⟩, ⟨2, 1, .rws, [], false⟩, ⟨1, 1, .rws, [], false⟩, ⟨0, 1, .rws, [], false⟩]⟩,
    ⟨0x0C4, 1, fun _ => 0x0, [⟨16, 3, .rw, [(4, 7)], false⟩, ⟨15, 1, .rw, [], false⟩, ⟨0, 12, .rw, [], false⟩]⟩,
    ⟨0x0C8, 1, fun _ => 0x0, [⟨0, 32, .rw, [], false⟩]⟩,
    ⟨0x0D0, 1, fun _ => 0x30030, [⟨17, 1, .rws, [], false⟩, ⟨16, 1, .rws, [], false⟩, ⟨0, 8, .rws, [(0, 0)], false⟩]⟩,
    ⟨0x0D4, 1, fun _ => 0x0, [⟨0, 8, .rws, [], false⟩]⟩,
    ⟨0x0D8, 1, fun _ => 0x0, [⟨0, 8, .w1c, [], false⟩]⟩,
    ⟨0x0E0, 1, fun _ => 0x0, [⟨0, 17, .ro, [], false⟩]⟩,
    ⟨0x0E4, 1, fun _ => 0x0, [⟨8, 8, .ro, [], false⟩, ⟨0, 8, .ro, [], false⟩]⟩,
    ⟨0x0E8, 1, fun _ => 0x0, [⟨0, 32, .rol, [], false⟩]⟩,
    ⟨0x0EC, 1, fun _ => 0x0, [⟨0, 32, .rol, [], false⟩]⟩,
    ⟨0x100, 1, fun _ => 0x0, [⟨0, 32, .cnt, [], false⟩]⟩,
    ⟨0x104, 1, fun _ => 0x0, [⟨0, 1, .ro, [], false⟩]⟩,
    ⟨0x108, 1, fun _ => 0x0, [⟨0, 32, .cnt, [], false⟩]⟩,
    ⟨0x10C, 1, fun _ => 0x0, [⟨0, 1, .ro, [], false⟩]⟩,
    ⟨0x110, 1, fun _ => 0x0, [⟨0, 32, .cnt, [], false⟩]⟩,
    ⟨0x114, 1, fun _ => 0x0, [⟨0, 1, .ro, [], false⟩]⟩,
    ⟨0x118, 1, fun _ => 0x0, [⟨0, 32, .cnt, [], false⟩]⟩,
    ⟨0x11C, 1, fun _ => 0x0, [⟨0, 1, .ro, [], false⟩]⟩,
    ⟨0x120, 1, fun _ => 0x0, [⟨0, 32, .cnt, [], false⟩]⟩,
    ⟨0x124, 1, fun _ => 0x0, [⟨0, 1, .ro, [], false⟩]⟩]

/-- Registers of the VID page from 0x040 on (15 R406), part 2. -/
def rows_vidc : List RegRow :=
  [
    ⟨0x128, 1, fun _ => 0x0, [⟨0, 32, .cnt, [], false⟩]⟩,
    ⟨0x12C, 1, fun _ => 0x0, [⟨0, 1, .ro, [], false⟩]⟩,
    ⟨0x130, 1, fun _ => 0x0, [⟨0, 32, .cnt, [], false⟩]⟩,
    ⟨0x134, 1, fun _ => 0x0, [⟨0, 1, .ro, [], false⟩]⟩,
    ⟨0x138, 1, fun _ => 0x0, [⟨0, 32, .cnt, [], false⟩]⟩,
    ⟨0x13C, 1, fun _ => 0x0, [⟨0, 1, .ro, [], false⟩]⟩,
    ⟨0x140, 1, fun _ => 0x0, [⟨0, 32, .cnt, [], false⟩]⟩,
    ⟨0x144, 1, fun _ => 0x0, [⟨0, 1, .ro, [], false⟩]⟩,
    ⟨0x148, 1, fun _ => 0x0, [⟨0, 32, .cnt, [], false⟩]⟩,
    ⟨0x14C, 1, fun _ => 0x0, [⟨0, 1, .ro, [], false⟩]⟩,
    ⟨0x150, 1, fun _ => 0x0, [⟨0, 32, .cnt, [], false⟩]⟩,
    ⟨0x154, 1, fun _ => 0x0, [⟨0, 1, .ro, [], false⟩]⟩,
    ⟨0x158, 1, fun _ => 0x0, [⟨0, 32, .cnt, [], false⟩]⟩,
    ⟨0x15C, 1, fun _ => 0x0, [⟨0, 1, .ro, [], false⟩]⟩]

/-- Registers of the VID page from 0x040 on (15 R406). -/
def rows_vid : List RegRow := rows_vida ++ rows_vidb ++ rows_vidc

/-- One RECT block of the VID page (15 R406). -/
def rows_rect : List RegRow :=
  [
    ⟨0x000, 1, fun _ => 0x0, [⟨16, 16, .rws, [], false⟩, ⟨0, 16, .rws, [], false⟩]⟩,
    ⟨0x004, 1, fun _ => 0x10001, [⟨16, 16, .rws, [], false⟩, ⟨0, 16, .rws, [], false⟩]⟩,
    ⟨0x008, 1, fun _ => 0x0, [⟨0, 32, .rws, [], false⟩]⟩,
    ⟨0x00C, 1, fun _ => 0x0, [⟨0, 32, .ro, [], false⟩]⟩]

/-- The VID page (15 R406; header of 02 R38). -/
def page_vid : PageRow :=
  ⟨0xB0000, 0x0, 1, 0x1000, .vid,
    header 0xB0 (fun _ => 0x4080F10)
      ⟨0x008, 1, fun _ => 0x0, [⟨1, 1, .w1s, [], false⟩, ⟨0, 1, .rws, [], false⟩]⟩
      ⟨0x00C, 1, fun _ => 0x0, [⟨16, 12, .ro, [], false⟩, ⟨14, 1, .ro, [], false⟩, ⟨12, 2, .ro, [], false⟩, ⟨8, 4, .ro, [], false⟩, ⟨6, 2, .ro, [], false⟩, ⟨4, 2, .ro, [], false⟩, ⟨3, 1, .ro, [], false⟩, ⟨2, 1, .ro, [], false⟩, ⟨1, 1, .ro, [], false⟩, ⟨0, 1, .ro, [], false⟩]⟩
      [(8, 1), (7, 1), (6, 1), (5, 1), (4, 1), (3, 1), (2, 1), (1, 1), (0, 1)] ++ rows_vid,
    [⟨0x200, 0x10, 8, rows_rect⟩]⟩

/-- Registers of the HKA page from 0x040 on (16 R433). -/
def rows_hka : List RegRow :=
  [
    ⟨0x040, 1, fun _ => 0x2710, [⟨28, 2, .rw, [(3, 3)], false⟩, ⟨0, 20, .rw, [(0, 999), (1000001, 1048575)], false⟩]⟩,
    ⟨0x044, 1, fun _ => 0x0, [⟨0, 32, .rw, [], false⟩]⟩,
    ⟨0x048, 1, fun _ => 0xF, [⟨2, 2, .rw, [], false⟩, ⟨0, 2, .ro, [], false⟩]⟩,
    ⟨0x04C, 1, fun _ => 0x0, [⟨1, 1, .rw, [], false⟩, ⟨0, 1, .rw, [], false⟩]⟩,
    ⟨0x050, 1, fun _ => 0xA001464, [⟨24, 8, .rw, [(0, 0)], false⟩, ⟨8, 8, .rw, [], false⟩, ⟨0, 8, .rw, [], false⟩]⟩,
    ⟨0x054, 1, fun _ => 0xFFFFFFFF, [⟨0, 32, .rw, [], false⟩]⟩,
    ⟨0x058, 1, fun _ => 0x0, [⟨31, 1, .w1s, [], false⟩, ⟨0, 6, .rw, [(36, 63)], false⟩]⟩,
    ⟨0x05C, 1, fun _ => 0x0, [⟨0, 32, .ro, [], false⟩]⟩,
    ⟨0x060, 1, fun _ => 0x0, [⟨31, 1, .ro, [], false⟩, ⟨30, 1, .ro, [], false⟩, ⟨29, 1, .ro, [], false⟩, ⟨28, 1, .ro, [], false⟩, ⟨27, 1, .ro, [], false⟩, ⟨24, 2, .ro, [], false⟩, ⟨16, 6, .ro, [], false⟩, ⟨0, 16, .ro, [], false⟩]⟩,
    ⟨0x064, 1, fun _ => 0x0, [⟨0, 32, .wo, [], false⟩]⟩,
    ⟨0x068, 1, fun _ => 0x0, [⟨0, 4, .wo, [], false⟩]⟩,
    ⟨0x06C, 1, fun _ => 0x20, [⟨0, 6, .rw, [(36, 63)], false⟩]⟩,
    ⟨0x070, 1, fun _ => 0x0, [⟨0, 32, .ro, [], false⟩]⟩,
    ⟨0x074, 1, fun _ => 0x0, [⟨0, 20, .ro, [], false⟩]⟩,
    ⟨0x078, 1, fun _ => 0x0, [⟨0, 28, .w1c, [], false⟩]⟩,
    ⟨0x07C, 1, fun _ => 0x0, [⟨0, 32, .ro, [], false⟩]⟩,
    ⟨0x080, 1, fun _ => 0x0, [⟨0, 32, .cnt, [], false⟩]⟩,
    ⟨0x084, 1, fun _ => 0x0, [⟨0, 1, .ro, [], false⟩]⟩,
    ⟨0x088, 1, fun _ => 0x0, [⟨0, 32, .cnt, [], false⟩]⟩,
    ⟨0x08C, 1, fun _ => 0x0, [⟨0, 1, .ro, [], false⟩]⟩,
    ⟨0x090, 1, fun _ => 0x0, [⟨0, 32, .cnt, [], false⟩]⟩,
    ⟨0x094, 1, fun _ => 0x0, [⟨0, 1, .ro, [], false⟩]⟩,
    ⟨0x098, 1, fun _ => 0x0, [⟨0, 32, .cnt, [], false⟩]⟩,
    ⟨0x09C, 1, fun _ => 0x0, [⟨0, 1, .ro, [], false⟩]⟩]

/-- Results and status of an HCH block of the HKA page (16 R434). -/
def rows_hch : List RegRow :=
  [
    ⟨0x008, 1, fun _ => 0x0, [⟨26, 1, .ro, [], false⟩, ⟨24, 2, .ro, [], false⟩, ⟨0, 24, .ro, [], false⟩]⟩,
    ⟨0x00C, 1, fun _ => 0x0, [⟨0, 32, .ro, [], false⟩]⟩,
    ⟨0x010, 1, fun _ => 0x0, [⟨31, 1, .ro, [], false⟩, ⟨30, 1, .ro, [], false⟩, ⟨29, 1, .ro, [], false⟩, ⟨28, 1, .ro, [], false⟩, ⟨27, 1, .ro, [], false⟩, ⟨26, 1, .ro, [], false⟩, ⟨25, 1, .ro, [], false⟩, ⟨0, 16, .ro, [], false⟩]⟩,
    ⟨0x014, 1, fun _ => 0xFFFFF, [⟨0, 20, .ro, [], false⟩]⟩]

/-- The HCH block of channels 0 to 7 (16 R434). -/
def rows_hchD : List RegRow :=
  [⟨0x000, 1, fun _ => 0x1044, [⟨21, 1, .rw, [], false⟩, ⟨20, 1, .rw, [], false⟩, ⟨12, 2, .rw, [(3, 3)], false⟩, ⟨8, 2, .rw, [], false⟩, ⟨4, 4, .rw, [(0, 0), (9, 15)], false⟩, ⟨0, 4, .rw, [(9, 15)], false⟩]⟩,
   ⟨0x004, 1, fun _ => 0x3F810625, [⟨0, 32, .rw, [], false⟩]⟩] ++ rows_hch

/-- The HCH block of channels 8 to 27 (16 R434). -/
def rows_hchM : List RegRow :=
  [⟨0x000, 1, fun _ => 0x1044, [⟨20, 1, .rw, [], false⟩, ⟨12, 2, .rw, [(3, 3)], false⟩, ⟨8, 2, .rw, [], false⟩, ⟨4, 4, .rw, [(0, 0), (9, 15)], false⟩, ⟨0, 4, .rw, [(9, 15)], false⟩]⟩,
   ⟨0x004, 1, fun _ => 0x3F810625, [⟨0, 32, .rw, [], false⟩]⟩] ++ rows_hch

/-- The HCH block of channels 28 to 31 (16 R434). -/
def rows_hchB : List RegRow :=
  [⟨0x000, 1, fun _ => 0x1044, [⟨26, 1, .rw, [], false⟩, ⟨25, 1, .rw, [], false⟩, ⟨24, 1, .rw, [], false⟩, ⟨20, 1, .rw, [], false⟩, ⟨12, 2, .rw, [(3, 3)], false⟩, ⟨8, 2, .rw, [], false⟩, ⟨4, 4, .rw, [(0, 0), (9, 15)], false⟩, ⟨0, 4, .rw, [(9, 15)], false⟩]⟩,
   ⟨0x004, 1, fun _ => 0x3F810625, [⟨0, 32, .rw, [], false⟩]⟩] ++ rows_hch

/-- The HCH block of channels 32 and 33 (16 R434). -/
def rows_hchT : List RegRow :=
  [⟨0x000, 1, fun _ => 0x200044, [⟨8, 2, .rw, [], false⟩, ⟨4, 4, .rw, [(0, 0), (9, 15)], false⟩, ⟨0, 4, .rw, [(9, 15)], false⟩]⟩,
   ⟨0x004, 1, fun _ => 0x3F810625, [⟨0, 32, .ro, [], false⟩]⟩] ++ rows_hch

/-- The HCH block of channels 34 and 35 (16 R434). -/
def rows_hchV : List RegRow :=
  [⟨0x000, 1, fun _ => 0x44, [⟨8, 2, .rw, [], false⟩, ⟨4, 4, .rw, [(0, 0), (9, 15)], false⟩, ⟨0, 4, .rw, [(9, 15)], false⟩]⟩,
   ⟨0x004, 1, fun _ => 0x3F810625, [⟨0, 32, .rw, [], false⟩]⟩] ++ rows_hch

/-- The HKA page (16 R433; header of 02 R38). -/
def page_hka : PageRow :=
  ⟨0xC0000, 0x0, 1, 0x1000, .hka,
    header 0xC0 (fun _ => 0x24240001)
      ⟨0x008, 1, fun _ => 0x0, [⟨2, 1, .w1s, [], false⟩, ⟨1, 1, .w1s, [], false⟩, ⟨0, 1, .rw, [], false⟩]⟩
      ⟨0x00C, 1, fun _ => 0x0, [⟨6, 1, .ro, [], false⟩, ⟨5, 1, .ro, [], false⟩, ⟨4, 1, .ro, [], false⟩, ⟨3, 1, .ro, [], false⟩, ⟨2, 1, .ro, [], false⟩, ⟨1, 1, .ro, [], false⟩, ⟨0, 1, .ro, [], false⟩]⟩
      [(6, 1), (5, 1), (4, 1), (3, 1), (2, 1), (1, 1), (0, 1)] ++ rows_hka,
    [⟨0x100, 0x20, 8, rows_hchD⟩, ⟨0x200, 0x20, 20, rows_hchM⟩, ⟨0x480, 0x20, 4, rows_hchB⟩, ⟨0x500, 0x20, 2, rows_hchT⟩, ⟨0x540, 0x20, 2, rows_hchV⟩]⟩

/-- Registers of the THM page from 0x040 on (16 R435). -/
def rows_thm : List RegRow :=
  [
    ⟨0x040, 1, fun _ => 0x32, [⟨0, 16, .rw, [(0, 0), (1001, 65535)], false⟩]⟩,
    ⟨0x044, 1, fun _ => 0x42DC0000, [⟨0, 32, .ro, [], false⟩]⟩,
    ⟨0x048, 1, fun _ => 0x0, [⟨16, 1, .w1c, [], false⟩, ⟨0, 16, .w1c, [], false⟩]⟩,
    ⟨0x04C, 1, fun _ => 0x0, [⟨0, 16, .ro, [], false⟩]⟩,
    ⟨0x050, 1, fun _ => 0x0, [⟨0, 16, .ro, [], false⟩]⟩,
    ⟨0x054, 1, fun _ => 0x0, [⟨16, 5, .ro, [], false⟩, ⟨0, 3, .ro, [], false⟩]⟩,
    ⟨0x060, 1, fun _ => 0x0, [⟨0, 32, .cnt, [], false⟩]⟩,
    ⟨0x064, 1, fun _ => 0x0, [⟨0, 1, .ro, [], false⟩]⟩,
    ⟨0x068, 1, fun _ => 0x0, [⟨0, 32, .cnt, [], false⟩]⟩,
    ⟨0x06C, 1, fun _ => 0x0, [⟨0, 1, .ro, [], false⟩]⟩,
    ⟨0x070, 1, fun _ => 0x0, [⟨0, 32, .cnt, [], false⟩]⟩,
    ⟨0x074, 1, fun _ => 0x0, [⟨0, 1, .ro, [], false⟩]⟩,
    ⟨0x078, 1, fun _ => 0x0, [⟨0, 32, .cnt, [], false⟩]⟩,
    ⟨0x07C, 1, fun _ => 0x0, [⟨0, 1, .ro, [], false⟩]⟩]

/-- One LIM block of the THM page (16 R435). -/
def rows_lim : List RegRow :=
  [
    ⟨0x000, 1, fun _ => 0x9, [⟨31, 1, .rw, [], false⟩, ⟨16, 6, .rw, [(36, 63)], false⟩, ⟨12, 2, .rw, [(3, 3)], false⟩, ⟨10, 2, .rw, [(3, 3)], false⟩, ⟨8, 2, .rw, [(3, 3)], false⟩, ⟨0, 6, .rw, [], false⟩]⟩,
    ⟨0x004, 1, fun _ => 0x42AA0000, [⟨0, 32, .rw, [], false⟩]⟩,
    ⟨0x008, 1, fun _ => 0x42C80000, [⟨0, 32, .rw, [], false⟩]⟩,
    ⟨0x00C, 1, fun _ => 0x40000000, [⟨0, 32, .rw, [], false⟩]⟩,
    ⟨0x010, 1, fun _ => 0x40000000, [⟨0, 32, .rw, [], false⟩]⟩,
    ⟨0x014, 1, fun _ => 0x0, [⟨0, 32, .ro, [], false⟩]⟩,
    ⟨0x018, 1, fun _ => 0x0, [⟨3, 1, .ro, [], false⟩, ⟨2, 1, .ro, [], false⟩, ⟨1, 1, .ro, [], false⟩, ⟨0, 1, .ro, [], false⟩]⟩]

/-- The THM page (16 R435; header of 02 R38). -/
def page_thm : PageRow :=
  ⟨0xC1000, 0x0, 1, 0x1000, .hka,
    header 0xC1 (fun _ => 0x10030001)
      ⟨0x008, 1, fun _ => 0x0, [⟨0, 1, .rw, [], false⟩, ⟨1, 1, .w1s, [], false⟩]⟩
      ⟨0x00C, 1, fun _ => 0x0, [⟨5, 1, .ro, [], false⟩, ⟨4, 1, .ro, [], false⟩, ⟨3, 1, .ro, [], false⟩, ⟨0, 3, .ro, [], false⟩]⟩
      [(6, 1), (5, 1), (4, 1), (3, 1), (2, 1), (1, 1), (0, 1)] ++ rows_thm,
    [⟨0x100, 0x20, 16, rows_lim⟩]⟩

/-- Registers of the CAL page from 0x040 on (17 R451). -/
def rows_cal : List RegRow :=
  [
    ⟨0x040, 1, fun _ => 0x0, [⟨28, 4, .rw, [(5, 15)], false⟩, ⟨24, 3, .rw, [], false⟩]⟩,
    ⟨0x044, 1, fun _ => 0x40000, [⟨0, 24, .rw, [(0, 1023)], false⟩]⟩,
    ⟨0x048, 1, fun _ => 0x40, [⟨0, 7, .rw, [], false⟩]⟩,
    ⟨0x04C, 1, fun _ => 0x30D40, [⟨0, 20, .rw, [(0, 49999), (350001, 1048575)], false⟩]⟩,
    ⟨0x050, 1, fun _ => 0x989680, [⟨0, 26, .rw, [(0, 1999999), (50000001, 67108863)], false⟩]⟩,
    ⟨0x054, 1, fun _ => 0x64, [⟨0, 16, .rw, [(0, 0)], false⟩]⟩,
    ⟨0x058, 1, fun _ => 0x20, [⟨0, 6, .rw, [(36, 63)], false⟩]⟩,
    ⟨0x05C, 1, fun _ => 0x3F000000, [⟨0, 32, .rw, [(0, 0), (2139095041, 4294967295)], false⟩]⟩,
    ⟨0x060, 1, fun _ => 0x0, [⟨0, 32, .ro, [], false⟩]⟩,
    ⟨0x064, 1, fun _ => 0x0, [⟨0, 17, .ro, [], false⟩]⟩,
    ⟨0x068, 1, fun _ => 0x0, [⟨30, 2, .ro, [], false⟩, ⟨29, 1, .ro, [], false⟩, ⟨0, 24, .ro, [], false⟩]⟩,
    ⟨0x06C, 1, fun _ => 0x0, [⟨0, 32, .ro, [], false⟩]⟩,
    ⟨0x070, 1, fun _ => 0x0, [⟨0, 32, .ro, [], false⟩]⟩,
    ⟨0x074, 1, fun _ => 0x0, [⟨0, 10, .ro, [], false⟩]⟩,
    ⟨0x078, 1, fun _ => 0x0, [⟨16, 16, .ro, [], false⟩, ⟨0, 16, .ro, [], false⟩]⟩,
    ⟨0x07C, 1, fun _ => 0x0, [⟨16, 16, .ro, [], false⟩, ⟨0, 16, .ro, [], false⟩]⟩,
    ⟨0x080, 1, fun _ => 0x0, [⟨0, 32, .cnt, [], false⟩]⟩,
    ⟨0x084, 1, fun _ => 0x0, [⟨0, 1, .ro, [], false⟩]⟩,
    ⟨0x088, 1, fun _ => 0x0, [⟨0, 32, .cnt, [], false⟩]⟩,
    ⟨0x08C, 1, fun _ => 0x0, [⟨0, 1, .ro, [], false⟩]⟩,
    ⟨0x090, 1, fun _ => 0x0, [⟨0, 32, .cnt, [], false⟩]⟩,
    ⟨0x094, 1, fun _ => 0x0, [⟨0, 1, .ro, [], false⟩]⟩]

/-- The CAL page (17 R451; header of 02 R38). -/
def page_cal : PageRow :=
  ⟨0xD0000, 0x0, 1, 0x1000, .sys,
    header 0xD0 (fun _ => 0x8050001)
      ⟨0x008, 1, fun _ => 0x0, [⟨4, 1, .w1s, [], false⟩, ⟨3, 1, .w1s, [], false⟩, ⟨2, 1, .w1s, [], false⟩, ⟨1, 1, .w1s, [], false⟩, ⟨0, 1, .rw, [], false⟩]⟩
      ⟨0x00C, 1, fun _ => 0x0, [⟨12, 3, .ro, [], false⟩, ⟨8, 3, .ro, [], false⟩, ⟨7, 1, .ro, [], false⟩, ⟨6, 1, .ro, [], false⟩, ⟨5, 1, .ro, [], false⟩, ⟨4, 1, .ro, [], false⟩, ⟨3, 1, .ro, [], false⟩, ⟨1, 2, .ro, [], false⟩, ⟨0, 1, .ro, [], false⟩]⟩
      [(6, 1), (5, 1), (4, 1), (3, 1), (2, 1), (1, 1), (0, 1)] ++ rows_cal,
    []⟩

/-- Registers of the LMP page from 0x040 on (18 R465). -/
def rows_lmp : List RegRow :=
  [
    ⟨0x040, 1, fun _ => 0x19, [⟨0, 12, .rw, [(0, 12)], false⟩]⟩,
    ⟨0x044, 1, fun _ => 0x800000F, [⟨16, 12, .rw, [(0, 0)], false⟩, ⟨0, 4, .rw, [], true⟩]⟩,
    ⟨0x048, 1, fun _ => 0x22, [⟨4, 4, .rw, [(0, 0)], false⟩, ⟨0, 4, .rw, [(0, 0)], false⟩]⟩,
    ⟨0x04C, 1, fun _ => 0x0, [⟨0, 16, .ro, [], false⟩]⟩,
    ⟨0x050, 1, fun _ => 0x0, [⟨0, 16, .ro, [], false⟩]⟩,
    ⟨0x080, 8, fun _ => 0x80008000, [⟨0, 32, .rw, [], false⟩]⟩,
    ⟨0x0A0, 1, fun _ => 0x0, [⟨0, 32, .cnt, [], false⟩]⟩,
    ⟨0x0A4, 1, fun _ => 0x0, [⟨0, 1, .ro, [], false⟩]⟩,
    ⟨0x0A8, 1, fun _ => 0x0, [⟨0, 32, .cnt, [], false⟩]⟩,
    ⟨0x0AC, 1, fun _ => 0x0, [⟨0, 1, .ro, [], false⟩]⟩,
    ⟨0x0B0, 1, fun _ => 0x0, [⟨0, 32, .cnt, [], false⟩]⟩,
    ⟨0x0B4, 1, fun _ => 0x0, [⟨0, 1, .ro, [], false⟩]⟩,
    ⟨0x0B8, 1, fun _ => 0x0, [⟨0, 32, .cnt, [], false⟩]⟩,
    ⟨0x0BC, 1, fun _ => 0x0, [⟨0, 1, .ro, [], false⟩]⟩]

/-- One LAMP block of the LMP page (18 R465). -/
def rows_lamp : List RegRow :=
  [
    ⟨0x000, 1, fun _ => 0x0, [⟨31, 1, .rw, [], false⟩, ⟨30, 1, .rw, [], false⟩, ⟨24, 4, .rw, [], false⟩, ⟨0, 12, .rw, [], false⟩]⟩,
    ⟨0x004, 1, fun _ => 0x0, [⟨31, 1, .ro, [], false⟩, ⟨30, 1, .ro, [], false⟩, ⟨29, 1, .ro, [], false⟩, ⟨28, 1, .ro, [], false⟩, ⟨27, 1, .ro, [], false⟩, ⟨22, 1, .ro, [], false⟩, ⟨20, 2, .ro, [], false⟩, ⟨0, 12, .ro, [], false⟩]⟩]

/-- One TRIAD block of the LMP page (18 R465). -/
def rows_triad : List RegRow :=
  [
    ⟨0x000, 1, fun _ => 0x0, [⟨0, 1, .rw, [], false⟩]⟩,
    ⟨0x004, 1, fun _ => 0x4000, [⟨16, 16, .rw, [], false⟩, ⟨0, 16, .rw, [], false⟩]⟩,
    ⟨0x008, 1, fun _ => 0x0, [⟨16, 16, .rw, [], false⟩, ⟨0, 16, .rw, [], false⟩]⟩,
    ⟨0x00C, 1, fun _ => 0x4000, [⟨16, 16, .rw, [], false⟩, ⟨0, 16, .rw, [], false⟩]⟩,
    ⟨0x010, 1, fun _ => 0x0, [⟨16, 16, .rw, [], false⟩, ⟨0, 16, .rw, [], false⟩]⟩,
    ⟨0x014, 1, fun _ => 0x4000, [⟨0, 16, .rw, [], false⟩]⟩]

/-- One LENG block of the LMP page (18 R465). -/
def rows_leng : List RegRow :=
  [
    ⟨0x000, 1, fun _ => 0x0, [⟨31, 1, .rw, [], false⟩, ⟨28, 3, .rw, [(6, 7)], false⟩, ⟨27, 1, .rw, [], false⟩, ⟨26, 1, .rw, [], false⟩, ⟨16, 5, .rw, [], false⟩, ⟨8, 8, .rw, [], false⟩, ⟨0, 5, .rw, [], false⟩]⟩,
    ⟨0x004, 1, fun _ => 0x0, [⟨0, 16, .rw, [], false⟩]⟩,
    ⟨0x008, 1, fun _ => 0x0, [⟨0, 1, .wo, [], false⟩]⟩,
    ⟨0x00C, 1, fun _ => 0x0, [⟨31, 1, .ro, [], false⟩, ⟨16, 5, .ro, [], false⟩, ⟨8, 8, .ro, [], false⟩]⟩,
    ⟨0x080, 32, fun _ => 0x0, [⟨16, 12, .rw, [], false⟩, ⟨0, 16, .rw, [(0, 0)], false⟩]⟩]

/-- The LMP page (18 R465; header of 02 R38). -/
def page_lmp : PageRow :=
  ⟨0xE0000, 0x0, 1, 0x1000, .lmp,
    header 0xE0 (fun _ => 0x10450001)
      ⟨0x008, 1, fun _ => 0x0, [⟨0, 1, .rw, [], false⟩, ⟨1, 1, .w1s, [], false⟩]⟩
      ⟨0x00C, 1, fun _ => 0x0, [⟨16, 4, .ro, [], false⟩, ⟨0, 1, .ro, [], false⟩]⟩
      [(5, 1), (4, 1), (3, 1), (2, 1), (1, 1), (0, 1)] ++ rows_lmp,
    [⟨0x100, 0x10, 16, rows_lamp⟩, ⟨0x200, 0x20, 5, rows_triad⟩, ⟨0x400, 0x100, 4, rows_leng⟩]⟩

/-- Registers of the PAIR page from 0x040 on (19 R488). -/
def rows_pair : List RegRow :=
  [
    ⟨0x040, 1, fun _ => 0, [⟨8, 1, .ro, [], false⟩, ⟨0, 2, .ro, [], false⟩]⟩,
    ⟨0x044, 1, fun _ => 0x640000, [⟨16, 16, .rw, [(0, 0)], false⟩, ⟨8, 4, .rw, [], false⟩, ⟨3, 1, .rw, [], false⟩, ⟨2, 1, .rw, [], false⟩, ⟨1, 1, .rw, [], false⟩, ⟨0, 1, .rw, [], false⟩]⟩,
    ⟨0x048, 1, fun _ => 0x100004, [⟨16, 16, .rw, [], false⟩, ⟨0, 8, .rw, [], false⟩]⟩,
    ⟨0x04C, 1, fun _ => 0x3, [⟨0, 3, .rw, [], false⟩]⟩,
    ⟨0x050, 1, fun _ => 0x0, [⟨0, 32, .rw, [], false⟩]⟩,
    ⟨0x054, 1, fun _ => 0x0, [⟨16, 3, .ro, [], false⟩, ⟨0, 3, .ro, [], false⟩]⟩,
    ⟨0x058, 1, fun _ => 0x0, [⟨0, 3, .ro, [], false⟩]⟩,
    ⟨0x05C, 1, fun _ => 0x0, [⟨0, 32, .rol, [], false⟩]⟩,
    ⟨0x060, 1, fun _ => 0x0, [⟨0, 32, .rol, [], false⟩]⟩,
    ⟨0x064, 1, fun _ => 0xFFFF, [⟨0, 16, .ro, [], false⟩]⟩,
    ⟨0x068, 1, fun _ => 0x0, [⟨0, 1, .wo, [], false⟩]⟩,
    ⟨0x080, 1, fun _ => 0x0, [⟨0, 32, .cnt, [], false⟩]⟩,
    ⟨0x084, 1, fun _ => 0x0, [⟨0, 1, .ro, [], false⟩]⟩,
    ⟨0x088, 1, fun _ => 0x0, [⟨0, 32, .cnt, [], false⟩]⟩,
    ⟨0x08C, 1, fun _ => 0x0, [⟨0, 1, .ro, [], false⟩]⟩,
    ⟨0x090, 1, fun _ => 0x0, [⟨0, 32, .cnt, [], false⟩]⟩,
    ⟨0x094, 1, fun _ => 0x0, [⟨0, 1, .ro, [], false⟩]⟩,
    ⟨0x098, 1, fun _ => 0x0, [⟨0, 32, .cnt, [], false⟩]⟩,
    ⟨0x09C, 1, fun _ => 0x0, [⟨0, 1, .ro, [], false⟩]⟩,
    ⟨0x0A0, 1, fun _ => 0x0, [⟨0, 32, .cnt, [], false⟩]⟩,
    ⟨0x0A4, 1, fun _ => 0x0, [⟨0, 1, .ro, [], false⟩]⟩]

/-- The PAIR page (19 R488; header of 02 R38). -/
def page_pair : PageRow :=
  ⟨0xF0000, 0x0, 1, 0x1000, .sys,
    header 0xF0 (fun _ => 0x8000001)
      ⟨0x008, 1, fun _ => 0x0, [⟨1, 1, .w1s, [], false⟩, ⟨0, 1, .rw, [], false⟩]⟩
      ⟨0x00C, 1, fun _ => 0x0, [⟨7, 1, .ro, [], false⟩, ⟨6, 1, .ro, [], false⟩, ⟨5, 1, .ro, [], false⟩, ⟨4, 1, .ro, [], false⟩, ⟨3, 1, .ro, [], false⟩, ⟨2, 1, .ro, [], false⟩, ⟨1, 1, .ro, [], false⟩, ⟨0, 1, .ro, [], false⟩]⟩
      [(6, 1), (5, 1), (4, 1), (3, 1), (2, 1), (1, 1), (0, 1)] ++ rows_pair,
    []⟩

end Sys2Proof.Machine
end

