-- ==== Sys2Proof/Machine/RegMap.lean ====
section
/-!
DEFINITION. The pages and regions of 02 R34, and the reset value of the register at an address.
-/

namespace Sys2Proof.Machine

/-- The pages and regions of 02 R34 that hold registers, by address. -/
def pages : List PageRow :=
  [page_glb, page_clk, page_pwr, page_irq, page_pmon, page_tdc, page_fct, page_esc, page_vat, page_ret, page_rej, page_acq, page_msk, page_stq, page_prs, page_wnb, page_b, page_lnq] ++
  [page_scn, page_mot, page_gal, page_sdf, page_saf, page_eth, page_ethp, page_ntm, page_pln, page_vid, page_hka, page_thm, page_cal, page_lmp, page_pair, page_cha, page_qt]

/-- The register at an address (02 R34, R38), or none where the table has no row there. -/
def findReg (a : Nat) : Option RegLoc := locate pages a

/-- The reset value of the register at an address; an address without a register holds 0. -/
def regReset (a : Nat) : Word := resetOf (findReg a)

end Sys2Proof.Machine
end

