-- ==== Sys2Proof/Machine/RegNames.lean ====
section
/-!
DEFINITION. The names of registers (A) and of their fields (F) that the meanings use, with the addresses of 02 R34 and the
field positions of the chapters' register tables.
A parameter i is the instance, block, lane or channel number; k indexes an array of words.
-/

namespace Sys2Proof.Machine

abbrev A.ACQ_CTRL : Nat := 0x40008
abbrev A.ACQ_EPOCH_SEC_HI : Nat := 0x40058
abbrev A.ACQ_EPOCH_SEC_LO : Nat := 0x40054
abbrev A.ACQ_FRAMES : Nat := 0x40138
abbrev A.ACQ_FRAME_NUM_LO : Nat := 0x40070
abbrev A.ACQ_FRAME_SKIP : Nat := 0x40140
abbrev A.ACQ_GENLOCK_EXTRA : Nat := 0x40068
abbrev A.ACQ_GENLOCK_OFFSET : Nat := 0x40060
abbrev A.ACQ_GENLOCK_PERIOD : Nat := 0x40064
abbrev A.ACQ_LAST_TRIG_FRAME_LO : Nat := 0x40150
abbrev A.ACQ_LAST_TRIG_POS : Nat := 0x40158
abbrev A.ACQ_LAST_TRIG_SRC : Nat := 0x4015C
abbrev A.ACQ_P4_LOSS_FRAMES : Nat := 0x40148
abbrev A.ACQ_PERIOD_FRAC : Nat := 0x40050
abbrev A.ACQ_PRE_SHORT : Nat := 0x40128
abbrev A.ACQ_REF_ERR : Nat := 0x40078
abbrev A.ACQ_RING_OLDEST : Nat := 0x400DC
abbrev A.ACQ_RING_POS : Nat := 0x400D4
abbrev A.ACQ_RING_USED : Nat := 0x400D8
abbrev A.ACQ_TRIGGERS : Nat := 0x40100
abbrev A.ACQ_TRIG_FORCED : Nat := 0x40120
abbrev A.ACQ_TRIG_IGNORED : Nat := 0x40108
abbrev A.ACQ_TRIG_IN_CFG : Nat := 0x40094
abbrev A.ACQ_TRIG_MERGED : Nat := 0x40118
abbrev A.ACQ_TRIG_OVERLAP : Nat := 0x40110
abbrev A.ACQ_TRIG_SRC : Nat := 0x40090
abbrev A.ACQ_TRUNC : Nat := 0x40130
abbrev A.BA_ABORTS (i : Nat) : Nat := 0x60828 + 0x40 * i
abbrev A.BA_CREDIT_WAIT (i : Nat) : Nat := 0x60834 + 0x40 * i
abbrev A.BA_DISCARD (i : Nat) : Nat := 0x60818 + 0x40 * i
abbrev A.BA_FRAMES_LOST (i : Nat) : Nat := 0x60820 + 0x40 * i
abbrev A.BA_FRAMES_RX (i : Nat) : Nat := 0x60808 + 0x40 * i
abbrev A.BA_FRAMES_TX (i : Nat) : Nat := 0x60800 + 0x40 * i
abbrev A.BA_NAK_TX (i : Nat) : Nat := 0x60810 + 0x40 * i
abbrev A.BA_PARTNER_ID (i : Nat) : Nat := 0x6083C + 0x40 * i
abbrev A.BA_RX_ALLOC (i : Nat) : Nat := 0x60830 + 0x40 * i
abbrev A.BA_TRAIN_TIME (i : Nat) : Nat := 0x60838 + 0x40 * i
abbrev A.B_CRC_ERR (i : Nat) : Nat := 0x61070 + 0x80 * i
abbrev A.B_LANE_LOSS (i : Nat) : Nat := 0x61078 + 0x80 * i
abbrev A.B_NAK_RX (i : Nat) : Nat := 0x61060 + 0x80 * i
abbrev A.B_REPLAYS (i : Nat) : Nat := 0x61068 + 0x80 * i
abbrev A.CAL_APPLIED : Nat := 0xD0080
abbrev A.CAL_CLAMPED : Nat := 0xD0090
abbrev A.CAL_HYST : Nat := 0xD005C
abbrev A.CAL_JOBS : Nat := 0xD0088
abbrev A.CAL_JOB_TEMP : Nat := 0xD006C
abbrev A.CAL_SCALE_CH : Nat := 0xD0074
abbrev A.CAL_SCALE_ERR : Nat := 0xD0070
abbrev A.CAL_TEMP_NOW : Nat := 0xD0060
abbrev A.CAL_WEIGHT : Nat := 0xD0064
abbrev A.CH_EXCESS (i : Nat) : Nat := 0x100020 + 0x100 * i
abbrev A.CH_FIFO_DROP (i : Nat) : Nat := 0x100038 + 0x100 * i
abbrev A.CH_HITS (i : Nat) : Nat := 0x100010 + 0x100 * i
abbrev A.CH_LAST_HIT_LO (i : Nat) : Nat := 0x100048 + 0x100 * i
abbrev A.CH_MERGED (i : Nat) : Nat := 0x100028 + 0x100 * i
abbrev A.CH_NO_TRAIL (i : Nat) : Nat := 0x100030 + 0x100 * i
abbrev A.CH_SETTLE (i : Nat) : Nat := 0x100018 + 0x100 * i
abbrev A.CLK_OCXO_PIN : Nat := 0x104C
abbrev A.CLK_REF_LOSSES : Nat := 0x1044
abbrev A.ESC_COL_DATA : Nat := 0x200A4
abbrev A.ESC_FACET_TRIM (k : Nat) : Nat := 0x200C0 + 4 * k
abbrev A.ESC_FIRED : Nat := 0x20098
abbrev A.ESC_FRAME_CFG : Nat := 0x20040
abbrev A.ESC_FRAME_CFG_ACTIVE : Nat := 0x20044
abbrev A.ESC_IL_SHIFT (k : Nat) : Nat := 0x200B0 + 4 * k
abbrev A.ESC_LTRIG_FMT : Nat := 0x20058
abbrev A.ESC_WH_BUDGET : Nat := 0x20090
abbrev A.ESC_WH_CUT : Nat := 0x20068
abbrev A.ESC_WH_GALV : Nat := 0x20080
abbrev A.ESC_WH_PLAN : Nat := 0x20088
abbrev A.ESC_WH_REF : Nat := 0x20070
abbrev A.ESC_WH_SAFETY : Nat := 0x20078
abbrev A.ESC_WITHHELD : Nat := 0x20060
abbrev A.ETHP_PAUSE_RX (i : Nat) : Nat := 0xA1098 + 0x1000 * i
abbrev A.ETHP_PAUSE_TX (i : Nat) : Nat := 0xA10A0 + 0x1000 * i
abbrev A.ETHP_PTP_CORRECTED (i : Nat) : Nat := 0xA10A8 + 0x1000 * i
abbrev A.ETHP_RX_DROP (i : Nat) : Nat := 0xA1080 + 0x1000 * i
abbrev A.ETHP_RX_FCS (i : Nat) : Nat := 0xA1068 + 0x1000 * i
abbrev A.ETHP_RX_FRAMES (i : Nat) : Nat := 0xA1060 + 0x1000 * i
abbrev A.ETHP_RX_LAT (i : Nat) : Nat := 0xA1048 + 0x1000 * i
abbrev A.ETHP_RX_LONG (i : Nat) : Nat := 0xA1078 + 0x1000 * i
abbrev A.ETHP_RX_RUNT (i : Nat) : Nat := 0xA1070 + 0x1000 * i
abbrev A.ETHP_TX_DROP (i : Nat) : Nat := 0xA1090 + 0x1000 * i
abbrev A.ETHP_TX_FRAMES (i : Nat) : Nat := 0xA1088 + 0x1000 * i
abbrev A.ETHP_TX_LAT (i : Nat) : Nat := 0xA104C + 0x1000 * i
abbrev A.ETH_CFG : Nat := 0xA0040
abbrev A.ETH_FU_UNMATCHED : Nat := 0xA0098
abbrev A.ETH_HOST_DROP : Nat := 0xA0080
abbrev A.ETH_IPV6_UNCORR : Nat := 0xA00A0
abbrev A.ETH_LEARN_FULL : Nat := 0xA0088
abbrev A.ETH_MAC_COUNT : Nat := 0xA004C
abbrev A.ETH_MB_RX_DATA : Nat := 0xA0054
abbrev A.ETH_MB_TX_CTRL : Nat := 0xA005C
abbrev A.ETH_MB_TX_DATA : Nat := 0xA0058
abbrev A.ETH_MB_TX_FREE : Nat := 0xA0060
abbrev A.ETH_PTP_OTHER : Nat := 0xA00A8
abbrev A.ETH_TC_EVICT : Nat := 0xA0090
abbrev A.ETH_TUN_BAD : Nat := 0xA00B0
abbrev A.FCT_SNAP : Nat := 0x18040
abbrev A.FCT_START : Nat := 0x18044
abbrev A.FC_CTRL (i : Nat) : Nat := 0x18500 + 0x20 * i
abbrev A.FC_EDGES (i : Nat) : Nat := 0x18504 + 0x20 * i
abbrev A.FC_STATUS (i : Nat) : Nat := 0x18510 + 0x20 * i
abbrev A.FC_TIME_HI (i : Nat) : Nat := 0x1850C + 0x20 * i
abbrev A.FC_TIME_LO (i : Nat) : Nat := 0x18508 + 0x20 * i
abbrev A.GAL_FAULT_LATCH : Nat := 0x82098
abbrev A.GAL_FRAMES_SENT : Nat := 0x820A8
abbrev A.GAL_FREEZE_MOTION : Nat := 0x82088
abbrev A.GAL_HOLD_POS : Nat := 0x82054
abbrev A.GAL_PARK_POS : Nat := 0x82050
abbrev A.GAL_POS : Nat := 0x82090
abbrev A.GAL_POS_MISSED : Nat := 0x820A0
abbrev A.GAL_RAMP_RATE : Nat := 0x82058
abbrev A.GAL_READY_TOL : Nat := 0x8207C
abbrev A.GAL_SETPOINT : Nat := 0x8208C
abbrev A.GAL_TBL_DATA : Nat := 0x82078
abbrev A.GLB_DIE_ID_HI : Nat := 0x64
abbrev A.GLB_DIE_ID_LO : Nat := 0x60
abbrev A.GLB_ERR_ADDR : Nat := 0x4C
abbrev A.GLB_ERR_CODE : Nat := 0x28
abbrev A.HCH_AGE (i : Nat) : Nat := 0xC0114 + 0x20 * i
abbrev A.HCH_CFG (i : Nat) : Nat := 0xC0100 + 0x20 * i
abbrev A.HCH_IDEALITY (i : Nat) : Nat := 0xC0104 + 0x20 * i
abbrev A.HCH_RESULT (i : Nat) : Nat := 0xC010C + 0x20 * i
abbrev A.HKA_ABORTS : Nat := 0xC0098
abbrev A.HKA_BLANK_TIMEOUTS : Nat := 0xC0088
abbrev A.HKA_CLAMP_FLAGS : Nat := 0xC0078
abbrev A.HKA_FIRE_GROUPS : Nat := 0xC0054
abbrev A.HKA_LIN_LOAD0 : Nat := 0xC0064
abbrev A.HKA_LIN_LOAD1 : Nat := 0xC0068
abbrev A.HKA_OPEN_FLAGS : Nat := 0xC007C
abbrev A.HKA_ROUND_COUNT : Nat := 0xC0070
abbrev A.HKA_ROUND_LAST_US : Nat := 0xC0074
abbrev A.HKA_ROUND_OVERRUN : Nat := 0xC0080
abbrev A.HKA_SCAN_MASK0 : Nat := 0xC0044
abbrev A.HKA_URGENTS : Nat := 0xC0090
abbrev A.HKA_URG_RESULT : Nat := 0xC005C
abbrev A.IRQ_CLASS (k : Nat) : Nat := 0x3050 + 4 * k
abbrev A.IRQ_EVF_DROPPED : Nat := 0x308C
abbrev A.IRQ_EVF_EN (k : Nat) : Nat := 0x3070 + 4 * k
abbrev A.IRQ_PIN_MASK : Nat := 0x3088
abbrev A.IRQ_SUMMARY (k : Nat) : Nat := 0x3040 + 4 * k
abbrev A.LENG_MASK (i : Nat) : Nat := 0xE0404 + 0x100 * i
abbrev A.LG_CHAN (i : Nat) : Nat := 0x20204 + 0x20 * i
abbrev A.LIM_ABS (i : Nat) : Nat := 0xC1108 + 0x20 * i
abbrev A.LIM_HIGH (i : Nat) : Nat := 0xC1104 + 0x20 * i
abbrev A.LIM_HYST (i : Nat) : Nat := 0xC1110 + 0x20 * i
abbrev A.LIM_RATE (i : Nat) : Nat := 0xC1114 + 0x20 * i
abbrev A.LIM_RISE (i : Nat) : Nat := 0xC110C + 0x20 * i
abbrev A.LMP_BIN_GAIN (k : Nat) : Nat := 0xE0080 + 4 * k
abbrev A.LMP_DEBT_DROPS : Nat := 0xE00B0
abbrev A.LMP_ENG_RESTARTS : Nat := 0xE00B8
abbrev A.LMP_OPEN_EVENTS : Nat := 0xE00A0
abbrev A.LMP_OPEN_NOW : Nat := 0xE004C
abbrev A.LMP_SHORT_EVENTS : Nat := 0xE00A8
abbrev A.LMP_SHORT_NOW : Nat := 0xE0050
abbrev A.LN_CODE_ERR (i : Nat) : Nat := 0x70120 + 0x400 * (i / 4) + 0xC0 * (i % 4)
abbrev A.LN_DFE (i : Nat) : Nat := 0x70114 + 0x400 * (i / 4) + 0xC0 * (i % 4)
abbrev A.LN_DISP_ERR (i : Nat) : Nat := 0x70128 + 0x400 * (i / 4) + 0xC0 * (i % 4)
abbrev A.LN_EB_ADJUST (i : Nat) : Nat := 0x70140 + 0x400 * (i / 4) + 0xC0 * (i % 4)
abbrev A.LN_LAST_CAUSE (i : Nat) : Nat := 0x70118 + 0x400 * (i / 4) + 0xC0 * (i % 4)
abbrev A.LN_PRBS_ERR (i : Nat) : Nat := 0x70148 + 0x400 * (i / 4) + 0xC0 * (i % 4)
abbrev A.LN_QUARANTINES (i : Nat) : Nat := 0x70130 + 0x400 * (i / 4) + 0xC0 * (i % 4)
abbrev A.LN_REJOINS (i : Nat) : Nat := 0x70138 + 0x400 * (i / 4) + 0xC0 * (i % 4)
abbrev A.MON_COUNT (i : Nat) : Nat := 0x4118 + 0xC0 * i
abbrev A.MON_CTRL (i : Nat) : Nat := 0x4100 + 0xC0 * i
abbrev A.MON_HIST (i k : Nat) : Nat := 0x4140 + 0xC0 * i + 4 * k
abbrev A.MON_HOFFSET (i : Nat) : Nat := 0x410C + 0xC0 * i
abbrev A.MON_MAX (i : Nat) : Nat := 0x4114 + 0xC0 * i
abbrev A.MON_MIN (i : Nat) : Nat := 0x4110 + 0xC0 * i
abbrev A.MON_SEL (i : Nat) : Nat := 0x4104 + 0xC0 * i
abbrev A.MON_STATUS (i : Nat) : Nat := 0x4124 + 0xC0 * i
abbrev A.MON_SUM_LO (i : Nat) : Nat := 0x411C + 0xC0 * i
abbrev A.MOT_FAULT_LATCH : Nat := 0x81088
abbrev A.MOT_HALL_EDGES : Nat := 0x810A8
abbrev A.MOT_HALL_FAULTS : Nat := 0x810B8
abbrev A.MOT_HALL_MAP : Nat := 0x8106C
abbrev A.MOT_IDX_EDGES : Nat := 0x810A0
abbrev A.MOT_IDX_LOSSES : Nat := 0x810B0
abbrev A.MOT_PRED_LO : Nat := 0x8107C
abbrev A.MOT_SPEED_NOW : Nat := 0x81074
abbrev A.MSK_BANK0_BASE : Nat := 0x41048
abbrev A.MSK_BANK1_BASE : Nat := 0x4104C
abbrev A.MSK_CFG_ACTIVE : Nat := 0x41054
abbrev A.MSK_LAST_VIOL_FRAME_LO : Nat := 0x41070
abbrev A.MSK_LAST_VIOL_POS : Nat := 0x4106C
abbrev A.MSK_STRIDE : Nat := 0x41050
abbrev A.MSK_VIOL_FRAMES : Nat := 0x41060
abbrev A.NTM_CTRL : Nat := 0xA8008
abbrev A.NTM_INCR_FRAC : Nat := 0xA8060
abbrev A.NTM_INCR_NS : Nat := 0xA8064
abbrev A.NTM_JUMP_LIMIT : Nat := 0xA8074
abbrev A.NTM_NOW_FRAC : Nat := 0xA8044
abbrev A.NTM_NOW_NS : Nat := 0xA8040
abbrev A.NTM_NOW_SEC_HI : Nat := 0xA804C
abbrev A.NTM_NOW_SEC_LO : Nat := 0xA8048
abbrev A.NTM_NOW_TDC_HI : Nat := 0xA8054
abbrev A.NTM_NOW_TDC_LO : Nat := 0xA8050
abbrev A.NTM_PPSIN_FRAC : Nat := 0xA808C
abbrev A.NTM_PPSIN_SEC_HI : Nat := 0xA8094
abbrev A.NTM_PPSIN_SEC_LO : Nat := 0xA8090
abbrev A.NTM_PPS_CFG : Nat := 0xA8080
abbrev A.NTM_PPS_OFS : Nat := 0xA8084
abbrev A.NTM_STEPS : Nat := 0xA80A0
abbrev A.NTM_STEPS_REFUSED : Nat := 0xA80A8
abbrev A.NTM_STEP_NS : Nat := 0xA8068
abbrev A.NTM_STEP_SEC_HI : Nat := 0xA8070
abbrev A.NTM_STEP_SEC_LO : Nat := 0xA806C
abbrev A.NTT_SEC_HI (i : Nat) : Nat := 0x20708 + 0x10 * i
abbrev A.NTT_SEC_LO (i : Nat) : Nat := 0x20704 + 0x10 * i
abbrev A.PAIR_CMP_FRAMES : Nat := 0xF0090
abbrev A.PAIR_CMP_MISMATCH : Nat := 0xF0098
abbrev A.PAIR_HB_AGE : Nat := 0xF0064
abbrev A.PAIR_HB_MISSED : Nat := 0xF0088
abbrev A.PAIR_HOST_BUNDLES : Nat := 0xF0050
abbrev A.PAIR_MIRROR_LATE : Nat := 0xF00A0
abbrev A.PAIR_SWITCH : Nat := 0xF0068
abbrev A.PAIR_TAKEOVERS : Nat := 0xF0080
abbrev A.PAIR_TAKEOVER_FRAME_LO : Nat := 0xF005C
abbrev A.PJ_CONSUMED (i : Nat) : Nat := 0x51104 + 0x10 * i
abbrev A.PJ_PRODUCED (i : Nat) : Nat := 0x51108 + 0x10 * i
abbrev A.PLN_BEAT_NUM : Nat := 0xA9080
abbrev A.PLN_CFG_MISMATCH : Nat := 0xA9180
abbrev A.PLN_CLAIM (k : Nat) : Nat := 0xA9100 + 4 * k
abbrev A.PLN_CONFLICTS_LOST : Nat := 0xA9170
abbrev A.PLN_CYCLE_HI : Nat := 0xA907C
abbrev A.PLN_CYCLE_LO : Nat := 0xA9078
abbrev A.PLN_DUP_UNIT : Nat := 0xA9190
abbrev A.PLN_GENLOCK_PHASE : Nat := 0xA9070
abbrev A.PLN_GRANT (k : Nat) : Nat := 0xA90C0 + 4 * k
abbrev A.PLN_HELD (k : Nat) : Nat := 0xA90E0 + 4 * k
abbrev A.PLN_MCAST_HI : Nat := 0xA9054
abbrev A.PLN_MCAST_LO : Nat := 0xA9050
abbrev A.PLN_MSG_RX : Nat := 0xA9168
abbrev A.PLN_MSG_TX : Nat := 0xA9160
abbrev A.PLN_PEER_DROPS : Nat := 0xA9178
abbrev A.PLN_PEER_FULL : Nat := 0xA9188
abbrev A.PLN_PEER_HELD (k : Nat) : Nat := 0xA9130 + 4 * k
abbrev A.PLN_PEER_UNIT : Nat := 0xA9124
abbrev A.PLN_PREF (k : Nat) : Nat := 0xA90A0 + 4 * k
abbrev A.PLN_SRC_HI : Nat := 0xA905C
abbrev A.PLN_SRC_LO : Nat := 0xA9058
abbrev A.PLN_UNIT_CODE : Nat := 0xA9040
abbrev A.PMON_SNAP : Nat := 0x4040
abbrev A.PMON_START : Nat := 0x4044
abbrev A.PRS_BLOCKS : Nat := 0x51060
abbrev A.PRS_CTRL : Nat := 0x51008
abbrev A.PRS_ENG_BUSY : Nat := 0x51048
abbrev A.PRS_ENG_HALTED : Nat := 0x5104C
abbrev A.PRS_EXPANDED : Nat := 0x51068
abbrev A.PRS_EXPAND_LIMIT : Nat := 0x51040
abbrev A.PRS_FLUSH_NS : Nat := 0x51044
abbrev A.PRS_HALTS : Nat := 0x51070
abbrev A.PRS_IN_KIB : Nat := 0x51078
abbrev A.PRS_OUT_KIB : Nat := 0x51080
abbrev A.PRS_PRIMES : Nat := 0x51088
abbrev A.PWR_LC_KEY : Nat := 0x2054
abbrev A.PWR_LC_REQ : Nat := 0x2058
abbrev A.PWR_TRANS_LAST_US : Nat := 0x2048
abbrev A.Q_DROPPED (i : Nat) : Nat := 0x200014 + 0x20 * i
abbrev A.Q_GAPS (i : Nat) : Nat := 0x200018 + 0x20 * i
abbrev A.Q_SEG (i : Nat) : Nat := 0x200010 + 0x20 * i
abbrev A.Q_SENT (i : Nat) : Nat := 0x20001C + 0x20 * i
abbrev A.RECT_EXPECT (i : Nat) : Nat := 0xB0208 + 0x10 * i
abbrev A.RECT_RESULT (i : Nat) : Nat := 0xB020C + 0x10 * i
abbrev A.REJ_FOREIGN_PIX : Nat := 0x32060
abbrev A.RET_BG_FALLBACK : Nat := 0x31098
abbrev A.RET_CTRL : Nat := 0x31008
abbrev A.RET_DROPPED : Nat := 0x31078
abbrev A.RET_EMPTY : Nat := 0x310A0
abbrev A.RET_EXCESS : Nat := 0x31080
abbrev A.RET_FOREIGN : Nat := 0x31070
abbrev A.RET_NG : Nat := 0x31040
abbrev A.RET_NG_ACTIVE : Nat := 0x31044
abbrev A.RET_PARTICULATE : Nat := 0x31068
abbrev A.RET_RANGE_CLAMP : Nat := 0x31090
abbrev A.RET_RETURNS : Nat := 0x31060
abbrev A.RET_TEMP_NOW : Nat := 0x3104C
abbrev A.RET_TEMP_SEL : Nat := 0x31048
abbrev A.RET_WALK_CLAMP : Nat := 0x31088
abbrev A.RET_WCLASS (k : Nat) : Nat := 0x31100 + 4 * k
abbrev A.RLG_LAST_Q (i : Nat) : Nat := 0x31214 + 0x20 * i
abbrev A.RLG_ZERO (i : Nat) : Nat := 0x31208 + 0x20 * i
abbrev A.RN_ACTIVE (i : Nat) : Nat := 0x32604 + 0x20 * i
abbrev A.RN_CURD (i : Nat) : Nat := 0x32608 + 0x20 * i
abbrev A.RN_WHEY (i : Nat) : Nat := 0x32610 + 0x20 * i
abbrev A.SAF_CAUSE : Nat := 0x90040
abbrev A.SAF_CFG_CRC : Nat := 0x90084
abbrev A.SAF_CFG_CRC_CALC : Nat := 0x90088
abbrev A.SAF_CFG_CTRL : Nat := 0x90080
abbrev A.SAF_INPUTS : Nat := 0x9004C
abbrev A.SAF_LATCH_A : Nat := 0x90044
abbrev A.SAF_LATCH_B : Nat := 0x90048
abbrev A.SAF_MISMATCHES : Nat := 0x90078
abbrev A.SAF_RESETS : Nat := 0x90068
abbrev A.SAF_RESET_REFUSED : Nat := 0x90070
abbrev A.SAF_SPEED_A : Nat := 0x90054
abbrev A.SAF_SPEED_B : Nat := 0x90058
abbrev A.SAF_STATUS : Nat := 0x9000C
abbrev A.SAF_STOPS : Nat := 0x90060
abbrev A.SAF_STOP_MS : Nat := 0x9005C
abbrev A.SCN_PHASE_ERR : Nat := 0x80058
abbrev A.SCN_PHASE_OFS : Nat := 0x80054
abbrev A.SCN_SCAN_MODE : Nat := 0x80040
abbrev A.SCN_STATUS : Nat := 0x8000C
abbrev A.SCN_TICK_COUNT : Nat := 0x8005C
abbrev A.SDC_CFG (i : Nat) : Nat := 0x83100 + 0x40 * i
abbrev A.SDC_CFG_ACTIVE (i : Nat) : Nat := 0x83104 + 0x40 * i
abbrev A.SDC_ENV (i : Nat) : Nat := 0x83118 + 0x40 * i
abbrev A.SDC_OUT (i : Nat) : Nat := 0x83108 + 0x40 * i
abbrev A.SDC_PEAK (i : Nat) : Nat := 0x83110 + 0x40 * i
abbrev A.SDC_STARTS (i : Nat) : Nat := 0x83130 + 0x40 * i
abbrev A.SL_AUX (i : Nat) : Nat := 0x80138 + 0x40 * i
abbrev A.SL_AUX_SP (i : Nat) : Nat := 0x8013C + 0x40 * i
abbrev A.SL_FF_OFS (i : Nat) : Nat := 0x80114 + 0x40 * i
abbrev A.SL_INTEG (i : Nat) : Nat := 0x80130 + 0x40 * i
abbrev A.SL_KD (i : Nat) : Nat := 0x8010C + 0x40 * i
abbrev A.SL_KFF (i : Nat) : Nat := 0x80110 + 0x40 * i
abbrev A.SL_KI (i : Nat) : Nat := 0x80108 + 0x40 * i
abbrev A.SL_KP (i : Nat) : Nat := 0x80104 + 0x40 * i
abbrev A.SL_MEAS (i : Nat) : Nat := 0x8012C + 0x40 * i
abbrev A.SL_OUT (i : Nat) : Nat := 0x80134 + 0x40 * i
abbrev A.SL_OUT_MAX (i : Nat) : Nat := 0x8011C + 0x40 * i
abbrev A.SL_OUT_MIN (i : Nat) : Nat := 0x80118 + 0x40 * i
abbrev A.SL_SETPOINT (i : Nat) : Nat := 0x80128 + 0x40 * i
abbrev A.STQ_CTRL : Nat := 0x50008
abbrev A.STQ_DROPPED : Nat := 0x50060
abbrev A.STQ_FREE_MIN : Nat := 0x50050
abbrev A.STQ_GAP_FRAMES : Nat := 0x50068
abbrev A.STQ_LAST_DROP_Q : Nat := 0x50054
abbrev A.STQ_MOVES : Nat := 0x50078
abbrev A.STQ_POOL_BLOCKS : Nat := 0x50040
abbrev A.STQ_POOL_FREE : Nat := 0x50044
abbrev A.STQ_RESERVE_SUM : Nat := 0x50048
abbrev A.STQ_SEGMENTS : Nat := 0x50070
abbrev A.ST_COUNT (i : Nat) : Nat := 0x1008C + 0x1000 * (i / 2) + 0x40 * (i % 2)
abbrev A.ST_CTRL (i : Nat) : Nat := 0x10080 + 0x1000 * (i / 2) + 0x40 * (i % 2)
abbrev A.ST_EXTRA (i : Nat) : Nat := 0x1009C + 0x1000 * (i / 2) + 0x40 * (i % 2)
abbrev A.ST_LAST (i : Nat) : Nat := 0x10088 + 0x1000 * (i / 2) + 0x40 * (i % 2)
abbrev A.ST_MISS (i : Nat) : Nat := 0x10094 + 0x1000 * (i / 2) + 0x40 * (i % 2)
abbrev A.ST_NOMINAL (i : Nat) : Nat := 0x10084 + 0x1000 * (i / 2) + 0x40 * (i % 2)
abbrev A.ST_STRAY (i : Nat) : Nat := 0x100A4 + 0x1000 * (i / 2) + 0x40 * (i % 2)
abbrev A.TDC_BANK_MODE (i : Nat) : Nat := 0x10040 + 0x1000 * i
abbrev A.TDC_FIFO_OVF (i k : Nat) : Nat := 0x10050 + 0x1000 * i + 4 * k
abbrev A.TDU_COUNT (i : Nat) : Nat := 0x18114 + 0x40 * i
abbrev A.TDU_CTRL (i : Nat) : Nat := 0x18100 + 0x40 * i
abbrev A.TDU_HIST (i k : Nat) : Nat := 0x18800 + 0x80 * i + 4 * k
abbrev A.TDU_HOFFSET (i : Nat) : Nat := 0x1810C + 0x40 * i
abbrev A.TDU_MAX (i : Nat) : Nat := 0x18124 + 0x40 * i
abbrev A.TDU_MEAN (i : Nat) : Nat := 0x18134 + 0x40 * i
abbrev A.TDU_MIN (i : Nat) : Nat := 0x18120 + 0x40 * i
abbrev A.TDU_SRC (i : Nat) : Nat := 0x18104 + 0x40 * i
abbrev A.TDU_STATUS (i : Nat) : Nat := 0x18130 + 0x40 * i
abbrev A.TDU_SUM_LO (i : Nat) : Nat := 0x18118 + 0x40 * i
abbrev A.TDU_TARGET (i : Nat) : Nat := 0x18110 + 0x40 * i
abbrev A.TDU_UNPAIRED (i : Nat) : Nat := 0x18128 + 0x40 * i
abbrev A.THM_ALERTS : Nat := 0xC1060
abbrev A.THM_ALERT_NOW : Nat := 0xC104C
abbrev A.THM_BUDGET_OUTS : Nat := 0xC1078
abbrev A.THM_IMMEDIATE_STOPS : Nat := 0xC1070
abbrev A.THM_ORDERLY_STOPS : Nat := 0xC1068
abbrev A.THM_TRIP_LATCH : Nat := 0xC1048
abbrev A.TOUT_SEC_HI (i : Nat) : Nat := 0x20614 + 0x20 * i
abbrev A.TOUT_SEC_LO (i : Nat) : Nat := 0x20610 + 0x20 * i
abbrev A.VAT_BACKLOG_PEAK : Nat := 0x3004C
abbrev A.VAT_CTRL : Nat := 0x30008
abbrev A.VAT_INSP_BIN_DATA : Nat := 0x30128
abbrev A.VAT_INSP_HDR (k : Nat) : Nat := 0x30104 + 4 * k
abbrev A.VAT_INSP_SEL : Nat := 0x30100
abbrev A.VAT_MIN_FREE : Nat := 0x30048
abbrev A.VAT_NO_CONTEXT : Nat := 0x30060
abbrev A.VAT_NO_CONTEXT_PIX : Nat := 0x30068
abbrev A.VAT_NO_PEAK : Nat := 0x30070
abbrev A.VAT_OOR : Nat := 0x30078
abbrev A.VAT_P4_DROP : Nat := 0x30080
abbrev A.VAT_PIXELS : Nat := 0x30088
abbrev A.VAT_SAT_CTX : Nat := 0x30098
abbrev A.VAT_SHORT_DWELL : Nat := 0x30090
abbrev A.VID_BG_COLOUR : Nat := 0xB0084
abbrev A.VID_C_FRAMES : Nat := 0xB0130
abbrev A.VID_C_L0_OFF : Nat := 0xB0118
abbrev A.VID_C_L0_UNDERRUN : Nat := 0xB0100
abbrev A.VID_C_RECT_MISMATCH_CNT : Nat := 0xB0150
abbrev A.VID_C_SRC_DISCARD : Nat := 0xB0148
abbrev A.VID_C_SRC_DROP : Nat := 0xB0140
abbrev A.VID_C_SRC_SHOWN : Nat := 0xB0138
abbrev A.VID_C_TIMING_GAPS : Nat := 0xB0158
abbrev A.VID_FETCH_PEAK : Nat := 0xB00E0
abbrev A.VID_FOCUS_COLOUR : Nat := 0xB00A4
abbrev A.VID_FOCUS_FAR : Nat := 0xB00A0
abbrev A.VID_FOCUS_NEAR : Nat := 0xB009C
abbrev A.VID_L0_LUT_BASE : Nat := 0xB0094
abbrev A.VID_L0_NODATA : Nat := 0xB0098
abbrev A.VID_LAYER_CFG : Nat := 0xB0080
abbrev A.VID_OUT_ACTIVE : Nat := 0xB0058
abbrev A.VID_OVL_BASE : Nat := 0xB00AC
abbrev A.VID_OVL_STRIDE : Nat := 0xB00B8
abbrev A.VID_PCLK_ACTIVE : Nat := 0xB005C
abbrev A.VID_RECT_MISMATCH : Nat := 0xB00D8
abbrev A.VID_SHOWN_FRAME_LO : Nat := 0xB00E8
abbrev A.VID_SRC_BASE : Nat := 0xB0064
abbrev A.VID_TBL_DATA : Nat := 0xB00C8
abbrev A.VLG_OFFSET (i : Nat) : Nat := 0x30208 + 0x20 * i
abbrev A.VLG_WORK (i : Nat) : Nat := 0x30214 + 0x20 * i
abbrev A.WNB_CTRL : Nat := 0x60008
abbrev A.WNB_LINK_ID : Nat := 0x60048
abbrev A.WNB_LREF_SEL : Nat := 0x60044
abbrev A.WNB_LREF_STATUS : Nat := 0x60050
abbrev A.WNB_MARK_DROP : Nat := 0x60060
abbrev A.WNB_MARK_EN : Nat := 0x6004C

abbrev F.ACQ_ACQ_MODE_MASK_STOP : Fld := ⟨0x40044, 1, 1⟩
abbrev F.ACQ_ACQ_MODE_RETAIN : Fld := ⟨0x40044, 0, 1⟩
abbrev F.ACQ_AUTO_TIMEOUT : Fld := ⟨0x40098, 0, 16⟩
abbrev F.ACQ_CTRL_ENABLE : Fld := ⟨0x40008, 0, 1⟩
abbrev F.ACQ_EPOCH_NS : Fld := ⟨0x4005C, 0, 30⟩
abbrev F.ACQ_EVT_RAW_FORCED : Fld := ⟨0x40010, 9, 1⟩
abbrev F.ACQ_EVT_RAW_FRAME_SKIP : Fld := ⟨0x40010, 10, 1⟩
abbrev F.ACQ_EVT_RAW_FRAME_START : Fld := ⟨0x40010, 0, 1⟩
abbrev F.ACQ_EVT_RAW_GENLOCK_LOST : Fld := ⟨0x40010, 8, 1⟩
abbrev F.ACQ_EVT_RAW_OVERLAP : Fld := ⟨0x40010, 3, 1⟩
abbrev F.ACQ_EVT_RAW_P4_LOSS : Fld := ⟨0x40010, 11, 1⟩
abbrev F.ACQ_EVT_RAW_PRE_SHORT : Fld := ⟨0x40010, 4, 1⟩
abbrev F.ACQ_EVT_RAW_SEQ_DONE : Fld := ⟨0x40010, 6, 1⟩
abbrev F.ACQ_EVT_RAW_STOPPED : Fld := ⟨0x40010, 7, 1⟩
abbrev F.ACQ_EVT_RAW_TRIGGER : Fld := ⟨0x40010, 1, 1⟩
abbrev F.ACQ_EVT_RAW_TRIG_IGNORED : Fld := ⟨0x40010, 2, 1⟩
abbrev F.ACQ_EVT_RAW_TRUNC : Fld := ⟨0x40010, 5, 1⟩
abbrev F.ACQ_IMAGE_CFG_DSCALE : Fld := ⟨0x40080, 0, 3⟩
abbrev F.ACQ_IMAGE_CFG_P1_SEL : Fld := ⟨0x40080, 8, 2⟩
abbrev F.ACQ_MODE_ACTIVE_ACQ_MODE : Fld := ⟨0x40048, 0, 2⟩
abbrev F.ACQ_PERIOD_NS : Fld := ⟨0x4004C, 0, 30⟩
abbrev F.ACQ_RET_HOLDOFF_HOLDOFF : Fld := ⟨0x400C8, 0, 16⟩
abbrev F.ACQ_RET_POST_POST : Fld := ⟨0x400C4, 0, 24⟩
abbrev F.ACQ_RET_PRE_PRE : Fld := ⟨0x400C0, 0, 16⟩
abbrev F.ACQ_RING_BASE : Fld := ⟨0x400CC, 0, 14⟩
abbrev F.ACQ_RING_BLOCKS : Fld := ⟨0x400D0, 0, 14⟩
abbrev F.ACQ_STATUS_GENLOCK_LOST : Fld := ⟨0x4000C, 3, 1⟩
abbrev F.ACQ_STATUS_IN_FRAME : Fld := ⟨0x4000C, 1, 1⟩
abbrev F.ACQ_STATUS_PASS_THROUGH : Fld := ⟨0x4000C, 4, 1⟩
abbrev F.ACQ_STATUS_RET_STATE : Fld := ⟨0x4000C, 5, 3⟩
abbrev F.ACQ_STATUS_RUNNING : Fld := ⟨0x4000C, 0, 1⟩
abbrev F.ACQ_STATUS_STOPPED : Fld := ⟨0x4000C, 2, 1⟩
abbrev F.ACQ_TB_CFG_DRIVE : Fld := ⟨0x400B0, 24, 4⟩
abbrev F.ACQ_TB_CFG_FALL : Fld := ⟨0x400B0, 16, 4⟩
abbrev F.ACQ_TB_CFG_PULSE_NS : Fld := ⟨0x400B0, 0, 8⟩
abbrev F.ACQ_TB_DELAY (k : Nat) : Fld := ⟨0x400A0 + 4 * k, 0, 16⟩
abbrev F.ACQ_TIME_REF_GL_FALLING : Fld := ⟨0x40040, 2, 1⟩
abbrev F.ACQ_TIME_REF_MODE : Fld := ⟨0x40040, 0, 2⟩
abbrev F.B_CFG_CHECK_LINK (i : Nat) : Fld := ⟨0x61040 + 0x80 * i, 30, 1⟩
abbrev F.B_CFG_EXPECT_LINK (i : Nat) : Fld := ⟨0x61040 + 0x80 * i, 24, 5⟩
abbrev F.B_CFG_MAX_RATE (i : Nat) : Fld := ⟨0x61040 + 0x80 * i, 20, 3⟩
abbrev F.B_CFG_MIN_LANES_M1 (i : Nat) : Fld := ⟨0x61040 + 0x80 * i, 16, 4⟩
abbrev F.B_CFG_PAIR (i : Nat) : Fld := ⟨0x61040 + 0x80 * i, 31, 1⟩
abbrev F.B_CFG_TRAIN_ATTEMPTS (i : Nat) : Fld := ⟨0x61040 + 0x80 * i, 12, 4⟩
abbrev F.B_CTRL_AUTO_RESTART (i : Nat) : Fld := ⟨0x61008 + 0x80 * i, 9, 1⟩
abbrev F.B_CTRL_AUTO_WAKE (i : Nat) : Fld := ⟨0x61008 + 0x80 * i, 8, 1⟩
abbrev F.B_CTRL_ENABLE (i : Nat) : Fld := ⟨0x61008 + 0x80 * i, 0, 1⟩
abbrev F.B_CTRL_POWER_REQ (i : Nat) : Fld := ⟨0x61008 + 0x80 * i, 4, 2⟩
abbrev F.B_EVT_RAW_DOWN (i : Nat) : Fld := ⟨0x61010 + 0x80 * i, 1, 1⟩
abbrev F.B_EVT_RAW_FRAMES_LOST (i : Nat) : Fld := ⟨0x61010 + 0x80 * i, 7, 1⟩
abbrev F.B_EVT_RAW_LANES_LOW (i : Nat) : Fld := ⟨0x61010 + 0x80 * i, 8, 1⟩
abbrev F.B_EVT_RAW_LANE_LOSS (i : Nat) : Fld := ⟨0x61010 + 0x80 * i, 3, 1⟩
abbrev F.B_EVT_RAW_LANE_REJOIN (i : Nat) : Fld := ⟨0x61010 + 0x80 * i, 4, 1⟩
abbrev F.B_EVT_RAW_NAK_RX (i : Nat) : Fld := ⟨0x61010 + 0x80 * i, 5, 1⟩
abbrev F.B_EVT_RAW_POWER_CHANGE (i : Nat) : Fld := ⟨0x61010 + 0x80 * i, 9, 1⟩
abbrev F.B_EVT_RAW_PROTOCOL (i : Nat) : Fld := ⟨0x61010 + 0x80 * i, 10, 1⟩
abbrev F.B_EVT_RAW_RECOVERY (i : Nat) : Fld := ⟨0x61010 + 0x80 * i, 2, 1⟩
abbrev F.B_EVT_RAW_TRAIN_FAIL (i : Nat) : Fld := ⟨0x61010 + 0x80 * i, 6, 1⟩
abbrev F.B_EVT_RAW_UP (i : Nat) : Fld := ⟨0x61010 + 0x80 * i, 0, 1⟩
abbrev F.B_LANES_COUNT_M1 (i : Nat) : Fld := ⟨0x61044 + 0x80 * i, 0, 4⟩
abbrev F.B_LANES_FIRST (i : Nat) : Fld := ⟨0x61044 + 0x80 * i, 8, 8⟩
abbrev F.B_LANES_LANE_EN (i : Nat) : Fld := ⟨0x61044 + 0x80 * i, 16, 16⟩
abbrev F.B_MASK_RX (i : Nat) : Fld := ⟨0x61050 + 0x80 * i, 0, 16⟩
abbrev F.B_MASK_TX (i : Nat) : Fld := ⟨0x61050 + 0x80 * i, 16, 16⟩
abbrev F.B_OFFER_OWN (i : Nat) : Fld := ⟨0x61054 + 0x80 * i, 16, 16⟩
abbrev F.B_OFFER_PARTNER (i : Nat) : Fld := ⟨0x61054 + 0x80 * i, 0, 16⟩
abbrev F.B_REPLAY_FRAMES (i : Nat) : Fld := ⟨0x6105C + 0x80 * i, 16, 13⟩
abbrev F.B_REPLAY_UNITS (i : Nat) : Fld := ⟨0x6105C + 0x80 * i, 0, 14⟩
abbrev F.B_RETRY_RECOVERY_MS (i : Nat) : Fld := ⟨0x6104C + 0x80 * i, 8, 8⟩
abbrev F.B_RETRY_REPLAY_MAX (i : Nat) : Fld := ⟨0x6104C + 0x80 * i, 0, 4⟩
abbrev F.B_SEQ_LAST (i : Nat) : Fld := ⟨0x61058 + 0x80 * i, 0, 16⟩
abbrev F.B_SEQ_NEXT (i : Nat) : Fld := ⟨0x61058 + 0x80 * i, 16, 16⟩
abbrev F.B_STATUS_ACTIVE_LANES (i : Nat) : Fld := ⟨0x6100C + 0x80 * i, 16, 5⟩
abbrev F.B_STATUS_DEGRADED (i : Nat) : Fld := ⟨0x6100C + 0x80 * i, 7, 1⟩
abbrev F.B_STATUS_LANES_LOW (i : Nat) : Fld := ⟨0x6100C + 0x80 * i, 6, 1⟩
abbrev F.B_STATUS_PAIR (i : Nat) : Fld := ⟨0x6100C + 0x80 * i, 5, 1⟩
abbrev F.B_STATUS_POWER (i : Nat) : Fld := ⟨0x6100C + 0x80 * i, 12, 2⟩
abbrev F.B_STATUS_RATE (i : Nat) : Fld := ⟨0x6100C + 0x80 * i, 8, 3⟩
abbrev F.B_STATUS_STATE (i : Nat) : Fld := ⟨0x6100C + 0x80 * i, 0, 3⟩
abbrev F.B_TIMERS_ACK_INT (i : Nat) : Fld := ⟨0x61048 + 0x80 * i, 8, 8⟩
abbrev F.B_TIMERS_CREDIT_INT (i : Nat) : Fld := ⟨0x61048 + 0x80 * i, 0, 8⟩
abbrev F.B_TIMERS_REPLAY_TO (i : Nat) : Fld := ⟨0x61048 + 0x80 * i, 16, 16⟩
abbrev F.CAL_CTRL_ENABLE : Fld := ⟨0xD0008, 0, 1⟩
abbrev F.CAL_CTRL_START : Fld := ⟨0xD0008, 3, 1⟩
abbrev F.CAL_EVT_RAW_APPLIED : Fld := ⟨0xD0010, 2, 1⟩
abbrev F.CAL_EVT_RAW_CLAMP : Fld := ⟨0xD0010, 6, 1⟩
abbrev F.CAL_EVT_RAW_DUP_TEMP : Fld := ⟨0xD0010, 4, 1⟩
abbrev F.CAL_EVT_RAW_JOB_DONE : Fld := ⟨0xD0010, 0, 1⟩
abbrev F.CAL_EVT_RAW_JOB_FAIL : Fld := ⟨0xD0010, 1, 1⟩
abbrev F.CAL_EVT_RAW_OUT_OF_RANGE : Fld := ⟨0xD0010, 3, 1⟩
abbrev F.CAL_EVT_RAW_TEMP_STALE : Fld := ⟨0xD0010, 5, 1⟩
abbrev F.CAL_JOB_CFG_SET : Fld := ⟨0xD0040, 24, 3⟩
abbrev F.CAL_JOB_CFG_TYPE : Fld := ⟨0xD0040, 28, 4⟩
abbrev F.CAL_JOB_EVENTS : Fld := ⟨0xD0044, 0, 24⟩
abbrev F.CAL_JOB_STATUS_EVENTS : Fld := ⟨0xD0068, 0, 24⟩
abbrev F.CAL_JOB_STATUS_STATE : Fld := ⟨0xD0068, 30, 2⟩
abbrev F.CAL_JOB_STATUS_TEMP_DRIFT : Fld := ⟨0xD0068, 29, 1⟩
abbrev F.CAL_SCALE_LIMIT : Fld := ⟨0xD0054, 0, 16⟩
abbrev F.CAL_SEP_FS : Fld := ⟨0xD0050, 0, 26⟩
abbrev F.CAL_STATUS_INSTALLED : Fld := ⟨0xD000C, 6, 1⟩
abbrev F.CAL_STATUS_JOB_RUNNING : Fld := ⟨0xD000C, 0, 1⟩
abbrev F.CAL_STATUS_ORIENT : Fld := ⟨0xD000C, 3, 1⟩
abbrev F.CAL_STATUS_PENDING : Fld := ⟨0xD000C, 4, 1⟩
abbrev F.CAL_STATUS_PHASE : Fld := ⟨0xD000C, 1, 2⟩
abbrev F.CAL_STATUS_SET_HI : Fld := ⟨0xD000C, 12, 3⟩
abbrev F.CAL_STATUS_SET_LO : Fld := ⟨0xD000C, 8, 3⟩
abbrev F.CAL_STATUS_SINGLE_SET : Fld := ⟨0xD000C, 7, 1⟩
abbrev F.CAL_STATUS_TEMP_STALE : Fld := ⟨0xD000C, 5, 1⟩
abbrev F.CAL_TEMP_SEL : Fld := ⟨0xD0058, 0, 6⟩
abbrev F.CAL_TRIM_TARGET : Fld := ⟨0xD0048, 0, 7⟩
abbrev F.CAL_VCAL_CODE0_LO : Fld := ⟨0xD0078, 0, 16⟩
abbrev F.CAL_VCAL_CODE1_LO : Fld := ⟨0xD007C, 0, 16⟩
abbrev F.CAL_VCAL_UV : Fld := ⟨0xD004C, 0, 20⟩
abbrev F.CH_CTRL_ENABLE (i : Nat) : Fld := ⟨0x100000 + 0x100 * i, 0, 1⟩
abbrev F.CH_CTRL_FREE_RUN (i : Nat) : Fld := ⟨0x100000 + 0x100 * i, 3, 1⟩
abbrev F.CH_CTRL_INTERP_BYPASS (i : Nat) : Fld := ⟨0x100000 + 0x100 * i, 2, 1⟩
abbrev F.CH_CTRL_MAX_HITS (i : Nat) : Fld := ⟨0x100000 + 0x100 * i, 4, 3⟩
abbrev F.CH_FIFO_PEAK_PEAK (i : Nat) : Fld := ⟨0x100040 + 0x100 * i, 0, 7⟩
abbrev F.CH_STATUS_FIFO_FULL (i : Nat) : Fld := ⟨0x10000C + 0x100 * i, 1, 1⟩
abbrev F.CH_THRESH_THH (i : Nat) : Fld := ⟨0x100004 + 0x100 * i, 16, 10⟩
abbrev F.CH_THRESH_THL (i : Nat) : Fld := ⟨0x100004 + 0x100 * i, 0, 10⟩
abbrev F.CH_TRIM_DELAY_TAP (i : Nat) : Fld := ⟨0x100008 + 0x100 * i, 16, 7⟩
abbrev F.CH_TRIM_THH_TRIM (i : Nat) : Fld := ⟨0x100008 + 0x100 * i, 8, 8⟩
abbrev F.CH_TRIM_THL_TRIM (i : Nat) : Fld := ⟨0x100008 + 0x100 * i, 0, 8⟩
abbrev F.CLK_EVT_RAW_PLL_UNLOCK : Fld := ⟨0x1010, 3, 1⟩
abbrev F.CLK_EVT_RAW_REF_LOST : Fld := ⟨0x1010, 1, 1⟩
abbrev F.CLK_EVT_RAW_REF_RETURN : Fld := ⟨0x1010, 2, 1⟩
abbrev F.CLK_EVT_RAW_WARM_CHANGE : Fld := ⟨0x1010, 0, 1⟩
abbrev F.CLK_REF_SEL_FREQ : Fld := ⟨0x1040, 0, 1⟩
abbrev F.CLK_STATUS_HOLDOVER : Fld := ⟨0x100C, 28, 1⟩
abbrev F.CLK_STATUS_LANES_LOCK : Fld := ⟨0x100C, 9, 1⟩
abbrev F.CLK_STATUS_LREF_LOCK : Fld := ⟨0x100C, 6, 1⟩
abbrev F.CLK_STATUS_OCXO_WARM : Fld := ⟨0x100C, 29, 1⟩
abbrev F.CLK_STATUS_REF_LOST : Fld := ⟨0x100C, 30, 1⟩
abbrev F.CLK_STATUS_REF_PRESENT : Fld := ⟨0x100C, 31, 1⟩
abbrev F.CLK_STATUS_SYS_LOCK : Fld := ⟨0x100C, 0, 1⟩
abbrev F.CLK_STATUS_TDC_LOCK : Fld := ⟨0x100C, 2, 4⟩
abbrev F.CLK_STATUS_VID_LOCK : Fld := ⟨0x100C, 8, 1⟩
abbrev F.ENG_HELD_HELD_BLOCKS (i : Nat) : Fld := ⟨0x30C00 + 0x4 * i, 0, 13⟩
abbrev F.ENG_STATUS_REFUSED (i : Nat) : Fld := ⟨0x30800 + 0x4 * i, 31, 1⟩
abbrev F.ESC_COL_ADDR_BANK : Fld := ⟨0x200A0, 12, 1⟩
abbrev F.ESC_COL_ADDR_INDEX : Fld := ⟨0x200A0, 0, 12⟩
abbrev F.ESC_CTRL_ENABLE : Fld := ⟨0x20008, 0, 1⟩
abbrev F.ESC_DITHER_DITHER_SPAN : Fld := ⟨0x2004C, 0, 8⟩
abbrev F.ESC_EVT_RAW_CUT : Fld := ⟨0x20010, 1, 1⟩
abbrev F.ESC_EVT_RAW_MODEL_INVALID : Fld := ⟨0x20010, 3, 1⟩
abbrev F.ESC_EVT_RAW_NTT_FIRED : Fld := ⟨0x20010, 4, 1⟩
abbrev F.ESC_EVT_RAW_NTT_LATE : Fld := ⟨0x20010, 5, 1⟩
abbrev F.ESC_EVT_RAW_STOPPED : Fld := ⟨0x20010, 2, 1⟩
abbrev F.ESC_EVT_RAW_TOUT_LATE : Fld := ⟨0x20010, 6, 1⟩
abbrev F.ESC_EVT_RAW_WITHHELD : Fld := ⟨0x20010, 0, 1⟩
abbrev F.ESC_FRAME_CFG_COLUMNS_M1 : Fld := ⟨0x20040, 16, 12⟩
abbrev F.ESC_FRAME_CFG_COL_BANK : Fld := ⟨0x20040, 15, 1⟩
abbrev F.ESC_FRAME_CFG_FRAME_FACETS : Fld := ⟨0x20040, 0, 12⟩
abbrev F.ESC_FRAME_CFG_IL_COUNT_M1 : Fld := ⟨0x20040, 12, 2⟩
abbrev F.ESC_GROUP_GUARD_GUARD : Fld := ⟨0x20048, 0, 8⟩
abbrev F.ESC_STARE_COL_STARE_COL_NS : Fld := ⟨0x20050, 0, 24⟩
abbrev F.ESC_STARE_FIRST : Fld := ⟨0x20054, 0, 24⟩
abbrev F.ESC_STATUS_RUNNING : Fld := ⟨0x2000C, 0, 1⟩
abbrev F.ETHP_CTRL_ENABLE (i : Nat) : Fld := ⟨0xA1008 + 0x1000 * i, 0, 1⟩
abbrev F.ETHP_EVT_RAW_AN_FAIL (i : Nat) : Fld := ⟨0xA1010 + 0x1000 * i, 3, 1⟩
abbrev F.ETHP_EVT_RAW_LINK_DOWN (i : Nat) : Fld := ⟨0xA1010 + 0x1000 * i, 2, 1⟩
abbrev F.ETHP_EVT_RAW_LINK_UP (i : Nat) : Fld := ⟨0xA1010 + 0x1000 * i, 1, 1⟩
abbrev F.ETHP_EVT_RAW_PAUSE_RX (i : Nat) : Fld := ⟨0xA1010 + 0x1000 * i, 0, 1⟩
abbrev F.ETHP_PAUSE_TH_PAUSE_OFF (i : Nat) : Fld := ⟨0xA1050 + 0x1000 * i, 0, 16⟩
abbrev F.ETHP_PAUSE_TH_PAUSE_ON (i : Nat) : Fld := ⟨0xA1050 + 0x1000 * i, 16, 16⟩
abbrev F.ETHP_PORT_CFG_AN_EN (i : Nat) : Fld := ⟨0xA1040 + 0x1000 * i, 4, 1⟩
abbrev F.ETHP_PORT_CFG_ASM_DIR (i : Nat) : Fld := ⟨0xA1040 + 0x1000 * i, 9, 1⟩
abbrev F.ETHP_PORT_CFG_FORCE_RX_PAUSE (i : Nat) : Fld := ⟨0xA1040 + 0x1000 * i, 11, 1⟩
abbrev F.ETHP_PORT_CFG_FORCE_TX_PAUSE (i : Nat) : Fld := ⟨0xA1040 + 0x1000 * i, 10, 1⟩
abbrev F.ETHP_PORT_CFG_MODE (i : Nat) : Fld := ⟨0xA1040 + 0x1000 * i, 0, 2⟩
abbrev F.ETHP_PORT_CFG_PAUSE (i : Nat) : Fld := ⟨0xA1040 + 0x1000 * i, 8, 1⟩
abbrev F.ETHP_STATUS_LINK (i : Nat) : Fld := ⟨0xA100C + 0x1000 * i, 31, 1⟩
abbrev F.ETHP_STATUS_LP_WORD (i : Nat) : Fld := ⟨0xA100C + 0x1000 * i, 0, 16⟩
abbrev F.ETHP_STATUS_PAUSED (i : Nat) : Fld := ⟨0xA100C + 0x1000 * i, 25, 1⟩
abbrev F.ETHP_STATUS_RX_PAUSE (i : Nat) : Fld := ⟨0xA100C + 0x1000 * i, 27, 1⟩
abbrev F.ETHP_STATUS_SPEED (i : Nat) : Fld := ⟨0xA100C + 0x1000 * i, 28, 2⟩
abbrev F.ETHP_STATUS_TX_PAUSE (i : Nat) : Fld := ⟨0xA100C + 0x1000 * i, 26, 1⟩
abbrev F.ETHP_TS_MODE (i : Nat) : Fld := ⟨0xA1044 + 0x1000 * i, 0, 1⟩
abbrev F.ETH_AGE : Fld := ⟨0xA0044, 0, 16⟩
abbrev F.ETH_CFG_CLK_312 : Fld := ⟨0xA0040, 8, 1⟩
abbrev F.ETH_CFG_LEARN_EN : Fld := ⟨0xA0040, 0, 1⟩
abbrev F.ETH_CFG_PLN_TO_HOST : Fld := ⟨0xA0040, 2, 1⟩
abbrev F.ETH_CFG_TC_EN : Fld := ⟨0xA0040, 1, 1⟩
abbrev F.ETH_CTRL_ENABLE : Fld := ⟨0xA0008, 0, 1⟩
abbrev F.ETH_EVT_RAW_FU_UNMATCHED : Fld := ⟨0xA0010, 2, 1⟩
abbrev F.ETH_EVT_RAW_HOST_DROP : Fld := ⟨0xA0010, 0, 1⟩
abbrev F.ETH_EVT_RAW_LEARN_FULL : Fld := ⟨0xA0010, 1, 1⟩
abbrev F.ETH_EVT_RAW_MB_RX : Fld := ⟨0xA0010, 4, 1⟩
abbrev F.ETH_EVT_RAW_TC_EVICT : Fld := ⟨0xA0010, 3, 1⟩
abbrev F.ETH_MB_RX_STATUS_RECORDS : Fld := ⟨0xA0050, 16, 16⟩
abbrev F.ETH_STATUS_ACTIVE : Fld := ⟨0xA000C, 0, 1⟩
abbrev F.ETH_TUNNEL_CFG_BUNDLE : Fld := ⟨0xA0048, 0, 5⟩
abbrev F.ETH_TUNNEL_CFG_PATH : Fld := ⟨0xA0048, 16, 2⟩
abbrev F.FCT_CTRL_ENABLE : Fld := ⟨0x18008, 0, 1⟩
abbrev F.FCT_EVT_RAW_DONE : Fld := ⟨0x18010, 0, 16⟩
abbrev F.FCT_EVT_RAW_NO_SIGNAL : Fld := ⟨0x18010, 20, 4⟩
abbrev F.FCT_EVT_RAW_RESULT : Fld := ⟨0x18010, 16, 4⟩
abbrev F.FCT_STATUS_TDU_RUN : Fld := ⟨0x1800C, 0, 16⟩
abbrev F.FC_CTRL_CONT (i : Nat) : Fld := ⟨0x18500 + 0x20 * i, 1, 1⟩
abbrev F.FC_CTRL_GATE_US (i : Nat) : Fld := ⟨0x18500 + 0x20 * i, 8, 24⟩
abbrev F.FC_CTRL_RUN (i : Nat) : Fld := ⟨0x18500 + 0x20 * i, 0, 1⟩
abbrev F.FC_STATUS_DONE (i : Nat) : Fld := ⟨0x18510 + 0x20 * i, 0, 1⟩
abbrev F.FC_STATUS_NO_SIGNAL (i : Nat) : Fld := ⟨0x18510 + 0x20 * i, 1, 1⟩
abbrev F.FC_STATUS_PROVISIONAL (i : Nat) : Fld := ⟨0x18510 + 0x20 * i, 2, 1⟩
abbrev F.FC_STATUS_RESULTS (i : Nat) : Fld := ⟨0x18510 + 0x20 * i, 16, 16⟩
abbrev F.FG_CTRL_LIMIT (i : Nat) : Fld := ⟨0x32204 + 0x20 * i, 8, 6⟩
abbrev F.FG_DECOY_LEN (i : Nat) : Fld := ⟨0x32200 + 0x20 * i, 16, 13⟩
abbrev F.GAL_CTRL_ENABLE : Fld := ⟨0x82008, 0, 1⟩
abbrev F.GAL_DAC_LAST : Fld := ⟨0x82094, 0, 18⟩
abbrev F.GAL_DAC_MID : Fld := ⟨0x82048, 0, 18⟩
abbrev F.GAL_EVT_RAW_GALV_FREEZE : Fld := ⟨0x82010, 0, 1⟩
abbrev F.GAL_EVT_RAW_POS_LOST : Fld := ⟨0x82010, 1, 1⟩
abbrev F.GAL_EVT_RAW_POS_MISSED : Fld := ⟨0x82010, 4, 1⟩
abbrev F.GAL_EVT_RAW_READY : Fld := ⟨0x82010, 2, 1⟩
abbrev F.GAL_EVT_RAW_SEG_END : Fld := ⟨0x82010, 3, 1⟩
abbrev F.GAL_FREEZE_N : Fld := ⟨0x82084, 0, 12⟩
abbrev F.GAL_IL_SEG_FIRST (k : Nat) : Fld := ⟨0x82060 + 4 * k, 0, 12⟩
abbrev F.GAL_IL_SEG_LEN (k : Nat) : Fld := ⟨0x82060 + 4 * k, 16, 13⟩
abbrev F.GAL_MODE_REQ : Fld := ⟨0x82040, 0, 2⟩
abbrev F.GAL_READY_N : Fld := ⟨0x82080, 0, 8⟩
abbrev F.GAL_SAFE_CODE : Fld := ⟨0x8204C, 0, 18⟩
abbrev F.GAL_SPI_CFG_BITS18 : Fld := ⟨0x82044, 8, 1⟩
abbrev F.GAL_SPI_CFG_CMD : Fld := ⟨0x82044, 28, 4⟩
abbrev F.GAL_STATUS_IL_POS : Fld := ⟨0x8200C, 8, 2⟩
abbrev F.GAL_STATUS_MODE : Fld := ⟨0x8200C, 0, 2⟩
abbrev F.GAL_STATUS_READY : Fld := ⟨0x8200C, 2, 1⟩
abbrev F.GAL_STATUS_SAFE : Fld := ⟨0x8200C, 3, 1⟩
abbrev F.GAL_STATUS_SEG_ACTIVE : Fld := ⟨0x8200C, 4, 1⟩
abbrev F.GAL_TBL_ADDR_BANK : Fld := ⟨0x82074, 12, 1⟩
abbrev F.GAL_TBL_ADDR_INDEX : Fld := ⟨0x82074, 0, 12⟩
abbrev F.GAL_TBL_CFG_TBL_BANK : Fld := ⟨0x82070, 0, 1⟩
abbrev F.GLB_EVT_RAW_POOL_ZEROED : Fld := ⟨0x10, 1, 1⟩
abbrev F.GLB_EVT_RAW_WIPE_DONE : Fld := ⟨0x10, 0, 1⟩
abbrev F.GLB_MEMWIN_BASE_BASE_MIB : Fld := ⟨0x48, 0, 7⟩
abbrev F.GLB_POOL_SPLIT_DISPLAY : Fld := ⟨0x50, 0, 6⟩
abbrev F.GLB_POOL_SPLIT_RETAIN : Fld := ⟨0x50, 16, 6⟩
abbrev F.GLB_POOL_SPLIT_STREAM : Fld := ⟨0x50, 8, 6⟩
abbrev F.GLB_RESET_CAUSE_POR : Fld := ⟨0x54, 0, 1⟩
abbrev F.GLB_STATUS_POOL_ZEROING : Fld := ⟨0xC, 2, 1⟩
abbrev F.GLB_STATUS_WIPE_BUSY : Fld := ⟨0xC, 1, 1⟩
abbrev F.GLB_STATUS_WIPE_DONE : Fld := ⟨0xC, 0, 1⟩
abbrev F.GLB_STRAPS_PAIR_ID : Fld := ⟨0x58, 1, 1⟩
abbrev F.HCH_RAW_A (i : Nat) : Fld := ⟨0xC0108 + 0x20 * i, 0, 24⟩
abbrev F.HCH_STATUS_COUNT (i : Nat) : Fld := ⟨0xC0110 + 0x20 * i, 0, 16⟩
abbrev F.HCH_STATUS_DISCARD (i : Nat) : Fld := ⟨0xC0110 + 0x20 * i, 26, 1⟩
abbrev F.HCH_STATUS_STALE (i : Nat) : Fld := ⟨0xC0110 + 0x20 * i, 25, 1⟩
abbrev F.HCH_STATUS_VALID (i : Nat) : Fld := ⟨0xC0110 + 0x20 * i, 31, 1⟩
abbrev F.HKA_BLANK_CFG_BLANK_MAX : Fld := ⟨0xC0050, 24, 8⟩
abbrev F.HKA_BLANK_CFG_FIRE_POST : Fld := ⟨0xC0050, 0, 8⟩
abbrev F.HKA_BLANK_CFG_FIRE_PRE : Fld := ⟨0xC0050, 8, 8⟩
abbrev F.HKA_CTRL_ENABLE : Fld := ⟨0xC0008, 0, 1⟩
abbrev F.HKA_EVT_RAW_BLANK_TIMEOUT : Fld := ⟨0xC0010, 4, 1⟩
abbrev F.HKA_EVT_RAW_CLAMP : Fld := ⟨0xC0010, 3, 1⟩
abbrev F.HKA_EVT_RAW_EXC_LIMIT : Fld := ⟨0xC0010, 5, 1⟩
abbrev F.HKA_EVT_RAW_OPEN : Fld := ⟨0xC0010, 2, 1⟩
abbrev F.HKA_EVT_RAW_ROUND_DONE : Fld := ⟨0xC0010, 0, 1⟩
abbrev F.HKA_EVT_RAW_ROUND_OVERRUN : Fld := ⟨0xC0010, 1, 1⟩
abbrev F.HKA_EVT_RAW_URG_DONE : Fld := ⟨0xC0010, 6, 1⟩
abbrev F.HKA_EXC_CFG_EXC0 : Fld := ⟨0xC004C, 0, 1⟩
abbrev F.HKA_EXC_CFG_EXC1 : Fld := ⟨0xC004C, 1, 1⟩
abbrev F.HKA_LIN_TEMP_SEL : Fld := ⟨0xC006C, 0, 6⟩
abbrev F.HKA_ROUND_CFG_PERIOD_US : Fld := ⟨0xC0040, 0, 20⟩
abbrev F.HKA_ROUND_CFG_SRC : Fld := ⟨0xC0040, 28, 2⟩
abbrev F.HKA_SCAN_MASK1_HI : Fld := ⟨0xC0048, 2, 2⟩
abbrev F.HKA_STATUS_EXC0_LIMIT : Fld := ⟨0xC000C, 5, 1⟩
abbrev F.HKA_STATUS_EXC1_LIMIT : Fld := ⟨0xC000C, 6, 1⟩
abbrev F.HKA_STATUS_IN_ROUND : Fld := ⟨0xC000C, 1, 1⟩
abbrev F.HKA_STATUS_ROUND_QUEUED : Fld := ⟨0xC000C, 2, 1⟩
abbrev F.HKA_STATUS_RUNNING : Fld := ⟨0xC000C, 0, 1⟩
abbrev F.HKA_STATUS_URGENT_ACTIVE : Fld := ⟨0xC000C, 3, 1⟩
abbrev F.HKA_STATUS_URG_HOST_BUSY : Fld := ⟨0xC000C, 4, 1⟩
abbrev F.HKA_URGENT_CHAN : Fld := ⟨0xC0058, 0, 6⟩
abbrev F.HKA_URGENT_REQ : Fld := ⟨0xC0058, 31, 1⟩
abbrev F.HKA_URG_RAW_RAW : Fld := ⟨0xC0060, 0, 16⟩
abbrev F.IRQ_EVF_CFG_BUNDLE : Fld := ⟨0x3080, 16, 5⟩
abbrev F.IRQ_EVF_CFG_ENABLE : Fld := ⟨0x3080, 31, 1⟩
abbrev F.IRQ_EVF_CFG_HOLDOFF : Fld := ⟨0x3080, 0, 16⟩
abbrev F.IRQ_PIN_STATUS_IRQ0 : Fld := ⟨0x3084, 0, 1⟩
abbrev F.LAMP_CFG_BIN (i : Nat) : Fld := ⟨0xE0100 + 0x10 * i, 24, 4⟩
abbrev F.LAMP_CFG_ENABLE (i : Nat) : Fld := ⟨0xE0100 + 0x10 * i, 31, 1⟩
abbrev F.LAMP_CFG_PROOF_EN (i : Nat) : Fld := ⟨0xE0100 + 0x10 * i, 30, 1⟩
abbrev F.LAMP_CFG_REQ (i : Nat) : Fld := ⟨0xE0100 + 0x10 * i, 0, 12⟩
abbrev F.LAMP_STATUS_DUTY (i : Nat) : Fld := ⟨0xE0104 + 0x10 * i, 0, 12⟩
abbrev F.LAMP_STATUS_ENGINE (i : Nat) : Fld := ⟨0xE0104 + 0x10 * i, 20, 2⟩
abbrev F.LAMP_STATUS_ENG_VALID (i : Nat) : Fld := ⟨0xE0104 + 0x10 * i, 22, 1⟩
abbrev F.LAMP_STATUS_LSENSE (i : Nat) : Fld := ⟨0xE0104 + 0x10 * i, 27, 1⟩
abbrev F.LAMP_STATUS_OPEN (i : Nat) : Fld := ⟨0xE0104 + 0x10 * i, 31, 1⟩
abbrev F.LAMP_STATUS_OPEN_BLIND (i : Nat) : Fld := ⟨0xE0104 + 0x10 * i, 29, 1⟩
abbrev F.LAMP_STATUS_SHORT (i : Nat) : Fld := ⟨0xE0104 + 0x10 * i, 30, 1⟩
abbrev F.LAMP_STATUS_SHORT_BLIND (i : Nat) : Fld := ⟨0xE0104 + 0x10 * i, 28, 1⟩
abbrev F.LENG_CTRL_CHASE_OFS (i : Nat) : Fld := ⟨0xE0400 + 0x100 * i, 0, 5⟩
abbrev F.LENG_CTRL_ENABLE (i : Nat) : Fld := ⟨0xE0400 + 0x100 * i, 31, 1⟩
abbrev F.LENG_CTRL_LAST_STEP (i : Nat) : Fld := ⟨0xE0400 + 0x100 * i, 16, 5⟩
abbrev F.LENG_CTRL_MODE (i : Nat) : Fld := ⟨0xE0400 + 0x100 * i, 26, 1⟩
abbrev F.LENG_CTRL_REPEAT (i : Nat) : Fld := ⟨0xE0400 + 0x100 * i, 8, 8⟩
abbrev F.LENG_CTRL_START_SRC (i : Nat) : Fld := ⟨0xE0400 + 0x100 * i, 28, 3⟩
abbrev F.LENG_CTRL_STOP_ON_FALL (i : Nat) : Fld := ⟨0xE0400 + 0x100 * i, 27, 1⟩
abbrev F.LENG_STATUS_STEP (i : Nat) : Fld := ⟨0xE040C + 0x100 * i, 16, 5⟩
abbrev F.LENG_STEP_LEVEL (i k : Nat) : Fld := ⟨0xE0480 + 0x100 * i + 4 * k, 16, 12⟩
abbrev F.LENG_STEP_TIME (i k : Nat) : Fld := ⟨0xE0480 + 0x100 * i + 4 * k, 0, 16⟩
abbrev F.LG_CHAN_COUNT_M1 (i : Nat) : Fld := ⟨0x20204 + 0x20 * i, 16, 9⟩
abbrev F.LG_CHAN_FIRST (i : Nat) : Fld := ⟨0x20204 + 0x20 * i, 0, 9⟩
abbrev F.LG_CTRL_ENABLE (i : Nat) : Fld := ⟨0x20200 + 0x20 * i, 31, 1⟩
abbrev F.LG_CTRL_LTRIG (i : Nat) : Fld := ⟨0x20200 + 0x20 * i, 16, 5⟩
abbrev F.LG_CTRL_POS (i : Nat) : Fld := ⟨0x20200 + 0x20 * i, 24, 5⟩
abbrev F.LG_CTRL_START (i : Nat) : Fld := ⟨0x20200 + 0x20 * i, 12, 3⟩
abbrev F.LG_CTRL_WIDTH (i : Nat) : Fld := ⟨0x20200 + 0x20 * i, 0, 7⟩
abbrev F.LG_DARK_DARK_EN (i : Nat) : Fld := ⟨0x20214 + 0x20 * i, 31, 1⟩
abbrev F.LG_DARK_DARK_LEN (i : Nat) : Fld := ⟨0x20214 + 0x20 * i, 0, 8⟩
abbrev F.LG_PERIOD_SHOT_PERIOD (i : Nat) : Fld := ⟨0x20208 + 0x20 * i, 0, 24⟩
abbrev F.LG_STATUS_COLUMN (i : Nat) : Fld := ⟨0x20218 + 0x20 * i, 16, 12⟩
abbrev F.LG_STATUS_LAST_D (i : Nat) : Fld := ⟨0x20218 + 0x20 * i, 0, 8⟩
abbrev F.LG_WIN_LEN_WIN_LEN (i : Nat) : Fld := ⟨0x20210 + 0x20 * i, 0, 23⟩
abbrev F.LG_WIN_START_WIN_START (i : Nat) : Fld := ⟨0x2020C + 0x20 * i, 0, 23⟩
abbrev F.LIM_CTRL_CHAN (i : Nat) : Fld := ⟨0xC1100 + 0x20 * i, 16, 6⟩
abbrev F.LIM_CTRL_ENABLE (i : Nat) : Fld := ⟨0xC1100 + 0x20 * i, 31, 1⟩
abbrev F.LIM_CTRL_HIGH_ACT (i : Nat) : Fld := ⟨0xC1100 + 0x20 * i, 12, 2⟩
abbrev F.LIM_CTRL_INV_ACT (i : Nat) : Fld := ⟨0xC1100 + 0x20 * i, 8, 2⟩
abbrev F.LIM_CTRL_RISE_ACT (i : Nat) : Fld := ⟨0xC1100 + 0x20 * i, 10, 2⟩
abbrev F.LIM_CTRL_RISE_W_M1 (i : Nat) : Fld := ⟨0xC1100 + 0x20 * i, 0, 6⟩
abbrev F.LIM_STATUS_HIGH_OVER (i : Nat) : Fld := ⟨0xC1118 + 0x20 * i, 0, 1⟩
abbrev F.LIM_STATUS_INVALID (i : Nat) : Fld := ⟨0xC1118 + 0x20 * i, 2, 1⟩
abbrev F.LIM_STATUS_RATE_VALID (i : Nat) : Fld := ⟨0xC1118 + 0x20 * i, 3, 1⟩
abbrev F.LMP_CTRL_ENABLE : Fld := ⟨0xE0008, 0, 1⟩
abbrev F.LMP_DIAG_CFG_OPEN_N : Fld := ⟨0xE0048, 4, 4⟩
abbrev F.LMP_DIAG_CFG_SHORT_N : Fld := ⟨0xE0048, 0, 4⟩
abbrev F.LMP_EMIT_CFG_EMIT_DUTY : Fld := ⟨0xE0044, 16, 12⟩
abbrev F.LMP_EMIT_CFG_EMIT_LAMP : Fld := ⟨0xE0044, 0, 4⟩
abbrev F.LMP_EVT_RAW_DEBT_DROP : Fld := ⟨0xE0010, 3, 1⟩
abbrev F.LMP_EVT_RAW_ENG_DONE : Fld := ⟨0xE0010, 5, 1⟩
abbrev F.LMP_EVT_RAW_ENG_START : Fld := ⟨0xE0010, 4, 1⟩
abbrev F.LMP_EVT_RAW_OPEN : Fld := ⟨0xE0010, 0, 1⟩
abbrev F.LMP_EVT_RAW_PROVEN : Fld := ⟨0xE0010, 2, 1⟩
abbrev F.LMP_EVT_RAW_SHORT : Fld := ⟨0xE0010, 1, 1⟩
abbrev F.LMP_PWM_CFG_BASE_DIV : Fld := ⟨0xE0040, 0, 12⟩
abbrev F.LMP_STATUS_ACTIVE : Fld := ⟨0xE000C, 0, 1⟩
abbrev F.LMP_STATUS_ENGINES : Fld := ⟨0xE000C, 16, 4⟩
abbrev F.LNQ_CTRL_ENABLE (i : Nat) : Fld := ⟨0x70008 + 0x400 * i, 0, 1⟩
abbrev F.LNQ_EVT_RAW_LANE (i : Nat) : Fld := ⟨0x70010 + 0x400 * i, 0, 16⟩
abbrev F.LNQ_QUAD_CFG_ROLE (i : Nat) : Fld := ⟨0x70040 + 0x400 * i, 0, 1⟩
abbrev F.LNQ_STATUS_CDR_LOCK (i : Nat) : Fld := ⟨0x7000C + 0x400 * i, 4, 4⟩
abbrev F.LNQ_STATUS_PLL_LOCK (i : Nat) : Fld := ⟨0x7000C + 0x400 * i, 0, 4⟩
abbrev F.LN_CTRL_LOOP (i : Nat) : Fld := ⟨0x70100 + 0x400 * (i / 4) + 0xC0 * (i % 4), 24, 3⟩
abbrev F.LN_CTRL_PRBS_RX (i : Nat) : Fld := ⟨0x70100 + 0x400 * (i / 4) + 0xC0 * (i % 4), 16, 3⟩
abbrev F.LN_EQ_RX_CTLE_ACTIVE (i : Nat) : Fld := ⟨0x70110 + 0x400 * (i / 4) + 0xC0 * (i % 4), 16, 4⟩
abbrev F.LN_EQ_RX_CTLE_CODE (i : Nat) : Fld := ⟨0x70110 + 0x400 * (i / 4) + 0xC0 * (i % 4), 24, 4⟩
abbrev F.LN_EQ_RX_CTLE_MANUAL (i : Nat) : Fld := ⟨0x70110 + 0x400 * (i / 4) + 0xC0 * (i % 4), 30, 1⟩
abbrev F.LN_EQ_RX_FREEZE (i : Nat) : Fld := ⟨0x70110 + 0x400 * (i / 4) + 0xC0 * (i % 4), 31, 1⟩
abbrev F.LN_EQ_TX_ACCEPT_REQ (i : Nat) : Fld := ⟨0x70108 + 0x400 * (i / 4) + 0xC0 * (i % 4), 30, 1⟩
abbrev F.LN_EQ_TX_ACTIVE_MAIN (i : Nat) : Fld := ⟨0x7010C + 0x400 * (i / 4) + 0xC0 * (i % 4), 8, 6⟩
abbrev F.LN_EQ_TX_ACTIVE_POST (i : Nat) : Fld := ⟨0x7010C + 0x400 * (i / 4) + 0xC0 * (i % 4), 0, 5⟩
abbrev F.LN_EQ_TX_ACTIVE_PRE (i : Nat) : Fld := ⟨0x7010C + 0x400 * (i / 4) + 0xC0 * (i % 4), 16, 4⟩
abbrev F.LN_EQ_TX_ACTIVE_PRESET (i : Nat) : Fld := ⟨0x7010C + 0x400 * (i / 4) + 0xC0 * (i % 4), 24, 3⟩
abbrev F.LN_EQ_TX_MAIN (i : Nat) : Fld := ⟨0x70108 + 0x400 * (i / 4) + 0xC0 * (i % 4), 8, 6⟩
abbrev F.LN_EQ_TX_MANUAL (i : Nat) : Fld := ⟨0x70108 + 0x400 * (i / 4) + 0xC0 * (i % 4), 31, 1⟩
abbrev F.LN_EQ_TX_POST (i : Nat) : Fld := ⟨0x70108 + 0x400 * (i / 4) + 0xC0 * (i % 4), 0, 5⟩
abbrev F.LN_EQ_TX_PRE (i : Nat) : Fld := ⟨0x70108 + 0x400 * (i / 4) + 0xC0 * (i % 4), 16, 4⟩
abbrev F.LN_EQ_TX_PRESET (i : Nat) : Fld := ⟨0x70108 + 0x400 * (i / 4) + 0xC0 * (i % 4), 24, 3⟩
abbrev F.LN_STATUS_BUNDLE (i : Nat) : Fld := ⟨0x70104 + 0x400 * (i / 4) + 0xC0 * (i % 4), 16, 5⟩
abbrev F.LN_STATUS_CDR_LOCK (i : Nat) : Fld := ⟨0x70104 + 0x400 * (i / 4) + 0xC0 * (i % 4), 27, 1⟩
abbrev F.LN_STATUS_PLL_LOCK (i : Nat) : Fld := ⟨0x70104 + 0x400 * (i / 4) + 0xC0 * (i % 4), 23, 1⟩
abbrev F.LN_STATUS_POSITION (i : Nat) : Fld := ⟨0x70104 + 0x400 * (i / 4) + 0xC0 * (i % 4), 12, 4⟩
abbrev F.LN_STATUS_PRBS_SYNC (i : Nat) : Fld := ⟨0x70104 + 0x400 * (i / 4) + 0xC0 * (i % 4), 22, 1⟩
abbrev F.LN_STATUS_RATE (i : Nat) : Fld := ⟨0x70104 + 0x400 * (i / 4) + 0xC0 * (i % 4), 24, 3⟩
abbrev F.LN_STATUS_SKEW (i : Nat) : Fld := ⟨0x70104 + 0x400 * (i / 4) + 0xC0 * (i % 4), 0, 9⟩
abbrev F.LN_STATUS_STATE (i : Nat) : Fld := ⟨0x70104 + 0x400 * (i / 4) + 0xC0 * (i % 4), 28, 4⟩
abbrev F.MON_CTRL_MODE (i : Nat) : Fld := ⟨0x4100 + 0xC0 * i, 1, 2⟩
abbrev F.MON_CTRL_RUN (i : Nat) : Fld := ⟨0x4100 + 0xC0 * i, 0, 1⟩
abbrev F.MON_CTRL_SHIFT (i : Nat) : Fld := ⟨0x4100 + 0xC0 * i, 4, 4⟩
abbrev F.MON_SEL_ARG (i : Nat) : Fld := ⟨0x4104 + 0xC0 * i, 16, 16⟩
abbrev F.MON_SEL_SOURCE (i : Nat) : Fld := ⟨0x4104 + 0xC0 * i, 0, 12⟩
abbrev F.MON_STATUS_DONE (i : Nat) : Fld := ⟨0x4124 + 0xC0 * i, 0, 1⟩
abbrev F.MON_STATUS_HIST_OVF (i : Nat) : Fld := ⟨0x4124 + 0xC0 * i, 2, 1⟩
abbrev F.MON_STATUS_SUM_OVF (i : Nat) : Fld := ⟨0x4124 + 0xC0 * i, 1, 1⟩
abbrev F.MON_WINDOW (i : Nat) : Fld := ⟨0x4108 + 0xC0 * i, 0, 32⟩
abbrev F.MOT_ALIGN_ALIGN_CUR : Fld := ⟨0x81058, 0, 16⟩
abbrev F.MOT_ALIGN_ALIGN_MS : Fld := ⟨0x81058, 16, 16⟩
abbrev F.MOT_CTRL_ENABLE : Fld := ⟨0x81008, 0, 1⟩
abbrev F.MOT_CUR_SRC_CH_A : Fld := ⟨0x81060, 0, 3⟩
abbrev F.MOT_CUR_SRC_CH_B : Fld := ⟨0x81060, 4, 3⟩
abbrev F.MOT_CUR_SRC_CH_C : Fld := ⟨0x81060, 12, 3⟩
abbrev F.MOT_CUR_SRC_THREE : Fld := ⟨0x81060, 15, 1⟩
abbrev F.MOT_ELEC_ANGLE : Fld := ⟨0x81084, 0, 16⟩
abbrev F.MOT_EVT_RAW_CUR_LOST : Fld := ⟨0x81010, 5, 1⟩
abbrev F.MOT_EVT_RAW_GALV : Fld := ⟨0x81010, 0, 1⟩
abbrev F.MOT_EVT_RAW_HALL_FAULT : Fld := ⟨0x81010, 2, 1⟩
abbrev F.MOT_EVT_RAW_IDX_LOST : Fld := ⟨0x81010, 1, 1⟩
abbrev F.MOT_EVT_RAW_MODE_CHANGE : Fld := ⟨0x81010, 6, 1⟩
abbrev F.MOT_EVT_RAW_OVERCURRENT : Fld := ⟨0x81010, 3, 1⟩
abbrev F.MOT_EVT_RAW_STANDSTILL : Fld := ⟨0x81010, 7, 1⟩
abbrev F.MOT_EVT_RAW_START_FAIL : Fld := ⟨0x81010, 4, 1⟩
abbrev F.MOT_FACET_NOW_F : Fld := ⟨0x81078, 24, 5⟩
abbrev F.MOT_FACET_NOW_K : Fld := ⟨0x81078, 0, 12⟩
abbrev F.MOT_GEOM_DIR : Fld := ⟨0x81040, 8, 1⟩
abbrev F.MOT_GEOM_FACETS : Fld := ⟨0x81040, 24, 5⟩
abbrev F.MOT_GEOM_IDX_MARK : Fld := ⟨0x81040, 0, 1⟩
abbrev F.MOT_GEOM_POLE_PAIRS : Fld := ⟨0x81040, 16, 4⟩
abbrev F.MOT_HALL_CFG_HALL_OFS : Fld := ⟨0x81068, 16, 16⟩
abbrev F.MOT_IDX_MARK_FRAC : Fld := ⟨0x81070, 0, 16⟩
abbrev F.MOT_I_TRIP : Fld := ⟨0x81064, 0, 16⟩
abbrev F.MOT_MODE_REQ : Fld := ⟨0x81044, 0, 3⟩
abbrev F.MOT_OPEN_OPEN_MAX_MS : Fld := ⟨0x8105C, 0, 16⟩
abbrev F.MOT_OPEN_OPEN_RPM : Fld := ⟨0x8105C, 16, 16⟩
abbrev F.MOT_PWM_DEAD : Fld := ⟨0x81048, 16, 8⟩
abbrev F.MOT_PWM_MIN_PULSE : Fld := ⟨0x81048, 0, 8⟩
abbrev F.MOT_RAMP_RATE : Fld := ⟨0x81050, 0, 24⟩
abbrev F.MOT_SPEED_TARGET : Fld := ⟨0x8104C, 0, 32⟩
abbrev F.MOT_STATUS_AT_SPEED : Fld := ⟨0x8100C, 7, 1⟩
abbrev F.MOT_STATUS_COASTING : Fld := ⟨0x8100C, 11, 1⟩
abbrev F.MOT_STATUS_MODE : Fld := ⟨0x8100C, 0, 3⟩
abbrev F.MOT_STATUS_MODEL_VALID : Fld := ⟨0x8100C, 6, 1⟩
abbrev F.MOT_STATUS_PHASE_LOCK : Fld := ⟨0x8100C, 8, 1⟩
abbrev F.MOT_STATUS_PHASE_PENDING : Fld := ⟨0x8100C, 9, 1⟩
abbrev F.MOT_STATUS_SPEED_SRC : Fld := ⟨0x8100C, 5, 1⟩
abbrev F.MOT_STATUS_STANDSTILL : Fld := ⟨0x8100C, 12, 1⟩
abbrev F.MOT_STATUS_STOPPING : Fld := ⟨0x8100C, 10, 1⟩
abbrev F.MOT_STATUS_VLIMIT : Fld := ⟨0x8100C, 13, 1⟩
abbrev F.MOT_STOP_RATE : Fld := ⟨0x81054, 0, 24⟩
abbrev F.MSK_CFG_BANK : Fld := ⟨0x41040, 0, 1⟩
abbrev F.MSK_CFG_EMPTY_VIOL : Fld := ⟨0x41040, 24, 1⟩
abbrev F.MSK_CFG_TILE_PIX : Fld := ⟨0x41040, 16, 5⟩
abbrev F.MSK_CTRL_ENABLE : Fld := ⟨0x41008, 0, 1⟩
abbrev F.MSK_EVT_RAW_VIOLATION : Fld := ⟨0x41010, 0, 1⟩
abbrev F.MSK_MIN_TILES : Fld := ⟨0x41044, 0, 16⟩
abbrev F.MSK_STATUS_ACTIVE : Fld := ⟨0x4100C, 1, 1⟩
abbrev F.MSK_STRIDE : Fld := ⟨0x41050, 0, 11⟩
abbrev F.MSK_TILES_LAST : Fld := ⟨0x41068, 0, 16⟩
abbrev F.NTM_CTRL_ENABLE : Fld := ⟨0xA8008, 0, 1⟩
abbrev F.NTM_EVT_RAW_DEGRADED : Fld := ⟨0xA8010, 3, 1⟩
abbrev F.NTM_EVT_RAW_PPS_IN : Fld := ⟨0xA8010, 2, 1⟩
abbrev F.NTM_EVT_RAW_STEP_DONE : Fld := ⟨0xA8010, 0, 1⟩
abbrev F.NTM_EVT_RAW_STEP_REFUSED : Fld := ⟨0xA8010, 1, 1⟩
abbrev F.NTM_INCR_NS : Fld := ⟨0xA8064, 0, 8⟩
abbrev F.NTM_PPSIN_NS_NEW : Fld := ⟨0xA8088, 31, 1⟩
abbrev F.NTM_PPSIN_NS_NS : Fld := ⟨0xA8088, 0, 30⟩
abbrev F.NTM_PPSIN_NS_OVR : Fld := ⟨0xA8088, 30, 1⟩
abbrev F.NTM_PPS_CFG_OUT_EN : Fld := ⟨0xA8080, 31, 1⟩
abbrev F.NTM_PPS_CFG_WIDTH : Fld := ⟨0xA8080, 0, 10⟩
abbrev F.NTM_STATUS_COASTED : Fld := ⟨0xA800C, 3, 1⟩
abbrev F.NTT_CTRL_ARM (i : Nat) : Fld := ⟨0x2070C + 0x10 * i, 31, 1⟩
abbrev F.NTT_CTRL_FIRED (i : Nat) : Fld := ⟨0x2070C + 0x10 * i, 0, 1⟩
abbrev F.NTT_CTRL_LATE (i : Nat) : Fld := ⟨0x2070C + 0x10 * i, 2, 1⟩
abbrev F.NTT_CTRL_TO_ACQ (i : Nat) : Fld := ⟨0x2070C + 0x10 * i, 1, 1⟩
abbrev F.NTT_NS (i : Nat) : Fld := ⟨0x20700 + 0x10 * i, 0, 30⟩
abbrev F.PAIR_CFG_ARB_WAIT : Fld := ⟨0xF0044, 16, 16⟩
abbrev F.PAIR_CFG_CMP_EN : Fld := ⟨0xF0044, 3, 1⟩
abbrev F.PAIR_CFG_CMP_REGION : Fld := ⟨0xF0044, 8, 4⟩
abbrev F.PAIR_CFG_PREFER : Fld := ⟨0xF0044, 0, 1⟩
abbrev F.PAIR_CFG_SOLO : Fld := ⟨0xF0044, 2, 1⟩
abbrev F.PAIR_CFG_STANDBY_STREAM : Fld := ⟨0xF0044, 1, 1⟩
abbrev F.PAIR_CTRL_ENABLE : Fld := ⟨0xF0008, 0, 1⟩
abbrev F.PAIR_EVT_RAW_ARB_DONE : Fld := ⟨0xF0010, 0, 1⟩
abbrev F.PAIR_EVT_RAW_CMP_MISMATCH : Fld := ⟨0xF0010, 3, 1⟩
abbrev F.PAIR_EVT_RAW_HB_LOST : Fld := ⟨0xF0010, 5, 1⟩
abbrev F.PAIR_EVT_RAW_ID_CLASH : Fld := ⟨0xF0010, 6, 1⟩
abbrev F.PAIR_EVT_RAW_PARTNER_FAULT : Fld := ⟨0xF0010, 4, 1⟩
abbrev F.PAIR_EVT_RAW_ROLE_CHANGE : Fld := ⟨0xF0010, 1, 1⟩
abbrev F.PAIR_EVT_RAW_TAKEOVER : Fld := ⟨0xF0010, 2, 1⟩
abbrev F.PAIR_HEALTH_OWN : Fld := ⟨0xF0054, 0, 3⟩
abbrev F.PAIR_ROLE_PAIR_ID : Fld := ⟨0xF0040, 8, 1⟩
abbrev F.PAIR_ROLE_ROLE : Fld := ⟨0xF0040, 0, 2⟩
abbrev F.PAIR_STATUS_ARBITRATED : Fld := ⟨0xF000C, 1, 1⟩
abbrev F.PAIR_STATUS_ID_CLASH : Fld := ⟨0xF000C, 7, 1⟩
abbrev F.PAIR_STATUS_PARTNER_OK : Fld := ⟨0xF000C, 2, 1⟩
abbrev F.PAIR_STATUS_SPLIT : Fld := ⟨0xF000C, 5, 1⟩
abbrev F.PAIR_STATUS_SWITCH_PENDING : Fld := ⟨0xF000C, 6, 1⟩
abbrev F.PAIR_STATUS_TIME_ALIGNED : Fld := ⟨0xF000C, 4, 1⟩
abbrev F.PAIR_TAKEOVER_CAUSE : Fld := ⟨0xF0058, 0, 3⟩
abbrev F.PAIR_TAKEOVER_MASK : Fld := ⟨0xF004C, 0, 3⟩
abbrev F.PAIR_TOLERANCE_TOL_DEPTH : Fld := ⟨0xF0048, 16, 16⟩
abbrev F.PAIR_TOLERANCE_TOL_PIX : Fld := ⟨0xF0048, 0, 8⟩
abbrev F.PJ_CTRL_RESUME (i : Nat) : Fld := ⟨0x5110C + 0x10 * i, 0, 1⟩
abbrev F.PJ_STATUS_EXPAND_LAST (i : Nat) : Fld := ⟨0x51100 + 0x10 * i, 29, 1⟩
abbrev F.PJ_STATUS_QUEUE (i : Nat) : Fld := ⟨0x51100 + 0x10 * i, 0, 14⟩
abbrev F.PJ_STATUS_STATE (i : Nat) : Fld := ⟨0x51100 + 0x10 * i, 30, 2⟩
abbrev F.PLN_BEAT_BEAT_MS : Fld := ⟨0xA9048, 0, 10⟩
abbrev F.PLN_CFG_ACTIVE_WANT : Fld := ⟨0xA9074, 16, 9⟩
abbrev F.PLN_CTRL_ENABLE : Fld := ⟨0xA9008, 0, 1⟩
abbrev F.PLN_ETYPE : Fld := ⟨0xA904C, 0, 16⟩
abbrev F.PLN_EVT_RAW_CFG_MISMATCH : Fld := ⟨0xA9010, 7, 1⟩
abbrev F.PLN_EVT_RAW_DETACHED : Fld := ⟨0xA9010, 2, 1⟩
abbrev F.PLN_EVT_RAW_DUP_UNIT : Fld := ⟨0xA9010, 8, 1⟩
abbrev F.PLN_EVT_RAW_GRANT_CHANGE : Fld := ⟨0xA9010, 0, 1⟩
abbrev F.PLN_EVT_RAW_PEER_DROP : Fld := ⟨0xA9010, 5, 1⟩
abbrev F.PLN_EVT_RAW_PEER_FULL : Fld := ⟨0xA9010, 6, 1⟩
abbrev F.PLN_EVT_RAW_PEER_JOIN : Fld := ⟨0xA9010, 4, 1⟩
abbrev F.PLN_EVT_RAW_REJOINED : Fld := ⟨0xA9010, 3, 1⟩
abbrev F.PLN_EVT_RAW_SLOT_LOST : Fld := ⟨0xA9010, 1, 1⟩
abbrev F.PLN_EVT_RAW_STEP_RESYNC : Fld := ⟨0xA9010, 9, 1⟩
abbrev F.PLN_GENLOCK_TOL : Fld := ⟨0xA906C, 0, 24⟩
abbrev F.PLN_MEMBERSHIP : Fld := ⟨0xA9064, 0, 1⟩
abbrev F.PLN_PEER_INFO_VALID : Fld := ⟨0xA9128, 31, 1⟩
abbrev F.PLN_PEER_SEL : Fld := ⟨0xA9120, 0, 6⟩
abbrev F.PLN_PLAN_CFG_CYCLE_NS : Fld := ⟨0xA9044, 8, 24⟩
abbrev F.PLN_PLAN_CFG_SLOTS_M1 : Fld := ⟨0xA9044, 0, 8⟩
abbrev F.PLN_PRIORITY_PRIORITY : Fld := ⟨0xA9060, 0, 8⟩
abbrev F.PLN_STATUS_STATE : Fld := ⟨0xA900C, 0, 3⟩
abbrev F.PLN_WANT : Fld := ⟨0xA9068, 0, 9⟩
abbrev F.PMON_CTRL_ENABLE : Fld := ⟨0x4008, 0, 1⟩
abbrev F.PRS_CTRL_ENABLE : Fld := ⟨0x51008, 0, 1⟩
abbrev F.PRS_CTRL_MANUAL : Fld := ⟨0x51008, 2, 1⟩
abbrev F.PRS_EVT_RAW_EXPAND : Fld := ⟨0x51010, 0, 1⟩
abbrev F.PRS_EVT_RAW_HALT : Fld := ⟨0x51010, 1, 1⟩
abbrev F.PRS_EVT_RAW_RESUMED : Fld := ⟨0x51010, 2, 1⟩
abbrev F.PRS_STATUS_ACTIVE : Fld := ⟨0x5100C, 0, 1⟩
abbrev F.PWR_CLK_REQ_VID : Fld := ⟨0x2044, 0, 1⟩
abbrev F.PWR_EVT_RAW_STATE_CHANGE : Fld := ⟨0x2010, 0, 1⟩
abbrev F.PWR_EVT_RAW_TRANS_FAIL : Fld := ⟨0x2010, 1, 1⟩
abbrev F.PWR_LC_STATE_STATE : Fld := ⟨0x2050, 0, 4⟩
abbrev F.PWR_STATE_REQ_STATE : Fld := ⟨0x2040, 0, 3⟩
abbrev F.PWR_STATUS_DOWN_PENDING : Fld := ⟨0x200C, 5, 1⟩
abbrev F.PWR_STATUS_LC_BUSY : Fld := ⟨0x200C, 7, 1⟩
abbrev F.PWR_STATUS_RUN_PENDING : Fld := ⟨0x200C, 6, 1⟩
abbrev F.PWR_STATUS_STATE : Fld := ⟨0x200C, 0, 3⟩
abbrev F.PWR_STATUS_TRANSITION : Fld := ⟨0x200C, 4, 1⟩
abbrev F.Q_CFG_BTYPE (i : Nat) : Fld := ⟨0x200000 + 0x20 * i, 28, 1⟩
abbrev F.Q_CFG_ENABLE (i : Nat) : Fld := ⟨0x200000 + 0x20 * i, 31, 1⟩
abbrev F.Q_CFG_PRIO (i : Nat) : Fld := ⟨0x200000 + 0x20 * i, 24, 2⟩
abbrev F.Q_CFG_SHARE_IDX (i : Nat) : Fld := ⟨0x200000 + 0x20 * i, 0, 5⟩
abbrev F.Q_CFG_SHARE_N_M1 (i : Nat) : Fld := ⟨0x200000 + 0x20 * i, 8, 5⟩
abbrev F.Q_CFG_WIN_RESET (i : Nat) : Fld := ⟨0x200000 + 0x20 * i, 29, 1⟩
abbrev F.Q_LIMIT_MAX_BLOCKS (i : Nat) : Fld := ⟨0x200008 + 0x20 * i, 16, 14⟩
abbrev F.Q_LIMIT_MIN_BLOCKS (i : Nat) : Fld := ⟨0x200008 + 0x20 * i, 0, 14⟩
abbrev F.Q_ROUTE_PRS_ENGINE (i : Nat) : Fld := ⟨0x200004 + 0x20 * i, 24, 5⟩
abbrev F.Q_STATE_BLOCKS (i : Nat) : Fld := ⟨0x20000C + 0x20 * i, 0, 14⟩
abbrev F.RECT_POS_X (i : Nat) : Fld := ⟨0xB0200 + 0x10 * i, 0, 16⟩
abbrev F.RECT_POS_Y (i : Nat) : Fld := ⟨0xB0200 + 0x10 * i, 16, 16⟩
abbrev F.RECT_SIZE_H (i : Nat) : Fld := ⟨0xB0204 + 0x10 * i, 16, 16⟩
abbrev F.RECT_SIZE_W (i : Nat) : Fld := ⟨0xB0204 + 0x10 * i, 0, 16⟩
abbrev F.REG_COLS_COL_FIRST (i : Nat) : Fld := ⟨0x40204 + 0x10 * i, 0, 12⟩
abbrev F.REG_COLS_COL_LAST (i : Nat) : Fld := ⟨0x40204 + 0x10 * i, 16, 12⟩
abbrev F.REG_CTRL_ENABLE (i : Nat) : Fld := ⟨0x40208 + 0x10 * i, 31, 1⟩
abbrev F.REG_CTRL_PRODUCTS (i : Nat) : Fld := ⟨0x40208 + 0x10 * i, 0, 5⟩
abbrev F.REG_CTRL_RETAIN (i : Nat) : Fld := ⟨0x40208 + 0x10 * i, 20, 1⟩
abbrev F.REG_ROWS_ROW_FIRST (i : Nat) : Fld := ⟨0x40200 + 0x10 * i, 0, 9⟩
abbrev F.REG_ROWS_ROW_LAST (i : Nat) : Fld := ⟨0x40200 + 0x10 * i, 16, 9⟩
abbrev F.REJ_CTRL_ENABLE : Fld := ⟨0x32008, 0, 1⟩
abbrev F.REJ_EVT_RAW_FOREIGN_PIX : Fld := ⟨0x32010, 0, 1⟩
abbrev F.REJ_STATUS_ACTIVE : Fld := ⟨0x3200C, 0, 1⟩
abbrev F.RET_CTRL_ENABLE : Fld := ⟨0x31008, 0, 1⟩
abbrev F.RET_EVT_RAW_BG_FALLBACK : Fld := ⟨0x31010, 0, 1⟩
abbrev F.RET_EVT_RAW_EXCESS : Fld := ⟨0x31010, 1, 1⟩
abbrev F.RET_EVT_RAW_RANGE_CLAMP : Fld := ⟨0x31010, 3, 1⟩
abbrev F.RET_EVT_RAW_TEMP_STALE : Fld := ⟨0x31010, 4, 1⟩
abbrev F.RET_EVT_RAW_WALK_CLAMP : Fld := ⟨0x31010, 2, 1⟩
abbrev F.RET_STATUS_CAL_ZERO : Fld := ⟨0x3100C, 1, 1⟩
abbrev F.RET_STATUS_TEMP_STALE : Fld := ⟨0x3100C, 2, 1⟩
abbrev F.RET_TEMP_SEL_CHAN : Fld := ⟨0x31048, 0, 6⟩
abbrev F.RET_WALK_LIMIT : Fld := ⟨0x31050, 0, 16⟩
abbrev F.RLG_BG_MIN_BG_MIN_NS (i : Nat) : Fld := ⟨0x31204 + 0x20 * i, 0, 16⟩
abbrev F.RLG_CTRL_BG_MODE (i : Nat) : Fld := ⟨0x31200 + 0x20 * i, 0, 2⟩
abbrev F.RLG_PART_PART_AMP (i : Nat) : Fld := ⟨0x3120C + 0x20 * i, 16, 16⟩
abbrev F.RLG_PART_SPAN_PART_SPAN (i : Nat) : Fld := ⟨0x31210 + 0x20 * i, 0, 23⟩
abbrev F.RN_CTRL_ENABLE (i : Nat) : Fld := ⟨0x32600 + 0x20 * i, 31, 1⟩
abbrev F.RN_CTRL_K (i : Nat) : Fld := ⟨0x32600 + 0x20 * i, 16, 4⟩
abbrev F.SAF_B_MARGIN : Fld := ⟨0x90128, 0, 24⟩
abbrev F.SAF_CFG_MODE_FB_LASER_EN : Fld := ⟨0x90100, 0, 1⟩
abbrev F.SAF_CFG_MODE_FB_MOTOR_EN : Fld := ⟨0x90100, 1, 1⟩
abbrev F.SAF_DISC_TIME : Fld := ⟨0x9011C, 0, 10⟩
abbrev F.SAF_EMIT_DELAY : Fld := ⟨0x9012C, 0, 16⟩
abbrev F.SAF_ENV_ENV_FLOOR : Fld := ⟨0x9010C, 0, 16⟩
abbrev F.SAF_ENV_ENV_MARGIN : Fld := ⟨0x9010C, 16, 16⟩
abbrev F.SAF_ENV_RATE : Fld := ⟨0x90110, 0, 24⟩
abbrev F.SAF_EVT_RAW_CFG_FAULT : Fld := ⟨0x90010, 9, 1⟩
abbrev F.SAF_EVT_RAW_ENVELOPE : Fld := ⟨0x90010, 3, 1⟩
abbrev F.SAF_EVT_RAW_INHIBIT : Fld := ⟨0x90010, 0, 1⟩
abbrev F.SAF_EVT_RAW_LATCH : Fld := ⟨0x90010, 1, 1⟩
abbrev F.SAF_EVT_RAW_PROOF_DONE : Fld := ⟨0x90010, 7, 1⟩
abbrev F.SAF_EVT_RAW_PROOF_FAIL : Fld := ⟨0x90010, 8, 1⟩
abbrev F.SAF_EVT_RAW_RESET_DONE : Fld := ⟨0x90010, 4, 1⟩
abbrev F.SAF_EVT_RAW_RESET_REFUSED : Fld := ⟨0x90010, 5, 1⟩
abbrev F.SAF_EVT_RAW_RESET_STUCK : Fld := ⟨0x90010, 6, 1⟩
abbrev F.SAF_EVT_RAW_STOP : Fld := ⟨0x90010, 2, 1⟩
abbrev F.SAF_EVT_RAW_TORQUE_OFF : Fld := ⟨0x90010, 10, 1⟩
abbrev F.SAF_FAULT_DETAIL_CRC : Fld := ⟨0x90050, 8, 2⟩
abbrev F.SAF_FAULT_DETAIL_LASER : Fld := ⟨0x90050, 2, 1⟩
abbrev F.SAF_FAULT_DETAIL_MOTOR : Fld := ⟨0x90050, 3, 1⟩
abbrev F.SAF_FAULT_DETAIL_PAIR_DISAGREE : Fld := ⟨0x90050, 4, 1⟩
abbrev F.SAF_FAULT_DETAIL_PAIR_LOST : Fld := ⟨0x90050, 5, 1⟩
abbrev F.SAF_FAULT_DETAIL_STUCK : Fld := ⟨0x90050, 0, 1⟩
abbrev F.SAF_FAULT_DETAIL_WELDED : Fld := ⟨0x90050, 1, 1⟩
abbrev F.SAF_FB_TIME : Fld := ⟨0x90118, 0, 8⟩
abbrev F.SAF_SCAN_LIMIT : Fld := ⟨0x90120, 0, 24⟩
abbrev F.SAF_SPEED_AGREE_AGREE_MS : Fld := ⟨0x90108, 16, 16⟩
abbrev F.SAF_SPEED_AGREE_SPEED_AGREE : Fld := ⟨0x90108, 0, 8⟩
abbrev F.SAF_SPEED_WIN_SPEED_MAX : Fld := ⟨0x90104, 16, 16⟩
abbrev F.SAF_SPEED_WIN_SPEED_MIN : Fld := ⟨0x90104, 0, 16⟩
abbrev F.SAF_SS1_MAX : Fld := ⟨0x90114, 0, 16⟩
abbrev F.SAF_STARE_LIMIT : Fld := ⟨0x90124, 0, 24⟩
abbrev F.SAF_STATUS_CFG_VALID : Fld := ⟨0x9000C, 6, 1⟩
abbrev F.SAF_STATUS_EMIT_INH : Fld := ⟨0x9000C, 5, 1⟩
abbrev F.SAF_STATUS_LASER_EN_A : Fld := ⟨0x9000C, 3, 1⟩
abbrev F.SAF_STATUS_LASER_EN_B : Fld := ⟨0x9000C, 4, 1⟩
abbrev F.SAF_STATUS_PERMIT : Fld := ⟨0x9000C, 0, 1⟩
abbrev F.SAF_STATUS_PROOF_RUNNING : Fld := ⟨0x9000C, 10, 1⟩
abbrev F.SAF_STATUS_PROVEN : Fld := ⟨0x9000C, 11, 1⟩
abbrev F.SAF_STATUS_RESET_STUCK : Fld := ⟨0x9000C, 12, 1⟩
abbrev F.SAF_STATUS_STANDSTILL : Fld := ⟨0x9000C, 9, 1⟩
abbrev F.SAF_STATUS_STOPPING : Fld := ⟨0x9000C, 8, 1⟩
abbrev F.SAF_STATUS_STO_A : Fld := ⟨0x9000C, 1, 1⟩
abbrev F.SAF_STATUS_STO_B : Fld := ⟨0x9000C, 2, 1⟩
abbrev F.SAF_STATUS_WINDOW_OPEN : Fld := ⟨0x9000C, 7, 1⟩
abbrev F.SCN_BASE_PERIOD : Fld := ⟨0x80044, 0, 18⟩
abbrev F.SCN_CTRL_ENABLE : Fld := ⟨0x80008, 0, 1⟩
abbrev F.SCN_EVT_RAW_HANDOVER_DONE : Fld := ⟨0x80010, 10, 1⟩
abbrev F.SCN_EVT_RAW_PHASE_LOCK : Fld := ⟨0x80010, 8, 1⟩
abbrev F.SCN_EVT_RAW_PHASE_UNLOCK : Fld := ⟨0x80010, 9, 1⟩
abbrev F.SCN_EVT_RAW_SAT : Fld := ⟨0x80010, 0, 8⟩
abbrev F.SCN_HANDOVER_TICKS : Fld := ⟨0x80048, 0, 10⟩
abbrev F.SCN_PHASE_CFG_LOCK_FACETS : Fld := ⟨0x80050, 0, 8⟩
abbrev F.SCN_PHASE_CFG_LOCK_TOL : Fld := ⟨0x80050, 16, 16⟩
abbrev F.SCN_PHASE_SLEW : Fld := ⟨0x8004C, 0, 20⟩
abbrev F.SCN_SCAN_MODE : Fld := ⟨0x80040, 0, 2⟩
abbrev F.SCN_STATUS_HANDOVER : Fld := ⟨0x8000C, 9, 1⟩
abbrev F.SCN_STATUS_TICKING : Fld := ⟨0x8000C, 8, 1⟩
abbrev F.SDC_CFG_ENABLE (i : Nat) : Fld := ⟨0x83100 + 0x40 * i, 31, 1⟩
abbrev F.SDC_DET_CFG_DECAY (i : Nat) : Fld := ⟨0x8311C + 0x40 * i, 0, 4⟩
abbrev F.SDC_DET_CFG_RMS_WIN (i : Nat) : Fld := ⟨0x8311C + 0x40 * i, 16, 5⟩
abbrev F.SDC_DET_FLAGS_ENV_OVER (i : Nat) : Fld := ⟨0x8312C + 0x40 * i, 2, 1⟩
abbrev F.SDC_DET_FLAGS_PEAK_OVER (i : Nat) : Fld := ⟨0x8312C + 0x40 * i, 0, 1⟩
abbrev F.SDC_DET_FLAGS_RMS_OVER (i : Nat) : Fld := ⟨0x8312C + 0x40 * i, 1, 1⟩
abbrev F.SDC_ENV (i : Nat) : Fld := ⟨0x83118 + 0x40 * i, 0, 17⟩
abbrev F.SDC_ENV_TH (i : Nat) : Fld := ⟨0x83128 + 0x40 * i, 0, 17⟩
abbrev F.SDC_PEAK_PEAK (i : Nat) : Fld := ⟨0x83110 + 0x40 * i, 0, 17⟩
abbrev F.SDC_PEAK_TH (i : Nat) : Fld := ⟨0x83120 + 0x40 * i, 0, 17⟩
abbrev F.SDC_RMS (i : Nat) : Fld := ⟨0x83114 + 0x40 * i, 0, 17⟩
abbrev F.SDC_RMS_TH (i : Nat) : Fld := ⟨0x83124 + 0x40 * i, 0, 17⟩
abbrev F.SDC_STATUS_COUNT (i : Nat) : Fld := ⟨0x8310C + 0x40 * i, 0, 16⟩
abbrev F.SDF_CFG_CLK_DIR : Fld := ⟨0x83040, 4, 1⟩
abbrev F.SDF_CFG_CLK_SEL : Fld := ⟨0x83040, 0, 1⟩
abbrev F.SDF_CTRL_ENABLE : Fld := ⟨0x83008, 0, 1⟩
abbrev F.SDF_EVT_RAW_CLK_LOST : Fld := ⟨0x83010, 16, 1⟩
abbrev F.SDF_EVT_RAW_DET_OVER : Fld := ⟨0x83010, 8, 8⟩
abbrev F.SDF_EVT_RAW_STUCK : Fld := ⟨0x83010, 0, 8⟩
abbrev F.SDF_STATUS_CLK_OK : Fld := ⟨0x8300C, 24, 1⟩
abbrev F.SDF_STATUS_STUCK : Fld := ⟨0x8300C, 16, 8⟩
abbrev F.SL_CTRL_DIV (i : Nat) : Fld := ⟨0x80100 + 0x40 * i, 16, 8⟩
abbrev F.SL_CTRL_ENABLE (i : Nat) : Fld := ⟨0x80100 + 0x40 * i, 31, 1⟩
abbrev F.SL_CTRL_GEXP (i : Nat) : Fld := ⟨0x80100 + 0x40 * i, 8, 4⟩
abbrev F.SL_CTRL_LAW (i : Nat) : Fld := ⟨0x80100 + 0x40 * i, 30, 1⟩
abbrev F.SL_DFILT_DFILT (i : Nat) : Fld := ⟨0x80124 + 0x40 * i, 0, 17⟩
abbrev F.SL_OFILT_OFILT (i : Nat) : Fld := ⟨0x80120 + 0x40 * i, 0, 17⟩
abbrev F.STQ_CTRL_ENABLE : Fld := ⟨0x50008, 0, 1⟩
abbrev F.STQ_EVT_RAW_DROP : Fld := ⟨0x50010, 0, 1⟩
abbrev F.STQ_EVT_RAW_MOVE_DONE : Fld := ⟨0x50010, 2, 1⟩
abbrev F.STQ_EVT_RAW_POOL_LOW : Fld := ⟨0x50010, 1, 1⟩
abbrev F.STQ_FREE_MIN_MIN : Fld := ⟨0x50050, 0, 14⟩
abbrev F.STQ_POOL_LOW_TH : Fld := ⟨0x5004C, 0, 14⟩
abbrev F.STQ_STATUS_ACTIVE : Fld := ⟨0x5000C, 0, 1⟩
abbrev F.ST_CTRL_ENABLE (i : Nat) : Fld := ⟨0x10080 + 0x1000 * (i / 2) + 0x40 * (i % 2), 0, 1⟩
abbrev F.ST_CTRL_WIN (i : Nat) : Fld := ⟨0x10080 + 0x1000 * (i / 2) + 0x40 * (i % 2), 8, 8⟩
abbrev F.TDC_CTRL_ENABLE (i : Nat) : Fld := ⟨0x10008 + 0x1000 * i, 0, 1⟩
abbrev F.TDC_EVT_RAW_FIFO_OVERFLOW (i : Nat) : Fld := ⟨0x10010 + 0x1000 * i, 2, 1⟩
abbrev F.TDC_EVT_RAW_HIT_EXCESS (i : Nat) : Fld := ⟨0x10010 + 0x1000 * i, 7, 1⟩
abbrev F.TDC_EVT_RAW_PLL_RELOCK (i : Nat) : Fld := ⟨0x10010 + 0x1000 * i, 1, 1⟩
abbrev F.TDC_EVT_RAW_PLL_UNLOCK (i : Nat) : Fld := ⟨0x10010 + 0x1000 * i, 0, 1⟩
abbrev F.TDC_EVT_RAW_START_EXTRA (i : Nat) : Fld := ⟨0x10010 + 0x1000 * i, 4, 1⟩
abbrev F.TDC_EVT_RAW_START_MISS (i : Nat) : Fld := ⟨0x10010 + 0x1000 * i, 3, 1⟩
abbrev F.TDC_EVT_RAW_START_STRAY (i : Nat) : Fld := ⟨0x10010 + 0x1000 * i, 5, 1⟩
abbrev F.TDC_EVT_RAW_TRIM_CLAMP (i : Nat) : Fld := ⟨0x10010 + 0x1000 * i, 6, 1⟩
abbrev F.TDC_STATUS_HOLDOVER (i : Nat) : Fld := ⟨0x1000C + 0x1000 * i, 1, 1⟩
abbrev F.TDC_STATUS_PLL_LOCK (i : Nat) : Fld := ⟨0x1000C + 0x1000 * i, 0, 1⟩
abbrev F.TDU_CTRL_MODE (i : Nat) : Fld := ⟨0x18100 + 0x40 * i, 1, 2⟩
abbrev F.TDU_CTRL_RUN (i : Nat) : Fld := ⟨0x18100 + 0x40 * i, 0, 1⟩
abbrev F.TDU_CTRL_SHIFT (i : Nat) : Fld := ⟨0x18100 + 0x40 * i, 8, 4⟩
abbrev F.TDU_SRC_SRC_A (i : Nat) : Fld := ⟨0x18104 + 0x40 * i, 0, 10⟩
abbrev F.TDU_SRC_SRC_B (i : Nat) : Fld := ⟨0x18104 + 0x40 * i, 16, 10⟩
abbrev F.TDU_STATUS_DONE (i : Nat) : Fld := ⟨0x18130 + 0x40 * i, 0, 1⟩
abbrev F.TDU_STATUS_GAP (i : Nat) : Fld := ⟨0x18130 + 0x40 * i, 4, 1⟩
abbrev F.TDU_STATUS_HIST_OVF (i : Nat) : Fld := ⟨0x18130 + 0x40 * i, 2, 1⟩
abbrev F.TDU_STATUS_PROVISIONAL (i : Nat) : Fld := ⟨0x18130 + 0x40 * i, 3, 1⟩
abbrev F.TDU_STATUS_SUM_OVF (i : Nat) : Fld := ⟨0x18130 + 0x40 * i, 1, 1⟩
abbrev F.TDU_WIN (i : Nat) : Fld := ⟨0x18108 + 0x40 * i, 0, 23⟩
abbrev F.THM_CTRL_ENABLE : Fld := ⟨0xC1008, 0, 1⟩
abbrev F.THM_CTRL_SOFT_RESET : Fld := ⟨0xC1008, 1, 1⟩
abbrev F.THM_EVT_RAW_ALERT : Fld := ⟨0xC1010, 0, 1⟩
abbrev F.THM_EVT_RAW_BUDGET_OUT : Fld := ⟨0xC1010, 3, 1⟩
abbrev F.THM_EVT_RAW_DIE_LIMIT : Fld := ⟨0xC1010, 6, 1⟩
abbrev F.THM_EVT_RAW_IMMEDIATE : Fld := ⟨0xC1010, 2, 1⟩
abbrev F.THM_EVT_RAW_ORDERLY : Fld := ⟨0xC1010, 1, 1⟩
abbrev F.THM_EVT_RAW_SENSOR_INVALID : Fld := ⟨0xC1010, 5, 1⟩
abbrev F.THM_EVT_RAW_STOP_DONE : Fld := ⟨0xC1010, 4, 1⟩
abbrev F.THM_ORDERLY_BUDGET : Fld := ⟨0xC1040, 0, 16⟩
abbrev F.THM_STATUS_DIE_LIMIT : Fld := ⟨0xC100C, 5, 1⟩
abbrev F.THM_STATUS_INHIBIT_REQ : Fld := ⟨0xC100C, 4, 1⟩
abbrev F.THM_STATUS_STOP_REQ : Fld := ⟨0xC100C, 3, 1⟩
abbrev F.THM_STATUS_STOP_STATE : Fld := ⟨0xC100C, 0, 3⟩
abbrev F.THM_STOP_CAUSE_BLOCK : Fld := ⟨0xC1054, 16, 5⟩
abbrev F.THM_STOP_CAUSE_CAUSE : Fld := ⟨0xC1054, 0, 3⟩
abbrev F.THM_STOP_MS : Fld := ⟨0xC1050, 0, 16⟩
abbrev F.THM_TRIP_LATCH_DIE : Fld := ⟨0xC1048, 16, 1⟩
abbrev F.TOUT_CTRL_ENABLE (i : Nat) : Fld := ⟨0x20600 + 0x20 * i, 31, 1⟩
abbrev F.TOUT_CTRL_MODE (i : Nat) : Fld := ⟨0x20600 + 0x20 * i, 28, 2⟩
abbrev F.TOUT_CTRL_WIDTH (i : Nat) : Fld := ⟨0x20600 + 0x20 * i, 0, 24⟩
abbrev F.TOUT_NS (i : Nat) : Fld := ⟨0x2060C + 0x20 * i, 0, 30⟩
abbrev F.TOUT_OFFSET (i : Nat) : Fld := ⟨0x20604 + 0x20 * i, 0, 32⟩
abbrev F.TOUT_REPEAT_COUNT (i : Nat) : Fld := ⟨0x20608 + 0x20 * i, 24, 8⟩
abbrev F.TOUT_REPEAT_PERIOD (i : Nat) : Fld := ⟨0x20608 + 0x20 * i, 0, 24⟩
abbrev F.TOUT_STATUS_ARMED (i : Nat) : Fld := ⟨0x20618 + 0x20 * i, 1, 1⟩
abbrev F.TOUT_STATUS_DONE (i : Nat) : Fld := ⟨0x20618 + 0x20 * i, 0, 1⟩
abbrev F.TOUT_STATUS_LATE (i : Nat) : Fld := ⟨0x20618 + 0x20 * i, 2, 1⟩
abbrev F.TRIAD_CFG_MAT_EN (i : Nat) : Fld := ⟨0xE0200 + 0x20 * i, 0, 1⟩
abbrev F.VAT_BACKLOG_PEAK_PEAK : Fld := ⟨0x3004C, 0, 10⟩
abbrev F.VAT_CTRL_ENABLE : Fld := ⟨0x30008, 0, 1⟩
abbrev F.VAT_CTRL_TEST : Fld := ⟨0x30008, 2, 1⟩
abbrev F.VAT_EVT_RAW_LOW_FREE : Fld := ⟨0x30010, 0, 1⟩
abbrev F.VAT_EVT_RAW_NO_CONTEXT : Fld := ⟨0x30010, 1, 1⟩
abbrev F.VAT_EVT_RAW_P4_DROP : Fld := ⟨0x30010, 2, 1⟩
abbrev F.VAT_EVT_RAW_SAT : Fld := ⟨0x30010, 3, 1⟩
abbrev F.VAT_HELD_MAX : Fld := ⟨0x30040, 0, 13⟩
abbrev F.VAT_INSP_BIN_IDX_PAIR : Fld := ⟨0x30124, 1, 11⟩
abbrev F.VAT_INSP_BLOCK_FRESH : Fld := ⟨0x3012C, 31, 1⟩
abbrev F.VAT_INSP_SEL_ENGINE : Fld := ⟨0x30100, 16, 8⟩
abbrev F.VAT_INSP_SEL_SLOT : Fld := ⟨0x30100, 0, 9⟩
abbrev F.VAT_LOW_FREE : Fld := ⟨0x30044, 0, 13⟩
abbrev F.VAT_MIN_FREE_BANK : Fld := ⟨0x30048, 16, 8⟩
abbrev F.VAT_MIN_FREE_MIN : Fld := ⟨0x30048, 0, 13⟩
abbrev F.VAT_STATUS_ACTIVE : Fld := ⟨0x3000C, 0, 1⟩
abbrev F.VID_CTRL_ENABLE : Fld := ⟨0xB0008, 0, 1⟩
abbrev F.VID_EVT_RAW_FRAME_START : Fld := ⟨0xB0010, 0, 1⟩
abbrev F.VID_EVT_RAW_FREEZE : Fld := ⟨0xB0010, 5, 1⟩
abbrev F.VID_EVT_RAW_LAYER_OFF : Fld := ⟨0xB0010, 4, 1⟩
abbrev F.VID_EVT_RAW_RECT_MISMATCH : Fld := ⟨0xB0010, 6, 1⟩
abbrev F.VID_EVT_RAW_SRC_DROP : Fld := ⟨0xB0010, 2, 1⟩
abbrev F.VID_EVT_RAW_SRC_NEW : Fld := ⟨0xB0010, 1, 1⟩
abbrev F.VID_EVT_RAW_TIMING_GAP : Fld := ⟨0xB0010, 7, 1⟩
abbrev F.VID_EVT_RAW_TIMING_RESUMED : Fld := ⟨0xB0010, 8, 1⟩
abbrev F.VID_EVT_RAW_UNDERRUN : Fld := ⟨0xB0010, 3, 1⟩
abbrev F.VID_FREEZE_CFG_FREEZE_FRAMES : Fld := ⟨0xB00D0, 0, 8⟩
abbrev F.VID_FREEZE_CFG_L0 : Fld := ⟨0xB00D0, 16, 1⟩
abbrev F.VID_FREEZE_CFG_L1 : Fld := ⟨0xB00D0, 17, 1⟩
abbrev F.VID_FREEZE_COUNT_L0 : Fld := ⟨0xB00E4, 0, 8⟩
abbrev F.VID_FREEZE_COUNT_L1 : Fld := ⟨0xB00E4, 8, 8⟩
abbrev F.VID_HTIME0_H_ACTIVE : Fld := ⟨0xB0048, 0, 13⟩
abbrev F.VID_HTIME0_H_FP : Fld := ⟨0xB0048, 16, 16⟩
abbrev F.VID_HTIME1_H_BP : Fld := ⟨0xB004C, 16, 16⟩
abbrev F.VID_HTIME1_H_SYNC : Fld := ⟨0xB004C, 0, 16⟩
abbrev F.VID_IMG_POS_DST_X : Fld := ⟨0xB0088, 0, 16⟩
abbrev F.VID_IMG_POS_DST_Y : Fld := ⟨0xB0088, 16, 16⟩
abbrev F.VID_IMG_SIZE_DST_H : Fld := ⟨0xB008C, 16, 16⟩
abbrev F.VID_IMG_SIZE_DST_W : Fld := ⟨0xB008C, 0, 16⟩
abbrev F.VID_L0_CFG_A0 : Fld := ⟨0xB0090, 24, 8⟩
abbrev F.VID_L0_CFG_BAND_MIX : Fld := ⟨0xB0090, 8, 8⟩
abbrev F.VID_L0_CFG_BAND_MODE : Fld := ⟨0xB0090, 16, 2⟩
abbrev F.VID_L0_CFG_LUT_SHIFT : Fld := ⟨0xB0090, 20, 4⟩
abbrev F.VID_L0_CFG_NODATA_ALPHA : Fld := ⟨0xB0090, 0, 8⟩
abbrev F.VID_L1_CFG_A1 : Fld := ⟨0xB00A8, 24, 8⟩
abbrev F.VID_L1_CFG_G_SHIFT : Fld := ⟨0xB00A8, 0, 3⟩
abbrev F.VID_MARK_POS_MARK_X : Fld := ⟨0xB00BC, 0, 16⟩
abbrev F.VID_MARK_POS_MARK_Y : Fld := ⟨0xB00BC, 16, 16⟩
abbrev F.VID_OUT_CFG_FORMAT : Fld := ⟨0xB0040, 8, 2⟩
abbrev F.VID_OUT_CFG_HS_POL : Fld := ⟨0xB0040, 16, 1⟩
abbrev F.VID_OUT_CFG_MATRIX : Fld := ⟨0xB0040, 12, 1⟩
abbrev F.VID_OUT_CFG_PRESET : Fld := ⟨0xB0040, 0, 4⟩
abbrev F.VID_OUT_CFG_RANGE : Fld := ⟨0xB0040, 13, 1⟩
abbrev F.VID_OUT_CFG_VS_POL : Fld := ⟨0xB0040, 17, 1⟩
abbrev F.VID_OVL_POS_X : Fld := ⟨0xB00B0, 0, 16⟩
abbrev F.VID_OVL_POS_Y : Fld := ⟨0xB00B0, 16, 16⟩
abbrev F.VID_OVL_SIZE_OVL_H : Fld := ⟨0xB00B4, 16, 16⟩
abbrev F.VID_OVL_SIZE_OVL_W : Fld := ⟨0xB00B4, 0, 16⟩
abbrev F.VID_PCLK_DIV1001 : Fld := ⟨0xB0044, 31, 1⟩
abbrev F.VID_PCLK_PCLK_HZ : Fld := ⟨0xB0044, 0, 29⟩
abbrev F.VID_RECT_CFG_RECT_EN : Fld := ⟨0xB00D4, 0, 8⟩
abbrev F.VID_SRC_CFG_BUFFERS : Fld := ⟨0xB0060, 16, 2⟩
abbrev F.VID_SRC_CFG_DEC_X : Fld := ⟨0xB0060, 0, 2⟩
abbrev F.VID_SRC_CFG_DEC_Y : Fld := ⟨0xB0060, 4, 2⟩
abbrev F.VID_SRC_COLS_COL_FIRST : Fld := ⟨0xB006C, 0, 12⟩
abbrev F.VID_SRC_COLS_COL_LAST : Fld := ⟨0xB006C, 16, 12⟩
abbrev F.VID_SRC_ROWS_ROW_FIRST : Fld := ⟨0xB0068, 0, 12⟩
abbrev F.VID_SRC_ROWS_ROW_LAST : Fld := ⟨0xB0068, 16, 12⟩
abbrev F.VID_STATUS_ACTIVE : Fld := ⟨0xB000C, 0, 1⟩
abbrev F.VID_STATUS_BLANK : Fld := ⟨0xB000C, 1, 1⟩
abbrev F.VID_STATUS_CLK_LOCK : Fld := ⟨0xB000C, 3, 1⟩
abbrev F.VID_STATUS_FREEZE : Fld := ⟨0xB000C, 12, 2⟩
abbrev F.VID_STATUS_LATEST : Fld := ⟨0xB000C, 6, 2⟩
abbrev F.VID_STATUS_LAYER_ON : Fld := ⟨0xB000C, 8, 4⟩
abbrev F.VID_STATUS_LINE : Fld := ⟨0xB000C, 16, 12⟩
abbrev F.VID_STATUS_SHOWN : Fld := ⟨0xB000C, 4, 2⟩
abbrev F.VID_STATUS_SRC_VALID : Fld := ⟨0xB000C, 14, 1⟩
abbrev F.VID_STATUS_TIMING_GAP : Fld := ⟨0xB000C, 2, 1⟩
abbrev F.VID_TABLE_CFG_L0 : Fld := ⟨0xB00C0, 0, 1⟩
abbrev F.VID_TBL_ADDR_BANK : Fld := ⟨0xB00C4, 15, 1⟩
abbrev F.VID_TBL_ADDR_INDEX : Fld := ⟨0xB00C4, 0, 12⟩
abbrev F.VID_TBL_ADDR_TABLE : Fld := ⟨0xB00C4, 16, 3⟩
abbrev F.VID_VTIME0_V_ACTIVE : Fld := ⟨0xB0050, 0, 12⟩
abbrev F.VID_VTIME0_V_FP : Fld := ⟨0xB0050, 16, 16⟩
abbrev F.VID_VTIME1_V_BP : Fld := ⟨0xB0054, 16, 16⟩
abbrev F.VID_VTIME1_V_SYNC : Fld := ⟨0xB0054, 0, 16⟩
abbrev F.VLG_ACTIVE_S_M1 (i : Nat) : Fld := ⟨0x30210 + 0x20 * i, 0, 8⟩
abbrev F.VLG_COARSE_BINS_LOG2 (i : Nat) : Fld := ⟨0x30204 + 0x20 * i, 28, 4⟩
abbrev F.VLG_COARSE_K (i : Nat) : Fld := ⟨0x30204 + 0x20 * i, 24, 4⟩
abbrev F.VLG_COARSE_P4_COARSE (i : Nat) : Fld := ⟨0x30204 + 0x20 * i, 17, 1⟩
abbrev F.VLG_COARSE_RET_COARSE (i : Nat) : Fld := ⟨0x30204 + 0x20 * i, 16, 1⟩
abbrev F.VLG_DWELL_C_M1 (i : Nat) : Fld := ⟨0x30200 + 0x20 * i, 16, 8⟩
abbrev F.VLG_DWELL_S_M1 (i : Nat) : Fld := ⟨0x30200 + 0x20 * i, 0, 8⟩
abbrev F.VLG_ZOOM_P4_ZOOM (i : Nat) : Fld := ⟨0x3020C + 0x20 * i, 16, 1⟩
abbrev F.VLG_ZOOM_PEAKS (i : Nat) : Fld := ⟨0x3020C + 0x20 * i, 20, 2⟩
abbrev F.VLG_ZOOM_ZBINS_LOG2 (i : Nat) : Fld := ⟨0x3020C + 0x20 * i, 28, 4⟩
abbrev F.VLG_ZOOM_ZK (i : Nat) : Fld := ⟨0x3020C + 0x20 * i, 24, 4⟩
abbrev F.VLG_ZOOM_ZOOM_MIN (i : Nat) : Fld := ⟨0x3020C + 0x20 * i, 0, 16⟩
abbrev F.WNB_CREDIT_RX_LIMIT : Fld := ⟨0x6005C, 16, 13⟩
abbrev F.WNB_CREDIT_SEL_BUNDLE : Fld := ⟨0x60054, 8, 5⟩
abbrev F.WNB_CREDIT_SEL_VC : Fld := ⟨0x60054, 0, 3⟩
abbrev F.WNB_CREDIT_TX_LIMIT : Fld := ⟨0x60058, 16, 13⟩
abbrev F.WNB_CTRL_ENABLE : Fld := ⟨0x60008, 0, 1⟩
abbrev F.WNB_EVT_RAW_LREF_LOST : Fld := ⟨0x60010, 0, 9⟩
abbrev F.WNB_LG_RATE_G0 : Fld := ⟨0x60040, 0, 3⟩
abbrev F.WNB_STATUS_UP : Fld := ⟨0x6000C, 0, 32⟩

end Sys2Proof.Machine
end

