-- ==== Sys2Proof/Machine/State.lean ====
section
/-!
DEFINITION. The state of the block, as plain data, and the state right after reset.
-/

namespace Sys2Proof.Machine

/-- The faults of a step. None of the spec's commands stops the block; the one constructor stands for no command and is
raised by none. -/
inductive Fault where
  /-- Raised by no meaning; safe. -/
  | none
  deriving DecidableEq, Repr

/-- The refusals of a step. -/
inductive Refusal where
  /-- Raised by an arm of exec whose command has no meaning yet; safe: the machine stops where the hardware goes on. -/
  | notModelled (mnemonic : String)
  deriving DecidableEq, Repr

/-- The state of the block. Registers are sparse: an address that is not listed holds its reset value. -/
structure State where
  /-- The commands that wait, first in, first out. -/
  pending  : List Instr
  /-- The instant of the last command, in TDC LSB; the model's own field. -/
  now      : Nat
  /-- How many free values have been taken; the model's own field. -/
  fresh    : Nat
  /-- The device is held in reset (20 R490). -/
  held     : Bool
  /-- The wipe of 20 R491 runs. -/
  wiping   : Bool
  /-- The values in force of the registers that do not hold their reset value. -/
  regs     : List (Nat × Word)
  /-- The shadow values written and not yet committed (02 R41). -/
  shadows  : List (Nat × Word)
  commits  : List Commit
  bus      : Bus
  irq      : Irq
  pwr      : Pwr
  clk      : Clk
  /-- Live statistics of the performance monitors. -/
  mon      : List (Nat × Stat)
  tdc      : Tdc
  fct      : Fct
  esc      : Esc
  vat      : Vat
  wnb      : Wnb
  ntm      : Ntm
  ctl      : Ctl
  sdf      : List (Nat × SdfChan)
  saf      : Saf
  acq      : Acq
  stq      : Stq
  vid      : Vid
  lmp      : Lmp
  pair     : Pair
  eth      : Eth
  pln      : Pln
  hka      : Hka
  thm      : Thm
  cal      : Cal
  /-- The SRAM: Vat and general pool (02 R36), bytes that are not zero. -/
  sram     : List Host.Cell
  /-- CALSTORE (01 R23), bytes that are not zero. -/
  calstore : List Host.Cell
  deriving DecidableEq, Repr

/-- The state right after power-on reset is asserted (20 R490, R491). -/
def State.reset : State where
  pending := []
  now := 0
  fresh := 0
  held := true
  wiping := false
  regs := []
  shadows := []
  commits := []
  bus := ⟨[], [], ⟨false, 0, 0, 0, false, [], []⟩, [], [], 0#32, 0⟩
  irq := ⟨false, 0, false⟩
  pwr := ⟨none, 0, false, false, 1, 15, none, false, false, none⟩
  clk := ⟨[], [], 0, 0, false, false⟩
  mon := []
  tdc := ⟨[], [], [], [], []⟩
  fct := ⟨[], []⟩
  esc := ⟨false, false, [], [], 0, [], false, [], [], [], [], 0, [], 0⟩
  vat := ⟨[], [], []⟩
  wnb := ⟨[], [], []⟩
  ntm := ⟨.held, false, 0, 0, 100 * 2 ^ 32, none, false, 0⟩
  ctl := ⟨0, 0, [], Mot.empty, ⟨0, none, 0, false, 0, none, 0, 0, [], 0, false, []⟩⟩
  sdf := []
  saf := Saf.empty
  acq := Acq.empty
  stq := ⟨[], [], [], 0, 0, false⟩
  vid := ⟨[], none, none, none, false, false, [], 0, [], [], [], [], [], [], false, false, false, false, false, []⟩
  lmp := ⟨[], [], 0, 0, 25, false, false, false⟩
  pair := Pair.empty
  eth := ⟨[], [], [], [], 0, [], [], [], [], [], []⟩
  pln := Pln.empty
  hka := Hka.empty
  thm := ⟨[], 0, 0, 0, 0⟩
  cal := ⟨none, none, none, CalSet.empty, 0x41C80000#32, false, false, 0⟩
  sram := []
  calstore := []

end Sys2Proof.Machine
end

