-- ==== Sys2Proof/Machine/Ops.lean ====
section
/-!
DEFINITION. The named operations on the state that every family of commands shares: registers and fields, event
counters, events and interrupts, error codes, clock domains, memories, and free values.
-/

namespace Sys2Proof.Machine

/-! ## Time -/

/-- A number of nanoseconds in TDC LSB (03 R71). -/
abbrev nsec (n : Nat) : Nat := n * 256

/-- A number of microseconds in TDC LSB. -/
abbrev usec (n : Nat) : Nat := n * 256000

/-- A number of milliseconds in TDC LSB. -/
abbrev msec (n : Nat) : Nat := n * 256000000

/-- The state at an instant; instants never run backwards (log entry 2). -/
def at' (t : Nat) (s : State) : State := { s with now := max s.now t }

/-! ## Registers -/

/-- The value in force of the register at an address. -/
def reg (s : State) (a : Nat) : Word := pget (regReset a) s.regs a

/-- The state with the register at an address set; a reset value is not listed. -/
def setReg (s : State) (a : Nat) (v : Word) : State := { s with regs := pset (regReset a) s.regs a v }

/-- The value in force of a field. -/
def rd (s : State) (f : Fld) : Nat := fld (reg s f.addr) f.lo f.len

/-- A field of one bit, as a flag. -/
def flag (s : State) (f : Fld) : Bool := rd s f = 1

/-- The signed value of a field. -/
def rdI (s : State) (f : Fld) : Int := signed f.len (rd s f)

/-- The state with a field set. -/
def wr (s : State) (f : Fld) (v : Nat) : State := setReg s f.addr (setFld (reg s f.addr) f.lo f.len v)

/-- The state with a field set to a signed value. -/
def wrI (s : State) (f : Fld) (v : Int) : State := wr s f (unsigned f.len v)

/-- The state with a field set to a flag. -/
def wrB (s : State) (f : Fld) (b : Bool) : State := wr s f (b2n b)

/-- The state with bit `i` of a register set to a flag. -/
def wrBit (s : State) (a i : Nat) (b : Bool) : State := setReg s a (setFld (reg s a) i 1 (b2n b))

/-- Bit `i` of a register. -/
def rdBit (s : State) (a i : Nat) : Bool := bit (reg s a) i

/-- The state with a 64-bit value in two words, the lower first. -/
def setWide (s : State) (a : Nat) (v : Nat) : State := setReg (setReg s a (word v)) (a + 4) (word (v / 2 ^ 32))

/-- The 64-bit value of two words, the lower first. -/
def rdWide (s : State) (a : Nat) : Nat := (reg s a).toNat + (reg s (a + 4)).toNat * 2 ^ 32

/-- The shadow value of a register, where one is written, else its value in force (02 R41). -/
def shadowReg (s : State) (a : Nat) : Word :=
  match s.shadows.find? (fun p => p.1 = a) with
  | some p => p.2
  | none => reg s a

/-- The shadow value of a field. -/
def rdShadow (s : State) (f : Fld) : Nat := fld (shadowReg s f.addr) f.lo f.len

/-! ## Event counters (02 R58) -/

/-- The counter advanced by `n`, saturating at 0xFFFF_FFFF with OVF set in the next word (02 R58). -/
def bumpBy (s : State) (a n : Nat) : State :=
  if (reg s a).toNat + n < 0xFFFFFFFF then setReg s a (word ((reg s a).toNat + n))
  else if n = 0 then s
  else setReg (setReg s a 0xFFFFFFFF#32) (a + 4) 1#32

/-- The counter advanced by one. -/
def bump (s : State) (a : Nat) : State := bumpBy s a 1

/-- A counter that keeps its OVF flag in bit 31 and its count in the bits below (08 R228). -/
def bump31 (s : State) (a n : Nat) : State :=
  let c := fld (reg s a) 0 31
  if c + n < 0x7FFFFFFF then setReg s a (setFld (reg s a) 0 31 (c + n))
  else if n = 0 then s
  else setReg s a 0xFFFFFFFF#32

/-! ## Power states and clock domains (01 R20) -/

/-- The power state, as PWR.STATUS codes it: 1 SLEEP, 2 TIMEKEEP, 3 READY, 4 RUN. -/
def pstate (s : State) : Nat := rd s F.PWR_STATUS_STATE

/-- The clock domain of a page or region runs (01 R20, R22); `i` is the page's instance, or the channel. -/
def domRunning (s : State) (d : Dom) (i : Nat) : Bool :=
  match d with
  | .aon => true
  | .tkp | .eth => decide (2 ≤ pstate s)
  | .lg => decide (3 ≤ pstate s) || (decide (pstate s = 2) && decide (i = 35))
  | .vid => decide (3 ≤ pstate s) && flag s F.PWR_CLK_REQ_VID
  | .sys | .tdc | .vat | .prs | .ctl | .hka | .lmp | .chan => decide (3 ≤ pstate s)

/-- The device runs: reset is released and the wipe of 20 R491 is complete. -/
def awake (s : State) : Bool := !s.held && !s.wiping

/-- The SYS domain runs, and with it every domain of READY but VID. -/
def sysOn (s : State) : Bool := awake s && domRunning s .sys 0

/-- The device is in RUN. -/
def running (s : State) : Bool := awake s && decide (pstate s = 4)

/-! ## Link frames -/

/-- Bundle `b` is UP (09 R265). -/
def bundleUp (s : State) (b : Nat) : Bool := rd s (F.B_STATUS_STATE b) = 3

/-- A frame waits for transmission on a bundle. -/
def queueFrame (s : State) (b : Nat) (f : LinkFrame) : State :=
  { s with wnb := { s.wnb with tx := pset [] s.wnb.tx b (pget [] s.wnb.tx b ++ [(f, s.now)]) } }

/-- Bundle `b` beside its registers. -/
def bundle (s : State) (b : Nat) : Bundle := pget Bundle.off s.wnb.bundles b

/-- The state with a bundle set. -/
def setBundle (s : State) (b : Nat) (x : Bundle) : State :=
  { s with wnb := { s.wnb with bundles := pset Bundle.off s.wnb.bundles b x } }

/-- The state with a bundle changed. -/
def onBundle (s : State) (b : Nat) (f : Bundle → Bundle) : State := setBundle s b (f (bundle s b))

/-! ## Events and interrupts -/

/-- The page of an interrupt source (02 R54), by its base address. -/
def srcBase (i : Nat) : Nat :=
  if i < 5 then 0x1000 * i
  else if i < 9 then 0x10000 + 0x1000 * (i - 5)
  else if i < 24 then
    [0x18000, 0x20000, 0x30000, 0x31000, 0x32000, 0x40000, 0x41000, 0x50000, 0x51000, 0x60000, 0x80000, 0x81000,
      0x82000, 0x83000, 0x90000].getD (i - 9) 0
  else if i < 29 then 0xA0000 + 0x1000 * (i - 24)
  else if i < 37 then [0xA8000, 0xA9000, 0xB0000, 0xC0000, 0xC1000, 0xD0000, 0xE0000, 0xF0000].getD (i - 29) 0
  else if i < 69 then 0x61000 + 0x80 * (i - 37)
  else 0x70000 + 0x400 * (i - 69)

/-- The interrupt source of a page, by its base address. -/
def srcOf (p : Nat) : Option Nat := (List.range 105).find? (fun i => srcBase i = p)

/-- EVT_PENDING of a page: EVT_RAW AND EVT_ENABLE (02 R53). -/
def evtPending (s : State) (p : Nat) : Word := reg s (p + 0x10) &&& reg s (p + 0x14)

/-- The summary bit of a page (02 R54). -/
def summary (s : State) (p : Nat) : Bool := evtPending s p ≠ 0#32

/-- SUMMARYj (02 R55). -/
def summaryWord (s : State) (j : Nat) : Word :=
  word ((List.range 32).foldl
    (fun n k => if 32 * j + k < 105 ∧ summary s (srcBase (32 * j + k)) then n + 2 ^ k else n) 0)

/-- Some source of class `c` has its summary at 1 (02 R55, R56). -/
def classPending (s : State) (c : Nat) : Bool :=
  (List.range 105).any fun i =>
    fld (reg s (A.IRQ_CLASS (i / 16))) (2 * (i % 16)) 2 = c && summary s (srcBase i)

/-- IRQ0_N (c = 1) or IRQ1_N (c = 2) is asserted: low (02 R56). -/
def irqAsserted (s : State) (c : Nat) : Bool :=
  awake s && classPending s c && !(rdBit s A.IRQ_PIN_MASK (c - 1))

/-- An EVENT frame is sent, or counted when its bundle is not trained (02 R57, 09 R260). -/
def sendEvent (s : State) : State :=
  let b := rd s F.IRQ_EVF_CFG_BUNDLE
  if bundleUp s b then
    let s := queueFrame s b ⟨5, 0, 0, 20, (List.range 4).map (summaryWord s) ++ [word (bundle s b).events]⟩
    let s := onBundle s b fun x => { x with events := (x.events + 1) % 2 ^ 32 }
    let h := rd s F.IRQ_EVF_CFG_HOLDOFF
    if h = 0 then s else { s with irq := ⟨true, s.now + usec h, false⟩ }
  else bump s A.IRQ_EVF_DROPPED

/-- The summary of a source has gone from 0 to 1 (02 R57). -/
def evfRise (s : State) (i : Nat) : State :=
  if flag s F.IRQ_EVF_CFG_ENABLE ∧ rdBit s (A.IRQ_EVF_EN (i / 32)) (i % 32) then
    if s.irq.holding then { s with irq := { s.irq with owed := true } } else sendEvent s
  else s

/-- The state after a change of a page's EVT registers, from the state before it: a rise of its summary is seen. -/
def evfWatch (p : Nat) (s s' : State) : State :=
  if !(summary s p) && summary s' p then
    match srcOf p with
    | some i => evfRise s' i
    | none => s'
  else s'

/-- Event bits of a page are set by a mask (02 R53). -/
def raiseBits (s : State) (p : Nat) (m : Word) : State :=
  evfWatch p s (setReg s (p + 0x10) (reg s (p + 0x10) ||| m))

/-- An event of a page: a field of its EVT_RAW. -/
def raise (s : State) (f : Fld) : State := raiseBits s (f.addr - 0x10) (word (2 ^ f.lo))

/-- Bit `i` of an event field of several bits. -/
def raiseAt (s : State) (f : Fld) (i : Nat) : State := raiseBits s (f.addr - 0x10) (word (2 ^ (f.lo + i)))

/-! ## Error codes (02 R40) -/

/-- An error is recorded in the ERR_CODE of a page (02 R40). -/
def recErr (s : State) (p off code : Nat) : State :=
  if fld (reg s (p + 0x28)) 0 8 = 0 then setReg s (p + 0x28) (word (code + off % 2 ^ 12 * 2 ^ 8))
  else setReg s (p + 0x28) (setFld (reg s (p + 0x28)) 30 1 1)

/-- An error that no access made is recorded; no rule gives its OFFSET, which is free (log entry 91). -/
def recFail (s : State) (p code : Nat) : State :=
  if fld (reg s (p + 0x28)) 0 8 = 0 then recErr { s with fresh := s.fresh + 1 } p (Sys2Proof.Config.freeValue s.fresh) code
  else recErr s p 0 code

/-- An error 0x05 or 0x08 is recorded in GLB.ERR_CODE, with the address of the access (02 R36). -/
def recGlb (s : State) (a code : Nat) : State :=
  if fld (reg s A.GLB_ERR_CODE) 0 8 = 0 then setReg (recErr s 0 a code) A.GLB_ERR_ADDR (word a)
  else recErr s 0 a code

/-! ## OCXO_WARM -/

/-- The filtered OCXO_WARM is low now. -/
def cold (s : State) : Bool := !(flag s F.CLK_STATUS_OCXO_WARM)

/-- The filtered OCXO_WARM has been low at some instant since `t` (03 R66). -/
def coldSince (s : State) (t : Nat) : Bool := cold s || decide (t < s.clk.warmSince)

/-! ## Free values -/

/-- A free value below `2 ^ n`, and the state with the next one due (log entry 3). -/
def takeFree (s : State) (n : Nat) : Nat × State :=
  (Sys2Proof.Config.freeValue s.fresh % 2 ^ n, { s with fresh := s.fresh + 1 })

/-! ## Memories -/

/-- A little-endian word of a byte memory (02 R34). -/
def memWord (m : List Host.Cell) (a : Nat) : Word :=
  word ((pget 0#8 m a).toNat + (pget 0#8 m (a + 1)).toNat * 2 ^ 8 + (pget 0#8 m (a + 2)).toNat * 2 ^ 16
    + (pget 0#8 m (a + 3)).toNat * 2 ^ 24)

/-- A byte memory with a little-endian word stored. -/
def setMemWord (m : List Host.Cell) (a : Nat) (w : Word) : List Host.Cell :=
  pset 0#8 (pset 0#8 (pset 0#8 (pset 0#8 m a (wbyte w 0)) (a + 1) (wbyte w 1)) (a + 2) (wbyte w 2)) (a + 3) (wbyte w 3)

/-- A byte memory with the bytes of a range cleared. -/
def memClear (m : List Host.Cell) (lo hi : Nat) : List Host.Cell := m.filter fun c => c.1 < lo || hi ≤ c.1

/-- The canonical form of a byte memory: addresses rising, no zero byte listed. -/
def Memory.wf (m : List Host.Cell) : Bool := pwf 0#8 m

end Sys2Proof.Machine
end

