-- ==== Sys2Proof/Machine/Stats.lean ====
section
/-!
DEFINITION. The statistics units: the performance monitors of the PMON page (02 R60, R61), the time-difference units and
the frequency counters of the FCT page (03 R89 to R94).
-/

namespace Sys2Proof.Machine

/-! ## Live statistics -/

/-- A sample added to a unit, in a bin of its histogram that saturates at `cap` (02 R61, 03 R90). -/
def Stat.add (st : Stat) (v : Int) (bin cap : Nat) : Stat :=
  { st with count := min (st.count + 1) 0xFFFFFFFF, sum := st.sum + v,
            lo := if v < st.lo then v else st.lo, hi := if st.hi < v then v else st.hi,
            hist := pset 0 st.hist bin (min (pget 0 st.hist bin + 1) cap) }

/-- The bin of a value: its distance from HOFFSET shifted right, clamped to the histogram (02 R61). -/
def statBin (v off : Int) (shift bins : Nat) : Nat :=
  min ((v - off) / (2 ^ shift : Nat)).toNat (bins - 1)

/-- The 64-bit sum overflows. -/
def sumOver (n : Int) : Bool := decide (n < -(2 ^ 63)) || decide ((2 ^ 63 : Int) ≤ n)

/-- A quotient whose rounding the spec leaves open: exact, or one of the two neighbours (log entry 4). -/
def divOpen (a : Int) (b : Nat) (s : State) : Int × State :=
  if a % b = 0 then (a / b, s)
  else
    let (f, s) := takeFree s 1
    (a / b + f, s)

/-! ## Performance monitors -/

/-- The state with the live statistics of monitor `m`. -/
def setMon (s : State) (m : Nat) (st : Stat) : State := { s with mon := pset Stat.empty s.mon m st }

/-- The live statistics of monitor `m`. -/
def monStat (s : State) (m : Nat) : Stat := pget Stat.empty s.mon m

/-- A sample of a quantity reaches monitor `m` (02 R61). -/
def monAdd (s : State) (m : Nat) (v : Int) : State :=
  let bin := statBin v (sword (reg s (A.MON_HOFFSET m))) (rd s (F.MON_CTRL_SHIFT m)) 32
  let st := (monStat s m).add v bin 0xFFFFFFFF
  let s := if pget 0 st.hist bin = 0xFFFFFFFF then wr s (F.MON_STATUS_HIST_OVF m) 1 else s
  if sumOver st.sum then
    let (f, s) := takeFree s 64
    setMon (wr s (F.MON_STATUS_SUM_OVF m) 1) m { st with sum := signed 64 f }
  else setMon s m st

/-- A sample of the quantity SOURCE of instance ARG, at every monitor that runs on it (02 R60, R61). -/
def monSample (s : State) (src arg : Nat) (v : Int) : State :=
  if !(flag s F.PMON_CTRL_ENABLE) then s
  else (List.range 16).foldl (fun s m =>
    if flag s (F.MON_CTRL_RUN m) ∧ rd s (F.MON_SEL_SOURCE m) = src ∧ rd s (F.MON_SEL_ARG m) = arg then monAdd s m v
    else s) s

/-- Monitor `m` copies its live state to its snapshot registers (02 R61). -/
def monSnap (s : State) (m : Nat) : State :=
  let st := monStat s m
  let s := setReg s (A.MON_MIN m) (iword st.lo)
  let s := setReg s (A.MON_MAX m) (iword st.hi)
  let s := setReg s (A.MON_COUNT m) (word st.count)
  let s := setWide s (A.MON_SUM_LO m) (unsigned 64 st.sum)
  (List.range 32).foldl (fun s k => setReg s (A.MON_HIST m k) (word (pget 0 st.hist k))) s

/-- Monitor `m` is cleared and runs from now (02 R61). -/
def monStart (s : State) (m : Nat) : State :=
  let s := setReg s (A.MON_STATUS m) 0#32
  wr (setMon s m { Stat.empty with since := s.now }) (F.MON_CTRL_RUN m) 1

/-- The monitors of a mask, each given to an operation. -/
def onMask (n : Nat) (mask : Nat) (f : State → Nat → State) (s : State) : State :=
  (List.range n).foldl (fun s m => if mask.testBit m then f s m else s) s

/-- At a frame boundary a monitor in MODE FRAME takes a snapshot and restarts (02 R60). -/
def monFrame (s : State) : State :=
  (List.range 16).foldl (fun s m =>
    if flag s (F.MON_CTRL_RUN m) ∧ rd s (F.MON_CTRL_MODE m) = 2 then monStart (monSnap s m) m else s) s

/-- A change of MON_SEL while RUN is 1 is refused (02 R61). -/
def pmonCheck (a : Nat) (d : Word) (s : State) : Nat :=
  let m := (a - 0x4100) / 0xC0
  if 0x4100 ≤ a ∧ a < 0x4D00 ∧ a = A.MON_SEL m ∧ flag s (F.MON_CTRL_RUN m)
      ∧ (fld d 0 12 ≠ rd s (F.MON_SEL_SOURCE m) ∨ fld d 16 16 ≠ rd s (F.MON_SEL_ARG m)) then 0x04 else 0

/-- What an accepted write of a PMON register does beside storing it; `o` is the state before the write. -/
def pmonAct (a : Nat) (d : Word) (o s : State) : State :=
  let m := (a - 0x4100) / 0xC0
  if a = A.PMON_SNAP then onMask 16 d.toNat monSnap s
  else if a = A.PMON_START then onMask 16 d.toNat monStart s
  else if 0x4100 ≤ a ∧ a < 0x4D00 ∧ a = A.MON_CTRL m ∧ flag s (F.MON_CTRL_RUN m) ∧ !(flag o (F.MON_CTRL_RUN m)) then
    setMon s m { monStat s m with since := s.now }
  else s

/-- MON_WINDOW_END: monitor `m` in MODE WINDOW stops after WINDOW µs and sets DONE (02 R60). -/
def monWindowEnd (t m : Nat) (s : State) : State :=
  if sysOn s ∧ m < 16 ∧ flag s (F.MON_CTRL_RUN m) ∧ rd s (F.MON_CTRL_MODE m) = 1
      ∧ (monStat s m).since + usec (rd s (F.MON_WINDOW m)) ≤ t then
    wr (wr s (F.MON_CTRL_RUN m) 0) (F.MON_STATUS_DONE m) 1
  else s

/-- MON_WINDOW_END (02 R60). -/
def execMonWindowEnd (t m : Nat) (s : State) : Host.Outcome State Fault Refusal := .next (monWindowEnd t m (at' t s))

/-! ## Time-difference units -/

/-- The live statistics of TDU `m`. -/
def tduStat (s : State) (m : Nat) : Stat := pget Stat.empty s.fct.tdu m

/-- The state with the live statistics of TDU `m`. -/
def setTdu (s : State) (m : Nat) (st : Stat) : State :=
  { s with fct := { s.fct with tdu := pset Stat.empty s.fct.tdu m st } }

/-- TDU `m` runs. -/
def tduRuns (s : State) (m : Nat) : Bool := flag s F.FCT_CTRL_ENABLE && flag s (F.TDU_CTRL_RUN m)

/-- TDU `m` copies its live state to its snapshot registers and forms TDU_MEAN (03 R91); the mean of no pairs is a free
value (log entry 4). A snapshot whose capture includes an instant of low OCXO_WARM is PROVISIONAL (R66). -/
def tduSnap (s : State) (m : Nat) : State :=
  let st := tduStat s m
  let s := if coldSince s st.since then wr s (F.TDU_STATUS_PROVISIONAL m) 1 else s
  let s := setReg s (A.TDU_COUNT m) (word st.count)
  let s := setWide s (A.TDU_SUM_LO m) (unsigned 64 st.sum)
  let s := setReg s (A.TDU_MIN m) (iword st.lo)
  let s := setReg s (A.TDU_MAX m) (iword st.hi)
  let s := (List.range 32).foldl (fun s j =>
    setReg s (A.TDU_HIST m j) (word (pget 0 st.hist (2 * j) + pget 0 st.hist (2 * j + 1) * 2 ^ 16))) s
  if st.count = 0 then
    let (f, s) := takeFree s 32
    setReg s (A.TDU_MEAN m) (word f)
  else
    let (q, s) := divOpen (st.sum * 256) st.count s
    setReg s (A.TDU_MEAN m) (iword (max (-0x80000000) (min 0x7FFFFFFF q)))

/-- TDU `m` is cleared and runs (03 R91, 02 R61). -/
def tduStart (s : State) (m : Nat) : State :=
  let s := setReg s (A.TDU_STATUS m) 0#32
  wr (setTdu s m { Stat.empty with since := s.now }) (F.TDU_CTRL_RUN m) 1

/-- A paired A event of TDU `m` with the difference `v` (03 R90, R91). -/
def tduPair (s : State) (m : Nat) (v : Int) : State :=
  let bin := statBin v (sword (reg s (A.TDU_HOFFSET m))) (rd s (F.TDU_CTRL_SHIFT m)) 64
  let st := (tduStat s m).add v bin 0xFFFF
  let s := if pget 0 st.hist bin = 0xFFFF then wr s (F.TDU_STATUS_HIST_OVF m) 1 else s
  let s :=
    if sumOver st.sum then
      let (f, s) := takeFree s 64
      setTdu (wr s (F.TDU_STATUS_SUM_OVF m) 1) m { st with sum := signed 64 f }
    else setTdu s m st
  if rd s (F.TDU_CTRL_MODE m) = 1 ∧ (reg s (A.TDU_TARGET m)).toNat ≤ st.count then
    raiseAt (wr (wr s (F.TDU_CTRL_RUN m) 0) (F.TDU_STATUS_DONE m) 1) F.FCT_EVT_RAW_DONE m
  else s

/-- An event of a source at a TDC time reaches TDU `m` (03 R89, R90): first as an A event, against earlier B events. -/
def tduOne (src time : Nat) (s : State) (m : Nat) : State :=
  if !(tduRuns s m) then s
  else
    let isA := decide (rd s (F.TDU_SRC_SRC_A m) = src)
    let isB := decide (rd s (F.TDU_SRC_SRC_B m) = src)
    let s := if (isA || isB) && cold s then wr s (F.TDU_STATUS_PROVISIONAL m) 1 else s
    let s :=
      if isA then
        match (tduStat s m).lastB with
        | some b =>
          if time ≤ b + nsec (rd s (F.TDU_WIN m)) then tduPair s m ((time : Int) - b) else bump s (A.TDU_UNPAIRED m)
        | none => bump s (A.TDU_UNPAIRED m)
      else s
    if isB then setTdu s m { tduStat s m with lastB := some time } else s

/-- An event of a source reaches the time-difference units (03 R89, R90). -/
def tduEvent (s : State) (src time : Nat) : State :=
  if flag s F.FCT_CTRL_ENABLE then (List.range 16).foldl (tduOne src time) s else s

/-- A hit that carries FIFO_GAP is delivered by a source (03 R90). -/
def tduGap (s : State) (src : Nat) : State :=
  (List.range 16).foldl (fun s m =>
    if tduRuns s m ∧ (rd s (F.TDU_SRC_SRC_A m) = src ∨ rd s (F.TDU_SRC_SRC_B m) = src) then wr s (F.TDU_STATUS_GAP m) 1
    else s) s

/-- At a frame boundary a TDU in MODE FRAME takes a snapshot and restarts (03 R91). -/
def tduFrame (s : State) : State :=
  (List.range 16).foldl (fun s m =>
    if tduRuns s m ∧ rd s (F.TDU_CTRL_MODE m) = 2 then tduStart (tduSnap s m) m else s) s

/-! ## Frequency counters -/

/-- Frequency counter `k`. -/
def fcOf (s : State) (k : Nat) : Fc := pget ⟨none, none⟩ s.fct.fc k

/-- The state with frequency counter `k` set. -/
def setFc (s : State) (k : Nat) (c : Fc) : State := { s with fct := { s.fct with fc := pset ⟨none, none⟩ s.fct.fc k c } }

/-- Counter `k` is started: it waits for a prescaled edge (03 R92). -/
def fcStart (s : State) (k : Nat) : State :=
  let s := setReg s (A.FC_STATUS k) (setFld (reg s (A.FC_STATUS k)) 0 3 0)
  wr (setFc s k ⟨some s.now, none⟩) (F.FC_CTRL_RUN k) 1

/-- Counter `k` may run. -/
def fcRuns (s : State) (k : Nat) : Bool :=
  sysOn s && decide (k < 4) && flag s F.FCT_CTRL_ENABLE && flag s (F.FC_CTRL_RUN k)

/-- FC_GATE_OPEN: a prescaled edge opens the gate of counter `k` (03 R92). -/
def fcGateOpen (t k : Nat) (s : State) : State :=
  match fcRuns s k, (fcOf s k).armed with
  | true, some _ => setFc s k ⟨none, some t⟩
  | _, _ => s

/-- FC_GATE_CLOSE: the first prescaled edge at or after GATE_US closes the gate and latches N = `n` and T (03 R92, R93).
In CONT mode the counter waits for its next edge (R94). -/
def fcGateClose (t k n : Nat) (s : State) : State :=
  match fcRuns s k, (fcOf s k).open' with
  | true, some o =>
    if o + usec (rd s (F.FC_CTRL_GATE_US k)) ≤ t then
      let s := setReg s (A.FC_EDGES k) (word n)
      let s := setReg (setReg s (A.FC_TIME_LO k) (word (t - o))) (A.FC_TIME_HI k) (word ((t - o) / 2 ^ 32 % 2 ^ 16))
      let s := wr s (F.FC_STATUS_RESULTS k) (rd s (F.FC_STATUS_RESULTS k) + 1)
      let s := wrB s (F.FC_STATUS_PROVISIONAL k) (coldSince s o)
      let s := wr (wr s (F.FC_STATUS_DONE k) 1) (F.FC_STATUS_NO_SIGNAL k) 0
      let s := if flag s (F.FC_CTRL_CONT k) then setFc s k ⟨some t, none⟩ else wr (setFc s k ⟨none, none⟩) (F.FC_CTRL_RUN k) 0
      raiseAt s F.FCT_EVT_RAW_RESULT k
    else s
  | _, _ => s

/-- NO_SIGNAL: no prescaled edge within one gate time after the start, or after the nominal gate end (03 R94). -/
def fcNoSignal (t k : Nat) (s : State) : State :=
  let g := usec (rd s (F.FC_CTRL_GATE_US k))
  let c := fcOf s k
  let isOver :=
    match c.armed, c.open' with
    | some a, _ => decide (a + g ≤ t)
    | none, some o => decide (o + 2 * g ≤ t)
    | none, none => false
  if fcRuns s k && isOver then
    let s := if flag s (F.FC_CTRL_CONT k) then setFc s k ⟨some t, none⟩ else wr (setFc s k ⟨none, none⟩) (F.FC_CTRL_RUN k) 0
    raiseAt (wr s (F.FC_STATUS_NO_SIGNAL k) 1) F.FCT_EVT_RAW_NO_SIGNAL k
  else s

/-- FC_GATE_OPEN (03 R92). -/
def execFcGateOpen (t k : Nat) (s : State) : Host.Outcome State Fault Refusal := .next (fcGateOpen t k (at' t s))

/-- FC_GATE_CLOSE (03 R93). -/
def execFcGateClose (t k n : Nat) (s : State) : Host.Outcome State Fault Refusal := .next (fcGateClose t k n (at' t s))

/-- NO_SIGNAL (03 R94). -/
def execNoSignal (t k : Nat) (s : State) : Host.Outcome State Fault Refusal := .next (fcNoSignal t k (at' t s))

/-- A change of TDU_SRC while RUN is 1 is refused (03 R91). -/
def fctCheck (a : Nat) (d : Word) (s : State) : Nat :=
  let m := (a - 0x18100) / 0x40
  if 0x18100 ≤ a ∧ a < 0x18500 ∧ a = A.TDU_SRC m ∧ flag s (F.TDU_CTRL_RUN m)
      ∧ (fld d 0 10 ≠ rd s (F.TDU_SRC_SRC_A m) ∨ fld d 16 10 ≠ rd s (F.TDU_SRC_SRC_B m)) then 0x04 else 0

/-- What an accepted write of an FCT register does beside storing it. -/
def fctAct (a : Nat) (d : Word) (o s : State) : State :=
  let k := (a - 0x18500) / 0x20
  if a = A.FCT_SNAP then onMask 16 d.toNat tduSnap s
  else if 0x18100 ≤ a ∧ a < 0x18500 ∧ a = A.TDU_CTRL ((a - 0x18100) / 0x40) then
    let m := (a - 0x18100) / 0x40
    if flag s (F.TDU_CTRL_RUN m) ∧ !(flag o (F.TDU_CTRL_RUN m)) then setTdu s m { tduStat s m with since := s.now } else s
  else if a = A.FCT_START then onMask 4 (fld d 16 4) fcStart (onMask 16 d.toNat tduStart s)
  else if 0x18500 ≤ a ∧ a < 0x18580 ∧ a = A.FC_CTRL k then
    if flag s (F.FC_CTRL_RUN k) then (if flag o (F.FC_CTRL_RUN k) then s else fcStart s k)
    else setFc s k ⟨none, none⟩
  else s

/-- FCT.STATUS: the open gates and the running TDUs (03 R99). -/
def fctStatus (s : State) : Word :=
  let runs := (List.range 16).foldl (fun n m => if flag s (F.TDU_CTRL_RUN m) then n + 2 ^ m else n) 0
  let gates := (List.range 4).foldl (fun n k => if (fcOf s k).open'.isSome then n + 2 ^ k else n) 0
  word (runs + gates * 2 ^ 16)

end Sys2Proof.Machine
end

