-- ==== Sys2Proof/Machine/Tdc.lean ====
section
/-!
DEFINITION. Time capture: hit channels, their FIFOs and bank paths, start channels, and the time of a hit
(chapter 03, R70 to R88).
-/

namespace Sys2Proof.Machine

/-! ## Channels -/

/-- What channel `c` holds beside its registers. -/
def chan (s : State) (c : Nat) : Chan := pget Chan.empty s.tdc.chans c

/-- The state with channel `c` set. -/
def setChan (s : State) (c : Nat) (x : Chan) : State :=
  { s with tdc := { s.tdc with chans := pset Chan.empty s.tdc.chans c x } }

/-- The quadrant of a channel (03 R70). -/
abbrev quadOf (c : Nat) : Nat := c / 128

/-- The bank of a channel is in PULSE mode (03 R76). -/
def pulseBank (s : State) (c : Nat) : Bool := rdBit s (A.TDC_BANK_MODE (quadOf c)) (c / 8 % 16)

/-- The interpolator table value in force of a raw code: hit channels 0 to 511, START channels 512 to 519, CALREF 520
(03 R80, 17 R448). -/
def interp (s : State) (c code : Nat) : Nat :=
  if bit (memWord s.calstore 0x80) 31 then (pget 0#8 s.calstore (0x1000 + 0x100 * c + code)).toNat else code

/-- The TDC time of an edge that a channel captures at a raw time: whole nanoseconds and a raw interpolator code. -/
def edgeTime (s : State) (c raw : Nat) : Nat := raw / 256 * 256 + interp s c (raw % 256)

/-- The TDC time of a hit channel's edge, with the delay trim in force (03 R89). -/
def hitEdge (s : State) (c raw : Nat) : Nat := edgeTime s c raw + rd s (F.CH_TRIM_DELAY_TAP c)

/-- The PLL of quadrant `q` is locked, or held over, and its edges are not discarded (03 R68 to R72). -/
def quadCaptures (s : State) (q : Nat) : Bool :=
  sysOn s && decide (q < 4) && flag s (F.TDC_CTRL_ENABLE q) && !(s.clk.discard.contains q)

/-- A calibration job has disconnected the hit and start channels from their pins (17 R440). -/
def calHolds (s : State) : Bool := s.cal.job.any fun j => decide (j.type ≤ 3)

/-- The channel's front end captures edges of its pin. -/
def chanCaptures (s : State) (c : Nat) : Bool :=
  quadCaptures s (quadOf c) && flag s (F.CH_CTRL_ENABLE c) && !(calHolds s)

/-- The shot whose open gate a channel lies in, and whether the gate is its dark window (03 R81, 04 R104). -/
def openGate (s : State) (c : Nat) : Option (Shot × Bool) :=
  match s.esc.shots.find? (fun x => (x.rangeOpen || x.darkOpen) && decide (x.cfg.first ≤ c) && decide (c < x.cfg.first + x.cfg.count)) with
  | some x => some (x, x.darkOpen)
  | none => none

/-- The settling interval of a channel starts, or starts again (03 R75). -/
def settle (s : State) (c : Nat) : State := setChan s c { chan s c with settle := s.now + usec 2 }

/-- The codes applied to a channel's DACs are clamped (03 R74): the code plus its trim leaves 0 to 1,023. -/
def trimClamped (s : State) (c : Nat) : Bool :=
  let out (f g : Fld) : Bool := decide ((rd s f : Int) + rdI s g < 0) || decide (1023 < (rd s f : Int) + rdI s g)
  out (F.CH_THRESH_THL c) (F.CH_TRIM_THL_TRIM c) || out (F.CH_THRESH_THH c) (F.CH_TRIM_THH_TRIM c)

/-- The code applied to the THL DAC (03 R74). -/
def thlApplied (s : State) (c : Nat) : Int :=
  max 0 (min 1023 ((rd s (F.CH_THRESH_THL c) : Int) + rdI s (F.CH_TRIM_THL_TRIM c)))

/-- The code applied to the THH DAC (03 R74). -/
def thhApplied (s : State) (c : Nat) : Int :=
  max 0 (min 1023 ((rd s (F.CH_THRESH_THH c) : Int) + rdI s (F.CH_TRIM_THH_TRIM c)))

/-- The event TRIM_CLAMP is set when an applied code is clamped (03 R74). -/
def clampEvent (s : State) (c : Nat) : State :=
  if trimClamped s c then raise s (F.TDC_EVT_RAW_TRIM_CLAMP (quadOf c)) else s

/-! ## Hits -/

/-- A channel's hits completed and not yet in the FIFO gain the current one, when it is complete. -/
def Chan.retire (x : Chan) : Chan :=
  match x.cur with
  | some h => if h.trail.isSome then { x with cur := none, done := x.done ++ [h] } else x
  | none => x

/-- A pulse merges into the previous hit (03 R78). -/
def mergePulse (s : State) (c : Nat) : State :=
  let x := chan s c
  let x :=
    match x.cur with
    | some h => { x with cur := some { h with trail := none }, live := true }
    | none => x
  bump (setChan s c x) (A.CH_MERGED c)

/-- A new hit of a channel begins (03 R77, R79, R89). -/
def beginHit (s : State) (c raw : Nat) (shot : Option Nat) (index : Nat) (dark : Bool) : State :=
  let x := (chan s c).retire
  let e := hitEdge s c raw
  let settling := decide (s.now < x.settle)
  let h : Hit := ⟨e, raw % 256, shot, index, none, false, settling, cold s, false, false, dark,
    flag s (F.CH_CTRL_INTERP_BYPASS c)⟩
  let s := setChan s c { x with cur := some h, live := true, lead := e }
  let s := if settling then bump s (A.CH_SETTLE c) else s
  tduEvent s c e

/-- A hit beyond MAX_HITS + 1 of its shot is discarded (03 R82). -/
def excessHit (s : State) (c e : Nat) : State :=
  let s := setChan s c { (chan s c).retire with live := false, lead := e }
  raise (bump s (A.CH_EXCESS c)) (F.TDC_EVT_RAW_HIT_EXCESS (quadOf c))

/-- A leading edge of a GATED channel within the gate of a shot (03 R78, R82). -/
def gatedEdge (s : State) (c raw : Nat) (shot : Shot) (dark : Bool) : State :=
  let x := chan s c
  let n := if x.shot = shot.id + 1 then x.count else 0
  if n ≤ rd s (F.CH_CTRL_MAX_HITS c) then
    let s := setChan s c { x with shot := shot.id + 1, count := n + 1 }
    beginHit s c raw (some shot.id) n dark
  else excessHit s c (hitEdge s c raw)

/-- The pulse is too close to the previous hit to be a new one: within 1.6 ns of its leading edge, or before its
trailing edge (03 R78). -/
def merges (x : Chan) (e : Nat) : Bool :=
  (match x.cur with
   | some h => h.trail.isNone && x.live
   | none => false) || (decide (x.lead ≠ 0) && decide (5 * e < 5 * x.lead + 2048))

/-- HIT_LEADING_EDGE: the THL comparator of channel `c` goes active at the raw time `raw` (03 R77, R78, R81, R82). -/
def hitLeadingEdge (raw c : Nat) (s : State) : State :=
  if !(chanCaptures s c) then s
  else if flag s (F.CH_CTRL_FREE_RUN c) then
    if merges (chan s c) (hitEdge s c raw) then mergePulse s c else beginHit s c raw none 0 false
  else
    match openGate s c with
    | none => s
    | some (shot, dark) =>
      if merges (chan s c) (hitEdge s c raw) then mergePulse s c else gatedEdge s c raw shot dark

/-- The width code of a hit: to the nearest 62.5 ps, 0xFFF from 255.9375 ns on (03 R77). -/
def widthCode (h : Hit) : Nat :=
  match h.trail with
  | some e => if h.noTrail || decide (h.time + 65520 ≤ e) then 0xFFF else (e - h.time + 8) / 16
  | none => 0xFFF

/-- HIT_TRAILING_EDGE: the comparator returns inactive at the raw time `raw`; `high` when the input crossed THH within
the pulse (03 R76, R77). -/
def hitTrailingEdge (raw c : Nat) (high : Bool) (s : State) : State :=
  let x := chan s c
  match x.cur, x.live with
  | some h, true =>
    let e := hitEdge s c raw
    let isOver := decide (h.time + 65520 ≤ e)
    let h := { h with trail := some e, high := h.high || (high && !(pulseBank s c)), noTrail := isOver }
    let s := setChan s c { x with cur := some h, live := false }
    if isOver then bump s (A.CH_NO_TRAIL c) else s
  | _, _ => s

/-- HIT_WIDTH_LIMIT: a hit reaches 255.9375 ns without a trailing edge (03 R77). -/
def hitWidthLimit (t c : Nat) (high : Bool) (s : State) : State :=
  let x := chan s c
  match x.cur, x.live with
  | some h, true =>
    if h.time + 65520 ≤ t then
      let h := { h with trail := some (h.time + 65520), high := h.high || (high && !(pulseBank s c)), noTrail := true }
      bump (setChan s c { x with cur := some h, live := false }) (A.CH_NO_TRAIL c)
    else s
  | _, _ => s

/-- The shot in flight with a number. -/
def shotOf (s : State) (id : Nat) : Option Shot := s.esc.shots.find? (fun x => x.id = id)

/-- `stop` of the hit word: from the shot start in GATED capture, the low 32 bits of TDC time in FREE_RUN (03 R80). -/
def stopOf (s : State) (h : Hit) : Nat :=
  match h.shot with
  | some id =>
    match shotOf s id with
    | some x => h.time - x.start
    | none => h.time
  | none => h.time % 2 ^ 32

/-- The hit's shot is resolved: its start found, or substituted, or the shot withheld. -/
def shotResolved (s : State) (h : Hit) : Bool :=
  match h.shot with
  | some id =>
    match shotOf s id with
    | some x => x.found.isSome || x.dropped
    | none => true
  | none => true

/-- The hit word of 03 R79. -/
def hitWord (s : State) (c : Nat) (h : Hit) : Nat :=
  let stop := stopOf s h
  let fine := if h.bypass then h.raw else stop % 256
  let subst :=
    match h.shot with
    | some id => (match shotOf s id with
                  | some x => x.subst
                  | none => false)
    | none => false
  stop / 256 % 2 ^ 24 * 2 ^ 40 + fine * 2 ^ 32 + widthCode h * 2 ^ 20 + b2n h.high * 2 ^ 19 + h.index % 8 * 2 ^ 16
    + c * 2 ^ 7 + b2n h.settling * 2 ^ 6 + b2n h.provisional * 2 ^ 5 + b2n h.gap * 2 ^ 4 + b2n h.noTrail * 2 ^ 3
    + b2n subst * 2 ^ 2 + b2n h.dark * 2

/-- A complete hit meets its channel FIFO (03 R83, R85). -/
def fifoPush (s : State) (c : Nat) (x : Chan) (h : Hit) : State :=
  if x.fifo.length = 64 then
    let s := bump (setChan s c { x with gapDue := true }) (A.CH_FIFO_DROP c)
    let s := wrBit s (A.TDC_FIFO_OVF (quadOf c) (c % 128 / 32)) (c % 32) true
    raise s (F.TDC_EVT_RAW_FIFO_OVERFLOW (quadOf c))
  else
    let h := { h with gap := x.gapDue }
    let s := setChan s c { x with fifo := x.fifo ++ [h], gapDue := false }
    let s := bump s (A.CH_HITS c)
    let s := setWide s (A.CH_LAST_HIT_LO c) (hitWord s c h)
    let n := x.fifo.length + 1
    let s := if rd s (F.CH_FIFO_PEAK_PEAK c) < n then wr s (F.CH_FIFO_PEAK_PEAK c) n else s
    monSample s 0x010 c n

/-- HIT_FIFO_ENTRY: the oldest complete hit of a channel enters its FIFO or is dropped (03 R83, R85). The newest hit stays while
a pulse can still merge into it (R78, log entry 18). -/
def hitFifoEntry (c : Nat) (s : State) : State :=
  let x := chan s c
  match x.done with
  | h :: r => fifoPush s c { x with done := r } h
  | [] =>
    match x.cur with
    | some h =>
      if h.trail.isSome && !(decide (5 * s.now < 5 * h.time + 2048)) then fifoPush s c { x with cur := none } h else s
    | none => s

/-- The first hit of a channel's FIFO may leave: a GATED hit stays until its shot's start is resolved (03 R88). -/
def hitLeaves (s : State) (c : Nat) : Bool :=
  match (chan s c).fifo with
  | [] => false
  | h :: _ => shotResolved s h

/-- The channel the bank path serves next: the first after the last served that holds a hit that may leave (03 R83, R88). -/
def nextServed (s : State) (bank : Nat) : Option Nat :=
  let last := pget 7 s.tdc.served bank
  ((List.range 8).map fun k => 8 * bank + (last + 1 + k) % 8).find? (hitLeaves s)

/-- HIT_DRAIN: the bank path takes a hit from a channel FIFO in its round-robin turn (03 R83); a GATED hit goes on to have its
time formed, a FREE_RUN hit goes to the time-difference units only (R85, R88). -/
def hitDrain (bank : Nat) (s : State) : State :=
  match nextServed s bank with
  | none => s
  | some c =>
    let x := chan s c
    match x.fifo with
    | [] => s
    | h :: r =>
      let s := setChan s c { x with fifo := r }
      let s := { s with tdc := { s.tdc with served := pset 7 s.tdc.served bank (c % 8) } }
      let s := if h.gap then tduGap s c else s
      if h.shot.isSome then { s with tdc := { s.tdc with waiting := s.tdc.waiting ++ [(c, h)] } } else s

/-- A hit of a channel that has left its FIFO, and whose time can be formed. -/
def hitReady (s : State) (c : Nat) (p : Nat × Hit) : Bool := decide (p.1 = c) && shotResolved s p.2

/-- t = stop − start − d, in LSB, with stop from the hit word, as a signed 32-bit value (03 R88). -/
def formTime (x : Shot) (c : Nat) (h : Hit) : HitTime :=
  let stop := h.time - x.start
  let stop : Nat := stop / 256 % 2 ^ 24 * 256 + (if h.bypass then h.raw else stop % 256)
  { chan := c, shot := x.id, t := signed 32 (unsigned 32 ((stop : Int) - x.found.getD 0 - (x.d * 256 : Nat))), time := h.time,
    width := widthCode h, noTrail := h.noTrail || h.trail.isNone, high := h.high, dark := h.dark, settling := h.settling, provisional := h.provisional,
    subst := x.subst }

/-- The first hit of a channel that waits with its start resolved leaves the waiting list, with its time (03 R88); a hit
of a shot that was withheld after all is discarded. -/
def takeReady (s : State) (c : Nat) : Option (Option HitTime × State) :=
  match s.tdc.waiting.find? (hitReady s c) with
  | none => none
  | some p =>
    let s' := { s with tdc := { s.tdc with waiting := s.tdc.waiting.erase p } }
    match p.2.shot with
    | some id =>
      match shotOf s id with
      | some x => some (if x.dropped then none else some (formTime x c p.2), s')
      | none => some (none, s')
    | none => some (none, s')

/-- A hit of a channel that belongs to a shot up to `id` has not yet been passed on. -/
def hitsDue (s : State) (c id : Nat) : Bool :=
  let x := chan s c
  let due (h : Hit) : Bool :=
    match h.shot with
    | some k => decide (k ≤ id)
    | none => false
  x.cur.any due || x.done.any due || x.fifo.any due || s.tdc.waiting.any (fun p => decide (p.1 = c) && due p.2)
    || (pget [] s.tdc.rennet (c / 8)).any fun r => !r.judged && decide (r.hit.chan = c) && decide (r.hit.shot ≤ id)

/-! ## Start channels -/

/-- The state with a shot in flight replaced. -/
def setShot (s : State) (x : Shot) : State :=
  { s with esc := { s.esc with shots := s.esc.shots.map fun y => if y.id = x.id then x else y } }

/-- Start channel `m` is in the 2 µs that follow a write of its ST_CTRL, in which its edges are not used (03 R87). -/
def stSettling (s : State) (m t : Nat) : Bool := decide (t < pget 0 s.tdc.stSettle m)

/-- START_EDGE: an edge of start channel `m` at the raw time `raw` (03 R86, R87). -/
def startEdge (raw m : Nat) (s : State) : State :=
  if !(quadCaptures s (m / 2) && flag s (F.ST_CTRL_ENABLE m)) ∨ calHolds s then s
  else
    let e := edgeTime s (512 + m) raw + pget 0 s.cal.cur.tap (512 + m)
    let s := tduEvent s (0x200 + m) e
    if stSettling s m s.now then s
    else
      let opened (x : Shot) : Bool := x.cfg.start = m && x.issued && !x.closed && decide (e ≤ x.winEnd)
      match s.esc.shots.find? (fun x => opened x && x.found.isNone) with
      | some x =>
        let v : Int := (e : Int) - x.start - (x.d * 256 : Nat)
        let s := setShot s { x with found := some v }
        setReg (bump s (A.ST_COUNT m)) (A.ST_LAST m) (iword v)
      | none =>
        if s.esc.shots.any opened then raise (bump s (A.ST_EXTRA m)) (F.TDC_EVT_RAW_START_EXTRA (m / 2))
        else raise (bump s (A.ST_STRAY m)) (F.TDC_EVT_RAW_START_STRAY (m / 2))

/-- START_SETTLE_END: the 2 µs that follow an ST_CTRL write end (03 R87). -/
def startSettleEnd (t m : Nat) (s : State) : State :=
  if stSettling s m t then s else { s with tdc := { s.tdc with stSettle := pset 0 s.tdc.stSettle m 0 } }

/-- SETTLING_END: the settling interval of a channel ends (03 R75). -/
def settlingEnd (t c : Nat) (s : State) : State :=
  if (chan s c).settle ≤ t then setChan s c { chan s c with settle := 0 } else s

/-! ## Rows -/

/-- HIT_LEADING_EDGE (03 R77). -/
def execHitLeadingEdge (t c : Nat) (s : State) : Host.Outcome State Fault Refusal := .next (hitLeadingEdge t c (at' t s))

/-- HIT_TRAILING_EDGE (03 R77). -/
def execHitTrailingEdge (t c : Nat) (high : Bool) (s : State) : Host.Outcome State Fault Refusal :=
  .next (hitTrailingEdge t c high (at' t s))

/-- HIT_WIDTH_LIMIT (03 R77). -/
def execHitWidthLimit (t c : Nat) (high : Bool) (s : State) : Host.Outcome State Fault Refusal :=
  .next (hitWidthLimit t c high (at' t s))

/-- HIT_FIFO_ENTRY (03 R83). -/
def execHitFifoEntry (t c : Nat) (s : State) : Host.Outcome State Fault Refusal := .next (hitFifoEntry c (at' t s))

/-- HIT_DRAIN (03 R83). -/
def execHitDrain (t bank : Nat) (s : State) : Host.Outcome State Fault Refusal := .next (hitDrain bank (at' t s))

/-- START_EDGE (03 R87). -/
def execStartEdge (t m : Nat) (s : State) : Host.Outcome State Fault Refusal := .next (startEdge t m (at' t s))

/-- START_SETTLE_END (03 R87). -/
def execStartSettleEnd (t m : Nat) (s : State) : Host.Outcome State Fault Refusal := .next (startSettleEnd t m (at' t s))

/-- SETTLING_END (03 R75). -/
def execSettlingEnd (t c : Nat) (s : State) : Host.Outcome State Fault Refusal := .next (settlingEnd t c (at' t s))

/-! ## Register hooks -/

/-- The checks of a write in the channel array: THH at least THL (03 R74). -/
def chaCheck (a : Nat) (d : Word) : Nat :=
  if a % 0x100 = 0x04 ∧ fld d 16 10 < fld d 0 10 then 0x03 else 0

/-- What an accepted write in the channel array does beside storing it (03 R75, R98). -/
def chaAct (a : Nat) (d : Word) (s : State) : State :=
  let c := (a - 0x100000) / 0x100
  if a % 0x100 = 0x04 then clampEvent (settle s c) c
  else if a % 0x100 = 0x40 ∧ bit d 31 then wr s (F.CH_FIFO_PEAK_PEAK c) 0
  else s

/-- What an accepted write of a TDC page does beside storing it: ST_CTRL starts 2 µs without starts (03 R87). -/
def tdcAct (a : Nat) (s : State) : State :=
  let q := (a - 0x10000) / 0x1000
  let st (m : Nat) : State := { s with tdc := { s.tdc with stSettle := pset 0 s.tdc.stSettle m (s.now + usec 2) } }
  if a = A.ST_CTRL (2 * q) then st (2 * q) else if a = A.ST_CTRL (2 * q + 1) then st (2 * q + 1) else s

/-- A bank whose front-end mode changes settles its eight channels (03 R75). -/
def modeSettle (q : Nat) (old new : Word) (s : State) : State :=
  (List.range 128).foldl (fun s k => if bit old (k / 8) ≠ bit new (k / 8) then settle s (128 * q + k) else s) s

/-- SOFT_RESET of a TDC page: the quadrant's channels, FIFOs and bank paths hold nothing, and the channel registers take their
reset values, but for the trims that CAL has in force (02 R39; 03 R98; 17 R448). -/
def tdcReset (q : Nat) (s : State) : State :=
  let mine (c : Nat) : Bool := decide (quadOf c = q)
  let own (a : Nat) : Bool := decide (a / 0x8000 = 0x20 + q) && decide (a % 0x100 ≠ 8)
  { s with
    regs := s.regs.filter fun p => !(own p.1)
    tdc := { s.tdc with
      chans := s.tdc.chans.filter fun p => !(mine p.1)
      served := s.tdc.served.filter fun p => p.1 / 16 ≠ q
      waiting := s.tdc.waiting.filter fun p => !(mine p.1)
      stSettle := s.tdc.stSettle.filter fun p => p.1 / 2 ≠ q } }

/-- CH_STATUS (03 R98). -/
def chStatus (s : State) (c : Nat) : Word :=
  let x := chan s c
  word (x.fifo.length * 2 ^ 8 + b2n (trimClamped s c) * 4 + b2n (decide (x.fifo.length = 64)) * 2
    + b2n (decide (s.now < x.settle)))

/-- TDCq.STATUS (03 R96): PLL_LOCK and HOLDOVER as held, the other bits from the channels. -/
def tdcStatus (s : State) (q : Nat) : Word :=
  let any (p : Nat → Bool) : Bool := (List.range 128).any fun k => p (128 * q + k)
  word (rd s (F.TDC_STATUS_PLL_LOCK q) + rd s (F.TDC_STATUS_HOLDOVER q) * 2
    + b2n (any fun c => decide (s.now < (chan s c).settle)) * 4 + b2n (any fun c => flag s (F.CH_CTRL_FREE_RUN c)) * 8)

end Sys2Proof.Machine
end

