-- ==== Sys2Proof/Machine/Vat.lean ====
section
/-!
DEFINITION. The Vat engines: contexts and blocks, the marker and hit paths, accumulation, the coarse-to-fine search
(chapter 05, R123 to R138 and R143 to R151). Close and readout stand in Close.lean.
-/

namespace Sys2Proof.Machine

/-! ## Contexts -/

/-- A field of a context's header word (05 R126). -/
def Ctx.get (c : Ctx) (w lo n : Nat) : Nat := fld (c.hdr.getD w 0#32) lo n

/-- A context with a field of a header word set. -/
def Ctx.put (c : Ctx) (w lo n v : Nat) : Ctx := { c with hdr := c.hdr.set w (setFld (c.hdr.getD w 0#32) lo n v) }

/-- The state of a context: 0 FREE, 1 OPEN, 2 CLOSING, 3 HELD (05 R126). -/
abbrev Ctx.state (c : Ctx) : Nat := c.get 0 30 2

/-- The bin count of a context. -/
abbrev Ctx.size (c : Ctx) : Nat := 2 ^ c.get 0 24 4

/-- The signed origin of a context, in LSB. -/
abbrev Ctx.origin (c : Ctx) : Int := sword (c.hdr.getD 2 0#32)

/-- Bin `i` of a context. -/
abbrev Ctx.bin (c : Ctx) (i : Nat) : Nat := pget 0 c.bins i

/-- A 16-bit header count advanced by `n`, saturating with SAT (05 R131). -/
def Ctx.count (c : Ctx) (w lo n : Nat) : Ctx :=
  let v := c.get w lo 16 + n
  if v < 0xFFFF then c.put w lo 16 v else if n = 0 then c else (c.put w lo 16 0xFFFF).put 0 0 1 1

/-- Bin `i` of a context incremented, saturating with SAT, and HITS_BINNED with it (05 R129, R131). -/
def Ctx.hit (c : Ctx) (i : Nat) : Ctx :=
  let v := c.bin i + 1
  let c := { c with bins := pset 0 c.bins i (min v 0xFFFF) }
  let c := if 0xFFFF ≤ v then c.put 0 0 1 1 else c
  c.count 7 16 1

/-- The blocks of a context of `2 ^ n` bins (05 R124). -/
abbrev ctxBlocks (n : Nat) : Nat := 1 + 2 ^ n / 16

/-! ## Engines -/

/-- Engine `n`. -/
def engine (s : State) (n : Nat) : Engine := pget Engine.empty s.vat.engines n

/-- The state with engine `n` set. -/
def setEngine (s : State) (n : Nat) (e : Engine) : State :=
  { s with vat := { s.vat with engines := pset Engine.empty s.vat.engines n e } }

/-- The context in a slot, if the slot is taken. -/
abbrev Engine.slot (e : Engine) (k : Nat) : Option Ctx := pget none e.slots k

/-- The engine with a slot set. -/
def Engine.setSlot (e : Engine) (k : Nat) (c : Option Ctx) : Engine := { e with slots := pset none e.slots k c }

/-- The engine with the context of a slot changed. -/
def Engine.onSlot (e : Engine) (k : Nat) (f : Ctx → Ctx) : Engine :=
  match e.slot k with
  | some c => e.setSlot k (some (f c))
  | none => e

/-- The bank blocks in use, reservations included. -/
def Engine.used (e : Engine) : List Nat := e.slots.flatMap fun p => (p.2.map Ctx.blocks).getD []

/-- The free blocks of the bank (05 R151). -/
def Engine.free (e : Engine) : Nat := 6144 - e.used.length

/-- `n` free blocks of the bank: the lowest (log entry 5). -/
def Engine.pick (e : Engine) (n : Nat) : List Nat :=
  let u := e.used
  ((List.range 6144).filter fun b => !(u.contains b)).take n

/-- The free slots of a channel, lowest first (05 R125, log entry 5). -/
def Engine.freeSlots (e : Engine) (c : Nat) : List Nat :=
  ((List.range 256).map fun k => 256 * (c % 2) + k).filter fun k => (e.slot k).isNone

/-- The contexts of the engine in a state. -/
def Engine.inState (e : Engine) (st : Nat) : List Ctx :=
  e.slots.filterMap fun p =>
    match p.2 with
    | some c => if c.state = st then some c else none
    | none => none

/-- The blocks of the engine in HELD (05 R142). -/
def Engine.heldBlocks (e : Engine) : Nat := ((e.inState 3).map fun c => c.blocks.length).sum

/-- The path of a channel to its engine. -/
def path (s : State) (c : Nat) : List VatItem := pget [] s.vat.paths c

/-- The state with the path of a channel set. -/
def setPath (s : State) (c : Nat) (l : List VatItem) : State :=
  { s with vat := { s.vat with paths := pset [] s.vat.paths c l } }

/-- The pixel a channel accumulates. -/
def pixel (s : State) (c : Nat) : Option Pixel := pget none s.vat.pixels c

/-- The state with the pixel of a channel set. -/
def setPixel (s : State) (c : Nat) (p : Option Pixel) : State :=
  { s with vat := { s.vat with pixels := pset none s.vat.pixels c p } }

/-- The engine of a channel (05 R123). -/
abbrev engOf (c : Nat) : Nat := c / 2

/-- An item joins the path of a channel. -/
def pushItem (s : State) (c : Nat) (i : VatItem) : State := setPath s c (path s c ++ [i])

/-- The marker is one that must follow every hit of shots up to `id`. -/
def VatItem.follows (i : VatItem) (id : Nat) : Bool :=
  match i with
  | .boundary a => decide (id ≤ a)
  | .pixelEnd a _ _ => decide (id ≤ a)
  | _ => false

/-- A hit time joins the path of its channel, before the markers that follow its shot (05 R129). -/
def pushHit (s : State) (h : HitTime) : State :=
  let l := path s h.chan
  setPath s h.chan (l.takeWhile (fun i => !(i.follows h.shot)) ++ .hit h :: l.dropWhile fun i => !(i.follows h.shot))

/-- Contexts of the engine that wait for close or search (05 R149, BACKLOG_PEAK). -/
def backlog (s : State) (n : Nat) : Nat :=
  let searching (c : Nat) : Nat :=
    match pixel s c with
    | some p => b2n (decide (p.phase = .search))
    | none => 0
  ((engine s n).closing.map fun c => c.todo.length).sum + searching (2 * n) + searching (2 * n + 1)

/-- BACKLOG_PEAK keeps the largest backlog (05 R149). -/
def watchBacklog (s : State) (n : Nat) : State :=
  if rd s F.VAT_BACKLOG_PEAK_PEAK < backlog s n then wr s F.VAT_BACKLOG_PEAK_PEAK (min 1023 (backlog s n)) else s

/-- MIN_FREE keeps the fewest free blocks, and LOW_FREE is raised when a bank falls below it (05 R149); `before` is the
bank's free blocks before the change. -/
def watchFree (s : State) (n before : Nat) : State :=
  let now := (engine s n).free
  let s := if now < rd s F.VAT_MIN_FREE_MIN then wr (wr s F.VAT_MIN_FREE_MIN now) F.VAT_MIN_FREE_BANK n else s
  let low := rd s F.VAT_LOW_FREE
  if low ≤ before ∧ now < low then raise s F.VAT_EVT_RAW_LOW_FREE else s

/-- SOURCE 0x020: the open contexts of a bank (02 R61, 05 R151). -/
def sampleOpen (s : State) (n : Nat) : State := monSample s 0x020 n ((engine s n).inState 1).length

/-! ## Column start (05 R133, R143) -/

/-- A fresh context: STATE, KIND and geometry of a pixel, bins zero (05 R126, R128). -/
def newCtx (p : PixelId) (state kind binsLog k : Nat) (origin : Int) (blocks : List Nat) : Ctx :=
  { hdr := [word (state * 2 ^ 30 + kind * 2 ^ 28 + binsLog * 2 ^ 24 + k * 2 ^ 20),
            word (p.group * 2 ^ 27 + p.chan * 2 ^ 14 + p.il * 2 ^ 12 + p.col),
            iword origin, word p.frame, 0#32, 0#32, 0#32, word 0x1FF],
    bins := [], blocks := blocks, oct := [] }

/-- A slot with blocks held for a zoom context: FREE until it opens. -/
def reservedCtx (blocks : List Nat) : Ctx := { hdr := List.replicate 8 0#32, bins := [], blocks := blocks, oct := [] }

/-- The pixel as it starts. -/
def Pixel.start (p : PixelId) (refused : Bool) (coarse : Option Nat) (zooms : List Nat) : Pixel :=
  { id := p, refused := refused, phase := .coarse, coarse := coarse, zooms := zooms, reserved := zooms.length,
    fired := 0, scheduled := 0, hold := [], settling := false, provisional := false, subst := false, noPeak := false,
    coarseFired := 0, searchAt := 0, decoy := none }

/-- The pixel is refused (05 R143). -/
def refusePixel (s : State) (p : PixelId) : State :=
  let s := setPixel s p.chan (some (Pixel.start p true none []))
  let s := bump s A.VAT_NO_CONTEXT_PIX
  wr (raise s F.VAT_EVT_RAW_NO_CONTEXT) (F.ENG_STATUS_REFUSED (engOf p.chan)) 1

/-- The blocks and slots a pixel needs fit its bank (05 R133, R143). -/
def fits (e : Engine) (p : PixelId) : Bool :=
  decide (ctxBlocks p.cfg.ncLog + p.cfg.peaks * ctxBlocks p.cfg.nzLog ≤ e.free)
    && decide (1 + p.cfg.peaks ≤ (e.freeSlots p.chan).length)

/-- The pixel's coarse context opens and its zoom contexts are reserved (05 R133). -/
def openPixel (s : State) (p : PixelId) : State :=
  let n := engOf p.chan
  let e := engine s n
  let slots := (e.freeSlots p.chan).take (1 + p.cfg.peaks)
  let k0 := slots.headD 0
  let e1 := e.setSlot k0 (some (newCtx p 1 0 p.cfg.ncLog p.cfg.kc p.cfg.origin (e.pick (ctxBlocks p.cfg.ncLog))))
  let e2 := slots.tail.foldl (fun e k => e.setSlot k (some (reservedCtx (e.pick (ctxBlocks p.cfg.nzLog))))) e1
  let s := setEngine s n e2
  let s := { s with sram := (e2.used.filter fun b => !(e.used.contains b)).foldl
                      (fun m b => memClear m (n * 0x30000 + 32 * b) (n * 0x30000 + 32 * b + 32)) s.sram }
  let s := setPixel s p.chan (some (Pixel.start p false (some k0) slots.tail))
  sampleOpen (watchFree s n e.free) n

/-- COLUMN_START_MARKER: the marker at the head of a channel's path reaches the engine (05 R133, R143). -/
def columnStartMarker (c : Nat) (s : State) : State :=
  match path s c, pixel s c with
  | .column p :: r, none =>
    let s := setPath s c r
    if flag s F.VAT_CTRL_ENABLE && fits (engine s (engOf c)) p then openPixel s p else refusePixel s p
  | _, _ => s

/-! ## Accumulation (05 R129, R130) -/

/-- The slots of the current phase: the coarse context, or the open zoom contexts. -/
def Pixel.current (p : Pixel) : List Nat :=
  match p.phase with
  | .zoom => p.zooms
  | _ => p.coarse.toList

/-- A hit added to bin `i` joins the width store (06 R161). -/
def Ctx.store (c : Ctx) (i : Nat) (h : HitTime) : Ctx :=
  let k := i * 8 / c.size
  let o := pget ⟨0, 0, 0, 0⟩ c.oct k
  let o' : Oct := ⟨o.hits + 1, o.highs + b2n h.high, o.wsum + (if h.noTrail then 0 else h.width), o.wcount + b2n (!h.noTrail)⟩
  { c with oct := pset ⟨0, 0, 0, 0⟩ c.oct k o' }

/-- Every context of the current phase of a pixel is changed. -/
def onCurrent (s : State) (p : Pixel) (f : Ctx → Ctx) : State :=
  let n := engOf p.id.chan
  setEngine s n (p.current.foldl (fun e k => e.onSlot k f) (engine s n))

/-- The bin of a context that a hit time falls in. -/
def binOf (c : Ctx) (t : Int) : Option Nat :=
  let i := (t - c.origin) / (2 ^ c.get 0 20 4 : Nat)
  if 0 ≤ i ∧ i < (c.size : Nat) then some i.toNat else none

/-- The first context of the current phase with a bin for a hit time. -/
def findBin (e : Engine) (ks : List Nat) (t : Int) : Option (Nat × Nat) :=
  ks.findSome? fun k =>
    match e.slot k with
    | some c => (binOf c t).map fun i => (k, i)
    | none => none

/-- A hit time of a pixel is added, by the first rule of 05 R129 that applies. -/
def addHit (s : State) (p : Pixel) (h : HitTime) : State :=
  let n := engOf p.id.chan
  let p := { p with settling := p.settling || h.settling, provisional := p.provisional || h.provisional,
                    subst := p.subst || h.subst }
  let s := setPixel s p.id.chan (some p)
  if p.refused then bump s A.VAT_NO_CONTEXT
  else
    let s := if h.subst then onCurrent s p fun c => c.put 0 4 1 1 else s
    let s := if h.provisional then onCurrent s p fun c => c.put 0 3 1 1 else s
    if h.settling then onCurrent s p fun c => c.put 0 2 1 1
    else if h.dark then onCurrent s p fun c => c.count 5 16 1
    else
      match findBin (engine s n) p.current h.t with
      | some (k, i) => setEngine s n ((engine s n).onSlot k fun c => (c.hit i).store i h)
      | none =>
        let s := setEngine s n ((engine s n).onSlot (p.current.headD 0) fun c => c.count 5 0 1)
        bump s A.VAT_OOR

/-- A fired or withheld marker of a pixel is taken (05 R130). -/
def addShot (s : State) (p : Pixel) (fired : Bool) (darkNs : Nat) (provisional subst : Bool) : State :=
  let p := { p with scheduled := p.scheduled + 1, fired := p.fired + b2n fired, provisional := p.provisional || provisional,
                    subst := p.subst || subst }
  let s := setPixel s p.id.chan (some p)
  onCurrent s p fun c =>
    let c := c.put 4 0 9 (c.get 4 0 9 + 1)
    let c := if provisional then c.put 0 3 1 1 else c
    if fired then (c.put 4 16 9 (c.get 4 16 9 + 1)).count 6 16 darkNs else c

/-- SHOT_MARKER: the shot marker at the head of a channel's path reaches the engine (05 R130, R138). -/
def shotMarker (c : Nat) (s : State) : State :=
  match path s c, pixel s c with
  | .shot id fired d prov sub :: r, some p =>
    let s := setPath s c r
    if p.phase = .search then setPixel s c (some { p with hold := p.hold ++ [.shot id fired d prov sub] })
    else addShot s p fired d prov sub
  | _, _ => s

/-- HIT_ACCUMULATE: the hit time at the head of a channel's path is added, counted or refused (05 R129, R138, R143). -/
def hitAccumulate (c : Nat) (s : State) : State :=
  match path s c, pixel s c with
  | .hit h :: r, some p =>
    let s := setPath s c r
    if p.phase = .search then setPixel s c (some { p with hold := p.hold ++ [.hit h] }) else addHit s p h
  | .hit _ :: r, none => bump (setPath s c r) A.VAT_NO_CONTEXT
  | _, _ => s

/-- BOUNDARY_MARKER: the coarse-to-fine boundary reaches the engine and the search starts (05 R134). -/
def boundaryMarker (c : Nat) (s : State) : State :=
  match path s c, pixel s c with
  | .boundary after :: r, some p =>
    if hitsDue s c after then s
    else
      let s := setPath s c r
      if p.refused ∨ p.id.cfg.peaks = 0 then s
      else watchBacklog (setPixel s c (some { p with phase := .search, coarseFired := p.fired, searchAt := s.now })) (engOf c)
  | _, _ => s

/-! ## The search (05 R134 to R137) -/

/-- The three-bin sum at bin `i` (05 R134). -/
def sum3 (c : Ctx) (i : Nat) : Nat :=
  (if i = 0 then 0 else c.bin (i - 1)) + c.bin i + (if i + 1 < c.size then c.bin (i + 1) else 0)

/-- The lowest index below `n` with the largest value among those admitted. -/
def argmax (n : Nat) (f : Nat → Nat) (ok : Nat → Bool) : Option Nat :=
  (List.range n).foldl (fun b i =>
    if ok i then
      match b with
      | none => some i
      | some j => if f j < f i then some i else b
    else b) none

/-- The distance between two bins. -/
abbrev ndist (i j : Nat) : Nat := (i - j) + (j - i)

/-- The peaks of a coarse context: none, one, or two bins (05 R134). -/
def findPeaks (g : GroupCfg) (c : Ctx) : List Nat :=
  match argmax c.size (sum3 c) (fun _ => true) with
  | none => []
  | some p1 =>
    if g.peaks = 0 ∨ sum3 c p1 < g.zoomMin then []
    else if g.peaks = 2 then
      match argmax c.size (sum3 c) (fun i => decide (2 ^ g.nzLog * 2 ^ g.kz ≤ ndist i p1 * 2 ^ g.kc)) with
      | some p2 => if sum3 c p2 < g.zoomMin then [p1] else if p1 < p2 then [p1, p2] else [p2, p1]
      | none => [p1]
    else [p1]

/-- The origin of the zoom context centred on a coarse bin (05 R134). -/
def zoomOrigin (g : GroupCfg) (c : Ctx) (p : Nat) : Int :=
  c.origin + (p * 2 ^ g.kc : Nat) + (2 ^ g.kc / 2 : Nat) - (2 ^ g.nzLog / 2 * 2 ^ g.kz : Nat)

/-- Coarse bin `i` lies wholly within a zoom window. -/
def binWithin (g : GroupCfg) (c : Ctx) (i : Nat) (oz : Int) : Bool :=
  let lo := c.origin + (i * 2 ^ g.kc : Nat)
  decide (oz ≤ lo) && decide (lo + (2 ^ g.kc : Nat) ≤ oz + (2 ^ g.nzLog * 2 ^ g.kz : Nat))

/-- A list in rising order. -/
def insertNat (a : Nat) : List Nat → List Nat
  | [] => [a]
  | b :: r => if a ≤ b then a :: b :: r else b :: insertNat a r

/-- A list in rising order. -/
def sortNat (l : List Nat) : List Nat := l.foldr insertNat []

/-- BG_COARSE: the mean of the lowest seven-eighths of the coarse bins outside the zoom windows, 8.8, rounded down
(05 R137); 0 where there is none, and at most 0xFFFF (log entry 19). -/
def bgCoarse (g : GroupCfg) (c : Ctx) (ozs : List Int) : Nat :=
  let kept := (List.range c.size).filter fun i => !(ozs.any fun o => binWithin g c i o)
  let low := (sortNat (kept.map c.bin)).take (kept.length * 7 / 8)
  if low.length = 0 then 0 else min 0xFFFF (low.sum * 256 / low.length)

/-! ## Background and decoy (06 R156, R157, R167) -/

/-- The mean of the lowest seven-eighths of the bins of a context in 1/256 count, to the nearest (06 R156). -/
def trimmedMean (c : Ctx) : Nat :=
  let n := 7 * c.size / 8
  rndN (((sortNat ((List.range c.size).map c.bin)).take n).sum * 256) n

/-- b of a context in 1/256 count where the spec gives one, and whether DARK fell back to TRIMMED (06 R156). -/
def bgRaw (p : Pixel) (c : Ctx) : Option Nat × Bool :=
  let mode := fld p.id.ret.ctrl 0 2
  let ns := c.get 6 16 16
  let fired := c.get 4 16 9
  if (mode = 0 ∧ 0 < ns) ∨ (mode = 2 ∧ p.id.ret.bgMin ≤ ns) then
    (if ns = 0 then none else some (rndN (c.get 5 16 16 * fired * 2 ^ c.get 0 20 4) ns), false)
  else if c.get 0 28 2 = 0 then (some (trimmedMean c), mode = 0)
  else
    (if p.coarseFired = 0 then none
     else some (rndN (c.get 6 0 16 * 2 ^ p.id.cfg.kz * fired) (2 ^ p.id.cfg.kc * p.coarseFired)), mode = 0)

/-- b of a context as an unsigned 16.8 value (06 R157); free where the spec states none (log entry 53). -/
def bgOf (s : State) (p : Pixel) (c : Ctx) : Nat × Bool × State :=
  match bgRaw p c with
  | (some v, f) => if v < 2 ^ 24 then (v, f, s) else (((takeFree s 24).1), f, (takeFree s 24).2)
  | (none, f) => ((takeFree s 24).1, f, (takeFree s 24).2)

/-- The decoy sum of a coarse context, the decoy bins, and its background; none while the test is off (06 R167). -/
def decoyOf (p : Pixel) (c : Ctx) (b : Nat) : Option (Nat × Nat × Nat) :=
  let len := fld p.id.ret.decoy 16 13
  let first := fld p.id.ret.decoy 0 12
  if len = 0 then none
  else
    let l := (List.range c.size).filter fun i => decide (first ≤ i) && decide (i < first + len)
    some ((l.map c.bin).sum, l.length, b)

/-- A slot is returned to FREE. -/
def freeSlot (s : State) (n k : Nat) : State := setEngine s n ((engine s n).setSlot k none)

/-- What waits in the hold buffer is added in order (05 R138). -/
def drainHold (s : State) (c : Nat) (l : List VatItem) : State :=
  l.foldl (fun s i =>
    match i, pixel s c with
    | .hit h, some p => addHit s p h
    | .shot _ fired d prov sub, some p => addShot s p fired d prov sub
    | _, _ => s) s

/-- No peak: the reservation is returned and the coarse context goes on (05 R135). -/
def noPeak (s : State) (c : Nat) (p : Pixel) (k0 : Nat) : State :=
  let n := engOf c
  let s := p.zooms.foldl (fun s k => freeSlot s n k) s
  let s := setEngine s n ((engine s n).onSlot k0 fun x => x.put 0 5 1 1)
  let s := setPixel s c (some { p with phase := .coarse, zooms := [], reserved := 0, hold := [], noPeak := true })
  drainHold (bump s A.VAT_NO_PEAK) c p.hold

/-- Zoom contexts open at their origins, numbered in increasing origin (05 R134 to R136). -/
def openZooms (s : State) (c : Nat) (p : Pixel) (k0 : Nat) (coarse : Ctx) (ozs : List Int) : State :=
  let n := engOf c
  let g := p.id.cfg
  let used := p.zooms.take ozs.length
  let bg := bgCoarse g coarse ozs
  let (b, _, s) := if fld p.id.ret.decoy 16 13 = 0 then (0, false, s) else bgOf s p coarse
  let s := (p.zooms.drop ozs.length).foldl (fun s k => freeSlot s n k) s
  let e := ((used.zip ozs).zipIdx).foldl (fun e x =>
    let blocks := (e.slot x.1.1 |>.map Ctx.blocks).getD []
    let next := (used[x.2 + 1]?).getD 0x1FF
    e.setSlot x.1.1 (some (((newCtx p.id 1 (1 + x.2) g.nzLog g.kz x.1.2 blocks).put 6 0 16 bg).put 7 0 9 next))) (engine s n)
  let keep := g.retCoarse || g.p4Coarse
  let e := if keep then e.onSlot k0 (fun x => (x.put 0 6 1 1).put 7 0 9 (used.headD 0x1FF)) else e.setSlot k0 none
  let s := setEngine s n e
  let s := setPixel s c (some { p with phase := .zoom, zooms := used, reserved := 0, hold := [],
                                       decoy := decoyOf p coarse b,
                                       coarse := if keep then some k0 else none })
  drainHold (sampleOpen s n) c p.hold

/-- The search of the engine's other channel goes before that of a channel: it began earlier, or at the same boundary on the
lower channel (05 R137). -/
def searchWaits (s : State) (c : Nat) (p : Pixel) : Bool :=
  let d := c / 2 * 2 + (1 - c % 2)
  match pixel s d with
  | some q => decide (q.phase = .search) && (decide (q.searchAt < p.searchAt) || decide (q.searchAt = p.searchAt) && decide (d < c))
  | none => false

/-- ZOOM_OPEN: the peak search of a channel completes (05 R134 to R138). -/
def zoomOpen (c : Nat) (s : State) : State :=
  match pixel s c with
  | some p =>
    if searchWaits s c p then s else
    match p.phase, p.coarse with
    | .search, some k0 =>
      match (engine s (engOf c)).slot k0 with
      | some x =>
        match findPeaks p.id.cfg x with
        | [] => noPeak s c p k0
        | l => openZooms s c p k0 x (l.map (zoomOrigin p.id.cfg x))
      | none => s
    | _, _ => s
  | none => s

/-- COLUMN_START_MARKER (05 R133). -/
def execColumnStartMarker (t c : Nat) (s : State) : Host.Outcome State Fault Refusal :=
  .next (columnStartMarker c (at' t s))

/-- SHOT_MARKER (05 R130). -/
def execShotMarker (t c : Nat) (s : State) : Host.Outcome State Fault Refusal := .next (shotMarker c (at' t s))

/-- HIT_ACCUMULATE (05 R129). -/
def execHitAccumulate (t c : Nat) (s : State) : Host.Outcome State Fault Refusal := .next (hitAccumulate c (at' t s))

/-- BOUNDARY_MARKER (05 R134). -/
def execBoundaryMarker (t c : Nat) (s : State) : Host.Outcome State Fault Refusal := .next (boundaryMarker c (at' t s))

/-- ZOOM_OPEN (05 R135). -/
def execZoomOpen (t c : Nat) (s : State) : Host.Outcome State Fault Refusal := .next (zoomOpen c (at' t s))

/-! ## Registers and host access -/

/-- W of 05 R144 for the shadow values of group `g`. -/
def vlgWork (s : State) (g : Nat) : Nat :=
  let close (n : Nat) : Nat := 2 ^ n / 16 + 40
  let nc := rdShadow s (F.VLG_COARSE_BINS_LOG2 g)
  let nz := rdShadow s (F.VLG_ZOOM_ZBINS_LOG2 g)
  let peaks := rdShadow s (F.VLG_ZOOM_PEAKS g)
  if peaks = 0 then close nc
  else 2 ^ nc / 8 + 40 + max (close nc) ((if rdShadow s (F.VLG_COARSE_RET_COARSE g) = 1 then close nc else 0) + peaks * close nz)

/-- A group's shadow values fail a check of the commit (05 R144). -/
def vlgBad (s : State) (g : Nat) : Bool :=
  let S := rdShadow s (F.VLG_DWELL_S_M1 g) + 1
  let C := rdShadow s (F.VLG_DWELL_C_M1 g) + 1
  decide (500 * S < 2 * (vlgWork s g + 8 * S)) || decide (S < C) || (decide (rdShadow s (F.VLG_ZOOM_PEAKS g) ≠ 0) && decide (C = S))

/-- The COMMIT check of the VAT page (05 R144). -/
def vatCommitCheck (s : State) : Nat := if (List.range 32).any (vlgBad s) then 0x03 else 0

/-- ENG_STATUS of engine `n` (05 R151). -/
def engStatus (s : State) (n : Nat) : Word :=
  let e := engine s n
  let ctxs := (e.slots.filter fun p => match p.2 with
    | some c => c.state ≠ 0
    | none => false).length
  word (rd s (F.ENG_STATUS_REFUSED n) * 2 ^ 31 + e.free * 2 ^ 16 + ctxs)

/-- ENG_HELD of engine `n` (05 R151). -/
def engHeld (s : State) (n : Nat) : Word :=
  let e := engine s n
  word ((e.inState 3).length * 2 ^ 16 + e.heldBlocks)

/-- VAT.STATUS (05 R149). -/
def vatStatus (s : State) : Word :=
  let any (p : Engine → Bool) : Bool := s.vat.engines.any fun e => p e.2
  word (b2n (flag s F.VAT_CTRL_TEST) * 8 + b2n (any fun e => !(e.inState 3).isEmpty) * 4
    + b2n (any (fun e => decide (e.free < rd s F.VAT_LOW_FREE)) || decide (6144 < rd s F.VAT_LOW_FREE)) * 2
    + b2n (flag s F.VAT_CTRL_ENABLE && running s))

/-- The selected context of the inspection port, unless it is FREE. -/
def inspCtx (s : State) : Option Ctx :=
  match (engine s (rd s F.VAT_INSP_SEL_ENGINE)).slot (rd s F.VAT_INSP_SEL_SLOT) with
  | some c => if c.state = 0 then none else some c
  | none => none

/-- A write of INSP_SEL latches the header of the selected context (05 R146). -/
def inspLatch (s : State) : State :=
  let s := wr s F.VAT_INSP_BIN_IDX_PAIR 0
  (List.range 8).foldl (fun s k =>
    setReg s (A.VAT_INSP_HDR k) (match inspCtx s with
      | some c => c.hdr.getD k 0#32
      | none => 0#32)) s

/-- Two bins of the selected context at INSP_BIN_IDX (05 R146). -/
def inspBins (s : State) : Word :=
  match inspCtx s with
  | some c =>
    let j := rd s F.VAT_INSP_BIN_IDX_PAIR
    word (c.bin (2 * j) + c.bin (2 * j + 1) * 2 ^ 16)
  | none => 0#32

/-- INSP_BIN_IDX advances by one pair and wraps at the context's bin count (05 R149), at 2,048 pairs where the context is FREE
(log entry 19). -/
def inspAdvance (s : State) : State :=
  let n := match inspCtx s with
    | some c => c.size / 2
    | none => 2048
  wr s F.VAT_INSP_BIN_IDX_PAIR ((rd s F.VAT_INSP_BIN_IDX_PAIR + 1) % n)

/-- Two bins of the selected context are replaced (05 R147). -/
def inspWrite (d : Word) (s : State) : State :=
  let n := rd s F.VAT_INSP_SEL_ENGINE
  let j := rd s F.VAT_INSP_BIN_IDX_PAIR
  let s := setEngine s n ((engine s n).onSlot (rd s F.VAT_INSP_SEL_SLOT) fun c =>
    { c with bins := pset 0 (pset 0 c.bins (2 * j) (fld d 0 16)) (2 * j + 1) (fld d 16 16) })
  inspAdvance s

/-- A bin write of the inspection port is accepted: TEST and a context in OPEN (05 R147). -/
def inspWritable (s : State) : Bool :=
  flag s F.VAT_CTRL_TEST && (match inspCtx s with
    | some c => decide (c.state = 1)
    | none => false)

/-- The bank block that holds the current bin pair. FRESH is 0 for a block with counts in it, since the first access clears the
mark; for another it is a free value, as the scrub may have come to it (05 R128, R146; log entry 6). -/
def inspBlock (s : State) : Word × State :=
  match inspCtx s with
  | some c =>
    let i := rd s F.VAT_INSP_BIN_IDX_PAIR / 8
    let used := (List.range 16).any fun j => c.bin (16 * i + j) ≠ 0
    let (f, s) := if used then (0, s) else takeFree s 1
    (word (f * 2 ^ 31 + c.blocks.getD (1 + i) 0), s)
  | none => (0#32, s)

/-- The context of an engine that holds a bank block, its slot, and the block's place in it. -/
def blockOwner (e : Engine) (b : Nat) : Option (Nat × Ctx × Nat) :=
  e.slots.findSome? fun p =>
    match p.2 with
    | some c => (c.blocks.findIdx? fun x => x = b).map fun i => (p.1, c, i)
    | none => none

/-- A word of a bank as the memory window shows it (05 R146). -/
def bankWord (s : State) (a : Nat) : Word :=
  match blockOwner (engine s (a / 0x30000)) (a % 0x30000 / 32) with
  | some (_, c, 0) => c.hdr.getD (a % 32 / 4) 0#32
  | some (_, c, i + 1) =>
    let j := 16 * i + a % 32 / 2
    word (c.bin j + c.bin (j + 1) * 2 ^ 16)
  | none => memWord s.sram a

/-- A word of a bank written through the memory window (05 R146). -/
def setBankWord (s : State) (a : Nat) (d : Word) : State :=
  let n := a / 0x30000
  match blockOwner (engine s n) (a % 0x30000 / 32) with
  | some (k, _, 0) => setEngine s n ((engine s n).onSlot k fun c => { c with hdr := c.hdr.set (a % 32 / 4) d })
  | some (k, _, i + 1) =>
    let j := 16 * i + a % 32 / 2
    setEngine s n ((engine s n).onSlot k fun c =>
      { c with bins := pset 0 (pset 0 c.bins j (fld d 0 16)) (j + 1) (fld d 16 16) })
  | none => { s with sram := setMemWord s.sram a d }

/-- Shots are being scheduled: ESC.STATUS.RUNNING (04 R120). -/
def escRunning (s : State) : Bool := s.esc.active || s.esc.runs.any fun r => !r.2.sweeps.isEmpty

/-- The checks of a write to the VAT page (05 R147, R149). -/
def vatCheck (a : Nat) (d : Word) (s : State) : Nat :=
  if a = A.VAT_CTRL ∧ fld d 0 2 = 0 ∧ escRunning s then 0x04
  else if a = A.VAT_INSP_BIN_DATA ∧ !(inspWritable s) then 0x04
  else 0

/-- What an accepted write of the VAT page does beside storing it. -/
def vatAct (a : Nat) (d : Word) (s : State) : State :=
  if a = A.VAT_INSP_SEL then inspLatch s
  else if a = A.VAT_INSP_BIN_DATA then inspWrite d s
  else if a = A.VAT_MIN_FREE ∧ bit d 31 then wr (wr s F.VAT_MIN_FREE_MIN 6144) F.VAT_MIN_FREE_BANK 0
  else if a = A.VAT_BACKLOG_PEAK ∧ bit d 31 then wr s F.VAT_BACKLOG_PEAK_PEAK 0
  else s

/-- Every context is FREE without close or readout, and pixels in progress are refused. -/
def vatFree (s : State) : State :=
  { s with vat :=
    { engines := s.vat.engines.filterMap fun p =>
        let cl := p.2.closing.map fun x => { x with pixel := { x.pixel with refused := true }, todo := [], done := [] }
        if cl.isEmpty then none else some (p.1, { slots := [], closing := cl, held := [] }),
      paths := s.vat.paths,
      pixels := s.vat.pixels.map fun p =>
        (p.1, p.2.map fun x => { x with refused := true, coarse := none, zooms := [], reserved := 0, hold := [], phase := .coarse }) } }

/-- SOFT_RESET of the VAT page: every context is FREE, pixels in progress are handled as refused, and the hits that waited for
zoom contexts are counted with theirs (05 R149). -/
def vatReset (s : State) : State :=
  s.vat.pixels.foldl (fun t p =>
    match p.2 with
    | some x => drainHold t p.1 x.hold
    | none => t) (vatFree s)

end Sys2Proof.Machine
end

