-- ==== Sys2Proof/Machine/EscBase.lean ====
section
/-!
DEFINITION. What the drive and the acquisition share with the Escapement: scan modes, group schedules, and the end of
scheduling (chapter 04).
-/

namespace Sys2Proof.Machine

/-- RASTER is the scan mode (10 R302). -/
def isRaster (s : State) : Bool := rd s F.SCN_SCAN_MODE = 0

/-- STARE is the scan mode. -/
def isStare (s : State) : Bool := rd s F.SCN_SCAN_MODE = 2

/-- The schedule of group `g`. -/
def runOf (s : State) (g : Nat) : GroupRun := pget GroupRun.empty s.esc.runs g

/-- The state with the schedule of group `g` set. -/
def setRun (s : State) (g : Nat) (r : GroupRun) : State :=
  { s with esc := { s.esc with runs := pset GroupRun.empty s.esc.runs g r } }

/-- A group's schedule stops: a column in progress is completed, and no further one is scheduled (04 R116). -/
def GroupRun.stop (r : GroupRun) : GroupRun :=
  if r.cfg.isSome then { r with sweeps := (r.sweeps.take 1).map fun w => { w with ends := true } }
  else { r with sweeps := [], col := 0, shot := 0 }

/-- Scheduling stops: groups within a column complete it, the others drop their schedule (04 R116). -/
def stopScheduling (s : State) : State :=
  { s with esc := { s.esc with active := false, runs := s.esc.runs.map fun p => (p.1, p.2.stop) } }

/-- The speed model becomes invalid within a facet: the shots that remain in open dwells are withheld with cause SAFETY by
their gates, and no further column is scheduled (04 R116). -/
def modelLost (s : State) : State :=
  if escRunning s ∧ !(isStare s) then raise (stopScheduling s) F.ESC_EVT_RAW_MODEL_INVALID else s

/-- The facets swept in the scan mode in force: IL_COUNT in RASTER, one in LINE and STARE (01 R33, 04 R105). -/
def ilCount (s : State) : Nat := if isRaster s then rd s F.ESC_FRAME_CFG_IL_COUNT_M1 + 1 else 1

/-! ## Shot codes (04 R111, R112) -/

/-- The seed of group `g` for the unit code and the key cycle number (04 R111). -/
def seed (u k g : Nat) : Nat :=
  let s := (u ^^^ (k % 2 ^ 32) ^^^ ((k / 2 ^ 32) <<< 15) ^^^ (g * 0x01010101)) % 2 ^ 31
  if s = 0 then 0x7FFFFFFF else s

/-- Sixteen stages at once (04 R111). -/
def stage16 (s : Nat) : Nat := (s <<< 16) % 2 ^ 31 ||| ((s >>> 15 ^^^ s >>> 12) % 2 ^ 16)

/-- The dither of a state in nanoseconds (04 R111). -/
def dither (s span : Nat) : Nat := s % 2 ^ 16 % (span + 1)

/-- Every group is reseeded with the key cycle number `k` (04 R112). -/
def reseed (s : State) (k : Nat) : State :=
  (List.range 32).foldl (fun s g =>
    setRun s g { runOf s g with lfsr := seed (reg s A.PLN_UNIT_CODE).toNat (k % 2 ^ 48) g }) s

/-- Every group is reseeded at a frame boundary; shots of the frame that ends there still advance its own sequence
(04 R109, R112). -/
def reseedFrame (s : State) (k : Nat) : State :=
  reseed { s with esc := { s.esc with runs := s.esc.runs.map fun p => (p.1, { p.2 with prev := p.2.lfsr }) } } k

end Sys2Proof.Machine
end

