-- ==== Sys2Proof/Machine/Ntm.lean ====
section
/-!
DEFINITION. Network time: the counter, its conversions, steps and rates, and the pulse per second
(chapter 13, R351 to R356, R361, R362, R365, R537).
-/

namespace Sys2Proof.Machine

/-! ## The counter -/

/-- The nominal REFCLK period in ns (13 R351). -/
def pNom (s : State) : Nat := if flag s F.CLK_REF_SEL_FREQ then 10 else 100

/-- Units of the counter in one nanosecond: 2^32 × 25,600. -/
abbrev nsU : Nat := 2 ^ 32 * 25600

/-- The counter's range: 64-bit seconds. -/
abbrev netRange : Nat := 2 ^ 64 * 1000000000 * nsU

/-- The advance of the counter over a span of LSB at an INCREMENT (13 R356). -/
def netSpan (s : State) (d : Int) (incr : Nat) : Int := d * incr * (100 / pNom s : Nat)

/-- Network time at a TDC instant, in counter units (13 R355, R356, R537). -/
def netAt (s : State) (t : Nat) : Int :=
  let n := s.ntm
  match n.mode with
  | .held => n.net
  | .aon => n.net + ((t : Int) - n.base) / 7812500 * 7812500 * 2 ^ 24 * 25600
  | .tkp =>
    match n.next with
    | some (e, i) =>
      if e < t then n.net + netSpan s ((e : Int) - n.base) n.incr + netSpan s ((t : Int) - e) i
      else n.net + netSpan s ((t : Int) - n.base) n.incr
    | none => n.net + netSpan s ((t : Int) - n.base) n.incr

/-- Network time at a TDC instant rounded to 2^-16 ns, half away from zero (13 R356). -/
def net16 (s : State) (t : Nat) : Nat := (rnd (netAt s t) (2 ^ 16 * 25600) % (2 ^ 64 * 1000000000 * 2 ^ 16 : Nat)).toNat

/-- The whole seconds, nanoseconds and fraction of a time in 2^-16 ns. -/
abbrev nSec (n : Nat) : Nat := n / (1000000000 * 2 ^ 16)
abbrev nNs (n : Nat) : Nat := n / 2 ^ 16 % 1000000000
abbrev nFrac (n : Nat) : Nat := n % 2 ^ 16

/-- The TDC instant of a network time in units of 2^-32 ns, rounded to 1 LSB (13 R356); `none` for a time that the held
counter does not reach (R537). -/
def tdcOf (s : State) (n : Int) : Option Int :=
  let c := s.ntm
  let one (base : Nat) (net : Int) (incr : Nat) : Int :=
    base + rnd (n * 25600 - net) (max 1 (incr * (100 / pNom s)))
  match c.mode with
  | .held => if n * 25600 ≤ c.net then some c.base else none
  | .aon => some (c.base + rnd (n * 25600 - c.net) (2 ^ 24 * 25600))
  | .tkp =>
    match c.next with
    | some (e, i) =>
      let m := c.net + netSpan s ((e : Int) - c.base) c.incr
      if m < n * 25600 then some (one e m i) else some (one c.base c.net c.incr)
    | none => some (one c.base c.net c.incr)

/-- A network time, in seconds and nanoseconds, has been reached at a TDC instant. -/
def netReached (s : State) (t sec ns : Nat) : Bool :=
  decide (((sec * 1000000000 + ns) * nsU : Int) ≤ netAt s t)

/-! ## Modes of the counter -/

/-- The mode the counter belongs in (13 R351, R355). -/
def ntmWants (s : State) : NetMode :=
  if !s.ntm.started || !(flag s F.NTM_CTRL_ENABLE) then .held
  else if flag s F.CLK_STATUS_REF_LOST || decide (pstate s ≤ 1) then .aon
  else .tkp

/-- The counter takes its mode at an instant from the value it has reached. -/
def ntmRemode (t : Nat) (s : State) : State :=
  let m := ntmWants s
  if m = s.ntm.mode then s
  else
    let incr := match s.ntm.next with
      | some (e, i) => if e ≤ t then i else s.ntm.incr
      | none => s.ntm.incr
    { s with ntm := { s.ntm with net := netAt s t, base := t, mode := m, incr := incr, next := none } }

/-- The device has reached TIMEKEEP since reset. -/
def ntmStart (s : State) : State := { s with ntm := { s.ntm with started := true } }

/-- COASTED is set, at REF_LOST and at entry to SLEEP from a higher state (13 R351, R355). -/
def ntmCoast (s : State) : State := wr s F.NTM_STATUS_COASTED 1

/-- DEGRADED (13 R355). -/
def degraded (s : State) : Bool := cold s || flag s F.CLK_STATUS_REF_LOST || flag s F.NTM_STATUS_COASTED

/-- A change of DEGRADED from the state before sets the event (13 R355). -/
def degradedWatch (o s : State) : State := if degraded o ≠ degraded s then raise s F.NTM_EVT_RAW_DEGRADED else s

/-- NTM.STATUS (13 R365). -/
def ntmStatus (s : State) : Word :=
  word (b2n (flag s F.CLK_STATUS_REF_LOST) * 16 + b2n (flag s F.NTM_STATUS_COASTED) * 8 + b2n (cold s) * 4
    + b2n (degraded s) * 2 + b2n (decide (s.ntm.mode ≠ .held)))

/-- The counter after reset of the device or of the page: 0, with INCREMENT at the nominal period (13 R351). -/
def ntmReset (s : State) : State :=
  let s := setReg s A.NTM_INCR_NS (word (pNom s))
  { s with ntm := { s.ntm with mode := ntmWants s, base := s.now, net := 0, incr := pNom s * 2 ^ 32, next := none,
                               pps := false } }

/-! ## Rates and steps -/

/-- INCREMENT as written, in 2^-32 ns. -/
def incrWritten (s : State) : Nat := rd s F.NTM_INCR_NS * 2 ^ 32 + (reg s A.NTM_INCR_FRAC).toNat

/-- The first REFCLK rising edge after an instant: edges lie at multiples of the nominal period (log entry 30). -/
def nextRefEdge (s : State) (t : Nat) : Nat := (t / nsec (pNom s) + 1) * nsec (pNom s)

/-- An INCREMENT is put in force from the next REFCLK edge (13 R352). -/
def ntmRate (s : State) (incr : Nat) : State :=
  match s.ntm.mode with
  | .tkp =>
    let e := nextRefEdge s s.now
    let cur := match s.ntm.next with
      | some (e', i) => if e' ≤ s.now then i else s.ntm.incr
      | none => s.ntm.incr
    { s with ntm := { s.ntm with net := netAt s s.now, base := s.now, incr := cur, next := some (e, incr) } }
  | _ => { s with ntm := { s.ntm with incr := incr, next := none } }

/-- The step that the STEP registers hold, in ns (13 R353). -/
def stepNs (s : State) : Int :=
  signed 64 (rdWide s A.NTM_STEP_SEC_LO) * 1000000000 + sword (reg s A.NTM_STEP_NS)

/-- A step is applied to the counter (13 R353). -/
def ntmStep (s : State) (ns : Int) : State :=
  { s with ntm := { s.ntm with net := (s.ntm.net + ns * nsU) % netRange } }

/-- The page is open for protected fields (02 R48). -/
def lockOpen (s : State) (p : Nat) : Bool := bit (reg s (p + 0x2C)) 31

/-- The device is the aligned standby of a pair (19 R477). -/
def follows (s : State) : Bool := decide (rd s F.PAIR_ROLE_ROLE = 2) && flag s F.PAIR_STATUS_TIME_ALIGNED

/-- The checks of a write to the NTM page (13 R352, R353, R355; 19 R477). -/
def ntmCheck (a : Nat) (d : Word) (s : State) : Nat :=
  if (a = A.NTM_INCR_NS ∨ a = A.NTM_INCR_FRAC ∨ a = A.NTM_STEP_SEC_HI) ∧ follows s then 0x04
  else if a = A.NTM_INCR_NS then
    let v : Nat := fld d 0 8 * 2 ^ 32 + (reg s A.NTM_INCR_FRAC).toNat
    let p : Nat := pNom s * 2 ^ 32
    if flag s F.CLK_STATUS_REF_LOST then 0x04
    else if ((v : Int) - p).natAbs * 1000 ≤ p then 0 else 0x03
  else if a = A.NTM_STEP_SEC_HI then
    if flag s F.CLK_STATUS_REF_LOST then 0x04
    else if (reg s A.NTM_JUMP_LIMIT).toNat < (stepNs (setReg s A.NTM_STEP_SEC_HI d)).natAbs ∧ !(lockOpen s 0xA8000) then 0x20
    else 0
  else if a = A.NTM_CTRL ∧ bit d 2 ∧ flag s F.CLK_STATUS_REF_LOST then 0x04
  else 0

/-- A refused step is counted, with its event (13 R353). -/
def ntmRefused (s : State) : State := raise (bump s A.NTM_STEPS_REFUSED) F.NTM_EVT_RAW_STEP_REFUSED

/-! ## Readings -/

/-- The TDC instant of the TKP cycle in which an instant lies (13 R355). -/
def tkpCycle (t : Nat) : Nat := t / 2560 * 2560

/-- The words that a read of NOW_NS latches: NS, FRAC, SEC_LO, SEC_HI, TDC_LO, TDC_HI (13 R355). -/
def ntmNow (s : State) : List Word :=
  let t := tkpCycle s.now
  let n := (netAt s t % netRange).toNat / (2 ^ 16 * 25600)
  let tdc := if 3 ≤ pstate s then t / 256 else 0
  [word (nNs n), word (nFrac n), word (nSec n), word (nSec n / 2 ^ 32), word tdc, word (tdc / 2 ^ 32)]

/-- A read of PPSIN_NS clears NEW and OVR (13 R362). -/
def ppsinRead (s : State) : State := wr (wr s F.NTM_PPSIN_NS_NEW 0) F.NTM_PPSIN_NS_OVR 0

/-! ## The pulse per second -/

/-- The resolution of PPS_OUT in counter units: 1 ns, 10 ns in TIMEKEEP, one AON cycle while coasting (13 R361). -/
def ppsGrain (s : State) : Int :=
  match s.ntm.mode with
  | .aon => 7812500 * 2 ^ 24 * 25600
  | _ => if 3 ≤ pstate s then nsU else 10 * nsU

/-- The network time since the last whole second plus PPS_OFS at an instant, in counter units. -/
def ppsPhase (s : State) (t : Nat) : Int := (netAt s t - sword (reg s A.NTM_PPS_OFS) * nsU) % (1000000000 * nsU : Nat)

/-- PPS_OUT_PULSE: network time passes a whole second plus PPS_OFS, and PPS_OUT rises (13 R361). -/
def ppsOutPulse (t : Nat) (s : State) : State :=
  if awake s ∧ flag s F.NTM_PPS_CFG_OUT_EN ∧ s.ntm.mode ≠ .held ∧ ppsPhase s t < ppsGrain s then
    { s with ntm := { s.ntm with pps := true, ppsAt := s.now } }
  else s

/-- PPS_OUT_END: PPS_OUT has been high for WIDTH ms and falls (13 R361). -/
def ppsOutEnd (t : Nat) (s : State) : State :=
  if s.ntm.pps ∧ s.ntm.ppsAt + msec (rd s F.NTM_PPS_CFG_WIDTH) ≤ t then
    { s with ntm := { s.ntm with pps := false } }
  else s

/-- PPS_IN: a rising edge of PPS_IN is timed (13 R362). -/
def ppsIn (t : Nat) (s : State) : State :=
  if awake s ∧ domRunning s .tkp 0 then
    let n := net16 s (if 3 ≤ pstate s then t else tkpCycle t)
    let s := if flag s F.NTM_PPSIN_NS_NEW then wr s F.NTM_PPSIN_NS_OVR 1 else s
    let s := wr (wr s F.NTM_PPSIN_NS_NS (nNs n)) F.NTM_PPSIN_NS_NEW 1
    let s := setReg s A.NTM_PPSIN_FRAC (word (nFrac n))
    raise (setWide s A.NTM_PPSIN_SEC_LO (nSec n)) F.NTM_EVT_RAW_PPS_IN
  else s

/-- PPS_OUT_PULSE (13 R361). -/
def execPpsOutPulse (t : Nat) (s : State) : Host.Outcome State Fault Refusal := .next (ppsOutPulse t (at' t s))

/-- PPS_OUT_END (13 R361). -/
def execPpsOutEnd (t : Nat) (s : State) : Host.Outcome State Fault Refusal := .next (ppsOutEnd t (at' t s))

/-- PPS_IN (13 R362). -/
def execPpsIn (t : Nat) (s : State) : Host.Outcome State Fault Refusal := .next (ppsIn t (at' t s))

end Sys2Proof.Machine
end

