-- ==== Sys2Proof/Machine/Eth.lean ====
section
/-!
DEFINITION. The Ethernet ports, the bridge, the host path and the transparent clock (chapter 13, R343 to R350, R356 to
R360, R363, R364). A frame stands without its FCS.
-/

namespace Sys2Proof.Machine

/-! ## Bytes of a frame -/

/-- Byte `i` of a frame. -/
def fb (f : List Byte) (i : Nat) : Nat := (f.getD i 0#8).toNat

/-- The big-endian number of `n` bytes from byte `i`. -/
def be (f : List Byte) (i n : Nat) : Nat := (List.range n).foldl (fun v k => v * 256 + fb f (i + k)) 0

/-- The big-endian bytes of a number. -/
def beBytes (v n : Nat) : List Byte := (List.range n).map fun k => BitVec.ofNat 8 (v >>> (8 * (n - 1 - k)))

/-- A frame with bytes replaced from byte `i`. -/
def putBytes (f : List Byte) (i : Nat) (b : List Byte) : List Byte := f.take i ++ b ++ f.drop (i + b.length)

/-- Little-endian words of bytes, padded with zeros. -/
def packWords (f : List Byte) : List Word :=
  (List.range ((f.length + 3) / 4)).map fun i =>
    word ((List.range 4).foldl (fun v k => v + fb f (4 * i + k) * 2 ^ (8 * k)) 0)

/-- The bytes of little-endian words. -/
def unpackWords (l : List Word) : List Byte := l.flatMap fun w => (List.range 4).map (wbyte w)

/-- The destination and the source address of a frame. -/
abbrev macDst (f : List Byte) : Nat := be f 0 6
abbrev macSrc (f : List Byte) : Nat := be f 6 6

/-- An EtherType names a VLAN tag (R357). -/
def isTag (f : List Byte) (i : Nat) : Bool := be f i 2 = 0x8100 || be f i 2 = 0x88A8

/-- The offset of the EtherType after at most two VLAN tags (R357). -/
def etypeAt (f : List Byte) : Nat := if isTag f 12 then (if isTag f 16 then 20 else 16) else 12

/-- The frame is a plan frame by its EtherType, which no tag precedes (14 R368). -/
def isPlan (s : State) (f : List Byte) : Bool := be f 12 2 = rd s F.PLN_ETYPE

/-- PLN.MCAST. -/
def planMcast (s : State) : Nat := fld (reg s A.PLN_MCAST_HI) 0 16 * 2 ^ 32 + (reg s A.PLN_MCAST_LO).toNat

/-! ## PTP (R357) -/

/-- What a frame is to the bridge: not PTP; a PTP message at an offset, of an IPv4 datagram with its UDP header there or
of a plain frame; a fragment of a datagram to a PTP port; a PTP datagram of IPv6. -/
inductive Ptp where
  | no
  | msg (at' : Nat) (udp : Option Nat)
  | fragment
  | ipv6 (event : Bool)
  deriving DecidableEq, Repr

/-- A PTP port of UDP. -/
def ptpPort (n : Nat) : Bool := n = 319 || n = 320

/-- The classification of a frame (R357). -/
def classify (f : List Byte) : Ptp :=
  let o := etypeAt f + 2
  let e := be f (o - 2) 2
  if e = 0x88F7 then .msg o none
  else if e = 0x0800 ∧ fb f o / 16 = 4 ∧ 5 ≤ fb f o % 16 ∧ fb f (o + 9) = 17 then
    let u := o + 4 * (fb f o % 16)
    if be f (o + 6) 2 % 0x2000 ≠ 0 then .no
    else if !(ptpPort (be f (u + 2) 2)) then .no
    else if be f (o + 6) 2 / 0x2000 % 2 = 1 then .fragment
    else .msg (u + 8) (some u)
  else if e = 0x86DD ∧ fb f (o + 6) = 17 ∧ ptpPort (be f (o + 42) 2) then .ipv6 (be f (o + 42) 2 = 319)
  else .no

/-- The PTP message at an offset is one the bridge processes: version 2.0 or 2.1, with its whole common header. -/
def ptpKnown (f : List Byte) (o : Nat) : Bool :=
  decide (fb f (o + 1) % 16 = 2) && decide (fb f (o + 1) / 16 ≤ 1) && decide (34 ≤ be f (o + 2) 2)
    && decide (o + 34 ≤ f.length)

/-- The message type and the twoStepFlag of a PTP message. -/
abbrev ptpType (f : List Byte) (o : Nat) : Nat := fb f o % 16
abbrev ptpTwoStep (f : List Byte) (o : Nat) : Bool := decide (fb f (o + 6) / 2 % 2 = 1)

/-- The match key: ingress port, domainNumber, sourcePortIdentity and sequenceId (R359). -/
def ptpKey (f : List Byte) (o port : Nat) : List Byte :=
  BitVec.ofNat 8 port :: f.getD (o + 4) 0#8 :: (f.drop (o + 20)).take 12

/-- The frame with a residence added to its correctionField, and the UDP checksum of an IPv4 message cleared (R359). -/
def correct (f : List Byte) (o : Nat) (udp : Option Nat) (r : Int) : List Byte :=
  let v := min (signed 64 (be f (o + 8) 8) + r) (2 ^ 63 - 1)
  let f := putBytes f (o + 8) (beBytes (unsigned 64 v) 8)
  match udp with
  | some u => putBytes f (u + 6) [0#8, 0#8]
  | none => f

/-! ## Ports -/

/-- Port `p` exists and is enabled (R343, R364). -/
def portOn (s : State) (p : Nat) : Bool :=
  awake s && domRunning s .eth 0 && decide (p < 4) && flag s (F.ETHP_CTRL_ENABLE p) && decide (rd s (F.LNQ_QUAD_CFG_ROLE 35) = 1)

/-- The link of port `p` is up. -/
def linkIsUp (s : State) (p : Nat) : Bool := portOn s p && flag s (F.ETHP_STATUS_LINK p)

/-- The bridge forwards. -/
def bridging (s : State) : Bool := awake s && domRunning s .eth 0 && flag s F.ETH_CTRL_ENABLE

/-- The selected path of the host can carry frames (R348). -/
def tunnelUp (s : State) : Bool :=
  decide (rd s F.ETH_TUNNEL_CFG_PATH = 2) ||
    (decide (rd s F.ETH_TUNNEL_CFG_PATH = 1) && bundleUp s (rd s F.ETH_TUNNEL_CFG_BUNDLE))

/-- The egress queues of a bridge port. -/
def highOf (s : State) (p : Nat) : List EthItem := pget [] s.eth.high p
def lowOf (s : State) (p : Nat) : List EthItem := pget [] s.eth.low p

/-- The state with an egress queue set. -/
def setHigh (s : State) (p : Nat) (l : List EthItem) : State := { s with eth := { s.eth with high := pset [] s.eth.high p l } }
def setLow (s : State) (p : Nat) (l : List EthItem) : State := { s with eth := { s.eth with low := pset [] s.eth.low p l } }

/-- Bytes of the ingress buffer of a bridge port in use: each frame once, until its last copy has left (R346). -/
def ingressUsed (s : State) (p : Nat) : Nat :=
  let items := ((s.eth.high.flatMap (·.2)) ++ (s.eth.low.flatMap (·.2))).filter fun i => decide (i.port = p)
  let ids := (items.map (·.id)).eraseDups
  (ids.map fun k => ((items.find? fun i => i.id = k).map fun i => i.frame.length + 4).getD 0).sum

/-! ## The host path (R348 to R350) -/

/-- Words of the receive mailbox in use. -/
def mbWords (s : State) : Nat := (s.eth.mbRx.map List.length).sum

/-- A frame for the host is discarded. -/
def hostDrop (s : State) : State := raise (bump s A.ETH_HOST_DROP) F.ETH_EVT_RAW_HOST_DROP

/-- The first word of a tunnel header. -/
def tunnelWord0 (kind port frag : Nat) (last valid prov degr : Bool) (len : Nat) : Word :=
  word (kind * 2 ^ 28 + port * 2 ^ 24 + frag * 2 ^ 22 + b2n last * 2 ^ 21 + b2n valid * 2 ^ 20 + b2n prov * 2 ^ 19
    + b2n degr * 2 ^ 18 + len)

/-- A tunnel header: its first word, an identifier and a timestamp in 2^-16 ns. -/
def tunnelHead (w0 : Word) (id ts : Nat) : List Word :=
  [w0, word (id * 2 ^ 16 + nFrac ts), word (nNs ts), word (nSec ts)]

/-- The fragments of a frame: fragment index, last, bytes (R349). -/
def fragments (f : List Byte) : List (Nat × Bool × List Byte) :=
  let n := (f.length + 4079) / 4080
  (List.range n).map fun i => (i, i + 1 = n, (f.drop (4080 * i)).take 4080)

/-- Words go to the host: one header per fragment on the bundle, one record in the mailbox, or nothing (R348). -/
def hostSend (s : State) (kind port : Nat) (valid prov degr : Bool) (id ts : Nat) (f : List Byte) : State :=
  if rd s F.ETH_TUNNEL_CFG_PATH = 1 then
    let b := rd s F.ETH_TUNNEL_CFG_BUNDLE
    if bundleUp s b then
      (if f = [] then [(0, true, [])] else fragments f).foldl (fun s p =>
        queueFrame s b ⟨6, 2, 0, 16 + p.2.2.length,
          tunnelHead (tunnelWord0 kind port p.1 p.2.1 valid prov degr f.length) id ts ++ packWords p.2.2⟩) s
    else hostDrop s
  else if rd s F.ETH_TUNNEL_CFG_PATH = 2 then
    let r := tunnelHead (tunnelWord0 kind port 0 true valid prov degr f.length) id ts ++ packWords f
    if mbWords s + r.length ≤ 4096 then
      raise { s with eth := { s.eth with mbRx := s.eth.mbRx ++ [r] } } F.ETH_EVT_RAW_MB_RX
    else hostDrop s
  else s

/-- A TS_REPORT for a port: the egress time of a host frame, or that it did not leave (R349). -/
def tsReport (s : State) (i : EthItem) (p : Nat) (ts : Option Nat) : State :=
  if i.tsReq then hostSend s 1 p ts.isSome (ts.isSome && cold s) (ts.isSome && degraded s) i.tsId (ts.getD 0) [] else s

/-! ## Forwarding (R346, R347) -/

/-- The learnt port of an address. -/
def macPort (s : State) (m : Nat) : Option Nat := (s.eth.macs.find? fun e => e.1 = m).map (·.2.1)

/-- The number of learnt addresses shows in MAC_COUNT. -/
def setMacs (s : State) (l : List (Nat × Nat × Nat)) : State :=
  setReg { s with eth := { s.eth with macs := l } } A.ETH_MAC_COUNT (word l.length)

/-- A source address is learnt against its port (R347). -/
def learn (s : State) (port m : Nat) : State :=
  if flag s F.ETH_CFG_LEARN_EN then
    if (macPort s m).isSome then setMacs s (s.eth.macs.filter (fun e => e.1 ≠ m) ++ [(m, port, s.now)])
    else if s.eth.macs.length < 1024 then setMacs s (s.eth.macs ++ [(m, port, s.now)])
    else raise (bump s A.ETH_LEARN_FULL) F.ETH_EVT_RAW_LEARN_FULL
  else s

/-- A bridge port takes a frame of this kind (R347). -/
def takes (s : State) (f : List Byte) (p : Nat) : Bool :=
  if p < 4 then linkIsUp s p
  else if p = 4 then decide (rd s F.ETH_TUNNEL_CFG_PATH ≠ 0) && (!(isPlan s f) || flag s F.ETH_CFG_PLN_TO_HOST)
  else isPlan s f && decide (macDst f = planMcast s)

/-- The bridge ports that a frame is forwarded to (R347). -/
def routes (s : State) (port : Nat) (f : List Byte) : List Nat :=
  let ps :=
    if macDst f / 16 = 0x0180C200000 then [4]
    else if fb f 0 % 2 = 0 then
      match macPort s (macDst f) with
      | some p => [p]
      | none => [0, 1, 2, 3, 4, 5]
    else [0, 1, 2, 3, 4, 5]
  ps.filter fun p => decide (p ≠ port) && takes s f p

/-- A frame is dropped at a full egress queue, or before it reaches one (R346, R349). -/
def egressDrop (s : State) (i : EthItem) (p : Nat) : State :=
  if p < 4 then tsReport (bump s (A.ETHP_TX_DROP p)) i p none else if p = 4 then hostDrop s else s

/-- A PTP frame or a plan frame takes the high queue (R346). -/
def isHigh (s : State) (f : List Byte) : Bool := decide (classify f ≠ .no) || isPlan s f

/-- A copy joins an egress queue (R346). -/
def egressPush (s : State) (i : EthItem) (p : Nat) : State :=
  if isHigh s i.frame then
    if (highOf s p).length < 32 then setHigh s p (highOf s p ++ [i]) else egressDrop s i p
  else if (lowOf s p).length < 32 then setLow s p (lowOf s p ++ [i]) else egressDrop s i p

/-- The ingress buffer of an ETH port has reached PAUSE_ON, or fallen to PAUSE_OFF (R345). -/
def pauseJudge (s : State) (p : Nat) : State :=
  if p < 4 ∧ linkIsUp s p ∧ flag s (F.ETHP_STATUS_TX_PAUSE p) then
    if !(s.eth.paused.contains p) && decide (64 * rd s (F.ETHP_PAUSE_TH_PAUSE_ON p) ≤ ingressUsed s p) then
      bump { s with eth := { s.eth with paused := s.eth.paused ++ [p] } } (A.ETHP_PAUSE_TX p)
    else if s.eth.paused.contains p && decide (ingressUsed s p ≤ 64 * rd s (F.ETHP_PAUSE_TH_PAUSE_OFF p)) then
      bump { s with eth := { s.eth with paused := s.eth.paused.erase p } } (A.ETHP_PAUSE_TX p)
    else s
  else s

/-- The frame's number is taken. -/
def nextEthId (s : State) : State := { s with eth := { s.eth with nextId := s.eth.nextId + 1 } }

/-- A frame fits into the ingress buffer of its port (R346). -/
def ingressFits (s : State) (p : Nat) (f : List Byte) : Bool := decide (ingressUsed s p + (f.length + 4) ≤ 24 * 1024)

/-- A frame is stored and forwarded to a list of bridge ports; one that does not fit is discarded (R346). -/
def forward (s : State) (i : EthItem) (ps : List Nat) : State :=
  if !(ingressFits s i.port i.frame) then
    let s := if i.port < 4 then bump s (A.ETHP_RX_DROP i.port) else if i.port = 4 then hostDrop s else s
    (ps.filter fun p => decide (p < 4)).foldl (fun s p => tsReport s i p none) s
  else
    let s := nextEthId s
    pauseJudge (ps.foldl (fun s p => egressPush s i p) s) i.port

/-! ## Reception (R345) -/

/-- The line rate in Mbit/s of the port's SPEED. -/
def portRate (s : State) (p : Nat) : Nat := [10, 100, 1000, 2500].getD (rd s (F.ETHP_STATUS_SPEED p)) 1000

/-- A PAUSE frame (IEEE 802.3x). -/
def isPause (f : List Byte) : Bool :=
  decide (macDst f = 0x0180C2000001) && decide (be f 12 2 = 0x8808) && decide (be f 14 2 = 1)

/-- A received PAUSE frame holds transmission for its quanta of 512 bit times (R345). -/
def pauseReceived (s : State) (p : Nat) (f : List Byte) : State :=
  let s := raise (bump s (A.ETHP_PAUSE_RX p)) (F.ETHP_EVT_RAW_PAUSE_RX p)
  if flag s (F.ETHP_STATUS_RX_PAUSE p) then
    let q := be f 16 2
    let s := wrB s (F.ETHP_STATUS_PAUSED p) (decide (q ≠ 0))
    let u := if q = 0 then 0 else s.now + (q * 512 * 256000 + portRate s p - 1) / portRate s p
    { s with eth := { s.eth with pause := pset 0 s.eth.pause p u } }
  else s

/-- The MEDIUM instant of a frame in 2^-16 ns of TDC time, corrected by a latency register (R358). -/
def medium (s : State) (sfd lat : Nat) : Int := (sfd * 256 : Nat) + sword (reg s lat)

/-- A timestamp for the host, in 2^-16 ns of network time (R356, R358). -/
def hostStamp (s : State) (p sfd lat : Nat) : Nat :=
  if flag s (F.ETHP_TS_MODE p) then net16 s s.now
  else ((net16 s sfd + sword (reg s lat)) % (2 ^ 64 * 1000000000 * 2 ^ 16 : Nat)).toNat

/-- The transparent clock works (R359). -/
def tcOn (s : State) : Bool := flag s F.ETH_CFG_TC_EN

/-- A match entry opens for a two-step Sync; a full table gives up its oldest (R359, R360). -/
def matchOpen (s : State) (k : List Byte) : State :=
  let l := s.eth.ents.filter fun e => e.key ≠ k
  let s' := if 64 ≤ l.length then raise (bump s A.ETH_TC_EVICT) F.ETH_EVT_RAW_TC_EVICT else s
  { s' with eth := { s'.eth with ents := (if 64 ≤ l.length then l.drop 1 else l) ++ [⟨k, s.now, []⟩] } }

/-- What PTP asks of a frame at its ingress: counts, and the match entry of a two-step Sync (R357, R359). -/
def ptpIngress (s : State) (p : Nat) (f : List Byte) : State :=
  match classify f with
  | .no => s
  | .fragment => bump s A.ETH_PTP_OTHER
  | .ipv6 e => if e then bump s A.ETH_IPV6_UNCORR else s
  | .msg o _ =>
    if !(ptpKnown f o) then bump s A.ETH_PTP_OTHER
    else if tcOn s ∧ ptpType f o = 0 ∧ ptpTwoStep f o then matchOpen s (ptpKey f o p)
    else s

/-- A good frame enters the bridge at an ETH port. -/
def bridgeFrame (s : State) (p sfd : Nat) (f : List Byte) : State :=
  let s := learn s p (macSrc f)
  let s := if ingressFits s p f then ptpIngress s p f else s
  forward s ⟨s.eth.nextId, p, medium s sfd (A.ETHP_RX_LAT p), hostStamp s p sfd (A.ETHP_RX_LAT p), cold s, degraded s,
    false, 0, f⟩ (routes s p f)

/-- ETH_FRAME_RECEIVED: a frame ends at port `p`; `sfd` is the TDC time at which its start-of-frame delimiter ended at
the pins (R345, R358). -/
def ethFrameReceived (p sfd : Nat) (f : List Byte) (fcsOk : Bool) (s : State) : State :=
  if !(linkIsUp s p) then s
  else if !fcsOk then bump s (A.ETHP_RX_FCS p)
  else if f.length < 60 then bump s (A.ETHP_RX_RUNT p)
  else if 9212 < f.length then bump s (A.ETHP_RX_LONG p)
  else
    let s := bump s (A.ETHP_RX_FRAMES p)
    if isPause f then pauseReceived s p f
    else if bridging s then bridgeFrame s p sfd f else s

/-- PAUSE_QUANTA_END: the quanta of a received PAUSE have passed (R345). -/
def pauseQuantaEnd (p : Nat) (s : State) : State :=
  if pget 0 s.eth.pause p ≠ 0 ∧ pget 0 s.eth.pause p ≤ s.now then
    wr { s with eth := { s.eth with pause := pset 0 s.eth.pause p 0 } } (F.ETHP_STATUS_PAUSED p) 0
  else s

/-! ## Egress (R346, R359, R360) -/

/-- The residence of a frame on a port in 2^-16 ns of network time (R359). -/
def residence (s : State) (i : EthItem) (p sfd : Nat) : Int :=
  rnd ((medium s sfd (A.ETHP_TX_LAT p) - i.at') * s.ntm.incr) (pNom s * 2 ^ 32)

/-- The match entry of a key. -/
def matchOf (s : State) (k : List Byte) : Option MatchEnt := s.eth.ents.find? fun e => e.key = k

/-- The state with a match entry replaced, or freed. -/
def setMatch (s : State) (k : List Byte) (e : Option MatchEnt) : State :=
  { s with eth := { s.eth with ents := s.eth.ents.filterMap fun x => if x.key = k then e else some x } }

/-- A corrected frame, counted at its egress port. -/
def corrected (s : State) (p : Nat) (f : List Byte) (o : Nat) (udp : Option Nat) (r : Int) : State × List Byte :=
  (bump s (A.ETHP_PTP_CORRECTED p), correct f o udp r)

/-- A Follow_Up leaves port `p` (R359, R360). -/
def followUp (s : State) (p : Nat) (f k : List Byte) (o : Nat) (udp : Option Nat) : State × List Byte :=
  match matchOf s k with
  | none => (raise (bump s A.ETH_FU_UNMATCHED) F.ETH_EVT_RAW_FU_UNMATCHED, f)
  | some e =>
    match e.res.find? fun r => r.1 = p with
    | none => (raise (bump s A.ETH_FU_UNMATCHED) F.ETH_EVT_RAW_FU_UNMATCHED, f)
    | some r =>
      let left := e.res.filter fun r => r.1 ≠ p
      corrected (setMatch s k (if left = [] then none else some { e with res := left })) p f o udp r.2

/-- The transparent clock's work on a frame that leaves an ETH port (R359). -/
def tcEgress (s : State) (i : EthItem) (p sfd : Nat) : State × List Byte :=
  let f := i.frame
  match classify f with
  | .msg o udp =>
    if !(tcOn s) ∨ 4 ≤ i.port ∨ !(ptpKnown f o) then (s, f)
    else if ptpType f o = 1 ∨ (ptpType f o = 0 ∧ !(ptpTwoStep f o)) then corrected s p f o udp (residence s i p sfd)
    else if ptpType f o = 0 then
      match matchOf s (ptpKey f o i.port) with
      | none => (s, f)
      | some e => (setMatch s e.key (some { e with res := e.res ++ [(p, residence s i p sfd)] }), f)
    else if ptpType f o = 8 then followUp s p f (ptpKey f o i.port) o udp
    else (s, f)
  | _ => (s, f)

/-- A frame leaves an ETH port; `sfd` is the TDC time at which its start-of-frame delimiter left the pins. -/
def sendOut (s : State) (i : EthItem) (p sfd : Nat) : State :=
  let r := tcEgress s i p sfd
  let s := bump r.1 (A.ETHP_TX_FRAMES p)
  let s := { s with eth := { s.eth with sent := pset [] s.eth.sent p r.2 } }
  tsReport s i p (some (hostStamp s p sfd (A.ETHP_TX_LAT p)))

/-- The first frame of a port's queues in strict priority, and the state without it. -/
def egressPop (s : State) (p : Nat) : Option (EthItem × State) :=
  match highOf s p with
  | i :: r => some (i, setHigh s p r)
  | [] =>
    match lowOf s p with
    | i :: r => some (i, setLow s p r)
    | [] => none

/-- A frame leaves to the host. -/
def toHost (s : State) (i : EthItem) : State :=
  let valid := decide (i.port < 4)
  hostSend s 0 i.port valid (valid && i.provisional) (valid && i.degraded) 0 (if valid then i.ts else 0) i.frame

/-- ETH_FRAME_EGRESS: the next frame of bridge port `p`, of 0 to 4, leaves; on an ETH port it begins only while the link is
up and no PAUSE holds it (R345, R346). -/
def ethFrameEgress (p sfd : Nat) (s : State) : State :=
  if p < 5 ∧ bridging s ∧ (p = 4 ∨ (linkIsUp s p ∧ pget 0 s.eth.pause p ≤ sfd)) then
    match egressPop s p with
    | none => s
    | some (i, s) => pauseJudge (if p = 4 then toHost s i else sendOut s i p sfd) i.port
  else s

/-! ## Links (R344) -/

/-- A port goes down: its egress queues are discarded and its addresses removed (R344). -/
def portDown (s : State) (p : Nat) : State :=
  let items := highOf s p ++ lowOf s p
  let s := items.foldl (fun s i => egressDrop s i p) (setLow (setHigh s p []) p [])
  let s := setMacs s (s.eth.macs.filter fun e => e.2.1 ≠ p)
  let s := { s with eth := { s.eth with pause := pset 0 s.eth.pause p 0, paused := s.eth.paused.erase p } }
  let lp := rd s (F.ETHP_STATUS_LP_WORD p)
  setReg s (F.ETHP_STATUS_LINK p).addr (word lp)

/-- LINK_DOWN: the receiver of port `p` has lost Clause 36 synchronisation (R344). -/
def linkDown (p : Nat) (s : State) : State :=
  if linkIsUp s p then raise (portDown s p) (F.ETHP_EVT_RAW_LINK_DOWN p) else s

/-- The port negotiates: Clause 37 with AN_EN, or the SGMII control word (R343). -/
def negotiates (s : State) (p : Nat) : Bool :=
  decide (rd s (F.ETHP_PORT_CFG_MODE p) = 2)
    || (decide (rd s (F.ETHP_PORT_CFG_MODE p) = 0) && flag s (F.ETHP_PORT_CFG_AN_EN p))

/-- AN_FAIL: the partner offers half duplex only (R344). -/
def anFail (p lp : Nat) (s : State) : State :=
  if portOn s p ∧ negotiates s p then
    let s := wr (if linkIsUp s p then linkDown p s else s) (F.ETHP_STATUS_LP_WORD p) lp
    raise s (F.ETHP_EVT_RAW_AN_FAIL p)
  else s

/-- The partner's word offers full duplex: bit 12 of the SGMII control word, bit 5 of Clause 37. -/
def offersFull (s : State) (p lp : Nat) : Bool :=
  Nat.testBit lp (if rd s (F.ETHP_PORT_CFG_MODE p) = 2 then 12 else 5)

/-- Pause as Clause 37 resolves it, receive and transmit, from the abilities of both ends. -/
def pauseResolve (lPause lAsm rPause rAsm : Bool) : Bool × Bool :=
  if lPause && rPause then (true, true)
  else if !lPause && lAsm && rPause && rAsm then (false, true)
  else if lPause && lAsm && !rPause && rAsm then (true, false)
  else (false, false)

/-- The resolved receive and transmit pause of a port (R344). -/
def pauseOf (s : State) (p lp : Nat) : Bool × Bool :=
  if rd s (F.ETHP_PORT_CFG_MODE p) = 0 ∧ flag s (F.ETHP_PORT_CFG_AN_EN p) then
    pauseResolve (flag s (F.ETHP_PORT_CFG_PAUSE p)) (flag s (F.ETHP_PORT_CFG_ASM_DIR p)) (Nat.testBit lp 7) (Nat.testBit lp 8)
  else (flag s (F.ETHP_PORT_CFG_FORCE_RX_PAUSE p), flag s (F.ETHP_PORT_CFG_FORCE_TX_PAUSE p))

/-- The code of SPEED that a mode or the PHY's word gives. -/
def speedOf (s : State) (p lp : Nat) : Nat :=
  if rd s (F.ETHP_PORT_CFG_MODE p) = 1 then 3
  else if rd s (F.ETHP_PORT_CFG_MODE p) = 2 then min 2 (lp / 2 ^ 10 % 4)
  else 2

/-- LINK_UP: synchronisation holds on port `p` and, where it is in use, negotiation has completed with the partner's word
`lp` (R344). -/
def linkUp (p lp : Nat) (s : State) : State :=
  if !(portOn s p) || flag s (F.ETHP_STATUS_LINK p) then s
  else if negotiates s p ∧ !(offersFull s p lp) then anFail p lp s
  else
    let r := pauseOf s p lp
    let w := b2n (negotiates s p) * 2 ^ 30 + speedOf s p lp * 2 ^ 28 + b2n r.1 * 2 ^ 27 + b2n r.2 * 2 ^ 26
      + (if negotiates s p then lp % 2 ^ 16 else 0)
    raise (setReg s (F.ETHP_STATUS_LINK p).addr (word (2 ^ 31 + w))) (F.ETHP_EVT_RAW_LINK_UP p)

/-! ## Time-outs -/

/-- MAC_AGE_EXPIRE: addresses not refreshed for AGE seconds are removed (R347). -/
def macAgeExpire (s : State) : State :=
  setMacs s (s.eth.macs.filter fun e => decide (s.now < e.2.2 + rd s F.ETH_AGE * nsec 1000000000))

/-- MATCH_ENTRY_EXPIRE: match entries that opened 1 s ago are freed (R360). -/
def matchEntryExpire (s : State) : State :=
  { s with eth := { s.eth with ents := s.eth.ents.filter fun e => decide (s.now < e.opened + nsec 1000000000) } }

/-! ## Frames from the host (R348 to R350) -/

/-- A tunnel header names a frame that the bridge can send. -/
def headGood (w : Word) : Bool :=
  decide (fld w 28 4 = 0) && (decide (fld w 24 4 < 4) || decide (fld w 24 4 = 15)) && decide (60 ≤ fld w 0 16)
    && decide (fld w 0 16 ≤ 9212)

/-- A whole frame of the host enters the bridge: to one ETH port, or switched. A bridge that forwards nothing discards it
before it leaves the ports that it would have used (R348, R349, R363). -/
def hostFrame (s : State) (w0 w1 : Word) (f : List Byte) : State :=
  let p := fld w0 24 4
  let i : EthItem := ⟨s.eth.nextId, 4, 0, 0, false, false, bit w0 17, fld w1 16 16, f⟩
  if bridging s then
    let s := if p = 15 then learn s 4 (macSrc f) else s
    if p = 15 then forward s i (routes s 4 f)
    else if linkIsUp s p then forward s i [p]
    else egressDrop s i p
  else ((if p = 15 then routes s 4 f else [p]).filter fun p => decide (p < 4)).foldl (fun s p => tsReport s i p none) s

/-- A fragment sequence is discarded (R349). -/
def tunBad (s : State) : State := bump s A.ETH_TUN_BAD

/-- The assembly of a bundle's fragments. -/
def setFrag (s : State) (b : Nat) (x : Option EthFrag) : State :=
  { s with eth := { s.eth with frags := pset none s.eth.frags b x } }

/-- A fragment joins its assembly, which its last one completes (R349). -/
def fragAdd (s : State) (b : Nat) (x : EthFrag) (w0 : Word) (data : List Byte) : State :=
  let x : EthFrag := ⟨x.next + 1, x.head, x.body ++ data⟩
  let h := x.head.getD 0 0#32
  if bit w0 21 then
    if x.body.length = fld h 0 16 then hostFrame (setFrag s b none) h (x.head.getD 1 0#32) x.body
    else tunBad (setFrag s b none)
  else if x.next < 3 then setFrag s b (some x)
  else tunBad (setFrag s b none)

/-- ETH: an ETH frame of the host arrives on bundle `b`, of `len` payload bytes (R348, R349). -/
def ethFromHost (b len : Nat) (body : List Word) (s : State) : State :=
  if rd s F.ETH_TUNNEL_CFG_PATH = 1 ∧ rd s F.ETH_TUNNEL_CFG_BUNDLE = b ∧ awake s ∧ domRunning s .eth 0 then
    let w0 := body.getD 0 0#32
    let data := (unpackWords (body.drop 4)).take (len - 16)
    let cur := pget none s.eth.frags b
    if len < 16 ∨ 4096 < len ∨ !(headGood w0) then tunBad (setFrag s b none)
    else if fld w0 22 2 = 0 then
      let s := if cur.isSome then tunBad s else s
      fragAdd s b ⟨0, body.take 4, []⟩ w0 data
    else
      match cur with
      | some x => if x.next = fld w0 22 2 then fragAdd s b x w0 data else tunBad (setFrag s b none)
      | none => tunBad s
  else s

/-- The words written to the transmit mailbox make a record (R350). -/
def recordGood (s : State) : Bool :=
  let w0 := s.eth.mbTx.getD 0 0#32
  headGood w0 && decide (s.eth.mbTx.length = 4 + (fld w0 0 16 + 3) / 4)

/-- The transmit mailbox is emptied. -/
def mbTxClear (s : State) : State := { s with eth := { s.eth with mbTx := [] } }

/-- SEND: the record written enters the bridge (R350). -/
def mbSend (s : State) : State :=
  let w := s.eth.mbTx
  let w0 := w.getD 0 0#32
  let s' := mbTxClear s
  if rd s F.ETH_TUNNEL_CFG_PATH = 2 then
    hostFrame s' w0 (w.getD 1 0#32) ((unpackWords (w.drop 4)).take (fld w0 0 16))
  else s'

/-- The next word of the receive mailbox, and the state past it (R350). -/
def mbRead (s : State) : Word × State :=
  match s.eth.mbRx with
  | [] => (0#32, s)
  | r :: rest => (r.getD 0 0#32,
      { s with eth := { s.eth with mbRx := (if r.length ≤ 1 then rest else r.drop 1 :: rest) } })

/-! ## Registers (R343, R350, R363, R364) -/

/-- The checks of a write to the ETH page: CLK_312 while a port is enabled, a word with no room, a SEND of words that make
no record. -/
def ethCheck (a : Nat) (d : Word) (s : State) : Nat :=
  if a = A.ETH_CFG ∧ bit d 8 ≠ flag s F.ETH_CFG_CLK_312 ∧ (List.range 4).any (fun p => flag s (F.ETHP_CTRL_ENABLE p)) then 0x04
  else if a = A.ETH_MB_TX_DATA ∧ 4096 ≤ s.eth.mbTx.length then 0x04
  else if a = A.ETH_MB_TX_CTRL ∧ bit d 31 ∧ !(bit d 30) ∧ !(recordGood s) then 0x03
  else 0

/-- What a refused write to the ETH page still does: the record of a bad SEND is discarded (R350). -/
def ethRefused (a : Nat) (s : State) : State := if a = A.ETH_MB_TX_CTRL then mbTxClear s else s

/-- What a write to the ETH page does beside its registers; ABORT with SEND discards the words. -/
def ethAct (a : Nat) (d : Word) (s : State) : State :=
  if a = A.ETH_MB_TX_DATA then { s with eth := { s.eth with mbTx := s.eth.mbTx ++ [d] } }
  else if a = A.ETH_MB_TX_CTRL ∧ bit d 30 then mbTxClear s
  else if a = A.ETH_MB_TX_CTRL ∧ bit d 31 then mbSend s
  else s

/-- The port of an address of the ETHp pages. -/
abbrev ethpOf (a : Nat) : Nat := (a - 0xA1000) / 0x1000

/-- The checks of a write to an ETHp page (R343, R364). -/
def ethpCheck (a : Nat) (d : Word) (s : State) : Nat :=
  let p := ethpOf a
  if a = (F.ETHP_CTRL_ENABLE p).addr ∧ bit d 0 ∧ rd s (F.LNQ_QUAD_CFG_ROLE 35) ≠ 1 then 0x04
  else if a = (F.ETHP_PORT_CFG_MODE p).addr ∧ flag s (F.ETHP_CTRL_ENABLE p) then 0x04
  else if a = (F.ETHP_CTRL_ENABLE p).addr ∧ bit d 0 ∧ rd s (F.ETHP_PORT_CFG_MODE p) = 1 ∧ !(flag s F.ETH_CFG_CLK_312) then 0x03
  else if a = (F.ETHP_PAUSE_TH_PAUSE_ON p).addr ∧ fld d 16 16 < fld d 0 16 then 0x03
  else 0

/-- A port that is disabled goes down. -/
def ethpAct (a : Nat) (o s : State) : State :=
  let p := ethpOf a
  if a = (F.ETHP_CTRL_ENABLE p).addr ∧ linkIsUp o p ∧ !(flag s (F.ETHP_CTRL_ENABLE p)) then
    raise (portDown s p) (F.ETHP_EVT_RAW_LINK_DOWN p)
  else s

/-- ETH.STATUS (R363). -/
def ethStatus (s : State) : Word :=
  word (b2n (!s.eth.mbRx.isEmpty) * 16 + b2n (tunnelUp s) * 8 + b2n (decide (1024 ≤ s.eth.macs.length)) * 4
    + b2n (bridging s && tcOn s) * 2 + b2n (bridging s))

/-- MB_RX_STATUS, MB_TX_CTRL and MB_TX_FREE (R363). -/
def mbRxStatus (s : State) : Word := word (s.eth.mbRx.length * 2 ^ 16 + (s.eth.mbRx.headD []).length)
def mbTxCtrl (s : State) : Word := word (s.eth.mbTx.length % 4096)
def mbTxFree (s : State) : Word := word (4096 - s.eth.mbTx.length)

/-- SOFT_RESET of the ETH page empties its tables, queues and mailbox (R363). -/
def ethReset (s : State) : State :=
  { s with eth := ⟨[], [], [], [], s.eth.nextId, s.eth.pause, s.eth.paused, [], [], [], s.eth.sent⟩ }

/-- SOFT_RESET of an ETHp page takes the port down. -/
def ethpReset (p : Nat) (s : State) : State := portDown s p

/-- ETH_FRAME_RECEIVED (R345). -/
def execEthFrameReceived (t p sfd : Nat) (frame : List Byte) (fcsOk : Bool) (s : State) :
    Host.Outcome State Fault Refusal :=
  .next (ethFrameReceived p sfd frame fcsOk (at' t s))

/-- PAUSE_QUANTA_END (R345). -/
def execPauseQuantaEnd (t p : Nat) (s : State) : Host.Outcome State Fault Refusal := .next (pauseQuantaEnd p (at' t s))

/-- ETH_FRAME_EGRESS (R346). -/
def execEthFrameEgress (t p sfd : Nat) (s : State) : Host.Outcome State Fault Refusal :=
  .next (ethFrameEgress p sfd (at' t s))

/-- LINK_UP (R344). -/
def execLinkUp (t p lp : Nat) (s : State) : Host.Outcome State Fault Refusal := .next (linkUp p lp (at' t s))

/-- LINK_DOWN (R344). -/
def execLinkDown (t p : Nat) (s : State) : Host.Outcome State Fault Refusal := .next (linkDown p (at' t s))

/-- AN_FAIL (R344). -/
def execAnFail (t p lp : Nat) (s : State) : Host.Outcome State Fault Refusal := .next (anFail p lp (at' t s))

/-- MAC_AGE_EXPIRE (R347). -/
def execMacAgeExpire (t : Nat) (s : State) : Host.Outcome State Fault Refusal := .next (macAgeExpire (at' t s))

/-- MATCH_ENTRY_EXPIRE (R360). -/
def execMatchEntryExpire (t : Nat) (s : State) : Host.Outcome State Fault Refusal := .next (matchEntryExpire (at' t s))

/-- ETH (R348, R349). -/
def execEth (t b len : Nat) (body : List Word) (s : State) : Host.Outcome State Fault Refusal :=
  .next (ethFromHost b len body (at' t s))

end Sys2Proof.Machine
end

