-- ==== Sys2Proof/Machine/LmpBase.lean ====
section
/-!
DEFINITION. What the safety block and the acquisition say to the lamps: engine starts and stops, and the emission
indicator (chapter 18, R456, R461 to R463; 19 R471).
-/

namespace Sys2Proof.Machine

/-- Pattern engine `e`. -/
def lampEng (s : State) (e : Nat) : LampEng := pget LampEng.empty s.lmp.engs e

/-- The state with pattern engine `e` set. -/
def setLampEng (s : State) (e : Nat) (x : LampEng) : State :=
  { s with lmp := { s.lmp with engs := pset LampEng.empty s.lmp.engs e x } }

/-- An engine is started: from the next period start, and counted where it runs already (18 R456). -/
def lampEngStart (s : State) (e : Nat) : State :=
  let x := lampEng s e
  let s := if x.run then bump s A.LMP_ENG_RESTARTS else s
  setLampEng s e { x with start := true, stop := false }

/-- An edge of a start source: 1 EMISSION, 2 RECORDING, 3 TRIGGER, 4 FAULT, 5 STOPPED; `rise` for the start, else the falling
condition (18 R456). -/
def lmpEdge (s : State) (src : Nat) (rise : Bool) : State :=
  (List.range 4).foldl (fun s e =>
    if sysOn s ∧ flag s (F.LENG_CTRL_ENABLE e) ∧ rd s (F.LENG_CTRL_START_SRC e) = src then
      if rise then lampEngStart s e
      else if flag s (F.LENG_CTRL_STOP_ON_FALL e) then setLampEng s e { lampEng s e with start := false, stop := true }
      else s
    else s) s

/-- The device is chip 1 of a pair (12 R336). -/
def chip1 (s : State) : Bool := flag s F.PAIR_CTRL_ENABLE && flag s F.PAIR_ROLE_PAIR_ID

/-- The device is one chip of a pair. -/
def paired (s : State) : Bool := flag s F.PAIR_CTRL_ENABLE

/-- The emission indicator is reported open (18 R463; on chip 1 from the partner's heartbeat, 19 R471). -/
def indicatorOpen (s : State) : Bool :=
  let l := rd s F.LMP_EMIT_CFG_EMIT_LAMP
  if chip1 s then
    match s.pair.partner with
    | some p => p.report.lampOpen
    | none => true
  else !(sysOn s) || !(flag s F.LMP_CTRL_ENABLE) || !(flag s (F.LAMP_CFG_ENABLE l)) || rdBit s A.LMP_OPEN_NOW l

/-- PROOF_TICKS: the ticks of 2 µs (18 R459). -/
def proofTicks (s : State) : Nat :=
  let d := max 1 (rd s F.LMP_PWM_CFG_BASE_DIV) * 10
  (2000 + d - 1) / d

/-- The safety block asks for the lamp's proof: the indicator is forced to EMIT_DUTY, and proof pulses begin
(18 R461, R462). -/
def lampAsk (s : State) : State := { s with lmp := { s.lmp with asked := true, forced := true } }

/-- The laser command has fallen, or the proof cycle has ended before it rose: the indicator is released (18 R461; log
entry 86). -/
def lampRelease (s : State) : State := { s with lmp := { s.lmp with asked := false, forced := false } }

end Sys2Proof.Machine
end

