-- ==== Sys2Proof/Machine/Refs.lean ====
section
/-!
DEFINITION. Reference instants of the timing reference (chapter 07, R180; 01 R33; 13 R537).
-/

namespace Sys2Proof.Machine

/-- PERIOD in units of 2^-32 ns (07 R180). -/
def acqPeriod (s : State) : Nat := rd s F.ACQ_PERIOD_NS * 2 ^ 32 + (reg s A.ACQ_PERIOD_FRAC).toNat

/-- EPOCH in units of 2^-32 ns. -/
def acqEpoch (s : State) : Int := ((rdWide s A.ACQ_EPOCH_SEC_LO * 1000000000 + rd s F.ACQ_EPOCH_NS) * 2 ^ 32 : Nat)

/-- The timing reference in force: 0 FREE, 1 NETWORK, 2 GENLOCK. -/
def refMode (s : State) : Nat := rd s F.ACQ_TIME_REF_MODE

/-- Frames are held in network time: GENLOCK without pulses (01 R33). -/
def genlockHeld (s : State) : Bool := decide (refMode s = 2) && flag s F.ACQ_STATUS_GENLOCK_LOST

/-- The grid of reference instants: in network time or TDC time, its origin and its period in 2^-32 ns (07 R180, 01 R33). -/
def refGrid (s : State) : Option (Bool × Int × Nat) :=
  let ofs := sword (reg s A.ACQ_GENLOCK_OFFSET) * 2 ^ 32
  match refMode s with
  | 0 =>
    match s.acq.anchor.or s.ctl.mot.origin with
    | some a => some (false, (a : Int) * 2 ^ 24, acqPeriod s)
    | none => none
  | 2 =>
    match s.acq.glEdge with
    | none => some (true, acqEpoch s, acqPeriod s)
    | some e =>
      let p := if s.acq.glPeriod = 0 then acqPeriod s else s.acq.glPeriod * 2 ^ 24
      if genlockHeld s then some (true, rnd (netAt s e) 25600 + ofs, p) else some (false, (e : Int) * 2 ^ 24 + ofs, p)
  | _ => some (true, acqEpoch s, acqPeriod s)

/-- The reference instant number `n` of a grid in LSB; `none` where the held counter does not reach it (13 R537). -/
def gridAt (s : State) (g : Bool × Int × Nat) (n : Int) : Option Int :=
  if g.1 then tdcOf s (g.2.1 + n * g.2.2) else some (rnd (g.2.1 + n * g.2.2) (2 ^ 24))

/-- The number of the reference instant nearest to an instant; with the counter held, the last that it has reached
(07 R181, 13 R537). -/
def gridNear (s : State) (g : Bool × Int × Nat) (t : Nat) : Int :=
  if g.1 then
    if s.ntm.mode = .held then (netAt s t - g.2.1 * 25600) / ((max 1 g.2.2) * 25600 : Nat)
    else rnd (netAt s t - g.2.1 * 25600) (max 1 g.2.2 * 25600)
  else rnd ((t : Int) * 2 ^ 24 - g.2.1) (max 1 g.2.2)

/-- The reference instant nearest to an instant, in LSB. -/
def refNear (s : State) (t : Nat) : Option Int :=
  match refGrid s with
  | some g => gridAt s g (gridNear s g t)
  | none => none

/-- The index n of a reference instant (07 R180). -/
def refIndex (s : State) (r : Int) : Int := rnd (netAt s r.toNat - acqEpoch s * 25600) (max 1 (acqPeriod s) * 25600)

/-- The facets of a frame in force. -/
def frameFacets (s : State) : Nat := max 1 (rd s F.ESC_FRAME_CFG_FRAME_FACETS)

/-- The frame facet period P_f times FRAME_FACETS is PERIOD; the frame-derived speed in Q24.8 rpm (10 R289). -/
def frameSpeed (s : State) : Nat :=
  rndN (60000000000 * 256 * 2 ^ 32 * frameFacets s) (max 1 (acqPeriod s * rd s F.MOT_GEOM_FACETS))

end Sys2Proof.Machine
end

