-- ==== Sys2Proof/Machine/Slots.lean ====
section
/-!
DEFINITION. The loop slots: when each is active, their law, and hand-over (chapter 10, R277 to R280, R296, R303).
-/

namespace Sys2Proof.Machine

/-- Loop slot `k`. -/
def slotOf (s : State) (k : Nat) : Slot := pget Slot.empty s.ctl.slots k

/-- The state with loop slot `k` set. -/
def setSlot (s : State) (k : Nat) (x : Slot) : State := { s with ctl := { s.ctl with slots := pset Slot.empty s.ctl.slots k x } }

/-- The polygon mode: 0 OFF, 1 ALIGN, 2 OPEN_SPIN, 3 SPEED, 4 PHASE (10 R304). -/
def motMode (s : State) : Nat := rd s F.MOT_STATUS_MODE

/-- The polygon drive with a change. -/
def onMot (s : State) (f : Mot → Mot) : State := { s with ctl := { s.ctl with mot := f s.ctl.mot } }

/-- The galvanometer drive with a change. -/
def onGal (s : State) (f : Gal → Gal) : State := { s with ctl := { s.ctl with gal := f s.ctl.gal } }

/-- The number of the next tick; TICK_COUNT shows it modulo 2^32 (10 R274, R302). -/
def tickNumber (n : Nat) (s : State) : State :=
  { setReg s A.SCN_TICK_COUNT (word n) with ctl := { s.ctl with tick := n } }

/-- Ticks run (10 R274). -/
def ticking (s : State) : Bool := sysOn s && flag s F.SCN_CTRL_ENABLE

/-- Slot `k` is to be active (10 R279). -/
def slotWanted (s : State) (k : Nat) : Bool :=
  ticking s && flag s (F.SL_CTRL_ENABLE k) &&
    (if k ≤ 1 then decide (1 ≤ motMode s)
     else if k = 2 then decide (3 ≤ motMode s)
     else if k = 3 then decide (motMode s = 4)
     else if k = 4 then flag s F.GAL_CTRL_ENABLE && decide (reg s A.GAL_FAULT_LATCH = 0#32)
     else true)

/-- A blend runs on some slot (10 R296). -/
def blending (s : State) : Bool := s.ctl.slots.any fun p => decide (p.2.n ≠ 0)

/-- The galvanometer set-point starts from the last valid position as slot 4 becomes active, with its ramp ahead; as it
becomes inactive no segment plays and READY falls (10 R279, R294). -/
def galActivate (s : State) (on : Bool) : State :=
  let s := wr (wr s F.GAL_STATUS_READY 0) F.GAL_STATUS_SEG_ACTIVE 0
  if on then
    onGal s fun g => { g with sp := sword (reg s A.GAL_POS) * 200000000, seg := none, done := false, good := 0, missed := 0, raws := [] }
  else onGal s fun g => { g with seg := none, done := false, good := 0, asked := none, missed := 0, raws := [] }

/-- Slot `k` takes up or leaves its role; an inactive slot holds nothing and applies 0 (10 R279). -/
def slotRefresh (s : State) (k : Nat) : State :=
  let want := slotWanted s k
  if want = (slotOf s k).active then s
  else
    let s := wrBit s A.SCN_STATUS k want
    let s := if k = 4 then galActivate s want else s
    if want then setSlot s k { Slot.empty with active := true, due := true }
    else setReg (setReg (setSlot s k Slot.empty) (A.SL_INTEG k) 0#32) (A.SL_OUT k) 0#32

/-- Every slot takes up or leaves its role. -/
def slotsRefresh (s : State) : State :=
  let s := (List.range 8).foldl slotRefresh s
  wrB s F.SCN_STATUS_HANDOVER (blending s)

/-- A hand-over is due on slot `k`, from an old output that is not the slot's own where `old` names one (10 R296). -/
def slotDue (s : State) (k : Nat) (old : Option Int) : State :=
  let x := slotOf s k
  if x.active then setSlot s k { x with due := true, old := old } else s

/-- Fraction bits of a slot's input and of its output (10 R277). -/
def slotIn (k : Nat) : Nat := if k = 2 then 8 else if k = 3 then 4 else 16
def slotOut (k : Nat) : Nat := if k = 3 ∨ k = 4 then 8 else 16

/-- A gain in Q8.24 times 2^GEXP times a value in the input format, in the output format, rounded half away from zero
(10 R278). -/
def gainTimes (s : State) (k : Nat) (gain : Word) (v : Int) : Int :=
  let x : Int := signed 4 (rd s (F.SL_CTRL_GEXP k)) + slotOut k - slotIn k - 24
  if 0 ≤ x then sat48 (sword gain * v * 2 ^ x.toNat) else sat48 (rnd (sword gain * v) (2 ^ (-x).toNat))

/-- The terms of a slot's law at one tick. -/
structure LawTerms where
  e  : Int
  p  : Int
  d  : Int
  ff : Int
  df : Int
  deriving DecidableEq, Repr

/-- The terms of the law on a set-point `r` and an input `y` (10 R278). -/
def lawTerms (s : State) (k : Nat) (x : Slot) (r y : Int) : LawTerms :=
  let e := r - y
  let df := if flag s (F.SL_CTRL_LAW k) then sat48 (x.df + rnd (rd s (F.SL_DFILT_DFILT k) * ((x.yPrev - y) - x.df)) 65536) else x.df
  let d := if flag s (F.SL_CTRL_LAW k) then gainTimes s k (reg s (A.SL_KD k)) df else 0
  ⟨e, gainTimes s k (reg s (A.SL_KP k)) e, d,
    sat48 (gainTimes s k (reg s (A.SL_KFF k)) r + sword (reg s (A.SL_FF_OFS k))), df⟩

/-- The integrator and the blend at a tick: preloaded at a hand-over, else advanced unless the clamp holds it
(10 R278, R296). -/
def lawInteg (s : State) (k : Nat) (x : Slot) (w : LawTerms) : Slot :=
  let lo := sword (reg s (A.SL_OUT_MIN k))
  let hi := sword (reg s (A.SL_OUT_MAX k))
  if x.due then
    let old := x.old.getD (sword (reg s (A.SL_OUT k)))
    let integ := clampI (sat48 (old - sat48 (w.p + w.d + w.ff))) lo hi
    let v := sat48 (w.p + integ + w.d + w.ff)
    { x with integ := integ, delta := old - clampI v lo hi, j := 0, n := rd s F.SCN_HANDOVER_TICKS, due := false, old := none }
  else
    let hold := (decide (hi < x.vPrev) && decide (0 < w.e)) || (decide (x.vPrev < lo) && decide (w.e < 0))
    if hold then x else { x with integ := clampI (sat48 (x.integ + gainTimes s k (reg s (A.SL_KI k)) w.e)) lo hi }

/-- The blend of R296 at this tick. -/
def blendOf (x : Slot) : Int := if x.j < x.n then rnd (x.delta * ((x.n - x.j : Nat) : Int)) x.n else 0

/-- One tick of an active slot on a set-point and an input: its state, its registers, SAT and the monitors; a second hand-over ends
the blend that runs
(10 R278, R296, R301). -/
def slotTick (s : State) (k : Nat) (r y : Int) : State :=
  let x := slotOf s k
  let w := lawTerms s k x r y
  let ended := decide (x.n ≠ 0) && (decide (x.j = x.n) || x.due)
  let x := lawInteg s k (if ended then { x with n := 0, j := 0, delta := 0 } else x) w
  let lo := sword (reg s (A.SL_OUT_MIN k))
  let hi := sword (reg s (A.SL_OUT_MAX k))
  let v := sat48 (w.p + x.integ + w.d + w.ff)
  let out := clampI v lo hi + blendOf x
  let u := sat48 (x.uPrev + rnd (rd s (F.SL_OFILT_OFILT k) * (out - x.uPrev)) 65536)
  let s := setSlot s k { x with df := w.df, yPrev := y, vPrev := v, uPrev := u, next := u, j := if x.j < x.n then x.j + 1 else x.j }
  let s := setReg (setReg s (A.SL_SETPOINT k) (iword r)) (A.SL_MEAS k) (iword y)
  let s := setReg s (A.SL_INTEG k) (iword x.integ)
  let s := if v < lo ∨ hi < v then raiseAt s F.SCN_EVT_RAW_SAT k else s
  let s := if ended then raise s F.SCN_EVT_RAW_HANDOVER_DONE else s
  let s := monSample s 0x070 k w.e
  monSample s 0x071 k u

/-- Slot `k` applies the output of its last tick (10 R275). -/
def slotApply (s : State) (k : Nat) : State :=
  if (slotOf s k).active then setReg s (A.SL_OUT k) (iword (slotOf s k).next) else s

/-! ## The polygon's speed -/

/-- The instant's Hall interval: the larger of the last interval and the time since the last edge (10 R269). -/
def hallInterval (s : State) (t : Nat) : Nat := max s.ctl.mot.hall (t - s.ctl.mot.edge)

/-- A speed in Q24.8 rpm from `n` parts of a revolution in `d` LSB (10 R284). -/
def rpmOf (n d : Nat) : Nat := if d = 0 then 0 else rndN (60000000000 * 65536) (n * d)

/-- The Hall speed in Q24.8 rpm; 0 until two edges have been timed since the mode left OFF (10 R269, R284). -/
def hallSpeed (s : State) (t : Nat) : Nat :=
  if s.ctl.mot.edges < 2 then 0 else rpmOf (6 * rd s F.MOT_GEOM_POLE_PAIRS) (hallInterval s t)

/-- The index-derived speed in Q24.8 rpm, over the last revolution (10 R284). -/
def indexSpeed (s : State) : Nat :=
  let l := s.ctl.mot.idx
  match l.head?, l[rd s F.MOT_GEOM_FACETS]? with
  | some a, some b => rpmOf 1 (a - b)
  | _, _ => 0

/-- The speed model is valid (10 R283). -/
def modelValid (s : State) : Bool := flag s F.MOT_STATUS_MODEL_VALID

/-- OPEN_RPM in Q24.8. -/
def openRpm (s : State) : Nat := rd s F.MOT_OPEN_OPEN_RPM * 256

/-- The Hall speed is renewed: at a Hall edge and at a tick of slot 2 (10 R284). -/
def hallRenew (s : State) : State := onMot s fun m => { m with hallNow := hallSpeed s s.now }

/-- The speed input of slot 2 (10 R284). -/
def measSpeed (s : State) : Nat := if flag s F.MOT_STATUS_SPEED_SRC then indexSpeed s else s.ctl.mot.hallNow

/-! ## Modes of the polygon -/

/-- The speed model becomes invalid (10 R283). -/
def modelDrop (s : State) : State :=
  let s := onMot s fun m => { m with run := 0, since := 0, window := 0 }
  if modelValid s then modelLost (wr (wr s F.MOT_STATUS_MODEL_VALID 0) F.MOT_STATUS_SPEED_SRC 0) else s

/-- PHASE is left: no phase state remains (10 R289, R291). -/
def phaseClear (s : State) : State :=
  onMot (wr s F.MOT_STATUS_PHASE_LOCK 0) fun m => { m with errs := [], good := 0, bad := 0, phase := 0 }

/-- The set-point of slot 2 in PHASE: the frame-derived speed plus the output of slot 3, Q24.8 (10 R289). -/
def phaseSum (s : State) : Int := frameSpeed s + sword (reg s (A.SL_OUT 3))

/-- The polygon enters a mode (10 R285, R286, R289, R296). -/
def setMode (s : State) (new : Nat) : State :=
  let old := motMode s
  if new = old then s
  else
    let sum := phaseSum s
    let lastIq := sword (reg s (A.SL_SETPOINT 1))
    let meas := measSpeed s
    let s := raise (wr s F.MOT_STATUS_MODE new) F.MOT_EVT_RAW_MODE_CHANGE
    let s := onMot s fun m => { m with stepAt := s.now, lower := none }
    let s := if old = 0 then onMot (wr s F.MOT_STATUS_STANDSTILL 0) fun m =>
        { m with left := true, edges := 0, seq := 0, hall := 0, hallNow := 0, lost := 0 } else s
    let s := if new < 3 then onMot (wr (modelDrop s) F.MOT_STATUS_AT_SPEED 0) fun m => { m with iq := none } else s
    let s := if old = 4 then phaseClear s else s
    let s :=
      if new = 0 then
        onMot s fun m => { m with gen := 0, angle := 0, sp := 0, duty := noVolts, next := noVolts }
      else if new ≤ 2 then onMot s fun m => { m with gen := 0, angle := 0 }
      else if new = 3 ∧ old = 4 then onMot s fun m => { m with sp := sum * 200000000 }
      else if new = 3 then onMot s fun m => { m with sp := (meas : Int) * 200000000, run := 0, iq := some (lastIq, false) }
      else s
    let s := if (new ≤ 2 ∨ old ≤ 2) then slotDue (slotDue s 0 none) 1 none else slotDue s 2 none
    let s := slotsRefresh s
    if new = 3 ∧ old ≤ 2 then slotDue s 2 (some lastIq) else s

/-- Torque is removed: the mode is OFF, and COASTING is set when it was not (10 R298). -/
def torqueOff (s : State) : State :=
  let s := wr (wr s F.MOT_STATUS_STOPPING 0) F.MOT_STATUS_PHASE_PENDING 0
  let s := onMot s fun m => { m with goal := 0 }
  if motMode s = 0 then s else setMode (wr s F.MOT_STATUS_COASTING 1) 0

/-- The stop of R288 on a safe-stop request. -/
def motStop (s : State) : State :=
  if motMode s = 0 then s
  else
    let s := wr (wr s F.MOT_STATUS_STOPPING 1) F.MOT_STATUS_PHASE_PENDING 0
    let s := setMode s 3
    onMot s fun m => { m with goal := 3, stepAt := s.now, lower := none }

/-- The target of slot 2's ramp and its rate in rpm/s (10 R286 to R289). -/
def rampTarget (s : State) : Nat × Nat :=
  if flag s F.MOT_STATUS_STOPPING then (0, rd s F.MOT_STOP_RATE)
  else (if flag s F.MOT_STATUS_PHASE_PENDING then frameSpeed s else rd s F.MOT_SPEED_TARGET, rd s F.MOT_RAMP_RATE)

/-- A value moved towards another by at most a step. -/
def approach (v target step : Int) : Int := if v ≤ target then min (v + step) target else max (v - step) target

end Sys2Proof.Machine
end

