-- ==== Sys2Proof/Machine/PairBase.lean ====
section
/-!
DEFINITION. What the other blocks do for the pair: its frames, the mirror at a tick, the tiles that are compared
(chapter 19).
-/

namespace Sys2Proof.Machine

/-- The pair changed. -/
def onPair (s : State) (f : Pair → Pair) : State := { s with pair := f s.pair }

/-- The pair's role: 0 SINGLE, 1 ACTIVE, 2 STANDBY. -/
def pairRole (s : State) : Nat := rd s F.PAIR_ROLE_ROLE

/-- The pair bundle, where it is UP (19 R473). -/
def pairBundle (s : State) : Option Nat := (List.range 32).find? fun b => flag s (F.B_CFG_PAIR b) && bundleUp s b

/-- The pair bundle is UP. -/
def pairUp (s : State) : Bool := paired s && (pairBundle s).isSome

/-- A PAIR frame of a subtype is sent, its payload filled with zeros to `bytes` (19 R472; log entry 87). -/
def pairSend (s : State) (sub bytes : Nat) (body : List Word) : State :=
  match paired s, pairBundle s with
  | true, some b =>
    let n := pget 0 s.pair.seqs sub
    let s := onPair s fun p => { p with seqs := pset 0 p.seqs sub ((n + 1) % 2 ^ 24) }
    queueFrame s b ⟨8, 1, 0, bytes, ((word (sub * 2 ^ 24 + n) :: body) ++ List.replicate (bytes / 4) 0#32).take (bytes / 4)⟩
  | _, _ => s

/-- `n` words whose values are free. -/
def freeWords : Nat → State → List Word × State
  | 0, s => ([], s)
  | n + 1, s =>
    let r := takeFree s 32
    let q := freeWords n r.2
    (word r.1 :: q.1, q.2)

/-! ## The mirror (19 R478) -/

/-- The active device sends its loop state of a tick; how 192 bytes hold it is not stated, and is free (log entry 87). -/
def mirrorSend (s : State) : State :=
  if pairRole s = 1 ∧ pairUp s then
    let r := freeWords 47 s
    pairSend r.2 4 192 r.1
  else s

/-- A slot takes its mirrored state. -/
def slotMirror (s : State) (k : Nat) (m : SlotMirror) : State :=
  setSlot s k { slotOf s k with
    integ := m.integ, df := m.df, yPrev := m.yPrev, vPrev := m.vPrev, uPrev := m.uPrev, delta := m.delta, j := m.j, n := m.n }

/-- The standby takes the state that its partner computed at the tick before. -/
def mirrorState (s : State) (m : LoopMirror) : State :=
  let s := m.slots.zipIdx.foldl (fun s x => if x.2 < 8 then slotMirror s x.2 x.1 else s) s
  let s := onMot s fun x => { x with sp := m.sp2, phase := m.phase, angle := m.angle }
  let s := onGal s fun x => { x with sp := m.sp4, seg := m.seg }
  wrB (wr s F.MOT_STATUS_MODE m.mode) F.MOT_STATUS_STOPPING m.stop

/-- At tick `n` of a standby: the mirror of the tick before replaces its own state where it came at least 2 µs before; else
the tick is late (19 R478). -/
def mirrorTake (t n : Nat) (s : State) : State :=
  if pairRole s ≠ 2 ∨ !(flag s F.PAIR_STATUS_ARBITRATED) then s
  else
    let take := match s.pair.mirror with
      | some (a, m) => if (m.tick + 1) % 2 ^ 32 = n ∧ a + usec 2 ≤ t then some m else none
      | none => none
    match take with
    | some m => mirrorState (onPair s fun p => { p with mirror := none, good := min 16 (p.good + 1) }) m
    | none => bump (onPair s fun p => { p with mirror := none, good := 0 }) A.PAIR_MIRROR_LATE

/-! ## Tiles (19 R479) -/

/-- The tiles of a frame in a list of frames. -/
def cmpFrame (l : List CmpFrame) (frame : Nat) : CmpFrame := (l.find? fun x => decide (x.frame = frame)).getD ⟨frame, [], false, false⟩

/-- The list with a frame replaced. -/
def cmpPut (l : List CmpFrame) (x : CmpFrame) : List CmpFrame := l.filter (fun y => decide (y.frame ≠ x.frame)) ++ [x]

/-- A tile of two lists mismatches; `a` is the active device's (19 R479). -/
def tileDiffers (s : State) (a b : List (Nat × Nat × Nat)) (k : Nat) : Bool :=
  let find (l : List (Nat × Nat × Nat)) : Nat × Nat := ((l.find? fun x => decide (x.1 = k)).map (·.2)).getD (0, 0)
  let x := find a
  let y := find b
  decide (rd s F.PAIR_TOLERANCE_TOL_PIX < ((x.1 : Int) - y.1).natAbs)
    || decide (rd s F.PAIR_TOLERANCE_TOL_DEPTH * max x.1 1 < ((x.2 : Int) - y.2).natAbs)

/-- A frame of which both devices have given every tile is compared (19 R479). -/
def cmpJudge (s : State) (frame : Nat) : State :=
  let m := cmpFrame s.pair.mine frame
  let p := cmpFrame s.pair.theirs frame
  if m.ended ∧ p.ended then
    let s := onPair s fun x => { x with mine := x.mine.filter fun y => decide (frame < y.frame),
                                        theirs := x.theirs.filter fun y => decide (frame < y.frame) }
    if m.stopped ∨ p.stopped then s
    else
      let (a, b) := if pairRole s = 1 then (m.tiles, p.tiles) else (p.tiles, m.tiles)
      let s := bump s A.PAIR_CMP_FRAMES
      if (a ++ b).any fun x => tileDiffers s a b x.1 then raise (bump s A.PAIR_CMP_MISMATCH) F.PAIR_EVT_RAW_CMP_MISMATCH else s
  else s

/-- The pair compares the P3 tiles of a region (19 R479). -/
def compares (s : State) (r : Nat) : Bool := paired s && flag s F.PAIR_CFG_CMP_EN && decide (rd s F.PAIR_CFG_CMP_REGION = r)

/-- A P3 tile of a region completes: it is sent and kept for the comparison (19 R472, R479). -/
def cmpTile (s : State) (r frame tile valid dsum : Nat) : State :=
  if compares s r then
    let s := pairSend s 6 28 [word frame, word (frame / 2 ^ 32), 0#32, word tile, word valid, word dsum]
    let x := cmpFrame s.pair.mine frame
    onPair s fun p => { p with mine := cmpPut p.mine { x with tiles := x.tiles ++ [(tile, valid, dsum)] } }
  else s

/-- A frame has ended: its tiles are all known, and the partner is told so (19 R479; log entry 87). -/
def cmpEnd (s : State) (frame : Nat) (stopped : Bool) : State :=
  if paired s ∧ flag s F.PAIR_CFG_CMP_EN then
    let s := pairSend s 6 16 [word frame, word (frame / 2 ^ 32), word (1 + 2 * b2n stopped)]
    let x := cmpFrame s.pair.mine frame
    cmpJudge (onPair s fun p => { p with mine := cmpPut p.mine { x with ended := true, stopped := stopped } }) frame
  else s

/-! ## Time and plan (19 R472, R477; 14 R380) -/

/-- The active device tells of an INCREMENT or a step: the edge at which it applies, and what it is (19 R472, R477). -/
def timeSend (s : State) (edge : Nat) (incr : Option Nat) (step : Option Int) : State :=
  if pairRole s = 1 then
    let i := incr.getD 0
    let d := step.getD 0
    pairSend s 5 32 [word edge, word (i / 2 ^ 32), word i, iword (d / 1000000000), iword (d / 1000000000 / 2 ^ 32),
      iword (d % 1000000000)]
  else s

/-- The active device's plan state and sets, every beat (19 R472; 14 R380). -/
def planMirror (s : State) : State :=
  if pairRole s = 1 then
    let w (n : Nat) : List Word := (List.range 8).map fun i => word (n / 2 ^ (32 * i))
    pairSend s 7 128 (word (rd s F.PLN_STATUS_STATE) :: (w s.pln.held ++ w s.pln.pending ++ w s.pln.grant))
  else s

/-- A SILENT standby admits nothing to its queues; after a takeover, nothing of the positions before it (19 R483). -/
def silent (s : State) (key : Nat) : Bool :=
  (decide (pairRole s = 2) && !(flag s F.PAIR_CFG_STANDBY_STREAM)) || decide (key < s.pair.bar)

end Sys2Proof.Machine
end

