-- ==== Sys2Proof/Machine/Pln.lean ====
section
/-!
DEFINITION. The Ryhotil slot plan (chapter 14). A slot set is a number: bit i for slot i.
-/

namespace Sys2Proof.Machine

/-! ## Slot sets -/

/-- The slots of `a` that are not in `b`. -/
def slotDiff (a b : Nat) : Nat := a ^^^ (a &&& b)

/-- The number of slots of a set. -/
def slotCount (a : Nat) : Nat := (List.range 256).countP fun i => a.testBit i

/-- SLOTS, and the set of every slot (R366). -/
def slotsN (s : State) : Nat := rd s F.PLN_PLAN_CFG_SLOTS_M1 + 1
def allSlots (s : State) : Nat := 2 ^ slotsN s - 1

/-- The set of eight words, the lowest slots first. -/
def ofWords (l : List Word) : Nat := l.foldr (fun w n => w.toNat + n * 2 ^ 32) 0

/-- Word `i` of a set. -/
def setWord (a i : Nat) : Word := word (a >>> (32 * i))

/-- PREF in force. -/
def prefSet (s : State) : Nat := ofWords ((List.range 8).map fun i => reg s (A.PLN_PREF i))

/-! ## Plan time (R366) -/

/-- Plan time does not stand: network time advances (13 R537). -/
def planClock (s : State) : Bool := awake s && domRunning s .tkp 0 && decide (s.ntm.mode ≠ .held)

/-- Network time in whole nanoseconds at an instant, which a half LSB of rounding does not carry below a boundary. -/
def planNs (s : State) (t : Nat) : Nat := ((netAt s t + nsU / 512) / nsU).toNat

/-- The number of the cycle in progress. -/
def planCycle (s : State) (t : Nat) : Nat := planNs s t / max 1 (rd s F.PLN_PLAN_CFG_CYCLE_NS) % 2 ^ 48

/-- BEAT in nanoseconds, and the number of the beat in progress. -/
def beatNs (s : State) : Nat := max 1 (rd s F.PLN_BEAT_BEAT_MS) * 1000000
def beatAt (s : State) (t : Nat) : Nat := planNs s t / beatNs s % 2 ^ 16

/-- Beat `a` is at or after beat `b` (02 R59). -/
def beatGe (a b : Nat) : Bool := decide ((a + 2 ^ 16 - b % 2 ^ 16) % 2 ^ 16 < 2 ^ 15)

/-- The slot of a TDC time (R366). -/
def slotAt (s : State) (t : Nat) : Nat :=
  let c := max 1 (rd s F.PLN_PLAN_CFG_CYCLE_NS)
  (netAt s t / nsU).toNat % c / max 1 (c / slotsN s)

/-! ## State and grant (R367) -/

/-- The plan state, as PLN.STATUS.STATE codes it. -/
abbrev planState (s : State) : Nat := rd s F.PLN_STATUS_STATE

/-- The state with the plan engine's own part changed. -/
def onPln (s : State) (f : Pln → Pln) : State := { s with pln := f s.pln }

/-- The grant in force. -/
def planGrant (s : State) : Nat :=
  if planState s = 0 ∨ planState s = 5 then 2 ^ 256 - 1 else s.pln.grant &&& allSlots s

/-- A shot whose commanded edge lies at `t` has its slot (04 R113). -/
def slotGranted (s : State) (t : Nat) : Bool := (planGrant s).testBit (slotAt s t)

/-- A change of the grant in force sets GRANT_CHANGE (R376). -/
def grantWatch (o s : State) : State :=
  if planGrant o = planGrant s then s else raise s F.PLN_EVT_RAW_GRANT_CHANGE

/-- MEMBERSHIP in force is STANDALONE. -/
def standalone (s : State) : Bool := flag s F.PLN_MEMBERSHIP

/-- The engine enters a state with nothing held or pending (R367, R377). -/
def planEnter (s : State) (st : Nat) : State :=
  grantWatch s (onPln (wr s F.PLN_STATUS_STATE st) fun p => { Pln.empty with beat := p.beat, peers := p.peers })

/-- The state that ENABLE, the power state, MEMBERSHIP and the pair role give a plan that holds nothing: below READY only
OFF or LISTEN (R367). -/
def planHome (s : State) : Nat :=
  if !(flag s F.PLN_CTRL_ENABLE) then 0
  else if pstate s < 3 then 1
  else if standalone s then 5
  else if rd s F.PAIR_ROLE_ROLE = 2 then 6
  else 1

/-- The engine starts in the state that it belongs in. -/
def planStart (s : State) : State := planEnter s (planHome s)

/-- A farewell begins: in the next beat every held slot is released, and the state that the plan then belongs in follows
(R377). -/
def planFarewell (s : State) : State := onPln s fun p => { p with leaving := 2 }

/-- ENABLE is written; a farewell under way goes on to its end (R377). -/
def planEnable (s : State) : State :=
  if s.pln.leaving ≠ 0 then s
  else if flag s F.PLN_CTRL_ENABLE then planStart s
  else if planState s = 5 ∨ planState s = 6 then planEnter s 0
  else planFarewell s

/-- MEMBERSHIP takes effect; below READY the plan listens whichever it is (R367, R377). -/
def planMembership (s : State) : State :=
  if planState s = 0 ∨ s.pln.leaving ≠ 0 then s
  else if standalone s then
    if planState s = 6 then planEnter s 5 else if pstate s < 3 then s else planFarewell s
  else planStart s

/-- The device leaves READY for TIMEKEEP (R377). -/
def planTimekeep (s : State) : State :=
  if planState s = 0 then s
  else if planState s = 5 ∨ planState s = 6 then planStart s
  else planFarewell (onPln (wr s F.PLN_STATUS_STATE 1) fun p => { p with pending := 0, claims := [], claim := 0 })

/-- The device enters READY: a plan that listened goes on listening, unless it is STANDALONE or in TRACK (R367). -/
def planReady (s : State) : State :=
  if planState s = 1 ∧ s.pln.leaving = 0 ∧ planHome s ≠ 1 then planStart s else s

/-- The device leaves for SLEEP: the engine stops and holds nothing (R377). -/
def planSleep (s : State) : State := onPln (planStart s) fun _ => Pln.empty

/-! ## Choosing slots (R372, R378) -/

/-- The folded unit code. -/
def unitFold (u : Nat) : Nat := (u ^^^ u >>> 8 ^^^ u >>> 16 ^^^ u >>> 24) % 256

/-- The start slot of a beat. -/
def startSlot (s : State) (beat : Nat) : Nat :=
  (unitFold (reg s A.PLN_UNIT_CODE).toNat ^^^ beat % 256) % slotsN s

/-- The slots in circular order from the start slot, those of PREF first. -/
def slotOrder (s : State) (beat : Nat) : List Nat :=
  let l := (List.range (slotsN s)).map fun k => (startSlot s beat + k) % slotsN s
  l.filter (fun i => (prefSet s).testBit i) ++ l.filter fun i => !((prefSet s).testBit i)

/-- The peers in use. -/
def peersOf (s : State) : List Peer := s.pln.peers.filterMap (·.2)

/-- The slots that are not free (R372). -/
def occupied (s : State) : Nat := (peersOf s).foldl (fun n p => n ||| p.held ||| p.claim) (s.pln.held ||| s.pln.pending)

/-- WANT in force. -/
abbrev wanted (s : State) : Nat := rd s F.PLN_WANT

/-- SHORT (R378). -/
def planShort (s : State) : Bool :=
  decide (planState s ≠ 0) && decide (slotCount s.pln.held < wanted s) && decide (slotDiff (allSlots s) (occupied s) = 0)

/-- The slots of a list as a set. -/
def slotSet (l : List Nat) : Nat := l.foldl (fun n i => n ||| 2 ^ i) 0

/-- Free slots are claimed (R372). -/
def planChoose (s : State) : State :=
  let b := s.pln.beat
  let want := wanted s - slotCount s.pln.held - slotCount s.pln.pending
  let c := slotSet (((slotOrder s b).filter fun i => !((occupied s).testBit i)).take want)
  if c = 0 then s
  else onPln s fun p => { p with pending := p.pending ||| c, claims := p.claims ++ [(b, c)], claim := p.claim ||| c }

/-- CLAIM or SETTLED, as the sets stand (R367). -/
def planSettle (s : State) : State :=
  if planState s = 2 ∨ planState s = 3 then
    wr s F.PLN_STATUS_STATE (if slotCount s.pln.held = wanted s ∧ s.pln.pending = 0 then 3 else 2)
  else s

/-- Slots leave the held set; they leave the grant at the next epoch boundary (R376). -/
def planDrop (s : State) (c : Nat) : State :=
  onPln s fun p => { p with
    held := slotDiff p.held c, drops := p.drops ||| c, adds := p.adds.map fun a => (slotDiff a.1 c, a.2) }

/-- Surplus slots are released: those outside PREF first, then the latest in the circular order (R377). -/
def planSurplus (s : State) : State :=
  let n := slotCount s.pln.held - wanted s
  let c := slotSet ((((slotOrder s s.pln.beat).filter fun i => s.pln.held.testBit i).reverse).take n)
  if c = 0 then s else onPln (planDrop s c) fun p => { p with release := p.release ||| c }

/-! ## Conflicts (R373, R374) -/

/-- The pair (PRIORITY, UNIT) as one number. -/
def precedence (priority unit : Nat) : Nat := priority * 2 ^ 32 + unit
def ownPriority (s : State) : Nat := rd s F.PLN_PRIORITY_PRIORITY
def ownPrecedence (s : State) : Nat := precedence (ownPriority s) (reg s A.PLN_UNIT_CODE).toNat

/-- The claimed slots and the held slots that are lost to a peer (R373). -/
def lostTo (s : State) (q : Peer) : Nat × Nat :=
  let lower := ownPrecedence s < precedence q.priority q.unit
  ((if lower then s.pln.pending &&& q.claim else 0) ||| (if ownPriority s ≤ q.priority then s.pln.pending &&& q.held else 0),
   (if ownPriority s < q.priority then s.pln.held &&& q.claim else 0) ||| (if lower then s.pln.held &&& q.held else 0))

/-- A loss is counted and choices are put off (R373, R374). -/
def planLose (s : State) (n : Nat) : State :=
  if n = 0 then s
  else
    let b := s.pln.beat
    let k := 1 + (unitFold (reg s A.PLN_UNIT_CODE).toNat ^^^ b % 256) % 8
    raise (bumpBy (onPln s fun p => { p with backoff := some ((b + k) % 2 ^ 16) }) A.PLN_CONFLICTS_LOST n)
      F.PLN_EVT_RAW_SLOT_LOST

/-- The conflicts with a peer are resolved (R373, R374). -/
def planConflicts (s : State) (q : Peer) : State :=
  let l := lostTo s q
  let s' := onPln s fun p => { p with
    pending := slotDiff p.pending l.1, claims := p.claims.map (fun c => (c.1, slotDiff c.2 l.1)), claim := slotDiff p.claim l.1,
    releaseNext := p.releaseNext ||| l.2, confirm := slotDiff p.confirm l.2 }
  planSettle (planLose (planDrop s' l.2) (slotCount l.1 + slotCount l.2))

/-! ## Beats (R370 to R375) -/

/-- At a beat start claim sets of peers lapse after three beats, and silent peers are dropped (R370, R371). -/
def peersBeat (s : State) : State :=
  let b := s.pln.beat
  let gone (q : Peer) : Bool := decide (3 ≤ q.silent)
  let n := (peersOf s).countP gone
  let s := onPln s fun p => { p with peers := p.peers.filterMap fun e =>
    match e.2 with
    | none => none
    | some q =>
      if gone q then none
      else some (e.1, some { q with silent := q.silent + 1, claim := if beatGe b (q.claimBeat + 3) then 0 else q.claim }) }
  if n = 0 then s else raise (bumpBy s A.PLN_PEER_DROPS n) F.PLN_EVT_RAW_PEER_DROP

/-- Claims made two beats ago complete (R375). -/
def claimsComplete (s : State) : State :=
  let due := s.pln.claims.filter fun c => beatGe s.pln.beat (c.1 + 2)
  let c := due.foldl (fun n c => n ||| c.2) 0
  onPln s fun p => { p with
    claims := p.claims.filter (fun c => !(beatGe p.beat (c.1 + 2))), pending := slotDiff p.pending c, held := p.held ||| c,
    confirm := p.confirm ||| c }

/-- Neither a claim of the unit's own nor a peer's is pending. -/
def planQuiet (s : State) : Bool := decide (s.pln.pending = 0) && (peersOf s).all fun q => decide (q.claim = 0)

/-- The beat that ends is counted toward CONVERGED, and the next begins (R378). -/
def quietEnd (s : State) : State := onPln s fun p => { p with quiet := if p.quietNow then min 3 (p.quiet + 1) else 0 }
def quietBegin (s : State) : State := onPln s fun p => { p with quietNow := planQuiet s }

/-- The farewell: its beat releases everything, and the state after it follows at its end (R377). -/
def farewellBeat (s : State) : State :=
  if s.pln.leaving = 2 then
    let h := s.pln.held
    onPln (planDrop s h) fun p => { p with
      pending := 0, claims := [], claim := 0, confirm := 0, release := h, beatDue := true, leaving := 1 }
  else
    let s := planStart s
    if planState s = 1 then onPln s fun p => { p with listened := 1 } else s

/-- LISTEN counts its whole beats and ends, in READY, at the start of the beat after the third (R372, R377, R379). -/
def listenBeat (s : State) : State :=
  if s.pln.listened < 3 ∨ pstate s < 3 then onPln s fun p => { p with listened := min 3 (p.listened + 1) }
  else
    let s := if s.pln.rejoin then raise s F.PLN_EVT_RAW_REJOINED else s
    onPln (wr s F.PLN_STATUS_STATE 2) fun p => { p with rejoin := false, listened := 0 }

/-- A choice is due: slots are wanted and no back-off runs (R372, R374). -/
def mayChoose (s : State) : Bool :=
  match s.pln.backoff with
  | some b => beatGe s.pln.beat b
  | none => true

/-- What a beat start does in the states that claim (R372 to R377). -/
def claimBeat (s : State) : State :=
  let s := planSurplus s
  planSettle (if mayChoose s then planChoose (onPln s fun p => { p with backoff := none }) else s)

/-- What a beat start does in a state of the plan (R367). -/
def stateBeat (s : State) : State :=
  let s := onPln s fun p => { p with
    release := p.releaseNext, releaseNext := 0, claim := 0,
    beatDue := decide (planState s ≠ 0) && decide (planState s < 5) }
  if s.pln.leaving ≠ 0 then farewellBeat s
  else
    let s := claimsComplete s
    let s := if planState s = 1 then listenBeat s else s
    if planState s = 2 ∨ planState s = 3 then claimBeat s else s

/-- BEAT_START (R372). -/
def beatStart (t : Nat) (s : State) : State :=
  if planClock s then
    let s := quietEnd (onPln s fun p => { p with beat := beatAt s t })
    let s := peersBeat s
    planMirror (if planState s = 0 ∧ s.pln.leaving = 0 then s else quietBegin (grantWatch s (stateBeat s)))
  else s

/-! ## Messages (R368, R369) -/

/-- The slot words of a set, little-endian. -/
def setWords (a : Nat) : List Word := (List.range 8).map (setWord a)

/-- A plan message, without its FCS; its SHORT says that the sender holds fewer slots than it wants (R368). -/
def planFrame (s : State) (type subject effect : Nat) : List Byte :=
  let w0 := word (2 ^ 24 + type * 2 ^ 20 + b2n (slotCount s.pln.held < wanted s) * 2 ^ 18 + b2n (degraded s) * 2 ^ 17
    + b2n (planState s = 4) * 2 ^ 16 + ownPriority s * 2 ^ 8)
  let src := fld (reg s A.PLN_SRC_HI) 0 16 * 2 ^ 32 + (reg s A.PLN_SRC_LO).toNat
  beBytes (planMcast s) 6 ++ beBytes src 6 ++ beBytes (rd s F.PLN_ETYPE) 2 ++ unpackWords
    ([w0, reg s A.PLN_UNIT_CODE, word ((slotsN s - 1) * 2 ^ 24 + s.pln.beat), word (rd s F.PLN_PLAN_CFG_CYCLE_NS)]
      ++ setWords s.pln.held ++ setWords subject ++ [word effect, 0#32])

/-- A plan message enters the bridge and is counted; a bridge that forwards nothing takes none (R369). -/
def planPut (s : State) (type subject effect : Nat) : State :=
  if bridging s then
    let f := planFrame s type subject effect
    let s := learn (bump s A.PLN_MSG_TX) 5 (macSrc f)
    forward s ⟨s.eth.nextId, 5, 0, 0, false, false, false, 0, f⟩ (routes s 5 f)
  else s

/-- The epoch boundary at which slots confirmed now enter the grant: the first at least one beat away (R376). -/
def addEpoch (s : State) (t : Nat) : Nat :=
  let e := max 1 (256 * rd s F.PLN_PLAN_CFG_CYCLE_NS)
  (planNs s t + beatNs s + e - 1) / e * 256 % 2 ^ 48

/-- CONFIRM is sent, and its slots wait for their epoch boundary (R375, R376). -/
def sendConfirm (s : State) : State :=
  let c := s.pln.confirm
  let e := addEpoch s s.now
  onPln (planPut s 3 c (e % 2 ^ 32)) fun p => { p with confirm := 0, adds := p.adds ++ [(c, e, false)] }

/-- PLAN_MSG_SEND: the due messages are sent back to back: RELEASE, CONFIRM, CLAIM, HEARTBEAT; a CONFIRM due in a state
that sends none stays due (R367, R369). -/
def planMsgSend (s : State) : State :=
  if planClock s ∧ s.pln.beatDue then
    let full := decide (planState s = 2) || decide (planState s = 3) || decide (s.pln.leaving ≠ 0)
    let s := if full && decide (s.pln.release ≠ 0) then planPut s 4 s.pln.release 0 else s
    let s := if s.pln.confirm ≠ 0 then (if full then sendConfirm s else s) else s
    let s := if full && decide (s.pln.claim ≠ 0) then planPut s 2 s.pln.claim 0 else s
    let s := if planState s = 1 ∧ s.pln.held = 0 ∧ s.pln.leaving = 0 then s else planPut s 1 0 0
    onPln s fun p => { p with release := 0, claim := 0, beatDue := false }
  else s

/-! ## Received messages (R370) -/

/-- Word `i` of a payload. -/
def payWord (w : List Word) (i : Nat) : Word := w.getD i 0#32

/-- The peer entry of a unit, with its index. -/
def peerOf (s : State) (u : Nat) : Option (Nat × Peer) :=
  s.pln.peers.findSome? fun e =>
    match e.2 with
    | some q => if q.unit = u then some (e.1, q) else none
    | none => none

/-- The lowest free entry of the peer table. -/
def freePeer (s : State) : Option Nat := (List.range 64).find? fun i => pget none s.pln.peers i = none

/-- What a message makes of a peer's entry. -/
def peerTake (s : State) (q : Peer) (w : List Word) : Peer :=
  let type := fld (payWord w 0) 20 4
  let subject := ofWords ((w.drop 12).take 8) &&& allSlots s
  let held := ofWords ((w.drop 4).take 8) &&& allSlots s
  { q with
    priority := fld (payWord w 0) 8 8, degraded := bit (payWord w 0) 17, detached := bit (payWord w 0) 16,
    held := if type = 4 then slotDiff held subject else held,
    claim := if type = 2 then subject else if type = 1 then q.claim else slotDiff q.claim subject,
    claimBeat := if type = 2 then fld (payWord w 2) 0 16 else q.claimBeat,
    beat := fld (payWord w 2) 0 16, silent := 0 }

/-- A frame is discarded as a mismatch. -/
def planMismatch (s : State) : State := raise (bump s A.PLN_CFG_MISMATCH) F.PLN_EVT_RAW_CFG_MISMATCH

/-- A peer's entry is created or refreshed, and conflicts with it are resolved. -/
def peerMessage (s : State) (w : List Word) (i : Nat) (q : Peer) (new : Bool) : State :=
  let q := peerTake s q w
  let s := bump s A.PLN_MSG_RX
  let s := if new then raise s F.PLN_EVT_RAW_PEER_JOIN else s
  let s := onPln s fun p => { p with peers := pset none p.peers i (some q), quietNow := p.quietNow && decide (q.claim = 0) }
  if planState s = 0 ∨ 5 ≤ planState s then s else planConflicts s q

/-- A plan frame is handled in the order of R370; in TRACK a frame of the unit's own code is the active partner's. -/
def planHandle (s : State) (w : List Word) (bytes : Nat) : State :=
  let u := (payWord w 1).toNat
  let type := fld (payWord w 0) 20 4
  if bytes < 88 ∨ fld (payWord w 0) 24 8 ≠ 1 ∨ type = 0 ∨ 4 < type then planMismatch s
  else if fld (payWord w 2) 24 8 + 1 ≠ slotsN s ∨ fld (payWord w 3) 0 24 ≠ rd s F.PLN_PLAN_CFG_CYCLE_NS then planMismatch s
  else if u = (reg s A.PLN_UNIT_CODE).toNat then
    if planState s = 6 then s else raise (bump s A.PLN_DUP_UNIT) F.PLN_EVT_RAW_DUP_UNIT
  else
    match peerOf s u with
    | some (i, q) => peerMessage s w i q false
    | none =>
      match freePeer s with
      | some i => peerMessage s w i ⟨u, 0, 0, 0, 0, 0, false, false, 0⟩ true
      | none => raise (bump s A.PLN_PEER_FULL) F.PLN_EVT_RAW_PEER_FULL

/-- PLAN_FRAME_RECEIVED: the next frame of the PLN port reaches the plan engine (R370). -/
def planFrameReceived (s : State) : State :=
  if bridging s then
    match egressPop s 5 with
    | none => s
    | some (i, s) =>
      if planState s = 0 then s
      else
        let f := i.frame.drop 14
        planHandle s (packWords f) f.length
  else s

/-! ## Cycles (R366, R376, R379) -/

/-- Slots enter the grant. -/
def grantAdd (s : State) (f : Nat × Nat × Bool → Bool) : State :=
  let c := (s.pln.adds.filter f).foldl (fun n a => n ||| a.1) 0
  onPln s fun p => { p with grant := p.grant ||| c, adds := p.adds.filter fun a => !(f a) }

/-- An epoch boundary: removals leave the grant, and additions have their boundary; while no frames run they enter it
(R376). -/
def planEpoch (s : State) (n : Nat) : State :=
  let s := onPln s fun p => { p with
    grant := slotDiff p.grant p.drops, drops := 0,
    adds := p.adds.map fun a => (a.1, a.2.1, a.2.2 || decide ((n + 2 ^ 48 - a.2.1) % 2 ^ 48 < 2 ^ 47)) }
  if flag s F.ACQ_STATUS_RUNNING then s else grantAdd s fun a => a.2.2

/-- A frame boundary: additions whose epoch boundary has passed, or is now, enter the grant (R376). -/
def planFrameBoundary (s : State) : State :=
  let n := planCycle s s.now
  grantWatch s (grantAdd s fun a => a.2.2 || decide ((n + 2 ^ 48 - a.2.1) % 2 ^ 48 < 2 ^ 47))

/-- A cycle passes in DETACHED; sixteen within tolerance, with a measurement among them, begin a rejoin (R379). -/
def detachedCycle (s : State) : State :=
  if planState s = 4 ∧ !(genlockHeld s) then
    let s := onPln s fun p => { p with
      within := if p.outside then 0 else p.within + 1, measured := !p.outside && p.measured, outside := false }
    if 16 ≤ s.pln.within ∧ s.pln.measured then
      onPln (wr s F.PLN_STATUS_STATE 1) fun p => { p with rejoin := true, listened := 0, within := 0, measured := false }
    else s
  else s

/-- PLAN_CYCLE_START (R366, R376; 04 R112). -/
def planCycleStart (t : Nat) (s : State) : State :=
  if planClock s then
    let n := planCycle s t
    let s' := if n % 256 = 0 then planEpoch s n else s
    let s' := detachedCycle s'
    grantWatch s (if flag s F.PLN_CTRL_ENABLE then reseed s' n else s')
  else s

/-! ## Genlock and steps (R379, R381) -/

/-- A genlock phase in nanoseconds is measured (R379). -/
def planPhase (s : State) (phase : Int) : State :=
  if refMode s = 2 ∧ !(standalone s) ∧ awake s then
    let s := setReg s A.PLN_GENLOCK_PHASE (iword phase)
    let far := decide (rd s F.PLN_GENLOCK_TOL < phase.natAbs)
    if planState s = 4 then onPln s fun p => { p with outside := p.outside || far, measured := true }
    else if far ∧ 1 ≤ planState s ∧ planState s ≤ 3 then
      raise (onPln (wr s F.PLN_STATUS_STATE 4) fun p => { p with
        pending := 0, claims := [], claim := 0, within := 0, measured := false, outside := false, rejoin := false })
        F.PLN_EVT_RAW_DETACHED
    else s
  else s

/-- A network time step has been applied (R381). -/
def planResync (s : State) : State :=
  let b := beatAt s s.now
  let e := addEpoch s s.now
  raise (onPln s fun p => { p with
    beat := b, pending := 0, claims := [], claim := 0, adds := p.adds.map (fun a => (a.1, e, false)),
    peers := p.peers.map fun x => (x.1, x.2.map fun q => { q with silent := 0 }) }) F.PLN_EVT_RAW_STEP_RESYNC

/-! ## Registers (R382) -/

/-- PEER_SEL latches an entry of the peer table (R382). -/
def peerLatch (s : State) : State :=
  let q := pget none s.pln.peers (rd s F.PLN_PEER_SEL)
  let info := match q with
    | some q => 2 ^ 31 + b2n q.detached * 2 ^ 30 + b2n q.degraded * 2 ^ 29 + q.priority * 2 ^ 16 + q.beat
    | none => 0
  let s := setReg s A.PLN_PEER_UNIT (word ((q.map (·.unit)).getD 0))
  let s := setReg s (F.PLN_PEER_INFO_VALID).addr (word info)
  (List.range 8).foldl (fun s i => setReg s (A.PLN_PEER_HELD i) (setWord ((q.map (·.held)).getD 0) i)) s

/-- The registers that are writable only while ENABLE is 0: UNIT_CODE, PLAN_CFG, BEAT, ETYPE, MCAST and SRC. -/
def planFixed (a : Nat) : Bool := decide (A.PLN_UNIT_CODE ≤ a) && decide (a ≤ A.PLN_SRC_HI)

/-- The checks of a write to the PLN page. -/
def plnCheck (a : Nat) (d : Word) (s : State) : Nat :=
  if planFixed a ∧ flag s F.PLN_CTRL_ENABLE then 0x04
  else if a = (F.PLN_PLAN_CFG_CYCLE_NS).addr ∧ fld d 8 24 % (fld d 0 8 + 1) ≠ 0 then 0x03
  else 0

/-- The COMMIT check of the PLN page. -/
def plnCommitCheck (s : State) : Nat := if slotsN s < rdShadow s F.PLN_WANT then 0x03 else 0

/-- What a write to the PLN page does beside its registers. -/
def plnAct (a : Nat) (o s : State) : State :=
  if a = (F.PLN_CTRL_ENABLE).addr ∧ flag o F.PLN_CTRL_ENABLE ≠ flag s F.PLN_CTRL_ENABLE then planEnable s
  else if a = (F.PLN_PEER_SEL).addr then peerLatch s
  else s

/-- What a commit of the PLN page does beside its registers. -/
def plnCommitted (o s : State) : State := if standalone o ≠ standalone s then planMembership s else planSettle s

/-- PLN.STATUS (R382). -/
def plnStatus (s : State) : Word :=
  word ((peersOf s).length * 2 ^ 25 + slotCount s.pln.held * 2 ^ 16
    + b2n (decide (planState s = 3) && decide (3 ≤ s.pln.quiet)) * 128 + b2n (planShort s) * 64 + b2n (standalone s) * 32
    + b2n (planState s = 4) * 16 + planState s)

/-- CFG_ACTIVE (R382). -/
def plnCfgActive (s : State) : Word := word (wanted s * 2 ^ 16 + ownPriority s * 2 ^ 8 + b2n (standalone s))

/-- The words of CYCLE, and BEAT_NUM. -/
def plnCycle (s : State) : List Word := [word (planCycle s s.now), word (planCycle s s.now / 2 ^ 32)]
def plnBeat (s : State) : Word := word (beatAt s s.now)

/-- SOFT_RESET of the PLN page: the held set is dropped without RELEASE. -/
def plnReset (s : State) : State := grantWatch s (onPln s fun p => { Pln.empty with beat := p.beat })

/-- PLAN_CYCLE_START (R366). -/
def execPlanCycleStart (t : Nat) (s : State) : Host.Outcome State Fault Refusal := .next (planCycleStart t (at' t s))

/-- BEAT_START (R372). -/
def execBeatStart (t : Nat) (s : State) : Host.Outcome State Fault Refusal := .next (beatStart t (at' t s))

/-- PLAN_MSG_SEND (R369). -/
def execPlanMsgSend (t : Nat) (s : State) : Host.Outcome State Fault Refusal := .next (planMsgSend (at' t s))

/-- PLAN_FRAME_RECEIVED (R370). -/
def execPlanFrameReceived (t : Nat) (s : State) : Host.Outcome State Fault Refusal := .next (planFrameReceived (at' t s))

end Sys2Proof.Machine
end

