-- ==== Sys2Proof/Machine/Saf.lean ====
section
/-!
DEFINITION. The safety block: causes and latches, outputs, the emission budget, safe stop, contactors, reset, the proof
cycle and the safety configuration (chapter 12).
-/

namespace Sys2Proof.Machine

/-! ## Paths and configuration -/

/-- One path of the safety block: `false` A, `true` B. -/
def pathOf (s : State) (b : Bool) : Path := if b then s.saf.b else s.saf.a

/-- The state with a path changed. -/
def onPath (s : State) (b : Bool) (f : Path → Path) : State :=
  if b then { s with saf := { s.saf with b := f s.saf.b } } else { s with saf := { s.saf with a := f s.saf.a } }

/-- The latch register of a path. -/
def latchReg (b : Bool) : Nat := if b then A.SAF_LATCH_B else A.SAF_LATCH_A

/-- The latched causes of a path. -/
def latched (s : State) (b : Bool) : Word := reg s (latchReg b)

/-- A field of the configuration that a path holds (12 R340). -/
def cfgOf (p : Path) (f : Fld) : Nat := fld (p.cfg.getD ((f.addr - 0x90100) / 4) 0#32) f.lo f.len

/-- The configuration block as the registers hold it: 0x100 to 0x15C (12 R342). -/
def cfgBlock (s : State) : List Word := (List.range 24).map fun i => reg s (0x90100 + 4 * i)

/-- The configuration is valid (12 R340). -/
def cfgValid (s : State) : Bool := flag s F.SAF_STATUS_CFG_VALID

/-- The CRC-32 of a configuration block (12 R340). -/
def cfgCrc (l : List Word) : Nat := crc32 (wordBytes l)

/-! ## Speeds -/

/-- The speed of path A: index-derived while the model is valid, else the Hall speed; of path B: the Hall speed
(12 R319, R328). -/
def pathSpeed (s : State) (b : Bool) : Nat := if !b && modelValid s then indexSpeed s else hallSpeed s s.now

/-- No Hall edge has come for 100 ms, counted from `since` at the earliest. -/
def hallQuiet (s : State) (since : Nat) : Bool := decide (max since s.ctl.mot.edge + msec 100 ≤ s.now)

/-- Both speeds lie within SPEED_MIN to SPEED_MAX of their path, and the model is valid (12 R322). -/
def speedInWindow (s : State) : Bool :=
  modelValid s && [false, true].all fun b =>
    decide (cfgOf (pathOf s b) F.SAF_SPEED_WIN_SPEED_MIN * 256 ≤ pathSpeed s b)
      && decide (pathSpeed s b ≤ cfgOf (pathOf s b) F.SAF_SPEED_WIN_SPEED_MAX * 256)

/-- SPEED is judged; `index` at an index edge (12 R322). -/
def speedJudge (s : State) (index : Bool) : State :=
  if isStare s then
    { s with saf := { s.saf with slow := !(decide (motMode s = 0) && hallQuiet s 0), steady := 0 } }
  else if !(speedInWindow s) then { s with saf := { s.saf with slow := true, steady := 0 } }
  else if s.saf.slow && index then
    if 15 ≤ s.saf.steady then { s with saf := { s.saf with slow := false, steady := 0 } }
    else { s with saf := { s.saf with steady := s.saf.steady + 1 } }
  else s

/-- The speeds of the two paths disagree (12 R321, SPEED_AGREE). -/
def speedsDiffer (s : State) : Bool :=
  let a := pathSpeed s false
  let b := pathSpeed s true
  let m := max (max a b) (cfgOf s.saf.a F.SAF_SPEED_WIN_SPEED_MIN * 256)
  !(isStare s) && decide (cfgOf s.saf.a F.SAF_SPEED_AGREE_SPEED_AGREE * m < ((a : Int) - b).natAbs * 1000)

/-- The timer of the speed agreement starts or stops. -/
def agreeJudge (s : State) : State :=
  let ag := if speedsDiffer s then s.saf.agree.or (some s.now) else none
  { s with saf := { s.saf with agree := ag } }

/-! ## Permission and outputs -/

/-- SPEED, REF, PROOF and PARTNER as they stand, bits as CAUSE (12 R321). -/
def liveCauses (s : State) : Nat :=
  b2n s.saf.slow * 2 ^ 16 + b2n (flag s F.CLK_STATUS_REF_LOST || s.clk.noPermit) * 2 ^ 17
    + b2n (!(flag s F.SAF_STATUS_PROVEN) || s.saf.delay.isSome) * 2 ^ 18
    + b2n (paired s && (s.saf.partner || s.pair.partner.isNone)) * 2 ^ 19

/-- SAF.CAUSE (12 R321, R341). -/
def safCause (s : State) : Word :=
  if awake s then latched s false ||| latched s true ||| word (liveCauses s) else 0x3#32

/-- No cause is present in either path (12 R321). -/
def permitNow (s : State) : Bool :=
  sysOn s && decide (latched s false = 0#32) && decide (latched s true = 0#32) && decide (liveCauses s = 0)

/-- Torque is enabled in a path (12 R326). -/
def torqueNow (s : State) (b : Bool) : Bool := sysOn s && cfgValid s && !(pathOf s b).torque && !s.saf.ended

/-- The laser supply is enabled in a path (12 R321, R335). -/
def laserNow (s : State) (b : Bool) : Bool := sysOn s && s.saf.laser && decide (latched s b = 0#32)

/-- The channel of a path is this chip's to drive (12 R336). -/
def ownChannel (s : State) (b : Bool) : Bool := !(paired s) || (chip1 s == b)

/-- The laser command and the torque command: the AND of the channels that this chip drives (12 R329, R336). -/
def laserCmd (s : State) : Bool :=
  [false, true].all fun b => !(ownChannel s b) || flag s (if b then F.SAF_STATUS_LASER_EN_B else F.SAF_STATUS_LASER_EN_A)
def torqueCmd (s : State) : Bool :=
  [false, true].all fun b => !(ownChannel s b) || flag s (if b then F.SAF_STATUS_STO_B else F.SAF_STATUS_STO_A)

/-- A feedback timer: since when the level departs from the complement of the command, from now where the command has
changed (12 R330). -/
def fbTimer (now : Nat) (level cmd changed : Bool) (since : Option Nat) : Option Nat :=
  if level ≠ cmd then none else if changed then some now else since.or (some now)

/-- The feedback timers of both paths, after a change of a command or of a level (12 R329, R330). -/
def fbJudge (s : State) (laserMoved motorMoved : Bool) : State :=
  [false, true].foldl (fun s b => onPath s b fun p =>
    let laserOn := cfgValid s && decide (cfgOf p F.SAF_CFG_MODE_FB_LASER_EN = 1)
    let motorOn := cfgValid s && decide (cfgOf p F.SAF_CFG_MODE_FB_MOTOR_EN = 1)
    { p with
      fbLaser := if laserOn then fbTimer s.now (p.ins.testBit 4) (laserCmd s) laserMoved p.fbLaser else none,
      fbMotor := if motorOn then fbTimer s.now (p.ins.testBit 5) (torqueCmd s) motorMoved p.fbMotor else none }) s

/-- The levels of the outputs follow the permissions; a fall of torque takes the motor drive with it (12 R318, R321,
R326; 10 R298). -/
def safOutputs (s : State) : State :=
  let permit := permitNow s
  let staA := torqueNow s false && ownChannel s false
  let staB := torqueNow s true && ownChannel s true
  let had := flag s F.SAF_STATUS_PERMIT
  let fell := (flag s F.SAF_STATUS_STO_A && !staA) || (flag s F.SAF_STATUS_STO_B && !staB)
  let laserWas := laserCmd s
  let torqueWas := torqueCmd s
  let s := wrB (wrB s F.SAF_STATUS_PERMIT permit) F.SAF_STATUS_EMIT_INH (!permit)
  let s := wrB (wrB s F.SAF_STATUS_STO_A staA) F.SAF_STATUS_STO_B staB
  let s := wrB (wrB s F.SAF_STATUS_LASER_EN_A (laserNow s false && ownChannel s false))
    F.SAF_STATUS_LASER_EN_B (laserNow s true && ownChannel s true)
  let s := if had && !permit then { raise s F.SAF_EVT_RAW_INHIBIT with saf := { s.saf with lostAt := s.now } } else s
  let s := if had && !permit then lmpEdge s 1 false else if permit && !had then lmpEdge s 1 true else s
  let s := if fell then torqueOff (raise s F.SAF_EVT_RAW_TORQUE_OFF) else s
  let s := if (laserWas || s.lmp.forced && decide (s.saf.proof ≠ 2)) && !(laserCmd s) then lampRelease s else s
  fbJudge s (laserWas ≠ laserCmd s) (torqueWas ≠ torqueCmd s)

/-! ## Latches and SS1 -/

/-- The milliseconds since an instant, saturating at 65,535. -/
def msSince (s : State) (t : Nat) : Nat := min 0xFFFF ((s.now - t) / msec 1)

/-- SS1 ends; torque stays off until a reset is accepted (12 R326, R327). -/
def ss1End (s : State) : State :=
  match s.saf.ss1 with
  | none => s
  | some t =>
    let s := setReg (wr s F.SAF_STATUS_STOPPING 0) A.SAF_STOP_MS (word (msSince s t))
    { s with saf := { s.saf with ss1 := none, ended := true } }

/-- SS1 starts (12 R327). -/
def ss1Start (s : State) : State :=
  if s.saf.ss1.isSome then s
  else
    let s := { s with saf := { s.saf with ss1 := some s.now,
                                          a := { s.saf.a with v0 := pathSpeed s false },
                                          b := { s.saf.b with v0 := pathSpeed s true } } }
    let s := wr (wr s F.SAF_STATUS_STOPPING 1) F.SAF_STATUS_STANDSTILL 0
    motStop (raise (bump (setReg s A.SAF_STOP_MS 0#32) A.SAF_STOPS) F.SAF_EVT_RAW_STOP)

/-- What a cause does to torque. -/
inductive Torque where
  | stays | stops | goes
  deriving DecidableEq, Repr

/-- A cause is latched in the paths named; a newly latched one ends the proof cycle, and starts SS1 or removes torque as its
row says (12 R321, R327, R334). -/
def safLatch (s : State) (a b : Bool) (cause : Nat) (q : Torque) : State :=
  let newA := a && !(bit (latched s false) cause)
  let newB := b && !(bit (latched s true) cause)
  let s := if newA then wrBit s A.SAF_LATCH_A cause true else s
  let s := if newB then wrBit s A.SAF_LATCH_B cause true else s
  let s :=
    if q = .goes then
      let s := if a then onPath s false fun p => { p with torque := true } else s
      let s := if b then onPath s true fun p => { p with torque := true } else s
      ss1End s
    else s
  if newA || newB then
    let s := raise (lmpEdge s 4 true) F.SAF_EVT_RAW_LATCH
    let s := wr { s with saf := { s.saf with proof := 0 } } F.SAF_STATUS_PROOF_RUNNING 0
    if q = .stops then ss1Start s else s
  else s

/-- The indicator's report and the live causes are judged, and the outputs follow (12 R321, 18 R463). -/
def safRefresh (s : State) : State :=
  if awake s then
    let s := if indicatorOpen s then safLatch s true true 8 .stays else s
    safOutputs s
  else s

/-- A detail of FAULT_DETAIL is recorded. -/
def safDetail (s : State) (f : Fld) (v : Nat) : State := wr s f v

/-- MOTOR: a MOT fault is latched, in both paths at that instant (12 R321). -/
def safMotor (s : State) (q : Torque) : State := safRefresh (safLatch s true true 5 q)

/-- The ceiling of R328 at this instant is exceeded by a speed. -/
def overEnvelope (s : State) (b : Bool) (v : Nat) : Bool :=
  match s.saf.ss1 with
  | none => false
  | some t =>
    let p := pathOf s b
    let lsb : Int := 256000000000
    let top : Int := ((p.v0 + cfgOf p F.SAF_ENV_ENV_MARGIN * 256 : Nat) : Int) * lsb
      - (cfgOf p F.SAF_ENV_RATE * 256 * (s.now - t) : Nat)
    decide (top < v * lsb) && decide (cfgOf p F.SAF_ENV_ENV_FLOOR * 256 < v)

/-- A speed sample of a path is compared with the ceiling during SS1; above it, ENVELOPE is latched (12 R328). -/
def envelopeJudge (s : State) (b : Bool) : State :=
  if overEnvelope s b (pathSpeed s b) then raise (safLatch s (!b) b 6 .goes) F.SAF_EVT_RAW_ENVELOPE else s

/-- A speed sample: path A's at an index edge while the model is valid and at a Hall edge otherwise, path B's at a Hall
edge (12 R322, R328). -/
def safSpeedSample (s : State) (index : Bool) : State :=
  let s := if index = modelValid s then envelopeJudge s false else s
  let s := if index then s else envelopeJudge s true
  safRefresh (agreeJudge (speedJudge s index))

/-- The speed causes are judged without a new sample: a mode, a model or a scan mode has changed. -/
def safSpeedRefresh (s : State) : State := safRefresh (agreeJudge (speedJudge s false))

/-! ## Inputs -/

/-- The conditions of the filtered inputs of a path latch their causes (12 R321). -/
def inputCauses (s : State) (b : Bool) : State :=
  let i := (pathOf s b).ins
  let s := if !(i.testBit 0) || !(i.testBit 1) then safLatch s (!b) b 2 .stops else s
  let s := if i.testBit 2 then safLatch s (!b) b 4 .stays else s
  onPath s b fun p =>
    { p with disc := if i.testBit 0 = i.testBit 1 then none else p.disc.or (some s.now) }

/-- A path takes a new level of input `i`. -/
def pathInput (s : State) (b : Bool) (i : Nat) (level : Bool) : State :=
  inputCauses (onPath s b fun p =>
    { p with ins := if level then p.ins ||| 2 ^ i else if p.ins.testBit i then p.ins ^^^ 2 ^ i else p.ins }) b

/-- SAF.INPUTS. -/
def safInputs (s : State) : State := setReg s A.SAF_INPUTS (word s.saf.a.ins)

/-- The step of the proof cycle passes to step 3: the laser command rises (12 R334). -/
def proofLaser (s : State) : State :=
  safRefresh { s with saf := { s.saf with laser := true, proof := 3, proofAt := s.now } }

/-- LMP reports the lamp proven: step 2 of the proof cycle passes (12 R334, 18 R462). -/
def proofLamp (s : State) : State := if s.saf.proof = 2 then proofLaser s else s

/-- The proof cycle completes; PROOF clears after EMIT_DELAY (12 R334, R335). -/
def proofDone (s : State) : State :=
  let s := wr (wr s F.SAF_STATUS_PROVEN 1) F.SAF_STATUS_PROOF_RUNNING 0
  let d := if cfgOf s.saf.a F.SAF_EMIT_DELAY = 0 then none else some s.now
  safRefresh (raise { s with saf := { s.saf with proof := 0, delay := d } } F.SAF_EVT_RAW_PROOF_DONE)

/-- A contactor fault is recorded: which contactor, and WELDED with its command low or STUCK with it high (12 R331). -/
def contactorDetail (s : State) (motor cmd : Bool) : State :=
  wr (wr s (if motor then F.SAF_FAULT_DETAIL_MOTOR else F.SAF_FAULT_DETAIL_LASER) 1)
    (if cmd then F.SAF_FAULT_DETAIL_STUCK else F.SAF_FAULT_DETAIL_WELDED) 1

/-- The proof cycle fails and latches a cause (12 R334). -/
def proofFail (s : State) (cause : Nat) (q : Torque) : State :=
  safRefresh (raise (safLatch s true true cause q) F.SAF_EVT_RAW_PROOF_FAIL)

/-- A monitored contactor has been in mismatch for FB_TIME (12 R330, R331). -/
def mismatched (s : State) (b motor : Bool) : Bool :=
  match (if motor then (pathOf s b).fbMotor else (pathOf s b).fbLaser) with
  | some t => decide (t + msec (cfgOf (pathOf s b) F.SAF_FB_TIME) ≤ s.now)
  | none => false

/-- A contactor is in mismatch in some path; step 1 of the proof cycle takes "no mismatch" as R330 defines one, so a
contactor still within FB_TIME of its command passes (log entry 34). -/
def contactorBad (s : State) (motor : Bool) : Bool := mismatched s false motor || mismatched s true motor

/-- The laser contactor is monitored (12 R329). -/
def fbLaserOn (s : State) : Bool := decide (cfgOf s.saf.a F.SAF_CFG_MODE_FB_LASER_EN = 1)

/-- PROOF_STEP_END: a step of the proof cycle ends on its condition or its time (12 R334). -/
def proofStepEnd (t : Nat) (s : State) : State :=
  let from' := s.saf.proofAt
  let fbTime := msec (cfgOf s.saf.a F.SAF_FB_TIME)
  match s.saf.proof with
  | 1 =>
    if from' + msec 10 ≤ t then
      if contactorBad s true || contactorBad s false then
        let s' := if contactorBad s true then contactorDetail s true (torqueCmd s) else s
        let s' := if contactorBad s false then contactorDetail s' false (laserCmd s) else s'
        proofFail s' 7 (if contactorBad s true then .goes else .stays)
      else lampAsk { s with saf := { s.saf with proof := 2, proofAt := t } }
    else s
  | 2 => if from' + msec 20 ≤ t then proofFail s 8 .stays else s
  | 3 =>
    if !(fbLaserOn s) then (if from' + fbTime ≤ t then proofDone s else s)
    else if !(s.saf.a.ins.testBit 4) && !(s.saf.b.ins.testBit 4) then proofDone s
    else if from' + fbTime ≤ t then proofFail (contactorDetail s false true) 7 .stays
    else s
  | _ => s

/-! ## The emission budget -/

/-- A sub-window of 125 µs (12 R324). -/
abbrev subWindow (t : Nat) : Nat := t / nsec 125000

/-- The window count of output `o` in sector `c` at an instant: the current sub-window and the 8 before it. -/
def windowCount (p : Path) (o c t : Nat) : Nat :=
  (pget [] p.budget (32 * o + c)).foldl (fun n e => if subWindow t ≤ e.1 + 8 then n + e.2 else n) 0

/-- A weight is added to a path's count. -/
def budgetAdd (p : Path) (o c t w : Nat) : Path :=
  { p with budget := pset [] p.budget (32 * o + c) (pget [] p.budget (32 * o + c) ++ [(subWindow t, w)]) }

/-- WEIGHT of output `o` in a path's configuration, in 1/16 shot (12 R342). -/
def budgetWeight (p : Path) (o : Nat) : Nat := fld (p.cfg.getD (16 + o / 4) 0#32) (8 * (o % 4)) 8

/-- The limit in force (12 R324). -/
def budgetLimit (s : State) (p : Path) : Nat := if isStare s then cfgOf p F.SAF_STARE_LIMIT else cfgOf p F.SAF_SCAN_LIMIT

/-- Some window of path B is past its limit and B_MARGIN at this instant (12 R324). -/
def budgetPassed (s : State) : Bool :=
  s.saf.b.budget.any fun e =>
    decide (budgetLimit s s.saf.b + cfgOf s.saf.b F.SAF_B_MARGIN < windowCount s.saf.b (e.1 / 32) (e.1 % 32) s.now)

/-! ## Reset -/

/-- The pair is whole: heartbeats arrive and the straps differ (log entry 41). -/
def pairWhole (s : State) : Bool :=
  !(paired s) || (flag s F.PAIR_STATUS_PARTNER_OK && s.pair.partner.any (fun p => decide (s.now ≤ p.at' + usec 32)) && !(flag s F.PAIR_STATUS_ID_CLASH))

/-- The causes whose conditions no list of R332 names: PATH goes when the inputs agree again, BUDGET when no window of
path B is past its limit and margin, SPEED_AGREE when the speeds agree again (log entry 41). -/
def unlistedGone (s : State) : Bool :=
  let l := latched s false ||| latched s true
  (!(bit l 12) || decide (s.saf.a.ins = s.saf.b.ins)) && (!(bit l 9) || !(budgetPassed s)) && (!(bit l 13) || !(speedsDiffer s))

/-- A reset is accepted (12 R332). -/
def resetAllowed (s : State) : Bool :=
  let per (b : Bool) : Bool :=
    !(bit (latched s b) 0) && (pathOf s b).ins.testBit 0 && (pathOf s b).ins.testBit 1 && !((pathOf s b).ins.testBit 2)
      && !(mismatched s b false) && !(mismatched s b true)
  per false && per true && decide (reg s A.MOT_FAULT_LATCH = 0#32) && !(indicatorOpen s)
    && decide (reg s A.THM_TRIP_LATCH = 0#32) && s.saf.ss1.isNone && !(flag s F.SAF_STATUS_RESET_STUCK)
    && (!(bit (latched s false ||| latched s true) 10) || pairWhole s) && unlistedGone s

/-- A reset is accepted: every latched cause clears and the proof cycle starts (12 R332). -/
def resetAccept (s : State) : State :=
  let had := latched s false ≠ 0#32 ∨ latched s true ≠ 0#32
  let s := setReg (setReg s A.SAF_LATCH_A 0#32) A.SAF_LATCH_B 0#32
  let s := onPath (onPath s false fun p => { p with torque := false }) true fun p => { p with torque := false }
  let s := { s with saf := { s.saf with ended := false, laser := false, delay := none, proof := 1, proofAt := s.now } }
  let s := wr (wr (wr s F.SAF_STATUS_PROVEN 0) F.SAF_STATUS_STANDSTILL 0) F.SAF_STATUS_PROOF_RUNNING 1
  let s := if had then lmpEdge s 4 false else s
  safRefresh (raise (bump s A.SAF_RESETS) F.SAF_EVT_RAW_RESET_DONE)

/-- SAFE_RESET is high in both paths. -/
def resetHigh (s : State) : Bool := s.saf.a.ins.testBit 3 && s.saf.b.ins.testBit 3

/-- The paths named take SAFE_RESET high; when both have it, that is a rising edge, accepted or refused. An edge while
RESET_STUCK stands fails the fourth condition of R332: it resets nothing and is counted as refused (12 R332, R333; log
entry 34). -/
def safeResetEdge (s : State) (a b : Bool) : State :=
  let high := resetHigh s
  let up (p : Path) : Path := { p with ins := p.ins ||| 8 }
  let s := if a then onPath s false up else s
  let s := safInputs (if b then onPath s true up else s)
  if high || !(resetHigh s) then s
  else
    let s := { s with saf := { s.saf with pinAt := s.now } }
    if resetAllowed s then resetAccept s
    else raise (bump s A.SAF_RESET_REFUSED) F.SAF_EVT_RAW_RESET_REFUSED

/-- SAFETY_INPUT_CHANGE: the filters of the paths named take a new level of input `i`, numbered as INPUTS (12 R317,
R319, R321). -/
def safetyInputChange (t i : Nat) (level a b : Bool) (s : State) : State :=
  let s := at' t s
  if !(awake s) ∨ 6 ≤ i then s
  else if i = 3 ∧ level then safeResetEdge s a b
  else
    let s := if i = 3 ∧ (a ∧ s.saf.a.ins.testBit 3 ∨ b ∧ s.saf.b.ins.testBit 3) then { s with saf := { s.saf with pinAt := s.now } } else s
    let s := if a then pathInput s false i level else s
    let s := if b then pathInput s true i level else s
    safRefresh (fbJudge (safInputs s) false false)

/-- RESET_STUCK: SAFE_RESET has been high for 5 s (12 R333). -/
def resetStuck (t : Nat) (s : State) : State :=
  let s := at' t s
  if awake s ∧ resetHigh s ∧ s.saf.pinAt + msec 5000 ≤ t ∧ !(flag s F.SAF_STATUS_RESET_STUCK) then
    raise (wr s F.SAF_STATUS_RESET_STUCK 1) F.SAF_EVT_RAW_RESET_STUCK
  else s

/-- RESET_STUCK_CLEAR: SAFE_RESET has been low for 100 ms without a break (12 R333). -/
def resetStuckClear (t : Nat) (s : State) : State :=
  let s := at' t s
  if !(s.saf.a.ins.testBit 3) ∧ !(s.saf.b.ins.testBit 3) ∧ s.saf.pinAt + msec 100 ≤ t then wr s F.SAF_STATUS_RESET_STUCK 0 else s

/-! ## Comparisons and timers -/

/-- PATH_COMPARE: the two paths compare permissions, latches and inputs (12 R320). -/
def pathCompare (t : Nat) (s : State) : State :=
  let s := at' t s
  if !(sysOn s) then s
  else
    let d := decide (latched s false ≠ latched s true) || decide (s.saf.a.ins ≠ s.saf.b.ins)
      || decide (torqueNow s false ≠ torqueNow s true) || decide (laserNow s false ≠ laserNow s true)
    let was := s.saf.differ
    let s := { s with saf := { s.saf with differ := d } }
    if d && was then safRefresh (safLatch s true true 12 .goes)
    else safSpeedRefresh (if d then bump s A.SAF_MISMATCHES else s)

/-- The polygon stands: STANDSTILL is declared and the mode is OFF (10 R288). -/
def motStandstill (s : State) : State :=
  let s := wr (setMode s 0) F.MOT_STATUS_STOPPING 0
  onMot (raise (wr s F.MOT_STATUS_STANDSTILL 1) F.MOT_EVT_RAW_STANDSTILL) fun m => { m with goal := 0 }

/-- SS1_STANDSTILL: each path has seen no Hall edge for 100 ms since SS1 began, and torque is removed (12 R327). -/
def ss1Standstill (t : Nat) (s : State) : State :=
  let s := at' t s
  match s.saf.ss1 with
  | some t0 =>
    if hallQuiet s t0 then
      let s := wr (ss1End s) F.SAF_STATUS_STANDSTILL 1
      let s := if flag s F.MOT_STATUS_STOPPING ∧ s.ctl.mot.sp = 0 then motStandstill s else s
      safRefresh s
    else s
  | none => s

/-- SS1_MAX_EXPIRE: SS1_MAX has elapsed, and torque is removed (12 R327). -/
def ss1MaxExpire (t : Nat) (s : State) : State :=
  let s := at' t s
  match s.saf.ss1 with
  | some t0 => if t0 + msec (cfgOf s.saf.a F.SAF_SS1_MAX) ≤ t then safRefresh (ss1End s) else s
  | none => s

/-- SS_DISCREPANCY: SS_A_N and SS_B_N have differed for longer than DISC_TIME (12 R321). -/
def ssDiscrepancy (t : Nat) (s : State) : State :=
  let s := at' t s
  let due (b : Bool) : Bool :=
    match (pathOf s b).disc with
    | some t0 => decide (t0 + msec (cfgOf (pathOf s b) F.SAF_DISC_TIME) < t)
    | none => false
  if due false || due true then safRefresh (safLatch s (due false) (due true) 3 .stops) else s

/-- SPEED_AGREE: the speeds have disagreed for longer than AGREE_MS (12 R321). -/
def speedAgree (t : Nat) (s : State) : State :=
  let s := agreeJudge (at' t s)
  match s.saf.agree with
  | some t0 =>
    if sysOn s ∧ t0 + msec (cfgOf s.saf.a F.SAF_SPEED_AGREE_AGREE_MS) < t then safRefresh (safLatch s true true 13 .stops) else s
  | none => s

/-- CONTACTOR_MISMATCH: a feedback has departed from the complement of its command for FB_TIME (12 R331). -/
def contactorMismatch (t : Nat) (motor : Bool) (s : State) : State :=
  let s := at' t s
  let a := mismatched s false motor
  let b := mismatched s true motor
  if a || b then
    safRefresh (safLatch (contactorDetail s motor (if motor then torqueCmd s else laserCmd s)) a b 7
      (if motor then .goes else .stays))
  else s

/-- EMIT_DELAY_END: EMIT_DELAY has elapsed since the proof, and PROOF clears (12 R335). -/
def emitDelayEnd (t : Nat) (s : State) : State :=
  let s := at' t s
  match s.saf.delay with
  | some t0 =>
    if t0 + msec (cfgOf s.saf.a F.SAF_EMIT_DELAY) ≤ t then safRefresh { s with saf := { s.saf with delay := none } } else s
  | none => s

/-! ## The budget gate and the edges -/

/-- Path A admits a shot of output `o` in sector `c` at its shot start (12 R324, R325). -/
def budgetAdmits (s : State) (o c t : Nat) : Bool :=
  let l := budgetLimit s s.saf.a
  decide (l ≠ 0) && decide (windowCount s.saf.a o c t + budgetWeight s.saf.a o ≤ l)

/-- The sector that path B gives an edge: 32 × (edge − last index edge) ÷ last facet period, clamped (12 R324). -/
def sectorB (s : State) (t : Nat) : Nat :=
  if isStare s then 0
  else
    match s.ctl.mot.idx with
    | i0 :: i1 :: _ => min 31 (32 * (t - i0) / max 1 (i0 - i1))
    | _ => 0

/-- A commanded edge is counted by both paths; past its limit and margin path B latches BUDGET in both (12 R324). -/
def budgetEdge (s : State) (o c t : Nat) : State :=
  let k := sectorB s t
  let s := onPath s false fun p => budgetAdd p o c t (budgetWeight p o)
  let s := onPath s true fun p => budgetAdd p o k t (budgetWeight p o)
  if budgetLimit s s.saf.b + cfgOf s.saf.b F.SAF_B_MARGIN < windowCount s.saf.b o k t then
    safRefresh (safLatch s true true 9 .stays)
  else s

/-- BUDGET_SUBWINDOW: a sub-window boundary passes, and sub-windows that have left the window are dropped (12 R324). -/
def budgetSubwindow (t : Nat) (s : State) : State :=
  let s := at' t s
  let trim (p : Path) : Path :=
    { p with budget := (p.budget.map fun e => (e.1, e.2.filter fun w => subWindow t ≤ w.1 + 8)).filter fun e => !e.2.isEmpty }
  onPath (onPath s false trim) true trim

/-- BUDGET_ZERO: the limit for the scan mode in force is 0 (12 R325). -/
def budgetZero (s : State) : Bool := decide (budgetLimit s s.saf.a = 0)

/-! ## Safety configuration -/

/-- The SAFE_CONFIG window closes: the CRC and the limits are checked, and the configuration takes effect or CONFIG stays
latched (12 R340, R342). -/
def safClose (s : State) : State :=
  let c := cfgCrc (cfgBlock s)
  let s := setReg (wr (setReg s 0x9002C 0#32) F.SAF_STATUS_WINDOW_OPEN 0) A.SAF_CFG_CRC_CALC (word c)
  if word c = reg s A.SAF_CFG_CRC ∧ rd s F.SAF_SPEED_WIN_SPEED_MIN ≤ rd s F.SAF_SPEED_WIN_SPEED_MAX
      ∧ rd s F.SAF_ENV_ENV_FLOOR ≤ rd s F.SAF_SPEED_WIN_SPEED_MIN then
    let s := wr s F.SAF_STATUS_CFG_VALID 1
    let s := wrBit (wrBit s A.SAF_LATCH_A 0 false) A.SAF_LATCH_B 0 false
    let l := cfgBlock s
    let s := onPath (onPath s false fun p => { p with cfg := l }) true fun p => { p with cfg := l }
    safSpeedRefresh (fbJudge s true true)
  else
    safRefresh (raise (wr (safLatch s true true 0 .goes) F.SAF_FAULT_DETAIL_CRC 1) F.SAF_EVT_RAW_CFG_FAULT)

/-- CFG_WINDOW_TIMEOUT: the window has been open for 60 s (12 R339). -/
def cfgWindowTimeout (t : Nat) (s : State) : State :=
  let s := at' t s
  if awake s ∧ flag s F.SAF_STATUS_WINDOW_OPEN ∧ s.saf.opened + msec 60000 ≤ t then safClose s else s

/-- CRC_RUN_CHECK: each path recomputes the CRC over its own copy (12 R340). -/
def crcRunCheck (t : Nat) (s : State) : State :=
  let s := at' t s
  let bad (b : Bool) : Bool := decide (word (cfgCrc (pathOf s b).cfg) ≠ reg s A.SAF_CFG_CRC)
  if sysOn s ∧ cfgValid s ∧ (bad false || bad true) then
    safRefresh (raise (wr (safLatch s (bad false) (bad true) 0 .goes) F.SAF_FAULT_DETAIL_CRC 2) F.SAF_EVT_RAW_CFG_FAULT)
  else s

/-- The end of the reset wipe: filters take the pin levels, POWER_UP is latched and the SAFE_CONFIG window opens
(12 R317, R321, R333, R339). -/
def safWake (s : State) (levels : Nat) : State :=
  let p : Path := { Path.empty with ins := levels % 64, cfg := cfgBlock s }
  let s := { s with saf := { Saf.empty with a := p, b := p, opened := s.now, pinAt := s.now } }
  let s := wr (setReg (setReg s A.SAF_LATCH_A 0x3#32) A.SAF_LATCH_B 0x3#32) F.SAF_STATUS_WINDOW_OPEN 1
  safSpeedRefresh (safInputs (inputCauses (inputCauses s false) true))

/-- SAF.STATUS (12 R341). -/
def safStatus (s : State) : Word :=
  setFld (reg s A.SAF_STATUS) 13 1 (b2n (awake s && budgetZero s))

/-- SAF.STOP_MS: the milliseconds since step 1 of SS1, held after it ends (12 R341). -/
def safStopMs (s : State) : Word :=
  match s.saf.ss1 with
  | some t => word (msSince s t)
  | none => reg s A.SAF_STOP_MS

/-! ## The commands -/

/-- SAFETY_INPUT_CHANGE (12 R317). -/
def execSafetyInputChange (t i : Nat) (level a b : Bool) (s : State) : Host.Outcome State Fault Refusal :=
  .next (safetyInputChange t i level a b s)

/-- SAFE_RESET_EDGE (12 R332). -/
def execSafeResetEdge (t : Nat) (s : State) : Host.Outcome State Fault Refusal :=
  .next (if awake s then safeResetEdge (at' t s) true true else at' t s)

/-- RESET_STUCK (12 R333). -/
def execResetStuck (t : Nat) (s : State) : Host.Outcome State Fault Refusal := .next (resetStuck t s)

/-- RESET_STUCK_CLEAR (12 R333). -/
def execResetStuckClear (t : Nat) (s : State) : Host.Outcome State Fault Refusal := .next (resetStuckClear t s)

/-- PATH_COMPARE (12 R320). -/
def execPathCompare (t : Nat) (s : State) : Host.Outcome State Fault Refusal := .next (pathCompare t s)

/-- SS1_STANDSTILL (12 R327). -/
def execSs1Standstill (t : Nat) (s : State) : Host.Outcome State Fault Refusal := .next (ss1Standstill t s)

/-- SS1_MAX_EXPIRE (12 R327). -/
def execSs1MaxExpire (t : Nat) (s : State) : Host.Outcome State Fault Refusal := .next (ss1MaxExpire t s)

/-- SS_DISCREPANCY (12 R321). -/
def execSsDiscrepancy (t : Nat) (s : State) : Host.Outcome State Fault Refusal := .next (ssDiscrepancy t s)

/-- SPEED_AGREE (12 R321). -/
def execSpeedAgree (t : Nat) (s : State) : Host.Outcome State Fault Refusal := .next (speedAgree t s)

/-- CONTACTOR_MISMATCH (12 R331). -/
def execContactorMismatch (t : Nat) (motor : Bool) (s : State) : Host.Outcome State Fault Refusal :=
  .next (contactorMismatch t motor s)

/-- PROOF_STEP_END (12 R334). -/
def execProofStepEnd (t : Nat) (s : State) : Host.Outcome State Fault Refusal := .next (proofStepEnd t (at' t s))

/-- EMIT_DELAY_END (12 R335). -/
def execEmitDelayEnd (t : Nat) (s : State) : Host.Outcome State Fault Refusal := .next (emitDelayEnd t s)

/-- BUDGET_SUBWINDOW (12 R324). -/
def execBudgetSubwindow (t : Nat) (s : State) : Host.Outcome State Fault Refusal := .next (budgetSubwindow t s)

/-- CFG_WINDOW_TIMEOUT (12 R339). -/
def execCfgWindowTimeout (t : Nat) (s : State) : Host.Outcome State Fault Refusal := .next (cfgWindowTimeout t s)

/-- CRC_RUN_CHECK (12 R340). -/
def execCrcRunCheck (t : Nat) (s : State) : Host.Outcome State Fault Refusal := .next (crcRunCheck t s)

end Sys2Proof.Machine
end

