-- ==== Sys2Proof/Machine/Esc.lean ====
section
/-!
DEFINITION. The Escapement: laser groups, columns, dither, gates, commanded edges and capture windows
(chapter 04, R100 to R116 and R120, R121).
-/

namespace Sys2Proof.Machine

/-! ## Groups -/

/-- The values in force of laser group `g` for a column of a sweep (04 R107, R109, R121; 05 R150). -/
def groupCfg (s : State) (w : Sweep) (g : Nat) : GroupCfg :=
  { pos := rd s (F.LG_CTRL_POS g), start := rd s (F.LG_CTRL_START g), ltrig := rd s (F.LG_CTRL_LTRIG g),
    first := rd s (F.LG_CHAN_FIRST g), count := rd s (F.LG_CHAN_COUNT_M1 g) + 1,
    width := rd s (F.LG_CTRL_WIDTH g),
    period := rd s (F.LG_PERIOD_SHOT_PERIOD g), winStart := rd s (F.LG_WIN_START_WIN_START g),
    winLen := rd s (F.LG_WIN_LEN_WIN_LEN g),
    dark := if flag s (F.LG_DARK_DARK_EN g) then rd s (F.LG_DARK_DARK_LEN g) else 0,
    guard := rd s F.ESC_GROUP_GUARD_GUARD, span := rd s F.ESC_DITHER_DITHER_SPAN, bank := rd s F.ESC_FRAME_CFG_COL_BANK,
    shift := sword (reg s (A.ESC_IL_SHIFT w.il)) + sword (reg s (A.ESC_FACET_TRIM w.phys)),
    stareFirst := rd s F.ESC_STARE_FIRST, stareCol := rd s F.ESC_STARE_COL_STARE_COL_NS,
    s := rd s (F.VLG_DWELL_S_M1 g) + 1, c := rd s (F.VLG_DWELL_C_M1 g) + 1,
    ncLog := rd s (F.VLG_COARSE_BINS_LOG2 g), kc := rd s (F.VLG_COARSE_K g),
    origin := (rd s (F.LG_WIN_START_WIN_START g) * 256 : Nat) + sword (reg s (A.VLG_OFFSET g)),
    nzLog := rd s (F.VLG_ZOOM_ZBINS_LOG2 g), kz := rd s (F.VLG_ZOOM_ZK g), peaks := rd s (F.VLG_ZOOM_PEAKS g),
    zoomMin := rd s (F.VLG_ZOOM_ZOOM_MIN g), retCoarse := flag s (F.VLG_COARSE_RET_COARSE g),
    p4Coarse := flag s (F.VLG_COARSE_P4_COARSE g), p4Zoom := flag s (F.VLG_ZOOM_P4_ZOOM g) }

/-- An entry of a column bank (04 R106). -/
def colEntry (s : State) (bank i : Nat) : Word := pget 0#32 s.esc.table (4096 * bank + i)

/-! ## Columns (04 R107 to R110) -/

/-- The angle of a column in 2^-32 of a facet, where it lies on the facet (04 R107). -/
def columnAngle (s : State) (g : GroupCfg) (c : Nat) : Option Nat :=
  let phi : Int := ((colEntry s g.bank c).toNat : Int) + g.shift
  if 0 ≤ phi ∧ phi < 2 ^ 32 then some phi.toNat else none

/-- The emission-budget sector of a column: a 32nd of the facet, or 0 in STARE (12 R324). -/
def columnSector (s : State) (w : Sweep) (g : GroupCfg) (c : Nat) : Nat :=
  if w.stare then 0 else ((columnAngle s g c).getD 0) / 2 ^ 27

/-- The start of a column's first shot in LSB; `none` for a column whose angle lies off the facet (04 R107, R109). -/
def columnStart (s : State) (w : Sweep) (g : GroupCfg) (c : Nat) : Option Nat :=
  if w.stare then
    some (w.origin + (g.stareFirst + c * g.stareCol + g.pos * g.guard) * 256)
  else
    match columnAngle s g c with
    | some phi => some (w.origin + (phi * w.period / 2 ^ 32 + 2 ^ 15) / 2 ^ 16 + g.pos * g.guard * 256)
    | none => none

/-- The start of shot `j` of column `c`, or `none` when the shot is cut: on a facet where the next index edge is registered
before it, in STARE where it has not started at the boundary (04 R107 to R109). A column c + 1 off the facet crowds no shot of
column c (log entry 19). -/
def shotStart (s : State) (w : Sweep) (g : GroupCfg) (c j : Nat) : Option Nat :=
  match columnStart s w g c with
  | none => none
  | some t0 =>
    let t := t0 + j * g.period * 256
    let late := (match w.next with
      | some n => decide (n < t) || w.stare && decide (n = t)
      | none => false) || decide (w.limit ≤ t)
    let early := !w.stare && decide (t < w.origin + nsec 200)
    let crowded := decide (c + 1 < w.columns) && (match columnStart s w g (c + 1) with
      | some t1 => decide (t1 < t + g.period * 256)
      | none => false)
    if late || early || crowded then none else some t

/-- The channels of a group. -/
def groupChans (g : GroupCfg) : List Nat := (List.range g.count).map fun i => g.first + i

/-- A marker joins the paths of every channel of a group. -/
def pushMarker (s : State) (g : GroupCfg) (i : VatItem) : State := (groupChans g).foldl (fun s c => pushItem s c i) s

/-- The markers that follow shot `j` of a dwell: the coarse-to-fine boundary after shot C − 1, the pixel end after the
last (05, before R129). -/
def markersAfter (s : State) (g : GroupCfg) (id j closed : Nat) : State :=
  let s := if g.peaks ≠ 0 ∧ j + 1 = g.c ∧ g.c < g.s then pushMarker s g (.boundary id) else s
  if j + 1 = g.s then pushMarker s g (.pixelEnd id closed (if cold s then closed + 1 else s.clk.warmSince)) else s

/-! ## Gates (04 R113, R114) -/

/-- The causes of a withheld shot, in the order of the gates (04 R113). -/
inductive Cause where
  | cut | ref | safety | galv | plan | budget
  deriving DecidableEq, Repr

/-- The counter of a cause (04 R120). -/
def causeCounter (c : Cause) : Nat :=
  match c with
  | .cut => A.ESC_WH_CUT
  | .ref => A.ESC_WH_REF
  | .safety => A.ESC_WH_SAFETY
  | .galv => A.ESC_WH_GALV
  | .plan => A.ESC_WH_PLAN
  | .budget => A.ESC_WH_BUDGET

/-- A shot is counted as withheld, with its event (04 R114). -/
def countWithheld (s : State) (c : Cause) : State :=
  let s := bump (bump s A.ESC_WITHHELD) (causeCounter c)
  raise s (if c = .cut then F.ESC_EVT_RAW_CUT else F.ESC_EVT_RAW_WITHHELD)

/-- The quadrant's PLL is unlocked or its hits are discarded (03 R68, R72). -/
def quadBad (s : State) (q : Nat) : Bool := !(flag s (F.TDC_STATUS_PLL_LOCK q)) || s.clk.discard.contains q

/-- Gate 2: REFCLK is lost or a quadrant of the group is unlocked (04 R113). -/
def refBad (s : State) (g : GroupCfg) : Bool :=
  flag s F.CLK_STATUS_REF_LOST || quadBad s (g.start / 2)
    || (List.range 4).any fun q => decide (g.first / 128 ≤ q) && decide (q ≤ (g.first + g.count - 1) / 128) && quadBad s q

/-- The safety block permits emission (12 R322). -/
def emitPermit (s : State) : Bool := flag s F.SAF_STATUS_PERMIT

/-- The galvanometer reports in position for an interlace position (10 R294). -/
def galReady (s : State) (il : Nat) : Bool := flag s F.GAL_STATUS_READY && decide (rd s F.GAL_STATUS_IL_POS = il)

/-- The first gate that an uncut shot fails (04 R113). -/
def gateFails (s : State) (cfg : GroupCfg) (il sector start d : Nat) : Option Cause :=
  if refBad s cfg then some .ref
  else if !(emitPermit s) then some .safety
  else if isRaster s && !(galReady s il) then some .galv
  else if !(slotGranted s (start + d * 256)) then some .plan
  else if !(budgetAdmits s cfg.ltrig sector start) then some .budget
  else none

/-! ## Shots -/

/-- The group passes to its next shot; a finished sweep is dropped, and one that scheduling has stopped in ends with its column
(04 R103, R116). -/
def nextShot (s : State) (g : Nat) (cfg : GroupCfg) (w : Sweep) (rest : List Sweep) : State :=
  let r := runOf s g
  if r.shot + 1 < cfg.s then setRun s g { r with shot := r.shot + 1 }
  else if !w.ends && decide (r.col + 1 < w.columns) then setRun s g { r with col := r.col + 1, shot := 0, cfg := none }
  else setRun s g { r with sweeps := rest, col := 0, shot := 0, cfg := none }

/-- A shot is done with: withheld, or both windows closed and no hit of it left on the way. -/
def shotOver (s : State) (x : Shot) : Bool :=
  (x.dropped || (x.rangeDone && x.closed)) && !((groupChans x.cfg).any fun c => hitsDue s c x.id)

/-- Shots of a group that are done with are forgotten. -/
def pruneShots (s : State) (g : Nat) : State :=
  { s with esc := { s.esc with shots := s.esc.shots.filter fun x => !(decide (x.group = g) && shotOver s x) } }

/-- A withheld shot sends its marker (04 R114). -/
def withholdShot (s : State) (cfg : GroupCfg) (id j : Nat) (c : Cause) : State :=
  let s := countWithheld s c
  markersAfter (pushMarker s cfg (.shot id false 0 (cold s) false)) cfg id j s.now

/-- The return-extraction values of a column's pixel on a channel (06 R163, R165, R178; 17 R448). -/
def retCfg (s : State) (g start c : Nat) : RetCfg :=
  { ctrl := reg s (F.RLG_CTRL_BG_MODE g).addr, bgMin := rd s (F.RLG_BG_MIN_BG_MIN_NS g), zero := sword (reg s (A.RLG_ZERO g)),
    part := reg s (F.RLG_PART_PART_AMP g).addr, span := rd s (F.RLG_PART_SPAN_PART_SPAN g), ng := (reg s A.RET_NG).toNat,
    limit := rd s F.RET_WALK_LIMIT, wclass := fld (reg s (A.RET_WCLASS (c / 16))) (16 * (c / 8 % 2)) 12,
    pulse := pulseBank s c, temp := reg s A.RET_TEMP_NOW,
    offset := pget 0 s.cal.cur.res c - pget 0 s.cal.cur.res (512 + start), walk := pget [] s.cal.cur.walk (c / 8),
    decoy := reg s (F.FG_DECOY_LEN g).addr, fg := reg s (F.FG_CTRL_LIMIT g).addr }

/-- The enabled regions that contain a pixel; RETAIN acts in STREAM_RETAIN only (07 R188, R198). -/
def pixelRegs (s : State) (il col c : Nat) : List (Nat × Nat) :=
  ((List.range 16).filter fun r =>
    flag s (F.REG_CTRL_ENABLE r) && decide (rd s (F.REG_ROWS_ROW_FIRST r) ≤ c) && decide (c ≤ rd s (F.REG_ROWS_ROW_LAST r))
      && decide (rd s (F.REG_COLS_COL_FIRST r) ≤ col) && decide (col ≤ rd s (F.REG_COLS_COL_LAST r))
      && rdBit s (F.REG_CTRL_ENABLE r).addr (16 + il)).map fun r =>
    (r, rd s (F.REG_CTRL_PRODUCTS r) + b2n (flag s (F.REG_CTRL_RETAIN r) && flag s F.ACQ_ACQ_MODE_RETAIN) * 32)

/-- The enabled regions of which a channel is the first of its group: WITHHELD counts a shot once for the group's channels in the
region's rows, at every column (07 R187, log entry 73). -/
def countRegs (s : State) (c first : Nat) : List Nat :=
  (List.range 16).filter fun r =>
    flag s (F.REG_CTRL_ENABLE r) && decide (c ≤ rd s (F.REG_ROWS_ROW_LAST r)) && decide (c = max first (rd s (F.REG_ROWS_ROW_FIRST r)))

/-- The pixel that a column starts on a channel. -/
def pixelId (s : State) (g : Nat) (w : Sweep) (cfg : GroupCfg) (col c : Nat) : PixelId :=
  { group := g, chan := c, col := col, il := w.il, frame := w.frame, cfg := cfg,
    at' := (columnStart s w cfg col).getD s.now, ret := retCfg s g cfg.start c,
    regs := pixelRegs s w.il col c, whole := countRegs s c cfg.first, sel := rd s F.ACQ_IMAGE_CFG_P1_SEL, scale := rd s F.ACQ_IMAGE_CFG_DSCALE }

/-- At its first shot a column sends a column-start marker to each channel's engine (05 R133). -/
def columnMarkers (s : State) (g : Nat) (w : Sweep) (cfg : GroupCfg) (col : Nat) : State :=
  (groupChans cfg).foldl (fun s c => pushItem s c (.column (pixelId s g w cfg col c))) s

/-- A shot that passes its gates is in flight until its edge and windows (04 R101, R104). -/
def armShot (s : State) (g : Nat) (w : Sweep) (cfg : GroupCfg) (id start d : Nat) : State :=
  let r := runOf s g
  let x : Shot := ⟨id, g, cfg, r.col, r.shot, w.il, w.frame, start, d, false, false, 0, none, false, false, false, false,
    false, false, cold s, columnSector s w cfg r.col⟩
  { s with esc := { s.esc with shots := s.esc.shots ++ [x] } }

/-- One scheduled shot: its dither is drawn, from its own frame's sequence where frames reseed, its gates are tested, and it is
armed or withheld (04 R109, R111 to R114). -/
def shotStartAt (s : State) (g : Nat) (w : Sweep) (rest : List Sweep) (cfg : GroupCfg) (start : Option Nat) : State :=
  let s := pruneShots s g
  let r := runOf s g
  let last := !(flag s F.PLN_CTRL_ENABLE) && decide (w.frame ≠ s.acq.numbered.getD w.frame)
  let l := stage16 (if last then r.prev else r.lfsr)
  let d := dither l cfg.span
  let id := s.esc.nextId
  let s := setRun s g (if last then { r with prev := l, cfg := some cfg } else { r with lfsr := l, cfg := some cfg })
  let s := { s with esc := { s.esc with nextId := id + 1 } }
  let s := if r.shot = 0 then columnMarkers s g w cfg r.col else s
  let s := wr (wr s (F.LG_STATUS_COLUMN g) r.col) (F.LG_STATUS_LAST_D g) d
  let s :=
    match start with
    | none => withholdShot s cfg id r.shot .cut
    | some t =>
      match gateFails s cfg w.il (columnSector s w cfg r.col) t d with
      | some c => withholdShot s cfg id r.shot c
      | none => armShot s g w cfg id t d
  nextShot s g cfg w rest

/-- SHOT_START: the next scheduled shot of group `g` arrives, or is found cut (04 R108, R113). A group that a commit has disabled
schedules no further column (R103, log entry 19). -/
def shotStartEvent (t g : Nat) (s : State) : State :=
  match (runOf s g).sweeps with
  | [] => s
  | w :: rest =>
    let r := runOf s g
    let cfg := r.cfg.getD (groupCfg s w g)
    if r.cfg.isNone ∧ !(flag s (F.LG_CTRL_ENABLE g)) then setRun s g { r with sweeps := [], col := 0, shot := 0 }
    else
      match shotStart s w cfg r.col r.shot with
      | none => shotStartAt s g w rest cfg none
      | some u => if u ≤ t then shotStartAt s g w rest cfg (some u) else s

/-- The commanded edge of a shot (04 R101). -/
abbrev Shot.cmd (x : Shot) : Nat := x.start + x.d * 256

/-- Permission was withdrawn between the shot start and 20 ns before the commanded edge (04 R113). -/
def edgeStopped (s : State) (x : Shot) : Bool :=
  decide (s.saf.lostAt ≠ 0) && decide (x.start ≤ s.saf.lostAt) && decide (s.saf.lostAt + nsec 20 ≤ x.cmd)

/-- The pulse of (WIDTH + 1) × 0.5 ns on an LTRIG output, which the STANDBY role holds low; one already rising completes
(04 R101, R113, R115; 01 R33). -/
def ltrigPulse (s : State) (x : Shot) : State :=
  if s.pair.held then s
  else { s with esc := { s.esc with ltrigs := pset (0, 0) s.esc.ltrigs x.cfg.ltrig (x.cmd, x.cmd + (x.cfg.width + 1) * 128) } }

/-- The level of LTRIG output `o` at an instant: low but for its pulse (04 R101). -/
def ltrigLevel (s : State) (o t : Nat) : Bool :=
  let p := pget (0, 0) s.esc.ltrigs o
  decide (p.1 ≤ t) && decide (t < p.2)

/-- LTRIG output `o` is CML, not LVDS (04 R101). -/
def ltrigCml (s : State) (o : Nat) : Bool := rdBit s A.ESC_LTRIG_FMT o

/-- A fired shot of a group that FIRE_GROUPS selects opens a fire window of the housekeeping converter (16 R417). -/
def hkaFire (s : State) (g t : Nat) : State :=
  if rdBit s A.HKA_FIRE_GROUPS g then
    { s with hka := { s.hka with fires := t :: s.hka.fires.filter fun e => decide (t ≤ e + nsec 1000) } }
  else s

/-- A commanded edge is issued: the pulse begins, the start window opens, the edge is counted, and the fired marker is sent
(04 R101, R104, R114; 03 R87, R89; 16 R417). -/
def issueEdge (s : State) (x : Shot) : State :=
  let s := setShot s { x with issued := true, darkOpen := false, darkDone := true,
                              winEnd := x.cmd + nsec (rd s (F.ST_CTRL_WIN x.cfg.start)) }
  let s := hkaFire (bump (ltrigPulse s x) A.ESC_FIRED) x.group x.cmd
  let s := tduEvent s (0x210 + x.cfg.ltrig) x.cmd
  let s := budgetEdge s x.cfg.ltrig x.sector x.cmd
  pushMarker s x.cfg (.shot x.id true (min x.cfg.dark x.d) (x.provisional || coldSince s x.start) x.subst)

/-- LTRIG_EDGE: the commanded edge of the oldest armed shot of group `g`, issued unless permission was withdrawn at least
20 ns before it (04 R101, R113). -/
def ltrigEdge (t g : Nat) (s : State) : State :=
  match s.esc.shots.find? (fun x => decide (x.group = g) && !x.issued && !x.dropped && decide (x.cmd ≤ t)) with
  | none => s
  | some x =>
    if edgeStopped s x then withholdShot (setShot s { x with dropped := true, darkOpen := false }) x.cfg x.id x.j .safety
    else issueEdge s x

/-- A shot with a substituted start marks its pixel on a channel: by its marker on the path, or at once where the marker has been
taken (03 R87, 06 R171). -/
def noteSubst (x : Shot) (s : State) (c : Nat) : State :=
  let mine (i : VatItem) : Bool :=
    match i with
    | .shot id _ _ _ _ => decide (id = x.id)
    | _ => false
  if (path s c).any mine then
    setPath s c ((path s c).map fun i =>
      match i with
      | .shot id f d p sub => .shot id f d p (sub || decide (id = x.id))
      | i => i)
  else
    match pixel s c with
    | some p => setPixel s c (some { p with subst := true })
    | none => s

/-- START_WINDOW_CLOSE: the oldest open start window of channel `m` closes; without an edge ST_NOMINAL is substituted
(03 R87). -/
def startWindowClose (t m : Nat) (s : State) : State :=
  match s.esc.shots.find? (fun x => decide (x.cfg.start = m) && x.issued && !x.closed && decide (x.winEnd ≤ t)) with
  | none => s
  | some x =>
    if x.found.isSome then setShot s { x with closed := true }
    else
      let s := setShot s { x with closed := true, found := some (sword (reg s (A.ST_NOMINAL m))), subst := true }
      let s := raise (bump s (A.ST_MISS m)) (F.TDC_EVT_RAW_START_MISS (m / 2))
      (groupChans x.cfg).foldl (noteSubst x) s

/-- The end of a shot's dark window (04 R104). -/
abbrev Shot.darkEnd (x : Shot) : Nat := min (x.start + nsec x.cfg.dark) x.cmd

/-- CAPTURE_GATE_OPEN: the range or dark window of a shot of group `g` opens (04 R104). -/
def captureGateOpen (t g : Nat) (dark : Bool) (s : State) : State :=
  let due (x : Shot) : Bool :=
    decide (x.group = g) && !x.dropped &&
      (if dark then !x.issued && !x.darkDone && decide (x.start ≤ t) && decide (t < x.darkEnd)
       else x.issued && !x.rangeOpen && !x.rangeDone && decide (x.cmd + nsec x.cfg.winStart ≤ t))
  match s.esc.shots.find? due with
  | some x => setShot s (if dark then { x with darkOpen := true } else { x with rangeOpen := true })
  | none => s

/-- SOURCE 0x011: the hits of a closed shot on each channel of its group (02 R61). -/
def sampleShotHits (s : State) (x : Shot) : State :=
  if flag s F.PMON_CTRL_ENABLE then
    (groupChans x.cfg).foldl (fun s c =>
      monSample s 0x011 c (if (chan s c).shot = x.id + 1 then (chan s c).count else 0)) s
  else s

/-- CAPTURE_GATE_CLOSE: the range or dark window of a shot of group `g` closes; the markers that follow the shot are sent
when its range window does (04 R104, 05 before R129). -/
def captureGateClose (t g : Nat) (dark : Bool) (s : State) : State :=
  let due (x : Shot) : Bool :=
    decide (x.group = g) &&
      (if dark then x.darkOpen && decide (x.darkEnd ≤ t)
       else x.issued && !x.rangeDone && decide (x.cmd + nsec (x.cfg.winStart + x.cfg.winLen) ≤ t))
  match s.esc.shots.find? due with
  | some x =>
    if dark then setShot s { x with darkOpen := false, darkDone := true }
    else
      let s := sampleShotHits (setShot s { x with rangeOpen := false, rangeDone := true }) x
      markersAfter s x.cfg x.id x.j (x.cmd + nsec (x.cfg.winStart + x.cfg.winLen))
  | none => s

/-! ## Schedules -/

/-- A sweep joins the schedule of every enabled group, and the sweeps before it learn where it begins
(04 R107, R108). -/
def addSweep (s : State) (w : Sweep) : State :=
  let s := { s with acq := { s.acq with frames := s.acq.frames.map fun f =>
    if f.num = w.frame ∧ !f.ended then { f with sweeps := f.sweeps ++ [w] } else f } }
  (List.range 32).foldl (fun s g =>
    if flag s (F.LG_CTRL_ENABLE g) then
      let r := runOf s g
      setRun s g { r with sweeps := r.sweeps ++ [w] }
    else s) s

/-- A facet or frame boundary at `t` ends the sweeps before it (04 R108, R109). -/
def endSweeps (s : State) (t : Nat) : State :=
  { s with esc := { s.esc with runs := s.esc.runs.map fun p =>
      (p.1, { p.2 with sweeps := p.2.sweeps.map fun w => { w with next := w.next.or (some t) } }) } }

/-! ## Registers -/

/-- Two enabled groups of the shadow values break a rule of the commit (04 R102). -/
def pairBad (s : State) (g h : Nat) : Bool :=
  rdShadow s (F.LG_CTRL_LTRIG g) = rdShadow s (F.LG_CTRL_LTRIG h) || rdShadow s (F.LG_CTRL_POS g) = rdShadow s (F.LG_CTRL_POS h)
    || (decide (rdShadow s (F.LG_CHAN_FIRST g) ≤ rdShadow s (F.LG_CHAN_FIRST h) + rdShadow s (F.LG_CHAN_COUNT_M1 h))
        && decide (rdShadow s (F.LG_CHAN_FIRST h) ≤ rdShadow s (F.LG_CHAN_FIRST g) + rdShadow s (F.LG_CHAN_COUNT_M1 g)))

/-- An enabled group of the shadow values breaks a rule of the commit (04 R102). -/
def groupBad (s : State) (g : Nat) : Bool :=
  let win := rdShadow s (F.LG_WIN_START_WIN_START g) + rdShadow s (F.LG_WIN_LEN_WIN_LEN g)
  decide (rdShadow s (F.LG_PERIOD_SHOT_PERIOD g) < rdShadow s F.ESC_DITHER_DITHER_SPAN + win) || decide (8388352 < win)

/-- The interlace count the shadow values give in the scan mode in force (04 R102). -/
def ilCountShadow (s : State) : Nat := if isRaster s then rdShadow s F.ESC_FRAME_CFG_IL_COUNT_M1 + 1 else 1

/-- The COMMIT check of the ESC page (04 R102). -/
def escCommitCheck (s : State) : Nat :=
  let on := (List.range 32).filter fun g => rdShadow s (F.LG_CTRL_ENABLE g) = 1
  if on.any (fun g => groupBad s g || on.any fun h => decide (g < h) && pairBad s g h)
      || decide (rdShadow s F.ESC_FRAME_CFG_FRAME_FACETS < ilCountShadow s) then 0x03 else 0

/-- A commit that changes the frame's geometry waits for a frame boundary (04 R103). -/
def escFrameDefer (s : State) : Bool :=
  [F.ESC_FRAME_CFG_COLUMNS_M1, F.ESC_FRAME_CFG_IL_COUNT_M1, F.ESC_FRAME_CFG_FRAME_FACETS].any fun f => rdShadow s f ≠ rd s f

/-- INDEX of COL_ADDR advances after an access to COL_DATA (04 R120). -/
def colAdvance (s : State) : State := wr s F.ESC_COL_ADDR_INDEX (rd s F.ESC_COL_ADDR_INDEX + 1)

/-- A column entry is written at BANK and INDEX (04 R106). -/
def colWrite (d : Word) (s : State) : State :=
  let k := 4096 * rd s F.ESC_COL_ADDR_BANK + rd s F.ESC_COL_ADDR_INDEX
  colAdvance { s with esc := { s.esc with table := pset 0#32 s.esc.table k d } }

/-- The checks of a write to the ESC page that concern columns and groups (04 R102, R106). -/
def escCheck (a : Nat) (d : Word) (s : State) : Nat :=
  let g := (a - 0x20200) / 0x20
  if a = A.ESC_COL_DATA ∧ flag s F.ESC_CTRL_ENABLE ∧ rd s F.ESC_COL_ADDR_BANK = rd s F.ESC_FRAME_CFG_COL_BANK then 0x04
  else if 0x20200 ≤ a ∧ a < 0x20600 ∧ a = (F.LG_DARK_DARK_EN g).addr ∧ bit d 31 ∧ fld d 0 8 = 0 then 0x02
  else if 0x20200 ≤ a ∧ a < 0x20600 ∧ a = A.LG_CHAN g ∧ 512 < fld d 0 9 + fld d 16 9 + 1 then 0x03
  else 0

/-- A shot is in flight: its edge or one of its windows is still to come. -/
def Shot.flies (x : Shot) : Bool := !x.dropped && !(x.rangeDone && x.closed)

/-- Columns of shots are in progress: a schedule, or a shot in flight (04 R120). -/
def columnsRun (s : State) : Bool := (s.esc.runs.any fun r => !r.2.sweeps.isEmpty) || s.esc.shots.any Shot.flies

/-- The ESC page is reset once no shot is in flight. The column banks, hits on their way, LTRIG pulses and the dither sequences
stay (04 R113, R120; 02 R39; log entry 19). -/
def escReset (s : State) : State :=
  { s with esc := { s.esc with
      active := false, masked := false, runs := s.esc.runs.map fun p => (p.1, { p.2 with sweeps := [], col := 0, shot := 0, cfg := none }),
      resetDue := false, pulses := [], bursts := [], toutCtl := [], toutNext := 0, toutDone := [] } }

/-- ESC.STATUS (04 R120). -/
def escStatus (s : State) : Word :=
  word (b2n (galReady s (rd s F.GAL_STATUS_IL_POS)) * 64 + b2n (slotGranted s s.now) * 32 + b2n (emitPermit s) * 16
    + b2n (modelValid s) * 8 + rd s F.ESC_FRAME_CFG_COL_BANK * 4 + b2n s.esc.masked * 2 + b2n (escRunning s))

/-- SHOT_START (04 R113). -/
def execShotStart (t g : Nat) (s : State) : Host.Outcome State Fault Refusal := .next (shotStartEvent t g (at' t s))

/-- START_WINDOW_CLOSE (03 R87). -/
def execStartWindowClose (t m : Nat) (s : State) : Host.Outcome State Fault Refusal :=
  .next (startWindowClose t m (at' t s))

/-- LTRIG_EDGE (04 R101). -/
def execLtrigEdge (t g : Nat) (s : State) : Host.Outcome State Fault Refusal := .next (ltrigEdge t g (at' t s))

/-- CAPTURE_GATE_OPEN (04 R104). -/
def execCaptureGateOpen (t g : Nat) (dark : Bool) (s : State) : Host.Outcome State Fault Refusal :=
  .next (captureGateOpen t g dark (at' t s))

/-- CAPTURE_GATE_CLOSE (04 R104). -/
def execCaptureGateClose (t g : Nat) (dark : Bool) (s : State) : Host.Outcome State Fault Refusal :=
  .next (captureGateClose t g dark (at' t s))

end Sys2Proof.Machine
end

