-- ==== Sys2Proof/Machine/F32.lean ====
section
/-!
DEFINITION. Exact binary32 arithmetic, rounded to nearest even at each operation (16 R418, R419; 17).
-/

namespace Sys2Proof.Machine

/-- The NaN of an operation without a result: quiet, its sign and payload free (log entry 50). -/
def f32NaN : Word := (Sys2Proof.Config.nanBits &&& 0x803FFFFF#32) ||| 0x7FC00000#32

/-- What a binary32 word stands for; a finite value is ± m × 2^(e - 149), e from 0. -/
inductive Flt where
  | nan
  | inf (neg : Bool)
  | fin (neg : Bool) (m e : Nat)
  deriving DecidableEq, Repr

/-- The value of a word. -/
def f32Val (w : Word) : Flt :=
  let e := fld w 23 8
  let m := fld w 0 23
  if e = 255 then (if m = 0 then .inf (bit w 31) else .nan)
  else if e = 0 then .fin (bit w 31) m 0
  else .fin (bit w 31) (2 ^ 23 + m) (e - 1)

/-- The word of an infinity. -/
def f32Inf (neg : Bool) : Word := if neg then 0xFF800000#32 else 0x7F800000#32

/-- A quotient rounded to nearest, halves to even. -/
def divEven (a b : Nat) : Nat :=
  let q := a / b
  let r := 2 * (a % b)
  if r < b then q else if b < r then q + 1 else q + q % 2

/-- The word nearest to ± n / d × 2^-149, halves to even. -/
def f32Round (neg : Bool) (n d : Nat) : Word :=
  let e0 := Nat.log2 (n / d) - 23
  let q := divEven n (d * 2 ^ e0)
  let e := if q = 2 ^ 24 then e0 + 1 else e0
  let m := if q = 2 ^ 24 then 2 ^ 23 else q
  if m < 2 ^ 23 then word (b2n neg * 2 ^ 31 + m)
  else if 254 < e + 1 then f32Inf neg
  else word (b2n neg * 2 ^ 31 + (e + 1) * 2 ^ 23 + (m - 2 ^ 23))

/-- The word nearest to a rational a / b. -/
def f32Of (a : Int) (b : Nat) : Word := f32Round (decide (a < 0)) (a.natAbs * 2 ^ 149) b

/-- The signed integer of a finite value in units of 2^-149. -/
def fltInt (neg : Bool) (m e : Nat) : Int := if neg then -((m * 2 ^ e : Nat) : Int) else ((m * 2 ^ e : Nat) : Int)

/-- Addition. -/
def f32Add (a b : Word) : Word :=
  match f32Val a, f32Val b with
  | .nan, _ => f32NaN
  | _, .nan => f32NaN
  | .inf x, .inf y => if x = y then f32Inf x else f32NaN
  | .inf x, _ => f32Inf x
  | _, .inf y => f32Inf y
  | .fin x m e, .fin y n f =>
    let v := fltInt x m e + fltInt y n f
    if v = 0 then (if x && y then 0x80000000#32 else 0#32) else f32Round (decide (v < 0)) v.natAbs 1

/-- The negative of a word. -/
def f32Neg (a : Word) : Word := a ^^^ 0x80000000#32

/-- Subtraction. -/
def f32Sub (a b : Word) : Word := f32Add a (f32Neg b)

/-- Multiplication. -/
def f32Mul (a b : Word) : Word :=
  match f32Val a, f32Val b with
  | .nan, _ => f32NaN
  | _, .nan => f32NaN
  | .inf x, .inf y => f32Inf (x ^^ y)
  | .inf x, .fin y n _ => if n = 0 then f32NaN else f32Inf (x ^^ y)
  | .fin x m _, .inf y => if m = 0 then f32NaN else f32Inf (x ^^ y)
  | .fin x m e, .fin y n f => f32Round (x ^^ y) (m * n * 2 ^ (e + f)) (2 ^ 149)

/-- Division. -/
def f32Div (a b : Word) : Word :=
  match f32Val a, f32Val b with
  | .nan, _ => f32NaN
  | _, .nan => f32NaN
  | .inf _, .inf _ => f32NaN
  | .inf x, .fin y _ _ => f32Inf (x ^^ y)
  | .fin x _ _, .inf y => word (b2n (x ^^ y) * 2 ^ 31)
  | .fin x m e, .fin y n f =>
    if n = 0 then (if m = 0 then f32NaN else f32Inf (x ^^ y)) else f32Round (x ^^ y) (m * 2 ^ (e + 149)) (n * 2 ^ f)

/-- `a` is at or above `b`; false where either is a NaN. -/
def f32Ge (a b : Word) : Bool :=
  match f32Val a, f32Val b with
  | .nan, _ => false
  | _, .nan => false
  | .inf x, .inf y => !x || y
  | .inf x, _ => !x
  | _, .inf y => y
  | .fin x m e, .fin y n f => decide (fltInt y n f ≤ fltInt x m e)

/-- `a` is below `b`; false where either is a NaN. -/
def f32Lt (a b : Word) : Bool := f32Ge b a && !(f32Ge a b)

/-- A finite value times 2^k rounded to an integer, half away from zero; none for the rest. -/
def f32Fixed (w : Word) (k : Nat) : Option Int :=
  match f32Val w with
  | .fin x m e => some (rnd (fltInt x m e * 2 ^ k) (2 ^ 149))
  | _ => none

/-- The polynomial Σ_j T^j × (a0j + x × (a1j + x × (a2j + x × a3j))) in the order shown, a_ij at index i + 4j (16 R419);
the walk of 06 R162 is taken in the same order (log entry 52). -/
def f32Poly (a : List Word) (x t : Word) : Word :=
  let c (n : Nat) : Word := a.getD n 0#32
  let row (j : Nat) : Word :=
    f32Add (c (4 * j)) (f32Mul x (f32Add (c (4 * j + 1)) (f32Mul x (f32Add (c (4 * j + 2)) (f32Mul x (c (4 * j + 3)))))))
  f32Add (f32Add (row 0) (f32Mul t (row 1))) (f32Mul (f32Mul t t) (row 2))

/-- A word limited to a range, and whether it was clamped; a NaN counts as below. -/
def f32Clamp (x lo hi : Word) : Word × Bool :=
  if !(f32Ge x lo) then (lo, true) else if !(f32Ge hi x) then (hi, true) else (x, false)

end Sys2Proof.Machine
end

