-- ==== Sys2Proof/Machine/Ret.lean ====
section
/-!
DEFINITION. Return extraction: candidates, position, walk, range, classes and the point record (chapter 06, R156 to
R176).
-/

namespace Sys2Proof.Machine

/-! ## Detection (06 R158, R159) -/

/-- The least number whose square is at least `v`. -/
def ceilSqrt (v : Nat) : Nat := if isqrt v * isqrt v = v then isqrt v else isqrt v + 1

/-- θ in 1/256 count for a background and an RLG_CTRL (06 R158, log entry 54). -/
def theta (ctrl : Word) (b : Nat) : Nat := b + fld ctrl 24 8 * 256 + ceilSqrt (16 * fld ctrl 16 6 * fld ctrl 16 6 * b)

/-- The maximal sequences of indices below `n` at which `p` holds, first and last index, in rising order. -/
def findRuns (n : Nat) (p : Nat → Bool) : List (Nat × Nat) :=
  ((List.range n).foldl (fun l i =>
    if p i then
      match l with
      | (a, b) :: r => if b + 1 = i then (a, i) :: r else (i, i) :: l
      | [] => [(i, i)]
    else l) []).reverse

/-- The net count of bin `j` in 1/256 count (06 R158). -/
def netBin (c : Ctx) (b : Nat) (j : Int) : Nat := if 0 ≤ j ∧ j < (c.size : Nat) then c.bin j.toNat * 256 - b else 0

/-- The highest bin of a run, ties to the lower index (06 R158). -/
def peakBin (c : Ctx) (lo hi : Nat) : Nat :=
  (List.range (hi + 1 - lo)).foldl (fun p k => if c.bin p < c.bin (lo + k) then lo + k else p) lo

/-- The runs kept as candidates: the 8 with the largest peak, ties to the nearer (06 R159). -/
def bestRuns (c : Ctx) (l : List (Nat × Nat)) : List (Nat × Nat) :=
  let ins (x : Nat × Nat) (l : List (Nat × Nat)) : List (Nat × Nat) :=
    let h (r : Nat × Nat) : Nat := c.bin (peakBin c r.1 r.2)
    l.takeWhile (fun y => decide (h x ≤ h y)) ++ x :: l.dropWhile fun y => decide (h x ≤ h y)
  (l.foldl (fun acc x => ins x acc) []).take 8

/-! ## Position, width and walk (06 R160 to R163) -/

/-- δ in 1/256 bin: clamped to one bin, half away from zero, 0 for a zero denominator (06 R160). -/
def deltaQ (num den : Int) : Int :=
  if den = 0 then 0 else clampI (rnd (256 * num * (if den < 0 then -1 else 1)) den.natAbs) (-256) 256

/-- δq of a peak by the group's method (06 R160). -/
def interpDelta (method : Nat) (a : Int → Nat) (i : Int) : Int :=
  let v (k : Int) : Int := (a (i + k) : Int)
  match method with
  | 0 => deltaQ (v 1 - v (-1)) (v (-1) + v 0 + v 1)
  | 1 => deltaQ (2 * v 2 + v 1 - v (-1) - 2 * v (-2)) (v (-2) + v (-1) + v 0 + v 1 + v 2)
  | _ => deltaQ (v (-1) - v 1) (2 * (v (-1) - 2 * v 0 + v 1))

/-- The width store summed over the octants that hold bins `lo` to `hi` (06 R161). -/
def octSum (c : Ctx) (lo hi : Nat) : Oct :=
  (List.range 8).foldl (fun (o : Oct) k =>
    let x : Oct := pget ⟨0, 0, 0, 0⟩ c.oct k
    if lo * 8 / c.size ≤ k ∧ k ≤ hi * 8 / c.size then
      ⟨o.hits + x.hits, o.highs + x.highs, o.wsum + x.wsum, o.wcount + x.wcount⟩
    else o) ⟨0, 0, 0, 0⟩

/-- W in nanoseconds, limited to WMIN and WMAX, and whether it was clamped (06 R162). -/
def walkWidth (r : RetCfg) (o : Oct) : Word × Bool :=
  let lo := r.walk.getD 12 0#32
  let hi := r.walk.getD 13 0#32
  if r.pulse then (if r.wclass = 0 then (lo, true) else f32Clamp (f32Mul (f32Of r.wclass 1) (f32Of 1 16)) lo hi)
  else if o.wcount = 0 ∨ o.wsum = 0 then (lo, true)
  else f32Clamp (f32Of o.wsum (16 * o.wcount)) lo hi

/-- w_q, and whether W or w was clamped; free where the coefficients are no numbers (06 R162). -/
def walkOf (s : State) (r : RetCfg) (o : Oct) : Int × Bool × State :=
  let (x, cl) := walkWidth r o
  let w := f32Poly r.walk x r.temp
  match f32Val w with
  | .nan => (signed 24 (takeFree s 24).1, cl, (takeFree s 24).2)
  | .inf neg => (rnd ((if neg then -1 else 1) * (r.limit * 65536 : Nat)) 1000, true, s)
  | .fin neg m e =>
    let v := fltInt neg m e
    if (r.limit * 2 ^ 149 : Nat) < v.natAbs then
      (rnd ((if neg then -1 else 1) * (r.limit * 65536 : Nat)) 1000, true, s)
    else (rnd (v * 65536) (1000 * 2 ^ 149), cl, s)

/-- RANGE of a corrected time, and whether it was clamped (06 R164). -/
def rangeOf (q : Int) (ng : Nat) : Nat × Bool :=
  if q ≤ 0 then (0, true)
  else
    let r := rndN (q.toNat * 299792458 * 16384) (1000000 * ng)
    if 0xFFFFFF < r then (0xFFFFFF, true) else (r, false)

/-! ## Record quantities (06 R170) -/

/-- A quotient in unsigned 4.12, to the nearest, saturating. -/
def fix412 (n d : Nat) : Nat := min 0xFFFF (rndN (n * 4096) d)

/-- 20 log10 (A ÷ √max(b, 1)) in 0.25 dB, to the nearest, limited to 0 to 255; A is not 0. -/
def snrOf (a b : Nat) : Nat :=
  let num := a * a
  let den := 256 * max b 256
  (List.range 255).foldl (fun n k => if 10 ^ (2 * k + 1) * den ^ 80 ≤ num ^ 80 then k + 1 else n) 0

/-- The code of BACKGROUND. -/
def bgCode (b : Nat) : Nat :=
  match (List.range 16).find? (fun e => decide (rndN (b * 16) (2 ^ e) ≤ 255)) with
  | some e => e * 256 + rndN (b * 16) (2 ^ e)
  | none => 0xFFF

/-- The candidate of a run of a context with its background; what the spec leaves without a value is free. -/
def candOf (s : State) (p : Pixel) (c : Ctx) (b : Nat) (fell : Bool) (run : Nat × Nat) : Cand × State :=
  let r := p.id.ret
  let k := c.get 0 20 4
  let fired := c.get 4 16 9
  let i := peakBin c run.1 run.2
  let a := netBin c b
  let qRet := c.origin * 256 + ((i * 256 : Nat) + 128 + interpDelta (fld r.ctrl 4 2) a i) * (2 ^ k : Nat)
  let lo := run.1 - 1
  let hi := min (run.2 + 1) (c.size - 1)
  let o := octSum c lo hi
  let (wq, wcl, s) := walkOf s r o
  let q := qRet - r.offset - wq - r.zero
  let (range, rcl) := rangeOf q r.ng
  let (amp, s) := if fired = 0 then (((takeFree s 24).1, 1), (takeFree s 24).2) else ((a i, fired), s)
  let net := ((List.range (hi + 1 - lo)).map fun j => a (lo + j : Nat)).sum
  let (inten, s) := if fired = 0 then takeFree s 16 else (fix412 net (256 * fired), s)
  let (snr, s) := if a i = 0 then takeFree s 8 else (snrOf (a i) b, s)
  let (low, s) := if r.pulse then (1, s) else if o.hits = 0 then takeFree s 1 else (b2n (decide (2 * o.highs < o.hits)), s)
  let half := ((List.range (run.2 + 1 - run.1)).filter fun j => decide (a i ≤ 2 * a (run.1 + j : Nat))).length * 2 ^ k
  ({ coarse := c.get 0 28 2 = 0, k := k, fired := fired, b := b, a := a i, ampN := amp.1, ampD := amp.2, qRet := qRet,
     winLo := c.origin + (lo * 2 ^ k : Nat), winHi := c.origin + ((hi + 1) * 2 ^ k : Nat),
     wm := if o.wcount = 0 then 0 else rndN o.wsum o.wcount, low := low = 1, inten := inten, half := half, snr := snr,
     q := q, range := range, walkClamp := wcl, rangeClamp := rcl, fallback := fell, cls := 1 }, s)

/-- The candidates of a context and whether runs were discarded (06 R158, R159). -/
def candsOf (s : State) (p : Pixel) (c : Ctx) (b : Nat) (fell : Bool) : List Cand × Bool × State :=
  let l := findRuns c.size fun i => decide (theta p.id.ret.ctrl b ≤ c.bin i * 256)
  let (cs, s) := (bestRuns c l).foldl (fun (acc : List Cand × State) run =>
    let (x, s) := candOf acc.2 p c b fell run
    (acc.1 ++ [x], s)) ([], s)
  (cs, decide (8 < l.length), s)

/-! ## Classes and choice (06 R166 to R169) -/

/-- The span of a zoom window in LSB (06 R166). -/
def zoomSpan (c : Ctx) : Int × Int := (c.origin, c.origin + (c.size * 2 ^ c.get 0 20 4 : Nat))

/-- The pixel is foreign-affected: z exceeds LIMIT × 0.25 (06 R167); D − E and E in 1/256 count. -/
def foreignPixel (fg : Word) (d : Nat × Nat × Nat) : Bool :=
  let e := d.2.1 * d.2.2
  let x := d.1 * 256 - e
  let l := fld fg 8 6
  decide (0 < x) && decide (l * l * 256 * max e 256 < x * x * 16)

/-- A candidate of a foreign-affected pixel is FOREIGN (06 R167); free where the spec states no value. -/
def foreignCand (s : State) (p : Pixel) (d : Nat × Nat × Nat) (x : Cand) : Bool × State :=
  let fc := if p.zooms.isEmpty then x.fired else p.coarseFired
  let num := (d.1 * 256 - d.2.1 * d.2.2) * 2 ^ x.k * x.fired
  let den := d.2.1 * 2 ^ p.id.cfg.kc * fc
  let fk := fld p.id.ret.fg 0 6
  let y := x.b * den + num
  if den = 0 ∨ (y = 0 ∧ x.a = 0) then ((takeFree s 1).1 = 1, (takeFree s 1).2)
  else if x.a * den < num then (true, s)
  else
    let v := x.a * den - num
    (decide (v * v * 16 < fk * fk * y * den * 256), s)

/-- The candidate is weak (06 R168). -/
def Cand.weak (r : RetCfg) (x : Cand) : Bool := x.low && decide (fix412 x.ampN (256 * x.ampD) < fld r.part 16 16)

/-- The candidates of a pixel with their classes (06 R168). -/
def classifyCands (r : RetCfg) (l : List Cand) : List Cand :=
  let weak := l.filter fun x => x.weak r && decide (x.cls ≠ 3)
  let inSpan (lo : Cand) (y : Cand) : Bool := decide (lo.qRet ≤ y.qRet) && decide (y.qRet ≤ lo.qRet + (r.span * 256 : Nat))
  let clustered (x : Cand) : Bool :=
    weak.any fun lo => inSpan lo x && decide (3 ≤ (weak.filter (inSpan lo)).length)
  l.map fun x =>
    if x.cls = 3 then x
    else if x.weak r && (decide (fld r.part 0 16 < x.half) || clustered x) then { x with cls := 2 }
    else x

/-- A candidate precedes another in the choice: larger A_s, ties to the nearer range (06 R169). -/
def Cand.before (x y : Cand) : Bool :=
  decide (y.ampN * x.ampD < x.ampN * y.ampD) || (decide (y.ampN * x.ampD = x.ampN * y.ampD) && decide (x.range ≤ y.range))

/-- A list ordered by a relation, stable. -/
def orderBy {α : Type} (le : α → α → Bool) (l : List α) : List α :=
  l.foldl (fun acc x => acc.takeWhile (fun y => le y x) ++ x :: acc.dropWhile fun y => le y x) []

/-- The flags of a pixel (06 R171), SETTLING to ZOOM from its shots, hits and contexts. -/
def pixelFlags (p : Pixel) (sat noCtx takeover : Bool) : Nat :=
  b2n takeover * 2048 + b2n noCtx * 1024 + b2n (decide (p.fired < p.scheduled)) * 512 + b2n p.settling * 256
    + b2n p.subst * 128 + b2n p.provisional * 64 + b2n sat * 32 + b2n p.noPeak * 16
    + b2n (decide (p.phase = .zoom)) * 8

/-- word2 of a point record (06 R170). -/
def recWord2 (p : PixelId) : Word := word (p.col * 2 ^ 16 + p.chan * 64 + p.il * 16)

/-- A NONE record (06 R170). -/
def noneRecord (p : Pixel) (flags bg : Nat) (excess : Bool) : List Word :=
  [word (4 + b2n excess * 2), 0#32, recWord2 p.id, word (bgCode bg * 4096 + flags)]

/-- The record of a return with its index (06 R170). -/
def retRecord (p : Pixel) (flags : Nat) (excess : Bool) (x : Cand) (i : Nat) (last : Bool) : List Word :=
  [word (x.range * 256 + i * 64 + x.cls * 8 + b2n last * 4 + b2n excess * 2 + b2n x.rangeClamp),
   word (x.inten * 2 ^ 16 + x.wm), recWord2 p.id,
   word (x.snr * 2 ^ 24 + bgCode x.b * 4096 + flags + b2n x.coarse * 4 + b2n x.walkClamp * 2 + b2n x.fallback)]

/-- Classified returns are counted (06 R169, R174). -/
def countReturns (s : State) (l : List Cand) : State :=
  let n (p : Cand → Bool) : Nat := (l.filter p).length
  let s := bumpBy s A.RET_RETURNS l.length
  let s := bumpBy s A.RET_PARTICULATE (n fun x => x.cls = 2)
  let s := bumpBy s A.RET_FOREIGN (n fun x => x.cls = 3)
  let s := bumpBy s A.RET_WALK_CLAMP (n (·.walkClamp))
  let s := bumpBy s A.RET_RANGE_CLAMP (n (·.rangeClamp))
  let s := if l.any (·.walkClamp) then raise s F.RET_EVT_RAW_WALK_CLAMP else s
  if l.any (·.rangeClamp) then raise s F.RET_EVT_RAW_RANGE_CLAMP else s

/-- RLG_LAST_Q takes the q of a return; free where it leaves 32 bits. -/
def setLastQ (s : State) (g : Nat) (q : Int) : State :=
  if -(2 ^ 31) ≤ q ∧ q < 2 ^ 31 then setReg s (A.RLG_LAST_Q g) (iword q)
  else setReg (takeFree s 32).2 (A.RLG_LAST_Q g) (word (takeFree s 32).1)

/-- EXCESS is counted (06 R174). -/
def countExcess (s : State) (excess : Bool) : State :=
  if excess then raise (bump s A.RET_EXCESS) F.RET_EVT_RAW_EXCESS else s

/-- A foreign-affected pixel is counted and its candidates are tested, while REJ is enabled (06 R167, R177). -/
def foreignTest (s : State) (p : Pixel) (l : List Cand) : List Cand × State :=
  match (if flag s F.REJ_CTRL_ENABLE then p.decoy else none) with
  | none => (l, s)
  | some d =>
    if foreignPixel p.id.ret.fg d then
      let s := raise (bump s A.REJ_FOREIGN_PIX) F.REJ_EVT_RAW_FOREIGN_PIX
      l.foldl (fun (acc : List Cand × State) x =>
        let (f, s) := foreignCand acc.2 p d x
        (acc.1 ++ [if f then { x with cls := 3 } else x], s)) ([], s)
    else (l, s)

/-- The point records of a pixel whose extracted contexts have closed (06 R166 to R172). -/
def pixelRecords (s : State) (x : Closing) (takeover : Bool) : List (List Word) × State :=
  let p := x.pixel
  let r := p.id.ret
  let flags := pixelFlags p x.sat false takeover
  let cands := if p.fired = 0 then [] else x.cands
  let (l, s) := foreignTest s p cands
  let l := classifyCands r l
  let s := countReturns s l
  let kept := l.filter fun c => !((c.cls = 2 && bit r.ctrl 8) || (c.cls = 3 && bit r.fg 31))
  let s := bumpBy s A.RET_DROPPED (l.length - kept.length)
  let excess := x.excess || decide (4 < kept.length)
  let chosen := orderBy (fun a b => decide (a.range ≤ b.range)) ((orderBy Cand.before kept).take 4)
  let s := countExcess s excess
  match chosen.getLast? with
  | none => ([noneRecord p flags (x.bg.getD 0) excess], bump s A.RET_EMPTY)
  | some c =>
    (chosen.zipIdx.map fun y => retRecord p flags excess y.1 y.2 (decide (y.2 + 1 = chosen.length)), setLastQ s p.id.group c.q)

/-- The NONE record of a pixel that was refused, or of any pixel while RET is disabled (06 R171, R174). -/
def refusedRecord (s : State) (p : Pixel) (sat takeover : Bool) : List (List Word) × State :=
  ([noneRecord p (pixelFlags p sat true takeover) 0 false], bump s A.RET_EMPTY)

/-- A context of a closing pixel is extracted (05 R139, 06 R156 to R166). -/
def extract (s : State) (x : Closing) (zooms : List Ctx) (c : Ctx) : Closing × State :=
  let p := x.pixel
  let (b, fell, s) := bgOf s p c
  let s := if fell then raise (bump s A.RET_BG_FALLBACK) F.RET_EVT_RAW_BG_FALLBACK else s
  let (l, more, s) := candsOf s p c b fell
  let isCoarse := c.get 0 28 2 = 0
  let l := if isCoarse then l.filter fun y => !(zooms.any fun z => decide (y.winLo < (zoomSpan z).2) && decide ((zoomSpan z).1 < y.winHi))
           else l
  let p := if isCoarse ∧ p.zooms.isEmpty then { p with decoy := decoyOf p c b } else p
  ({ x with pixel := p, cands := x.cands ++ l, bg := x.bg.or (some b), excess := x.excess || more }, s)

/-! ## The temperature of the walk (06 R163) -/

/-- T becomes held. -/
def retHold (s : State) : State :=
  if flag s F.RET_STATUS_TEMP_STALE then s else raise (wr s F.RET_STATUS_TEMP_STALE 1) F.RET_EVT_RAW_TEMP_STALE

/-- The named channel has had a result, or another channel is named: T takes a valid result, and is held otherwise. -/
def retTemp (s : State) : State :=
  let c := rd s F.RET_TEMP_SEL_CHAN
  if flag s (F.HCH_STATUS_VALID c) ∧ !(flag s (F.HCH_STATUS_STALE c)) then
    wr (setReg s A.RET_TEMP_NOW (reg s (A.HCH_RESULT c))) F.RET_STATUS_TEMP_STALE 0
  else retHold s

/-- TEMP_STALE: the result that supplies T has not been renewed for two round periods, or is invalid (06 R163). -/
def tempStale (t : Nat) (s : State) : State :=
  let c := rd s F.RET_TEMP_SEL_CHAN
  if !(flag s (F.HCH_STATUS_VALID c)) || decide (pget 0 s.hka.last c + usec (2 * rd s F.HKA_ROUND_CFG_PERIOD_US) ≤ t) then retHold s
  else s

/-- TEMP_STALE (06 R163). -/
def execTempStale (t : Nat) (s : State) : Host.Outcome State Fault Refusal := .next (tempStale t (at' t s))

/-! ## Registers -/

/-- The checks of a write to the RET page: ENABLE stays at 1 while shots are scheduled (06 R174). -/
def retCheck (a : Nat) (d : Word) (s : State) : Nat :=
  if a = A.RET_CTRL ∧ fld d 0 2 = 0 ∧ escRunning s then 0x04 else 0

/-- What an accepted write of the RET page does beside storing it. -/
def retAct (a : Nat) (s : State) : State := if a = A.RET_TEMP_SEL then retTemp s else s

/-- RET.STATUS (06 R174). -/
def retStatus (s : State) : Word :=
  word (rd s F.RET_STATUS_TEMP_STALE * 4 + rd s F.RET_STATUS_CAL_ZERO * 2 + b2n (flag s F.RET_CTRL_ENABLE && running s))

end Sys2Proof.Machine
end

