-- ==== Sys2Proof/Machine/Cal.lean ====
section
/-!
DEFINITION. Calibration: jobs, and the corrections in force (chapter 17).
-/

namespace Sys2Proof.Machine

/-- The calibration block changed. -/
def onCal (s : State) (f : Cal → Cal) : State := { s with cal := f s.cal }

/-- A CALSTORE word written. -/
def calPut (s : State) (a : Nat) (w : Word) : State := { s with calstore := setMemWord s.calstore a w }

/-! ## Computations (17 R446, R447) -/

/-- A VALID temperature set with a number for its temperature: set, value in 2^-149 °C, word. -/
def calSets (s : State) : List (Nat × Int × Word) :=
  (List.range 8).filterMap fun k =>
    let w := memWord s.calstore (16 * k + 4)
    match bit (memWord s.calstore (16 * k)) 31, f32Val w with
    | true, .fin n m e => some (k, fltInt n m e, w)
    | _, _ => none

/-- Of two sets with equal temperatures the lower-numbered is kept (17 R447). -/
def calUnique : List (Nat × Int × Word) → List (Nat × Int × Word)
  | [] => []
  | x :: l => x :: (calUnique l).filter fun y => decide (y.2.1 ≠ x.2.1)

/-- The set that is nearest to `v` by a measure. -/
def calNearest (d : Int → Nat) (l : List (Nat × Int × Word)) : Option (Nat × Int × Word) :=
  l.foldl (fun b x =>
    match b with
    | none => some x
    | some y => if d x.2.1 < d y.2.1 then some x else b) none

/-- The choice of sets for T: lo and hi, or a single set (17 R447; log entry 85). -/
def calChoose (l : List (Nat × Int × Word)) (v : Int) : Option ((Nat × Int × Word) × Option (Nat × Int × Word)) :=
  let dist (u : Int) : Nat := (u - v).natAbs
  let below := calNearest dist (l.filter fun x => decide (x.2.1 ≤ v))
  let above' := calNearest dist (l.filter fun x => decide (v < x.2.1))
  let under := calNearest dist (l.filter fun x => decide (x.2.1 < v))
  match below, above', under with
  | some a, some b, _ => some (a, some b)
  | some a, none, some b => if a.2.1 = v then some (b, some a) else some (a, none)
  | some a, none, none => some (a, none)
  | none, some b, _ => some (b, none)
  | none, none, _ => none

/-- The weight of set hi, of 65,536 (17 R447). -/
def calWeight (t lo hi : Word) : Nat :=
  match f32Fixed (f32Div (f32Mul 0x47800000#32 (f32Sub t lo)) (f32Sub hi lo)) 0 with
  | some v => (clampI v 0 65536).toNat
  | none => 0

/-- a + round((b − a) × w16 ÷ 65536), half away from zero (17 R447). -/
def lerp (a b : Int) (w : Nat) : Int := a + rnd ((b - a) * w) 65536

/-- a + (b − a) × w16 ÷ 65536 in binary32 (17 R447). -/
def lerpF (a b : Word) (w : Nat) : Word :=
  f32Add a (f32Div (f32Mul (f32Sub b a) (f32Of w 1)) 0x47800000#32)

/-- The address of a record of a temperature set: channel 0 to 511, or 512 + m for a start channel (17 R450). -/
def calRec (k n : Nat) : Nat := 0x22000 + 0x2400 * k + 8 * n

/-- The chosen sets that have a quantity: those whose OK bit is set. -/
def calHave (s : State) (ks : List Nat) (ok : Nat) : List Nat := ks.filter fun k => bit (memWord s.calstore (16 * k)) ok

/-- A quantity of both chosen sets, of the one that has it, or 0 (17 R447). -/
def calMix {α : Type} (zero : α) (f : Nat → α) (g : α → α → α) : List Nat → α
  | [] => zero
  | [k] => f k
  | k :: h :: _ => g (f k) (f h)

/-- The stored offset of a channel: its tap and its residual. -/
def calStored (s : State) (n k : Nat) : Int × Int :=
  ((fld (memWord s.calstore (calRec k n)) 16 7 : Nat), sword (memWord s.calstore (calRec k n + 4)))

/-- The tap and the residual in force of a channel (17 R447). -/
def calOffset (s : State) (ks : List Nat) (w n : Nat) : Int × Int :=
  calMix (0, 0) (calStored s n) (fun a b =>
    let tap := (a.1 * 65536 + (b.1 - a.1) * w + 32768) / 65536
    (tap, lerp (a.2 - 256 * a.1) (b.2 - 256 * b.1) w + 256 * tap)) ks

/-- A trim in force of a channel, from bit `lo` of its record (17 R447). -/
def calTrim (s : State) (ks : List Nat) (w lo n : Nat) : Int :=
  calMix 0 (fun k => signed 8 (fld (memWord s.calstore (calRec k n)) lo 8)) (fun a b => lerp a b w) ks

/-- The walk of a bank in force: twelve coefficients, WMIN and WMAX (17 R447). -/
def calWalk (s : State) (ks : List Nat) (w b : Nat) : List Word :=
  (List.range 14).map fun i =>
    calMix 0#32 (fun k => memWord s.calstore (0x22000 + 0x2400 * k + 0x1100 + 0x40 * b + 4 * i)) (fun x y => lerpF x y w) ks

/-- Sparse data of a function on the numbers below `n`. -/
def tabulate {α : Type} [DecidableEq α] (d : α) (n : Nat) (f : Nat → α) : List (Nat × α) :=
  (List.range n).filterMap fun i => if f i = d then none else some (i, f i)

/-- The corrections computed from the directory as it stands (17 R447). -/
def calCompute (s : State) (t : Word) : CalSet :=
  let v := match f32Val t with
    | .fin n m e => fltInt n m e
    | _ => 0
  match calChoose (calUnique (calSets s)) v with
  | none => CalSet.empty
  | some (lo, hi) =>
    let w := match hi with
      | some h => calWeight t lo.2.2 h.2.2
      | none => 0
    let ks := lo.1 :: (hi.map (·.1)).toList
    let offs := calHave s ks 30
    let thr := calHave s ks 29
    let walk := calHave s ks 28
    { tap := tabulate 0 520 fun n => (calOffset s offs w n).1.toNat, res := tabulate 0 520 fun n => (calOffset s offs w n).2,
      thl := tabulate 0 520 (calTrim s thr w 0), thh := tabulate 0 512 (calTrim s thr w 8),
      walk := tabulate [] 64 fun b => if walk.isEmpty then [] else calWalk s walk w b,
      lo := lo.1, hi := ((hi.map (·.1)).getD lo.1), w16 := w, single := hi.isNone, some' := true }

/-- A computation starts; while a job or another computation runs it is asked for again (17 R440, R447; log entry 85). -/
def calStart (s : State) : State :=
  if s.cal.job.isSome ∨ s.cal.comp.isSome then onCal s fun c => { c with again := true }
  else
    let t := s.cal.temp
    let l := calSets s
    let x := calCompute s t
    let s := if (calUnique l).length < l.length then raise s F.CAL_EVT_RAW_DUP_TEMP else s
    let s := if x.single then raise s F.CAL_EVT_RAW_OUT_OF_RANGE else s
    onCal (setReg s A.CAL_TEMP_NOW t) fun c => { c with comp := some (s.now, x), again := false }

/-- What was asked for in the meantime starts. -/
def calAgain (s : State) : State := if s.cal.again ∧ flag s F.CAL_CTRL_ENABLE then calStart s else s

/-- CAL_COMPUTE_DONE: a computation completes, and replaces one that awaits its boundary (17 R447, R449). -/
def calComputeDone (s : State) : State :=
  if s.cal.job.isSome then s
  else
    match s.cal.comp with
    | none => s
    | some (_, x) =>
      calAgain (onCal (wr s F.CAL_STATUS_PENDING 1) fun c => { c with comp := none, wait := some (s.now, x) })

/-- CAL_COMPUTE_DONE (17 R447). -/
def execCalComputeDone (t : Nat) (s : State) : Host.Outcome State Fault Refusal := .next (calComputeDone (at' t s))

/-! ## Installation (17 R448, R449) -/

/-- The trims of a channel come into force; a changed code starts its settling interval (17 R449, 03 R75, R98). -/
def calChannel (x : CalSet) (s : State) (c : Nat) : State :=
  let l := thlApplied s c
  let h := thhApplied s c
  let s := wr s (F.CH_TRIM_DELAY_TAP c) (pget 0 x.tap c)
  let s := wrI (wrI s (F.CH_TRIM_THL_TRIM c) (pget 0 x.thl c)) (F.CH_TRIM_THH_TRIM c) (pget 0 x.thh c)
  clampEvent (if thlApplied s c = l ∧ thhApplied s c = h then s else settle s c) c

/-- What shows the corrections in force. -/
def calShow (s : State) : State :=
  let x := s.cal.cur
  let s := wr (wr (wr s F.CAL_STATUS_SET_LO x.lo) F.CAL_STATUS_SET_HI x.hi) F.CAL_STATUS_SINGLE_SET (b2n x.single)
  wrB (setReg s A.CAL_WEIGHT (word x.w16)) F.CAL_STATUS_INSTALLED x.some'

/-- Corrections come into force in one step, at `e` (17 R448, R449). -/
def calInstall (s : State) (e : Nat) (x : CalSet) : State :=
  let s := (List.range 512).foldl (calChannel x) s
  let s := onCal s fun c => { c with cur := x, wait := none, stepAt := e }
  let s := wrB (wr (calShow s) F.CAL_STATUS_PENDING 0) F.RET_STATUS_CAL_ZERO (!x.some')
  raise (bump s A.CAL_APPLIED) F.CAL_EVT_RAW_APPLIED

/-! ## Jobs (17 R439 to R445) -/

/-- The channels that a job takes events of. -/
def CalJob.channels (j : CalJob) : List Nat :=
  match j.type with
  | 0 => List.range 521
  | 4 => List.range 4
  | _ => List.range 520

/-- Events needed of each channel in an orientation. -/
def CalJob.need (j : CalJob) : Nat := if j.type = 4 then 16 else j.events

/-- Events taken by the channel that has the fewest. -/
def CalJob.least (j : CalJob) : Nat := j.channels.foldl (fun n c => min n (pget 0 j.count c)) j.need

/-- Every channel has its events of the present orientation. -/
def CalJob.full (j : CalJob) : Bool := decide (j.need ≤ j.least)

/-- The mean of T over a job, and whether it moved by more than HYST (17 R441). -/
def CalJob.mean (j : CalJob) : Word := f32Round (decide (j.tSum < 0)) j.tSum.natAbs (max 1 j.tCount)

/-- A job takes a value of T (17 R441). -/
def CalJob.temp (j : CalJob) (w : Word) : CalJob :=
  match f32Val w with
  | .fin n m e =>
    let v := fltInt n m e
    { j with tSum := j.tSum + v, tCount := j.tCount + 1, tLo := if j.tCount = 0 then v else min j.tLo v,
             tHi := if j.tCount = 0 then v else max j.tHi v }
  | _ => j

/-- T moved by more than HYST. -/
def tempDrift (s : State) (j : CalJob) : Bool :=
  match f32Val (reg s A.CAL_HYST) with
  | .fin n m e => decide (fltInt n m e < j.tHi - j.tLo)
  | _ => false

/-- The thresholds in force before a job come back: OFFSET has held +100 mV, code 640, and THRESH has searched, so a channel
whose applied codes change settles (17 R440, R443, R444; 03 R73, R75). -/
def jobRestore (s : State) (j : CalJob) : State :=
  if j.type = 1 ∨ j.type = 2 then
    (List.range 512).foldl (fun s c =>
      if j.type = 1 ∧ thlApplied s c = 640 ∧ thhApplied s c = 640 then s else settle s c) s
  else s

/-- The job ends: 2 completed, 3 failed or abandoned (17 R440, R441). -/
def jobEnd (s : State) (st : Nat) : State :=
  match s.cal.job with
  | none => s
  | some j =>
    let s := setReg (jobRestore s j) A.CAL_JOB_TEMP j.mean
    let s := wrB (wr s F.CAL_JOB_STATUS_STATE st) F.CAL_JOB_STATUS_TEMP_DRIFT (tempDrift s j)
    let s := wr (wr (wr s F.CAL_STATUS_JOB_RUNNING 0) F.CAL_STATUS_PHASE 0) F.CAL_STATUS_ORIENT 0
    let s := onCal s fun c => { c with job := none }
    let s := if st = 2 then raise (bump s A.CAL_JOBS) F.CAL_EVT_RAW_JOB_DONE else raise s F.CAL_EVT_RAW_JOB_FAIL
    calAgain s

/-- The job fails or is abandoned, with a code or none (17 R440). -/
def jobFail (s : State) (code : Nat) : State :=
  if s.cal.job.isSome then jobEnd (if code = 0 then s else recFail s 0xD0000 code) 3 else s

/-- The refusals of START, in the order of their table (17 R439, R442). -/
def jobRefused (s : State) : Nat :=
  let ty := rd s F.CAL_JOB_CFG_TYPE
  if cold s then 0x21
  else if escRunning s ∨ !(sysOn s) then 0x22
  else if (ty = 1 ∨ ty = 2) ∧ bit (memWord s.calstore (16 * rd s F.CAL_JOB_CFG_SET)) 31 then 0x25
  else if s.cal.job.isSome then 0x04
  else if ty = 0 ∧ 4194304 < rd s F.CAL_JOB_EVENTS then 0x02
  else 0

/-- A job starts (17 R439 to R445). -/
def jobStart (s : State) : State :=
  let ty := rd s F.CAL_JOB_CFG_TYPE
  let j : CalJob := ⟨ty, rd s F.CAL_JOB_CFG_SET, rd s F.CAL_JOB_EVENTS, 0, 0, [], [], [], [], s.now, 0, 0, 0, 0, 0, [], [0, 0, 0, 0], 0⟩
  let s := onCal s fun c => { c with job := some (j.temp c.temp) }
  let s := wr (setReg s F.CAL_JOB_STATUS_EVENTS.addr 0x40000000#32) F.CAL_STATUS_JOB_RUNNING 1
  if ty = 0 then { s with calstore := memClear s.calstore 0x34000 0x75200 }
  else if ty = 4 ∧ !(flag s F.HKA_CTRL_ENABLE) then jobFail s 0x04
  else s

/-- The job replaced, with the events it has taken shown. -/
def setJob (s : State) (j : CalJob) : State := wr (onCal s fun c => { c with job := some j }) F.CAL_JOB_STATUS_EVENTS j.least

/-- o_n in 1/256 LSB from the sums of both orientations (17 R438, R443). -/
def CalJob.offset (j : CalJob) (n : Nat) : Int := rnd ((pget 0 j.normal n + pget 0 j.sum n) * 256) (2 * j.events)

/-- A clamped tap or trim is counted (17 R443, R444). -/
def calClamped (s : State) : State := recFail (raise (bump s A.CAL_CLAMPED) F.CAL_EVT_RAW_CLAMP) 0xD0000 0x26

/-- The taps after pass 1, and how many were clamped (17 R443). -/
def tapsOf (s : State) (j : CalJob) : List (Nat × Nat) × Nat :=
  let want (n : Nat) : Int := (rd s F.CAL_TRIM_TARGET : Int) - rnd (j.offset n) 256
  (tabulate 0 520 fun n => (clampI (want n) 0 127).toNat, ((List.range 520).filter fun n => clampI (want n) 0 127 ≠ want n).length)

/-- An OFFSET job with every event of an orientation passes to the next orientation or pass (17 R443). -/
def offsetNext (s : State) (j : CalJob) : State :=
  if !j.full then setJob s j
  else if j.orient = 0 then
    setJob (wr s F.CAL_STATUS_ORIENT 1) { j with orient := 1, normal := j.sum, sum := [], count := [] }
  else if j.pass = 0 then
    let x := tapsOf s j
    let s := (List.range x.2).foldl (fun s _ => calClamped s) s
    setJob (wr (wr s F.CAL_STATUS_ORIENT 0) F.CAL_STATUS_PHASE 1) { j with orient := 0, pass := 1, taps := x.1, normal := [], sum := [], count := [] }
  else setJob s j

/-- An event of channel `n` is counted, with a value for its sum. -/
def CalJob.take (j : CalJob) (n : Nat) (v : Int) (now : Nat) : CalJob :=
  { j with count := pset 0 j.count n (pget 0 j.count n + 1), sum := pset 0 j.sum n (pget 0 j.sum n + v), edge := now }

/-- Captures of a hit channel count in CH_HITS (17 R440). -/
def calHits (s : State) (n k : Nat) : State := if n < 512 then bumpBy s (A.CH_HITS n) k else s

/-- A code of a CODE_DENSITY job is counted in its bin (17 R442). -/
def densityBin (s : State) (n code v : Nat) : State :=
  let a := 0x34000 + 0x200 * n + 2 * code
  { s with calstore := pset 0#8 (pset 0#8 s.calstore a (BitVec.ofNat 8 v)) (a + 1) (BitVec.ofNat 8 (v / 256)) }

/-- CAL_EVENT_CAPTURE: a CAL_IN edge or pair is captured on channel `n` (0 to 511 hit, 512 to 519 start, 520 CALREF), or a
sample of VCAL at gain 2^n. `a` and `b` are raw times: CODE_DENSITY takes the code in `a`, OFFSET the channel's edge and
CALREF's, SCALE the first and the second pulse; VCAL_ADC takes the raw code in `a` (17 R442, R443, R445; log entry 85). -/
def calEventCapture (n a b : Nat) (s : State) : State :=
  match s.cal.job with
  | none => s
  | some j =>
    if !(sysOn s) ∨ !(j.channels.contains n) ∨ (j.type = 4 ∧ !(flag s F.HKA_CTRL_ENABLE)) then s
    else if j.need ≤ pget 0 j.count n then
      (match j.type with
       | 4 => s
       | ty => calHits (onCal s fun c => { c with job := some { j with edge := s.now } }) n (if ty = 0 then 1 else 2))
    else
      match j.type with
      | 0 =>
        let c := 256 * n + a % 256
        let v := pget 0 j.codes c + 1
        setJob (densityBin (calHits s n 1) n (a % 256) v) { j.take n 0 s.now with codes := pset 0 j.codes c v }
      | 1 =>
        let e : Int := edgeTime s n a + pget 0 j.taps n
        offsetNext (calHits s n 2) (j.take n (e - edgeTime s 520 b) s.now)
      | 3 => setJob (calHits s n 2) (j.take n ((edgeTime s n b : Int) - edgeTime s n a) s.now)
      | 4 => raise (bump (setJob s (j.take n (signed 16 a) s.now)) A.HKA_URGENTS) F.HKA_EVT_RAW_URG_DONE
      | _ => s

/-- CAL_EVENT_CAPTURE (17 R442). -/
def execCalEventCapture (t n a b : Nat) (s : State) : Host.Outcome State Fault Refusal :=
  .next (calEventCapture n a b (at' t s))

/-- CAL_THRESH_STEP: a search step ends; `above` names the DACs (channel for THL, 512 + channel for THH, 1024 + m for STH) whose
majority of 256 samples at 1 µs intervals found VCAL above the code tried (17 R444). -/
def calThreshStep (above : List Nat) (s : State) : State :=
  match s.cal.job with
  | none => s
  | some j =>
    if j.type ≠ 2 ∨ 10 ≤ j.step ∨ !(sysOn s) ∨ s.now < j.edge + usec 256 then s
    else onCal s fun c => { c with job := some { j with
      step := j.step + 1, edge := s.now, codes := above.foldl (fun l d => if d < 1032 then pset 0 l d (pget 0 l d ||| 2 ^ (9 - j.step)) else l) j.codes } }

/-- CAL_THRESH_STEP (17 R444). -/
def execCalThreshStep (t : Nat) (above : List Nat) (s : State) : Host.Outcome State Fault Refusal :=
  .next (calThreshStep above (at' t s))

/-- CAL_NO_SIGNAL: CAL_IN has given no edge for 10 ms (17 R440). -/
def calNoSignal (s : State) : State :=
  match s.cal.job with
  | some j => if j.type ∈ [0, 1, 3] ∧ j.edge + msec 10 ≤ s.now then jobFail s 0x23 else s
  | none => s

/-- CAL_NO_SIGNAL (17 R440). -/
def execCalNoSignal (t : Nat) (s : State) : Host.Outcome State Fault Refusal := .next (calNoSignal (at' t s))

/-! ## Results of jobs -/

/-- The count of code `k` of channel `n`. -/
def CalJob.bin (j : CalJob) (n k : Nat) : Nat := pget 0 j.codes (256 * n + k)

/-- A channel's code density is not uniform enough (17 R442). -/
def CalJob.uneven (j : CalJob) (n : Nat) : Bool :=
  (List.range 256).any fun k => decide (j.bin n k = 0) || decide (4 * j.events < 256 * j.bin n k)

/-- The interpolator table of channel `n`, from code `k` on with C codes below it (17 R442). -/
def densityTable (j : CalJob) (n : Nat) : Nat → Nat → Nat → List Host.Cell → List Host.Cell
  | 0, _, _, m => m
  | r + 1, k, below, m =>
    let v := min 255 (256 * (2 * below + j.bin n k) / max 1 (2 * j.events))
    densityTable j n r (k + 1) (below + j.bin n k) (pset 0#8 m (0x1000 + 0x100 * n + k) (BitVec.ofNat 8 v))

/-- CODE_DENSITY completes or fails (17 R442). -/
def densityDone (s : State) (j : CalJob) : State :=
  if (List.range 521).any j.uneven then jobFail s 0x24
  else
    let s := { s with calstore := (List.range 521).foldl (fun m n => densityTable j n 256 0 0 m) s.calstore }
    jobEnd (calPut (calPut s 0x84 j.mean) 0x80 0x80000000#32) 2

/-- A record of a target set with fields of its first word replaced. -/
def recPut (s : State) (k n lo len v : Nat) : State :=
  calPut s (calRec k n) (setFld (memWord s.calstore (calRec k n)) lo len v)

/-- The directory entry of a target set takes an OK bit and JOB_TEMP (17 R443, R444). -/
def dirPut (s : State) (j : CalJob) (ok : Nat) : State :=
  calPut (calPut s (16 * j.set) (memWord s.calstore (16 * j.set) ||| word (2 ^ ok))) (16 * j.set + 4) j.mean

/-- OFFSET writes its taps and residuals (17 R443). -/
def offsetDone (s : State) (j : CalJob) : State :=
  let s := (List.range 520).foldl (fun s n =>
    calPut (recPut s j.set n 16 7 (pget 0 j.taps n)) (calRec j.set n + 4) (iword (j.offset n))) s
  jobEnd (dirPut s j 30) 2

/-- A trim is written, and counted where it was clamped (17 R444). -/
def trimPut (j : CalJob) (dac n lo : Nat) (s : State) : State :=
  let want := rnd (512 * 3125 + 4 * rd s F.CAL_VCAL_UV) 3125 - pget 0 j.codes dac
  let v := clampI want (-127) 127
  let s := recPut s j.set n lo 8 (unsigned 8 v)
  if v = want then s else calClamped s

/-- THRESH writes its trims (17 R444). -/
def threshDone (s : State) (j : CalJob) : State :=
  let s := (List.range 512).foldl (fun s n => trimPut j (512 + n) n 8 (trimPut j n n 0 s)) s
  let s := (List.range 8).foldl (fun s m => trimPut j (1024 + m) (512 + m) 0 s) s
  jobEnd (dirPut s j 29) 2

/-- The scale error of a channel in 10^-6, times 4 × N × SEP (17 R445). -/
def scaleErr (s : State) (j : CalJob) (n : Nat) : Int :=
  (pget 0 j.sum n * 15625 - 4 * j.events * rd s F.CAL_SEP_FS) * 1000000

/-- SCALE reports its worst channel, and fails past SCALE_LIMIT (17 R445). -/
def scaleDone (s : State) (j : CalJob) : State :=
  let d := max 1 (4 * j.events * rd s F.CAL_SEP_FS)
  let n := (List.range 520).foldl (fun b n => if (scaleErr s j b).natAbs < (scaleErr s j n).natAbs then n else b) 0
  let e := scaleErr s j n
  let s := setReg (setReg s A.CAL_SCALE_ERR (iword (rnd e d))) A.CAL_SCALE_CH (word n)
  if rd s F.CAL_SCALE_LIMIT * d < e.natAbs then jobFail s 0x28 else jobEnd s 2

/-- VCAL_ADC places its mean codes (17 R445). -/
def vcalDone (s : State) (j : CalJob) : State :=
  let m (g : Nat) : Nat := unsigned 16 (rnd (pget 0 j.sum g) 16)
  jobEnd (setReg (setReg s F.CAL_VCAL_CODE0_LO.addr (word (m 1 * 2 ^ 16 + m 0))) F.CAL_VCAL_CODE1_LO.addr (word (m 3 * 2 ^ 16 + m 2))) 2

/-- JOB_DONE: the job has all its events (17 R442 to R445). -/
def jobDone (s : State) : State :=
  match s.cal.job with
  | none => s
  | some j =>
    if !(sysOn s) then s
    else
      match j.type with
      | 0 => if j.full then densityDone s j else s
      | 1 => if j.full ∧ j.pass = 1 ∧ j.orient = 1 then offsetDone s j else s
      | 2 => if j.step = 10 then threshDone s j else s
      | 3 => if j.full then scaleDone s j else s
      | _ => if j.full then vcalDone s j else s

/-- JOB_DONE (17 R442). -/
def execJobDone (t : Nat) (s : State) : Host.Outcome State Fault Refusal := .next (jobDone (at' t s))

/-! ## Temperature (17 R446) -/

/-- The result that gives T is invalid or stale: T is held. -/
def calStale (s : State) : State :=
  if flag s F.CAL_STATUS_TEMP_STALE then s else raise (wr s F.CAL_STATUS_TEMP_STALE 1) F.CAL_EVT_RAW_TEMP_STALE

/-- T has moved by HYST since the last computation (17 R447). -/
def tempMoved (s : State) : Bool :=
  f32Ge (f32Sub s.cal.temp (reg s A.CAL_TEMP_NOW) &&& 0x7FFFFFFF#32) (reg s A.CAL_HYST)

/-- A scan result of channel `c`, as calibration takes it (17 R441, R446, R447). -/
def calResult (s : State) (c : Nat) (valid : Bool) (y : Word) : State :=
  if rd s F.CAL_TEMP_SEL ≠ c then s
  else if !valid then calStale s
  else
    let s := onCal (wr s F.CAL_STATUS_TEMP_STALE 0) fun x => { x with temp := y, job := x.job.map fun j => j.temp y }
    if !(flag s F.CAL_CTRL_ENABLE) then s
    else if !s.cal.have' then calStart (onCal s fun x => { x with have' := true })
    else if tempMoved s then calStart s
    else s

/-! ## Registers (17 R450, R451) -/

/-- The writable bits of a CALSTORE word (17 R450). -/
def calMask (off : Nat) : Word :=
  if off < 0x80 then (match off % 16 with
    | 0 => 0xF0000000#32
    | 4 => 0xFFFFFFFF#32
    | _ => 0#32)
  else if off = 0x80 then 0x80000000#32
  else if off = 0x84 then 0xFFFFFFFF#32
  else if 0x800 ≤ off ∧ off < 0xEC0 then 0xFFFFFFFF#32
  else if 0x1000 ≤ off ∧ off < 0x21900 then 0xFFFFFFFF#32
  else if 0x22000 ≤ off ∧ off < 0x34000 then
    let r := (off - 0x22000) % 0x2400
    if r < 0x1040 then (if r % 8 = 0 then 0x7FFFFF#32 else 0xFFFFFFFF#32)
    else if 0x1100 ≤ r ∧ r < 0x2100 then (if (r - 0x1100) % 0x40 < 0x38 then 0xFFFFFFFF#32 else 0#32)
    else 0#32
  else 0#32

/-- The host may write a CALSTORE word now (17 R450). -/
def calWritable (s : State) (off : Nat) : Bool :=
  if off < 0x80 ∨ off = 0x84 ∨ (0x800 ≤ off ∧ off < 0xEC0) then true
  else if off = 0x80 then s.cal.job.isNone
  else if 0x1000 ≤ off ∧ off < 0x21900 then !(bit (memWord s.calstore 0x80) 31) && s.cal.job.isNone
  else if 0x22000 ≤ off ∧ off < 0x34000 then
    let k := (off - 0x22000) / 0x2400
    !(bit (memWord s.calstore (16 * k)) 31)
      && !(s.cal.job.any fun j => (decide (j.type = 1) || decide (j.type = 2)) && decide (j.set = k))
  else false

/-- The checks of a write to the CAL page. -/
def calCheck (a : Nat) (d : Word) (s : State) : Nat :=
  if a = F.CAL_CTRL_START.addr then (if bit d 3 then jobRefused s else 0)
  else if a = F.CAL_JOB_CFG_TYPE.addr then (if s.cal.job.isSome then 0x04 else 0)
  else if a = F.CAL_JOB_EVENTS.addr then (if rd s F.CAL_JOB_CFG_TYPE = 0 ∧ 4194304 < fld d 0 24 then 0x02 else 0)
  else 0

/-- T follows the channel named (17 R446). -/
def calSelect (s : State) : State :=
  let c := rd s F.CAL_TEMP_SEL
  let s := if s.hka.ever.testBit c then onCal s fun x => { x with temp := reg s (A.HCH_RESULT c) } else s
  if flag s (F.HCH_STATUS_VALID c) ∧ !(flag s (F.HCH_STATUS_STALE c)) then wr s F.CAL_STATUS_TEMP_STALE 0 else calStale s

/-- What a write to the CAL page does beside its registers; `o` is the state before it. -/
def calAct (a : Nat) (d : Word) (o s : State) : State :=
  if a = F.CAL_CTRL_START.addr then
    let on := flag s F.CAL_CTRL_ENABLE
    let s := if on ∧ !(flag o F.CAL_CTRL_ENABLE) then onCal s fun c => { c with have' := false } else s
    let s := if on then s else onCal (wr s F.CAL_STATUS_PENDING 0) fun c => { c with comp := none, wait := none, again := false }
    let s := if bit d 4 then jobFail s 0 else s
    let s := if bit d 3 then jobStart s else s
    if bit d 2 ∧ on then calStart s else s
  else if a = F.CAL_TEMP_SEL.addr then calSelect s
  else s

/-- SOFT_RESET of the CAL page: a job is abandoned with JOB_FAIL, which the page's reset leaves set, and the corrections in force are kept (17 R440, R451). -/
def calReset (s : State) : State :=
  let s := match s.cal.job with
    | some j => raise (jobRestore s j) F.CAL_EVT_RAW_JOB_FAIL
    | none => s
  calShow (onCal s fun c => { c with job := none, comp := none, wait := none, have' := false, again := false })

end Sys2Proof.Machine
end

