-- ==== Sys2Proof/Machine/Inflate.lean ====
section
/-!
DEFINITION. Decoding of the part of RFC 1951 that the Press uses (chapter 08, R219, R220): whether bytes are a coding of
a block.
-/

namespace Sys2Proof.Machine

/-- The bits of bytes, least significant first. -/
def byteBits (l : List Byte) : List Bool := l.flatMap fun b => (List.range 8).map fun i => b.toNat.testBit i

/-- A number of `n` bits, least significant first, and the bits after it. -/
def takeBits : Nat → List Bool → Option (Nat × List Bool)
  | 0, l => some (0, l)
  | _ + 1, [] => none
  | n + 1, b :: l =>
    match takeBits n l with
    | some (v, r) => some (b2n b + 2 * v, r)
    | none => none

/-- A prefix code: how many codes have each length from 1 on, and the symbols in the order of their codes. -/
structure PrefixCode where
  counts : List Nat
  syms   : List Nat

/-- The canonical code of a list of lengths. -/
def PrefixCode.ofLengths (l : List Nat) : PrefixCode where
  counts := (List.range 15).map fun n => (l.filter fun x => x = n + 1).length
  syms := (List.range 15).flatMap fun n => ((l.zipIdx).filter fun p => p.1 = n + 1).map fun p => p.2

/-- One symbol: `code` and `first` are the code read and the first code of the length, `idx` the symbols before it. -/
def decodeSym (syms : List Nat) : List Nat → Nat → Nat → Nat → List Bool → Option (Nat × List Bool)
  | [], _, _, _, _ => none
  | _ :: _, _, _, _, [] => none
  | n :: ns, code, first, idx, b :: l =>
    let c := code + b2n b
    if first ≤ c ∧ c < first + n then (syms[idx + (c - first)]?).map fun x => (x, l)
    else decodeSym syms ns (2 * c) (2 * (first + n)) (idx + n) l

/-- One symbol of a code. -/
def PrefixCode.read (p : PrefixCode) (l : List Bool) : Option (Nat × List Bool) := decodeSym p.syms p.counts 0 0 0 l

/-- The least length and the extra bits of length symbol 257 + k. -/
def lenBase (k : Nat) : Nat × Nat :=
  if k < 8 then (3 + k, 0)
  else if k = 28 then (258, 0)
  else (3 + (4 + k % 4) * 2 ^ (k / 4 - 1), k / 4 - 1)

/-- The least distance and the extra bits of distance symbol k. -/
def distBase (k : Nat) : Nat × Nat := if k < 4 then (1 + k, 0) else (1 + (2 + k % 2) * 2 ^ (k / 2 - 1), k / 2 - 1)

/-- `n` bytes copied from distance `d`; the output is kept newest first. -/
def copyBack (d : Nat) : Nat → List Byte → List Byte
  | 0, o => o
  | n + 1, o => copyBack d n ((o.getD (d - 1) 0#8) :: o)

/-- What the symbols of a block give: the output after the window, newest first, and the symbols met of either code. -/
structure Coded where
  out   : List Byte
  lits  : List Nat
  dists : List Nat

/-- The symbols of a block up to its end: `fuel` bounds them; the output so far is the history that may be referred to. -/
def inflateSyms (lit dist : PrefixCode) : Nat → List Bool → Coded → Option (List Bool × Coded)
  | 0, _, _ => none
  | fuel + 1, l, o =>
    match lit.read l with
    | none => none
    | some (x, l) =>
      let o := { o with lits := x :: o.lits }
      if x < 256 then inflateSyms lit dist fuel l { o with out := BitVec.ofNat 8 x :: o.out }
      else if x = 256 then some (l, o)
      else if 285 < x then none
      else
        match takeBits (lenBase (x - 257)).2 l with
        | none => none
        | some (e, l) =>
          match dist.read l with
          | none => none
          | some (y, l) =>
            if 29 < y then none
            else
              match takeBits (distBase y).2 l with
              | none => none
              | some (f, l) =>
                let d := (distBase y).1 + f
                if o.out.length < d then none
                else inflateSyms lit dist fuel l { o with out := copyBack d ((lenBase (x - 257)).1 + e) o.out, dists := y :: o.dists }

/-- The fixed literal/length code. -/
def fixedLit : PrefixCode :=
  PrefixCode.ofLengths (List.replicate 144 8 ++ List.replicate 112 9 ++ List.replicate 24 7 ++ List.replicate 8 8)

/-- The fixed distance code. -/
def fixedDist : PrefixCode := PrefixCode.ofLengths (List.replicate 30 5)

/-- Code lengths of a dynamic block: `n` are still to come, `o` holds those read, newest first. -/
def readLengths (p : PrefixCode) (n : Nat) : Nat → List Bool → List Nat → Option (List Bool × List Nat)
  | 0, _, _ => none
  | fuel + 1, l, o =>
    if n ≤ o.length then (if o.length = n then some (l, o.reverse) else none)
    else
      match p.read l with
      | none => none
      | some (x, l) =>
        if x < 16 then readLengths p n fuel l (x :: o)
        else
          match takeBits (if x = 16 then 2 else if x = 17 then 3 else 7) l with
          | none => none
          | some (e, l) =>
            if x = 16 then
              match o with
              | v :: _ => readLengths p n fuel l (List.replicate (3 + e) v ++ o)
              | [] => none
            else readLengths p n fuel l (List.replicate ((if x = 17 then 3 else 11) + e) 0 ++ o)

/-- The order of the code lengths of the code length code. -/
def clOrder : List Nat := [16, 17, 18, 0, 8, 7, 9, 6, 10, 5, 11, 4, 12, 3, 13, 2, 14, 1, 15]

/-- `n` numbers of three bits. -/
def readThrees : Nat → List Bool → Option (List Nat × List Bool)
  | 0, l => some ([], l)
  | n + 1, l =>
    match takeBits 3 l with
    | none => none
    | some (v, l) => (readThrees n l).map fun p => (v :: p.1, p.2)

/-- The code lengths of the two codes of a dynamic block. -/
def readDynamic (l : List Bool) : Option (List Nat × List Nat × List Bool) :=
  match takeBits 14 l with
  | none => none
  | some (h, l) =>
    let hlit := 257 + h % 32
    let hdist := 1 + h / 32 % 32
    match readThrees (4 + h / 1024) l with
    | none => none
    | some (t, l) =>
      let cl := (List.range 19).map fun s => ((clOrder.zip t).find? fun p => p.1 = s).elim 0 fun p => p.2
      match readLengths (PrefixCode.ofLengths cl) (hlit + hdist) 400 l [] with
      | none => none
      | some (l, n) => some (n.take hlit, n.drop hlit, l)

/-! ## Codes from counts (08 R219) -/

/-- A weight in its place in a rising list. -/
def insertWeight (a : Nat) : List Nat → List Nat
  | [] => [a]
  | b :: l => if a ≤ b then a :: b :: l else b :: insertWeight a l

/-- Neighbours of a list in pairs, added. -/
def pairSums : List Nat → List Nat
  | a :: b :: l => (a + b) :: pairSums l
  | _ => []

/-- The least cost of a prefix code of at most `n` bits for rising weights: n − 1 rounds of pairing and merging. -/
def codeCost (n : Nat) (w : List Nat) : Nat :=
  let merge (c : List Nat) : List Nat := (pairSums c).foldl (fun l a => insertWeight a l) w
  (((List.range (n - 1)).foldl (fun c _ => merge c) w).take (2 * w.length - 2)).sum

/-- Code lengths fit counts: a complete code of 1 to 15 bits for every symbol, of the least cost where the limit of 15 bits does
not act (08 R219; log entry 31). -/
def lengthsFit (counts lens : List Nat) : Bool :=
  let w := counts.map (· + 1)
  let rising := w.foldr insertWeight []
  let cost := ((w.zip lens).map fun p => p.1 * p.2).sum
  decide (lens.length = counts.length) && lens.all (fun n => decide (1 ≤ n) && decide (n ≤ 15))
    && decide ((lens.map fun n => 2 ^ (15 - n)).sum = 2 ^ 15)
    && (decide (cost = codeCost 15 rising) || decide (codeCost 15 rising ≠ codeCost 32 rising))

/-- The counts of the symbols met. -/
def symCounts (n : Nat) (l : List Nat) : List Nat := (List.range n).map fun x => (l.filter fun y => x = y).length

/-- The bytes of a Press block that is compressed: one block with BFINAL 0 of the type asked for, then the empty stored
block that aligns it, and nothing more (08 R219, R220). A dynamic code fits the counts of the block before, where they are known.
The output after the window, and the counts of the block, where the bytes are so. -/
def inflate (dynamic : Bool) (counts : Option (List Nat × List Nat)) (window bytes : List Byte) :
    Option (List Byte × List Nat × List Nat) :=
  match takeBits 3 (byteBits bytes) with
  | none => none
  | some (h, l) =>
    if h ≠ (if dynamic then 4 else 2) then none
    else
      let codes :=
        if dynamic then
          match readDynamic l with
          | some (x, y, l) =>
            if counts.all fun c => lengthsFit c.1 x && lengthsFit c.2 y then some (PrefixCode.ofLengths x, PrefixCode.ofLengths y, l)
            else none
          | none => none
        else some (fixedLit, fixedDist, l)
      match codes with
      | none => none
      | some (lit, dist, l) =>
        match inflateSyms lit dist 65538 l ⟨window.reverse, [], []⟩ with
        | none => none
        | some (l, o) =>
          let pad := (l.length - 3) % 8
          let tail := l.drop 3
          if l.length < 35 ∨ (l.take 3).any id ∨ (tail.take pad).any id then none
          else if tail.drop pad = byteBits [0x00#8, 0x00#8, 0xFF#8, 0xFF#8] then
            some ((o.out.take (o.out.length - window.length)).reverse, symCounts 286 o.lits, symCounts 30 o.dists)
          else none

/-- Bytes sent as stored blocks with BFINAL 0: one, or two of 32,768 bytes for 65,536 (08 R223). -/
def storedBlocks (l : List Byte) : List Byte :=
  let one (x : List Byte) : List Byte :=
    let n := x.length
    [0x00#8, BitVec.ofNat 8 n, BitVec.ofNat 8 (n / 256), BitVec.ofNat 8 (65535 - n), BitVec.ofNat 8 ((65535 - n) / 256)] ++ x
  if l.length = 65536 then one (l.take 32768) ++ one (l.drop 32768) else one l

end Sys2Proof.Machine
end

