-- ==== Sys2Proof/Machine/Wnb.lean ====
section
/-!
DEFINITION. The Wenub link: training, bundles, frames, credit, retry, lanes lost and added, power states, loopback
(chapter 09).
-/

namespace Sys2Proof.Machine

/-! ## Numbers, lanes and positions -/

/-- The number of ones of a mask of `n` bits. -/
def popcount (m n : Nat) : Nat := ((List.range n).filter fun i => m.testBit i).length

/-- The positions of a mask. -/
def bitsOf (m n : Nat) : List Nat := (List.range n).filter fun i => m.testBit i

/-- The mask of a list of positions. -/
def maskOf (l : List Nat) : Nat := l.foldl (fun m i => m ||| 2 ^ i) 0

/-- A lane beside its registers. -/
def laneSt (s : State) (l : Nat) : LaneSt := pget LaneSt.empty s.wnb.lanes l

/-- The state with a lane changed. -/
def onLane (s : State) (l : Nat) (f : LaneSt → LaneSt) : State :=
  { s with wnb := { s.wnb with lanes := pset LaneSt.empty s.wnb.lanes l (f (laneSt s l)) } }

/-- COUNT of a bundle. -/
abbrev bCount (s : State) (b : Nat) : Nat := rd s (F.B_LANES_COUNT_M1 b) + 1

/-- The physical lane of a position (09 R243). -/
abbrev laneAt (s : State) (b i : Nat) : Nat := rd s (F.B_LANES_FIRST b) + i

/-- LANE_EN limited to the positions below COUNT (09 R258). -/
def laneEn (s : State) (b : Nat) : Nat := rd s (F.B_LANES_LANE_EN b) % 2 ^ bCount s b

/-- The physical lanes of LANE_EN. -/
def bundleLanes (s : State) (b : Nat) : List Nat := (bitsOf (laneEn s b) 16).map (laneAt s b)

/-- The enabled bundle whose LANE_EN holds a lane, with the position (09 R243). -/
def bundleOf (s : State) (l : Nat) : Option (Nat × Nat) :=
  (List.range 32).findSome? fun b =>
    if flag s (F.B_CTRL_ENABLE b) then ((bitsOf (laneEn s b) 16).find? fun i => laneAt s b i = l).map fun i => (b, i) else none

/-- The lane group of a lane (09 R231). -/
abbrev groupOf (l : Nat) : Nat := l / 16

/-- The ceiling of a lane group (09 R232). -/
def ceiling (s : State) (g : Nat) : Nat := fld (reg s F.WNB_LG_RATE_G0.addr) (3 * g) 3

/-- A rate code in units of 0.625 Gbaud. -/
def rateOf (r : Nat) : Nat := [5, 10, 16, 20, 24].getD r 5

/-- The PAIR bundle in a role other than SINGLE (09 R240, R265; 01 R33). -/
def isPairBundle (s : State) (b : Nat) : Bool := flag s (F.B_CFG_PAIR b)

/-- The state code of a lane in LN_STATUS (09 R266). -/
def setLane (s : State) (l st : Nat) : State := wr s (F.LN_STATUS_STATE l) st

/-- A lane's CDR lock, on its page and in LN_STATUS. -/
def setBitLock (s : State) (l : Nat) (b : Bool) : State :=
  let s := wrB s (F.LN_STATUS_CDR_LOCK l) b
  let s := wrBit s (F.LNQ_STATUS_CDR_LOCK (l / 4)).addr (4 + l % 4) b
  onLane s l fun x => { x with bit := b }

/-- A lane's PLL lock, on its page and in LN_STATUS. -/
def setPllLock (s : State) (l : Nat) (b : Bool) : State :=
  wrBit (wrB s (F.LN_STATUS_PLL_LOCK l) b) (F.LNQ_STATUS_PLL_LOCK (l / 4)).addr (l % 4) b

/-- Bit 4l + k of LNQ.EVT_RAW (09 R266): QUARANTINE, REJOIN, HELD, PRBS_ERR. -/
def laneEvent (s : State) (l k : Nat) : State := raiseAt s (F.LNQ_EVT_RAW_LANE (l / 4)) (4 * (l % 4) + k)

/-- Link control words are sent (09 R244). -/
def sendLcw (s : State) (b : Nat) (l : List Nat) : State := onBundle s b fun x => { x with lcw := x.lcw ++ l }

/-- The link control words and the frame of earlier commands are on their way. -/
def newLcw (s : State) (b : Nat) : State := onBundle s b fun x => { x with lcw := [], wire := [] }

/-! ## Masks and status (09 R256, R265) -/

/-- The words that show the lanes of a bundle. -/
def showLanes (s : State) (b : Nat) : State :=
  let m := rd s (F.B_MASK_TX b)
  let n := popcount m 16
  let up := decide (rd s (F.B_STATUS_STATE b) = 3)
  let low := up && decide (n < rd s (F.B_CFG_MIN_LANES_M1 b) + 1)
  let s := wr s (F.B_STATUS_ACTIVE_LANES b) n
  let s := wrB s (F.B_STATUS_DEGRADED b) (up && decide (n < popcount (laneEn s b) 16))
  let s := if low && !(flag s (F.B_STATUS_LANES_LOW b)) then raise s (F.B_EVT_RAW_LANES_LOW b) else s
  wrB s (F.B_STATUS_LANES_LOW b) low

/-- The state of a bundle changes, with its bit of WNB.STATUS (09 R263). -/
def setBState (s : State) (b st : Nat) : State :=
  showLanes (wrBit (wr s (F.B_STATUS_STATE b) st) F.WNB_STATUS_UP.addr b (decide (st = 3))) b

/-- The AND of the two offers. -/
def offerAnd (s : State) (b : Nat) : Nat := rd s (F.B_OFFER_OWN b) &&& rd s (F.B_OFFER_PARTNER b)

/-! ## Training (09 R240 to R242) -/

/-- The lanes of an attempt begin a step: their counts start again. -/
def enterStep (s : State) (b n : Nat) : State :=
  let s := onBundle s b fun x => { x with step := n, stepAt := s.now }
  (bundleLanes s b).foldl (fun s l => onLane s l fun x => { x with ts1 := 0, ts2 := 0 }) s

/-- A lane's transmitter coefficients for a preset (09 R234). -/
def presetTaps (p : Nat) : Nat × Nat × Nat :=
  [(0, 63, 0), (0, 55, 8), (0, 49, 14), (0, 43, 20), (4, 51, 8), (6, 45, 12), (8, 39, 16), (4, 59, 0)].getD p (0, 63, 0)

/-- The first source that applies sets the transmitter (09 R234). -/
def applyEq (s : State) (l : Nat) : State :=
  let put (s : State) (p a m q : Nat) : State :=
    wr (wr (wr (wr s (F.LN_EQ_TX_ACTIVE_PRESET l) p) (F.LN_EQ_TX_ACTIVE_PRE l) a) (F.LN_EQ_TX_ACTIVE_MAIN l) m)
      (F.LN_EQ_TX_ACTIVE_POST l) q
  let preset (p : Nat) : State := put s p (presetTaps p).1 (presetTaps p).2.1 (presetTaps p).2.2
  if flag s (F.LN_EQ_TX_MANUAL l) then
    put s (rd s (F.LN_EQ_TX_PRESET l)) (rd s (F.LN_EQ_TX_PRE l)) (rd s (F.LN_EQ_TX_MAIN l)) (rd s (F.LN_EQ_TX_POST l))
  else
    match (laneSt s l).req, flag s (F.LN_EQ_TX_ACCEPT_REQ l) with
    | some p, true => preset p
    | _, _ => preset (rd s (F.LN_EQ_TX_PRESET l))

/-- A lane starts to train in a bundle at a rate. A HELD lane stays out until RETRY (09 R257), and a lane of a disabled quad is
OFF (R266). -/
def startLane (s : State) (b i rate : Nat) : State :=
  let l := laneAt s b i
  let s := onLane s l fun x =>
    { x with bit := false, ts1 := 0, ts2 := 0, set := none, busy := false, once := false, req := none }
  let st := if !(flag s (F.LNQ_CTRL_ENABLE (l / 4))) then 0 else if (laneSt s l).held then 4 else 1
  let s := setLane (setBitLock s l false) l st
  let s := wr (wr (wr s (F.LN_STATUS_BUNDLE l) b) (F.LN_STATUS_POSITION l) i) (F.LN_STATUS_RATE l) rate
  applyEq s l

/-- The positions that may join an attempt: those of lanes that train (09 R240, R257, R266). -/
def joinable (s : State) (b : Nat) : Nat :=
  maskOf ((bitsOf (laneEn s b) 16).filter fun i => rd s (F.LN_STATUS_STATE (laneAt s b i)) = 1)

/-- The bundle enters DETECT (09 R240); LIMITs of an attempt that failed are gone (R248). -/
def enterDetect (s : State) (b attempts : Nat) : State :=
  let r := if isPairBundle s b then 4 else 0
  let s := (bitsOf (laneEn s b) 16).foldl (fun s i => startLane s b i r) s
  let s := wr (wrB s (F.B_STATUS_PAIR b) (isPairBundle s b)) (F.B_STATUS_RATE b) r
  let s := onBundle s b fun x =>
    { x with step := 0, stepAt := s.now, began := s.now, attempts := attempts, cand := 0, rev := false, limit := [] }
  setBState s b 1

/-- The time in LSB that `n` training sets of 16 symbols take at a rate (09 R239). -/
def setsTime (n r : Nat) : Nat := n * 160 * 256 * 8 / (5 * rateOf r)

/-- The 16 TS2 sets of RATE are still on their way, at the rate before it (09 R240). -/
def rateSetsOut (s : State) (b l : Nat) : Bool :=
  let x := bundle s b
  decide (rd s (F.B_STATUS_STATE b) = 2) && decide (x.step = 2)
    && decide (s.now < x.stepAt + setsTime 16 (rd s (F.LN_STATUS_RATE l)))

/-- LANE_BIT_LOCK: a lane gains bit lock, in DETECT or at the target rate (09 R240). In RATE it gains it no sooner than the 16
sets with TARGET are sent. -/
def laneBitLock (l : Nat) (s : State) : State :=
  if !(flag s (F.LNQ_CTRL_ENABLE (l / 4))) then s
  else
    let locked (s : State) : State := setPllLock (setBitLock s l true) l true
    match bundleOf s l with
    | some (b, _) =>
      let x := bundle s b
      if rateSetsOut s b l then s
      else if rd s (F.B_STATUS_STATE b) = 2 ∧ x.step = 2 then wr (locked s) (F.LN_STATUS_RATE l) x.target
      else if rd s (F.B_STATUS_STATE b) = 1 then
        let s := locked s
        let s := if rd s (F.LN_STATUS_STATE l) = 3 then setLane s l 1 else s
        if rd s (F.LN_STATUS_STATE l) = 1 then
          let s := enterStep (onBundle s b fun x => { x with cand := joinable s b }) b 1
          setBState s b 2
        else s
      else locked s
    | none => locked s

/-- A lane's POSITION fits straight or reversed order (09 R242). -/
def fitsOrder (i : Nat) (x : TsSet) (rev : Bool) : Bool := if rev then decide (i + x.pos = x.count) else decide (x.pos = i)

/-- The lane's last set passes the checks of IDENTITY in an order (09 R240, R242, R265). -/
def identityOk (s : State) (b i : Nat) (rev : Bool) : Bool :=
  let l := laneAt s b i
  match (laneSt s l).set with
  | some x =>
    decide (8 ≤ (laneSt s l).ts1) && fitsOrder i x rev
      && (!(flag s (F.B_CFG_CHECK_LINK b)) || decide (x.link = rd s (F.B_CFG_EXPECT_LINK b)))
      && (!(isPairBundle s b) || x.rates.testBit 4)
  | none => false

/-- The order in which more lanes fit; straight where both do (09 R242). -/
def orderRev (s : State) (b : Nat) : Bool :=
  let n (rev : Bool) : Nat := ((bitsOf (bundle s b).cand 16).filter fun i => identityOk s b i rev).length
  decide (n false < n true)

/-- The first CREDIT has come for every VC that has an allocation (09 R240, log entry 32). -/
def creditsIn (s : State) (b : Nat) : Bool :=
  (List.range 8).all fun v => decide (fld (reg s (A.BA_RX_ALLOC b)) (4 * v) 4 = 0) || (bundle s b).limit.any fun p => decide (p.1 = v)

/-- The positions of an attempt that have met the end of their step; `seen` are those that meet what happens on the wire.
EQUALISE ends for a lane when its receiver has requested P0 to P7 for 150 µs each, and the partner uses the best (09 R240). -/
def stepPassed (s : State) (b seen : Nat) : Nat :=
  let x := bundle s b
  let l (i : Nat) : LaneSt := laneSt s (laneAt s b i)
  maskOf ((bitsOf x.cand 16).filter fun i =>
    match x.step with
    | 1 => identityOk s b i (orderRev s b)
    | 2 => (l i).bit
    | 3 => seen.testBit i && decide (x.stepAt + usec 1200 ≤ s.now) && ((l i).set.map (·.inUse) = some (l i).best)
    | 4 => seen.testBit i && decide (16 ≤ (l i).ts2)
    | _ => seen.testBit i && creditsIn s b)

/-- The rates a bundle offers: up to MAX_RATE and its group's ceiling (09 R232, R239). -/
def rateMask (s : State) (b : Nat) : Nat :=
  2 ^ (min (rd s (F.B_CFG_MAX_RATE b)) (ceiling s (groupOf (laneAt s b 0))) + 1) - 1

/-- TARGET: the highest rate in the AND of the masks of the lanes (09 R240). -/
def targetRate (s : State) (b : Nat) : Nat :=
  let m := (bitsOf (bundle s b).cand 16).foldl (fun m i =>
    match (laneSt s (laneAt s b i)).set with
    | some x => m &&& x.rates
    | none => m) (rateMask s b)
  ((bitsOf m 5).getLast?).getD 0

/-- A lane is quarantined with a cause: counted, with its event and the bundle's (09 R241, R255). -/
def quarantineLane (s : State) (b l cause : Nat) : State :=
  let s := setReg (setLane (setBitLock s l false) l 3) (A.LN_LAST_CAUSE l) (word cause)
  let s := laneEvent (bump s (A.LN_QUARANTINES l)) l 0
  let s := raise (bump s (A.B_LANE_LOSS b)) (F.B_EVT_RAW_LANE_LOSS b)
  let outs := ((laneSt s l).outs ++ [s.now]).filter fun u => decide (s.now < u + msec 1000)
  let s := onLane s l fun x => { x with outs := outs, busy := false, at' := s.now, once := false, held := decide (4 ≤ outs.length) }
  if 4 ≤ outs.length then laneEvent (setLane s l 4) l 2 else s

/-- A receiver adapts: CTLE, unless it is held, and DFE have no value in the spec and are free. Nothing adapts while FREEZE is 1
(09 R235). -/
def measureLane (s : State) (l : Nat) : State :=
  if flag s (F.LN_EQ_RX_FREEZE l) then s
  else
    let (c, s) := takeFree s 4
    let s := wr s (F.LN_EQ_RX_CTLE_ACTIVE l) (if flag s (F.LN_EQ_RX_CTLE_MANUAL l) then rd s (F.LN_EQ_RX_CTLE_CODE l) else c)
    let (d, s) := takeFree s 30
    setReg s (A.LN_DFE l) (word d)

/-- Adaptation goes on in service: what CTLE and DFE have become when they are read or frozen (09 R235). -/
def adaptLane (s : State) (l : Nat) : State := if rd s (F.LN_STATUS_STATE l) = 2 then measureLane s l else s

/-- EQUALISE begins; the best preset that each receiver will find by its eye is free (09 R240). -/
def enterEqualise (s : State) (b : Nat) : State :=
  let s := (bitsOf (bundle s b).cand 16).foldl (fun s i =>
    let (p, s) := takeFree s 3
    onLane s (laneAt s b i) fun x => { x with best := p % 8 }) s
  enterStep s b 3

/-- The skew measured in DESKEW is free up to 256 symbols (09 R240). -/
def measureSkew (s : State) (l : Nat) : State :=
  let (k, s) := takeFree s 9
  wr s (F.LN_STATUS_SKEW l) (k % 257)

/-- The credits of a bundle start at UP after DETECT (09 R248, R249); LIMITs received in CREDIT stand. -/
def freshLink (s : State) (b : Nat) : State :=
  let alloc := (reg s (A.BA_RX_ALLOC b)).toNat
  let units (v : Nat) : Nat := fld (word alloc) (4 * v) 4 * 32
  let s := onBundle s b fun x =>
    { x with consumed := [], alloc := alloc, freed := [], got := [], tries := 0, replay := [], naked := false,
             adv := ((List.range 8).filter fun v => units v ≠ 0).map fun v => (v, units v) }
  wr (wr s (F.B_SEQ_NEXT b) 0) (F.B_SEQ_LAST b) 0xFFFF

/-- The bundle goes UP (09 R241, R252). -/
def goUp (s : State) (b : Nat) : State :=
  let x := bundle s b
  let recovery := decide (rd s (F.B_STATUS_STATE b) = 4)
  let s := if recovery then onBundle s b fun x => { x with replay := x.sent.map (·.seq) } else freshLink s b
  let s := (bitsOf x.cand 16).foldl (fun s i => setLane s (laneAt s b i) 2) s
  let s := wr (wr s (F.B_MASK_TX b) x.cand) (F.B_MASK_RX b) x.cand
  let s := wr (wr s (F.B_OFFER_OWN b) x.cand) (F.B_OFFER_PARTNER b) x.cand
  let s := if recovery then s else setReg s (A.BA_TRAIN_TIME b) (word (min 0xFFFFFF ((s.now - x.began) / usec 1)))
  let s := onBundle s b fun x =>
    { x with step := 0, txMask := none, rxMask := none, events := if recovery then x.events else 0, waking := none, busyTo := 0 }
  let s := wr s (F.B_STATUS_POWER b) 0
  raise (setBState s b 3) (F.B_EVT_RAW_UP b)

/-- The first CREDIT LCW of every VC with an allocation is sent in CREDIT (09 R240, R248). -/
def firstCredits (s : State) (b : Nat) : State :=
  let a := reg s (A.BA_RX_ALLOC b)
  sendLcw s b (((List.range 8).filter fun v => fld a (4 * v) 4 ≠ 0).map fun v => 2 ^ 22 + v * 2 ^ 18 + fld a (4 * v) 4 * 32)

/-- The step of a bundle has ended for the positions `m`; the lanes that failed it are left out (09 R240, R241). -/
def nextStep (s : State) (b m : Nat) : State :=
  let x := bundle s b
  let s := (bitsOf (x.cand ^^^ m) 16).foldl (fun s i => quarantineLane s b (laneAt s b i) 7) s
  let rev := if x.step = 1 then orderRev s b else x.rev
  let s := onBundle s b fun x => { x with cand := m, rev := rev }
  if rd s (F.B_STATUS_STATE b) = 4 then goUp ((bitsOf m 16).foldl (fun s i => measureSkew s (laneAt s b i)) s) b
  else
    match x.step with
    | 1 =>
      let r := targetRate s b
      let s := onBundle s b fun x => { x with target := r }
      if isPairBundle s b ∨ r = rd s (F.B_STATUS_RATE b) then enterEqualise s b
      else enterStep ((bitsOf m 16).foldl (fun s i => setBitLock s (laneAt s b i) false) s) b 2
    | 2 => enterEqualise (wr s (F.B_STATUS_RATE b) x.target) b
    | 3 => enterStep ((bitsOf m 16).foldl (fun s i => measureLane s (laneAt s b i)) s) b 4
    | 4 => firstCredits (enterStep ((bitsOf m 16).foldl (fun s i => measureSkew s (laneAt s b i)) s) b 5) b
    | _ => goUp s b

/-- A bundle trains, or recovers. -/
def inTraining (s : State) (b : Nat) : Bool :=
  let st := rd s (F.B_STATUS_STATE b)
  (decide (st = 2) || decide (st = 4)) && decide ((bundle s b).step ≠ 0)

/-- TRAIN_STEP_COMPLETE: every lane that is to join has met the end of its step (09 R240, R252). -/
def trainStepComplete (b seen : Nat) (s : State) : State :=
  let s := newLcw s b
  let m := stepPassed s b seen
  if inTraining s b ∧ m ≠ 0 ∧ m = (bundle s b).cand then nextStep s b m else s

/-- The timeout of a step in LSB (09 R240). -/
def stepTimeout (n : Nat) : Nat := usec ([0, 300, 700, 2000, 200, 50].getD n 0)

/-- The attempt ends: DETECT again, or FAILED after TRAIN_ATTEMPTS (09 R241). -/
def failAttempt (s : State) (b : Nat) : State :=
  let n := (bundle s b).attempts + 1
  if rd s (F.B_CFG_TRAIN_ATTEMPTS b) ≤ n then
    let s := (bundleLanes s b).foldl (fun s l => setLane s l 0) s
    let s := onBundle s b fun x => { x with step := 0, since := s.now, attempts := n }
    raise (setBState s b 6) (F.B_EVT_RAW_TRAIN_FAIL b)
  else enterDetect s b n

/-- TRAIN_STEP_TIMEOUT: the step of a bundle times out (09 R241). -/
def trainStepTimeout (t b seen : Nat) (s : State) : State :=
  let s := newLcw s b
  let x := bundle s b
  if inTraining s b ∧ x.stepAt + stepTimeout x.step ≤ t then
    let m := stepPassed s b seen
    if m ≠ 0 then nextStep s b m else if rd s (F.B_STATUS_STATE b) = 4 then s else failAttempt s b
  else s

/-- TRAIN_FAIL_RESTART: 100 ms after FAILED, with AUTO_RESTART 1 (09 R241). -/
def trainFailRestart (t b : Nat) (s : State) : State :=
  if rd s (F.B_STATUS_STATE b) = 6 ∧ flag s (F.B_CTRL_AUTO_RESTART b) ∧ (bundle s b).since + msec 100 ≤ t then enterDetect s b 0
  else s

/-! ## Recovery and loss (09 R252, R253) -/

/-- The bundle enters RECOVERY (09 R252). -/
def enterRecovery (s : State) (b : Nat) : State :=
  let s := (bitsOf (laneEn s b) 16).foldl (fun s i =>
    let l := laneAt s b i
    if (laneSt s l).held ∨ !(flag s (F.LNQ_CTRL_ENABLE (l / 4))) then s else setLane s l 1) s
  let cand := joinable s b
  let s := onBundle s b fun x => { x with cand := cand, since := s.now, txMask := none, rxMask := none, replay := [] }
  let s := wr (wr s (F.B_MASK_TX b) 0) (F.B_MASK_RX b) 0
  raise (setBState (enterStep s b 4) b 4) (F.B_EVT_RAW_RECOVERY b)

/-- B_REPLAY shows the replay region (09 R265). -/
def showReplay (s : State) (b : Nat) : State :=
  let l := (bundle s b).sent
  let units := (l.map fun f => (20 + (f.frame.len + 3) / 4 * 4 + 15) / 16).sum
  monSample (wr (wr s (F.B_REPLAY_FRAMES b) l.length) (F.B_REPLAY_UNITS b) units) 0x050 b units

/-- The replay region is discarded, its frames counted, sequence numbers and credits cleared (09 R253). -/
def dropReplay (s : State) (b : Nat) : State :=
  let n := (bundle s b).sent.length
  let s := if n = 0 then s else raise (bumpBy s (A.BA_FRAMES_LOST b) n) (F.B_EVT_RAW_FRAMES_LOST b)
  let s := onBundle s b fun x =>
    { x with sent := [], replay := [], tries := 0, limit := [], consumed := [], freed := [], adv := [], got := [],
             naked := false, ackDue := none, creditDue := none, txMask := none, rxMask := none, asked := false, enter := none }
  let s := { s with wnb := { s.wnb with tx := pset [] s.wnb.tx b [] } }
  let s := wr (wr s (F.B_SEQ_NEXT b) 0) (F.B_SEQ_LAST b) 0
  let s := wr (wr (wr s (F.B_MASK_TX b) 0) (F.B_MASK_RX b) 0) (F.B_STATUS_POWER b) 0
  showReplay (wr (wr s (F.B_OFFER_OWN b) 0) (F.B_OFFER_PARTNER b) 0) b

/-- DOWN: RECOVERY has not ended within RECOVERY_MS (09 R253). -/
def bundleDown (t b : Nat) (s : State) : State :=
  if rd s (F.B_STATUS_STATE b) = 4 ∧ (bundle s b).since + msec (rd s (F.B_RETRY_RECOVERY_MS b)) ≤ t then
    let s := (bundleLanes s b).foldl (fun s l => setLane s l 0) (newLcw s b)
    let s := dropReplay s b
    let s := raise (setBState (onBundle s b fun x => { x with step := 0, since := t }) b 5) (F.B_EVT_RAW_DOWN b)
    if flag s (F.B_CTRL_AUTO_RESTART b) then enterDetect s b 0 else s
  else s

/-- The bundle becomes DISABLED (09 R265). -/
def disableBundle (s : State) (b : Nat) : State :=
  let s := (bundleLanes s b).foldl (fun s l => setBitLock (setLane s l 0) l false) s
  let s := dropReplay s b
  setBState (setBundle s b Bundle.off) b 0

/-! ## Training sets (09 R239) -/

/-- The check byte of a set: the XOR of its symbols 1 to 13 (09 R239). -/
def tsCheck (l : List Nat) : Nat := (l.take 13).foldl (· ^^^ ·) 0

/-- The set that symbols 1 to 15 form, where it is valid: its check byte is right, and it held no code error (09 R239). -/
def parseTs (l : List Nat) (codeErr : Bool) : Option TsSet :=
  let y (i : Nat) : Nat := l.getD (i - 1) 0
  let kind := if y 1 = 0x1A then 1 else if y 1 = 0x2A then 2 else 0
  if codeErr ∨ kind = 0 ∨ y 14 ≠ tsCheck l then none
  else
    some ⟨kind, decide (128 ≤ y 2), y 2 % 32, y 3 / 16, y 3 % 16, y 4 % 32, y 5 / 32, y 5 % 8, decide (128 ≤ y 6), y 6 / 16 % 8,
      y 6 % 8, word (y 7 + y 8 * 2 ^ 8 + y 9 * 2 ^ 16 + y 10 * 2 ^ 24)⟩

/-- The preset that a receiver requests in EQUALISE at the present instant: P0 to P7 for 150 µs each, then the best (09 R240). -/
def presetAsked (s : State) (b l : Nat) : Nat :=
  let n := (s.now - (bundle s b).stepAt) / usec 150
  if n < 8 then n else (laneSt s l).best

/-- The training set that a lane sends at the present instant, as its symbols 1 to 15; none where it sends no sets. TS2 in RATE and
DESKEW, and in RECOVERY and LANE_RETRAIN once the partner's sets have come (09 R239, R240, log entry 32). -/
def tsSent (s : State) (l : Nat) : Option (List Nat) :=
  match bundleOf s l with
  | none => none
  | some (b, i) =>
    let x := bundle s b
    let st := rd s (F.B_STATUS_STATE b)
    if rd s (F.LN_STATUS_STATE l) ≠ 1 ∨ !(st = 1 ∨ st = 2 ∨ st = 3 ∨ st = 4) ∨ (st = 2 ∧ x.step = 5) then none
    else
      let step := if st = 4 then 4 else if st = 3 then 5 else x.step - 1
      let eq := decide (st = 2) && decide (x.step = 3)
      let two :=
        if st = 2 then decide (x.step = 2) || decide (x.step = 4)
        else decide (3 ≤ st) && decide ((laneSt s l).ts1 + (laneSt s l).ts2 ≠ 0)
      let target := if st = 2 ∧ x.step = 2 then x.target else rd s (F.LN_STATUS_RATE l)
      let id := reg s A.WNB_LINK_ID
      let body := [if two then 0x2A else 0x1A, b2n (isPairBundle s b) * 128 + b, (bCount s b - 1) * 16 + i, rateMask s b,
        step * 32 + target,
        b2n eq * 128 + (if eq then presetAsked s b l else 0) * 16 + rd s (F.LN_EQ_TX_ACTIVE_PRESET l),
        (wbyte id 0).toNat, (wbyte id 1).toNat, (wbyte id 2).toNat, (wbyte id 3).toNat, 0x4A, 0x4A, 0x4A]
      some (body ++ [tsCheck body, 0xB5])

/-- TS_SET_RECEIVED: a training set on a lane; one that is not valid breaks the run of those that are (09 R239, R234, R252). -/
def tsSetReceived (l : Nat) (sym : List Nat) (codeErr : Bool) (s : State) : State :=
  match parseTs sym codeErr with
  | none => onLane s l fun y => { y with ts1 := 0, ts2 := 0 }
  | some x =>
    let s := onLane s l fun y =>
      { y with set := some x, ts1 := if x.kind = 1 then y.ts1 + 1 else 0, ts2 := if x.kind = 2 then y.ts2 + 1 else 0,
               req := if x.reqValid then some x.req else y.req }
    let s := applyEq s l
    match bundleOf s l with
    | none => s
    | some (b, _) =>
      let s := setReg (newLcw s b) (A.BA_PARTNER_ID b) x.id
      if rd s (F.B_STATUS_STATE b) = 3 ∧ x.kind = 1 ∧ x.step = 4 then enterRecovery s b else s

/-! ## Sending (09 R245, R248, R249) -/

/-- The credit units of a frame: header, padded payload and CRC in 64 B (09 R248). -/
def frameUnits (f : LinkFrame) : Nat := (20 + (f.len + 3) / 4 * 4 + 63) / 64

/-- The replay units of a frame in 16 B (09 R249). -/
def frameReplay (f : LinkFrame) : Nat := (20 + (f.len + 3) / 4 * 4 + 15) / 16

/-- The credit of a VC admits a frame (09 R248). -/
def creditFor (s : State) (b : Nat) (f : LinkFrame) : Bool :=
  let x := bundle s b
  decide (frameUnits f ≤ (pget 0 x.limit f.vc + 8192 - pget 0 x.consumed f.vc % 8192) % 8192)

/-- The replay region has room for a frame (09 R249). -/
def roomFor (s : State) (b : Nat) (f : LinkFrame) : Bool := decide (rd s (F.B_REPLAY_UNITS b) + frameReplay f ≤ 8192)

/-- A new frame may start: UP in L0, no lane switch awaited, no replay in progress, the last frame over (09 R249, R251,
R256, R261). -/
def lineFree (s : State) (b t : Nat) : Bool :=
  let x := bundle s b
  bundleUp s b && decide (rd s (F.B_STATUS_POWER b) = 0) && x.txMask.isNone && x.enter.isNone && x.waking.isNone
    && decide (x.busyTo ≤ t)

/-- The time a frame takes on the line in LSB, ALIGN, SKIP and link control words not counted (09 R237, R243). -/
def frameTime (s : State) (b : Nat) (f : LinkFrame) : Nat :=
  (22 + (f.len + 3) / 4 * 4) * 10 * 256 * 8 / (5 * rateOf (rd s (F.B_STATUS_RATE b)) * max 1 (popcount (rd s (F.B_MASK_TX b)) 16))

/-- An ACK has been sent, so none is due any more (09 R249). -/
def ackCarried (s : State) (b : Nat) : State := onBundle s b fun x => { x with ackDue := none }

/-- LIMIT of a VC: the units freed since UP plus the allocation (09 R248). -/
def limitOf (x : Bundle) (v : Nat) : Nat := (fld (word x.alloc) (4 * v) 4 * 32 + pget 0 x.freed v) % 8192

/-- The VCs whose LIMIT differs from what has been advertised (09 R248). -/
def creditsDue (x : Bundle) : List Nat :=
  (List.range 8).filter fun v => decide (fld (word x.alloc) (4 * v) 4 ≠ 0) && decide (limitOf x v ≠ pget 0 x.adv v)

/-- The header of a frame: ACK_SEQ always, and the CREDIT of one VC where one is due (09 R245, log entry 32). -/
def frameHeader (f : LinkFrame) (seq ack : Nat) (retry : Bool) (credit : Option (Nat × Nat)) : List Word :=
  let c := credit.getD (0, 0)
  [word (f.type * 2 ^ 24 + f.vc * 2 ^ 21 + (1 + b2n credit.isSome * 2 + b2n retry * 4) * 2 ^ 16 + f.queue * 4),
   word (seq * 2 ^ 16 + f.len), word (ack * 2 ^ 16 + c.1 * 2 ^ 13 + c.2), 0#32]

/-- A frame goes on the line: header, payload padded with zeros, and the CRC-32 of both. ACK_SEQ and CREDIT are those of the moment,
so no ACK is due any more, and no CREDIT where none is left (09 R245, R246, R249, R251). -/
def putOnLine (s : State) (b : Nat) (f : LinkFrame) (seq : Nat) (retry : Bool) : State :=
  let x := bundle s b
  let credit := (creditsDue x).head?.map fun v => (v, limitOf x v)
  let n := (f.len + 3) / 4
  let ws := frameHeader f seq (rd s (F.B_SEQ_LAST b)) retry credit ++ (f.body ++ List.replicate n 0#32).take n
  let x := match credit with
    | some (v, l) => { x with adv := pset 0 x.adv v l }
    | none => x
  setBundle s b { x with ackDue := none, creditDue := if (creditsDue x).isEmpty then none else x.creditDue,
                         wire := ws ++ [word (crc32 (wordBytes ws))] }

/-- A new frame starts: it takes the next SEQ, its credit and its place in the replay region (09 R248, R249). -/
def startFrame (s : State) (b : Nat) (f : LinkFrame) : State :=
  let seq := rd s (F.B_SEQ_NEXT b)
  let s := putOnLine s b f seq false
  let s := onBundle s b fun x =>
    { x with sent := x.sent ++ [⟨seq, f, s.now⟩],
             consumed := pset 0 x.consumed f.vc ((pget 0 x.consumed f.vc + frameUnits f) % 8192),
             busyTo := s.now + frameTime s b f }
  let s := wr s (F.B_SEQ_NEXT b) ((seq + 1) % 65536)
  showReplay (bump s (A.BA_FRAMES_TX b)) b

/-- The first waiting frame, lowest VC first, that has credit and room (09 R248, 01 R25). -/
def nextFrame (s : State) (b : Nat) : Option (LinkFrame × Nat) :=
  let l := pget [] s.wnb.tx b
  (List.range 8).findSome? fun v =>
    match l.find? (fun p => p.1.vc = v) with
    | some p => if creditFor s b p.1 && roomFor s b p.1 then some p else none
    | none => none

/-- FRAME_TRANSMIT: a bundle sends its next frame, a replay first (09 R248, R251). -/
def frameTransmit (t b : Nat) (s : State) : State :=
  let s := newLcw s b
  if !(lineFree s b t) then s
  else
    let x := bundle s b
    match x.replay with
    | q :: r =>
      let s := onBundle s b fun x =>
        { x with replay := r, sent := x.sent.map fun f => if f.seq = q then { f with at' := t } else f,
                 busyTo := t + ((x.sent.find? fun f => f.seq = q).map fun f => frameTime s b f.frame).getD 0 }
      match x.sent.find? fun f => f.seq = q with
      | some f => putOnLine s b f.frame q true
      | none => s
    | [] =>
      match nextFrame s b with
      | some p =>
        let s := { s with wnb := { s.wnb with tx := pset [] s.wnb.tx b ((pget [] s.wnb.tx b).erase p) } }
        let s := if p.1.vc = 0 then monSample s 0x051 b ((t - p.2) / 256 : Nat) else s
        startFrame s b p.1
      | none => s

/-! ## Acknowledgement and replay (09 R249 to R251) -/

/-- SEQ `a` is at or before `b` in the window of R59. -/
def seqLe (a b : Nat) : Bool := decide ((b + 65536 - a) % 65536 < 32768)

/-- A MOVE segment is acknowledged (08 R218). -/
def isMove (f : LinkFrame) : Bool := decide (f.type = 1) && bit (f.body.getD 1 0#32) 30

/-- The frames that an ACK or NAK covers are released (09 R251). -/
def release (s : State) (b seq : Nat) : State :=
  let x := bundle s b
  let covered := x.sent.filter fun f => seqLe f.seq seq
  if covered.isEmpty then s
  else
    let s := setBundle s b { x with sent := x.sent.filter fun f => !(seqLe f.seq seq),
                                    replay := x.replay.filter fun q => !(seqLe q seq), tries := 0 }
    let s := if covered.any (fun f => isMove f.frame) then raise s F.STQ_EVT_RAW_MOVE_DONE else s
    showReplay s b

/-- Every unacknowledged frame is sent again, or the bundle recovers after REPLAY_MAX fruitless replays (09 R251, R252). -/
def startReplay (s : State) (b : Nat) : State :=
  let x := bundle s b
  if x.sent.isEmpty then s
  else if rd s (F.B_RETRY_REPLAY_MAX b) ≤ x.tries then enterRecovery s b
  else
    let abort := decide (s.now < x.busyTo)
    let s := setBundle s b { x with replay := x.sent.map (·.seq), tries := x.tries + 1, busyTo := if abort then s.now else x.busyTo }
    let s := if abort then bump s (A.BA_ABORTS b) else s
    bump s (A.B_REPLAYS b)

/-- ACK: an ACK LCW or ACK field (09 R251). -/
def ackReceived (b seq : Nat) (s : State) : State := if bundleUp s b then release (newLcw s b) b seq else s

/-- NAK: a NAK LCW (09 R251). -/
def nakReceived (b seq : Nat) (s : State) : State :=
  if bundleUp s b then
    let s := raise (bump (newLcw s b) (A.B_NAK_RX b)) (F.B_EVT_RAW_NAK_RX b)
    startReplay (release s b seq) b
  else s

/-- REPLAY_TIMEOUT: the oldest frame has gone REPLAY_TO without an ACK (09 R251). -/
def replayTimeout (t b : Nat) (s : State) : State :=
  match (bundle s b).sent with
  | f :: _ =>
    if bundleUp s b ∧ f.at' + nsec (100 * rd s (F.B_TIMERS_REPLAY_TO b)) ≤ t then startReplay (newLcw s b) b else s
  | [] => s

/-- CREDIT: a CREDIT LCW or field updates a VC's LIMIT (09 R248). -/
def creditReceived (b vc limit : Nat) (s : State) : State :=
  onBundle (newLcw s b) b fun x => { x with limit := pset 0 x.limit (vc % 8) (limit % 8192) }

/-! ## Receiving (09 R247, R248, R250) -/

/-- The VC of a type, and whether the device takes it (09 R247). -/
def typeVc (ty vc : Nat) : Bool :=
  match ty with
  | 1 => decide (3 ≤ vc)
  | 2 => decide (vc = 0)
  | 3 => decide (vc = 0)
  | 4 => decide (vc = 0)
  | 5 => decide (vc = 0)
  | 6 => decide (vc = 2)
  | 7 => decide (vc = 0)
  | 8 => decide (vc = 1)
  | _ => false

/-- The device takes frames of the type on the bundle (09 R247). -/
def takesType (s : State) (b ty : Nat) : Bool :=
  decide (ty = 2) || decide (ty = 3) || decide (ty = 6) || (decide (ty = 8) && isPairBundle s b)

/-- A NAK opens an episode; within one, none is sent (09 R250). -/
def sendNak (s : State) (b reason : Nat) : State :=
  if (bundle s b).naked then s
  else
    let s := onBundle s b fun x => { x with naked := true }
    sendLcw (bump s (A.BA_NAK_TX b)) b [2 ^ 21 + reason * 2 ^ 16 + rd s (F.B_SEQ_LAST b)]

/-- A frame that failed its checks (09 R250). -/
def badFrame (s : State) (b reason : Nat) : State := sendNak (bump s (A.B_CRC_ERR b)) b reason

/-- ACK_SEQ and CREDIT of a header are taken (09 R245, R250). -/
def takeFields (s : State) (b : Nat) (hdr : List Word) : State :=
  let w0 := hdr.getD 0 0#32
  let w2 := hdr.getD 2 0#32
  let s := if bit w0 16 then release s b (fld w2 16 16) else s
  if bit w0 17 then onBundle s b fun x => { x with limit := pset 0 x.limit (fld w2 13 3) (fld w2 0 13) } else s

/-- An ACK is due within ACK_INT (09 R249). -/
def dueAck (s : State) (b : Nat) : State :=
  onBundle s b fun x => { x with ackDue := x.ackDue.or (some (s.now + nsec (100 * rd s (F.B_TIMERS_ACK_INT b)))) }

/-- The CREDIT LCW of a VC, and what is advertised with it (09 R244, R248). -/
def sendCredit (s : State) (b v : Nat) : State :=
  let x := bundle s b
  let lim := limitOf x v
  let s := setBundle s b { x with adv := pset 0 x.adv v lim }
  sendLcw s b [2 ^ 22 + v * 2 ^ 18 + lim]

/-- The units of a frame are freed: a CREDIT at once at a quarter of the allocation, else within CREDIT_INT (09 R248). -/
def freeUnits (s : State) (b v n : Nat) : State :=
  let s := onBundle s b fun x => { x with freed := pset 0 x.freed v ((pget 0 x.freed v + n) % 8192) }
  let x := bundle s b
  let alloc := fld (word x.alloc) (4 * v) 4 * 32
  let since := (alloc + pget 0 x.freed v + 8192 - pget 0 x.adv v % 8192) % 8192
  if alloc ≤ 4 * since then sendCredit s b v
  else setBundle s b { x with creditDue := x.creditDue.or (some (s.now + nsec (100 * rd s (F.B_TIMERS_CREDIT_INT b)))) }

/-- A frame accepted and discarded (09 R247, R248). -/
def discardFrame (s : State) (b : Nat) (protocol : Bool) : State :=
  let s := bump s (A.BA_DISCARD b)
  if protocol then raise s (F.B_EVT_RAW_PROTOCOL b) else s

/-- A frame in sequence: ACK_SEQ and CREDIT are taken, its units counted, and it is kept or discarded (09 R247, R248,
R250). Its payload acts through the command of its type. -/
def acceptFrame (s : State) (b : Nat) (hdr : List Word) : State :=
  let w0 := hdr.getD 0 0#32
  let w1 := hdr.getD 1 0#32
  let s := wr s (F.B_SEQ_LAST b) (fld w1 16 16)
  let s := onBundle s b fun x => { x with naked := false }
  let s := dueAck (takeFields (bump s (A.BA_FRAMES_RX b)) b hdr) b
  let v := fld w0 21 3
  let n := (20 + (fld w1 0 16 + 3) / 4 * 4 + 63) / 64
  let x := bundle s b
  let got := (pget 0 x.got v + n) % 8192
  if !(typeVc (fld w0 24 8) v) then discardFrame s b true
  else if 4096 ≤ (pget 0 x.adv v + 8192 - got) % 8192 then discardFrame s b true
  else
    let s := freeUnits (setBundle s b { x with got := pset 0 x.got v got }) b v n
    if takesType s b (fld w0 24 8) then s else discardFrame s b false

/-- What the lanes showed while a frame came in: by lane the code errors, misplaced K symbols among them, and the disparity errors
(09 R236, R266), and the K28.0 added to or removed from SKIP, the same on every lane of the bundle (R238). -/
def lineCounts (s : State) (b skips : Nat) (errs : List (Nat × Nat × Nat)) : State :=
  let s := errs.foldl (fun s e =>
    if (bundleOf s e.1).map (·.1) = some b then bumpBy (bumpBy s (A.LN_CODE_ERR e.1) e.2.1) (A.LN_DISP_ERR e.1) e.2.2 else s) s
  (bitsOf (rd s (F.B_MASK_RX b)) 16).foldl (fun s i => bumpBy s (A.LN_EB_ADJUST (laneAt s b i)) skips) s

/-- FRAME_RECEIVED: a frame's header and payload words and its CRC, with what the line showed: 0 a whole frame, 1 no EOF in time, a
second SOF, a code error or a wrong byte count, 2 ended by ABORT (09 R246, R250). -/
def frameReceived (b : Nat) (hdr body : List Word) (crc : Word) (fault skips : Nat) (errs : List (Nat × Nat × Nat)) (s : State) :
    State :=
  let s := lineCounts (newLcw s b) b skips errs
  let len := fld (hdr.getD 1 0#32) 0 16
  let seq := fld (hdr.getD 1 0#32) 16 16
  let next := (rd s (F.B_SEQ_LAST b) + 1) % 65536
  if !(bundleUp s b) then s
  else if fault = 2 then s
  else if fault = 1 ∨ 4096 < len ∨ hdr.length ≠ 4 ∨ body.length ≠ (len + 3) / 4 then badFrame s b 1
  else if crc ≠ word (crc32 (wordBytes (hdr ++ body))) then badFrame s b 0
  else if seq = next then acceptFrame s b hdr
  else if seqLe seq (rd s (F.B_SEQ_LAST b)) then dueAck (takeFields s b hdr) b
  else sendNak s b 2

/-- ACK_INT_EXPIRE: an ACK LCW is sent (09 R249). -/
def ackIntExpire (t b : Nat) (s : State) : State :=
  match (bundle s b).ackDue with
  | some u => if u ≤ t ∧ bundleUp s b then sendLcw (ackCarried (newLcw s b) b) b [rd s (F.B_SEQ_LAST b)] else s
  | none => s

/-- CREDIT_INT_EXPIRE: a CREDIT LCW is sent for every VC whose LIMIT has changed (09 R248). -/
def creditIntExpire (t b : Nat) (s : State) : State :=
  match (bundle s b).creditDue with
  | some u =>
    if u ≤ t ∧ bundleUp s b then
      let s := onBundle (newLcw s b) b fun x => { x with creditDue := none }
      (creditsDue (bundle s b)).foldl (fun s v => sendCredit s b v) s
    else s
  | none => s

/-- RESERVED_LCW: a link control word of type 0x6 or 0x7 (09 R244). -/
def reservedLcw (b : Nat) (s : State) : State := if bundleUp s b then bump (newLcw s b) (A.B_CRC_ERR b) else s

/-! ## Lanes lost and added (09 R255 to R258) -/

/-- The order of R242 between positions of the two ends. -/
def convMask (s : State) (b m : Nat) : Nat :=
  if (bundle s b).rev then maskOf ((bitsOf m 16).filterMap fun i => if i < bCount s b then some (bCount s b - 1 - i) else none) else m % 2 ^ 16

/-- The AND of the offers has changed: LANE_OFFER when the own offer did, LANE_TX, and the switch at the next ALIGN; an
empty AND leads to RECOVERY (09 R256). -/
def maskChange (s : State) (b : Nat) (ownChanged : Bool) : State :=
  let m := offerAnd s b
  let cur := ((bundle s b).txMask).getD (rd s (F.B_MASK_TX b))
  if !(bundleUp s b) then s
  else if m = 0 then enterRecovery s b
  else
    let s := if ownChanged then sendLcw s b [3 * 2 ^ 21 + rd s (F.B_OFFER_OWN b)] else s
    if m = cur then s else sendLcw (onBundle s b fun x => { x with txMask := some m }) b [4 * 2 ^ 21 + m]

/-- An own offer changes. -/
def setOffer (s : State) (b m : Nat) : State :=
  if rd s (F.B_OFFER_OWN b) = m then s else maskChange (wr s (F.B_OFFER_OWN b) m) b true

/-- Positions of a bundle are quarantined with a cause, and leave its offer and the training in progress (09 R255, R233). -/
def losePositions (s : State) (b cause : Nat) (l : List Nat) : State :=
  let s := l.foldl (fun s i => quarantineLane s b (laneAt s b i) cause) s
  let m := maskOf l
  let s := onBundle s b fun x => { x with cand := x.cand - (x.cand &&& m) }
  setOffer s b (rd s (F.B_OFFER_OWN b) - (rd s (F.B_OFFER_OWN b) &&& m))

/-- Holdover beyond 10 ms moves the internal lane reference of a lane's group past what SKIP can absorb (09 R238, 03 R68). -/
def wideHoldover (s : State) (l : Nat) : Bool :=
  s.clk.wide && flag s F.CLK_STATUS_HOLDOVER && !(rdBit s A.WNB_LREF_SEL (groupOf l))

/-- The lane is active in service, or waits to be. -/
def inService (s : State) (l : Nat) : Bool := decide (rd s (F.LN_STATUS_STATE l) = 2) || decide (rd s (F.LN_STATUS_STATE l) = 6)

/-- QUARANTINE: a lane fault with its cause, and the code and disparity errors counted with it (09 R255). An elastic buffer fault
under holdover beyond 10 ms takes every lane of the bundle (R238). -/
def laneFault (l cause codes disps : Nat) (s : State) : State :=
  let s := bumpBy (bumpBy s (A.LN_CODE_ERR l) codes) (A.LN_DISP_ERR l) disps
  let s := if cause = 5 then setPllLock s l false else s
  match bundleOf s l with
  | some (b, i) =>
    let s := newLcw s b
    if !(inService s l) then s
    else if cause = 4 ∧ wideHoldover s l then
      losePositions s b cause ((bitsOf (laneEn s b) 16).filter fun j => inService s (laneAt s b j))
    else losePositions s b cause [i]
  | none => s

/-- A lane rejoins at a switch (09 R257). -/
def rejoinLane (s : State) (b l : Nat) : State :=
  raise (laneEvent (bump (setLane s l 2) (A.LN_REJOINS l)) l 1) (F.B_EVT_RAW_LANE_REJOIN b)

/-- A lane that the partner no longer offers leaves the bundle, and the own offer, until it has trained again (09 R255 to R257). -/
def partnerLeft (s : State) (b i : Nat) : State :=
  let l := laneAt s b i
  let s := setReg (setLane (setBitLock s l false) l 3) (A.LN_LAST_CAUSE l) 6#32
  let s := onLane s l fun x => { x with busy := false, at' := s.now }
  let m := rd s (F.B_OFFER_OWN b)
  setOffer s b (m - (m &&& 2 ^ i))

/-- LANE_MASK_SWITCH: the next ALIGN of the transmitter, or of the receiver (09 R256). -/
def laneMaskSwitch (b : Nat) (rx : Bool) (s : State) : State :=
  let s := newLcw s b
  let x := bundle s b
  if rx then
    match x.rxMask with
    | some m => wr (setBundle s b { x with rxMask := none }) (F.B_MASK_RX b) m
    | none => s
  else
    match x.txMask with
    | some m =>
      let s := (bitsOf m 16).foldl (fun s i => if rd s (F.LN_STATUS_STATE (laneAt s b i)) = 6 then rejoinLane s b (laneAt s b i) else s) s
      let gone := (bitsOf (rd s (F.B_MASK_TX b)) 16).filter fun i => !(m.testBit i)
      let s := showLanes (wr (setBundle s b { bundle s b with txMask := none }) (F.B_MASK_TX b) m) b
      gone.foldl (fun s i =>
        if !((laneEn s b).testBit i) then setLane s (laneAt s b i) 0
        else if rd s (F.LN_STATUS_STATE (laneAt s b i)) = 2 then partnerLeft s b i
        else s) s
    | none => s

/-- LANE_OFFER: the partner's offer, in its positions (09 R242, R256). -/
def laneOffer (b m : Nat) (s : State) : State :=
  let s := newLcw s b
  if bundleUp s b then maskChange (wr s (F.B_OFFER_PARTNER b) (convMask s b m)) b false else s

/-- LANE_TX: the partner's transmit mask, used from its next ALIGN (09 R256). -/
def laneTx (b m : Nat) (s : State) : State :=
  let s := newLcw s b
  if bundleUp s b then onBundle s b fun x => { x with rxMask := some (convMask s b m) } else s

/-- The selected lane reference of a group is present: the internal synthesiser while it is locked, or its pins (09 R233, R263). -/
def lrefPresent (s : State) (g : Nat) : Bool :=
  if rdBit s A.WNB_LREF_SEL g then rdBit s A.WNB_LREF_STATUS g else flag s F.CLK_STATUS_LREF_LOCK

/-- LANE_RETRAIN_ATTEMPT: a background attempt starts on a quarantined lane of a bundle that is UP (09 R257). -/
def laneRetrainAttempt (t l : Nat) (s : State) : State :=
  match bundleOf s l with
  | some (b, _) =>
    if bundleUp s b ∧ rd s (F.LN_STATUS_STATE l) = 3 ∧ !(laneSt s l).busy ∧ (laneSt s l).at' ≤ t
        ∧ flag s (F.LNQ_CTRL_ENABLE (l / 4)) ∧ lrefPresent s (groupOf l) then
      onLane (setLane s l 1) l fun x => { x with busy := true, at' := t }
    else s
  | none => s

/-- LANE_RETRAIN_END: a background attempt succeeds into STANDBY and the lane is offered again, or it fails (09 R257). -/
def laneRetrainEnd (l : Nat) (ok : Bool) (s : State) : State :=
  match bundleOf s l with
  | some (b, i) =>
    let x := laneSt s l
    if !x.busy then s
    else
      let s := onLane (newLcw s b) l fun x => { x with busy := false, at' := x.at' + msec 10, once := false }
      if ok then
        let s := measureSkew (setPllLock (setBitLock (setLane s l 6) l true) l true) l
        setOffer s b (rd s (F.B_OFFER_OWN b) ||| 2 ^ i)
      else if x.once then laneEvent (setLane (onLane s l fun y => { y with held := true }) l 4) l 2
      else setLane s l 3
  | none => s

/-- A lane loses its PLL lock with its reference, and is quarantined in service or in training (09 R233). -/
def laneUnlock (s : State) (l : Nat) : State :=
  let s := setPllLock s l false
  match bundleOf s l with
  | some (b, i) =>
    if inService s l ∨ rd s (F.LN_STATUS_STATE l) = 1 then losePositions (newLcw s b) b 5 [i] else s
  | none => s

/-- The lanes of a group lose their PLL lock (09 R233). -/
def groupUnlock (s : State) (g : Nat) : State :=
  (List.range 16).foldl (fun s k => if 16 * g + k < 144 then laneUnlock s (16 * g + k) else s) s

/-- LREF_LOST: no edge for 1 µs on the pins that a group has selected (09 R233). -/
def lrefLost (g : Nat) (s : State) : State :=
  if rdBit s A.WNB_LREF_SEL g ∧ rdBit s A.WNB_LREF_STATUS g then
    raiseAt (groupUnlock (wrBit s A.WNB_LREF_STATUS g false) g) F.WNB_EVT_RAW_LREF_LOST g
  else s

/-- LREF_RETURN: edges return, and the lanes of the group may retrain (09 R233). -/
def lrefReturn (t g : Nat) (s : State) : State :=
  if rdBit s A.WNB_LREF_SEL g ∧ !(rdBit s A.WNB_LREF_STATUS g) then
    (List.range 16).foldl (fun s k => onLane s (16 * g + k) fun x => { x with at' := t }) (wrBit s A.WNB_LREF_STATUS g true)
  else s

/-! ## PRBS (09 R262) -/

/-- PRBS_SYNC: the checker of a lane gains or loses sync; bit errors counted in sync come with it, and the first
after each sync sets PRBS_ERR (09 R262). -/
def prbsSync (l : Nat) (sync : Bool) (errors : Nat) (s : State) : State :=
  if rd s (F.LN_CTRL_PRBS_RX l) = 0 then s
  else
    let was := flag s (F.LN_STATUS_PRBS_SYNC l)
    let s :=
      if was ∧ errors ≠ 0 then
        let s := bumpBy s (A.LN_PRBS_ERR l) errors
        if (laneSt s l).prbsErr then s else laneEvent (onLane s l fun x => { x with prbsErr := true }) l 3
      else s
    wrB (if was ∧ sync then s else onLane s l fun x => { x with prbsErr := false }) (F.LN_STATUS_PRBS_SYNC l) sync

/-! ## Rows -/

/-- LANE_BIT_LOCK (09 R240). -/
def execLaneBitLock (t l : Nat) (s : State) : Host.Outcome State Fault Refusal := .next (laneBitLock l (at' t s))

/-- TS_SET_RECEIVED (09 R239). -/
def execTsSetReceived (t l : Nat) (x : TsSeen) (s : State) : Host.Outcome State Fault Refusal :=
  .next (tsSetReceived l x.sym x.codeErr (at' t s))

/-- TRAIN_STEP_COMPLETE (09 R240). -/
def execTrainStepComplete (t b seen : Nat) (s : State) : Host.Outcome State Fault Refusal :=
  .next (trainStepComplete b seen (at' t s))

/-- TRAIN_STEP_TIMEOUT (09 R241). -/
def execTrainStepTimeout (t b seen : Nat) (s : State) : Host.Outcome State Fault Refusal :=
  .next (trainStepTimeout t b seen (at' t s))

/-- TRAIN_FAIL_RESTART (09 R241). -/
def execTrainFailRestart (t b : Nat) (s : State) : Host.Outcome State Fault Refusal := .next (trainFailRestart t b (at' t s))

/-- ACK (09 R251). -/
def execAck (t b seq : Nat) (s : State) : Host.Outcome State Fault Refusal := .next (ackReceived b seq (at' t s))

/-- NAK (09 R251). -/
def execNak (t b seq : Nat) (s : State) : Host.Outcome State Fault Refusal := .next (nakReceived b seq (at' t s))

/-- CREDIT (09 R248). -/
def execCredit (t b vc limit : Nat) (s : State) : Host.Outcome State Fault Refusal := .next (creditReceived b vc limit (at' t s))

/-- LANE_OFFER (09 R256). -/
def execLaneOffer (t b mask : Nat) (s : State) : Host.Outcome State Fault Refusal := .next (laneOffer b mask (at' t s))

/-- LANE_TX (09 R256). -/
def execLaneTx (t b mask : Nat) (s : State) : Host.Outcome State Fault Refusal := .next (laneTx b mask (at' t s))

/-- FRAME_RECEIVED (09 R250). -/
def execFrameReceived (t b : Nat) (hdr body : List Word) (line : FrameSeen)
    (s : State) : Host.Outcome State Fault Refusal :=
  .next (frameReceived b hdr body line.crc line.fault line.skips line.errs (at' t s))

/-- FRAME_TRANSMIT (09 R248). -/
def execFrameTransmit (t b : Nat) (s : State) : Host.Outcome State Fault Refusal := .next (frameTransmit t b (at' t s))

/-- ACK_INT_EXPIRE (09 R249). -/
def execAckIntExpire (t b : Nat) (s : State) : Host.Outcome State Fault Refusal := .next (ackIntExpire t b (at' t s))

/-- CREDIT_INT_EXPIRE (09 R248). -/
def execCreditIntExpire (t b : Nat) (s : State) : Host.Outcome State Fault Refusal := .next (creditIntExpire t b (at' t s))

/-- REPLAY_TIMEOUT (09 R251). -/
def execReplayTimeout (t b : Nat) (s : State) : Host.Outcome State Fault Refusal := .next (replayTimeout t b (at' t s))

/-- DOWN (09 R253). -/
def execDown (t b : Nat) (s : State) : Host.Outcome State Fault Refusal := .next (bundleDown t b (at' t s))

/-- QUARANTINE (09 R255). -/
def execQuarantine (t l cause codes disps : Nat) (s : State) : Host.Outcome State Fault Refusal :=
  .next (laneFault l cause codes disps (at' t s))

/-- LANE_MASK_SWITCH (09 R256). -/
def execLaneMaskSwitch (t b : Nat) (rx : Bool) (s : State) : Host.Outcome State Fault Refusal :=
  .next (laneMaskSwitch b rx (at' t s))

/-- LANE_RETRAIN_ATTEMPT (09 R257). -/
def execLaneRetrainAttempt (t l : Nat) (s : State) : Host.Outcome State Fault Refusal :=
  .next (laneRetrainAttempt t l (at' t s))

/-- LANE_RETRAIN_END (09 R257). -/
def execLaneRetrainEnd (t l : Nat) (ok : Bool) (s : State) : Host.Outcome State Fault Refusal :=
  .next (laneRetrainEnd l ok (at' t s))

/-- LREF_LOST (09 R233). -/
def execLrefLost (t g : Nat) (s : State) : Host.Outcome State Fault Refusal := .next (lrefLost g (at' t s))

/-- LREF_RETURN (09 R233). -/
def execLrefReturn (t g : Nat) (s : State) : Host.Outcome State Fault Refusal := .next (lrefReturn t g (at' t s))

/-- PRBS_SYNC (09 R262). -/
def execPrbsSync (t l : Nat) (sync : Bool) (errors : Nat) (s : State) : Host.Outcome State Fault Refusal :=
  .next (prbsSync l sync errors (at' t s))

/-- RESERVED_LCW (09 R244). -/
def execReservedLcw (t b : Nat) (s : State) : Host.Outcome State Fault Refusal := .next (reservedLcw b (at' t s))

/-! ## Registers -/

/-- LNQ.STATUS: the locks of the lanes and, in bit 8, the ROLE in force (09 R266). -/
def lnqStatus (s : State) (q : Nat) : Word :=
  setFld (reg s (F.LNQ_STATUS_PLL_LOCK q).addr) 8 1 (rd s (F.LNQ_QUAD_CFG_ROLE q))

/-- The quads of a bundle's lanes carry Wenub in their role in force (09 R243). -/
def quadWenub (s : State) (l : Nat) : Bool := decide (l / 4 ≠ 35) || !(flag s (F.LNQ_QUAD_CFG_ROLE 35))

/-- The lanes of two enabled bundles meet (09 R243). -/
def lanesMeet (s : State) (b c : Nat) : Bool :=
  decide (laneAt s b 0 ≤ laneAt s c (bCount s c - 1)) && decide (laneAt s c 0 ≤ laneAt s b (bCount s b - 1))

/-- A write of ENABLE 1 breaks a rule of R243 or R265. -/
def enableBad (s : State) (b : Nat) : Bool :=
  let hi := laneAt s b (bCount s b - 1)
  let others := (List.range 32).filter fun c => c ≠ b && flag s (F.B_CTRL_ENABLE c)
  decide (143 < hi) || decide (groupOf (laneAt s b 0) ≠ groupOf hi) || others.any (lanesMeet s b)
    || ((List.range (bCount s b)).any fun i => !(quadWenub s (laneAt s b i)))
    || (isPairBundle s b && (decide (laneAt s b 0 ≠ 128) || decide (bCount s b ≠ 8) || decide (rd s (F.B_CFG_MAX_RATE b) ≠ 4)
        || decide (ceiling s 8 ≠ 4) || others.any (isPairBundle s)))

/-- A lane lies in an enabled bundle, enabled in it or not (09 R243). -/
def bundleHolds (s : State) (l : Nat) : Bool :=
  (List.range 32).any fun b => flag s (F.B_CTRL_ENABLE b) && decide (laneAt s b 0 ≤ l) && decide (l < laneAt s b (bCount s b))

/-- A lane group is in use: a lane of it lies in an enabled bundle or is in test. Q35 in the ETHERNET role takes no part
(09 R232). -/
def groupInUse (s : State) (g : Nat) : Bool :=
  (List.range 16).any fun k =>
    let l := 16 * g + k
    decide (l < 144) && quadWenub s l && (bundleHolds s l || decide (rd s (F.LN_STATUS_STATE l) = 5))

/-- RX_ALLOC breaks R264. -/
def allocBad (d : Word) : Bool :=
  let n := (List.range 8).map fun v => fld d (4 * v) 4
  decide (16 < n.sum) || n.any fun k => k ≠ 0 && decide (k < 3)

/-- The checks of a write to the WNB page (09 R232, R263, R264). -/
def wnbCheck (a : Nat) (d : Word) (s : State) : Nat :=
  if a = F.WNB_LG_RATE_G0.addr ∧ (List.range 9).any (fun g => fld d (3 * g) 3 ≠ ceiling s g && groupInUse s g) then 0x04
  else if 0x60800 ≤ a ∧ a < 0x61000 ∧ a % 0x40 = 0x30 ∧ allocBad d then 0x03
  else if a = A.WNB_CTRL ∧ bit d 1 ∧ (List.range 32).any (fun b => flag s (F.B_CTRL_ENABLE b)) then 0x04
  else 0

/-- LREF_STATUS (09 R263). -/
def lrefStatus (s : State) : Word := word (maskOf ((List.range 9).filter fun g => lrefPresent s g))

/-- What an accepted write of the WNB page does beside storing it, `o` being the state before: ENABLE lets enabled bundles leave
DISABLED (09 R263); a group that turns to its pins counts them present until 1 µs without an edge (R233). -/
def wnbAct (a : Nat) (o s : State) : State :=
  if a = A.WNB_CTRL ∧ flag s F.WNB_CTRL_ENABLE then
    (List.range 32).foldl (fun s b =>
      if flag s (F.B_CTRL_ENABLE b) ∧ rd s (F.B_STATUS_STATE b) = 0 then enterDetect s b 0 else s) s
  else if a = A.WNB_LREF_SEL then
    (List.range 9).foldl (fun s g =>
      if rdBit s A.WNB_LREF_SEL g && !(rdBit o A.WNB_LREF_SEL g) then wrBit s A.WNB_LREF_STATUS g (lrefPresent o g) else s) s
  else s

/-- CREDIT_TX of the selected bundle and VC (09 R263). -/
def creditTx (s : State) : Word :=
  let x := bundle s (rd s F.WNB_CREDIT_SEL_BUNDLE)
  let v := rd s F.WNB_CREDIT_SEL_VC
  word (pget 0 x.limit v * 2 ^ 16 + pget 0 x.consumed v)

/-- CREDIT_RX of the selected bundle and VC (09 R263); frames are taken as they arrive, so no unit stays in use. -/
def creditRx (s : State) : Word :=
  let x := bundle s (rd s F.WNB_CREDIT_SEL_BUNDLE)
  word (pget 0 x.adv (rd s F.WNB_CREDIT_SEL_VC) * 2 ^ 16)

/-- The checks of a write to a bundle page (09 R243, R258, R265). -/
def bCheck (b off : Nat) (d : Word) (s : State) : Nat :=
  let on := flag s (F.B_CTRL_ENABLE b)
  let old := reg s (F.B_LANES_FIRST b).addr
  if off = 0x08 then
    if bit d 2 ∧ !(bundleUp s b) then 0x04
    else if bit d 0 ∧ !on ∧ enableBad s b then 0x03
    else 0
  else if off = 0x40 ∧ on then 0x04
  else if off = 0x44 ∧ on ∧ (fld d 8 8 ≠ fld old 8 8 ∨ fld d 0 4 ≠ fld old 0 4) then 0x04
  else if off = 0x44 ∧ fld d 16 16 % 2 ^ (fld d 0 4 + 1) = 0 then 0x03
  else if off = 0x44 ∧ on ∧ bundleUp s b ∧ fld d 16 16 % 2 ^ bCount s b &&& rd s (F.B_MASK_TX b) = 0 then 0x03
  else 0

/-- A position enters or leaves LANE_EN while the bundle trains or serves: one added in service, or behind a training that has
passed DETECT, trains in the background (09 R257, R258). -/
def laneEnChange (s : State) (b old : Nat) : State :=
  let now := laneEn s b
  let st := rd s (F.B_STATUS_STATE b)
  if !(1 ≤ st ∧ st ≤ 4) then showLanes s b
  else
    let s := (bitsOf now 16).foldl (fun s i =>
      if old.testBit i then s
      else
        let l := laneAt s b i
        let s := startLane s b i (rd s (F.B_STATUS_RATE b))
        if st = 1 ∨ rd s (F.LN_STATUS_STATE l) ≠ 1 then s
        else onLane (setLane s l 3) l fun x => { x with at' := s.now }) s
    if st = 3 then showLanes (setOffer s b (rd s (F.B_OFFER_OWN b) &&& now)) b
    else
      let s := (bitsOf (old - (old &&& now)) 16).foldl (fun s i => setLane s (laneAt s b i) 0) s
      showLanes (onBundle s b fun x => { x with cand := x.cand &&& now }) b

/-- The checks of a write to a lane page (09 R262, R266). -/
def lnqCheck (q off : Nat) (d : Word) (s : State) : Nat :=
  let l := 4 * q + (off - 0x100) / 0xC0
  let o := (off - 0x100) % 0xC0
  if off = 0x40 then
    if q ≠ 35 ∧ bit d 0 then 0x02
    else if (List.range 4).any (fun k => bundleHolds s (4 * q + k)) || (List.range 5).any (fun p => flag s (F.ETHP_CTRL_ENABLE p)) then 0x04
    else 0
  else if 0x100 ≤ off ∧ off < 0x400 ∧ o = 0 then
    let old := reg s (F.LN_CTRL_LOOP l).addr
    if (bundleOf s l).isSome ∧ (fld d 16 15 ≠ fld old 16 15) then 0x04
    else if rd s (F.LN_STATUS_STATE l) = 2 ∧ fld d 8 2 ≠ fld old 8 2 then 0x04
    else 0
  else if 0x100 ≤ off ∧ off < 0x400 ∧ o = 8 then (if 63 < fld d 16 4 + fld d 8 6 + fld d 0 5 then 0x03 else 0)
  else 0

/-- What an accepted write of a lane page does beside storing it, `o'` being the state before (09 R257, R262, R266). -/
def lnqAct (q off : Nat) (d : Word) (o' s : State) : State :=
  let l := 4 * q + (off - 0x100) / 0xC0
  let o := (off - 0x100) % 0xC0
  if off = 0x08 then
    (List.range 4).foldl (fun s k =>
      let m := 4 * q + k
      if flag s (F.LNQ_CTRL_ENABLE q) then
        (if (bundleOf s m).isSome ∧ rd s (F.LN_STATUS_STATE m) = 0 then
          onLane (setLane s m (if (laneSt s m).held then 4 else 3)) m fun x => { x with at' := s.now } else s)
      else setLane (setPllLock (setBitLock (laneUnlock s m) m false) m false) m 0) s
  else if 0x100 ≤ off ∧ off < 0x400 ∧ o = 0 then
    let s := if bit d 31 ∧ (laneSt s l).held then
        onLane (if rd s (F.LN_STATUS_STATE l) = 4 then setLane s l 3 else s) l fun x =>
          { x with at' := s.now, once := true, outs := [], held := false }
      else s
    if (bundleOf s l).isSome then s
    else
      let test := fld d 24 3 ≠ 0 || fld d 20 3 ≠ 0 || fld d 16 3 ≠ 0
      let s := if fld d 16 3 = 0 then wrB s (F.LN_STATUS_PRBS_SYNC l) false else s
      if test then wr (setLane s l 5) (F.LN_STATUS_RATE l) (fld d 28 3)
      else if rd s (F.LN_STATUS_STATE l) = 5 then setLane s l 0 else s
  else if 0x100 ≤ off ∧ off < 0x400 ∧ o = 8 then applyEq s l
  else if 0x100 ≤ off ∧ off < 0x400 ∧ o = 0x10 then
    let s :=
      if bit d 31 ∧ !(flag o' (F.LN_EQ_RX_FREEZE l)) then wrB (adaptLane (wr s (F.LN_EQ_RX_FREEZE l) 0) l) (F.LN_EQ_RX_FREEZE l) true
      else s
    if bit d 30 then wr s (F.LN_EQ_RX_CTLE_ACTIVE l) (fld d 24 4) else s
  else s

end Sys2Proof.Machine
end

