-- ==== Sys2Proof/Machine/Stq.lean ====
section
/-!
DEFINITION. Stream queues: blocks, admission, routing, segments (chapter 08, R210 to R218 and R227 to R229).
-/

namespace Sys2Proof.Machine

/-! ## Queues and their registers -/

/-- A queue beside its registers. -/
def queue (s : State) (k : Nat) : Queue := pget Queue.off s.stq.queues k

/-- The state with a queue set. -/
def setQueue (s : State) (k : Nat) (q : Queue) : State :=
  { s with stq := { s.stq with queues := pset Queue.off s.stq.queues k q } }

/-- The address of a queue's Q_CFG. -/
abbrev qBase (k : Nat) : Nat := 0x200000 + 0x20 * k

/-- The queues of a list of addresses in the queue table. -/
def tableKeys (l : List (Nat × Word)) : List Nat :=
  (l.filter fun p => decide (0x200000 ≤ p.1) && decide (p.1 < 0x280000)).map fun p => (p.1 - 0x200000) / 0x20

/-- The queues that are not as at reset. -/
def queueKeys (s : State) : List Nat :=
  (tableKeys s.regs ++ tableKeys s.shadows ++ s.stq.queues.map (·.1)).eraseDups

/-- A Q_CFG or Q_ROUTE write awaits the queue's frame boundary (08 R211). -/
def qPending (s : State) (k : Nat) : Bool :=
  s.shadows.any fun p => decide (p.1 = qBase k) || decide (p.1 = qBase k + 4)

/-- The queue counts as enabled: from the write of ENABLE 1 until its Q_STATE reads OFF (08 R212). -/
def qEnabled (s : State) (k : Nat) : Bool :=
  flag s (F.Q_CFG_ENABLE k) || decide (rdShadow s (F.Q_CFG_ENABLE k) = 1) || (queue s k).live

/-! ## Blocks (08 R212) -/

/-- The blocks that `n` bytes have begun. -/
abbrev begun (n : Nat) : Nat := (n + 4095) / 4096

/-- The blocks a queue holds. -/
def Queue.blocks (q : Queue) : Nat := begun q.inN - q.gone / 4096 + (begun q.outN - q.outGone / 4096)

/-- POOL_BLOCKS (08 R229). -/
def poolBlocks (s : State) : Nat := rd s F.GLB_POOL_SPLIT_STREAM * 256

/-- POOL_FREE (08 R212). -/
def poolFree (s : State) : Nat := poolBlocks s - (s.stq.queues.map fun p => p.2.blocks).sum

/-- MIN_BLOCKS and MAX_BLOCKS. -/
abbrev qMin (s : State) (k : Nat) : Nat := rd s (F.Q_LIMIT_MIN_BLOCKS k)

/-- MAX_BLOCKS. -/
abbrev qMax (s : State) (k : Nat) : Nat := rd s (F.Q_LIMIT_MAX_BLOCKS k)

/-- The unused reserve of the other enabled queues (08 R212). -/
def othersReserve (s : State) (k : Nat) : Nat :=
  ((queueKeys s).map fun j => if j ≠ k ∧ qEnabled s j then qMin s j - (queue s j).blocks else 0).sum

/-- RESERVE_SUM (08 R229). -/
def reserveSum (s : State) : Nat := ((queueKeys s).map fun j => if qEnabled s j then qMin s j else 0).sum

/-- A queue can take `n` free blocks, one after another (08 R212). -/
def canTake (s : State) (k n : Nat) : Bool :=
  let held := (queue s k).blocks
  let free := poolFree s
  let sum := othersReserve s k
  (List.range n).all fun i =>
    decide (i < free) && (decide (held + i < qMin s k) || (decide (held + i < qMax s k) && decide (sum + i < free)))

/-- The blocks that `n` more bytes need. -/
def needIn (q : Queue) (n : Nat) : Nat := begun (q.inN + n) - begun q.inN

/-- STQ watches its pool: FREE_MIN, POOL_LOW, and the samples of SOURCE 0x030 and 0x031 (08 R229, R230). -/
def poolWatch (before : Nat) (k : Nat) (s : State) : State :=
  let now := poolFree s
  let s := if now < rd s F.STQ_FREE_MIN_MIN then wr s F.STQ_FREE_MIN_MIN now else s
  let th := rd s F.STQ_POOL_LOW_TH
  let s := if th ≤ before ∧ now < th then raise s F.STQ_EVT_RAW_POOL_LOW else s
  monSample (monSample s 0x030 k (queue s k).blocks) 0x031 0 now

/-- Bytes of records in a queue that have been neither sent nor consumed. -/
def Queue.unsent (q : Queue) : Nat :=
  (q.items.map fun
    | .data r => 4 * r.words.length
    | _ => 0).sum - 4 * q.used

/-- Header bytes among the first `sent` of a stored output of `len` bytes: 5 before each of its blocks (08 R223). -/
def hdrBytes (len sent : Nat) : Nat := min sent 5 + (if len = 65546 then min (sent - 32773) 5 else 0)

/-- The first input byte that a stored block still has to send from its input blocks (08 R212, R223). -/
def storedFrom (l : List QOut) : Option Nat :=
  l.findSome? fun
    | .block bs sent _ true _ start _ => some (start + (sent - hdrBytes bs.length sent))
    | _ => none

/-- The input bytes that a queue needs no longer: sent or consumed, out of the window of a compressed stream, and not of a stored
block that waits (08 R212). -/
def Queue.trim (q : Queue) : Queue :=
  let n := q.inN - q.unsent - (if q.pressing then 32768 else 0)
  { q with gone := max q.gone (match storedFrom q.out with
      | some m => min m n
      | none => n) }

/-! ## Changes that wait in the order of a stream (08 R218, R221) -/

/-- The changes at the head of a queue's items take effect: a Press starts or ends its stream, a move joins the output. -/
def settleItems : Nat → Queue → Queue
  | 0, q => q
  | n + 1, q =>
    match q.items with
    | .press true :: r => settleItems n { q with items := r, pressing := true, restart := true, fresh := true, window := [], codes := none }
    | .press false :: r => settleItems n (Queue.trim { q with items := r, pressing := false, out := q.out ++ [.final [0x03#8, 0x00#8] q.restart] })
    | .move w :: r => settleItems n { q with items := r, out := q.out ++ [.move w] }
    | .close :: r =>
      if q.pressing then settleItems n (Queue.trim { q with pressing := false, out := q.out ++ [.final [0x03#8, 0x00#8] q.restart] })
      else if q.out.isEmpty then settleItems n { q with items := r }
      else q
    | _ => q

/-- A queue after its changes; a disabled queue that holds nothing more is OFF and returns its blocks (08 R211). -/
def settleQueue (s : State) (k : Nat) : State :=
  let q := queue s k
  let q := settleItems (2 * q.items.length + 1) q
  if q.live ∧ !(flag s (F.Q_CFG_ENABLE k)) ∧ q.items.isEmpty ∧ q.out.isEmpty ∧ q.wait.isEmpty then
    setQueue s k { Queue.off with gap := q.gap, gapDue := q.gapDue, route := q.route, rest := q.rest, pendAt := q.pendAt }
  else setQueue s k q

/-- The pending values of a queue take effect at its frame boundary (08 R211, R218, R221). -/
def applyQueue (s : State) (k : Nat) : State :=
  if !(qPending s k) then s
  else
    let cfg := reg s (qBase k)
    let route := reg s (qBase k + 4)
    let cfg' := shadowReg s (qBase k)
    let route' := shadowReg s (qBase k + 4)
    let s := setReg (setReg s (qBase k) cfg') (qBase k + 4) route'
    let s := { s with shadows := s.shadows.filter fun p => p.1 ≠ qBase k ∧ p.1 ≠ qBase k + 4 }
    let q := queue s k
    let moved := fld route 0 5 ≠ fld route' 0 5 ∨ fld route 16 3 ≠ fld route' 16 3
    let items : List QItem :=
      if bit cfg' 31 ∧ bit cfg 31 then
        (if bit cfg 30 ∧ !(bit cfg' 30) then [.press false] else []) ++ (if moved then [.move route'] else [])
          ++ (if bit cfg' 30 ∧ !(bit cfg 30) then [.press true] else [])
      else if bit cfg' 31 then
        (if q.live ∧ moved then [.move route'] else []) ++ (if bit cfg' 30 then [.press true] else [])
      else if bit cfg 31 then [.close]
      else []
    let q := { q with items := q.items ++ items, route := if q.live then q.route else route',
                      live := q.live, inFrame := q.inFrame && bit cfg' 31 }
    settleQueue (setQueue s k q) k

/-! ## Routing (08 R210) -/

/-- The position index of a column position within its frame (08 R210). -/
def posIndex (s : State) (pos : Nat) : Nat := pos / 4096 * (rd s F.ESC_FRAME_CFG_COLUMNS_M1 + 1) + pos % 4096

/-- A queue's table entry names a product and region. -/
def names (cfg : Word) (p r : Nat) : Bool := decide (fld cfg 16 3 = p) && decide (fld cfg 20 4 = r)

/-- The queues to which a FRAME_HEAD of a product and region is offered: the enabled ones, and those with writes that wait for it;
of a queue that is not enabled the entry that waits is taken (08 R210, R211). -/
def headRoutes (s : State) (p r : Nat) : List Nat :=
  (queueKeys s).filter fun k =>
    if flag s (F.Q_CFG_ENABLE k) then names (reg s (qBase k)) p r else qPending s k && names (shadowReg s (qBase k)) p r

/-- The enabled queues of a product and region that take a record; `pos` is the position of a record that is shared out. -/
def queueRoutes (s : State) (p r : Nat) (pos : Option Nat) : List Nat :=
  (queueKeys s).filter fun k =>
    flag s (F.Q_CFG_ENABLE k) && names (reg s (qBase k)) p r &&
      match pos with
      | some q => decide (posIndex s q % (rd s (F.Q_CFG_SHARE_N_M1 k) + 1) = rd s (F.Q_CFG_SHARE_IDX k))
      | none => true

/-- Records of this TYPE go to every queue of the product, whatever its share (08 R210). -/
def wholeType (ty : Nat) : Bool := decide (ty < 0x10)

/-! ## P4 contexts that wait in the Vat (08 R213) -/

/-- The column position of a pixel. -/
abbrev PixelId.pos (p : PixelId) : Nat := 4096 * p.il + p.col

/-- The place of a pixel's contexts in the order of a P4 stream: frame × 2^24 + position. -/
abbrev PixelId.key (p : PixelId) : Nat := p.frame * 2 ^ 24 + p.pos

/-- The queues that a pixel's P4 contexts go to directly: those of its P4 regions that are not retained. -/
def ctxQueues (s : State) (p : PixelId) : List Nat :=
  (p.regs.flatMap fun r => if r.2.testBit 4 && !(r.2.testBit 5) then queueRoutes s 4 r.1 (some p.pos) else []).eraseDups

/-- A HELD context that goes before a record of this key has not entered the queue. -/
def ctxBefore (s : State) (k key : Nat) : Bool :=
  s.vat.engines.any fun e => e.2.held.any fun h =>
    decide (h.pixel.key < key) && !(h.taken.contains k) && (ctxQueues s h.pixel).contains k

/-! ## Admission (08 R213) -/

/-- Bytes are placed in the STREAM partition. -/
def touchPool (s : State) : State := { s with stq := { s.stq with touched := true } }

/-- A record is admitted: it enters the queue now. -/
def takeIn (s : State) (k : Nat) (r : QRec) : State :=
  let before := poolFree s
  let q := queue s k
  let s := setQueue s k { q with items := q.items ++ [.data { r with at' := s.now }], inN := q.inN + 4 * r.words.length,
                                 live := true, inFrame := !r.last }
  poolWatch before k (touchPool s)

/-- A record is discarded: DROPPING begins with it, or with the frame it heads (08 R213). -/
def discard (s : State) (k : Nat) (r : QRec) : State :=
  let q := queue s k
  let s :=
    if !q.dropping ∨ r.head then
      let s := setReg (raise s F.STQ_EVT_RAW_DROP) A.STQ_LAST_DROP_Q (word k)
      bump (bump31 s (A.Q_GAPS k) 1) A.STQ_GAP_FRAMES
    else s
  let s := setQueue s k { q with dropping := true, gap := q.gap + 1, live := true, inFrame := !r.last }
  bump (bump31 s (A.Q_DROPPED k) 1) A.STQ_DROPPED

/-- A record finds the blocks it needs now (08 R212, R229). -/
def roomNow (s : State) (k : Nat) (r : QRec) : Bool :=
  flag s F.STQ_CTRL_ENABLE && canTake s k (needIn (queue s k) (4 * r.words.length))

/-- The queue takes a record now, DROPPING or not: admitted where there is room, else discarded. A FRAME_HEAD is its frame
boundary (08 R211). -/
def enterRec (s : State) (k : Nat) (r : QRec) : State :=
  let s := if r.head then applyQueue s k else s
  if !(flag s (F.Q_CFG_ENABLE k)) then s else if roomNow s k r then takeIn s k r else discard s k r

/-- DROPPING ends, at a FRAME_HEAD that is admitted (08 R213). -/
def endDrop (s : State) (k : Nat) : State := setQueue s k { queue s k with dropping := false }

/-- The queue takes a record of its stream now: admitted, or discarded in DROPPING. -/
def takeRec (s : State) (k : Nat) (r : QRec) : State :=
  let s := if r.head then applyQueue s k else s
  if !(flag s (F.Q_CFG_ENABLE k)) then s
  else if (queue s k).dropping ∧ !r.head then discard s k r
  else if roomNow s k r then takeIn (if r.head then endDrop s k else s) k r
  else discard s k r

/-- A record is refused, a FRAME_HEAD as the queue's frame boundary (08 R211). -/
def refuseRec (s : State) (k : Nat) (r : QRec) : State :=
  let s := if r.head then applyQueue s k else s
  if flag s (F.Q_CFG_ENABLE k) then discard s k r else s

/-- A record of a P4 queue other than a context: taken, discarded in DROPPING, or it waits in the list of 16, behind what waits
there; a FRAME_HEAD that waits ends DROPPING for its frame (08 R213). -/
def offerWait (s : State) (k : Nat) (r : QRec) : State :=
  let q := queue s k
  if q.dropping ∧ !r.head then takeRec s k r
  else if q.wait.isEmpty ∧ !(ctxBefore s k r.key) ∧ (!(flag s F.STQ_CTRL_ENABLE) ∨ roomNow s k r) then takeRec s k r
  else if q.wait.length < 16 then setQueue s k { q with wait := q.wait ++ [r], dropping := false }
  else refuseRec s k r

/-- Records that wait enter as far as there is room, whatever has overflowed behind them (08 R213). -/
def drainWait : Nat → Nat → State → State
  | 0, _, s => s
  | n + 1, k, s =>
    let q := queue s k
    match q.wait with
    | r :: l =>
      if (!(flag s F.STQ_CTRL_ENABLE) || roomNow s k r) && !(ctxBefore s k r.key) then
        drainWait n k (enterRec (setQueue s k { q with wait := l }) k r)
      else s
    | [] => s

/-- Every P4 queue's waiting records enter as far as there is room. -/
def drainAll (s : State) : State :=
  s.stq.queues.foldl (fun s p => if p.2.wait.isEmpty then s else drainWait 17 p.1 s) s

/-! ## Segments (08 R215 to R218) -/

/-- A segment: its header words and stream bytes as words, and the flags and ARG. -/
def segFrame (k vc seg : Nat) (flags arg len : Nat) (body : List Word) : LinkFrame :=
  ⟨1, vc, k, 8 + len, word seg :: word (flags * 2 ^ 24 + arg) :: body⟩

/-- Bytes as words, the last padded with zeros. -/
def packBytes : List Byte → List Word
  | a :: b :: c :: d :: l =>
    word (a.toNat + b.toNat * 2 ^ 8 + c.toNat * 2 ^ 16 + d.toNat * 2 ^ 24) :: packBytes l
  | [] => []
  | l => [word ((l.getD 0 0#8).toNat + (l.getD 1 0#8).toNat * 2 ^ 8 + (l.getD 2 0#8).toNat * 2 ^ 16)]

/-- What a queue would send next: flags, length in bytes, words, and the queue after it. -/
structure SegPlan where
  flags : Nat
  len   : Nat
  body  : List Word
  q     : Queue
  /-- The route that a MOVE names. -/
  move  : Option Word

/-- Stream words of an uncompressed queue up to `n` words, from its items: words, whether the last ends a record, the
queue after. -/
def takeItems : Nat → Nat → Queue → List Word × Bool × Queue
  | 0, _, q => ([], false, q)
  | fuel + 1, n, q =>
    match q.items with
    | .data r :: l =>
      let left := r.words.length - q.used
      if n = 0 then ([], true, q)
      else if left ≤ n then
        let (ws, e, q') := takeItems fuel (n - left) { q with items := l, used := 0 }
        (r.words.drop q.used ++ ws, e || ws.isEmpty, q')
      else ((r.words.drop q.used).take n, false, { q with used := q.used + n })
    | _ => ([], true, q)

/-- The segment a queue has ready (08 R215, R216). -/
def segPlan (q : Queue) : Option SegPlan :=
  match q.out with
  | .move w :: r => some ⟨64, 4, [], { q with out := r }, some w⟩
  | .final bs restart :: r => some ⟨5 + b2n restart * 16, bs.length, packBytes bs, { q with out := r }, none⟩
  | .block bs sent restart stored head start recs :: r =>
    let part := (bs.drop sent).take 4088
    let last := decide (bs.length ≤ sent + part.length)
    let first := decide (sent = 0)
    some ⟨b2n head * 128 + b2n (restart && first) * 16 + b2n stored * 8 + b2n last * 4 + b2n first * 2 + 1,
      part.length, packBytes part,
      Queue.trim { q with
        out := if last then r else .block bs (sent + part.length) restart stored head start recs :: r,
        outGone := q.outGone + (if stored then hdrBytes bs.length (sent + part.length) - hdrBytes bs.length sent else part.length) },
      none⟩
  | [] =>
    match q.pressing, q.items with
    | false, .data r :: _ =>
      let first := decide (q.used = 0)
      let (ws, e, q') := takeItems (q.items.length + 1) 1022 q
      some ⟨b2n (r.head && first) * 128 + b2n e * 4 + b2n first * 2, 4 * ws.length, ws, q'.trim, none⟩
    | _, _ => none

/-- The frame of a queue's next segment (08 R215, R218). -/
def segFrameOf (s : State) (k : Nat) (p : SegPlan) : LinkFrame :=
  let q := queue s k
  let seg := (reg s (A.Q_SEG k)).toNat
  match p.move with
  | some w => segFrame k (fld q.route 16 3) seg 64 (fld w 16 3 * 2 ^ 8 + fld w 0 5) 4 [word (seg + 1)]
  | none =>
    segFrame k (fld q.route 16 3) seg (p.flags + b2n (decide (q.gap ≠ 0) || q.gapDue) * 32) (min 0xFFFFFF q.gap) p.len p.body

/-- The queues that are ready on a bundle: a segment, credit and replay room (08 R217). -/
def readyQueues (s : State) (b : Nat) : List Nat :=
  (s.stq.queues.map (·.1)).filter fun k =>
    decide (fld (queue s k).route 0 5 = b) &&
      match segPlan (queue s k) with
      | some p => creditFor s b (segFrameOf s k p) && roomFor s b (segFrameOf s k p)
      | none => false

/-- The first in turn after the last served (08 R217). -/
def inTurn (l : List Nat) (last : Nat) : Option Nat :=
  match l.find? (fun k => last < k) with
  | some k => some k
  | none => l.head?

/-- The queue served next on a bundle: least PRIO, then in turn (08 R217). -/
def pickQueue (s : State) (b : Nat) : Option (Nat × Nat) :=
  let l := readyQueues s b
  (List.range 4).findSome? fun p =>
    (inTurn (l.filter fun k => rd s (F.Q_CFG_PRIO k) = p) (pget 0 s.stq.turn (4 * b + p))).map fun k => (p, k)

/-- Q_SENT counts stream bytes in 4 KiB units (08 R227). -/
def countSent (s : State) (k n : Nat) : State :=
  let q := queue s k
  bump31 (setQueue s k { q with rest := (q.rest + n) % 4096 }) (A.Q_SENT k) ((q.rest + n) / 4096)

/-- A segment of queue `k` leaves on bundle `b` (08 R215 to R218). -/
def sendSegment (s : State) (b k : Nat) (p : SegPlan) : State :=
  let before := poolFree s
  let f := segFrameOf s k p
  let gap := (queue s k).gap
  let s := startFrame s b f
  let s := setReg s (A.Q_SEG k) (reg s (A.Q_SEG k) + 1#32)
  let s := bump s A.STQ_SEGMENTS
  let s :=
    match p.move with
    | some w => bump (setQueue s k { p.q with route := w, gap := gap }) A.STQ_MOVES
    | none =>
      let pressed := decide (p.flags % 2 = 1)
      let s := countSent (setQueue s k { p.q with gap := 0, gapDue := false }) k p.len
      if pressed then
        bumpBy { s with stq := { s.stq with outRest := (s.stq.outRest + p.len) % 1024 } } A.PRS_OUT_KIB
          ((s.stq.outRest + p.len) / 1024)
      else s
  drainAll (poolWatch before k (settleQueue s k))

/-- SEGMENT_SEND: the bundle starts the segment that is due, after its VC0 to VC2 traffic (08 R216, R217). -/
def segmentSend (t b : Nat) (s : State) : State :=
  let s := newLcw s b
  if !(lineFree s b t) ∨ !((bundle s b).replay.isEmpty) ∨ (nextFrame s b).isSome then s
  else
    match pickQueue s b with
    | some (p, k) =>
      match segPlan (queue s k) with
      | some x => sendSegment { s with stq := { s.stq with turn := pset 0 s.stq.turn (4 * b + p) k } } b k x
      | none => s
    | none => s

/-- SEGMENT_SEND (08 R216). -/
def execSegmentSend (t b : Nat) (s : State) : Host.Outcome State Fault Refusal := .next (segmentSend t b (at' t s))

/-! ## Configuration (08 R211, R227) -/

/-- QUEUE_CFG_APPLY_IDLE: with acquisition disabled, a write applies 1 µs after it (08 R211). -/
def queueCfgApplyIdle (t k : Nat) (s : State) : State :=
  if qPending s k ∧ !(queue s k).inFrame ∧ !(flag s F.ACQ_CTRL_ENABLE) ∧ (queue s k).pendAt + usec 1 ≤ t then
    let before := poolFree s
    let s := applyQueue s k
    let s := if flag s (F.Q_CFG_ENABLE k) then setQueue s k { queue s k with live := true } else s
    poolWatch before k s
  else s

/-- QUEUE_CFG_APPLY_IDLE (08 R211). -/
def execQueueCfgApplyIdle (t k : Nat) (s : State) : Host.Outcome State Fault Refusal := .next (queueCfgApplyIdle t k (at' t s))

/-- The values of a Q_CFG and a Q_LIMIT break a rule of R227. -/
def queueBad (s : State) (k : Nat) (cfg lim : Word) : Bool :=
  let mn := fld lim 0 14
  let mx := fld lim 16 14
  let others := ((queueKeys s).map fun j => if j ≠ k ∧ qEnabled s j then qMin s j else 0).sum
  decide (mn = 0) || decide (mx < mn) || decide (fld cfg 8 5 < fld cfg 0 5) || (bit cfg 30 && decide (mx < 42))
    || decide (poolBlocks s < others + mn)

/-- The checks of a write to the queue table (08 R211, R227). -/
def qtCheck (a : Nat) (d : Word) (s : State) : Nat :=
  let k := (a - 0x200000) / 0x20
  let o := a % 0x20
  if (o = 0 ∨ o = 4) ∧ qPending s k then 0x06
  else if o = 0 ∧ bit d 31 ∧ queueBad s k d (reg s (qBase k + 8)) then 0x03
  else if o = 8 ∧ qEnabled s k ∧ queueBad s k (shadowReg s (qBase k)) d then 0x03
  else 0

/-- A write of Q_CFG or Q_ROUTE is pending from now on (08 R211). -/
def qtAct (a : Nat) (s : State) : State :=
  let k := (a - 0x200000) / 0x20
  if a % 0x20 = 0 ∨ a % 0x20 = 4 then setQueue s k { queue s k with pendAt := s.now } else s

/-- Q_STATE of a queue; one that is OFF has no bundle and VC in force (08 R227, log entry 19). -/
def qState (s : State) (k : Nat) : Word :=
  let q := queue s k
  let st := if q.halt.isSome then 3 else if q.dropping ∧ q.live then 2 else if q.live then 1 else 0
  word (st * 2 ^ 30 + b2n (qPending s k) * 2 ^ 29 + b2n (q.pressing) * 2 ^ 28
    + (if q.live then fld q.route 0 5 * 2 ^ 23 + fld q.route 16 3 * 2 ^ 20 else 0) + q.blocks)

/-- STQ.STATUS (08 R229). -/
def stqStatus (s : State) : Word :=
  word (b2n (decide (poolFree s < rd s F.STQ_POOL_LOW_TH)) * 4 + b2n (s.stq.queues.any fun p => p.2.dropping) * 2
    + b2n (flag s F.STQ_CTRL_ENABLE))

/-- What an accepted write of the STQ page does beside storing it. -/
def stqAct (a : Nat) (d : Word) (s : State) : State :=
  if a = A.STQ_FREE_MIN ∧ bit d 31 then wr s F.STQ_FREE_MIN_MIN (poolBlocks s)
  else if a = A.STQ_CTRL then drainAll s
  else s

end Sys2Proof.Machine
end

