-- ==== Sys2Proof/Machine/Prs.lean ====
section
/-!
DEFINITION. The Press: jobs, priming, blocks, expansion, halts (chapter 08, R219 to R226 and R230), and the STQ soft reset.
-/

namespace Sys2Proof.Machine

/-- A Press engine beside its registers. -/
def press (s : State) (e : Nat) : PressEng := pget ⟨none, none⟩ s.stq.engs e

/-- The state with a Press engine set. -/
def setPress (s : State) (e : Nat) (x : PressEng) : State :=
  { s with stq := { s.stq with engs := pset ⟨none, none⟩ s.stq.engs e x } }

/-- The engine a queue is bound to (08 R222). -/
abbrev boundEng (s : State) (k : Nat) : Nat := rd s (F.Q_ROUTE_PRS_ENGINE k)

/-- The engine whose job a queue is. -/
def jobOf (s : State) (k : Nat) : Option Nat :=
  (List.range 32).find? fun e =>
    match (press s e).job with
    | some j => decide (j.1 = k)
    | none => false

/-- A queue has input for a job, and none of its blocks is halted. -/
def pressReady (s : State) (k : Nat) : Bool :=
  let q := queue s k
  q.pressing && q.halt.isNone && (jobOf s k).isNone &&
    match q.items with
    | .data _ :: _ => true
    | _ => false

/-- The queue an engine serves next: least PRIO, then in turn (08 R222). -/
def pressPick (s : State) (e : Nat) : Option Nat :=
  let l := (s.stq.queues.map (·.1)).filter fun k => decide (boundEng s k = e) && pressReady s k
  (List.range 4).findSome? fun p => inTurn (l.filter fun k => rd s (F.Q_CFG_PRIO k) = p) ((press s e).last.getD 16384)

/-- PRESS_JOB_START: engine `e` starts a job for the queue that is due, priming where the queue is not that of its last
job (08 R222). -/
def pressJobStart (t e : Nat) (s : State) : State :=
  if e < 32 ∧ flag s F.PRS_CTRL_ENABLE ∧ (press s e).job.isNone then
    match pressPick s e with
    | some k =>
      let prime := decide ((press s e).last ≠ some k)
      let s := setPress s e ⟨some (k, t, prime), some k⟩
      let s := wr (wr s (F.PJ_STATUS_STATE e) (if prime then 3 else 1)) (F.PJ_STATUS_QUEUE e) k
      if prime then bump s A.PRS_PRIMES else s
    | none => s
  else s

/-- PRESS_JOB_START (08 R222). -/
def execPressJobStart (t e : Nat) (s : State) : Host.Outcome State Fault Refusal := .next (pressJobStart t e (at' t s))

/-- PRESS_PRIME_DONE: priming completes, 640 ns after its start for a full window (08 R222). -/
def pressPrimeDone (t e : Nat) (s : State) : State :=
  match (press s e).job with
  | some (k, start, true) =>
    if start + (if (queue s k).window.length = 32768 then nsec 640 else 0) ≤ t then
      wr (setPress s e { press s e with job := some (k, t, false) }) (F.PJ_STATUS_STATE e) 1
    else s
  | _ => s

/-- PRESS_PRIME_DONE (08 R222). -/
def execPressPrimeDone (t e : Nat) (s : State) : Host.Outcome State Fault Refusal := .next (pressPrimeDone t e (at' t s))

/-! ## Blocks (08 R220) -/

/-- The input of a queue's next block from its items: its words, up to `room` and up to a FRAME_END, whether it ends there, and
whether it holds the start of a FRAME_HEAD. Under WIN_RESET (`cut`) a block also ends before the FRAME_HEAD of a later frame,
which begins its own block (08 R220, R221; log entry 31); `more` is true behind the first record. -/
def blockInput (cut more : Bool) : List QItem → Nat → Nat → List Word × Bool × Bool
  | .data r :: l, used, room =>
    if cut && more && r.head then ([], true, false)
    else
      let ws := (r.words.drop used).take room
      let head := r.head && decide (used = 0)
      if used + ws.length < r.words.length then (ws, false, head)
      else if r.last then (ws, true, head)
      else
        let (rest, last, h) := blockInput cut true l 0 (room - ws.length)
        (ws ++ rest, last, head || (h && !rest.isEmpty))
  | _, _, _ => ([], false, false)

/-- The input of a queue's next block (08 R220). -/
def nextInput (s : State) (k : Nat) : List Word × Bool × Bool :=
  blockInput (flag s (F.Q_CFG_WIN_RESET k)) false (queue s k).items (queue s k).used 16384

/-- The records that end within the next `n` words of a queue's items. -/
def recsIn : List QItem → Nat → Nat → Nat
  | .data r :: l, used, n => if used + n < r.words.length then 0 else 1 + recsIn l 0 (n - (r.words.length - used))
  | _, _, _ => 0

/-- The items of a queue without its first `n` words, and the words of the first record that are consumed. -/
def dropInput : List QItem → Nat → Nat → List QItem × Nat
  | .data r :: l, used, n =>
    if used + n < r.words.length then (.data r :: l, used + n) else dropInput l 0 (n - (r.words.length - used))
  | l, used, _ => (l, used)

/-- The bytes of a list of words, little-endian. -/
def streamBytes (l : List Word) : List Byte := l.flatMap fun w => [wbyte w 0, wbyte w 1, wbyte w 2, wbyte w 3]

/-- The first record of the next block begins a frame whose block may refer to nothing before it (08 R221). -/
def windowReset (s : State) (k : Nat) : Bool :=
  let q := queue s k
  flag s (F.Q_CFG_WIN_RESET k) && decide (q.used = 0) &&
    match q.items with
    | .data r :: _ => r.head
    | _ => false

/-- The bytes that the next block of a queue may refer to (08 R219, R221). -/
def blockWindow (s : State) (k : Nat) : List Byte := if windowReset s k then [] else (queue s k).window

/-- A block ends: its input leaves the queue but for the window, its output goes to segments (08 R219, R220). -/
def releaseBlock (s : State) (k : Nat) (n : Nat) (out : List Byte) (stored : Bool) : State :=
  let before := poolFree s
  let q := queue s k
  let (ws, _, head) := blockInput false false q.items q.used n
  let win := blockWindow s k ++ streamBytes ws
  let (items, used) := dropInput q.items q.used n
  let q' : Queue := { q with items := items, used := used, window := win.drop (win.length - 32768), halt := none,
                             restart := false, fresh := false,
                             out := q.out ++ [.block out 0 q.restart stored head (q.inN - q.unsent) (recsIn q.items q.used n)] }
  let s := settleQueue (setQueue s k q'.trim) k
  let s := bump s A.PRS_BLOCKS
  let s := bumpBy { s with stq := { s.stq with inRest := (s.stq.inRest + 4 * n) % 1024 } } A.PRS_IN_KIB
    ((s.stq.inRest + 4 * n) / 1024)
  drainAll (poolWatch before k s)

/-- The most of `n` further blocks that a queue can take. -/
def canTakeUpTo (s : State) (k n : Nat) : Nat := ((List.range (n + 1)).filter fun m => canTake s k m).foldl max 0

/-- A job ends on its engine (08 R222). -/
def endJob (s : State) (e n : Nat) : State :=
  let s := wr (setPress s e { press s e with job := none }) (F.PJ_STATUS_STATE e) 0
  monSample s 0x040 e n

/-- Output of a block is placed; the block ends, or halts where the queue can take no further block (08 R224). The input that a
halted engine has consumed is known once the block is compressed, and is else a free value (log entry 31). -/
def placeOutput (s : State) (k e : Nat) (h : Halt) : State :=
  let q := queue s k
  let left := h.need - h.placed
  let spare := (4096 - q.outN % 4096) % 4096
  let need := begun (q.outN + left) - begun q.outN
  let m := canTakeUpTo s k need
  let n := 4 * h.input.length
  if m = need then
    let before := poolFree s
    let s := poolWatch before k (touchPool (setQueue s k { q with outN := q.outN + left }))
    let s := releaseBlock s k h.input.length h.out h.stored
    if jobOf s k = some e then
      endJob (if h.coded then s else setReg (setReg s (A.PJ_CONSUMED e) (word n)) (A.PJ_PRODUCED e) (word h.out.length)) e n
    else s
  else
    let fit := min left (spare + 4096 * m)
    let s := touchPool (setQueue s k { q with outN := q.outN + fit, halt := some { h with placed := h.placed + fit } })
    let (f, s) := if h.stored then (n, s) else takeFree s 17
    let s := setReg s (A.PJ_CONSUMED e) (word (f % (n + 1)))
    let s := if h.stored && h.coded then s else setReg s (A.PJ_PRODUCED e) (word (h.placed + fit))
    let s := setPress s e { press s e with job := some (k, s.now, false) }
    let s := wr (wr s (F.PJ_STATUS_STATE e) 2) (F.PJ_STATUS_QUEUE e) k
    bump (raise s F.PRS_EVT_RAW_HALT) A.PRS_HALTS

/-- The block of a queue may end now: 65,536 bytes, a FRAME_END, or the flush of what the queue holds (08 R220). -/
def blockEnds (s : State) (k t : Nat) : Bool :=
  let q := queue s k
  let (ws, last, _) := nextInput s k
  !ws.isEmpty &&
    (last || decide (ws.length = 16384) ||
      match q.items with
      | .data r :: _ => decide (r.at' + nsec (reg s A.PRS_FLUSH_NS).toNat ≤ t)
      | _ => false)

/-- Bytes of stored blocks' headers for `n` bytes of input (08 R223). -/
def storedHeaders (n : Nat) : Nat := if n = 65536 then 10 else 5

/-- A block goes as stored blocks: its headers alone are output bytes (08 R223, R225). -/
def placeStored (s : State) (k e : Nat) (ws : List Word) (coded : Bool) : State :=
  placeOutput s k e ⟨ws, storedBlocks (streamBytes ws), storedHeaders (4 * ws.length), 0, true, coded⟩

/-- A block that an engine has compressed to `bytes`: EXPAND where they are too many (08 R223). -/
def endCompressed (s : State) (k e : Nat) (bytes : List Byte) : State :=
  let (ws, _, _) := nextInput s k
  let n := 4 * ws.length
  let s := setReg s (A.PJ_CONSUMED e) (word n)
  let s := setReg s (A.PJ_PRODUCED e) (word bytes.length)
  if n * (reg s A.PRS_EXPAND_LIMIT).toNat ≤ bytes.length * 256 then
    let s := wr (bump (raise s F.PRS_EVT_RAW_EXPAND) A.PRS_EXPANDED) (F.PJ_STATUS_EXPAND_LAST e) 1
    placeStored s k e ws true
  else placeOutput (wr s (F.PJ_STATUS_EXPAND_LAST e) 0) k e ⟨ws, bytes, bytes.length, 0, false, true⟩

/-- The words of its next block that an engine has consumed by an instant, at 1.6 GB/s, 640 LSB a word, from the start of the job
and from the entry of each record (08 R220, R222): from items, the words used of the first, the words wanted. -/
def consumedBy : List QItem → Nat → Nat → Nat → Nat → Nat
  | .data r :: l, used, want, start, t =>
    let start := max start r.at'
    let w := min want (r.words.length - used)
    let n := min w ((t - start) / 640)
    if n < w ∨ want = w then n else n + consumedBy l 0 (want - w) (start + 640 * w) t
  | _, _, _, _, _ => 0

/-- The input that a job has consumed by now, in words (08 R222). -/
def consumedWords (s : State) (k start : Nat) (priming : Bool) : Nat :=
  if priming then 0 else consumedBy (queue s k).items (queue s k).used (nextInput s k).1.length start s.now

/-- PRESS_BLOCK_END: the block of queue `k` ends. With the Press enabled `bytes` is the engine's output for it, which must
decode to its input, by codes that fit the counts of the block before; which matches the hash chain finds is the engine's
(08 R219, R220, R223; log entry 31). With the Press disabled the block is stored (R225). -/
def pressBlockEnd (t k : Nat) (bytes : List Byte) (s : State) : State :=
  let q := queue s k
  let (ws, _, _) := nextInput s k
  if !q.pressing ∨ q.halt.isSome ∨ !(blockEnds s k t) then s
  else if flag s F.PRS_CTRL_ENABLE then
    match jobOf s k with
    | some e =>
      match (press s e).job with
      | some (_, start, false) =>
        let dyn := flag s (F.Q_CFG_BTYPE k) && !q.restart && !q.fresh && !(windowReset s k)
        match inflate dyn q.codes (blockWindow s k) bytes with
        | some (out, lits, dists) =>
          if consumedWords s k start false = ws.length ∧ out = streamBytes ws then
            endCompressed (setQueue s k { q with codes := some (lits, dists) }) k e bytes
          else s
        | none => s
      | _ => s
    | none => s
  else if (press s (boundEng s k)).job.isSome then s
  else placeStored (setQueue s k { q with codes := none }) k (boundEng s k) ws false

/-- PRESS_BLOCK_END (08 R220). -/
def execPressBlockEnd (t k : Nat) (bytes : List Byte) (s : State) : Host.Outcome State Fault Refusal :=
  .next (pressBlockEnd t k bytes (at' t s))

/-! ## Halts (08 R224) -/

/-- The queue whose block is halted on engine `e`. -/
def haltedOn (s : State) (e : Nat) : Option (Nat × Halt) :=
  match (press s e).job with
  | some (k, _, _) =>
    match (queue s k).halt with
    | some h => some (k, h)
    | none => none
  | none => none

/-- A halted job resumes (08 R224). -/
def resumeJob (s : State) (k e : Nat) (h : Halt) : State :=
  let s := raise (wr s (F.PJ_STATUS_STATE e) 1) F.PRS_EVT_RAW_RESUMED
  placeOutput (setQueue s k { queue s k with halt := none }) k e h

/-- RESUMED: with MANUAL 0 a halted job resumes once a block is available (08 R224). -/
def resumed (e : Nat) (s : State) : State :=
  match haltedOn s e with
  | some (k, h) => if !(flag s F.PRS_CTRL_MANUAL) ∧ canTake s k 1 then resumeJob s k e h else s
  | none => s

/-- RESUMED (08 R224). -/
def execResumed (t e : Nat) (s : State) : Host.Outcome State Fault Refusal := .next (resumed e (at' t s))

/-! ## The page -/

/-- The engine whose PJ_CTRL stands at an address of the PRS page. -/
def pjCtrl (a : Nat) : Option Nat :=
  if 0x51100 ≤ a ∧ a < 0x51300 ∧ a % 16 = 12 then some ((a - 0x51100) / 16) else none

/-- The checks of a write to the PRS page: RESUME of an engine that is not HALTED under MANUAL (08 R224). -/
def prsCheck (a : Nat) (d : Word) (s : State) : Nat :=
  match pjCtrl a with
  | some e => if bit d 0 ∧ !(flag s F.PRS_CTRL_MANUAL ∧ (haltedOn s e).isSome) then 0x04 else 0
  | none => 0

/-- The engines let go of jobs that are not halted: the Press is disabled (08 R225). -/
def dropJobs (s : State) : State :=
  (List.range 32).foldl (fun s e =>
    if (press s e).job.isSome ∧ (haltedOn s e).isNone then
      wr (setPress s e { press s e with job := none }) (F.PJ_STATUS_STATE e) 0
    else s) s

/-- What an accepted write of the PRS page does beside storing it. -/
def prsAct (a : Nat) (d : Word) (s : State) : State :=
  match pjCtrl a with
  | some e =>
    match haltedOn s e with
    | some (k, h) => if bit d 0 then resumeJob s k e h else s
    | none => s
  | none => if a = A.PRS_CTRL ∧ !(flag s F.PRS_CTRL_ENABLE) then dropJobs s else s

/-- PJ_CONSUMED as it reads: of the block in progress while a job runs, else of the last (08 R230). -/
def pjConsumed (s : State) (e : Nat) : Word :=
  match (press s e).job with
  | some (k, start, p) => if (queue s k).halt.isSome then reg s (A.PJ_CONSUMED e) else word (4 * consumedWords s k start p)
  | none => reg s (A.PJ_CONSUMED e)

/-- PJ_PRODUCED as it reads: while a job runs, a free value once input is consumed (08 R230, log entry 31). -/
def pjProduced (s : State) (e : Nat) : Word × State :=
  match (press s e).job with
  | some (k, start, p) =>
    if (queue s k).halt.isSome then (reg s (A.PJ_PRODUCED e), s)
    else if consumedWords s k start p = 0 then (0#32, s)
    else
      let (f, s) := takeFree s 18
      (word f, s)
  | none => (reg s (A.PJ_PRODUCED e), s)

/-- A job is abandoned: its input goes as stored blocks that begin a new stream (08 R225). -/
def abandonJob (s : State) (e : Nat) : State :=
  match (press s e).job with
  | none => s
  | some (k, start, priming) =>
    let q := queue s k
    let n :=
      match q.halt with
      | some h => h.input.length
      | none => consumedWords s k start priming
    let placed :=
      match q.halt with
      | some h => h.placed
      | none => 0
    let ws := (blockInput false false q.items q.used n).1
    let s := wr (setPress s e { press s e with job := none }) (F.PJ_STATUS_STATE e) 0
    let s := setQueue s k { q with halt := none, outN := q.outN - placed, restart := true, fresh := true, window := [], codes := none }
    if ws.isEmpty then s else placeStored s k e ws false

/-- PRS.CTRL.SOFT_RESET: every job in progress is abandoned (08 R225). -/
def prsReset (s : State) : State :=
  let s := (List.range 32).foldl abandonJob s
  { s with stq := { s.stq with inRest := 0, outRest := 0, engs := s.stq.engs.filter fun p => p.2.job.isSome } }

/-- ENG_BUSY (08 R230). -/
def engBusy (s : State) : Word := word (maskOf ((List.range 32).filter fun e => (press s e).job.isSome))

/-- ENG_HALTED (08 R230). -/
def engHalted (s : State) : Word := word (maskOf ((List.range 32).filter fun e => (haltedOn s e).isSome))

/-- PRS.STATUS (08 R230). -/
def prsStatus (s : State) : Word :=
  word (b2n (decide (engHalted s ≠ 0#32)) * 2 + b2n (flag s F.PRS_CTRL_ENABLE))

/-- The records that a queue holds: stored, waiting, and in compressed blocks not sent whole. -/
def Queue.records (q : Queue) : Nat :=
  let coded := (q.out.map fun
    | .block _ _ _ _ _ _ recs => recs
    | _ => 0).sum
  (q.items.filter fun
    | .data _ => true
    | _ => false).length + q.wait.length + coded

/-- A queue after STQ.CTRL.SOFT_RESET: its records are discarded, those of blocks not sent whole among them, and its blocks
returned; changes that wait stay, and a compressed stream begins anew. An enabled queue (`on`) carries GAP on its next segment
(08 R229). -/
def resetQueue (on : Bool) (q : Queue) : Queue :=
  let isData : QItem → Bool := fun
    | .data _ => true
    | _ => false
  let moves := q.out.filterMap fun
    | .move w => some (QItem.move w)
    | _ => none
  { q with wait := [], items := moves ++ q.items.filter fun i => !(isData i), used := 0, out := [], restart := q.pressing,
           fresh := q.pressing, window := [], inN := 0, gone := 0, outN := 0, outGone := 0, codes := none, gap := q.gap + q.records,
           gapDue := q.gapDue || on, halt := none }

/-- STQ.CTRL.SOFT_RESET (08 R229). -/
def stqReset (s : State) : State :=
  let ks := queueKeys s
  let s := (List.range 32).foldl (fun s e =>
    if (press s e).job.isSome then wr (setPress s e { press s e with job := none }) (F.PJ_STATUS_STATE e) 0 else s) s
  ks.foldl (fun s k => settleQueue (setQueue s k (resetQueue (qEnabled s k) (queue s k))) k) s

end Sys2Proof.Machine
end

