-- ==== Sys2Proof/Machine/VidSrc.lean ====
section
/-!
DEFINITION. The preview's source buffers in the DISPLAY partition (chapter 15, R389 to R391).
-/

namespace Sys2Proof.Machine

/-- The display is on: VID.CTRL.ENABLE in force, with its clock domain running. -/
def vidOn (s : State) : Bool := flag s F.VID_CTRL_ENABLE && awake s && domRunning s .vid 0

/-- A decimation of a code (15 R389). -/
def decOf (c : Nat) : Nat := 2 ^ c

/-- BUFFERS in force: 2 or 3. -/
def srcBuffers (s : State) : Nat := rd s F.VID_SRC_CFG_BUFFERS

/-- The width and height of the source image in force (15 R389). -/
def srcSize (s : State) : Nat × Nat :=
  ((rd s F.VID_SRC_COLS_COL_LAST - rd s F.VID_SRC_COLS_COL_FIRST) / decOf (rd s F.VID_SRC_CFG_DEC_X) + 1,
   (rd s F.VID_SRC_ROWS_ROW_LAST - rd s F.VID_SRC_ROWS_ROW_FIRST) / decOf (rd s F.VID_SRC_CFG_DEC_Y) + 1)

/-- P: the bytes of a plane, up to a multiple of 4 KiB (15 R390). -/
def planeBytes (w h : Nat) : Nat := (2 * w * h + 4095) / 4096 * 4096

/-- A frame's buffer is changed. -/
def onBuf (s : State) (frame : Nat) (f : VidBuf → VidBuf) : State :=
  { s with vid := { s.vid with bufs := s.vid.bufs.map fun x => if x.frame = frame then f x else x } }

/-- The buffer that the writer takes: of 3 one that is neither shown nor the latest complete, of 2 one that is not shown,
one that is not the latest before one that is; none while the only one left is being written (15 R391; log entry 37). -/
def pickBuffer (s : State) : Option Nat :=
  let latest := s.vid.latest.map (·.1)
  let busy := s.vid.bufs.filterMap (·.idx)
  let free := (List.range (srcBuffers s)).filter fun i => decide (s.vid.shown.map (·.1) ≠ some i)
  let new := free.filter fun i => decide (latest ≠ some i)
  let l := if srcBuffers s = 2 ∧ new = [] then free else new
  l.find? fun i => !(busy.contains i)

/-- The latest complete buffer shows in STATUS. -/
def setLatest (s : State) (x : Option (Nat × Nat)) : State :=
  wr { s with vid := { s.vid with latest := x } } F.VID_STATUS_LATEST ((x.map (·.1)).getD 0)

/-- A 16-bit value stored little-endian. -/
def setMemHalf (m : List Host.Cell) (a v : Nat) : List Host.Cell :=
  pset 0#8 (pset 0#8 m a (BitVec.ofNat 8 v)) (a + 1) (BitVec.ofNat 8 (v / 256))

/-- A source pixel's values are written to the planes of a buffer (15 R390). -/
def putPixel (m : List Host.Cell) (b : VidBuf) (k p1 p2 : Nat) : List Host.Cell :=
  let a := b.base + 0x1000 + 2 * k
  setMemHalf (setMemHalf m a p1) (a + planeBytes b.ws b.hs) p2

/-- A waiting frame takes a buffer where there is one: COMPLETE is cleared, and a latest frame not yet shown is lost
(15 R391). -/
def giveBuffer (s : State) (frame : Nat) : State :=
  match s.vid.bufs.find? (fun b => b.frame = frame && b.idx.isNone), pickBuffer s with
  | some b, some i =>
    let s := if s.vid.latest.map (·.1) = some i then
        setLatest (raise (bump s A.VID_C_SRC_DROP) F.VID_EVT_RAW_SRC_DROP) s.vid.shown
      else s
    let b := { b with idx := some i, base := (reg s A.VID_SRC_BASE).toNat + i * (0x1000 + 2 * planeBytes b.ws b.hs) }
    let m := setMemWord s.sram (b.base + 8) (setFld (memWord s.sram (b.base + 8)) 31 1 0)
    onBuf { s with sram := b.early.foldl (fun m p => putPixel m b p.1 p.2.1 p.2.2) m } frame fun _ => { b with early := [] }
  | _, _ => s

/-- A buffer is taken for frame `num` at its boundary (15 R391). -/
def takeBuffer (s : State) (num : Nat) (provisional : Bool) : State :=
  if vidOn s then
    let (w, h) := srcSize s
    let b : VidBuf := ⟨none, 0, rd s F.VID_SRC_ROWS_ROW_FIRST, rd s F.VID_SRC_COLS_COL_FIRST, decOf (rd s F.VID_SRC_CFG_DEC_Y),
      decOf (rd s F.VID_SRC_CFG_DEC_X), w, h, rd s F.ACQ_IMAGE_CFG_DSCALE, num, provisional, [], []⟩
    giveBuffer { s with vid := { s.vid with bufs := s.vid.bufs ++ [b] } } num
  else s

/-- A pixel closes: its source pixel is written where it has one (15 R389, R391). -/
def vidPixel (s : State) (frame row col p1 p2 : Nat) : State :=
  match s.vid.bufs.find? (fun b => b.frame = frame) with
  | some b =>
    let y := row - b.row
    let x := col - b.col
    if b.row ≤ row ∧ b.col ≤ col ∧ y % b.dy = 0 ∧ x % b.dx = 0 ∧ y / b.dy < b.hs ∧ x / b.dx < b.ws then
      let k := y / b.dy * b.ws + x / b.dx
      let s := onBuf s frame fun b => { b with wrote := k :: b.wrote }
      if b.idx.isNone then onBuf s frame fun b => { b with early := b.early ++ [(k, p1, p2)] }
      else { s with sram := putPixel s.sram b k p1 p2 }
    else s
  | none => s

/-- FRAME_END of a frame that has its buffer: pixels that have not closed are written 0, and the buffer is complete, or
discarded after a stop (15 R390, R391). -/
def bufferEnd (s : State) (b : VidBuf) (i : Nat) (stopped : Bool) : State :=
  let m := (List.range (b.ws * b.hs)).foldl (fun m k => if b.wrote.contains k then m else putPixel m b k 0 0) s.sram
  let m := memClear m (b.base + 0x10) (b.base + 0x1000)
  let m := setMemWord (setMemWord m b.base (word b.frame)) (b.base + 4) (word (b.frame / 2 ^ 32))
  let m := setMemWord m (b.base + 12) (word (b.hs * 2 ^ 16 + b.ws))
  let m := setMemWord m (b.base + 8) (word (b2n (!stopped) * 2 ^ 31 + b2n b.provisional * 2 ^ 30 + b.dscale))
  let s := { s with sram := m }
  if stopped then bump s A.VID_C_SRC_DISCARD else setLatest s (some (i, b.frame))

/-- FRAME_END: the frame's buffer is closed, and the next frame that waits takes one. A frame that still waits is lost
(15 R391; log entry 37). -/
def vidFrameEnd (s : State) (frame : Nat) (stopped : Bool) : State :=
  match s.vid.bufs.find? (fun b => b.frame = frame) with
  | none => s
  | some b =>
    let s := match b.idx with
      | some i => bufferEnd s b i stopped
      | none => if stopped then bump s A.VID_C_SRC_DISCARD else raise (bump s A.VID_C_SRC_DROP) F.VID_EVT_RAW_SRC_DROP
    let s := { s with vid := { s.vid with bufs := s.vid.bufs.filter fun x => x.frame ≠ frame } }
    match s.vid.bufs.find? (fun b => b.idx.isNone) with
    | some n => giveBuffer s n.frame
    | none => s

end Sys2Proof.Machine
end

