-- ==== Sys2Proof/Machine/Acq.lean ====
section
/-!
DEFINITION. Frames and streams: positions that are pending, records, FRAME_HEAD, the retention ring and its sequences
(chapter 07, R184 to R187 and R198 to R202).
-/

namespace Sys2Proof.Machine

/-! ## Streams and frames -/

/-- The acquisition block changed. -/
def onAcq (s : State) (f : Acq → Acq) : State := { s with acq := f s.acq }

/-- The records that a stream holds: stream 8 × region + product. -/
def stream (s : State) (i : Nat) : List Rec := pget [] s.acq.streams i

/-- The state with the records of a stream set. -/
def setStream (s : State) (i : Nat) (l : List Rec) : State := onAcq s fun a => { a with streams := pset [] a.streams i l }

/-- A record joins a stream. -/
def pushRec (s : State) (i : Nat) (r : Rec) : State := setStream s i (stream s i ++ [r])

/-- A tag word (07 R185). -/
def tagWord (typ flags len : Nat) : Word := word (typ * 2 ^ 24 + flags * 2 ^ 16 + len)

/-- One stream for each product enabled in each enabled region (07 R184). -/
def activeStreams (s : State) : List Nat :=
  (List.range 16).flatMap fun r =>
    if flag s (F.REG_CTRL_ENABLE r) then
      (List.range 5).filterMap fun p => if (rd s (F.REG_CTRL_PRODUCTS r)).testBit p then some (8 * r + p) else none
    else []

/-- A frame in flight, by number. -/
def frameOf (s : State) (num : Nat) : Option Frame := s.acq.frames.find? fun f => f.num = num

/-- A frame in flight changed. -/
def onFrame (s : State) (num : Nat) (g : Frame → Frame) : State :=
  onAcq s fun a => { a with frames := a.frames.map fun f => if f.num = num then g f else f }

/-- The ordinal of a column position of a frame: positions counted over frames, by facet and column. -/
def Frame.ord (f : Frame) (pos : Nat) : Nat := f.base + pos / 4096 * f.columns + pos % 4096

/-- Acquisition runs: ENABLE in force and the device in RUN (07 R207). -/
def acqRuns (s : State) : Bool := flag s F.ACQ_STATUS_RUNNING

/-- MASK_STOP has acted. -/
def acqStopped (s : State) : Bool := flag s F.ACQ_STATUS_STOPPED

/-! ## Pixels to come -/

/-- Pixels of a frame that have not closed: a run of channels at an interlace position over a run of columns. -/
structure Rect where
  lo  : Nat
  hi  : Nat
  il  : Nat
  col : Nat
  last : Nat

/-- The place of one pixel. -/
def PixelId.rect (p : PixelId) : Rect := ⟨p.chan, p.chan, p.il, p.col, p.col⟩

/-- The pixels of a frame that have started and not closed: on the paths, in the engines, in close. -/
def startedRects (s : State) (num : Nat) : List Rect :=
  (s.vat.paths.flatMap fun p => p.2.filterMap fun
    | .column x => if x.frame = num then some x.rect else none
    | _ => none)
  ++ (s.vat.pixels.filterMap fun p =>
    match p.2 with
    | some x => if x.id.frame = num then some x.id.rect else none
    | none => none)
  ++ s.vat.engines.flatMap fun e => e.2.closing.filterMap fun x => if x.pixel.id.frame = num then some x.pixel.id.rect else none

/-- The columns of a group's sweeps that have not started. -/
def runRects (s : State) (num g : Nat) (r : GroupRun) : List Rect :=
  r.sweeps.zipIdx.filterMap fun x =>
    let first := if x.2 = 0 then r.col + b2n r.cfg.isSome else 0
    let cfg := if x.2 = 0 then r.cfg.getD (groupCfg s x.1 g) else groupCfg s x.1 g
    if x.1.frame = num ∧ first < x.1.columns then
      some ⟨cfg.first, cfg.first + cfg.count - 1, x.1.il, first, x.1.columns - 1⟩
    else none

/-- The facets of a frame in progress that are still to be swept. -/
def facetRects (s : State) (f : Frame) : List Rect :=
  if f.over' ∨ isStare s then []
  else
    ((List.range f.il).filter fun k => s.esc.facet < k).flatMap fun k =>
      ((List.range 32).filter fun g => flag s (F.LG_CTRL_ENABLE g)).map fun g =>
        ⟨rd s (F.LG_CHAN_FIRST g), rd s (F.LG_CHAN_FIRST g) + rd s (F.LG_CHAN_COUNT_M1 g), k, 0, f.columns - 1⟩

/-- The pixels of a frame that are scheduled and have not closed. -/
def pendingRects (s : State) (f : Frame) : List Rect :=
  startedRects s f.num ++
    (if s.esc.active then s.esc.runs.flatMap (fun r => runRects s f.num r.1 r.2) ++ facetRects s f else [])

/-- The first position of a run of pixels. -/
def Rect.pos (x : Rect) : Nat := 4096 * x.il + x.col

/-- The least number of a list. -/
def least : List Nat → Option Nat
  | [] => none
  | a :: l =>
    match least l with
    | some b => some (min a b)
    | none => some a

/-- The first position of a frame at which a pixel has not closed; none where a SOFT_RESET ends the frame at once (07 R187). -/
def minPending (s : State) (f : Frame) : Option Nat := if f.atOnce then none else least ((pendingRects s f).map Rect.pos)

/-- Pixels to come lie in a rectangle of the image; `n` is the frame's interlace count. -/
def Rect.meets (x : Rect) (n rowLo rowHi colLo colHi : Nat) : Bool :=
  decide (x.col ≤ colHi) && decide (colLo ≤ x.last) && decide (x.il ≤ rowHi)
    && decide (max x.lo ((rowLo - x.il + n - 1) / n) ≤ min x.hi ((rowHi - x.il) / n))

/-! ## FRAME_HEAD (07 R186) -/

/-- FRAME_CFG_ACTIVE (04 R120): one interlace position in LINE and STARE. -/
def frameCfgActive (s : State) : Word :=
  let w := reg s A.ESC_FRAME_CFG
  if isRaster s then w else setFld w 12 2 0

/-- Genlock is held, or has not been measured: frames run in network time (01 R33, 07 R180). -/
def headRefMode (s : State) : Nat := if genlockHeld s then 1 else refMode s

/-- The FRAME_HEAD of frame `num` with its boundary at `t`, for a stream (07 R186). -/
def frameHead (s : State) (num t st : Nat) : List Word :=
  let r := st / 8
  let n := net16 s t
  let plan := flag s F.PLN_CTRL_ENABLE
  let cyc := if plan then planCycle s t else 0
  let flags := b2n (cold s) + b2n (degraded s) * 2 + b2n plan * 4 + b2n (decide (planState s = 4)) * 8
    + b2n (genlockHeld s) * 16 + b2n (decide (s.cal.stepAt = t) && decide (0 < t)) * 32
  [tagWord 1 flags 64, word num, word (num / 2 ^ 32), word (nSec n), word (nSec n / 2 ^ 32), word (nNs n),
   word (nFrac n * 2 ^ 16 + cyc / 2 ^ 32 % 2 ^ 16), word cyc,
   word (headRefMode s * 2 ^ 30 + rd s F.SCN_SCAN_MODE * 2 ^ 28 + rd s F.PAIR_ROLE_ROLE * 2 ^ 26 + r * 2 ^ 16 + 2 ^ (st % 8)),
   reg s A.ACQ_REF_ERR, frameCfgActive s, reg s A.PLN_UNIT_CODE, word (rd s F.ACQ_PERIOD_NS),
   word (rd s (F.REG_ROWS_ROW_LAST r) * 2 ^ 16 + rd s (F.REG_ROWS_ROW_FIRST r)),
   word (rd s (F.REG_COLS_COL_LAST r) * 2 ^ 16 + rd s (F.REG_COLS_COL_FIRST r)), 0#32]

/-- A record that is not of the ring. -/
def plainRec (typ frame pos now : Nat) (ws : List Word) : Rec := ⟨typ, frame, pos, ws, none, false, now, [], []⟩

/-! ## The retention ring (07 R198) -/

/-- The SRAM address of the RETAIN partition (01 R24). -/
def retainBase (s : State) : Nat := 0x6000000 - rd s F.GLB_POOL_SPLIT_RETAIN * 0x100000

/-- The ring: its SRAM address and its length in bytes. -/
def ringSpan (s : State) : Nat × Nat :=
  let b := rd s F.ACQ_RING_BASE
  let n := rd s F.ACQ_RING_BLOCKS
  let all := rd s F.GLB_POOL_SPLIT_RETAIN * 256
  (retainBase s + 4096 * b, 4096 * (if n = 0 then all - b else n))

/-- RET_STATE (07 R199): 0 OFF, 1 FILLING, 2 READY, 3 POST, 4 HOLDOFF, 5 FROZEN. -/
def retState (s : State) : Nat := rd s F.ACQ_STATUS_RET_STATE

/-- The ring takes records. -/
def ringOn (s : State) : Bool := decide (1 ≤ retState s) && decide (retState s ≤ 4)

/-- Bytes the ring holds. -/
def ringUsed (s : State) : Nat := (s.acq.ring.map (·.len)).sum

/-- A record of the ring waits for its queues. -/
def ringWaits (s : State) (off : Nat) : Bool := s.acq.streams.any fun p => p.2.any fun r => decide (r.ring = some off)

/-- A record of the ring belongs to a sequence and has not been delivered (07 R200). -/
def ringProtected (s : State) (e : RingEnt) : Bool :=
  ringWaits s e.off || s.acq.seqs.any fun q => !q.closed &&
    (if e.typ = 1 then decide (q.headed ≤ e.ord) && decide (e.ord ≤ q.last) else decide (q.done ≤ e.ord) && decide (e.ord ≤ q.last)
      && decide (q.first ≤ e.ord))

/-- The ring with room for `len` bytes, its oldest unprotected records overwritten; `none` where a protected record is in
the way (07 R198, R201). -/
def ringRoom (len : Nat) : Nat → State → Option State
  | 0, _ => none
  | n + 1, s =>
    if ringUsed s + len ≤ (ringSpan s).2 then some s
    else
      match s.acq.ring with
      | [] => none
      | e :: l =>
        if ringProtected s e then none
        else ringRoom len n (onAcq s fun a => { a with ring := l, since := if e.typ = 1 then a.since else max a.since (e.ord + 1) })

/-- Words stored in the ring from an offset on, wrapping at its end. -/
def ringWords (base len off : Nat) (m : List Host.Cell) (ws : List Word) : List Host.Cell :=
  (ws.zipIdx).foldl (fun m x => setMemWord m (base + (off + 4 * x.2) % len) x.1) m

/-- A record stored in the ring, where there is room. -/
def ringStore (s : State) (typ frame pos ord regs : Nat) (ws : List Word) : Option State :=
  match ringRoom (4 * ws.length) (s.acq.ring.length + 1) s with
  | none => none
  | some s =>
    let (base, len) := ringSpan s
    let off := s.acq.head
    let s := { s with sram := ringWords base len off s.sram ws }
    some (onAcq s fun a => { a with ring := a.ring ++ [⟨off, 4 * ws.length, typ, frame, pos, ord, regs⟩],
                                    head := (off + 4 * ws.length) % max 1 len })

/-- The words of a record of the ring. -/
def ringRead (s : State) (e : RingEnt) : List Word :=
  let (base, len) := ringSpan s
  (List.range (e.len / 4)).map fun i => memWord s.sram (base + (e.off + 4 * i) % max 1 len)

/-- The ring is emptied. -/
def ringDiscard (s : State) : State := onAcq s fun a => { a with ring := [], head := 0, since := a.ordNext }

/-! ## Positions captured (07 R199) -/

/-- The first position of a frame that is not captured: a pixel to come, or a context that waits for the ring. -/
def frameMissing (s : State) (f : Frame) : Option Nat :=
  let held := s.vat.engines.flatMap fun e => e.2.held.filterMap fun h =>
    if h.pixel.frame = f.num ∧ h.ring then some h.pixel.pos else none
  least ((minPending s f).toList ++ held)

/-- The ordinal of the first position that is not captured. -/
def capturedTo (s : State) : Nat :=
  (s.acq.frames.findSome? fun f => (frameMissing s f).map f.ord).getD s.acq.ordNext

/-- The regions whose P4 contexts go to the ring. -/
def retainRegions (s : State) : List Nat :=
  (List.range 16).filter fun r =>
    flag s (F.REG_CTRL_ENABLE r) && (rd s (F.REG_CTRL_PRODUCTS r)).testBit 4 && flag s (F.REG_CTRL_RETAIN r)

/-- A column position lies in a retained region. -/
def posRetained (s : State) (pos : Nat) : Bool :=
  (retainRegions s).any fun r => rdBit s (F.REG_CTRL_ENABLE r).addr (16 + pos / 4096)
    && decide (rd s (F.REG_COLS_COL_FIRST r) ≤ pos % 4096) && decide (pos % 4096 ≤ rd s (F.REG_COLS_COL_LAST r))

/-- The ordinals of the positions of retained regions from `lo` on and before `hi`, in the frames in flight. -/
def pendingOrds (s : State) (lo hi : Nat) : List Nat :=
  s.acq.frames.flatMap fun f => (List.range (f.il * f.columns)).filterMap fun i =>
    if lo ≤ f.base + i ∧ f.base + i < hi ∧ posRetained s (i / f.columns * 4096 + i % f.columns) then some (f.base + i) else none

/-- The positions that fill counts at an ordinal, rising: those whose records the ring holds since the last sequence, and those
before it whose contexts are still to come (07 R199, log entry 73). -/
def fillOrds (s : State) (ord : Nat) : List Nat :=
  let c := capturedTo s
  ((s.acq.ring.filter fun e => decide (e.typ ≠ 1) && decide (s.acq.since ≤ e.ord) && decide (e.ord < min c ord)).map (·.ord)).eraseDups
    ++ pendingOrds s (max s.acq.since c) ord

/-- Fill at a position (07 R199). -/
def fillAt (s : State) (ord : Nat) : Nat := (fillOrds s ord).length

/-- RET_STATE between sequences (07 R199). -/
def fillState (s : State) : Nat := if rd s F.ACQ_RET_PRE_PRE ≤ fillAt s (capturedTo s) then 2 else 1

/-! ## Sequences (07 R200, R201) -/

/-- A record joins the P4 streams of every retained region. -/
def pushSeq (s : State) (typ frame pos : Nat) (ws : List Word) : State :=
  (retainRegions s).foldl (fun s r => pushRec s (8 * r + 4) { plainRec typ frame pos s.now ws with seq := true }) s

/-- A record of the ring joins the P4 streams of its regions. -/
def pushRing (s : State) (e : RingEnt) : State :=
  (bitsOf e.regs 16).foldl (fun s r =>
    pushRec s (8 * r + 4) { plainRec e.typ e.frame e.pos s.now [] with seq := true, ring := some e.off }) s

/-- A sequence changed. -/
def onSeq (s : State) (num : Nat) (g : Seq → Seq) : State :=
  onAcq s fun a => { a with seqs := a.seqs.map fun q => if q.num = num then g q else q }

/-- The FRAME_HEADs of the ring that stand before ordinal `o` of a sequence: that of the frame it lies in. -/
def seqHeads (s : State) (q : Seq) (o : Nat) : List RingEnt :=
  let l := s.acq.ring.filter fun e => decide (e.typ = 1) && decide (e.ord ≤ o) && decide (q.headed ≤ e.ord)
  match l.getLast? with
  | some e => l.filter fun x => x.ord = e.ord
  | none => []

/-- What goes before the contexts of ordinal `o`: its FRAME_HEADs and its marks. -/
def feedFront (s : State) (num o : Nat) : State :=
  match s.acq.seqs.find? (fun q => q.num = num) with
  | none => s
  | some q =>
    let heads := seqHeads s q o
    let s := heads.foldl pushRing s
    let marks := q.marks.filter fun m => m.1 = o
    let s := marks.foldl (fun s m => pushSeq s 3 0 0 m.2) s
    onSeq s num fun q => { q with marks := q.marks.filter (fun m => m.1 ≠ o),
                                  headed := match heads with
                                    | e :: _ => e.ord + 1
                                    | [] => q.headed }

/-- SEQ_END (07 R201). -/
def seqEnd (q : Seq) : List Word :=
  [tagWord 5 (b2n (decide (q.trunc ≠ 0)) + b2n q.stopped * 2 + b2n (decide (q.lost ≠ 0)) * 4) 32, word q.num,
   word (q.done - q.first), word q.trunc, word q.lost, 0#32, 0#32, word q.lastPos]

/-- A sequence passes what is captured to its streams, in position order, and closes after its last position. -/
def feedSeq (num : Nat) : Nat → State → State
  | 0, s => s
  | n + 1, s =>
    match s.acq.seqs.find? (fun q => q.num = num) with
    | none => s
    | some q =>
      if q.closed then s
      else if q.last < q.done then
        let s := pushSeq s 5 q.frame 0xFFFFFF (seqEnd q)
        wr (onSeq s num fun q => { q with closed := true }) F.ACQ_STATUS_PASS_THROUGH 0
      else
        let s := feedFront s num q.done
        if q.done < capturedTo s then
          let ents := s.acq.ring.filter fun e => decide (e.typ ≠ 1) && decide (e.ord = q.done)
          let s := ents.foldl pushRing s
          let pos := (s.acq.frames.findSome? fun f =>
            if f.base ≤ q.done ∧ q.done < f.base + f.il * f.columns then
              some ((q.done - f.base) / f.columns * 4096 + (q.done - f.base) % f.columns) else none).or
            (ents.head?.map (·.pos))
          feedSeq num n (onSeq s num fun q => { q with done := q.done + 1, lastPos := pos.getD q.lastPos })
        else s

/-- Every open sequence passes on what is captured. -/
def feedAll (s : State) : State :=
  s.acq.seqs.foldl (fun s q => feedSeq q.num (q.last + 3 - q.done) s) s

/-- A sequence in progress ends at its last captured position with STOPPED (07 R202). -/
def seqStop (s : State) : State :=
  let c := capturedTo s
  let s := onAcq s fun a => { a with seqs := a.seqs.map fun q =>
    if q.closed ∨ q.last < c then q else { q with last := max q.first c - 1, stopped := true } }
  feedAll s

end Sys2Proof.Machine
end

