-- ==== Sys2Proof/Machine/Prod.lean ====
section
/-!
DEFINITION. The products of closed pixels: slices, tiles, mask tests, marks in the streams, and FRAME_END
(chapter 07, R187 to R197 and R203 to R205).
-/

namespace Sys2Proof.Machine

/-! ## Trigger events (07 R193, R194) -/

/-- A trigger event of source bit `b`: it waits for its position, or is ignored while acquisition does not run or is
stopped (07 R193, R194). -/
def trigEvent (s : State) (b instant : Nat) (forced : Bool) (mask : Option (Nat × Nat)) : State :=
  if !(rdBit s A.ACQ_TRIG_SRC b) then s
  else if !(acqRuns s) ∨ acqStopped s then
    raise (bump (onAcq s fun a => { a with trigNum := (a.trigNum + 1) % 2 ^ 32 }) A.ACQ_TRIG_IGNORED) F.ACQ_EVT_RAW_TRIG_IGNORED
  else
    let s := onAcq s fun a => { a with events := a.events ++ [⟨2 ^ b, instant, forced, mask⟩] }
    if forced then raise (bump s A.ACQ_TRIG_FORCED) F.ACQ_EVT_RAW_FORCED else s

/-! ## Pixels (07 R189, R190) -/

/-- The class, range and intensity of a point record's return; class 0 for none (06 R170). -/
def recClass (r : List Word) : Nat := fld (r.headD 0#32) 3 3
def recRange (r : List Word) : Nat := fld (r.headD 0#32) 8 24
def recInten (r : List Word) : Nat := fld (r.getD 1 0#32) 16 16

/-- The return that P1 shows (07 R190). -/
def imageReturn (sel : Nat) (recs : List (List Word)) : Option (List Word) :=
  let all := recs.filter fun r => recClass r ≠ 0
  let surf := recs.filter fun r => recClass r = 1
  match sel with
  | 0 => surf.head?
  | 1 => surf.getLast?
  | 2 => surf.foldl (fun b r =>
      match b with
      | none => some r
      | some x => if recInten x < recInten r then some r else some x) none
  | _ => all.head?

/-- The P1 and P2 values of a pixel (07 R190). -/
def imageValue (sel scale : Nat) (recs : List (List Word)) : Nat × Nat :=
  match imageReturn sel recs with
  | none => (0, 0)
  | some r =>
    let v := rndN (recRange r) (2 ^ scale)
    (if v = 0 then 1 else if 0xFFFE < v then 0xFFFF else v, recInten r)

/-! ## Slices (07 R189) -/

/-- Values of 16 bits as words, padded with zero. -/
def packHalves : List Nat → List Word
  | a :: b :: l => word (a % 2 ^ 16 + b % 2 ^ 16 * 2 ^ 16) :: packHalves l
  | [a] => [word (a % 2 ^ 16)]
  | [] => []

/-- A slice: its header and its items. -/
def sliceWords (typ frame pos count row : Nat) (items : List Word) : List Word :=
  [tagWord typ 0 (16 + 4 * items.length), word frame, word pos, word (row * 2 ^ 16 + count % 2 ^ 16)] ++ items

/-- The first image row of a list of pixels. -/
def firstRow (l : List PixOut) : Nat := (least (l.map (·.row))).getD 0

/-- The P0_SLICE of a position (07 R189). -/
def p0Slice (frame pos : Nat) (l : List PixOut) : List Word :=
  let recs := l.flatMap (·.recs)
  sliceWords 0x10 frame pos recs.length (firstRow l) recs.flatten

/-- The P1_SLICE or P2_SLICE of a position: one value for each pixel, rows rising (07 R189). -/
def imageSlice (p frame pos : Nat) (l : List PixOut) : List Word :=
  let l := orderBy (fun x y => decide (x.row ≤ y.row)) l
  sliceWords (0x10 + p) frame pos l.length (firstRow l) (packHalves (l.map fun x => if p = 1 then x.p1 else x.p2))

/-- The slice of a stream at a position joins it, where the region has pixels there. -/
def pushSlice (s : State) (frame pos : Nat) (l : List PixOut) (st : Nat) : State :=
  let p := st % 8
  let m := l.filter fun x => x.regs.any fun r => decide (r.1 = st / 8) && r.2.testBit p
  if m.isEmpty ∨ 2 < p then s
  else
    let ws := if p = 0 then p0Slice frame pos m else imageSlice p frame pos m
    let r := plainRec (0x10 + p) frame pos s.now ws
    pushRec s st (if p = 0 then { r with lat := m.map fun x => (x.chan / 2, x.closed) } else r)

/-! ## Marks (07 R197) -/

/-- A mark joins a stream before the first record of its position or a later one. -/
def insertMark (s : State) (st : Nat) (m : Mark) : State :=
  let l := stream s st
  let after (r : Rec) : Bool := !r.seq && decide (r.frame = m.frame) && decide (m.pos ≤ r.pos) && decide (r.typ ≠ 1) && decide (r.typ ≠ 3)
  setStream s st (l.takeWhile (fun r => !(after r)) ++ plainRec 3 m.frame m.pos s.now m.words :: l.dropWhile fun r => !(after r))

/-- A mark joins every active stream of its frame. -/
def placeMark (s : State) (f : Frame) (m : Mark) : State :=
  let s := f.streams.foldl (fun s st => insertMark s st m) s
  onAcq s fun a => { a with marks := a.marks.filter fun x => !(decide (x.frame = m.frame) && decide (x.pos = m.pos)) }

/-! ## Tiles (07 R191) -/

/-- A tile that has no pixel. -/
def TileAcc.none : TileAcc := ⟨0, 0, 0xFFFF, 0, 0, 0, 0, 0⟩

/-- A pixel joins its tile (07 R191). -/
def TileAcc.add (t : TileAcc) (p1 p2 : Nat) (recs : List (List Word)) : TileAcc :=
  let ok := decide (p1 ≠ 0) && decide (p1 ≠ 0xFFFF)
  let fl := (recs.headD []).getD 3 0#32
  { valid := t.valid + b2n ok, empty := t.empty + b2n (decide (p1 = 0)),
    dmin := if ok then min t.dmin p1 else t.dmin, dmax := if ok then max t.dmax p1 else t.dmax,
    dsum := t.dsum + (if ok then p1 else 0), isum := t.isum + (if ok then p2 else 0),
    flagged := t.flagged + b2n (bit fl 5 || bit fl 8 || bit fl 9 || bit fl 10),
    marked := t.marked + (recs.filter fun r => recClass r = 2 ∨ recClass r = 3).length }

/-- P3_TILE (07 R191). -/
def tileWords (frame key : Nat) (t : TileAcc) : List Word :=
  [tagWord 0x13 0 32, word frame, word key, word (t.valid * 2 ^ 16 + t.empty),
   if t.valid = 0 then 0xFFFF0000#32 else word (t.dmax * 2 ^ 16 + t.dmin), word t.dsum, word t.isum,
   word (t.flagged % 2 ^ 16 * 2 ^ 16 + t.marked % 2 ^ 16)]

/-- Pixels of a region's tile are still to close. -/
def tilePending (s : State) (f : Frame) (r row col : Nat) : Bool :=
  let lo := max (16 * row) (rd s (F.REG_ROWS_ROW_FIRST r) * f.il)
  let hi := min (16 * row + 15) (rd s (F.REG_ROWS_ROW_LAST r) * f.il + f.il - 1)
  let cLo := max (16 * col) (rd s (F.REG_COLS_COL_FIRST r))
  let cHi := min (16 * col + 15) (rd s (F.REG_COLS_COL_LAST r))
  (pendingRects s f).any fun x => rdBit s (F.REG_CTRL_ENABLE r).addr (16 + x.il) && x.meets f.il lo hi cLo cHi

/-- A closed pixel joins the tile of a region; a complete tile waits for its position (07 R191, R192). -/
def tilePixel (num pos : Nat) (x : PixOut) (col : Nat) (s : State) (r : Nat) : State :=
  match frameOf s num with
  | none => s
  | some f =>
    let row := x.row / 16
    let key := r * 2 ^ 32 + row * 2 ^ 16 + col / 16
    let t := ((pget none f.tiles key).getD TileAcc.none).add x.p1 x.p2 x.recs
    if tilePending s f r row (col / 16) then onFrame s num fun f => { f with tiles := pset none f.tiles key (some t) }
    else cmpTile (onFrame s num fun f => { f with tiles := pset none f.tiles key none,
                                                  ready := f.ready ++ [(pos, 8 * r + 3, tileWords num (key % 2 ^ 32) t)] })
        r num (key % 2 ^ 32) t.valid t.dsum

/-! ## Masks (07 R203 to R205) -/

/-- The entry of a mask tile in the bank in force (07 R203). -/
def maskEntry (s : State) (row col : Nat) : Word :=
  let base := (reg s (if flag s F.MSK_CFG_BANK then A.MSK_BANK1_BASE else A.MSK_BANK0_BASE)).toNat
  memWord s.sram (base + (row * rd s F.MSK_STRIDE + col) * 4)

/-- A P1 value violates the entry of its tile (07 R203). -/
def maskViolates (s : State) (e : Word) (p1 : Nat) : Bool :=
  if p1 = 0 then flag s F.MSK_CFG_EMPTY_VIOL
  else decide (p1 ≠ 0xFFFF) && (decide (p1 < fld e 0 16) || decide (fld e 16 16 < p1))

/-- MASK_STOP acts (07 R205; 04 R116). The auto timer runs on in FROZEN (07 R196). -/
def maskStop (s : State) (num : Nat) : State :=
  let s := onAcq s fun a => { a with auto' := a.auto'.or (if acqRuns s then some s.now else none) }
  let s := seqStop (lmpEdge (raise (wr s F.ACQ_STATUS_STOPPED 1) F.ACQ_EVT_RAW_STOPPED) 5 true)
  let s := wr s F.ACQ_STATUS_RET_STATE 5
  let s := onFrame s num fun f => { f with stopped := true }
  let s := onAcq s fun a => { a with frames := a.frames.map fun f => { f with over' := true } }
  stopScheduling (raise { s with esc := { s.esc with masked := true } } F.ESC_EVT_RAW_STOPPED)

/-- A frame violates at a position (07 R204, R205). -/
def maskViolation (s : State) (num pos : Nat) : State :=
  let s := onFrame s num fun f => { f with violated := true }
  let s := raise (bump s A.MSK_VIOL_FRAMES) F.MSK_EVT_RAW_VIOLATION
  let s := setReg (setWide s A.MSK_LAST_VIOL_FRAME_LO num) A.MSK_LAST_VIOL_POS (word pos)
  let s := trigEvent s 7 s.now false (some (num, pos))
  if flag s F.ACQ_ACQ_MODE_MASK_STOP ∧ !(acqStopped s) then maskStop s num else s

/-- A closed pixel joins its mask tile, which is judged with its last scheduled pixel (07 R203, R204). -/
def maskPixel (num pos row col p1 : Nat) (s : State) : State :=
  match frameOf s num with
  | none => s
  | some f =>
    if !(flag s F.MSK_CTRL_ENABLE) ∨ !(acqRuns s) then s
    else
      let e := maskEntry s (row / 4) (col / 4)
      let key := row / 4 * 2 ^ 16 + col / 4
      let n := pget 0 f.masks key + b2n (maskViolates s e p1)
      let lo := row / 4 * 4
      let cLo := col / 4 * 4
      if (pendingRects s f).any fun x => x.meets f.il lo (lo + 3) cLo (cLo + 3) then
        onFrame s num fun f => { f with masks := pset 0 f.masks key n }
      else
        let s := onFrame s num fun f => { f with masks := pset 0 f.masks key 0 }
        if fld e 16 16 < fld e 0 16 ∨ n < rd s F.MSK_CFG_TILE_PIX then s
        else
          let v := f.viol + 1
          let s := onFrame s num fun f => { f with viol := v }
          if rd s F.MSK_MIN_TILES ≤ v ∧ !f.violated then maskViolation s num pos else s

/-! ## FRAME_END (07 R187) -/

/-- The counts of a region. -/
def Frame.count (f : Frame) (r : Nat) : RegCount := pget ⟨0, 0, 0, 0⟩ f.counts r

/-- A region's counts changed. -/
def Frame.onCount (f : Frame) (r : Nat) (g : RegCount → RegCount) : Frame :=
  { f with counts := pset ⟨0, 0, 0, 0⟩ f.counts r (g (f.count r)) }

/-- FRAME_END of a stream (07 R187). -/
def frameEnd (f : Frame) (st : Nat) : List Word :=
  let c := f.count (st / 8)
  let flags := b2n f.takeover + b2n f.stopped * 2 + b2n (decide (st % 8 = 4) && decide (c.p4Drop ≠ 0)) * 4 + b2n f.short * 8
  [tagWord 2 flags 32, word f.num, word (f.num / 2 ^ 32), word c.pixels, word c.withheld, word c.noCtx, word c.p4Drop, word f.lastPos]

/-- Ended frames of which no record or context is held are forgotten, but for the last frame. -/
def pruneFrames (s : State) : State :=
  let final := s.acq.frames.getLast?.map fun f => f.num
  let keep (f : Frame) : Bool :=
    !f.ended || decide (final = some f.num) || s.acq.streams.any (fun p => p.2.any fun r => decide (r.frame = f.num)) || s.vat.engines.any fun e => e.2.held.any fun h => decide (h.pixel.frame = f.num)
  onAcq s fun a => { a with frames := a.frames.filter keep }

/-- A frame ends: its tiles that hold pixels, then FRAME_END in every stream (07 R187, R191, R204; 15 R391). -/
def endFrame (s : State) (f : Frame) : State :=
  let s := f.tiles.foldl (fun s x =>
    match x.2 with
    | some t => cmpTile (pushRec s (8 * (x.1 / 2 ^ 32) + 3) (plainRec 0x13 f.num f.lastPos s.now (tileWords f.num (x.1 % 2 ^ 32) t)))
        (x.1 / 2 ^ 32) f.num (x.1 % 2 ^ 32) t.valid t.dsum
    | none => s) s
  let s := f.streams.foldl (fun s st => pushRec s st (plainRec 2 f.num 0xFFFFFF s.now (frameEnd f st))) s
  let s := wr s F.MSK_TILES_LAST (min 0xFFFF f.viol)
  let s := if f.counts.any fun c => decide (c.2.p4Drop ≠ 0) then raise (bump s A.ACQ_P4_LOSS_FRAMES) F.ACQ_EVT_RAW_P4_LOSS else s
  let s := cmpEnd (vidFrameEnd s f.num f.stopped) f.num f.stopped
  pruneFrames (onFrame s f.num fun f => { f with ended := true, tiles := [], masks := [] })

/-! ## What is complete leaves -/

/-- The slices and tiles of a position join their streams. -/
def emitPos (s : State) (f : Frame) (pos : Nat) (l : List PixOut) : State :=
  let s := f.streams.foldl (fun s st => pushSlice s f.num pos l st) s
  let s := (f.ready.filter fun x => x.1 = pos).foldl (fun s x => pushRec s x.2.1 (plainRec 0x13 f.num pos s.now x.2.2)) s
  onFrame s f.num fun f => { f with slices := f.slices.filter (fun x => x.1 ≠ pos), ready := f.ready.filter fun x => x.1 ≠ pos }

/-- The marks and positions of a frame that are complete leave, in order; then, when no pixel is to come, FRAME_END. -/
def flushFrame (num : Nat) : Nat → State → State
  | 0, s => s
  | n + 1, s =>
    match frameOf s num with
    | none => s
    | some f =>
      if f.ended then s
      else
        let m := minPending s f
        let before (p : Nat) : Bool :=
          match m with
          | some q => decide (p < q)
          | none => true
        let pos := least ((f.slices.map (·.1)).filter before)
        let mark := least ((s.acq.marks.filter fun x => decide (x.frame = num) && !(m.any fun q => decide (q < x.pos))).map (·.pos))
        match mark, pos with
        | some p, some q =>
          if p ≤ q then
            match s.acq.marks.find? (fun x => decide (x.frame = num) && decide (x.pos = p)) with
            | some k => flushFrame num n (placeMark s f k)
            | none => s
          else flushFrame num n (emitPos s f q (pget [] f.slices q))
        | some p, none =>
          match s.acq.marks.find? (fun x => decide (x.frame = num) && decide (x.pos = p)) with
          | some k => flushFrame num n (placeMark s f k)
          | none => s
        | none, some q => flushFrame num n (emitPos s f q (pget [] f.slices q))
        | none, none =>
          if m.isNone ∧ (f.over' ∨ f.il ≤ f.sweeps.length) ∧ f.slices.isEmpty then endFrame s f else s

/-- The FRAME_HEADs of a frame join their streams: the first records of the frame (07 R186). -/
def pushHeads (s : State) (f : Frame) : State :=
  onFrame (f.heads.foldl (fun s h => pushRec s h.1 (plainRec 1 f.num 0 s.now h.2)) s) f.num fun f => { f with heads := [] }

/-- The complete records of the frames leave, oldest frame first, each frame after the end of the one before it. -/
def flushList : List Frame → State → State
  | [], s => s
  | f :: l, s =>
    let s := flushFrame f.num (f.slices.length + s.acq.marks.length + 2) (if f.heads.isEmpty then s else pushHeads s f)
    if (frameOf s f.num).any fun x => !x.ended then s else flushList l s

/-- Every frame's complete records leave, and sequences pass on what is captured. -/
def flushFrames (s : State) : State := feedAll (flushList s.acq.frames s)

/-- A pixel has closed with its records (07 R187, R189); one of a frame that a SOFT_RESET has ended gives none. -/
def pixelOut (s : State) (x : Closing) (recs : List (List Word)) : State :=
  let p := x.pixel
  let id := p.id
  match frameOf s id.frame with
  | none => s
  | some f =>
    if f.ended then s else
    let (p1, p2) := imageValue id.sel id.scale recs
    let row := id.chan * f.il + id.il
    let out : PixOut := ⟨id.chan, row, id.regs, recs, p1, p2, x.closed⟩
    let lost := p.scheduled - p.fired
    let s := onFrame s id.frame fun f =>
      let f := id.whole.foldl (fun (f : Frame) r => f.onCount r fun c => { c with withheld := c.withheld + lost }) f
      let f := id.regs.foldl (fun (f : Frame) r => f.onCount r.1 fun c =>
        { c with pixels := c.pixels + 1, noCtx := c.noCtx + b2n p.refused }) f
      { f with slices := pset [] f.slices id.pos (pget [] f.slices id.pos ++ [out]), short := f.short || decide (lost ≠ 0),
               lastPos := max f.lastPos id.pos }
    let s := (id.regs.filter fun r => r.2.testBit 3).foldl (fun s r => tilePixel id.frame id.pos out id.col s r.1) s
    let s := vidPixel s id.frame row id.col p1 p2
    flushFrames (maskPixel id.frame id.pos row id.col p1 s)

end Sys2Proof.Machine
end

