-- ==== Sys2Proof/Machine/Trig.lean ====
section
/-!
DEFINITION. Triggers and their positions, retention states, and records entering their queues
(chapter 07, R192 to R202).
-/

namespace Sys2Proof.Machine

/-! ## Trigger inputs (07 R193, R195, R196) -/

/-- The receiver of a trigger-bus line is ignored: during the line's own pulse and for 20 ns after it (07 R195). -/
def tbDeaf (s : State) (i t : Nat) : Bool := s.acq.tbBusy.any fun x => decide (x.1 = i) && decide (x.2.1 ≤ t) && decide (t < x.2.2)

/-- TRIGGER_INPUT_EDGE: an edge on TRIG_IN0, TRIG_IN1 (lines 0 and 1) or TB0 to TB3 (lines 2 to 5). -/
def triggerInputEdge (t line : Nat) (falling : Bool) (s : State) : State :=
  if !(sysOn s) ∨ s.clk.discard.contains 0 ∨ 6 ≤ line then s
  else if line < 2 then
    if rdBit s A.ACQ_TRIG_IN_CFG line = falling then trigEvent s line t false none else s
  else
    let i := line - 2
    if (rd s F.ACQ_TB_CFG_FALL).testBit i ≠ falling ∨ tbDeaf s i t then s
    else trigEvent s line ((t : Int) - signed 16 (rd s (F.ACQ_TB_DELAY i))).toNat false none

/-- TRIGGER_INPUT_EDGE (07 R193). -/
def execTriggerInputEdge (t line : Nat) (falling : Bool) (s : State) : Host.Outcome State Fault Refusal :=
  .next (triggerInputEdge t line falling (at' t s))

/-- The auto timer starts anew; it does not run in POST or HOLDOFF (07 R196). -/
def autoRestart (s : State) : State :=
  onAcq s fun a => { a with auto' := if retState s = 3 ∨ retState s = 4 ∨ !(acqRuns s) then none else some s.now }

/-- AUTO_TRIGGER: the auto timer expires (07 R196). -/
def autoTrigger (t : Nat) (s : State) : State :=
  match s.acq.auto' with
  | some t0 =>
    if rdBit s A.ACQ_TRIG_SRC 9 ∧ acqRuns s ∧ t0 + msec (rd s F.ACQ_AUTO_TIMEOUT) ≤ t then
      autoRestart (trigEvent s 9 t true none)
    else s
  | none => s

/-- AUTO_TRIGGER (07 R196). -/
def execAutoTrigger (t : Nat) (s : State) : Host.Outcome State Fault Refusal := .next (autoTrigger t (at' t s))

/-! ## Positions (07 R193) -/

/-- The enabled group with the lowest interleave position. -/
def refGroup (s : State) : Option Nat :=
  ((List.range 32).filter fun g => flag s (F.LG_CTRL_ENABLE g)).foldl (fun b g =>
    match b with
    | none => some g
    | some h => if rd s (F.LG_CTRL_POS g) < rd s (F.LG_CTRL_POS h) then some g else b) none

/-- The latest column of a sweep whose start lies at or before an instant. -/
def columnBefore (s : State) (w : Sweep) (g : GroupCfg) (t : Nat) : Option Nat :=
  (List.range w.columns).foldl (fun b c =>
    match columnStart s w g c with
    | some u => if u ≤ t then some c else b
    | none => b) none

/-- An instant lies past the columns of a sweep: after its last column start plus the dwell, or after its end. -/
def sweepPast (s : State) (w : Sweep) (g : GroupCfg) (t : Nat) : Bool :=
  (match columnStart s w g (w.columns - 1) with
   | some u => decide (u + g.s * g.period * 256 < t)
   | none => false) || w.next.any fun n => decide (n ≤ t)

/-- The next column position to start after sweep `i` of the frames' sweeps, where it is known. -/
def nextPosition (s : State) (l : List (Frame × Sweep)) (i : Nat) : Option (Nat × Nat) :=
  match l[i + 1]? with
  | some x => some (x.1.num, 4096 * x.2.il)
  | none =>
    match l[i]? with
    | some x =>
      if s.esc.active ∧ !x.1.over' ∧ !x.2.stare ∧ x.2.il + 1 < x.1.il then some (x.1.num, 4096 * (x.2.il + 1)) else none
    | none => none

/-- The column position of an instant: frame and POS; none while it has not begun (07 R193). -/
def positionAt (s : State) (t : Nat) : Option (Nat × Nat) :=
  match refGroup s with
  | none => none
  | some gi =>
    let l := s.acq.frames.flatMap fun f => f.sweeps.map fun w => (f, w)
    match (List.range l.length).reverse.find? (fun i => (l[i]?).any fun x => decide (x.2.origin ≤ t)) with
    | none => l.head?.map fun x => (x.1.num, 4096 * x.2.il)
    | some i =>
      match l[i]? with
      | none => none
      | some x =>
        let g := groupCfg s x.2 gi
        if sweepPast s x.2 g t then nextPosition s l i
        else some (x.1.num, 4096 * x.2.il + (columnBefore s x.2 g t).getD 0)

/-- The position of a trigger event. -/
def eventPosition (s : State) (e : TrigEvent) : Option (Nat × Nat) := e.mask.or (positionAt s e.at')

/-! ## Marks and sequences (07 R194, R197, R199) -/

/-- A column position of an ordinal, from the frames in flight or the ring. -/
def positionOf (s : State) (o : Nat) : Nat :=
  ((s.acq.frames.findSome? fun f =>
    if f.base ≤ o ∧ o < f.base + f.il * f.columns then some ((o - f.base) / f.columns * 4096 + (o - f.base) % f.columns) else none).or
    ((s.acq.ring.find? fun e => decide (e.typ ≠ 1) && decide (e.ord = o)).map (·.pos))).getD 0

/-- A trigger at ordinal `o` in a retention state: its mark's flags and PRE_COUNT, and the sequence it starts, with the marks and
losses of the positions already passed (07 R199, R200, R202). -/
def retainTrigger (s : State) (num frame pos o : Nat) : Nat × Nat × Bool × State :=
  if !(ringOn s) then (0, 0, true, s)
  else if o < s.acq.post then (4, 0, false, raise (bump s A.ACQ_TRIG_OVERLAP) F.ACQ_EVT_RAW_OVERLAP)
  else if o < s.acq.hold then (2, 0, false, raise (bump s A.ACQ_TRIG_IGNORED) F.ACQ_EVT_RAW_TRIG_IGNORED)
  else
    let pre := rd s F.ACQ_RET_PRE_PRE
    let post := rd s F.ACQ_RET_POST_POST
    let l := fillOrds s o
    let n := min pre l.length
    let short := decide (n < pre)
    let first := (l.drop (l.length - n)).headD o
    let lost := (s.acq.losses.filter fun x => decide (first ≤ x) && decide (x ≤ o + post)).length
    let marks := (s.acq.marked.filter fun m => decide (first ≤ m.1) && decide (m.1 ≤ o + post)).map fun m => (m.1, m.2.words)
    let q : Seq := ⟨num, frame, pos, pre, n, post, short, first, o, o + post, rd s F.ACQ_RET_HOLDOFF_HOLDOFF, first, pos, 0,
      false, lost, false, marks, 0⟩
    let s := if short then raise (bump s A.ACQ_PRE_SHORT) F.ACQ_EVT_RAW_PRE_SHORT else s
    let s := onAcq (wr s F.ACQ_STATUS_RET_STATE 3) fun a => { a with
      seqs := a.seqs ++ [q], since := o + post + 1, post := o + post + 1, hold := o + post + 1 + q.holdoff }
    let head := [tagWord 4 (b2n short * 8) 32, word num, word frame, word (frame / 2 ^ 32), word pos, word (n * 2 ^ 16 + pre), word post,
      word (positionOf s first)]
    (b2n short * 8, n, true, pushSeq s 4 0 0 head)

/-- The trigger-bus lines are driven for an accepted trigger (07 R195; not by a STANDBY, 19 R487). -/
def driveTb (s : State) (src : Nat) : State :=
  (List.range 4).foldl (fun s i =>
    if (rd s F.ACQ_TB_CFG_DRIVE).testBit i ∧ !(src.testBit (2 + i)) ∧ rd s F.PAIR_ROLE_ROLE ≠ 2 then
      onAcq s fun a => { a with tbBusy := (a.tbBusy.filter fun x => decide (s.now ≤ x.2.2)) ++
        [(i, s.now + nsec 30, s.now + nsec (30 + rd s F.ACQ_TB_CFG_PULSE_NS + 20))] }
    else s) s

/-- The MARK of a trigger (07 R197). -/
def markWords (flags num frame pos src pre : Nat) (off : Int) : List Word :=
  [tagWord 3 flags 32, word num, word frame, word (frame / 2 ^ 32), word pos, word (unsigned 30 (off / 256)),
   word ((off % 256).toNat * 2 ^ 24 + src), word pre]

/-- What is kept of marks and losses: for frames in flight, and for the pre part of a sequence to come. -/
def trimMarks (s : State) : State :=
  let lo := match s.acq.frames with
    | f :: _ => min f.base s.acq.since
    | [] => s.acq.ordNext
  let lo := if ringOn s then min lo s.acq.since else lo
  onAcq s fun a => { a with marked := a.marked.filter (fun m => decide (lo ≤ m.1)), losses := a.losses.filter fun x => decide (lo ≤ x) }

/-- A mark whose frame has ended joins its streams before the FRAME_END that they still hold (07 R197). -/
def lateMark (s : State) (num : Nat) (m : Mark) : State :=
  match frameOf s num with
  | some f => if f.ended then placeMark s f m else s
  | none => s

/-- A copy of a MARK goes to every UP bundle of MARK_EN; for one that is not UP it is counted (09 R260). -/
def sendMark (s : State) (ws : List Word) : State :=
  (List.range 32).foldl (fun s b =>
    if !(rdBit s A.WNB_MARK_EN b) then s
    else if bundleUp s b then queueFrame s b ⟨7, 0, 0, 32, ws⟩
    else bump s A.WNB_MARK_DROP) s

/-- A trigger at a position: it is numbered, retention acts, and its mark is made (07 R194 to R199). -/
def newTrigger (s : State) (f : Frame) (pos src instant : Nat) (forced merged : Bool) : State :=
  let num := (s.acq.trigNum + 1) % 2 ^ 32
  let s := onAcq s fun a => { a with trigNum := num }
  let o := f.ord pos
  let (fl, pre, ok, s) := retainTrigger s num f.num pos o
  let s := if ok then autoRestart (driveTb (raise s F.ACQ_EVT_RAW_TRIGGER) src) else s
  let flags := fl + b2n forced + b2n merged * 16 + b2n (cold s) * 32
  let ws := markWords flags num f.num pos src pre ((instant : Int) - f.at')
  let s := lmpEdge (bump s A.ACQ_TRIGGERS) 3 true
  let s := setReg (setWide s A.ACQ_LAST_TRIG_FRAME_LO f.num) A.ACQ_LAST_TRIG_POS (word pos)
  let s := setReg s A.ACQ_LAST_TRIG_SRC (word (flags * 2 ^ 16 + src))
  let m : Mark := ⟨f.num, pos, ws⟩
  let s := sendMark s ws
  flushFrames (lateMark (onAcq (trimMarks s) fun a => { a with
    marks := a.marks ++ [m], marked := a.marked ++ [(o, m)],
    seqs := a.seqs.map fun q => if !q.closed ∧ q.first ≤ o ∧ o ≤ q.last then { q with marks := q.marks ++ [(o, ws)] } else q }) f.num m)

/-- A further event joins a trigger already marked: its mark is changed where it still waits (07 R194). -/
def mergeMark (s : State) (num pos src : Nat) (forced : Bool) : State :=
  let change (ws : List Word) : List Word :=
    (ws.set 0 (ws.headD 0#32 ||| word ((16 + b2n forced) * 2 ^ 16))).set 6 (ws.getD 6 0#32 ||| word src)
  let isIt (ws : List Word) : Bool :=
    decide (fld (ws.headD 0#32) 24 8 = 3) && decide (ws.getD 2 0#32 = word num) && decide (ws.getD 4 0#32 = word pos)
  let s := if s.acq.marked.getLast?.any fun m => isIt m.2.words then
    setReg s A.ACQ_LAST_TRIG_SRC (reg s A.ACQ_LAST_TRIG_SRC ||| word ((16 + b2n forced) * 2 ^ 16 + src)) else s
  onAcq s fun a => { a with
    marked := a.marked.map fun m => if isIt m.2.words then (m.1, { m.2 with words := change m.2.words }) else m,
    marks := a.marks.map fun m => if isIt m.words then { m with words := change m.words } else m,
    seqs := a.seqs.map fun q => { q with marks := q.marks.map fun m => if isIt m.2 then (m.1, change m.2) else m },
    streams := a.streams.map fun p => (p.1, p.2.map fun r => if isIt r.words then { r with words := change r.words } else r) }

/-- A trigger has been marked at a position (07 R194). -/
def isMarked (s : State) (num pos : Nat) : Bool := s.acq.marked.any fun m => decide (m.2.frame = num) && decide (m.2.pos = pos)

/-- TRIGGER_RESOLVE: the events of the first resolved position become one trigger (07 R193, R194). -/
def triggerResolve (t : Nat) (s : State) : State :=
  let l := s.acq.events.filterMap fun e => if e.at' ≤ t then (eventPosition s e).map fun p => (e, p) else none
  match least (l.map fun x => x.2.1 * 2 ^ 24 + x.2.2) with
  | none => s
  | some key =>
    let m := l.filter fun x => x.2.1 * 2 ^ 24 + x.2.2 = key
    let num := key / 2 ^ 24
    let pos := key % 2 ^ 24
    let src := m.foldl (fun n x => n ||| x.1.src) 0
    let forced := m.any fun x => x.1.forced
    let s := onAcq s fun a => { a with events := a.events.filter fun e => !(m.any fun x => decide (x.1 = e)) }
    if isMarked s num pos then mergeMark (bumpBy s A.ACQ_TRIG_MERGED m.length) num pos src forced
    else
      match frameOf s num with
      | none => s
      | some f =>
        let s := bumpBy s A.ACQ_TRIG_MERGED (m.length - 1)
        newTrigger s f pos src ((least (m.map fun x => x.1.at')).getD t) forced (decide (1 < m.length))

/-- TRIGGER_RESOLVE (07 R197). -/
def execTriggerResolve (t : Nat) (s : State) : Host.Outcome State Fault Refusal := .next (triggerResolve t (at' t s))

/-! ## Retention states (07 R199) -/

/-- RETENTION_FILL_READY: fill reaches PRE. -/
def retentionFillReady (s : State) : State :=
  let s := flushFrames s
  if retState s = 1 ∧ fillState s = 2 then wr s F.ACQ_STATUS_RET_STATE 2 else s

/-- RETENTION_POST_END: the last post position is captured. -/
def retentionPostEnd (s : State) : State :=
  let s := flushFrames s
  if retState s = 3 ∧ s.acq.post ≤ capturedTo s then
    if s.acq.post < s.acq.hold then wr s F.ACQ_STATUS_RET_STATE 4 else autoRestart (wr s F.ACQ_STATUS_RET_STATE (fillState s))
  else s

/-- RETENTION_HOLDOFF_END: HOLDOFF positions have passed. -/
def retentionHoldoffEnd (s : State) : State :=
  if retState s = 4 ∧ s.acq.hold ≤ capturedTo s then autoRestart (wr s F.ACQ_STATUS_RET_STATE (fillState s)) else s

/-- A SEQ_END of sequence `num` has not entered its queues. -/
def seqEndWaits (s : State) (num : Nat) : Bool :=
  let isIt (ws : List Word) : Bool := decide (fld (ws.headD 0#32) 24 8 = 5) && decide (ws.getD 1 0#32 = word num)
  s.acq.streams.any (fun p => p.2.any fun r => isIt r.words) || s.stq.queues.any fun p => p.2.wait.any fun r => isIt r.words

/-- SEQ_DONE: a SEQ_END has been delivered (07 R200). -/
def seqDone (s : State) : State :=
  match s.acq.seqs.find? (fun q => q.closed && !(seqEndWaits s q.num)) with
  | some q => raise (onAcq s fun a => { a with seqs := a.seqs.filter fun x => x.num ≠ q.num }) F.ACQ_EVT_RAW_SEQ_DONE
  | none => s

/-- RETENTION_FILL_READY (07 R199). -/
def execRetentionFillReady (t : Nat) (s : State) : Host.Outcome State Fault Refusal := .next (retentionFillReady (at' t s))

/-- RETENTION_POST_END (07 R199). -/
def execRetentionPostEnd (t : Nat) (s : State) : Host.Outcome State Fault Refusal := .next (retentionPostEnd (at' t s))

/-- RETENTION_HOLDOFF_END (07 R199). -/
def execRetentionHoldoffEnd (t : Nat) (s : State) : Host.Outcome State Fault Refusal := .next (retentionHoldoffEnd (at' t s))

/-- SEQ_DONE (07 R200). -/
def execSeqDone (t : Nat) (s : State) : Host.Outcome State Fault Refusal := .next (seqDone (at' t s))

/-! ## Records enter their queues (07 R192, 08 R210, R213) -/

/-- A record as its queues hold it. -/
def Rec.queued (r : Rec) (ws : List Word) (t : Nat) : QRec :=
  ⟨ws, decide (r.typ = 1), decide (r.typ = 2), t, if r.seq then 0 else r.frame * 2 ^ 24 + r.pos⟩

/-- The words of a record; those of a record of the ring stand there. -/
def recWords (s : State) (r : Rec) : List Word :=
  match r.ring with
  | none => r.words
  | some off =>
    match s.acq.ring.find? (fun e => e.off = off) with
    | some e => ringRead s e
    | none => []

/-- A queue takes a P4 context now: it has room, or it discards (08 R213). -/
def takesCtx (s : State) (k key : Nat) (r : QRec) : Bool :=
  let q := queue s k
  (q.dropping || !(flag s F.STQ_CTRL_ENABLE) || roomNow s k r) && q.wait.all fun x => decide (key < x.key)

/-- A record other than a FRAME_HEAD is admitted by a queue now. -/
def admits (s : State) (k : Nat) (r : QRec) : Bool := flag s (F.Q_CFG_ENABLE k) && !(queue s k).dropping && roomNow s k r

/-- The head record of a stream is offered to its queues; SOURCE 0x021 takes a pixel whose record is in a queue (05 R151;
08 R210, R213; 19 R483). -/
def enqueueHead (s : State) (st t : Nat) (r : Rec) (rest : List Rec) : State :=
  let ks := if r.typ = 1 then headRoutes s (st % 8) (st / 8)
    else queueRoutes s (st % 8) (st / 8) (if wholeType r.typ then none else some r.pos)
  let q := r.queued (recWords s r) t
  if silent s (if r.seq then s.pair.bar else r.frame * 2 ^ 24 + r.pos) then setStream s st rest
  else if st % 8 ≠ 4 then
    let (s, ok) := ks.foldl (fun (x : State × Bool) k => (takeRec x.1 k q, x.2 || admits x.1 k q)) (setStream s st rest, false)
    if !ok then s else r.lat.foldl (fun s x => monSample s 0x021 x.1 ((t - x.2) / 256)) s
  else if r.typ = 0x14 then
    let ready := ks.filter fun k => !(r.taken.contains k) && takesCtx s k q.key q
    let s := ready.foldl (fun s k => takeRec s k q) s
    let taken := r.taken ++ ready
    if ks.all fun k => taken.contains k then setStream s st rest else setStream s st ({ r with taken := taken } :: rest)
  else ks.foldl (fun s k => offerWait s k q) (setStream s st rest)

/-- RECORD_ENQUEUE: the first record of a stream leaves its hold of 200 ns (07 R192). -/
def recordEnqueue (t st : Nat) (s : State) : State :=
  let s := flushFrames s
  match stream s st with
  | r :: rest => if r.at' + nsec 200 ≤ t then feedAll (enqueueHead s st t r rest) else s
  | [] => s

/-- RECORD_ENQUEUE (07 R192). -/
def execRecordEnqueue (t st : Nat) (s : State) : Host.Outcome State Fault Refusal := .next (recordEnqueue t st (at' t s))

end Sys2Proof.Machine
end

