-- ==== Sys2Proof/Machine/Close.lean ====
section
/-!
DEFINITION. The end of a pixel: its contexts close, its records are emitted, and its P4 contexts are held and read out to
queues or to the retention ring (chapter 05, R127 and R139 to R143; chapter 07, R198 to R202).
-/

namespace Sys2Proof.Machine

/-! ## Pixel end (05 R127, R139) -/

/-- A context of a pixel that ends goes to CLOSING, with SHORT_DWELL where shots were withheld (05 R127, R130). -/
def Ctx.closing (c : Ctx) : Ctx :=
  let c := c.put 0 30 2 2
  if c.get 4 16 9 < c.get 4 0 9 then c.put 0 1 1 1 else c

/-- A shot of a group up to `id` has no start yet (03 R87). -/
def startsDue (s : State) (g id : Nat) : Bool :=
  s.esc.shots.any fun x => decide (x.group = g) && decide (x.id ≤ id) && !x.dropped && x.found.isNone

/-- PIXEL_END_MARKER: the pixel's contexts go to CLOSING; zoom contexts that never opened are released (05 R127, R139). -/
def pixelEndMarker (c : Nat) (s : State) : State :=
  match path s c, pixel s c with
  | .pixelEnd after closed low :: r, some p =>
    if hitsDue s c after ∨ startsDue s p.id.group after ∨ p.phase = .search then s
    else
      let n := engOf c
      let open' := if p.phase = .zoom then p.zooms else []
      let s := setPixel (setPath s c r) c none
      let s := if p.phase = .zoom then s else p.zooms.foldl (fun s k => freeSlot s n k) s
      let todo := p.coarse.toList ++ open'
      let p := { p with zooms := open', provisional := p.provisional || decide (p.id.at' < low) }
      let e := todo.foldl (fun e k => e.onSlot k Ctx.closing) (engine s n)
      let s := setEngine s n { e with closing := e.closing ++ [⟨p, todo, [], closed, [], none, false, false⟩] }
      watchBacklog (if todo.isEmpty then s else sampleOpen s n) n
  | .pixelEnd _ _ _ :: r, none => setPath s c r
  | _, _ => s

/-- PIXEL_END_MARKER (05 R127). -/
def execPixelEndMarker (t c : Nat) (s : State) : Host.Outcome State Fault Refusal := .next (pixelEndMarker c (at' t s))

/-! ## Close (05 R139 to R142) -/

/-- The context is used for extraction (05 R136, R139). -/
def extracted (p : Pixel) (c : Ctx) : Bool :=
  decide (c.get 0 28 2 ≠ 0) || p.zooms.isEmpty || p.id.cfg.retCoarse

/-- The context is a candidate for P4 (07 R189). -/
def p4Candidate (p : Pixel) (c : Ctx) : Bool := if c.get 0 28 2 = 0 then p.id.cfg.p4Coarse else p.id.cfg.p4Zoom

/-- The regions that take a pixel's P4 contexts: directly, and by the ring. -/
def directRegs (p : PixelId) : List Nat := (p.regs.filter fun r => r.2.testBit 4 && !(r.2.testBit 5)).map (·.1)

/-- The retained regions of a pixel's P4 contexts. -/
def ringRegs (p : PixelId) : List Nat := (p.regs.filter fun r => r.2.testBit 4 && r.2.testBit 5).map (·.1)

/-- The open sequence that an ordinal lies in. -/
def seqAt (s : State) (o : Nat) : Option Seq :=
  s.acq.seqs.find? fun q => !q.closed && decide (q.first ≤ o) && decide (o ≤ q.last)

/-- A context selected for P4 is lost (05 R142, 07 R202). -/
def p4Drop (s : State) (p : PixelId) : State :=
  let s := raise (bump s A.VAT_P4_DROP) F.VAT_EVT_RAW_P4_DROP
  match frameOf s p.frame with
  | none => s
  | some f =>
    let s := onFrame s p.frame fun f => (directRegs p ++ ringRegs p).foldl (fun (f : Frame) r =>
      f.onCount r fun c => { c with p4Drop := c.p4Drop + 1 }) f
    if (ringRegs p).isEmpty then s
    else
      let s := onAcq s fun a => { a with losses := a.losses ++ [f.ord p.pos] }
      match seqAt s (f.ord p.pos) with
      | some q => onSeq s q.num fun q => { q with lost := q.lost + 1 }
      | none => s

/-- The frame of a pixel has not ended at once, and no truncated sequence keeps the ring from its position
(07 R187, R201). -/
def ringSelects (s : State) (p : PixelId) : Bool :=
  match frameOf s p.frame with
  | some f => ringOn s && decide (s.acq.cut ≤ f.ord p.pos)
  | none => false

/-- Close of a context is complete: it is held for P4, or freed (05 R127, R142; 07 R187, R201). -/
def afterClose (s : State) (n k : Nat) (p : Pixel) (c : Ctx) : State :=
  let ring := !(ringRegs p.id).isEmpty && ringSelects s p.id
  let wanted := p4Candidate p c && (!(directRegs p.id).isEmpty || ring) && !((frameOf s p.id.frame).any (·.atOnce))
  if !wanted then freeSlot s n k
  else if rd s F.VAT_HELD_MAX < (engine s n).heldBlocks + c.blocks.length then p4Drop (freeSlot s n k) p.id
  else
    let e := (engine s n).onSlot k fun c => c.put 0 30 2 3
    setEngine s n { e with held := e.held ++ [⟨k, p.id, s.now, [], ring⟩] }

/-- A pixel closes, refused or not: PIXELS and SHORT_DWELL (05 R149). -/
def countPixel (s : State) (p : Pixel) : State :=
  let s := bump s A.VAT_PIXELS
  if p.fired < p.scheduled then bump s A.VAT_SHORT_DWELL else s

/-- A pixel whose contexts are all closed leaves with its records (05 R139, R143; 06 R174). -/
def emitPixel (s : State) (n : Nat) (x : Closing) : State :=
  let s := countPixel s x.pixel
  let takeover := (frameOf s x.pixel.id.frame).any (·.takeover)
  let (recs, s) := if x.pixel.refused || !(flag s F.RET_CTRL_ENABLE) then refusedRecord s x.pixel x.sat takeover
                   else pixelRecords s x takeover
  let s := setEngine s n { engine s n with closing := (engine s n).closing.tail }
  pixelOut s x recs

/-- The pixel at the head of an engine's closing list is changed. -/
def setClosing (s : State) (n : Nat) (x : Closing) : State :=
  setEngine s n { engine s n with closing := x :: (engine s n).closing.tail }

/-- Close of the context in slot `k` of the pixel at the head: extraction, SAT, selection for P4 (05 R131, R139, R142). -/
def closeOne (s : State) (n k : Nat) (x : Closing) (rest : List Nat) : State :=
  match (engine s n).slot k with
  | none => setClosing s n { x with todo := rest }
  | some c =>
    let zooms := x.pixel.zooms.filterMap fun z => (engine s n).slot z
    let (x, s) := if extracted x.pixel c && flag s F.RET_CTRL_ENABLE then extract s x zooms c else (x, s)
    let sat := decide (c.get 0 0 1 = 1)
    let s := if sat then raise (bump s A.VAT_SAT_CTX) F.VAT_EVT_RAW_SAT else s
    let s := setClosing s n { x with todo := rest, done := x.done ++ [k], sat := x.sat || sat }
    afterClose s n k x.pixel c

/-- CONTEXT_CLOSE: the engine closes the next context of the first pixel that waits; with its last the pixel's records are
emitted (05 R139). -/
def contextClose (n : Nat) (s : State) : State :=
  match (engine s n).closing with
  | [] => s
  | x :: _ =>
    match x.todo with
    | [] => emitPixel s n x
    | k :: rest =>
      let s := closeOne s n k x rest
      match rest, (engine s n).closing with
      | [], y :: _ => emitPixel s n y
      | _, _ => s

/-- CONTEXT_CLOSE (05 R139). -/
def execContextClose (t n : Nat) (s : State) : Host.Outcome State Fault Refusal := .next (contextClose n (at' t s))

/-! ## Readout (05 R141; 07 R198 to R201) -/

/-- The P4_CTX record of a context (07 R189). -/
def ctxRecord (n : Nat) (p : PixelId) (c : Ctx) : List Word :=
  [tagWord 0x14 0 (48 + 2 * c.size), word p.frame, word p.pos, word n] ++ c.hdr ++ packHalves ((List.range c.size).map c.bin)

/-- Nothing that goes before a held context in its streams is still to come: no pixel at an earlier position, no context of
an earlier position in another engine, no record of its P4 streams (07 R192). -/
def readoutInOrder (s : State) (n : Nat) (h : HeldCtx) : Bool :=
  let key := h.pixel.key
  (s.acq.frames.all fun f =>
    match minPending s f with
    | some q => decide (key ≤ f.num * 2 ^ 24 + q)
    | none => true)
  && (s.vat.engines.all fun e => decide (e.1 = n) || e.2.held.all fun x => decide (key ≤ x.pixel.key))
  && (directRegs h.pixel).all fun r => (stream s (8 * r + 4)).all fun x =>
    x.seq || decide (key < x.frame * 2 ^ 24 + x.pos)

/-- The first held context of an engine changed. -/
def setHeld (s : State) (n : Nat) (g : HeldCtx → HeldCtx) : State :=
  match (engine s n).held with
  | h :: l => setEngine s n { engine s n with held := g h :: l }
  | [] => s

/-- The ordinal of the last position of a sequence, from an ordinal on, that has a HELD context for the ring. -/
def heldTo (s : State) (q : Seq) (o : Nat) : Nat :=
  (s.vat.engines.flatMap fun e => e.2.held.filterMap fun h =>
    if h.ring then (frameOf s h.pixel.frame).map fun f => f.ord h.pixel.pos else none).foldl
      (fun m x => if o ≤ x ∧ x ≤ q.last then max m x else m) (o - 1)

/-- A sequence is truncated at an ordinal: no further context is selected for it, and those already HELD are delivered
(07 R201, log entry 73). -/
def seqTruncate (s : State) (q : Seq) (o : Nat) : State :=
  let s := raise (bump s A.ACQ_TRUNC) F.ACQ_EVT_RAW_TRUNC
  let l := heldTo s q o
  onSeq (onAcq s fun a => { a with cut := q.last + 1 }) q.num fun q => { q with trunc := q.last - l, last := l }

/-- The queues of the retained regions of a pixel's contexts. -/
def retainQueues (s : State) (p : PixelId) : List Nat :=
  ((ringRegs p).flatMap fun r => queueRoutes s 4 r (some p.pos)).eraseDups

/-- A context of a sequence that cannot be stored goes straight to its queues, or the sequence is truncated and the context waits
for them; `w` is the state in which it still waits (07 R201). -/
def passThrough (w s : State) (q : Seq) (h : HeldCtx) (o : Nat) (ws : List Word) : State :=
  let go (s : State) : State := feedSeq q.num (q.last + 3 - q.done) (wr s F.ACQ_STATUS_PASS_THROUGH 1)
  let s := go s
  let entered := (ringRegs h.pixel).all (fun r => (stream s (8 * r + 4)).all fun x => !x.seq) &&
    (s.acq.seqs.any fun x => decide (x.num = q.num) && decide (o ≤ x.done))
  let rec' : QRec := ⟨ws, false, false, s.now, 0⟩
  let ks := retainQueues s h.pixel
  if entered && ks.all fun k => roomNow s k rec' && (queue s k).wait.isEmpty then ks.foldl (fun s k => takeRec s k rec') s
  else if q.trunc = 0 then seqTruncate (go w) q o
  else go w

/-- A held context goes to the ring; where protected records stand in the way and no sequence has it, it stays HELD
(05 R141; 07 R198, R201). -/
def readToRing (s : State) (n : Nat) (h : HeldCtx) (ws : List Word) : State :=
  let o := s
  let s := setHeld s n fun h => { h with ring := false }
  match frameOf s h.pixel.frame with
  | none => s
  | some f =>
    let i := f.ord h.pixel.pos
    let through := flag s F.ACQ_STATUS_PASS_THROUGH && (seqAt s i).isSome
    if !(ringOn s) then s
    else
      match (if through then none else ringStore s 0x14 h.pixel.frame h.pixel.pos i (maskOf (ringRegs h.pixel)) ws), seqAt s i with
      | some s, _ => s
      | none, some q => passThrough o s q h i ws
      | none, none => o

/-- CONTEXT_READOUT_COMPLETE: the first held context of an engine reaches its destinations, and is freed when it has
reached all (05 R141). -/
def contextReadoutComplete (t n : Nat) (s : State) : State :=
  let s := flushFrames s
  match (engine s n).held with
  | [] => s
  | h :: _ =>
    match (engine s n).slot h.slot with
    | none => s
    | some c =>
      if t < h.since + nsec 200 ∨ !(readoutInOrder s n h) then s
      else
        let ws := ctxRecord n h.pixel c
        let s := if h.ring then readToRing s n h ws else s
        let r : QRec := ⟨ws, false, false, t, h.pixel.key⟩
        let ks := ctxQueues s h.pixel
        let ready := ks.filter fun k => !(h.taken.contains k) && takesCtx s k h.pixel.key r
        let s := ready.foldl (fun s k => takeRec s k r) s
        let taken := h.taken ++ ready
        let s := setHeld s n fun h => { h with taken := taken }
        let waits := (engine s n).held.head?.any (·.ring)
        if !waits && ks.all fun k => taken.contains k then
          let s := setEngine s n { engine s n with held := (engine s n).held.tail }
          drainAll (pruneFrames (feedAll (freeSlot s n h.slot)))
        else drainAll s

/-- CONTEXT_READOUT_COMPLETE (05 R141). -/
def execContextReadoutComplete (t n : Nat) (s : State) : Host.Outcome State Fault Refusal :=
  .next (contextReadoutComplete t n (at' t s))

end Sys2Proof.Machine
end

