-- ==== Sys2Proof/Machine/HkaBase.lean ====
section
/-!
DEFINITION. Starting housekeeping conversions, and reading results as fixed point (16 R409, R414 to R416; 10 R273).
-/

namespace Sys2Proof.Machine

/-- The housekeeping block with a change. -/
def onHka (s : State) (f : Hka → Hka) : State := { s with hka := f s.hka }

/-- The converter runs (16 R433). -/
def hkaOn (s : State) : Bool := sysOn s && flag s F.HKA_CTRL_ENABLE

/-- Bit `c` of a number cleared. -/
def dropBit (n c : Nat) : Nat := if n.testBit c then n ^^^ 2 ^ c else n

/-- A conversion begins on a channel; a scan conversion of a channel that restarts drops its samples and discards the first
new one (16 R423). -/
def hkaBegin (s : State) (kind c : Nat) : State :=
  let cfg := reg s (A.HCH_CFG c)
  if kind = 0 then
    if s.hka.restart.testBit c then
      onHka s fun h => { h with conv := some ⟨0, c, cfg, none, false, none, s.now⟩, acc := { HkaAcc.empty with skip := true }, restart := dropBit h.restart c }
    else onHka s fun h => { h with conv := some ⟨0, c, cfg, h.acc.first, false, none, s.now⟩ }
  else onHka (wr s F.HKA_STATUS_URGENT_ACTIVE 1) fun h =>
    { h with conv := some ⟨kind, c, cfg, none, false, if kind = 1 then s.ctl.gal.asked else none, s.now⟩ }

/-- The converter takes up what is due: a GAL request, a host request, the channel of the round (16 R415, R416). -/
def hkaNext (s : State) : State :=
  if s.hka.conv.isSome ∨ !(hkaOn s) then s
  else if s.hka.galWait then hkaBegin (onHka s fun h => { h with galWait := false }) 1 31
  else if flag s F.HKA_STATUS_URG_HOST_BUSY then hkaBegin s 2 (rd s F.HKA_URGENT_CHAN)
  else
    match s.hka.chan with
    | some c => hkaBegin s 0 c
    | none => s

/-- The conversion that runs is aborted, a scan conversion with its count; it restarts from acquisition (16 R415). -/
def hkaAbort (s : State) : State :=
  match s.hka.conv with
  | none => s
  | some v =>
    let s := onHka s fun h => { h with conv := none }
    if v.kind = 0 then bump s A.HKA_ABORTS else s

/-- The GAL block asks for an urgent conversion of channel 31 (16 R414, R416). -/
def hkaGalRequest (s : State) : State :=
  if hkaOn s then
    let running := (s.hka.conv.map fun v => decide (v.kind = 1)).getD false
    let s := onHka s fun h => { h with galWait := true }
    if running then s else hkaNext (hkaAbort s)
  else s

/-- A binary32 value as signed Q16.16, rounded to nearest; free where it lies outside the format (10 R273, R277; log
entry 51). -/
def toQ16 (s : State) (w : Word) : Int × State :=
  match f32Fixed w 16 with
  | some v =>
    if -(2 ^ 31) ≤ v ∧ v < 2 ^ 31 then (v, s)
    else
      let r := takeFree s 32
      (signed 32 r.1, r.2)
  | none =>
    let r := takeFree s 32
    (signed 32 r.1, r.2)

end Sys2Proof.Machine
end

