-- ==== Sys2Proof/Machine/Gal.lean ====
section
/-!
DEFINITION. The galvanometer drive: modes, trajectories, samples, faults and DAC frames
(chapter 10, R272, R273, R279, R293 to R295, R297 to R299, R305).
-/

namespace Sys2Proof.Machine

/-! ## Modes and set-points -/

/-- The galvanometer mode that the scan mode and MODE_REQ give: 0 PARK, 1 HOLD, 2 TRACK (R293). -/
def galMode (s : State) : Nat :=
  if rd s F.SCN_SCAN_MODE = 1 then 0 else if isStare s then 1 else rd s F.GAL_MODE_REQ

/-- A ramp starts: READY falls until the sample test passes again (R293, R294). -/
def galRamp (s : State) : State :=
  onGal (wr s F.GAL_STATUS_READY 0) fun g => { g with done := false, good := 0 }

/-- The mode in force follows the scan mode and MODE_REQ; a change is a hand-over (R293, R296). -/
def galRefresh (s : State) : State :=
  let m := galMode s
  if m = rd s F.GAL_STATUS_MODE then s
  else
    let s := wr (wr s F.GAL_STATUS_MODE m) F.GAL_STATUS_SEG_ACTIVE 0
    slotDue (galRamp (onGal s fun g => { g with seg := none })) 4 none

/-- A point of the trajectory table in force (R294, R295). -/
def galPoint (s : State) (n : Nat) : Word :=
  let i := rd s F.GAL_STATUS_IL_POS
  pget 0#32 s.ctl.gal.table (4096 * rd s F.GAL_TBL_CFG_TBL_BANK + (rd s (F.GAL_IL_SEG_FIRST i) + n) % 4096)

/-- Cycles of a slot's period. -/
def slotCycles (s : State) (k : Nat) : Nat := rd s (F.SL_CTRL_DIV k) * rd s F.SCN_BASE_PERIOD

/-- The set-point of PARK or HOLD ramps, and the ramp ends at its target (R293, R294). -/
def galRampTick (s : State) : State :=
  let target := sword (reg s (if rd s F.GAL_STATUS_MODE = 0 then A.GAL_PARK_POS else A.GAL_HOLD_POS)) * 200000000
  let sp := approach s.ctl.gal.sp target ((reg s A.GAL_RAMP_RATE).toNat * slotCycles s 4 : Nat)
  onGal s fun g => { g with sp := sp, done := decide (sp = target) }

/-- The segment plays its next point at a slot-4 tick (R294). -/
def galSegTick (t : Nat) (s : State) : State :=
  match s.ctl.gal.seg with
  | none => s
  | some n =>
    if t < s.ctl.gal.segAt then s
    else
      let sp := sword (galPoint s n) * 200000000
      if n + 1 < rd s (F.GAL_IL_SEG_LEN (rd s F.GAL_STATUS_IL_POS)) then onGal s fun g => { g with sp := sp, seg := some (n + 1) }
      else raise (wr (onGal s fun g => { g with sp := sp, seg := none, done := true }) F.GAL_STATUS_SEG_ACTIVE 0)
        F.GAL_EVT_RAW_SEG_END

/-- A facet boundary passes interlace position `i`: in TRACK the segment of that position starts (R294). -/
def galBoundary (t i : Nat) (s : State) : State :=
  if rd s F.GAL_STATUS_MODE = 2 then
    let s := wr (wr s F.GAL_STATUS_READY 0) F.GAL_STATUS_IL_POS i
    if (slotOf s 4).active then
      onGal (wr s F.GAL_STATUS_SEG_ACTIVE 1) fun g => { g with seg := some 0, segAt := t, done := false, good := 0 }
    else s
  else s

/-! ## Faults -/

/-- A GAL fault is latched: bit 0 GALV_FREEZE, bit 1 POS_LOST; slot 4 becomes inactive, SAFE_CODE is sent, emission is
inhibited and the polygon stops (R297, R298). -/
def galFault (s : State) (f : Fld) : State :=
  let s := raise (wrBit s A.GAL_FAULT_LATCH f.lo true) f
  let s := raise (wrBit s A.MOT_FAULT_LATCH 5 true) F.MOT_EVT_RAW_GALV
  let s := onGal (wr s F.GAL_STATUS_SAFE 1) fun g => { g with seen := false }
  safMotor (motStop (slotsRefresh s)) .stops

/-! ## Samples (R273) -/

/-- A sample within READY_TOL is counted after the set-point has arrived; READY_N in a row set READY (R294). -/
def readyJudge (s : State) (r y : Int) : State :=
  if flag s F.GAL_STATUS_READY ∨ !s.ctl.gal.done then s
  else if (y - r).natAbs ≤ (reg s A.GAL_READY_TOL).toNat then
    let s := onGal s fun g => { g with good := g.good + 1 }
    if rd s F.GAL_READY_N ≤ s.ctl.gal.good then raise (wr s F.GAL_STATUS_READY 1) F.GAL_EVT_RAW_READY else s
  else onGal s fun g => { g with good := 0 }

/-- The last FREEZE_N valid samples hold still while the set-point moves (R297). -/
def frozen (s : State) : Bool :=
  let l := s.ctl.gal.raws
  match l.getLast? with
  | none => false
  | some first =>
    let sps := l.map (·.2)
    decide (l.length = rd s F.GAL_FREEZE_N) && l.all (fun x => decide ((x.1 - first.1).natAbs ≤ 2))
      && decide (((reg s A.GAL_FREEZE_MOTION).toNat : Int) < sps.foldl max first.2 - sps.foldl min first.2)

/-- A valid sample joins the freeze test (R297). -/
def freezeJudge (s : State) (raw r : Int) : State :=
  let s := onGal s fun g => { g with raws := ((raw, r) :: g.raws).take (rd s F.GAL_FREEZE_N) }
  if frozen s then galFault s F.GAL_EVT_RAW_GALV_FREEZE else s

/-- A valid position: a result of channel 31, of whatever conversion (R299, R305). -/
def galPosition (s : State) (y : Int) : State := onGal (setReg s A.GAL_POS (iword y)) fun g => { g with seen := true }

/-- The result of the conversion that a slot-4 tick requested has come by its deadline: slot 4 computes on it (R273, R275). -/
def galSample (s : State) (tick : Option Nat) (raw y : Int) : State :=
  match s.ctl.gal.asked with
  | none => s
  | some k =>
    if tick = some k ∧ (slotOf s 4).active ∧ s.now + usec 2 ≤ k + 1280 * slotCycles s 4 then
      let r := s.ctl.gal.r
      let s := onGal s fun g => { g with asked := none, missed := 0 }
      freezeJudge (readyJudge (slotTick s 4 r y) r y) raw r
    else s

/-- A tick's sample is missing; the fourth in a row is POS_LOST (R273, R297). -/
def galMissed (s : State) : State :=
  if s.ctl.gal.asked.isSome then
    let s := onGal s fun g => { g with asked := none, missed := g.missed + 1, good := if flag s F.GAL_STATUS_READY then g.good else 0 }
    let s := raise (bump s A.GAL_POS_MISSED) F.GAL_EVT_RAW_POS_MISSED
    if s.ctl.gal.missed = 4 then galFault s F.GAL_EVT_RAW_POS_LOST else s
  else s

/-! ## Ticks of slot 4 -/

/-- The largest DAC code. -/
def dacTop (s : State) : Nat := if flag s F.GAL_SPI_CFG_BITS18 then 2 ^ 18 - 1 else 2 ^ 16 - 1

/-- The DAC code of the output in force (R277). -/
def dacCode (s : State) : Nat :=
  if flag s F.GAL_STATUS_SAFE then rd s F.GAL_SAFE_CODE
  else (clampI (rnd (sword (reg s (A.SL_OUT 4))) 256 + (rd s F.GAL_DAC_MID : Nat)) 0 (dacTop s)).toNat

/-- The 24 bits of the frame that was last sent (R272). -/
def galFrame (s : State) : Nat :=
  rd s F.GAL_SPI_CFG_CMD * 2 ^ 20 +
    (if flag s F.GAL_SPI_CFG_BITS18 then rd s F.GAL_DAC_LAST * 4 else rd s F.GAL_DAC_LAST % 2 ^ 16 * 16)

/-- GALV_SPI_FRAME: a frame is sent at a slot-4 tick; none while the drive is disabled or STANDBY holds it (R272). -/
def galSend (s : State) : State :=
  if flag s F.GAL_CTRL_ENABLE ∧ !s.pair.held then bump (wr s F.GAL_DAC_LAST (dacCode s)) A.GAL_FRAMES_SENT else s

/-- A tick of slot 4: the missing sample of the last tick, the application, the frame, the set-point, and the request for
the next sample (R273, R275, R294). -/
def galTick (t : Nat) (s : State) : State :=
  let s := galMissed s
  let s := galSend (slotApply s 4)
  if (slotOf s 4).active then
    let s := if rd s F.GAL_STATUS_MODE = 2 then galSegTick t s else galRampTick s
    let r := rnd s.ctl.gal.sp 200000000
    let s := onGal (setReg s A.GAL_SETPOINT (iword r)) fun g => { g with asked := some t, r := r }
    hkaGalRequest s
  else s

/-! ## Registers (R295, R299, R305) -/

/-- The index of the point that TBL_ADDR names. -/
def galTblIndex (s : State) : Nat := 4096 * rd s F.GAL_TBL_ADDR_BANK + rd s F.GAL_TBL_ADDR_INDEX

/-- INDEX advances after an access to TBL_DATA. -/
def galTblAdvance (s : State) : State := wr s F.GAL_TBL_ADDR_INDEX (rd s F.GAL_TBL_ADDR_INDEX + 1)

/-- A point is read. -/
def galTblRead (s : State) : Word × State := (pget 0#32 s.ctl.gal.table (galTblIndex s), galTblAdvance s)

/-- A point is written. -/
def galTblWrite (d : Word) (s : State) : State :=
  galTblAdvance (onGal s fun g => { g with table := pset 0#32 g.table (galTblIndex s) d })

/-- The bits of GAL.FAULT_LATCH whose cause is still present: POS_LOST until a valid result of channel 31 has been formed
(R299). -/
def galCauses (s : State) : Nat := if s.ctl.gal.seen then 0 else 2

/-- The bits of GAL.FAULT_LATCH that a write of 1 leaves set (R299). -/
def galStays (s : State) : Word := word (galCauses s) ||| (if flag s F.GAL_CTRL_ENABLE then 3#32 else 0#32)

/-- The checks of a write to the GAL page. -/
def galCheck (a : Nat) (d : Word) (s : State) : Nat :=
  if a = A.GAL_TBL_DATA ∧ rd s F.GAL_STATUS_MODE = 2 ∧ rd s F.GAL_TBL_ADDR_BANK = rd s F.GAL_TBL_CFG_TBL_BANK then 0x04
  else if a = (F.GAL_SPI_CFG_CMD).addr ∧ flag s F.GAL_CTRL_ENABLE then 0x04
  else if a = (F.GAL_CTRL_ENABLE).addr ∧ bit d 1 ∧ flag s F.GAL_CTRL_ENABLE then 0x04
  else 0

/-- What a write to the GAL page does beside its registers: FAULT_LATCH cleared ends SAFE, ENABLE changes slot 4. -/
def galAct (a : Nat) (d : Word) (s : State) : State :=
  if a = A.GAL_TBL_DATA then galTblWrite d s
  else if a = A.GAL_FAULT_LATCH then
    slotsRefresh (if reg s A.GAL_FAULT_LATCH = 0#32 then wr s F.GAL_STATUS_SAFE 0 else s)
  else if a = (F.GAL_CTRL_ENABLE).addr then slotsRefresh s
  else s

/-- What a commit of the GAL page does: a change of MODE_REQ, or of the position in force, starts its ramp (R293). -/
def galCommitted (o s : State) : State :=
  let s := galRefresh s
  let moved := (rd s F.GAL_STATUS_MODE = 0 ∧ reg o A.GAL_PARK_POS ≠ reg s A.GAL_PARK_POS)
    ∨ (rd s F.GAL_STATUS_MODE = 1 ∧ reg o A.GAL_HOLD_POS ≠ reg s A.GAL_HOLD_POS)
  if moved then galRamp s else s

/-- SOFT_RESET of the GAL page; the trajectory banks stay (R295). -/
def galReset (s : State) : State :=
  let s := onGal s fun g => ⟨0, none, 0, false, 0, none, 0, 0, [], 0, false, g.table⟩
  slotsRefresh (galRefresh s)

end Sys2Proof.Machine
end

