-- ==== Sys2Proof/Machine/PwrBase.lean ====
section
/-!
DEFINITION. The passage between READY and RUN (20 R496, R498, R499; 07 R183, R207).
-/

namespace Sys2Proof.Machine

/-- Every frame in flight has had its last column: the next boundary has occurred, or scheduling has stopped. -/
def closeFrames (s : State) (stopped : Bool) : State :=
  onAcq s fun a => { a with frames := a.frames.map fun f =>
    { f with over' := true, stopped := f.stopped || (stopped && !f.ended) } }

/-- Every PLL that READY needs is locked (03 R69, 20 R508). -/
def pllsLocked (s : State) : Bool :=
  decide (fld (reg s F.CLK_STATUS_SYS_LOCK.addr) 0 8 = 0xFF) && flag s F.CLK_STATUS_LANES_LOCK && !(flag s F.CLK_STATUS_REF_LOST)

/-- Emission permission returns from the loss of REFCLK, at a frame boundary or while none occurs (03 R69). -/
def refPermit (s : State) : State :=
  if s.clk.noPermit ∧ pllsLocked s then safRefresh { s with clk := { s.clk with noPermit := false } } else s

/-- RUNNING follows ENABLE in force and RUN; acquisition that stops ends its sequences and its frames
(07 R183, R199, R202, R207; 18 R456). -/
def acqRefresh (s : State) : State :=
  let on := s.acq.on' && running s
  if on = acqRuns s then s
  else if on then autoRestart (lmpEdge (wr s F.ACQ_STATUS_RUNNING 1) 2 true)
  else
    let s := seqStop (closeFrames (wr s F.ACQ_STATUS_RUNNING 0) false)
    let s := wr (wr s F.ACQ_STATUS_RET_STATE 0) F.ACQ_STATUS_IN_FRAME 0
    let s := onAcq s fun a => { a with auto' := none }
    refPermit (flushFrames (planFrameBoundary (stopScheduling (lmpEdge s 2 false))))

/-- ENABLE takes effect (07 R183). -/
def enableEffect (s : State) : State :=
  let on := flag s F.ACQ_CTRL_ENABLE
  acqRefresh (onAcq s fun a => { a with on' := on, anchor := if on then a.anchor else none })

/-- RUN is entered (20 R498). -/
def enterRun (s : State) : State :=
  acqRefresh (raise (wr (wr s F.PWR_STATUS_STATE 4) F.PWR_STATUS_RUN_PENDING 0) F.PWR_EVT_RAW_STATE_CHANGE)

/-- RUN is left for READY, and what was pending between the two is cancelled (20 R496, R499). No boundary is going to occur, so
ENABLE takes effect (07 R183). -/
def leaveRun (s : State) : State :=
  let s := wr (wr s F.PWR_STATUS_RUN_PENDING 0) F.PWR_STATUS_DOWN_PENDING 0
  if running s then
    enableEffect (stopScheduling (raise (wr s F.PWR_STATUS_STATE 3) F.PWR_EVT_RAW_STATE_CHANGE))
  else s

end Sys2Proof.Machine
end

