-- ==== Sys2Proof/Machine/Thm.lean ====
section
/-!
DEFINITION. The thermal limits and the thermal stops (chapter 16, R426 to R432, R435, R436).
-/

namespace Sys2Proof.Machine

/-- The thermal block changed. -/
def onThm (s : State) (f : Thm → Thm) : State := { s with thm := f s.thm }

/-! ## Requests and stops (16 R430 to R432) -/

/-- The inhibit request is sent, and the safety block latches THERMAL (16 R430, 12 R321). -/
def thmInhibit (s : State) : State := safRefresh (safLatch (wr s F.THM_STATUS_INHIBIT_REQ 1) true true 11 .stays)

/-- The stop request is sent, and the safety block starts SS1 (16 R430, 12 R327). -/
def thmStop (s : State) : State :=
  safRefresh (ss1Start (safLatch (wr s F.THM_STATUS_STOP_REQ 1) true true 11 .stays))

/-- The stop is done: READY is entered, and STOP_MS takes the time from the trip (16 R430, R432; 20 R496). -/
def stopDone (s : State) : State :=
  let ms := msSince s s.thm.since
  let s := leaveRun s
  let s := wr (wr s F.THM_STATUS_STOP_STATE 3) F.THM_STOP_MS ms
  onThm (raise s F.THM_EVT_RAW_STOP_DONE) fun h => { h with step := 0 }

/-- Scheduling ends, and the frames in flight end with STOPPED (16 R430, R431). -/
def stopFrames (s : State) : State := flushFrames (stopScheduling (closeFrames s true))

/-- An immediate stop (16 R431). -/
def immediateStop (s : State) : State :=
  let s := raise (bump (wr s F.THM_STATUS_STOP_STATE 2) A.THM_IMMEDIATE_STOPS) F.THM_EVT_RAW_IMMEDIATE
  let s := lmpEdge s 4 true
  stopDone (stopFrames (thmStop (thmInhibit s)))

/-- An orderly stop begins: with step 1, or with step 3 when acquisition does not run (16 R430). -/
def orderlyStop (s : State) : State :=
  let s := raise (bump (wr s F.THM_STATUS_STOP_STATE 1) A.THM_ORDERLY_STOPS) F.THM_EVT_RAW_ORDERLY
  let s := lmpEdge s 4 true
  if acqRuns s then onThm (stopFrames s) fun h => { h with step := 1 }
  else thmInhibit (onThm s fun h => { h with step := 3 })

/-- Queue `k` holds no byte that has not entered a DATA frame. -/
def queueDrained (s : State) (k : Nat) : Bool :=
  let q := queue s k
  q.wait.isEmpty && decide (q.unsent = 0) && q.out.isEmpty && q.halt.isNone

/-- Every pixel has closed, FRAME_END has left every stream, and every enabled queue is drained (16 R430, step 2). -/
def flushed (s : State) : Bool :=
  s.acq.frames.all (fun f => f.ended) && s.acq.streams.all (fun p => p.2.isEmpty)
    && s.vat.engines.all (fun e => e.2.held.isEmpty)
    && (List.range 64).all fun k => !(flag s (F.Q_CFG_ENABLE k)) || queueDrained s k

/-- ORDERLY_STOP_STEP_END: the step of an orderly stop in progress completes, where its condition holds, and the next begins
(16 R430). -/
def orderlyStopStepEnd (s : State) : State :=
  let next (s : State) : State := onThm s fun h => { h with step := h.step + 1 }
  match s.thm.step with
  | 1 => if escRunning s then s else next s
  | 2 =>
    let s := flushFrames s
    if flushed s then thmInhibit (next s) else s
  | 3 => thmStop (next s)
  | 4 => next s
  | 5 => stopDone s
  | _ => s

/-- ORDERLY_STOP_STEP_END (16 R430). -/
def execOrderlyStopStepEnd (t : Nat) (s : State) : Host.Outcome State Fault Refusal :=
  .next (orderlyStopStepEnd (at' t s))

/-- BUDGET_OUT: the budget of an orderly stop runs out, and it becomes immediate (16 R431). -/
def budgetOut (s : State) : State :=
  if s.thm.step ≠ 0 ∧ s.thm.since + msec (rd s F.THM_ORDERLY_BUDGET) ≤ s.now then
    immediateStop (raise (bump s A.THM_BUDGET_OUTS) F.THM_EVT_RAW_BUDGET_OUT)
  else s

/-- BUDGET_OUT (16 R431). -/
def execBudgetOut (t : Nat) (s : State) : Host.Outcome State Fault Refusal := .next (budgetOut (at' t s))

/-- A trip of block `k` (16 for DIE) by a condition with a stop action: 1 orderly, 2 immediate (16 R428, R429, R431, R432;
log entry 77). -/
def thmTrip (s : State) (k cause act : Nat) : State :=
  let s := wrBit s A.THM_TRIP_LATCH k true
  let st := rd s F.THM_STATUS_STOP_STATE
  if st = 0 then
    let s := wr (wr s F.THM_STOP_CAUSE_BLOCK k) F.THM_STOP_CAUSE_CAUSE cause
    let s := onThm s fun h => { h with since := s.now }
    if act = 2 then immediateStop s else orderlyStop s
  else if st = 1 ∧ act = 2 then immediateStop s
  else
    let s := bump s (if act = 2 then A.THM_IMMEDIATE_STOPS else A.THM_ORDERLY_STOPS)
    if st = 3 then thmStop (thmInhibit s) else s

/-! ## Limit blocks (16 R426, R427) -/

/-- The rate of a limit block in °C/s, rounded once (16 R426; log entry 76). -/
def limRateOf (y y0 : Word) (dt : Nat) : Word :=
  match f32Val y, f32Val y0 with
  | .fin a m e, .fin b n f =>
    let v := fltInt a m e - fltInt b n f
    f32Round (decide (v < 0)) (v.natAbs * 256000000000) (max 1 dt)
  | _, _ => f32Sub y y0

/-- Bit `i` of LIM_STATUS. -/
abbrev limBit (s : State) (k i : Nat) : Bool := rdBit s (F.LIM_STATUS_HIGH_OVER k).addr i

/-- A condition of block `k` is found: a stop trips when it is new or the block is not latched, a new ALERT is counted
(16 R426, R427, R432; log entry 76). -/
def limFound (s : State) (k cause act : Nat) (was : Bool) : State :=
  if act = 0 then (if was then s else raise (bump s A.THM_ALERTS) F.THM_EVT_RAW_ALERT)
  else if was ∧ rdBit s A.THM_TRIP_LATCH k then s
  else thmTrip s k cause act

/-- ALERT_NOW of block `k` follows its conditions that have the action ALERT (16 R427). -/
def alertNow (s : State) (k : Nat) : State :=
  wrBit s A.THM_ALERT_NOW k
    ((limBit s k 0 && decide (rd s (F.LIM_CTRL_HIGH_ACT k) = 0)) || (limBit s k 1 && decide (rd s (F.LIM_CTRL_RISE_ACT k) = 0))
      || (limBit s k 2 && decide (rd s (F.LIM_CTRL_INV_ACT k) = 0)))

/-- A condition's status bit changes, and the condition acts where it is found. -/
def limJudge (s : State) (k i act : Nat) (found gone : Bool) : State :=
  let was := limBit s k i
  if found then limFound (wrBit s (F.LIM_STATUS_HIGH_OVER k).addr i true) k i act was
  else if gone then wrBit s (F.LIM_STATUS_HIGH_OVER k).addr i false
  else s

/-- RISE: the rate over the last RISE_W rounds (16 R426). -/
def limRise (s : State) (k : Nat) : State :=
  let w := rd s (F.LIM_CTRL_RISE_W_M1 k) + 1
  let h := pget [] s.thm.hist k
  match h.head?, h[w]? with
  | some (t, y), some (t0, y0) =>
    let r := limRateOf y y0 (t - t0)
    let s := setReg (wr s (F.LIM_STATUS_RATE_VALID k) 1) (A.LIM_RATE k) r
    limJudge s k 1 (rd s (F.LIM_CTRL_RISE_ACT k)) (f32Ge r (reg s (A.LIM_RISE k))) (f32Lt r (reg s (A.LIM_RISE k)))
  | _, _ => wr s (F.LIM_STATUS_RATE_VALID k) 0

/-- ABS: y is at or above LIM_ABS (16 R426). -/
def limAbs (s : State) (k : Nat) (y : Word) : State :=
  let over' := f32Ge y (reg s (A.LIM_ABS k))
  let was := s.thm.abs'.testBit k
  let s := onThm s fun h => { h with abs' := dropBit h.abs' k + b2n over' * 2 ^ k }
  if over' then limFound s k 3 2 was else s

/-- Block `k` is evaluated at a result of its channel (16 R426). -/
def limEval (k : Nat) (valid : Bool) (y : Word) (s : State) : State :=
  if valid then
    let s := onThm s fun h => { h with hist := pset [] h.hist k (((s.now, y) :: pget [] h.hist k).take 65) }
    let s := wr s (F.LIM_STATUS_INVALID k) 0
    let high := f32Ge y (reg s (A.LIM_HIGH k))
    let low := f32Lt y (f32Sub (reg s (A.LIM_HIGH k)) (reg s (A.LIM_HYST k)))
    alertNow (limAbs (limRise (limJudge s k 0 (rd s (F.LIM_CTRL_HIGH_ACT k)) high low) k) k y) k
  else
    let s := onThm s fun h => { h with hist := pset [] h.hist k [] }
    let s := raise (wr s (F.LIM_STATUS_RATE_VALID k) 0) F.THM_EVT_RAW_SENSOR_INVALID
    alertNow (limJudge s k 2 (rd s (F.LIM_CTRL_INV_ACT k)) true false) k

/-- The die limit: x of an on-die diode at or above 110 °C (16 R428). -/
def dieJudge (s : State) (c : Nat) (x : Word) : State :=
  let over' := f32Ge x 0x42DC0000#32
  let was := s.thm.die.testBit (c - 32)
  let s := onThm s fun h => { h with die := dropBit h.die (c - 32) + b2n over' * 2 ^ (c - 32) }
  let s := wrB s F.THM_STATUS_DIE_LIMIT (decide (s.thm.die ≠ 0))
  if over' ∧ !(was ∧ rdBit s A.THM_TRIP_LATCH 16) then thmTrip (raise s F.THM_EVT_RAW_DIE_LIMIT) 16 4 2 else s

/-- A result of a channel, scan or urgent, as the thermal block reads it (16 R426, R428). -/
def thmResult (s : State) (c : Nat) (valid : Bool) (x y : Word) : State :=
  let s := if c = 32 ∨ c = 33 then dieJudge s c x else s
  if flag s F.THM_CTRL_ENABLE then
    (List.range 16).foldl (fun s k =>
      if flag s (F.LIM_CTRL_ENABLE k) ∧ rd s (F.LIM_CTRL_CHAN k) = c then limEval k valid y s else s) s
  else s

/-! ## Registers (16 R429, R435, R436) -/

/-- A stop condition of block `k`, or of the die, is present (16 R429; log entry 76). -/
def causePresent (s : State) (k : Nat) : Bool :=
  if k = 16 then decide (s.thm.die ≠ 0)
  else
    flag s F.THM_CTRL_ENABLE && flag s (F.LIM_CTRL_ENABLE k) &&
      ((limBit s k 0 && decide (rd s (F.LIM_CTRL_HIGH_ACT k) ≠ 0)) || (limBit s k 1 && decide (rd s (F.LIM_CTRL_RISE_ACT k) ≠ 0))
        || (limBit s k 2 && decide (rd s (F.LIM_CTRL_INV_ACT k) ≠ 0)) || s.thm.abs'.testBit k)

/-- A stop runs: ORDERLY or IMMEDIATE. -/
def stopRuns (s : State) : Bool :=
  decide (rd s F.THM_STATUS_STOP_STATE = 1) || decide (rd s F.THM_STATUS_STOP_STATE = 2)

/-- The bits of TRIP_LATCH that a write of 1 does not clear: their causes stand, or a stop runs (16 R429). -/
def tripStays (s : State) : Word :=
  word ((List.range 17).foldl (fun n k => if causePresent s k || stopRuns s then n + 2 ^ k else n) 0)

/-- The checks of a write to the THM page; `d` is the data written. -/
def thmCheck (a : Nat) (d : Word) (s : State) : Nat :=
  if a = F.THM_CTRL_SOFT_RESET.addr ∧ bit d 1 ∧ (reg s A.THM_TRIP_LATCH ≠ 0#32 ∨ stopRuns s) then 0x04
  else if 0xC1100 ≤ a ∧ a % 0x20 = 8 ∧ f32Lt d (reg s (a - 4)) then 0x03
  else 0

/-- The block of an address of LIM_CTRL. -/
def limOf (a : Nat) : Option Nat := if 0xC1100 ≤ a ∧ a < 0xC1300 ∧ a % 0x20 = 0 then some ((a - 0xC1100) / 0x20) else none

/-- With the last bit of TRIP_LATCH the requests go, and STOP_STATE returns to IDLE; a block given another channel begins its
history anew (16 R426, R429; log entry 76). `o` is the state before. -/
def thmAct (a : Nat) (o s : State) : State :=
  let s := match limOf a with
    | some k => if rd o (F.LIM_CTRL_CHAN k) = rd s (F.LIM_CTRL_CHAN k) then s
      else onThm s fun h => { h with hist := pset [] h.hist k [] }
    | none => s
  if a = A.THM_TRIP_LATCH ∧ reg s A.THM_TRIP_LATCH = 0#32 then
    wr (wr (wr s F.THM_STATUS_INHIBIT_REQ 0) F.THM_STATUS_STOP_REQ 0) F.THM_STATUS_STOP_STATE 0
  else s

/-- SOFT_RESET of the THM page. -/
def thmReset (s : State) : State := { s with thm := ⟨[], 0, 0, s.thm.die, 0⟩ }

end Sys2Proof.Machine
end

