-- ==== Sys2Proof/Machine/Hka.lean ====
section
/-!
DEFINITION. The housekeeping converter: rounds, conversions, results (chapter 16, R408 to R424, R433, R434).
-/

namespace Sys2Proof.Machine

/-! ## Results -/

/-- The linearisation coefficients that a channel holds (16 R420). -/
def linCoefs (s : State) (c : Nat) : List Word :=
  pget [0#32, 0x3F800000#32, 0#32, 0#32, 0#32, 0#32, 0#32, 0#32, 0#32, 0#32, 0#32, 0#32] s.hka.coefs c

/-- T of a channel's linearisation (16 R419). -/
def linTemp (s : State) (c : Nat) : Word :=
  let k := rd s F.HKA_LIN_TEMP_SEL
  if k = c ∨ !(s.hka.ever.testBit k) then 0x41C80000#32 else reg s (A.HCH_RESULT k)

/-- A channel works in remote-diode mode under a CH_CFG (16 R418). -/
def isDiode (c : Nat) (cfg : Word) : Bool := decide (c = 32) || decide (c = 33) || (decide (c < 8) && bit cfg 21)

/-- A sample of a channel refers to an excitation that is disabled or in limit (16 R410, R411). -/
def refFault (s : State) (c : Nat) (cfg : Word) : Bool :=
  if 32 ≤ c ∨ isDiode c cfg then false
  else
    match fld cfg 12 2 with
    | 1 => !(flag s F.HKA_EXC_CFG_EXC0) || flag s F.HKA_STATUS_EXC0_LIMIT
    | 2 => !(flag s F.HKA_EXC_CFG_EXC1) || flag s F.HKA_STATUS_EXC1_LIMIT
    | _ => false

/-- x of an averaged value A = sum × 2^-shift of 2^n samples: the ratio, or the diode temperature (16 R418, R419; log
entry 84). -/
def linX (s : State) (c : Nat) (cfg : Word) (a : Int) (n shift : Nat) : Word :=
  let ratio := f32Of (a * 2 ^ shift) (2 ^ n * 32768 * 2 ^ fld cfg 8 2)
  if isDiode c cfg then
    let dv := f32Of (a * 2 ^ shift * 5) (2 ^ n * 2)
    let dv := f32Div dv (f32Of (32768 * 2 ^ fld cfg 8 2) 1)
    f32Sub (f32Div (f32Mul dv (f32Of 503978 100)) (reg s (A.HCH_IDEALITY c))) (f32Of 27315 100)
  else ratio

/-- The linearised result y (16 R419). -/
def linY (s : State) (c : Nat) (x : Word) : Word := f32Poly (linCoefs s c) x (linTemp s c)

/-- A copy of coefficients comes into force (16 R420). -/
def linInstall (s : State) (c : Nat) : State :=
  onHka s fun h => { h with
    coefs := pset (linCoefs { s with hka := Hka.empty } c) h.coefs c ((List.range 12).map fun i => memWord s.calstore (0x800 + 0x30 * c + 4 * i)),
    loads := h.loads.filter fun l => l.1 ≠ c }

/-- A result of channel `c` has been formed: a copy made meanwhile comes into force (16 R420). -/
def linFormed (s : State) (c : Nat) : State :=
  match s.hka.loads.find? (fun l => l.1 = c) with
  | some (_, 2) => linInstall s c
  | some (_, 1) => onHka s fun h => { h with loads := h.loads.map fun l => if l.1 = c then (c, 0) else l }
  | _ => s

/-- OPEN and CLAMP of a raw sample act on their flags and events (16 R422, R424). -/
def rawFlags (s : State) (c : Nat) (isOpen clamp : Bool) : State :=
  let s := if isOpen then raise (wrBit s A.HKA_OPEN_FLAGS c true) F.HKA_EVT_RAW_OPEN else s
  if clamp then raise (wrBit s A.HKA_CLAMP_FLAGS c true) F.HKA_EVT_RAW_CLAMP else s

/-- A raw sample carries OPEN (16 R424). -/
def rawOpen (c : Nat) (cfg : Word) (code : Int) : Bool := decide (c < 32) && bit cfg 20 && decide (code = 32767)

/-- The bit of OPEN_FLAGS clears at a result without an open sample (16 R424). -/
def openClear (s : State) (c : Nat) (isOpen : Bool) : State := if isOpen then s else wrBit s A.HKA_OPEN_FLAGS c false

/-- A scan result of channel `c` is placed; `x` and `y` where its samples were taken (16 R421, R426; 06 R163; 17 R446). -/
def placeResult (s : State) (c : Nat) (x y : Word) (isOpen clamp timeout ref : Bool) : State :=
  let valid := !(isOpen || clamp || timeout || ref)
  let n := rd s (F.HCH_STATUS_COUNT c) + 1
  let st := b2n valid * 2 ^ 31 + b2n isOpen * 2 ^ 30 + b2n clamp * 2 ^ 29 + b2n timeout * 2 ^ 28 + b2n ref * 2 ^ 27
    + (if timeout then rd s (F.HCH_STATUS_DISCARD c) * 2 ^ 26 else 0) + n % 65536
  let s := setReg s (F.HCH_STATUS_VALID c).addr (word st)
  let s := if valid then setReg s (A.HCH_RESULT c) y else s
  let s :=
    if c = 31 ∧ !isOpen ∧ !timeout then
      let (q, s) := toQ16 s y
      galPosition s q
    else s
  let s := onHka s fun h => { h with
    last := pset 0 h.last c s.now, ever := if valid ∧ !(h.ever.testBit c) then h.ever + 2 ^ c else h.ever }
  let s := linFormed (openClear s c isOpen) c
  let s := if rd s F.RET_TEMP_SEL_CHAN = c then retTemp s else s
  thmResult (calResult s c valid y) c valid x y

/-! ## Rounds (16 R412, R413) -/

/-- A round start is given: it begins, is queued, or is an overrun (16 R413). -/
def roundRequest (s : State) : State :=
  if !(hkaOn s) then s
  else if !(flag s F.HKA_STATUS_IN_ROUND) ∧ !s.hka.due then onHka s fun h => { h with due := true }
  else if !(flag s F.HKA_STATUS_ROUND_QUEUED) then wr s F.HKA_STATUS_ROUND_QUEUED 1
  else raise (bump s A.HKA_ROUND_OVERRUN) F.HKA_EVT_RAW_ROUND_OVERRUN

/-- The lowest channel of a set from `c` on. -/
def nextChan (set c : Nat) : Option Nat := (List.range 36).find? fun k => decide (c ≤ k) && set.testBit k

/-- A channel's average restarts (16 R423). -/
def chanRestart (s : State) (c : Nat) : State :=
  let s := wr s (F.HCH_STATUS_DISCARD c) 1
  onHka s fun h => { h with restart := if h.restart.testBit c then h.restart else h.restart + 2 ^ c }

/-- ROUND_START: a round begins, latching its set; channels that enter it restart (16 R412, R423). -/
def roundStart (s : State) : State :=
  if !(hkaOn s) ∨ !s.hka.due ∨ flag s F.HKA_STATUS_IN_ROUND then s
  else
    let set := (reg s A.HKA_SCAN_MASK0).toNat + (rd s F.HKA_SCAN_MASK1_HI * 4 + 3) * 2 ^ 32
    let old := s.hka.set
    let s := (List.range 36).foldl (fun s c => if set.testBit c ∧ !(old.testBit c) then chanRestart s c else s) s
    let s := onHka (wr s F.HKA_STATUS_IN_ROUND 1) fun h => { h with
      due := false, start := s.now, set := set, chan := nextChan set 0, acc := HkaAcc.empty }
    hkaNext s

/-- ROUND_START (16 R412). -/
def execRoundStart (t : Nat) (s : State) : Host.Outcome State Fault Refusal := .next (roundStart (at' t s))

/-- ROUND_TIMER: the timer gives a round start (16 R413). -/
def execRoundTimer (t : Nat) (s : State) : Host.Outcome State Fault Refusal :=
  .next (if rd (at' t s) F.HKA_ROUND_CFG_SRC = 0 then roundRequest (at' t s) else at' t s)

/-- The round passes to the next channel, or ends (16 R412, R413). -/
def roundNext (s : State) (c : Nat) : State :=
  match nextChan s.hka.set (c + 1) with
  | some k => onHka s fun h => { h with chan := some k, acc := HkaAcc.empty }
  | none =>
    let us := (s.now - s.hka.start) / usec 1
    let s := setReg (setReg s A.HKA_ROUND_COUNT (reg s A.HKA_ROUND_COUNT + 1#32)) A.HKA_ROUND_LAST_US (word (us % 2 ^ 20))
    let queued := flag s F.HKA_STATUS_ROUND_QUEUED
    let s := wr (wr s F.HKA_STATUS_IN_ROUND 0) F.HKA_STATUS_ROUND_QUEUED 0
    let s := onHka s fun h => { h with chan := none, acc := HkaAcc.empty, due := queued }
    monSample (raise s F.HKA_EVT_RAW_ROUND_DONE) 0x090 0 us

/-! ## Conversions (16 R409, R414 to R418) -/

/-- The averaged value of a full set of samples: signed 24 bits; a value outside them is free (16 R412; log entry 84). -/
def average (s : State) (sum : Int) (shift : Nat) : Int × State :=
  let a := sum / 2 ^ shift
  if -(2 ^ 23) ≤ a ∧ a < 2 ^ 23 then (a, s)
  else
    let r := takeFree s 24
    (signed 24 r.1, r.2)

/-- A scan result is formed from the samples of its channel (16 R421). -/
def scanResult (s : State) (c : Nat) (cfg : Word) : State :=
  let k := s.hka.acc
  let (a, s) := average s k.sum (fld cfg 0 4)
  let s := setReg s (F.HCH_RAW_A c).addr (word (b2n (isDiode c cfg) * 2 ^ 26 + fld cfg 8 2 * 2 ^ 24 + unsigned 24 a))
  let x := linX s c cfg a (fld cfg 4 4) (fld cfg 0 4)
  roundNext (placeResult s c x (linY s c x) k.isOpen k.clamp false k.ref) c

/-- A sample of the round's channel: the first after a restart is discarded, and so are those gathered before it, of which
no result is formed (16 R412, R423). -/
def scanSample (s : State) (c : Nat) (cfg : Word) (v : Int) : State :=
  if s.hka.restart.testBit c ∨ s.hka.acc.skip then onHka s fun h => { h with acc := HkaAcc.empty }
  else
    let s := onHka s fun h => { h with acc := { h.acc with sum := h.acc.sum + v, n := h.acc.n + 1, first := none } }
    if 2 ^ fld cfg 4 4 ≤ s.hka.acc.n then scanResult s c cfg else s

/-- The urgent conversion that runs is over (16 R415, R416). -/
def urgentOver (s : State) (kind : Nat) : State :=
  let s := bump (wr (onHka s fun h => { h with conv := none }) F.HKA_STATUS_URGENT_ACTIVE 0) A.HKA_URGENTS
  if kind = 2 then raise (wr (wr s F.HKA_URGENT_REQ 0) F.HKA_STATUS_URG_HOST_BUSY 0) F.HKA_EVT_RAW_URG_DONE else s

/-- The raw code of an urgent result; a difference outside 16 bits is free (log entry 84). -/
def urgentRaw (s : State) (v : Int) : Nat × State :=
  if -(2 ^ 15) ≤ v ∧ v < 2 ^ 15 then (unsigned 16 v, s) else takeFree s 16

/-- An urgent result: one sample, linearised, to the host's registers, and to the GAL block (16 R415, R416; 10 R273). -/
def urgentResult (s : State) (v : HkaConv) (val : Int) (isOpen clamp ref : Bool) : State :=
  let valid := !(isOpen || clamp || ref)
  let x := linX s v.chan v.cfg val 0 0
  let y := linY s v.chan x
  let (raw, s) := urgentRaw s val
  let s := setReg (setReg s A.HKA_URG_RESULT y) (F.HKA_URG_RAW_RAW).addr (word (b2n valid * 2 ^ 31 + b2n isOpen * 2 ^ 30
    + b2n clamp * 2 ^ 29 + b2n ref * 2 ^ 27 + fld v.cfg 8 2 * 2 ^ 24 + v.chan * 2 ^ 16 + raw))
  let s := urgentOver (linFormed (openClear s v.chan isOpen) v.chan) v.kind
  let s := thmResult s v.chan valid x y
  if v.chan = 31 ∧ !isOpen then
    let (q, s) := toQ16 s y
    galSample (galPosition s q) v.tick val q
  else s

/-- The clamp and reference flags of a scan sample are kept (16 R421). -/
def scanFlags (s : State) (isOpen clamp ref : Bool) : State :=
  onHka s fun h => { h with acc := { h.acc with isOpen := h.acc.isOpen || isOpen, clamp := h.acc.clamp || clamp, ref := h.acc.ref || ref } }

/-- The hold instant of a conversion that would end now, 400 ns before, lies in a fire window of its channel, so that it is
deferred (16 R409, R417). -/
def holdDeferred (s : State) (v : HkaConv) : Bool :=
  let h := s.now - nsec 400
  bit v.cfg 26 && s.hka.fires.any fun e =>
    decide (e ≤ h + nsec (rd s F.HKA_BLANK_CFG_FIRE_PRE)) && decide (h ≤ e + nsec (rd s F.HKA_BLANK_CFG_FIRE_POST))

/-- HKA_CONVERSION_END: the conversion that runs completes with a raw code; `clamp` when a clamp conducted (16 R409, R412,
R415, R417, R418, R421, R422). -/
def hkaConversionEnd (code : Int) (clamp : Bool) (s : State) : State :=
  match s.hka.conv with
  | none => s
  | some v =>
    if !(hkaOn s) ∨ holdDeferred s v then s
    else
      let isOpen := rawOpen v.chan v.cfg code
      let clamp := clamp && decide (v.chan < 28)
      let ref := refFault s v.chan v.cfg
      let s := rawFlags s v.chan isOpen clamp
      let s := if v.kind = 0 then scanFlags s isOpen clamp ref else s
      match isDiode v.chan v.cfg, v.first with
      | true, none =>
        onHka s fun h => { h with conv := some { v with first := some code, clamp := clamp, at' := s.now },
                                  acc := if v.kind = 0 then { h.acc with first := some code } else h.acc }
      | d, f =>
        let val := if d then f.getD 0 - code else code
        if v.kind = 0 then hkaNext (scanSample (onHka s fun h => { h with conv := none }) v.chan v.cfg val)
        else hkaNext (urgentResult s v val isOpen (clamp || v.clamp) ref)

/-- HKA_CONVERSION_END (16 R409); the code is given in 16-bit two's complement. -/
def execHkaConversionEnd (t code : Nat) (clamp : Bool) (s : State) : Host.Outcome State Fault Refusal :=
  .next (hkaConversionEnd (signed 16 code) clamp (at' t s))

/-- BLANK_TIMEOUT: a deferred hold has not been taken within BLANK_MAX of the end of the nominal acquisition, 600 ns from
the start; the conversion has no sample (16 R409, R417, R421; log entry 84). -/
def blankTimeout (s : State) : State :=
  match s.hka.conv with
  | none => s
  | some v =>
    if !(hkaOn s) ∨ fld v.cfg 24 3 = 0 ∨ s.now < v.at' + nsec 600 + usec (rd s F.HKA_BLANK_CFG_BLANK_MAX) then s
    else
      let s := raise (bump s A.HKA_BLANK_TIMEOUTS) F.HKA_EVT_RAW_BLANK_TIMEOUT
      if v.kind = 0 then
        let k := s.hka.acc
        let y := reg s (A.HCH_RESULT v.chan)
        let s := placeResult (onHka s fun h => { h with conv := none }) v.chan y y k.isOpen k.clamp true k.ref
        hkaNext (roundNext s v.chan)
      else
        let s := setReg s (F.HKA_URG_RAW_RAW).addr (word (2 ^ 28 + fld v.cfg 8 2 * 2 ^ 24 + v.chan * 2 ^ 16 + rd s F.HKA_URG_RAW_RAW))
        let y := reg s A.HKA_URG_RESULT
        hkaNext (thmResult (urgentOver s v.kind) v.chan false y y)

/-- BLANK_TIMEOUT (16 R417). -/
def execBlankTimeout (t : Nat) (s : State) : Host.Outcome State Fault Refusal := .next (blankTimeout (at' t s))

/-- EXC_LIMIT: excitation output `k` enters current limit, or leaves it (16 R411). -/
def excLimit (k : Nat) (on : Bool) (s : State) : State :=
  if !(sysOn s) ∨ 2 ≤ k ∨ !(rdBit s F.HKA_EXC_CFG_EXC0.addr k) then s
  else
    let f := if k = 0 then F.HKA_STATUS_EXC0_LIMIT else F.HKA_STATUS_EXC1_LIMIT
    if on ∧ !(flag s f) then raise (wr s f 1) F.HKA_EVT_RAW_EXC_LIMIT else wrB s f on

/-- EXC_LIMIT (16 R411). -/
def execExcLimit (t k : Nat) (on : Bool) (s : State) : Host.Outcome State Fault Refusal := .next (excLimit k on (at' t s))

/-- LIN_LOAD_DONE: the copy of channel `c` has been made; a result that was in progress at the load keeps the old copy
(16 R420). -/
def linLoadDone (c : Nat) (s : State) : State :=
  match s.hka.loads.find? (fun l => l.1 = c) with
  | some (_, 0) => linInstall s c
  | some (_, 1) => onHka s fun h => { h with loads := h.loads.map fun l => if l.1 = c then (c, 2) else l }
  | _ => s

/-- LIN_LOAD_DONE (16 R420). -/
def execLinLoadDone (t c : Nat) (s : State) : Host.Outcome State Fault Refusal := .next (linLoadDone c (at' t s))

/-- HKA_STALE: no result of channel `c` for 2 × PERIOD_US (16 R421; 17 R446). -/
def hkaStale (c : Nat) (s : State) : State :=
  if !(sysOn s) ∨ 36 ≤ c ∨ flag s (F.HCH_STATUS_STALE c) ∨ s.now < pget 0 s.hka.last c + usec (2 * rd s F.HKA_ROUND_CFG_PERIOD_US) then s
  else
    let s := wr s (F.HCH_STATUS_STALE c) 1
    if rd s F.CAL_TEMP_SEL = c then calStale s else s

/-- HKA_STALE (16 R421). -/
def execHkaStale (t c : Nat) (s : State) : Host.Outcome State Fault Refusal := .next (hkaStale c (at' t s))

/-! ## Registers (16 R433, R434) -/

/-- The converter stops: the round and the conversion that run are dropped (log entry 84). -/
def hkaHalt (s : State) : State :=
  let s := wr (wr (wr s F.HKA_STATUS_IN_ROUND 0) F.HKA_STATUS_ROUND_QUEUED 0) F.HKA_STATUS_URGENT_ACTIVE 0
  onHka s fun h => { h with conv := none, due := false, chan := none, acc := HkaAcc.empty, galWait := false }

/-- The host asks for an urgent conversion: a scan conversion is aborted, a GAL conversion waited for (16 R415, R416). -/
def hostRequest (s : State) : State :=
  let s := wr s F.HKA_STATUS_URG_HOST_BUSY 1
  if s.hka.conv.any fun v => decide (v.kind = 0) then hkaNext (hkaAbort s) else hkaNext s

/-- Fields of a CH_CFG whose change restarts its channel: GAIN, REF, BURNOUT, DIODE (16 R423). -/
def cfgChanged (v d m : Word) : Bool := (v ^^^ d) &&& m ≠ 0#32

/-- The checks of a write to the HKA page; `d` is the data written. -/
def hkaCheck (a : Nat) (d : Word) (s : State) : Nat :=
  let gal := flag s F.GAL_CTRL_ENABLE
  if a = F.HKA_CTRL_ENABLE.addr then (if gal ∧ (!(bit d 0) ∨ bit d 1) then 0x04 else 0)
  else if a = F.HKA_URGENT_REQ.addr then (if bit d 31 ∧ flag s F.HKA_URGENT_REQ then 0x04 else 0)
  else if 0xC0100 ≤ a ∧ a < 0xC0580 ∧ a % 0x20 = 0 then
    let c := (a - 0xC0100) / 0x20
    if c = 31 ∧ gal ∧ cfgChanged (reg s a) d 0x00103300#32 then 0x04
    else if c < 8 ∧ bit d 20 ∧ bit d 21 then 0x03
    else 0
  else 0

/-- Coefficient copies start for the bits of a LIN_LOAD word (16 R420). -/
def linLoad (first : Nat) (d : Word) (s : State) : State :=
  (List.range 32).foldl (fun s i =>
    let c := first + i
    if bit d i ∧ c < 36 then
      let busy := decide (s.hka.chan = some c) || s.hka.conv.any fun v => decide (v.chan = c)
      onHka s fun h => { h with loads := h.loads.filter (fun l => l.1 ≠ c) ++ [(c, b2n busy)] }
    else s) s

/-- An excitation comes on: the channels that refer to it restart; its limit is over with it off (16 R411, R423). -/
def excAct (o s : State) (k : Nat) : State :=
  let on := rdBit s F.HKA_EXC_CFG_EXC0.addr k
  let was := rdBit o F.HKA_EXC_CFG_EXC0.addr k
  if on ∧ !was then
    (List.range 32).foldl (fun s c =>
      let cfg := reg s (A.HCH_CFG c)
      if fld cfg 12 2 = k + 1 ∧ !(isDiode c cfg) then chanRestart s c else s) s
  else if !on then wr s (if k = 0 then F.HKA_STATUS_EXC0_LIMIT else F.HKA_STATUS_EXC1_LIMIT) 0
  else s

/-- What a write to the HKA page does beside its registers; `o` is the state before it. -/
def hkaAct (a : Nat) (d : Word) (o s : State) : State :=
  if a = F.HKA_CTRL_ENABLE.addr then
    let s := if flag s F.HKA_CTRL_ENABLE then hkaNext s else hkaHalt s
    if bit d 2 then roundRequest s else s
  else if a = F.HKA_URGENT_REQ.addr then (if bit d 31 then hostRequest s else s)
  else if a = A.HKA_LIN_LOAD0 then linLoad 0 d s
  else if a = A.HKA_LIN_LOAD1 then linLoad 32 d s
  else if a = F.HKA_EXC_CFG_EXC0.addr then excAct o (excAct o s 0) 1
  else if 0xC0100 ≤ a ∧ a < 0xC0580 ∧ a % 0x20 = 0 ∧ cfgChanged (reg o a) (reg s a) 0x00303300#32 then
    chanRestart s ((a - 0xC0100) / 0x20)
  else s

/-- HKA.STATUS with RUNNING. -/
def hkaStatus (s : State) : Word := setFld (reg s F.HKA_STATUS_RUNNING.addr) 0 1 (b2n (hkaOn s))

/-- CH_AGE of channel `c`: microseconds since its last result, saturating (16 R434). -/
def hkaAge (s : State) (c : Nat) : Word :=
  if s.hka.last.any fun l => decide (l.1 = c) then word (min 0xFFFFF ((s.now - pget 0 s.hka.last c) / usec 1)) else 0xFFFFF#32

/-- SOFT_RESET of the HKA page: the coefficients return to y = x (16 R433). -/
def hkaReset (s : State) : State := { s with hka := Hka.empty }

end Sys2Proof.Machine
end

