-- ==== Sys2Proof/Machine/Mot.lean ====
section
/-!
DEFINITION. The polygon drive: Hall and index edges, the speed model, modes, phase lock and faults
(chapter 10, R267 to R271, R282 to R292, R297 to R299, R304).
-/

namespace Sys2Proof.Machine

/-! ## Faults (R297, R298) -/

/-- A MOT fault is latched, by its event; the latch has its bit one below the event's. -/
def motLatch (s : State) (f : Fld) : State := raise (wrBit s A.MOT_FAULT_LATCH (f.lo - 1) true) f

/-- A fault that removes torque at once: HALL_FAULT, OVERCURRENT or CUR_LOST (R298). -/
def motTrip (s : State) (f : Fld) : State := safMotor (torqueOff (motLatch s f)) .goes

/-- HALL_FAULT, with its count. -/
def hallFault (s : State) : State := motTrip (bump s A.MOT_HALL_FAULTS) F.MOT_EVT_RAW_HALL_FAULT

/-- IDX_LOST: the model is invalid, the speed source is HALL, and the polygon stops (R298). -/
def idxLost (s : State) : State :=
  safMotor (motStop (modelDrop (motLatch (bump s A.MOT_IDX_LOSSES) F.MOT_EVT_RAW_IDX_LOST))) .stops

/-- START_FAIL: torque is removed; emission is not permitted anyway (R298). -/
def startFailed (s : State) : State := safSpeedRefresh (torqueOff (motLatch s F.MOT_EVT_RAW_START_FAIL))

/-! ## Hall edges (R269, R281, R286) -/

/-- The Hall sector of a pattern in the direction of rotation; none for an invalid pattern (R281). -/
def hallSector (s : State) (p : Nat) : Option Nat :=
  match (List.range 6).find? fun i => fld (reg s A.MOT_HALL_MAP) (3 * i) 3 = p with
  | some i => some (if flag s F.MOT_GEOM_DIR then (6 - i) % 6 else i)
  | none => none

/-- A change of pattern is a HALL_FAULT in a mode other than OFF and ALIGN: invalid, not adjacent, or a reversal above
OPEN_RPM (R297). -/
def hallBad (s : State) (old new : Option Nat) : Bool :=
  decide (2 ≤ motMode s) &&
    (match old, new with
     | some a, some b => if b = (a + 1) % 6 then false
                         else if a = (b + 1) % 6 then decide (openRpm s < hallSpeed s s.now) else true
     | _, _ => true)

/-- The edge is in sequence. -/
def hallForward (old new : Option Nat) : Bool :=
  match old, new with
  | some a, some b => b = (a + 1) % 6
  | _, _ => false

/-- OPEN_SPIN_END: at a Hall edge at or above OPEN_RPM with 6 edges in sequence the polygon goes on to SPEED (R286). -/
def openSpinEnd (s : State) : State :=
  if motMode s = 2 ∧ 3 ≤ s.ctl.mot.goal ∧ 6 ≤ s.ctl.mot.seq ∧ openRpm s ≤ hallSpeed s s.now then setMode s 3 else s

/-- HALL_EDGE: the filtered Hall pattern becomes `p` (R269). -/
def hallEdge (p : Nat) (s : State) : State :=
  if !(sysOn s) ∨ p = s.ctl.mot.pattern then s
  else
    let old := hallSector s s.ctl.mot.pattern
    let new := hallSector s p
    let bad := hallBad s old new
    let e := s.now / 1280 * 1280
    let s := hallRenew (onMot (bump s A.MOT_HALL_EDGES) fun m => { m with
      pattern := p, hall := if m.edges = 0 then 0 else e - m.edge, edges := if m.left then min 2 (m.edges + 1) else 0, edge := e,
      seq := if hallForward old new then m.seq + 1 else 0 })
    let s := if bad then hallFault s else openSpinEnd s
    safSpeedSample s false

/-- HALL_EDGE_TIMEOUT: no Hall edge has come within 4 intervals while the Hall speed is above OPEN_RPM (R297). -/
def hallEdgeTimeout (s : State) : State :=
  let m := s.ctl.mot
  if 2 ≤ motMode s ∧ m.edges = 2 ∧ m.edge + 4 * m.hall ≤ s.now ∧ openRpm s < hallSpeed s s.now then hallFault s else s

/-! ## The speed model (R282, R283) -/

/-- The words and fields that show the facet and the prediction. -/
def facetShow (s : State) : State :=
  let m := s.ctl.mot
  setWide (wr (wr s F.MOT_FACET_NOW_F m.f) F.MOT_FACET_NOW_K m.k) A.MOT_PRED_LO m.pred

/-- A wide pulse opened the present facet: it is facet 0; at another count it is an IDX_LOST, after which the run of edges that a
valid model needs starts again (R282, R283, R297). -/
def markWide (s : State) : State :=
  if flag s F.MOT_GEOM_IDX_MARK ∧ s.ctl.mot.f ≠ 0 then
    let valid := modelValid s
    let s := facetShow (onMot s fun m => { m with f := 0, run := 0 })
    if valid then idxLost s else raise s F.MOT_EVT_RAW_IDX_LOST
  else s

/-- The pulse that awaits its fall at this edge is judged wide (R270). -/
def idxUnfallen (s : State) : State :=
  match s.ctl.mot.rise with
  | some (_, some _) => markWide (onMot s fun m => { m with rise := none })
  | _ => s

/-- IDX_FALLING_EDGE: the pulse is judged against IDX_MARK_FRAC of the facet that its rise closed; an edge while TDC0 is unlocked
is discarded (R270). -/
def idxFallingEdge (s : State) : State :=
  match s.ctl.mot.rise with
  | none => s
  | some (r, closed) =>
    if !(sysOn s) ∨ s.clk.discard.contains 0 then s
    else
    let s := onMot s fun m => { m with rise := none }
    match closed with
    | some c => if rd s F.MOT_IDX_MARK_FRAC * c < (s.now - r) * 65536 then markWide s else s
    | none => s

/-- The period predicted for the facet that the last edge opens, in 2^-16 LSB (R283). -/
def predict (s : State) : Nat :=
  let l := s.ctl.mot.idx
  let n := rd s F.MOT_GEOM_FACETS
  let per (i : Nat) : Int := (l.getD i 0 : Int) - (l.getD (i + 1) 0 : Int)
  let p := if n + 1 ≤ s.ctl.mot.since then per (n - 1) + (per 0 - per n) else per 0
  p.toNat * 65536

/-- SOURCE 0x072: the facet period minus its prediction, in ps (02 R61). -/
def sampleFacet (s : State) (period : Nat) : State :=
  monSample s 0x072 0 (rnd (((period : Int) * 65536 - (s.ctl.mot.pred : Int)) * 390625) 6553600000)

/-- The edge counts toward a valid model, or renews the prediction of a valid one. The model falls when the speed source falls from
INDEX to HALL (R282, R283, R284). -/
def modelEdge (s : State) : State :=
  let n := rd s F.MOT_GEOM_FACETS
  if motMode s < 3 then onMot s fun m => { m with run := 0 }
  else
    let s := onMot s fun m => { m with run := m.run + 1, since := m.since + 1 }
    let fast := decide (openRpm s ≤ indexSpeed s)
    if modelValid s then
      if !fast ∧ flag s F.MOT_STATUS_SPEED_SRC then modelDrop s
      else onMot (wrB s F.MOT_STATUS_SPEED_SRC fast) fun m => { m with pred := predict s }
    else if 2 * n ≤ s.ctl.mot.run then
      let s := wrB (wr s F.MOT_STATUS_MODEL_VALID 1) F.MOT_STATUS_SPEED_SRC fast
      let s := onMot s fun m => { m with since := 0, k := 0, f := if flag s F.MOT_GEOM_IDX_MARK then m.f else 0 }
      onMot s fun m => { m with pred := predict s }
    else s

/-! ## Phase (R289 to R291) -/

/-- A Q28.4 number of nanoseconds. -/
abbrev q4 (n : Nat) : Int := (n : Int) * 16

/-- The reference has no instants to follow: it lies on the held counter (13 R537). -/
def refHeld (s : State) : Bool := decide (s.ntm.mode = .held) && (decide (refMode s = 1) || genlockHeld s)

/-- A reference instant near an edge; FREE before its first frame has a free origin (07 R180; log entry 36). -/
def refFor (s : State) (t : Nat) : Int × State :=
  match refNear s t with
  | some r => (r, s)
  | none =>
    let x := takeFree s 40
    let o := t - x.1
    let s := onMot x.2 fun m => { m with origin := some o }
    ((refNear s t).getD o, s)

/-- The error of the present edge in 2^-36 ns, and the facets between its reference instant and it (R290). -/
def edgeError (s : State) (t r : Int) : Int × Int :=
  let ff := frameFacets s
  let ofs := sword (reg s A.SCN_PHASE_OFS) * 2 ^ 32 * ff
  let per : Int := max 1 (acqPeriod s)
  let d := (t - r) * 2 ^ 24 * ff
  if flag s F.ACQ_STATUS_RUNNING then (rnd ((d - s.ctl.mot.k * per - ofs) * 16) ff, 0)
  else
    let x := d - ofs
    (rnd ((x - rnd x per.toNat * per) * 16) ff, rnd d per.toNat)

/-- The reference instant of the edge: while acquisition runs the one paired with its frame, which is the nearest to the edge of
facet 0 (07 R181); else the nearest to the edge (R290). -/
def edgeRef (s : State) (t : Nat) : Int × State :=
  if flag s F.ACQ_STATUS_RUNNING then
    match s.ctl.mot.pairR with
    | some r =>
      if s.ctl.mot.k ≠ 0 then (r, s)
      else
        let x := refFor s t
        (x.1, onMot x.2 fun m => { m with pairR := some x.1 })
    | none =>
      let x := refFor s (t - s.ctl.mot.k * (acqPeriod s / frameFacets s) / 2 ^ 24)
      (x.1, onMot x.2 fun m => { m with pairR := some x.1 })
  else refFor (onMot s fun m => { m with pairR := none }) t

/-- An edge error joins the mean y, which PHASE_ERR shows (R290). -/
def phaseInput (s : State) : State :=
  let t := s.now
  let r := edgeRef s t
  let s := r.2
  let e := (edgeError s t r.1).1
  let s := onMot s fun m => { m with errs := (e :: m.errs).take (rd s F.MOT_GEOM_FACETS) }
  setReg s A.SCN_PHASE_ERR (iword (rnd (s.ctl.mot.errs.foldl (· + ·) 0) (2 ^ 32 * s.ctl.mot.errs.length)))

/-- PHASE_ENTRY: the slew starts from y; with acquisition stopped, facets are renumbered within frames from the next edge on
(R290, R291). -/
def phaseEnter (s : State) : State :=
  let s := wr s F.MOT_STATUS_PHASE_PENDING 0
  let s := onMot s fun m => { m with errs := [] }
  let s :=
    if flag s F.ACQ_STATUS_RUNNING then s
    else
      let r := edgeRef s s.now
      let q := (edgeError r.2 s.now r.1).2
      onMot r.2 fun m => { m with renum := some (q % (frameFacets s : Int)).toNat }
  let s := phaseInput s
  let s := onMot s fun m => { m with phase := sword (reg s A.SCN_PHASE_ERR), good := 0, bad := 0 }
  setMode s 4

/-- PHASE_LOCK: |y| is counted at an edge whose set-point is 0 (R291). -/
def lockJudge (s : State) : State :=
  let y := (sword (reg s A.SCN_PHASE_ERR)).natAbs
  let tol := 16 * rd s F.SCN_PHASE_CFG_LOCK_TOL
  let s := onMot s fun m => { m with good := if y ≤ tol then m.good + 1 else 0, bad := if 4 * tol < y then m.bad + 1 else 0 }
  if 4 ≤ s.ctl.mot.bad then
    let had := flag s F.MOT_STATUS_PHASE_LOCK
    let s := onMot (wr s F.MOT_STATUS_PHASE_LOCK 0) fun m =>
      { m with phase := sword (reg s A.SCN_PHASE_ERR), good := 0, bad := 0 }
    if had then raise s F.SCN_EVT_RAW_PHASE_UNLOCK else s
  else if rd s F.SCN_PHASE_CFG_LOCK_FACETS ≤ s.ctl.mot.good ∧ !(flag s F.MOT_STATUS_PHASE_LOCK) then
    raise (wr s F.MOT_STATUS_PHASE_LOCK 1) F.SCN_EVT_RAW_PHASE_LOCK
  else s

/-- What an index edge does in PHASE (R290, R291; 13 R537). -/
def phaseEdge (s : State) : State :=
  if refHeld s then onMot (wr s F.MOT_STATUS_PHASE_LOCK 0) fun m => { m with good := 0, bad := 0 }
  else
    let s := phaseInput s
    if s.ctl.mot.phase = 0 then lockJudge s
    else onMot s fun m => { m with phase := approach m.phase 0 (q4 (rd s F.SCN_PHASE_SLEW)) }

/-- The revolution speed lies within 0.1 % of the frame-derived speed (R289). -/
def inWindow (s : State) : Bool :=
  decide (1000 * ((indexSpeed s : Int) - (frameSpeed s : Int)).natAbs ≤ frameSpeed s)

/-- The edges in the window in a row, up to 100 (R289). -/
def windowEdge (s : State) : State :=
  onMot s fun m => { m with window := if modelValid s && inWindow s then min 100 (m.window + 1) else 0 }

/-- What an index edge does in SPEED while PHASE is pending (R289). -/
def pendingEdge (s : State) : State :=
  if 100 ≤ s.ctl.mot.window ∧ modelValid s ∧ !(refHeld s) then phaseEnter s else s

/-! ## Index edges (R270, R282) -/

/-- FACET_SCHEDULE: a facet of the frame beyond the first, below the interlace count, is swept (04 R105, R107). -/
def facetSweep (s : State) : State :=
  let m := s.ctl.mot
  let s := { s with esc := { s.esc with facet := m.k } }
  if modelValid s ∧ s.esc.active ∧ !(isStare s) ∧ m.k ≠ 0 ∧ m.k < ilCount s then
    addSweep s ⟨s.now, m.pred, false, s.now + (m.pred + 65535) / 65536 - nsec 200, none, m.k, m.k, m.f,
      rdWide s A.ACQ_FRAME_NUM_LO, rd s F.ESC_FRAME_CFG_COLUMNS_M1 + 1, false⟩
  else s

/-- The interlace position that the Escapement passes at a facet boundary (04 R105). -/
def facetIl (s : State) : Nat := if s.ctl.mot.k < ilCount s then s.ctl.mot.k else 0

/-- The edge is registered: its period, the facet numbers and the list of edges (R270, R282). -/
def idxRegister (s : State) : State :=
  let t := s.now
  let m := s.ctl.mot
  let n := rd s F.MOT_GEOM_FACETS
  let closed := m.idx.head?.map fun p => t - p
  let s := match closed with
    | some c => if modelValid s then sampleFacet s c else s
    | none => s
  onMot (bump s A.MOT_IDX_EDGES) fun m => { m with
    idx := (t :: m.idx).take (n + 2), rise := some (t, closed), f := (m.f + 1) % max 1 n, k := ((m.renum.getD m.k) + 1) % frameFacets s,
    renum := none }

/-- IDX_RISING_EDGE: a facet boundary is registered (R270, R282, R283; 04 R105, R108; 03 R90). -/
def idxRisingEdge (s : State) : State :=
  if !(sysOn s) ∨ s.clk.discard.contains 0 then s
  else
    let s := tduEvent s 0x230 s.now
    let s := modelEdge (idxRegister (idxUnfallen s))
    let s := windowEdge (if isStare s then s else endSweeps s s.now)
    let s := if motMode s = 4 then phaseEdge s
             else if motMode s = 3 ∧ flag s F.MOT_STATUS_PHASE_PENDING then pendingEdge s else s
    let s := facetShow s
    let s := if modelValid s then galBoundary s.now (facetIl s) s else s
    safSpeedSample (facetSweep s) true

/-- IDX_LOST: no index edge has come within 1.5 of the predicted period (R297). -/
def idxLostEvent (s : State) : State :=
  match s.ctl.mot.idx.head? with
  | some t => if modelValid s ∧ 2 * 65536 * t + 3 * s.ctl.mot.pred ≤ 2 * 65536 * s.now then idxLost s else s
  | none => s

/-! ## Modes (R286, R288) -/

/-- ALIGN_END: ALIGN_MS has passed; the pattern must be that of sector 0 or 5 (R286). -/
def alignEnd (s : State) : State :=
  if motMode s = 1 ∧ 2 ≤ s.ctl.mot.goal ∧ s.ctl.mot.stepAt + msec (rd s F.MOT_ALIGN_ALIGN_MS) ≤ s.now then
    match hallSector s s.ctl.mot.pattern with
    | some 0 => setMode s 2
    | some 5 => setMode s 2
    | _ => startFailed s
  else s

/-- START_FAIL: OPEN_MAX_MS has passed in OPEN_SPIN (R286). -/
def startFailEvent (s : State) : State :=
  if motMode s = 2 ∧ 3 ≤ s.ctl.mot.goal ∧ s.ctl.mot.stepAt + msec (rd s F.MOT_OPEN_OPEN_MAX_MS) ≤ s.now then startFailed s
  else s

/-- STANDSTILL: no Hall edge for 100 ms with a set-point of 0 (R288). -/
def standstillEvent (s : State) : State :=
  if flag s F.MOT_STATUS_STOPPING ∧ motMode s = 3 ∧ s.ctl.mot.sp = 0 ∧ hallQuiet s s.ctl.mot.stepAt then motStandstill s else s

/-- COASTING_CLEAR: no Hall edge for 100 ms (R298). -/
def coastingClear (s : State) : State :=
  if flag s F.MOT_STATUS_COASTING ∧ hallQuiet s 0 then wr s F.MOT_STATUS_COASTING 0 else s

/-- A request for a mode at or above the one in force, or for a step to be held (R286, R289). -/
def modeRaise (s : State) (m : Nat) : State :=
  let cur := motMode s
  let s := wrB s F.MOT_STATUS_PHASE_PENDING (decide (m = 4) && decide (cur ≠ 4))
  let held := decide (s.ctl.mot.goal = cur)
  let s := onMot s fun x => { x with
    goal := m, lower := none, stepAt := if held && decide (cur < m) then s.now else x.stepAt }
  if cur = 0 then setMode s 1 else s

/-- A request for a lower mode takes effect at the next tick of slot 2 (R286). -/
def modeLower (s : State) (m : Nat) : State :=
  onMot (wr s F.MOT_STATUS_PHASE_PENDING 0) fun x => { x with goal := m, lower := some m }

/-- MODE_REQ is written (R286). -/
def modeRequest (s : State) (m : Nat) : State :=
  safSpeedRefresh (if m = 0 then torqueOff s else if motMode s ≤ m then modeRaise s m else modeLower s m)

/-- The scan mode allows a polygon mode (01 R31). -/
def modeAllowed (s : State) (m : Nat) : Bool := !(isStare s) || decide (m = 0)

/-- MODE_REQ is refused (R288, R304). -/
def modeRefused (s : State) (m : Nat) : Bool :=
  flag s F.MOT_STATUS_STOPPING ||
    (decide (m ≠ 0) && (decide (reg s A.MOT_FAULT_LATCH ≠ 0#32) || !(flag s F.SCN_CTRL_ENABLE) || !(flag s F.MOT_CTRL_ENABLE)
      || !(modeAllowed s m)))

/-- A Hall map holds each of 1 to 6 once. -/
def mapGood (d : Word) : Bool := (List.range 6).all fun v => (List.range 6).any fun i => fld d (3 * i) 3 = v + 1

/-- The channels of the phase currents (R271). -/
def curChans (s : State) : List Nat :=
  [rd s F.MOT_CUR_SRC_CH_A, rd s F.MOT_CUR_SRC_CH_B] ++ if flag s F.MOT_CUR_SRC_THREE then [rd s F.MOT_CUR_SRC_CH_C] else []

/-- The bits of MOT.FAULT_LATCH whose cause is still present: HALL_FAULT while the pattern is invalid, OVERCURRENT while a phase
sample is at or above I_TRIP, GALV while a GAL fault is latched (R299). -/
def motCauses (s : State) : Nat :=
  b2n ((hallSector s s.ctl.mot.pattern).isNone) * 2
    + b2n ((curChans s).any fun c => decide (rd s F.MOT_I_TRIP ≤ (sword (reg s (A.SDC_OUT c))).natAbs)) * 4
    + b2n (decide (reg s A.GAL_FAULT_LATCH ≠ 0#32)) * 2 ^ 5

/-- The bits of MOT.FAULT_LATCH that a write of 1 leaves set: the cause is present or the drive is not idle; for GALV the
galvanometer's ENABLE counts (R299). -/
def motStays (s : State) : Word :=
  word (motCauses s) ||| (if motMode s ≠ 0 then 0x1F#32 else 0#32) ||| (if flag s F.GAL_CTRL_ENABLE then 0x20#32 else 0#32)

/-- The checks of a write to the MOT page. -/
def motCheck (a : Nat) (d : Word) (s : State) : Nat :=
  let off := decide (motMode s = 0)
  if a = (F.MOT_MODE_REQ).addr then (if modeRefused s (fld d 0 3) then 0x04 else 0)
  else if (a = (F.MOT_GEOM_FACETS).addr ∨ a = (F.MOT_CUR_SRC_CH_A).addr) ∧ !off then 0x04
  else if a = A.MOT_HALL_MAP ∧ !(mapGood d) then 0x03
  else if a = (F.MOT_CTRL_ENABLE).addr ∧ bit d 1 ∧ (!off ∨ flag s F.MOT_STATUS_COASTING) then 0x04
  else 0

/-- What a write to the MOT page does beside its registers. -/
def motAct (a : Nat) (s : State) : State :=
  if a = (F.MOT_MODE_REQ).addr then modeRequest s (rd s F.MOT_MODE_REQ)
  else if a = (F.MOT_CTRL_ENABLE).addr ∧ !(flag s F.MOT_CTRL_ENABLE) then safSpeedRefresh (torqueOff s)
  else s

/-- SOFT_RESET of the MOT page; the Hall pattern and the instant of its last edge are the pins'. -/
def motReset (s : State) : State :=
  onMot s fun m => { Mot.empty with pattern := m.pattern, edge := m.edge }

/-- HALL_EDGE (R269). -/
def execHallEdge (t p : Nat) (s : State) : Host.Outcome State Fault Refusal := .next (hallEdge p (at' t s))

/-- HALL_EDGE_TIMEOUT (R297). -/
def execHallEdgeTimeout (t : Nat) (s : State) : Host.Outcome State Fault Refusal := .next (hallEdgeTimeout (at' t s))

/-- IDX_RISING_EDGE (R270). -/
def execIdxRisingEdge (t : Nat) (s : State) : Host.Outcome State Fault Refusal := .next (idxRisingEdge (at' t s))

/-- IDX_FALLING_EDGE (R270). -/
def execIdxFallingEdge (t : Nat) (s : State) : Host.Outcome State Fault Refusal := .next (idxFallingEdge (at' t s))

/-- IDX_LOST (R297). -/
def execIdxLost (t : Nat) (s : State) : Host.Outcome State Fault Refusal := .next (idxLostEvent (at' t s))

/-- ALIGN_END (R286). -/
def execAlignEnd (t : Nat) (s : State) : Host.Outcome State Fault Refusal := .next (alignEnd (at' t s))

/-- START_FAIL (R286). -/
def execStartFail (t : Nat) (s : State) : Host.Outcome State Fault Refusal := .next (startFailEvent (at' t s))

/-- STANDSTILL (R288). -/
def execStandstill (t : Nat) (s : State) : Host.Outcome State Fault Refusal := .next (standstillEvent (at' t s))

/-- COASTING_CLEAR (R298). -/
def execCoastingClear (t : Nat) (s : State) : Host.Outcome State Fault Refusal := .next (coastingClear (at' t s))

end Sys2Proof.Machine
end

