-- ==== Sys2Proof/Machine/Sdf.lean ====
section
/-!
DEFINITION. The sigma-delta current feedback chain (chapter 11).
-/

namespace Sys2Proof.Machine

/-- A channel's filter. -/
def sdfChan (s : State) (c : Nat) : SdfChan := pget SdfChan.empty s.sdf c

/-- The state with a channel's filter set. -/
def setSdf (s : State) (c : Nat) (x : SdfChan) : State := { s with sdf := pset SdfChan.empty s.sdf c x }

/-- Order N and log2 D that a CH_CFG word gives (R310). -/
def sdfOrder (w : Word) : Nat := match fld w 16 3 with
  | 0 => 3
  | 1 => 4
  | 2 => 5
  | 3 => 5
  | _ => fld w 8 3
def sdfLog (w : Word) : Nat := match fld w 16 3 with
  | 0 => 4
  | 1 => 6
  | 2 => 8
  | 3 => 10
  | _ => fld w 0 4

/-- The direction of SDM_CLK in force: true for RECEIVE (R306). -/
def sdfReceive (s : State) : Bool :=
  if flag s F.PAIR_CTRL_ENABLE then flag s F.PAIR_ROLE_PAIR_ID || flag s F.PAIR_STATUS_ID_CLASH else flag s F.SDF_CFG_CLK_DIR

/-- The clock is driven in DRIVE while the block is enabled and the domain runs (R306). -/
def sdfClock (s : State) : State :=
  if sdfReceive s then s else wrB s F.SDF_STATUS_CLK_OK (sysOn s && flag s F.SDF_CTRL_ENABLE)

/-- Channel `c` filters. -/
def sdfRuns (s : State) (c : Nat) : Bool :=
  sysOn s && flag s F.SDF_CTRL_ENABLE && flag s F.SDF_STATUS_CLK_OK && flag s (F.SDC_CFG_ENABLE c)

/-- Channel `c` is STUCK. -/
def sdfStuck (s : State) (c : Nat) : Bool := (rd s F.SDF_STATUS_STUCK).testBit c

/-- A start of a channel (R311). -/
def sdfStart (s : State) (c : Nat) : State :=
  let n := sdfOrder (reg s (A.SDC_CFG c))
  bump (setReg (setSdf s c ⟨List.replicate n 0, List.replicate n 0, n, false, 0, 0, [], s.now⟩) (A.SDC_ENV c) 0#32) (A.SDC_STARTS c)

/-- A start of every enabled channel. -/
def sdfStartAll (s : State) : State :=
  (List.range 8).foldl (fun s c => if flag s (F.SDC_CFG_ENABLE c) then sdfStart s c else s) s

/-- The output of channel `c` is valid (R312). -/
def sdfValid (s : State) (c : Nat) : Bool :=
  sdfRuns s c && !(sdfStuck s c) && decide ((sdfChan s c).left = 0) && (sdfChan s c).have'

/-- The sum of the integrators' new values along the chain. -/
def integrate : List Int → Int → List Int
  | [], _ => []
  | a :: r, x => (a + x) :: integrate r (a + x)

/-- The combs: the output, and the delays they hold. -/
def combs : List Int → Int → Int × List Int
  | [], x => (x, [])
  | d :: r, x =>
    let y := combs r (x - d)
    (y.1, x :: y.2)

/-- A stage's value, wrapped as the exact result needs (R309). -/
def wrapStage (n l : Nat) (v : Int) : Int := signed (n * l + 2) (unsigned (n * l + 2) v)

/-- Two channels sample the same pin on the same edge (R307). -/
def samePin (s : State) (c d : Nat) : Bool :=
  decide (reg s (A.SDC_CFG c) &&& 0x47000000#32 = reg s (A.SDC_CFG d) &&& 0x47000000#32)

/-- Samples of channel `c`'s pin since those known: every running channel of the pin and edge takes those since its start
(R307, log entry 33). -/
def sdfSamples (s : State) (c : Nat) (bits : List Bool) : State :=
  let period := nsec (if flag s F.SDF_CFG_CLK_SEL then 100 else 50)
  (List.range 8).foldl (fun s d =>
    if sdfRuns s d ∧ samePin s c d then
      let x := sdfChan s d
      let n := if d = c then bits.length else (s.now - x.since) / period
      setSdf s d { x with bits := x.bits ++ bits.drop (bits.length - n) }
    else s) s

/-- Samples pass the filter: the channel's stages after one output, and the raw output (R309). -/
def sdfFilter (w : Word) (x : SdfChan) (bits : List Bool) : SdfChan × Int :=
  let n := sdfOrder w
  let l := sdfLog w
  let integ := (bits.take (2 ^ l)).foldl (fun a b => (integrate a (if b ≠ bit w 29 then 1 else -1)).map (wrapStage n l)) x.integ
  let y := combs x.comb (integ.getLastD 0)
  ({ x with integ := integ, comb := y.2.map (wrapStage n l) }, wrapStage n l y.1)

/-- A detector flag of a channel is set where its value exceeds its threshold (R314). -/
def detFlag (s : State) (c v th : Nat) (f : Fld) : State :=
  if th < v ∧ !(flag s f) then raiseAt (wr s f 1) F.SDF_EVT_RAW_DET_OVER c else s

/-- The peak and envelope detectors take an output (R314). -/
def peakEnv (s : State) (c m : Nat) : State :=
  let p := max m (rd s (F.SDC_PEAK_PEAK c))
  let e0 := rd s (F.SDC_ENV c)
  let e := max m (e0 - e0 / 2 ^ rd s (F.SDC_DET_CFG_DECAY c))
  let s := wr (wr s (F.SDC_PEAK_PEAK c) p) (F.SDC_ENV c) e
  detFlag (detFlag s c p (rd s (F.SDC_PEAK_TH c)) (F.SDC_DET_FLAGS_PEAK_OVER c)) c e (rd s (F.SDC_ENV_TH c))
    (F.SDC_DET_FLAGS_ENV_OVER c)

/-- The RMS detector takes an output, and is renewed at the end of its window (R314). -/
def rmsDet (s : State) (c m : Nat) : State :=
  let x := sdfChan s c
  let w := 2 ^ rd s (F.SDC_DET_CFG_RMS_WIN c)
  if x.count + 1 < w then setSdf s c { x with sum := x.sum + m * m, count := x.count + 1 }
  else
    let r := (isqrt (4 * (x.sum + m * m) / w) + 1) / 2
    let s := wr (setSdf s c { x with sum := 0, count := 0 }) (F.SDC_RMS c) r
    detFlag s c r (rd s (F.SDC_RMS_TH c)) (F.SDC_DET_FLAGS_RMS_OVER c)

/-- A phase sample at or above I_TRIP is an OVERCURRENT (10 R297). -/
def overcurrent (s : State) (c m : Nat) : State :=
  if (curChans s).contains c ∧ rd s F.MOT_I_TRIP ≤ m then motTrip s F.MOT_EVT_RAW_OVERCURRENT else s

/-- An output is delivered (R311, R314). -/
def sdfDeliver (s : State) (c : Nat) (y : Int) : State :=
  let m := y.natAbs
  let s := setReg (setSdf s c { sdfChan s c with have' := true }) (A.SDC_OUT c) (iword y)
  let s := wr s (F.SDC_STATUS_COUNT c) (rd s (F.SDC_STATUS_COUNT c) + 1)
  overcurrent (rmsDet (peakEnv s c m) c m) c m

/-- SDF_OUTPUT: a decimation of channel `c` completes, with the samples of its pin and edge since those that an output of any channel
of that pin and edge has brought (R307, R309, R311). -/
def sdfOutput (c : Nat) (bits : List Bool) (s : State) : State :=
  if c < 8 ∧ sdfRuns s c then
    let w := reg s (A.SDC_CFG c)
    let s := sdfSamples s c bits
    let x := sdfChan s c
    let d := 2 ^ sdfLog w
    let r := sdfFilter w { x with bits := x.bits.drop d } x.bits
    if x.bits.length < d then s
    else if r.1.left ≠ 0 then setSdf s c { r.1 with left := r.1.left - 1 }
    else
      let s := setSdf s c r.1
      if sdfStuck s c then s else sdfDeliver s c (rnd (r.2 * 65536) (2 ^ (sdfOrder w * sdfLog w)))
  else s

/-- SDF_STUCK: the pin has shown no transition for 128 clocks (R308). -/
def sdfStick (c : Nat) (s : State) : State :=
  if c < 8 ∧ sdfRuns s c ∧ !(sdfStuck s c) then
    raiseAt (wr s F.SDF_STATUS_STUCK (rd s F.SDF_STATUS_STUCK + 2 ^ c)) F.SDF_EVT_RAW_STUCK c
  else s

/-- SDF_UNSTUCK: transitions return, and the channel restarts (R308, R311). -/
def sdfUnstick (c : Nat) (s : State) : State :=
  if c < 8 ∧ sdfStuck s c then sdfStart (wr s F.SDF_STATUS_STUCK (dropBit (rd s F.SDF_STATUS_STUCK) c)) c else s

/-- CLK_LOST: no edge of SDM_CLK for 1 µs in RECEIVE (R306). -/
def sdfClkLost (s : State) : State :=
  if sysOn s ∧ sdfReceive s ∧ flag s F.SDF_STATUS_CLK_OK then raise (wr s F.SDF_STATUS_CLK_OK 0) F.SDF_EVT_RAW_CLK_LOST else s

/-- SDM_CLK_RETURN: edges return, and the channels restart (R306, R311). -/
def sdfClkReturn (s : State) : State :=
  if sysOn s ∧ sdfReceive s ∧ !(flag s F.SDF_STATUS_CLK_OK) then sdfStartAll (wr s F.SDF_STATUS_CLK_OK 1) else s

/-! ## Registers (R311, R313, R315, R316) -/

/-- The stages of a channel start over with these configuration words, in force and new (R311). -/
def sdfRestarts (o n : Word) : Bool :=
  bit n 31 && (!(bit o 31) || decide (n &&& 0x6707070F#32 ≠ o &&& 0x6707070F#32))

/-- The COMMIT check of the SDF page (R313). -/
def sdfCommitCheck (s : State) : Nat :=
  if motMode s ≠ 0 ∧ (curChans s).any fun c => sdfRestarts (reg s (A.SDC_CFG c)) (shadowReg s (A.SDC_CFG c)) then 0x04 else 0

/-- A commit starts the channels it changes (R311). -/
def sdfCommitted (o s : State) : State :=
  (List.range 8).foldl (fun s c => if sdfRestarts (reg o (A.SDC_CFG c)) (reg s (A.SDC_CFG c)) then sdfStart s c else s) s

/-- The checks of a write to the SDF page (R306, R313). -/
def sdfCheck (a : Nat) (d : Word) (s : State) : Nat :=
  let moving := decide (motMode s ≠ 0)
  if a = (F.SDF_CFG_CLK_SEL).addr ∧ moving then 0x04
  else if a = (F.SDF_CFG_CLK_SEL).addr ∧ flag s F.PAIR_CTRL_ENABLE then 0x04
  else if a = (F.SDF_CTRL_ENABLE).addr ∧ moving ∧ (!(bit d 0) ∨ bit d 1) then 0x04
  else 0

/-- What a write to the SDF page does beside its registers. -/
def sdfAct (a : Nat) (d : Word) (o s : State) : State :=
  if a = (F.SDF_CTRL_ENABLE).addr then
    let s := sdfClock s
    if flag s F.SDF_CTRL_ENABLE ∧ !(flag o F.SDF_CTRL_ENABLE) then sdfStartAll s else s
  else if a = (F.SDF_CFG_CLK_SEL).addr ∧ reg o a ≠ reg s a then sdfStartAll (sdfClock s)
  else if a = A.SDC_PEAK ((a - 0x83100) / 0x40) ∧ bit d 31 then wr s (F.SDC_PEAK_PEAK ((a - 0x83100) / 0x40)) 0
  else s

/-- The direction in force has changed with the pair: a start of every enabled channel, the clock as the new direction finds
it (R306, R311). -/
def sdfRedirect (o s : State) : State :=
  if sdfReceive o = sdfReceive s then s
  else sdfStartAll (sdfClock (if sdfReceive s then wr s F.SDF_STATUS_CLK_OK 0 else s))

/-- The domain starts: every enabled channel starts (R311). -/
def sdfReady (s : State) : State := sdfStartAll (sdfClock s)

/-- The domain stops. -/
def sdfStopped (s : State) : State := wr s F.SDF_STATUS_CLK_OK 0

/-- SOFT_RESET of the SDF page: nothing filters. -/
def sdfReset (s : State) : State := { s with sdf := [] }

/-- CH_STATUS of a channel. -/
def sdcStatus (s : State) (c : Nat) : Word :=
  word (b2n (sdfValid s c) * 2 ^ 31 + b2n (decide ((sdfChan s c).left ≠ 0)) * 2 ^ 30 + b2n (sdfStuck s c) * 2 ^ 29
    + (sdfChan s c).left * 2 ^ 16 + rd s (F.SDC_STATUS_COUNT c))

/-- The mask of the channels with a property. -/
def sdfMask (f : Nat → Bool) : Nat := (List.range 8).foldl (fun n c => if f c then n + 2 ^ c else n) 0

/-- SDF.STATUS. -/
def sdfStatus (s : State) : Word :=
  word (b2n (sdfReceive s) * 2 ^ 25 + b2n (flag s F.SDF_STATUS_CLK_OK) * 2 ^ 24 + rd s F.SDF_STATUS_STUCK * 2 ^ 16
    + sdfMask (fun c => decide ((sdfChan s c).left ≠ 0)) * 2 ^ 8 + sdfMask (sdfValid s))

/-- SDF_OUTPUT (R309). -/
def execSdfOutput (t c : Nat) (bits : List Bool) (s : State) : Host.Outcome State Fault Refusal :=
  .next (sdfOutput c bits (at' t s))

/-- SDF_STUCK (R308). -/
def execSdfStuck (t c : Nat) (s : State) : Host.Outcome State Fault Refusal := .next (sdfStick c (at' t s))

/-- SDF_UNSTUCK (R308). -/
def execSdfUnstuck (t c : Nat) (s : State) : Host.Outcome State Fault Refusal := .next (sdfUnstick c (at' t s))

/-- CLK_LOST (R306). -/
def execClkLost (t : Nat) (s : State) : Host.Outcome State Fault Refusal := .next (sdfClkLost (at' t s))

/-- SDM_CLK_RETURN (R306). -/
def execSdmClkReturn (t : Nat) (s : State) : Host.Outcome State Fault Refusal := .next (sdfClkReturn (at' t s))

end Sys2Proof.Machine
end

