-- ==== Sys2Proof/Machine/Timed.lean ====
section
/-!
DEFINITION. Timed outputs and network-timed triggers (chapter 04, R117 to R119 and R122).
-/

namespace Sys2Proof.Machine

/-! ## Targets -/

/-- Network time has reached the target of TOUT `i`. -/
def toutReached (s : State) (i : Nat) : Bool := netReached s s.now (rdWide s (A.TOUT_SEC_LO i)) (rd s (F.TOUT_NS i))

/-- Network time has reached the target of NTT `i`. -/
def nttReached (s : State) (i : Nat) : Bool := netReached s s.now (rdWide s (A.NTT_SEC_LO i)) (rd s (F.NTT_NS i))

/-- The TDC instant of a target in seconds and nanoseconds. -/
def targetInstant (s : State) (sec ns : Nat) : Nat :=
  ((tdcOf s (((sec * 1000000000 + ns) * 2 ^ 32 : Nat) : Int)).getD s.now).toNat

/-- Targets are held: REFCLK is lost (04 R119). -/
def targetsHeld (s : State) : Bool := flag s F.CLK_STATUS_REF_LOST

/-! ## Outputs (04 R117) -/

/-- A pulse of TOUT `i` of `width` ns begins at an instant: an active pulse is extended to its end (04 R117). -/
def toutBegin (s : State) (i start width : Nat) : State :=
  { s with esc := { s.esc with pulses := pset 0 s.esc.pulses i (max (pget 0 s.esc.pulses i) (start + nsec width)) } }

/-- A NETTIME output fires (04 R117, R119). -/
def toutFire (s : State) (i start : Nat) (late : Bool) : State :=
  let s := wr (wr (toutBegin s i start (rd s (F.TOUT_CTRL_WIDTH i))) (F.TOUT_STATUS_ARMED i) 0) (F.TOUT_STATUS_DONE i) 1
  if late then raise (wr s (F.TOUT_STATUS_LATE i) 1) F.ESC_EVT_RAW_TOUT_LATE else s

/-- A TOUT_CTRL word enables its output in a mode: 0 FRAME, 1 NETTIME, 2 LEVEL. -/
def toutIn (w : Word) (m : Nat) : Bool := bit w 31 && decide (fld w 28 2 = m)

/-- TOUT_CTRL in force. In FRAME a write takes effect for the pulses of the next frame boundary (04 R117). -/
def toutWord (s : State) (i : Nat) : Word := pget 0x64#32 s.esc.toutCtl i

/-- The output is enabled in a mode in force. -/
def toutMode (s : State) (i m : Nat) : Bool := toutIn (toutWord s i) m

/-- TOUT_CTRL of output `i` comes into force. -/
def toutTakeOne (s : State) (i : Nat) : State :=
  { s with esc := { s.esc with toutCtl := pset 0x64#32 s.esc.toutCtl i (reg s (F.TOUT_CTRL_ENABLE i).addr) } }

/-- TOUT_CTRL of every output comes into force: at a frame boundary, and when boundaries cease (04 R117, R119). -/
def toutTake (s : State) : State := (List.range 4).foldl toutTakeOne s

/-- TOUT_CTRL is written: at once in force but for an output in FRAME while frame boundaries occur (04 R117). -/
def toutWrite (s : State) (i : Nat) : State := if toutMode s i 0 ∧ acqRuns s then s else toutTakeOne s i

/-- The FRAME pulses of output `i` about a frame boundary at `tb`, with the values of the registers (04 R117). -/
def toutPlace (s : State) (tb i : Nat) : State :=
  let b : Burst := ⟨i, ((tb : Int) + rdI s (F.TOUT_OFFSET i) * 256).toNat, rd s (F.TOUT_REPEAT_COUNT i), rd s (F.TOUT_REPEAT_PERIOD i),
    rd s (F.TOUT_CTRL_WIDTH i)⟩
  { s with esc := { s.esc with bursts := s.esc.bursts ++ [b], toutDone := s.esc.toutDone ++ [i] } }

/-- Output `i` is to give the FRAME pulses of a boundary, and they are not placed. -/
def toutDue (s : State) (i : Nat) : Bool := toutIn (reg s (F.TOUT_CTRL_ENABLE i).addr) 0 && !(s.esc.toutDone.contains i)

/-- A frame boundary at `tb`, the next one predicted at `next`: the pulses that follow it; those of a negative OFFSET stand
before the boundary as it was predicted (04 R117). -/
def toutFrame (s : State) (tb next : Nat) : State :=
  let s := (List.range 4).foldl (fun s i =>
    if toutDue s i then
      if 0 ≤ rdI s (F.TOUT_OFFSET i) then toutPlace s tb i else if s.esc.toutNext = 0 then s else toutPlace s s.esc.toutNext i
    else s) s
  { s with esc := { s.esc with toutNext := next, toutDone := [] } }

/-- The first pulse of a negative OFFSET before the predicted boundary is placed when its instant has come. -/
def toutEarly (t i : Nat) (s : State) : State :=
  let o := rdI s (F.TOUT_OFFSET i)
  if toutDue s i ∧ acqRuns s ∧ s.esc.toutNext ≠ 0 ∧ o < 0 ∧ (s.esc.toutNext : Int) + o * 256 ≤ t then toutPlace s s.esc.toutNext i else s

/-- TOUT_PULSE: a pulse of output `i` begins, at its instant in a frame or at its network time (04 R117). -/
def toutPulse (t i : Nat) (s : State) : State :=
  let s := toutEarly t i s
  match s.esc.bursts.find? (fun x => decide (x.out = i) && decide (x.start ≤ t)) with
  | some x =>
    let again := if 1 < x.left then [{ x with start := x.start + nsec x.period, left := x.left - 1 }] else []
    let s := { s with esc := { s.esc with bursts := s.esc.bursts.erase x ++ again } }
    if toutMode s i 0 then toutBegin s i x.start x.width else s
  | none =>
    if toutMode s i 1 ∧ flag s (F.TOUT_STATUS_ARMED i) ∧ !(targetsHeld s) ∧ toutReached s i then
      toutFire s i (targetInstant s (rdWide s (A.TOUT_SEC_LO i)) (rd s (F.TOUT_NS i))) false
    else s

/-- TOUT_PULSE_END: a pulse of output `i` ends (04 R117). -/
def toutPulseEnd (t i : Nat) (s : State) : State :=
  if pget 0 s.esc.pulses i ≤ t then { s with esc := { s.esc with pulses := pset 0 s.esc.pulses i 0 } } else s

/-- The level of output `i`: inactive while it is disabled or the device is STANDBY (04 R117, R119). -/
def toutLevel (s : State) (i : Nat) : Bool :=
  let w := toutWord s i
  let active := bit w 31 && awake s && !s.pair.held &&
    (if fld w 28 2 = 2 then bit w 27 else decide (pget 0 s.esc.pulses i ≠ 0))
  active != bit w 30

/-- TOUT_PULSE (04 R117). -/
def execToutPulse (t i : Nat) (s : State) : Host.Outcome State Fault Refusal := .next (toutPulse t i (at' t s))

/-- TOUT_PULSE_END (04 R117). -/
def execToutPulseEnd (t i : Nat) (s : State) : Host.Outcome State Fault Refusal := .next (toutPulseEnd t i (at' t s))

/-! ## Network-timed triggers (04 R118) -/

/-- NTT `i` fires, with its acquisition trigger where TO_ACQ is 1 (04 R118, R119; 07 R193). -/
def nttFire (s : State) (i instant : Nat) (late : Bool) : State :=
  let s := raise (wr (wr s (F.NTT_CTRL_ARM i) 0) (F.NTT_CTRL_FIRED i) 1) F.ESC_EVT_RAW_NTT_FIRED
  let s := if late then raise (wr s (F.NTT_CTRL_LATE i) 1) F.ESC_EVT_RAW_NTT_LATE else s
  if flag s (F.NTT_CTRL_TO_ACQ i) then trigEvent s 6 instant false none else s

/-- NTT_FIRED: network time reaches the target of an armed trigger (04 R118). -/
def nttFired (i : Nat) (s : State) : State :=
  if flag s (F.NTT_CTRL_ARM i) ∧ !(targetsHeld s) ∧ nttReached s i then
    nttFire s i (targetInstant s (rdWide s (A.NTT_SEC_LO i)) (rd s (F.NTT_NS i))) false
  else s

/-- NTT_FIRED (04 R118). -/
def execNttFired (t i : Nat) (s : State) : Host.Outcome State Fault Refusal := .next (nttFired i (at' t s))

/-! ## Late targets (04 R119) -/

/-- TOUT `i` fires LATE where its target has passed. -/
def toutLate (s : State) (i : Nat) : State :=
  if toutMode s i 1 ∧ flag s (F.TOUT_STATUS_ARMED i) ∧ !(targetsHeld s) ∧ toutReached s i then toutFire s i s.now true else s

/-- NTT `i` fires LATE where its target has passed; the instant of its trigger is the target's (07 R193). -/
def nttLate (s : State) (i : Nat) : State :=
  if flag s (F.NTT_CTRL_ARM i) ∧ !(targetsHeld s) ∧ nttReached s i then
    nttFire s i (targetInstant s (rdWide s (A.NTT_SEC_LO i)) (rd s (F.NTT_NS i))) true
  else s

/-- Every target that has passed fires LATE: after a step of network time, or when REFCLK is present again (04 R119). -/
def timedLate (s : State) : State := (List.range 4).foldl nttLate ((List.range 4).foldl toutLate s)

/-! ## Registers (04 R122) -/

/-- The checks of a write to the TOUT and NTT blocks (04 R117, R122). -/
def timedCheck (a : Nat) (d : Word) (s : State) : Nat :=
  if 0x20600 ≤ a ∧ a < 0x20680 then
    let i := (a - 0x20600) / 0x20
    let o := a % 0x20
    if (o = 0x0C ∨ o = 0x10 ∨ o = 0x14) ∧ flag s (F.TOUT_STATUS_ARMED i) then 0x04
    else if o = 0 ∧ 1 < rd s (F.TOUT_REPEAT_COUNT i) ∧ rd s (F.TOUT_REPEAT_PERIOD i) ≤ fld d 0 24 then 0x03
    else if o = 8 ∧ 1 < fld d 24 8 ∧ fld d 0 24 ≤ rd s (F.TOUT_CTRL_WIDTH i) then 0x03
    else 0
  else if 0x20700 ≤ a ∧ a < 0x20740 then
    if a % 16 ≠ 12 ∧ flag s (F.NTT_CTRL_ARM ((a - 0x20700) / 16)) then 0x04 else 0
  else 0

/-- What an accepted write of the TOUT and NTT blocks does beside storing it: the control word in force, arming
(04 R117 to R119). -/
def timedAct (a : Nat) (d : Word) (s : State) : State :=
  if 0x20600 ≤ a ∧ a < 0x20680 ∧ a % 0x20 = 0 then toutWrite s ((a - 0x20600) / 0x20)
  else if 0x20600 ≤ a ∧ a < 0x20680 ∧ a % 0x20 = 0x14 then
    let i := (a - 0x20600) / 0x20
    if toutMode s i 1 then
      toutLate (wr (wr (wr s (F.TOUT_STATUS_DONE i) 0) (F.TOUT_STATUS_LATE i) 0) (F.TOUT_STATUS_ARMED i) 1) i
    else s
  else if 0x20700 ≤ a ∧ a < 0x20740 ∧ a % 16 = 12 ∧ bit d 31 then
    let i := (a - 0x20700) / 16
    nttLate (wr (wr (wr s (F.NTT_CTRL_ARM i) 1) (F.NTT_CTRL_FIRED i) 0) (F.NTT_CTRL_LATE i) 0) i
  else s

end Sys2Proof.Machine
end

