-- ==== Sys2Proof/Machine/Pair.lean ====
section
/-!
DEFINITION. The redundant pair: arbitration, heartbeats, alignment, mirroring and takeover (chapter 19; 12 R337, R338).
-/

namespace Sys2Proof.Machine

/-! ## Network time: rates and steps, here and from the partner (13 R352 to R354; 19 R477) -/

/-- A step of network time is applied, with all that follows from it (13 R353, R354, R119; 14 R381). -/
def stepApplied (s : State) (ns : Int) : State :=
  timedLate (planResync (raise (bump (ntmStep s ns) A.NTM_STEPS) F.NTM_EVT_RAW_STEP_DONE))

/-- What a write to the NTM page does beside its registers (13 R351 to R355, R361; 19 R472). -/
def ntmAct (a : Nat) (d : Word) (o s : State) : State :=
  if a = A.NTM_INCR_NS then
    let s := ntmRate s (incrWritten s)
    timeSend s (nextRefEdge s s.now / nsec (pNom s)) (some (incrWritten s)) none
  else if a = A.NTM_STEP_SEC_HI then timeSend (stepApplied s (stepNs s)) (nextRefEdge s s.now / nsec (pNom s)) none (some (stepNs s))
  else if a = A.NTM_CTRL then
    let s := ntmRemode s.now s
    if bit d 2 then degradedWatch o (wr s F.NTM_STATUS_COASTED 0) else s
  else if a = A.NTM_PPS_CFG ∧ !(bit d 31) then { s with ntm := { s.ntm with pps := false } }
  else s

/-! ## Health and liveness (R480) -/

/-- The device's own health word (R480). -/
def ownHealth (s : State) : Nat :=
  let down (b : Nat) : Bool := rdBit s A.PAIR_HOST_BUNDLES b && (rd s (F.B_STATUS_STATE b) = 5 || rd s (F.B_STATUS_STATE b) = 6)
  b2n (decide (rd s F.CLK_STATUS_TDC_LOCK ≠ 15) || flag s F.CLK_STATUS_REF_LOST)
    + b2n ((List.range 32).any down) * 2
    + b2n (s.stq.queues.any fun q => q.2.dropping) * 4

/-- The bits of a health word that cause a takeover. -/
def faulty (s : State) (health : Nat) : Bool := decide (health &&& rd s F.PAIR_TAKEOVER_MASK ≠ 0)

/-- A HEARTBEAT has come within the last 32 µs (R488). -/
def partnerOk (s : State) : Bool :=
  flag s F.PAIR_STATUS_PARTNER_OK && s.pair.partner.any fun p => decide (s.now ≤ p.at' + usec 32)

/-- The permission that a heartbeat reports: the device's own, without its partner's (12 R337; log entry 87). -/
def ownPermit (s : State) : Bool :=
  sysOn s && decide (latched s false = 0#32) && decide (latched s true = 0#32) && decide (liveCauses s % 2 ^ 19 = 0)

/-- The latch word and the filtered inputs of the device's own channel (12 R336, R337). -/
def ownLatch (s : State) : Nat := (latched s (chip1 s)).toNat
def ownIns (s : State) : Nat := (pathOf s (chip1 s)).ins

/-- The pair bundle is looked at: arbitration begins as it goes UP, and ends as it leaves UP (R474; log entry 87). -/
def pairWatch (s : State) : State :=
  if pairUp s = s.pair.up then s
  else if pairUp s then
    onPair (wr s F.PAIR_STATUS_ARBITRATED 0) fun p => { p with up := true, arb := some s.now, rival := none }
  else onPair s fun p => { p with up := false, arb := none, rival := none }

/-- A latch of PAIR, with its detail (12 R338). -/
def pairLatch (s : State) (detail : Fld) : State := safRefresh (safLatch (wr s detail 1) true true 10 .goes)

/-! ## Roles (R473, R474, R481) -/

/-- The plan engine keeps its sets and tracks (14 R380). -/
def planTrack (s : State) : State :=
  if planState s = 0 ∨ planState s = 5 then s
  else grantWatch s (onPln (wr s F.PLN_STATUS_STATE 6) fun p => { p with
    after := planState s, leaving := 0, beatDue := false, release := 0, releaseNext := 0, confirm := 0, claim := 0 })

/-- The tracked sets are taken up in the state that the old active device was in (14 R380; log entry 87). -/
def planTakeUp (s : State) : State :=
  if planState s ≠ 6 then s
  else
    let st := if 1 ≤ s.pln.after ∧ s.pln.after ≤ 4 then s.pln.after else 1
    let s := onPln (wr s F.PLN_STATUS_STATE st) fun p => { p with
      releaseNext := p.release, drops := slotDiff p.grant p.held, after := 0,
      adds := if slotDiff p.held p.grant = 0 then [] else [(slotDiff p.held p.grant, addEpoch s s.now, false)] }
    grantWatch s s

/-- The role changes; ACTIVE_OUT is high in ACTIVE alone, and the holds act in STANDBY (R470, R473, R487). -/
def setRole (s : State) (r : Nat) : State :=
  let s' := onPair (wr s F.PAIR_ROLE_ROLE r) fun p => { p with
    actOut := decide (r = 1), held := decide (r = 2), raiseAt := none, holdAt := none }
  if pairRole s = r then s'
  else planStart (raise s' F.PAIR_EVT_RAW_ROLE_CHANGE)

/-- PAIR.CTRL.ENABLE is written (R473). -/
def pairEnable (s : State) : State :=
  if paired s then
    let s := setRole s 2
    pairWatch (onPair s fun p => { p with since := s.now, sentAt := s.now, heard := false })
  else
    let s := setRole s 0
    let s := setReg s F.PAIR_STATUS_ARBITRATED.addr (setFld 0#32 7 1 (rd s F.PAIR_STATUS_ID_CLASH))
    safRefresh { s with pair := Pair.empty }

/-- The last frame begun, while it is in flight: no boundary has followed it. -/
def frameInFlight (s : State) : Option Frame := if acqRuns s then s.acq.frames.getLast?.filter fun f => !f.over' && !f.ended else none

/-- The first key after the column positions that have started. -/
def startedKey (s : State) : Nat :=
  match refGroup s with
  | none => 0
  | some gi =>
    let l := s.acq.frames.flatMap fun f => f.sweeps.map fun w => (f.num, w)
    match l.reverse.find? (fun x => decide (x.2.origin ≤ s.now)) with
    | none => 0
    | some x => x.1 * 2 ^ 24 + 4096 * x.2.il + (match columnBefore s x.2 (groupCfg s x.2 gi) s.now with | some c => c + 1 | none => 0)

/-- The queues of a new active device that was SILENT start with a FRAME_HEAD for the frame in flight (R483). -/
def headsAgain (s : State) (f : Frame) : State :=
  f.streams.foldl (fun s st =>
    let r : QRec := ⟨frameHead s f.num f.at' st, true, false, s.now, 0⟩
    (headRoutes s (st % 8) (st / 8)).foldl (fun s k => takeRec s k r) s) s

/-- A takeover is noted on either device (R482). -/
def takeoverNote (s : State) (cause : Nat) : State :=
  raise (bump (wr s F.PAIR_TAKEOVER_CAUSE cause) A.PAIR_TAKEOVERS) F.PAIR_EVT_RAW_TAKEOVER

/-- The standby takes over: cause 1 HB_LOST, 2 PARTNER_FAULT, 3 HOST_SWITCH (R481 to R483). -/
def takeover (s : State) (cause : Nat) : State :=
  let fl := if cause = 3 then none else frameInFlight s
  let num := (fl.map (·.num)).getD (rdWide s A.PAIR_TAKEOVER_FRAME_LO)
  let s := pairSend s 8 16 [word cause, word num, word (num / 2 ^ 32)]
  let s := onPair (wr s F.PAIR_ROLE_ROLE 1) fun p => { p with held := false, holdAt := none, raiseAt := some (s.now + nsec 100) }
  let s := setWide (raise (takeoverNote s cause) F.PAIR_EVT_RAW_ROLE_CHANGE) A.PAIR_TAKEOVER_FRAME_LO num
  let s := planTakeUp s
  let s := if flag s F.PAIR_CFG_STANDBY_STREAM then s
           else match fl with
             | some f => headsAgain (onPair s fun p => { p with bar := startedKey s }) f
             | none => s
  match fl with
  | some f => onAcq s fun a => { a with frames := a.frames.map fun x => if x.num = f.num then { x with takeover := true } else x }
  | none => s

/-- The device may take over: STANDBY, arbitrated, and no clash of the straps. -/
def mayTake (s : State) : Bool :=
  decide (pairRole s = 2) && flag s F.PAIR_STATUS_ARBITRATED && !(flag s F.PAIR_STATUS_ID_CLASH)

/-- At a frame boundary a HOST_SWITCH that stands is carried out (R485). -/
def pairBoundary (s : State) : State :=
  let s := wr s F.PAIR_STATUS_SWITCH_PENDING 0
  if mayTake s ∧ partnerOk s ∧ s.pair.partner.any (·.report.switch) then takeover s 3 else s

/-! ## Arbitration (R474, R475) -/

/-- ARB: an ARB frame from the partner is taken, and a clash of the straps is seen. -/
def arb (id : Nat) (prefer : Bool) (health : Nat) (runs : Bool) (s : State) : State :=
  if !(paired s) then s
  else
    let s := pairWatch s
    let o := s
    if id % 2 = rd s F.PAIR_ROLE_PAIR_ID then
      if flag s F.PAIR_STATUS_ID_CLASH then s
      else
        let s := raise (wr s F.PAIR_STATUS_ID_CLASH 1) F.PAIR_EVT_RAW_ID_CLASH
        sdfRedirect o (pairLatch (setRole s 2) F.SAF_FAULT_DETAIL_PAIR_DISAGREE)
    else onPair s fun p => { p with rival := some ⟨runs, health % 8, prefer⟩ }

/-- The device is ACTIVE with acquisition running. -/
def activeRuns (s : State) : Bool := decide (pairRole s = 1) && acqRuns s

/-- The rules of R474: the first that tells the two devices apart. -/
def arbWins (s : State) (r : Rival) : Bool :=
  if activeRuns s ≠ r.runs then activeRuns s
  else if faulty s (ownHealth s) ≠ faulty s r.health then !(faulty s (ownHealth s))
  else if flag s F.PAIR_CFG_PREFER ≠ r.prefer then flag s F.PAIR_CFG_PREFER
  else !(flag s F.PAIR_ROLE_PAIR_ID)

/-- The number of the next tick at an instant, as the ticks that are due by then count it on (R476; 10 R274). -/
def tickBy (s : State) (t : Nat) : Nat :=
  if ticking s ∧ s.ctl.tick ≠ 0 then s.ctl.tick + (t - s.ctl.tickAt) / nsec (5 * max 1 (rd s F.SCN_BASE_PERIOD)) else s.ctl.tick

/-- The winner names an edge at least 20 µs ahead, and what stands at it (R476); the layout of its words is the model's
(log entry 87). -/
def alignSend (s : State) : State :=
  let p := nsec (pNom s)
  let e := (s.now + usec 20) / p + 1
  let n := (netAt s (e * p) % netRange).toNat
  let i := s.ntm.incr
  pairSend s 2 32 [word e, word (e * p), word (e * p / 2 ^ 32 % 2 ^ 24 * 2 ^ 8 + i / 2 ^ 32 % 2 ^ 8), word (n / (1000000000 * nsU)),
    word (n / nsU % 1000000000), word i, word (tickBy s (e * p))]

/-- ARB_DONE: the rules decide after 100 µs of exchange. -/
def arbDone (t : Nat) (s : State) : State :=
  let s := pairWatch s
  match s.pair.arb, s.pair.rival with
  | some a, some r =>
    if a + usec 100 ≤ t ∧ !(flag s F.PAIR_STATUS_ID_CLASH) then
      let s' := onPair (wr (wr s F.PAIR_STATUS_ARBITRATED 1) F.PAIR_STATUS_SPLIT 0) fun p => { p with arb := none }
      let s' := raise (setRole s' (if arbWins s r then 1 else 2)) F.PAIR_EVT_RAW_ARB_DONE
      if arbWins s r then alignSend s' else s'
    else s
  | _, _ => s

/-- ARB_WAIT_EXPIRE: the bundle has not gone UP within ARB_WAIT of the enable, and a SOLO device becomes ACTIVE. -/
def arbWaitExpire (t : Nat) (s : State) : State :=
  let s := pairWatch s
  if paired s ∧ flag s F.PAIR_CFG_SOLO ∧ pairRole s = 2 ∧ !(flag s F.PAIR_STATUS_ARBITRATED) ∧ !(flag s F.PAIR_STATUS_ID_CLASH)
      ∧ !s.pair.up ∧ s.pair.since + msec (rd s F.PAIR_CFG_ARB_WAIT) ≤ t then
    setRole (wr s F.PAIR_STATUS_SPLIT 1) 1
  else s

/-! ## Alignment (R476, R477) -/

/-- ALIGN_SET: the edge at which the standby aligns. -/
def alignSet (a : Align) (s : State) : State := if pairRole s = 2 ∧ !(flag s F.PAIR_STATUS_ID_CLASH) then onPair s fun p => { p with align := some a } else s

/-- ALIGN_EDGE_REACHED: the standby takes TDC time, network time, INCREMENT and the tick number (R476; log entry 87). -/
def alignEdgeReached (t : Nat) (s : State) : State :=
  match s.pair.align with
  | some a =>
    if pairRole s = 2 ∧ a.edge * nsec (pNom s) ≤ t then
      let shift (x : Nat) : Nat := x + a.tdc - s.now
      let net : Int := (((a.sec * 1000000000 + a.ns) * nsU + a.frac * (2 ^ 16 * 25600) : Nat) : Int)
      let s := { s with now := a.tdc, ntm := { s.ntm with base := a.tdc, incr := a.incr, next := none, net := net } }
      let s := setReg (setReg s A.NTM_INCR_NS (word (a.incr / 2 ^ 32 % 256))) A.NTM_INCR_FRAC (word a.incr)
      let s := tickNumber a.tick { s with ctl := { s.ctl with tickAt := shift s.ctl.tickAt } }
      let s := onPair s fun p => { p with
        align := none, sentAt := shift p.sentAt, since := shift p.since, partner := p.partner.map fun q => ⟨shift q.at', q.report⟩ }
      wr s F.PAIR_STATUS_TIME_ALIGNED 1
    else s
  | none => s

/-- TIME: what the active device will do to network time, and at which edge (R477). -/
def timeTake (edge : Nat) (incr : Option Nat) (step : Option Int) (s : State) : State :=
  if follows s then onPair s fun p => { p with times := p.times ++ [(edge, incr, step)] } else s

/-- TIME_EDGE_APPLY: at the named edge the device applies what a TIME frame that it took as STANDBY carried (R477). -/
def timeEdgeApply (t : Nat) (s : State) : State :=
  match s.pair.times with
  | (e, incr, step) :: rest =>
    let at0 := e * nsec (pNom s)
    if paired s ∧ flag s F.PAIR_STATUS_TIME_ALIGNED ∧ at0 ≤ t then
      let s := onPair s fun p => { p with times := rest }
      let s := match incr with
        | some i =>
          let s := { s with ntm := { s.ntm with net := netAt s at0, base := at0, incr := i, next := none } }
          setReg (setReg s A.NTM_INCR_NS (word (i / 2 ^ 32 % 256))) A.NTM_INCR_FRAC (word i)
        | none => s
      match step with
      | some d => stepApplied s d
      | none => s
    else s
  | [] => s

/-! ## Heartbeats (R472, R480; 12 R337, R338) -/

/-- The HEARTBEAT of this instant. -/
def heartbeatPut (s : State) : State :=
  let n := net16 s s.now
  let w0 := word (pairRole s + b2n (ownPermit s) * 4 + b2n (indicatorOpen s) * 8
    + b2n (flag s F.SAF_STATUS_PROVEN || decide (2 < s.saf.proof)) * 16 + b2n (flag s F.PAIR_STATUS_SWITCH_PENDING) * 32)
  pairSend s 3 64 [w0, word (ownHealth s), word (ownLatch s), word (ownIns s), word (nSec n), word (nSec n / 2 ^ 32),
    word (nNs n), word (nFrac n)]

/-- HEARTBEAT_SEND: every 10 µs, and at once on a change of health; ARB frames during arbitration (R472, R489). -/
def heartbeatSend (t : Nat) (s : State) : State :=
  let s := pairWatch s
  if !(paired s) then s
  else
    let s :=
      if s.pair.sentAt + usec 10 ≤ t then
        let k := (t - s.pair.sentAt) / usec 10
        let s := if s.pair.up then bumpBy s A.PAIR_HB_MISSED (k - b2n s.pair.heard) else s
        onPair s fun p => { p with sentAt := p.sentAt + k * usec 10, heard := false }
      else s
    let s := if s.pair.arb.isSome then
        pairSend s 1 32 [word (rd s F.PAIR_ROLE_PAIR_ID + b2n (flag s F.PAIR_CFG_PREFER) * 2 + b2n (activeRuns s) * 4),
          word (ownHealth s), word (t / nsec (pNom s))]
      else s
    heartbeatPut s

/-- The exchange of latch words and inputs is compared (12 R338). -/
def exchange (s : State) (r : PairReport) : State :=
  let d := decide (r.latch ≠ ownLatch s) || decide (r.ins ≠ ownIns s)
  let was := s.pair.differs
  let s := onPair s fun p => { p with differs := d }
  if d && was then pairLatch s F.SAF_FAULT_DETAIL_PAIR_DISAGREE
  else if d then bump s A.SAF_MISMATCHES
  else s

/-- HEARTBEAT: the partner's report is taken; a fault of an active partner may start a takeover (R480). -/
def heartbeat (t : Nat) (r : PairReport) (s : State) : State :=
  if !(paired s) then s
  else
    let s := pairWatch s
    let r := { r with health := r.health % 8 }
    let old := s.pair.partner
    let had := (old.map (·.report.health)).getD 0
    let s := wr (onPair s fun p => { p with partner := some ⟨t, r⟩, heard := true }) F.PAIR_STATUS_PARTNER_OK 1
    let s := if r.health &&& (had ^^^ 7) ≠ 0 then raise s F.PAIR_EVT_RAW_PARTNER_FAULT else s
    let s := safRefresh (exchange { s with saf := { s.saf with partner := !r.permit } } r)
    let s := if chip1 s ∧ r.lampProven then proofLamp s else s
    if mayTake s ∧ r.role = 1 ∧ faulty s r.health ∧ !(faulty s (ownHealth s)) then takeover s 2 else s

/-- HB_LOST: no HEARTBEAT has come for 32 µs (R480, R484; 12 R338). -/
def hbLost (t : Nat) (s : State) : State :=
  match s.pair.partner with
  | some p =>
    if paired s ∧ flag s F.PAIR_STATUS_PARTNER_OK ∧ p.at' + usec 32 ≤ t then
      let s := raise (wr (pairWatch s) F.PAIR_STATUS_PARTNER_OK 0) F.PAIR_EVT_RAW_HB_LOST
      let s := pairLatch s F.SAF_FAULT_DETAIL_PAIR_LOST
      let s := wr s F.PAIR_STATUS_SWITCH_PENDING 0
      if mayTake s then wr (takeover s 1) F.PAIR_STATUS_SPLIT 1
      else if pairRole s = 1 then wr s F.PAIR_STATUS_SPLIT 1
      else s
    else s
  | none => s

/-! ## Takeover, seen from both sides (R481) -/

/-- ACTIVE_OUT_RAISE: 100 ns after it took over, the new active device raises ACTIVE_OUT. -/
def activeOutRaise (t : Nat) (s : State) : State :=
  match s.pair.raiseAt with
  | some a => if a ≤ t ∧ pairRole s = 1 then onPair s fun p => { p with actOut := true, raiseAt := none } else s
  | none => s

/-- TAKEN: the old active device becomes STANDBY. Its time is the one that its partner aligned to, so it follows from then on
(R476, R477; log entry 87). -/
def taken (t cause frame : Nat) (s : State) : State :=
  if paired s ∧ pairRole s = 1 then
    let s := onPair (wr (wr (wr s F.PAIR_ROLE_ROLE 2) F.PAIR_STATUS_SWITCH_PENDING 0) F.PAIR_STATUS_TIME_ALIGNED 1) fun p => { p with
      actOut := false, raiseAt := none, holdAt := some (t + usec 10) }
    planTrack (setWide (raise (takeoverNote s (cause % 8)) F.PAIR_EVT_RAW_ROLE_CHANGE) A.PAIR_TAKEOVER_FRAME_LO frame)
  else s

/-- STANDBY_HOLD_APPLY: 10 µs after TAKEN the holds act. -/
def standbyHoldApply (t : Nat) (s : State) : State :=
  match s.pair.holdAt with
  | some a => if a ≤ t ∧ pairRole s = 2 then onPair s fun p => { p with held := true, holdAt := none } else s
  | none => s

/-! ## Loop state, tiles and plan from the partner (R478, R479; 14 R380) -/

/-- MIRROR: the loop state waits for the next tick. -/
def mirror (t : Nat) (m : LoopMirror) (s : State) : State :=
  if pairRole s = 2 then onPair s fun p => { p with mirror := some (t, m) } else s

/-- TILES: a tile of the partner's, or the end of its frame. -/
def tiles (frame : Nat) (tile : Option (Nat × Nat × Nat)) (ended stopped : Bool) (s : State) : State :=
  if paired s ∧ flag s F.PAIR_CFG_CMP_EN then
    let x := cmpFrame s.pair.theirs frame
    let x := { x with tiles := x.tiles ++ tile.toList, ended := x.ended || ended, stopped := x.stopped || stopped }
    cmpJudge (onPair s fun p => { p with theirs := cmpPut p.theirs x }) frame
  else s

/-- PLAN: the standby's sets are the active device's (14 R380). -/
def plan (st held pending grant : Nat) (s : State) : State :=
  if planState s = 6 then
    let held := held &&& allSlots s
    let pending := pending &&& allSlots s
    let fresh := slotDiff pending s.pln.pending
    grantWatch s (onPln s fun p => { p with
      held := held, pending := pending, grant := grant &&& allSlots s, after := st % 16,
      release := slotDiff p.held held, confirm := p.confirm ||| (slotDiff held p.held &&& p.pending),
      claims := (p.claims.map fun c => (c.1, c.2 &&& pending)).filter (fun c => c.2 ≠ 0)
        ++ (if fresh = 0 then [] else [(p.beat, fresh)]) })
  else s

/-! ## Registers (R473, R485, R488, R489) -/

/-- The checks of a write to the PAIR page. -/
def pairCheck (a : Nat) (d : Word) (s : State) : Nat :=
  if a = F.PAIR_CTRL_ENABLE.addr then
    if bit d 1 then 0x04
    else if bit d 0 then if flag s F.SCN_CTRL_ENABLE ∨ flag s F.ACQ_CTRL_ENABLE then 0x04 else 0
    else if flag s F.ACQ_CTRL_ENABLE then 0x04 else 0
  else if a = F.PAIR_CFG_SOLO.addr then
    if paired s then 0x04 else 0
  else if a = A.PAIR_SWITCH ∧ bit d 0 then
    if pairRole s = 1 ∧ partnerOk s ∧ s.pair.partner.all (fun p => !(faulty s p.report.health)) then 0 else 0x04
  else 0

/-- What a write to the PAIR page does beside its registers. -/
def pairAct (a : Nat) (d : Word) (o s : State) : State :=
  if a = F.PAIR_CTRL_ENABLE.addr ∧ paired o ≠ paired s then sdfRedirect o (pairEnable s)
  else if a = A.PAIR_SWITCH ∧ bit d 0 then
    let s := wr s F.PAIR_STATUS_SWITCH_PENDING 1
    if acqRuns s then heartbeatPut s else s
  else s

/-- PAIR.STATUS, HEALTH and HB_AGE as they read. -/
def pairStatus (s : State) : Word :=
  setFld (setFld (setFld (reg s F.PAIR_STATUS_ARBITRATED.addr) 0 1 (b2n (pairUp s))) 2 1 (b2n (partnerOk s))) 3 1
    (b2n (decide (pairRole s = 2) && flag s F.PAIR_STATUS_ARBITRATED && decide (16 ≤ s.pair.good)))
def pairHealth (s : State) : Word := word (((s.pair.partner.map (·.report.health)).getD 0) * 2 ^ 16 + ownHealth s)
def pairAge (s : State) : Word :=
  match s.pair.partner with
  | some p => word (min 0xFFFF ((s.now - p.at') / nsec 100))
  | none => 0xFFFF#32

/-- ARB (19 R474). -/
def execArb (t id : Nat) (prefer : Bool) (health : Nat) (runs : Bool) (s : State) : Host.Outcome State Fault Refusal :=
  .next (arb id prefer health runs (at' t s))

/-- ARB_DONE (19 R474). -/
def execArbDone (t : Nat) (s : State) : Host.Outcome State Fault Refusal := .next (arbDone t (at' t s))

/-- ARB_WAIT_EXPIRE (19 R474). -/
def execArbWaitExpire (t : Nat) (s : State) : Host.Outcome State Fault Refusal := .next (arbWaitExpire t (at' t s))

/-- ALIGN_SET (19 R476). -/
def execAlignSet (t edge tdc sec ns frac incr tick : Nat) (s : State) : Host.Outcome State Fault Refusal :=
  .next (alignSet ⟨edge, tdc, sec, ns, frac, incr, tick⟩ (at' t s))

/-- ALIGN_EDGE_REACHED (19 R476). -/
def execAlignEdgeReached (t : Nat) (s : State) : Host.Outcome State Fault Refusal := .next (alignEdgeReached t (at' t s))

/-- HEARTBEAT_SEND (19 R472). -/
def execHeartbeatSend (t : Nat) (s : State) : Host.Outcome State Fault Refusal := .next (heartbeatSend t (at' t s))

/-- HEARTBEAT (19 R480). -/
def execHeartbeat (t : Nat) (r : PairReport) (s : State) : Host.Outcome State Fault Refusal := .next (heartbeat t r (at' t s))

/-- HB_LOST (19 R480). -/
def execHbLost (t : Nat) (s : State) : Host.Outcome State Fault Refusal := .next (hbLost t (at' t s))

/-- ACTIVE_OUT_RAISE (19 R481). -/
def execActiveOutRaise (t : Nat) (s : State) : Host.Outcome State Fault Refusal := .next (activeOutRaise t (at' t s))

/-- TAKEN (19 R481). -/
def execTaken (t cause frame : Nat) (s : State) : Host.Outcome State Fault Refusal := .next (taken t cause frame (at' t s))

/-- STANDBY_HOLD_APPLY (19 R481). -/
def execStandbyHoldApply (t : Nat) (s : State) : Host.Outcome State Fault Refusal := .next (standbyHoldApply t (at' t s))

/-- MIRROR (19 R478). -/
def execMirror (t : Nat) (m : LoopMirror) (s : State) : Host.Outcome State Fault Refusal := .next (mirror t m (at' t s))

/-- TIME (19 R477). -/
def execTime (t edge : Nat) (incr : Option Nat) (step : Option Int) (s : State) : Host.Outcome State Fault Refusal :=
  .next (timeTake edge incr step (at' t s))

/-- TIME_EDGE_APPLY (19 R477). -/
def execTimeEdgeApply (t : Nat) (s : State) : Host.Outcome State Fault Refusal := .next (timeEdgeApply t (at' t s))

/-- TILES (19 R479). -/
def execTiles (t frame : Nat) (tile : Option (Nat × Nat × Nat)) (ended stopped : Bool) (s : State) :
    Host.Outcome State Fault Refusal :=
  .next (tiles frame tile ended stopped (at' t s))

/-- PLAN (14 R380). -/
def execPlan (t st held pending grant : Nat) (s : State) : Host.Outcome State Fault Refusal :=
  .next (plan st held pending grant (at' t s))

end Sys2Proof.Machine
end

