-- ==== Sys2Proof/Machine/Frame.lean ====
section
/-!
DEFINITION. Frame boundaries, the timing reference, and the ACQ page (chapter 07, R180 to R183, R198, R205 to R207; 01 R33;
20 R498, R499).
-/

namespace Sys2Proof.Machine

/-! ## Boundaries (07 R181) -/

/-- The latest reference instant at or before an instant. -/
def refLast (s : State) (t : Nat) : Option Nat :=
  match refGrid s with
  | none => none
  | some g =>
    let n := gridNear s g t
    let pick (i : Int) : Option Nat :=
      match gridAt s g i with
      | some r => if 0 ≤ r ∧ r ≤ t then some r.toNat else none
      | none => none
    (pick n).or (pick (n - 1))

/-- The frame boundary that an instant stands at or has just passed: the index edge of frame facet 0, or a reference instant in
STARE, where the first of FREE may fall anywhere (07 R180, R181; 10 R290). -/
def boundaryAt (s : State) (t : Nat) : Option Nat :=
  if isStare s then
    if refMode s = 0 ∧ s.acq.anchor.isNone then some t else refLast s t
  else
    match s.ctl.mot.idx.head? with
    | some e => if modelValid s ∧ s.ctl.mot.k = 0 ∧ e ≤ t then some e else none
    | none => none

/-- No frame boundary is going to occur (07 R183; 13 R537). -/
def noBoundary (s : State) : Bool :=
  !(running s) ||
    (if isStare s then decide (refMode s = 0) && s.acq.anchor.isNone || refHeld s else !(modelValid s))

/-- An ENABLE that waits takes effect where no boundary is going to occur (07 R183), at the next access or control tick after
boundaries cease (log entry 19); so is RUN entered where it is pending and the speed model is lost (20 R498). -/
def acqSettle (s : State) : State :=
  let s := if flag s F.PWR_STATUS_RUN_PENDING ∧ !(isStare s) ∧ !(modelValid s) then enterRun s else s
  if s.acq.on' ≠ flag s F.ACQ_CTRL_ENABLE ∧ noBoundary s then enableEffect s else s

/-! ## What a boundary does -/

/-- The passage between READY and RUN at a boundary; a standby enters RUN with its partner (20 R498, R499; 16 R430). -/
def boundaryRun (s : State) (partner : Bool) : State :=
  let s := if flag s F.PWR_STATUS_DOWN_PENDING ∧ s.thm.step = 0 then leaveRun s else s
  if flag s F.PWR_STATUS_RUN_PENDING ∧ (pairRole s ≠ 2 ∨ partner) then enterRun s else s

/-- A re-arm that was asked for takes effect (07 R206). -/
def rearmNow (s : State) : State :=
  if s.acq.rearm then
    let s := lmpEdge (wr (wr s F.ACQ_STATUS_STOPPED 0) F.ACQ_STATUS_RET_STATE 0) 5 false
    ringDiscard (onAcq { s with esc := { s.esc with masked := false } } fun a => { a with rearm := false })
  else s

/-- The number of the frame that starts, and REF_ERR (07 R182). -/
def numberFrame (tb : Nat) (s : State) : State :=
  let next := match s.acq.numbered with
    | some n => n + 1
    | none => 0
  let r := refNear s tb
  let num := match r with
    | some r => if refMode s = 0 then next else max next (refIndex s r).toNat
    | none => next
  let s := if s.acq.numbered.isSome ∧ next < num then raise (bump s A.ACQ_FRAME_SKIP) F.ACQ_EVT_RAW_FRAME_SKIP else s
  let s := match r with
    | some r => setReg s A.ACQ_REF_ERR (iword (max (-(2 ^ 31)) (min (2 ^ 31 - 1) (rnd ((tb : Int) - r) 256))))
    | none => s
  setWide (onAcq s fun a => { a with numbered := some (num % 2 ^ 64) }) A.ACQ_FRAME_NUM_LO num

/-- Retention begins or ends with the mode in force; the auto timer then runs again (07 R196, R198, R199, R202). -/
def retentionMode (s : State) : State :=
  if flag s F.ACQ_ACQ_MODE_RETAIN then
    if retState s = 0 ∧ !(acqStopped s) then
      let s := ringDiscard (wr s F.ACQ_STATUS_RET_STATE 1)
      onAcq s fun a => { a with post := a.ordNext, hold := a.ordNext, cut := 0 }
    else s
  else if retState s = 0 then s
  else
    let s := wr (seqStop s) F.ACQ_STATUS_RET_STATE 0
    if s.acq.auto'.isNone then autoRestart s else s

/-- The predicted next boundary (04 R109, R117). -/
def nextBoundary (s : State) (tb : Nat) : Nat :=
  if isStare s then tb + rndN (acqPeriod s) (2 ^ 24) else tb + (frameFacets s * s.ctl.mot.pred + 65535) / 65536

/-- The sweep that a frame starts with: facet 0, or the time steps of STARE (04 R105, R107, R109). -/
def firstSweep (s : State) (tb num : Nat) : Sweep :=
  let cols := rd s F.ESC_FRAME_CFG_COLUMNS_M1 + 1
  if isStare s then ⟨tb, 0, true, nextBoundary s tb - nsec 200, none, 0, 0, 0, num, cols, false⟩
  else ⟨tb, s.ctl.mot.pred, false, tb + (s.ctl.mot.pred + 65535) / 65536 - nsec 200, none, 0, 0, s.ctl.mot.f, num, cols, false⟩

/-- The FRAME_HEADs of a frame join the ring, one for each retained region (07 R198). -/
def ringHeads (s : State) (f : Frame) : State :=
  if ringOn s then
    (retainRegions s).foldl (fun s r =>
      (ringStore s 1 f.num 0 f.base (2 ^ r) (frameHead s f.num f.at' (8 * r + 4))).getD s) s
  else s

/-- The corrections that wait are installed at a boundary at least 1 µs after they were computed (17 R449). -/
def calBoundary (tb : Nat) (s : State) : State :=
  match s.cal.wait with
  | none => s
  | some (t, x) => if s.cal.job.isSome ∨ tb < t + usec 1 then s else calInstall s tb x

/-- APPLIED: computed corrections are installed: at once while acquisition does not run, else at a frame boundary that has not
been taken, at least 1 µs after their completion (17 R449). -/
def calApplied (s : State) : State :=
  match s.cal.wait with
  | none => s
  | some (_, x) =>
    if s.cal.job.isSome ∨ !(sysOn s) then s
    else if flag s F.ACQ_STATUS_RUNNING then
      (match boundaryAt s s.now with
       | some tb => if tb ≤ s.acq.bound then s else calBoundary tb s
       | none => s)
    else calInstall s s.now x

/-- APPLIED (17 R449). -/
def execApplied (t : Nat) (s : State) : Host.Outcome State Fault Refusal := .next (calApplied (at' t s))

/-- A frame starts (07 R181, R184, R186; 04 R105, R116). -/
def frameStart (tb : Nat) (s : State) : State :=
  let num := s.acq.numbered.getD 0
  let il := ilCount s
  let cols := rd s F.ESC_FRAME_CFG_COLUMNS_M1 + 1
  let sts := activeStreams s
  let f : Frame := ⟨num, tb, sts, il, cols, s.acq.ordNext, [], [], [], [], 0, false, [], false, 0, false, false, false, false, false,
    cold s, [], sts.map (fun st => (st, frameHead s num tb st)), false⟩
  let s := onAcq s fun a => { a with frames := a.frames ++ [f], ordNext := a.ordNext + il * cols }
  let s := raise (bump (wr (ringHeads s f) F.ACQ_STATUS_IN_FRAME 1) A.ACQ_FRAMES) F.ACQ_EVT_RAW_FRAME_START
  let s := { s with esc := { s.esc with active := flag s F.ESC_CTRL_ENABLE && !s.esc.masked, facet := 0 } }
  let s := if s.esc.active then addSweep s (firstSweep s tb num) else s
  let s := if escRunning s then jobFail s 0x22 else s
  takeBuffer s num f.provisional

/-- A boundary while acquisition runs. -/
def frameTurn (tb : Nat) (s : State) : State :=
  let s := wr (closeFrames s false) F.ACQ_STATUS_IN_FRAME 0
  let s := onAcq s fun a => { a with anchor := a.anchor.or (some tb) }
  let s := retentionMode (numberFrame tb (rearmNow s))
  let s := if flag s F.PLN_CTRL_ENABLE then s else reseedFrame s (s.acq.numbered.getD 0)
  let s := if acqStopped s ∨ s.thm.step ≠ 0 then s else frameStart tb s
  let s := tduFrame (monFrame (toutFrame s tb (nextBoundary s tb)))
  flushFrames (if rd s F.HKA_ROUND_CFG_SRC = 1 then roundRequest s else s)

/-- FRAME_BOUNDARY: a frame boundary that has not been taken occurs (07 R181). -/
def frameBoundary (t : Nat) (partner : Bool) (s : State) : State :=
  match boundaryAt s t with
  | none => s
  | some tb =>
    if !(sysOn s) ∨ tb ≤ s.acq.bound then s
    else
      let s := onAcq s fun a => { a with bound := tb }
      let s := toutTake (if isStare s then endSweeps s tb else s)
      let s := enableEffect (boundaryRun s partner)
      let s := pairBoundary (refPermit (planFrameBoundary s))
      if acqRuns s then frameTurn tb (calBoundary tb s) else s

/-- FRAME_BOUNDARY (07 R181). -/
def execFrameBoundary (t : Nat) (partner : Bool) (s : State) : Host.Outcome State Fault Refusal :=
  .next (frameBoundary t partner (at' t s))

/-! ## Genlock (07 R180; 01 R33; 14 R379) -/

/-- The expected genlock period in LSB: the last measured, else PERIOD. -/
def glExpected (s : State) : Nat := if s.acq.glPeriod = 0 then rndN (acqPeriod s) (2 ^ 24) else s.acq.glPeriod

/-- The genlock phase at an accepted edge, in ns: its reference instant less the nearest NETWORK instant (14 R379). -/
def glPhase (s : State) (e : Nat) : Int :=
  let g : Bool × Int × Nat := (true, acqEpoch s, acqPeriod s)
  let r : Int := (e : Int) + sword (reg s A.ACQ_GENLOCK_OFFSET) * 256
  match gridAt s g (gridNear s g r.toNat) with
  | some n => rnd (r - n) 256
  | none => 0

/-- GENLOCK_EDGE: an edge of GENLOCK_IN; the active one is accepted, or ignored where it comes too soon. -/
def genlockEdge (t : Nat) (falling : Bool) (s : State) : State :=
  if !(sysOn s) ∨ s.clk.discard.contains 0 ∨ refMode s ≠ 2 ∨ flag s F.ACQ_TIME_REF_GL_FALLING ≠ falling then s
  else
    let soon := s.acq.glEdge.any fun e => decide (2 * (t - e) * 2 ^ 24 < acqPeriod s)
    if soon then bump s A.ACQ_GENLOCK_EXTRA
    else
      let s :=
        match s.acq.glEdge with
        | some e =>
          if flag s F.ACQ_STATUS_GENLOCK_LOST then s
          else setReg (onAcq s fun a => { a with glPeriod := t - e }) A.ACQ_GENLOCK_PERIOD (word (rndN (t - e) 256 % 2 ^ 30))
        | none => s
      let s := wr (onAcq s fun a => { a with glEdge := some t }) F.ACQ_STATUS_GENLOCK_LOST 0
      planPhase s (glPhase s t)

/-- GENLOCK_EDGE (07 R180). -/
def execGenlockEdge (t : Nat) (falling : Bool) (s : State) : Host.Outcome State Fault Refusal :=
  .next (genlockEdge t falling (at' t s))

/-- Genlock is lost. -/
def glLose (s : State) : State := raise (wr s F.ACQ_STATUS_GENLOCK_LOST 1) F.ACQ_EVT_RAW_GENLOCK_LOST

/-- GENLOCK_LOST: no edge has come for two expected periods (01 R33). -/
def genlockLost (t : Nat) (s : State) : State :=
  match s.acq.glEdge with
  | some e => if sysOn s ∧ refMode s = 2 ∧ !(flag s F.ACQ_STATUS_GENLOCK_LOST) ∧ e + 2 * glExpected s ≤ t then glLose s else s
  | none => s

/-- GENLOCK_LOST (01 R33). -/
def execGenlockLost (t : Nat) (s : State) : Host.Outcome State Fault Refusal := .next (genlockLost t (at' t s))

/-! ## The ACQ page (07 R183, R193, R196, R206, R207) -/

/-- The checks of a write to the ACQ page. -/
def acqCheck (a : Nat) (d : Word) (s : State) : Nat := if a = A.ACQ_CTRL ∧ bit d 3 ∧ !(acqStopped s) then 0x04 else 0

/-- What a write to the ACQ page does beside its registers. -/
def acqAct (a : Nat) (d : Word) (o s : State) : State :=
  if a = A.ACQ_CTRL then
    let s := if flag s F.ACQ_CTRL_ENABLE ∧ !(flag o F.ACQ_CTRL_ENABLE) then onAcq s fun x => { x with trigNum := 0 } else s
    let s := acqSettle s
    let s := if bit d 3 then onAcq s fun x => { x with rearm := true } else s
    if bit d 2 then trigEvent s 8 s.now false none else s
  else if a = A.ACQ_TRIG_SRC ∧ rdBit s A.ACQ_TRIG_SRC 9 ≠ rdBit o A.ACQ_TRIG_SRC 9 then autoRestart s
  else s

/-- What a commit of the ACQ page does beside its registers (07 R180). -/
def acqCommitted (o s : State) : State :=
  if refMode o = refMode s then s
  else
    let s := onAcq s fun a => { a with glEdge := none, glPeriod := 0 }
    if refMode s = 2 then glLose s else wr s F.ACQ_STATUS_GENLOCK_LOST 0

/-- SOFT_RESET of the ACQ page, before its registers: as ENABLE 0 at once, the frame in progress STOPPED; the ring is
discarded (07 R207). -/
def acqReset (s : State) : State :=
  let s := closeFrames (wr s F.ACQ_CTRL_ENABLE 0) true
  let s := flushFrames (onAcq s fun a => { a with frames := a.frames.map fun f => { f with atOnce := !f.ended } })
  let s := if acqStopped s then lmpEdge s 5 false else s
  let s := ringDiscard (enableEffect s)
  onAcq s fun a => { a with
    anchor := none, glEdge := none, glPeriod := 0, events := [], marks := [], trigNum := 0, marked := [], losses := [], cut := 0, auto' := none,
    tbBusy := [], rearm := false }

/-- MODE_ACTIVE, RING_POS, RING_USED and RING_OLDEST as they read (07 R198, R207). -/
def acqModeActive (s : State) : Word :=
  word (refMode s * 16 + rd s F.ACQ_TIME_REF_GL_FALLING * 4 + fld (reg s F.ACQ_ACQ_MODE_RETAIN.addr) 0 2)
def ringPositions (s : State) : Word := word (((s.acq.ring.filter fun e => decide (e.typ ≠ 1)).map (·.ord)).eraseDups.length % 2 ^ 24)
def ringBlocks (s : State) : Word := word ((ringUsed s + 4095) / 4096)
def ringOldest (s : State) : Word := word ((s.acq.ring.head?.map (·.off)).getD 0)

/-- What a write to the ESC page does beside its registers and its outputs (04 R116). -/
def escAct (a : Nat) (o s : State) : State :=
  if a = F.ESC_CTRL_ENABLE.addr ∧ flag o F.ESC_CTRL_ENABLE ∧ !(flag s F.ESC_CTRL_ENABLE) then stopScheduling s else s

/-- MSK.STATUS and CFG_ACTIVE (07 R209). -/
def mskStatus (s : State) : Word := word (b2n (flag s F.MSK_CTRL_ENABLE && acqRuns s) * 2 + rd s F.MSK_CFG_BANK)
def mskCfgActive (s : State) : Word := reg s F.MSK_CFG_BANK.addr

end Sys2Proof.Machine
end

