-- ==== Sys2Proof/Machine/LinkPower.lean ====
section
/-!
DEFINITION. What the link does on behalf of all that waits for it, stream segments among it: its power states and CREDIT_WAIT
(chapter 09).
-/

namespace Sys2Proof.Machine

/-- The segments that queues routed to a bundle have ready, as frames (08 R215, R217). -/
def segsWaiting (s : State) (b : Nat) : List LinkFrame :=
  s.stq.queues.filterMap fun p =>
    if fld p.2.route 0 5 = b then (segPlan p.2).map fun x => segFrameOf s p.1 x else none

/-- CREDIT_WAIT: the VCs of which a frame waits for credit (09 R264). -/
def creditWait (s : State) (b : Nat) : Nat :=
  let l := (List.range 8).filterMap fun v => ((pget [] s.wnb.tx b).find? fun p => p.1.vc = v).map (·.1)
  maskOf ((List.range 8).filter fun v => (l ++ segsWaiting s b).any fun f => decide (f.vc = v) && !(creditFor s b f))

/-! ## Power states (09 R261) -/

/-- A frame waits to be sent on a bundle: one of its own list, or the segment of a queue routed to it (09 R261; 08 R217). -/
def frameWaits (s : State) (b : Nat) : Bool := !(pget [] s.wnb.tx b).isEmpty || !(segsWaiting s b).isEmpty

/-- The bundle may change its power state: no frame waits and none is unacknowledged. -/
def idleLink (s : State) (b : Nat) : Bool := bundleUp s b && (bundle s b).sent.isEmpty && !(frameWaits s b)

/-- A standing request is sent, or tried again in 10 µs (09 R261). -/
def tryPower (s : State) (b : Nat) : State :=
  let r := rd s (F.B_CTRL_POWER_REQ b)
  if r = 0 ∨ r = rd s (F.B_STATUS_POWER b) ∨ !(bundleUp s b) then s
  else
    let s := onBundle s b fun x => { x with retryAt := s.now + usec 10 }
    if idleLink s b ∧ rd s (F.B_STATUS_POWER b) = 0 then
      sendLcw (onBundle s b fun x => { x with asked := true }) b [5 * 2 ^ 21 + r * 2 ^ 16]
    else s

/-- POWER_RETRY (09 R261). -/
def powerRetry (t b : Nat) (s : State) : State := if (bundle s b).retryAt ≤ t then tryPower (newLcw s b) b else s

/-- POWER: a request, an acknowledgement or a refusal (09 R261). -/
def powerReceived (b : Nat) (ack : Bool) (st : Nat) (s : State) : State :=
  let s := newLcw s b
  if !(bundleUp s b) then s
  else if ack then
    (if (bundle s b).asked ∧ st ≠ 0 then onBundle s b fun x => { x with asked := false, enter := some st } else s)
  else if st = 0 then onBundle s b fun x => { x with asked := false, retryAt := s.now + usec 10 }
  else if idleLink s b ∧ st ≠ 3 then
    sendLcw (onBundle s b fun x => { x with enter := some st }) b [5 * 2 ^ 21 + 2 ^ 20 + st * 2 ^ 16]
  else sendLcw s b [5 * 2 ^ 21]

/-- LINK_POWER_ENTRY: the ALIGN after a POWER ACK (09 R261). -/
def linkPowerEntry (b : Nat) (s : State) : State :=
  match (bundle s b).enter with
  | some st =>
    let s := onBundle (newLcw s b) b fun x => { x with enter := none }
    let s := if st = 2 then (bundleLanes s b).foldl (fun s l => setPllLock (setBitLock s l false) l false) s else s
    raise (wr s (F.B_STATUS_POWER b) st) (F.B_EVT_RAW_POWER_CHANGE b)
  | none => s

/-- POWER_EXIT: an exit starts on a waiting frame with AUTO_WAKE, on POWER_REQ L0, or on signal from the partner
(09 R261). -/
def powerExit (t b : Nat) (signal : Bool) (s : State) : State :=
  let s := newLcw s b
  let p := rd s (F.B_STATUS_POWER b)
  let why := signal || decide (rd s (F.B_CTRL_POWER_REQ b) = 0)
    || (flag s (F.B_CTRL_AUTO_WAKE b) && frameWaits s b)
  if !(bundleUp s b) ∨ !why ∨ (bundle s b).waking.isSome then s
  else if p = 1 then onBundle s b fun x => { x with waking := some t }
  else if p = 2 then
    let s := (bundleLanes s b).foldl (fun s l => setPllLock s l true) s
    enterRecovery (raise (wr s (F.B_STATUS_POWER b) 0) (F.B_EVT_RAW_POWER_CHANGE b)) b
  else s

/-- L1_EXIT_DONE: 800 ns of IDLE sets and an ALIGN have passed (09 R261). -/
def l1ExitDone (t b : Nat) (s : State) : State :=
  match (bundle s b).waking with
  | some u =>
    if u + nsec 800 ≤ t then
      let s := onBundle (newLcw s b) b fun x => { x with waking := none }
      raise (wr s (F.B_STATUS_POWER b) 0) (F.B_EVT_RAW_POWER_CHANGE b)
    else s
  | none => s

/-! ## Registers -/

/-- What an accepted write of a bundle page does beside storing it; `before` is the state before it (09 R258, R261,
R265). -/
def bAct (b off : Nat) (d : Word) (before s : State) : State :=
  let s := newLcw s b
  if off = 0x08 then
    let s :=
      if flag s (F.B_CTRL_ENABLE b) ∧ !(flag before (F.B_CTRL_ENABLE b)) then
        (if flag s F.WNB_CTRL_ENABLE then enterDetect s b 0 else s)
      else if !(flag s (F.B_CTRL_ENABLE b)) ∧ flag before (F.B_CTRL_ENABLE b) then
        disableBundle s b
      else s
    let s := if bit d 2 ∧ bundleUp s b then enterRecovery s b else s
    tryPower s b
  else if off = 0x44 then laneEnChange s b (laneEn before b)
  else s

/-! ## Rows -/

/-- POWER (09 R261). -/
def execPower (t b : Nat) (ack : Bool) (st : Nat) (s : State) : Host.Outcome State Fault Refusal :=
  .next (powerReceived b ack st (at' t s))

/-- POWER_RETRY (09 R261). -/
def execPowerRetry (t b : Nat) (s : State) : Host.Outcome State Fault Refusal := .next (powerRetry t b (at' t s))

/-- POWER_EXIT (09 R261). -/
def execPowerExit (t b : Nat) (signal : Bool) (s : State) : Host.Outcome State Fault Refusal :=
  .next (powerExit t b signal (at' t s))

/-- LINK_POWER_ENTRY (09 R261). -/
def execLinkPowerEntry (t b : Nat) (s : State) : Host.Outcome State Fault Refusal := .next (linkPowerEntry b (at' t s))

/-- L1_EXIT_DONE (09 R261). -/
def execL1ExitDone (t b : Nat) (s : State) : Host.Outcome State Fault Refusal := .next (l1ExitDone t b (at' t s))

end Sys2Proof.Machine
end

