-- ==== Sys2Proof/Machine/Lmp.lean ====
section
/-!
DEFINITION. The lamps, their pattern engines and diagnosis, and the emission indicator (chapter 18).
-/

namespace Sys2Proof.Machine

/-- The lamp block changed. -/
def onLmp (s : State) (f : Lmp → Lmp) : State := { s with lmp := f s.lmp }

/-- A lamp beside its registers. -/
def lamp (s : State) (l : Nat) : Lamp := pget Lamp.dark s.lmp.lamps l

/-- The state with a lamp set. -/
def setLamp (s : State) (l : Nat) (x : Lamp) : State := onLmp s fun b => { b with lamps := pset Lamp.dark b.lamps l x }

/-- LMP is enabled and its domain runs. -/
def lmpOn (s : State) : Bool := sysOn s && flag s F.LMP_CTRL_ENABLE

/-- A tick, a sub-period and a period, in LSB (R452). -/
def lampTick (s : State) : Nat := s.lmp.div * nsec 10
def lampSub (s : State) : Nat := 256 * lampTick s
def lampPeriod (s : State) : Nat := 4096 * lampTick s

/-- PROOF_TICKS of the timebase in force (R459). -/
def lampProofTicks (s : State) : Nat := (nsec 2000 + lampTick s - 1) / max 1 (lampTick s)

/-- A quotient rounded half up. -/
def halfUp (a : Int) (b : Nat) : Int := (2 * a + b) / (2 * (max 1 b) : Nat)

/-- A value clamped to a duty. -/
def clampDuty (v : Int) : Nat := (max 0 (min 4095 v)).toNat

/-! ## Pattern engines (R455, R456, R458) -/

/-- The time of step `i` of an engine in LSB. -/
def stepTime (s : State) (e i : Nat) : Nat := msec (rd s (F.LENG_STEP_TIME e i))

/-- The level of step `i` of an engine. -/
def stepLevel (s : State) (e i : Nat) : Nat := rd s (F.LENG_STEP_LEVEL e i)

/-- ENG_STATUS shows an engine. -/
def lengShow (s : State) (e : Nat) : State :=
  let x := lampEng s e
  setReg s (F.LENG_STATUS_STEP e).addr (word (b2n x.run * 2 ^ 31 + x.step * 2 ^ 16 + min 255 x.passes * 2 ^ 8))

/-- An engine at a period start: a start or a stop takes effect, or its step ends (R455, R456). -/
def lengPeriod (s : State) (e : Nat) : State :=
  let x := lampEng s e
  let p := s.lmp.at'
  let s :=
    if x.start then raise (setLampEng s e ⟨true, 0, p, 0, false, false⟩) F.LMP_EVT_RAW_ENG_START
    else if x.stop then setLampEng s e { x with run := false, stop := false }
    else if x.run ∧ x.since + stepTime s e x.step ≤ p then
      if x.step < rd s (F.LENG_CTRL_LAST_STEP e) then setLampEng s e { x with step := x.step + 1, since := p }
      else if rd s (F.LENG_CTRL_REPEAT e) ≠ 0 ∧ rd s (F.LENG_CTRL_REPEAT e) ≤ x.passes + 1 then
        raise (setLampEng s e { x with run := false, step := 0, passes := x.passes + 1 }) F.LMP_EVT_RAW_ENG_DONE
      else setLampEng s e { x with step := 0, since := p, passes := x.passes + 1 }
    else s
  lengShow s e

/-- The engine that drives a lamp: the lowest-numbered that runs and names it (R458). -/
def lampDriver (s : State) (l : Nat) : Option Nat :=
  (List.range 4).find? fun e => (lampEng s e).run && rdBit s (A.LENG_MASK e) l

/-- The level that an engine gives a lamp at a period start (R455). -/
def lampLevel (s : State) (e l : Nat) : Nat :=
  let x := lampEng s e
  let n := rd s (F.LENG_CTRL_LAST_STEP e) + 1
  if rd s (F.LENG_CTRL_MODE e) = 0 then
    let a := stepLevel s e x.step
    let b := stepLevel s e ((x.step + 1) % n)
    let t := stepTime s e x.step
    if t = 0 then a else clampDuty (halfUp ((a : Int) * t + ((b : Int) - a) * min t (s.lmp.at' - x.since)) t)
  else
    let k := ((List.range l).filter fun i => rdBit s (A.LENG_MASK e) i).length
    stepLevel s e ((x.step + k * rd s (F.LENG_CTRL_CHASE_OFS e)) % n)

/-! ## Duty (R454, R461) -/

/-- The request of a lamp, an engine's level applied. -/
def lampRequest (s : State) (l : Nat) : Nat :=
  match lampDriver s l with
  | some e => clampDuty (halfUp (rd s (F.LAMP_CFG_REQ l) * lampLevel s e l : Nat) 4095)
  | none => rd s (F.LAMP_CFG_REQ l)

/-- M_ij of a triad, signed Q2.14. -/
def matrixAt (s : State) (t k : Nat) : Int :=
  signed 16 (fld (reg s ((F.TRIAD_CFG_MAT_EN t).addr + 4 + 4 * (k / 2))) (16 * (k % 2)) 16)

/-- The colour matrix: each product rounded half up, their sum clamped. -/
def lampMixed (s : State) (l : Nat) : Nat :=
  let t := l / 3
  if l < 15 ∧ flag s (F.TRIAD_CFG_MAT_EN t) then
    clampDuty ((List.range 3).foldl (fun n j => n + halfUp (matrixAt s t (3 * (l % 3) + j) * lampRequest s (3 * t + j)) 16384) 0)
  else lampRequest s l

/-- The emission indicator. -/
def indicator (s : State) : Nat := rd s F.LMP_EMIT_CFG_EMIT_LAMP

/-- The duty of a lamp at a period start. -/
def lampDuty (s : State) (l : Nat) : Nat :=
  if s.lmp.forced ∧ l = indicator s then rd s F.LMP_EMIT_CFG_EMIT_DUTY
  else
    let b := rd s (F.LAMP_CFG_BIN l)
    clampDuty (halfUp (lampMixed s l * fld (reg s (A.LMP_BIN_GAIN (b / 2))) (16 * (b % 2)) 16 : Nat) 32768)

/-- The four bits of a number reversed. -/
def bitrev4 (j : Nat) : Nat := j % 2 * 8 + j / 2 % 2 * 4 + j / 4 % 2 * 2 + j / 8 % 2

/-- The on-times of the sub-periods that a duty gives (R452). -/
def subOns (d : Nat) : List Nat := (List.range 16).map fun j => d / 16 + b2n (decide (bitrev4 j < d % 16))

/-! ## Sub-periods, proof pulses and their debt (R460, R462) -/

/-- A lamp's proof pulses are enabled and needed: every sub-pulse is too short to sample. -/
def needsProof (s : State) (l : Nat) : Bool :=
  let x := lamp s l
  (flag s (F.LAMP_CFG_PROOF_EN l) || decide (l = indicator s)) && x.on.any (fun n => n ≠ 0)
    && x.on.all fun n => n < lampProofTicks s

/-- The next sub-period of a lamp runs: its pulse is lengthened for a proof, or gives up ticks of the debt. The output of a
lamp that is not enabled stays low (R453). -/
def subStep (s : State) (l : Nat) : State :=
  let x := lamp s l
  if !(flag s (F.LAMP_CFG_ENABLE l)) then setLamp s l { x with ran := x.ran ++ [0] } else
  let j := x.ran.length
  let b := x.on.getD j 0
  let asked := s.lmp.asked && decide (l = indicator s) && decide (s.saf.proofAt ≤ s.lmp.at' + j * lampSub s)
  let due := decide (j = 0) && decide (s.lmp.period % 256 = 0) && needsProof s l
  let s := if due && !asked && decide (x.debt ≠ 0) then raise (bump s A.LMP_DEBT_DROPS) F.LMP_EVT_RAW_DEBT_DROP else s
  let debt := if due && !asked then 0 else x.debt
  let want := if asked || due then max b (lampProofTicks s) else b
  if b < want then setLamp s l { x with ran := x.ran ++ [want], debt := debt + (want - b) }
  else setLamp s l { x with ran := x.ran ++ [b - min b debt], debt := debt - min b debt }

/-- A lamp's sub-periods run up to `n` of them. -/
def subsTo (n l : Nat) : Nat → State → State
  | 0, s => s
  | k + 1, s => if (lamp s l).ran.length < n then subsTo n l k (subStep s l) else s

/-- The lamps run up to the sub-period in progress at an instant. -/
def lampsTo (s : State) (t : Nat) : State :=
  let n := min 16 ((t - s.lmp.at') / max 1 (lampSub s) + 1)
  (List.range 16).foldl (fun s l => subsTo n l 16 s) s

/-! ## Periods (R452 to R454) -/

/-- Some pulse of a lamp is long enough for an open sample: one of its own, or a proof pulse (R459, R460, R466). -/
def openable (s : State) (l : Nat) : Bool :=
  (lamp s l).on.any (fun n => decide (lampProofTicks s ≤ n)) || needsProof s l

/-- A lamp takes its duty for a period, and shows it. -/
def lampTake (s : State) (l : Nat) : State :=
  let d := lampDuty s l
  let on := subOns d
  let s := setLamp s l { lamp s l with on := on, ran := [], openIn := 0, shortIn := 0 }
  let s := wr s (F.LAMP_STATUS_DUTY l) d
  let s := match lampDriver s l with
    | some e => wr (wr s (F.LAMP_STATUS_ENG_VALID l) 1) (F.LAMP_STATUS_ENGINE l) e
    | none => wr (wr s (F.LAMP_STATUS_ENG_VALID l) 0) (F.LAMP_STATUS_ENGINE l) 0
  let live := flag s (F.LAMP_CFG_ENABLE l)
  let s := wrB s (F.LAMP_STATUS_OPEN_BLIND l) (live && !(openable s l))
  wrB s (F.LAMP_STATUS_SHORT_BLIND l) (live && on.all fun n => decide ((256 - n) * lampTick s < nsec 2000))

/-- A period begins at an instant. -/
def periodBegin (s : State) (at0 n : Nat) : State :=
  let s := onLmp s fun b => { b with at' := at0, period := n, div := rd s F.LMP_PWM_CFG_BASE_DIV, renew := false }
  let s := (List.range 4).foldl lengPeriod s
  let s := wr s F.LMP_STATUS_ENGINES ((List.range 4).foldl (fun n e => n + b2n (lampEng s e).run * 2 ^ e) 0)
  lampsTo ((List.range 16).foldl lampTake s) at0

/-- LMP_PERIOD_START: the period in progress ends and the next begins. -/
def lmpPeriodStart (t : Nat) (s : State) : State :=
  if lmpOn s ∧ s.lmp.at' + lampPeriod s ≤ t then
    let s := lampsTo s (s.lmp.at' + lampPeriod s - 1)
    periodBegin s (s.lmp.at' + lampPeriod s) (if s.lmp.renew then 0 else s.lmp.period + 1)
  else s

/-- LMP_PERIOD_START (18 R454). -/
def execLmpPeriodStart (t : Nat) (s : State) : Host.Outcome State Fault Refusal := .next (lmpPeriodStart t (at' t s))

/-! ## Diagnosis (R459, R462, R463) -/

/-- OPEN or SHORT of a lamp is set or cleared, in its status and in the words of all lamps. -/
def setOpen (s : State) (l : Nat) (b : Bool) : State := wrBit (wrB s (F.LAMP_STATUS_OPEN l) b) A.LMP_OPEN_NOW l b
def setShort (s : State) (l : Nat) (b : Bool) : State := wrBit (wrB s (F.LAMP_STATUS_SHORT l) b) A.LMP_SHORT_NOW l b

/-- An open sample: `high` while current flows. The indicator is proven at a pulse that began after the proof request (R462). -/
def openSample (l : Nat) (high : Bool) (s : State) : State :=
  let x := lamp s l
  if high then
    let s := setOpen (setLamp s l { x with opens := 0 }) l false
    if s.lmp.asked ∧ l = indicator s ∧ s.saf.proofAt ≤ s.lmp.at' + (x.ran.length - 1) * lampSub s then
      let s := raise (onLmp s fun b => { b with asked := false }) F.LMP_EVT_RAW_PROVEN
      if chip1 s then s else proofLamp s
    else s
  else
    let n := min 15 (x.opens + 1)
    let s := setLamp s l { x with opens := n }
    if rd s F.LMP_DIAG_CFG_OPEN_N ≤ n ∧ !(flag s (F.LAMP_STATUS_OPEN l)) then
      raise (bump (setOpen s l true) A.LMP_OPEN_EVENTS) F.LMP_EVT_RAW_OPEN
    else s

/-- A short sample: `high` while current flows that should not. -/
def shortSample (l : Nat) (high : Bool) (s : State) : State :=
  let x := lamp s l
  if high then
    let n := min 15 (x.shorts + 1)
    let s := setLamp s l { x with shorts := n }
    if rd s F.LMP_DIAG_CFG_SHORT_N ≤ n ∧ !(flag s (F.LAMP_STATUS_SHORT l)) then
      raise (bump (setShort s l true) A.LMP_SHORT_EVENTS) F.LMP_EVT_RAW_SHORT
    else s
  else setShort (setLamp s l { x with shorts := 0 }) l false

/-- The instant of an open sample, 1.0 µs before the end of the running sub-period's pulse of `n` ticks, or of a short sample,
1.0 µs before the sub-period's end (R459). -/
def lampSampleAt (s : State) (l : Nat) (short : Bool) (n : Nat) : Nat :=
  s.lmp.at' + ((lamp s l).ran.length - 1) * lampSub s + (if short then 256 else n) * lampTick s - usec 1

/-- LAMP_DIAG_SAMPLE: a sample of LSENSE in the sub-period in progress, where its pulse or its off-time allows one, at its
instant or later, and one of each kind in a sub-period. -/
def lampDiagSample (t l : Nat) (short high : Bool) (s : State) : State :=
  if lmpOn s ∧ l < 16 ∧ flag s (F.LAMP_CFG_ENABLE l) then
    let s := lampsTo s t
    let n := (lamp s l).ran.getLastD 0
    let j := (lamp s l).ran.length
    let s := wrB s (F.LAMP_STATUS_LSENSE l) high
    if t < lampSampleAt s l short n then s
    else if short then
      (if nsec 2000 ≤ (256 - n) * lampTick s ∧ (lamp s l).shortIn < j then
         shortSample l high (setLamp s l { lamp s l with shortIn := j })
       else s)
    else if lampProofTicks s ≤ n ∧ (lamp s l).openIn < j then
      safRefresh (openSample l high (setLamp s l { lamp s l with openIn := j }))
    else s
  else s

/-- LAMP_DIAG_SAMPLE (18 R459). -/
def execLampDiagSample (t l : Nat) (short high : Bool) (s : State) : Host.Outcome State Fault Refusal :=
  .next (lampDiagSample t l short high (at' t s))

/-! ## Registers (R453, R456, R457, R461, R465 to R468) -/

/-- The engine of an address of the LMP page, and its offset in the engine's block. -/
def lengAt (a : Nat) : Option (Nat × Nat) := if 0xE0400 ≤ a ∧ a < 0xE0800 then some ((a - 0xE0400) / 0x100, a % 0x100) else none

/-- The checks of a write to the LMP page. -/
def lmpCheck (a : Nat) (d : Word) (s : State) : Nat :=
  if a = F.LMP_EMIT_CFG_EMIT_LAMP.addr ∧ fld d 0 4 ≠ indicator s ∧ !(flag s F.SAF_STATUS_WINDOW_OPEN) then 0x04
  else
    match lengAt a with
    | some (e, o) => if (o = 4 ∨ 0x80 ≤ o) ∧ flag s (F.LENG_CTRL_ENABLE e) then 0x04 else 0
    | none => 0

/-- The lamps go dark. -/
def lampsOff (s : State) : State :=
  (List.range 16).foldl (fun s l =>
    let s := setLamp s l { lamp s l with on := List.replicate 16 0, ran := [] }
    wr (wr (wr s (F.LAMP_STATUS_DUTY l) 0) (F.LAMP_STATUS_OPEN_BLIND l) 0) (F.LAMP_STATUS_SHORT_BLIND l) 0) s

/-- What a write to the LMP page does beside its registers. -/
def lmpAct (a : Nat) (d : Word) (o s : State) : State :=
  if a = F.LMP_CTRL_ENABLE.addr then
    if flag s F.LMP_CTRL_ENABLE = flag o F.LMP_CTRL_ENABLE then s
    else if flag s F.LMP_CTRL_ENABLE then safRefresh (periodBegin (wr s F.LMP_STATUS_ACTIVE 1) s.now 0)
    else safRefresh (lampsOff (wr s F.LMP_STATUS_ACTIVE 0))
  else if a = F.LMP_PWM_CFG_BASE_DIV.addr then onLmp s fun b => { b with renew := true }
  else
    match lengAt a with
    | some (e, k) =>
      if k = 0 ∧ flag o (F.LENG_CTRL_ENABLE e) ∧ !(flag s (F.LENG_CTRL_ENABLE e)) then
        setLampEng s e { lampEng s e with start := false, stop := true }
      else if k = 8 ∧ bit d 0 ∧ flag s (F.LENG_CTRL_ENABLE e) ∧ rd s (F.LENG_CTRL_START_SRC e) = 0 then lampEngStart s e
      else s
    | none => if a = F.LMP_EMIT_CFG_EMIT_LAMP.addr ∨ (0xE0100 ≤ a ∧ a < 0xE0200) then safRefresh s else s

/-- SOFT_RESET of the LMP page, beside its registers; the engine tables stay (log entry 86). -/
def lmpReset (s : State) : State :=
  onLmp s fun b => { b with engs := [], lamps := [], period := 0, at' := s.now, div := 25, renew := false }

/-- The LMP domain has stopped. -/
def lmpStopped (s : State) : State := lampsOff s

end Sys2Proof.Machine
end

