-- ==== Sys2Proof/Machine/Vid.lean ====
section
/-!
DEFINITION. The focus preview: its timing, its layers, its output words, its commits and its checks (chapter 15).
-/

namespace Sys2Proof.Machine

/-! ## Timing (R387, R398) -/

/-- A preset: pixel clock in Hz, DIV1001, and the counts of pixels and of lines: active, front porch, sync, back porch. -/
abbrev VidTiming := Nat × Bool × List Nat × List Nat

/-- The presets of R387; code 0 is CUSTOM. -/
def vidPresets : List VidTiming :=
  let hd (p : Nat) := [1920, p, 44, 148]
  let v7 := [720, 5, 5, 20]
  let v10 := [1080, 4, 5, 36]
  let v21 := [2160, 8, 10, 72]
  [(0, false, [], []),
    (74250000, false, [1280, 440, 40, 220], v7), (74250000, true, [1280, 110, 40, 220], v7),
    (74250000, false, [1280, 110, 40, 220], v7), (74250000, true, hd 638, v10), (74250000, false, hd 638, v10),
    (74250000, false, hd 528, v10), (74250000, true, hd 88, v10), (74250000, false, hd 88, v10),
    (148500000, false, hd 528, v10), (148500000, true, hd 88, v10), (148500000, false, hd 88, v10),
    (297000000, false, [3840, 1276, 88, 296], v21), (297000000, false, [3840, 1056, 88, 296], v21),
    (297000000, true, [3840, 176, 88, 296], v21), (297000000, false, [3840, 176, 88, 296], v21)]

/-- The timing that a set of field values gives. -/
def vidTimingOf (g : Fld → Nat) : VidTiming :=
  if g F.VID_OUT_CFG_PRESET = 0 then
    (g F.VID_PCLK_PCLK_HZ, g F.VID_PCLK_DIV1001 = 1,
      [g F.VID_HTIME0_H_ACTIVE, g F.VID_HTIME0_H_FP, g F.VID_HTIME1_H_SYNC, g F.VID_HTIME1_H_BP],
      [g F.VID_VTIME0_V_ACTIVE, g F.VID_VTIME0_V_FP, g F.VID_VTIME1_V_SYNC, g F.VID_VTIME1_V_BP])
  else vidPresets.getD (g F.VID_OUT_CFG_PRESET) (0, false, [], [])

/-- The timing in force. -/
def vidTiming (s : State) : VidTiming := vidTimingOf (rd s)

/-- The pixel clock of a timing, as a numerator and a denominator in Hz. -/
def vidClock (t : VidTiming) : Nat × Nat := if t.2.1 then (t.1 * 1000, 1001) else (t.1, 1)

/-- The active pixels of a line, and the active lines, in force. -/
def hActive (s : State) : Nat := (vidTiming s).2.2.1.headD 0
def vActive (s : State) : Nat := (vidTiming s).2.2.2.headD 0

/-- The blanking lines before the first active one, and all lines of a frame (R398). -/
def vBlank (s : State) : Nat := ((vidTiming s).2.2.2.drop 1).sum
def vLines (s : State) : Nat := vActive s + vBlank s

/-- PCLK_ACTIVE: the pixel clock in force, rounded; 0 in a gap and while the PLL is not locked. -/
def pclkActive (s : State) : Word :=
  let c := vidClock (vidTiming s)
  if flag s F.VID_STATUS_CLK_LOCK then word (rndN c.1 c.2) else 0#32

/-- The preview changed by a function. -/
def onVid (s : State) (f : Vid → Vid) : State := { s with vid := f s.vid }

/-! ## Colours (R393, R395 to R397) -/

/-- The components of a colour of 10 bits each: red, green, blue. -/
def rgbOf (c : Nat) : List Nat := [c / 2 ^ 20 % 1024, c / 2 ^ 10 % 1024, c % 1024]

/-- The 30-bit colour of three components. -/
def rgbWord (c : List Nat) : Nat := c.getD 0 0 * 2 ^ 20 + c.getD 1 0 * 2 ^ 10 + c.getD 2 0

/-- An 8-bit colour widened to 10 bits (R393). -/
def widen8 (v : Nat) : Nat := v * 4 + v / 64

/-- A value of alpha `a` over the one beneath it (R393). -/
def blend1 (a c d : Nat) : Nat := (a * c + (255 - a) * d + 127) / 255

/-- A pixel, red, green, blue and alpha, over a colour. -/
def blendPix (p d : List Nat) : List Nat := List.zipWith (blend1 (p.getD 3 0)) (p.take 3) d

/-- An ARGB 8:8:8:8 word as a pixel (R396). -/
def argbPix (w : Word) : List Nat := [widen8 (fld w 16 8), widen8 (fld w 8 8), widen8 (fld w 0 8), fld w 24 8]

/-- The key of an entry of table `t` in bank `b`. -/
def vtblKey (t b i : Nat) : Nat := 2 ^ 16 * (2 * t + b) + i

/-- The bank of table `t` in force. -/
def vtblBank (s : State) (t : Nat) : Nat := fld (reg s F.VID_TABLE_CFG_L0.addr) t 1

/-- Entry `i` of table `t` in force. -/
def vtblAt (s : State) (t i : Nat) : Word := pget 0#32 s.vid.tables (vtblKey t (vtblBank s t) i)

/-- The colour and alpha that L0 gives a source pixel (R395). -/
def l0Pix (s : State) (dscale d : Nat) : List Nat :=
  let a0 (a : Nat) := rndN (a * rd s F.VID_L0_CFG_A0) 255
  if d = 0 ∨ d = 0xFFFF then rgbOf (reg s A.VID_L0_NODATA).toNat ++ [a0 (rd s F.VID_L0_CFG_NODATA_ALPHA)]
  else
    let dm := d * 2 ^ dscale
    let i := min ((dm - (reg s A.VID_L0_LUT_BASE).toNat) / 2 ^ rd s F.VID_L0_CFG_LUT_SHIFT) 1023
    let c := rgbOf (vtblAt s 0 i).toNat
    let inside := (reg s A.VID_FOCUS_NEAR).toNat ≤ dm ∧ dm ≤ (reg s A.VID_FOCUS_FAR).toNat
    let focus := rgbOf (reg s A.VID_FOCUS_COLOUR).toNat
    let m := rd s F.VID_L0_CFG_BAND_MIX
    let mode := rd s F.VID_L0_CFG_BAND_MODE
    let c :=
      if mode = 1 ∧ inside then focus
      else if mode = 2 ∧ inside then List.zipWith (blend1 m) focus c
      else if mode = 3 ∧ ¬inside then c.map fun x => rndN (x * m) 255
      else c
    c ++ [a0 255]

/-- The colour and alpha that L1 gives a source pixel (R396). -/
def l1Pix (s : State) (v : Nat) : List Nat :=
  let g := (vtblAt s 1 (min (v / 2 ^ rd s F.VID_L1_CFG_G_SHIFT) 1023)).toNat % 1024
  [g, g, g, rd s F.VID_L1_CFG_A1]

/-! ## Scaling (R394) -/

/-- The source pixels of destination pixel `n` and the weight of the second, in 1/256. -/
def vidPos (n dst src : Nat) : Nat × Nat × Nat :=
  let p := min ((2 * n + 1) * src - dst) (2 * dst * (src - 1))
  (p / (2 * dst), min (p / (2 * dst) + 1) (src - 1), rndN (256 * (p % (2 * dst))) (2 * dst))

/-- Four values interpolated by two weights, rounded once (log entry 88). -/
def lerp2 (a b c d wx wy : Nat) : Nat :=
  ((256 - wy) * ((256 - wx) * a + wx * b) + wy * ((256 - wx) * c + wx * d) + 2 ^ 15) / 2 ^ 16

/-- The image rectangle: left, top, width, height; and the overlay's. -/
def imgRect (s : State) : List Nat :=
  [rd s F.VID_IMG_POS_DST_X, rd s F.VID_IMG_POS_DST_Y, rd s F.VID_IMG_SIZE_DST_W, rd s F.VID_IMG_SIZE_DST_H]
def ovlRect (s : State) : List Nat :=
  [rd s F.VID_OVL_POS_X, rd s F.VID_OVL_POS_Y, rd s F.VID_OVL_SIZE_OVL_W, rd s F.VID_OVL_SIZE_OVL_H]

/-- The rectangle of layer 0, 1 or 2. -/
def layerRect (s : State) (l : Nat) : List Nat := if l = 2 then ovlRect s else imgRect s

/-- A line lies in a rectangle; a pixel of a line of it lies in it. -/
def rowIn (r : List Nat) (y : Nat) : Bool := decide (r.getD 1 0 ≤ y) && decide (y < r.getD 1 0 + r.getD 3 0)
def colIn (r : List Nat) (x : Nat) : Bool := decide (r.getD 0 0 ≤ x) && decide (x < r.getD 0 0 + r.getD 2 0)

/-- The layer is enabled, on in this frame, and has something to show. -/
def layerOn (s : State) (l : Nat) : Bool :=
  (rd s F.VID_STATUS_LAYER_ON).testBit l && (decide (2 ≤ l) || flag s F.VID_STATUS_SRC_VALID)

/-- Row `j` of the line buffer of layer `l`. -/
def heldRow (s : State) (l j : Nat) : List Nat := pget [] (s.vid.held.getD l []) j

/-- The pixel of L0 or L1 at a place of the image rectangle. -/
def imgPix (s : State) (l x y : Nat) : List Nat :=
  let (w, h) := srcSize s
  let (i, i', wx) := vidPos (x - (imgRect s).getD 0 0) ((imgRect s).getD 2 0) w
  let (j, j', wy) := vidPos (y - (imgRect s).getD 1 0) ((imgRect s).getD 3 0) h
  let dscale := fld (memWord s.sram ((reg s A.VID_SRC_BASE).toNat + (s.vid.shown.getD (0, 0)).1 * (0x1000 + 2 * planeBytes w h) + 8)) 0 3
  let c (j i : Nat) := (fun v => if l = 0 then l0Pix s dscale v else l1Pix s v) ((heldRow s l j).getD i 0)
  (List.range 4).map fun k => lerp2 ((c j i).getD k 0) ((c j i').getD k 0) ((c j' i).getD k 0) ((c j' i').getD k 0) wx wy

/-- The pixel of layer `l` at a place; none where it is transparent there. `under` gives the pixel of this line from
which a layer has underrun (R403). -/
def layerAt (s : State) (under : List (Nat × Nat)) (l x y : Nat) : Option (List Nat) :=
  if !(layerOn s l) then none
  else if l = 3 then
    let mx := (x : Int) - rdI s F.VID_MARK_POS_MARK_X
    let my := (y : Int) - rdI s F.VID_MARK_POS_MARK_Y
    if 0 ≤ mx ∧ mx < 64 ∧ 0 ≤ my ∧ my < 64 then some (argbPix (vtblAt s 3 (my.toNat * 64 + mx.toNat))) else none
  else if rowIn (layerRect s l) y ∧ colIn (layerRect s l) x then
    if under.any fun u => u.1 = l && decide (u.2 ≤ x) then
      if s.vid.under.getD l 0 = 0 then some (rgbOf (reg s A.VID_BG_COLOUR).toNat ++ [255]) else none
    else if l = 2 then some (argbPix (vtblAt s 2 ((heldRow s 2 y).getD (x - (ovlRect s).getD 0 0) 0)))
    else some (imgPix s l x y)
  else none

/-- The composited colour of a pixel: background, L1, L0, L2, L3 (R393). -/
def composite (s : State) (under : List (Nat × Nat)) (x y : Nat) : List Nat :=
  [1, 0, 2, 3].foldl (fun d l => match layerAt s under l x y with
    | some p => blendPix p d
    | none => d) (rgbOf (reg s A.VID_BG_COLOUR).toNat)

/-! ## Output words (R384 to R386) -/

/-- The codes Y, Cb and Cr of a colour (R385). -/
def yccOf (s : State) (c : List Nat) : List Nat :=
  let (kr, kb) : Nat × Nat := if flag s F.VID_OUT_CFG_MATRIX then (2627, 593) else (2126, 722)
  let e : Int := (kr * c.getD 0 0 + (10000 - kr - kb) * c.getD 1 0 + kb * c.getD 2 0 : Nat)
  let code (off n : Int) (num : Int) (den : Nat) : Nat := (clampI (rnd (off * den + n * num) den) 0 1023).toNat
  let ch (v k : Nat) : Int × Nat := (10000 * (v : Int) - e, 1023 * 2 * (10000 - k))
  let (b, bd) := ch (c.getD 2 0) kb
  let (r, rd') := ch (c.getD 0 0) kr
  if flag s F.VID_OUT_CFG_RANGE then [code 0 1023 e (1023 * 10000), code 512 1023 b bd, code 512 1023 r rd']
  else [code 64 876 e (1023 * 10000), code 512 896 b bd, code 512 896 r rd']

/-- A pair of streams in one word: Y in [19:10], C in [9:0]. -/
def ycWord (y c : Nat) : Nat := y * 1024 + c

/-- The 4:2:2 words of a line of codes: each pair of pixels shares its mean chroma, Cb with the even one (R385). -/
def to422 : List (List Nat) → List Nat
  | a :: b :: r =>
    ycWord (a.getD 0 0) ((a.getD 1 0 + b.getD 1 0 + 1) / 2) :: ycWord (b.getD 0 0) ((a.getD 2 0 + b.getD 2 0 + 1) / 2) :: to422 r
  | _ => []

/-- The BT.1120 CRC over one more word of 10 bits, its first bit the least significant (log entry 88). -/
def btCrc (c w : Nat) : Nat :=
  (List.range 10).foldl (fun c i => let x := (c ^^^ (w >>> i)) % 2; if x = 1 then c / 2 ^^^ 0x23000 else c / 2) c

/-- A word whose top bit is the inverse of the bit below it. -/
def notTop (v : Nat) : Nat := v % 512 + if v.testBit 8 then 0 else 512

/-- The timing reference words EAV (h 1) and SAV (h 0), with F 0 (R386). -/
def btRef (v h : Nat) : List Nat := [0x3FF, 0, 0, 512 + v * 128 + h * 64 + (v ^^^ h) * 32 + h * 16 + v * 8 + (v ^^^ h) * 4]

/-- The words of a line in BT.1120: EAV, line number, CRC, blanking, SAV and the active part; and the CRCs over the
active part (R386). -/
def btLine (s : State) (n : Nat) (active : List Nat) : List Nat × List Nat :=
  let v := b2n (decide (n < vBlank s))
  let num := (n + 1121) % 1125 + 1
  let ln := [num % 128 * 4 + if num.testBit 6 then 0 else 512, 512 + num / 128 * 4]
  let head := btRef v 1 ++ ln
  let cy := head.foldl btCrc (s.vid.bt.getD 0 0)
  let cc := head.foldl btCrc (s.vid.bt.getD 1 0)
  let two (f g : Nat) := ycWord f g
  let crc := [two (notTop (cy % 512)) (notTop (cc % 512)), two (notTop (cy / 512)) (notTop (cc / 512))]
  let blank := ((vidTiming s).2.2.1.drop 1).sum - 12
  (head.map (fun w => two w w) ++ crc ++ List.replicate blank (two 64 512) ++ (btRef v 0).map (fun w => two w w) ++ active,
    [active.foldl (fun c w => btCrc c (w / 1024)) 0, active.foldl (fun c w => btCrc c (w % 1024)) 0])

/-- The word of a pixel in the formats of 10 bits a component (R384). -/
def pixWord (s : State) (p : List Nat) : Nat :=
  let c := yccOf s p
  if rd s F.VID_OUT_CFG_FORMAT = 1 then rgbWord [c.getD 2 0, c.getD 0 0, c.getD 1 0] else rgbWord p

/-- The sync, enable and clock pins in line `n`: VID_VS is active in the sync lines, which follow the front porch
(R384, R398). -/
def linePins (s : State) (n : Nat) : State :=
  let v := (vidTiming s).2.2.2
  let sync := decide (v.getD 1 0 ≤ n) && decide (n < v.getD 1 0 + v.getD 2 0)
  let hp := flag s F.VID_OUT_CFG_HS_POL
  onVid s fun x => { x with hsOn := hp, hsOff := !hp, vs := sync == flag s F.VID_OUT_CFG_VS_POL, de := decide (vBlank s ≤ n),
                            clkOn := true }

/-- The outputs are held low, or, in a gap, the syncs at their inactive levels (R383, R399). -/
def pinsQuiet (s : State) (gap : Bool) : State :=
  let h := gap && !(flag s F.VID_OUT_CFG_HS_POL)
  onVid s fun x => { x with hsOn := h, hsOff := h, vs := gap && !(flag s F.VID_OUT_CFG_VS_POL), de := false, clkOn := false,
                            out := [] }

/-- The words sent in line `n` whose composited pixels are given; none in blanking. -/
def sendLine (s : State) (n : Nat) (pix : List (List Nat)) : State :=
  let s := linePins s n
  if rd s F.VID_OUT_CFG_FORMAT = 2 then
    let active := if pix = [] then List.replicate (hActive s) (ycWord 64 512) else to422 (pix.map (yccOf s))
    let (w, c) := btLine s n active
    onVid s fun v => { v with out := w, bt := c }
  else onVid s fun v => { v with out := pix.map (pixWord s) }

/-! ## Lines (R401, R403, R404, R405) -/

/-- A 16-bit value of a byte memory. -/
def vidHalf (m : List Host.Cell) (a : Nat) : Nat := (pget 0#8 m a).toNat + (pget 0#8 m (a + 1)).toNat * 256

/-- Source row `r` of a plane of the buffer shown. -/
def srcRow (s : State) (plane r : Nat) : List Nat :=
  let (w, h) := srcSize s
  let base := (reg s A.VID_SRC_BASE).toNat + (s.vid.shown.getD (0, 0)).1 * (0x1000 + 2 * planeBytes w h) + 0x1000 + plane * planeBytes w h
  (List.range w).map fun c => vidHalf s.sram (base + 2 * (r * w + c))

/-- The overlay row of line `y`. -/
def ovlRow (s : State) (y : Nat) : List Nat :=
  let base := (reg s A.VID_OVL_BASE).toNat + (y - (ovlRect s).getD 1 0) * (reg s A.VID_OVL_STRIDE).toNat
  (List.range ((ovlRect s).getD 2 0)).map fun x => (pget 0#8 s.sram (base + x)).toNat

/-- The rows of layer `l` that line `y` needs. -/
def rowsNeeded (s : State) (l y : Nat) : List Nat :=
  if !(layerOn s l && rowIn (layerRect s l) y) then []
  else if l = 2 then [y]
  else
    let (j, j', w) := vidPos (y - (imgRect s).getD 1 0) ((imgRect s).getD 3 0) (srcSize s).2
    if w = 0 ∨ j = j' then [j] else [j, j']

/-- The line buffers take the rows of line `y` that they do not hold; the bytes fetched count (R401). -/
def fetchLine (s : State) (y : Nat) : State :=
  let step (acc : List (List (Nat × List Nat)) × Nat) (l : Nat) :=
    let old := s.vid.held.getD l []
    let need := rowsNeeded s l y
    let rows := need.map fun j => match old.find? (fun p => p.1 = j) with
      | some p => p
      | none => (j, if l = 2 then ovlRow s y else srcRow s l j)
    let new := (need.filter fun j => !(old.any fun p => p.1 = j)).length
    let bytes := if l = 2 then (ovlRect s).getD 2 0 else 2 * (srcSize s).1
    (acc.1 ++ [if need = [] then old else rows], acc.2 + new * bytes)
  let (held, n) := [0, 1, 2].foldl step ([], 0)
  monSample (onVid s fun v => { v with held := held, peak := max v.peak n }) 0x080 0 n

/-- Underruns can occur: some line of the frame fetched more than 4 GB/s in a line's time (R402). -/
def mayUnderrun (s : State) : Bool :=
  let c := vidClock (vidTiming s)
  decide (4000000000 * (vidTiming s).2.2.1.sum * c.2 < s.vid.peak * c.1)

/-- A CRC over a pixel word, its bytes in order (09 R246). -/
def crcPix (c w : Nat) : Nat := (wordBytes [word w]).foldl (fun c b => crcByte c b) c

/-- The rectangle `i` of R405: left, top, width, height. -/
def chkRect (s : State) (i : Nat) : List Nat :=
  [rd s (F.RECT_POS_X i), rd s (F.RECT_POS_Y i), rd s (F.RECT_SIZE_W i), rd s (F.RECT_SIZE_H i)]

/-- The signatures and the CRCs of the rectangles take line `y`. -/
def crcLine (s : State) (under : List (Nat × Nat)) (y : Nat) (pix : List (List Nat)) : State :=
  let sig (l : Nat) (c : Nat) : Nat :=
    if rowIn (imgRect s) y then
      (List.range ((imgRect s).getD 2 0)).foldl (fun c x =>
        let p := (layerAt s under l ((imgRect s).getD 0 0 + x) y).getD [0, 0, 0, 0]
        crcPix c (rgbWord p + p.getD 3 0 / 64 * 2 ^ 30)) c
    else c
  let rect (i : Nat) (c : Nat) : Nat :=
    let r := chkRect s i
    if rowIn r y then ((pix.drop (r.getD 0 0)).take (r.getD 2 0)).foldl (fun c p => crcPix c (rgbWord p)) c else c
  let next (k : Nat) : Nat :=
    let c := s.vid.crcs.getD k 0xFFFFFFFF
    if k < 2 then sig k c else rect (k - 2) c
  onVid s fun v => { v with crcs := (List.range 10).map next }

/-- Layer `l` has underrun on line `y` from pixel `x` (R403, R405). -/
def underrunAt (y : Nat) (s : State) (u : Nat × Nat) : State :=
  let r := layerRect s u.1
  let stop := r.getD 0 0 + r.getD 2 0
  let n := s.vid.under.getD u.1 0 + 1
  let s := raise (bump s (A.VID_C_L0_UNDERRUN + 8 * u.1)) F.VID_EVT_RAW_UNDERRUN
  let hit (i : Nat) : Bool :=
    let q := chkRect s i
    rowIn q y && decide (u.2 < q.getD 0 0 + q.getD 2 0) && decide (q.getD 0 0 < stop)
  let s := onVid s fun v =>
    { v with
      under := (List.range 3).map fun l => if l = u.1 then n else v.under.getD l 0,
      held := (List.range 3).map fun l => if l = u.1 then [] else v.held.getD l [],
      bad := v.bad ++ (List.range 8).filter hit }
  if n = 2 then
    let s := wr s F.VID_STATUS_LAYER_ON (rd s F.VID_STATUS_LAYER_ON &&& (15 - 2 ^ u.1))
    raise (bump s (A.VID_C_L0_OFF + 8 * u.1)) F.VID_EVT_RAW_LAYER_OFF
  else s

/-- The generator runs. -/
def vidActive (s : State) : Bool := sysOn s && flag s F.VID_STATUS_ACTIVE

/-- A line begins: its pixels are composed from the line buffers, and the rows of the next are fetched. -/
def vidLine (s : State) (under : List (Nat × Nat)) : State :=
  let n := rd s F.VID_STATUS_LINE + 1
  if n < vLines s then
    let s := wrB (wr s F.VID_STATUS_LINE n) F.VID_STATUS_BLANK (decide (n < vBlank s))
    let s :=
      if n < vBlank s then sendLine s n []
      else
        let y := n - vBlank s
        let u := [0, 1, 2].filterMap fun l => under.find? fun u =>
          u.1 = l && mayUnderrun s && layerOn s l && rowIn (layerRect s l) y && colIn (layerRect s l) u.2
        let pix := (List.range (hActive s)).map fun x => composite s u x y
        u.foldl (underrunAt y) (crcLine (sendLine s n pix) u y pix)
    if vBlank s ≤ n + 1 ∧ n + 1 < vLines s then fetchLine s (n + 1 - vBlank s) else s
  else s

/-- VID_LINE_START: `under` lists, for each layer whose data are not in its line buffer in time, the layer and the pixel
(15 R401, R403). -/
def execVidLineStart (t : Nat) (under : List (Nat × Nat)) (s : State) : Host.Outcome State Fault Refusal :=
  let s := at' t s
  .next (if vidActive s then vidLine s under else s)

/-- The freeze check of a layer is off: its count is 0. -/
def freezeOff (s : State) (l : Nat) : State :=
  let s := wr s (if l = 0 then F.VID_FREEZE_COUNT_L0 else F.VID_FREEZE_COUNT_L1) 0
  onVid (wrBit s F.VID_STATUS_FREEZE.addr (12 + l) false) fun v =>
    { v with sigs := (List.range 2).map fun k => if k = l then none else v.sigs.getD k none }

/-- The freeze check of L0 or L1 is enabled. -/
def freezeOn (s : State) (l : Nat) : Bool := flag s (if l = 0 then F.VID_FREEZE_CFG_L0 else F.VID_FREEZE_CFG_L1)

/-- A frame end for the freeze check of a layer (R404). -/
def freezeEnd (s : State) (l : Nat) : State :=
  let f := if l = 0 then F.VID_FREEZE_COUNT_L0 else F.VID_FREEZE_COUNT_L1
  if !(freezeOn s l) then freezeOff s l
  else if !(layerOn s l) then s
  else
    let sig := s.vid.crcs.getD l 0xFFFFFFFF ^^^ 0xFFFFFFFF
    let prev := s.vid.sigs.getD l none
    let s := onVid s fun v => { v with sigs := (List.range 2).map fun k => if k = l then some sig else v.sigs.getD k none }
    if s.vid.under.getD l 0 ≠ 0 ∨ prev = none then s
    else if prev ≠ some sig then wrBit (wr s f 0) F.VID_STATUS_FREEZE.addr (12 + l) false
    else if s.vid.taken then
      let s := wr s f (min 255 (rd s f + 1))
      if rd s F.VID_FREEZE_CFG_FREEZE_FRAMES ≤ rd s f ∧ !(rdBit s F.VID_STATUS_FREEZE.addr (12 + l)) then
        raise (wrBit s F.VID_STATUS_FREEZE.addr (12 + l) true) F.VID_EVT_RAW_FREEZE
      else s
    else s

/-- The last active line ends: freeze signatures and rectangle CRCs are checked (R401, R404, R405). -/
def vidEnd (s : State) : State :=
  let s := [0, 1].foldl freezeEnd s
  let live := (List.range 8).filter fun i => (rd s F.VID_RECT_CFG_RECT_EN).testBit i
  let res (i : Nat) := word (s.vid.crcs.getD (2 + i) 0xFFFFFFFF ^^^ 0xFFFFFFFF)
  let wrong := live.filter fun i => res i ≠ reg s (A.RECT_EXPECT i) || s.vid.bad.contains i
  let s := live.foldl (fun s i => setReg s (A.RECT_RESULT i) (res i)) s
  let s := wrong.foldl (fun s i => wrBit s A.VID_RECT_MISMATCH i true) s
  let s := if wrong = [] then s else raise (bump s A.VID_C_RECT_MISMATCH_CNT) F.VID_EVT_RAW_RECT_MISMATCH
  onVid (setReg s A.VID_FETCH_PEAK (word s.vid.peak)) fun v => { v with done := true }

/-- VID_FRAME_END (15 R404, R405). -/
def execVidFrameEnd (t : Nat) (s : State) : Host.Outcome State Fault Refusal :=
  let s := at' t s
  .next (if vidActive s ∧ rd s F.VID_STATUS_LINE + 1 = vLines s ∧ !s.vid.done then vidEnd s else s)

/-! ## The latch point (R392, R398) -/

/-- The latest complete buffer becomes the one shown (R392). -/
def takeShown (s : State) : State :=
  match s.vid.latest with
  | none => onVid s fun v => { v with taken := false }
  | some b =>
    if s.vid.shown = some b then onVid s fun v => { v with taken := false }
    else
      let s := raise (bump s A.VID_C_SRC_SHOWN) F.VID_EVT_RAW_SRC_NEW
      let s := wr (wr s F.VID_STATUS_SRC_VALID 1) F.VID_STATUS_SHOWN b.1
      setWide (onVid s fun v => { v with shown := some b, taken := true }) A.VID_SHOWN_FRAME_LO b.2

/-- A video frame begins. -/
def vidLatch (s : State) : State :=
  let s := raise (bump s A.VID_C_FRAMES) F.VID_EVT_RAW_FRAME_START
  let s := takeShown s
  let s := wr (wr (wr s F.VID_STATUS_LINE 0) F.VID_STATUS_BLANK 1) F.VID_STATUS_LAYER_ON (fld (reg s A.VID_LAYER_CFG) 0 4)
  let s := onVid s fun v => { v with done := false, held := [], peak := 0, under := [], crcs := [], bad := [] }
  sendLine s 0 []

/-- VID_LATCH_POINT: a video frame begins; a commit of this instant has been applied before it (15 R398). -/
def execVidLatchPoint (t : Nat) (s : State) : Host.Outcome State Fault Refusal :=
  let s := at' t s
  .next (if vidActive s then vidLatch s else s)

/-! ## Start, stop and change of clock (R383, R399, R400; 20 R501) -/

/-- The video PLL is locked, or not. -/
def vidLockTo (s : State) (b : Bool) : State := wrB (wrB s F.VID_STATUS_CLK_LOCK b) F.CLK_STATUS_VID_LOCK b

/-- The generator stops; the outputs are low. -/
def vidHalt (s : State) : State :=
  let s := wr (wr (wr s F.VID_STATUS_ACTIVE 0) F.VID_STATUS_TIMING_GAP 0) F.VID_STATUS_BLANK 0
  let s := wr (wr (wr s F.VID_STATUS_LINE 0) F.VID_STATUS_LAYER_ON 0) F.VID_STATUS_SRC_VALID 0
  onVid (pinsQuiet (wr s F.VID_STATUS_SHOWN 0) false) fun v => { v with gap := none, shown := none, done := false, bt := [] }

/-- The generator starts with a latch point, once the video PLL is locked. -/
def vidStart (s : State) : State :=
  if flag s F.VID_CTRL_ENABLE ∧ flag s F.VID_STATUS_CLK_LOCK ∧ !(flag s F.VID_STATUS_ACTIVE) then
    vidLatch (wr (onVid s fun v => { v with gap := none }) F.VID_STATUS_ACTIVE 1)
  else s

/-- A commit of the VID page has applied; `o` is the state before it. -/
def vidCommitted (o s : State) : State :=
  let s := [0, 1].foldl (fun s l => if freezeOn s l then s else freezeOff s l) s
  let moved := decide (vidClock (vidTiming o) ≠ vidClock (vidTiming s))
  if !(flag s F.VID_CTRL_ENABLE) then
    let s := if flag o F.VID_CTRL_ENABLE then vidHalt s else s
    if moved then vidLockTo s false else s
  else if flag o F.VID_STATUS_ACTIVE ∧ moved then
    let s := raise (bump (wr (vidLockTo s false) F.VID_STATUS_TIMING_GAP 1) A.VID_C_TIMING_GAPS) F.VID_EVT_RAW_TIMING_GAP
    let s := wr (wr (wr (wr s F.VID_STATUS_ACTIVE 0) F.VID_STATUS_BLANK 0) F.VID_STATUS_LINE 0) F.VID_STATUS_LAYER_ON 0
    onVid (pinsQuiet s true) fun v => { v with gap := some s.now }
  else if flag o F.VID_STATUS_TIMING_GAP then (if moved then onVid s fun v => { v with gap := some s.now } else s)
  else if moved then vidLockTo s false
  else vidStart s

/-- TIMING_RESUMED: the video PLL relocks and the new timing starts with a full frame (15 R399). -/
def execTimingResumed (t : Nat) (s : State) : Host.Outcome State Fault Refusal :=
  let s := at' t s
  .next (if sysOn s ∧ flag s F.VID_STATUS_TIMING_GAP then
      vidStart (raise (wr (vidLockTo s true) F.VID_STATUS_TIMING_GAP 0) F.VID_EVT_RAW_TIMING_RESUMED)
    else s)

/-- VID_LOCK: the video PLL locks; the generator may begin (20 R501). -/
def execVidLock (t : Nat) (s : State) : Host.Outcome State Fault Refusal :=
  let s := at' t s
  .next (if sysOn s ∧ domRunning s .vid 0 ∧ !(flag s F.VID_STATUS_TIMING_GAP) ∧ !(flag s F.VID_STATUS_CLK_LOCK) then
      vidStart (vidLockTo s true)
    else s)

/-- The VID domain has stopped: its PLL is off (20 R494, R501). -/
def vidStopped (s : State) : State := vidHalt (vidLockTo s false)

/-- The general pool is lost with the display partition (20 R494). -/
def vidLost (s : State) : State :=
  onVid (setLatest (vidStopped s) none) fun v => { v with bufs := [] }

/-! ## Registers (R397, R406) -/

/-- The length and the bits of an entry of a table. -/
def vtblLength (t : Nat) : Nat := [1024, 1024, 256, 4096].getD t 1
def vtblBits (t : Nat) : Nat := [30, 10, 32, 32].getD t 32

/-- The table, bank and entry that TBL_ADDR names. -/
def vtblHere (s : State) : Nat × Nat × Nat :=
  let t := rd s F.VID_TBL_ADDR_TABLE
  (t, rd s F.VID_TBL_ADDR_BANK, rd s F.VID_TBL_ADDR_INDEX % vtblLength t)

/-- The entry at TBL_ADDR. -/
def vtblRead (s : State) : Word := pget 0#32 s.vid.tables (let (t, b, i) := vtblHere s; vtblKey t b i)

/-- INDEX advances. -/
def vtblNext (s : State) : State :=
  let (t, _, i) := vtblHere s
  wr s F.VID_TBL_ADDR_INDEX ((i + 1) % vtblLength t)

/-- The checks of a write to the VID page beside those of the fields. -/
def vidCheck (a : Nat) (_d : Word) (s : State) : Nat :=
  let (t, b, _) := vtblHere s
  if a = A.VID_TBL_DATA ∧ flag s F.VID_CTRL_ENABLE ∧ b = vtblBank s t then 0x04 else 0

/-- What a write to the VID page does beside its registers. -/
def vidAct (a : Nat) (d : Word) (_o s : State) : State :=
  if a = A.VID_TBL_DATA then
    let (t, b, i) := vtblHere s
    vtblNext (onVid s fun v => { v with tables := pset 0#32 v.tables (vtblKey t b i) (word (d.toNat % 2 ^ vtblBits t)) })
  else s

/-- SOFT_RESET of the VID page, beside its registers: ENABLE 0 at once; the tables stay (R406). `o` is the state before. -/
def vidReset (o s : State) : State :=
  let s := vidHalt { s with vid := { s.vid with latest := none, sigs := [] } }
  vidLockTo s (flag o F.VID_STATUS_CLK_LOCK && decide (vidClock (vidTiming o) = vidClock (vidTiming s)))

end Sys2Proof.Machine
end

