-- ==== Sys2Proof/Machine/Place.lean ====
section
/-!
DEFINITION. Where the mask banks, the retention ring and the preview's buffers lie in the general pool, and the split of
the pool (01 R24; 07 R203, R207; 15 R406). Each check looks at a candidate: the state as it would stand.
-/

namespace Sys2Proof.Machine

/-- Two spans of an address and a length share a byte. -/
def spansMeet (a b : Nat × Nat) : Bool := decide (a.1 < b.1 + b.2) && decide (b.1 < a.1 + a.2) && decide (0 < a.2) && decide (0 < b.2)

/-- A span lies wholly within another. -/
def spanWithin (a b : Nat × Nat) : Bool := decide (b.1 ≤ a.1) && decide (a.1 + a.2 ≤ b.1 + b.2)

/-- The DISPLAY and RETAIN partitions (01 R24, 02 R36). -/
def displaySpan (s : State) : Nat × Nat := (0x3000000, rd s F.GLB_POOL_SPLIT_DISPLAY * 0x100000)
def retainSpan (s : State) : Nat × Nat := (retainBase s, rd s F.GLB_POOL_SPLIT_RETAIN * 0x100000)

/-- The two mask banks, each over its full span (R203). -/
def maskSpans (s : State) : List (Nat × Nat) :=
  [A.MSK_BANK0_BASE, A.MSK_BANK1_BASE].map fun a => ((reg s a).toNat, (reg s A.MSK_STRIDE).toNat * 2048)

/-- The preview's source buffers, placed end to end (15 R390). -/
def bufferSpan (s : State) : Nat × Nat :=
  let (w, h) := srcSize s
  ((reg s A.VID_SRC_BASE).toNat, srcBuffers s * (0x1000 + 2 * planeBytes w h))

/-- The overlay. -/
def overlaySpan (s : State) : Nat × Nat :=
  let w := (ovlRect s).getD 2 0
  let h := (ovlRect s).getD 3 0
  ((reg s A.VID_OVL_BASE).toNat, if w = 0 ∨ h = 0 then 0 else (h - 1) * (reg s A.VID_OVL_STRIDE).toNat + w)

/-- Layer 2 is enabled in the candidate. -/
def overlayOn (s : State) : Bool := bit (reg s A.VID_LAYER_CFG) 2

/-- The mask banks take part in the checks. -/
def masksOn (s : State) : Bool := flag s F.MSK_CTRL_ENABLE

/-- A mask bank breaks the placement rules beside the preview's (R203). -/
def maskBad (s : State) (m : Nat × Nat) : Bool :=
  !(spanWithin m (displaySpan s) || spanWithin m (retainSpan s)) || spansMeet m (ringSpan s)

/-- A mask bank that lies in DISPLAY overlaps the preview (R203, 15 R406). -/
def maskOnPreview (s : State) (m : Nat × Nat) : Bool :=
  spanWithin m (displaySpan s) && (spansMeet m (bufferSpan s) || (overlayOn s && spansMeet m (overlaySpan s)))

/-- The placement rules of the mask banks are broken in a candidate in which the banks take part. -/
def masksBad (s : State) : Bool :=
  (maskSpans s).any fun m => maskBad s m || (flag s F.VID_CTRL_ENABLE && maskOnPreview s m)

/-- The commit check of the MSK page (R203). -/
def mskCommitBad (c : State) : Bool := masksOn c && masksBad c

/-- The checks of a write to the MSK page: ENABLE as 1 while a bank breaks a rule (R203). -/
def mskCheck (a : Nat) (d : Word) (s : State) : Nat :=
  if a = F.MSK_CTRL_ENABLE.addr ∧ bit d 0 ∧ masksBad s then 0x03 else 0

/-- The commit check of the ACQ page (R207). -/
def acqCommitBad (c : State) : Bool :=
  let b := rd c F.ACQ_RING_BASE
  let n := rd c F.ACQ_RING_BLOCKS
  let all := rd c F.GLB_POOL_SPLIT_RETAIN * 256
  ((List.range 16).any fun r => flag c (F.REG_CTRL_ENABLE r) &&
      (decide (rd c (F.REG_ROWS_ROW_LAST r) < rd c (F.REG_ROWS_ROW_FIRST r))
        || decide (rd c (F.REG_COLS_COL_LAST r) < rd c (F.REG_COLS_COL_FIRST r))))
    || decide (all < b + n) || decide (all < b)
    || (masksOn c && (maskSpans c).any fun m => spansMeet m (ringSpan c))
    || (flag c F.ACQ_ACQ_MODE_RETAIN && decide (rd c F.GLB_POOL_SPLIT_RETAIN < 1))

/-- A rectangle lies within the active area. -/
def inActive (c : State) (r : List Nat) : Bool :=
  decide (r.getD 0 0 + r.getD 2 0 ≤ hActive c) && decide (r.getD 1 0 + r.getD 3 0 ≤ vActive c)

/-- A custom timing breaks a rule of 15 R406. -/
def timingBad (c : State) : Bool :=
  let t := vidTiming c
  let k := vidClock t
  decide (rd c F.VID_OUT_CFG_PRESET = 0) &&
    ((t.2.2.1 ++ t.2.2.2).any (· = 0) || decide (8192 < t.2.2.1.sum) || decide (4096 < t.2.2.2.sum)
      || decide (k.1 < 25000000 * k.2) || decide (297000000 * k.2 < k.1))

/-- The commit check of the VID page (15 R406). -/
def vidCommitBad (c : State) : Bool :=
  let m := if masksOn c then maskSpans c else []
  !(spanWithin (bufferSpan c) (displaySpan c))
    || (overlayOn c && (!(spanWithin (overlaySpan c) (displaySpan c)) || spansMeet (overlaySpan c) (bufferSpan c)
        || !(inActive c (ovlRect c))))
    || m.any (maskOnPreview c) || timingBad c || !(inActive c (imgRect c))
    || ((List.range 8).any fun i => (rd c F.VID_RECT_CFG_RECT_EN).testBit i && !(inActive c (chkRect c i)))
    || (decide (rd c F.VID_OUT_CFG_FORMAT = 2) &&
        (decide (rd c F.VID_OUT_CFG_PRESET < 4) || decide (11 < rd c F.VID_OUT_CFG_PRESET) || decide (hActive c % 2 = 1)))

/-! ## The split of the pool (01 R24) -/

/-- The owner of a granule: 0 DISPLAY, 1 STREAM, 2 RETAIN. -/
def granuleOwner (w : Word) (g : Nat) : Nat :=
  let d := fld w F.GLB_POOL_SPLIT_DISPLAY.lo F.GLB_POOL_SPLIT_DISPLAY.len
  let st := fld w F.GLB_POOL_SPLIT_STREAM.lo F.GLB_POOL_SPLIT_STREAM.len
  if g < d then 0 else if g < d + st then 1 else 2

/-- The checks of a write of GLB.POOL_SPLIT. -/
def splitCheck (d : Word) (s : State) : Nat :=
  let c := setReg s F.GLB_POOL_SPLIT_DISPLAY.addr d
  if rd c F.GLB_POOL_SPLIT_DISPLAY + rd c F.GLB_POOL_SPLIT_STREAM + rd c F.GLB_POOL_SPLIT_RETAIN ≠ 48
      ∨ rd c F.GLB_POOL_SPLIT_STREAM < 4 then 0x03
  else if flag s F.VID_CTRL_ENABLE ∨ flag s F.STQ_CTRL_ENABLE ∨ flag s F.ACQ_CTRL_ENABLE then 0x04
  else if masksOn c ∧ (maskSpans c).any (maskBad c) then 0x03
  else 0

/-- An accepted split: every granule that changes owner is zeroed, which POOL_ZEROING shows. -/
def splitAct (o s : State) : State :=
  let old := reg o F.GLB_POOL_SPLIT_DISPLAY.addr
  let new := reg s F.GLB_POOL_SPLIT_DISPLAY.addr
  let moved := (List.range 48).filter fun g => granuleOwner old g ≠ granuleOwner new g
  if moved = [] then s
  else
    let m := moved.foldl (fun m g => memClear m (0x3000000 + g * 0x100000) (0x3000000 + (g + 1) * 0x100000)) s.sram
    wr { s with sram := m } F.GLB_STATUS_POOL_ZEROING 1

/-- POOL_ZEROED: the zeroing ends (01 R24). -/
def execPoolZeroed (t : Nat) (s : State) : Host.Outcome State Fault Refusal :=
  let s := at' t s
  .next (if sysOn s ∧ flag s F.GLB_STATUS_POOL_ZEROING then raise (wr s F.GLB_STATUS_POOL_ZEROING 0) F.GLB_EVT_RAW_POOL_ZEROED
    else s)

/-- The ENABLE of a block that uses the pool is refused while the zeroing runs. -/
def zeroingBars (a : Nat) (d : Word) (s : State) : Bool :=
  flag s F.GLB_STATUS_POOL_ZEROING && bit d 0 &&
    (decide (a = F.VID_CTRL_ENABLE.addr) || decide (a = F.STQ_CTRL_ENABLE.addr) || decide (a = F.ACQ_CTRL_ENABLE.addr))

end Sys2Proof.Machine
end

