-- ==== Sys2Proof/Machine/Power.lean ====
section
/-!
DEFINITION. The reference clock and its loss (03 R62 to R72, R536), reset (20 R490 to R492), the power states
(20 R493 to R501) and the life cycle (20 R504 to R506).
-/

namespace Sys2Proof.Machine

/-! ## OCXO_WARM and REFCLK (03 R65 to R69, R536) -/

/-- OCXO_WARM_CHANGE: the filtered level changes (03 R65, R66). -/
def execOcxoWarmChange (t : Nat) (level : Bool) (s : State) : Host.Outcome State Fault Refusal :=
  let s := at' t s
  .next (if s.held ∨ flag s F.CLK_STATUS_OCXO_WARM = level then s
    else
      let o := s
      let s := raise (wrB s F.CLK_STATUS_OCXO_WARM level) F.CLK_EVT_RAW_WARM_CHANGE
      let s := if level then { s with clk := { s.clk with warmSince := s.now } } else jobFail s 0x21
      degradedWatch o s)

/-- The locks of the PLLs that run in a state: SYS, VAT, TDC from READY; LREF, TKP, lanes from TIMEKEEP (20 R493, R497). -/
def lockMask (st : Nat) : Nat := if 3 ≤ st then 0x2FF else if st = 2 then 0x2C0 else 0

/-- The lock bits of CLK.STATUS but VID_LOCK, set by a mask. -/
def setLocks (s : State) (m : Nat) : State :=
  (List.range 10).foldl (fun s i => if i = 8 then s else wrBit s F.CLK_STATUS_SYS_LOCK.addr i (m.testBit i)) s

/-- REF_LOST: REFCLK has gone after it was judged present (03 R68). -/
def refLost (t : Nat) (s : State) : State :=
  let s := at' t s
  if s.held ∨ !(flag s F.CLK_STATUS_REF_PRESENT) then s
  else
    let o := s
    let s := raise (wr (wr s F.CLK_STATUS_REF_PRESENT 0) F.CLK_STATUS_REF_LOST 1) F.CLK_EVT_RAW_REF_LOST
    let s := bump { s with clk := { s.clk with noPermit := true } } A.CLK_REF_LOSSES
    let s :=
      if awake s ∧ 2 ≤ pstate s then
        let s := setLocks (wr s F.CLK_STATUS_HOLDOVER 1) 0
        { s with clk := { s.clk with heldSince := s.now, wide := false, discard := [] } }
      else s
    let s := if sysOn s then (List.range 4).foldl (fun s q => wr (wr s (F.TDC_STATUS_HOLDOVER q) 1) (F.TDC_STATUS_PLL_LOCK q) 0) s
      else s
    safRefresh (degradedWatch o (ntmCoast (ntmRemode s.now s)))

/-- REF_LOST (03 R68). -/
def execRefLost (t : Nat) (s : State) : Host.Outcome State Fault Refusal := .next (refLost t s)

/-- HOLDOVER_LIMIT: holdover has lasted 10 ms (03 R68). -/
def execHoldoverLimit (t : Nat) (s : State) : Host.Outcome State Fault Refusal :=
  let s := at' t s
  .next (if flag s F.CLK_STATUS_HOLDOVER ∧ s.clk.heldSince + msec 10 ≤ t then { s with clk := { s.clk with wide := true } } else s)

/-- REF_PRESENT: REFCLK is judged present; after a loss the PLLs leave holdover (03 R69, R536). -/
def refPresent (t : Nat) (s : State) : State :=
  let s := at' t s
  if s.held ∨ flag s F.CLK_STATUS_REF_PRESENT then s
  else
    let o := s
    let lost := flag s F.CLK_STATUS_REF_LOST
    let s := wr s F.CLK_STATUS_REF_PRESENT 1
    if lost then
      let s := raise (wr (wr s F.CLK_STATUS_REF_LOST 0) F.CLK_STATUS_HOLDOVER 0) F.CLK_EVT_RAW_REF_RETURN
      let s := if sysOn s then { s with clk := { s.clk with discard := [0, 1, 2, 3], wide := false } } else s
      timedLate (safRefresh (degradedWatch o (ntmRemode s.now s)))
    else s

/-- REF_PRESENT (03 R69). -/
def execRefPresent (t : Nat) (s : State) : Host.Outcome State Fault Refusal := .next (refPresent t s)

/-- Permission may return while no frame boundary occurs (03 R69, step 4). -/
def permitIdle (s : State) : State := if acqRuns s then s else refPermit s

/-- TDC_PLL_LOCK: the PLL of quadrant `q` locks; its counter is aligned (03 R70, R71). -/
def execTdcPllLock (t q : Nat) (s : State) : Host.Outcome State Fault Refusal :=
  let s := at' t s
  .next (if sysOn s ∧ q < 4 ∧ flag s F.CLK_STATUS_REF_PRESENT ∧ !(rdBit s F.CLK_STATUS_SYS_LOCK.addr (2 + q)) then
      let s := wrBit s F.CLK_STATUS_SYS_LOCK.addr (2 + q) true
      permitIdle { s with clk := { s.clk with lockedAt := pset 0 s.clk.lockedAt q s.now } }
    else s)

/-- PLL_RELOCK: 10 µs after its PLL locked, a quadrant accepts hits again (03 R69, R72). -/
def execPllRelock (t q : Nat) (s : State) : Host.Outcome State Fault Refusal :=
  let s := at' t s
  .next (if sysOn s ∧ s.clk.discard.contains q ∧ rdBit s F.CLK_STATUS_SYS_LOCK.addr (2 + q)
      ∧ pget 0 s.clk.lockedAt q + usec 10 ≤ t then
      let s := { s with clk := { s.clk with discard := s.clk.discard.filter fun x => x ≠ q } }
      raise (wr (wr s (F.TDC_STATUS_PLL_LOCK q) 1) (F.TDC_STATUS_HOLDOVER q) 0) (F.TDC_EVT_RAW_PLL_RELOCK q)
    else s)

/-- PLL_UNLOCK: a quadrant's PLL loses lock while REFCLK is present (03 R72, 20 R508). -/
def execPllUnlock (t q : Nat) (s : State) : Host.Outcome State Fault Refusal :=
  let s := at' t s
  .next (if sysOn s ∧ q < 4 ∧ flag s F.CLK_STATUS_REF_PRESENT ∧ rdBit s F.CLK_STATUS_SYS_LOCK.addr (2 + q) then
      let s := wr (wrBit s F.CLK_STATUS_SYS_LOCK.addr (2 + q) false) (F.TDC_STATUS_PLL_LOCK q) 0
      let s := raise (raise s (F.TDC_EVT_RAW_PLL_UNLOCK q)) F.CLK_EVT_RAW_PLL_UNLOCK
      { s with clk := { s.clk with discard := q :: s.clk.discard.filter fun x => x ≠ q } }
    else s)

/-- A PLL of CLK.STATUS bit `i` beside the TDC and video PLLs, required in the present state. -/
def clkPll (s : State) (i : Nat) : Bool :=
  awake s && [0, 1, 6, 7, 9].contains i && (lockMask (pstate s)).testBit i && flag s F.CLK_STATUS_REF_PRESENT

/-- CLK_PLL_UNLOCK: a system, Vat, TKP, lane-reference, lane or video PLL loses lock; `i` is its bit of CLK.STATUS (20 R508). -/
def execClkPllUnlock (t i : Nat) (s : State) : Host.Outcome State Fault Refusal :=
  let s := at' t s
  .next (if clkPll s i ∧ rdBit s F.CLK_STATUS_SYS_LOCK.addr i then
      raise (wrBit s F.CLK_STATUS_SYS_LOCK.addr i false) F.CLK_EVT_RAW_PLL_UNLOCK
    else if i = 8 ∧ sysOn s ∧ flag s F.CLK_STATUS_VID_LOCK then raise (vidLockTo s false) F.CLK_EVT_RAW_PLL_UNLOCK
    else s)

/-- CLK_PLL_LOCK: it locks again (03 R69). -/
def execClkPllLock (t i : Nat) (s : State) : Host.Outcome State Fault Refusal :=
  let s := at' t s
  .next (if clkPll s i ∧ !(rdBit s F.CLK_STATUS_SYS_LOCK.addr i) then permitIdle (wrBit s F.CLK_STATUS_SYS_LOCK.addr i true) else s)

/-- The check of a write of CLK.REF_SEL: in SLEEP only (03 R63). -/
def clkCheck (a : Nat) (s : State) : Nat := if a = F.CLK_REF_SEL_FREQ.addr ∧ pstate s ≠ 1 then 0x04 else 0

/-! ## Reset (20 R490 to R492) -/

/-- A device reset, of a cause by its bit of RESET_CAUSE: everything takes its reset value but CALSTORE, the fuses, the strap
latches and the JTAG port (20 R491), and ID_CLASH (19 R475). The commands that wait, the model's clock and its count of free
values stay. -/
def deviceReset (s : State) (cause : Nat) : State :=
  let z := State.reset
  let clash := flag s F.PAIR_STATUS_ID_CLASH
  let s := { z with
    pending := s.pending, now := s.now, fresh := s.fresh, calstore := s.calstore,
    pwr := { z.pwr with freqSel := s.pwr.freqSel, pairId := s.pwr.pairId, lcState := s.pwr.lcState, lcLeft := s.pwr.lcLeft,
                        lcBegun := s.pwr.lcBegun, jtag := s.pwr.jtag } }
  let s := setReg s F.GLB_RESET_CAUSE_POR.addr (word (2 ^ cause))
  let s := wrB (wrB s F.CLK_REF_SEL_FREQ s.pwr.freqSel) F.PAIR_ROLE_PAIR_ID s.pwr.pairId
  ntmReset (wrB (wrB s F.PAIR_STATUS_ID_CLASH clash) F.SDF_CFG_CLK_DIR s.pwr.pairId)

/-- The life-cycle transition that the fuses mark as begun is completed (20 R506). -/
def lcFinish (s : State) : State :=
  match s.pwr.lcBegun with
  | none => s
  | some x => { s with
      calstore := [],
      pwr := { s.pwr with lcState := x, lcLeft := s.pwr.lcLeft - (if x = 3 then 1 else 0), lcBegun := none } }

/-- POR: the straps are latched and the device is held in reset; a transition that was begun is repeated (20 R490, R506). -/
def execPor (t : Nat) (freqSel pairId : Bool) (s : State) : Host.Outcome State Fault Refusal :=
  let s := at' t s
  let s := { s with pwr := { s.pwr with freqSel := freqSel, pairId := pairId } }
  .next (wr (deviceReset (lcFinish s) (if s.pwr.lcBegun.isSome then 3 else 0)) F.PAIR_STATUS_ID_CLASH 0)

/-- RESET_PIN: a low pulse of RESET_N that resets the device (20 R490). -/
def execResetPin (t : Nat) (s : State) : Host.Outcome State Fault Refusal := .next (deviceReset (at' t s) 1)

/-- RESET_RELEASE: the SRAM is powered and the wipe runs (20 R491). -/
def execResetRelease (t : Nat) (s : State) : Host.Outcome State Fault Refusal :=
  let s := at' t s
  .next (if s.held then
      wr { s with held := false, wiping := true, pwr := { s.pwr with sramOn := true } } F.GLB_STATUS_WIPE_BUSY 1
    else s)

/-- WIPE_DONE: SLEEP is entered; the safety block sees its input levels and opens its window (20 R491). -/
def execWipeDone (t levels : Nat) (s : State) : Host.Outcome State Fault Refusal :=
  let s := at' t s
  .next (if !s.held ∧ s.wiping then
      let s := { s with wiping := false, pwr := { s.pwr with sramOn := false } }
      let s := raise (wr (wr s F.GLB_STATUS_WIPE_BUSY 0) F.GLB_STATUS_WIPE_DONE 1) F.GLB_EVT_RAW_WIPE_DONE
      safWake s levels
    else s)

/-! ## Power states (20 R493 to R499) -/

/-- The code of a state. -/
def PState.code : PState → Nat
  | .sleep => 1
  | .timekeep => 2
  | .ready => 3
  | .run => 4

/-- The state of a code. -/
def PState.ofCode (n : Nat) : PState := if n ≤ 1 then .sleep else if n = 2 then .timekeep else if n = 3 then .ready else .run

/-- Some enabled queue holds blocks, or some bundle holds frames in its replay region (20 R499). -/
def dataHeld (s : State) : Bool :=
  ((queueKeys s).any fun k => qEnabled s k && decide ((queue s k).blocks ≠ 0)) || (List.range 32).any fun b => !((bundle s b).sent.isEmpty)

/-- READY may be left (20 R499). -/
def mayLeave (s : State) (force : Bool) : Bool :=
  decide (rd s F.MOT_STATUS_MODE = 0) && !(flag s F.MOT_STATUS_COASTING) && !(flag s F.GAL_CTRL_ENABLE)
    && decide (rd s F.THM_STATUS_STOP_STATE = 0 ∨ rd s F.THM_STATUS_STOP_STATE = 3) && (force || !(dataHeld s))

/-- The check of a write of PWR.STATE_REQ (20 R492, R495, R496, R499). -/
def stateReqCheck (d : Word) (s : State) : Nat :=
  let r := fld d 0 3
  let c := pstate s
  let known := [(1, 2), (1, 3), (2, 1), (2, 3), (3, 1), (3, 2), (3, 4), (4, 3)].contains (r, c)
  if !(awake s) ∨ flag s F.PWR_STATUS_TRANSITION ∨ flag s F.PWR_STATUS_LC_BUSY ∨ !known
      ∨ (r = 4 ∧ reg s F.THM_TRIP_LATCH_DIE.addr ≠ 0#32) ∨ (c = 3 ∧ r ≤ 2 ∧ !(mayLeave s (bit d 31))) then 0x04
  else if 3 ≤ r ∧ !(flag s F.CLK_STATUS_REF_PRESENT) then 0x21
  else if 2 ≤ r ∧ s.pwr.lcState = 4 then 0x22
  else 0

/-- An accepted request (20 R495, R498, R499). -/
def stateReqAct (d : Word) (s : State) : State :=
  let r := fld d 0 3
  if r = 3 ∧ pstate s = 4 then
    if acqRuns s then wr s F.PWR_STATUS_DOWN_PENDING 1 else leaveRun s
  else if r = 4 then
    if !(isStare s) ∧ !(modelValid s) then enterRun s else wr s F.PWR_STATUS_RUN_PENDING 1
  else
    let s := wr (wr s F.PWR_STATUS_RUN_PENDING 0) F.PWR_STATUS_TRANSITION 1
    { s with pwr := { s.pwr with trans := some (.ofCode (pstate s), .ofCode r), since := s.now } }

/-- The lane PLLs of a range of quads lock, or stop. -/
def lanePlls (s : State) (quads : List Nat) (b : Bool) : State :=
  quads.foldl (fun s q => (List.range 4).foldl (fun s i => setPllLock s (4 * q + i) b) s) s

/-- The pool, the Vat and the replay RAM lose their contents, and what was in flight in the blocks that stop
(20 R494, R499; 16 R434). Queued records are discarded and counted. -/
def loseData (s : State) : State :=
  let s := s.stq.queues.foldl (fun s p =>
    bumpBy (bump31 s (A.Q_DROPPED p.1) p.2.records) A.STQ_DROPPED p.2.records) s
  let s := stqReset s
  let s := { s with stq := { s.stq with touched := false } }
  let s := (List.range 32).foldl (fun s b => if flag s (F.B_CTRL_ENABLE b) then disableBundle s b else s) s
  let z := State.reset
  let s := { s with
    tdc := z.tdc, vat := z.vat, sram := [],
    esc := { s.esc with runs := [], shots := [], ltrigs := [], pulses := [], bursts := [], toutNext := 0, toutDone := [], active := false },
    acq := { Acq.empty with on' := s.acq.on', trigNum := s.acq.trigNum, numbered := s.acq.numbered, ordNext := s.acq.ordNext,
                            since := s.acq.ordNext, bound := s.acq.bound, rearm := s.acq.rearm } }
  vidLost (lmpStopped (sdfStopped (hkaHalt (jobFail s 0))))

/-- READY is entered from a lower state (20 R494, R497): every PLL locks, the SRAM is wiped, every domain runs. -/
def readyUp (s : State) : State :=
  let s := { s with sram := [], pwr := { s.pwr with sramOn := true },
                    clk := { s.clk with discard := [], lockedAt := (List.range 4).foldl (fun l q => pset 0 l q s.now) [] } }
  let s := lanePlls (setLocks s 0x2FF) (List.range 36) true
  let s := (List.range 4).foldl (fun s q => wr (wr s (F.TDC_STATUS_PLL_LOCK q) 1) (F.TDC_STATUS_HOLDOVER q) 0) s
  let s := (List.range 32).foldl (fun s b => if flag s F.WNB_CTRL_ENABLE ∧ flag s (F.B_CTRL_ENABLE b) then enterDetect s b 0 else s) s
  let s := slotsRefresh (sdfReady s)
  let s := if flag s F.LMP_CTRL_ENABLE then periodBegin s s.now 0 else s
  safSpeedRefresh (refPermit (planReady s))

/-- The state entered, from the one left. A JTAG instruction that only SLEEP allows ends with it (20 R504). -/
def enterState (fr dest : Nat) (s : State) : State :=
  let o := s
  let s := if fr = 3 then loseData s else s
  let s := raise (wr (wr s F.PWR_STATUS_STATE dest) F.PWR_STATUS_TRANSITION 0) F.PWR_EVT_RAW_STATE_CHANGE
  let s := setReg s A.PWR_TRANS_LAST_US (word (min 65535 ((s.now - s.pwr.since) / 256000)))
  let s := { s with pwr := { s.pwr with trans := none, sramOn := decide (3 ≤ dest),
                                        jtag := if dest = 1 then s.pwr.jtag else s.pwr.jtag.filter fun k => k ≤ 2 } }
  let s := if 2 ≤ dest then ntmStart s else s
  let s :=
    if dest = 3 then readyUp s
    else
      let s := setLocks s (if flag s F.CLK_STATUS_REF_LOST then 0 else lockMask dest)
      let s := lanePlls s ((List.range 36).filter fun q => dest = 1 || q ≠ 35) false
      let s := if dest = 2 then lanePlls s [35] true else s
      let s := (List.range 4).foldl (fun s q => wr (wr s (F.TDC_STATUS_PLL_LOCK q) 0) (F.TDC_STATUS_HOLDOVER q) 0) s
      let s := if dest = 2 then (if fr = 3 then planTimekeep s else s) else ntmCoast (planSleep s)
      let s := if dest = 1 ∨ !(flag s F.CLK_STATUS_REF_LOST) then wr s F.CLK_STATUS_HOLDOVER 0 else s
      safRefresh { s with clk := { s.clk with discard := [] } }
  degradedWatch o (ntmRemode s.now s)

/-- STATE_ENTRY_DONE: the entry sequence completes; one upward needs REFCLK (20 R497, R500). -/
def execStateEntryDone (t : Nat) (s : State) : Host.Outcome State Fault Refusal :=
  let s := at' t s
  .next (match s.pwr.trans with
    | none => s
    | some (a, b) =>
      if a.code < b.code ∧ !(flag s F.CLK_STATUS_REF_PRESENT) then s else enterState a.code b.code s)

/-- LOCK_TIMEOUT: a PLL has not locked within 4 ms, and the entry fails back (20 R497). -/
def execLockTimeout (t : Nat) (s : State) : Host.Outcome State Fault Refusal :=
  let s := at' t s
  .next (match s.pwr.trans with
    | none => s
    | some (a, b) =>
      if a.code < b.code ∧ s.pwr.since + msec 4 ≤ t then
        let s := setReg s A.PWR_TRANS_LAST_US (word (min 65535 ((s.now - s.pwr.since) / 256000)))
        let s := { s with pwr := { s.pwr with trans := none } }
        raise (recFail (wr s F.PWR_STATUS_TRANSITION 0) 0x2000 0x20) F.PWR_EVT_RAW_TRANS_FAIL
      else s)

/-! ## The PWR page (20 R501, R505, R506) -/

/-- A permitted life-cycle transition (20 R505). -/
def lcAllowed (s : State) (x : Nat) : Bool :=
  match s.pwr.lcState with
  | 1 => decide (x = 2 ∨ x = 3 ∨ x = 4)
  | 2 => decide (x = 3) && decide (0 < s.pwr.lcLeft) || decide (x = 4)
  | 3 => decide (x = 2 ∨ x = 4)
  | _ => false

/-- An access between LC_KEY and LC_REQ that is not the request is refused (20 R506). -/
def lcIntrudes (a : Nat) (s : State) : Bool := s.pwr.lcArmed && decide (a ≠ A.PWR_LC_REQ)

/-- The checks of a write to the PWR page. -/
def pwrCheck (a : Nat) (d : Word) (s : State) : Nat :=
  if lcIntrudes a s then 0x22
  else if a = F.PWR_STATE_REQ_STATE.addr then stateReqCheck d s
  else if a = F.PWR_CLK_REQ_VID.addr then (if !(bit d 0) && flag s F.VID_CTRL_ENABLE then 0x04 else 0)
  else if a = A.PWR_LC_KEY then (if fld d 0 16 = 0x1C5E then 0 else 0x22)
  else if a = A.PWR_LC_REQ then
    (if s.pwr.lcArmed ∧ awake s ∧ pstate s = 1 ∧ !(flag s F.PWR_STATUS_TRANSITION) ∧ !(flag s F.PWR_STATUS_LC_BUSY)
      ∧ lcAllowed s (fld d 0 4) then 0 else 0x22)
  else 0

/-- The request is no longer armed: an access to the page has come. -/
def lcDisarm (s : State) : State := { s with pwr := { s.pwr with lcArmed := false } }

/-- What a write to the PWR page does beside its registers. -/
def pwrAct (a : Nat) (d : Word) (o s : State) : State :=
  if a = F.PWR_STATE_REQ_STATE.addr then stateReqAct d s
  else if a = F.PWR_CLK_REQ_VID.addr then (if flag o F.PWR_CLK_REQ_VID && !(bit d 0) then vidStopped s else s)
  else if a = A.PWR_LC_KEY then { s with pwr := { s.pwr with lcArmed := true } }
  else if a = A.PWR_LC_REQ then
    wr (wr { s with calstore := [], pwr := { s.pwr with lcBegun := some (fld d 0 4), lcArmed := false } } F.PWR_STATUS_LC_BUSY 1)
      F.GLB_STATUS_WIPE_BUSY 1
  else s

/-- LC_TRANSITION_DONE: the new state is programmed and the device resets (20 R506). -/
def execLcTransitionDone (t : Nat) (s : State) : Host.Outcome State Fault Refusal :=
  let s := at' t s
  .next (if flag s F.PWR_STATUS_LC_BUSY then deviceReset (lcFinish s) 3 else s)

/-- STRAPS and LC_STATE as they read (20 R507, R509). -/
def glbStraps (s : State) : Word := word (b2n s.pwr.pairId * 2 + b2n s.pwr.freqSel)
def pwrLcState (s : State) : Word := word (s.pwr.lcLeft * 2 ^ 8 + s.pwr.lcState)

/-! ## JTAG (20 R504) -/

/-- A JTAG instruction is accepted: 0 IDCODE, 1 BYPASS, 2 SAMPLE, 3 another boundary-scan instruction, 4 a vendor test
instruction, 5 test access to the SRAM or internal scan. -/
def jtagAllowed (s : State) (k : Nat) : Bool :=
  let most := match s.pwr.lcState with
    | 1 => 4
    | 2 => 3
    | 3 => 5
    | _ => 1
  decide (k ≤ most) && (decide (k ≤ 2) || awake s && decide (pstate s = 1))

/-- JTAG_INSTRUCTION (20 R504). -/
def execJtagInstruction (t k : Nat) (s : State) : Host.Outcome State Fault Refusal :=
  let s := at' t s
  .next { s with pwr := { s.pwr with jtag := if jtagAllowed s k then some k else none } }

end Sys2Proof.Machine
end

