-- ==== Sys2Proof/Machine/Rej.lean ====
section
/-!
DEFINITION. The rennet window of the REJ page (chapter 06, R152 to R155, R177, R179).
-/

namespace Sys2Proof.Machine

/-- The rennet stage of a bank. -/
def rennet (s : State) (b : Nat) : List RennetHit := pget [] s.tdc.rennet b

/-- The state with the rennet stage of a bank set. -/
def setRennet (s : State) (b : Nat) (l : List RennetHit) : State :=
  { s with tdc := { s.tdc with rennet := pset [] s.tdc.rennet b l } }

/-- H in LSB for an RN_CTRL (06 R152). -/
def rennetH (w : Word) : Nat := (fld w 0 6 + 1) * 32

/-- The first channel of the neighbourhood of channel `c` for an RN_CTRL (06 R152). -/
def rennetFirst (w : Word) (c : Nat) : Nat :=
  let m := fld w 8 4
  let lo := 8 * (c / 8)
  (clampI ((c : Int) - ((m - 1) / 2 : Nat)) lo (lo + 8 - m : Nat)).toNat

/-- Channel `d` lies in the neighbourhood of channel `c` (06 R152). -/
def inHood (w : Word) (c d : Nat) : Bool :=
  decide (rennetFirst w c ≤ d) && decide (d < rennetFirst w c + fld w 8 4)

/-- The rennet block of a bank is active: a PULSE bank, REJ enabled, ENABLE 1 (06 R152, R154, R177). -/
def rennetOn (s : State) (b : Nat) : Bool :=
  pulseBank s (8 * b) && flag s F.REJ_CTRL_ENABLE && flag s (F.RN_CTRL_ENABLE b)

/-- A hit time reaches the rennet stage of its bank, or passes it by where the stage is off and holds nothing of its
channel (06 R154). -/
def rennetEnter (s : State) (h : HitTime) : State :=
  let b := h.chan / 8
  let l := rennet s b
  if rennetOn s b || l.any (fun r => !r.judged && decide (r.hit.chan = h.chan)) then
    setRennet s b (l ++ [⟨h, reg s (F.RN_CTRL_K b).addr, h.settling || !(rennetOn s b), true, false⟩])
  else pushHit s h

/-- HIT_TIME_FORMED: the next hit of a channel whose start is resolved gets its time and goes on (03 R88). -/
def hitTimeFormed (c : Nat) (s : State) : State :=
  match takeReady s c with
  | none => s
  | some (none, s) => s
  | some (some h, s) => rennetEnter s h

/-- A captured hit of channel `d` that the rennet stage may still see has its edge at or before `u`. -/
def hitBefore (s : State) (d u : Nat) : Bool :=
  let due (h : Hit) : Bool := h.shot.isSome && decide (h.time ≤ u)
  let x := chan s d
  x.cur.any due || x.done.any due || x.fifo.any due || s.tdc.waiting.any fun p => decide (p.1 = d) && due p.2

/-- Every hit of the neighbourhood up to H after a hit has reached the stage (06 R154). -/
def rennetReady (s : State) (r : RennetHit) : Bool :=
  let u := r.hit.time + rennetH r.ctrl
  decide (u ≤ s.now) &&
    !((List.range 8).any fun k => inHood r.ctrl r.hit.chan (8 * (r.hit.chan / 8) + k) && hitBefore s (8 * (r.hit.chan / 8) + k) u)

/-- A hit of the stage counts towards a hit: in its neighbourhood, within H, itself included (06 R152, R153). -/
def rennetNear (r x : RennetHit) : Bool :=
  !x.pass && inHood r.ctrl r.hit.chan x.hit.chan && decide (ndist x.hit.time r.hit.time ≤ rennetH r.ctrl)

/-- A hit of the stage is curd: at least K hits count (06 R152). -/
def isCurd (l : List RennetHit) (r : RennetHit) : Bool := decide (fld r.ctrl 16 4 ≤ (l.filter (rennetNear r)).length)

/-- Judged hits that no later hit can have for a neighbour leave the stage. -/
def rennetPrune (s : State) (b : Nat) : State :=
  let l := rennet s b
  let needed (e : RennetHit) : Bool :=
    decide (s.now ≤ e.hit.time + 2048) || l.any (fun r => !r.judged && decide (r.hit.time ≤ e.hit.time + 2048))
      || (List.range 8).any fun k => hitBefore s (8 * b + k) (e.hit.time + 2048)
  setRennet s b (l.filter fun e => !e.judged || needed e)

/-- The first hit of channel `c` in the stage that is not judged is marked as judged. -/
def markJudged (c : Nat) : List RennetHit → List RennetHit
  | [] => []
  | r :: l => if !r.judged && decide (r.hit.chan = c) then { r with judged := true } :: l else r :: markJudged c l

/-- RENNET_JUDGE: the oldest hit of channel `c` in its bank's rennet stage is judged (06 R152 to R154). While REJ is not enabled
it passes, but for the hits that a SOFT_RESET found inside (R177). -/
def rennetJudge (c : Nat) (s : State) : State :=
  let b := c / 8
  let l := rennet s b
  match l.find? (fun r => !r.judged && decide (r.hit.chan = c)) with
  | none => s
  | some r =>
    if r.pass || r.count && !(flag s F.REJ_CTRL_ENABLE) then pushHit (rennetPrune (setRennet s b (l.erase r)) b) r.hit
    else if !(rennetReady s r) then s
    else
      let s := rennetPrune (setRennet s b (markJudged c l)) b
      if isCurd l r then pushHit (if r.count then bump s (A.RN_CURD b) else s) r.hit
      else if r.count then bump s (A.RN_WHEY b) else s

/-- HIT_TIME_FORMED (03 R88). -/
def execHitTimeFormed (t c : Nat) (s : State) : Host.Outcome State Fault Refusal := .next (hitTimeFormed c (at' t s))

/-- RENNET_JUDGE (06 R152). -/
def execRennetJudge (t c : Nat) (s : State) : Host.Outcome State Fault Refusal := .next (rennetJudge c (at' t s))

/-! ## Registers -/

/-- SOFT_RESET of the REJ page: hits inside are judged with the values of their entry and not counted (06 R177). -/
def rejReset (s : State) : State :=
  { s with tdc := { s.tdc with rennet := s.tdc.rennet.map fun p => (p.1, p.2.map fun r => { r with count := false }) } }

/-- REJ.STATUS (06 R177). -/
def rejStatus (s : State) : Word :=
  word (b2n (flag s F.REJ_CTRL_ENABLE && (List.range 64).any fun b => pulseBank s (8 * b) && flag s (F.RN_CTRL_ENABLE b)))

/-- RN_ACTIVE (06 R179). -/
def rnActive (s : State) (b : Nat) : Word := reg s (F.RN_CTRL_K b).addr

end Sys2Proof.Machine
end

