-- ==== Sys2Proof/Machine/Tick.lean ====
section
/-!
DEFINITION. The control-engine tick: application of outputs, ramps, field-oriented current control, and the loop slots
(chapter 10, R267, R268, R271, R274, R275, R281, R286, R287, R302).
-/

namespace Sys2Proof.Machine

/-! ## Field-oriented current control (R281) -/

/-- The electrical angle in 2^-16 turn (R281). -/
def elecAngle (s : State) (t : Nat) : Nat :=
  let m := s.ctl.mot
  let ofs := rd s F.MOT_HALL_CFG_HALL_OFS
  let k := (hallSector s m.pattern).getD 0
  (if motMode s = 2 then ofs + m.angle * 65536 / (48 * 10 ^ 17)
   else if motMode s < 2 then ofs
   else if hallSpeed s t < openRpm s ∨ m.hall = 0 then ofs + (2 * k + 1) * 65536 / 12
   else ofs + rndN (65536 * (k * m.hall + (t - m.edge))) (6 * m.hall)) % 65536

/-- The advance of the angle over one and a half slot periods, in 2^-16 turn (R281). -/
def elecAdvance (s : State) (t : Nat) : Nat :=
  let n := slotCycles s 0
  if motMode s = 2 then rndN (3 * 65536 * s.ctl.mot.gen * rd s F.MOT_GEOM_POLE_PAIRS * n) (2 * (24 * 10 ^ 17))
  else if motMode s < 2 ∨ s.ctl.mot.edges < 2 then 0
  else rndN (3 * 65536 * n * 1280) (2 * 6 * max 1 (hallInterval s t))

/-- A channel's sample in Q16.16. -/
def curOf (s : State) (c : Nat) : Int := sword (reg s (A.SDC_OUT c))

/-- The d and q currents at an angle (R281). -/
def clarkePark (s : State) (u : Nat) : Int × Int :=
  let a := curOf s (rd s F.MOT_CUR_SRC_CH_A)
  let b := curOf s (rd s F.MOT_CUR_SRC_CH_B)
  let c := curOf s (rd s F.MOT_CUR_SRC_CH_C)
  let q : Int := 2 ^ 64
  let r : Int := root3
  let three := flag s F.MOT_CUR_SRC_THREE
  let al := if three then (2 * a - b - c) * r else 3 * a * r
  let be := if three then 3 * (b - c) * q else 3 * (a + 2 * b) * q
  (rnd (al * cosT u + be * sinT u) (3 * root3 * 2 ^ 64), rnd (be * cosT u - al * sinT u) (3 * root3 * 2 ^ 64))

/-- A voltage vector limited to magnitude 1.0, and whether it was scaled (R281). -/
def vlimit (d q : Int) : Int × Int × Bool :=
  let n := (d * d + q * q).toNat
  if n ≤ 2 ^ 32 then (d, q, false)
  else
    let m := isqrt (n * 2 ^ 64)
    (rnd (d * 65536 * 2 ^ 32) m, rnd (q * 65536 * 2 ^ 32) m, true)

/-- The three duties in 2^-16 by min-max injection of a voltage at an angle (R281). -/
def svm (d q : Int) (u : Nat) : List Nat :=
  let va := d * cosT u - q * sinT u
  let vb := d * sinT u + q * cosT u
  let l := [2 * va * 2 ^ 64, -va * 2 ^ 64 + vb * (root3 : Int), -va * 2 ^ 64 - vb * (root3 : Int)]
  let hi := l.foldl max (l.getD 0 0)
  let lo := l.foldl min (l.getD 0 0)
  l.map fun x => (clampI (32768 + rnd (2 * x - hi - lo) (2 ^ 66 * root3)) 0 65536).toNat

/-- The set-points of slots 0 and 1; slot 1 keeps its last until slot 2 applies its first output (R285, R296). -/
def currentRefs (s : State) : Int × Int :=
  let cur : Int := (rd s F.MOT_ALIGN_ALIGN_CUR : Nat)
  if motMode s = 1 then (cur, 0)
  else if motMode s = 2 then (0, cur)
  else (0, (s.ctl.mot.iq.map (·.1)).getD (sword (reg s (A.SL_OUT 2))))

/-- Slots 0 and 1 compute on valid currents at an angle (R281). -/
def focSlots (u : Nat) (s : State) : State :=
  let i := clarkePark s u
  let r := currentRefs s
  let s := if (slotOf s 0).active then slotTick s 0 r.1 i.1 else s
  let s := if (slotOf s 1).active then slotTick s 1 r.2 i.2 else s
  onMot s fun m => { m with lost := 0 }

/-- The voltage of slots 0 and 1 becomes the duties of the next period (R281). -/
def focVoltage (t u : Nat) (s : State) : State :=
  let v := vlimit (slotOf s 0).next (slotOf s 1).next
  let s := wr (wrB s F.MOT_STATUS_VLIMIT v.2.2) F.MOT_ELEC_ANGLE u
  onMot s fun m => { m with next := svm v.1 v.2.1 (u + elecAdvance s t) }

/-- A tick of slots 0 and 1: the duties of the last tick come into force; without a valid current sample the slots keep their
outputs, and the fourth such tick in a row is CUR_LOST. In OFF there is no voltage (R271, R275, R281, R297; 11 R312). -/
def currentTick (t : Nat) (s : State) : State :=
  if motMode s = 0 then wr s F.MOT_STATUS_VLIMIT 0
  else
    let s := onMot s fun m => { m with duty := m.next }
    let u := elecAngle s t
    if (curChans s).all (sdfValid s) then focVoltage t u (focSlots u s)
    else
      let s := onMot s fun m => { m with lost := m.lost + 1 }
      if 4 ≤ s.ctl.mot.lost then motTrip s F.MOT_EVT_RAW_CUR_LOST else focVoltage t u s

/-- The generated speed and angle of OPEN_SPIN pass one slot period (R286). -/
def openSpinTick (s : State) : State :=
  if motMode s = 2 then
    let n := slotCycles s 0
    let top := rd s F.MOT_OPEN_OPEN_RPM * 200000000
    onMot s fun m =>
      let g := if top ≤ m.gen then m.gen else min top (m.gen + rd s F.MOT_RAMP_RATE * n)
      { m with gen := g, angle := (m.angle + (m.gen + g) * n * rd s F.MOT_GEOM_POLE_PAIRS) % (48 * 10 ^ 17) }
  else s

/-- The bridge is driven (R267). -/
def pwmDriven (s : State) : Bool :=
  sysOn s && flag s F.MOT_CTRL_ENABLE && decide (motMode s ≠ 0) && !s.pair.held

/-- The on-times of a phase's high and low outputs in the PWM period in force, in CTL cycles: the high output for the duty times the
period, the low one for the rest less the dead time before each rising edge; pulses below MIN_PULSE are left out (R267, R268). -/
def pwmPulses (s : State) (phase : Nat) : Nat × Nat :=
  let n := slotCycles s 0
  let least := max 1 (rd s F.MOT_PWM_MIN_PULSE)
  let high := rndN (n * s.ctl.mot.duty.getD phase 32768) 65536
  let low := n - high - 2 * rd s F.MOT_PWM_DEAD
  if !(pwmDriven s) then (0, 0)
  else if high < least then (0, n)
  else if low < least then (n, 0)
  else (high, low)

/-- The edges of a phase in the PWM period in force, in CTL cycles from its start, with the high pulse centred: the rise and fall of
the high output, and the fall and rise of the low output; none where an output does not change (R267, R268). -/
def pwmEdges (s : State) (phase : Nat) : Option (Nat × Nat × Nat × Nat) :=
  let n := slotCycles s 0
  let (high, low) := pwmPulses s phase
  if high = 0 ∨ low = 0 then none
  else
    let rise := (n - high) / 2
    let dead := rd s F.MOT_PWM_DEAD
    some (rise, rise + high, rise - dead, rise + high + dead)

/-! ## Slots 2, 3 and 5 to 7 -/

/-- AT_SPEED: the speed lies within 0.1 % of the target, and the set-point has reached it (R287). -/
def atSpeed (s : State) (y : Nat) : Bool :=
  let target := if motMode s = 4 then frameSpeed s else (rampTarget s).1
  decide (3 ≤ motMode s) && decide (1000 * ((y : Int) - (target : Int)).natAbs ≤ target)
    && (decide (motMode s = 4) || decide (s.ctl.mot.sp = (target : Int) * 200000000))

/-- The ramp of slot 2 advances, or starts from the measured speed at the tick of entry (R287). -/
def speedRamp (s : State) (y : Nat) : State :=
  let x := slotOf s 2
  if x.due ∧ x.old.isSome then onMot s fun m => { m with sp := (y : Int) * 200000000 }
  else
    let w := rampTarget s
    onMot s fun m => { m with sp := approach m.sp ((w.1 : Int) * 200000000) (w.2 * 256 * slotCycles s 2 : Nat) }

/-- Slot 2 applies an output that it has computed, so slot 1 no longer keeps the set-point from before SPEED (R296). -/
def iqRelease (s : State) : State := onMot s fun m => { m with iq := m.iq.filter fun x => !x.2 }

/-- A tick of slot 2: a lower mode takes effect, and the speed loop runs (R286, R287, R289). -/
def speedTick (s : State) : State :=
  let s := match s.ctl.mot.lower with
    | some m => safSpeedRefresh (setMode s m)
    | none => s
  let s := hallRenew s
  if (slotOf s 2).active then
    let y := measSpeed s
    let s := if motMode s = 4 then s else speedRamp s y
    let r := if motMode s = 4 then phaseSum s else rnd s.ctl.mot.sp 200000000
    let s := wrB (slotTick s 2 r y) F.MOT_STATUS_AT_SPEED (atSpeed s y)
    onMot s fun m => { m with iq := m.iq.map fun x => (x.1, true) }
  else s

/-- A tick of slot 3; it holds while the reference is held (R290; 13 R537). -/
def phaseTick (s : State) : State :=
  if (slotOf s 3).active ∧ !(refHeld s) then slotTick s 3 s.ctl.mot.phase (sword (reg s A.SCN_PHASE_ERR)) else s

/-- A tick of an auxiliary slot (R277). -/
def auxTick (s : State) (k : Nat) : State :=
  if (slotOf s k).active then
    let y := toQ16 s (reg s (A.HCH_RESULT (fld (reg s (A.SL_AUX k)) 0 6)))
    slotTick y.2 k (sword (reg s (A.SL_AUX_SP k))) y.1
  else s

/-! ## The tick -/

/-- Slot `k` runs on the tick of this number (R274). -/
def slotRuns (s : State) (n k : Nat) : Bool := decide (n % max 1 (rd s (F.SL_CTRL_DIV k)) = 0)

/-- CONTROL_TICK: outputs are applied, then every slot that is due latches its inputs and computes (R274, R275). -/
def controlTick (t : Nat) (s : State) : State :=
  if ticking s then
    let s := acqSettle s
    let n := s.ctl.tick
    let s := slotsRefresh (mirrorTake t (n % 2 ^ 32) s)
    let due := slotRuns s n
    let s := [0, 1, 2, 3, 5, 6, 7].foldl (fun s k => if due k then slotApply s k else s) s
    let s := if due 2 then iqRelease s else s
    let s := if due 3 then phaseTick s else s
    let s := if due 2 then speedTick s else s
    let s := if due 0 then openSpinTick (currentTick t s) else s
    let s := if due 4 then galTick t s else s
    let s := [5, 6, 7].foldl (fun s k => if due k then auxTick s k else s) s
    let s := tickNumber (n + 1) { s with ctl := { s.ctl with tickAt := t } }
    mirrorSend (safSpeedRefresh (wrB s F.SCN_STATUS_HANDOVER (blending s)))
  else s

/-! ## The SCN page (R31, R280, R296, R302, R303) -/

/-- The shadow values of an enabled slot's DIV. -/
def divShadow (s : State) (k : Nat) : Nat := rdShadow s (F.SL_CTRL_DIV k)

/-- The COMMIT check of the SCN page (R280): 0x03 before 0x04 is R40's order of checks, 0x04 first. -/
def scnCommitCheck (s : State) : Nat :=
  let on := (List.range 8).filter fun k => rdShadow s (F.SL_CTRL_ENABLE k) = 1
  let base := rdShadow s F.SCN_BASE_PERIOD
  let busy := decide (motMode s ≠ 0) || flag s F.GAL_CTRL_ENABLE
  let moves := decide (base ≠ rd s F.SCN_BASE_PERIOD) || (List.range 8).any fun k => decide (divShadow s k ≠ rd s (F.SL_CTRL_DIV k))
  let range (k : Nat) : Bool := decide (sword (shadowReg s (A.SL_OUT_MAX k)) < sword (shadowReg s (A.SL_OUT_MIN k)))
  let bad := (!on.isEmpty && !(on.any fun k => decide (divShadow s k = 1)))
    || on.any (fun k => decide (200000 < divShadow s k * base))
    || decide (divShadow s 0 ≠ divShadow s 1) || decide (divShadow s 2 ≠ divShadow s 3)
    || decide (divShadow s 0 * base < 2500) || decide (10000 < divShadow s 0 * base)
    || (List.range 8).any range
  if busy && moves then 0x04 else if bad then 0x03 else 0

/-- A commit that changes a slot's law, gains or limits is a hand-over of the slot; enables take effect (R279, R296). -/
def scnCommitted (o s : State) : State :=
  let s := slotsRefresh s
  (List.range 8).foldl (fun s k =>
    if [A.SL_KP k, A.SL_KI k, A.SL_KD k, A.SL_KFF k, A.SL_OUT_MIN k, A.SL_OUT_MAX k].any (fun a => reg o a ≠ reg s a)
        ∨ rd o (F.SL_CTRL_LAW k) ≠ rd s (F.SL_CTRL_LAW k) ∨ rd o (F.SL_CTRL_GEXP k) ≠ rd s (F.SL_CTRL_GEXP k) then
      slotDue s k none
    else s) s

/-- The checks of a write to the SCN page (R31, R302). -/
def scnCheck (a : Nat) (d : Word) (s : State) : Nat :=
  let busy := decide (motMode s ≠ 0) || flag s F.GAL_CTRL_ENABLE
  if a = A.SCN_SCAN_MODE then
    if flag s F.ESC_CTRL_ENABLE ∨ (fld d 0 2 = 2 ∧ motMode s ≠ 0) then 0x04
    else if fld d 0 2 = 0 ∧ rd s F.ESC_FRAME_CFG_FRAME_FACETS < rd s F.ESC_FRAME_CFG_IL_COUNT_M1 + 1 then 0x03
    else 0
  else if a = (F.SCN_CTRL_ENABLE).addr ∧ (!(bit d 0) ∨ bit d 1) ∧ busy then 0x04
  else 0

/-- What a write to the SCN page does beside its registers. -/
def scnAct (a : Nat) (o s : State) : State :=
  if a = A.SCN_SCAN_MODE then safSpeedRefresh (galRefresh s)
  else if a = (F.SCN_CTRL_ENABLE).addr ∧ flag o F.SCN_CTRL_ENABLE ≠ flag s F.SCN_CTRL_ENABLE then
    slotsRefresh (wrB (if flag s F.SCN_CTRL_ENABLE then tickNumber 0 s else s) F.SCN_STATUS_TICKING (ticking s))
  else s

/-- SOFT_RESET of the SCN page: SCAN_MODE is RASTER, in which MODE_REQ names the galvanometer mode (R293). -/
def scnReset (s : State) : State := galRefresh { s with ctl := { s.ctl with slots := [], tick := 0, tickAt := 0 } }

/-- SPEED_NOW, and SCN.STATUS.TICKING as the domain runs. -/
def motSpeedNow (s : State) : Word := word (measSpeed s)

/-- CONTROL_TICK (R274). -/
def execControlTick (t : Nat) (s : State) : Host.Outcome State Fault Refusal := .next (controlTick t (at' t s))

end Sys2Proof.Machine
end

