-- ==== Sys2Proof/Machine/View.lean ====
section
/-!
DEFINITION. What a read of a register returns: the registers that show other state, the words that latch together
(02 R50), and what a read changes (02 R34, R37, R50).
-/

namespace Sys2Proof.Machine

/-! ## Registers that show other state -/

/-- A value taken as a view. -/
abbrev view (w : Word) : Option Word := some w

/-- Views of GLB, CLK, PWR, IRQ, TDC, FCT, ESC pages. -/
def viewA (a : Nat) (s : State) : Option Word :=
  if a = F.GLB_STRAPS_PAIR_ID.addr then view (glbStraps s)
  else if a = A.GLB_DIE_ID_LO then view (Sys2Proof.Config.dieId.extractLsb' 0 32)
  else if a = A.GLB_DIE_ID_HI then view (Sys2Proof.Config.dieId.extractLsb' 32 32)
  else if a = F.PWR_LC_STATE_STATE.addr then view (pwrLcState s)
  else if A.IRQ_SUMMARY 0 ≤ a ∧ a ≤ A.IRQ_SUMMARY 3 then view (summaryWord s ((a - A.IRQ_SUMMARY 0) / 4))
  else if a = F.IRQ_PIN_STATUS_IRQ0.addr then view (word (b2n (irqAsserted s 1) + 2 * b2n (irqAsserted s 2)))
  else if 0x10000 ≤ a ∧ a < 0x14000 ∧ a % 0x1000 = 0x0C then view (tdcStatus s ((a - 0x10000) / 0x1000))
  else if 0x10000 ≤ a ∧ a < 0x14000 ∧ a % 0x1000 = 0x44 then view (reg s (A.TDC_BANK_MODE ((a - 0x10000) / 0x1000)))
  else if a = F.FCT_STATUS_TDU_RUN.addr then view (fctStatus s)
  else if a = F.ESC_STATUS_RUNNING.addr then view (escStatus s)
  else if a = A.ESC_FRAME_CFG_ACTIVE then view (frameCfgActive s)
  else none

/-- Views of VAT, RET, REJ, ACQ, MSK, STQ, PRS, WNB pages. -/
def viewB (a : Nat) (s : State) : Option Word :=
  if a = F.VAT_STATUS_ACTIVE.addr then view (vatStatus s)
  else if (F.VLG_ACTIVE_S_M1 0).addr ≤ a ∧ a < (F.VLG_ACTIVE_S_M1 32).addr ∧ (a - (F.VLG_ACTIVE_S_M1 0).addr) % 0x20 = 0 then
    let g := (a - (F.VLG_ACTIVE_S_M1 0).addr) / 0x20
    view (word (rd s (F.VLG_DWELL_C_M1 g) * 2 ^ 16 + rd s (F.VLG_DWELL_S_M1 g)))
  else if A.VLG_WORK 0 ≤ a ∧ a < A.VLG_WORK 32 ∧ (a - A.VLG_WORK 0) % 0x20 = 0 then
    view (word (vlgWork s ((a - A.VLG_WORK 0) / 0x20)))
  else if (F.ENG_STATUS_REFUSED 0).addr ≤ a ∧ a < (F.ENG_STATUS_REFUSED 256).addr then
    view (engStatus s ((a - (F.ENG_STATUS_REFUSED 0).addr) / 4))
  else if (F.ENG_HELD_HELD_BLOCKS 0).addr ≤ a ∧ a < (F.ENG_HELD_HELD_BLOCKS 256).addr then
    view (engHeld s ((a - (F.ENG_HELD_HELD_BLOCKS 0).addr) / 4))
  else if 0x70000 ≤ a ∧ a < 0x79000 ∧ a % 0x400 = 0x0C then view (lnqStatus s ((a - 0x70000) / 0x400))
  else if a = F.RET_STATUS_TEMP_STALE.addr then view (retStatus s)
  else if a = A.RET_NG_ACTIVE then view (reg s A.RET_NG)
  else if a = F.REJ_STATUS_ACTIVE.addr then view (rejStatus s)
  else if A.RN_ACTIVE 0 ≤ a ∧ a < A.RN_ACTIVE 64 ∧ (a - A.RN_ACTIVE 0) % 0x20 = 0 then
    view (rnActive s ((a - A.RN_ACTIVE 0) / 0x20))
  else if a = F.ACQ_MODE_ACTIVE_ACQ_MODE.addr then view (acqModeActive s)
  else if a = A.ACQ_RING_POS then view (ringPositions s)
  else if a = A.ACQ_RING_USED then view (ringBlocks s)
  else if a = A.ACQ_RING_OLDEST then view (ringOldest s)
  else if a = F.MSK_STATUS_ACTIVE.addr then view (mskStatus s)
  else if a = A.MSK_CFG_ACTIVE then view (mskCfgActive s)
  else if a = F.STQ_STATUS_ACTIVE.addr then view (stqStatus s)
  else if a = A.STQ_POOL_BLOCKS then view (word (poolBlocks s))
  else if a = A.STQ_POOL_FREE then view (word (poolFree s))
  else if a = A.STQ_RESERVE_SUM then view (word (reserveSum s))
  else if a = F.PRS_STATUS_ACTIVE.addr then view (prsStatus s)
  else if a = A.PRS_ENG_BUSY then view (engBusy s)
  else if a = A.PRS_ENG_HALTED then view (engHalted s)
  else if a = A.WNB_LREF_STATUS then view (lrefStatus s)
  else if a = F.WNB_CREDIT_TX_LIMIT.addr then view (creditTx s)
  else if a = F.WNB_CREDIT_RX_LIMIT.addr then view (creditRx s)
  else if A.BA_CREDIT_WAIT 0 ≤ a ∧ a < A.BA_CREDIT_WAIT 32 ∧ (a - A.BA_CREDIT_WAIT 0) % 0x40 = 0 then
    view (word (creditWait s ((a - A.BA_CREDIT_WAIT 0) / 0x40)))
  else none

/-- Views of the other pages, of the channel array and of the queue table. -/
def viewC (a : Nat) (s : State) : Option Word :=
  if a = A.MOT_SPEED_NOW then view (motSpeedNow s)
  else if a = F.SDF_STATUS_STUCK.addr then view (sdfStatus s)
  else if A.SDC_CFG 0 ≤ a ∧ a < A.SDC_CFG 8 ∧ (a - A.SDC_CFG 0) % 0x40 = (F.SDC_STATUS_COUNT 0).addr - A.SDC_CFG 0 then
    view (sdcStatus s ((a - A.SDC_CFG 0) / 0x40))
  else if A.SDC_CFG 0 ≤ a ∧ a < A.SDC_CFG 8 ∧ (a - A.SDC_CFG 0) % 0x40 = A.SDC_CFG_ACTIVE 0 - A.SDC_CFG 0 then
    view (reg s (A.SDC_CFG ((a - A.SDC_CFG 0) / 0x40)))
  else if a = A.SAF_STATUS then view (safStatus s)
  else if a = A.SAF_CAUSE then view (safCause s)
  else if a = A.SAF_SPEED_A then view (word (pathSpeed s false))
  else if a = A.SAF_SPEED_B then view (word (pathSpeed s true))
  else if a = A.SAF_STOP_MS then view (safStopMs s)
  else if a = F.ETH_STATUS_ACTIVE.addr then view (ethStatus s)
  else if a = F.ETH_MB_RX_STATUS_RECORDS.addr then view (mbRxStatus s)
  else if a = A.ETH_MB_TX_FREE then view (word (4096 - s.eth.mbTx.length))
  else if a = F.NTM_STATUS_COASTED.addr then view (ntmStatus s)
  else if A.NTM_NOW_NS ≤ a ∧ a ≤ A.NTM_NOW_TDC_HI then view ((ntmNow s).getD ((a - A.NTM_NOW_NS) / 4) 0#32)
  else if a = F.PLN_STATUS_STATE.addr then view (plnStatus s)
  else if a = F.PLN_CFG_ACTIVE_WANT.addr then view (plnCfgActive s)
  else if a = A.PLN_CYCLE_LO then view (word (planCycle s s.now))
  else if a = A.PLN_CYCLE_HI then view (word (planCycle s s.now / 2 ^ 32))
  else if a = A.PLN_BEAT_NUM then view (word (beatAt s s.now))
  else if A.PLN_PREF 0 ≤ a ∧ a ≤ A.PLN_PREF 7 then
    view (shadowReg s a &&& setWord (allSlots s) ((a - A.PLN_PREF 0) / 4))
  else if A.PLN_GRANT 0 ≤ a ∧ a ≤ A.PLN_GRANT 7 then view (setWord (planGrant s) ((a - A.PLN_GRANT 0) / 4))
  else if A.PLN_HELD 0 ≤ a ∧ a ≤ A.PLN_HELD 7 then view (setWord s.pln.held ((a - A.PLN_HELD 0) / 4))
  else if A.PLN_CLAIM 0 ≤ a ∧ a ≤ A.PLN_CLAIM 7 then view (setWord s.pln.pending ((a - A.PLN_CLAIM 0) / 4))
  else if a = A.VID_OUT_ACTIVE then view (reg s F.VID_OUT_CFG_PRESET.addr)
  else if a = A.VID_PCLK_ACTIVE then view (pclkActive s)
  else if a = F.HKA_STATUS_RUNNING.addr then view (hkaStatus s)
  else if A.HCH_AGE 0 ≤ a ∧ a < A.HCH_AGE 36 ∧ (a - A.HCH_AGE 0) % 0x20 = 0 then view (hkaAge s ((a - A.HCH_AGE 0) / 0x20))
  else if a = F.PAIR_STATUS_ARBITRATED.addr then view (pairStatus s)
  else if a = F.PAIR_HEALTH_OWN.addr then view (pairHealth s)
  else if a = A.PAIR_HB_AGE then view (pairAge s)
  else if 0x100000 ≤ a ∧ a < 0x120000 ∧ a % 0x100 = (F.CH_STATUS_FIFO_FULL 0).addr % 0x100 then
    view (chStatus s ((a - 0x100000) / 0x100))
  else if 0x200000 ≤ a ∧ a < 0x280000 ∧ a % 0x20 = (F.Q_STATE_BLOCKS 0).addr % 0x20 then
    view (qState s ((a - 0x200000) / 0x20))
  else none

/-- A word with the field of another word in place of its own. -/
def takeField (w d : Word) (f : FieldRow) : Word := setFld w f.lo f.len (fld d f.lo f.len)

/-- A word with its RWS fields taken from another word. -/
def takeRws (l : RegLoc) (w d : Word) : Word := (l.row.fields.filter fun f => f.acc = .rws).foldl (takeField · d) w

/-- The word that a register shows; RWS fields show their shadow value (02 R41). -/
def showReg (l : RegLoc) (a : Nat) (s : State) : Word :=
  if a = l.pbase + 0x18 ∧ l.pbase < 0x100000 then evtPending s l.pbase
  else
    match (if a < 0x30000 then viewA a s else if a < 0x80000 then viewB a s else viewC a s) with
    | some w => w
    | none => takeRws l (reg s a) (shadowReg s a)

/-! ## Words that latch together (02 R50) -/

/-- The higher words that a read of a lowest word latches. -/
def wideHigh (a : Nat) : List Nat :=
  if a = A.NTM_NOW_NS then [A.NTM_NOW_FRAC, A.NTM_NOW_SEC_LO, A.NTM_NOW_SEC_HI, A.NTM_NOW_TDC_LO, A.NTM_NOW_TDC_HI]
  else if a = F.NTM_PPSIN_NS_NS.addr then [A.NTM_PPSIN_FRAC, A.NTM_PPSIN_SEC_LO, A.NTM_PPSIN_SEC_HI]
  else if (List.range 4).any fun k => a = A.FC_EDGES k then [a + 4, a + 8]
  else if [A.GLB_DIE_ID_LO, A.MOT_PRED_LO, A.ACQ_FRAME_NUM_LO, A.ACQ_LAST_TRIG_FRAME_LO, A.MSK_LAST_VIOL_FRAME_LO,
      A.PAIR_TAKEOVER_FRAME_LO, A.VID_SHOWN_FRAME_LO, A.ACQ_EPOCH_SEC_LO, A.NTM_STEP_SEC_LO, A.NTM_INCR_FRAC, A.PLN_MCAST_LO,
      A.PLN_SRC_LO, A.PLN_CYCLE_LO].contains a
      || ((List.range 16).any fun m => a = A.MON_SUM_LO m || a = A.TDU_SUM_LO m)
      || ((List.range 4).any fun k => a = A.FC_TIME_LO k || a = A.NTT_SEC_LO k || a = A.TOUT_SEC_LO k)
      || (decide (0x100000 ≤ a) && decide (a < 0x120000) && decide (a % 0x100 = A.CH_LAST_HIT_LO 0 % 0x100)) then [a + 4]
  else []

/-- The lower word that a write of a highest word brings into effect, of the values that the host may write. -/
def wideLow (a : Nat) : Option Nat :=
  if [A.ACQ_EPOCH_SEC_HI, A.NTM_STEP_SEC_HI, A.NTM_INCR_NS, A.PLN_MCAST_HI, A.PLN_SRC_HI].contains a
      || ((List.range 4).any fun k => a = A.NTT_SEC_HI k || a = A.TOUT_SEC_HI k) then some (a - 4)
  else none

/-- The word is held until the one above it is written. -/
def heldWord (a : Nat) : Bool := wideLow (a + 4) = some a

/-- The word that requester `r` reads at an address that it has latched. -/
def latchedWord (s : State) (r : Requester) (a : Nat) : Option Word :=
  (s.bus.latched.find? fun p => p.1 = r && p.2.1 = a).map (·.2.2)

/-- The register bus changed by a function. -/
def onBus (s : State) (f : Bus → Bus) : State := { s with bus := f s.bus }

/-- The higher words of a wide value are latched for a requester. -/
def latchWide (r : Requester) (a : Nat) (s : State) : State :=
  (wideHigh a).foldl (fun s h =>
    match findReg h with
    | some l =>
      let w := showReg l h s
      onBus s fun b => { b with latched := (r, h, w) :: b.latched.filter fun p => !(p.1 = r && p.2.1 = h) }
    | none => s) s

/-! ## Ports: words that a read takes or advances -/

/-- A register that an access passes through to other state, and that holds no value itself. -/
def isPort (a : Nat) : Bool :=
  [A.ESC_COL_DATA, A.VAT_INSP_BIN_DATA, A.GAL_TBL_DATA, A.VID_TBL_DATA, A.ETH_MB_RX_DATA, A.ETH_MB_TX_DATA].contains a

/-- The engine whose PJ_CONSUMED or PJ_PRODUCED an address is. -/
def pjCount (a : Nat) : Option Nat :=
  if A.PJ_CONSUMED 0 ≤ a ∧ a ≤ A.PJ_PRODUCED 31 then
    let e := (a - A.PJ_CONSUMED 0) / 0x10
    if a = A.PJ_CONSUMED e ∨ a = A.PJ_PRODUCED e then some e else none
  else none

/-- The lane whose block holds an address of a lane page. -/
def laneOf (a : Nat) : Nat := (a - 0x70000) / 0x400 * 4 + (a % 0x400 - 0x100) / 0xC0

/-- A register that shows what a lane's receiver has adapted to: LN_EQ_RX and LN_DFE (09 R235, R266). -/
def adaptsAt (a : Nat) : Bool :=
  decide (0x100 ≤ a % 0x400) && (decide ((a % 0x400 - 0x100) % 0xC0 = 0x10) || decide ((a % 0x400 - 0x100) % 0xC0 = 0x14))

/-- The word a read returns and the state after it. -/
def readReg (l : RegLoc) (r : Requester) (a : Nat) (s : State) : Word × State :=
  if a = A.ESC_COL_DATA then (colEntry s (rd s F.ESC_COL_ADDR_BANK) (rd s F.ESC_COL_ADDR_INDEX), colAdvance s)
  else if a = A.VAT_INSP_BIN_DATA then (inspBins s, inspAdvance s)
  else if a = F.VAT_INSP_BLOCK_FRESH.addr then inspBlock s
  else if a = A.GAL_TBL_DATA then galTblRead s
  else if a = A.VID_TBL_DATA then (vtblRead s, vtblNext s)
  else if a = A.ETH_MB_RX_DATA then mbRead s
  else if 0x70000 ≤ a ∧ a < 0x79000 ∧ adaptsAt a then
    let s := adaptLane s (laneOf a)
    (showReg l a s, s)
  else if a = A.CLK_OCXO_PIN then
    let (f, s) := takeFree s 1
    (word f, s)
  else
    match latchedWord s r a, pjCount a with
    | some w, _ => (w, s)
    | none, some e => if a = A.PJ_CONSUMED e then (pjConsumed s e, s) else pjProduced s e
    | none, none =>
      let w := showReg l a s
      let s := latchWide r a s
      (w, if a = F.NTM_PPSIN_NS_NS.addr then ppsinRead s else s)

/-- The check of a read: MB_RX_DATA with no record, and a life-cycle request that is armed (13 R350; 20 R506). -/
def readCheck (a : Nat) (s : State) : Nat :=
  if a = A.ETH_MB_RX_DATA ∧ s.eth.mbRx.isEmpty then 0x04
  else if 0x2000 ≤ a ∧ a < 0x3000 ∧ lcIntrudes a s then 0x22
  else 0

end Sys2Proof.Machine
end

