-- ==== Sys2Proof/Machine/Bus.lean ====
section
/-!
DEFINITION. What a write of a register does beside the register itself, page by page: the checks of the block's own
chapter, the acts, the commits and the soft resets (02 R39 to R46).
-/

namespace Sys2Proof.Machine

/-! ## Pages -/

/-- The bytes of the page or region at a base address. -/
def pageSize (p : Nat) : Nat :=
  match pageIn pages p with
  | some q => q.size
  | none => 0

/-- The base address of the page or region that an address lies in. -/
def pageBase (a : Nat) : Option Nat :=
  match pageIn pages a with
  | some q => some (q.base + q.stride * instOf q a)
  | none => none

/-- The page whose ERR_CODE takes the errors of a page or region (02 R36; 03 R98; 08 R227). -/
def errPage (p a : Nat) : Nat :=
  if p = 0x100000 then 0x10000 + 0x1000 * ((a - 0x100000) / 0x8000)
  else if p = 0x200000 then 0x50000
  else p

/-- The page carries the common header. -/
def hasHeader (p : Nat) : Bool := decide (p < 0x100000)

/-- A page of a repeated kind: its instance, where the base lies in the range. -/
def inst (p lo stride n : Nat) : Option Nat := if lo ≤ p ∧ p < lo + stride * n then some ((p - lo) / stride) else none

/-! ## The checks of the chapters (02 R40, point 5) -/

/-- The checks of a write in the pages below 0x5_0000. -/
def checkA (p a : Nat) (d : Word) (s : State) : Nat :=
  if a = F.GLB_POOL_SPLIT_DISPLAY.addr then splitCheck d s
  else if p = 0x1000 then clkCheck a s
  else if p = 0x2000 then pwrCheck a d s
  else if p = 0x4000 then pmonCheck a d s
  else if p = 0x18000 then fctCheck a d s
  else if p = 0x20000 then (if escCheck a d s ≠ 0 then escCheck a d s else timedCheck a d s)
  else if p = 0x30000 then vatCheck a d s
  else if p = 0x31000 then retCheck a d s
  else if p = 0x40000 then acqCheck a d s
  else if p = 0x41000 then mskCheck a d s
  else 0

/-- The checks of a write in the pages from 0x5_0000 to 0x9_0FFF. -/
def checkB (p a : Nat) (d : Word) (s : State) : Nat :=
  match inst p 0x61000 0x80 32, inst p 0x70000 0x400 36 with
  | some b, _ => bCheck b (a - p) d s
  | _, some q => lnqCheck q (a - p) d s
  | _, _ =>
    if p = 0x51000 then prsCheck a d s
    else if p = 0x60000 then wnbCheck a d s
    else if p = 0x80000 then scnCheck a d s
    else if p = 0x81000 then motCheck a d s
    else if p = 0x82000 then galCheck a d s
    else if p = 0x83000 then sdfCheck a d s
    else 0

/-- The checks of a write in the pages from 0xA_0000 on, of the channel array and of the queue table. -/
def checkC (p a : Nat) (d : Word) (s : State) : Nat :=
  if p = 0xA0000 then ethCheck a d s
  else if (inst p 0xA1000 0x1000 4).isSome then ethpCheck a d s
  else if p = 0xA8000 then ntmCheck a d s
  else if p = 0xA9000 then plnCheck a d s
  else if p = 0xB0000 then vidCheck a d s
  else if p = 0xC0000 then hkaCheck a d s
  else if p = 0xC1000 then thmCheck a d s
  else if p = 0xD0000 then calCheck a d s
  else if p = 0xE0000 then lmpCheck a d s
  else if p = 0xF0000 then pairCheck a d s
  else if p = 0x100000 then chaCheck a d
  else if p = 0x200000 then qtCheck a d s
  else 0

/-! ## What a write does beside its register -/

/-- The acts of a write in the pages below 0x5_0000; `o` is the state before it. -/
def actA (p a : Nat) (d : Word) (o s : State) : State :=
  if a = F.GLB_POOL_SPLIT_DISPLAY.addr then splitAct o s
  else if p = 0x2000 then pwrAct a d o s
  else if p = 0x4000 then pmonAct a d o s
  else if (inst p 0x10000 0x1000 4).isSome then tdcAct a s
  else if p = 0x18000 then fctAct a d o s
  else if a = A.ESC_COL_DATA then colWrite d s
  else if p = 0x20000 then timedAct a d (escAct a o s)
  else if p = 0x30000 then vatAct a d s
  else if p = 0x31000 then retAct a s
  else if p = 0x40000 then acqAct a d o s
  else s

/-- The acts of a write in the pages from 0x5_0000 to 0x9_0FFF. -/
def actB (p a : Nat) (d : Word) (o s : State) : State :=
  match inst p 0x61000 0x80 32, inst p 0x70000 0x400 36 with
  | some b, _ => bAct b (a - p) d o s
  | _, some q => lnqAct q (a - p) d o s
  | _, _ =>
    if p = 0x50000 then stqAct a d s
    else if p = 0x51000 then prsAct a d s
    else if p = 0x60000 then wnbAct a o s
    else if p = 0x80000 then scnAct a o s
    else if p = 0x81000 then motAct a s
    else if p = 0x82000 then galAct a d s
    else if p = 0x83000 then sdfAct a d o s
    else if a = A.SAF_CFG_CTRL then (if bit d 0 ∧ flag s F.SAF_STATUS_WINDOW_OPEN then safClose s else s)
    else s

/-- The acts of a write in the pages from 0xA_0000 on, of the channel array and of the queue table. -/
def actC (p a : Nat) (d : Word) (o s : State) : State :=
  if p = 0xA0000 then ethAct a d s
  else if (inst p 0xA1000 0x1000 4).isSome then ethpAct a o s
  else if p = 0xA8000 then ntmAct a d o s
  else if p = 0xA9000 then plnAct a o s
  else if p = 0xB0000 then vidAct a d o s
  else if p = 0xC0000 then hkaAct a d o s
  else if p = 0xC1000 then thmAct a o s
  else if p = 0xD0000 then calAct a d o s
  else if p = 0xE0000 then lmpAct a d o s
  else if p = 0xF0000 then pairAct a d o s
  else if p = 0x100000 then chaAct a d s
  else if p = 0x200000 then qtAct a s
  else s

/-- The act of a write in any page. -/
def pageAct (p a : Nat) (d : Word) (o s : State) : State :=
  if p < 0x50000 then actA p a d o s else if p < 0xA0000 then actB p a d o s else actC p a d o s

/-! ## Fields -/

/-- The shadows with the value of a register set, by rising address. -/
def shadowPut (a : Nat) (w : Word) : List (Nat × Word) → List (Nat × Word)
  | [] => [(a, w)]
  | (k, v) :: r => if k < a then (k, v) :: shadowPut a w r else if k = a then (a, w) :: r else (a, w) :: (k, v) :: r

/-- The shadow value of a register set. -/
def setShadow (s : State) (a : Nat) (w : Word) : State := { s with shadows := shadowPut a w s.shadows }

/-- An event counter cleared with its OVF flag (02 R58, 08 R228). -/
def counterClear (s : State) (a : Nat) (f : FieldRow) : State :=
  if f.len = 32 then setReg (setReg s a 0#32) (a + 4) 0#32 else setReg s a 0#32

/-- A field takes its bits of a written word, by its access (02 R41, spec/00). -/
def storeField (a : Nat) (d : Word) (s : State) (f : FieldRow) : State :=
  match f.acc with
  | .rw => if isPort a then s else setReg s a (takeField (reg s a) d f)
  | .rws => setShadow s a (takeField (shadowReg s a) d f)
  | .w1c => setReg s a (reg s a &&& ~~~ takeField 0#32 d f)
  | .cnt => if d = 0xFFFFFFFF#32 then counterClear s a f else s
  | .ro | .rol | .w1s | .wo => s

/-- A register takes a written word. -/
def storeReg (l : RegLoc) (a : Nat) (d : Word) (s : State) : State := l.row.fields.foldl (storeField a d) s

/-- The write would change a protected field (02 R48). -/
def protChange (l : RegLoc) (a : Nat) (d : Word) (s : State) : Bool :=
  l.row.fields.any fun f =>
    f.prot && match f.acc with
      | .rw => decide (fld d f.lo f.len ≠ fld (reg s a) f.lo f.len)
      | .rws => decide (fld d f.lo f.len ≠ fld (shadowReg s a) f.lo f.len)
      | .w1c | .w1s | .wo | .cnt => decide (fld d f.lo f.len ≠ 0)
      | .ro | .rol => false

/-- A field is given a reserved encoding, or an event counter a value it refuses (02 R40, R58). -/
def fieldBad (d : Word) (f : FieldRow) : Bool :=
  match f.acc with
  | .cnt => decide (d ≠ 0#32) && decide (d ≠ 0xFFFFFFFF#32)
  | _ => f.bad.any fun r => decide (r.1 ≤ fld d f.lo f.len) && decide (fld d f.lo f.len ≤ r.2)

/-- A commit is pending on the page (02 R46). -/
def commitPending (s : State) (p : Nat) : Bool := s.commits.any fun c => c.page = p

/-- The write meets a pending commit (02 R46), or a queue's pending values (08 R211). -/
def shadowBusy (l : RegLoc) (a : Nat) (s : State) : Bool :=
  let rws := l.row.fields.any fun f => f.acc = .rws
  if l.pbase = 0x200000 then rws && qPending s ((a - 0x200000) / 0x20)
  else commitPending s l.pbase && (rws || decide (a = l.pbase + 0x20))

/-- The commit point that a write of SHADOW_CTRL asks for is one that the page does not accept (02 R38, R40). -/
def pointBad (l : RegLoc) (a : Nat) (d : Word) (s : State) : Bool :=
  hasHeader l.pbase && decide (a = l.pbase + 0x20) && !((fld (reg s (l.pbase + 4)) 0 6).testBit (fld d 1 3))

/-! ## Commits (02 R41 to R46) -/

/-- Plan cycles are counted: PLN is enabled and network time runs. -/
def planRuns (s : State) : Bool := flag s F.PLN_CTRL_ENABLE && decide (s.ntm.mode ≠ .held)

/-- The source of a commit point runs (02 R42); while RUNNING is 0 no frame boundary occurs (01 R30). -/
def sourceRuns (s : State) : Point → Bool
  | .immediate => false
  | .frame => acqRuns s
  | .facet => decide (motMode s ≠ 0)
  | .planCycle => planRuns s
  | .vblank => flag s F.VID_STATUS_ACTIVE
  | .controlTick => ticking s

/-- The page's RWS fields take their shadow values, and the shadows of the page are dropped. -/
def takeShadows (p : Nat) (s : State) : State :=
  let mine (q : Nat × Word) : Bool := decide (p ≤ q.1) && decide (q.1 < p + pageSize p)
  let s' := (s.shadows.filter mine).foldl (fun s q =>
    match findReg q.1 with
    | some l => setReg s q.1 (takeRws l (reg s q.1) q.2)
    | none => s) s
  { s' with shadows := s.shadows.filter fun q => !(mine q) }

/-- The check that a block makes when COMMIT is written. -/
def commitCheck (p : Nat) (s : State) : Nat :=
  let c := takeShadows p s
  let bad (b : Bool) : Nat := if b then 0x03 else 0
  if p = 0x20000 then escCommitCheck s
  else if p = 0x30000 then vatCommitCheck s
  else if p = 0x40000 then bad (acqCommitBad c)
  else if p = 0x41000 then bad (mskCommitBad c)
  else if p = 0x80000 then scnCommitCheck s
  else if p = 0x83000 then sdfCommitCheck s
  else if p = 0xA9000 then plnCommitCheck s
  else if p = 0xB0000 then bad (vidCommitBad c)
  else 0

/-- A commit of the page also waits for a frame boundary (01 R28, R29; 03 R72; 04 R103; 06 R155; 07 R180). -/
def frameDefer (p : Nat) (s : State) : Bool :=
  match inst p 0x10000 0x1000 4 with
  | some q => decide (shadowReg s (A.TDC_BANK_MODE q) ≠ reg s (A.TDC_BANK_MODE q))
  | none =>
    if p = 0x20000 then escFrameDefer s
    else if p = 0x32000 then true
    else if p = 0x40000 then
      decide (rdShadow s F.ACQ_TIME_REF_MODE ≠ rd s F.ACQ_TIME_REF_MODE)
        || decide (shadowReg s F.ACQ_ACQ_MODE_RETAIN.addr ≠ reg s F.ACQ_ACQ_MODE_RETAIN.addr)
    else if p = 0xA9000 then decide (rdShadow s F.PLN_MEMBERSHIP ≠ rd s F.PLN_MEMBERSHIP)
    else false

/-- A commit of the page also waits for a plan epoch: a change of MEMBERSHIP (01 R28). -/
def epochDefer (p : Nat) (s : State) : Bool := decide (p = 0xA9000) && frameDefer p s

/-- A commit is requested (02 R43, R45). -/
def commitRequest (p : Nat) (d : Word) (s : State) : State :=
  let q := (Point.ofCode (fld d 1 3)).getD .immediate
  let c : Commit := ⟨p, q, s.now, frameDefer p s, epochDefer p s, !(sourceRuns s q)⟩
  setReg { s with commits := s.commits ++ [c] } (p + 0x20) (reg s (p + 0x20) ||| 1#32)

/-- A pending commit at an instant, at an occurrence of a commit point, and whether it applies (02 R43, R45; 01 R28, R29). -/
def commitStep (s : State) (q : Point) (c : Commit) : Commit × Bool :=
  let aged := decide (c.since + nsec 50 ≤ s.now)
  let occurs := if c.point = .immediate || c.passed then aged
    else !(sourceRuns s c.point) || (decide (c.point = q) && aged)
  let epoch := c.epoch && !(occurs && (!(planRuns s) || (decide (q = .planCycle) && decide (planCycle s s.now % 256 = 0))))
  let frame := c.frame && !(occurs && !epoch && (!(acqRuns s) || decide (q = .frame)))
  ({ c with passed := c.passed || occurs, epoch := epoch, frame := frame }, occurs && !epoch && !frame)

/-- The commit of a page is counted, and COMMIT clears (02 R41). -/
def commitShow (p : Nat) (s : State) : State :=
  let w := reg s (p + 0x20)
  let n := (fld (reg s (p + 0x24)) 0 16 + 1) % 2 ^ 16
  setReg (setReg s (p + 0x20) (setFld w 0 1 0)) (p + 0x24) (word (n + fld w 1 3 * 2 ^ 16))

/-- What the commit of a page does beside its registers; `o` is the state before the commits of the instant. -/
def commitAct (o : State) (s : State) (p : Nat) : State :=
  match inst p 0x10000 0x1000 4 with
  | some q => modeSettle q (reg o (A.TDC_BANK_MODE q)) (reg s (A.TDC_BANK_MODE q)) s
  | none =>
    if p = 0x20000 then safRefresh s
    else if p = 0x40000 then acqCommitted o s
    else if p = 0x80000 then scnCommitted o s
    else if p = 0x82000 then galCommitted o s
    else if p = 0x83000 then sdfCommitted o s
    else if p = 0xA9000 then plnCommitted o s
    else if p = 0xB0000 then vidCommitted o s
    else s

/-- The commits that are due at an occurrence of a commit point apply at one instant (02 R44). -/
def commitApply (q : Point) (s : State) : State :=
  let cs := s.commits.map (commitStep s q)
  let due := (cs.filter (·.2)).map (·.1.page)
  let o := s
  let s := { s with commits := (cs.filter fun c => !c.2).map (·.1) }
  let s := due.foldl (fun s p => commitShow p (takeShadows p s)) s
  due.foldl (commitAct o) s

end Sys2Proof.Machine
end

