-- ==== Sys2Proof/Machine/Access.lean ====
section
/-!
DEFINITION. One access of the register bus: the order of the refusals, LOCK, soft reset, wide values, the CALSTORE window
and the memory window (02 R34 to R41, R46 to R50).
-/

namespace Sys2Proof.Machine

/-! ## Soft reset (02 R39) -/

/-- What a soft reset does before the registers of the page return to their reset values. -/
def softBefore (p : Nat) (s : State) : State :=
  match inst p 0x61000 0x80 32, inst p 0x70000 0x400 36, inst p 0xA1000 0x1000 4 with
  | some b, _, _ => disableBundle s b
  | _, some q, _ => lnqAct q 0x08 0#32 s (wr s (F.LNQ_CTRL_ENABLE q) 0)
  | _, _, some e => ethpReset e s
  | _, _, _ =>
    if p = 0x40000 then acqReset s
    else if p = 0x50000 then stqReset s
    else s

/-- A register that a soft reset of its page leaves: ERR_CODE, which R39 does not name; the engine tables of LMP. -/
def softKeeps (p a : Nat) : Bool :=
  decide (a = p + 0x28) || (decide (p = 0xE0000) && decide (0xE0400 ≤ a) && decide (a < 0xE0800) && decide (0x80 ≤ a % 0x100))

/-- The registers and shadows of a page return to their reset values, its commit is cancelled, and LOCK closes. -/
def clearPage (p : Nat) (s : State) : State :=
  let mine (a : Nat) : Bool := decide (p ≤ a) && decide (a < p + pageSize p)
  { s with
    regs := s.regs.filter fun q => !(mine q.1) || softKeeps p q.1
    shadows := s.shadows.filter fun q => !(mine q.1)
    commits := s.commits.filter fun c => c.page ≠ p }

/-- What a soft reset of one of the pages below 0x8_0000 does once its registers hold their reset values. -/
def softAfterA (p : Nat) (o s : State) : State :=
  match inst p 0x10000 0x1000 4 with
  | some q =>
    let s := wr (wr s (F.TDC_STATUS_PLL_LOCK q) (rd o (F.TDC_STATUS_PLL_LOCK q))) (F.TDC_STATUS_HOLDOVER q)
      (rd o (F.TDC_STATUS_HOLDOVER q))
    modeSettle q (reg o (A.TDC_BANK_MODE q)) (reg s (A.TDC_BANK_MODE q)) (tdcReset q s)
  | none =>
    if p = 0x3000 then { s with irq := ⟨false, 0, false⟩ }
    else if p = 0x4000 then { s with mon := [] }
    else if p = 0x18000 then { s with fct := ⟨[], []⟩ }
    else if p = 0x20000 then safRefresh (escReset s)
    else if p = 0x30000 then vatReset s
    else if p = 0x31000 then wr s F.RET_STATUS_CAL_ZERO (rd o F.RET_STATUS_CAL_ZERO)
    else if p = 0x51000 then prsReset s
    else if p = 0x32000 then rejReset s
    else
      match inst p 0x61000 0x80 32 with
      | some b => if (bundle o b).sent.isEmpty then s else raise s (F.B_EVT_RAW_FRAMES_LOST b)
      | none => s

/-- What a soft reset of one of the pages from 0x8_0000 on does once its registers hold their reset values. -/
def softAfterB (p : Nat) (o s : State) : State :=
  if p = 0x80000 then slotsRefresh (scnReset s)
  else if p = 0x81000 then safSpeedRefresh (slotsRefresh (motReset s))
  else if p = 0x82000 then galReset s
  else if p = 0x83000 then sdfClock (wrB (sdfReset s) F.SDF_CFG_CLK_DIR s.pwr.pairId)
  else if p = 0xA0000 then ethReset s
  else if p = 0xA8000 then ntmReset s
  else if p = 0xA9000 then plnReset s
  else if p = 0xB0000 then vidReset o s
  else if p = 0xC0000 then hkaReset s
  else if p = 0xC1000 then wrB (thmReset s) F.THM_STATUS_DIE_LIMIT (decide (s.thm.die ≠ 0))
  else if p = 0xD0000 then calReset s
  else if p = 0xE0000 then safRefresh (lampsOff (lmpReset s))
  else s

/-- A soft reset of a page, made at its write. -/
def softDo (p : Nat) (s : State) : State :=
  let o := s
  let s := clearPage p (softBefore p s)
  if p < 0x80000 then softAfterA p o s else softAfterB p o s

/-- The page is that of the bundle that carries the access (09 R265). -/
def ownBundle (r : Requester) (p : Nat) : Bool :=
  match r with
  | .bundle b => decide (p = 0x61000 + 0x80 * b)
  | .mspi => false

/-- The soft reset of a bundle that its own REG_WR has asked for is made once no completion waits (09 R265). -/
def lateReset (b : Nat) (s : State) : State :=
  if (bundle s b).resetDue ∧ !((pget [] s.wnb.tx b).any fun p => p.1.type = 4) then
    let p := 0x61000 + 0x80 * b
    let s := softDo p (onBundle s b fun x => { x with resetDue := false })
    setReg s (p + 8) (reg s (p + 8) ||| 2#32)
  else s

/-- A write of 1 to CTRL.SOFT_RESET is accepted: SOFT_RESET reads 1 until the reset completes. GLB resets the device
(20 R490). ESC first lets the columns in progress end (04 R120), and a bundle lets the REG_WR on it complete (09 R265). -/
def softReset (r : Requester) (p : Nat) (s : State) : State :=
  if p = 0 then deviceReset s 2
  else if p = 0x20000 ∧ (s.esc.active ∨ columnsRun s) then
    let s := stopScheduling (wr s F.ESC_CTRL_ENABLE 0)
    setReg { s with esc := { s.esc with resetDue := true } } 0x20008 2#32
  else if ownBundle r p then
    (match r with
     | .bundle b => setReg (onBundle s b fun x => { x with resetDue := true }) (p + 8) (reg s (p + 8) ||| 2#32)
     | .mspi => s)
  else
    let s := softDo p s
    setReg s (p + 8) (reg s (p + 8) ||| 2#32)

/-- A soft reset completes. -/
def softComplete (p : Nat) (s : State) : State :=
  if !(bit (reg s (p + 8)) 1) then s
  else if p = 0x20000 ∧ s.esc.resetDue then
    if columnsRun s then s else softDo p { s with esc := { s.esc with resetDue := false } }
  else
    match inst p 0x61000 0x80 32 with
    | some b =>
      let s := lateReset b s
      if (bundle s b).resetDue then s else setReg s (p + 8) (setFld (reg s (p + 8)) 1 1 0)
    | none => setReg s (p + 8) (setFld (reg s (p + 8)) 1 1 0)

/-! ## LOCK (02 R47, R48) -/

/-- The key of a page's LOCK, where the page accepts one now. -/
def lockKey (p : Nat) (s : State) : Option Nat :=
  if p = 0x90000 then (if flag s F.SAF_STATUS_WINDOW_OPEN then some 0x5AFE else none) else some 0x4C6B

/-- One access of a page counts against its open LOCK, which closes at 0. -/
def lockCount (p : Nat) (s : State) : State :=
  let w := reg s (p + 0x2C)
  if hasHeader p ∧ bit w 31 then
    setReg s (p + 0x2C) (if fld w 0 7 ≤ 1 then 0#32 else word (2 ^ 31 + (fld w 0 7 - 1)))
  else s

/-- A write of LOCK: its error code and the state after it. -/
def lockWrite (p : Nat) (d : Word) (s : State) : Nat × State :=
  if p = 0x2000 ∧ s.pwr.lcArmed then (0x22, lockCount p (recErr s p 0x2C 0x22))
  else if fld d 0 16 = 0 then (0, setReg s (p + 0x2C) 0#32)
  else if some (fld d 0 16) = lockKey p s then (0, setReg s (p + 0x2C) (word (2 ^ 31 + 64)))
  else (0x07, recErr (setReg s (p + 0x2C) 0#32) p 0x2C 0x07)

/-! ## Writes of registers -/

/-- The error code of a write, the first that applies in the order of R40; `c` is the state with the held lower word of the
value in place (02 R40, R50). -/
def writeCode (l : RegLoc) (a : Nat) (d : Word) (s c : State) : Nat :=
  let p := l.pbase
  let soft := hasHeader p && decide (a = p + 8) && bit d 1
  if protChange l a d s ∧ !(lockOpen s p) then 0x01
  else if !soft ∧ shadowBusy l a s then 0x06
  else if l.row.fields.any (fieldBad d) || pointBad l a d s then 0x02
  else if soft ∧ [0x1000, 0x2000, 0x90000, 0xF0000].contains p then 0x04
  else
    let n := if p < 0x50000 then checkA p a d c else if p < 0xA0000 then checkB p a d c else checkC p a d c
    if n ≠ 0 then n
    else if zeroingBars a d s then 0x04
    else if hasHeader p ∧ a = p + 0x20 ∧ bit d 0 then commitCheck p s
    else 0

/-- A refused write: its error is recorded, and what the block's chapter adds. -/
def writeRefused (l : RegLoc) (a n : Nat) (s : State) : State :=
  let s := recErr s (errPage l.pbase a) (a - l.pbase) n
  if l.pbase = 0xA0000 ∧ n = 0x03 then ethRefused a s
  else if l.pbase = 0xA8000 ∧ n = 0x20 then ntmRefused s
  else s

/-- The mask of a register's fields. -/
def rowMask (l : RegLoc) : Word := l.row.fields.foldl (fun w f => takeField w 0xFFFFFFFF#32 f) 0#32

/-- An accepted write: the register, then what the write does beside it. -/
def writeDo (l : RegLoc) (a : Nat) (d : Word) (o c : State) : State :=
  let p := l.pbase
  let s := storeReg l a d c
  if hasHeader p ∧ (a = p + 0x10 ∨ a = p + 0x14) then evfWatch p o s
  else if hasHeader p ∧ a = p + 0x1C then raiseBits s p (d &&& rowMask l)
  else if hasHeader p ∧ a = p + 0x20 then (if bit d 0 then commitRequest p d s else s)
  else if hasHeader p ∧ a = p + 0x28 then
    (if bit d 31 then (if p = 0 then setReg (setReg s 0x28 0#32) A.GLB_ERR_ADDR 0#32 else setReg s (p + 0x28) 0#32) else s)
  else pageAct p a d o s

/-- The lower word that a requester has written and that waits for the highest word (02 R50). -/
def lowerWord (s : State) (r : Requester) (a : Nat) : Option Word :=
  (s.bus.lower.find? fun p => p.1 = r && p.2.1 = a).map (·.2.2)

/-- The held lower word of a requester dropped. -/
def lowerDrop (s : State) (r : Requester) (a : Nat) : State :=
  onBus s fun b => { b with lower := b.lower.filter fun p => !(p.1 = r && p.2.1 = a) }

/-- The state with the held lower word of the value whose highest word lies at an address in place (02 R50). -/
def lowerTaken (r : Requester) (a : Nat) (s : State) : State :=
  match wideLow a with
  | some k =>
    match lowerWord s r k, findReg k with
    | some w, some l => lowerDrop (storeReg l k w s) r k
    | _, _ => s
  | none => s

/-- A requester that writes a word reads it from then on, and not the value it had latched (02 R50, log entry 90). -/
def latchDrop (s : State) (r : Requester) (a : Nat) : State :=
  onBus s fun b => { b with latched := b.latched.filter fun p => !(p.1 = r && p.2.1 = a) }

/-- The bits of a FAULT_LATCH, or of TRIP_LATCH, that a write of 1 would clear and that stay set, with an error recorded
(10 R299, 16 R429). -/
def stays (a : Nat) (d : Word) (s : State) : Word :=
  if a = A.MOT_FAULT_LATCH then d &&& reg s a &&& motStays s
  else if a = A.GAL_FAULT_LATCH then d &&& reg s a &&& galStays s
  else if a = A.THM_TRIP_LATCH then d &&& reg s a &&& tripStays s
  else 0#32

/-- A write of a register on a page that answers: its error code and the state after it. -/
def writeReg (l : RegLoc) (r : Requester) (a : Nat) (d : Word) (s : State) : Nat × State :=
  let p := l.pbase
  if hasHeader p ∧ a = p + 0x2C then lockWrite p d s
  else
    let soft := hasHeader p && decide (a = p + 8) && bit d 1
    let d := if soft then reg s a ||| 2#32 else d
    let c := lowerTaken r a s
    let n := writeCode l a d s c
    if n ≠ 0 then (n, lockCount p (writeRefused l a n s))
    else if heldWord a then
      (0, lockCount p (onBus s fun b => { b with lower := (r, a, d) :: b.lower.filter fun q => !(q.1 = r && q.2.1 = a) }))
    else if stays a d s ≠ 0#32 then (0x04, lockCount p (writeRefused l a 0x04 (writeDo l a (d &&& ~~~(stays a d s)) s c)))
    else if soft then (0, softReset r p s)
    else (0, latchDrop (lockCount p (writeDo l a d s c)) r a)

/-! ## CALSTORE and the memory window (02 R34, R36, R37) -/

/-- The SRAM address behind an address of the memory window. -/
def windowAt (s : State) (a : Nat) : Nat := rd s F.GLB_MEMWIN_BASE_BASE_MIB * 0x100000 + (a - 0x800000)

/-- The STREAM partition (01 R24, 02 R36). -/
def inStream (s : State) (m : Nat) : Bool :=
  let lo := 0x3000000 + rd s F.GLB_POOL_SPLIT_DISPLAY * 0x100000
  decide (lo ≤ m) && decide (m < lo + rd s F.GLB_POOL_SPLIT_STREAM * 0x100000)

/-- A write through the memory window is refused by the owner of the region: the Vat while it is enabled, the retention ring
while acquisition is enabled. -/
def windowRefused (s : State) (m : Nat) : Bool :=
  if m < 0x3000000 then flag s F.VAT_CTRL_ENABLE
  else flag s F.ACQ_CTRL_ENABLE && decide ((ringSpan s).1 ≤ m) && decide (m < (ringSpan s).1 + (ringSpan s).2)

/-- A read through a window: the word and the state after it; CALSTORE reads 0 in RETIRED (20 R504). The STREAM partition is memory
like the rest of the pool (01 R23); once queues have placed bytes there, a word of it is free, as no rule says where (log
entry 71). -/
def windowRead (a : Nat) (s : State) : Word × State :=
  if a < 0x800000 then (if s.pwr.lcState = 4 then 0#32 else memWord s.calstore (a - 0x400000), s)
  else
    let m := windowAt s a
    if m < 0x3000000 then (bankWord s m, s)
    else if inStream s m ∧ s.stq.touched then
      let (f, s) := takeFree s 32
      (word f, s)
    else (memWord s.sram m, s)

/-- A write through a window: its error code and the state after it; CALSTORE takes none in RETIRED (20 R504). -/
def windowWrite (a : Nat) (d : Word) (s : State) : Nat × State :=
  if a < 0x800000 then
    let o := a - 0x400000
    if calWritable s o ∧ s.pwr.lcState ≠ 4 then (0, { s with calstore := setMemWord s.calstore o (d &&& calMask o) })
    else (0x04, recErr s 0xD0000 a 0x04)
  else
    let m := windowAt s a
    if windowRefused s m then (0x04, recErr s 0 a 0x04)
    else if m < 0x3000000 then (0, setBankWord s m d)
    else (0, { s with sram := setMemWord s.sram m d })

/-- An address of the CALSTORE window or of the memory window. -/
def windowed (a : Nat) : Bool := (decide (0x400000 ≤ a) && decide (a < 0x480000)) || decide (0x800000 ≤ a)

/-! ## One access -/

/-- The address that an access reaches: 24 bits, a whole word (02 R34). -/
def busAddr (a : Nat) : Nat := a % 2 ^ 24 / 4 * 4

/-- The register clock of an address runs (02 R34); an address outside the table has none, and is not stopped. -/
def clocked (a : Nat) (s : State) : Bool :=
  if windowed a then sysOn s
  else
    match pageIn pages a with
    | some q => if q.dom = .aon then !s.held else awake s && domRunning s q.dom (instOf q a)
    | none => true

/-- The wait of an access on the register bus is sampled by the monitors that select it; no rule gives its length, which is
free up to the 2 µs of R49 (log entry 90). -/
def busWait (s : State) : State :=
  if flag s F.PMON_CTRL_ENABLE ∧ (List.range 16).any (fun m => flag s (F.MON_CTRL_RUN m) && decide (rd s (F.MON_SEL_SOURCE m) = 0x060)) then
    let (f, s) := takeFree s 32
    monSample s 0x060 0 (f % 2001 : Nat)
  else s

/-- After an access of the PWR page that is not an accepted write of LC_KEY, no life-cycle request is armed (20 R506). -/
def lcAfter (p : Nat) (keyed : Bool) (s : State) : State := if p = 0x2000 ∧ !keyed then lcDisarm s else s

/-- A read on a page that answers: the word, the error code and the state after it. -/
def pageRead (p : Nat) (r : Requester) (a : Nat) (s : State) : Word × Nat × State :=
  let s := lockCount p s
  let n := readCheck a s
  if n ≠ 0 then (0#32, n, lcAfter p false (recErr s (errPage p a) (a - p) n))
  else
    let (w, s) :=
      match findReg a with
      | some l => readReg l r a s
      | none => (0#32, s)
    (w, 0, lcAfter p false s)

/-- A write on a page that answers; an offset that the page does not list takes nothing. -/
def pageWrite (p : Nat) (r : Requester) (a : Nat) (d : Word) (s : State) : Nat × State :=
  match findReg a with
  | some l =>
    let (n, s) := writeReg l r a d s
    (n, lcAfter p (decide (a = A.PWR_LC_KEY) && decide (n = 0)) s)
  | none =>
    if p = 0x2000 ∧ s.pwr.lcArmed then (0x22, lcAfter p false (lockCount p (recErr s p (a - p) 0x22)))
    else (0, lockCount p s)

/-- A read on the register bus: the word, the error code and the state after it. -/
def busRead (r : Requester) (a : Nat) (s : State) : Word × Nat × State :=
  let a := busAddr a
  if s.held then (0#32, 0, s)
  else
    let s := busWait s
    match (if windowed a then some a else pageBase a) with
    | none => (0#32, 0x08, recGlb s a 0x08)
    | some p =>
      if !(clocked a s) then (0#32, 0x05, recGlb s a 0x05)
      else if windowed a then
        let (w, s) := windowRead a s
        (w, 0, s)
      else pageRead p r a s

/-- A write on the register bus: its error code and the state after it. -/
def busWrite (r : Requester) (a : Nat) (d : Word) (s : State) : Nat × State :=
  let a := busAddr a
  if s.held then (0, s)
  else
    let s := busWait s
    match (if windowed a then some a else pageBase a) with
    | none => (0x08, recGlb s a 0x08)
    | some p =>
      if !(clocked a s) then (0x05, recGlb s a 0x05)
      else if windowed a then windowWrite a d s
      else pageWrite p r a d s

/-! ## Accesses of requesters (02 R49, R51) -/

/-- An access that waits for memory: through the memory window, or at the inspection port of VAT (02 R49); one whose clock
domain is stopped does not wait (01 R22). -/
def slowAddr (a : Nat) (s : State) : Bool :=
  let a := busAddr a
  (decide (0x800000 ≤ a) || (decide (A.VAT_INSP_SEL ≤ a) && decide (a ≤ F.VAT_INSP_BLOCK_FRESH.addr))) && clocked a s

/-- What the last completed access gave. -/
def busShow (w : Word) (n : Nat) (s : State) : State := onBus s fun b => { b with lastRead := w, lastErr := n }

/-- A read completes. -/
def readNow (r : Requester) (a : Nat) (s : State) : State :=
  let (w, n, s) := busRead r a (acqSettle s)
  busShow w n s

/-- A write completes; the word of the last read stays. -/
def writeNow (r : Requester) (a : Nat) (d : Word) (s : State) : State :=
  let (n, s) := busWrite r a d (acqSettle s)
  busShow s.bus.lastRead n s

/-- A word of an MSPI transaction has completed with an error code. -/
def mspiNote (s : State) : State :=
  if s.bus.lastErr = 0 then s else onBus s fun b => { b with mspi := { b.mspi with err := true } }

/-- The bytes of a word, the most significant first (02 R51). -/
def busBytes (w : Word) : List Byte := [wbyte w 3, wbyte w 2, wbyte w 1, wbyte w 0]

/-- Bytes are driven on MSPI_MISO. -/
def misoPut (l : List Byte) (s : State) : State := onBus s fun b => { b with mspi := { b.mspi with miso := b.mspi.miso ++ l } }

/-- The first wait of a READ: its zero bytes, then the marker; at most 13 bytes, and 25 for a slow access (02 R51). -/
def waitPut (slow : Bool) (s : State) : State :=
  let n := min (s.bus.mspi.waits.headD 0) (if slow then 25 else 13)
  let s := misoPut (List.replicate n 0#8 ++ [0x5A#8]) s
  onBus s fun b => { b with mspi := { b.mspi with waits := b.mspi.waits.drop 1 } }

/-- One word of a READ completes. -/
def mspiWord (slow : Bool) (s : State) : State :=
  let s := mspiNote (readNow .mspi s.bus.mspi.addr s)
  let s := misoPut (busBytes s.bus.lastRead) (waitPut slow s)
  onBus s fun b => { b with mspi := { b.mspi with addr := b.mspi.addr + 4, left := b.mspi.left - 1 } }

/-- The words of a READ complete in order up to one that waits for memory; the status byte follows the last (02 R49, R51). -/
def mspiRun : Nat → State → State
  | 0, s => s
  | n + 1, s =>
    if s.bus.mspi.left = 0 then misoPut [BitVec.ofNat 8 (b2n s.bus.mspi.err)] s
    else if slowAddr s.bus.mspi.addr s then onBus s fun b => { b with slow := b.slow ++ [⟨.mspi, false, b.mspi.addr, 0#32⟩] }
    else mspiRun n (mspiWord false s)

/-- A requester's first slow access completes. -/
def slowDone (r : Requester) (s : State) : State :=
  match s.bus.slow.find? fun x => x.who = r with
  | none => s
  | some x =>
    let s := onBus s fun b => { b with slow := b.slow.erase x }
    if x.write then
      let s := writeNow r x.addr x.data s
      if r = .mspi then mspiNote s else s
    else if r = .mspi then mspiRun 257 (mspiWord true s)
    else readNow r x.addr s

/-- The first posted write of MSPI takes effect, or waits for memory; it stays while a slow access of MSPI waits. -/
def postedStep (s : State) : State :=
  match s.bus.posted with
  | [] => s
  | (a, d) :: rest =>
    if s.bus.slow.any fun x => x.who = .mspi then s
    else
      let s := onBus s fun b => { b with posted := rest }
      if slowAddr a s then onBus s fun b => { b with slow := b.slow ++ [⟨.mspi, true, a, d⟩] }
      else mspiNote (writeNow .mspi a d s)

/-- `n` steps of the accesses that a requester has issued. -/
def drainSteps (r : Requester) : Nat → State → State
  | 0, s => s
  | n + 1, s =>
    if s.bus.slow.any fun x => x.who = r then drainSteps r n (slowDone r s)
    else if r = .mspi ∧ !(s.bus.posted.isEmpty) then drainSteps r n (postedStep s)
    else s

/-- Every earlier access of a requester completes (02 R49). -/
def drain (r : Requester) (s : State) : State :=
  drainSteps r (2 * s.bus.posted.length + s.bus.slow.length + 257) s

/-- A requester reads a word, after its earlier accesses. -/
def access (t : Nat) (r : Requester) (a : Nat) (s : State) : State := readNow r a (drain r (at' t s))

/-- A requester writes a word, after its earlier accesses. -/
def accessW (t : Nat) (r : Requester) (a d : Nat) (s : State) : State := writeNow r a (word d) (drain r (at' t s))

end Sys2Proof.Machine
end

