-- ==== Sys2Proof/Machine/Named.lean ====
section
/-!
DEFINITION. The writes and reads of registers that have a row of their own. Each is one access of the register bus by a
requester; `d` is the whole word written, and a command bit that gives the row its name is set in it. An index that exceeds
the number of instances counts modulo that number.
-/

namespace Sys2Proof.Machine

/-- A word with bit `k` set. -/
def withBit (d k : Nat) : Nat := (word d ||| word (2 ^ k)).toNat

/-- A read, or a write of a word. -/
def accessEither (t : Nat) (r : Requester) (a : Nat) (d : Option Nat) (s : State) : State :=
  match d with
  | some d => accessW t r a d s
  | none => access t r a s

/-- PMON_SNAP: PMON.SNAP copies the monitors it selects (02 R61). -/
def execPmonSnap (t : Nat) (r : Requester) (d : Nat) (s : State) : Host.Outcome State Fault Refusal :=
  .next (accessW t r A.PMON_SNAP d s)

/-- PMON_START: PMON.START clears and runs the monitors it selects (02 R61). -/
def execPmonStart (t : Nat) (r : Requester) (d : Nat) (s : State) : Host.Outcome State Fault Refusal :=
  .next (accessW t r A.PMON_START d s)

/-- POOL_SPLIT_WRITE: a write of GLB.POOL_SPLIT (01 R24). -/
def execPoolSplitWrite (t : Nat) (r : Requester) (d : Nat) (s : State) : Host.Outcome State Fault Refusal :=
  .next (accessW t r F.GLB_POOL_SPLIT_DISPLAY.addr d s)

/-- SCAN_MODE_WRITE: a write of SCN.SCAN_MODE (01 R31). -/
def execScanModeWrite (t : Nat) (r : Requester) (d : Nat) (s : State) : Host.Outcome State Fault Refusal :=
  .next (accessW t r A.SCN_SCAN_MODE d s)

/-- REF_SEL_WRITE: a write of CLK.REF_SEL (03 R63). -/
def execRefSelWrite (t : Nat) (r : Requester) (d : Nat) (s : State) : Host.Outcome State Fault Refusal :=
  .next (accessW t r F.CLK_REF_SEL_FREQ.addr d s)

/-- ST_CTRL_WRITE: a write of ST_CTRL of start channel `m` (03 R87). -/
def execStCtrlWrite (t : Nat) (r : Requester) (m d : Nat) (s : State) : Host.Outcome State Fault Refusal :=
  .next (accessW t r (A.ST_CTRL (m % 8)) d s)

/-- CH_THRESH_WRITE: a write of CH_THRESH of channel `c` (03 R74, R75). -/
def execChThreshWrite (t : Nat) (r : Requester) (c d : Nat) (s : State) : Host.Outcome State Fault Refusal :=
  .next (accessW t r (0x100000 + 0x100 * (c % 512) + 4) d s)

/-- FCT_SNAP: a write of FCT.SNAP (03 R91). -/
def execFctSnap (t : Nat) (r : Requester) (d : Nat) (s : State) : Host.Outcome State Fault Refusal :=
  .next (accessW t r A.FCT_SNAP d s)

/-- FCT_START: a write of FCT.START (03 R91). -/
def execFctStart (t : Nat) (r : Requester) (d : Nat) (s : State) : Host.Outcome State Fault Refusal :=
  .next (accessW t r A.FCT_START d s)

/-- COL_DATA_ACCESS: an access of ESC.COL_DATA (04 R106). -/
def execColDataAccess (t : Nat) (r : Requester) (d : Option Nat) (s : State) : Host.Outcome State Fault Refusal :=
  .next (accessEither t r A.ESC_COL_DATA d s)

/-- ESC_ENABLE_WRITE: a write of ESC.CTRL (04 R116). -/
def execEscEnableWrite (t : Nat) (r : Requester) (d : Nat) (s : State) : Host.Outcome State Fault Refusal :=
  .next (accessW t r F.ESC_CTRL_ENABLE.addr d s)

/-- TOUT_ARM: a write of TOUT_SEC_HI of output `i` (04 R117). -/
def execToutArm (t : Nat) (r : Requester) (i d : Nat) (s : State) : Host.Outcome State Fault Refusal :=
  .next (accessW t r (A.TOUT_SEC_HI (i % 4)) d s)

/-- NTT_ARM: a write of NTT_CTRL.ARM of trigger `i` (04 R118). -/
def execNttArm (t : Nat) (r : Requester) (i d : Nat) (s : State) : Host.Outcome State Fault Refusal :=
  .next (accessW t r (F.NTT_CTRL_ARM (i % 4)).addr (withBit d 31) s)

/-- INSP_SEL_WRITE: a write of VAT.INSP_SEL (05 R146). -/
def execInspSelWrite (t : Nat) (r : Requester) (d : Nat) (s : State) : Host.Outcome State Fault Refusal :=
  .next (accessW t r A.VAT_INSP_SEL d s)

/-- INSP_BIN_DATA_READ: a read of VAT.INSP_BIN_DATA (05 R146). -/
def execInspBinDataRead (t : Nat) (r : Requester) (s : State) : Host.Outcome State Fault Refusal :=
  .next (access t r A.VAT_INSP_BIN_DATA s)

/-- INSP_BIN_DATA_WRITE: a write of VAT.INSP_BIN_DATA (05 R147). -/
def execInspBinDataWrite (t : Nat) (r : Requester) (d : Nat) (s : State) : Host.Outcome State Fault Refusal :=
  .next (accessW t r A.VAT_INSP_BIN_DATA d s)

/-- ACQ_ENABLE_WRITE: a write of ACQ.CTRL (07 R183). -/
def execAcqEnableWrite (t : Nat) (r : Requester) (d : Nat) (s : State) : Host.Outcome State Fault Refusal :=
  .next (accessW t r A.ACQ_CTRL d s)

/-- HOST_TRIG: a write of ACQ.CTRL.HOST_TRIG (07 R193). -/
def execHostTrig (t : Nat) (r : Requester) (d : Nat) (s : State) : Host.Outcome State Fault Refusal :=
  .next (accessW t r A.ACQ_CTRL (withBit d 2) s)

/-- REARM: a write of ACQ.CTRL.REARM (07 R206). -/
def execRearm (t : Nat) (r : Requester) (d : Nat) (s : State) : Host.Outcome State Fault Refusal :=
  .next (accessW t r A.ACQ_CTRL (withBit d 3) s)

/-- QUEUE_CFG_WRITE: a write of Q_CFG, or of Q_ROUTE, of queue `k` (08 R211, R227). -/
def execQueueCfgWrite (t : Nat) (r : Requester) (k : Nat) (route : Bool) (d : Nat) (s : State) : Host.Outcome State Fault Refusal :=
  .next (accessW t r (0x200000 + 0x20 * (k % 16384) + (if route then 4 else 0)) d s)

/-- RESUME: a write of PJ_CTRL.RESUME of engine `e` (08 R224). -/
def execResume (t : Nat) (r : Requester) (e : Nat) (s : State) : Host.Outcome State Fault Refusal :=
  .next (accessW t r (F.PJ_CTRL_RESUME (e % 32)).addr 1 s)

/-- BUNDLE_ENABLE_WRITE: a write of B.CTRL of bundle `b` (09 R240). -/
def execBundleEnableWrite (t : Nat) (r : Requester) (b d : Nat) (s : State) : Host.Outcome State Fault Refusal :=
  .next (accessW t r (F.B_CTRL_ENABLE (b % 32)).addr d s)

/-- RETRAIN: a write of B.CTRL.RETRAIN of bundle `b` (09 R265). -/
def execRetrain (t : Nat) (r : Requester) (b d : Nat) (s : State) : Host.Outcome State Fault Refusal :=
  .next (accessW t r (F.B_CTRL_ENABLE (b % 32)).addr (withBit d 2) s)

/-- LN_CTRL_RETRY: a write of LN_CTRL.RETRY of lane `l` (09 R257). -/
def execLnCtrlRetry (t : Nat) (r : Requester) (l d : Nat) (s : State) : Host.Outcome State Fault Refusal :=
  .next (accessW t r (F.LN_CTRL_LOOP (l % 144)).addr (withBit d 31) s)

/-- LANE_EN_WRITE: a write of B_LANES of bundle `b` (09 R258). -/
def execLaneEnWrite (t : Nat) (r : Requester) (b d : Nat) (s : State) : Host.Outcome State Fault Refusal :=
  .next (accessW t r (F.B_LANES_FIRST (b % 32)).addr d s)

/-- POWER_REQ_WRITE: a write of B.CTRL.POWER_REQ of bundle `b` (09 R261). -/
def execPowerReqWrite (t : Nat) (r : Requester) (b d : Nat) (s : State) : Host.Outcome State Fault Refusal :=
  .next (accessW t r (F.B_CTRL_ENABLE (b % 32)).addr d s)

/-- LG_RATE_WRITE: a write of WNB.LG_RATE (09 R232). -/
def execLgRateWrite (t : Nat) (r : Requester) (d : Nat) (s : State) : Host.Outcome State Fault Refusal :=
  .next (accessW t r F.WNB_LG_RATE_G0.addr d s)

/-- MODE_REQ_WRITE: a write of MOT.MODE_REQ (10 R286). -/
def execModeReqWrite (t : Nat) (r : Requester) (d : Nat) (s : State) : Host.Outcome State Fault Refusal :=
  .next (accessW t r F.MOT_MODE_REQ.addr d s)

/-- FAULT_LATCH_CLEAR: a write of GAL.FAULT_LATCH, or of MOT.FAULT_LATCH (10 R299). -/
def execFaultLatchClear (t : Nat) (r : Requester) (gal : Bool) (d : Nat) (s : State) : Host.Outcome State Fault Refusal :=
  .next (accessW t r (if gal then A.GAL_FAULT_LATCH else A.MOT_FAULT_LATCH) d s)

/-- GAL_TBL_DATA_ACCESS: an access of GAL.TBL_DATA (10 R295). -/
def execGalTblDataAccess (t : Nat) (r : Requester) (d : Option Nat) (s : State) : Host.Outcome State Fault Refusal :=
  .next (accessEither t r A.GAL_TBL_DATA d s)

/-- SDF_CFG_WRITE: a write of SDF.CFG (11 R306). -/
def execSdfCfgWrite (t : Nat) (r : Requester) (d : Nat) (s : State) : Host.Outcome State Fault Refusal :=
  .next (accessW t r F.SDF_CFG_CLK_SEL.addr d s)

/-- CFG_CLOSE: a write of SAF.CFG_CTRL.CLOSE (12 R340). -/
def execCfgClose (t : Nat) (r : Requester) (s : State) : Host.Outcome State Fault Refusal :=
  .next (accessW t r A.SAF_CFG_CTRL 1 s)

/-- MB_RX_DATA_READ: a read of ETH.MB_RX_DATA (13 R350). -/
def execMbRxDataRead (t : Nat) (r : Requester) (s : State) : Host.Outcome State Fault Refusal :=
  .next (access t r A.ETH_MB_RX_DATA s)

/-- MB_TX_DATA_WRITE: a write of ETH.MB_TX_DATA (13 R350). -/
def execMbTxDataWrite (t : Nat) (r : Requester) (d : Nat) (s : State) : Host.Outcome State Fault Refusal :=
  .next (accessW t r A.ETH_MB_TX_DATA d s)

/-- SEND: a write of ETH.MB_TX_CTRL.SEND (13 R350). -/
def execSend (t : Nat) (r : Requester) (s : State) : Host.Outcome State Fault Refusal :=
  .next (accessW t r A.ETH_MB_TX_CTRL (2 ^ 31) s)

/-- ABORT: a write of ETH.MB_TX_CTRL.ABORT (13 R350). -/
def execAbort (t : Nat) (r : Requester) (s : State) : Host.Outcome State Fault Refusal :=
  .next (accessW t r A.ETH_MB_TX_CTRL (2 ^ 30) s)

/-- INCR_NS_WRITE: a write of NTM.INCR_NS (13 R352). -/
def execIncrNsWrite (t : Nat) (r : Requester) (d : Nat) (s : State) : Host.Outcome State Fault Refusal :=
  .next (accessW t r A.NTM_INCR_NS d s)

/-- STEP_SEC_HI_WRITE: a write of NTM.STEP_SEC_HI (13 R353). -/
def execStepSecHiWrite (t : Nat) (r : Requester) (d : Nat) (s : State) : Host.Outcome State Fault Refusal :=
  .next (accessW t r A.NTM_STEP_SEC_HI d s)

/-- CLEAR_COAST: a write of NTM.CTRL.CLEAR_COAST (13 R355). -/
def execClearCoast (t : Nat) (r : Requester) (d : Nat) (s : State) : Host.Outcome State Fault Refusal :=
  .next (accessW t r A.NTM_CTRL (withBit d 2) s)

/-- NOW_NS_READ: a read of NTM.NOW_NS (13 R355). -/
def execNowNsRead (t : Nat) (r : Requester) (s : State) : Host.Outcome State Fault Refusal :=
  .next (access t r A.NTM_NOW_NS s)

/-- PPSIN_NS_READ: a read of NTM.PPSIN_NS (13 R362). -/
def execPpsinNsRead (t : Nat) (r : Requester) (s : State) : Host.Outcome State Fault Refusal :=
  .next (access t r F.NTM_PPSIN_NS_NS.addr s)

/-- PLN_ENABLE_WRITE: a write of PLN.CTRL (14 R377). -/
def execPlnEnableWrite (t : Nat) (r : Requester) (d : Nat) (s : State) : Host.Outcome State Fault Refusal :=
  .next (accessW t r F.PLN_CTRL_ENABLE.addr d s)

/-- PEER_SEL_WRITE: a write of PLN.PEER_SEL (14 R382). -/
def execPeerSelWrite (t : Nat) (r : Requester) (d : Nat) (s : State) : Host.Outcome State Fault Refusal :=
  .next (accessW t r F.PLN_PEER_SEL.addr d s)

/-- VID_TBL_DATA_ACCESS: an access of VID.TBL_DATA (15 R397). -/
def execVidTblDataAccess (t : Nat) (r : Requester) (d : Option Nat) (s : State) : Host.Outcome State Fault Refusal :=
  .next (accessEither t r A.VID_TBL_DATA d s)

/-- ROUND_TRIG: a write of HKA.CTRL.ROUND_TRIG (16 R413). -/
def execRoundTrig (t : Nat) (r : Requester) (d : Nat) (s : State) : Host.Outcome State Fault Refusal :=
  .next (accessW t r F.HKA_CTRL_ENABLE.addr (withBit d 2) s)

/-- URGENT: a write of HKA.URGENT.REQ (16 R416). -/
def execUrgent (t : Nat) (r : Requester) (d : Nat) (s : State) : Host.Outcome State Fault Refusal :=
  .next (accessW t r F.HKA_URGENT_REQ.addr (withBit d 31) s)

/-- LIN_LOAD: a write of HKA.LIN_LOAD0, or of LIN_LOAD1 (16 R420). -/
def execLinLoad (t : Nat) (r : Requester) (high : Bool) (d : Nat) (s : State) : Host.Outcome State Fault Refusal :=
  .next (accessW t r (if high then A.HKA_LIN_LOAD1 else A.HKA_LIN_LOAD0) d s)

/-- TRIP_LATCH_CLEAR: a write of THM.TRIP_LATCH (16 R429). -/
def execTripLatchClear (t : Nat) (r : Requester) (d : Nat) (s : State) : Host.Outcome State Fault Refusal :=
  .next (accessW t r A.THM_TRIP_LATCH d s)

/-- CAL_JOB_START: a write of CAL.CTRL.START (17 R439). -/
def execCalJobStart (t : Nat) (r : Requester) (d : Nat) (s : State) : Host.Outcome State Fault Refusal :=
  .next (accessW t r F.CAL_CTRL_START.addr (withBit d 3) s)

/-- CAL_JOB_ABORT: a write of CAL.CTRL.ABORT (17 R440). -/
def execCalJobAbort (t : Nat) (r : Requester) (d : Nat) (s : State) : Host.Outcome State Fault Refusal :=
  .next (accessW t r F.CAL_CTRL_START.addr (withBit d 4) s)

/-- RECOMPUTE: a write of CAL.CTRL.RECOMPUTE (17 R447). -/
def execRecompute (t : Nat) (r : Requester) (d : Nat) (s : State) : Host.Outcome State Fault Refusal :=
  .next (accessW t r F.CAL_CTRL_START.addr (withBit d 2) s)

/-- ENG_START: a write of ENG_START of pattern engine `e` (18 R456). -/
def execEngStart (t : Nat) (r : Requester) (e : Nat) (s : State) : Host.Outcome State Fault Refusal :=
  .next (accessW t r (0xE0400 + 0x100 * (e % 4) + 8) 1 s)

/-- PAIR_ENABLE_WRITE: a write of PAIR.CTRL (19 R473). -/
def execPairEnableWrite (t : Nat) (r : Requester) (d : Nat) (s : State) : Host.Outcome State Fault Refusal :=
  .next (accessW t r F.PAIR_CTRL_ENABLE.addr d s)

/-- SWITCH: a write of PAIR.SWITCH (19 R485). -/
def execSwitch (t : Nat) (r : Requester) (s : State) : Host.Outcome State Fault Refusal :=
  .next (accessW t r A.PAIR_SWITCH 1 s)

/-- GLB_SOFT_RESET: a write of GLB.CTRL.SOFT_RESET (20 R490). -/
def execGlbSoftReset (t : Nat) (r : Requester) (s : State) : Host.Outcome State Fault Refusal :=
  .next (accessW t r 0x000008 2 s)

/-- STATE_REQ_WRITE: a write of PWR.STATE_REQ (20 R495). -/
def execStateReqWrite (t : Nat) (r : Requester) (d : Nat) (s : State) : Host.Outcome State Fault Refusal :=
  .next (accessW t r F.PWR_STATE_REQ_STATE.addr d s)

/-- CLK_REQ_WRITE: a write of PWR.CLK_REQ (20 R501). -/
def execClkReqWrite (t : Nat) (r : Requester) (d : Nat) (s : State) : Host.Outcome State Fault Refusal :=
  .next (accessW t r F.PWR_CLK_REQ_VID.addr d s)

/-- LC_KEY_WRITE: a write of PWR.LC_KEY (20 R506). -/
def execLcKeyWrite (t : Nat) (r : Requester) (d : Nat) (s : State) : Host.Outcome State Fault Refusal :=
  .next (accessW t r A.PWR_LC_KEY d s)

/-- LC_REQ_WRITE: a write of PWR.LC_REQ (20 R506). -/
def execLcReqWrite (t : Nat) (r : Requester) (d : Nat) (s : State) : Host.Outcome State Fault Refusal :=
  .next (accessW t r A.PWR_LC_REQ d s)

end Sys2Proof.Machine
end

