-- ==== Sys2Proof/Machine/Path.lean ====
section
/-!
DEFINITION. The commands of the register bus that name no register of their own: MSPI (02 R51), in-band access (02 R52;
09 R259), the header registers of every page (02 R39 to R58), commits, and the holdoff of EVENT frames (02 R57).
-/

namespace Sys2Proof.Machine

/-! ## Header registers -/

/-- REGISTER_WRITE: a requester writes a word at an address (02 R41). -/
def execRegisterWrite (t : Nat) (r : Requester) (a d : Nat) (s : State) : Host.Outcome State Fault Refusal :=
  .next (accessW t r a d s)

/-- ERR_CODE_CLEAR: CLEAR of the ERR_CODE of the page at `p` (02 R40). -/
def execErrCodeClear (t : Nat) (r : Requester) (p : Nat) (s : State) : Host.Outcome State Fault Refusal :=
  .next (accessW t r (p + 0x28) (2 ^ 31) s)

/-- EVT_RAW_CLEAR: a write of EVT_RAW of the page at `p` (02 R53). -/
def execEvtRawClear (t : Nat) (r : Requester) (p d : Nat) (s : State) : Host.Outcome State Fault Refusal :=
  .next (accessW t r (p + 0x10) d s)

/-- EVT_FORCE: a write of EVT_FORCE of the page at `p` (02 R53). -/
def execEvtForce (t : Nat) (r : Requester) (p d : Nat) (s : State) : Host.Outcome State Fault Refusal :=
  .next (accessW t r (p + 0x1C) d s)

/-- EVENT_COUNTER_CLEAR: 0xFFFF_FFFF is written to the event counter at an address (02 R58). -/
def execEventCounterClear (t : Nat) (r : Requester) (a : Nat) (s : State) : Host.Outcome State Fault Refusal :=
  .next (accessW t r a 0xFFFFFFFF s)

/-- SOFT_RESET: 1 is written to CTRL.SOFT_RESET of the page at `p` (02 R39). -/
def execSoftReset (t : Nat) (r : Requester) (p : Nat) (s : State) : Host.Outcome State Fault Refusal :=
  .next (accessW t r (p + 8) 2 s)

/-- SOFT_RESET_COMPLETE: the soft reset of the page at `p` completes (02 R39; 04 R120). -/
def execSoftResetComplete (t p : Nat) (s : State) : Host.Outcome State Fault Refusal :=
  let s := at' t s
  .next (if !s.held ∧ hasHeader p then softComplete p s else s)

/-- COMMIT: COMMIT is written with a commit point at the page at `p` (02 R43). -/
def execCommit (t : Nat) (r : Requester) (p : Nat) (q : Point) (s : State) : Host.Outcome State Fault Refusal :=
  .next (accessW t r (p + 0x20) (2 * q.code + 1) s)

/-- COMMIT_APPLY: the commits apply that are due at an occurrence of a commit point (02 R42 to R45; 01 R28, R29). -/
def execCommitApply (t : Nat) (q : Point) (s : State) : Host.Outcome State Fault Refusal :=
  let s := at' t s
  .next (if awake s then commitApply q s else s)

/-- LOCK_KEY_WRITE: a write of LOCK of the page at `p` (02 R48). -/
def execLockKeyWrite (t : Nat) (r : Requester) (p d : Nat) (s : State) : Host.Outcome State Fault Refusal :=
  .next (accessW t r (p + 0x2C) d s)

/-- WIDE_VALUE_LOW_READ: a read of the lowest word of a wide value (02 R50). -/
def execWideValueLowRead (t : Nat) (r : Requester) (a : Nat) (s : State) : Host.Outcome State Fault Refusal :=
  .next (access t r a s)

/-- SLOW_ACCESS_COMPLETE: the first access of a requester that waits for memory completes (02 R49). -/
def execSlowAccessComplete (t : Nat) (r : Requester) (s : State) : Host.Outcome State Fault Refusal :=
  .next (slowDone r (at' t s))

/-! ## MSPI (02 R51) -/

/-- The words of a WRITE transaction are posted, at addresses that advance by 4. -/
def mspiPost (a : Nat) (words : List Nat) (s : State) : State :=
  let l := (words.take 256).zipIdx.map fun w => ((a + 4 * w.2) % 2 ^ 24, word w.1)
  onBus s fun b => { b with posted := b.posted ++ l }

/-- An MSPI transaction begins. -/
def mspiBegin (m : Mspi) (s : State) : State := onBus s fun b => { b with mspi := m }

/-- WRITE: an MSPI WRITE transaction posts words; `done` of them have completed when the status byte begins. -/
def execWrite (t a : Nat) (words : List Nat) (done : Nat) (s : State) : Host.Outcome State Fault Refusal :=
  let s := at' t s
  .next (if s.held then s
    else
      let n := min 256 words.length
      let k := min done n
      let s := if k = 0 then s else drain .mspi s
      let s := mspiBegin ⟨false, (a + 4 * n) % 2 ^ 24, 0, n - k, false, [], []⟩ s
      let s := if k = 0 then s else drain .mspi (mspiPost a (words.take k) s)
      let s := mspiPost (a + 4 * k) (words.take n |>.drop k) s
      misoPut [BitVec.ofNat 8 (b2n s.bus.mspi.err + 2 * b2n (decide (k < n)))] s)

/-- READ: an MSPI READ transaction of `n` words; `waits` gives the wait bytes before each word. -/
def execRead (t a n : Nat) (waits : List Nat) (s : State) : Host.Outcome State Fault Refusal :=
  let s := at' t s
  .next (if s.held then s
    else mspiRun 257 (mspiBegin ⟨true, a % 2 ^ 24, min 256 n, 0, false, waits, []⟩ (drain .mspi s)))

/-- MSPI_WRITE_COMPLETE: the first posted write takes effect on the register bus. -/
def execMspiWriteComplete (t : Nat) (s : State) : Host.Outcome State Fault Refusal := .next (postedStep (at' t s))

/-- MSPI_CS_EARLY_RISE: MSPI_CS_N rises early. In a WRITE the words transferred until then are posted, without a status byte;
in a READ the words still to come are abandoned. -/
def execMspiCsEarlyRise (t a : Nat) (words : List Nat) (s : State) : Host.Outcome State Fault Refusal :=
  let s := at' t s
  .next (if s.held then s
    else
      let s := onBus s fun b => { b with
        mspi := { b.mspi with left := 0, waits := [] }
        slow := b.slow.filter fun x => x.write || x.who ≠ .mspi }
      mspiPost a words s)

/-! ## In-band access (02 R52; 09 R259) -/

/-- A REG_CPL frame: TAG and ADDRESS, then WRITE, ERR, ERR_INDEX and COUNT_M1, then data. -/
def regCpl (b : Nat) (w0 : Word) (wr' : Bool) (err i m1 : Nat) (data : List Word) (s : State) : State :=
  let w1 := word (b2n wr' * 2 ^ 31 + err * 2 ^ 16 + i * 2 ^ 8 + m1)
  if bundleUp s b then queueFrame s b ⟨4, 0, 0, 8 + 4 * data.length, w0 :: w1 :: data⟩ else s

/-- The writes of a REG_WR: the first error code and the word that recorded it. -/
def regWrites (r : Requester) (a i : Nat) (err : Option (Nat × Nat)) (l : List Nat) (s : State) : Option (Nat × Nat) × State :=
  match l with
  | [] => (err, s)
  | d :: l =>
    let s := writeNow r (a + 4 * i) (word d) s
    regWrites r a (i + 1) (if err.isNone ∧ s.bus.lastErr ≠ 0 then some (s.bus.lastErr, i) else err) l s

/-- The reads of a REG_RD: the words, the first error code and the word that recorded it. -/
def regReads (r : Requester) (a i : Nat) (err : Option (Nat × Nat)) (out : List Word) (n : Nat) (s : State) :
    List Word × Option (Nat × Nat) × State :=
  match n with
  | 0 => (out, err, s)
  | n + 1 =>
    let s := readNow r (a + 4 * i) s
    let bad := decide (s.bus.lastErr ≠ 0)
    regReads r a (i + 1) (if err.isNone ∧ bad then some (s.bus.lastErr, i) else err)
      (out ++ [if bad then 0#32 else s.bus.lastRead]) n s

/-- REG_WR: a REG_WR frame of this LENGTH and these payload words has been received on a bundle. -/
def execRegWr (t b len : Nat) (body : List Nat) (s : State) : Host.Outcome State Fault Refusal :=
  let s := at' t s
  let w0 := word (body.getD 0 0)
  let w1 := word (body.getD 1 0)
  let m1 := fld w1 0 8
  .next (if !(sysOn s) ∨ 32 ≤ b ∨ !(bundleUp s b) then s
    else if len ≠ 8 + 4 * (m1 + 1) ∨ body.length ≠ m1 + 3 then regCpl b w0 true 0x03 0 m1 [] s
    else
      let (err, s) := regWrites (.bundle b) (fld w0 0 24) 0 none (body.drop 2) (drain (.bundle b) s)
      lateReset b (match err with
        | some (e, i) => regCpl b w0 true e i m1 [] s
        | none => if bit w1 31 then regCpl b w0 true 0 0 m1 [] s else s))

/-- REG_RD: a REG_RD frame of this LENGTH and these payload words has been received on a bundle. -/
def execRegRd (t b len : Nat) (body : List Nat) (s : State) : Host.Outcome State Fault Refusal :=
  let s := at' t s
  let w0 := word (body.getD 0 0)
  let m1 := fld (word (body.getD 1 0)) 0 8
  .next (if !(sysOn s) ∨ 32 ≤ b ∨ !(bundleUp s b) then s
    else if len ≠ 8 ∨ body.length ≠ 2 then regCpl b w0 false 0x03 0 m1 (List.replicate (m1 + 1) 0#32) s
    else
      let (l, err, s) := regReads (.bundle b) (fld w0 0 24) 0 none [] (m1 + 1) (drain (.bundle b) s)
      let (e, i) := err.getD (0, 0)
      regCpl b w0 false e i m1 l s)

/-- EVF_HOLDOFF_END: the holdoff of EVENT frames ends, and a frame that is owed is sent (02 R57). -/
def execEvfHoldoffEnd (t : Nat) (s : State) : Host.Outcome State Fault Refusal :=
  let s := at' t s
  .next (if s.irq.holding ∧ s.irq.endAt ≤ t then
      let owed := s.irq.owed
      let s := { s with irq := ⟨false, 0, false⟩ }
      if owed ∧ flag s F.IRQ_EVF_CFG_ENABLE then sendEvent s else s
    else s)

end Sys2Proof.Machine
end

