-- ==== Sys2Proof/Machine/Dispatch.lean ====
section
/-!
DEFINITION. One arm per command: a direct call of its meaning.
-/

namespace Sys2Proof.Machine

/-- What a command does to everything but the queue of waiting commands. -/
def exec (i : Instr) (s : State) : Host.Outcome State Fault Refusal :=
  match i with
  | .registerWrite t r a d => Sys2Proof.Machine.execRegisterWrite t r a d s
  | .errCodeClear t r p => Sys2Proof.Machine.execErrCodeClear t r p s
  | .evtRawClear t r p d => Sys2Proof.Machine.execEvtRawClear t r p d s
  | .evtForce t r p d => Sys2Proof.Machine.execEvtForce t r p d s
  | .eventCounterClear t r a => Sys2Proof.Machine.execEventCounterClear t r a s
  | .softReset t r p => Sys2Proof.Machine.execSoftReset t r p s
  | .softResetComplete t p => Sys2Proof.Machine.execSoftResetComplete t p s
  | .commit t r p q => Sys2Proof.Machine.execCommit t r p q s
  | .commitApply t q => Sys2Proof.Machine.execCommitApply t q s
  | .lockKeyWrite t r p d => Sys2Proof.Machine.execLockKeyWrite t r p d s
  | .wideValueLowRead t r a => Sys2Proof.Machine.execWideValueLowRead t r a s
  | .slowAccessComplete t r => Sys2Proof.Machine.execSlowAccessComplete t r s
  | .write t a words done => Sys2Proof.Machine.execWrite t a words done s
  | .read t a n waits => Sys2Proof.Machine.execRead t a n waits s
  | .mspiWriteComplete t => Sys2Proof.Machine.execMspiWriteComplete t s
  | .mspiCsEarlyRise t a words => Sys2Proof.Machine.execMspiCsEarlyRise t a words s
  | .evfHoldoffEnd t => Sys2Proof.Machine.execEvfHoldoffEnd t s
  | .pmonSnap t r d => Sys2Proof.Machine.execPmonSnap t r d s
  | .pmonStart t r d => Sys2Proof.Machine.execPmonStart t r d s
  | .monWindowEnd t m => Sys2Proof.Machine.execMonWindowEnd t m s
  | .poolSplitWrite t r d => Sys2Proof.Machine.execPoolSplitWrite t r d s
  | .poolZeroed t => Sys2Proof.Machine.execPoolZeroed t s
  | .scanModeWrite t r d => Sys2Proof.Machine.execScanModeWrite t r d s
  | .ocxoWarmChange t level => Sys2Proof.Machine.execOcxoWarmChange t level s
  | .refLost t => Sys2Proof.Machine.execRefLost t s
  | .holdoverLimit t => Sys2Proof.Machine.execHoldoverLimit t s
  | .refPresent t => Sys2Proof.Machine.execRefPresent t s
  | .tdcPllLock t q => Sys2Proof.Machine.execTdcPllLock t q s
  | .pllRelock t q => Sys2Proof.Machine.execPllRelock t q s
  | .pllUnlock t q => Sys2Proof.Machine.execPllUnlock t q s
  | .refSelWrite t r d => Sys2Proof.Machine.execRefSelWrite t r d s
  | .hitLeadingEdge t c => Sys2Proof.Machine.execHitLeadingEdge t c s
  | .hitTrailingEdge t c high => Sys2Proof.Machine.execHitTrailingEdge t c high s
  | .hitWidthLimit t c high => Sys2Proof.Machine.execHitWidthLimit t c high s
  | .hitFifoEntry t c => Sys2Proof.Machine.execHitFifoEntry t c s
  | .hitDrain t bank => Sys2Proof.Machine.execHitDrain t bank s
  | .hitTimeFormed t c => Sys2Proof.Machine.execHitTimeFormed t c s
  | .startEdge t m => Sys2Proof.Machine.execStartEdge t m s
  | .startWindowClose t m => Sys2Proof.Machine.execStartWindowClose t m s
  | .stCtrlWrite t r m d => Sys2Proof.Machine.execStCtrlWrite t r m d s
  | .startSettleEnd t m => Sys2Proof.Machine.execStartSettleEnd t m s
  | .chThreshWrite t r c d => Sys2Proof.Machine.execChThreshWrite t r c d s
  | .settlingEnd t c => Sys2Proof.Machine.execSettlingEnd t c s
  | .fctSnap t r d => Sys2Proof.Machine.execFctSnap t r d s
  | .fctStart t r d => Sys2Proof.Machine.execFctStart t r d s
  | .fcGateOpen t k => Sys2Proof.Machine.execFcGateOpen t k s
  | .fcGateClose t k n => Sys2Proof.Machine.execFcGateClose t k n s
  | .noSignal t k => Sys2Proof.Machine.execNoSignal t k s
  | .idxRisingEdge t => Sys2Proof.Machine.execIdxRisingEdge t s
  | .idxFallingEdge t => Sys2Proof.Machine.execIdxFallingEdge t s
  | .shotStart t g => Sys2Proof.Machine.execShotStart t g s
  | .ltrigEdge t g => Sys2Proof.Machine.execLtrigEdge t g s
  | .captureGateOpen t g dark => Sys2Proof.Machine.execCaptureGateOpen t g dark s
  | .captureGateClose t g dark => Sys2Proof.Machine.execCaptureGateClose t g dark s
  | .colDataAccess t r d => Sys2Proof.Machine.execColDataAccess t r d s
  | .escEnableWrite t r d => Sys2Proof.Machine.execEscEnableWrite t r d s
  | .toutArm t r idx d => Sys2Proof.Machine.execToutArm t r idx d s
  | .toutPulse t idx => Sys2Proof.Machine.execToutPulse t idx s
  | .toutPulseEnd t idx => Sys2Proof.Machine.execToutPulseEnd t idx s
  | .nttArm t r idx d => Sys2Proof.Machine.execNttArm t r idx d s
  | .nttFired t idx => Sys2Proof.Machine.execNttFired t idx s
  | .columnStartMarker t c => Sys2Proof.Machine.execColumnStartMarker t c s
  | .shotMarker t c => Sys2Proof.Machine.execShotMarker t c s
  | .hitAccumulate t c => Sys2Proof.Machine.execHitAccumulate t c s
  | .boundaryMarker t c => Sys2Proof.Machine.execBoundaryMarker t c s
  | .zoomOpen t c => Sys2Proof.Machine.execZoomOpen t c s
  | .pixelEndMarker t c => Sys2Proof.Machine.execPixelEndMarker t c s
  | .contextClose t n => Sys2Proof.Machine.execContextClose t n s
  | .contextReadoutComplete t n => Sys2Proof.Machine.execContextReadoutComplete t n s
  | .inspSelWrite t r d => Sys2Proof.Machine.execInspSelWrite t r d s
  | .inspBinDataRead t r => Sys2Proof.Machine.execInspBinDataRead t r s
  | .inspBinDataWrite t r d => Sys2Proof.Machine.execInspBinDataWrite t r d s
  | .rennetJudge t c => Sys2Proof.Machine.execRennetJudge t c s
  | .tempStale t => Sys2Proof.Machine.execTempStale t s
  | .frameBoundary t partner => Sys2Proof.Machine.execFrameBoundary t partner s
  | .genlockEdge t falling => Sys2Proof.Machine.execGenlockEdge t falling s
  | .genlockLost t => Sys2Proof.Machine.execGenlockLost t s
  | .acqEnableWrite t r d => Sys2Proof.Machine.execAcqEnableWrite t r d s
  | .triggerInputEdge t line falling => Sys2Proof.Machine.execTriggerInputEdge t line falling s
  | .hostTrig t r d => Sys2Proof.Machine.execHostTrig t r d s
  | .autoTrigger t => Sys2Proof.Machine.execAutoTrigger t s
  | .triggerResolve t => Sys2Proof.Machine.execTriggerResolve t s
  | .retentionFillReady t => Sys2Proof.Machine.execRetentionFillReady t s
  | .retentionPostEnd t => Sys2Proof.Machine.execRetentionPostEnd t s
  | .retentionHoldoffEnd t => Sys2Proof.Machine.execRetentionHoldoffEnd t s
  | .seqDone t => Sys2Proof.Machine.execSeqDone t s
  | .rearm t r d => Sys2Proof.Machine.execRearm t r d s
  | .recordEnqueue t st => Sys2Proof.Machine.execRecordEnqueue t st s
  | .queueCfgWrite t r k route d => Sys2Proof.Machine.execQueueCfgWrite t r k route d s
  | .queueCfgApplyIdle t k => Sys2Proof.Machine.execQueueCfgApplyIdle t k s
  | .segmentSend t b => Sys2Proof.Machine.execSegmentSend t b s
  | .pressJobStart t e => Sys2Proof.Machine.execPressJobStart t e s
  | .pressPrimeDone t e => Sys2Proof.Machine.execPressPrimeDone t e s
  | .pressBlockEnd t k bytes => Sys2Proof.Machine.execPressBlockEnd t k bytes s
  | .resumed t e => Sys2Proof.Machine.execResumed t e s
  | .resume t r e => Sys2Proof.Machine.execResume t r e s
  | .bundleEnableWrite t r b d => Sys2Proof.Machine.execBundleEnableWrite t r b d s
  | .laneBitLock t l => Sys2Proof.Machine.execLaneBitLock t l s
  | .tsSetReceived t l x => Sys2Proof.Machine.execTsSetReceived t l x s
  | .trainStepComplete t b seen => Sys2Proof.Machine.execTrainStepComplete t b seen s
  | .trainStepTimeout t b seen => Sys2Proof.Machine.execTrainStepTimeout t b seen s
  | .trainFailRestart t b => Sys2Proof.Machine.execTrainFailRestart t b s
  | .ack t b seq => Sys2Proof.Machine.execAck t b seq s
  | .nak t b seq => Sys2Proof.Machine.execNak t b seq s
  | .credit t b vc limit => Sys2Proof.Machine.execCredit t b vc limit s
  | .laneOffer t b mask => Sys2Proof.Machine.execLaneOffer t b mask s
  | .laneTx t b mask => Sys2Proof.Machine.execLaneTx t b mask s
  | .power t b ack st => Sys2Proof.Machine.execPower t b ack st s
  | .frameReceived t b hdr body line => Sys2Proof.Machine.execFrameReceived t b hdr body line s
  | .regWr t b len body => Sys2Proof.Machine.execRegWr t b len body s
  | .regRd t b len body => Sys2Proof.Machine.execRegRd t b len body s
  | .frameTransmit t b => Sys2Proof.Machine.execFrameTransmit t b s
  | .ackIntExpire t b => Sys2Proof.Machine.execAckIntExpire t b s
  | .creditIntExpire t b => Sys2Proof.Machine.execCreditIntExpire t b s
  | .replayTimeout t b => Sys2Proof.Machine.execReplayTimeout t b s
  | .down t b => Sys2Proof.Machine.execDown t b s
  | .retrain t r b d => Sys2Proof.Machine.execRetrain t r b d s
  | .quarantine t l cause codes disps => Sys2Proof.Machine.execQuarantine t l cause codes disps s
  | .laneMaskSwitch t b rx => Sys2Proof.Machine.execLaneMaskSwitch t b rx s
  | .laneRetrainAttempt t l => Sys2Proof.Machine.execLaneRetrainAttempt t l s
  | .laneRetrainEnd t l ok => Sys2Proof.Machine.execLaneRetrainEnd t l ok s
  | .lnCtrlRetry t r l d => Sys2Proof.Machine.execLnCtrlRetry t r l d s
  | .laneEnWrite t r b d => Sys2Proof.Machine.execLaneEnWrite t r b d s
  | .powerReqWrite t r b d => Sys2Proof.Machine.execPowerReqWrite t r b d s
  | .powerRetry t b => Sys2Proof.Machine.execPowerRetry t b s
  | .powerExit t b signal => Sys2Proof.Machine.execPowerExit t b signal s
  | .lrefLost t g => Sys2Proof.Machine.execLrefLost t g s
  | .lgRateWrite t r d => Sys2Proof.Machine.execLgRateWrite t r d s
  | .prbsSync t l sync errors => Sys2Proof.Machine.execPrbsSync t l sync errors s
  | .controlTick t => Sys2Proof.Machine.execControlTick t s
  | .hallEdge t p => Sys2Proof.Machine.execHallEdge t p s
  | .hallEdgeTimeout t => Sys2Proof.Machine.execHallEdgeTimeout t s
  | .modeReqWrite t r d => Sys2Proof.Machine.execModeReqWrite t r d s
  | .alignEnd t => Sys2Proof.Machine.execAlignEnd t s
  | .startFail t => Sys2Proof.Machine.execStartFail t s
  | .idxLost t => Sys2Proof.Machine.execIdxLost t s
  | .standstill t => Sys2Proof.Machine.execStandstill t s
  | .coastingClear t => Sys2Proof.Machine.execCoastingClear t s
  | .faultLatchClear t r gal d => Sys2Proof.Machine.execFaultLatchClear t r gal d s
  | .galTblDataAccess t r d => Sys2Proof.Machine.execGalTblDataAccess t r d s
  | .sdfOutput t c bits => Sys2Proof.Machine.execSdfOutput t c bits s
  | .sdfStuck t c => Sys2Proof.Machine.execSdfStuck t c s
  | .sdfUnstuck t c => Sys2Proof.Machine.execSdfUnstuck t c s
  | .clkLost t => Sys2Proof.Machine.execClkLost t s
  | .sdmClkReturn t => Sys2Proof.Machine.execSdmClkReturn t s
  | .sdfCfgWrite t r d => Sys2Proof.Machine.execSdfCfgWrite t r d s
  | .safetyInputChange t idx level a b => Sys2Proof.Machine.execSafetyInputChange t idx level a b s
  | .safeResetEdge t => Sys2Proof.Machine.execSafeResetEdge t s
  | .resetStuck t => Sys2Proof.Machine.execResetStuck t s
  | .resetStuckClear t => Sys2Proof.Machine.execResetStuckClear t s
  | .pathCompare t => Sys2Proof.Machine.execPathCompare t s
  | .ss1Standstill t => Sys2Proof.Machine.execSs1Standstill t s
  | .ss1MaxExpire t => Sys2Proof.Machine.execSs1MaxExpire t s
  | .ssDiscrepancy t => Sys2Proof.Machine.execSsDiscrepancy t s
  | .speedAgree t => Sys2Proof.Machine.execSpeedAgree t s
  | .contactorMismatch t motor => Sys2Proof.Machine.execContactorMismatch t motor s
  | .proofStepEnd t => Sys2Proof.Machine.execProofStepEnd t s
  | .emitDelayEnd t => Sys2Proof.Machine.execEmitDelayEnd t s
  | .budgetSubwindow t => Sys2Proof.Machine.execBudgetSubwindow t s
  | .cfgClose t r => Sys2Proof.Machine.execCfgClose t r s
  | .cfgWindowTimeout t => Sys2Proof.Machine.execCfgWindowTimeout t s
  | .crcRunCheck t => Sys2Proof.Machine.execCrcRunCheck t s
  | .ethFrameReceived t p sfd frame fcsOk => Sys2Proof.Machine.execEthFrameReceived t p sfd frame fcsOk s
  | .pauseQuantaEnd t p => Sys2Proof.Machine.execPauseQuantaEnd t p s
  | .ethFrameEgress t p sfd => Sys2Proof.Machine.execEthFrameEgress t p sfd s
  | .linkUp t p lp => Sys2Proof.Machine.execLinkUp t p lp s
  | .linkDown t p => Sys2Proof.Machine.execLinkDown t p s
  | .anFail t p lp => Sys2Proof.Machine.execAnFail t p lp s
  | .macAgeExpire t => Sys2Proof.Machine.execMacAgeExpire t s
  | .matchEntryExpire t => Sys2Proof.Machine.execMatchEntryExpire t s
  | .eth t b len body => Sys2Proof.Machine.execEth t b len body s
  | .mbRxDataRead t r => Sys2Proof.Machine.execMbRxDataRead t r s
  | .mbTxDataWrite t r d => Sys2Proof.Machine.execMbTxDataWrite t r d s
  | .send t r => Sys2Proof.Machine.execSend t r s
  | .abort t r => Sys2Proof.Machine.execAbort t r s
  | .incrNsWrite t r d => Sys2Proof.Machine.execIncrNsWrite t r d s
  | .stepSecHiWrite t r d => Sys2Proof.Machine.execStepSecHiWrite t r d s
  | .clearCoast t r d => Sys2Proof.Machine.execClearCoast t r d s
  | .nowNsRead t r => Sys2Proof.Machine.execNowNsRead t r s
  | .ppsOutPulse t => Sys2Proof.Machine.execPpsOutPulse t s
  | .ppsOutEnd t => Sys2Proof.Machine.execPpsOutEnd t s
  | .ppsIn t => Sys2Proof.Machine.execPpsIn t s
  | .ppsinNsRead t r => Sys2Proof.Machine.execPpsinNsRead t r s
  | .planCycleStart t => Sys2Proof.Machine.execPlanCycleStart t s
  | .beatStart t => Sys2Proof.Machine.execBeatStart t s
  | .planMsgSend t => Sys2Proof.Machine.execPlanMsgSend t s
  | .planFrameReceived t => Sys2Proof.Machine.execPlanFrameReceived t s
  | .plnEnableWrite t r d => Sys2Proof.Machine.execPlnEnableWrite t r d s
  | .peerSelWrite t r d => Sys2Proof.Machine.execPeerSelWrite t r d s
  | .vidLatchPoint t => Sys2Proof.Machine.execVidLatchPoint t s
  | .vidLineStart t under => Sys2Proof.Machine.execVidLineStart t under s
  | .vidFrameEnd t => Sys2Proof.Machine.execVidFrameEnd t s
  | .timingResumed t => Sys2Proof.Machine.execTimingResumed t s
  | .vidTblDataAccess t r d => Sys2Proof.Machine.execVidTblDataAccess t r d s
  | .roundStart t => Sys2Proof.Machine.execRoundStart t s
  | .roundTimer t => Sys2Proof.Machine.execRoundTimer t s
  | .roundTrig t r d => Sys2Proof.Machine.execRoundTrig t r d s
  | .hkaConversionEnd t code clamp => Sys2Proof.Machine.execHkaConversionEnd t code clamp s
  | .urgent t r d => Sys2Proof.Machine.execUrgent t r d s
  | .blankTimeout t => Sys2Proof.Machine.execBlankTimeout t s
  | .excLimit t k on => Sys2Proof.Machine.execExcLimit t k on s
  | .linLoad t r high d => Sys2Proof.Machine.execLinLoad t r high d s
  | .linLoadDone t c => Sys2Proof.Machine.execLinLoadDone t c s
  | .hkaStale t c => Sys2Proof.Machine.execHkaStale t c s
  | .orderlyStopStepEnd t => Sys2Proof.Machine.execOrderlyStopStepEnd t s
  | .budgetOut t => Sys2Proof.Machine.execBudgetOut t s
  | .tripLatchClear t r d => Sys2Proof.Machine.execTripLatchClear t r d s
  | .calJobStart t r d => Sys2Proof.Machine.execCalJobStart t r d s
  | .calJobAbort t r d => Sys2Proof.Machine.execCalJobAbort t r d s
  | .calNoSignal t => Sys2Proof.Machine.execCalNoSignal t s
  | .calEventCapture t n a b => Sys2Proof.Machine.execCalEventCapture t n a b s
  | .calThreshStep t above => Sys2Proof.Machine.execCalThreshStep t above s
  | .jobDone t => Sys2Proof.Machine.execJobDone t s
  | .recompute t r d => Sys2Proof.Machine.execRecompute t r d s
  | .calComputeDone t => Sys2Proof.Machine.execCalComputeDone t s
  | .applied t => Sys2Proof.Machine.execApplied t s
  | .lmpPeriodStart t => Sys2Proof.Machine.execLmpPeriodStart t s
  | .lampDiagSample t l short high => Sys2Proof.Machine.execLampDiagSample t l short high s
  | .engStart t r e => Sys2Proof.Machine.execEngStart t r e s
  | .pairEnableWrite t r d => Sys2Proof.Machine.execPairEnableWrite t r d s
  | .arb t id prefer health runs => Sys2Proof.Machine.execArb t id prefer health runs s
  | .arbDone t => Sys2Proof.Machine.execArbDone t s
  | .arbWaitExpire t => Sys2Proof.Machine.execArbWaitExpire t s
  | .alignSet t edge tdc sec ns frac incr tick => Sys2Proof.Machine.execAlignSet t edge tdc sec ns frac incr tick s
  | .alignEdgeReached t => Sys2Proof.Machine.execAlignEdgeReached t s
  | .heartbeatSend t => Sys2Proof.Machine.execHeartbeatSend t s
  | .heartbeat t r => Sys2Proof.Machine.execHeartbeat t r s
  | .hbLost t => Sys2Proof.Machine.execHbLost t s
  | .activeOutRaise t => Sys2Proof.Machine.execActiveOutRaise t s
  | .taken t cause frame => Sys2Proof.Machine.execTaken t cause frame s
  | .standbyHoldApply t => Sys2Proof.Machine.execStandbyHoldApply t s
  | .mirror t m => Sys2Proof.Machine.execMirror t m s
  | .time t edge incr step => Sys2Proof.Machine.execTime t edge incr step s
  | .tiles t frame tile ended stopped => Sys2Proof.Machine.execTiles t frame tile ended stopped s
  | .plan t st held pending grant => Sys2Proof.Machine.execPlan t st held pending grant s
  | .switch t r => Sys2Proof.Machine.execSwitch t r s
  | .por t freqSel pairId => Sys2Proof.Machine.execPor t freqSel pairId s
  | .resetPin t => Sys2Proof.Machine.execResetPin t s
  | .glbSoftReset t r => Sys2Proof.Machine.execGlbSoftReset t r s
  | .resetRelease t => Sys2Proof.Machine.execResetRelease t s
  | .wipeDone t levels => Sys2Proof.Machine.execWipeDone t levels s
  | .stateReqWrite t r d => Sys2Proof.Machine.execStateReqWrite t r d s
  | .stateEntryDone t => Sys2Proof.Machine.execStateEntryDone t s
  | .lockTimeout t => Sys2Proof.Machine.execLockTimeout t s
  | .clkReqWrite t r d => Sys2Proof.Machine.execClkReqWrite t r d s
  | .vidLock t => Sys2Proof.Machine.execVidLock t s
  | .lcKeyWrite t r d => Sys2Proof.Machine.execLcKeyWrite t r d s
  | .lcReqWrite t r d => Sys2Proof.Machine.execLcReqWrite t r d s
  | .lcTransitionDone t => Sys2Proof.Machine.execLcTransitionDone t s
  | .lrefReturn t g => Sys2Proof.Machine.execLrefReturn t g s
  | .clkPllUnlock t idx => Sys2Proof.Machine.execClkPllUnlock t idx s
  | .clkPllLock t idx => Sys2Proof.Machine.execClkPllLock t idx s
  | .timeEdgeApply t => Sys2Proof.Machine.execTimeEdgeApply t s
  | .reservedLcw t b => Sys2Proof.Machine.execReservedLcw t b s
  | .jtagInstruction t k => Sys2Proof.Machine.execJtagInstruction t k s
  | .linkPowerEntry t b => Sys2Proof.Machine.execLinkPowerEntry t b s
  | .l1ExitDone t b => Sys2Proof.Machine.execL1ExitDone t b s

end Sys2Proof.Machine
end

