-- ==== Sys2Proof/Safety.lean ====
section
/-!
DEFINITION. What counts as a safe run: every step answers a next state.
-/

namespace Sys2Proof

/-- The step at a state answers a next state. -/
def Proceeds (s : Machine.State) : Prop := ∃ s', Machine.step s = .next s'

/-- Every state that steps reach from `s` proceeds. -/
def Safe (s : Machine.State) : Prop :=
  ∀ r : Machine.State, Relation.ReflTransGen (fun a b => Machine.step a = .next b) s r → Proceeds r

namespace Machine

/-- No passage of acquisition or power waits that the next access would settle: RUN is not pending, and ENABLE is in force
(07 R183, 20 R498; log entry 19). -/
abbrev Settled (s : State) : Prop := flag s F.PWR_STATUS_RUN_PENDING = false ∧ s.acq.on' = flag s F.ACQ_CTRL_ENABLE

/-- The device is out of reset, no earlier access of a requester waits, no passage waits, and no monitor samples the register
bus. -/
abbrev BusIdle (s : State) : Prop :=
  s.held = false ∧ Settled s ∧ s.bus.slow = [] ∧ s.bus.posted = [] ∧ flag s F.PMON_CTRL_ENABLE = false

/-- A requester's write meets an idle register bus and none of the refusal checks of 02 R40. -/
abbrev Accepts (t : Nat) (r : Requester) (a d : Nat) (s : State) : Prop :=
  BusIdle s ∧ (busWrite r a (word d) (at' t s)).1 = 0

/-- A requester's read meets an idle register bus and none of the refusal checks of 02 R40. -/
abbrev Readable (t : Nat) (r : Requester) (a : Nat) (s : State) : Prop :=
  BusIdle s ∧ (busRead r a (at' t s)).2.1 = 0

/-- The bits that the fields of the register at an address take. -/
def fieldBits (a : Nat) : Word :=
  match findReg a with
  | some l => rowMask l
  | none => 0#32

/-- The fields of the register at an address. -/
def fieldsAt (a : Nat) : List FieldRow :=
  match findReg a with
  | some l => l.row.fields
  | none => []

/-- Every register but those named reads as before, EVF_DROPPED with its OVF word apart, which any event may advance (02 R57). -/
abbrev SameRegs (skip : Nat → Bool) (s u : State) : Prop :=
  ∀ a, skip a = false → a ≠ A.IRQ_EVF_DROPPED → a ≠ A.IRQ_EVF_DROPPED + 4 → reg u a = reg s a

/-- Every byte of a memory outside `n` bytes from `lo` on reads as before. -/
abbrev SameBytes (lo n : Nat) (m m' : List Host.Cell) : Prop :=
  ∀ b, b < lo ∨ lo + n ≤ b → pget 0#8 m' b = pget 0#8 m b

/-- Both memories are in canonical form. -/
abbrev MemoriesCanonical (s : State) : Prop := Memory.wf s.sram = true ∧ Memory.wf s.calstore = true

/-- The fuses hold one of the four states, at most 15 entries to SERVICE, and a begun transition to a state other than
FACTORY (20 R504, R505). -/
abbrev FusesLegal (s : State) : Prop :=
  1 ≤ s.pwr.lcState ∧ s.pwr.lcState ≤ 4 ∧ s.pwr.lcLeft ≤ 15 ∧ ∀ x ∈ s.pwr.lcBegun, 2 ≤ x ∧ x ≤ 4

/-- No other block takes the results of housekeeping channel `c`: not the thermal limits, calibration, or the return path. -/
abbrev Unwatched (s : State) (c : Nat) : Prop :=
  c < 36 ∧ c ≠ 32 ∧ c ≠ 33 ∧ flag s F.THM_CTRL_ENABLE = false ∧ rd s F.CAL_TEMP_SEL ≠ c ∧ rd s F.RET_TEMP_SEL_CHAN ≠ c

/-- A page with the common header: one of the 105 interrupt sources of 02 R54. -/
abbrev HeaderPage (p : Nat) : Prop := p ∈ (List.range 105).map srcBase

end Machine

end Sys2Proof
end

