-- ==== Sys2Proof/WellFormed.lean ====
section
/-!
DEFINITION. Which commands are well formed: every operand lies in the range the spec gives it (02 R34, R35, R49, R51 for
addresses, requesters and words; the chapter of the row for the number of an instance).
-/

namespace Sys2Proof

/-- A requester that exists: MSPI, or one of the 32 bundles (02 R49; 09 R231). -/
def Requester.wf : Requester → Bool
  | .mspi => true
  | .bundle b => decide (b < 32)

/-- The address of a word of the 24-bit register space (02 R34). -/
def wordAddr (a : Nat) : Bool := decide (a < 2 ^ 24) && decide (a % 4 = 0)

/-- The base of a page with a header (02 R36, R37). -/
def pageAddr (p : Nat) : Bool := decide (p < 0x100000) && decide (p % 0x400 = 0 ∨ 0x61000 ≤ p ∧ p < 0x62000 ∧ p % 0x80 = 0)

/-- A mirror of a polygon mode of R286 and an angle of one turn (19 R478). -/
def LoopMirror.wf (m : LoopMirror) : Bool := decide (m.mode < 8) && decide (m.angle < 2 ^ 32)

/-- A report of one of the three roles (19 R472, R474). -/
def PairReport.wf (r : PairReport) : Bool := decide (r.role < 3) && decide (r.health < 8)

/-- Fifteen octets after the K symbol of a training set (09 R239). -/
def TsSeen.wf (x : TsSeen) : Bool := decide (x.sym.length = 15) && x.sym.all fun y => decide (y < 256)

/-- One of the three ways a frame ends, and lanes that exist (09 R231, R246). -/
def FrameSeen.wf (x : FrameSeen) : Bool := decide (x.fault < 3) && x.errs.all fun e => decide (e.1 < 144)

/-- The command is well formed. -/
def WellFormed (c : Instr) : Bool :=
  match c with
  | .registerWrite _ r a d => r.wf && wordAddr a && decide (d < 2 ^ 32)
  | .errCodeClear _ r p => r.wf && pageAddr p
  | .evtRawClear _ r p d => r.wf && pageAddr p && decide (d < 2 ^ 32)
  | .evtForce _ r p d => r.wf && pageAddr p && decide (d < 2 ^ 32)
  | .eventCounterClear _ r a => r.wf && wordAddr a
  | .softReset _ r p => r.wf && pageAddr p
  | .softResetComplete _ p => pageAddr p
  | .commit _ r p _ => r.wf && pageAddr p
  | .commitApply _ _ => true
  | .lockKeyWrite _ r p d => r.wf && pageAddr p && decide (d < 2 ^ 32)
  | .wideValueLowRead _ r a => r.wf && wordAddr a
  | .slowAccessComplete _ r => r.wf
  | .write _ a words done => wordAddr a && (words.all fun d => decide (d < 2 ^ 32)) && decide (done ≤ words.length)
  | .read _ a n _ => wordAddr a && decide (0 < n)
  | .mspiWriteComplete _ => true
  | .mspiCsEarlyRise _ a words => wordAddr a && (words.all fun d => decide (d < 2 ^ 32))
  | .evfHoldoffEnd _ => true
  | .pmonSnap _ r d => r.wf && decide (d < 2 ^ 32)
  | .pmonStart _ r d => r.wf && decide (d < 2 ^ 32)
  | .monWindowEnd _ m => decide (m < 16)
  | .poolSplitWrite _ r d => r.wf && decide (d < 2 ^ 32)
  | .poolZeroed _ => true
  | .scanModeWrite _ r d => r.wf && decide (d < 2 ^ 32)
  | .ocxoWarmChange _ _ => true
  | .refLost _ => true
  | .holdoverLimit _ => true
  | .refPresent _ => true
  | .tdcPllLock _ q => decide (q < 4)
  | .pllRelock _ q => decide (q < 4)
  | .pllUnlock _ q => decide (q < 4)
  | .refSelWrite _ r d => r.wf && decide (d < 2 ^ 32)
  | .hitLeadingEdge _ c => decide (c < 512)
  | .hitTrailingEdge _ c _ => decide (c < 512)
  | .hitWidthLimit _ c _ => decide (c < 512)
  | .hitFifoEntry _ c => decide (c < 512)
  | .hitDrain _ bank => decide (bank < 64)
  | .hitTimeFormed _ c => decide (c < 512)
  | .startEdge _ m => decide (m < 8)
  | .startWindowClose _ m => decide (m < 8)
  | .stCtrlWrite _ r m d => r.wf && decide (m < 8) && decide (d < 2 ^ 32)
  | .startSettleEnd _ m => decide (m < 8)
  | .chThreshWrite _ r c d => r.wf && decide (c < 512) && decide (d < 2 ^ 32)
  | .settlingEnd _ c => decide (c < 512)
  | .fctSnap _ r d => r.wf && decide (d < 2 ^ 32)
  | .fctStart _ r d => r.wf && decide (d < 2 ^ 32)
  | .fcGateOpen _ k => decide (k < 4)
  | .fcGateClose _ k n => decide (k < 4) && decide (n < 4294967296)
  | .noSignal _ k => decide (k < 4)
  | .idxRisingEdge _ => true
  | .idxFallingEdge _ => true
  | .shotStart _ g => decide (g < 32)
  | .ltrigEdge _ g => decide (g < 32)
  | .captureGateOpen _ g _ => decide (g < 32)
  | .captureGateClose _ g _ => decide (g < 32)
  | .colDataAccess _ r d => r.wf && (d.all fun d => decide (d < 2 ^ 32))
  | .escEnableWrite _ r d => r.wf && decide (d < 2 ^ 32)
  | .toutArm _ r i d => r.wf && decide (i < 4) && decide (d < 2 ^ 32)
  | .toutPulse _ i => decide (i < 4)
  | .toutPulseEnd _ i => decide (i < 4)
  | .nttArm _ r i d => r.wf && decide (i < 4) && decide (d < 2 ^ 32)
  | .nttFired _ i => decide (i < 4)
  | .columnStartMarker _ c => decide (c < 512)
  | .shotMarker _ c => decide (c < 512)
  | .hitAccumulate _ c => decide (c < 512)
  | .boundaryMarker _ c => decide (c < 512)
  | .zoomOpen _ c => decide (c < 512)
  | .pixelEndMarker _ c => decide (c < 512)
  | .contextClose _ n => decide (n < 256)
  | .contextReadoutComplete _ n => decide (n < 256)
  | .inspSelWrite _ r d => r.wf && decide (d < 2 ^ 32)
  | .inspBinDataRead _ r => r.wf
  | .inspBinDataWrite _ r d => r.wf && decide (d < 2 ^ 32)
  | .rennetJudge _ c => decide (c < 512)
  | .tempStale _ => true
  | .frameBoundary _ _ => true
  | .genlockEdge _ _ => true
  | .genlockLost _ => true
  | .acqEnableWrite _ r d => r.wf && decide (d < 2 ^ 32)
  | .triggerInputEdge _ line _ => decide (line < 6)
  | .hostTrig _ r d => r.wf && decide (d < 2 ^ 32)
  | .autoTrigger _ => true
  | .triggerResolve _ => true
  | .retentionFillReady _ => true
  | .retentionPostEnd _ => true
  | .retentionHoldoffEnd _ => true
  | .seqDone _ => true
  | .rearm _ r d => r.wf && decide (d < 2 ^ 32)
  | .recordEnqueue _ st => decide (st < 128)
  | .queueCfgWrite _ r k _ d => r.wf && decide (k < 16384) && decide (d < 2 ^ 32)
  | .queueCfgApplyIdle _ k => decide (k < 16384)
  | .segmentSend _ b => decide (b < 32)
  | .pressJobStart _ e => decide (e < 32)
  | .pressPrimeDone _ e => decide (e < 32)
  | .pressBlockEnd _ k _ => decide (k < 16384)
  | .resumed _ e => decide (e < 32)
  | .resume _ r e => r.wf && decide (e < 32)
  | .bundleEnableWrite _ r b d => r.wf && decide (b < 32) && decide (d < 2 ^ 32)
  | .laneBitLock _ l => decide (l < 144)
  | .tsSetReceived _ l x => decide (l < 144) && x.wf
  | .trainStepComplete _ b _ => decide (b < 32)
  | .trainStepTimeout _ b _ => decide (b < 32)
  | .trainFailRestart _ b => decide (b < 32)
  | .ack _ b seq => decide (b < 32) && decide (seq < 65536)
  | .nak _ b seq => decide (b < 32) && decide (seq < 65536)
  | .credit _ b vc limit => decide (b < 32) && decide (vc < 8) && decide (limit < 8192)
  | .laneOffer _ b mask => decide (b < 32) && decide (mask < 65536)
  | .laneTx _ b mask => decide (b < 32) && decide (mask < 65536)
  | .power _ b _ st => decide (b < 32) && decide (st < 4)
  | .frameReceived _ b _ _ line => decide (b < 32) && line.wf
  | .regWr _ b len body => decide (b < 32) && decide (len < 65536) && (body.all fun d => decide (d < 2 ^ 32))
  | .regRd _ b len body => decide (b < 32) && decide (len < 65536) && (body.all fun d => decide (d < 2 ^ 32))
  | .frameTransmit _ b => decide (b < 32)
  | .ackIntExpire _ b => decide (b < 32)
  | .creditIntExpire _ b => decide (b < 32)
  | .replayTimeout _ b => decide (b < 32)
  | .down _ b => decide (b < 32)
  | .retrain _ r b d => r.wf && decide (b < 32) && decide (d < 2 ^ 32)
  | .quarantine _ l cause _ _ => decide (l < 144) && decide (cause < 8)
  | .laneMaskSwitch _ b _ => decide (b < 32)
  | .laneRetrainAttempt _ l => decide (l < 144)
  | .laneRetrainEnd _ l _ => decide (l < 144)
  | .lnCtrlRetry _ r l d => r.wf && decide (l < 144) && decide (d < 2 ^ 32)
  | .laneEnWrite _ r b d => r.wf && decide (b < 32) && decide (d < 2 ^ 32)
  | .powerReqWrite _ r b d => r.wf && decide (b < 32) && decide (d < 2 ^ 32)
  | .powerRetry _ b => decide (b < 32)
  | .powerExit _ b _ => decide (b < 32)
  | .lrefLost _ g => decide (g < 9)
  | .lgRateWrite _ r d => r.wf && decide (d < 2 ^ 32)
  | .prbsSync _ l _ _ => decide (l < 144)
  | .controlTick _ => true
  | .hallEdge _ p => decide (p < 8)
  | .hallEdgeTimeout _ => true
  | .modeReqWrite _ r d => r.wf && decide (d < 2 ^ 32)
  | .alignEnd _ => true
  | .startFail _ => true
  | .idxLost _ => true
  | .standstill _ => true
  | .coastingClear _ => true
  | .faultLatchClear _ r _ d => r.wf && decide (d < 2 ^ 32)
  | .galTblDataAccess _ r d => r.wf && (d.all fun d => decide (d < 2 ^ 32))
  | .sdfOutput _ c _ => decide (c < 8)
  | .sdfStuck _ c => decide (c < 8)
  | .sdfUnstuck _ c => decide (c < 8)
  | .clkLost _ => true
  | .sdmClkReturn _ => true
  | .sdfCfgWrite _ r d => r.wf && decide (d < 2 ^ 32)
  | .safetyInputChange _ i _ _ _ => decide (i < 6)
  | .safeResetEdge _ => true
  | .resetStuck _ => true
  | .resetStuckClear _ => true
  | .pathCompare _ => true
  | .ss1Standstill _ => true
  | .ss1MaxExpire _ => true
  | .ssDiscrepancy _ => true
  | .speedAgree _ => true
  | .contactorMismatch _ _ => true
  | .proofStepEnd _ => true
  | .emitDelayEnd _ => true
  | .budgetSubwindow _ => true
  | .cfgClose _ r => r.wf
  | .cfgWindowTimeout _ => true
  | .crcRunCheck _ => true
  | .ethFrameReceived _ p _ frame _ => decide (p < 4) && decide (frame.length < 2 ^ 16)
  | .pauseQuantaEnd _ p => decide (p < 4)
  | .ethFrameEgress _ p _ => decide (p < 5)
  | .linkUp _ p lp => decide (p < 4) && decide (lp < 65536)
  | .linkDown _ p => decide (p < 4)
  | .anFail _ p lp => decide (p < 4) && decide (lp < 65536)
  | .macAgeExpire _ => true
  | .matchEntryExpire _ => true
  | .eth _ b len _ => decide (b < 32) && decide (len < 65536)
  | .mbRxDataRead _ r => r.wf
  | .mbTxDataWrite _ r d => r.wf && decide (d < 2 ^ 32)
  | .send _ r => r.wf
  | .abort _ r => r.wf
  | .incrNsWrite _ r d => r.wf && decide (d < 2 ^ 32)
  | .stepSecHiWrite _ r d => r.wf && decide (d < 2 ^ 32)
  | .clearCoast _ r d => r.wf && decide (d < 2 ^ 32)
  | .nowNsRead _ r => r.wf
  | .ppsOutPulse _ => true
  | .ppsOutEnd _ => true
  | .ppsIn _ => true
  | .ppsinNsRead _ r => r.wf
  | .planCycleStart _ => true
  | .beatStart _ => true
  | .planMsgSend _ => true
  | .planFrameReceived _ => true
  | .plnEnableWrite _ r d => r.wf && decide (d < 2 ^ 32)
  | .peerSelWrite _ r d => r.wf && decide (d < 2 ^ 32)
  | .vidLatchPoint _ => true
  | .vidLineStart _ under => (under.all fun u => decide (u.1 < 4))
  | .vidFrameEnd _ => true
  | .timingResumed _ => true
  | .vidTblDataAccess _ r d => r.wf && (d.all fun d => decide (d < 2 ^ 32))
  | .roundStart _ => true
  | .roundTimer _ => true
  | .roundTrig _ r d => r.wf && decide (d < 2 ^ 32)
  | .hkaConversionEnd _ code _ => decide (code < 65536)
  | .urgent _ r d => r.wf && decide (d < 2 ^ 32)
  | .blankTimeout _ => true
  | .excLimit _ k _ => decide (k < 2)
  | .linLoad _ r _ d => r.wf && decide (d < 2 ^ 32)
  | .linLoadDone _ c => decide (c < 36)
  | .hkaStale _ c => decide (c < 36)
  | .orderlyStopStepEnd _ => true
  | .budgetOut _ => true
  | .tripLatchClear _ r d => r.wf && decide (d < 2 ^ 32)
  | .calJobStart _ r d => r.wf && decide (d < 2 ^ 32)
  | .calJobAbort _ r d => r.wf && decide (d < 2 ^ 32)
  | .calNoSignal _ => true
  | .calEventCapture _ n _ _ => decide (n < 521)
  | .calThreshStep _ above => (above.all fun d => decide (d < 1032))
  | .jobDone _ => true
  | .recompute _ r d => r.wf && decide (d < 2 ^ 32)
  | .calComputeDone _ => true
  | .applied _ => true
  | .lmpPeriodStart _ => true
  | .lampDiagSample _ l _ _ => decide (l < 16)
  | .engStart _ r e => r.wf && decide (e < 4)
  | .pairEnableWrite _ r d => r.wf && decide (d < 2 ^ 32)
  | .arb _ id _ health _ => decide (id < 2) && decide (health < 8)
  | .arbDone _ => true
  | .arbWaitExpire _ => true
  | .alignSet _ _ _ sec ns frac incr _ => decide (sec < 281474976710656) && decide (ns < 1000000000) && decide (frac < 4294967296) && decide (incr < 4294967296)
  | .alignEdgeReached _ => true
  | .heartbeatSend _ => true
  | .heartbeat _ r => r.wf
  | .hbLost _ => true
  | .activeOutRaise _ => true
  | .taken _ cause _ => decide (cause < 8)
  | .standbyHoldApply _ => true
  | .mirror _ m => m.wf
  | .time _ _ incr _ => (incr.all fun x => decide (x < 2 ^ 32))
  | .tiles _ _ _ _ _ => true
  | .plan _ st _ _ _ => decide (st < 16)
  | .switch _ r => r.wf
  | .por _ _ _ => true
  | .resetPin _ => true
  | .glbSoftReset _ r => r.wf
  | .resetRelease _ => true
  | .wipeDone _ levels => decide (levels < 64)
  | .stateReqWrite _ r d => r.wf && decide (d < 2 ^ 32)
  | .stateEntryDone _ => true
  | .lockTimeout _ => true
  | .clkReqWrite _ r d => r.wf && decide (d < 2 ^ 32)
  | .vidLock _ => true
  | .lcKeyWrite _ r d => r.wf && decide (d < 2 ^ 32)
  | .lcReqWrite _ r d => r.wf && decide (d < 2 ^ 32)
  | .lcTransitionDone _ => true
  | .lrefReturn _ g => decide (g < 9)
  | .clkPllUnlock _ i => decide (i < 10)
  | .clkPllLock _ i => decide (i < 10)
  | .timeEdgeApply _ => true
  | .reservedLcw _ b => decide (b < 32)
  | .jtagInstruction _ k => decide (k < 6)
  | .linkPowerEntry _ b => decide (b < 32)
  | .l1ExitDone _ b => decide (b < 32)

/-- The requester that sends a command, where the command is an access of one (02 R49). -/
def Instr.sender (c : Instr) : Option Requester :=
  match c with
  | .registerWrite _ r _ _ => some r
  | .errCodeClear _ r _ => some r
  | .evtRawClear _ r _ _ => some r
  | .evtForce _ r _ _ => some r
  | .eventCounterClear _ r _ => some r
  | .softReset _ r _ => some r
  | .softResetComplete _ _ => none
  | .commit _ r _ _ => some r
  | .commitApply _ _ => none
  | .lockKeyWrite _ r _ _ => some r
  | .wideValueLowRead _ r _ => some r
  | .slowAccessComplete _ r => some r
  | .write _ _ _ _ => none
  | .read _ _ _ _ => none
  | .mspiWriteComplete _ => none
  | .mspiCsEarlyRise _ _ _ => none
  | .evfHoldoffEnd _ => none
  | .pmonSnap _ r _ => some r
  | .pmonStart _ r _ => some r
  | .monWindowEnd _ _ => none
  | .poolSplitWrite _ r _ => some r
  | .poolZeroed _ => none
  | .scanModeWrite _ r _ => some r
  | .ocxoWarmChange _ _ => none
  | .refLost _ => none
  | .holdoverLimit _ => none
  | .refPresent _ => none
  | .tdcPllLock _ _ => none
  | .pllRelock _ _ => none
  | .pllUnlock _ _ => none
  | .refSelWrite _ r _ => some r
  | .hitLeadingEdge _ _ => none
  | .hitTrailingEdge _ _ _ => none
  | .hitWidthLimit _ _ _ => none
  | .hitFifoEntry _ _ => none
  | .hitDrain _ _ => none
  | .hitTimeFormed _ _ => none
  | .startEdge _ _ => none
  | .startWindowClose _ _ => none
  | .stCtrlWrite _ r _ _ => some r
  | .startSettleEnd _ _ => none
  | .chThreshWrite _ r _ _ => some r
  | .settlingEnd _ _ => none
  | .fctSnap _ r _ => some r
  | .fctStart _ r _ => some r
  | .fcGateOpen _ _ => none
  | .fcGateClose _ _ _ => none
  | .noSignal _ _ => none
  | .idxRisingEdge _ => none
  | .idxFallingEdge _ => none
  | .shotStart _ _ => none
  | .ltrigEdge _ _ => none
  | .captureGateOpen _ _ _ => none
  | .captureGateClose _ _ _ => none
  | .colDataAccess _ r _ => some r
  | .escEnableWrite _ r _ => some r
  | .toutArm _ r _ _ => some r
  | .toutPulse _ _ => none
  | .toutPulseEnd _ _ => none
  | .nttArm _ r _ _ => some r
  | .nttFired _ _ => none
  | .columnStartMarker _ _ => none
  | .shotMarker _ _ => none
  | .hitAccumulate _ _ => none
  | .boundaryMarker _ _ => none
  | .zoomOpen _ _ => none
  | .pixelEndMarker _ _ => none
  | .contextClose _ _ => none
  | .contextReadoutComplete _ _ => none
  | .inspSelWrite _ r _ => some r
  | .inspBinDataRead _ r => some r
  | .inspBinDataWrite _ r _ => some r
  | .rennetJudge _ _ => none
  | .tempStale _ => none
  | .frameBoundary _ _ => none
  | .genlockEdge _ _ => none
  | .genlockLost _ => none
  | .acqEnableWrite _ r _ => some r
  | .triggerInputEdge _ _ _ => none
  | .hostTrig _ r _ => some r
  | .autoTrigger _ => none
  | .triggerResolve _ => none
  | .retentionFillReady _ => none
  | .retentionPostEnd _ => none
  | .retentionHoldoffEnd _ => none
  | .seqDone _ => none
  | .rearm _ r _ => some r
  | .recordEnqueue _ _ => none
  | .queueCfgWrite _ r _ _ _ => some r
  | .queueCfgApplyIdle _ _ => none
  | .segmentSend _ _ => none
  | .pressJobStart _ _ => none
  | .pressPrimeDone _ _ => none
  | .pressBlockEnd _ _ _ => none
  | .resumed _ _ => none
  | .resume _ r _ => some r
  | .bundleEnableWrite _ r _ _ => some r
  | .laneBitLock _ _ => none
  | .tsSetReceived _ _ _ => none
  | .trainStepComplete _ _ _ => none
  | .trainStepTimeout _ _ _ => none
  | .trainFailRestart _ _ => none
  | .ack _ _ _ => none
  | .nak _ _ _ => none
  | .credit _ _ _ _ => none
  | .laneOffer _ _ _ => none
  | .laneTx _ _ _ => none
  | .power _ _ _ _ => none
  | .frameReceived _ _ _ _ _ => none
  | .regWr _ _ _ _ => none
  | .regRd _ _ _ _ => none
  | .frameTransmit _ _ => none
  | .ackIntExpire _ _ => none
  | .creditIntExpire _ _ => none
  | .replayTimeout _ _ => none
  | .down _ _ => none
  | .retrain _ r _ _ => some r
  | .quarantine _ _ _ _ _ => none
  | .laneMaskSwitch _ _ _ => none
  | .laneRetrainAttempt _ _ => none
  | .laneRetrainEnd _ _ _ => none
  | .lnCtrlRetry _ r _ _ => some r
  | .laneEnWrite _ r _ _ => some r
  | .powerReqWrite _ r _ _ => some r
  | .powerRetry _ _ => none
  | .powerExit _ _ _ => none
  | .lrefLost _ _ => none
  | .lgRateWrite _ r _ => some r
  | .prbsSync _ _ _ _ => none
  | .controlTick _ => none
  | .hallEdge _ _ => none
  | .hallEdgeTimeout _ => none
  | .modeReqWrite _ r _ => some r
  | .alignEnd _ => none
  | .startFail _ => none
  | .idxLost _ => none
  | .standstill _ => none
  | .coastingClear _ => none
  | .faultLatchClear _ r _ _ => some r
  | .galTblDataAccess _ r _ => some r
  | .sdfOutput _ _ _ => none
  | .sdfStuck _ _ => none
  | .sdfUnstuck _ _ => none
  | .clkLost _ => none
  | .sdmClkReturn _ => none
  | .sdfCfgWrite _ r _ => some r
  | .safetyInputChange _ _ _ _ _ => none
  | .safeResetEdge _ => none
  | .resetStuck _ => none
  | .resetStuckClear _ => none
  | .pathCompare _ => none
  | .ss1Standstill _ => none
  | .ss1MaxExpire _ => none
  | .ssDiscrepancy _ => none
  | .speedAgree _ => none
  | .contactorMismatch _ _ => none
  | .proofStepEnd _ => none
  | .emitDelayEnd _ => none
  | .budgetSubwindow _ => none
  | .cfgClose _ r => some r
  | .cfgWindowTimeout _ => none
  | .crcRunCheck _ => none
  | .ethFrameReceived _ _ _ _ _ => none
  | .pauseQuantaEnd _ _ => none
  | .ethFrameEgress _ _ _ => none
  | .linkUp _ _ _ => none
  | .linkDown _ _ => none
  | .anFail _ _ _ => none
  | .macAgeExpire _ => none
  | .matchEntryExpire _ => none
  | .eth _ _ _ _ => none
  | .mbRxDataRead _ r => some r
  | .mbTxDataWrite _ r _ => some r
  | .send _ r => some r
  | .abort _ r => some r
  | .incrNsWrite _ r _ => some r
  | .stepSecHiWrite _ r _ => some r
  | .clearCoast _ r _ => some r
  | .nowNsRead _ r => some r
  | .ppsOutPulse _ => none
  | .ppsOutEnd _ => none
  | .ppsIn _ => none
  | .ppsinNsRead _ r => some r
  | .planCycleStart _ => none
  | .beatStart _ => none
  | .planMsgSend _ => none
  | .planFrameReceived _ => none
  | .plnEnableWrite _ r _ => some r
  | .peerSelWrite _ r _ => some r
  | .vidLatchPoint _ => none
  | .vidLineStart _ _ => none
  | .vidFrameEnd _ => none
  | .timingResumed _ => none
  | .vidTblDataAccess _ r _ => some r
  | .roundStart _ => none
  | .roundTimer _ => none
  | .roundTrig _ r _ => some r
  | .hkaConversionEnd _ _ _ => none
  | .urgent _ r _ => some r
  | .blankTimeout _ => none
  | .excLimit _ _ _ => none
  | .linLoad _ r _ _ => some r
  | .linLoadDone _ _ => none
  | .hkaStale _ _ => none
  | .orderlyStopStepEnd _ => none
  | .budgetOut _ => none
  | .tripLatchClear _ r _ => some r
  | .calJobStart _ r _ => some r
  | .calJobAbort _ r _ => some r
  | .calNoSignal _ => none
  | .calEventCapture _ _ _ _ => none
  | .calThreshStep _ _ => none
  | .jobDone _ => none
  | .recompute _ r _ => some r
  | .calComputeDone _ => none
  | .applied _ => none
  | .lmpPeriodStart _ => none
  | .lampDiagSample _ _ _ _ => none
  | .engStart _ r _ => some r
  | .pairEnableWrite _ r _ => some r
  | .arb _ _ _ _ _ => none
  | .arbDone _ => none
  | .arbWaitExpire _ => none
  | .alignSet _ _ _ _ _ _ _ _ => none
  | .alignEdgeReached _ => none
  | .heartbeatSend _ => none
  | .heartbeat _ _ => none
  | .hbLost _ => none
  | .activeOutRaise _ => none
  | .taken _ _ _ => none
  | .standbyHoldApply _ => none
  | .mirror _ _ => none
  | .time _ _ _ _ => none
  | .tiles _ _ _ _ _ => none
  | .plan _ _ _ _ _ => none
  | .switch _ r => some r
  | .por _ _ _ => none
  | .resetPin _ => none
  | .glbSoftReset _ r => some r
  | .resetRelease _ => none
  | .wipeDone _ _ => none
  | .stateReqWrite _ r _ => some r
  | .stateEntryDone _ => none
  | .lockTimeout _ => none
  | .clkReqWrite _ r _ => some r
  | .vidLock _ => none
  | .lcKeyWrite _ r _ => some r
  | .lcReqWrite _ r _ => some r
  | .lcTransitionDone _ => none
  | .lrefReturn _ _ => none
  | .clkPllUnlock _ _ => none
  | .clkPllLock _ _ => none
  | .timeEdgeApply _ => none
  | .reservedLcw _ _ => none
  | .jtagInstruction _ _ => none
  | .linkPowerEntry _ _ => none
  | .l1ExitDone _ _ => none

end Sys2Proof
end

