-- ==== Sys2Proof/Certificates/Slice0/Obligations.lean ====
section
/-!
DEFINITION. The statements for the provers, from the rules of spec/. A clause "there is u with exec c s = next u" says that
the command completes, and what it leaves.
-/

open Sys2Proof Sys2Proof.Machine

/-- For every write of a register by a requester while no earlier access waits, the command completes and the access shows
the code that the register bus gives (0 where none of the checks of R40 refuses it). For an accepted write of a
register of the IRQ page, every RW field of the register takes its bits of the written word. -/
def Obligations.WritesShowTheirCode : Prop :=
  (∀ t r a d s, BusIdle s →
    ∃ u, exec (.registerWrite t r a d) s = .next u ∧ u.bus.lastErr = (busWrite r a (word d) (at' t s)).1) ∧
  (∀ t r a d s (f : FieldRow), Accepts t r a d s → busAddr a = a → pageBase a = some 0x3000 → f ∈ fieldsAt a → f.acc = .rw →
    ∃ u, exec (.registerWrite t r a d) s = .next u ∧ fld (reg u a) f.lo f.len = fld (word d) f.lo f.len)

/-- On every page with the common header an accepted ERR_CODE_CLEAR leaves ERR_CODE (and on GLB also ERR_ADDR) at 0, an
EVT_RAW_CLEAR clears exactly the event bits that the word names, and an EVT_FORCE sets exactly the event bits that the
word names. An accepted EVENT_COUNTER_CLEAR of a 32-bit event counter clears it and its OVF word. -/
def Obligations.HeaderRegisterWrites : Prop :=
  (∀ t r p s, HeaderPage p → Accepts t r (p + 0x28) (2 ^ 31) s →
    ∃ u, exec (.errCodeClear t r p) s = .next u ∧ reg u (p + 0x28) = 0#32 ∧ (p = 0 → reg u A.GLB_ERR_ADDR = 0#32)) ∧
  (∀ t r p d s, HeaderPage p → Accepts t r (p + 0x10) d s →
    ∃ u, exec (.evtRawClear t r p d) s = .next u ∧
    reg u (p + 0x10) = reg s (p + 0x10) &&& ~~~(word d &&& fieldBits (p + 0x10))) ∧
  (∀ t r p d s, HeaderPage p → Accepts t r (p + 0x1C) d s →
    ∃ u, exec (.evtForce t r p d) s = .next u ∧ reg u (p + 0x10) = reg s (p + 0x10) ||| (word d &&& fieldBits (p + 0x1C))) ∧
  (∀ t r a s (f : FieldRow), Accepts t r a 0xFFFFFFFF s → busAddr a = a → windowed a = false → fieldsAt a = [f] → f.acc = .cnt → f.len = 32 →
    ∃ u, exec (.eventCounterClear t r a) s = .next u ∧ reg u a = 0#32 ∧ reg u (a + 4) = 0#32)

/-- On every page with the common header an accepted SOFT_RESET leaves SOFT_RESET at 1, or, on GLB, the device in reset.
SOFT_RESET_COMPLETE then leaves SOFT_RESET at 0, except that the reset of ESC waits for the columns in progress. -/
def Obligations.SoftResets : Prop :=
  (∀ t r p s, HeaderPage p → Accepts t r (p + 8) 2 s →
    ∃ u, exec (.softReset t r p) s = .next u ∧ (if p = 0 then u.held = true else bit (reg u (p + 8)) 1 = true)) ∧
  (∀ t p s, HeaderPage p → s.held = false → bit (reg s (p + 8)) 1 = true → s.esc.resetDue = false →
    ∃ u, exec (.softResetComplete t p) s = .next u ∧ bit (reg u (p + 8)) 1 = false) ∧
  (∀ t s, s.held = false → bit (reg s 0x20008) 1 = true → s.esc.resetDue = true → columnsRun s = true →
    exec (.softResetComplete t 0x20000) s = .next (at' t s))

/-- An accepted COMMIT on any page joins the pending commits with its page, point and instant and shows in COMMIT.
COMMIT_APPLY keeps every commit that is not due; one that is due leaves the pending commits and clears COMMIT, and
where it is the only one it counts. An accepted write of LOCK closes it on 0x0000 and opens it for 64 accesses on the
key; a write refused with 0x07 leaves it closed. -/
def Obligations.CommitsAndLock : Prop :=
  (∀ t r p (q : Point) s, HeaderPage p → Accepts t r (p + 0x20) (2 * q.code + 1) s →
    ∃ u, exec (.commit t r p q) s = .next u ∧ u.commits.length = s.commits.length + 1 ∧ u.commits.take s.commits.length = s.commits ∧
    (u.commits.getLast?.map fun c => (c.page, c.point, c.since)) = some (p, q, max s.now t) ∧ bit (reg u (p + 0x20)) 0 = true) ∧
  (∀ t (q : Point) s, awake s = true →
    ∃ u, exec (.commitApply t q) s = .next u ∧
    u.commits = ((s.commits.map (commitStep (at' t s) q)).filter fun c => !c.2).map (·.1) ∧
    (∀ c ∈ s.commits, HeaderPage c.page → (commitStep (at' t s) q c).2 = true → bit (reg u (c.page + 0x20)) 0 = false)) ∧
  (∀ t (q : Point) s (c c' : Commit), awake s = true → s.commits = [c] → HeaderPage c.page → commitStep (at' t s) q c = (c', true) →
    ∃ u, exec (.commitApply t q) s = .next u ∧ u.commits = [] ∧ bit (reg u (c.page + 0x20)) 0 = false ∧
    fld (reg u (c.page + 0x24)) 0 16 = (fld (reg s (c.page + 0x24)) 0 16 + 1) % 2 ^ 16) ∧
  (∀ t (q : Point) s (c c' : Commit), awake s = true → s.commits = [c] → commitStep (at' t s) q c = (c', false) →
    exec (.commitApply t q) s = .next { at' t s with commits := [c'] }) ∧
  (∀ t r p d s, HeaderPage p → Accepts t r (p + 0x2C) d s →
    ∃ u, exec (.lockKeyWrite t r p d) s = .next u ∧
    reg u (p + 0x2C) = if fld (word d) 0 16 = 0 then 0#32 else word (2 ^ 31 + 64)) ∧
  (∀ t r p d s, HeaderPage p → BusIdle s → (busWrite r (p + 0x2C) (word d) (at' t s)).1 = 0x07 →
    ∃ u, exec (.lockKeyWrite t r p d) s = .next u ∧ reg u (p + 0x2C) = 0#32)

/-- A permitted read of the lowest word of a wide value, which the requester has not latched, latches every higher word
for that requester. A waiting MSPI write through the memory window of the general pool, outside what the retention
ring owns, completes with code 0 and stores its word little-endian; a waiting read of a bundle returns the word there,
outside a STREAM partition in which queues have placed bytes. -/
def Obligations.WideAndSlowAccesses : Prop :=
  (∀ t r a s h, Readable t r a s → busAddr a = a → h ∈ wideHigh a → latchedWord s r a = none →
    ∃ u, exec (.wideValueLowRead t r a) s = .next u ∧ (latchedWord u r h).isSome) ∧
  (∀ t s a (d : Word), s.bus.slow = [⟨.mspi, true, a, d⟩] → s.held = false → Settled s → flag s F.PMON_CTRL_ENABLE = false → sysOn s = true →
    0x800000 ≤ busAddr a → 0x3000000 ≤ windowAt s (busAddr a) → windowRefused s (windowAt s (busAddr a)) = false →
    ∃ u, exec (.slowAccessComplete t .mspi) s = .next u ∧ u.bus.slow = [] ∧ u.bus.lastErr = 0 ∧
    memWord u.sram (windowAt s (busAddr a)) = d) ∧
  (∀ t s a (d : Word) b, s.bus.slow = [⟨.bundle b, false, a, d⟩] → s.held = false → Settled s → flag s F.PMON_CTRL_ENABLE = false →
    sysOn s = true → 0x800000 ≤ busAddr a → 0x3000000 ≤ windowAt s (busAddr a) → !(inStream s (windowAt s (busAddr a)) && s.stq.touched) →
    ∃ u, exec (.slowAccessComplete t (.bundle b)) s = .next u ∧ u.bus.slow = [] ∧ u.bus.lastErr = 0 ∧
    u.bus.lastRead = memWord s.sram (windowAt s (busAddr a)))

/-- A WRITE whose words have not completed when its status byte begins posts every word at addresses that advance by 4 and
shows BUSY; every WRITE ends in its status byte, with BUSY exactly while words have not completed; a WRITE of one word
that has completed shows the code of that write. A READ sends all its words unless one waits for memory; a READ of one
word sends its wait bytes, the marker 0x5A, the word and the status byte. A posted write that needs no memory takes
effect with its code; one that needs memory becomes the slow access. An early rise posts the words transferred and
ends the transaction. -/
def Obligations.MspiTransactions : Prop :=
  (∀ t a (words : List Nat) s, s.held = false → words.length ≤ 256 →
    ∃ u, exec (.write t a words 0) s = .next u ∧
    u.bus.posted = s.bus.posted ++ words.zipIdx.map (fun w => ((a + 4 * w.2) % 2 ^ 24, word w.1)) ∧
    u.bus.mspi.miso = [if words = [] then 0#8 else 2#8]) ∧
  (∀ t a (words : List Nat) (done : Nat) s, s.held = false →
    ∃ u, exec (.write t a words done) s = .next u ∧
    u.bus.mspi.miso.getLast? = some (BitVec.ofNat 8 (b2n u.bus.mspi.err +
    2 * b2n (decide (min done (min 256 words.length) < min 256 words.length))))) ∧
  (∀ t a d s, BusIdle s → slowAddr (a % 2 ^ 24) s = false →
    ∃ u, exec (.write t a [d] 1) s = .next u ∧ u.bus.lastErr = (busWrite .mspi (a % 2 ^ 24) (word d) (at' t s)).1) ∧
  (∀ t a w (ws : List Nat) s, BusIdle s → w ≤ 13 → slowAddr (a % 2 ^ 24) s = false →
    ∃ u, exec (.read t a 1 (w :: ws)) s = .next u ∧ u.bus.mspi.left = 0 ∧
    u.bus.mspi.miso = List.replicate w 0#8 ++ [0x5A#8] ++ busBytes u.bus.lastRead ++
    [BitVec.ofNat 8 (b2n (decide (u.bus.lastErr ≠ 0)))]) ∧
  (∀ t a n (waits : List Nat) s, BusIdle s →
    ∃ u, exec (.read t a n waits) s = .next u ∧
    (if u.bus.slow = [] then u.bus.mspi.left = 0 ∧ (u.bus.mspi.miso.getLast?).isSome else 0 < u.bus.mspi.left)) ∧
  (∀ t a (d : Word) (rest : List (Nat × Word)) s, s.bus.posted = (a, d) :: rest → s.bus.slow = [] →
    ∃ u, exec (.mspiWriteComplete t) s = .next u ∧
    (if slowAddr a s then u.bus.posted = rest ∧ u.bus.slow = [⟨.mspi, true, a, d⟩]
    else u.bus.lastErr = (busWrite .mspi a d (acqSettle { at' t s with bus := { s.bus with posted := rest } })).1)) ∧
  (∀ t a (words : List Nat) s, s.held = false →
    ∃ u, exec (.mspiCsEarlyRise t a words) s = .next u ∧ u.bus.mspi.left = 0 ∧
    u.bus.posted = s.bus.posted ++ (words.take 256).zipIdx.map (fun w => ((a + 4 * w.2) % 2 ^ 24, word w.1)))

/-- At the end of the holdoff the EVENT frame that is owed is sent on its trained bundle (type 5, VC0, 20 bytes), or
nothing but the holdoff's end happens. PMON_SNAP copies count, minimum and maximum of every selected monitor;
PMON_START clears every selected monitor and sets its RUN; the end of the window clears RUN and sets DONE. -/
def Obligations.MonitorsAndEventFrames : Prop :=
  (∀ t s, s.irq.holding = true → s.irq.endAt ≤ t → s.irq.owed = false →
    exec (.evfHoldoffEnd t) s = .next { at' t s with irq := ⟨false, 0, false⟩ }) ∧
  (∀ t s b, s.irq.holding = true → s.irq.endAt ≤ t → s.irq.owed = true → flag s F.IRQ_EVF_CFG_ENABLE = true →
    rd s F.IRQ_EVF_CFG_BUNDLE = b → bundleUp s b = true →
    ∃ u, exec (.evfHoldoffEnd t) s = .next u ∧
    (pget [] u.wnb.tx b).dropLast = pget [] s.wnb.tx b ∧
    ((pget [] u.wnb.tx b).getLast?.map fun x => (x.1.type, x.1.vc, x.1.len, x.2)) = some (5, 0, 20, max s.now t)) ∧
  (∀ t r d m s, Accepts t r A.PMON_SNAP d s → m < 16 → bit (word d) m = true →
    ∃ u, exec (.pmonSnap t r d) s = .next u ∧ reg u (A.MON_COUNT m) = word (monStat s m).count ∧
    reg u (A.MON_MIN m) = iword (monStat s m).lo ∧ reg u (A.MON_MAX m) = iword (monStat s m).hi) ∧
  (∀ t r d m s, Accepts t r A.PMON_START d s → m < 16 → bit (word d) m = true →
    ∃ u, exec (.pmonStart t r d) s = .next u ∧ flag u (F.MON_CTRL_RUN m) = true ∧
    monStat u m = { Stat.empty with since := max s.now t }) ∧
  (∀ t m s, sysOn s = true → m < 16 → flag s (F.MON_CTRL_RUN m) = true → rd s (F.MON_CTRL_MODE m) = 1 →
    (monStat s m).since + usec (rd s (F.MON_WINDOW m)) ≤ t →
    ∃ u, exec (.monWindowEnd t m) s = .next u ∧ flag u (F.MON_CTRL_RUN m) = false ∧ flag u (F.MON_STATUS_DONE m) = true)

/-- An accepted POOL_SPLIT_WRITE leaves the three partition sizes of the word in force and shows POOL_ZEROING where a
granule changed owner; POOL_ZEROED then clears POOL_ZEROING and sets its event. An accepted SCAN_MODE_WRITE leaves the
mode of the word; an accepted REF_SEL_WRITE leaves the frequency of the word. -/
def Obligations.PoolAndModeWrites : Prop :=
  (∀ t r d s, Accepts t r F.GLB_POOL_SPLIT_DISPLAY.addr d s →
    ∃ u, exec (.poolSplitWrite t r d) s = .next u ∧
    (∀ f ∈ [F.GLB_POOL_SPLIT_DISPLAY, F.GLB_POOL_SPLIT_STREAM, F.GLB_POOL_SPLIT_RETAIN], rd u f = fld (word d) f.lo f.len) ∧
    (((List.range 48).any fun g => granuleOwner (reg s F.GLB_POOL_SPLIT_DISPLAY.addr) g ≠
    granuleOwner (reg u F.GLB_POOL_SPLIT_DISPLAY.addr) g) = true → flag u F.GLB_STATUS_POOL_ZEROING = true)) ∧
  (∀ t s, sysOn s = true → flag s F.GLB_STATUS_POOL_ZEROING = true →
    ∃ u, exec (.poolZeroed t) s = .next u ∧ flag u F.GLB_STATUS_POOL_ZEROING = false ∧ flag u F.GLB_EVT_RAW_POOL_ZEROED = true) ∧
  (∀ t r d s, Accepts t r A.SCN_SCAN_MODE d s →
    ∃ u, exec (.scanModeWrite t r d) s = .next u ∧ fld (reg u A.SCN_SCAN_MODE) 0 2 = fld (word d) 0 2) ∧
  (∀ t r d s, Accepts t r F.CLK_REF_SEL_FREQ.addr d s →
    ∃ u, exec (.refSelWrite t r d) s = .next u ∧ rd u F.CLK_REF_SEL_FREQ = fld (word d) F.CLK_REF_SEL_FREQ.lo F.CLK_REF_SEL_FREQ.len)

/-- Out of reset, a change of the filtered OCXO_WARM shows in CLK.STATUS and sets WARM_CHANGE. The loss of a present
REFCLK clears REF_PRESENT, sets REF_LOST and takes the emission permission; its return after a loss sets REF_PRESENT
and clears REF_LOST. After 10 ms of holdover the hold is wide. -/
def Obligations.ReferenceClock : Prop :=
  (∀ t (level : Bool) s, s.held = false → flag s F.CLK_STATUS_OCXO_WARM ≠ level →
    ∃ u, exec (.ocxoWarmChange t level) s = .next u ∧ flag u F.CLK_STATUS_OCXO_WARM = level ∧
    flag u F.CLK_EVT_RAW_WARM_CHANGE = true) ∧
  (∀ t s, s.held = false → flag s F.CLK_STATUS_REF_PRESENT = true →
    ∃ u, exec (.refLost t) s = .next u ∧ flag u F.CLK_STATUS_REF_PRESENT = false ∧ flag u F.CLK_STATUS_REF_LOST = true ∧
    u.clk.noPermit = true) ∧
  (∀ t s, flag s F.CLK_STATUS_HOLDOVER = true → s.clk.heldSince + msec 10 ≤ t →
    exec (.holdoverLimit t) s = .next { at' t s with clk := { s.clk with wide := true } }) ∧
  (∀ t s, s.held = false → flag s F.CLK_STATUS_REF_PRESENT = false →
    ∃ u, exec (.refPresent t) s = .next u ∧ flag u F.CLK_STATUS_REF_PRESENT = true ∧ flag u F.CLK_STATUS_REF_LOST = false)

/-- While REFCLK is present, TDC_PLL_LOCK sets the quadrant's lock bit and notes the instant; 10 µs after, PLL_RELOCK ends
the discarding of its hits, shows PLL_LOCK and sets PLL_RELOCK. PLL_UNLOCK clears the lock bit, sets the quadrant's
event and discards its hits. CLK_PLL_UNLOCK and CLK_PLL_LOCK clear and set the bit of a PLL that the power state
requires. -/
def Obligations.PllLocks : Prop :=
  (∀ t q s, sysOn s = true → q < 4 → flag s F.CLK_STATUS_REF_PRESENT = true → rdBit s F.CLK_STATUS_SYS_LOCK.addr (2 + q) = false →
    ∃ u, exec (.tdcPllLock t q) s = .next u ∧ rdBit u F.CLK_STATUS_SYS_LOCK.addr (2 + q) = true ∧
    pget 0 u.clk.lockedAt q = max s.now t) ∧
  (∀ t q s, sysOn s = true → q ∈ s.clk.discard → rdBit s F.CLK_STATUS_SYS_LOCK.addr (2 + q) = true → q < 4 →
    pget 0 s.clk.lockedAt q + usec 10 ≤ t →
    ∃ u, exec (.pllRelock t q) s = .next u ∧ q ∉ u.clk.discard ∧ flag u (F.TDC_STATUS_PLL_LOCK q) = true ∧
    flag u (F.TDC_STATUS_HOLDOVER q) = false ∧ flag u (F.TDC_EVT_RAW_PLL_RELOCK q) = true) ∧
  (∀ t q s, sysOn s = true → q < 4 → flag s F.CLK_STATUS_REF_PRESENT = true → rdBit s F.CLK_STATUS_SYS_LOCK.addr (2 + q) = true →
    ∃ u, exec (.pllUnlock t q) s = .next u ∧ rdBit u F.CLK_STATUS_SYS_LOCK.addr (2 + q) = false ∧ q ∈ u.clk.discard ∧
    flag u (F.TDC_STATUS_PLL_LOCK q) = false ∧ flag u (F.TDC_EVT_RAW_PLL_UNLOCK q) = true) ∧
  (∀ t i s, clkPll s i = true → rdBit s F.CLK_STATUS_SYS_LOCK.addr i = true →
    ∃ u, exec (.clkPllUnlock t i) s = .next u ∧ rdBit u F.CLK_STATUS_SYS_LOCK.addr i = false ∧ flag u F.CLK_EVT_RAW_PLL_UNLOCK = true) ∧
  (∀ t i s, clkPll s i = true → rdBit s F.CLK_STATUS_SYS_LOCK.addr i = false →
    ∃ u, exec (.clkPllLock t i) s = .next u ∧ rdBit u F.CLK_STATUS_SYS_LOCK.addr i = true)

/-- On a capturing channel a leading edge begins a hit of the gate's shot (of no shot in FREE_RUN), merges into the
previous hit with MERGED counted, or, beyond MAX_HITS + 1, is discarded with EXCESS counted; outside every gate
nothing changes but time. The trailing edge ends the pulse with its time; at the width limit the hit ends with
NO_TRAIL and is counted. -/
def Obligations.HitEdges : Prop :=
  (∀ t c (x : Shot) (dark : Bool) s, chanCaptures s c = true → flag s (F.CH_CTRL_FREE_RUN c) = false → openGate s c = some (x, dark) →
    merges (chan s c) (hitEdge s c t) = false →
    (if (chan s c).shot = x.id + 1 then (chan s c).count else 0) ≤ rd s (F.CH_CTRL_MAX_HITS c) →
    ∃ u, exec (.hitLeadingEdge t c) s = .next u ∧ (chan u c).live = true ∧
    ((chan u c).cur.map fun h => (h.shot, h.time, h.dark, h.trail)) = some (some x.id, hitEdge s c t, dark, none)) ∧
  (∀ t c s, chanCaptures s c = true → flag s (F.CH_CTRL_FREE_RUN c) = true → merges (chan s c) (hitEdge s c t) = false →
    ∃ u, exec (.hitLeadingEdge t c) s = .next u ∧ (chan u c).live = true ∧
    ((chan u c).cur.map fun h => (h.shot, h.time, h.trail)) = some (none, hitEdge s c t, none)) ∧
  (∀ t c (x : Shot) (dark : Bool) s, chanCaptures s c = true → flag s (F.CH_CTRL_FREE_RUN c) = false → openGate s c = some (x, dark) →
    merges (chan s c) (hitEdge s c t) = true →
    ∃ u, exec (.hitLeadingEdge t c) s = .next u ∧
    (reg u (A.CH_MERGED c)).toNat = min ((reg s (A.CH_MERGED c)).toNat + 1) 0xFFFFFFFF) ∧
  (∀ t c (x : Shot) (dark : Bool) s, chanCaptures s c = true → flag s (F.CH_CTRL_FREE_RUN c) = false → openGate s c = some (x, dark) →
    merges (chan s c) (hitEdge s c t) = false → (chan s c).shot = x.id + 1 → rd s (F.CH_CTRL_MAX_HITS c) < (chan s c).count →
    ∃ u, exec (.hitLeadingEdge t c) s = .next u ∧ (chan u c).live = false ∧
    (reg u (A.CH_EXCESS c)).toNat = min ((reg s (A.CH_EXCESS c)).toNat + 1) 0xFFFFFFFF) ∧
  (∀ t c s, flag s (F.CH_CTRL_FREE_RUN c) = false → openGate s c = none → exec (.hitLeadingEdge t c) s = .next (at' t s)) ∧
  (∀ t c (high : Bool) (h : Hit) s, (chan s c).cur = some h → (chan s c).live = true →
    ∃ u, exec (.hitTrailingEdge t c high) s = .next u ∧ (chan u c).live = false ∧
    ((chan u c).cur.map fun x => (x.time, x.trail, x.noTrail)) =
    some (h.time, some (hitEdge s c t), decide (h.time + 65520 ≤ hitEdge s c t))) ∧
  (∀ t c (high : Bool) (h : Hit) s, (chan s c).cur = some h → (chan s c).live = true → h.time + 65520 ≤ t →
    ∃ u, exec (.hitWidthLimit t c high) s = .next u ∧ (chan u c).live = false ∧ (chan u c).cur.map (·.noTrail) = some true ∧
    (reg u (A.CH_NO_TRAIL c)).toNat = min ((reg s (A.CH_NO_TRAIL c)).toNat + 1) 0xFFFFFFFF)

/-- A complete hit enters a channel FIFO of fewer than 64 hits behind the others, carrying FIFO_GAP after a drop, the
newest once no pulse can merge into it any more; at a full FIFO it is dropped and counted. The bank path takes the
oldest hit of the next channel whose oldest hit has a resolved start, or none to wait for. A waiting hit gets its time
and leaves the waiting list. A hit of the rennet stage that waits for no neighbour is judged, and counted as curd or
whey where it may be counted. -/
def Obligations.HitPath : Prop :=
  (∀ t c (h : Hit) (l : List Hit) s, (chan s c).done = h :: l → (chan s c).fifo.length < 64 →
    ∃ u, exec (.hitFifoEntry t c) s = .next u ∧ (chan u c).fifo = (chan s c).fifo ++ [{ h with gap := (chan s c).gapDue }] ∧
    (chan u c).done = l) ∧
  (∀ t c (h : Hit) s, (chan s c).done = [] → (chan s c).cur = some h → h.trail.isSome = true → 5 * h.time + 2048 ≤ 5 * max s.now t →
    (chan s c).fifo.length < 64 →
    ∃ u, exec (.hitFifoEntry t c) s = .next u ∧ (chan u c).fifo = (chan s c).fifo ++ [{ h with gap := (chan s c).gapDue }] ∧
    (chan u c).cur = none) ∧
  (∀ t c (h : Hit) (l : List Hit) s, (chan s c).done = h :: l → (chan s c).fifo.length = 64 →
    ∃ u, exec (.hitFifoEntry t c) s = .next u ∧ (chan u c).fifo = (chan s c).fifo ∧ (chan u c).gapDue = true ∧
    (reg u (A.CH_FIFO_DROP c)).toNat = min ((reg s (A.CH_FIFO_DROP c)).toNat + 1) 0xFFFFFFFF) ∧
  (∀ t (bank c : Nat) (h : Hit) (l : List Hit) s, nextServed s bank = some c → (chan s c).fifo = h :: l →
    ∃ u, exec (.hitDrain t bank) s = .next u ∧ (chan u c).fifo = l ∧
    u.tdc.waiting = s.tdc.waiting ++ (if h.shot.isSome then [(c, h)] else [])) ∧
  (∀ t c (p : Nat × Hit) s, s.tdc.waiting.find? (hitReady s c) = some p →
    ∃ u, exec (.hitTimeFormed t c) s = .next u ∧ u.tdc.waiting = s.tdc.waiting.erase p) ∧
  (∀ t c (x : RennetHit) s, (rennet s (c / 8)).find? (fun y => !y.judged && decide (y.hit.chan = c)) = some x → x.pass = false →
    rennetReady (at' t s) x = true → x.count = true → flag s F.REJ_CTRL_ENABLE = true →
    ∃ u, exec (.rennetJudge t c) s = .next u ∧
    (if isCurd (rennet s (c / 8)) x
    then (reg u (A.RN_CURD (c / 8))).toNat = min ((reg s (A.RN_CURD (c / 8))).toNat + 1) 0xFFFFFFFF
    else (reg u (A.RN_WHEY (c / 8))).toNat = min ((reg s (A.RN_WHEY (c / 8))).toNat + 1) 0xFFFFFFFF))

/-- On a capturing start channel that is not settling, an edge within an open start window becomes the shot's start;
without such a window it is counted as extra or stray. A window that closes without an edge substitutes ST_NOMINAL and
counts ST_MISS. An accepted write of ST_CTRL starts 2 µs without starts, and START_SETTLE_END ends them. An accepted
write of CH_THRESH leaves its codes and starts 2 µs of settling, which SETTLING_END ends. -/
def Obligations.StartsAndThresholds : Prop :=
  (∀ t m (x : Shot) s, quadCaptures s (m / 2) = true → flag s (F.ST_CTRL_ENABLE m) = true → calHolds s = false →
    stSettling s m (max s.now t) = false →
    s.esc.shots.find? (fun y => (y.cfg.start = m && y.issued && !y.closed &&
    decide (edgeTime s (512 + m) t + pget 0 s.cal.cur.tap (512 + m) ≤ y.winEnd)) && y.found.isNone) = some x →
    ∃ u, exec (.startEdge t m) s = .next u ∧
    u.esc.shots = s.esc.shots.map (fun y => if y.id = x.id then
    { x with found := some (((edgeTime s (512 + m) t + pget 0 s.cal.cur.tap (512 + m) : Nat) : Int) - x.start - (x.d * 256 : Nat)) } else y)) ∧
  (∀ t m s, quadCaptures s (m / 2) = true → flag s (F.ST_CTRL_ENABLE m) = true → calHolds s = false →
    stSettling s m (max s.now t) = false → s.esc.shots = [] → m < 8 →
    ∃ u, exec (.startEdge t m) s = .next u ∧ flag u (F.TDC_EVT_RAW_START_STRAY (m / 2)) = true ∧
    (reg u (A.ST_STRAY m)).toNat = min ((reg s (A.ST_STRAY m)).toNat + 1) 0xFFFFFFFF) ∧
  (∀ t m (x : Shot) s, m < 8 → s.esc.shots.find? (fun y => decide (y.cfg.start = m) && y.issued && !y.closed && decide (y.winEnd ≤ t)) = some x →
    x.found = none →
    ∃ u, exec (.startWindowClose t m) s = .next u ∧ flag u (F.TDC_EVT_RAW_START_MISS (m / 2)) = true ∧
    u.esc.shots = s.esc.shots.map (fun y => if y.id = x.id then
    { x with closed := true, found := some (sword (reg s (A.ST_NOMINAL m))), subst := true } else y)) ∧
  (∀ t m (x : Shot) (v : Int) s, s.esc.shots.find? (fun y => decide (y.cfg.start = m) && y.issued && !y.closed && decide (y.winEnd ≤ t)) = some x →
    x.found = some v →
    ∃ u, exec (.startWindowClose t m) s = .next u ∧
    u.esc.shots = s.esc.shots.map (fun y => if y.id = x.id then { x with closed := true } else y)) ∧
  (∀ t r m d s, m < 8 → Accepts t r (A.ST_CTRL m) d s →
    ∃ u, exec (.stCtrlWrite t r m d) s = .next u ∧ pget 0 u.tdc.stSettle m = max s.now t + usec 2) ∧
  (∀ t m s, stSettling s m t = false → ∃ u, exec (.startSettleEnd t m) s = .next u ∧ pget 0 u.tdc.stSettle m = 0) ∧
  (∀ t r c d s, c < 512 → Accepts t r (F.CH_THRESH_THL c).addr d s →
    ∃ u, exec (.chThreshWrite t r c d) s = .next u ∧ (chan u c).settle = max s.now t + usec 2 ∧
    rd u (F.CH_THRESH_THL c) = fld (word d) 0 10 ∧ rd u (F.CH_THRESH_THH c) = fld (word d) 16 10) ∧
  (∀ t c s, (chan s c).settle ≤ t → ∃ u, exec (.settlingEnd t c) s = .next u ∧ (chan u c).settle = 0)

/-- An accepted FCT_SNAP copies the count and extremes of every selected TDU; an accepted FCT_START clears and runs every
selected TDU and arms every selected counter. The gate of a running, armed counter opens at a prescaled edge; it
closes at the first edge after GATE_US with N and T latched and DONE set; without an edge in time NO_SIGNAL is set. -/
def Obligations.TimeDifferenceAndFrequency : Prop :=
  (∀ t r d m s, Accepts t r A.FCT_SNAP d s → m < 16 → bit (word d) m = true →
    ∃ u, exec (.fctSnap t r d) s = .next u ∧ reg u (A.TDU_COUNT m) = word (tduStat s m).count ∧
    reg u (A.TDU_MIN m) = iword (tduStat s m).lo ∧ reg u (A.TDU_MAX m) = iword (tduStat s m).hi) ∧
  (∀ t r d m s, Accepts t r A.FCT_START d s → m < 16 → bit (word d) m = true →
    ∃ u, exec (.fctStart t r d) s = .next u ∧ flag u (F.TDU_CTRL_RUN m) = true ∧ (tduStat u m).count = 0) ∧
  (∀ t r d k s, Accepts t r A.FCT_START d s → k < 4 → bit (word d) (16 + k) = true →
    ∃ u, exec (.fctStart t r d) s = .next u ∧ flag u (F.FC_CTRL_RUN k) = true ∧ fcOf u k = ⟨some (max s.now t), none⟩) ∧
  (∀ t k a s, fcRuns s k = true → (fcOf s k).armed = some a →
    ∃ u, exec (.fcGateOpen t k) s = .next u ∧ fcOf u k = ⟨none, some t⟩) ∧
  (∀ t k n o s, fcRuns s k = true → (fcOf s k).open' = some o → o + usec (rd s (F.FC_CTRL_GATE_US k)) ≤ t →
    ∃ u, exec (.fcGateClose t k n) s = .next u ∧ reg u (A.FC_EDGES k) = word n ∧ reg u (A.FC_TIME_LO k) = word (t - o) ∧
    flag u (F.FC_STATUS_DONE k) = true ∧ flag u (F.FC_STATUS_NO_SIGNAL k) = false) ∧
  (∀ t k a s, fcRuns s k = true → (fcOf s k).armed = some a → a + usec (rd s (F.FC_CTRL_GATE_US k)) ≤ t →
    ∃ u, exec (.noSignal t k) s = .next u ∧ flag u (F.FC_STATUS_NO_SIGNAL k) = true)

/-- When the next scheduled shot of a group is due or is found cut, its dither is drawn from the next state of the group's
sequence, that of its own frame where a later one has begun, and shown in LAST_D, and the next shot takes the next
number. The commanded edge of a due, armed shot is issued, with its start window; after a withdrawal of permission in
time the shot is dropped. -/
def Obligations.ShotsAndEdges : Prop :=
  (∀ t g (w : Sweep) (l : List Sweep) (z : GroupCfg) s, (runOf s g).sweeps = w :: l →
    ((runOf s g).cfg.isSome || flag s (F.LG_CTRL_ENABLE g)) = true → z = (runOf s g).cfg.getD (groupCfg s w g) →
    (shotStart s w z (runOf s g).col (runOf s g).shot).getD t ≤ t → g < 32 →
    ((flag s F.PLN_CTRL_ENABLE || decide (w.frame = s.acq.numbered.getD w.frame)) = true) →
    ∃ u, exec (.shotStart t g) s = .next u ∧ u.esc.nextId = s.esc.nextId + 1 ∧ (runOf u g).lfsr = stage16 (runOf s g).lfsr ∧
    (runOf u g).prev = (runOf s g).prev ∧
    rd u (F.LG_STATUS_LAST_D g) = dither (stage16 (runOf s g).lfsr) z.span % 2 ^ (F.LG_STATUS_LAST_D g).len) ∧
  (∀ t g (w : Sweep) (l : List Sweep) (z : GroupCfg) s, (runOf s g).sweeps = w :: l →
    ((runOf s g).cfg.isSome || flag s (F.LG_CTRL_ENABLE g)) = true → z = (runOf s g).cfg.getD (groupCfg s w g) →
    (shotStart s w z (runOf s g).col (runOf s g).shot).getD t ≤ t → g < 32 →
    flag s F.PLN_CTRL_ENABLE = false → w.frame ≠ s.acq.numbered.getD w.frame →
    ∃ u, exec (.shotStart t g) s = .next u ∧ u.esc.nextId = s.esc.nextId + 1 ∧ (runOf u g).prev = stage16 (runOf s g).prev ∧
    (runOf u g).lfsr = (runOf s g).lfsr ∧
    rd u (F.LG_STATUS_LAST_D g) = dither (stage16 (runOf s g).prev) z.span % 2 ^ (F.LG_STATUS_LAST_D g).len) ∧
  (∀ t g (x : Shot) s, s.esc.shots.find? (fun y => decide (y.group = g) && !y.issued && !y.dropped && decide (y.cmd ≤ t)) = some x →
    edgeStopped s x = false →
    ∃ u, exec (.ltrigEdge t g) s = .next u ∧
    u.esc.shots = s.esc.shots.map (fun y => if y.id = x.id then
    { x with issued := true, darkOpen := false, darkDone := true, winEnd := x.cmd + nsec (rd s (F.ST_CTRL_WIN x.cfg.start)) } else y)) ∧
  (∀ t g (x : Shot) s, s.esc.shots.find? (fun y => decide (y.group = g) && !y.issued && !y.dropped && decide (y.cmd ≤ t)) = some x →
    edgeStopped s x = true →
    ∃ u, exec (.ltrigEdge t g) s = .next u ∧
    u.esc.shots = s.esc.shots.map (fun y => if y.id = x.id then { x with dropped := true, darkOpen := false } else y))

/-- The dark window of a shot opens between its start and its dark end, the range window WIN_START after its edge; each
closes at its own end, and the shot shows it. -/
def Obligations.CaptureGates : Prop :=
  (∀ t g (x : Shot) s, s.esc.shots.find? (fun y => decide (y.group = g) && !y.dropped && (!y.issued && !y.darkDone &&
    decide (y.start ≤ t) && decide (t < y.darkEnd))) = some x →
    ∃ u, exec (.captureGateOpen t g true) s = .next u ∧
    u.esc.shots = s.esc.shots.map (fun y => if y.id = x.id then { x with darkOpen := true } else y)) ∧
  (∀ t g (x : Shot) s, s.esc.shots.find? (fun y => decide (y.group = g) && !y.dropped && (y.issued && !y.rangeOpen && !y.rangeDone &&
    decide (y.cmd + nsec y.cfg.winStart ≤ t))) = some x →
    ∃ u, exec (.captureGateOpen t g false) s = .next u ∧
    u.esc.shots = s.esc.shots.map (fun y => if y.id = x.id then { x with rangeOpen := true } else y)) ∧
  (∀ t g (x : Shot) s, s.esc.shots.find? (fun y => decide (y.group = g) && (y.darkOpen && decide (y.darkEnd ≤ t))) = some x →
    ∃ u, exec (.captureGateClose t g true) s = .next u ∧
    u.esc.shots = s.esc.shots.map (fun y => if y.id = x.id then { x with darkOpen := false, darkDone := true } else y)) ∧
  (∀ t g (x : Shot) s, s.esc.shots.find? (fun y => decide (y.group = g) && (y.issued && !y.rangeDone &&
    decide (y.cmd + nsec (y.cfg.winStart + y.cfg.winLen) ≤ t))) = some x →
    ∃ u, exec (.captureGateClose t g false) s = .next u ∧
    u.esc.shots = s.esc.shots.map (fun y => if y.id = x.id then { x with rangeOpen := false, rangeDone := true } else y))

/-- An accepted write through COL_DATA stores the word at the entry that BANK and INDEX name, a permitted read returns
that entry, and either advances INDEX. An accepted write of ESC.CTRL leaves ENABLE as written, and clearing ENABLE
stops scheduling. -/
def Obligations.EscRegisters : Prop :=
  (∀ t r d s, Accepts t r A.ESC_COL_DATA d s →
    ∃ u, exec (.colDataAccess t r (some d)) s = .next u ∧
    colEntry u (rd s F.ESC_COL_ADDR_BANK) (rd s F.ESC_COL_ADDR_INDEX) = word d ∧
    rd u F.ESC_COL_ADDR_INDEX = (rd s F.ESC_COL_ADDR_INDEX + 1) % 2 ^ F.ESC_COL_ADDR_INDEX.len) ∧
  (∀ t r s, Readable t r A.ESC_COL_DATA s →
    ∃ u, exec (.colDataAccess t r none) s = .next u ∧
    u.bus.lastRead = colEntry s (rd s F.ESC_COL_ADDR_BANK) (rd s F.ESC_COL_ADDR_INDEX) ∧
    rd u F.ESC_COL_ADDR_INDEX = (rd s F.ESC_COL_ADDR_INDEX + 1) % 2 ^ F.ESC_COL_ADDR_INDEX.len) ∧
  (∀ t r d s, Accepts t r F.ESC_CTRL_ENABLE.addr d s → bit (word d) 1 = false →
    ∃ u, exec (.escEnableWrite t r d) s = .next u ∧ flag u F.ESC_CTRL_ENABLE = bit (word d) 0 ∧
    (flag s F.ESC_CTRL_ENABLE = true → bit (word d) 0 = false → u.esc.active = false))

/-- Arming a NETTIME output leaves it armed or, with its target passed, done; with REFCLK lost it stays armed. A due FRAME
pulse lasts its width; a reached target sets DONE and ends ARMED; a pulse ends at its end. A network-timed trigger
arms and fires likewise. -/
def Obligations.TimedOutputs : Prop :=
  (∀ t r i d s, i < 4 → Accepts t r (A.TOUT_SEC_HI i) d s → toutMode s i 1 = true →
    ∃ u, exec (.toutArm t r i d) s = .next u ∧ flag u (F.TOUT_STATUS_ARMED i) = !(flag u (F.TOUT_STATUS_DONE i)) ∧
    (targetsHeld s = true → flag u (F.TOUT_STATUS_ARMED i) = true)) ∧
  (∀ t i (x : Burst) s, (toutEarly t i s).esc.bursts.find? (fun y => decide (y.out = i) && decide (y.start ≤ t)) = some x →
    toutMode s i 0 = true →
    ∃ u, exec (.toutPulse t i) s = .next u ∧ pget 0 u.esc.pulses i = max (pget 0 s.esc.pulses i) (x.start + nsec x.width)) ∧
  (∀ t i s, i < 4 → (toutEarly t i s).esc.bursts.find? (fun y => decide (y.out = i) && decide (y.start ≤ t)) = none → toutMode s i 1 = true →
    flag s (F.TOUT_STATUS_ARMED i) = true → targetsHeld s = false → toutReached (at' t s) i = true →
    ∃ u, exec (.toutPulse t i) s = .next u ∧ flag u (F.TOUT_STATUS_DONE i) = true ∧ flag u (F.TOUT_STATUS_ARMED i) = false) ∧
  (∀ t i s, pget 0 s.esc.pulses i ≤ t → ∃ u, exec (.toutPulseEnd t i) s = .next u ∧ pget 0 u.esc.pulses i = 0) ∧
  (∀ t r i d s, i < 4 → Accepts t r (F.NTT_CTRL_ARM i).addr (withBit d 31) s →
    ∃ u, exec (.nttArm t r i d) s = .next u ∧ flag u (F.NTT_CTRL_ARM i) = !(flag u (F.NTT_CTRL_FIRED i)) ∧
    (targetsHeld s = true → flag u (F.NTT_CTRL_ARM i) = true)) ∧
  (∀ t i s, i < 4 → flag s (F.NTT_CTRL_ARM i) = true → targetsHeld s = false → nttReached (at' t s) i = true →
    ∃ u, exec (.nttFired t i) s = .next u ∧ flag u (F.NTT_CTRL_FIRED i) = true ∧ flag u (F.NTT_CTRL_ARM i) = false)

/-- A column-start marker at the head of a free channel's path begins the pixel, refused where the Vat is disabled or the
bank has no room. A shot marker counts in the pixel's shots, or waits in its hold buffer during a search. A hit time
is counted in NO_CONTEXT for a refused pixel or none, waits during a search, and else adds to the bin it falls in. -/
def Obligations.PixelsBegin : Prop :=
  (∀ t c (p : PixelId) (l : List VatItem) s, path s c = .column p :: l → pixel s c = none → p.chan = c →
    ∃ u, exec (.columnStartMarker t c) s = .next u ∧ path u c = l ∧
    (pixel u c).map (·.refused) = some !(flag s F.VAT_CTRL_ENABLE && fits (engine s (engOf c)) p)) ∧
  (∀ t c id (fired : Bool) d (prov : Bool) (sub : Bool) (l : List VatItem) (p : Pixel) s, path s c = .shot id fired d prov sub :: l → pixel s c = some p →
    p.id.chan = c →
    ∃ u, exec (.shotMarker t c) s = .next u ∧ path u c = l ∧
    (if p.phase = .search then (pixel u c).map (·.hold) = some (p.hold ++ [.shot id fired d prov sub])
    else (pixel u c).map (fun x => (x.scheduled, x.fired, x.subst)) = some (p.scheduled + 1, p.fired + b2n fired, p.subst || sub))) ∧
  (∀ t c (h : HitTime) (l : List VatItem) s, path s c = .hit h :: l → pixel s c = none →
    ∃ u, exec (.hitAccumulate t c) s = .next u ∧ path u c = l ∧
    (reg u A.VAT_NO_CONTEXT).toNat = min ((reg s A.VAT_NO_CONTEXT).toNat + 1) 0xFFFFFFFF) ∧
  (∀ t c (h : HitTime) (l : List VatItem) (p : Pixel) s, path s c = .hit h :: l → pixel s c = some p → p.id.chan = c → p.refused = true →
    p.phase ≠ .search →
    ∃ u, exec (.hitAccumulate t c) s = .next u ∧ path u c = l ∧
    (reg u A.VAT_NO_CONTEXT).toNat = min ((reg s A.VAT_NO_CONTEXT).toNat + 1) 0xFFFFFFFF) ∧
  (∀ t c (h : HitTime) (l : List VatItem) (p : Pixel) s, path s c = .hit h :: l → pixel s c = some p → p.phase = .search →
    ∃ u, exec (.hitAccumulate t c) s = .next u ∧ path u c = l ∧ (pixel u c).map (·.hold) = some (p.hold ++ [.hit h])) ∧
  (∀ t c (h : HitTime) (l : List VatItem) (p : Pixel) k i (x : Ctx) s, path s c = .hit h :: l → pixel s c = some p → p.id.chan = c →
    p.refused = false → p.phase ≠ .search → h.settling = false → h.dark = false → h.subst = false → h.provisional = false →
    findBin (engine s (engOf c)) p.current h.t = some (k, i) → (engine s (engOf c)).slot k = some x →
    ∃ u, exec (.hitAccumulate t c) s = .next u ∧ path u c = l ∧ (engine u (engOf c)).slot k = some ((x.hit i).store i h))

/-- The coarse-to-fine boundary of a pixel with zoom contexts begins the search once its hits have come. The search ends
with no peak, counted, or with zoom contexts open; it waits for an earlier one of the engine's other channel. A pixel
end whose hits and starts have come frees the channel and queues the pixel for close. CONTEXT_CLOSE takes the next
context of the first pixel, and with the last one the pixel leaves. -/
def Obligations.SearchAndPixelEnd : Prop :=
  (∀ t c a (l : List VatItem) (p : Pixel) s, path s c = .boundary a :: l → pixel s c = some p → hitsDue s c a = false → p.refused = false →
    p.id.cfg.peaks ≠ 0 →
    ∃ u, exec (.boundaryMarker t c) s = .next u ∧ path u c = l ∧
    pixel u c = some { p with phase := .search, coarseFired := p.fired, searchAt := max s.now t }) ∧
  (∀ t c (p : Pixel) k (x : Ctx) s, pixel s c = some p → p.phase = .search → p.coarse = some k → (engine s (engOf c)).slot k = some x →
    findPeaks p.id.cfg x = [] → searchWaits s c p = false →
    ∃ u, exec (.zoomOpen t c) s = .next u ∧ (reg u A.VAT_NO_PEAK).toNat = min ((reg s A.VAT_NO_PEAK).toNat + 1) 0xFFFFFFFF) ∧
  (∀ t c (p : Pixel) k (x : Ctx) s, pixel s c = some p → p.id.chan = c → p.phase = .search → p.coarse = some k →
    (engine s (engOf c)).slot k = some x → findPeaks p.id.cfg x ≠ [] → searchWaits s c p = false →
    ∃ u, exec (.zoomOpen t c) s = .next u ∧ (pixel u c).map (·.phase) = some .zoom) ∧
  (∀ t c (p : Pixel) s, pixel s c = some p → searchWaits s c p = true → ∃ u, exec (.zoomOpen t c) s = .next u ∧ pixel u c = some p) ∧
  (∀ t c a b d (l : List VatItem) (p : Pixel) s, path s c = .pixelEnd a b d :: l → pixel s c = some p → hitsDue s c a = false →
    startsDue s p.id.group a = false → p.phase ≠ .search →
    ∃ u, exec (.pixelEndMarker t c) s = .next u ∧ path u c = l ∧ pixel u c = none ∧
    (engine u (engOf c)).closing.length = (engine s (engOf c)).closing.length + 1) ∧
  (∀ t n (x : Closing) (l : List Closing) k k2 (rest : List Nat) s, (engine s n).closing = x :: l → x.todo = k :: k2 :: rest →
    ∃ u, exec (.contextClose t n) s = .next u ∧ ((engine u n).closing.head?.map (·.todo)) = some (k2 :: rest) ∧
    (engine u n).closing.tail = l) ∧
  (∀ t n (x : Closing) (l : List Closing) s, (engine s n).closing = x :: l → x.todo.length ≤ 1 →
    ∃ u, exec (.contextClose t n) s = .next u ∧ (engine u n).closing = l)

/-- A held context that its 200 ns and the order of readout let go, and that every queue has taken, leaves the list of
held contexts. An accepted write of INSP_SEL latches the selected context's header; a permitted read of INSP_BIN_DATA
returns the pair at the index; an accepted write replaces the pair of the open context. Without a renewed temperature
result the walk temperature is held and shown stale. -/
def Obligations.ReadoutAndInspection : Prop :=
  (∀ t n (h : HeldCtx) (l : List HeldCtx) (x : Ctx) s, (engine (flushFrames (at' t s)) n).held = h :: l →
    (engine (flushFrames (at' t s)) n).slot h.slot = some x → h.since + nsec 200 ≤ t →
    readoutInOrder (flushFrames (at' t s)) n h = true → h.ring = false → ctxQueues (flushFrames (at' t s)) h.pixel = [] →
    ∃ u, exec (.contextReadoutComplete t n) s = .next u ∧ (engine u n).held = l) ∧
  (∀ t r d k s, Accepts t r A.VAT_INSP_SEL d s → k < 8 →
    ∃ u, exec (.inspSelWrite t r d) s = .next u ∧
    reg u (A.VAT_INSP_HDR k) = (match inspCtx u with | some c => c.hdr.getD k 0#32 | none => 0#32)) ∧
  (∀ t r s, Readable t r A.VAT_INSP_BIN_DATA s →
    ∃ u, exec (.inspBinDataRead t r) s = .next u ∧ u.bus.lastRead = inspBins s) ∧
  (∀ t r d (x : Ctx) s, Accepts t r A.VAT_INSP_BIN_DATA d s →
    (engine s (rd s F.VAT_INSP_SEL_ENGINE)).slot (rd s F.VAT_INSP_SEL_SLOT) = some x →
    ∃ u, exec (.inspBinDataWrite t r d) s = .next u ∧
    (engine u (rd s F.VAT_INSP_SEL_ENGINE)).slot (rd s F.VAT_INSP_SEL_SLOT) = some { x with bins := pset 0 (pset 0 x.bins (2 * rd s F.VAT_INSP_BIN_IDX_PAIR) (fld (word d) 0 16)) (2 * rd s F.VAT_INSP_BIN_IDX_PAIR + 1) (fld (word d) 16 16) }) ∧
  (∀ t s, flag s (F.HCH_STATUS_VALID (rd s F.RET_TEMP_SEL_CHAN)) = false →
    ∃ u, exec (.tempStale t) s = .next u ∧ flag u F.RET_STATUS_TEMP_STALE = true) ∧
  (∀ t s, pget 0 s.hka.last (rd s F.RET_TEMP_SEL_CHAN) + usec (2 * rd s F.HKA_ROUND_CFG_PERIOD_US) ≤ t →
    ∃ u, exec (.tempStale t) s = .next u ∧ flag u F.RET_STATUS_TEMP_STALE = true)

/-- Every rising index edge that is not discarded counts in IDX_EDGES, and every falling one that is not discarded ends
its pulse. A frame boundary not yet taken is taken, and one already taken does nothing. An accepted genlock edge is
the latest, one that comes too soon counts in GENLOCK_EXTRA, and genlock is lost two expected periods after the last
edge. -/
def Obligations.FramesAndGenlock : Prop :=
  (∀ t s, sysOn s = true → s.clk.discard.contains 0 = false →
    ∃ u, exec (.idxRisingEdge t) s = .next u ∧
    (reg u A.MOT_IDX_EDGES).toNat = min ((reg s A.MOT_IDX_EDGES).toNat + 1) 0xFFFFFFFF) ∧
  (∀ t s (p : Nat × Option Nat), sysOn s = true → s.clk.discard.contains 0 = false → s.ctl.mot.rise = some p → ∃ u, exec (.idxFallingEdge t) s = .next u ∧ u.ctl.mot.rise = none) ∧
  (∀ t (x : Bool) b s, boundaryAt (at' t s) t = some b → sysOn s = true → s.acq.bound < b →
    ∃ u, exec (.frameBoundary t x) s = .next u ∧ u.acq.bound = b) ∧
  (∀ t (x : Bool) b s, boundaryAt (at' t s) t = some b → b ≤ s.acq.bound → exec (.frameBoundary t x) s = .next (at' t s)) ∧
  (∀ t (x : Bool) s, sysOn s = true → s.clk.discard.contains 0 = false → refMode s = 2 → flag s F.ACQ_TIME_REF_GL_FALLING = x →
    (s.acq.glEdge.all fun e => decide (acqPeriod s ≤ 2 * (t - e) * 2 ^ 24)) = true →
    ∃ u, exec (.genlockEdge t x) s = .next u ∧ u.acq.glEdge = some t) ∧
  (∀ t (x : Bool) e s, sysOn s = true → s.clk.discard.contains 0 = false → refMode s = 2 → flag s F.ACQ_TIME_REF_GL_FALLING = x →
    s.acq.glEdge = some e → 2 * (t - e) * 2 ^ 24 < acqPeriod s →
    ∃ u, exec (.genlockEdge t x) s = .next u ∧ u.acq.glEdge = some e ∧
    (reg u A.ACQ_GENLOCK_EXTRA).toNat = min ((reg s A.ACQ_GENLOCK_EXTRA).toNat + 1) 0xFFFFFFFF) ∧
  (∀ t e s, sysOn s = true → refMode s = 2 → s.acq.glEdge = some e → flag s F.ACQ_STATUS_GENLOCK_LOST = false → e + 2 * glExpected s ≤ t →
    ∃ u, exec (.genlockLost t) s = .next u ∧ flag u F.ACQ_STATUS_GENLOCK_LOST = true ∧ flag u F.ACQ_EVT_RAW_GENLOCK_LOST = true)

/-- An accepted write of ACQ.CTRL stores ENABLE. While acquisition runs unstopped an enabled trigger input, trigger-bus
line, host trigger or auto timer adds its event with its source bit; while it does not run the event counts in
TRIG_IGNORED. A resolved event at a position already marked merges, and one at a new position of a frame in flight is
the next trigger, marked there. REARM is accepted only while acquisition is stopped and then waits. -/
def Obligations.TriggerEvents : Prop :=
  (∀ t r d s, Accepts t r A.ACQ_CTRL d s → bit (word d) 1 = false → ∃ u, exec (.acqEnableWrite t r d) s = .next u ∧ rd u F.ACQ_CTRL_ENABLE = fld (word d) 0 1) ∧
  (∀ t n s, sysOn s = true → s.clk.discard.contains 0 = false → n < 2 → rdBit s A.ACQ_TRIG_SRC n = true → acqRuns s = true →
    acqStopped s = false →
    ∃ u, exec (.triggerInputEdge t n (rdBit s A.ACQ_TRIG_IN_CFG n)) s = .next u ∧ u.acq.events = s.acq.events ++ [⟨2 ^ n, t, false, none⟩]) ∧
  (∀ t i s, sysOn s = true → s.clk.discard.contains 0 = false → i < 4 → rdBit s A.ACQ_TRIG_SRC (i + 2) = true → acqRuns s = true →
    acqStopped s = false → tbDeaf s i t = false →
    ∃ u, exec (.triggerInputEdge t (i + 2) ((rd s F.ACQ_TB_CFG_FALL).testBit i)) s = .next u ∧
    u.acq.events = s.acq.events ++ [⟨2 ^ (i + 2), ((t : Int) - signed 16 (rd s (F.ACQ_TB_DELAY i))).toNat, false, none⟩]) ∧
  (∀ t n s, sysOn s = true → s.clk.discard.contains 0 = false → n < 2 → rdBit s A.ACQ_TRIG_SRC n = true → acqRuns s = false →
    ∃ u, exec (.triggerInputEdge t n (rdBit s A.ACQ_TRIG_IN_CFG n)) s = .next u ∧ u.acq.events = s.acq.events ∧
    (reg u A.ACQ_TRIG_IGNORED).toNat = min ((reg s A.ACQ_TRIG_IGNORED).toNat + 1) 0xFFFFFFFF) ∧
  (∀ t r d s, Accepts t r A.ACQ_CTRL (withBit d 2) s → bit (word d) 1 = false → rdBit s A.ACQ_TRIG_SRC 8 = true → acqRuns s = true → acqStopped s = false →
    noBoundary s = false →
    ∃ u, exec (.hostTrig t r d) s = .next u ∧ u.acq.events = s.acq.events ++ [⟨2 ^ 8, max s.now t, false, none⟩]) ∧
  (∀ t t0 s, s.acq.auto' = some t0 → rdBit s A.ACQ_TRIG_SRC 9 = true → acqRuns s = true → acqStopped s = false →
    t0 + msec (rd s F.ACQ_AUTO_TIMEOUT) ≤ t →
    ∃ u, exec (.autoTrigger t) s = .next u ∧ u.acq.events = s.acq.events ++ [⟨2 ^ 9, t, true, none⟩]) ∧
  (∀ t (e : TrigEvent) n p s, s.acq.events = [e] → e.at' ≤ t → eventPosition s e = some (n, p) → p < 2 ^ 24 → isMarked s n p = true →
    ∃ u, exec (.triggerResolve t) s = .next u ∧ u.acq.events = [] ∧ isMarked u n p = true ∧ u.acq.trigNum = s.acq.trigNum ∧
    (reg u A.ACQ_TRIG_MERGED).toNat = min ((reg s A.ACQ_TRIG_MERGED).toNat + 1) 0xFFFFFFFF) ∧
  (∀ t (e : TrigEvent) n p (f : Frame) s, s.acq.events = [e] → e.at' ≤ t → eventPosition s e = some (n, p) → p < 2 ^ 24 →
    isMarked s n p = false → frameOf s n = some f →
    ∃ u, exec (.triggerResolve t) s = .next u ∧ u.acq.events = [] ∧ isMarked u n p = true ∧ u.acq.trigNum = (s.acq.trigNum + 1) % 2 ^ 32) ∧
  (∀ t r d s, Accepts t r A.ACQ_CTRL (withBit d 3) s → bit (word d) 1 = false → acqStopped s = true → ∃ u, exec (.rearm t r d) s = .next u ∧ u.acq.rearm = true)

/-- Once the closed pixels have been emitted: FILL passes to READY when the ring has filled to PRE; POST passes to HOLDOFF
when its last position is captured and positions of hold-off remain, else to FILL or READY; HOLDOFF passes to FILL or
READY when they have passed. A sequence whose SEQ_END has left every stream and queue leaves with SEQ_DONE. -/
def Obligations.RetentionStates : Prop :=
  (∀ t s, retState (flushFrames (at' t s)) = 1 → fillState (flushFrames (at' t s)) = 2 →
    ∃ u, exec (.retentionFillReady t) s = .next u ∧ retState u = 2) ∧
  (∀ t s, retState (flushFrames (at' t s)) = 3 → (flushFrames (at' t s)).acq.post ≤ capturedTo (flushFrames (at' t s)) →
    ∃ u, exec (.retentionPostEnd t) s = .next u ∧
    retState u = if (flushFrames (at' t s)).acq.post < (flushFrames (at' t s)).acq.hold then 4 else fillState (flushFrames (at' t s))) ∧
  (∀ t s, retState s = 4 → s.acq.hold ≤ capturedTo s → ∃ u, exec (.retentionHoldoffEnd t) s = .next u ∧ retState u = fillState s) ∧
  (∀ t (q : Seq) s, s.acq.seqs = [q] → q.closed = true → seqEndWaits s q.num = false →
    ∃ u, exec (.seqDone t) s = .next u ∧ u.acq.seqs = [] ∧ flag u F.ACQ_EVT_RAW_SEQ_DONE = true)

/-- A record that has been held 200 ns leaves the head of its stream. An accepted write of Q_CFG or Q_ROUTE is pending
with its fields in the shadow, and with acquisition disabled and no frame of the queue in progress it is in force 1 µs
later. On a free line with no other traffic the queue picked in order of PRIO sends a segment: its SEG number advances
and it is the last served. -/
def Obligations.RecordsAndQueues : Prop :=
  (∀ t st (x : Rec) (l : List Rec) s, stream (flushFrames (at' t s)) st = x :: l → x.at' + nsec 200 ≤ t → (st % 8 ≠ 4 ∨ x.typ ≠ 0x14) →
    (flushFrames (at' t s)).acq.seqs = [] → ∃ u, exec (.recordEnqueue t st) s = .next u ∧ stream u st = l) ∧
  (∀ t r k (x : Bool) d s (f : FieldRow), k < 16384 → Accepts t r (qBase k + if x then 4 else 0) d s →
    f ∈ fieldsAt (qBase k + if x then 4 else 0) →
    ∃ u, exec (.queueCfgWrite t r k x d) s = .next u ∧ fld (shadowReg u (qBase k + if x then 4 else 0)) f.lo f.len = fld (word d) f.lo f.len ∧
    (queue u k).pendAt = max s.now t) ∧
  (∀ t k s, qPending s k = true → (queue s k).inFrame = false → flag s F.ACQ_CTRL_ENABLE = false → (queue s k).pendAt + usec 1 ≤ t →
    ∃ u, exec (.queueCfgApplyIdle t k) s = .next u ∧ qPending u k = false ∧ reg u (qBase k) = shadowReg s (qBase k) ∧
    reg u (qBase k + 4) = shadowReg s (qBase k + 4)) ∧
  (∀ t b p k s, lineFree (newLcw (at' t s) b) b t = true → (bundle s b).replay = [] → nextFrame (newLcw (at' t s) b) b = none →
    pickQueue (newLcw (at' t s) b) b = some (p, k) → b < 32 → p < 4 →
    ∃ u, exec (.segmentSend t b) s = .next u ∧ reg u (A.Q_SEG k) = reg s (A.Q_SEG k) + 1#32 ∧ pget 0 u.stq.turn (4 * b + p) = k)

/-- An idle enabled engine starts a job for the queue that is due, priming where it is not that of its last job, and
priming ends after 640 ns for a full window, at once for another. A block that ends and finds its room counts in
BLOCKS, stored where the Press is disabled, and compressed where the engine's output decodes to its input and is
within EXPAND_LIMIT, beyond which EXPAND is raised and counted; one that finds no room halts. A halted job resumes
with RESUMED, by itself or by a write of RESUME under MANUAL. -/
def Obligations.PressJobs : Prop :=
  (∀ t e k s, e < 32 → flag s F.PRS_CTRL_ENABLE = true → (press s e).job = none → pressPick s e = some k →
    ∃ u, exec (.pressJobStart t e) s = .next u ∧ (press u e).job = some (k, t, decide ((press s e).last ≠ some k)) ∧
    (press u e).last = some k ∧ rd u (F.PJ_STATUS_STATE e) = if (press s e).last = some k then 1 else 3) ∧
  (∀ t e k t0 s, (press s e).job = some (k, t0, true) →
    t0 + (if (queue s k).window.length = 32768 then nsec 640 else 0) ≤ t →
    ∃ u, exec (.pressPrimeDone t e) s = .next u ∧ (press u e).job = some (k, t, false)) ∧
  (∀ t k (b : List Byte) n m s, (queue s k).pressing = true → (queue s k).halt = none → blockEnds s k t = true → flag s F.PRS_CTRL_ENABLE = false →
    (press s (boundEng s k)).job = none → storedHeaders (4 * (nextInput s k).1.length) = n →
    begun ((queue s k).outN + n) - begun (queue s k).outN = m → canTakeUpTo (setQueue s k { queue s k with codes := none }) k m = m →
    ∃ u, exec (.pressBlockEnd t k b) s = .next u ∧ (reg u A.PRS_BLOCKS).toNat = min ((reg s A.PRS_BLOCKS).toNat + 1) 0xFFFFFFFF) ∧
  (∀ t k (b : List Byte) n m s, (queue s k).pressing = true → (queue s k).halt = none → blockEnds s k t = true → flag s F.PRS_CTRL_ENABLE = false →
    (press s (boundEng s k)).job = none → storedHeaders (4 * (nextInput s k).1.length) = n →
    begun ((queue s k).outN + n) - begun (queue s k).outN = m → canTakeUpTo (setQueue s k { queue s k with codes := none }) k m ≠ m →
    ∃ u, exec (.pressBlockEnd t k b) s = .next u ∧ (queue u k).halt.isSome = true ∧ flag u F.PRS_EVT_RAW_HALT = true) ∧
  (∀ t k e t0 (b : List Byte) (ws : List Word) (x : List Nat × List Nat) m s, (queue s k).pressing = true → (queue s k).halt = none →
    blockEnds s k t = true → flag s F.PRS_CTRL_ENABLE = true → jobOf s k = some e → (press s e).job = some (k, t0, false) →
    (nextInput s k).1 = ws → consumedWords (at' t s) k t0 false = ws.length →
    inflate (flag s (F.Q_CFG_BTYPE k) && !(queue s k).restart && !(queue s k).fresh && !(windowReset s k)) (queue s k).codes (blockWindow s k) b = some (streamBytes ws, x) →
    b.length * 256 < 4 * ws.length * (reg s A.PRS_EXPAND_LIMIT).toNat → begun ((queue s k).outN + b.length) - begun (queue s k).outN = m →
    canTakeUpTo (setQueue s k { queue s k with codes := some x }) k m = m →
    ∃ u, exec (.pressBlockEnd t k b) s = .next u ∧ (reg u A.PRS_BLOCKS).toNat = min ((reg s A.PRS_BLOCKS).toNat + 1) 0xFFFFFFFF) ∧
  (∀ t k e t0 (b : List Byte) (ws : List Word) (x : List Nat × List Nat) s, (queue s k).pressing = true → (queue s k).halt = none →
    blockEnds s k t = true → flag s F.PRS_CTRL_ENABLE = true → jobOf s k = some e → (press s e).job = some (k, t0, false) →
    (nextInput s k).1 = ws → consumedWords (at' t s) k t0 false = ws.length →
    inflate (flag s (F.Q_CFG_BTYPE k) && !(queue s k).restart && !(queue s k).fresh && !(windowReset s k)) (queue s k).codes (blockWindow s k) b = some (streamBytes ws, x) →
    4 * ws.length * (reg s A.PRS_EXPAND_LIMIT).toNat ≤ b.length * 256 →
    ∃ u, exec (.pressBlockEnd t k b) s = .next u ∧ flag u F.PRS_EVT_RAW_EXPAND = true ∧ flag u (F.PJ_STATUS_EXPAND_LAST e) = true ∧
    (reg u A.PRS_EXPANDED).toNat = min ((reg s A.PRS_EXPANDED).toNat + 1) 0xFFFFFFFF) ∧
  (∀ t e k (h : Halt) s, haltedOn s e = some (k, h) → flag s F.PRS_CTRL_MANUAL = false → canTake s k 1 = true →
    ∃ u, exec (.resumed t e) s = .next u ∧ flag u F.PRS_EVT_RAW_RESUMED = true) ∧
  (∀ t r e s, e < 32 → Accepts t r (F.PJ_CTRL_RESUME e).addr 1 s →
    ∃ u, exec (.resume t r e) s = .next u ∧ flag u F.PRS_EVT_RAW_RESUMED = true)

/-- An accepted write of a bundle's ENABLE stores it: the bundle enters DETECT, or becomes DISABLED. Bit lock shows on its
lane and takes a bundle in DETECT to TRAINING; a valid training set is kept for its lane, and one that is not ends the
run of sets. A step that every lane to join has met is followed by the next, CREDIT by UP. A step that times out with
no lane fails the attempt: DETECT again, or FAILED after TRAIN_ATTEMPTS, and with AUTO_RESTART DETECT 100 ms later. -/
def Obligations.LinkTraining : Prop :=
  (∀ t r b d s, b < 32 → Accepts t r (F.B_CTRL_ENABLE b).addr d s → bit (word d) 0 = true → bit (word d) 1 = false →
    flag s (F.B_CTRL_ENABLE b) = false → flag s F.WNB_CTRL_ENABLE = true → rd s (F.B_STATUS_STATE b) = 0 →
    ∃ u, exec (.bundleEnableWrite t r b d) s = .next u ∧ flag u (F.B_CTRL_ENABLE b) = true ∧ rd u (F.B_STATUS_STATE b) = 1) ∧
  (∀ t r b d s, b < 32 → Accepts t r (F.B_CTRL_ENABLE b).addr d s → bit (word d) 0 = false → bit (word d) 1 = false →
    flag s (F.B_CTRL_ENABLE b) = true →
    ∃ u, exec (.bundleEnableWrite t r b d) s = .next u ∧ flag u (F.B_CTRL_ENABLE b) = false ∧ rd u (F.B_STATUS_STATE b) = 0 ∧
    bundle u b = Bundle.off) ∧
  (∀ t l s, l < 144 → flag s (F.LNQ_CTRL_ENABLE (l / 4)) = true →
    ((bundleOf s l).all fun x => !(rateSetsOut (at' t s) x.1 l)) = true →
    ∃ u, exec (.laneBitLock t l) s = .next u ∧ flag u (F.LN_STATUS_CDR_LOCK l) = true ∧ (laneSt u l).bit = true) ∧
  (∀ t l b i s, l < 144 → flag s (F.LNQ_CTRL_ENABLE (l / 4)) = true → bundleOf s l = some (b, i) → rd s (F.B_STATUS_STATE b) = 1 →
    (rd s (F.LN_STATUS_STATE l) = 1 ∨ rd s (F.LN_STATUS_STATE l) = 3) →
    ∃ u, exec (.laneBitLock t l) s = .next u ∧ rd u (F.B_STATUS_STATE b) = 2 ∧ (bundle u b).step = 1 ∧ (bundle u b).cand = joinable u b) ∧
  (∀ t l (y : List Nat) (e : Bool) (x : TsSet) s, parseTs y e = some x →
    ∃ u, exec (.tsSetReceived t l ⟨y, e⟩) s = .next u ∧ (laneSt u l).set = some x) ∧
  (∀ t l (y : List Nat) (e : Bool) s, parseTs y e = none →
    ∃ u, exec (.tsSetReceived t l ⟨y, e⟩) s = .next u ∧ (laneSt u l).set = (laneSt s l).set ∧ (laneSt u l).ts1 = 0 ∧ (laneSt u l).ts2 = 0) ∧
  (∀ t b n s, b < 32 → rd s (F.B_STATUS_STATE b) = 2 → 1 ≤ (bundle s b).step → (bundle s b).step ≤ 4 → stepPassed (at' t s) b n ≠ 0 →
    stepPassed (at' t s) b n = (bundle s b).cand →
    ∃ u, exec (.trainStepComplete t b n) s = .next u ∧
    (bundle u b).step = (if (bundle s b).step = 1 ∧ (isPairBundle s b ∨ targetRate s b = rd s (F.B_STATUS_RATE b)) then 3
    else (bundle s b).step + 1) ∧ rd u (F.B_STATUS_STATE b) = 2) ∧
  (∀ t b n s, b < 32 → rd s (F.B_STATUS_STATE b) = 2 → (bundle s b).step = 5 → stepPassed (at' t s) b n ≠ 0 →
    stepPassed (at' t s) b n = (bundle s b).cand →
    ∃ u, exec (.trainStepComplete t b n) s = .next u ∧ rd u (F.B_STATUS_STATE b) = 3 ∧ rd u (F.B_MASK_TX b) = (bundle s b).cand % 2 ^ 16 ∧
    flag u (F.B_EVT_RAW_UP b) = true) ∧
  (∀ t b n s, b < 32 → rd s (F.B_STATUS_STATE b) = 2 → (bundle s b).step ≠ 0 →
    (bundle s b).stepAt + stepTimeout (bundle s b).step ≤ t → stepPassed (at' t s) b n = 0 →
    ∃ u, exec (.trainStepTimeout t b n) s = .next u ∧
    rd u (F.B_STATUS_STATE b) = (if rd s (F.B_CFG_TRAIN_ATTEMPTS b) ≤ (bundle s b).attempts + 1 then 6 else 1) ∧
    (bundle u b).attempts = (bundle s b).attempts + 1) ∧
  (∀ t b s, b < 32 → rd s (F.B_STATUS_STATE b) = 6 → flag s (F.B_CTRL_AUTO_RESTART b) = true → (bundle s b).since + msec 100 ≤ t →
    ∃ u, exec (.trainFailRestart t b) s = .next u ∧ rd u (F.B_STATUS_STATE b) = 1 ∧ (bundle u b).attempts = 0)

/-- On a bundle that is UP: an ACK releases exactly the frames it covers and a NAK counts; a CREDIT sets its LIMIT; a
frame in sequence advances SEQ_LAST and counts, one with a wrong CRC or a line fault counts in CRC_ERR, and one cut by
ABORT is ignored. A free line sends the next frame under the next SEQ, or the next of a replay. An ACK that is due is
sent, and so are the CREDITs. The oldest frame unacknowledged for REPLAY_TO starts a replay, or RECOVERY after
REPLAY_MAX. A reserved link control word counts in CRC_ERR. -/
def Obligations.LinkFrames : Prop :=
  (∀ t b n s, bundleUp s b = true →
    ∃ u, exec (.ack t b n) s = .next u ∧ (bundle u b).sent = (bundle s b).sent.filter fun f => !(seqLe f.seq n)) ∧
  (∀ t b n s, b < 32 → bundleUp s b = true →
    ∃ u, exec (.nak t b n) s = .next u ∧ (reg u (A.B_NAK_RX b)).toNat = min ((reg s (A.B_NAK_RX b)).toNat + 1) 0xFFFFFFFF) ∧
  (∀ t b v n s, ∃ u, exec (.credit t b v n) s = .next u ∧ pget 0 (bundle u b).limit (v % 8) = n % 8192) ∧
  (∀ t b (h d : List Word) (c : Word) k (e : List (Nat × Nat × Nat)) s, b < 32 → bundleUp s b = true → h.length = 4 →
    fld (h.getD 1 0#32) 0 16 ≤ 4096 → d.length = (fld (h.getD 1 0#32) 0 16 + 3) / 4 → c = word (crc32 (wordBytes (h ++ d))) →
    fld (h.getD 1 0#32) 16 16 = (rd s (F.B_SEQ_LAST b) + 1) % 65536 →
    ∃ u, exec (.frameReceived t b h d ⟨c, 0, k, e⟩) s = .next u ∧ rd u (F.B_SEQ_LAST b) = fld (h.getD 1 0#32) 16 16 ∧
    (reg u (A.BA_FRAMES_RX b)).toNat = min ((reg s (A.BA_FRAMES_RX b)).toNat + 1) 0xFFFFFFFF) ∧
  (∀ t b (h d : List Word) (c : Word) x k (e : List (Nat × Nat × Nat)) s, b < 32 → bundleUp s b = true → x ≠ 2 →
    (x = 1 ∨ c ≠ word (crc32 (wordBytes (h ++ d)))) →
    ∃ u, exec (.frameReceived t b h d ⟨c, x, k, e⟩) s = .next u ∧
    (reg u (A.B_CRC_ERR b)).toNat = min ((reg s (A.B_CRC_ERR b)).toNat + 1) 0xFFFFFFFF ∧ rd u (F.B_SEQ_LAST b) = rd s (F.B_SEQ_LAST b)) ∧
  (∀ t b (h d : List Word) (c : Word) k (e : List (Nat × Nat × Nat)) s,
    exec (.frameReceived t b h d ⟨c, 2, k, e⟩) s = .next (lineCounts (newLcw (at' t s) b) b k e)) ∧
  (∀ t b (p : LinkFrame × Nat) s, b < 32 → lineFree s b t = true → (bundle s b).replay = [] → nextFrame s b = some p →
    ∃ u, exec (.frameTransmit t b) s = .next u ∧ (bundle u b).sent = (bundle s b).sent ++ [⟨rd s (F.B_SEQ_NEXT b), p.1, max s.now t⟩] ∧
    rd u (F.B_SEQ_NEXT b) = (rd s (F.B_SEQ_NEXT b) + 1) % 65536 ∧ pget [] u.wnb.tx b = (pget [] s.wnb.tx b).erase p) ∧
  (∀ t b q (l : List Nat) s, b < 32 → lineFree s b t = true → (bundle s b).replay = q :: l →
    ∃ u, exec (.frameTransmit t b) s = .next u ∧ (bundle u b).replay = l ∧ rd u (F.B_SEQ_NEXT b) = rd s (F.B_SEQ_NEXT b)) ∧
  (∀ t b x s, (bundle s b).ackDue = some x → x ≤ t → bundleUp s b = true →
    ∃ u, exec (.ackIntExpire t b) s = .next u ∧ (bundle u b).ackDue = none ∧ (bundle u b).lcw = [rd s (F.B_SEQ_LAST b)]) ∧
  (∀ t b x s, (bundle s b).creditDue = some x → x ≤ t → bundleUp s b = true →
    ∃ u, exec (.creditIntExpire t b) s = .next u ∧ (bundle u b).creditDue = none) ∧
  (∀ t b (f : TxFrame) (l : List TxFrame) s, b < 32 → (bundle s b).sent = f :: l → bundleUp s b = true →
    f.at' + nsec (100 * rd s (F.B_TIMERS_REPLAY_TO b)) ≤ t →
    ∃ u, exec (.replayTimeout t b) s = .next u ∧
    (if rd s (F.B_RETRY_REPLAY_MAX b) ≤ (bundle s b).tries then rd u (F.B_STATUS_STATE b) = 4
    else (bundle u b).replay = (f :: l).map (·.seq) ∧ (reg u (A.B_REPLAYS b)).toNat = min ((reg s (A.B_REPLAYS b)).toNat + 1) 0xFFFFFFFF)) ∧
  (∀ t b s, bundleUp s b = true → ∃ u, exec (.reservedLcw t b) s = .next u ∧
    (reg u (A.B_CRC_ERR b)).toNat = min ((reg s (A.B_CRC_ERR b)).toNat + 1) 0xFFFFFFFF)

/-- A partner's LANE_OFFER with lanes in common is taken, its LANE_TX waits for the next ALIGN, and the switch puts a mask
in force. A lane fault takes an active lane out, counted; RETRY releases a held lane; a background attempt starts on a
quarantined lane and ends in STANDBY or failure. A write of LANE_EN stores it. RETRAIN takes a bundle that is UP to
RECOVERY, and a RECOVERY past RECOVERY_MS takes it DOWN, or to DETECT with AUTO_RESTART. -/
def Obligations.LinkLanes : Prop :=
  (∀ t b m s, b < 32 → bundleUp s b = true → convMask s b m &&& rd s (F.B_OFFER_OWN b) ≠ 0 →
    ∃ u, exec (.laneOffer t b m) s = .next u ∧ rd u (F.B_OFFER_PARTNER b) = convMask s b m ∧ rd u (F.B_STATUS_STATE b) = 3) ∧
  (∀ t b m s, bundleUp s b = true → ∃ u, exec (.laneTx t b m) s = .next u ∧ (bundle u b).rxMask = some (convMask s b m)) ∧
  (∀ t b m s, b < 32 → (bundle s b).rxMask = some m →
    ∃ u, exec (.laneMaskSwitch t b true) s = .next u ∧ (bundle u b).rxMask = none ∧ rd u (F.B_MASK_RX b) = m % 2 ^ 16) ∧
  (∀ t b m s, b < 32 → (bundle s b).txMask = some m → offerAnd s b = m → m ≠ 0 →
    ∃ u, exec (.laneMaskSwitch t b false) s = .next u ∧ (bundle u b).txMask = none ∧ rd u (F.B_MASK_TX b) = m % 2 ^ 16) ∧
  (∀ t l c m n b i s, l < 144 → bundleOf s l = some (b, i) → rd s (F.LN_STATUS_STATE l) = 2 →
    ∃ u, exec (.quarantine t l c m n) s = .next u ∧ rd u (F.LN_STATUS_STATE l) ∉ [2, 6] ∧
    (reg u (A.LN_QUARANTINES l)).toNat = min ((reg s (A.LN_QUARANTINES l)).toNat + 1) 0xFFFFFFFF) ∧
  (∀ t l b i s, l < 144 → bundleOf s l = some (b, i) → bundleUp s b = true → rd s (F.LN_STATUS_STATE l) = 3 → (laneSt s l).busy = false →
    (laneSt s l).at' ≤ t → flag s (F.LNQ_CTRL_ENABLE (l / 4)) = true → lrefPresent s (groupOf l) = true →
    ∃ u, exec (.laneRetrainAttempt t l) s = .next u ∧ rd u (F.LN_STATUS_STATE l) = 1 ∧ (laneSt u l).busy = true) ∧
  (∀ t l b i s, l < 144 → bundleOf s l = some (b, i) → (laneSt s l).busy = true → (laneSt s l).once = false →
    ∃ u, exec (.laneRetrainEnd t l false) s = .next u ∧ rd u (F.LN_STATUS_STATE l) = 3 ∧ (laneSt u l).busy = false) ∧
  (∀ t l b i s, l < 144 → bundleOf s l = some (b, i) → (laneSt s l).busy = true → bundleUp s b = true →
    (rd s (F.B_OFFER_OWN b) ||| 2 ^ i) &&& rd s (F.B_OFFER_PARTNER b) ≠ 0 →
    ∃ u, exec (.laneRetrainEnd t l true) s = .next u ∧ rd u (F.LN_STATUS_STATE l) = 6 ∧ (laneSt u l).busy = false ∧
    rd u (F.B_OFFER_OWN b) = rd s (F.B_OFFER_OWN b) ||| 2 ^ i) ∧
  (∀ t r l d b i s, l < 144 → Accepts t r (F.LN_CTRL_LOOP l).addr (withBit d 31) s → rd s (F.LN_STATUS_STATE l) = 4 → (laneSt s l).held = true →
    bundleOf s l = some (b, i) →
    ∃ u, exec (.lnCtrlRetry t r l d) s = .next u ∧ rd u (F.LN_STATUS_STATE l) = 3 ∧ (laneSt u l).once = true ∧ (laneSt u l).outs = [] ∧
    (laneSt u l).held = false) ∧
  (∀ t r b d s, b < 32 → Accepts t r (F.B_LANES_FIRST b).addr d s →
    ∃ u, exec (.laneEnWrite t r b d) s = .next u ∧ rd u (F.B_LANES_LANE_EN b) = fld (word d) 16 16 ∧ rd u (F.B_LANES_FIRST b) = fld (word d) 8 8) ∧
  (∀ t r b d s, b < 32 → Accepts t r (F.B_CTRL_ENABLE b).addr (withBit d 2) s → bit (word d) 0 = true → bit (word d) 1 = false →
    flag s (F.B_CTRL_ENABLE b) = true → ∃ u, exec (.retrain t r b d) s = .next u ∧ rd u (F.B_STATUS_STATE b) = 4) ∧
  (∀ t b s, b < 32 → rd s (F.B_STATUS_STATE b) = 4 → (bundle s b).since + msec (rd s (F.B_RETRY_RECOVERY_MS b)) ≤ t →
    ∃ u, exec (.down t b) s = .next u ∧ rd u (F.B_STATUS_STATE b) = (if flag s (F.B_CTRL_AUTO_RESTART b) then 1 else 5) ∧
    (bundle u b).sent = [] ∧ flag u (F.B_EVT_RAW_DOWN b) = true)

/-- A POWER request on an idle bundle that is UP is acknowledged and entered at the next ALIGN, its refusal clears the own
request, and an own request stands until it is answered. L1 is left 800 ns after an exit starts; a waiting frame, an
own request for L0 or the partner starts it, and L2 is left through RECOVERY. A group whose reference is lost shows it
and its lanes lose lock, and its return shows. An accepted write of LG_RATE sets the ceilings. A checker shows its
sync and counts its errors. -/
def Obligations.LinkPowerAndReference : Prop :=
  (∀ t b x s, b < 32 → idleLink s b = true → x ≠ 0 → x ≠ 3 →
    ∃ u, exec (.power t b false x) s = .next u ∧ (bundle u b).enter = some x ∧ (bundle u b).lcw = [5 * 2 ^ 21 + 2 ^ 20 + x * 2 ^ 16]) ∧
  (∀ t b s, bundleUp s b = true → ∃ u, exec (.power t b false 0) s = .next u ∧ (bundle u b).asked = false ∧
    (bundle u b).retryAt = max s.now t + usec 10) ∧
  (∀ t b x s, bundleUp s b = true → (bundle s b).asked = true → x ≠ 0 →
    ∃ u, exec (.power t b true x) s = .next u ∧ (bundle u b).asked = false ∧ (bundle u b).enter = some x) ∧
  (∀ t r b d s, b < 32 → Accepts t r (F.B_CTRL_ENABLE b).addr d s → bit (word d) 1 = false →
    ∃ u, exec (.powerReqWrite t r b d) s = .next u ∧ rd u (F.B_CTRL_POWER_REQ b) = fld (word d) (F.B_CTRL_POWER_REQ b).lo (F.B_CTRL_POWER_REQ b).len) ∧
  (∀ t b s, (bundle s b).retryAt ≤ t → rd s (F.B_CTRL_POWER_REQ b) ≠ 0 → rd s (F.B_STATUS_POWER b) = 0 → idleLink s b = true →
    ∃ u, exec (.powerRetry t b) s = .next u ∧ (bundle u b).asked = true ∧ (bundle u b).lcw = [5 * 2 ^ 21 + rd s (F.B_CTRL_POWER_REQ b) * 2 ^ 16]) ∧
  (∀ t b (x : Bool) s, bundleUp s b = true → rd s (F.B_STATUS_POWER b) = 1 → (bundle s b).waking = none →
    (x || decide (rd s (F.B_CTRL_POWER_REQ b) = 0) || (flag s (F.B_CTRL_AUTO_WAKE b) && frameWaits s b)) = true →
    ∃ u, exec (.powerExit t b x) s = .next u ∧ (bundle u b).waking = some t) ∧
  (∀ t b (x : Bool) s, b < 32 → bundleUp s b = true → rd s (F.B_STATUS_POWER b) = 2 → (bundle s b).waking = none →
    (x || decide (rd s (F.B_CTRL_POWER_REQ b) = 0) || (flag s (F.B_CTRL_AUTO_WAKE b) && frameWaits s b)) = true →
    ∃ u, exec (.powerExit t b x) s = .next u ∧ rd u (F.B_STATUS_POWER b) = 0 ∧ rd u (F.B_STATUS_STATE b) = 4) ∧
  (∀ t b x s, b < 32 → (bundle s b).enter = some x → x < 4 →
    ∃ u, exec (.linkPowerEntry t b) s = .next u ∧ rd u (F.B_STATUS_POWER b) = x ∧ (bundle u b).enter = none) ∧
  (∀ t b x s, b < 32 → (bundle s b).waking = some x → x + nsec 800 ≤ t →
    ∃ u, exec (.l1ExitDone t b) s = .next u ∧ rd u (F.B_STATUS_POWER b) = 0 ∧ (bundle u b).waking = none) ∧
  (∀ t g s, g < 9 → rdBit s A.WNB_LREF_SEL g = true → rdBit s A.WNB_LREF_STATUS g = true →
    ∃ u, exec (.lrefLost t g) s = .next u ∧ rdBit u A.WNB_LREF_STATUS g = false ∧ (∀ l ∈ List.range 16, flag u (F.LN_STATUS_PLL_LOCK (16 * g + l)) = false)) ∧
  (∀ t g s, g < 9 → rdBit s A.WNB_LREF_SEL g = true → rdBit s A.WNB_LREF_STATUS g = false →
    ∃ u, exec (.lrefReturn t g) s = .next u ∧ rdBit u A.WNB_LREF_STATUS g = true ∧ (∀ l ∈ List.range 16, (laneSt u (16 * g + l)).at' = t)) ∧
  (∀ t r d g s, Accepts t r F.WNB_LG_RATE_G0.addr d s → g < 9 →
    ∃ u, exec (.lgRateWrite t r d) s = .next u ∧ ceiling u g = fld (word d) (3 * g) 3) ∧
  (∀ t l (x : Bool) n s, l < 144 → rd s (F.LN_CTRL_PRBS_RX l) ≠ 0 →
    ∃ u, exec (.prbsSync t l x n) s = .next u ∧ flag u (F.LN_STATUS_PRBS_SYNC l) = x ∧
    (flag s (F.LN_STATUS_PRBS_SYNC l) = true → (reg u (A.LN_PRBS_ERR l)).toNat = min ((reg s (A.LN_PRBS_ERR l)).toNat + n) 0xFFFFFFFF))

/-- On a bundle that is UP, a REG_WR of one word makes the write as that bundle, and a REG_RD of one word the read, with
the code that the register bus gives. A frame whose LENGTH does not fit is answered with a REG_CPL of code 0x03 and
makes no access. -/
def Obligations.LinkRegisterAccess : Prop :=
  (∀ t b x y d s, BusIdle s → sysOn s = true → b < 32 → bundleUp s b = true → fld (word y) 0 8 = 0 → slowAddr (fld (word x) 0 24) s = false →
    ∃ u, exec (.regWr t b 12 [x, y, d]) s = .next u ∧
    u.bus.lastErr = (busWrite (.bundle b) (fld (word x) 0 24) (word d) (at' t s)).1) ∧
  (∀ t b x y s, BusIdle s → sysOn s = true → b < 32 → bundleUp s b = true → fld (word y) 0 8 = 0 → slowAddr (fld (word x) 0 24) s = false →
    ∃ u, exec (.regRd t b 8 [x, y]) s = .next u ∧ u.bus.lastErr = (busRead (.bundle b) (fld (word x) 0 24) (at' t s)).2.1 ∧
    u.bus.lastRead = (busRead (.bundle b) (fld (word x) 0 24) (at' t s)).1) ∧
  (∀ t b n (l : List Nat) s, sysOn s = true → b < 32 → bundleUp s b = true →
    (n ≠ 8 + 4 * (fld (word (l.getD 1 0)) 0 8 + 1) ∨ l.length ≠ fld (word (l.getD 1 0)) 0 8 + 3) →
    ∃ u, exec (.regWr t b n l) s = .next u ∧ pget [] u.wnb.tx b = pget [] s.wnb.tx b ++
    [(⟨4, 0, 0, 8, [word (l.getD 0 0), word (2 ^ 31 + 3 * 2 ^ 16 + fld (word (l.getD 1 0)) 0 8)]⟩, max s.now t)] ∧ u.regs = s.regs) ∧
  (∀ t b n (l : List Nat) s, sysOn s = true → b < 32 → bundleUp s b = true → (n ≠ 8 ∨ l.length ≠ 2) →
    ∃ u, exec (.regRd t b n l) s = .next u ∧ pget [] u.wnb.tx b = pget [] s.wnb.tx b ++
    [(⟨4, 0, 0, 8 + 4 * (fld (word (l.getD 1 0)) 0 8 + 1), word (l.getD 0 0) :: word (3 * 2 ^ 16 + fld (word (l.getD 1 0)) 0 8) ::
    List.replicate (fld (word (l.getD 1 0)) 0 8 + 1) 0#32⟩, max s.now t)] ∧ u.regs = s.regs)

/-- While ticks run every CONTROL_TICK advances the tick number and TICK_COUNT shows its low 32 bits; otherwise it does
nothing. A Hall edge that changes the pattern shows it, and Hall edges that fail to come within 4 intervals above
OPEN_RPM count in HALL_FAULTS. An accepted write of TBL_DATA stores the point at TBL_ADDR and advances INDEX; a
permitted read returns it. -/
def Obligations.ControlTicks : Prop :=
  (∀ t s, ticking s = true → ∃ u, exec (.controlTick t) s = .next u ∧ u.ctl.tick = s.ctl.tick + 1 ∧
    reg u A.SCN_TICK_COUNT = word (s.ctl.tick + 1) ∧ u.ctl.tickAt = t) ∧
  (∀ t s, ticking s = false → exec (.controlTick t) s = .next (at' t s)) ∧
  (∀ t p s, sysOn s = true → p ≠ s.ctl.mot.pattern → ∃ u, exec (.hallEdge t p) s = .next u ∧ u.ctl.mot.pattern = p) ∧
  (∀ t s, 2 ≤ motMode s → s.ctl.mot.edges = 2 → s.ctl.mot.edge + 4 * s.ctl.mot.hall ≤ max s.now t → openRpm s < hallSpeed s (max s.now t) →
    ∃ u, exec (.hallEdgeTimeout t) s = .next u ∧ (reg u A.MOT_HALL_FAULTS).toNat = min ((reg s A.MOT_HALL_FAULTS).toNat + 1) 0xFFFFFFFF ∧
    flag u F.MOT_EVT_RAW_HALL_FAULT = true) ∧
  (∀ t r d s, Accepts t r A.GAL_TBL_DATA d s →
    ∃ u, exec (.galTblDataAccess t r (some d)) s = .next u ∧ pget 0#32 u.ctl.gal.table (galTblIndex s) = word d ∧
    rd u F.GAL_TBL_ADDR_INDEX = (rd s F.GAL_TBL_ADDR_INDEX + 1) % 4096) ∧
  (∀ t r s, Readable t r A.GAL_TBL_DATA s →
    ∃ u, exec (.galTblDataAccess t r none) s = .next u ∧ u.bus.lastRead = pget 0#32 s.ctl.gal.table (galTblIndex s) ∧
    rd u F.GAL_TBL_ADDR_INDEX = (rd s F.GAL_TBL_ADDR_INDEX + 1) % 4096)

/-- An accepted write of MODE_REQ stores it. ALIGN ends in OPEN_SPIN where the pattern is that of sector 0 or 5 and in
START_FAIL otherwise; OPEN_SPIN past OPEN_MAX_MS is a START_FAIL. Index edges that fail to come are an IDX_LOST,
counted. Standstill after a stop puts the mode OFF, and COASTING clears once no Hall edge has come for 100 ms. An
accepted write of a FAULT_LATCH clears the bits written 1. -/
def Obligations.PolygonModes : Prop :=
  (∀ t r d s, Accepts t r F.MOT_MODE_REQ.addr d s → ∃ u, exec (.modeReqWrite t r d) s = .next u ∧ rd u F.MOT_MODE_REQ = fld (word d) 0 3) ∧
  (∀ t s, motMode s = 1 → 2 ≤ s.ctl.mot.goal → s.ctl.mot.stepAt + msec (rd s F.MOT_ALIGN_ALIGN_MS) ≤ max s.now t →
    ∃ u, exec (.alignEnd t) s = .next u ∧ (if hallSector s s.ctl.mot.pattern ∈ [some 0, some 5] then motMode u = 2
    else flag u F.MOT_EVT_RAW_START_FAIL = true ∧ motMode u = 0)) ∧
  (∀ t s, motMode s = 2 → 3 ≤ s.ctl.mot.goal → s.ctl.mot.stepAt + msec (rd s F.MOT_OPEN_OPEN_MAX_MS) ≤ max s.now t →
    ∃ u, exec (.startFail t) s = .next u ∧ flag u F.MOT_EVT_RAW_START_FAIL = true ∧ motMode u = 0) ∧
  (∀ t e s, s.ctl.mot.idx.head? = some e → modelValid s = true → 2 * 65536 * e + 3 * s.ctl.mot.pred ≤ 2 * 65536 * max s.now t →
    ∃ u, exec (.idxLost t) s = .next u ∧ (reg u A.MOT_IDX_LOSSES).toNat = min ((reg s A.MOT_IDX_LOSSES).toNat + 1) 0xFFFFFFFF ∧
    flag u F.MOT_EVT_RAW_IDX_LOST = true ∧ modelValid u = false) ∧
  (∀ t s, flag s F.MOT_STATUS_STOPPING = true → motMode s = 3 → s.ctl.mot.sp = 0 → hallQuiet (at' t s) s.ctl.mot.stepAt = true →
    ∃ u, exec (.standstill t) s = .next u ∧ motMode u = 0 ∧ flag u F.MOT_STATUS_STANDSTILL = true ∧ flag u F.MOT_STATUS_STOPPING = false ∧
    flag u F.MOT_EVT_RAW_STANDSTILL = true) ∧
  (∀ t s, flag s F.MOT_STATUS_COASTING = true → hallQuiet (at' t s) 0 = true →
    ∃ u, exec (.coastingClear t) s = .next u ∧ flag u F.MOT_STATUS_COASTING = false) ∧
  (∀ t r (x : Bool) d s, Accepts t r (if x then A.GAL_FAULT_LATCH else A.MOT_FAULT_LATCH) d s →
    ∃ u, exec (.faultLatchClear t r x d) s = .next u ∧ reg u (if x then A.GAL_FAULT_LATCH else A.MOT_FAULT_LATCH) =
    reg s (if x then A.GAL_FAULT_LATCH else A.MOT_FAULT_LATCH) &&& ~~~(word d &&& fieldBits (if x then A.GAL_FAULT_LATCH else A.MOT_FAULT_LATCH)))

/-- While outputs are suppressed a decimation counts one of them off; a valid one shows in OUT in Q16.16; samples short of
a decimation wait. A stuck channel shows and its event is set; unstuck it restarts, counted. A lost clock in RECEIVE
clears CLK_OK and its return sets it. An accepted write of the clock configuration stores it. -/
def Obligations.CurrentChannels : Prop :=
  (∀ t c (l : List Bool) (x : SdfChan) s, c < 8 → sdfRuns s c = true → sdfChan (sdfSamples (at' t s) c l) c = x →
    2 ^ sdfLog (reg s (A.SDC_CFG c)) ≤ x.bits.length → x.left ≠ 0 →
    ∃ u, exec (.sdfOutput t c l) s = .next u ∧ (sdfChan u c).left = x.left - 1 ∧ reg u (A.SDC_OUT c) = reg s (A.SDC_OUT c)) ∧
  (∀ t c (l : List Bool) (x : SdfChan) s, c < 8 → sdfRuns s c = true → sdfChan (sdfSamples (at' t s) c l) c = x →
    2 ^ sdfLog (reg s (A.SDC_CFG c)) ≤ x.bits.length → x.left = 0 → sdfStuck s c = false →
    ∃ u, exec (.sdfOutput t c l) s = .next u ∧ reg u (A.SDC_OUT c) = iword (rnd ((sdfFilter (reg s (A.SDC_CFG c)) x x.bits).2 * 65536)
    (2 ^ (sdfOrder (reg s (A.SDC_CFG c)) * sdfLog (reg s (A.SDC_CFG c))))) ∧ (sdfChan u c).have' = true) ∧
  (∀ t c (l : List Bool) (x : SdfChan) s, c < 8 → sdfRuns s c = true → sdfChan (sdfSamples (at' t s) c l) c = x →
    x.bits.length < 2 ^ sdfLog (reg s (A.SDC_CFG c)) → exec (.sdfOutput t c l) s = .next (sdfSamples (at' t s) c l)) ∧
  (∀ t c s, c < 8 → sdfRuns s c = true → sdfStuck s c = false →
    ∃ u, exec (.sdfStuck t c) s = .next u ∧ sdfStuck u c = true ∧ rdBit u 0x83010 ((F.SDF_EVT_RAW_STUCK).lo + c) = true) ∧
  (∀ t c s, c < 8 → sdfStuck s c = true →
    ∃ u, exec (.sdfUnstuck t c) s = .next u ∧ sdfStuck u c = false ∧
    (reg u (A.SDC_STARTS c)).toNat = min ((reg s (A.SDC_STARTS c)).toNat + 1) 0xFFFFFFFF ∧ (sdfChan u c).left = sdfOrder (reg s (A.SDC_CFG c))) ∧
  (∀ t s, sysOn s = true → sdfReceive s = true → flag s F.SDF_STATUS_CLK_OK = true →
    ∃ u, exec (.clkLost t) s = .next u ∧ flag u F.SDF_STATUS_CLK_OK = false ∧ flag u F.SDF_EVT_RAW_CLK_LOST = true) ∧
  (∀ t s, sysOn s = true → sdfReceive s = true → flag s F.SDF_STATUS_CLK_OK = false →
    ∃ u, exec (.sdmClkReturn t) s = .next u ∧ flag u F.SDF_STATUS_CLK_OK = true ∧
    (∀ c ∈ List.range 8, flag s (F.SDC_CFG_ENABLE c) = true → (sdfChan u c).left = sdfOrder (reg s (A.SDC_CFG c)))) ∧
  (∀ t r d s (f : FieldRow), Accepts t r F.SDF_CFG_CLK_SEL.addr d s → f ∈ fieldsAt F.SDF_CFG_CLK_SEL.addr → f.acc = .rw →
    ∃ u, exec (.sdfCfgWrite t r d) s = .next u ∧ fld (reg u F.SDF_CFG_CLK_SEL.addr) f.lo f.len = fld (word d) f.lo f.len)

/-- A change of a filtered input is taken by the paths named. A rising edge of SAFE_RESET that is allowed counts in RESETS
and starts the proof cycle, one that is not counts in RESET_REFUSED; the pin held for 5 s shows RESET_STUCK, cleared
100 ms after it falls. Step 1 of the proof passes to step 2 where no contactor is in mismatch, step 2 fails after 20
ms, and step 3 without a monitored laser contactor proves after FB_TIME. EMIT_DELAY ends. -/
def Obligations.SafetyInputsAndReset : Prop :=
  (∀ t i (x y : Bool) s, awake s = true → i < 6 → i ≠ 3 →
    ∃ u, exec (.safetyInputChange t i x true y) s = .next u ∧ u.saf.a.ins.testBit i = x ∧ (y = true → u.saf.b.ins.testBit i = x)) ∧
  (∀ t (x y : Bool) s, awake s = true →
    ∃ u, exec (.safetyInputChange t 3 true x y) s = .next u ∧ u.saf.a.ins.testBit 3 = (x || s.saf.a.ins.testBit 3) ∧
    u.saf.b.ins.testBit 3 = (y || s.saf.b.ins.testBit 3)) ∧
  (∀ t s, awake s = true → resetHigh s = false →
    resetAllowed { at' t s with saf := { s.saf with a := { s.saf.a with ins := s.saf.a.ins ||| 8 }, b := { s.saf.b with ins := s.saf.b.ins ||| 8 } } } = true →
    ∃ u, exec (.safeResetEdge t) s = .next u ∧ (reg u A.SAF_RESETS).toNat = min ((reg s A.SAF_RESETS).toNat + 1) 0xFFFFFFFF ∧ u.saf.proof = 1 ∧
    u.saf.proofAt = max s.now t) ∧
  (∀ t s, awake s = true → resetHigh s = false →
    resetAllowed { at' t s with saf := { s.saf with a := { s.saf.a with ins := s.saf.a.ins ||| 8 }, b := { s.saf.b with ins := s.saf.b.ins ||| 8 } } } = false →
    ∃ u, exec (.safeResetEdge t) s = .next u ∧ (reg u A.SAF_RESET_REFUSED).toNat = min ((reg s A.SAF_RESET_REFUSED).toNat + 1) 0xFFFFFFFF ∧
    u.saf.proof = s.saf.proof) ∧
  (∀ t s, awake s = true → resetHigh s = true → s.saf.pinAt + msec 5000 ≤ t → flag s F.SAF_STATUS_RESET_STUCK = false →
    ∃ u, exec (.resetStuck t) s = .next u ∧ flag u F.SAF_STATUS_RESET_STUCK = true ∧ flag u F.SAF_EVT_RAW_RESET_STUCK = true) ∧
  (∀ t s, s.saf.a.ins.testBit 3 = false → s.saf.b.ins.testBit 3 = false → s.saf.pinAt + msec 100 ≤ t →
    ∃ u, exec (.resetStuckClear t) s = .next u ∧ flag u F.SAF_STATUS_RESET_STUCK = false) ∧
  (∀ t s, s.saf.proof = 1 → s.saf.proofAt + msec 10 ≤ t → contactorBad (at' t s) true = false → contactorBad (at' t s) false = false →
    ∃ u, exec (.proofStepEnd t) s = .next u ∧ u.saf.proof = 2 ∧ u.saf.proofAt = t ∧ u.lmp.asked = true) ∧
  (∀ t s, s.saf.proof = 2 → s.saf.proofAt + msec 20 ≤ t →
    ∃ u, exec (.proofStepEnd t) s = .next u ∧ flag u F.SAF_EVT_RAW_PROOF_FAIL = true ∧ bit (latched u false) 8 = true ∧ bit (latched u true) 8 = true) ∧
  (∀ t s, s.saf.proof = 3 → fbLaserOn s = false → s.saf.proofAt + msec (cfgOf s.saf.a F.SAF_FB_TIME) ≤ t →
    ∃ u, exec (.proofStepEnd t) s = .next u ∧ flag u F.SAF_STATUS_PROVEN = true ∧ flag u F.SAF_EVT_RAW_PROOF_DONE = true) ∧
  (∀ t t0 s, s.saf.delay = some t0 → t0 + msec (cfgOf s.saf.a F.SAF_EMIT_DELAY) ≤ t →
    ∃ u, exec (.emitDelayEnd t) s = .next u ∧ u.saf.delay = none)

/-- Two differing comparisons in a row latch cause 12 in both paths, a first one counts. SS1 ends at standstill or after
SS1_MAX, and torque stays off. Inputs that differ past DISC_TIME latch cause 3, speeds that disagree past AGREE_MS
cause 13, a contactor in mismatch past FB_TIME cause 7. A sub-window boundary leaves only sub-windows of the window.
The SAFE_CONFIG window closes by command or after 60 s, and a running copy with a wrong CRC latches CONFIG. -/
def Obligations.SafetyStops : Prop :=
  (∀ t s, sysOn s = true → s.saf.differ = true → latched s false ≠ latched s true ∨ s.saf.a.ins ≠ s.saf.b.ins →
    ∃ u, exec (.pathCompare t) s = .next u ∧ bit (latched u false) 12 = true ∧ bit (latched u true) 12 = true) ∧
  (∀ t s, sysOn s = true → s.saf.differ = false → latched s false ≠ latched s true ∨ s.saf.a.ins ≠ s.saf.b.ins →
    ∃ u, exec (.pathCompare t) s = .next u ∧ u.saf.differ = true ∧
    (reg u A.SAF_MISMATCHES).toNat = min ((reg s A.SAF_MISMATCHES).toNat + 1) 0xFFFFFFFF) ∧
  (∀ t t0 s, s.saf.ss1 = some t0 → hallQuiet (at' t s) t0 = true →
    ∃ u, exec (.ss1Standstill t) s = .next u ∧ u.saf.ss1 = none ∧ u.saf.ended = true ∧ flag u F.SAF_STATUS_STANDSTILL = true) ∧
  (∀ t t0 s, s.saf.ss1 = some t0 → t0 + msec (cfgOf s.saf.a F.SAF_SS1_MAX) ≤ t →
    ∃ u, exec (.ss1MaxExpire t) s = .next u ∧ u.saf.ss1 = none ∧ u.saf.ended = true ∧ flag u F.SAF_STATUS_STOPPING = false) ∧
  (∀ t t0 s, s.saf.a.disc = some t0 → t0 + msec (cfgOf s.saf.a F.SAF_DISC_TIME) < t →
    ∃ u, exec (.ssDiscrepancy t) s = .next u ∧ bit (latched u false) 3 = true) ∧
  (∀ t t0 s, (agreeJudge (at' t s)).saf.agree = some t0 → sysOn s = true → t0 + msec (cfgOf s.saf.a F.SAF_SPEED_AGREE_AGREE_MS) < t →
    ∃ u, exec (.speedAgree t) s = .next u ∧ bit (latched u false) 13 = true ∧ bit (latched u true) 13 = true) ∧
  (∀ t (x : Bool) s, mismatched (at' t s) false x = true →
    ∃ u, exec (.contactorMismatch t x) s = .next u ∧ bit (latched u false) 7 = true) ∧
  (∀ t s, ∃ u, exec (.budgetSubwindow t) s = .next u ∧ (∀ e ∈ u.saf.a.budget, ∀ w ∈ e.2, subWindow t ≤ w.1 + 8) ∧
    (∀ e ∈ u.saf.b.budget, ∀ w ∈ e.2, subWindow t ≤ w.1 + 8)) ∧
  (∀ t r s, Accepts t r A.SAF_CFG_CTRL 1 s → ∃ u, exec (.cfgClose t r) s = .next u ∧ flag u F.SAF_STATUS_WINDOW_OPEN = false) ∧
  (∀ t s, awake s = true → flag s F.SAF_STATUS_WINDOW_OPEN = true → s.saf.opened + msec 60000 ≤ t →
    ∃ u, exec (.cfgWindowTimeout t) s = .next u ∧ flag u F.SAF_STATUS_WINDOW_OPEN = false) ∧
  (∀ t s, sysOn s = true → cfgValid s = true → word (cfgCrc s.saf.a.cfg) ≠ reg s A.SAF_CFG_CRC →
    ∃ u, exec (.crcRunCheck t) s = .next u ∧ bit (latched u false) 0 = true ∧ flag u F.SAF_EVT_RAW_CFG_FAULT = true) ∧
  (∀ t s, word (cfgCrc s.saf.a.cfg) = reg s A.SAF_CFG_CRC → word (cfgCrc s.saf.b.cfg) = reg s A.SAF_CFG_CRC →
    exec (.crcRunCheck t) s = .next (at' t s))

/-- On a port whose link is up a good frame of 60 to 9,212 bytes counts in RX_FRAMES, a bad FCS in RX_FCS, a runt in
RX_RUNT; the quanta of a PAUSE end. The bridge sends the next frame of a port in strict priority, counted. Links come
up and go down with their events, and a partner of half duplex is an AN_FAIL with its word shown. Addresses not
refreshed for AGE seconds and match entries of 1 s are removed, and no others. -/
def Obligations.EthernetPorts : Prop :=
  (∀ t p n (l : List Byte) s, linkIsUp s p = true → 60 ≤ l.length → l.length ≤ 9212 →
    ∃ u, exec (.ethFrameReceived t p n l true) s = .next u ∧
    (reg u (A.ETHP_RX_FRAMES p)).toNat = min ((reg s (A.ETHP_RX_FRAMES p)).toNat + 1) 0xFFFFFFFF) ∧
  (∀ t p n (l : List Byte) s, linkIsUp s p = true → ∃ u, exec (.ethFrameReceived t p n l false) s = .next u ∧
    (reg u (A.ETHP_RX_FCS p)).toNat = min ((reg s (A.ETHP_RX_FCS p)).toNat + 1) 0xFFFFFFFF ∧ u.eth = s.eth) ∧
  (∀ t p n (l : List Byte) s, linkIsUp s p = true → l.length < 60 → ∃ u, exec (.ethFrameReceived t p n l true) s = .next u ∧
    (reg u (A.ETHP_RX_RUNT p)).toNat = min ((reg s (A.ETHP_RX_RUNT p)).toNat + 1) 0xFFFFFFFF ∧ u.eth = s.eth) ∧
  (∀ t p s, p < 4 → pget 0 s.eth.pause p ≠ 0 → pget 0 s.eth.pause p ≤ max s.now t →
    ∃ u, exec (.pauseQuantaEnd t p) s = .next u ∧ flag u (F.ETHP_STATUS_PAUSED p) = false ∧ pget 0 u.eth.pause p = 0) ∧
  (∀ t p n (i : EthItem) (l : List EthItem) s, p < 4 → bridging s = true → linkIsUp s p = true → pget 0 s.eth.pause p ≤ n → highOf s p = i :: l →
    ∃ u, exec (.ethFrameEgress t p n) s = .next u ∧ highOf u p = l ∧
    (reg u (A.ETHP_TX_FRAMES p)).toNat = min ((reg s (A.ETHP_TX_FRAMES p)).toNat + 1) 0xFFFFFFFF) ∧
  (∀ t p n (i : EthItem) (l : List EthItem) s, p < 4 → bridging s = true → linkIsUp s p = true → pget 0 s.eth.pause p ≤ n → highOf s p = [] →
    lowOf s p = i :: l →
    ∃ u, exec (.ethFrameEgress t p n) s = .next u ∧ lowOf u p = l ∧
    (reg u (A.ETHP_TX_FRAMES p)).toNat = min ((reg s (A.ETHP_TX_FRAMES p)).toNat + 1) 0xFFFFFFFF) ∧
  (∀ t n (i : EthItem) (l : List EthItem) s, bridging s = true → highOf s 4 = i :: l →
    ∃ u, exec (.ethFrameEgress t 4 n) s = .next u ∧ highOf u 4 = l) ∧
  (∀ t p n s, portOn s p = true → flag s (F.ETHP_STATUS_LINK p) = false → negotiates s p = false ∨ offersFull s p n = true →
    ∃ u, exec (.linkUp t p n) s = .next u ∧ flag u (F.ETHP_STATUS_LINK p) = true ∧ flag u (F.ETHP_EVT_RAW_LINK_UP p) = true ∧
    rd u (F.ETHP_STATUS_SPEED p) = speedOf s p n) ∧
  (∀ t p s, linkIsUp s p = true → ∃ u, exec (.linkDown t p) s = .next u ∧ flag u (F.ETHP_STATUS_LINK p) = false ∧
    flag u (F.ETHP_EVT_RAW_LINK_DOWN p) = true ∧ highOf u p = [] ∧ lowOf u p = []) ∧
  (∀ t p n s, portOn s p = true → negotiates s p = true → ∃ u, exec (.anFail t p n) s = .next u ∧
    flag u (F.ETHP_EVT_RAW_AN_FAIL p) = true ∧ rd u (F.ETHP_STATUS_LP_WORD p) = n % 2 ^ 16) ∧
  (∀ t s, ∃ u, exec (.macAgeExpire t) s = .next u ∧
    u.eth.macs = s.eth.macs.filter fun e => decide (max s.now t < e.2.2 + rd s F.ETH_AGE * nsec 1000000000)) ∧
  (∀ t s, ∃ u, exec (.matchEntryExpire t) s = .next u ∧
    u.eth.ents = s.eth.ents.filter fun e => decide (max s.now t < e.opened + nsec 1000000000))

/-- On the bundle of the tunnel a frame with a bad header or length counts in TUN_BAD and drops the assembly; a first
fragment that is not the last begins one; a whole frame for a port whose link is up enters the bridge where its buffer
has room. MB_RX_DATA reads the words of the waiting records in order and 0 when there is none; MB_TX_DATA adds a word;
SEND and ABORT empty the transmit mailbox. -/
def Obligations.HostFramesAndMailbox : Prop :=
  (∀ t b n (l : List Word) s, rd s F.ETH_TUNNEL_CFG_PATH = 1 → rd s F.ETH_TUNNEL_CFG_BUNDLE = b → awake s = true → domRunning s .eth 0 = true →
    n < 16 ∨ 4096 < n ∨ headGood (l.getD 0 0#32) = false →
    ∃ u, exec (.eth t b n l) s = .next u ∧ (reg u A.ETH_TUN_BAD).toNat = min ((reg s A.ETH_TUN_BAD).toNat + 1) 0xFFFFFFFF ∧
    pget none u.eth.frags b = none) ∧
  (∀ t b n (l : List Word) s, rd s F.ETH_TUNNEL_CFG_PATH = 1 → rd s F.ETH_TUNNEL_CFG_BUNDLE = b → awake s = true → domRunning s .eth 0 = true →
    16 ≤ n → n ≤ 4096 → headGood (l.getD 0 0#32) = true → fld (l.getD 0 0#32) 22 2 = 0 → bit (l.getD 0 0#32) 21 = false →
    ∃ u, exec (.eth t b n l) s = .next u ∧ pget none u.eth.frags b = some ⟨1, l.take 4, (unpackWords (l.drop 4)).take (n - 16)⟩) ∧
  (∀ t b n (l : List Word) s, rd s F.ETH_TUNNEL_CFG_PATH = 1 → rd s F.ETH_TUNNEL_CFG_BUNDLE = b → bridging s = true →
    n ≤ 4096 → headGood (l.getD 0 0#32) = true → fld (l.getD 0 0#32) 22 2 = 0 → bit (l.getD 0 0#32) 21 = true →
    n = 16 + fld (l.getD 0 0#32) 0 16 → l.length = 4 + (fld (l.getD 0 0#32) 0 16 + 3) / 4 → linkIsUp s (fld (l.getD 0 0#32) 24 4) = true →
    ingressUsed s 4 + (fld (l.getD 0 0#32) 0 16 + 4) ≤ 24 * 1024 →
    ∃ u, exec (.eth t b n l) s = .next u ∧ pget none u.eth.frags b = none ∧ u.eth.nextId = s.eth.nextId + 1) ∧
  (∀ t r s, Readable t r A.ETH_MB_RX_DATA s → ∃ u, exec (.mbRxDataRead t r) s = .next u ∧ u.bus.lastRead = (mbRead s).1 ∧
    u.eth.mbRx = (mbRead s).2.eth.mbRx) ∧
  (∀ t r d s, Accepts t r A.ETH_MB_TX_DATA d s → ∃ u, exec (.mbTxDataWrite t r d) s = .next u ∧ u.eth.mbTx = s.eth.mbTx ++ [word d]) ∧
  (∀ t r s, Accepts t r A.ETH_MB_TX_CTRL (2 ^ 31) s → ∃ u, exec (.send t r) s = .next u ∧ u.eth.mbTx = []) ∧
  (∀ t r s, Accepts t r A.ETH_MB_TX_CTRL (2 ^ 30) s → ∃ u, exec (.abort t r) s = .next u ∧ u.eth.mbTx = [])

/-- An accepted write of INCR_NS stores it, and in TIMEKEEP the new INCREMENT is due at the next REFCLK edge. CLEAR_COAST
clears COASTED. A permitted read of NOW_NS returns the nanoseconds of the counter. PPS_OUT rises where network time
passes a whole second plus PPS_OFS and falls after WIDTH. A PPS_IN edge shows its time with NEW, and a read of
PPSIN_NS returns it and clears NEW. -/
def Obligations.NetworkTime : Prop :=
  (∀ t r d s, Accepts t r A.NTM_INCR_NS d s → ∃ u, exec (.incrNsWrite t r d) s = .next u ∧ rd u F.NTM_INCR_NS = fld (word d) 0 8 ∧
    (s.ntm.mode = .tkp → u.ntm.next = some (nextRefEdge s (max s.now t),
    fld (word d) 0 8 * 2 ^ 32 + ((lowerWord s r A.NTM_INCR_FRAC).getD (reg s A.NTM_INCR_FRAC)).toNat))) ∧
  (∀ t r d s, Accepts t r A.NTM_STEP_SEC_HI d s →
    ∃ u, exec (.stepSecHiWrite t r d) s = .next u ∧
    u.ntm.net = (s.ntm.net + stepNs (setReg (setReg s A.NTM_STEP_SEC_LO
    ((lowerWord s r A.NTM_STEP_SEC_LO).getD (reg s A.NTM_STEP_SEC_LO))) A.NTM_STEP_SEC_HI (word d)) * nsU) % netRange) ∧
  (∀ t r d s, Accepts t r A.NTM_CTRL (withBit d 2) s → bit (word d) 1 = false →
    ∃ u, exec (.clearCoast t r d) s = .next u ∧ flag u F.NTM_STATUS_COASTED = false) ∧
  (∀ t r s, Readable t r A.NTM_NOW_NS s → latchedWord s r A.NTM_NOW_NS = none →
    ∃ u, exec (.nowNsRead t r) s = .next u ∧ u.bus.lastRead = (ntmNow (at' t s)).getD 0 0#32) ∧
  (∀ t s, awake s = true → flag s F.NTM_PPS_CFG_OUT_EN = true → s.ntm.mode ≠ .held → ppsPhase s t < ppsGrain s →
    ∃ u, exec (.ppsOutPulse t) s = .next u ∧ u.ntm.pps = true ∧ u.ntm.ppsAt = max s.now t) ∧
  (∀ t s, s.ntm.pps = true → s.ntm.ppsAt + msec (rd s F.NTM_PPS_CFG_WIDTH) ≤ t →
    ∃ u, exec (.ppsOutEnd t) s = .next u ∧ u.ntm.pps = false) ∧
  (∀ t s, awake s = true → domRunning s .tkp 0 = true →
    ∃ u, exec (.ppsIn t) s = .next u ∧ flag u F.NTM_PPSIN_NS_NEW = true ∧
    rd u F.NTM_PPSIN_NS_NS = nNs (net16 s (if 3 ≤ pstate s then t else tkpCycle t)) % 2 ^ 30 ∧ flag u F.NTM_EVT_RAW_PPS_IN = true) ∧
  (∀ t r s, Readable t r F.NTM_PPSIN_NS_NS.addr s → latchedWord s r F.NTM_PPSIN_NS_NS.addr = none →
    ∃ u, exec (.ppsinNsRead t r) s = .next u ∧ u.bus.lastRead = reg s F.NTM_PPSIN_NS_NS.addr ∧ flag u F.NTM_PPSIN_NS_NEW = false)

/-- While plan time runs: at an epoch boundary the slots dropped leave the grant; a beat start takes the number of the
beat; the messages that are due are sent, a HEARTBEAT counted in MSG_TX where the bridge forwards, and none is due
after. A frame of the PLN port leaves its queue, and in a plan state one that is too short counts in CFG_MISMATCH. An
accepted write of ENABLE stores it, and one of PEER_SEL latches the entry of the peer table. -/
def Obligations.SlotPlan : Prop :=
  (∀ t s, planClock s = true → planCycle s t % 256 = 0 →
    ∃ u, exec (.planCycleStart t) s = .next u ∧ u.pln.drops = 0 ∧
    u.pln.grant &&& slotDiff s.pln.grant s.pln.drops = slotDiff s.pln.grant s.pln.drops) ∧
  (∀ t s, planClock s = true → ∃ u, exec (.beatStart t) s = .next u ∧ u.pln.beat = beatAt (at' t s) t) ∧
  (∀ t s, planClock s = true → s.pln.beatDue = true →
    ∃ u, exec (.planMsgSend t) s = .next u ∧ u.pln.beatDue = false ∧ u.pln.release = 0 ∧ u.pln.claim = 0) ∧
  (∀ t s, planClock s = true → s.pln.beatDue = true → s.pln.release = 0 → s.pln.confirm = 0 → s.pln.claim = 0 → s.pln.held ≠ 0 → bridging s = true →
    ∃ u, exec (.planMsgSend t) s = .next u ∧ (reg u A.PLN_MSG_TX).toNat = min ((reg s A.PLN_MSG_TX).toNat + 1) 0xFFFFFFFF) ∧
  (∀ t (i : EthItem) (l : List EthItem) s, bridging s = true → highOf s 5 = i :: l →
    ∃ u, exec (.planFrameReceived t) s = .next u ∧ highOf u 5 = l) ∧
  (∀ t (i : EthItem) (l : List EthItem) s, bridging s = true → highOf s 5 = i :: l → planState s ≠ 0 → i.frame.length < 102 →
    ∃ u, exec (.planFrameReceived t) s = .next u ∧
    (reg u A.PLN_CFG_MISMATCH).toNat = min ((reg s A.PLN_CFG_MISMATCH).toNat + 1) 0xFFFFFFFF ∧ u.pln = s.pln) ∧
  (∀ t r d s, Accepts t r F.PLN_CTRL_ENABLE.addr d s → bit (word d) 1 = false →
    ∃ u, exec (.plnEnableWrite t r d) s = .next u ∧ flag u F.PLN_CTRL_ENABLE = bit (word d) 0) ∧
  (∀ t r d s, Accepts t r F.PLN_PEER_SEL.addr d s →
    ∃ u, exec (.peerSelWrite t r d) s = .next u ∧ reg u A.PLN_PEER_UNIT = word (((pget none s.pln.peers (rd u F.PLN_PEER_SEL)).map (·.unit)).getD 0))

/-- While the preview is active a latch point counts a frame, shows FRAME_START and begins line 0, each further line start
advances LINE, and the end of the last active line closes the frame's checks. TIMING_RESUMED ends the gap with the PLL
locked, and VID_LOCK locks the PLL. An accepted write of TBL_DATA stores the entry that TBL_ADDR names, of the bits of
its table, and advances INDEX; a permitted read returns it. -/
def Obligations.PreviewTiming : Prop :=
  (∀ t s, vidActive s = true →
    ∃ u, exec (.vidLatchPoint t) s = .next u ∧ (reg u A.VID_C_FRAMES).toNat = min ((reg s A.VID_C_FRAMES).toNat + 1) 0xFFFFFFFF ∧ rd u F.VID_STATUS_LINE = 0 ∧
    flag u F.VID_STATUS_BLANK = true ∧ flag u F.VID_EVT_RAW_FRAME_START = true ∧ u.vid.done = false) ∧
  (∀ t (l : List (Nat × Nat)) s, vidActive s = true → rd s F.VID_STATUS_LINE + 1 < vLines s →
    ∃ u, exec (.vidLineStart t l) s = .next u ∧ rd u F.VID_STATUS_LINE = (rd s F.VID_STATUS_LINE + 1) % 4096) ∧
  (∀ t s, vidActive s = true → rd s F.VID_STATUS_LINE + 1 = vLines s → s.vid.done = false →
    ∃ u, exec (.vidFrameEnd t) s = .next u ∧ u.vid.done = true ∧ reg u A.VID_FETCH_PEAK = word s.vid.peak) ∧
  (∀ t s, sysOn s = true → flag s F.VID_STATUS_TIMING_GAP = true →
    ∃ u, exec (.timingResumed t) s = .next u ∧ flag u F.VID_STATUS_TIMING_GAP = false ∧ flag u F.VID_STATUS_CLK_LOCK = true ∧
    flag u F.VID_EVT_RAW_TIMING_RESUMED = true) ∧
  (∀ t s, sysOn s = true → domRunning s .vid 0 = true → flag s F.VID_STATUS_TIMING_GAP = false → flag s F.VID_STATUS_CLK_LOCK = false →
    ∃ u, exec (.vidLock t) s = .next u ∧ flag u F.VID_STATUS_CLK_LOCK = true ∧ flag u F.CLK_STATUS_VID_LOCK = true) ∧
  (∀ t r d s, Accepts t r A.VID_TBL_DATA d s →
    ∃ u, exec (.vidTblDataAccess t r (some d)) s = .next u ∧ vtblRead s = pget 0#32 s.vid.tables (vtblKey (vtblHere s).1 (vtblHere s).2.1 (vtblHere s).2.2) ∧
    pget 0#32 u.vid.tables (vtblKey (vtblHere s).1 (vtblHere s).2.1 (vtblHere s).2.2) = word ((word d).toNat % 2 ^ vtblBits (vtblHere s).1) ∧
    rd u F.VID_TBL_ADDR_INDEX = ((vtblHere s).2.2 + 1) % vtblLength (vtblHere s).1) ∧
  (∀ t r s, Readable t r A.VID_TBL_DATA s →
    ∃ u, exec (.vidTblDataAccess t r none) s = .next u ∧ u.bus.lastRead = vtblRead s ∧
    rd u F.VID_TBL_ADDR_INDEX = ((vtblHere s).2.2 + 1) % vtblLength (vtblHere s).1)

/-- A round start that is due begins a round. The timer gives a start under SRC 0: it makes a round due, is queued, or is
counted as an overrun; an accepted ROUND_TRIG makes a round due. A conversion that ends gives the first code of a
diode pair, a sample of the round's channel (the first after a restart discarded), or, with the last sample, the
result of its channel, counted in CH_STATUS. -/
def Obligations.HousekeepingRounds : Prop :=
  (∀ t s, hkaOn s = true → s.hka.due = true → flag s F.HKA_STATUS_IN_ROUND = false →
    ∃ u, exec (.roundStart t) s = .next u ∧ flag u F.HKA_STATUS_IN_ROUND = true ∧ u.hka.due = false ∧ u.hka.start = max s.now t) ∧
  (∀ t s, hkaOn s = true → rd s F.HKA_ROUND_CFG_SRC = 0 → flag s F.HKA_STATUS_IN_ROUND = false → s.hka.due = false →
    ∃ u, exec (.roundTimer t) s = .next u ∧ u.hka.due = true) ∧
  (∀ t s, hkaOn s = true → rd s F.HKA_ROUND_CFG_SRC = 0 → (flag s F.HKA_STATUS_IN_ROUND || s.hka.due) = true → flag s F.HKA_STATUS_ROUND_QUEUED = false →
    ∃ u, exec (.roundTimer t) s = .next u ∧ flag u F.HKA_STATUS_ROUND_QUEUED = true) ∧
  (∀ t s, hkaOn s = true → rd s F.HKA_ROUND_CFG_SRC = 0 → (flag s F.HKA_STATUS_IN_ROUND || s.hka.due) = true → flag s F.HKA_STATUS_ROUND_QUEUED = true →
    ∃ u, exec (.roundTimer t) s = .next u ∧ (reg u A.HKA_ROUND_OVERRUN).toNat = min ((reg s A.HKA_ROUND_OVERRUN).toNat + 1) 0xFFFFFFFF ∧
    flag u F.HKA_EVT_RAW_ROUND_OVERRUN = true) ∧
  (∀ t r d s, Accepts t r F.HKA_CTRL_ENABLE.addr (withBit d 2) s → bit (word d) 1 = false → bit (word d) 0 = true → sysOn s = true →
    flag s F.HKA_STATUS_IN_ROUND = false → ∃ u, exec (.roundTrig t r d) s = .next u ∧ u.hka.due = true) ∧
  (∀ t k (m : Bool) (v : HkaConv) s, hkaOn s = true → s.hka.conv = some v → isDiode v.chan v.cfg = true → v.first = none →
    holdDeferred (at' t s) v = false →
    ∃ u, exec (.hkaConversionEnd t k m) s = .next u ∧ u.hka.conv = some { v with first := some (signed 16 k), clamp := m && decide (v.chan < 28), at' := max s.now t }) ∧
  (∀ t k (m : Bool) (v : HkaConv) s, hkaOn s = true → s.hka.conv = some v → v.kind = 0 → isDiode v.chan v.cfg = false → holdDeferred (at' t s) v = false →
    s.hka.chan = some v.chan → s.hka.restart.testBit v.chan = false → s.hka.acc.skip = true →
    ∃ u, exec (.hkaConversionEnd t k m) s = .next u ∧ u.hka.acc = HkaAcc.empty) ∧
  (∀ t k (m : Bool) (v : HkaConv) s, hkaOn s = true → s.hka.conv = some v → v.kind = 0 → isDiode v.chan v.cfg = false → holdDeferred (at' t s) v = false →
    s.hka.chan = some v.chan → s.hka.restart.testBit v.chan = false → s.hka.acc.skip = false → s.hka.acc.n + 1 < 2 ^ fld v.cfg 4 4 →
    ∃ u, exec (.hkaConversionEnd t k m) s = .next u ∧ u.hka.acc.n = s.hka.acc.n + 1 ∧ u.hka.acc.sum = s.hka.acc.sum + signed 16 k) ∧
  (∀ t k (m : Bool) (v : HkaConv) s, hkaOn s = true → s.hka.conv = some v → v.kind = 0 → isDiode v.chan v.cfg = false → holdDeferred (at' t s) v = false →
    Unwatched s v.chan → s.hka.restart.testBit v.chan = false → s.hka.acc.skip = false → 2 ^ fld v.cfg 4 4 ≤ s.hka.acc.n + 1 →
    ∃ u, exec (.hkaConversionEnd t k m) s = .next u ∧ rd u (F.HCH_STATUS_COUNT v.chan) = (rd s (F.HCH_STATUS_COUNT v.chan) + 1) % 65536 ∧
    pget 0 u.hka.last v.chan = max s.now t)

/-- An accepted urgent request names its channel and is busy. A deferred hold not taken counts in BLANK_TIMEOUTS, for a
channel that no other block takes. A current limit of an enabled excitation shows, with its event when new. An
accepted LIN_LOAD starts the copies of the channels written 1, and a copy that ends beside no result comes into force.
A channel without a result for 2 PERIOD_US shows STALE. -/
def Obligations.HousekeepingEvents : Prop :=
  (∀ t r d s, Accepts t r F.HKA_URGENT_REQ.addr (withBit d 31) s →
    ∃ u, exec (.urgent t r d) s = .next u ∧ flag u F.HKA_STATUS_URG_HOST_BUSY = true ∧ rd u F.HKA_URGENT_CHAN = fld (word d) 0 6) ∧
  (∀ t (v : HkaConv) s, hkaOn s = true → s.hka.conv = some v → fld v.cfg 24 3 ≠ 0 → Unwatched s v.chan →
    v.at' + nsec 600 + usec (rd s F.HKA_BLANK_CFG_BLANK_MAX) ≤ max s.now t →
    ∃ u, exec (.blankTimeout t) s = .next u ∧ (reg u A.HKA_BLANK_TIMEOUTS).toNat = min ((reg s A.HKA_BLANK_TIMEOUTS).toNat + 1) 0xFFFFFFFF ∧
    flag u F.HKA_EVT_RAW_BLANK_TIMEOUT = true) ∧
  (∀ t k (m : Bool) s, sysOn s = true → k < 2 → rdBit s F.HKA_EXC_CFG_EXC0.addr k = true →
    ∃ u, exec (.excLimit t k m) s = .next u ∧ flag u (if k = 0 then F.HKA_STATUS_EXC0_LIMIT else F.HKA_STATUS_EXC1_LIMIT) = m ∧
    (m = true → flag s (if k = 0 then F.HKA_STATUS_EXC0_LIMIT else F.HKA_STATUS_EXC1_LIMIT) = false → flag u F.HKA_EVT_RAW_EXC_LIMIT = true)) ∧
  (∀ t r (h : Bool) d s, Accepts t r (if h then A.HKA_LIN_LOAD1 else A.HKA_LIN_LOAD0) d s →
    ∃ u, exec (.linLoad t r h d) s = .next u ∧ ((List.range 32).all fun i => !(bit (word d) i) || decide (36 ≤ if h then 32 + i else i) ||
    u.hka.loads.any fun x => decide (x.1 = if h then 32 + i else i)) = true) ∧
  (∀ t c s, s.hka.loads.find? (fun x => x.1 = c) = some (c, 0) →
    ∃ u, exec (.linLoadDone t c) s = .next u ∧ (u.hka.loads.any fun x => decide (x.1 = c)) = false ∧
    linCoefs u c = (List.range 12).map fun i => memWord s.calstore (0x800 + 0x30 * c + 4 * i)) ∧
  (∀ t c s, sysOn s = true → c < 36 → flag s (F.HCH_STATUS_STALE c) = false →
    pget 0 s.hka.last c + usec (2 * rd s F.HKA_ROUND_CFG_PERIOD_US) ≤ max s.now t →
    ∃ u, exec (.hkaStale t c) s = .next u ∧ flag u (F.HCH_STATUS_STALE c) = true)

/-- Step 1 of an orderly stop ends when the emission schedule is empty, step 2 when all data have drained and with the
inhibit request, step 3 with the stop request, and step 5 ends the stop in DONE. A stop that outlasts its budget
becomes immediate and is done. An accepted write of TRIP_LATCH clears the latches written 1. -/
def Obligations.ThermalStops : Prop :=
  (∀ t s, s.thm.step = 1 → escRunning s = false → ∃ u, exec (.orderlyStopStepEnd t) s = .next u ∧ u.thm.step = 2) ∧
  (∀ t s, s.thm.step = 2 → flushed (flushFrames (at' t s)) = true →
    ∃ u, exec (.orderlyStopStepEnd t) s = .next u ∧ u.thm.step = 3 ∧ flag u F.THM_STATUS_INHIBIT_REQ = true) ∧
  (∀ t s, s.thm.step = 3 → ∃ u, exec (.orderlyStopStepEnd t) s = .next u ∧ u.thm.step = 4 ∧ flag u F.THM_STATUS_STOP_REQ = true) ∧
  (∀ t s, s.thm.step = 4 → ∃ u, exec (.orderlyStopStepEnd t) s = .next u ∧ u.thm.step = 5) ∧
  (∀ t s, s.thm.step = 5 →
    ∃ u, exec (.orderlyStopStepEnd t) s = .next u ∧ u.thm.step = 0 ∧ rd u F.THM_STATUS_STOP_STATE = 3 ∧ flag u F.THM_EVT_RAW_STOP_DONE = true) ∧
  (∀ t s, s.thm.step ≠ 0 → s.thm.since + msec (rd s F.THM_ORDERLY_BUDGET) ≤ max s.now t →
    ∃ u, exec (.budgetOut t) s = .next u ∧ u.thm.step = 0 ∧ rd u F.THM_STATUS_STOP_STATE = 3 ∧ flag u F.THM_EVT_RAW_STOP_DONE = true) ∧
  (∀ t r d s, Accepts t r A.THM_TRIP_LATCH d s →
    ∃ u, exec (.tripLatchClear t r d) s = .next u ∧ reg u A.THM_TRIP_LATCH = reg s A.THM_TRIP_LATCH &&& ~~~(word d &&& fieldBits A.THM_TRIP_LATCH))

/-- An accepted START begins a job of the type configured (VCAL_ADC where the converter is enabled), and an accepted ABORT
ends it as failed. A job of CAL_IN edges without one for 10 ms ends as failed. An event of a channel that still needs
one is counted; an OFFSET job with every event of the NORMAL orientation passes to the next. A threshold step advances
the search, 256 µs or more after the last. A job with all its events ends completed or failed. -/
def Obligations.CalibrationJobs : Prop :=
  (∀ t r d s, Accepts t r F.CAL_CTRL_START.addr (withBit d 3) s → bit (word d) 1 = false → bit (word d) 4 = false →
    (rd s F.CAL_JOB_CFG_TYPE ≠ 4 ∨ flag s F.HKA_CTRL_ENABLE = true) →
    ∃ u, exec (.calJobStart t r d) s = .next u ∧ u.cal.job.map (·.type) = some (rd s F.CAL_JOB_CFG_TYPE) ∧ flag u F.CAL_STATUS_JOB_RUNNING = true) ∧
  (∀ t r d s, Accepts t r F.CAL_CTRL_START.addr (withBit d 3) s → bit (word d) 1 = false → bit (word d) 4 = false →
    rd s F.CAL_JOB_CFG_TYPE = 4 → flag s F.HKA_CTRL_ENABLE = false →
    ∃ u, exec (.calJobStart t r d) s = .next u ∧ u.cal.job = none ∧ rd u F.CAL_JOB_STATUS_STATE = 3) ∧
  (∀ t r d s, Accepts t r F.CAL_CTRL_START.addr (withBit d 4) s → bit (word d) 1 = false → bit (word d) 3 = false → s.cal.job.isSome = true →
    ∃ u, exec (.calJobAbort t r d) s = .next u ∧ u.cal.job = none ∧ rd u F.CAL_JOB_STATUS_STATE = 3 ∧ flag u F.CAL_EVT_RAW_JOB_FAIL = true) ∧
  (∀ t (j : CalJob) s, s.cal.job = some j → j.type ∈ [0, 1, 3] → j.edge + msec 10 ≤ max s.now t →
    ∃ u, exec (.calNoSignal t) s = .next u ∧ u.cal.job = none ∧ rd u F.CAL_JOB_STATUS_STATE = 3 ∧ flag u F.CAL_EVT_RAW_JOB_FAIL = true) ∧
  (∀ t n a b (j : CalJob) s, sysOn s = true → s.cal.job = some j → j.type ∈ [0, 3, 4] → j.channels.contains n = true → pget 0 j.count n < j.need →
    ∃ u, exec (.calEventCapture t n a b) s = .next u ∧ (u.cal.job.any fun x => decide (pget 0 x.count n = pget 0 j.count n + 1)) = true) ∧
  (∀ t n a b (j : CalJob) s, sysOn s = true → s.cal.job = some j → j.type = 1 → j.channels.contains n = true → pget 0 j.count n < j.need →
    (j.take n 0 (max s.now t)).full = false →
    ∃ u, exec (.calEventCapture t n a b) s = .next u ∧ (u.cal.job.any fun x => decide (pget 0 x.count n = pget 0 j.count n + 1)) = true) ∧
  (∀ t n a b (j : CalJob) s, sysOn s = true → s.cal.job = some j → j.type = 1 → j.channels.contains n = true → pget 0 j.count n < j.need →
    (j.take n 0 (max s.now t)).full = true → j.orient = 0 →
    ∃ u, exec (.calEventCapture t n a b) s = .next u ∧ (u.cal.job.any fun x => decide (x.orient = 1 ∧ x.count = [])) = true) ∧
  (∀ t (l : List Nat) (j : CalJob) s, sysOn s = true → s.cal.job = some j → j.type = 2 → j.step < 10 →
    j.edge + usec 256 ≤ max s.now t →
    ∃ u, exec (.calThreshStep t l) s = .next u ∧ u.cal.job.map (·.step) = some (j.step + 1)) ∧
  (∀ t (j : CalJob) s, sysOn s = true → s.cal.job = some j →
    (j.type = 2 ∧ j.step = 10 ∨ j.type = 1 ∧ j.full = true ∧ j.pass = 1 ∧ j.orient = 1 ∨ j.type ∈ [0, 3, 4] ∧ j.full = true) →
    ∃ u, exec (.jobDone t) s = .next u ∧ u.cal.job = none ∧ (rd u F.CAL_JOB_STATUS_STATE = 2 ∨ rd u F.CAL_JOB_STATUS_STATE = 3))

/-- An accepted RECOMPUTE starts a computation for the present temperature, or asks for one while a job or a computation
runs. A computation that ends is PENDING. Pending corrections come into force, counted in APPLIED, at once while
acquisition does not run, and else at a frame boundary not taken before, at least 1 µs after they were ready. -/
def Obligations.CorrectionsComputed : Prop :=
  (∀ t r d s, Accepts t r F.CAL_CTRL_START.addr (withBit d 2) s → bit (word d) 0 = true → bit (word d) 1 = false → bit (word d) 3 = false → bit (word d) 4 = false →
    s.cal.job = none → s.cal.comp = none →
    ∃ u, exec (.recompute t r d) s = .next u ∧ u.cal.comp.map (·.1) = some (max s.now t) ∧ reg u A.CAL_TEMP_NOW = s.cal.temp) ∧
  (∀ t r d s, Accepts t r F.CAL_CTRL_START.addr (withBit d 2) s → bit (word d) 0 = true → bit (word d) 1 = false → bit (word d) 3 = false → bit (word d) 4 = false →
    (s.cal.job.isSome || s.cal.comp.isSome) = true → ∃ u, exec (.recompute t r d) s = .next u ∧ u.cal.again = true ∧ u.cal.comp = s.cal.comp) ∧
  (∀ t a (x : CalSet) s, s.cal.job = none → s.cal.comp = some (a, x) →
    ∃ u, exec (.calComputeDone t) s = .next u ∧ u.cal.wait = some (max s.now t, x) ∧ flag u F.CAL_STATUS_PENDING = true) ∧
  (∀ t a (x : CalSet) s, sysOn s = true → s.cal.job = none → s.cal.wait = some (a, x) → flag s F.ACQ_STATUS_RUNNING = false →
    ∃ u, exec (.applied t) s = .next u ∧ u.cal.cur = x ∧ u.cal.wait = none ∧ flag u F.CAL_STATUS_PENDING = false ∧
    (reg u A.CAL_APPLIED).toNat = min ((reg s A.CAL_APPLIED).toNat + 1) 0xFFFFFFFF ∧ flag u F.CAL_EVT_RAW_APPLIED = true) ∧
  (∀ t tb a (x : CalSet) s, sysOn s = true → s.cal.job = none → s.cal.wait = some (a, x) → flag s F.ACQ_STATUS_RUNNING = true →
    boundaryAt (at' t s) (max s.now t) = some tb → s.acq.bound < tb → a + usec 1 ≤ tb →
    ∃ u, exec (.applied t) s = .next u ∧ u.cal.cur = x ∧ u.cal.wait = none ∧ flag u F.CAL_STATUS_PENDING = false ∧
    (reg u A.CAL_APPLIED).toNat = min ((reg s A.CAL_APPLIED).toNat + 1) 0xFFFFFFFF ∧ flag u F.CAL_EVT_RAW_APPLIED = true)

/-- While LMP is enabled a period that ends is followed by the next, whose number is 0 where the base divider was written.
A sample of an enabled lamp shows in LSENSE. An accepted write of ENG_START of an enabled engine with software start
asks for its start at the next period. -/
def Obligations.LampPeriods : Prop :=
  (∀ t s, lmpOn s = true → s.lmp.at' + lampPeriod s ≤ t →
    ∃ u, exec (.lmpPeriodStart t) s = .next u ∧ u.lmp.at' = s.lmp.at' + lampPeriod s ∧ u.lmp.period = (if s.lmp.renew then 0 else s.lmp.period + 1) ∧
    u.lmp.div = rd s F.LMP_PWM_CFG_BASE_DIV) ∧
  (∀ t l (a b : Bool) s, lmpOn s = true → l < 16 → flag s (F.LAMP_CFG_ENABLE l) = true →
    ∃ u, exec (.lampDiagSample t l a b) s = .next u ∧ flag u (F.LAMP_STATUS_LSENSE l) = b) ∧
  (∀ t r e s, Accepts t r (0xE0400 + 0x100 * (e % 4) + 8) 1 s → flag s (F.LENG_CTRL_ENABLE (e % 4)) = true → rd s (F.LENG_CTRL_START_SRC (e % 4)) = 0 →
    ∃ u, exec (.engStart t r e) s = .next u ∧ (lampEng u (e % 4)).start = true ∧ (lampEng u (e % 4)).stop = false)

/-- An accepted write of PAIR.CTRL stores ENABLE; a change to 1 enters STANDBY and a change to 0 SINGLE. An ARB frame with
the device's own id is an ID_CLASH, and another is kept. After 100 us of exchange the rules decide: the winner is
ACTIVE, the other STANDBY. A SOLO device that finds no partner within ARB_WAIT becomes ACTIVE. An accepted SWITCH is
pending. A device whose partner took over is STANDBY; its holds act 10 us later, and ACTIVE_OUT of the new active
device rises at its instant. -/
def Obligations.PairRoles : Prop :=
  (∀ t r d s, Accepts t r F.PAIR_CTRL_ENABLE.addr d s →
    ∃ u, exec (.pairEnableWrite t r d) s = .next u ∧ paired u = bit (word d) 0 ∧ (paired s ≠ bit (word d) 0 → pairRole u = if bit (word d) 0 then 2 else 0)) ∧
  (∀ t i (a : Bool) h (b : Bool) s, paired s = true → i % 2 = rd s F.PAIR_ROLE_PAIR_ID → flag s F.PAIR_STATUS_ID_CLASH = false →
    ∃ u, exec (.arb t i a h b) s = .next u ∧ flag u F.PAIR_STATUS_ID_CLASH = true ∧ pairRole u = 2 ∧ flag u F.PAIR_EVT_RAW_ID_CLASH = true) ∧
  (∀ t i (a : Bool) h (b : Bool) s, paired s = true → i % 2 ≠ rd s F.PAIR_ROLE_PAIR_ID →
    ∃ u, exec (.arb t i a h b) s = .next u ∧ u.pair.rival = some ⟨b, h % 8, a⟩) ∧
  (∀ t a (x : Rival) s, pairUp s = s.pair.up → s.pair.arb = some a → s.pair.rival = some x → a + usec 100 ≤ t → flag s F.PAIR_STATUS_ID_CLASH = false →
    ∃ u, exec (.arbDone t) s = .next u ∧ flag u F.PAIR_STATUS_ARBITRATED = true ∧ pairRole u = (if arbWins (at' t s) x then 1 else 2) ∧
    flag u F.PAIR_EVT_RAW_ARB_DONE = true) ∧
  (∀ t s, paired s = true → flag s F.PAIR_CFG_SOLO = true → pairRole s = 2 → flag s F.PAIR_STATUS_ARBITRATED = false → flag s F.PAIR_STATUS_ID_CLASH = false →
    s.pair.up = false → pairUp s = false → s.pair.since + msec (rd s F.PAIR_CFG_ARB_WAIT) ≤ t →
    ∃ u, exec (.arbWaitExpire t) s = .next u ∧ pairRole u = 1 ∧ flag u F.PAIR_STATUS_SPLIT = true) ∧
  (∀ t r s, Accepts t r A.PAIR_SWITCH 1 s → ∃ u, exec (.switch t r) s = .next u ∧ flag u F.PAIR_STATUS_SWITCH_PENDING = true) ∧
  (∀ t c f s, paired s = true → pairRole s = 1 →
    ∃ u, exec (.taken t c f) s = .next u ∧ pairRole u = 2 ∧ u.pair.actOut = false ∧ u.pair.holdAt = some (t + usec 10) ∧
    rd u F.PAIR_TAKEOVER_CAUSE = c % 8 ∧ flag u F.PAIR_EVT_RAW_TAKEOVER = true) ∧
  (∀ t a s, s.pair.raiseAt = some a → a ≤ t → pairRole s = 1 →
    ∃ u, exec (.activeOutRaise t) s = .next u ∧ u.pair.actOut = true ∧ u.pair.raiseAt = none) ∧
  (∀ t a s, s.pair.holdAt = some a → a ≤ t → pairRole s = 2 →
    ∃ u, exec (.standbyHoldApply t) s = .next u ∧ u.pair.held = true ∧ u.pair.holdAt = none)

/-- A standby aligns at the edge named, and applies at their edges the rates and steps of its partner. A heartbeat sent
takes the next sequence number; one received shows the partner, and 32 us without one clear PARTNER_OK, with SPLIT
where the device is active or takes over. A standby keeps the last mirror, its partner's tiles of an open frame, and
in plan state 6 its partner's sets. -/
def Obligations.PairExchange : Prop :=
  (∀ t e a b n f i k s, pairRole s = 2 → flag s F.PAIR_STATUS_ID_CLASH = false →
    ∃ u, exec (.alignSet t e a b n f i k) s = .next u ∧ u.pair.align = some ⟨e, a, b, n, f, i, k⟩) ∧
  (∀ t (a : Align) s, s.pair.align = some a → pairRole s = 2 → a.edge * nsec (pNom s) ≤ t →
    ∃ u, exec (.alignEdgeReached t) s = .next u ∧ u.now = a.tdc ∧ u.ntm.incr = a.incr ∧ reg u A.SCN_TICK_COUNT = word a.tick ∧
    flag u F.PAIR_STATUS_TIME_ALIGNED = true ∧ u.pair.align = none) ∧
  (∀ t b s, paired s = true → pairUp s = s.pair.up → pairBundle s = some b → s.pair.arb = none →
    ∃ u, exec (.heartbeatSend t) s = .next u ∧ pget 0 u.pair.seqs 3 = (pget 0 s.pair.seqs 3 + 1) % 2 ^ 24 ∧
    (s.pair.sentAt + usec 10 ≤ t → u.pair.sentAt = s.pair.sentAt + (t - s.pair.sentAt) / usec 10 * usec 10 ∧ u.pair.heard = false)) ∧
  (∀ t (x : PairReport) s, paired s = true →
    ∃ u, exec (.heartbeat t x) s = .next u ∧ u.pair.partner = some ⟨t, { x with health := x.health % 8 }⟩ ∧ flag u F.PAIR_STATUS_PARTNER_OK = true) ∧
  (∀ t (p : Partner) s, paired s = true → s.pair.partner = some p → flag s F.PAIR_STATUS_PARTNER_OK = true → p.at' + usec 32 ≤ t →
    ∃ u, exec (.hbLost t) s = .next u ∧ flag u F.PAIR_STATUS_PARTNER_OK = false ∧
    (pairRole s = 1 → flag u F.PAIR_STATUS_SPLIT = true)) ∧
  (∀ t (p : Partner) s, paired s = true → s.pair.partner = some p → flag s F.PAIR_STATUS_PARTNER_OK = true → p.at' + usec 32 ≤ t →
    pairUp s = s.pair.up → mayTake s = true →
    ∃ u, exec (.hbLost t) s = .next u ∧ pairRole u = 1 ∧ flag u F.PAIR_STATUS_SPLIT = true ∧ u.pair.raiseAt = some (max s.now t + nsec 100)) ∧
  (∀ t (m : LoopMirror) s, pairRole s = 2 → ∃ u, exec (.mirror t m) s = .next u ∧ u.pair.mirror = some (t, m)) ∧
  (∀ t e (i : Option Nat) (d : Option Int) s, follows s = true → ∃ u, exec (.time t e i d) s = .next u ∧ u.pair.times = s.pair.times ++ [(e, i, d)]) ∧
  (∀ t e (i : Option Nat) (d : Option Int) (l : List (Nat × Option Nat × Option Int)) s, paired s = true → flag s F.PAIR_STATUS_TIME_ALIGNED = true → s.pair.times = (e, i, d) :: l → e * nsec (pNom s) ≤ t →
    ∃ u, exec (.timeEdgeApply t) s = .next u ∧ u.pair.times = l ∧ (∀ x ∈ i, u.ntm.incr = x)) ∧
  (∀ t f (x : Option (Nat × Nat × Nat)) (a b : Bool) s, paired s = true → flag s F.PAIR_CFG_CMP_EN = true →
    ((cmpFrame s.pair.mine f).ended && ((cmpFrame s.pair.theirs f).ended || a)) = false →
    ∃ u, exec (.tiles t f x a b) s = .next u ∧ (cmpFrame u.pair.theirs f).tiles = (cmpFrame s.pair.theirs f).tiles ++ x.toList ∧
    (cmpFrame u.pair.theirs f).ended = ((cmpFrame s.pair.theirs f).ended || a)) ∧
  (∀ t f (x : Option (Nat × Nat × Nat)) (a b : Bool) s, paired s = true → flag s F.PAIR_CFG_CMP_EN = true →
    ((cmpFrame s.pair.mine f).ended && ((cmpFrame s.pair.theirs f).ended || a)) = true → ((cmpFrame s.pair.mine f).stopped || (cmpFrame s.pair.theirs f).stopped || b) = false →
    ∃ u, exec (.tiles t f x a b) s = .next u ∧ (reg u A.PAIR_CMP_FRAMES).toNat = min ((reg s A.PAIR_CMP_FRAMES).toNat + 1) 0xFFFFFFFF) ∧
  (∀ t a h p g s, planState s = 6 →
    ∃ u, exec (.plan t a h p g) s = .next u ∧ u.pln.held = h &&& allSlots s ∧ u.pln.pending = p &&& allSlots s ∧ u.pln.grant = g &&& allSlots s ∧ u.pln.after = a % 16)

/-- Power-on latches the straps and holds the device in reset, a life-cycle transition that was begun being completed. The
reset pin and an accepted GLB SOFT_RESET reset it, each with its bit of RESET_CAUSE. The release begins the wipe,
whose end shows WIPE_DONE. A JTAG instruction that the life-cycle state allows is taken. -/
def Obligations.Resets : Prop :=
  (∀ t (a b : Bool) s, s.pwr.lcBegun = none →
    ∃ u, exec (.por t a b) s = .next u ∧ u.held = true ∧ u.pwr.freqSel = a ∧ u.pwr.pairId = b ∧ reg u F.GLB_RESET_CAUSE_POR.addr = 1#32 ∧
    rd u F.CLK_REF_SEL_FREQ = b2n a ∧ rd u F.PAIR_ROLE_PAIR_ID = b2n b) ∧
  (∀ t (a b : Bool) x s, s.pwr.lcBegun = some x →
    ∃ u, exec (.por t a b) s = .next u ∧ u.held = true ∧ u.pwr.lcState = x ∧ u.pwr.lcBegun = none ∧ u.calstore = [] ∧ reg u F.GLB_RESET_CAUSE_POR.addr = 8#32) ∧
  (∀ t s, ∃ u, exec (.resetPin t) s = .next u ∧ u.held = true ∧ reg u F.GLB_RESET_CAUSE_POR.addr = 2#32 ∧ u.calstore = s.calstore) ∧
  (∀ t r s, Accepts t r 0x000008 2 s → ∃ u, exec (.glbSoftReset t r) s = .next u ∧ u.held = true ∧ reg u F.GLB_RESET_CAUSE_POR.addr = 4#32 ∧ u.calstore = s.calstore) ∧
  (∀ t s, s.held = true → ∃ u, exec (.resetRelease t) s = .next u ∧ u.held = false ∧ u.wiping = true ∧ flag u F.GLB_STATUS_WIPE_BUSY = true) ∧
  (∀ t n s, s.held = false → s.wiping = true →
    ∃ u, exec (.wipeDone t n) s = .next u ∧ u.wiping = false ∧ flag u F.GLB_STATUS_WIPE_BUSY = false ∧ flag u F.GLB_STATUS_WIPE_DONE = true ∧
    flag u F.GLB_EVT_RAW_WIPE_DONE = true) ∧
  (∀ t k s, ∃ u, exec (.jtagInstruction t k) s = .next u ∧ u.pwr.jtag = if jtagAllowed (at' t s) k then some k else none)

/-- An accepted request among SLEEP, TIMEKEEP and READY begins a transition; RUN is entered at once, or pends while a
motion model is awaited; READY is entered from RUN at once, or pends while acquisition runs. The entry that completes
shows its state, and one upward of which a PLL has not locked within 4 ms fails. An accepted CLK_REQ stores the
request of the video clock. The right LC_KEY arms the request, and an accepted LC_REQ begins the transition with
CALSTORE wiped, whose end is the new state in reset. -/
def Obligations.PowerStates : Prop :=
  (∀ t r d s, Accepts t r F.PWR_STATE_REQ_STATE.addr d s → fld (word d) 0 3 ≤ 3 → pstate s ≠ 4 →
    ∃ u, exec (.stateReqWrite t r d) s = .next u ∧ flag u F.PWR_STATUS_TRANSITION = true ∧
    u.pwr.trans = some (PState.ofCode (pstate s), PState.ofCode (fld (word d) 0 3)) ∧ u.pwr.since = max s.now t) ∧
  (∀ t r d s, Accepts t r F.PWR_STATE_REQ_STATE.addr d s → fld (word d) 0 3 = 4 → (isStare s || modelValid s) = true →
    ∃ u, exec (.stateReqWrite t r d) s = .next u ∧ flag u F.PWR_STATUS_RUN_PENDING = true) ∧
  (∀ t r d s, Accepts t r F.PWR_STATE_REQ_STATE.addr d s → fld (word d) 0 3 = 3 → pstate s = 4 → acqRuns s = true →
    ∃ u, exec (.stateReqWrite t r d) s = .next u ∧ flag u F.PWR_STATUS_DOWN_PENDING = true) ∧
  (∀ t (a b : PState) s, s.pwr.trans = some (a, b) → (b.code ≤ a.code ∨ flag s F.CLK_STATUS_REF_PRESENT = true) →
    ∃ u, exec (.stateEntryDone t) s = .next u ∧ u.pwr.trans = none ∧ pstate u = b.code ∧ flag u F.PWR_STATUS_TRANSITION = false ∧
    flag u F.PWR_EVT_RAW_STATE_CHANGE = true) ∧
  (∀ t (a b : PState) s, s.pwr.trans = some (a, b) → a.code < b.code → s.pwr.since + msec 4 ≤ t →
    ∃ u, exec (.lockTimeout t) s = .next u ∧ u.pwr.trans = none ∧ flag u F.PWR_STATUS_TRANSITION = false ∧ flag u F.PWR_EVT_RAW_TRANS_FAIL = true) ∧
  (∀ t r d s, Accepts t r F.PWR_CLK_REQ_VID.addr d s → ∃ u, exec (.clkReqWrite t r d) s = .next u ∧ flag u F.PWR_CLK_REQ_VID = bit (word d) 0) ∧
  (∀ t r d s, Accepts t r A.PWR_LC_KEY d s → ∃ u, exec (.lcKeyWrite t r d) s = .next u ∧ u.pwr.lcArmed = true) ∧
  (∀ t r d s, Accepts t r A.PWR_LC_REQ d s →
    ∃ u, exec (.lcReqWrite t r d) s = .next u ∧ u.pwr.lcBegun = some (fld (word d) 0 4) ∧ u.pwr.lcArmed = false ∧ u.calstore = [] ∧
    flag u F.PWR_STATUS_LC_BUSY = true ∧ flag u F.GLB_STATUS_WIPE_BUSY = true) ∧
  (∀ t x s, flag s F.PWR_STATUS_LC_BUSY = true → s.pwr.lcBegun = some x →
    ∃ u, exec (.lcTransitionDone t) s = .next u ∧ u.pwr.lcState = x ∧ u.pwr.lcBegun = none ∧ u.held = true ∧ reg u F.GLB_RESET_CAUSE_POR.addr = 8#32)

/-- For every command and every state with it at the front of the queue, a step is the execution of the command on the
state with the rest of the queue; with an empty queue the step answers the state itself. Every command completes in
every state: its execution answers a next state. That an empty queue idles is the model's choice (log entry 1). -/
def Obligations.StepTakesTheFront : Prop :=
  (∀ (c : Instr) (l : List Instr) s, s.pending = c :: l → step s = exec c { s with pending := l }) ∧
  (∀ s, s.pending = [] → step s = .next s) ∧
  (∀ (c : Instr) s, ∃ u, exec c s = .next u)

/-- The state right after power-on is held in reset with an empty queue and empty memories in canonical form, legal fuses
in FACTORY with 15 entries to SERVICE, and every register at its reset value, POOL_SPLIT at 8, 8 and 32 among them.
The reset pin returns every register to its reset value but RESET_CAUSE, the strapped REF_SEL, PAIR.ROLE and CLK_DIR,
ID_CLASH, and INCR_NS, and keeps CALSTORE and the fuses. That the fuses stand in FACTORY and CALSTORE holds zeros is
the model's choice, a device as shipped (log entries 13 and 15), and so are the low straps (log entry 12). -/
def Obligations.ResetState : Prop :=
  (∀ s, s = State.reset → MemoriesCanonical s ∧ FusesLegal s ∧ s.held = true ∧ s.pending = [] ∧ s.sram = [] ∧ s.calstore = [] ∧
    s.pwr.lcState = 1 ∧ s.pwr.lcLeft = 15 ∧ rd s F.GLB_POOL_SPLIT_DISPLAY = 8 ∧ rd s F.GLB_POOL_SPLIT_STREAM = 8 ∧ rd s F.GLB_POOL_SPLIT_RETAIN = 32) ∧
  (∀ a, reg State.reset a = regReset a) ∧
  (∀ t s a, a ∉ [F.GLB_RESET_CAUSE_POR.addr, F.CLK_REF_SEL_FREQ.addr, F.PAIR_ROLE_PAIR_ID.addr, F.PAIR_STATUS_ID_CLASH.addr,
    F.SDF_CFG_CLK_DIR.addr, A.NTM_INCR_NS] →
    ∃ u, exec (.resetPin t) s = .next u ∧ reg u a = regReset a ∧ u.calstore = s.calstore ∧ u.pwr.lcState = s.pwr.lcState ∧ u.pwr.lcLeft = s.pwr.lcLeft)

/-- A write of LOCK with a value other than 0x0000 opens the lock of every page but SAF where it is 0x4C6B, and that of
SAF where it is 0x5AFE and the SAFE_CONFIG window is open; any other value is refused with 0x07 and leaves the lock
closed. -/
def Obligations.LockKeys : Prop :=
  (∀ t r p d s, HeaderPage p → p ≠ 0x90000 → BusIdle s → clocked (p + 0x2C) s = true → (p = 0x2000 → s.pwr.lcArmed = false) → fld (word d) 0 16 ≠ 0 →
    ∃ u, exec (.lockKeyWrite t r p d) s = .next u ∧ u.bus.lastErr = (if fld (word d) 0 16 = 0x4C6B then 0 else 7) ∧
    lockOpen u p = decide (fld (word d) 0 16 = 0x4C6B)) ∧
  (∀ t r d s, BusIdle s → clocked 0x9002C s = true → fld (word d) 0 16 ≠ 0 →
    ∃ u, exec (.lockKeyWrite t r 0x90000 d) s = .next u ∧
    u.bus.lastErr = (if fld (word d) 0 16 = 0x5AFE ∧ flag s F.SAF_STATUS_WINDOW_OPEN = true then 0 else 7) ∧
    lockOpen u 0x90000 = decide (fld (word d) 0 16 = 0x5AFE ∧ flag s F.SAF_STATUS_WINDOW_OPEN = true))

/-- A write that places a reserved encoding in any field of a register, and that neither the lock nor a pending commit
refuses first, leaves the register and its shadow as they were, gives code 0x02, and records it in the page's ERR_CODE
where no error stands there. -/
def Obligations.ReservedEncodings : Prop :=
  ∀ t r a d s (l : RegLoc) (f : FieldRow) (e : Nat × Nat), BusIdle s → busAddr a = a → windowed a = false → slowAddr a s = false → pageBase a = some l.pbase →
    findReg a = some l → clocked a s = true → (hasHeader l.pbase && (decide (a = l.pbase + 0x2C) || (decide (a = l.pbase + 8) && bit (word d) 1))) = false →
    (protChange l a (word d) s && !(lockOpen s l.pbase)) = false → shadowBusy l a s = false →
    f ∈ l.row.fields → f.acc ≠ .cnt → e ∈ f.bad → e.1 ≤ fld (word d) f.lo f.len → fld (word d) f.lo f.len ≤ e.2 → a ≠ errPage l.pbase a + 0x28 →
    ∃ u, exec (.registerWrite t r a d) s = .next u ∧ u.bus.lastErr = 2 ∧ reg u a = reg s a ∧ shadowReg u a = shadowReg s a ∧
    (fld (reg s (errPage l.pbase a + 0x28)) 0 8 = 0 → fld (reg u (errPage l.pbase a + 0x28)) 0 8 = 2)

/-- With the key written and the device in SLEEP, a request is accepted from FACTORY to FIELD, SERVICE and RETIRED, from
FIELD to SERVICE while entries remain and to RETIRED, and from SERVICE to FIELD and RETIRED; every other is refused
with 0x22 and begins nothing. A transition that completes enters its state, takes one entry where that is SERVICE, and
clears CALSTORE; there are 15 entries at first. -/
def Obligations.LifeCycleTransitions : Prop :=
  (∀ t r d s, BusIdle s → lockOpen s 0x2000 = true → s.pwr.lcArmed = true → s.wiping = false → pstate s = 1 →
    flag s F.PWR_STATUS_TRANSITION = false → flag s F.PWR_STATUS_LC_BUSY = false →
    ∃ u, exec (.lcReqWrite t r d) s = .next u ∧
    (if (s.pwr.lcState, fld (word d) 0 4) ∈ [(1, 2), (1, 3), (1, 4), (2, 4), (3, 2), (3, 4)] ∨ (s.pwr.lcState = 2 ∧ fld (word d) 0 4 = 3 ∧ 0 < s.pwr.lcLeft)
    then u.bus.lastErr = 0 ∧ u.pwr.lcBegun = some (fld (word d) 0 4)
    else u.bus.lastErr = 0x22 ∧ u.pwr.lcBegun = s.pwr.lcBegun)) ∧
  (∀ t x s, flag s F.PWR_STATUS_LC_BUSY = true → s.pwr.lcBegun = some x →
    ∃ u, exec (.lcTransitionDone t) s = .next u ∧ u.pwr.lcState = x ∧ u.pwr.lcLeft = s.pwr.lcLeft - (if x = 3 then 1 else 0) ∧ u.calstore = []) ∧
  (∀ s, s = State.reset → s.pwr.lcLeft = 15)

/-- The events named leave every register, both memories, the queue and the state of every other block as they were: each
changes only the time of the last command and the part named (the register bus, the clocks, the JTAG instruction, the
time-digital converters, the frequency counters, the scheduler, the histogramming engines, the links, network time,
the safety block, the bridge, housekeeping, calibration, the pair). -/
def Obligations.FramesBesideRegisters : Prop :=
  (∀ t c s, ∃ u, exec (.settlingEnd t c) s = .next u ∧ u = { s with now := max s.now t, tdc := u.tdc }) ∧
  (∀ t m s, ∃ u, exec (.startSettleEnd t m) s = .next u ∧ u = { s with now := max s.now t, tdc := u.tdc }) ∧
  (∀ t c s, ∃ u, exec (.hitTimeFormed t c) s = .next u ∧ u = { s with now := max s.now t, tdc := u.tdc, vat := u.vat }) ∧
  (∀ t k s, ∃ u, exec (.fcGateOpen t k) s = .next u ∧ u = { s with now := max s.now t, fct := u.fct }) ∧
  (∀ t g (b : Bool) s, ∃ u, exec (.captureGateOpen t g b) s = .next u ∧ u = { s with now := max s.now t, esc := u.esc }) ∧
  (∀ t i s, ∃ u, exec (.toutPulseEnd t i) s = .next u ∧ u = { s with now := max s.now t, esc := u.esc }) ∧
  (∀ t c s, ∃ u, exec (.shotMarker t c) s = .next u ∧ u = { s with now := max s.now t, vat := u.vat }) ∧
  (∀ t a (l : List Nat) s, ∃ u, exec (.mspiCsEarlyRise t a l) s = .next u ∧ u = { s with now := max s.now t, bus := u.bus }) ∧
  (∀ t s, ∃ u, exec (.holdoverLimit t) s = .next u ∧ u = { s with now := max s.now t, clk := { s.clk with wide := u.clk.wide } }) ∧
  (∀ t k s, ∃ u, exec (.jtagInstruction t k) s = .next u ∧ u = { s with now := max s.now t, pwr := { s.pwr with jtag := u.pwr.jtag } }) ∧
  (∀ t b v n s, ∃ u, exec (.credit t b v n) s = .next u ∧ u = { s with now := max s.now t, wnb := u.wnb }) ∧
  (∀ t b s, ∃ u, exec (.ackIntExpire t b) s = .next u ∧ u = { s with now := max s.now t, wnb := u.wnb }) ∧
  (∀ t b s, ∃ u, exec (.creditIntExpire t b) s = .next u ∧ u = { s with now := max s.now t, wnb := u.wnb }) ∧
  (∀ t b m s, ∃ u, exec (.laneTx t b m) s = .next u ∧ u = { s with now := max s.now t, wnb := u.wnb }) ∧
  (∀ t b (a : Bool) k s, ∃ u, exec (.power t b a k) s = .next u ∧ u = { s with now := max s.now t, wnb := u.wnb }) ∧
  (∀ t b s, ∃ u, exec (.powerRetry t b) s = .next u ∧ u = { s with now := max s.now t, wnb := u.wnb }) ∧
  (∀ t s, ∃ u, exec (.budgetSubwindow t) s = .next u ∧ u = { s with now := max s.now t, saf := u.saf }) ∧
  (∀ t s, ∃ u, exec (.matchEntryExpire t) s = .next u ∧ u = { s with now := max s.now t, eth := { s.eth with ents := u.eth.ents } }) ∧
  (∀ t s, ∃ u, exec (.ppsOutPulse t) s = .next u ∧ u = { s with now := max s.now t, ntm := { s.ntm with pps := u.ntm.pps, ppsAt := u.ntm.ppsAt } }) ∧
  (∀ t s, ∃ u, exec (.ppsOutEnd t) s = .next u ∧ u = { s with now := max s.now t, ntm := { s.ntm with pps := u.ntm.pps } }) ∧
  (∀ t c s, ∃ u, exec (.linLoadDone t c) s = .next u ∧ u = { s with now := max s.now t, hka := { s.hka with coefs := u.hka.coefs, loads := u.hka.loads } }) ∧
  (∀ t (l : List Nat) s, ∃ u, exec (.calThreshStep t l) s = .next u ∧ u = { s with now := max s.now t, cal := { s.cal with job := u.cal.job } }) ∧
  (∀ t (m : LoopMirror) s, ∃ u, exec (.mirror t m) s = .next u ∧ u = { s with now := max s.now t, pair := { s.pair with mirror := u.pair.mirror } }) ∧
  (∀ t e (d : Option Nat) (x : Option Int) s, ∃ u, exec (.time t e d x) s = .next u ∧ u = { s with now := max s.now t, pair := { s.pair with times := u.pair.times } }) ∧
  (∀ t e a b n f i k s, ∃ u, exec (.alignSet t e a b n f i k) s = .next u ∧ u = { s with now := max s.now t, pair := { s.pair with align := u.pair.align } }) ∧
  (∀ t s, ∃ u, exec (.activeOutRaise t) s = .next u ∧ u = { s with now := max s.now t, pair := { s.pair with actOut := u.pair.actOut, raiseAt := u.pair.raiseAt } }) ∧
  (∀ t s, ∃ u, exec (.standbyHoldApply t) s = .next u ∧ u = { s with now := max s.now t, pair := { s.pair with held := u.pair.held, holdAt := u.pair.holdAt } })

/-- A clear of ERR_CODE or EVT_RAW and an EVT_FORCE change no register but their own and the page's LOCK count, and
neither memory. A refused write of a register changes no register but the ERR_CODE and LOCK of its page and the error
registers of GLB (on pages whose chapter adds nothing to a refusal, and where no other bit of the write takes effect),
and neither memory. A write of CALSTORE or of the general pool changes its four bytes and no register. The events
named change registers of their own pages only, and neither memory; any event may count a dropped EVENT frame. -/
def Obligations.FramesOfWritesAndEvents : Prop :=
  (∀ t r p s, HeaderPage p → Accepts t r (p + 0x28) (2 ^ 31) s →
    ∃ u, exec (.errCodeClear t r p) s = .next u ∧ SameRegs (fun a => decide (a = p + 0x28) || decide (a = p + 0x2C) || (decide (p = 0) && decide (a = A.GLB_ERR_ADDR))) s u ∧
    u = { s with now := max s.now t, regs := u.regs, bus := u.bus, pwr := { s.pwr with lcArmed := u.pwr.lcArmed } }) ∧
  (∀ t r p d s, HeaderPage p → Accepts t r (p + 0x10) d s →
    ∃ u, exec (.evtRawClear t r p d) s = .next u ∧ SameRegs (fun a => decide (a = p + 0x10) || decide (a = p + 0x2C)) s u ∧
    u = { s with now := max s.now t, regs := u.regs, irq := u.irq, wnb := u.wnb, bus := u.bus, pwr := { s.pwr with lcArmed := u.pwr.lcArmed } }) ∧
  (∀ t r p d s, HeaderPage p → Accepts t r (p + 0x1C) d s →
    ∃ u, exec (.evtForce t r p d) s = .next u ∧ SameRegs (fun a => decide (a = p + 0x10) || decide (a = p + 0x2C)) s u ∧
    u = { s with now := max s.now t, regs := u.regs, irq := u.irq, wnb := u.wnb, bus := u.bus, pwr := { s.pwr with lcArmed := u.pwr.lcArmed } }) ∧
  (∀ t r a d p s, BusIdle s → busAddr a = a → windowed a = false → slowAddr a s = false → p = (pageBase a).getD 0 → p ∉ [0xA0000, 0xA8000] → stays a (word d) s = 0#32 →
    (busWrite r a (word d) (at' t s)).1 ≠ 0 →
    ∃ u, exec (.registerWrite t r a d) s = .next u ∧ u.bus.lastErr = (busWrite r a (word d) (at' t s)).1 ∧
    SameRegs (fun x => decide (x = errPage p a + 0x28) || decide (x = p + 0x28) || decide (x = p + 0x2C) || decide (x = 0x28) || decide (x = A.GLB_ERR_ADDR)) s u ∧
    u = { s with now := max s.now t, regs := u.regs, bus := u.bus, pwr := { s.pwr with lcArmed := u.pwr.lcArmed } }) ∧
  (∀ t r a d s, Accepts t r a d s → busAddr a = a → 0x400000 ≤ a → a < 0x480000 →
    ∃ u, exec (.registerWrite t r a d) s = .next u ∧ memWord u.calstore (a - 0x400000) = word d &&& calMask (a - 0x400000) ∧
    SameBytes (a - 0x400000) 4 s.calstore u.calstore ∧ u = { s with now := max s.now t, bus := u.bus, calstore := u.calstore }) ∧
  (∀ t s a (d : Word), s.bus.slow = [⟨.mspi, true, a, d⟩] → s.held = false → Settled s → flag s F.PMON_CTRL_ENABLE = false → sysOn s = true →
    0x800000 ≤ busAddr a → 0x3000000 ≤ windowAt s (busAddr a) → inStream s (windowAt s (busAddr a)) = false → windowRefused s (windowAt s (busAddr a)) = false →
    ∃ u, exec (.slowAccessComplete t .mspi) s = .next u ∧ SameBytes (windowAt s (busAddr a)) 4 s.sram u.sram ∧
    u = { s with now := max s.now t, bus := u.bus, sram := u.sram }) ∧
  (∀ t s, ∃ u, exec (.vidLatchPoint t) s = .next u ∧ SameRegs (fun a => decide (0xB0000 ≤ a) && decide (a < 0xB1000)) s u ∧
    u = { s with now := max s.now t, regs := u.regs, irq := u.irq, wnb := u.wnb, vid := u.vid }) ∧
  (∀ t s, ∃ u, exec (.vidFrameEnd t) s = .next u ∧ SameRegs (fun a => decide (0xB0000 ≤ a) && decide (a < 0xB1000)) s u ∧
    u = { s with now := max s.now t, regs := u.regs, irq := u.irq, wnb := u.wnb, vid := u.vid }) ∧
  (∀ t k (b : Bool) s, ∃ u, exec (.excLimit t k b) s = .next u ∧ SameRegs (fun a => decide (a = F.HKA_STATUS_EXC0_LIMIT.addr) || decide (a = 0xC0010)) s u ∧
    u = { s with now := max s.now t, regs := u.regs, irq := u.irq, wnb := u.wnb }) ∧
  (∀ t q s, ∃ u, exec (.pllUnlock t q) s = .next u ∧
    SameRegs (fun a => decide (a = F.CLK_STATUS_SYS_LOCK.addr) || decide (a = 0x1010) || decide (a = (F.TDC_STATUS_PLL_LOCK q).addr) || decide (a = (F.TDC_EVT_RAW_PLL_UNLOCK q).addr)) s u ∧
    u = { s with now := max s.now t, regs := u.regs, irq := u.irq, wnb := u.wnb, clk := { s.clk with discard := u.clk.discard } }) ∧
  (∀ t s, ∃ u, exec (.resetRelease t) s = .next u ∧ SameRegs (fun a => decide (a = F.GLB_STATUS_WIPE_BUSY.addr)) s u ∧
    u = { s with now := max s.now t, held := u.held, wiping := u.wiping, regs := u.regs, pwr := { s.pwr with sramOn := u.pwr.sramOn } }) ∧
  (∀ t s, ∃ u, exec (.lockTimeout t) s = .next u ∧
    SameRegs (fun a => decide (a = A.PWR_TRANS_LAST_US) || decide (a = F.PWR_STATUS_TRANSITION.addr) || decide (a = 0x2010) || decide (a = 0x2028)) s u ∧
    u = { s with now := max s.now t, fresh := u.fresh, regs := u.regs, irq := u.irq, wnb := u.wnb, pwr := { s.pwr with trans := u.pwr.trans } })

/-- From every state whose SRAM and CALSTORE are in canonical form (addresses strictly rising, no byte that reads as an
unlisted one), a step that answers a next state leaves both in canonical form, so that equal memories are equal data. -/
def Obligations.MemoriesStayCanonical : Prop :=
  ∀ s u, MemoriesCanonical s → step s = .next u → MemoriesCanonical u

/-- From every state whose fuses hold one of the four life-cycle states, at most 15 entries to SERVICE and no begun
transition but to FIELD, SERVICE or RETIRED, a step that answers a next state leaves them so: only a permitted request
begins a transition, and no command leads back to FACTORY by one. -/
def Obligations.FusesStayLegal : Prop :=
  ∀ s u, FusesLegal s → step s = .next u → FusesLegal u
end

