-- ==== Sys2Proof/Laws/Sparse.lean ====
section
/-!
SUPPORT. Laws of sparse data by key: reading after writing, and the canonical form; then the byte memories.
-/

namespace Sys2Proof.Machine

/-! ## Reading after writing -/

theorem pget_dropWhile {α : Type} (d : α) (a b : Nat) (l : List (Nat × α)) (h : a < b) :
    pget d (l.dropWhile fun p => decide (p.1 ≤ a)) b = pget d l b := by
  induction l with
  | nil => rfl
  | cons x r ih =>
    obtain ⟨k, v⟩ := x
    by_cases hk : k ≤ a
    · have : k < b := by omega
      simp [hk, pget, this, ih]
    · simp [hk]

theorem pget_dropWhile_low {α : Type} (d : α) (a b : Nat) (l : List (Nat × α)) (h : b ≤ a) :
    pget d (l.dropWhile fun p => decide (p.1 ≤ a)) b = d := by
  induction l with
  | nil => rfl
  | cons x r ih =>
    obtain ⟨k, v⟩ := x
    by_cases hk : k ≤ a
    · simp [hk, ih]
    · have h1 : ¬ k < b := by omega
      have h2 : k ≠ b := by omega
      simp [hk, pget, h1, h2]

/-- The value written at a key is the one read there. -/
theorem pget_pset_same {α : Type} [DecidableEq α] (d : α) (l : List (Nat × α)) (a : Nat) (v : α) :
    pget d (pset d l a v) a = v := by
  induction l with
  | nil => by_cases h : v = d <;> simp [pset, pget, h]
  | cons x r ih =>
    obtain ⟨k, w⟩ := x
    by_cases h1 : k < a
    · simp [pset, h1, pget, ih]
    · by_cases h2 : k = a
      · subst h2
        by_cases hv : v = d
        · simp [pset, hv, pget_dropWhile_low]
        · simp [pset, hv, pget]
      · by_cases hv : v = d
        · simp [pset, h1, h2, hv, pget]
        · simp [pset, h1, h2, hv, pget]

/-- A write at a key leaves every other key as it was. -/
theorem pget_pset_other {α : Type} [DecidableEq α] (d' d : α) (l : List (Nat × α)) (a b : Nat) (v : α) (h : b ≠ a) :
    pget d' (pset d l a v) b = pget d' l b := by
  induction l with
  | nil =>
    by_cases hv : v = d
    · simp [pset, hv]
    · by_cases h1 : a < b
      · simp [pset, hv, pget, h1]
      · have : a ≠ b := fun e => h e.symm
        simp [pset, hv, pget, h1, this]
  | cons x r ih =>
    obtain ⟨k, w⟩ := x
    by_cases h1 : k < a
    · simp only [pset, h1, if_true, pget, ih]
    · by_cases h2 : k = a
      · subst h2
        by_cases hlt : k < b
        · by_cases hv : v = d
          · simp [pset, hv, pget, hlt, pget_dropWhile d' k b r hlt]
          · simp [pset, hv, pget, hlt]
        · have hne : k ≠ b := fun e => h e.symm
          by_cases hv : v = d
          · simp [pset, hv, pget, hlt, hne, pget_dropWhile_low d' k b r (by omega)]
          · simp [pset, hv, pget, hlt, hne]
      · by_cases hv : v = d
        · simp [pset, h1, h2, hv]
        · have hab : a ≠ b := fun e => h e.symm
          by_cases hlt : a < b
          · simp [pset, h1, h2, hv, pget, hlt]
          · have hk1 : ¬ k < b := by omega
            have hk2 : k ≠ b := by omega
            simp [pset, h1, h2, hv, pget, hlt, hab, hk1, hk2]

theorem pget_pset {α : Type} [DecidableEq α] (d : α) (l : List (Nat × α)) (a b : Nat) (v : α) :
    pget d (pset d l a v) b = if b = a then v else pget d l b := by
  by_cases h : b = a
  · subst h
    simp [pget_pset_same]
  · simp [h, pget_pset_other d d l a b v h]

/-! ## The canonical form -/

theorem pwf_tail {α : Type} [DecidableEq α] {d : α} {x : Nat × α} {l : List (Nat × α)} (h : pwf d (x :: l) = true) :
    pwf d l = true := by
  cases l with
  | nil => rfl
  | cons y r => simp only [pwf, Bool.and_eq_true] at h; exact h.2

/-- Every key of a canonical list after its first is greater than the first. -/
theorem pwf_keys {α : Type} [DecidableEq α] {d : α} {x : Nat × α} {l : List (Nat × α)} (h : pwf d (x :: l) = true) :
    ∀ y ∈ l, x.1 < y.1 := by
  induction l generalizing x with
  | nil => simp
  | cons z r ih =>
    intro y hy
    have hx : x.1 < z.1 := by
      simp only [pwf, Bool.and_eq_true, decide_eq_true_eq] at h
      exact h.1.2
    rcases List.mem_cons.1 hy with rfl | hy
    · exact hx
    · exact Nat.lt_trans hx (ih (pwf_tail h) y hy)

theorem pwf_cons {α : Type} [DecidableEq α] {d : α} {x : Nat × α} {l : List (Nat × α)} (hv : x.2 ≠ d)
    (hk : ∀ y ∈ l, x.1 < y.1) (hl : pwf d l = true) : pwf d (x :: l) = true := by
  cases l with
  | nil => simpa [pwf] using hv
  | cons z r =>
    simp only [pwf, Bool.and_eq_true, decide_eq_true_eq]
    exact ⟨⟨hv, hk z (by simp)⟩, hl⟩

theorem pwf_head {α : Type} [DecidableEq α] {d : α} {x : Nat × α} {l : List (Nat × α)} (h : pwf d (x :: l) = true) : x.2 ≠ d := by
  cases l with
  | nil => simpa [pwf] using h
  | cons z r =>
    simp only [pwf, Bool.and_eq_true, decide_eq_true_eq] at h
    exact h.1.1

theorem mem_pset_key {α : Type} [DecidableEq α] {d : α} {l : List (Nat × α)} {a : Nat} {v : α} {y : Nat × α}
    (h : y ∈ pset d l a v) : y.1 = a ∨ y ∈ l := by
  induction l with
  | nil =>
    by_cases hv : v = d
    · simp [pset, hv] at h
    · simp only [pset, hv, if_false, List.mem_singleton] at h
      exact .inl (by rw [h])
  | cons x r ih =>
    obtain ⟨k, w⟩ := x
    by_cases h1 : k < a
    · simp only [pset, h1, if_true, List.mem_cons] at h
      rcases h with h | h
      · exact .inr (by simp [h])
      · exact (ih h).imp id fun m => by simp [m]
    · by_cases h2 : k = a
      · subst h2
        by_cases hv : v = d
        · simp only [pset, Nat.lt_irrefl, if_false, if_true, hv] at h
          exact .inr (List.mem_cons_of_mem _ ((List.dropWhile_sublist _).subset h))
        · simp only [pset, Nat.lt_irrefl, if_false, if_true, hv, List.mem_cons] at h
          rcases h with h | h
          · exact .inl (by rw [h])
          · exact .inr (by simp [h])
      · by_cases hv : v = d
        · simp only [pset, h1, if_false, h2, hv, if_true] at h
          exact .inr h
        · simp only [pset, h1, if_false, h2, hv, List.mem_cons] at h
          rcases h with h | h | h
          · exact .inl (by rw [h])
          · exact .inr (by simp [h])
          · exact .inr (by simp [h])

theorem pwf_dropWhile {α : Type} [DecidableEq α] {d : α} (p : Nat × α → Bool) {l : List (Nat × α)} (h : pwf d l = true) :
    pwf d (l.dropWhile p) = true := by
  induction l with
  | nil => rfl
  | cons x r ih =>
    by_cases hp : p x = true
    · simpa [hp] using ih (pwf_tail h)
    · simpa [hp] using h

/-- A write keeps the canonical form. -/
theorem pwf_pset {α : Type} [DecidableEq α] {d : α} {l : List (Nat × α)} (h : pwf d l = true) (a : Nat) (v : α) :
    pwf d (pset d l a v) = true := by
  induction l with
  | nil => by_cases hv : v = d <;> simp [pset, pwf, hv]
  | cons x r ih =>
    obtain ⟨k, w⟩ := x
    by_cases h1 : k < a
    · simp only [pset, h1, if_true]
      refine pwf_cons (pwf_head h) (fun y hy => ?_) (ih (pwf_tail h))
      rcases mem_pset_key hy with e | m
      · exact e ▸ h1
      · exact pwf_keys h y m
    · by_cases h2 : k = a
      · subst h2
        by_cases hv : v = d
        · simpa [pset, hv] using pwf_dropWhile _ (pwf_tail h)
        · simp only [pset, Nat.lt_irrefl, if_false, if_true, hv]
          exact pwf_cons hv (fun y hy => pwf_keys h y hy) (pwf_tail h)
      · by_cases hv : v = d
        · simpa [pset, h1, h2, hv] using h
        · simp only [pset, h1, if_false, h2, hv]
          refine pwf_cons hv (fun y hy => ?_) h
          rcases List.mem_cons.1 hy with rfl | m
          · show a < k
            omega
          · have := pwf_keys h y m
            simp only at this ⊢
            omega

/-- Leaving entries out keeps the canonical form. -/
theorem pwf_filter {α : Type} [DecidableEq α] {d : α} {l : List (Nat × α)} (h : pwf d l = true) (p : Nat × α → Bool) :
    pwf d (l.filter p) = true := by
  induction l with
  | nil => rfl
  | cons x r ih =>
    by_cases hp : p x = true
    · rw [List.filter_cons_of_pos hp]
      exact pwf_cons (pwf_head h) (fun y hy => pwf_keys h y (List.mem_of_mem_filter hy)) (ih (pwf_tail h))
    · rw [List.filter_cons_of_neg hp]
      exact ih (pwf_tail h)

/-! ## Byte memories -/

/-- Storing a word keeps a byte memory canonical. -/
theorem setMemWord_wf {m : List Host.Cell} (h : Memory.wf m = true) (a : Nat) (w : Word) :
    Memory.wf (setMemWord m a w) = true :=
  pwf_pset (pwf_pset (pwf_pset (pwf_pset h _ _) _ _) _ _) _ _

/-- Clearing a range keeps a byte memory canonical. -/
theorem memClear_wf {m : List Host.Cell} (h : Memory.wf m = true) (lo hi : Nat) : Memory.wf (memClear m lo hi) = true :=
  pwf_filter h _

/-- Storing a half word keeps a byte memory canonical. -/
theorem setMemHalf_wf {m : List Host.Cell} (h : Memory.wf m = true) (a v : Nat) : Memory.wf (setMemHalf m a v) = true :=
  pwf_pset (pwf_pset h _ _) _ _

/-- A byte outside the four of a stored word is as before. -/
theorem setMemWord_other (m : List Host.Cell) (a b : Nat) (w : Word) (h : b < a ∨ a + 4 ≤ b) :
    pget 0#8 (setMemWord m a w) b = pget 0#8 m b := by
  unfold setMemWord
  rw [pget_pset_other _ _ _ _ _ _ (by omega), pget_pset_other _ _ _ _ _ _ (by omega), pget_pset_other _ _ _ _ _ _ (by omega),
    pget_pset_other _ _ _ _ _ _ (by omega)]

/-- Each byte of a stored word is read back. -/
theorem setMemWord_byte (m : List Host.Cell) (a i : Nat) (w : Word) (h : i < 4) :
    pget 0#8 (setMemWord m a w) (a + i) = wbyte w i := by
  have : i = 0 ∨ i = 1 ∨ i = 2 ∨ i = 3 := by omega
  rcases this with rfl | rfl | rfl | rfl
  · unfold setMemWord
    rw [pget_pset_other _ _ _ _ _ _ (by omega), pget_pset_other _ _ _ _ _ _ (by omega), pget_pset_other _ _ _ _ _ _ (by omega)]
    exact pget_pset_same _ _ _ _
  · unfold setMemWord
    rw [pget_pset_other _ _ _ _ _ _ (by omega), pget_pset_other _ _ _ _ _ _ (by omega), pget_pset_same]
  · unfold setMemWord
    rw [pget_pset_other _ _ _ _ _ _ (by omega), pget_pset_same]
  · unfold setMemWord
    rw [pget_pset_same]

end Sys2Proof.Machine
end

