-- ==== Sys2Proof/Laws/Regs.lean ====
section
/-!
SUPPORT. Laws of bit fields and of registers: what is read after a write.
-/

namespace Sys2Proof.Machine

/-! ## Bit fields -/

theorem testBit_fld (w : Word) (lo n i : Nat) : (fld w lo n).testBit i = (decide (i < n) && w.toNat.testBit (lo + i)) := by
  simp [fld, Nat.testBit_mod_two_pow, Nat.testBit_shiftRight]

theorem testBit_setFld (w : Word) (lo n v i : Nat) (h : i < 32) :
    (setFld w lo n v).toNat.testBit i = if lo ≤ i ∧ i < lo + n then v.testBit (i - lo) else w.toNat.testBit i := by
  simp only [setFld, BitVec.toNat_ofNat, Nat.testBit_mod_two_pow, h, decide_true, Bool.true_and, Nat.testBit_or,
    Nat.testBit_shiftLeft, Nat.testBit_shiftRight]
  by_cases h1 : lo ≤ i
  · by_cases h2 : i < lo + n
    · have a1 : ¬ n ≤ i - lo := by omega
      have a2 : ¬ i < lo := by omega
      have a3 : i - lo < n := by omega
      simp [h1, h2, a1, a2, a3]
    · have a1 : n ≤ i - lo := by omega
      have a2 : ¬ i < lo := by omega
      have a3 : ¬ i - lo < n := by omega
      have a4 : lo + (n + (i - lo - n)) = i := by omega
      simp [h1, h2, a1, a2, a3]
  · have a2 : i < lo := by omega
    simp [h1, a2]

/-- A field that is set reads as what was written to it. -/
theorem fld_setFld_same (w : Word) (lo n v : Nat) (h : lo + n ≤ 32) : fld (setFld w lo n v) lo n = v % 2 ^ n := by
  apply Nat.eq_of_testBit_eq
  intro i
  rw [testBit_fld, Nat.testBit_mod_two_pow]
  by_cases hi : i < n
  · rw [testBit_setFld _ _ _ _ _ (by omega)]
    have : lo ≤ lo + i ∧ lo + i < lo + n := by omega
    simp [hi]
  · simp [hi]

/-- Setting a field leaves every field that shares no bit with it. -/
theorem fld_setFld_other (w : Word) (lo n v lo' n' : Nat) (h : lo' + n' ≤ 32) (hd : lo' + n' ≤ lo ∨ lo + n ≤ lo') :
    fld (setFld w lo n v) lo' n' = fld w lo' n' := by
  apply Nat.eq_of_testBit_eq
  intro i
  rw [testBit_fld, testBit_fld]
  by_cases hi : i < n'
  · rw [testBit_setFld _ _ _ _ _ (by omega)]
    have : ¬ (lo ≤ lo' + i ∧ lo' + i < lo + n) := by omega
    simp [this]
  · simp [hi]

/-! ## Registers -/

/-- The value written to a register is the one in force. -/
@[simp] theorem reg_setReg_same (s : State) (a : Nat) (v : Word) : reg (setReg s a v) a = v := pget_pset_same _ _ _ _

/-- A write of a register leaves every other register as it was. -/
theorem reg_setReg_other (s : State) (a b : Nat) (v : Word) (h : b ≠ a) : reg (setReg s a v) b = reg s b := by
  unfold reg setReg
  exact pget_pset_other (regReset b) (regReset a) s.regs a b v h

/-- The value of a register after a write of a register. -/
theorem reg_setReg (s : State) (a b : Nat) (v : Word) : reg (setReg s a v) b = if b = a then v else reg s b := by
  by_cases h : b = a
  · subst h
    simp
  · simp [h, reg_setReg_other s a b v h]

/-- A field that is written reads as what was written to it. -/
theorem rd_wr_same (s : State) (f : Fld) (v : Nat) (h : f.lo + f.len ≤ 32) : rd (wr s f v) f = v % 2 ^ f.len := by
  simp [rd, wr, fld_setFld_same, h]

/-- A write of a field leaves a field of another register. -/
theorem rd_wr_reg (s : State) (f g : Fld) (v : Nat) (h : g.addr ≠ f.addr) : rd (wr s f v) g = rd s g := by
  simp [rd, wr, reg_setReg_other _ _ _ _ h]

/-- A write of a field leaves a field that shares no bit with it. -/
theorem rd_wr_field (s : State) (f g : Fld) (v : Nat) (hg : g.lo + g.len ≤ 32)
    (hd : g.lo + g.len ≤ f.lo ∨ f.lo + f.len ≤ g.lo) : rd (wr s f v) g = rd s g := by
  by_cases h : g.addr = f.addr
  · simp [rd, wr, h, fld_setFld_other _ _ _ _ _ _ hg hd]
  · exact rd_wr_reg s f g v h

/-- A write of a register leaves the fields of every other register. -/
theorem rd_setReg_other (s : State) (a : Nat) (v : Word) (f : Fld) (h : f.addr ≠ a) : rd (setReg s a v) f = rd s f := by
  simp [rd, reg_setReg_other _ _ _ _ h]

/-! ## The canonical form of the registers -/

/-- Keys rise, and no listed register holds its reset value. -/
def RegsCanonical (l : List (Nat × Word)) : Prop := l.Pairwise (fun p q => p.1 < q.1) ∧ ∀ p ∈ l, p.2 ≠ regReset p.1

theorem pairwise_pset (l : List (Nat × Word)) (d : Word) (a : Nat) (v : Word) (h : l.Pairwise fun p q => p.1 < q.1) :
    (pset d l a v).Pairwise fun p q => p.1 < q.1 := by
  induction l with
  | nil => by_cases hv : v = d <;> simp [pset, hv]
  | cons x r ih =>
    obtain ⟨k, w⟩ := x
    rw [List.pairwise_cons] at h
    by_cases h1 : k < a
    · simp only [pset, h1, if_true, List.pairwise_cons]
      refine ⟨fun y hy => ?_, ih h.2⟩
      rcases mem_pset_key hy with e | m
      · exact e ▸ h1
      · exact h.1 y m
    · by_cases h2 : k = a
      · subst h2
        by_cases hv : v = d
        · simpa [pset, hv] using h.2.sublist (List.dropWhile_sublist _)
        · simp only [pset, Nat.lt_irrefl, if_false, if_true, hv, List.pairwise_cons]
          exact h
      · by_cases hv : v = d
        · simpa [pset, h1, h2, hv] using h
        · simp only [pset, h1, if_false, h2, hv, List.pairwise_cons, List.mem_cons]
          refine ⟨fun y hy => ?_, h⟩
          rcases hy with rfl | m
          · show a < k
            omega
          · have := h.1 y m
            simp only at this ⊢
            omega

theorem mem_pset_value {d : Word} {l : List (Nat × Word)} {a : Nat} {v : Word} {y : Nat × Word}
    (hl : l.Pairwise fun p q => p.1 < q.1) (h : y ∈ pset d l a v) : (y = (a, v) ∧ v ≠ d) ∨ y ∈ l := by
  induction l with
  | nil =>
    by_cases hv : v = d
    · simp [pset, hv] at h
    · simp only [pset, hv, if_false, List.mem_singleton] at h
      exact .inl ⟨h, hv⟩
  | cons x r ih =>
    obtain ⟨k, w⟩ := x
    rw [List.pairwise_cons] at hl
    by_cases h1 : k < a
    · simp only [pset, h1, if_true, List.mem_cons] at h
      rcases h with h | h
      · exact .inr (by simp [h])
      · exact (ih hl.2 h).imp id fun m => by simp [m]
    · by_cases h2 : k = a
      · subst h2
        by_cases hv : v = d
        · simp only [pset, Nat.lt_irrefl, if_false, if_true, hv] at h
          exact .inr (List.mem_cons_of_mem _ ((List.dropWhile_sublist _).subset h))
        · simp only [pset, Nat.lt_irrefl, if_false, if_true, hv, List.mem_cons] at h
          rcases h with h | h
          · exact .inl ⟨h, hv⟩
          · exact .inr (by simp [h])
      · by_cases hv : v = d
        · simp only [pset, h1, if_false, h2, hv, if_true] at h
          exact .inr h
        · simp only [pset, h1, if_false, h2, hv, List.mem_cons] at h
          rcases h with h | h | h
          · exact .inl ⟨h, hv⟩
          · exact .inr (by simp [h])
          · exact .inr (by simp [h])

/-- A write of a register keeps the canonical form of the registers. -/
theorem setReg_canonical (s : State) (a : Nat) (v : Word) (h : RegsCanonical s.regs) : RegsCanonical (setReg s a v).regs := by
  refine ⟨pairwise_pset _ _ _ _ h.1, fun p hp => ?_⟩
  rcases mem_pset_value h.1 hp with ⟨rfl, hv⟩ | m
  · exact hv
  · exact h.2 p m

end Sys2Proof.Machine
end

