-- ==== Sys2Proof/Laws/State.lean ====
section
/-!
SUPPORT. What the updates of the state leave unchanged: one lemma per field per update.
-/

namespace Sys2Proof.Machine

/-! ## An update of a register -/

@[simp] theorem setReg_pending (s : State) (a : Nat) (v : Word) : (setReg s a v).pending = s.pending := rfl
@[simp] theorem setReg_now (s : State) (a : Nat) (v : Word) : (setReg s a v).now = s.now := rfl
@[simp] theorem setReg_fresh (s : State) (a : Nat) (v : Word) : (setReg s a v).fresh = s.fresh := rfl
@[simp] theorem setReg_held (s : State) (a : Nat) (v : Word) : (setReg s a v).held = s.held := rfl
@[simp] theorem setReg_wiping (s : State) (a : Nat) (v : Word) : (setReg s a v).wiping = s.wiping := rfl
@[simp] theorem setReg_shadows (s : State) (a : Nat) (v : Word) : (setReg s a v).shadows = s.shadows := rfl
@[simp] theorem setReg_commits (s : State) (a : Nat) (v : Word) : (setReg s a v).commits = s.commits := rfl
@[simp] theorem setReg_bus (s : State) (a : Nat) (v : Word) : (setReg s a v).bus = s.bus := rfl
@[simp] theorem setReg_irq (s : State) (a : Nat) (v : Word) : (setReg s a v).irq = s.irq := rfl
@[simp] theorem setReg_pwr (s : State) (a : Nat) (v : Word) : (setReg s a v).pwr = s.pwr := rfl
@[simp] theorem setReg_clk (s : State) (a : Nat) (v : Word) : (setReg s a v).clk = s.clk := rfl
@[simp] theorem setReg_mon (s : State) (a : Nat) (v : Word) : (setReg s a v).mon = s.mon := rfl
@[simp] theorem setReg_tdc (s : State) (a : Nat) (v : Word) : (setReg s a v).tdc = s.tdc := rfl
@[simp] theorem setReg_fct (s : State) (a : Nat) (v : Word) : (setReg s a v).fct = s.fct := rfl
@[simp] theorem setReg_esc (s : State) (a : Nat) (v : Word) : (setReg s a v).esc = s.esc := rfl
@[simp] theorem setReg_vat (s : State) (a : Nat) (v : Word) : (setReg s a v).vat = s.vat := rfl
@[simp] theorem setReg_wnb (s : State) (a : Nat) (v : Word) : (setReg s a v).wnb = s.wnb := rfl
@[simp] theorem setReg_ntm (s : State) (a : Nat) (v : Word) : (setReg s a v).ntm = s.ntm := rfl
@[simp] theorem setReg_ctl (s : State) (a : Nat) (v : Word) : (setReg s a v).ctl = s.ctl := rfl
@[simp] theorem setReg_sdf (s : State) (a : Nat) (v : Word) : (setReg s a v).sdf = s.sdf := rfl
@[simp] theorem setReg_saf (s : State) (a : Nat) (v : Word) : (setReg s a v).saf = s.saf := rfl
@[simp] theorem setReg_acq (s : State) (a : Nat) (v : Word) : (setReg s a v).acq = s.acq := rfl
@[simp] theorem setReg_stq (s : State) (a : Nat) (v : Word) : (setReg s a v).stq = s.stq := rfl
@[simp] theorem setReg_vid (s : State) (a : Nat) (v : Word) : (setReg s a v).vid = s.vid := rfl
@[simp] theorem setReg_lmp (s : State) (a : Nat) (v : Word) : (setReg s a v).lmp = s.lmp := rfl
@[simp] theorem setReg_pair (s : State) (a : Nat) (v : Word) : (setReg s a v).pair = s.pair := rfl
@[simp] theorem setReg_eth (s : State) (a : Nat) (v : Word) : (setReg s a v).eth = s.eth := rfl
@[simp] theorem setReg_pln (s : State) (a : Nat) (v : Word) : (setReg s a v).pln = s.pln := rfl
@[simp] theorem setReg_hka (s : State) (a : Nat) (v : Word) : (setReg s a v).hka = s.hka := rfl
@[simp] theorem setReg_thm (s : State) (a : Nat) (v : Word) : (setReg s a v).thm = s.thm := rfl
@[simp] theorem setReg_cal (s : State) (a : Nat) (v : Word) : (setReg s a v).cal = s.cal := rfl
@[simp] theorem setReg_sram (s : State) (a : Nat) (v : Word) : (setReg s a v).sram = s.sram := rfl
@[simp] theorem setReg_calstore (s : State) (a : Nat) (v : Word) : (setReg s a v).calstore = s.calstore := rfl

/-! ## An update of a field -/

@[simp] theorem wr_pending (s : State) (f : Fld) (v : Nat) : (wr s f v).pending = s.pending := rfl
@[simp] theorem wr_now (s : State) (f : Fld) (v : Nat) : (wr s f v).now = s.now := rfl
@[simp] theorem wr_fresh (s : State) (f : Fld) (v : Nat) : (wr s f v).fresh = s.fresh := rfl
@[simp] theorem wr_held (s : State) (f : Fld) (v : Nat) : (wr s f v).held = s.held := rfl
@[simp] theorem wr_wiping (s : State) (f : Fld) (v : Nat) : (wr s f v).wiping = s.wiping := rfl
@[simp] theorem wr_shadows (s : State) (f : Fld) (v : Nat) : (wr s f v).shadows = s.shadows := rfl
@[simp] theorem wr_commits (s : State) (f : Fld) (v : Nat) : (wr s f v).commits = s.commits := rfl
@[simp] theorem wr_bus (s : State) (f : Fld) (v : Nat) : (wr s f v).bus = s.bus := rfl
@[simp] theorem wr_irq (s : State) (f : Fld) (v : Nat) : (wr s f v).irq = s.irq := rfl
@[simp] theorem wr_pwr (s : State) (f : Fld) (v : Nat) : (wr s f v).pwr = s.pwr := rfl
@[simp] theorem wr_clk (s : State) (f : Fld) (v : Nat) : (wr s f v).clk = s.clk := rfl
@[simp] theorem wr_mon (s : State) (f : Fld) (v : Nat) : (wr s f v).mon = s.mon := rfl
@[simp] theorem wr_tdc (s : State) (f : Fld) (v : Nat) : (wr s f v).tdc = s.tdc := rfl
@[simp] theorem wr_fct (s : State) (f : Fld) (v : Nat) : (wr s f v).fct = s.fct := rfl
@[simp] theorem wr_esc (s : State) (f : Fld) (v : Nat) : (wr s f v).esc = s.esc := rfl
@[simp] theorem wr_vat (s : State) (f : Fld) (v : Nat) : (wr s f v).vat = s.vat := rfl
@[simp] theorem wr_wnb (s : State) (f : Fld) (v : Nat) : (wr s f v).wnb = s.wnb := rfl
@[simp] theorem wr_ntm (s : State) (f : Fld) (v : Nat) : (wr s f v).ntm = s.ntm := rfl
@[simp] theorem wr_ctl (s : State) (f : Fld) (v : Nat) : (wr s f v).ctl = s.ctl := rfl
@[simp] theorem wr_sdf (s : State) (f : Fld) (v : Nat) : (wr s f v).sdf = s.sdf := rfl
@[simp] theorem wr_saf (s : State) (f : Fld) (v : Nat) : (wr s f v).saf = s.saf := rfl
@[simp] theorem wr_acq (s : State) (f : Fld) (v : Nat) : (wr s f v).acq = s.acq := rfl
@[simp] theorem wr_stq (s : State) (f : Fld) (v : Nat) : (wr s f v).stq = s.stq := rfl
@[simp] theorem wr_vid (s : State) (f : Fld) (v : Nat) : (wr s f v).vid = s.vid := rfl
@[simp] theorem wr_lmp (s : State) (f : Fld) (v : Nat) : (wr s f v).lmp = s.lmp := rfl
@[simp] theorem wr_pair (s : State) (f : Fld) (v : Nat) : (wr s f v).pair = s.pair := rfl
@[simp] theorem wr_eth (s : State) (f : Fld) (v : Nat) : (wr s f v).eth = s.eth := rfl
@[simp] theorem wr_pln (s : State) (f : Fld) (v : Nat) : (wr s f v).pln = s.pln := rfl
@[simp] theorem wr_hka (s : State) (f : Fld) (v : Nat) : (wr s f v).hka = s.hka := rfl
@[simp] theorem wr_thm (s : State) (f : Fld) (v : Nat) : (wr s f v).thm = s.thm := rfl
@[simp] theorem wr_cal (s : State) (f : Fld) (v : Nat) : (wr s f v).cal = s.cal := rfl
@[simp] theorem wr_sram (s : State) (f : Fld) (v : Nat) : (wr s f v).sram = s.sram := rfl
@[simp] theorem wr_calstore (s : State) (f : Fld) (v : Nat) : (wr s f v).calstore = s.calstore := rfl

/-! ## An update of a signed field -/

@[simp] theorem wrI_pending (s : State) (f : Fld) (v : Int) : (wrI s f v).pending = s.pending := rfl
@[simp] theorem wrI_now (s : State) (f : Fld) (v : Int) : (wrI s f v).now = s.now := rfl
@[simp] theorem wrI_fresh (s : State) (f : Fld) (v : Int) : (wrI s f v).fresh = s.fresh := rfl
@[simp] theorem wrI_held (s : State) (f : Fld) (v : Int) : (wrI s f v).held = s.held := rfl
@[simp] theorem wrI_wiping (s : State) (f : Fld) (v : Int) : (wrI s f v).wiping = s.wiping := rfl
@[simp] theorem wrI_shadows (s : State) (f : Fld) (v : Int) : (wrI s f v).shadows = s.shadows := rfl
@[simp] theorem wrI_commits (s : State) (f : Fld) (v : Int) : (wrI s f v).commits = s.commits := rfl
@[simp] theorem wrI_bus (s : State) (f : Fld) (v : Int) : (wrI s f v).bus = s.bus := rfl
@[simp] theorem wrI_irq (s : State) (f : Fld) (v : Int) : (wrI s f v).irq = s.irq := rfl
@[simp] theorem wrI_pwr (s : State) (f : Fld) (v : Int) : (wrI s f v).pwr = s.pwr := rfl
@[simp] theorem wrI_clk (s : State) (f : Fld) (v : Int) : (wrI s f v).clk = s.clk := rfl
@[simp] theorem wrI_mon (s : State) (f : Fld) (v : Int) : (wrI s f v).mon = s.mon := rfl
@[simp] theorem wrI_tdc (s : State) (f : Fld) (v : Int) : (wrI s f v).tdc = s.tdc := rfl
@[simp] theorem wrI_fct (s : State) (f : Fld) (v : Int) : (wrI s f v).fct = s.fct := rfl
@[simp] theorem wrI_esc (s : State) (f : Fld) (v : Int) : (wrI s f v).esc = s.esc := rfl
@[simp] theorem wrI_vat (s : State) (f : Fld) (v : Int) : (wrI s f v).vat = s.vat := rfl
@[simp] theorem wrI_wnb (s : State) (f : Fld) (v : Int) : (wrI s f v).wnb = s.wnb := rfl
@[simp] theorem wrI_ntm (s : State) (f : Fld) (v : Int) : (wrI s f v).ntm = s.ntm := rfl
@[simp] theorem wrI_ctl (s : State) (f : Fld) (v : Int) : (wrI s f v).ctl = s.ctl := rfl
@[simp] theorem wrI_sdf (s : State) (f : Fld) (v : Int) : (wrI s f v).sdf = s.sdf := rfl
@[simp] theorem wrI_saf (s : State) (f : Fld) (v : Int) : (wrI s f v).saf = s.saf := rfl
@[simp] theorem wrI_acq (s : State) (f : Fld) (v : Int) : (wrI s f v).acq = s.acq := rfl
@[simp] theorem wrI_stq (s : State) (f : Fld) (v : Int) : (wrI s f v).stq = s.stq := rfl
@[simp] theorem wrI_vid (s : State) (f : Fld) (v : Int) : (wrI s f v).vid = s.vid := rfl
@[simp] theorem wrI_lmp (s : State) (f : Fld) (v : Int) : (wrI s f v).lmp = s.lmp := rfl
@[simp] theorem wrI_pair (s : State) (f : Fld) (v : Int) : (wrI s f v).pair = s.pair := rfl
@[simp] theorem wrI_eth (s : State) (f : Fld) (v : Int) : (wrI s f v).eth = s.eth := rfl
@[simp] theorem wrI_pln (s : State) (f : Fld) (v : Int) : (wrI s f v).pln = s.pln := rfl
@[simp] theorem wrI_hka (s : State) (f : Fld) (v : Int) : (wrI s f v).hka = s.hka := rfl
@[simp] theorem wrI_thm (s : State) (f : Fld) (v : Int) : (wrI s f v).thm = s.thm := rfl
@[simp] theorem wrI_cal (s : State) (f : Fld) (v : Int) : (wrI s f v).cal = s.cal := rfl
@[simp] theorem wrI_sram (s : State) (f : Fld) (v : Int) : (wrI s f v).sram = s.sram := rfl
@[simp] theorem wrI_calstore (s : State) (f : Fld) (v : Int) : (wrI s f v).calstore = s.calstore := rfl

/-! ## An update of a flag -/

@[simp] theorem wrB_pending (s : State) (f : Fld) (b : Bool) : (wrB s f b).pending = s.pending := rfl
@[simp] theorem wrB_now (s : State) (f : Fld) (b : Bool) : (wrB s f b).now = s.now := rfl
@[simp] theorem wrB_fresh (s : State) (f : Fld) (b : Bool) : (wrB s f b).fresh = s.fresh := rfl
@[simp] theorem wrB_held (s : State) (f : Fld) (b : Bool) : (wrB s f b).held = s.held := rfl
@[simp] theorem wrB_wiping (s : State) (f : Fld) (b : Bool) : (wrB s f b).wiping = s.wiping := rfl
@[simp] theorem wrB_shadows (s : State) (f : Fld) (b : Bool) : (wrB s f b).shadows = s.shadows := rfl
@[simp] theorem wrB_commits (s : State) (f : Fld) (b : Bool) : (wrB s f b).commits = s.commits := rfl
@[simp] theorem wrB_bus (s : State) (f : Fld) (b : Bool) : (wrB s f b).bus = s.bus := rfl
@[simp] theorem wrB_irq (s : State) (f : Fld) (b : Bool) : (wrB s f b).irq = s.irq := rfl
@[simp] theorem wrB_pwr (s : State) (f : Fld) (b : Bool) : (wrB s f b).pwr = s.pwr := rfl
@[simp] theorem wrB_clk (s : State) (f : Fld) (b : Bool) : (wrB s f b).clk = s.clk := rfl
@[simp] theorem wrB_mon (s : State) (f : Fld) (b : Bool) : (wrB s f b).mon = s.mon := rfl
@[simp] theorem wrB_tdc (s : State) (f : Fld) (b : Bool) : (wrB s f b).tdc = s.tdc := rfl
@[simp] theorem wrB_fct (s : State) (f : Fld) (b : Bool) : (wrB s f b).fct = s.fct := rfl
@[simp] theorem wrB_esc (s : State) (f : Fld) (b : Bool) : (wrB s f b).esc = s.esc := rfl
@[simp] theorem wrB_vat (s : State) (f : Fld) (b : Bool) : (wrB s f b).vat = s.vat := rfl
@[simp] theorem wrB_wnb (s : State) (f : Fld) (b : Bool) : (wrB s f b).wnb = s.wnb := rfl
@[simp] theorem wrB_ntm (s : State) (f : Fld) (b : Bool) : (wrB s f b).ntm = s.ntm := rfl
@[simp] theorem wrB_ctl (s : State) (f : Fld) (b : Bool) : (wrB s f b).ctl = s.ctl := rfl
@[simp] theorem wrB_sdf (s : State) (f : Fld) (b : Bool) : (wrB s f b).sdf = s.sdf := rfl
@[simp] theorem wrB_saf (s : State) (f : Fld) (b : Bool) : (wrB s f b).saf = s.saf := rfl
@[simp] theorem wrB_acq (s : State) (f : Fld) (b : Bool) : (wrB s f b).acq = s.acq := rfl
@[simp] theorem wrB_stq (s : State) (f : Fld) (b : Bool) : (wrB s f b).stq = s.stq := rfl
@[simp] theorem wrB_vid (s : State) (f : Fld) (b : Bool) : (wrB s f b).vid = s.vid := rfl
@[simp] theorem wrB_lmp (s : State) (f : Fld) (b : Bool) : (wrB s f b).lmp = s.lmp := rfl
@[simp] theorem wrB_pair (s : State) (f : Fld) (b : Bool) : (wrB s f b).pair = s.pair := rfl
@[simp] theorem wrB_eth (s : State) (f : Fld) (b : Bool) : (wrB s f b).eth = s.eth := rfl
@[simp] theorem wrB_pln (s : State) (f : Fld) (b : Bool) : (wrB s f b).pln = s.pln := rfl
@[simp] theorem wrB_hka (s : State) (f : Fld) (b : Bool) : (wrB s f b).hka = s.hka := rfl
@[simp] theorem wrB_thm (s : State) (f : Fld) (b : Bool) : (wrB s f b).thm = s.thm := rfl
@[simp] theorem wrB_cal (s : State) (f : Fld) (b : Bool) : (wrB s f b).cal = s.cal := rfl
@[simp] theorem wrB_sram (s : State) (f : Fld) (b : Bool) : (wrB s f b).sram = s.sram := rfl
@[simp] theorem wrB_calstore (s : State) (f : Fld) (b : Bool) : (wrB s f b).calstore = s.calstore := rfl

/-! ## An update of a bit -/

@[simp] theorem wrBit_pending (s : State) (a i : Nat) (b : Bool) : (wrBit s a i b).pending = s.pending := rfl
@[simp] theorem wrBit_now (s : State) (a i : Nat) (b : Bool) : (wrBit s a i b).now = s.now := rfl
@[simp] theorem wrBit_fresh (s : State) (a i : Nat) (b : Bool) : (wrBit s a i b).fresh = s.fresh := rfl
@[simp] theorem wrBit_held (s : State) (a i : Nat) (b : Bool) : (wrBit s a i b).held = s.held := rfl
@[simp] theorem wrBit_wiping (s : State) (a i : Nat) (b : Bool) : (wrBit s a i b).wiping = s.wiping := rfl
@[simp] theorem wrBit_shadows (s : State) (a i : Nat) (b : Bool) : (wrBit s a i b).shadows = s.shadows := rfl
@[simp] theorem wrBit_commits (s : State) (a i : Nat) (b : Bool) : (wrBit s a i b).commits = s.commits := rfl
@[simp] theorem wrBit_bus (s : State) (a i : Nat) (b : Bool) : (wrBit s a i b).bus = s.bus := rfl
@[simp] theorem wrBit_irq (s : State) (a i : Nat) (b : Bool) : (wrBit s a i b).irq = s.irq := rfl
@[simp] theorem wrBit_pwr (s : State) (a i : Nat) (b : Bool) : (wrBit s a i b).pwr = s.pwr := rfl
@[simp] theorem wrBit_clk (s : State) (a i : Nat) (b : Bool) : (wrBit s a i b).clk = s.clk := rfl
@[simp] theorem wrBit_mon (s : State) (a i : Nat) (b : Bool) : (wrBit s a i b).mon = s.mon := rfl
@[simp] theorem wrBit_tdc (s : State) (a i : Nat) (b : Bool) : (wrBit s a i b).tdc = s.tdc := rfl
@[simp] theorem wrBit_fct (s : State) (a i : Nat) (b : Bool) : (wrBit s a i b).fct = s.fct := rfl
@[simp] theorem wrBit_esc (s : State) (a i : Nat) (b : Bool) : (wrBit s a i b).esc = s.esc := rfl
@[simp] theorem wrBit_vat (s : State) (a i : Nat) (b : Bool) : (wrBit s a i b).vat = s.vat := rfl
@[simp] theorem wrBit_wnb (s : State) (a i : Nat) (b : Bool) : (wrBit s a i b).wnb = s.wnb := rfl
@[simp] theorem wrBit_ntm (s : State) (a i : Nat) (b : Bool) : (wrBit s a i b).ntm = s.ntm := rfl
@[simp] theorem wrBit_ctl (s : State) (a i : Nat) (b : Bool) : (wrBit s a i b).ctl = s.ctl := rfl
@[simp] theorem wrBit_sdf (s : State) (a i : Nat) (b : Bool) : (wrBit s a i b).sdf = s.sdf := rfl
@[simp] theorem wrBit_saf (s : State) (a i : Nat) (b : Bool) : (wrBit s a i b).saf = s.saf := rfl
@[simp] theorem wrBit_acq (s : State) (a i : Nat) (b : Bool) : (wrBit s a i b).acq = s.acq := rfl
@[simp] theorem wrBit_stq (s : State) (a i : Nat) (b : Bool) : (wrBit s a i b).stq = s.stq := rfl
@[simp] theorem wrBit_vid (s : State) (a i : Nat) (b : Bool) : (wrBit s a i b).vid = s.vid := rfl
@[simp] theorem wrBit_lmp (s : State) (a i : Nat) (b : Bool) : (wrBit s a i b).lmp = s.lmp := rfl
@[simp] theorem wrBit_pair (s : State) (a i : Nat) (b : Bool) : (wrBit s a i b).pair = s.pair := rfl
@[simp] theorem wrBit_eth (s : State) (a i : Nat) (b : Bool) : (wrBit s a i b).eth = s.eth := rfl
@[simp] theorem wrBit_pln (s : State) (a i : Nat) (b : Bool) : (wrBit s a i b).pln = s.pln := rfl
@[simp] theorem wrBit_hka (s : State) (a i : Nat) (b : Bool) : (wrBit s a i b).hka = s.hka := rfl
@[simp] theorem wrBit_thm (s : State) (a i : Nat) (b : Bool) : (wrBit s a i b).thm = s.thm := rfl
@[simp] theorem wrBit_cal (s : State) (a i : Nat) (b : Bool) : (wrBit s a i b).cal = s.cal := rfl
@[simp] theorem wrBit_sram (s : State) (a i : Nat) (b : Bool) : (wrBit s a i b).sram = s.sram := rfl
@[simp] theorem wrBit_calstore (s : State) (a i : Nat) (b : Bool) : (wrBit s a i b).calstore = s.calstore := rfl

/-! ## An update of a wide value -/

@[simp] theorem setWide_pending (s : State) (a v : Nat) : (setWide s a v).pending = s.pending := rfl
@[simp] theorem setWide_now (s : State) (a v : Nat) : (setWide s a v).now = s.now := rfl
@[simp] theorem setWide_fresh (s : State) (a v : Nat) : (setWide s a v).fresh = s.fresh := rfl
@[simp] theorem setWide_held (s : State) (a v : Nat) : (setWide s a v).held = s.held := rfl
@[simp] theorem setWide_wiping (s : State) (a v : Nat) : (setWide s a v).wiping = s.wiping := rfl
@[simp] theorem setWide_shadows (s : State) (a v : Nat) : (setWide s a v).shadows = s.shadows := rfl
@[simp] theorem setWide_commits (s : State) (a v : Nat) : (setWide s a v).commits = s.commits := rfl
@[simp] theorem setWide_bus (s : State) (a v : Nat) : (setWide s a v).bus = s.bus := rfl
@[simp] theorem setWide_irq (s : State) (a v : Nat) : (setWide s a v).irq = s.irq := rfl
@[simp] theorem setWide_pwr (s : State) (a v : Nat) : (setWide s a v).pwr = s.pwr := rfl
@[simp] theorem setWide_clk (s : State) (a v : Nat) : (setWide s a v).clk = s.clk := rfl
@[simp] theorem setWide_mon (s : State) (a v : Nat) : (setWide s a v).mon = s.mon := rfl
@[simp] theorem setWide_tdc (s : State) (a v : Nat) : (setWide s a v).tdc = s.tdc := rfl
@[simp] theorem setWide_fct (s : State) (a v : Nat) : (setWide s a v).fct = s.fct := rfl
@[simp] theorem setWide_esc (s : State) (a v : Nat) : (setWide s a v).esc = s.esc := rfl
@[simp] theorem setWide_vat (s : State) (a v : Nat) : (setWide s a v).vat = s.vat := rfl
@[simp] theorem setWide_wnb (s : State) (a v : Nat) : (setWide s a v).wnb = s.wnb := rfl
@[simp] theorem setWide_ntm (s : State) (a v : Nat) : (setWide s a v).ntm = s.ntm := rfl
@[simp] theorem setWide_ctl (s : State) (a v : Nat) : (setWide s a v).ctl = s.ctl := rfl
@[simp] theorem setWide_sdf (s : State) (a v : Nat) : (setWide s a v).sdf = s.sdf := rfl
@[simp] theorem setWide_saf (s : State) (a v : Nat) : (setWide s a v).saf = s.saf := rfl
@[simp] theorem setWide_acq (s : State) (a v : Nat) : (setWide s a v).acq = s.acq := rfl
@[simp] theorem setWide_stq (s : State) (a v : Nat) : (setWide s a v).stq = s.stq := rfl
@[simp] theorem setWide_vid (s : State) (a v : Nat) : (setWide s a v).vid = s.vid := rfl
@[simp] theorem setWide_lmp (s : State) (a v : Nat) : (setWide s a v).lmp = s.lmp := rfl
@[simp] theorem setWide_pair (s : State) (a v : Nat) : (setWide s a v).pair = s.pair := rfl
@[simp] theorem setWide_eth (s : State) (a v : Nat) : (setWide s a v).eth = s.eth := rfl
@[simp] theorem setWide_pln (s : State) (a v : Nat) : (setWide s a v).pln = s.pln := rfl
@[simp] theorem setWide_hka (s : State) (a v : Nat) : (setWide s a v).hka = s.hka := rfl
@[simp] theorem setWide_thm (s : State) (a v : Nat) : (setWide s a v).thm = s.thm := rfl
@[simp] theorem setWide_cal (s : State) (a v : Nat) : (setWide s a v).cal = s.cal := rfl
@[simp] theorem setWide_sram (s : State) (a v : Nat) : (setWide s a v).sram = s.sram := rfl
@[simp] theorem setWide_calstore (s : State) (a v : Nat) : (setWide s a v).calstore = s.calstore := rfl

/-! ## An update of the instant -/

@[simp] theorem at_pending (t : Nat) (s : State) : (at' t s).pending = s.pending := rfl
@[simp] theorem at_fresh (t : Nat) (s : State) : (at' t s).fresh = s.fresh := rfl
@[simp] theorem at_held (t : Nat) (s : State) : (at' t s).held = s.held := rfl
@[simp] theorem at_wiping (t : Nat) (s : State) : (at' t s).wiping = s.wiping := rfl
@[simp] theorem at_regs (t : Nat) (s : State) : (at' t s).regs = s.regs := rfl
@[simp] theorem at_shadows (t : Nat) (s : State) : (at' t s).shadows = s.shadows := rfl
@[simp] theorem at_commits (t : Nat) (s : State) : (at' t s).commits = s.commits := rfl
@[simp] theorem at_bus (t : Nat) (s : State) : (at' t s).bus = s.bus := rfl
@[simp] theorem at_irq (t : Nat) (s : State) : (at' t s).irq = s.irq := rfl
@[simp] theorem at_pwr (t : Nat) (s : State) : (at' t s).pwr = s.pwr := rfl
@[simp] theorem at_clk (t : Nat) (s : State) : (at' t s).clk = s.clk := rfl
@[simp] theorem at_mon (t : Nat) (s : State) : (at' t s).mon = s.mon := rfl
@[simp] theorem at_tdc (t : Nat) (s : State) : (at' t s).tdc = s.tdc := rfl
@[simp] theorem at_fct (t : Nat) (s : State) : (at' t s).fct = s.fct := rfl
@[simp] theorem at_esc (t : Nat) (s : State) : (at' t s).esc = s.esc := rfl
@[simp] theorem at_vat (t : Nat) (s : State) : (at' t s).vat = s.vat := rfl
@[simp] theorem at_wnb (t : Nat) (s : State) : (at' t s).wnb = s.wnb := rfl
@[simp] theorem at_ntm (t : Nat) (s : State) : (at' t s).ntm = s.ntm := rfl
@[simp] theorem at_ctl (t : Nat) (s : State) : (at' t s).ctl = s.ctl := rfl
@[simp] theorem at_sdf (t : Nat) (s : State) : (at' t s).sdf = s.sdf := rfl
@[simp] theorem at_saf (t : Nat) (s : State) : (at' t s).saf = s.saf := rfl
@[simp] theorem at_acq (t : Nat) (s : State) : (at' t s).acq = s.acq := rfl
@[simp] theorem at_stq (t : Nat) (s : State) : (at' t s).stq = s.stq := rfl
@[simp] theorem at_vid (t : Nat) (s : State) : (at' t s).vid = s.vid := rfl
@[simp] theorem at_lmp (t : Nat) (s : State) : (at' t s).lmp = s.lmp := rfl
@[simp] theorem at_pair (t : Nat) (s : State) : (at' t s).pair = s.pair := rfl
@[simp] theorem at_eth (t : Nat) (s : State) : (at' t s).eth = s.eth := rfl
@[simp] theorem at_pln (t : Nat) (s : State) : (at' t s).pln = s.pln := rfl
@[simp] theorem at_hka (t : Nat) (s : State) : (at' t s).hka = s.hka := rfl
@[simp] theorem at_thm (t : Nat) (s : State) : (at' t s).thm = s.thm := rfl
@[simp] theorem at_cal (t : Nat) (s : State) : (at' t s).cal = s.cal := rfl
@[simp] theorem at_sram (t : Nat) (s : State) : (at' t s).sram = s.sram := rfl
@[simp] theorem at_calstore (t : Nat) (s : State) : (at' t s).calstore = s.calstore := rfl

/-! ## An update of the count of free values -/

@[simp] theorem takeFree_pending (s : State) (n : Nat) : ((takeFree s n).2).pending = s.pending := rfl
@[simp] theorem takeFree_now (s : State) (n : Nat) : ((takeFree s n).2).now = s.now := rfl
@[simp] theorem takeFree_held (s : State) (n : Nat) : ((takeFree s n).2).held = s.held := rfl
@[simp] theorem takeFree_wiping (s : State) (n : Nat) : ((takeFree s n).2).wiping = s.wiping := rfl
@[simp] theorem takeFree_regs (s : State) (n : Nat) : ((takeFree s n).2).regs = s.regs := rfl
@[simp] theorem takeFree_shadows (s : State) (n : Nat) : ((takeFree s n).2).shadows = s.shadows := rfl
@[simp] theorem takeFree_commits (s : State) (n : Nat) : ((takeFree s n).2).commits = s.commits := rfl
@[simp] theorem takeFree_bus (s : State) (n : Nat) : ((takeFree s n).2).bus = s.bus := rfl
@[simp] theorem takeFree_irq (s : State) (n : Nat) : ((takeFree s n).2).irq = s.irq := rfl
@[simp] theorem takeFree_pwr (s : State) (n : Nat) : ((takeFree s n).2).pwr = s.pwr := rfl
@[simp] theorem takeFree_clk (s : State) (n : Nat) : ((takeFree s n).2).clk = s.clk := rfl
@[simp] theorem takeFree_mon (s : State) (n : Nat) : ((takeFree s n).2).mon = s.mon := rfl
@[simp] theorem takeFree_tdc (s : State) (n : Nat) : ((takeFree s n).2).tdc = s.tdc := rfl
@[simp] theorem takeFree_fct (s : State) (n : Nat) : ((takeFree s n).2).fct = s.fct := rfl
@[simp] theorem takeFree_esc (s : State) (n : Nat) : ((takeFree s n).2).esc = s.esc := rfl
@[simp] theorem takeFree_vat (s : State) (n : Nat) : ((takeFree s n).2).vat = s.vat := rfl
@[simp] theorem takeFree_wnb (s : State) (n : Nat) : ((takeFree s n).2).wnb = s.wnb := rfl
@[simp] theorem takeFree_ntm (s : State) (n : Nat) : ((takeFree s n).2).ntm = s.ntm := rfl
@[simp] theorem takeFree_ctl (s : State) (n : Nat) : ((takeFree s n).2).ctl = s.ctl := rfl
@[simp] theorem takeFree_sdf (s : State) (n : Nat) : ((takeFree s n).2).sdf = s.sdf := rfl
@[simp] theorem takeFree_saf (s : State) (n : Nat) : ((takeFree s n).2).saf = s.saf := rfl
@[simp] theorem takeFree_acq (s : State) (n : Nat) : ((takeFree s n).2).acq = s.acq := rfl
@[simp] theorem takeFree_stq (s : State) (n : Nat) : ((takeFree s n).2).stq = s.stq := rfl
@[simp] theorem takeFree_vid (s : State) (n : Nat) : ((takeFree s n).2).vid = s.vid := rfl
@[simp] theorem takeFree_lmp (s : State) (n : Nat) : ((takeFree s n).2).lmp = s.lmp := rfl
@[simp] theorem takeFree_pair (s : State) (n : Nat) : ((takeFree s n).2).pair = s.pair := rfl
@[simp] theorem takeFree_eth (s : State) (n : Nat) : ((takeFree s n).2).eth = s.eth := rfl
@[simp] theorem takeFree_pln (s : State) (n : Nat) : ((takeFree s n).2).pln = s.pln := rfl
@[simp] theorem takeFree_hka (s : State) (n : Nat) : ((takeFree s n).2).hka = s.hka := rfl
@[simp] theorem takeFree_thm (s : State) (n : Nat) : ((takeFree s n).2).thm = s.thm := rfl
@[simp] theorem takeFree_cal (s : State) (n : Nat) : ((takeFree s n).2).cal = s.cal := rfl
@[simp] theorem takeFree_sram (s : State) (n : Nat) : ((takeFree s n).2).sram = s.sram := rfl
@[simp] theorem takeFree_calstore (s : State) (n : Nat) : ((takeFree s n).2).calstore = s.calstore := rfl

/-! ## An update of a shadow value -/

@[simp] theorem setShadow_pending (s : State) (a : Nat) (w : Word) : (setShadow s a w).pending = s.pending := rfl
@[simp] theorem setShadow_now (s : State) (a : Nat) (w : Word) : (setShadow s a w).now = s.now := rfl
@[simp] theorem setShadow_fresh (s : State) (a : Nat) (w : Word) : (setShadow s a w).fresh = s.fresh := rfl
@[simp] theorem setShadow_held (s : State) (a : Nat) (w : Word) : (setShadow s a w).held = s.held := rfl
@[simp] theorem setShadow_wiping (s : State) (a : Nat) (w : Word) : (setShadow s a w).wiping = s.wiping := rfl
@[simp] theorem setShadow_regs (s : State) (a : Nat) (w : Word) : (setShadow s a w).regs = s.regs := rfl
@[simp] theorem setShadow_commits (s : State) (a : Nat) (w : Word) : (setShadow s a w).commits = s.commits := rfl
@[simp] theorem setShadow_bus (s : State) (a : Nat) (w : Word) : (setShadow s a w).bus = s.bus := rfl
@[simp] theorem setShadow_irq (s : State) (a : Nat) (w : Word) : (setShadow s a w).irq = s.irq := rfl
@[simp] theorem setShadow_pwr (s : State) (a : Nat) (w : Word) : (setShadow s a w).pwr = s.pwr := rfl
@[simp] theorem setShadow_clk (s : State) (a : Nat) (w : Word) : (setShadow s a w).clk = s.clk := rfl
@[simp] theorem setShadow_mon (s : State) (a : Nat) (w : Word) : (setShadow s a w).mon = s.mon := rfl
@[simp] theorem setShadow_tdc (s : State) (a : Nat) (w : Word) : (setShadow s a w).tdc = s.tdc := rfl
@[simp] theorem setShadow_fct (s : State) (a : Nat) (w : Word) : (setShadow s a w).fct = s.fct := rfl
@[simp] theorem setShadow_esc (s : State) (a : Nat) (w : Word) : (setShadow s a w).esc = s.esc := rfl
@[simp] theorem setShadow_vat (s : State) (a : Nat) (w : Word) : (setShadow s a w).vat = s.vat := rfl
@[simp] theorem setShadow_wnb (s : State) (a : Nat) (w : Word) : (setShadow s a w).wnb = s.wnb := rfl
@[simp] theorem setShadow_ntm (s : State) (a : Nat) (w : Word) : (setShadow s a w).ntm = s.ntm := rfl
@[simp] theorem setShadow_ctl (s : State) (a : Nat) (w : Word) : (setShadow s a w).ctl = s.ctl := rfl
@[simp] theorem setShadow_sdf (s : State) (a : Nat) (w : Word) : (setShadow s a w).sdf = s.sdf := rfl
@[simp] theorem setShadow_saf (s : State) (a : Nat) (w : Word) : (setShadow s a w).saf = s.saf := rfl
@[simp] theorem setShadow_acq (s : State) (a : Nat) (w : Word) : (setShadow s a w).acq = s.acq := rfl
@[simp] theorem setShadow_stq (s : State) (a : Nat) (w : Word) : (setShadow s a w).stq = s.stq := rfl
@[simp] theorem setShadow_vid (s : State) (a : Nat) (w : Word) : (setShadow s a w).vid = s.vid := rfl
@[simp] theorem setShadow_lmp (s : State) (a : Nat) (w : Word) : (setShadow s a w).lmp = s.lmp := rfl
@[simp] theorem setShadow_pair (s : State) (a : Nat) (w : Word) : (setShadow s a w).pair = s.pair := rfl
@[simp] theorem setShadow_eth (s : State) (a : Nat) (w : Word) : (setShadow s a w).eth = s.eth := rfl
@[simp] theorem setShadow_pln (s : State) (a : Nat) (w : Word) : (setShadow s a w).pln = s.pln := rfl
@[simp] theorem setShadow_hka (s : State) (a : Nat) (w : Word) : (setShadow s a w).hka = s.hka := rfl
@[simp] theorem setShadow_thm (s : State) (a : Nat) (w : Word) : (setShadow s a w).thm = s.thm := rfl
@[simp] theorem setShadow_cal (s : State) (a : Nat) (w : Word) : (setShadow s a w).cal = s.cal := rfl
@[simp] theorem setShadow_sram (s : State) (a : Nat) (w : Word) : (setShadow s a w).sram = s.sram := rfl
@[simp] theorem setShadow_calstore (s : State) (a : Nat) (w : Word) : (setShadow s a w).calstore = s.calstore := rfl

/-! ## An update of the register bus -/

@[simp] theorem onBus_pending (s : State) (f : Bus → Bus) : (onBus s f).pending = s.pending := rfl
@[simp] theorem onBus_now (s : State) (f : Bus → Bus) : (onBus s f).now = s.now := rfl
@[simp] theorem onBus_fresh (s : State) (f : Bus → Bus) : (onBus s f).fresh = s.fresh := rfl
@[simp] theorem onBus_held (s : State) (f : Bus → Bus) : (onBus s f).held = s.held := rfl
@[simp] theorem onBus_wiping (s : State) (f : Bus → Bus) : (onBus s f).wiping = s.wiping := rfl
@[simp] theorem onBus_regs (s : State) (f : Bus → Bus) : (onBus s f).regs = s.regs := rfl
@[simp] theorem onBus_shadows (s : State) (f : Bus → Bus) : (onBus s f).shadows = s.shadows := rfl
@[simp] theorem onBus_commits (s : State) (f : Bus → Bus) : (onBus s f).commits = s.commits := rfl
@[simp] theorem onBus_irq (s : State) (f : Bus → Bus) : (onBus s f).irq = s.irq := rfl
@[simp] theorem onBus_pwr (s : State) (f : Bus → Bus) : (onBus s f).pwr = s.pwr := rfl
@[simp] theorem onBus_clk (s : State) (f : Bus → Bus) : (onBus s f).clk = s.clk := rfl
@[simp] theorem onBus_mon (s : State) (f : Bus → Bus) : (onBus s f).mon = s.mon := rfl
@[simp] theorem onBus_tdc (s : State) (f : Bus → Bus) : (onBus s f).tdc = s.tdc := rfl
@[simp] theorem onBus_fct (s : State) (f : Bus → Bus) : (onBus s f).fct = s.fct := rfl
@[simp] theorem onBus_esc (s : State) (f : Bus → Bus) : (onBus s f).esc = s.esc := rfl
@[simp] theorem onBus_vat (s : State) (f : Bus → Bus) : (onBus s f).vat = s.vat := rfl
@[simp] theorem onBus_wnb (s : State) (f : Bus → Bus) : (onBus s f).wnb = s.wnb := rfl
@[simp] theorem onBus_ntm (s : State) (f : Bus → Bus) : (onBus s f).ntm = s.ntm := rfl
@[simp] theorem onBus_ctl (s : State) (f : Bus → Bus) : (onBus s f).ctl = s.ctl := rfl
@[simp] theorem onBus_sdf (s : State) (f : Bus → Bus) : (onBus s f).sdf = s.sdf := rfl
@[simp] theorem onBus_saf (s : State) (f : Bus → Bus) : (onBus s f).saf = s.saf := rfl
@[simp] theorem onBus_acq (s : State) (f : Bus → Bus) : (onBus s f).acq = s.acq := rfl
@[simp] theorem onBus_stq (s : State) (f : Bus → Bus) : (onBus s f).stq = s.stq := rfl
@[simp] theorem onBus_vid (s : State) (f : Bus → Bus) : (onBus s f).vid = s.vid := rfl
@[simp] theorem onBus_lmp (s : State) (f : Bus → Bus) : (onBus s f).lmp = s.lmp := rfl
@[simp] theorem onBus_pair (s : State) (f : Bus → Bus) : (onBus s f).pair = s.pair := rfl
@[simp] theorem onBus_eth (s : State) (f : Bus → Bus) : (onBus s f).eth = s.eth := rfl
@[simp] theorem onBus_pln (s : State) (f : Bus → Bus) : (onBus s f).pln = s.pln := rfl
@[simp] theorem onBus_hka (s : State) (f : Bus → Bus) : (onBus s f).hka = s.hka := rfl
@[simp] theorem onBus_thm (s : State) (f : Bus → Bus) : (onBus s f).thm = s.thm := rfl
@[simp] theorem onBus_cal (s : State) (f : Bus → Bus) : (onBus s f).cal = s.cal := rfl
@[simp] theorem onBus_sram (s : State) (f : Bus → Bus) : (onBus s f).sram = s.sram := rfl
@[simp] theorem onBus_calstore (s : State) (f : Bus → Bus) : (onBus s f).calstore = s.calstore := rfl

/-! ## An update of a bundle -/

@[simp] theorem setBundle_pending (s : State) (b : Nat) (x : Bundle) : (setBundle s b x).pending = s.pending := rfl
@[simp] theorem setBundle_now (s : State) (b : Nat) (x : Bundle) : (setBundle s b x).now = s.now := rfl
@[simp] theorem setBundle_fresh (s : State) (b : Nat) (x : Bundle) : (setBundle s b x).fresh = s.fresh := rfl
@[simp] theorem setBundle_held (s : State) (b : Nat) (x : Bundle) : (setBundle s b x).held = s.held := rfl
@[simp] theorem setBundle_wiping (s : State) (b : Nat) (x : Bundle) : (setBundle s b x).wiping = s.wiping := rfl
@[simp] theorem setBundle_regs (s : State) (b : Nat) (x : Bundle) : (setBundle s b x).regs = s.regs := rfl
@[simp] theorem setBundle_shadows (s : State) (b : Nat) (x : Bundle) : (setBundle s b x).shadows = s.shadows := rfl
@[simp] theorem setBundle_commits (s : State) (b : Nat) (x : Bundle) : (setBundle s b x).commits = s.commits := rfl
@[simp] theorem setBundle_bus (s : State) (b : Nat) (x : Bundle) : (setBundle s b x).bus = s.bus := rfl
@[simp] theorem setBundle_irq (s : State) (b : Nat) (x : Bundle) : (setBundle s b x).irq = s.irq := rfl
@[simp] theorem setBundle_pwr (s : State) (b : Nat) (x : Bundle) : (setBundle s b x).pwr = s.pwr := rfl
@[simp] theorem setBundle_clk (s : State) (b : Nat) (x : Bundle) : (setBundle s b x).clk = s.clk := rfl
@[simp] theorem setBundle_mon (s : State) (b : Nat) (x : Bundle) : (setBundle s b x).mon = s.mon := rfl
@[simp] theorem setBundle_tdc (s : State) (b : Nat) (x : Bundle) : (setBundle s b x).tdc = s.tdc := rfl
@[simp] theorem setBundle_fct (s : State) (b : Nat) (x : Bundle) : (setBundle s b x).fct = s.fct := rfl
@[simp] theorem setBundle_esc (s : State) (b : Nat) (x : Bundle) : (setBundle s b x).esc = s.esc := rfl
@[simp] theorem setBundle_vat (s : State) (b : Nat) (x : Bundle) : (setBundle s b x).vat = s.vat := rfl
@[simp] theorem setBundle_ntm (s : State) (b : Nat) (x : Bundle) : (setBundle s b x).ntm = s.ntm := rfl
@[simp] theorem setBundle_ctl (s : State) (b : Nat) (x : Bundle) : (setBundle s b x).ctl = s.ctl := rfl
@[simp] theorem setBundle_sdf (s : State) (b : Nat) (x : Bundle) : (setBundle s b x).sdf = s.sdf := rfl
@[simp] theorem setBundle_saf (s : State) (b : Nat) (x : Bundle) : (setBundle s b x).saf = s.saf := rfl
@[simp] theorem setBundle_acq (s : State) (b : Nat) (x : Bundle) : (setBundle s b x).acq = s.acq := rfl
@[simp] theorem setBundle_stq (s : State) (b : Nat) (x : Bundle) : (setBundle s b x).stq = s.stq := rfl
@[simp] theorem setBundle_vid (s : State) (b : Nat) (x : Bundle) : (setBundle s b x).vid = s.vid := rfl
@[simp] theorem setBundle_lmp (s : State) (b : Nat) (x : Bundle) : (setBundle s b x).lmp = s.lmp := rfl
@[simp] theorem setBundle_pair (s : State) (b : Nat) (x : Bundle) : (setBundle s b x).pair = s.pair := rfl
@[simp] theorem setBundle_eth (s : State) (b : Nat) (x : Bundle) : (setBundle s b x).eth = s.eth := rfl
@[simp] theorem setBundle_pln (s : State) (b : Nat) (x : Bundle) : (setBundle s b x).pln = s.pln := rfl
@[simp] theorem setBundle_hka (s : State) (b : Nat) (x : Bundle) : (setBundle s b x).hka = s.hka := rfl
@[simp] theorem setBundle_thm (s : State) (b : Nat) (x : Bundle) : (setBundle s b x).thm = s.thm := rfl
@[simp] theorem setBundle_cal (s : State) (b : Nat) (x : Bundle) : (setBundle s b x).cal = s.cal := rfl
@[simp] theorem setBundle_sram (s : State) (b : Nat) (x : Bundle) : (setBundle s b x).sram = s.sram := rfl
@[simp] theorem setBundle_calstore (s : State) (b : Nat) (x : Bundle) : (setBundle s b x).calstore = s.calstore := rfl

/-! ## An update of a frame that waits -/

@[simp] theorem queueFrame_pending (s : State) (b : Nat) (f : LinkFrame) : (queueFrame s b f).pending = s.pending := rfl
@[simp] theorem queueFrame_now (s : State) (b : Nat) (f : LinkFrame) : (queueFrame s b f).now = s.now := rfl
@[simp] theorem queueFrame_fresh (s : State) (b : Nat) (f : LinkFrame) : (queueFrame s b f).fresh = s.fresh := rfl
@[simp] theorem queueFrame_held (s : State) (b : Nat) (f : LinkFrame) : (queueFrame s b f).held = s.held := rfl
@[simp] theorem queueFrame_wiping (s : State) (b : Nat) (f : LinkFrame) : (queueFrame s b f).wiping = s.wiping := rfl
@[simp] theorem queueFrame_regs (s : State) (b : Nat) (f : LinkFrame) : (queueFrame s b f).regs = s.regs := rfl
@[simp] theorem queueFrame_shadows (s : State) (b : Nat) (f : LinkFrame) : (queueFrame s b f).shadows = s.shadows := rfl
@[simp] theorem queueFrame_commits (s : State) (b : Nat) (f : LinkFrame) : (queueFrame s b f).commits = s.commits := rfl
@[simp] theorem queueFrame_bus (s : State) (b : Nat) (f : LinkFrame) : (queueFrame s b f).bus = s.bus := rfl
@[simp] theorem queueFrame_irq (s : State) (b : Nat) (f : LinkFrame) : (queueFrame s b f).irq = s.irq := rfl
@[simp] theorem queueFrame_pwr (s : State) (b : Nat) (f : LinkFrame) : (queueFrame s b f).pwr = s.pwr := rfl
@[simp] theorem queueFrame_clk (s : State) (b : Nat) (f : LinkFrame) : (queueFrame s b f).clk = s.clk := rfl
@[simp] theorem queueFrame_mon (s : State) (b : Nat) (f : LinkFrame) : (queueFrame s b f).mon = s.mon := rfl
@[simp] theorem queueFrame_tdc (s : State) (b : Nat) (f : LinkFrame) : (queueFrame s b f).tdc = s.tdc := rfl
@[simp] theorem queueFrame_fct (s : State) (b : Nat) (f : LinkFrame) : (queueFrame s b f).fct = s.fct := rfl
@[simp] theorem queueFrame_esc (s : State) (b : Nat) (f : LinkFrame) : (queueFrame s b f).esc = s.esc := rfl
@[simp] theorem queueFrame_vat (s : State) (b : Nat) (f : LinkFrame) : (queueFrame s b f).vat = s.vat := rfl
@[simp] theorem queueFrame_ntm (s : State) (b : Nat) (f : LinkFrame) : (queueFrame s b f).ntm = s.ntm := rfl
@[simp] theorem queueFrame_ctl (s : State) (b : Nat) (f : LinkFrame) : (queueFrame s b f).ctl = s.ctl := rfl
@[simp] theorem queueFrame_sdf (s : State) (b : Nat) (f : LinkFrame) : (queueFrame s b f).sdf = s.sdf := rfl
@[simp] theorem queueFrame_saf (s : State) (b : Nat) (f : LinkFrame) : (queueFrame s b f).saf = s.saf := rfl
@[simp] theorem queueFrame_acq (s : State) (b : Nat) (f : LinkFrame) : (queueFrame s b f).acq = s.acq := rfl
@[simp] theorem queueFrame_stq (s : State) (b : Nat) (f : LinkFrame) : (queueFrame s b f).stq = s.stq := rfl
@[simp] theorem queueFrame_vid (s : State) (b : Nat) (f : LinkFrame) : (queueFrame s b f).vid = s.vid := rfl
@[simp] theorem queueFrame_lmp (s : State) (b : Nat) (f : LinkFrame) : (queueFrame s b f).lmp = s.lmp := rfl
@[simp] theorem queueFrame_pair (s : State) (b : Nat) (f : LinkFrame) : (queueFrame s b f).pair = s.pair := rfl
@[simp] theorem queueFrame_eth (s : State) (b : Nat) (f : LinkFrame) : (queueFrame s b f).eth = s.eth := rfl
@[simp] theorem queueFrame_pln (s : State) (b : Nat) (f : LinkFrame) : (queueFrame s b f).pln = s.pln := rfl
@[simp] theorem queueFrame_hka (s : State) (b : Nat) (f : LinkFrame) : (queueFrame s b f).hka = s.hka := rfl
@[simp] theorem queueFrame_thm (s : State) (b : Nat) (f : LinkFrame) : (queueFrame s b f).thm = s.thm := rfl
@[simp] theorem queueFrame_cal (s : State) (b : Nat) (f : LinkFrame) : (queueFrame s b f).cal = s.cal := rfl
@[simp] theorem queueFrame_sram (s : State) (b : Nat) (f : LinkFrame) : (queueFrame s b f).sram = s.sram := rfl
@[simp] theorem queueFrame_calstore (s : State) (b : Nat) (f : LinkFrame) : (queueFrame s b f).calstore = s.calstore := rfl

/-! ## An event counter -/

@[simp] theorem bumpBy_pending (s : State) (a n : Nat) : (bumpBy s a n).pending = s.pending := by
  unfold bumpBy; split <;> [rfl; split <;> rfl]
@[simp] theorem bump_pending (s : State) (a : Nat) : (bump s a).pending = s.pending := bumpBy_pending s a 1
@[simp] theorem bumpBy_now (s : State) (a n : Nat) : (bumpBy s a n).now = s.now := by
  unfold bumpBy; split <;> [rfl; split <;> rfl]
@[simp] theorem bump_now (s : State) (a : Nat) : (bump s a).now = s.now := bumpBy_now s a 1
@[simp] theorem bumpBy_fresh (s : State) (a n : Nat) : (bumpBy s a n).fresh = s.fresh := by
  unfold bumpBy; split <;> [rfl; split <;> rfl]
@[simp] theorem bump_fresh (s : State) (a : Nat) : (bump s a).fresh = s.fresh := bumpBy_fresh s a 1
@[simp] theorem bumpBy_held (s : State) (a n : Nat) : (bumpBy s a n).held = s.held := by
  unfold bumpBy; split <;> [rfl; split <;> rfl]
@[simp] theorem bump_held (s : State) (a : Nat) : (bump s a).held = s.held := bumpBy_held s a 1
@[simp] theorem bumpBy_wiping (s : State) (a n : Nat) : (bumpBy s a n).wiping = s.wiping := by
  unfold bumpBy; split <;> [rfl; split <;> rfl]
@[simp] theorem bump_wiping (s : State) (a : Nat) : (bump s a).wiping = s.wiping := bumpBy_wiping s a 1
@[simp] theorem bumpBy_shadows (s : State) (a n : Nat) : (bumpBy s a n).shadows = s.shadows := by
  unfold bumpBy; split <;> [rfl; split <;> rfl]
@[simp] theorem bump_shadows (s : State) (a : Nat) : (bump s a).shadows = s.shadows := bumpBy_shadows s a 1
@[simp] theorem bumpBy_commits (s : State) (a n : Nat) : (bumpBy s a n).commits = s.commits := by
  unfold bumpBy; split <;> [rfl; split <;> rfl]
@[simp] theorem bump_commits (s : State) (a : Nat) : (bump s a).commits = s.commits := bumpBy_commits s a 1
@[simp] theorem bumpBy_bus (s : State) (a n : Nat) : (bumpBy s a n).bus = s.bus := by
  unfold bumpBy; split <;> [rfl; split <;> rfl]
@[simp] theorem bump_bus (s : State) (a : Nat) : (bump s a).bus = s.bus := bumpBy_bus s a 1
@[simp] theorem bumpBy_irq (s : State) (a n : Nat) : (bumpBy s a n).irq = s.irq := by
  unfold bumpBy; split <;> [rfl; split <;> rfl]
@[simp] theorem bump_irq (s : State) (a : Nat) : (bump s a).irq = s.irq := bumpBy_irq s a 1
@[simp] theorem bumpBy_pwr (s : State) (a n : Nat) : (bumpBy s a n).pwr = s.pwr := by
  unfold bumpBy; split <;> [rfl; split <;> rfl]
@[simp] theorem bump_pwr (s : State) (a : Nat) : (bump s a).pwr = s.pwr := bumpBy_pwr s a 1
@[simp] theorem bumpBy_clk (s : State) (a n : Nat) : (bumpBy s a n).clk = s.clk := by
  unfold bumpBy; split <;> [rfl; split <;> rfl]
@[simp] theorem bump_clk (s : State) (a : Nat) : (bump s a).clk = s.clk := bumpBy_clk s a 1
@[simp] theorem bumpBy_mon (s : State) (a n : Nat) : (bumpBy s a n).mon = s.mon := by
  unfold bumpBy; split <;> [rfl; split <;> rfl]
@[simp] theorem bump_mon (s : State) (a : Nat) : (bump s a).mon = s.mon := bumpBy_mon s a 1
@[simp] theorem bumpBy_tdc (s : State) (a n : Nat) : (bumpBy s a n).tdc = s.tdc := by
  unfold bumpBy; split <;> [rfl; split <;> rfl]
@[simp] theorem bump_tdc (s : State) (a : Nat) : (bump s a).tdc = s.tdc := bumpBy_tdc s a 1
@[simp] theorem bumpBy_fct (s : State) (a n : Nat) : (bumpBy s a n).fct = s.fct := by
  unfold bumpBy; split <;> [rfl; split <;> rfl]
@[simp] theorem bump_fct (s : State) (a : Nat) : (bump s a).fct = s.fct := bumpBy_fct s a 1
@[simp] theorem bumpBy_esc (s : State) (a n : Nat) : (bumpBy s a n).esc = s.esc := by
  unfold bumpBy; split <;> [rfl; split <;> rfl]
@[simp] theorem bump_esc (s : State) (a : Nat) : (bump s a).esc = s.esc := bumpBy_esc s a 1
@[simp] theorem bumpBy_vat (s : State) (a n : Nat) : (bumpBy s a n).vat = s.vat := by
  unfold bumpBy; split <;> [rfl; split <;> rfl]
@[simp] theorem bump_vat (s : State) (a : Nat) : (bump s a).vat = s.vat := bumpBy_vat s a 1
@[simp] theorem bumpBy_wnb (s : State) (a n : Nat) : (bumpBy s a n).wnb = s.wnb := by
  unfold bumpBy; split <;> [rfl; split <;> rfl]
@[simp] theorem bump_wnb (s : State) (a : Nat) : (bump s a).wnb = s.wnb := bumpBy_wnb s a 1
@[simp] theorem bumpBy_ntm (s : State) (a n : Nat) : (bumpBy s a n).ntm = s.ntm := by
  unfold bumpBy; split <;> [rfl; split <;> rfl]
@[simp] theorem bump_ntm (s : State) (a : Nat) : (bump s a).ntm = s.ntm := bumpBy_ntm s a 1
@[simp] theorem bumpBy_ctl (s : State) (a n : Nat) : (bumpBy s a n).ctl = s.ctl := by
  unfold bumpBy; split <;> [rfl; split <;> rfl]
@[simp] theorem bump_ctl (s : State) (a : Nat) : (bump s a).ctl = s.ctl := bumpBy_ctl s a 1
@[simp] theorem bumpBy_sdf (s : State) (a n : Nat) : (bumpBy s a n).sdf = s.sdf := by
  unfold bumpBy; split <;> [rfl; split <;> rfl]
@[simp] theorem bump_sdf (s : State) (a : Nat) : (bump s a).sdf = s.sdf := bumpBy_sdf s a 1
@[simp] theorem bumpBy_saf (s : State) (a n : Nat) : (bumpBy s a n).saf = s.saf := by
  unfold bumpBy; split <;> [rfl; split <;> rfl]
@[simp] theorem bump_saf (s : State) (a : Nat) : (bump s a).saf = s.saf := bumpBy_saf s a 1
@[simp] theorem bumpBy_acq (s : State) (a n : Nat) : (bumpBy s a n).acq = s.acq := by
  unfold bumpBy; split <;> [rfl; split <;> rfl]
@[simp] theorem bump_acq (s : State) (a : Nat) : (bump s a).acq = s.acq := bumpBy_acq s a 1
@[simp] theorem bumpBy_stq (s : State) (a n : Nat) : (bumpBy s a n).stq = s.stq := by
  unfold bumpBy; split <;> [rfl; split <;> rfl]
@[simp] theorem bump_stq (s : State) (a : Nat) : (bump s a).stq = s.stq := bumpBy_stq s a 1
@[simp] theorem bumpBy_vid (s : State) (a n : Nat) : (bumpBy s a n).vid = s.vid := by
  unfold bumpBy; split <;> [rfl; split <;> rfl]
@[simp] theorem bump_vid (s : State) (a : Nat) : (bump s a).vid = s.vid := bumpBy_vid s a 1
@[simp] theorem bumpBy_lmp (s : State) (a n : Nat) : (bumpBy s a n).lmp = s.lmp := by
  unfold bumpBy; split <;> [rfl; split <;> rfl]
@[simp] theorem bump_lmp (s : State) (a : Nat) : (bump s a).lmp = s.lmp := bumpBy_lmp s a 1
@[simp] theorem bumpBy_pair (s : State) (a n : Nat) : (bumpBy s a n).pair = s.pair := by
  unfold bumpBy; split <;> [rfl; split <;> rfl]
@[simp] theorem bump_pair (s : State) (a : Nat) : (bump s a).pair = s.pair := bumpBy_pair s a 1
@[simp] theorem bumpBy_eth (s : State) (a n : Nat) : (bumpBy s a n).eth = s.eth := by
  unfold bumpBy; split <;> [rfl; split <;> rfl]
@[simp] theorem bump_eth (s : State) (a : Nat) : (bump s a).eth = s.eth := bumpBy_eth s a 1
@[simp] theorem bumpBy_pln (s : State) (a n : Nat) : (bumpBy s a n).pln = s.pln := by
  unfold bumpBy; split <;> [rfl; split <;> rfl]
@[simp] theorem bump_pln (s : State) (a : Nat) : (bump s a).pln = s.pln := bumpBy_pln s a 1
@[simp] theorem bumpBy_hka (s : State) (a n : Nat) : (bumpBy s a n).hka = s.hka := by
  unfold bumpBy; split <;> [rfl; split <;> rfl]
@[simp] theorem bump_hka (s : State) (a : Nat) : (bump s a).hka = s.hka := bumpBy_hka s a 1
@[simp] theorem bumpBy_thm (s : State) (a n : Nat) : (bumpBy s a n).thm = s.thm := by
  unfold bumpBy; split <;> [rfl; split <;> rfl]
@[simp] theorem bump_thm (s : State) (a : Nat) : (bump s a).thm = s.thm := bumpBy_thm s a 1
@[simp] theorem bumpBy_cal (s : State) (a n : Nat) : (bumpBy s a n).cal = s.cal := by
  unfold bumpBy; split <;> [rfl; split <;> rfl]
@[simp] theorem bump_cal (s : State) (a : Nat) : (bump s a).cal = s.cal := bumpBy_cal s a 1
@[simp] theorem bumpBy_sram (s : State) (a n : Nat) : (bumpBy s a n).sram = s.sram := by
  unfold bumpBy; split <;> [rfl; split <;> rfl]
@[simp] theorem bump_sram (s : State) (a : Nat) : (bump s a).sram = s.sram := bumpBy_sram s a 1
@[simp] theorem bumpBy_calstore (s : State) (a n : Nat) : (bumpBy s a n).calstore = s.calstore := by
  unfold bumpBy; split <;> [rfl; split <;> rfl]
@[simp] theorem bump_calstore (s : State) (a : Nat) : (bump s a).calstore = s.calstore := bumpBy_calstore s a 1

/-! ## An error code -/

@[simp] theorem recErr_pending (s : State) (p o c : Nat) : (recErr s p o c).pending = s.pending := by unfold recErr; split <;> rfl
@[simp] theorem recErr_now (s : State) (p o c : Nat) : (recErr s p o c).now = s.now := by unfold recErr; split <;> rfl
@[simp] theorem recErr_fresh (s : State) (p o c : Nat) : (recErr s p o c).fresh = s.fresh := by unfold recErr; split <;> rfl
@[simp] theorem recErr_held (s : State) (p o c : Nat) : (recErr s p o c).held = s.held := by unfold recErr; split <;> rfl
@[simp] theorem recErr_wiping (s : State) (p o c : Nat) : (recErr s p o c).wiping = s.wiping := by unfold recErr; split <;> rfl
@[simp] theorem recErr_shadows (s : State) (p o c : Nat) : (recErr s p o c).shadows = s.shadows := by unfold recErr; split <;> rfl
@[simp] theorem recErr_commits (s : State) (p o c : Nat) : (recErr s p o c).commits = s.commits := by unfold recErr; split <;> rfl
@[simp] theorem recErr_bus (s : State) (p o c : Nat) : (recErr s p o c).bus = s.bus := by unfold recErr; split <;> rfl
@[simp] theorem recErr_irq (s : State) (p o c : Nat) : (recErr s p o c).irq = s.irq := by unfold recErr; split <;> rfl
@[simp] theorem recErr_pwr (s : State) (p o c : Nat) : (recErr s p o c).pwr = s.pwr := by unfold recErr; split <;> rfl
@[simp] theorem recErr_clk (s : State) (p o c : Nat) : (recErr s p o c).clk = s.clk := by unfold recErr; split <;> rfl
@[simp] theorem recErr_mon (s : State) (p o c : Nat) : (recErr s p o c).mon = s.mon := by unfold recErr; split <;> rfl
@[simp] theorem recErr_tdc (s : State) (p o c : Nat) : (recErr s p o c).tdc = s.tdc := by unfold recErr; split <;> rfl
@[simp] theorem recErr_fct (s : State) (p o c : Nat) : (recErr s p o c).fct = s.fct := by unfold recErr; split <;> rfl
@[simp] theorem recErr_esc (s : State) (p o c : Nat) : (recErr s p o c).esc = s.esc := by unfold recErr; split <;> rfl
@[simp] theorem recErr_vat (s : State) (p o c : Nat) : (recErr s p o c).vat = s.vat := by unfold recErr; split <;> rfl
@[simp] theorem recErr_wnb (s : State) (p o c : Nat) : (recErr s p o c).wnb = s.wnb := by unfold recErr; split <;> rfl
@[simp] theorem recErr_ntm (s : State) (p o c : Nat) : (recErr s p o c).ntm = s.ntm := by unfold recErr; split <;> rfl
@[simp] theorem recErr_ctl (s : State) (p o c : Nat) : (recErr s p o c).ctl = s.ctl := by unfold recErr; split <;> rfl
@[simp] theorem recErr_sdf (s : State) (p o c : Nat) : (recErr s p o c).sdf = s.sdf := by unfold recErr; split <;> rfl
@[simp] theorem recErr_saf (s : State) (p o c : Nat) : (recErr s p o c).saf = s.saf := by unfold recErr; split <;> rfl
@[simp] theorem recErr_acq (s : State) (p o c : Nat) : (recErr s p o c).acq = s.acq := by unfold recErr; split <;> rfl
@[simp] theorem recErr_stq (s : State) (p o c : Nat) : (recErr s p o c).stq = s.stq := by unfold recErr; split <;> rfl
@[simp] theorem recErr_vid (s : State) (p o c : Nat) : (recErr s p o c).vid = s.vid := by unfold recErr; split <;> rfl
@[simp] theorem recErr_lmp (s : State) (p o c : Nat) : (recErr s p o c).lmp = s.lmp := by unfold recErr; split <;> rfl
@[simp] theorem recErr_pair (s : State) (p o c : Nat) : (recErr s p o c).pair = s.pair := by unfold recErr; split <;> rfl
@[simp] theorem recErr_eth (s : State) (p o c : Nat) : (recErr s p o c).eth = s.eth := by unfold recErr; split <;> rfl
@[simp] theorem recErr_pln (s : State) (p o c : Nat) : (recErr s p o c).pln = s.pln := by unfold recErr; split <;> rfl
@[simp] theorem recErr_hka (s : State) (p o c : Nat) : (recErr s p o c).hka = s.hka := by unfold recErr; split <;> rfl
@[simp] theorem recErr_thm (s : State) (p o c : Nat) : (recErr s p o c).thm = s.thm := by unfold recErr; split <;> rfl
@[simp] theorem recErr_cal (s : State) (p o c : Nat) : (recErr s p o c).cal = s.cal := by unfold recErr; split <;> rfl
@[simp] theorem recErr_sram (s : State) (p o c : Nat) : (recErr s p o c).sram = s.sram := by unfold recErr; split <;> rfl
@[simp] theorem recErr_calstore (s : State) (p o c : Nat) : (recErr s p o c).calstore = s.calstore := by unfold recErr; split <;> rfl

/-! ## An event -/

@[simp] theorem sendEvent_pending (s : State) : (sendEvent s).pending = s.pending := by
  unfold sendEvent; dsimp only; split <;> [(split <;> rfl); exact bump_pending s _]
@[simp] theorem evfRise_pending (s : State) (i : Nat) : (evfRise s i).pending = s.pending := by
  unfold evfRise; split <;> [(split <;> [rfl; exact sendEvent_pending s]); rfl]
@[simp] theorem evfWatch_pending (p : Nat) (s s' : State) : (evfWatch p s s').pending = s'.pending := by
  unfold evfWatch; split <;> [(split <;> [exact evfRise_pending s' _; rfl]); rfl]
@[simp] theorem raiseBits_pending (s : State) (p : Nat) (m : Word) : (raiseBits s p m).pending = s.pending :=
  evfWatch_pending p s _
@[simp] theorem raise_pending (s : State) (f : Fld) : (raise s f).pending = s.pending := raiseBits_pending s _ _
@[simp] theorem raiseAt_pending (s : State) (f : Fld) (i : Nat) : (raiseAt s f i).pending = s.pending := raiseBits_pending s _ _
@[simp] theorem sendEvent_now (s : State) : (sendEvent s).now = s.now := by
  unfold sendEvent; dsimp only; split <;> [(split <;> rfl); exact bump_now s _]
@[simp] theorem evfRise_now (s : State) (i : Nat) : (evfRise s i).now = s.now := by
  unfold evfRise; split <;> [(split <;> [rfl; exact sendEvent_now s]); rfl]
@[simp] theorem evfWatch_now (p : Nat) (s s' : State) : (evfWatch p s s').now = s'.now := by
  unfold evfWatch; split <;> [(split <;> [exact evfRise_now s' _; rfl]); rfl]
@[simp] theorem raiseBits_now (s : State) (p : Nat) (m : Word) : (raiseBits s p m).now = s.now :=
  evfWatch_now p s _
@[simp] theorem raise_now (s : State) (f : Fld) : (raise s f).now = s.now := raiseBits_now s _ _
@[simp] theorem raiseAt_now (s : State) (f : Fld) (i : Nat) : (raiseAt s f i).now = s.now := raiseBits_now s _ _
@[simp] theorem sendEvent_fresh (s : State) : (sendEvent s).fresh = s.fresh := by
  unfold sendEvent; dsimp only; split <;> [(split <;> rfl); exact bump_fresh s _]
@[simp] theorem evfRise_fresh (s : State) (i : Nat) : (evfRise s i).fresh = s.fresh := by
  unfold evfRise; split <;> [(split <;> [rfl; exact sendEvent_fresh s]); rfl]
@[simp] theorem evfWatch_fresh (p : Nat) (s s' : State) : (evfWatch p s s').fresh = s'.fresh := by
  unfold evfWatch; split <;> [(split <;> [exact evfRise_fresh s' _; rfl]); rfl]
@[simp] theorem raiseBits_fresh (s : State) (p : Nat) (m : Word) : (raiseBits s p m).fresh = s.fresh :=
  evfWatch_fresh p s _
@[simp] theorem raise_fresh (s : State) (f : Fld) : (raise s f).fresh = s.fresh := raiseBits_fresh s _ _
@[simp] theorem raiseAt_fresh (s : State) (f : Fld) (i : Nat) : (raiseAt s f i).fresh = s.fresh := raiseBits_fresh s _ _
@[simp] theorem sendEvent_held (s : State) : (sendEvent s).held = s.held := by
  unfold sendEvent; dsimp only; split <;> [(split <;> rfl); exact bump_held s _]
@[simp] theorem evfRise_held (s : State) (i : Nat) : (evfRise s i).held = s.held := by
  unfold evfRise; split <;> [(split <;> [rfl; exact sendEvent_held s]); rfl]
@[simp] theorem evfWatch_held (p : Nat) (s s' : State) : (evfWatch p s s').held = s'.held := by
  unfold evfWatch; split <;> [(split <;> [exact evfRise_held s' _; rfl]); rfl]
@[simp] theorem raiseBits_held (s : State) (p : Nat) (m : Word) : (raiseBits s p m).held = s.held :=
  evfWatch_held p s _
@[simp] theorem raise_held (s : State) (f : Fld) : (raise s f).held = s.held := raiseBits_held s _ _
@[simp] theorem raiseAt_held (s : State) (f : Fld) (i : Nat) : (raiseAt s f i).held = s.held := raiseBits_held s _ _
@[simp] theorem sendEvent_wiping (s : State) : (sendEvent s).wiping = s.wiping := by
  unfold sendEvent; dsimp only; split <;> [(split <;> rfl); exact bump_wiping s _]
@[simp] theorem evfRise_wiping (s : State) (i : Nat) : (evfRise s i).wiping = s.wiping := by
  unfold evfRise; split <;> [(split <;> [rfl; exact sendEvent_wiping s]); rfl]
@[simp] theorem evfWatch_wiping (p : Nat) (s s' : State) : (evfWatch p s s').wiping = s'.wiping := by
  unfold evfWatch; split <;> [(split <;> [exact evfRise_wiping s' _; rfl]); rfl]
@[simp] theorem raiseBits_wiping (s : State) (p : Nat) (m : Word) : (raiseBits s p m).wiping = s.wiping :=
  evfWatch_wiping p s _
@[simp] theorem raise_wiping (s : State) (f : Fld) : (raise s f).wiping = s.wiping := raiseBits_wiping s _ _
@[simp] theorem raiseAt_wiping (s : State) (f : Fld) (i : Nat) : (raiseAt s f i).wiping = s.wiping := raiseBits_wiping s _ _
@[simp] theorem sendEvent_shadows (s : State) : (sendEvent s).shadows = s.shadows := by
  unfold sendEvent; dsimp only; split <;> [(split <;> rfl); exact bump_shadows s _]
@[simp] theorem evfRise_shadows (s : State) (i : Nat) : (evfRise s i).shadows = s.shadows := by
  unfold evfRise; split <;> [(split <;> [rfl; exact sendEvent_shadows s]); rfl]
@[simp] theorem evfWatch_shadows (p : Nat) (s s' : State) : (evfWatch p s s').shadows = s'.shadows := by
  unfold evfWatch; split <;> [(split <;> [exact evfRise_shadows s' _; rfl]); rfl]
@[simp] theorem raiseBits_shadows (s : State) (p : Nat) (m : Word) : (raiseBits s p m).shadows = s.shadows :=
  evfWatch_shadows p s _
@[simp] theorem raise_shadows (s : State) (f : Fld) : (raise s f).shadows = s.shadows := raiseBits_shadows s _ _
@[simp] theorem raiseAt_shadows (s : State) (f : Fld) (i : Nat) : (raiseAt s f i).shadows = s.shadows := raiseBits_shadows s _ _
@[simp] theorem sendEvent_commits (s : State) : (sendEvent s).commits = s.commits := by
  unfold sendEvent; dsimp only; split <;> [(split <;> rfl); exact bump_commits s _]
@[simp] theorem evfRise_commits (s : State) (i : Nat) : (evfRise s i).commits = s.commits := by
  unfold evfRise; split <;> [(split <;> [rfl; exact sendEvent_commits s]); rfl]
@[simp] theorem evfWatch_commits (p : Nat) (s s' : State) : (evfWatch p s s').commits = s'.commits := by
  unfold evfWatch; split <;> [(split <;> [exact evfRise_commits s' _; rfl]); rfl]
@[simp] theorem raiseBits_commits (s : State) (p : Nat) (m : Word) : (raiseBits s p m).commits = s.commits :=
  evfWatch_commits p s _
@[simp] theorem raise_commits (s : State) (f : Fld) : (raise s f).commits = s.commits := raiseBits_commits s _ _
@[simp] theorem raiseAt_commits (s : State) (f : Fld) (i : Nat) : (raiseAt s f i).commits = s.commits := raiseBits_commits s _ _
@[simp] theorem sendEvent_bus (s : State) : (sendEvent s).bus = s.bus := by
  unfold sendEvent; dsimp only; split <;> [(split <;> rfl); exact bump_bus s _]
@[simp] theorem evfRise_bus (s : State) (i : Nat) : (evfRise s i).bus = s.bus := by
  unfold evfRise; split <;> [(split <;> [rfl; exact sendEvent_bus s]); rfl]
@[simp] theorem evfWatch_bus (p : Nat) (s s' : State) : (evfWatch p s s').bus = s'.bus := by
  unfold evfWatch; split <;> [(split <;> [exact evfRise_bus s' _; rfl]); rfl]
@[simp] theorem raiseBits_bus (s : State) (p : Nat) (m : Word) : (raiseBits s p m).bus = s.bus :=
  evfWatch_bus p s _
@[simp] theorem raise_bus (s : State) (f : Fld) : (raise s f).bus = s.bus := raiseBits_bus s _ _
@[simp] theorem raiseAt_bus (s : State) (f : Fld) (i : Nat) : (raiseAt s f i).bus = s.bus := raiseBits_bus s _ _
@[simp] theorem sendEvent_pwr (s : State) : (sendEvent s).pwr = s.pwr := by
  unfold sendEvent; dsimp only; split <;> [(split <;> rfl); exact bump_pwr s _]
@[simp] theorem evfRise_pwr (s : State) (i : Nat) : (evfRise s i).pwr = s.pwr := by
  unfold evfRise; split <;> [(split <;> [rfl; exact sendEvent_pwr s]); rfl]
@[simp] theorem evfWatch_pwr (p : Nat) (s s' : State) : (evfWatch p s s').pwr = s'.pwr := by
  unfold evfWatch; split <;> [(split <;> [exact evfRise_pwr s' _; rfl]); rfl]
@[simp] theorem raiseBits_pwr (s : State) (p : Nat) (m : Word) : (raiseBits s p m).pwr = s.pwr :=
  evfWatch_pwr p s _
@[simp] theorem raise_pwr (s : State) (f : Fld) : (raise s f).pwr = s.pwr := raiseBits_pwr s _ _
@[simp] theorem raiseAt_pwr (s : State) (f : Fld) (i : Nat) : (raiseAt s f i).pwr = s.pwr := raiseBits_pwr s _ _
@[simp] theorem sendEvent_clk (s : State) : (sendEvent s).clk = s.clk := by
  unfold sendEvent; dsimp only; split <;> [(split <;> rfl); exact bump_clk s _]
@[simp] theorem evfRise_clk (s : State) (i : Nat) : (evfRise s i).clk = s.clk := by
  unfold evfRise; split <;> [(split <;> [rfl; exact sendEvent_clk s]); rfl]
@[simp] theorem evfWatch_clk (p : Nat) (s s' : State) : (evfWatch p s s').clk = s'.clk := by
  unfold evfWatch; split <;> [(split <;> [exact evfRise_clk s' _; rfl]); rfl]
@[simp] theorem raiseBits_clk (s : State) (p : Nat) (m : Word) : (raiseBits s p m).clk = s.clk :=
  evfWatch_clk p s _
@[simp] theorem raise_clk (s : State) (f : Fld) : (raise s f).clk = s.clk := raiseBits_clk s _ _
@[simp] theorem raiseAt_clk (s : State) (f : Fld) (i : Nat) : (raiseAt s f i).clk = s.clk := raiseBits_clk s _ _
@[simp] theorem sendEvent_mon (s : State) : (sendEvent s).mon = s.mon := by
  unfold sendEvent; dsimp only; split <;> [(split <;> rfl); exact bump_mon s _]
@[simp] theorem evfRise_mon (s : State) (i : Nat) : (evfRise s i).mon = s.mon := by
  unfold evfRise; split <;> [(split <;> [rfl; exact sendEvent_mon s]); rfl]
@[simp] theorem evfWatch_mon (p : Nat) (s s' : State) : (evfWatch p s s').mon = s'.mon := by
  unfold evfWatch; split <;> [(split <;> [exact evfRise_mon s' _; rfl]); rfl]
@[simp] theorem raiseBits_mon (s : State) (p : Nat) (m : Word) : (raiseBits s p m).mon = s.mon :=
  evfWatch_mon p s _
@[simp] theorem raise_mon (s : State) (f : Fld) : (raise s f).mon = s.mon := raiseBits_mon s _ _
@[simp] theorem raiseAt_mon (s : State) (f : Fld) (i : Nat) : (raiseAt s f i).mon = s.mon := raiseBits_mon s _ _
@[simp] theorem sendEvent_tdc (s : State) : (sendEvent s).tdc = s.tdc := by
  unfold sendEvent; dsimp only; split <;> [(split <;> rfl); exact bump_tdc s _]
@[simp] theorem evfRise_tdc (s : State) (i : Nat) : (evfRise s i).tdc = s.tdc := by
  unfold evfRise; split <;> [(split <;> [rfl; exact sendEvent_tdc s]); rfl]
@[simp] theorem evfWatch_tdc (p : Nat) (s s' : State) : (evfWatch p s s').tdc = s'.tdc := by
  unfold evfWatch; split <;> [(split <;> [exact evfRise_tdc s' _; rfl]); rfl]
@[simp] theorem raiseBits_tdc (s : State) (p : Nat) (m : Word) : (raiseBits s p m).tdc = s.tdc :=
  evfWatch_tdc p s _
@[simp] theorem raise_tdc (s : State) (f : Fld) : (raise s f).tdc = s.tdc := raiseBits_tdc s _ _
@[simp] theorem raiseAt_tdc (s : State) (f : Fld) (i : Nat) : (raiseAt s f i).tdc = s.tdc := raiseBits_tdc s _ _
@[simp] theorem sendEvent_fct (s : State) : (sendEvent s).fct = s.fct := by
  unfold sendEvent; dsimp only; split <;> [(split <;> rfl); exact bump_fct s _]
@[simp] theorem evfRise_fct (s : State) (i : Nat) : (evfRise s i).fct = s.fct := by
  unfold evfRise; split <;> [(split <;> [rfl; exact sendEvent_fct s]); rfl]
@[simp] theorem evfWatch_fct (p : Nat) (s s' : State) : (evfWatch p s s').fct = s'.fct := by
  unfold evfWatch; split <;> [(split <;> [exact evfRise_fct s' _; rfl]); rfl]
@[simp] theorem raiseBits_fct (s : State) (p : Nat) (m : Word) : (raiseBits s p m).fct = s.fct :=
  evfWatch_fct p s _
@[simp] theorem raise_fct (s : State) (f : Fld) : (raise s f).fct = s.fct := raiseBits_fct s _ _
@[simp] theorem raiseAt_fct (s : State) (f : Fld) (i : Nat) : (raiseAt s f i).fct = s.fct := raiseBits_fct s _ _
@[simp] theorem sendEvent_esc (s : State) : (sendEvent s).esc = s.esc := by
  unfold sendEvent; dsimp only; split <;> [(split <;> rfl); exact bump_esc s _]
@[simp] theorem evfRise_esc (s : State) (i : Nat) : (evfRise s i).esc = s.esc := by
  unfold evfRise; split <;> [(split <;> [rfl; exact sendEvent_esc s]); rfl]
@[simp] theorem evfWatch_esc (p : Nat) (s s' : State) : (evfWatch p s s').esc = s'.esc := by
  unfold evfWatch; split <;> [(split <;> [exact evfRise_esc s' _; rfl]); rfl]
@[simp] theorem raiseBits_esc (s : State) (p : Nat) (m : Word) : (raiseBits s p m).esc = s.esc :=
  evfWatch_esc p s _
@[simp] theorem raise_esc (s : State) (f : Fld) : (raise s f).esc = s.esc := raiseBits_esc s _ _
@[simp] theorem raiseAt_esc (s : State) (f : Fld) (i : Nat) : (raiseAt s f i).esc = s.esc := raiseBits_esc s _ _
@[simp] theorem sendEvent_vat (s : State) : (sendEvent s).vat = s.vat := by
  unfold sendEvent; dsimp only; split <;> [(split <;> rfl); exact bump_vat s _]
@[simp] theorem evfRise_vat (s : State) (i : Nat) : (evfRise s i).vat = s.vat := by
  unfold evfRise; split <;> [(split <;> [rfl; exact sendEvent_vat s]); rfl]
@[simp] theorem evfWatch_vat (p : Nat) (s s' : State) : (evfWatch p s s').vat = s'.vat := by
  unfold evfWatch; split <;> [(split <;> [exact evfRise_vat s' _; rfl]); rfl]
@[simp] theorem raiseBits_vat (s : State) (p : Nat) (m : Word) : (raiseBits s p m).vat = s.vat :=
  evfWatch_vat p s _
@[simp] theorem raise_vat (s : State) (f : Fld) : (raise s f).vat = s.vat := raiseBits_vat s _ _
@[simp] theorem raiseAt_vat (s : State) (f : Fld) (i : Nat) : (raiseAt s f i).vat = s.vat := raiseBits_vat s _ _
@[simp] theorem sendEvent_ntm (s : State) : (sendEvent s).ntm = s.ntm := by
  unfold sendEvent; dsimp only; split <;> [(split <;> rfl); exact bump_ntm s _]
@[simp] theorem evfRise_ntm (s : State) (i : Nat) : (evfRise s i).ntm = s.ntm := by
  unfold evfRise; split <;> [(split <;> [rfl; exact sendEvent_ntm s]); rfl]
@[simp] theorem evfWatch_ntm (p : Nat) (s s' : State) : (evfWatch p s s').ntm = s'.ntm := by
  unfold evfWatch; split <;> [(split <;> [exact evfRise_ntm s' _; rfl]); rfl]
@[simp] theorem raiseBits_ntm (s : State) (p : Nat) (m : Word) : (raiseBits s p m).ntm = s.ntm :=
  evfWatch_ntm p s _
@[simp] theorem raise_ntm (s : State) (f : Fld) : (raise s f).ntm = s.ntm := raiseBits_ntm s _ _
@[simp] theorem raiseAt_ntm (s : State) (f : Fld) (i : Nat) : (raiseAt s f i).ntm = s.ntm := raiseBits_ntm s _ _
@[simp] theorem sendEvent_ctl (s : State) : (sendEvent s).ctl = s.ctl := by
  unfold sendEvent; dsimp only; split <;> [(split <;> rfl); exact bump_ctl s _]
@[simp] theorem evfRise_ctl (s : State) (i : Nat) : (evfRise s i).ctl = s.ctl := by
  unfold evfRise; split <;> [(split <;> [rfl; exact sendEvent_ctl s]); rfl]
@[simp] theorem evfWatch_ctl (p : Nat) (s s' : State) : (evfWatch p s s').ctl = s'.ctl := by
  unfold evfWatch; split <;> [(split <;> [exact evfRise_ctl s' _; rfl]); rfl]
@[simp] theorem raiseBits_ctl (s : State) (p : Nat) (m : Word) : (raiseBits s p m).ctl = s.ctl :=
  evfWatch_ctl p s _
@[simp] theorem raise_ctl (s : State) (f : Fld) : (raise s f).ctl = s.ctl := raiseBits_ctl s _ _
@[simp] theorem raiseAt_ctl (s : State) (f : Fld) (i : Nat) : (raiseAt s f i).ctl = s.ctl := raiseBits_ctl s _ _
@[simp] theorem sendEvent_sdf (s : State) : (sendEvent s).sdf = s.sdf := by
  unfold sendEvent; dsimp only; split <;> [(split <;> rfl); exact bump_sdf s _]
@[simp] theorem evfRise_sdf (s : State) (i : Nat) : (evfRise s i).sdf = s.sdf := by
  unfold evfRise; split <;> [(split <;> [rfl; exact sendEvent_sdf s]); rfl]
@[simp] theorem evfWatch_sdf (p : Nat) (s s' : State) : (evfWatch p s s').sdf = s'.sdf := by
  unfold evfWatch; split <;> [(split <;> [exact evfRise_sdf s' _; rfl]); rfl]
@[simp] theorem raiseBits_sdf (s : State) (p : Nat) (m : Word) : (raiseBits s p m).sdf = s.sdf :=
  evfWatch_sdf p s _
@[simp] theorem raise_sdf (s : State) (f : Fld) : (raise s f).sdf = s.sdf := raiseBits_sdf s _ _
@[simp] theorem raiseAt_sdf (s : State) (f : Fld) (i : Nat) : (raiseAt s f i).sdf = s.sdf := raiseBits_sdf s _ _
@[simp] theorem sendEvent_saf (s : State) : (sendEvent s).saf = s.saf := by
  unfold sendEvent; dsimp only; split <;> [(split <;> rfl); exact bump_saf s _]
@[simp] theorem evfRise_saf (s : State) (i : Nat) : (evfRise s i).saf = s.saf := by
  unfold evfRise; split <;> [(split <;> [rfl; exact sendEvent_saf s]); rfl]
@[simp] theorem evfWatch_saf (p : Nat) (s s' : State) : (evfWatch p s s').saf = s'.saf := by
  unfold evfWatch; split <;> [(split <;> [exact evfRise_saf s' _; rfl]); rfl]
@[simp] theorem raiseBits_saf (s : State) (p : Nat) (m : Word) : (raiseBits s p m).saf = s.saf :=
  evfWatch_saf p s _
@[simp] theorem raise_saf (s : State) (f : Fld) : (raise s f).saf = s.saf := raiseBits_saf s _ _
@[simp] theorem raiseAt_saf (s : State) (f : Fld) (i : Nat) : (raiseAt s f i).saf = s.saf := raiseBits_saf s _ _
@[simp] theorem sendEvent_acq (s : State) : (sendEvent s).acq = s.acq := by
  unfold sendEvent; dsimp only; split <;> [(split <;> rfl); exact bump_acq s _]
@[simp] theorem evfRise_acq (s : State) (i : Nat) : (evfRise s i).acq = s.acq := by
  unfold evfRise; split <;> [(split <;> [rfl; exact sendEvent_acq s]); rfl]
@[simp] theorem evfWatch_acq (p : Nat) (s s' : State) : (evfWatch p s s').acq = s'.acq := by
  unfold evfWatch; split <;> [(split <;> [exact evfRise_acq s' _; rfl]); rfl]
@[simp] theorem raiseBits_acq (s : State) (p : Nat) (m : Word) : (raiseBits s p m).acq = s.acq :=
  evfWatch_acq p s _
@[simp] theorem raise_acq (s : State) (f : Fld) : (raise s f).acq = s.acq := raiseBits_acq s _ _
@[simp] theorem raiseAt_acq (s : State) (f : Fld) (i : Nat) : (raiseAt s f i).acq = s.acq := raiseBits_acq s _ _
@[simp] theorem sendEvent_stq (s : State) : (sendEvent s).stq = s.stq := by
  unfold sendEvent; dsimp only; split <;> [(split <;> rfl); exact bump_stq s _]
@[simp] theorem evfRise_stq (s : State) (i : Nat) : (evfRise s i).stq = s.stq := by
  unfold evfRise; split <;> [(split <;> [rfl; exact sendEvent_stq s]); rfl]
@[simp] theorem evfWatch_stq (p : Nat) (s s' : State) : (evfWatch p s s').stq = s'.stq := by
  unfold evfWatch; split <;> [(split <;> [exact evfRise_stq s' _; rfl]); rfl]
@[simp] theorem raiseBits_stq (s : State) (p : Nat) (m : Word) : (raiseBits s p m).stq = s.stq :=
  evfWatch_stq p s _
@[simp] theorem raise_stq (s : State) (f : Fld) : (raise s f).stq = s.stq := raiseBits_stq s _ _
@[simp] theorem raiseAt_stq (s : State) (f : Fld) (i : Nat) : (raiseAt s f i).stq = s.stq := raiseBits_stq s _ _
@[simp] theorem sendEvent_vid (s : State) : (sendEvent s).vid = s.vid := by
  unfold sendEvent; dsimp only; split <;> [(split <;> rfl); exact bump_vid s _]
@[simp] theorem evfRise_vid (s : State) (i : Nat) : (evfRise s i).vid = s.vid := by
  unfold evfRise; split <;> [(split <;> [rfl; exact sendEvent_vid s]); rfl]
@[simp] theorem evfWatch_vid (p : Nat) (s s' : State) : (evfWatch p s s').vid = s'.vid := by
  unfold evfWatch; split <;> [(split <;> [exact evfRise_vid s' _; rfl]); rfl]
@[simp] theorem raiseBits_vid (s : State) (p : Nat) (m : Word) : (raiseBits s p m).vid = s.vid :=
  evfWatch_vid p s _
@[simp] theorem raise_vid (s : State) (f : Fld) : (raise s f).vid = s.vid := raiseBits_vid s _ _
@[simp] theorem raiseAt_vid (s : State) (f : Fld) (i : Nat) : (raiseAt s f i).vid = s.vid := raiseBits_vid s _ _
@[simp] theorem sendEvent_lmp (s : State) : (sendEvent s).lmp = s.lmp := by
  unfold sendEvent; dsimp only; split <;> [(split <;> rfl); exact bump_lmp s _]
@[simp] theorem evfRise_lmp (s : State) (i : Nat) : (evfRise s i).lmp = s.lmp := by
  unfold evfRise; split <;> [(split <;> [rfl; exact sendEvent_lmp s]); rfl]
@[simp] theorem evfWatch_lmp (p : Nat) (s s' : State) : (evfWatch p s s').lmp = s'.lmp := by
  unfold evfWatch; split <;> [(split <;> [exact evfRise_lmp s' _; rfl]); rfl]
@[simp] theorem raiseBits_lmp (s : State) (p : Nat) (m : Word) : (raiseBits s p m).lmp = s.lmp :=
  evfWatch_lmp p s _
@[simp] theorem raise_lmp (s : State) (f : Fld) : (raise s f).lmp = s.lmp := raiseBits_lmp s _ _
@[simp] theorem raiseAt_lmp (s : State) (f : Fld) (i : Nat) : (raiseAt s f i).lmp = s.lmp := raiseBits_lmp s _ _
@[simp] theorem sendEvent_pair (s : State) : (sendEvent s).pair = s.pair := by
  unfold sendEvent; dsimp only; split <;> [(split <;> rfl); exact bump_pair s _]
@[simp] theorem evfRise_pair (s : State) (i : Nat) : (evfRise s i).pair = s.pair := by
  unfold evfRise; split <;> [(split <;> [rfl; exact sendEvent_pair s]); rfl]
@[simp] theorem evfWatch_pair (p : Nat) (s s' : State) : (evfWatch p s s').pair = s'.pair := by
  unfold evfWatch; split <;> [(split <;> [exact evfRise_pair s' _; rfl]); rfl]
@[simp] theorem raiseBits_pair (s : State) (p : Nat) (m : Word) : (raiseBits s p m).pair = s.pair :=
  evfWatch_pair p s _
@[simp] theorem raise_pair (s : State) (f : Fld) : (raise s f).pair = s.pair := raiseBits_pair s _ _
@[simp] theorem raiseAt_pair (s : State) (f : Fld) (i : Nat) : (raiseAt s f i).pair = s.pair := raiseBits_pair s _ _
@[simp] theorem sendEvent_eth (s : State) : (sendEvent s).eth = s.eth := by
  unfold sendEvent; dsimp only; split <;> [(split <;> rfl); exact bump_eth s _]
@[simp] theorem evfRise_eth (s : State) (i : Nat) : (evfRise s i).eth = s.eth := by
  unfold evfRise; split <;> [(split <;> [rfl; exact sendEvent_eth s]); rfl]
@[simp] theorem evfWatch_eth (p : Nat) (s s' : State) : (evfWatch p s s').eth = s'.eth := by
  unfold evfWatch; split <;> [(split <;> [exact evfRise_eth s' _; rfl]); rfl]
@[simp] theorem raiseBits_eth (s : State) (p : Nat) (m : Word) : (raiseBits s p m).eth = s.eth :=
  evfWatch_eth p s _
@[simp] theorem raise_eth (s : State) (f : Fld) : (raise s f).eth = s.eth := raiseBits_eth s _ _
@[simp] theorem raiseAt_eth (s : State) (f : Fld) (i : Nat) : (raiseAt s f i).eth = s.eth := raiseBits_eth s _ _
@[simp] theorem sendEvent_pln (s : State) : (sendEvent s).pln = s.pln := by
  unfold sendEvent; dsimp only; split <;> [(split <;> rfl); exact bump_pln s _]
@[simp] theorem evfRise_pln (s : State) (i : Nat) : (evfRise s i).pln = s.pln := by
  unfold evfRise; split <;> [(split <;> [rfl; exact sendEvent_pln s]); rfl]
@[simp] theorem evfWatch_pln (p : Nat) (s s' : State) : (evfWatch p s s').pln = s'.pln := by
  unfold evfWatch; split <;> [(split <;> [exact evfRise_pln s' _; rfl]); rfl]
@[simp] theorem raiseBits_pln (s : State) (p : Nat) (m : Word) : (raiseBits s p m).pln = s.pln :=
  evfWatch_pln p s _
@[simp] theorem raise_pln (s : State) (f : Fld) : (raise s f).pln = s.pln := raiseBits_pln s _ _
@[simp] theorem raiseAt_pln (s : State) (f : Fld) (i : Nat) : (raiseAt s f i).pln = s.pln := raiseBits_pln s _ _
@[simp] theorem sendEvent_hka (s : State) : (sendEvent s).hka = s.hka := by
  unfold sendEvent; dsimp only; split <;> [(split <;> rfl); exact bump_hka s _]
@[simp] theorem evfRise_hka (s : State) (i : Nat) : (evfRise s i).hka = s.hka := by
  unfold evfRise; split <;> [(split <;> [rfl; exact sendEvent_hka s]); rfl]
@[simp] theorem evfWatch_hka (p : Nat) (s s' : State) : (evfWatch p s s').hka = s'.hka := by
  unfold evfWatch; split <;> [(split <;> [exact evfRise_hka s' _; rfl]); rfl]
@[simp] theorem raiseBits_hka (s : State) (p : Nat) (m : Word) : (raiseBits s p m).hka = s.hka :=
  evfWatch_hka p s _
@[simp] theorem raise_hka (s : State) (f : Fld) : (raise s f).hka = s.hka := raiseBits_hka s _ _
@[simp] theorem raiseAt_hka (s : State) (f : Fld) (i : Nat) : (raiseAt s f i).hka = s.hka := raiseBits_hka s _ _
@[simp] theorem sendEvent_thm (s : State) : (sendEvent s).thm = s.thm := by
  unfold sendEvent; dsimp only; split <;> [(split <;> rfl); exact bump_thm s _]
@[simp] theorem evfRise_thm (s : State) (i : Nat) : (evfRise s i).thm = s.thm := by
  unfold evfRise; split <;> [(split <;> [rfl; exact sendEvent_thm s]); rfl]
@[simp] theorem evfWatch_thm (p : Nat) (s s' : State) : (evfWatch p s s').thm = s'.thm := by
  unfold evfWatch; split <;> [(split <;> [exact evfRise_thm s' _; rfl]); rfl]
@[simp] theorem raiseBits_thm (s : State) (p : Nat) (m : Word) : (raiseBits s p m).thm = s.thm :=
  evfWatch_thm p s _
@[simp] theorem raise_thm (s : State) (f : Fld) : (raise s f).thm = s.thm := raiseBits_thm s _ _
@[simp] theorem raiseAt_thm (s : State) (f : Fld) (i : Nat) : (raiseAt s f i).thm = s.thm := raiseBits_thm s _ _
@[simp] theorem sendEvent_cal (s : State) : (sendEvent s).cal = s.cal := by
  unfold sendEvent; dsimp only; split <;> [(split <;> rfl); exact bump_cal s _]
@[simp] theorem evfRise_cal (s : State) (i : Nat) : (evfRise s i).cal = s.cal := by
  unfold evfRise; split <;> [(split <;> [rfl; exact sendEvent_cal s]); rfl]
@[simp] theorem evfWatch_cal (p : Nat) (s s' : State) : (evfWatch p s s').cal = s'.cal := by
  unfold evfWatch; split <;> [(split <;> [exact evfRise_cal s' _; rfl]); rfl]
@[simp] theorem raiseBits_cal (s : State) (p : Nat) (m : Word) : (raiseBits s p m).cal = s.cal :=
  evfWatch_cal p s _
@[simp] theorem raise_cal (s : State) (f : Fld) : (raise s f).cal = s.cal := raiseBits_cal s _ _
@[simp] theorem raiseAt_cal (s : State) (f : Fld) (i : Nat) : (raiseAt s f i).cal = s.cal := raiseBits_cal s _ _
@[simp] theorem sendEvent_sram (s : State) : (sendEvent s).sram = s.sram := by
  unfold sendEvent; dsimp only; split <;> [(split <;> rfl); exact bump_sram s _]
@[simp] theorem evfRise_sram (s : State) (i : Nat) : (evfRise s i).sram = s.sram := by
  unfold evfRise; split <;> [(split <;> [rfl; exact sendEvent_sram s]); rfl]
@[simp] theorem evfWatch_sram (p : Nat) (s s' : State) : (evfWatch p s s').sram = s'.sram := by
  unfold evfWatch; split <;> [(split <;> [exact evfRise_sram s' _; rfl]); rfl]
@[simp] theorem raiseBits_sram (s : State) (p : Nat) (m : Word) : (raiseBits s p m).sram = s.sram :=
  evfWatch_sram p s _
@[simp] theorem raise_sram (s : State) (f : Fld) : (raise s f).sram = s.sram := raiseBits_sram s _ _
@[simp] theorem raiseAt_sram (s : State) (f : Fld) (i : Nat) : (raiseAt s f i).sram = s.sram := raiseBits_sram s _ _
@[simp] theorem sendEvent_calstore (s : State) : (sendEvent s).calstore = s.calstore := by
  unfold sendEvent; dsimp only; split <;> [(split <;> rfl); exact bump_calstore s _]
@[simp] theorem evfRise_calstore (s : State) (i : Nat) : (evfRise s i).calstore = s.calstore := by
  unfold evfRise; split <;> [(split <;> [rfl; exact sendEvent_calstore s]); rfl]
@[simp] theorem evfWatch_calstore (p : Nat) (s s' : State) : (evfWatch p s s').calstore = s'.calstore := by
  unfold evfWatch; split <;> [(split <;> [exact evfRise_calstore s' _; rfl]); rfl]
@[simp] theorem raiseBits_calstore (s : State) (p : Nat) (m : Word) : (raiseBits s p m).calstore = s.calstore :=
  evfWatch_calstore p s _
@[simp] theorem raise_calstore (s : State) (f : Fld) : (raise s f).calstore = s.calstore := raiseBits_calstore s _ _
@[simp] theorem raiseAt_calstore (s : State) (f : Fld) (i : Nat) : (raiseAt s f i).calstore = s.calstore := raiseBits_calstore s _ _

end Sys2Proof.Machine
end

