-- ==== Sys2Proof/Laws/Events.lean ====
section
/-!
SUPPORT. What the operations on time, counters, events and error codes do to the registers.
-/

namespace Sys2Proof.Machine

/-! ## Operations that leave the registers -/

/-- A register depends on the registers of the state alone. -/
theorem reg_congr {s s' : State} (h : s'.regs = s.regs) (a : Nat) : reg s' a = reg s a := by simp [reg, h]

@[simp] theorem reg_at' (t : Nat) (s : State) (a : Nat) : reg (at' t s) a = reg s a := rfl
@[simp] theorem rd_at' (t : Nat) (s : State) (f : Fld) : rd (at' t s) f = rd s f := rfl
@[simp] theorem flag_at' (t : Nat) (s : State) (f : Fld) : flag (at' t s) f = flag s f := rfl
@[simp] theorem rdBit_at' (t : Nat) (s : State) (a i : Nat) : rdBit (at' t s) a i = rdBit s a i := rfl
@[simp] theorem awake_at' (t : Nat) (s : State) : awake (at' t s) = awake s := rfl
@[simp] theorem sysOn_at' (t : Nat) (s : State) : sysOn (at' t s) = sysOn s := rfl
@[simp] theorem running_at' (t : Nat) (s : State) : running (at' t s) = running s := rfl
@[simp] theorem pstate_at' (t : Nat) (s : State) : pstate (at' t s) = pstate s := rfl
@[simp] theorem now_at' (t : Nat) (s : State) : (at' t s).now = max s.now t := rfl
@[simp] theorem reg_queueFrame (s : State) (b : Nat) (f : LinkFrame) (a : Nat) : reg (queueFrame s b f) a = reg s a := rfl
@[simp] theorem reg_setBundle (s : State) (b : Nat) (x : Bundle) (a : Nat) : reg (setBundle s b x) a = reg s a := rfl
@[simp] theorem reg_onBundle (s : State) (b : Nat) (f : Bundle → Bundle) (a : Nat) : reg (onBundle s b f) a = reg s a := rfl

/-! ## Counters -/

/-- A counter advanced leaves every register but itself and its OVF word. -/
theorem reg_bumpBy_other (s : State) (a n b : Nat) (h : b ≠ a) (h' : b ≠ a + 4) : reg (bumpBy s a n) b = reg s b := by
  unfold bumpBy
  split
  · exact reg_setReg_other _ _ _ _ h
  · split
    · rfl
    · rw [reg_setReg_other _ _ _ _ h', reg_setReg_other _ _ _ _ h]

theorem reg_bump_other (s : State) (a b : Nat) (h : b ≠ a) (h' : b ≠ a + 4) : reg (bump s a) b = reg s b :=
  reg_bumpBy_other s a 1 b h h'

/-- A counter below its top counts up by one. -/
theorem reg_bump_same (s : State) (a : Nat) (h : (reg s a).toNat + 1 < 0xFFFFFFFF) :
    reg (bump s a) a = word ((reg s a).toNat + 1) := by
  simp [bump, bumpBy, h]

/-- A counter saturates (02 R58). -/
theorem reg_bump_toNat (s : State) (a : Nat) : (reg (bump s a) a).toNat = min ((reg s a).toNat + 1) 0xFFFFFFFF := by
  have := (reg s a).isLt
  unfold bump bumpBy
  split
  · simp only [reg_setReg_same, word, BitVec.toNat_ofNat]
    omega
  · simp only [Nat.one_ne_zero, if_false]
    rw [reg_setReg_other _ _ _ _ (by omega), reg_setReg_same]
    simp
    omega

/-! ## Events -/

/-- The registers that an event may write beside its EVT_RAW: EVF_DROPPED and its OVF word (02 R57). -/
def evfReg (a : Nat) : Prop := a = A.IRQ_EVF_DROPPED ∨ a = A.IRQ_EVF_DROPPED + 4

theorem reg_sendEvent (s : State) (a : Nat) (h : ¬ evfReg a) : reg (sendEvent s) a = reg s a := by
  unfold evfReg at h
  rw [not_or] at h
  unfold sendEvent
  dsimp only
  split
  · split <;> rfl
  · exact reg_bump_other _ _ _ h.1 h.2

/-- On a trained bundle an EVENT frame joins the frames that wait there (02 R57; 09 R260). -/
theorem sendEvent_up (s : State) (b : Nat) (hb : rd s F.IRQ_EVF_CFG_BUNDLE = b) (hu : bundleUp s b = true) :
    ∃ body, pget [] (sendEvent s).wnb.tx b = pget [] s.wnb.tx b ++ [(⟨5, 0, 0, 20, body⟩, s.now)] := by
  unfold sendEvent
  simp only [hb, hu, if_true]
  refine ⟨(List.range 4).map (summaryWord s) ++ [word (bundle s b).events], ?_⟩
  split <;> simp [queueFrame, onBundle, setBundle, pget_pset_same]

theorem reg_evfRise (s : State) (i a : Nat) (h : ¬ evfReg a) : reg (evfRise s i) a = reg s a := by
  unfold evfRise
  split
  · split
    · rfl
    · exact reg_sendEvent s a h
  · rfl

theorem reg_evfWatch (p : Nat) (s s' : State) (a : Nat) (h : ¬ evfReg a) : reg (evfWatch p s s') a = reg s' a := by
  unfold evfWatch
  split
  · split
    · exact reg_evfRise _ _ a h
    · rfl
  · rfl

/-- Event bits set in EVT_RAW; no register changes beside it but the count of dropped EVENT frames. -/
theorem reg_raiseBits (s : State) (p : Nat) (m : Word) (a : Nat) (h : ¬ evfReg a) :
    reg (raiseBits s p m) a = if a = p + 0x10 then reg s a ||| m else reg s a := by
  unfold raiseBits
  rw [reg_evfWatch _ _ _ _ h, reg_setReg]
  split
  · next e => rw [e]
  · rfl

/-- An event leaves every register that is not its own EVT_RAW. -/
theorem reg_raise_other (s : State) (f : Fld) (a : Nat) (h : ¬ evfReg a) (h2 : a ≠ f.addr - 0x10 + 0x10) :
    reg (raise s f) a = reg s a := by
  unfold raise
  rw [reg_raiseBits _ _ _ _ h, if_neg h2]

theorem reg_raiseAt_other (s : State) (f : Fld) (i a : Nat) (h : ¬ evfReg a) (h2 : a ≠ f.addr - 0x10 + 0x10) :
    reg (raiseAt s f i) a = reg s a := by
  unfold raiseAt
  rw [reg_raiseBits _ _ _ _ h, if_neg h2]

/-- An event sets its bit. -/
theorem flag_raise (s : State) (f : Fld) (h : ¬ evfReg f.addr) (ha : 0x10 ≤ f.addr) (hl : f.len = 1) (hb : f.lo < 32) :
    flag (raise s f) f = true := by
  have e : f.addr = f.addr - 0x10 + 0x10 := by omega
  have : rd (raise s f) f = 1 := by
    unfold rd raise
    rw [reg_raiseBits _ _ _ _ h, if_pos e]
    apply Nat.eq_of_testBit_eq
    intro i
    rw [testBit_fld, hl]
    have e1 : Nat.testBit 1 i = decide (i = 0) := by cases i <;> simp [Nat.testBit_succ]
    have e2 : (2 ^ f.lo % 4294967296).testBit f.lo = true := by
      rw [Nat.mod_eq_of_lt (Nat.pow_lt_pow_right (by omega) hb : 2 ^ f.lo < 2 ^ 32), Nat.testBit_two_pow_self]
    rw [e1]
    by_cases hi : i = 0
    · subst hi
      simp [word, e2]
    · simp [hi]
  simp [flag, this]

/-! ## Error codes -/

/-- The first error of a page is kept with its offset and code (02 R40). -/
theorem reg_recErr_first (s : State) (p off code : Nat) (h : fld (reg s (p + 0x28)) 0 8 = 0) :
    reg (recErr s p off code) (p + 0x28) = word (code + off % 2 ^ 12 * 2 ^ 8) := by
  simp [recErr, h]

theorem reg_recErr_other (s : State) (p off code a : Nat) (h : a ≠ p + 0x28) : reg (recErr s p off code) a = reg s a := by
  unfold recErr
  split <;> exact reg_setReg_other _ _ _ _ h

end Sys2Proof.Machine
end

