-- ==== Sys2Proof/Laws/Bus.lean ====
section
/-!
SUPPORT. What one access of the register bus does: the shared operations of Access.lean, said once.
-/

namespace Sys2Proof.Machine

/-! ## Operations that leave the registers -/

@[simp] theorem reg_busShow (w : Word) (n : Nat) (s : State) (a : Nat) : reg (busShow w n s) a = reg s a := rfl
@[simp] theorem reg_latchDrop (s : State) (r : Requester) (k a : Nat) : reg (latchDrop s r k) a = reg s a := rfl
@[simp] theorem busShow_lastErr (w : Word) (n : Nat) (s : State) : (busShow w n s).bus.lastErr = n := rfl
@[simp] theorem busShow_lastRead (w : Word) (n : Nat) (s : State) : (busShow w n s).bus.lastRead = w := rfl

theorem reg_lcAfter (p : Nat) (k : Bool) (s : State) (a : Nat) : reg (lcAfter p k s) a = reg s a := by
  unfold lcAfter lcDisarm
  split <;> rfl

/-- Off the PWR page an access leaves the life-cycle request. -/
theorem lcAfter_off (p : Nat) (k : Bool) (s : State) (h : p ≠ 0x2000) : lcAfter p k s = s := by simp [lcAfter, h]

/-- An access counts in the LOCK of its page and in no other register. -/
theorem reg_lockCount (p : Nat) (s : State) (a : Nat) (h : a ≠ p + 0x2C) : reg (lockCount p s) a = reg s a := by
  unfold lockCount
  dsimp only
  split
  · exact reg_setReg_other _ _ _ _ h
  · rfl

/-- A page whose LOCK is closed counts nothing. -/
theorem lockCount_closed (p : Nat) (s : State) (h : bit (reg s (p + 0x2C)) 31 = false) : lockCount p s = s := by
  simp [lockCount, h]

/-! ## Earlier accesses -/

/-- With no access waiting, a new one is the requester's first. -/
theorem drain_idle (r : Requester) (s : State) (h1 : s.bus.slow = []) (h2 : s.bus.posted = []) : drain r s = s := by
  unfold drain
  cases (2 * s.bus.posted.length + s.bus.slow.length + 257) with
  | zero => rfl
  | succ n => simp [drainSteps, h1, h2]

theorem busWait_idle (s : State) (h : flag s F.PMON_CTRL_ENABLE = false) : busWait s = s := by simp [busWait, h]

/-- With nothing of acquisition or power that waits, an access settles nothing (07 R183, 20 R498). -/
theorem acqSettle_settled (s : State) (h : Settled s) : acqSettle s = s := by simp [acqSettle, h.1, h.2]

/-! ## Writes -/

/-- A write of a register at an address that a page answers is the page's write, and shows its error code. -/
theorem accessW_page (t : Nat) (r : Requester) (a d p : Nat) (s : State) (hs : BusIdle s) (ha : busAddr a = a)
    (hw : windowed a = false) (hp : pageBase a = some p) (hc : clocked a (at' t s) = true) :
    accessW t r a d s =
      busShow (pageWrite p r a (word d) (at' t s)).2.bus.lastRead (pageWrite p r a (word d) (at' t s)).1
        (pageWrite p r a (word d) (at' t s)).2 := by
  obtain ⟨h1, h0, h2, h3, h4⟩ := hs
  unfold accessW writeNow
  rw [drain_idle r (at' t s) h2 h3, acqSettle_settled (at' t s) h0]
  unfold busWrite
  simp only [ha, at_held, h1, Bool.false_eq_true, if_false, busWait_idle (at' t s) h4, hw, hp, hc, Bool.not_true]

/-- A write that no check refuses does what R41 and the block's chapter say. -/
theorem pageWrite_accepted (p : Nat) (r : Requester) (a : Nat) (d : Word) (s : State) (l : RegLoc)
    (hl : findReg a = some l) (hlp : l.pbase = p) (hk : (hasHeader p && decide (a = p + 0x2C)) = false)
    (hs : (hasHeader p && decide (a = p + 8) && bit d 1) = false) (hn : wideLow a = none) (hh : heldWord a = false)
    (hc : writeCode l a d s s = 0) (hst : stays a d s = 0#32) :
    pageWrite p r a d s =
      (0, lcAfter p (decide (a = A.PWR_LC_KEY)) (latchDrop (lockCount p (writeDo l a d s s)) r a)) := by
  have hk' : ¬ (hasHeader p = true ∧ a = p + 0x2C) := by simpa using hk
  unfold pageWrite
  simp only [hl]
  unfold writeReg
  simp only [hlp, hk', if_false, hs, Bool.false_eq_true, lowerTaken, hn, hc, ne_eq, not_true_eq_false, hh, hst, Bool.and_true,
    decide_true]

/-- A write that no check refuses, of a register that is no part of a wide value, on a page off PWR. -/
theorem accessW_accepted (t : Nat) (r : Requester) (a d p : Nat) (s : State) (l : RegLoc) (hs : BusIdle s)
    (ha : busAddr a = a) (hw : windowed a = false) (hp : pageBase a = some p) (hc : clocked a (at' t s) = true)
    (hl : findReg a = some l) (hlp : l.pbase = p) (hk : (hasHeader p && decide (a = p + 0x2C)) = false)
    (hsr : (hasHeader p && decide (a = p + 8) && bit (word d) 1) = false) (hn : wideLow a = none)
    (hh : heldWord a = false) (hcode : writeCode l a (word d) (at' t s) (at' t s) = 0)
    (hst : stays a (word d) (at' t s) = 0#32) :
    accessW t r a d s = busShow (accessW t r a d s).bus.lastRead 0
      (lcAfter p (decide (a = A.PWR_LC_KEY)) (latchDrop (lockCount p (writeDo l a (word d) (at' t s) (at' t s))) r a)) := by
  rw [accessW_page t r a d p s hs ha hw hp hc, pageWrite_accepted p r a (word d) (at' t s) l hl hlp hk hsr hn hh hcode hst]
  rfl

/-- An accepted write leaves, in every register but the page's LOCK, what the write itself stores and does. -/
theorem accessW_reg (t : Nat) (r : Requester) (a d p b : Nat) (s : State) (l : RegLoc) (hs : BusIdle s)
    (ha : busAddr a = a) (hw : windowed a = false) (hp : pageBase a = some p) (hc : clocked a (at' t s) = true)
    (hl : findReg a = some l) (hlp : l.pbase = p) (hk : (hasHeader p && decide (a = p + 0x2C)) = false)
    (hsr : (hasHeader p && decide (a = p + 8) && bit (word d) 1) = false) (hn : wideLow a = none)
    (hh : heldWord a = false) (hcode : writeCode l a (word d) (at' t s) (at' t s) = 0)
    (hst : stays a (word d) (at' t s) = 0#32) (hb : b ≠ p + 0x2C) :
    reg (accessW t r a d s) b = reg (writeDo l a (word d) (at' t s) (at' t s)) b := by
  rw [accessW_accepted t r a d p s l hs ha hw hp hc hl hlp hk hsr hn hh hcode hst]
  rw [reg_busShow, reg_lcAfter, reg_latchDrop, reg_lockCount _ _ _ hb]

/-- A refused write is shown with its code (02 R40). -/
theorem accessW_refused (t : Nat) (r : Requester) (a d p : Nat) (s : State) (l : RegLoc) (hs : BusIdle s)
    (ha : busAddr a = a) (hw : windowed a = false) (hp : pageBase a = some p) (hc : clocked a (at' t s) = true)
    (hl : findReg a = some l) (hlp : l.pbase = p) (hk : (hasHeader p && decide (a = p + 0x2C)) = false)
    (hsr : (hasHeader p && decide (a = p + 8) && bit (word d) 1) = false) (hn : wideLow a = none)
    (hcode : writeCode l a (word d) (at' t s) (at' t s) ≠ 0) :
    (accessW t r a d s).bus.lastErr = writeCode l a (word d) (at' t s) (at' t s) := by
  have hk' : ¬ (hasHeader p = true ∧ a = p + 0x2C) := by simpa using hk
  rw [accessW_page t r a d p s hs ha hw hp hc]
  unfold pageWrite
  simp only [hl]
  unfold writeReg
  simp only [hlp, hk', if_false, hsr, Bool.false_eq_true, lowerTaken, hn, ne_eq, hcode, not_false_eq_true, if_true,
    busShow_lastErr]

/-- What the acceptance of a write says: the page answers and its write has no code. -/
theorem Accepts.elim {t : Nat} {r : Requester} {a d p : Nat} {s : State} (h : Accepts t r a d s) (ha : busAddr a = a)
    (hw : windowed a = false) (hp : pageBase a = some p) :
    BusIdle s ∧ clocked a (at' t s) = true ∧ (pageWrite p r a (word d) (at' t s)).1 = 0 := by
  obtain ⟨⟨h1, h0, h2, h3, h4⟩, hc⟩ := h
  refine ⟨⟨h1, h0, h2, h3, h4⟩, ?_⟩
  unfold busWrite at hc
  simp only [ha, at_held, h1, Bool.false_eq_true, if_false, busWait_idle (at' t s) h4, hw, hp] at hc
  cases hk : clocked a (at' t s) with
  | false => simp [hk] at hc
  | true => exact ⟨rfl, by simpa [hk] using hc⟩

/-- The code of a page's write of a register that is no part of a wide value and not the LOCK; 0x04 where some of its latches
stay set. -/
theorem pageWrite_code (p : Nat) (r : Requester) (a : Nat) (d : Word) (s : State) (l : RegLoc)
    (hl : findReg a = some l) (hlp : l.pbase = p) (hk : (hasHeader p && decide (a = p + 0x2C)) = false)
    (hs : (hasHeader p && decide (a = p + 8) && bit d 1) = false) (hn : wideLow a = none) :
    (pageWrite p r a d s).1 =
      if writeCode l a d s s ≠ 0 then writeCode l a d s s
      else if heldWord a = true ∨ stays a d s = 0#32 then 0 else 4 := by
  have hk' : ¬ (hasHeader p = true ∧ a = p + 0x2C) := by simpa using hk
  unfold pageWrite
  simp only [hl]
  unfold writeReg
  simp only [hlp, hk', if_false, hs, Bool.false_eq_true, lowerTaken, hn]
  by_cases hc : writeCode l a d s s = 0
  · by_cases hh : heldWord a = true <;> by_cases hst : stays a d s = 0#32 <;> simp [hc, hh, hst]
  · simp [hc]

/-- An accepted write of a register that is no part of a wide value. -/
theorem Accepts.write {t : Nat} {r : Requester} {a d p : Nat} {s : State} {l : RegLoc} (h : Accepts t r a d s)
    (ha : busAddr a = a) (hw : windowed a = false) (hp : pageBase a = some p) (hl : findReg a = some l)
    (hlp : l.pbase = p) (hk : (hasHeader p && decide (a = p + 0x2C)) = false)
    (hsr : (hasHeader p && decide (a = p + 8) && bit (word d) 1) = false) (hn : wideLow a = none)
    (hh : heldWord a = false) :
    accessW t r a d s = busShow (accessW t r a d s).bus.lastRead 0
      (lcAfter p (decide (a = A.PWR_LC_KEY)) (latchDrop (lockCount p (writeDo l a (word d) (at' t s) (at' t s))) r a)) := by
  obtain ⟨hs, hc, hcode⟩ := h.elim ha hw hp
  rw [pageWrite_code p r a (word d) (at' t s) l hl hlp hk hsr hn] at hcode
  by_cases h0 : writeCode l a (word d) (at' t s) (at' t s) = 0
  · by_cases hst : stays a (word d) (at' t s) = 0#32
    · exact accessW_accepted t r a d p s l hs ha hw hp hc hl hlp hk hsr hn hh h0 hst
    · simp [h0, hh, hst] at hcode
  · simp [h0] at hcode

/-- The registers after an accepted write, but for the page's LOCK. -/
theorem Accepts.write_reg {t : Nat} {r : Requester} {a d p b : Nat} {s : State} {l : RegLoc} (h : Accepts t r a d s)
    (ha : busAddr a = a) (hw : windowed a = false) (hp : pageBase a = some p) (hl : findReg a = some l)
    (hlp : l.pbase = p) (hk : (hasHeader p && decide (a = p + 0x2C)) = false)
    (hsr : (hasHeader p && decide (a = p + 8) && bit (word d) 1) = false) (hn : wideLow a = none)
    (hh : heldWord a = false) (hb : b ≠ p + 0x2C) :
    reg (accessW t r a d s) b = reg (writeDo l a (word d) (at' t s) (at' t s)) b := by
  rw [h.write ha hw hp hl hlp hk hsr hn hh, reg_busShow, reg_lcAfter, reg_latchDrop, reg_lockCount _ _ _ hb]

/-! ## The common header -/

theorem srcBase_header : ∀ i < 105, hasHeader (srcBase i) = true := by decide

theorem header_place : ∀ i < 105, ∀ o ∈ [0x08, 0x10, 0x14, 0x1C, 0x20, 0x24, 0x28, 0x2C],
    busAddr (srcBase i + o) = srcBase i + o ∧ windowed (srcBase i + o) = false ∧
      pageBase (srcBase i + o) = some (srcBase i) ∧ wideLow (srcBase i + o) = none ∧ heldWord (srcBase i + o) = false := by
  decide

theorem header_row : ∀ i < 105, ∀ o ∈ [0x08, 0x10, 0x14, 0x1C, 0x20, 0x28, 0x2C],
    ((findReg (srcBase i + o)).map fun l => l.pbase) = some (srcBase i) := by
  decide

/-- An accepted write of a register of the common header, LOCK and a soft reset apart. -/
theorem Accepts.header {t : Nat} {r : Requester} {i o d : Nat} {s : State} {l : RegLoc} (hi : i < 105)
    (ho : o ∈ [0x10, 0x14, 0x1C, 0x20, 0x28]) (h : Accepts t r (srcBase i + o) d s)
    (hl : findReg (srcBase i + o) = some l) :
    l.pbase = srcBase i ∧ accessW t r (srcBase i + o) d s = busShow (accessW t r (srcBase i + o) d s).bus.lastRead 0
      (lcAfter (srcBase i) (decide (srcBase i + o = A.PWR_LC_KEY))
        (latchDrop (lockCount (srcBase i) (writeDo l (srcBase i + o) (word d) (at' t s) (at' t s))) r (srcBase i + o))) := by
  have ho' : o ∈ [0x08, 0x10, 0x14, 0x1C, 0x20, 0x24, 0x28, 0x2C] := by fin_cases ho <;> decide
  have ho2 : o ∈ [0x08, 0x10, 0x14, 0x1C, 0x20, 0x28, 0x2C] := by fin_cases ho <;> decide
  obtain ⟨h1, h2, h3, h4, h5⟩ := header_place i hi o ho'
  have h6 := header_row i hi o ho2
  rw [hl] at h6
  have h7 : l.pbase = srcBase i := by simpa using h6
  have h8 : (hasHeader (srcBase i) && decide (srcBase i + o = srcBase i + 0x2C)) = false := by
    fin_cases ho <;> simp
  have h9 : (hasHeader (srcBase i) && decide (srcBase i + o = srcBase i + 8) && bit (word d) 1) = false := by
    fin_cases ho <;> simp
  exact ⟨h7, h.write h1 h2 h3 hl h7 h8 h9 h4 h5⟩

/-! ## Reads -/

/-- A read of a register at an address that a page answers is the page's read. -/
theorem access_page (t : Nat) (r : Requester) (a p : Nat) (s : State) (hs : BusIdle s) (ha : busAddr a = a)
    (hw : windowed a = false) (hp : pageBase a = some p) (hc : clocked a (at' t s) = true) :
    access t r a s = busShow (pageRead p r a (at' t s)).1 (pageRead p r a (at' t s)).2.1 (pageRead p r a (at' t s)).2.2 := by
  obtain ⟨h1, h0, h2, h3, h4⟩ := hs
  unfold access readNow
  rw [drain_idle r (at' t s) h2 h3, acqSettle_settled (at' t s) h0]
  unfold busRead
  simp only [ha, at_held, h1, Bool.false_eq_true, if_false, busWait_idle (at' t s) h4, hw, hp, hc, Bool.not_true]

end Sys2Proof.Machine
end

