-- ==== Sys2Proof/Laws/Keep.lean ====
section
/-!
SUPPORT. That an operation keeps the canonical form of the memories and legal fuses: how it is said, and how it composes.
-/

namespace Sys2Proof.Machine

set_option Elab.async false

/-- From `z` to `u` the memories keep their canonical form, and the fuses stay legal. -/
def Keeps3 (z : State) (m c : List Host.Cell) (p : Pwr) : Prop :=
  (Memory.wf z.sram = true → Memory.wf m = true) ∧ (Memory.wf z.calstore = true → Memory.wf c = true)
    ∧ (FusesLegal z → 1 ≤ p.lcState ∧ p.lcState ≤ 4 ∧ p.lcLeft ≤ 15 ∧ ∀ x ∈ p.lcBegun, 2 ≤ x ∧ x ≤ 4)
def Keeps (z u : State) : Prop := Keeps3 z u.sram u.calstore u.pwr
variable {z : State}

theorem Keeps.refl (z : State) : Keeps z z := ⟨id, id, id⟩

theorem keep_mk {pending now fresh held wiping regs shadows commits bus irq pwr clk mon tdc fct esc vat wnb ntm ctl sdf saf acq stq vid lmp pair eth pln hka thm cal sram calstore} (h : Keeps3 z sram calstore pwr) :
    Keeps z (State.mk pending now fresh held wiping regs shadows commits bus irq pwr clk mon tdc fct esc vat wnb ntm ctl sdf saf acq stq vid lmp pair eth pln hka thm cal sram calstore) := h

theorem keep_fold {s : State} (h : Keeps z s) : Keeps3 z s.sram s.calstore s.pwr := h

theorem keep_ite {c : Prop} [Decidable c] {a b : State} (hb : Keeps z b) (ha : Keeps z b → Keeps z a) :
    Keeps z (if c then a else b) := by split; exacts [ha hb, hb]

theorem keep_ite_snd {α : Type} {c : Prop} [Decidable c] {a b : α × State} (hb : Keeps z b.2) (ha : Keeps z b.2 → Keeps z a.2) :
    Keeps z (if c then a else b).2 := by split; exacts [ha hb, hb]

theorem keep_foldl_snd {α β : Type} {f : β × State → α → β × State} {l : List α} {b : β} {s : State}
    (hf : ∀ p x, Keeps z p.2 → Keeps z (f p x).2) (h : Keeps z s) : Keeps z (l.foldl f (b, s)).2 := by
  suffices hh : ∀ p : β × State, Keeps z p.2 → Keeps z (l.foldl f p).2 from hh (b, s) h
  clear h
  induction l with
  | nil => exact fun _ h => h
  | cons a l ih => exact fun p h => ih _ (hf p a h)

theorem keep_foldl_fst {α β : Type} {f : State × β → α → State × β} {l : List α} {p : State × β}
    (hf : ∀ p x, Keeps z p.1 → Keeps z (f p x).1) (h : Keeps z p.1) : Keeps z (l.foldl f p).1 := by
  induction l generalizing p with
  | nil => exact h
  | cons a l ih => exact ih (hf p a h)

theorem keep_getD {o : Option State} {s : State} (h : ∀ y, o = some y → Keeps z y) (hs : Keeps z s) : Keeps z (o.getD s) := by
  cases o with
  | none => exact hs
  | some y => exact h y rfl

theorem keep_foldl {α : Type} {f : State → α → State} {l : List α} {s : State}
    (hf : ∀ s x, Keeps z s → Keeps z (f s x)) (h : Keeps z s) : Keeps z (l.foldl f s) := by
  induction l generalizing s with
  | nil => exact h
  | cons a l ih => exact ih (hf s a h)

theorem keep_next {s u : State} (h : Keeps z s) (e : (.next s : Host.Outcome State Fault Refusal) = .next u) : Keeps z u := by
  cases e; exact h

theorem keep_snd {α : Type} {p : α × State} {a : α} {s : State} (e : p = (a, s)) (h : Keeps z p.2) : Keeps z s := by subst e; exact h

theorem keep_snd2 {α β : Type} {p : α × β × State} {a : α} {b : β} {s : State} (e : p = (a, b, s)) (h : Keeps z p.2.2) : Keeps z s := by
  subst e; exact h

theorem keep_snd3 {α β γ : Type} {p : α × β × γ × State} {a : α} {b : β} {c : γ} {s : State} (e : p = (a, b, c, s)) (h : Keeps z p.2.2.2) : Keeps z s := by
  subst e; exact h

theorem keep_fst {α : Type} {p : State × α} {a : α} {s : State} (e : p = (s, a)) (h : Keeps z p.1) : Keeps z s := by subst e; exact h

theorem keep_someP {α : Type} {o : Option (α × State)} {a : α} {s : State} (e : o = some (a, s)) (h : ∀ y, o = some y → Keeps z y.2) : Keeps z s := h _ e

theorem keep_some {o : Option State} {s : State} (e : o = some s) (h : ∀ y, o = some y → Keeps z y) : Keeps z s := h _ e

/-- A word of LC_REQ that names a state which a transition may enter (20 R505). -/
def LcTarget (d : Word) : Prop := 2 ≤ fld d 0 4 ∧ fld d 0 4 ≤ 4

theorem lcTarget_allowed {s : State} {d : Word} (h : lcAllowed s (fld d 0 4) = true) : LcTarget d := by
  unfold lcAllowed at h
  unfold LcTarget
  split at h <;> simp at h <;> omega

theorem lcTarget_check {d : Word} {s : State} (h : pwrCheck A.PWR_LC_REQ d s = 0) : LcTarget d := by
  unfold pwrCheck at h
  split at h
  · cases h
  · rw [if_neg (by decide), if_neg (by decide), if_neg (by decide), if_pos rfl] at h
    split at h
    · next k => exact lcTarget_allowed k.2.2.2.2.2
    · cases h

theorem lcTarget_code {l : RegLoc} {a : Nat} {d : Word} {s c : State} (h : writeCode l a d s c = 0) (hp : l.pbase = 0x2000)
    (ha : a = A.PWR_LC_REQ) : LcTarget d := by
  subst ha
  unfold writeCode at h
  dsimp only at h
  rw [hp] at h
  split at h
  · cases h
  · split at h
    · cases h
    · split at h
      · cases h
      · split at h
        · cases h
        · have k : checkA 0x2000 A.PWR_LC_REQ d c = pwrCheck A.PWR_LC_REQ d c := by
            unfold checkA
            rw [if_neg (by decide), if_neg (by decide), if_pos rfl]
          simp only [if_pos (show (0x2000 : Nat) < 0x50000 by decide), k] at h
          split at h
          · next k => exact absurd h k
          · next k => exact lcTarget_check (not_not.mp k)

/-! ## Memories -/

theorem keep_sram {m m' c : List Host.Cell} {p : Pwr} (hm : Memory.wf m = true → Memory.wf m' = true) (h : Keeps3 z m c p) :
    Keeps3 z m' c p := ⟨fun w => hm (h.1 w), h.2⟩

theorem keep_cal {m c c' : List Host.Cell} {p : Pwr} (hc : Memory.wf c = true → Memory.wf c' = true) (h : Keeps3 z m c p) :
    Keeps3 z m c' p := ⟨h.1, fun w => hc (h.2.1 w), h.2.2⟩

theorem keep_sram_nil {m c : List Host.Cell} {p : Pwr} (h : Keeps3 z m c p) : Keeps3 z [] c p := keep_sram (fun _ => rfl) h

theorem keep_cal_nil {m c : List Host.Cell} {p : Pwr} (h : Keeps3 z m c p) : Keeps3 z m [] p := keep_cal (fun _ => rfl) h

theorem keep_sram_word {m c : List Host.Cell} {p : Pwr} {a : Nat} {w : Word} (h : Keeps3 z m c p) :
    Keeps3 z (setMemWord m a w) c p := keep_sram (fun k => setMemWord_wf k a w) h

theorem keep_cal_word {m c : List Host.Cell} {p : Pwr} {a : Nat} {w : Word} (h : Keeps3 z m c p) :
    Keeps3 z m (setMemWord c a w) p := keep_cal (fun k => setMemWord_wf k a w) h

theorem keep_sram_half {m c : List Host.Cell} {p : Pwr} {a v : Nat} (h : Keeps3 z m c p) :
    Keeps3 z (setMemHalf m a v) c p := keep_sram (fun k => setMemHalf_wf k a v) h

theorem keep_sram_clear {m c : List Host.Cell} {p : Pwr} {a b : Nat} (h : Keeps3 z m c p) :
    Keeps3 z (memClear m a b) c p := keep_sram (fun k => memClear_wf k a b) h

theorem keep_cal_clear {m c : List Host.Cell} {p : Pwr} {a b : Nat} (h : Keeps3 z m c p) :
    Keeps3 z m (memClear c a b) p := keep_cal (fun k => memClear_wf k a b) h

theorem keep_cal_byte {m c : List Host.Cell} {p : Pwr} {a : Nat} {v : Byte} (h : Keeps3 z m c p) :
    Keeps3 z m (pset 0#8 c a v) p := keep_cal (fun k => pwf_pset k a v) h

theorem keep_sram_foldl {α : Type} {f : List Host.Cell → α → List Host.Cell} {l : List α} {m c : List Host.Cell} {p : Pwr}
    (hf : ∀ m x, Keeps3 z m c p → Keeps3 z (f m x) c p) (h : Keeps3 z m c p) : Keeps3 z (l.foldl f m) c p := by
  induction l generalizing m with
  | nil => exact h
  | cons a l ih => exact ih (hf m a h)

theorem keep_cal_foldl {α : Type} {f : List Host.Cell → α → List Host.Cell} {l : List α} {m c : List Host.Cell} {p : Pwr}
    (hf : ∀ c x, Keeps3 z m c p → Keeps3 z m (f c x) p) (h : Keeps3 z m c p) : Keeps3 z m (l.foldl f c) p := by
  induction l generalizing c with
  | nil => exact h
  | cons a l ih => exact ih (hf c a h)

theorem keep_sram_ite {q : Prop} [Decidable q] {m m' c : List Host.Cell} {p : Pwr} (h : Keeps3 z m c p) (h' : Keeps3 z m' c p) :
    Keeps3 z (if q then m else m') c p := by split <;> assumption

theorem putPixel_wf {m : List Host.Cell} (h : Memory.wf m = true) (b : VidBuf) (k p1 p2 : Nat) : Memory.wf (putPixel m b k p1 p2) = true :=
  setMemHalf_wf (setMemHalf_wf h _ _) _ _

theorem keep_sram_pixel {m c : List Host.Cell} {p : Pwr} {b : VidBuf} {k p1 p2 : Nat} (h : Keeps3 z m c p) :
    Keeps3 z (putPixel m b k p1 p2) c p := keep_sram (fun w => putPixel_wf w b k p1 p2) h

theorem keep_pwr {m c : List Host.Cell} {p : Pwr} {t : Option (PState × PState)} {n : Nat} {f i a o : Bool} {j : Option Nat}
    (h : Keeps3 z m c p) : Keeps3 z m c ⟨t, n, f, i, p.lcState, p.lcLeft, p.lcBegun, a, o, j⟩ := h

theorem densityTable_wf (j : CalJob) (n : Nat) : ∀ k c s (m : List Host.Cell), Memory.wf m = true → Memory.wf (densityTable j n k c s m) = true := by
  intro k
  induction k with
  | zero => intro c s m h; exact h
  | succ k ih => intro c s m h; unfold densityTable; exact ih _ _ _ (pwf_pset h _ _)

theorem ringWords_wf (b l o : Nat) (m : List Host.Cell) (ws : List Word) (h : Memory.wf m = true) :
    Memory.wf (ringWords b l o m ws) = true := by
  unfold ringWords
  generalize ws.zipIdx = x
  induction x generalizing m with
  | nil => exact h
  | cons a x ih => exact ih _ (setMemWord_wf h _ _)

theorem keep_ringWords {m c : List Host.Cell} {p : Pwr} {b l o : Nat} {ws : List Word} (h : Keeps3 z m c p) :
    Keeps3 z (ringWords b l o m ws) c p := keep_sram (fun k => ringWords_wf b l o m ws k) h

theorem keep_densityTable {m c : List Host.Cell} {p : Pwr} {j : CalJob} {n k i t : Nat} (h : Keeps3 z m c p) :
    Keeps3 z m (densityTable j n k i t c) p := keep_cal (fun w => densityTable_wf j n k i t c w) h
end Sys2Proof.Machine
end

