-- ==== Sys2Proof/Laws/KeepA.lean ====
section
/-!
SUPPORT. What each operation keeps, part 1: the canonical form of the memories, and legal fuses.
-/

namespace Sys2Proof.Machine

set_option Elab.async false

variable {z : State}

theorem keep_setReg (s : State) (a : Nat) (v : Word) (h0 : Keeps z s) : Keeps z (setReg s a v) := by
  unfold setReg
  repeat' with_reducible first
    | assumption
    | intro _
    | dsimp only
    | exact keep_fold ‹_›
    | refine keep_fold ?_
    | refine keep_mk ?_

theorem keep_setMacs (s : State) (l : List (Nat × Nat × Nat)) (h0 : Keeps z s) : Keeps z (setMacs s l) := by
  unfold setMacs
  repeat' with_reducible first
    | assumption
    | intro _
    | refine keep_setReg ?_ ?_ ?_ ?_
    | dsimp only
    | exact keep_fold ‹_›
    | refine keep_fold ?_
    | refine keep_mk ?_

theorem keep_macAgeExpire (s : State) (h0 : Keeps z s) : Keeps z (macAgeExpire s) := by
  unfold macAgeExpire
  repeat' with_reducible first
    | assumption
    | intro _
    | refine keep_setMacs ?_ ?_ ?_

theorem keep_setSdf (s : State) (c : Nat) (x : SdfChan) (h0 : Keeps z s) : Keeps z (setSdf s c x) := by
  unfold setSdf
  repeat' with_reducible first
    | assumption
    | intro _
    | dsimp only
    | exact keep_fold ‹_›
    | refine keep_fold ?_
    | refine keep_mk ?_

theorem keep_sdfSamples (s : State) (c : Nat) (bits : List Bool) (h0 : Keeps z s) : Keeps z (sdfSamples s c bits) := by
  unfold sdfSamples
  repeat' with_reducible first
    | assumption
    | intro _
    | refine keep_setSdf ?_ ?_ ?_ ?_
    | refine keep_foldl ?_ ?_
    | refine keep_ite ?_ ?_

theorem keep_wr (s : State) (f : Fld) (v : Nat) (h0 : Keeps z s) : Keeps z (wr s f v) := by
  unfold wr
  repeat' with_reducible first
    | assumption
    | intro _
    | refine keep_setReg ?_ ?_ ?_ ?_

theorem keep_setPress (s : State) (e : Nat) (x : PressEng) (h0 : Keeps z s) : Keeps z (setPress s e x) := by
  unfold setPress
  repeat' with_reducible first
    | assumption
    | intro _
    | dsimp only
    | exact keep_fold ‹_›
    | refine keep_fold ?_
    | refine keep_mk ?_

theorem keep_pressPrimeDone (t : Nat) (e : Nat) (s : State) (h2 : Keeps z s) : Keeps z (pressPrimeDone t e s) := by
  unfold pressPrimeDone
  repeat' with_reducible first
    | assumption
    | intro _
    | refine keep_wr ?_ ?_ ?_ ?_
    | refine keep_setPress ?_ ?_ ?_ ?_
    | refine keep_ite ?_ ?_
    | refine keep_snd ‹_› ?_
    | refine keep_snd2 ‹_› ?_
    | refine keep_snd3 ‹_› ?_
    | refine keep_fst ‹_› ?_
    | split

theorem keep_bumpBy (s : State) (a : Nat) (n : Nat) (h0 : Keeps z s) : Keeps z (bumpBy s a n) := by
  unfold bumpBy
  repeat' with_reducible first
    | assumption
    | intro _
    | refine keep_setReg ?_ ?_ ?_ ?_
    | refine keep_ite ?_ ?_

theorem keep_wrBit (s : State) (a : Nat) (i : Nat) (b : Bool) (h0 : Keeps z s) : Keeps z (wrBit s a i b) := by
  unfold wrBit
  repeat' with_reducible first
    | assumption
    | intro _
    | refine keep_setReg ?_ ?_ ?_ ?_

theorem keep_wrB (s : State) (f : Fld) (b : Bool) (h0 : Keeps z s) : Keeps z (wrB s f b) := by
  unfold wrB
  repeat' with_reducible first
    | assumption
    | intro _
    | refine keep_wr ?_ ?_ ?_ ?_

theorem keep_setPllLock (s : State) (l : Nat) (b : Bool) (h0 : Keeps z s) : Keeps z (setPllLock s l b) := by
  unfold setPllLock
  repeat' with_reducible first
    | assumption
    | intro _
    | refine keep_wrB ?_ ?_ ?_ ?_
    | refine keep_wrBit ?_ ?_ ?_ ?_ ?_

theorem keep_setBundle (s : State) (b : Nat) (x : Bundle) (h0 : Keeps z s) : Keeps z (setBundle s b x) := by
  unfold setBundle
  repeat' with_reducible first
    | assumption
    | intro _
    | dsimp only
    | exact keep_fold ‹_›
    | refine keep_fold ?_
    | refine keep_mk ?_

theorem keep_onBundle (s : State) (b : Nat) (f : Bundle → Bundle) (h0 : Keeps z s) : Keeps z (onBundle s b f) := by
  unfold onBundle
  repeat' with_reducible first
    | assumption
    | intro _
    | refine keep_setBundle ?_ ?_ ?_ ?_

theorem keep_newLcw (s : State) (b : Nat) (h0 : Keeps z s) : Keeps z (newLcw s b) := by
  unfold newLcw
  repeat' with_reducible first
    | assumption
    | intro _
    | refine keep_onBundle ?_ ?_ ?_ ?_

theorem keep_setLane (s : State) (l : Nat) (st : Nat) (h0 : Keeps z s) : Keeps z (setLane s l st) := by
  unfold setLane
  repeat' with_reducible first
    | assumption
    | intro _
    | refine keep_wr ?_ ?_ ?_ ?_

theorem keep_onLane (s : State) (l : Nat) (f : LaneSt → LaneSt) (h0 : Keeps z s) : Keeps z (onLane s l f) := by
  unfold onLane
  repeat' with_reducible first
    | assumption
    | intro _
    | dsimp only
    | exact keep_fold ‹_›
    | refine keep_fold ?_
    | refine keep_mk ?_

theorem keep_setBitLock (s : State) (l : Nat) (b : Bool) (h0 : Keeps z s) : Keeps z (setBitLock s l b) := by
  unfold setBitLock
  repeat' with_reducible first
    | assumption
    | intro _
    | refine keep_wrB ?_ ?_ ?_ ?_
    | refine keep_wrBit ?_ ?_ ?_ ?_ ?_
    | refine keep_onLane ?_ ?_ ?_ ?_

theorem keep_queueFrame (s : State) (b : Nat) (f : LinkFrame) (h0 : Keeps z s) : Keeps z (queueFrame s b f) := by
  unfold queueFrame
  repeat' with_reducible first
    | assumption
    | intro _
    | dsimp only
    | exact keep_fold ‹_›
    | refine keep_fold ?_
    | refine keep_mk ?_

theorem keep_bump (s : State) (a : Nat) (h0 : Keeps z s) : Keeps z (bump s a) := by
  unfold bump
  repeat' with_reducible first
    | assumption
    | intro _
    | refine keep_bumpBy ?_ ?_ ?_ ?_

theorem keep_sendEvent (s : State) (h0 : Keeps z s) : Keeps z (sendEvent s) := by
  unfold sendEvent
  repeat' with_reducible first
    | assumption
    | intro _
    | refine keep_queueFrame ?_ ?_ ?_ ?_
    | refine keep_onBundle ?_ ?_ ?_ ?_
    | refine keep_bump ?_ ?_ ?_
    | refine keep_ite ?_ ?_
    | split
    | dsimp only
    | exact keep_fold ‹_›
    | refine keep_fold ?_
    | refine keep_mk ?_

theorem keep_evfRise (s : State) (i : Nat) (h0 : Keeps z s) : Keeps z (evfRise s i) := by
  unfold evfRise
  repeat' with_reducible first
    | assumption
    | intro _
    | refine keep_sendEvent ?_ ?_
    | refine keep_ite ?_ ?_
    | split
    | dsimp only
    | exact keep_fold ‹_›
    | refine keep_fold ?_
    | refine keep_mk ?_

theorem keep_evfWatch (p : Nat) (s : State) (s' : State) (h1 : Keeps z s) (h2 : Keeps z s') : Keeps z (evfWatch p s s') := by
  unfold evfWatch
  repeat' with_reducible first
    | assumption
    | intro _
    | refine keep_evfRise ?_ ?_ ?_
    | refine keep_ite ?_ ?_
    | refine keep_snd ‹_› ?_
    | refine keep_snd2 ‹_› ?_
    | refine keep_snd3 ‹_› ?_
    | refine keep_fst ‹_› ?_
    | split

theorem keep_raiseBits (s : State) (p : Nat) (m : Word) (h0 : Keeps z s) : Keeps z (raiseBits s p m) := by
  unfold raiseBits
  repeat' with_reducible first
    | assumption
    | intro _
    | refine keep_setReg ?_ ?_ ?_ ?_
    | refine keep_evfWatch ?_ ?_ ?_ ?_ ?_

theorem keep_raiseAt (s : State) (f : Fld) (i : Nat) (h0 : Keeps z s) : Keeps z (raiseAt s f i) := by
  unfold raiseAt
  repeat' with_reducible first
    | assumption
    | intro _
    | refine keep_raiseBits ?_ ?_ ?_ ?_

theorem keep_laneEvent (s : State) (l : Nat) (k : Nat) (h0 : Keeps z s) : Keeps z (laneEvent s l k) := by
  unfold laneEvent
  repeat' with_reducible first
    | assumption
    | intro _
    | refine keep_raiseAt ?_ ?_ ?_ ?_

theorem keep_raise (s : State) (f : Fld) (h0 : Keeps z s) : Keeps z (raise s f) := by
  unfold raise
  repeat' with_reducible first
    | assumption
    | intro _
    | refine keep_raiseBits ?_ ?_ ?_ ?_

theorem keep_quarantineLane (s : State) (b : Nat) (l : Nat) (cause : Nat) (h0 : Keeps z s) :
    Keeps z (quarantineLane s b l cause) := by
  unfold quarantineLane
  repeat' with_reducible first
    | assumption
    | intro _
    | refine keep_laneEvent ?_ ?_ ?_ ?_
    | refine keep_setReg ?_ ?_ ?_ ?_
    | refine keep_setLane ?_ ?_ ?_ ?_
    | refine keep_raise ?_ ?_ ?_
    | refine keep_bump ?_ ?_ ?_
    | refine keep_setBitLock ?_ ?_ ?_ ?_
    | refine keep_onLane ?_ ?_ ?_ ?_
    | refine keep_at' ?_ ?_ ?_
    | refine keep_ite ?_ ?_

theorem keep_showLanes (s : State) (b : Nat) (h0 : Keeps z s) : Keeps z (showLanes s b) := by
  unfold showLanes
  repeat' with_reducible first
    | assumption
    | intro _
    | refine keep_wr ?_ ?_ ?_ ?_
    | refine keep_wrB ?_ ?_ ?_ ?_
    | refine keep_raise ?_ ?_ ?_
    | refine keep_ite ?_ ?_

theorem keep_setBState (s : State) (b : Nat) (st : Nat) (h0 : Keeps z s) : Keeps z (setBState s b st) := by
  unfold setBState
  repeat' with_reducible first
    | assumption
    | intro _
    | refine keep_showLanes ?_ ?_ ?_
    | refine keep_wr ?_ ?_ ?_ ?_
    | refine keep_wrBit ?_ ?_ ?_ ?_ ?_

theorem keep_enterStep (s : State) (b : Nat) (n : Nat) (h0 : Keeps z s) : Keeps z (enterStep s b n) := by
  unfold enterStep
  repeat' with_reducible first
    | assumption
    | intro _
    | refine keep_onBundle ?_ ?_ ?_ ?_
    | refine keep_onLane ?_ ?_ ?_ ?_
    | refine keep_foldl ?_ ?_

theorem keep_enterRecovery (s : State) (b : Nat) (h0 : Keeps z s) : Keeps z (enterRecovery s b) := by
  unfold enterRecovery
  repeat' with_reducible first
    | assumption
    | intro _
    | refine keep_enterStep ?_ ?_ ?_ ?_
    | refine keep_setBState ?_ ?_ ?_ ?_
    | refine keep_setLane ?_ ?_ ?_ ?_
    | refine keep_wr ?_ ?_ ?_ ?_
    | refine keep_raise ?_ ?_ ?_
    | refine keep_onBundle ?_ ?_ ?_ ?_
    | refine keep_foldl ?_ ?_
    | refine keep_ite ?_ ?_

theorem keep_sendLcw (s : State) (b : Nat) (l : List Nat) (h0 : Keeps z s) : Keeps z (sendLcw s b l) := by
  unfold sendLcw
  repeat' with_reducible first
    | assumption
    | intro _
    | refine keep_onBundle ?_ ?_ ?_ ?_

theorem keep_maskChange (s : State) (b : Nat) (ownChanged : Bool) (h0 : Keeps z s) : Keeps z (maskChange s b ownChanged) := by
  unfold maskChange
  repeat' with_reducible first
    | assumption
    | intro _
    | refine keep_enterRecovery ?_ ?_ ?_
    | refine keep_onBundle ?_ ?_ ?_ ?_
    | refine keep_sendLcw ?_ ?_ ?_ ?_
    | refine keep_ite ?_ ?_

theorem keep_setOffer (s : State) (b : Nat) (m : Nat) (h0 : Keeps z s) : Keeps z (setOffer s b m) := by
  unfold setOffer
  repeat' with_reducible first
    | assumption
    | intro _
    | refine keep_maskChange ?_ ?_ ?_ ?_
    | refine keep_wr ?_ ?_ ?_ ?_
    | refine keep_ite ?_ ?_

theorem keep_losePositions (s : State) (b : Nat) (cause : Nat) (l : List Nat) (h0 : Keeps z s) :
    Keeps z (losePositions s b cause l) := by
  unfold losePositions
  repeat' with_reducible first
    | assumption
    | intro _
    | refine keep_quarantineLane ?_ ?_ ?_ ?_ ?_
    | refine keep_setOffer ?_ ?_ ?_ ?_
    | refine keep_onBundle ?_ ?_ ?_ ?_
    | refine keep_foldl ?_ ?_

theorem keep_laneFault (l : Nat) (cause : Nat) (codes : Nat) (disps : Nat) (s : State) (h4 : Keeps z s) :
    Keeps z (laneFault l cause codes disps s) := by
  unfold laneFault
  repeat' with_reducible first
    | assumption
    | intro _
    | refine keep_setPllLock ?_ ?_ ?_ ?_
    | refine keep_bumpBy ?_ ?_ ?_ ?_
    | refine keep_losePositions ?_ ?_ ?_ ?_ ?_
    | refine keep_newLcw ?_ ?_ ?_
    | refine keep_ite ?_ ?_
    | refine keep_snd ‹_› ?_
    | refine keep_snd2 ‹_› ?_
    | refine keep_snd3 ‹_› ?_
    | refine keep_fst ‹_› ?_
    | split
    | dsimp only

theorem keep_at' (t : Nat) (s : State) (h1 : Keeps z s) : Keeps z (at' t s) := by
  unfold at'
  repeat' with_reducible first
    | assumption
    | intro _
    | dsimp only
    | exact keep_fold ‹_›
    | refine keep_fold ?_
    | refine keep_mk ?_

theorem keep_execQuarantine (t : Nat) (l : Nat) (cause : Nat) (codes : Nat) (disps : Nat) (s : State) (h5 : Keeps z s) :
    ∀ u, (execQuarantine t l cause codes disps s) = .next u → Keeps z u := by
  intro u e
  unfold execQuarantine at e
  refine keep_next ?_ e
  clear e
  repeat' with_reducible first
    | assumption
    | intro _
    | refine keep_laneFault ?_ ?_ ?_ ?_ ?_ ?_
    | refine keep_at' ?_ ?_ ?_

theorem keep_setMon (s : State) (m : Nat) (st : Stat) (h0 : Keeps z s) : Keeps z (setMon s m st) := by
  unfold setMon
  repeat' with_reducible first
    | assumption
    | intro _
    | dsimp only
    | exact keep_fold ‹_›
    | refine keep_fold ?_
    | refine keep_mk ?_

theorem keep_monStart (s : State) (m : Nat) (h0 : Keeps z s) : Keeps z (monStart s m) := by
  unfold monStart
  repeat' with_reducible first
    | assumption
    | intro _
    | refine keep_setReg ?_ ?_ ?_ ?_
    | refine keep_wr ?_ ?_ ?_ ?_
    | refine keep_setMon ?_ ?_ ?_ ?_

theorem keep_setWide (s : State) (a : Nat) (v : Nat) (h0 : Keeps z s) : Keeps z (setWide s a v) := by
  unfold setWide
  repeat' with_reducible first
    | assumption
    | intro _
    | refine keep_setReg ?_ ?_ ?_ ?_

theorem keep_monSnap (s : State) (m : Nat) (h0 : Keeps z s) : Keeps z (monSnap s m) := by
  unfold monSnap
  repeat' with_reducible first
    | assumption
    | intro _
    | refine keep_setWide ?_ ?_ ?_ ?_
    | refine keep_setReg ?_ ?_ ?_ ?_
    | refine keep_foldl ?_ ?_

theorem keep_monFrame (s : State) (h0 : Keeps z s) : Keeps z (monFrame s) := by
  unfold monFrame
  repeat' with_reducible first
    | assumption
    | intro _
    | refine keep_monStart ?_ ?_ ?_
    | refine keep_monSnap ?_ ?_ ?_
    | refine keep_foldl ?_ ?_
    | refine keep_ite ?_ ?_

theorem keep_wrI (s : State) (f : Fld) (v : Int) (h0 : Keeps z s) : Keeps z (wrI s f v) := by
  unfold wrI
  repeat' with_reducible first
    | assumption
    | intro _
    | refine keep_wr ?_ ?_ ?_ ?_

theorem keep_clampEvent (s : State) (c : Nat) (h0 : Keeps z s) : Keeps z (clampEvent s c) := by
  unfold clampEvent
  repeat' with_reducible first
    | assumption
    | intro _
    | refine keep_raise ?_ ?_ ?_
    | refine keep_ite ?_ ?_

theorem keep_setChan (s : State) (c : Nat) (x : Chan) (h0 : Keeps z s) : Keeps z (setChan s c x) := by
  unfold setChan
  repeat' with_reducible first
    | assumption
    | intro _
    | dsimp only
    | exact keep_fold ‹_›
    | refine keep_fold ?_
    | refine keep_mk ?_

theorem keep_settle (s : State) (c : Nat) (h0 : Keeps z s) : Keeps z (settle s c) := by
  unfold settle
  repeat' with_reducible first
    | assumption
    | intro _
    | refine keep_setChan ?_ ?_ ?_ ?_

theorem keep_calChannel (x : CalSet) (s : State) (c : Nat) (h1 : Keeps z s) : Keeps z (calChannel x s c) := by
  unfold calChannel
  repeat' with_reducible first
    | assumption
    | intro _
    | refine keep_settle ?_ ?_ ?_
    | refine keep_wr ?_ ?_ ?_ ?_
    | refine keep_wrI ?_ ?_ ?_ ?_
    | refine keep_clampEvent ?_ ?_ ?_
    | refine keep_ite ?_ ?_

theorem keep_onCal (s : State) (f : Cal → Cal) (h0 : Keeps z s) : Keeps z (onCal s f) := by
  unfold onCal
  repeat' with_reducible first
    | assumption
    | intro _
    | dsimp only
    | exact keep_fold ‹_›
    | refine keep_fold ?_
    | refine keep_mk ?_

theorem keep_calShow (s : State) (h0 : Keeps z s) : Keeps z (calShow s) := by
  unfold calShow
  repeat' with_reducible first
    | assumption
    | intro _
    | refine keep_setReg ?_ ?_ ?_ ?_
    | refine keep_wr ?_ ?_ ?_ ?_
    | refine keep_wrB ?_ ?_ ?_ ?_

theorem keep_calInstall (s : State) (e : Nat) (x : CalSet) (h0 : Keeps z s) : Keeps z (calInstall s e x) := by
  unfold calInstall
  repeat' with_reducible first
    | assumption
    | intro _
    | refine keep_calShow ?_ ?_
    | refine keep_onCal ?_ ?_ ?_
    | refine keep_wr ?_ ?_ ?_ ?_
    | refine keep_wrB ?_ ?_ ?_ ?_
    | refine keep_calChannel ?_ ?_ ?_ ?_
    | refine keep_raise ?_ ?_ ?_
    | refine keep_bump ?_ ?_ ?_
    | refine keep_foldl ?_ ?_

theorem keep_calBoundary (tb : Nat) (s : State) (h1 : Keeps z s) : Keeps z (calBoundary tb s) := by
  unfold calBoundary
  repeat' with_reducible first
    | assumption
    | intro _
    | refine keep_calInstall ?_ ?_ ?_ ?_
    | refine keep_ite ?_ ?_
    | refine keep_snd ‹_› ?_
    | refine keep_snd2 ‹_› ?_
    | refine keep_snd3 ‹_› ?_
    | refine keep_fst ‹_› ?_
    | split

theorem keep_powerExit (t : Nat) (b : Nat) (signal : Bool) (s : State) (h3 : Keeps z s) : Keeps z (powerExit t b signal s) := by
  unfold powerExit
  repeat' with_reducible first
    | assumption
    | intro _
    | refine keep_setPllLock ?_ ?_ ?_ ?_
    | refine keep_wr ?_ ?_ ?_ ?_
    | refine keep_newLcw ?_ ?_ ?_
    | refine keep_enterRecovery ?_ ?_ ?_
    | refine keep_raise ?_ ?_ ?_
    | refine keep_onBundle ?_ ?_ ?_ ?_
    | refine keep_foldl ?_ ?_
    | refine keep_ite ?_ ?_

theorem keep_execPowerExit (t : Nat) (b : Nat) (signal : Bool) (s : State) (h3 : Keeps z s) :
    ∀ u, (execPowerExit t b signal s) = .next u → Keeps z u := by
  intro u e
  unfold execPowerExit at e
  refine keep_next ?_ e
  clear e
  repeat' with_reducible first
    | assumption
    | intro _
    | refine keep_powerExit ?_ ?_ ?_ ?_ ?_
    | refine keep_at' ?_ ?_ ?_

theorem keep_takeFree (s : State) (n : Nat) (h0 : Keeps z s) : Keeps z (takeFree s n).2 := by
  unfold takeFree
  repeat' with_reducible first
    | assumption
    | intro _
    | dsimp only
    | exact keep_fold ‹_›
    | refine keep_fold ?_
    | refine keep_mk ?_

theorem keep_monAdd (s : State) (m : Nat) (v : Int) (h0 : Keeps z s) : Keeps z (monAdd s m v) := by
  unfold monAdd
  repeat' with_reducible first
    | assumption
    | intro _
    | refine keep_takeFree ?_ ?_ ?_
    | refine keep_wr ?_ ?_ ?_ ?_
    | refine keep_setMon ?_ ?_ ?_ ?_
    | refine keep_ite ?_ ?_

theorem keep_monSample (s : State) (src : Nat) (arg : Nat) (v : Int) (h0 : Keeps z s) : Keeps z (monSample s src arg v) := by
  unfold monSample
  repeat' with_reducible first
    | assumption
    | intro _
    | refine keep_monAdd ?_ ?_ ?_ ?_
    | refine keep_foldl ?_ ?_
    | refine keep_ite ?_ ?_

theorem keep_busWait (s : State) (h0 : Keeps z s) : Keeps z (busWait s) := by
  unfold busWait
  repeat' with_reducible first
    | assumption
    | intro _
    | refine keep_takeFree ?_ ?_ ?_
    | refine keep_monSample ?_ ?_ ?_ ?_ ?_
    | refine keep_ite ?_ ?_

theorem keep_recErr (s : State) (p : Nat) (off : Nat) (code : Nat) (h0 : Keeps z s) : Keeps z (recErr s p off code) := by
  unfold recErr
  repeat' with_reducible first
    | assumption
    | intro _
    | refine keep_setReg ?_ ?_ ?_ ?_
    | refine keep_ite ?_ ?_

theorem keep_recGlb (s : State) (a : Nat) (code : Nat) (h0 : Keeps z s) : Keeps z (recGlb s a code) := by
  unfold recGlb
  repeat' with_reducible first
    | assumption
    | intro _
    | refine keep_setReg ?_ ?_ ?_ ?_
    | refine keep_recErr ?_ ?_ ?_ ?_ ?_
    | refine keep_ite ?_ ?_

theorem keep_setEngine (s : State) (n : Nat) (e : Engine) (h0 : Keeps z s) : Keeps z (setEngine s n e) := by
  unfold setEngine
  repeat' with_reducible first
    | assumption
    | intro _
    | dsimp only
    | exact keep_fold ‹_›
    | refine keep_fold ?_
    | refine keep_mk ?_

theorem keep_setBankWord (s : State) (a : Nat) (d : Word) (h0 : Keeps z s) : Keeps z (setBankWord s a d) := by
  unfold setBankWord
  repeat' with_reducible first
    | assumption
    | intro _
    | refine keep_setEngine ?_ ?_ ?_ ?_
    | refine keep_snd ‹_› ?_
    | refine keep_snd2 ‹_› ?_
    | refine keep_snd3 ‹_› ?_
    | refine keep_fst ‹_› ?_
    | split
    | dsimp only
    | exact keep_fold ‹_›
    | refine keep_fold ?_
    | refine keep_mk ?_
    | refine keep_sram_nil ?_
    | refine keep_cal_nil ?_
    | refine keep_sram_word ?_

theorem keep_windowWrite (a : Nat) (d : Word) (s : State) (h2 : Keeps z s) : Keeps z (windowWrite a d s).2 := by
  unfold windowWrite
  dsimp only
  generalize a - 4194304 = o
  generalize windowAt s a = m
  refine keep_ite_snd (keep_ite_snd (keep_ite_snd ?_ fun _ => ?_) fun _ => ?_) fun _ => keep_ite_snd ?_ fun _ => ?_
  · exact keep_mk (keep_sram_word h2)
  · exact keep_setBankWord s m d h2
  · exact keep_recErr _ _ _ _ h2
  · exact keep_recErr _ _ _ _ h2
  · exact keep_mk (keep_cal_word h2)

theorem keep_lockCount (p : Nat) (s : State) (h1 : Keeps z s) : Keeps z (lockCount p s) := by
  unfold lockCount
  repeat' with_reducible first
    | assumption
    | intro _
    | refine keep_setReg ?_ ?_ ?_ ?_
    | refine keep_ite ?_ ?_

theorem keep_lockWrite (p : Nat) (d : Word) (s : State) (h2 : Keeps z s) : Keeps z (lockWrite p d s).2 := by
  unfold lockWrite
  repeat' with_reducible first
    | assumption
    | intro _
    | refine keep_setReg ?_ ?_ ?_ ?_
    | refine keep_recErr ?_ ?_ ?_ ?_ ?_
    | refine keep_lockCount ?_ ?_ ?_
    | refine keep_ite ?_ ?_
    | refine keep_ite_snd ?_ ?_

theorem keep_onBus (s : State) (f : Bus → Bus) (h0 : Keeps z s) : Keeps z (onBus s f) := by
  unfold onBus
  repeat' with_reducible first
    | assumption
    | intro _
    | dsimp only
    | exact keep_fold ‹_›
    | refine keep_fold ?_
    | refine keep_mk ?_

theorem keep_lowerDrop (s : State) (r : Requester) (a : Nat) (h0 : Keeps z s) : Keeps z (lowerDrop s r a) := by
  unfold lowerDrop
  repeat' with_reducible first
    | assumption
    | intro _
    | refine keep_onBus ?_ ?_ ?_

theorem keep_setShadow (s : State) (a : Nat) (w : Word) (h0 : Keeps z s) : Keeps z (setShadow s a w) := by
  unfold setShadow
  repeat' with_reducible first
    | assumption
    | intro _
    | dsimp only
    | exact keep_fold ‹_›
    | refine keep_fold ?_
    | refine keep_mk ?_

theorem keep_counterClear (s : State) (a : Nat) (f : FieldRow) (h0 : Keeps z s) : Keeps z (counterClear s a f) := by
  unfold counterClear
  repeat' with_reducible first
    | assumption
    | intro _
    | refine keep_setReg ?_ ?_ ?_ ?_
    | refine keep_ite ?_ ?_

theorem keep_storeField (a : Nat) (d : Word) (s : State) (f : FieldRow) (h2 : Keeps z s) : Keeps z (storeField a d s f) := by
  unfold storeField
  repeat' with_reducible first
    | assumption
    | intro _
    | refine keep_setReg ?_ ?_ ?_ ?_
    | refine keep_setShadow ?_ ?_ ?_ ?_
    | refine keep_counterClear ?_ ?_ ?_ ?_
    | refine keep_ite ?_ ?_
    | refine keep_snd ‹_› ?_
    | refine keep_snd2 ‹_› ?_
    | refine keep_snd3 ‹_› ?_
    | refine keep_fst ‹_› ?_
    | split

theorem keep_storeReg (l : RegLoc) (a : Nat) (d : Word) (s : State) (h3 : Keeps z s) : Keeps z (storeReg l a d s) := by
  unfold storeReg
  repeat' with_reducible first
    | assumption
    | intro _
    | refine keep_storeField ?_ ?_ ?_ ?_ ?_
    | refine keep_foldl ?_ ?_

theorem keep_lowerTaken (r : Requester) (a : Nat) (s : State) (h2 : Keeps z s) : Keeps z (lowerTaken r a s) := by
  unfold lowerTaken
  repeat' with_reducible first
    | assumption
    | intro _
    | refine keep_storeReg ?_ ?_ ?_ ?_ ?_
    | refine keep_lowerDrop ?_ ?_ ?_ ?_
    | refine keep_snd ‹_› ?_
    | refine keep_snd2 ‹_› ?_
    | refine keep_snd3 ‹_› ?_
    | refine keep_fst ‹_› ?_
    | split

theorem keep_mbTxClear (s : State) (h0 : Keeps z s) : Keeps z (mbTxClear s) := by
  unfold mbTxClear
  repeat' with_reducible first
    | assumption
    | intro _
    | dsimp only
    | exact keep_fold ‹_›
    | refine keep_fold ?_
    | refine keep_mk ?_

theorem keep_ethRefused (a : Nat) (s : State) (h1 : Keeps z s) : Keeps z (ethRefused a s) := by
  unfold ethRefused
  repeat' with_reducible first
    | assumption
    | intro _
    | refine keep_mbTxClear ?_ ?_
    | refine keep_ite ?_ ?_

theorem keep_ntmRefused (s : State) (h0 : Keeps z s) : Keeps z (ntmRefused s) := by
  unfold ntmRefused
  repeat' with_reducible first
    | assumption
    | intro _
    | refine keep_raise ?_ ?_ ?_
    | refine keep_bump ?_ ?_ ?_

theorem keep_writeRefused (l : RegLoc) (a : Nat) (n : Nat) (s : State) (h3 : Keeps z s) : Keeps z (writeRefused l a n s) := by
  unfold writeRefused
  repeat' with_reducible first
    | assumption
    | intro _
    | refine keep_recErr ?_ ?_ ?_ ?_ ?_
    | refine keep_ntmRefused ?_ ?_
    | refine keep_ethRefused ?_ ?_ ?_
    | refine keep_ite ?_ ?_

theorem keep_commitRequest (p : Nat) (d : Word) (s : State) (h2 : Keeps z s) : Keeps z (commitRequest p d s) := by
  unfold commitRequest
  repeat' with_reducible first
    | assumption
    | intro _
    | refine keep_setReg ?_ ?_ ?_ ?_
    | refine keep_getD ?_ ?_
    | dsimp only
    | exact keep_fold ‹_›
    | refine keep_fold ?_
    | refine keep_mk ?_

theorem keep_splitAct (o : State) (s : State) (h0 : Keeps z o) (h1 : Keeps z s) : Keeps z (splitAct o s) := by
  unfold splitAct
  repeat' with_reducible first
    | assumption
    | intro _
    | refine keep_wr ?_ ?_ ?_ ?_
    | refine keep_foldl ?_ ?_
    | refine keep_ite ?_ ?_
    | split
    | dsimp only
    | exact keep_fold ‹_›
    | refine keep_fold ?_
    | refine keep_mk ?_
    | refine keep_sram_nil ?_
    | refine keep_cal_nil ?_
    | refine keep_sram_word ?_
    | refine keep_cal_word ?_
    | refine keep_sram_half ?_
    | refine keep_sram_clear ?_
    | refine keep_cal_clear ?_
    | refine keep_cal_byte ?_
    | refine keep_sram_foldl ?_ ?_

theorem keep_onAcq (s : State) (f : Acq → Acq) (h0 : Keeps z s) : Keeps z (onAcq s f) := by
  unfold onAcq
  repeat' with_reducible first
    | assumption
    | intro _
    | dsimp only
    | exact keep_fold ‹_›
    | refine keep_fold ?_
    | refine keep_mk ?_

theorem keep_autoRestart (s : State) (h0 : Keeps z s) : Keeps z (autoRestart s) := by
  unfold autoRestart
  repeat' with_reducible first
    | assumption
    | intro _
    | refine keep_onAcq ?_ ?_ ?_

theorem keep_setLampEng (s : State) (e : Nat) (x : LampEng) (h0 : Keeps z s) : Keeps z (setLampEng s e x) := by
  unfold setLampEng
  repeat' with_reducible first
    | assumption
    | intro _
    | dsimp only
    | exact keep_fold ‹_›
    | refine keep_fold ?_
    | refine keep_mk ?_

theorem keep_lampEngStart (s : State) (e : Nat) (h0 : Keeps z s) : Keeps z (lampEngStart s e) := by
  unfold lampEngStart
  repeat' with_reducible first
    | assumption
    | intro _
    | refine keep_setLampEng ?_ ?_ ?_ ?_
    | refine keep_bump ?_ ?_ ?_
    | refine keep_ite ?_ ?_

theorem keep_lmpEdge (s : State) (src : Nat) (rise : Bool) (h0 : Keeps z s) : Keeps z (lmpEdge s src rise) := by
  unfold lmpEdge
  repeat' with_reducible first
    | assumption
    | intro _
    | refine keep_lampEngStart ?_ ?_ ?_
    | refine keep_setLampEng ?_ ?_ ?_ ?_
    | refine keep_foldl ?_ ?_
    | refine keep_ite ?_ ?_

theorem keep_setStream (s : State) (i : Nat) (l : List Rec) (h0 : Keeps z s) : Keeps z (setStream s i l) := by
  unfold setStream
  repeat' with_reducible first
    | assumption
    | intro _
    | refine keep_onAcq ?_ ?_ ?_

theorem keep_pushRec (s : State) (i : Nat) (r : Rec) (h0 : Keeps z s) : Keeps z (pushRec s i r) := by
  unfold pushRec
  repeat' with_reducible first
    | assumption
    | intro _
    | refine keep_setStream ?_ ?_ ?_ ?_

theorem keep_pushRing (s : State) (e : RingEnt) (h0 : Keeps z s) : Keeps z (pushRing s e) := by
  unfold pushRing
  repeat' with_reducible first
    | assumption
    | intro _
    | refine keep_pushRec ?_ ?_ ?_ ?_
    | refine keep_foldl ?_ ?_

theorem keep_pushSeq (s : State) (typ : Nat) (frame : Nat) (pos : Nat) (ws : List Word) (h0 : Keeps z s) :
    Keeps z (pushSeq s typ frame pos ws) := by
  unfold pushSeq
  repeat' with_reducible first
    | assumption
    | intro _
    | refine keep_pushRec ?_ ?_ ?_ ?_
    | refine keep_foldl ?_ ?_

theorem keep_onSeq (s : State) (num : Nat) (g : Seq → Seq) (h0 : Keeps z s) : Keeps z (onSeq s num g) := by
  unfold onSeq
  repeat' with_reducible first
    | assumption
    | intro _
    | refine keep_onAcq ?_ ?_ ?_

theorem keep_feedFront (s : State) (num : Nat) (o : Nat) (h0 : Keeps z s) : Keeps z (feedFront s num o) := by
  unfold feedFront
  repeat' with_reducible first
    | assumption
    | intro _
    | refine keep_pushRing ?_ ?_ ?_
    | refine keep_pushSeq ?_ ?_ ?_ ?_ ?_ ?_
    | refine keep_onSeq ?_ ?_ ?_ ?_
    | refine keep_foldl ?_ ?_
    | refine keep_snd ‹_› ?_
    | refine keep_snd2 ‹_› ?_
    | refine keep_snd3 ‹_› ?_
    | refine keep_fst ‹_› ?_
    | split

theorem keep_feedSeq (num : Nat) (a1 : Nat) (a2 : State) (h2 : Keeps z a2) : Keeps z (feedSeq num a1 a2) := by
  induction a1 generalizing a2 with
  | zero => assumption
  | succ rec_n ih =>
    unfold feedSeq
    repeat' with_reducible first
      | assumption
      | intro _
      | refine keep_pushRing ?_ ?_ ?_
      | refine keep_feedFront ?_ ?_ ?_ ?_
      | refine keep_wr ?_ ?_ ?_ ?_
      | refine keep_pushSeq ?_ ?_ ?_ ?_ ?_ ?_
      | refine keep_onSeq ?_ ?_ ?_ ?_
      | apply ih
      | refine keep_foldl ?_ ?_
      | refine keep_ite ?_ ?_
      | refine keep_getD ?_ ?_
      | refine keep_snd ‹_› ?_
      | refine keep_snd2 ‹_› ?_
      | refine keep_snd3 ‹_› ?_
      | refine keep_fst ‹_› ?_
      | split

theorem keep_feedAll (s : State) (h0 : Keeps z s) : Keeps z (feedAll s) := by
  unfold feedAll
  repeat' with_reducible first
    | assumption
    | intro _
    | refine keep_feedSeq ?_ ?_ ?_ ?_
    | refine keep_foldl ?_ ?_

theorem keep_seqStop (s : State) (h0 : Keeps z s) : Keeps z (seqStop s) := by
  unfold seqStop
  repeat' with_reducible first
    | assumption
    | intro _
    | refine keep_feedAll ?_ ?_
    | refine keep_onAcq ?_ ?_ ?_

theorem keep_closeFrames (s : State) (stopped : Bool) (h0 : Keeps z s) : Keeps z (closeFrames s stopped) := by
  unfold closeFrames
  repeat' with_reducible first
    | assumption
    | intro _
    | refine keep_onAcq ?_ ?_ ?_

theorem keep_onPath (s : State) (b : Bool) (f : Path → Path) (h0 : Keeps z s) : Keeps z (onPath s b f) := by
  unfold onPath
  repeat' with_reducible first
    | assumption
    | intro _
    | refine keep_ite ?_ ?_
    | split
    | dsimp only
    | exact keep_fold ‹_›
    | refine keep_fold ?_
    | refine keep_mk ?_

theorem keep_ss1End (s : State) (h0 : Keeps z s) : Keeps z (ss1End s) := by
  unfold ss1End
  repeat' with_reducible first
    | assumption
    | intro _
    | refine keep_setReg ?_ ?_ ?_ ?_
    | refine keep_wr ?_ ?_ ?_ ?_
    | refine keep_snd ‹_› ?_
    | refine keep_snd2 ‹_› ?_
    | refine keep_snd3 ‹_› ?_
    | refine keep_fst ‹_› ?_
    | split
    | dsimp only
    | exact keep_fold ‹_›
    | refine keep_fold ?_
    | refine keep_mk ?_

theorem keep_onMot (s : State) (f : Mot → Mot) (h0 : Keeps z s) : Keeps z (onMot s f) := by
  unfold onMot
  repeat' with_reducible first
    | assumption
    | intro _
    | dsimp only
    | exact keep_fold ‹_›
    | refine keep_fold ?_
    | refine keep_mk ?_

theorem keep_stopScheduling (s : State) (h0 : Keeps z s) : Keeps z (stopScheduling s) := by
  unfold stopScheduling
  repeat' with_reducible first
    | assumption
    | intro _
    | dsimp only
    | exact keep_fold ‹_›
    | refine keep_fold ?_
    | refine keep_mk ?_

theorem keep_modelLost (s : State) (h0 : Keeps z s) : Keeps z (modelLost s) := by
  unfold modelLost
  repeat' with_reducible first
    | assumption
    | intro _
    | refine keep_raise ?_ ?_ ?_
    | refine keep_stopScheduling ?_ ?_
    | refine keep_ite ?_ ?_

theorem keep_modelDrop (s : State) (h0 : Keeps z s) : Keeps z (modelDrop s) := by
  unfold modelDrop
  repeat' with_reducible first
    | assumption
    | intro _
    | refine keep_onMot ?_ ?_ ?_
    | refine keep_modelLost ?_ ?_
    | refine keep_wr ?_ ?_ ?_ ?_
    | refine keep_ite ?_ ?_

theorem keep_phaseClear (s : State) (h0 : Keeps z s) : Keeps z (phaseClear s) := by
  unfold phaseClear
  repeat' with_reducible first
    | assumption
    | intro _
    | refine keep_onMot ?_ ?_ ?_
    | refine keep_wr ?_ ?_ ?_ ?_

theorem keep_setSlot (s : State) (k : Nat) (x : Slot) (h0 : Keeps z s) : Keeps z (setSlot s k x) := by
  unfold setSlot
  repeat' with_reducible first
    | assumption
    | intro _
    | dsimp only
    | exact keep_fold ‹_›
    | refine keep_fold ?_
    | refine keep_mk ?_

theorem keep_slotDue (s : State) (k : Nat) (old : Option Int) (h0 : Keeps z s) : Keeps z (slotDue s k old) := by
  unfold slotDue
  repeat' with_reducible first
    | assumption
    | intro _
    | refine keep_setSlot ?_ ?_ ?_ ?_
    | refine keep_ite ?_ ?_

theorem keep_onGal (s : State) (f : Gal → Gal) (h0 : Keeps z s) : Keeps z (onGal s f) := by
  unfold onGal
  repeat' with_reducible first
    | assumption
    | intro _
    | dsimp only
    | exact keep_fold ‹_›
    | refine keep_fold ?_
    | refine keep_mk ?_

theorem keep_galActivate (s : State) (on : Bool) (h0 : Keeps z s) : Keeps z (galActivate s on) := by
  unfold galActivate
  repeat' with_reducible first
    | assumption
    | intro _
    | refine keep_onGal ?_ ?_ ?_
    | refine keep_wr ?_ ?_ ?_ ?_
    | refine keep_ite ?_ ?_

theorem keep_slotRefresh (s : State) (k : Nat) (h0 : Keeps z s) : Keeps z (slotRefresh s k) := by
  unfold slotRefresh
  repeat' with_reducible first
    | assumption
    | intro _
    | refine keep_setReg ?_ ?_ ?_ ?_
    | refine keep_setSlot ?_ ?_ ?_ ?_
    | refine keep_wrBit ?_ ?_ ?_ ?_ ?_
    | refine keep_galActivate ?_ ?_ ?_
    | refine keep_ite ?_ ?_

theorem keep_slotsRefresh (s : State) (h0 : Keeps z s) : Keeps z (slotsRefresh s) := by
  unfold slotsRefresh
  repeat' with_reducible first
    | assumption
    | intro _
    | refine keep_slotRefresh ?_ ?_ ?_
    | refine keep_wrB ?_ ?_ ?_ ?_
    | refine keep_foldl ?_ ?_

theorem keep_setMode (s : State) (new : Nat) (h0 : Keeps z s) : Keeps z (setMode s new) := by
  unfold setMode
  repeat' with_reducible first
    | assumption
    | intro _
    | refine keep_onMot ?_ ?_ ?_
    | refine keep_slotDue ?_ ?_ ?_ ?_
    | refine keep_modelDrop ?_ ?_
    | refine keep_wr ?_ ?_ ?_ ?_
    | refine keep_phaseClear ?_ ?_
    | refine keep_slotsRefresh ?_ ?_
    | refine keep_raise ?_ ?_ ?_
    | refine keep_ite ?_ ?_

theorem keep_motStop (s : State) (h0 : Keeps z s) : Keeps z (motStop s) := by
  unfold motStop
  repeat' with_reducible first
    | assumption
    | intro _
    | refine keep_onMot ?_ ?_ ?_
    | refine keep_wr ?_ ?_ ?_ ?_
    | refine keep_setMode ?_ ?_ ?_
    | refine keep_ite ?_ ?_

theorem keep_ss1Start (s : State) (h0 : Keeps z s) : Keeps z (ss1Start s) := by
  unfold ss1Start
  repeat' with_reducible first
    | assumption
    | intro _
    | refine keep_setReg ?_ ?_ ?_ ?_
    | refine keep_motStop ?_ ?_
    | refine keep_wr ?_ ?_ ?_ ?_
    | refine keep_raise ?_ ?_ ?_
    | refine keep_bump ?_ ?_ ?_
    | refine keep_ite ?_ ?_
    | split
    | dsimp only
    | exact keep_fold ‹_›
    | refine keep_fold ?_
    | refine keep_mk ?_

theorem keep_safLatch (s : State) (a : Bool) (b : Bool) (cause : Nat) (q : Torque) (h0 : Keeps z s) :
    Keeps z (safLatch s a b cause q) := by
  unfold safLatch
  repeat' with_reducible first
    | assumption
    | intro _
    | refine keep_ss1End ?_ ?_
    | refine keep_onPath ?_ ?_ ?_ ?_
    | refine keep_ss1Start ?_ ?_
    | refine keep_wr ?_ ?_ ?_ ?_
    | refine keep_lmpEdge ?_ ?_ ?_ ?_
    | refine keep_wrBit ?_ ?_ ?_ ?_ ?_
    | refine keep_raise ?_ ?_ ?_
    | refine keep_ite ?_ ?_
    | split
    | dsimp only
    | exact keep_fold ‹_›
    | refine keep_fold ?_
    | refine keep_mk ?_

theorem keep_torqueOff (s : State) (h0 : Keeps z s) : Keeps z (torqueOff s) := by
  unfold torqueOff
  repeat' with_reducible first
    | assumption
    | intro _
    | refine keep_onMot ?_ ?_ ?_
    | refine keep_wr ?_ ?_ ?_ ?_
    | refine keep_setMode ?_ ?_ ?_
    | refine keep_ite ?_ ?_

theorem keep_lampRelease (s : State) (h0 : Keeps z s) : Keeps z (lampRelease s) := by
  unfold lampRelease
  repeat' with_reducible first
    | assumption
    | intro _
    | dsimp only
    | exact keep_fold ‹_›
    | refine keep_fold ?_
    | refine keep_mk ?_

theorem keep_fbJudge (s : State) (laserMoved : Bool) (motorMoved : Bool) (h0 : Keeps z s) :
    Keeps z (fbJudge s laserMoved motorMoved) := by
  unfold fbJudge
  repeat' with_reducible first
    | assumption
    | intro _
    | refine keep_onPath ?_ ?_ ?_ ?_
    | refine keep_foldl ?_ ?_

theorem keep_safOutputs (s : State) (h0 : Keeps z s) : Keeps z (safOutputs s) := by
  unfold safOutputs
  repeat' with_reducible first
    | assumption
    | intro _
    | refine keep_torqueOff ?_ ?_
    | refine keep_wrB ?_ ?_ ?_ ?_
    | refine keep_lmpEdge ?_ ?_ ?_ ?_
    | refine keep_raise ?_ ?_ ?_
    | refine keep_fbJudge ?_ ?_ ?_ ?_
    | refine keep_lampRelease ?_ ?_
    | refine keep_ite ?_ ?_
    | split
    | dsimp only
    | exact keep_fold ‹_›
    | refine keep_fold ?_
    | refine keep_mk ?_

theorem keep_safRefresh (s : State) (h0 : Keeps z s) : Keeps z (safRefresh s) := by
  unfold safRefresh
  repeat' with_reducible first
    | assumption
    | intro _
    | refine keep_safOutputs ?_ ?_
    | refine keep_safLatch ?_ ?_ ?_ ?_ ?_ ?_
    | refine keep_ite ?_ ?_

theorem keep_refPermit (s : State) (h0 : Keeps z s) : Keeps z (refPermit s) := by
  unfold refPermit
  repeat' with_reducible first
    | assumption
    | intro _
    | refine keep_safRefresh ?_ ?_
    | refine keep_ite ?_ ?_
    | split
    | dsimp only
    | exact keep_fold ‹_›
    | refine keep_fold ?_
    | refine keep_mk ?_

theorem keep_onPair (s : State) (f : Pair → Pair) (h0 : Keeps z s) : Keeps z (onPair s f) := by
  unfold onPair
  repeat' with_reducible first
    | assumption
    | intro _
    | dsimp only
    | exact keep_fold ‹_›
    | refine keep_fold ?_
    | refine keep_mk ?_

theorem keep_pairSend (s : State) (sub : Nat) (bytes : Nat) (body : List Word) (h0 : Keeps z s) :
    Keeps z (pairSend s sub bytes body) := by
  unfold pairSend
  repeat' with_reducible first
    | assumption
    | intro _
    | refine keep_queueFrame ?_ ?_ ?_ ?_
    | refine keep_onPair ?_ ?_ ?_
    | refine keep_snd ‹_› ?_
    | refine keep_snd2 ‹_› ?_
    | refine keep_snd3 ‹_› ?_
    | refine keep_fst ‹_› ?_
    | split

theorem keep_cmpJudge (s : State) (frame : Nat) (h0 : Keeps z s) : Keeps z (cmpJudge s frame) := by
  unfold cmpJudge
  repeat' with_reducible first
    | assumption
    | intro _
    | refine keep_raise ?_ ?_ ?_
    | refine keep_bump ?_ ?_ ?_
    | refine keep_onPair ?_ ?_ ?_
    | refine keep_ite ?_ ?_

theorem keep_cmpEnd (s : State) (frame : Nat) (stopped : Bool) (h0 : Keeps z s) : Keeps z (cmpEnd s frame stopped) := by
  unfold cmpEnd
  repeat' with_reducible first
    | assumption
    | intro _
    | refine keep_onPair ?_ ?_ ?_
    | refine keep_pairSend ?_ ?_ ?_ ?_ ?_
    | refine keep_cmpJudge ?_ ?_ ?_
    | refine keep_ite ?_ ?_

theorem keep_onFrame (s : State) (num : Nat) (g : Frame → Frame) (h0 : Keeps z s) : Keeps z (onFrame s num g) := by
  unfold onFrame
  repeat' with_reducible first
    | assumption
    | intro _
    | refine keep_onAcq ?_ ?_ ?_

theorem keep_setLatest (s : State) (x : Option (Nat × Nat)) (h0 : Keeps z s) : Keeps z (setLatest s x) := by
  unfold setLatest
  repeat' with_reducible first
    | assumption
    | intro _
    | refine keep_wr ?_ ?_ ?_ ?_
    | refine keep_getD ?_ ?_
    | dsimp only
    | exact keep_fold ‹_›
    | refine keep_fold ?_
    | refine keep_mk ?_

theorem keep_onBuf (s : State) (frame : Nat) (f : VidBuf → VidBuf) (h0 : Keeps z s) : Keeps z (onBuf s frame f) := by
  unfold onBuf
  repeat' with_reducible first
    | assumption
    | intro _
    | refine keep_ite ?_ ?_
    | split
    | dsimp only
    | exact keep_fold ‹_›
    | refine keep_fold ?_
    | refine keep_mk ?_

theorem keep_giveBuffer (s : State) (frame : Nat) (h0 : Keeps z s) : Keeps z (giveBuffer s frame) := by
  unfold giveBuffer
  split
  · dsimp only
    have k : ∀ i : Nat, Keeps z (if s.vid.latest.map (·.1) = some i then
        setLatest (raise (bump s A.VID_C_SRC_DROP) F.VID_EVT_RAW_SRC_DROP) s.vid.shown else s) := fun i =>
      keep_ite h0 fun _ => keep_setLatest _ _ (keep_raise _ _ (keep_bump _ _ h0))
    refine keep_onBuf _ _ _ (keep_mk (keep_sram_foldl (fun m p h => keep_sram_pixel h) (keep_sram_word (k _))))
  · exact h0

theorem keep_bufferEnd (s : State) (b : VidBuf) (i : Nat) (stopped : Bool) (h0 : Keeps z s) :
    Keeps z (bufferEnd s b i stopped) := by
  unfold bufferEnd
  dsimp only
  refine keep_ite (keep_setLatest _ _ ?_) fun _ => keep_bump _ _ ?_
  all_goals
    refine keep_mk (keep_sram_word (keep_sram_word (keep_sram_word (keep_sram_word (keep_sram_clear ?_)))))
    refine keep_sram_foldl (fun m k h => ?_) h0
    exact keep_sram_ite h (keep_sram_pixel h)

theorem keep_vidFrameEnd (s : State) (frame : Nat) (stopped : Bool) (h0 : Keeps z s) : Keeps z (vidFrameEnd s frame stopped) := by
  unfold vidFrameEnd
  repeat' with_reducible first
    | assumption
    | intro _
    | refine keep_giveBuffer ?_ ?_ ?_
    | refine keep_bufferEnd ?_ ?_ ?_ ?_ ?_
    | refine keep_raise ?_ ?_ ?_
    | refine keep_bump ?_ ?_ ?_
    | refine keep_ite ?_ ?_
    | refine keep_snd ‹_› ?_
    | refine keep_snd2 ‹_› ?_
    | refine keep_snd3 ‹_› ?_
    | refine keep_fst ‹_› ?_
    | split
    | dsimp only
    | exact keep_fold ‹_›
    | refine keep_fold ?_
    | refine keep_mk ?_

theorem keep_pruneFrames (s : State) (h0 : Keeps z s) : Keeps z (pruneFrames s) := by
  unfold pruneFrames
  repeat' with_reducible first
    | assumption
    | intro _
    | refine keep_onAcq ?_ ?_ ?_

theorem keep_cmpTile (s : State) (r : Nat) (frame : Nat) (tile : Nat) (valid : Nat) (dsum : Nat) (h0 : Keeps z s) :
    Keeps z (cmpTile s r frame tile valid dsum) := by
  unfold cmpTile
  repeat' with_reducible first
    | assumption
    | intro _
    | refine keep_onPair ?_ ?_ ?_
    | refine keep_pairSend ?_ ?_ ?_ ?_ ?_
    | refine keep_ite ?_ ?_

theorem keep_endFrame (s : State) (f : Frame) (h0 : Keeps z s) : Keeps z (endFrame s f) := by
  unfold endFrame
  repeat' with_reducible first
    | assumption
    | intro _
    | refine keep_cmpEnd ?_ ?_ ?_ ?_
    | refine keep_onFrame ?_ ?_ ?_ ?_
    | refine keep_vidFrameEnd ?_ ?_ ?_ ?_
    | refine keep_pruneFrames ?_ ?_
    | refine keep_pushRec ?_ ?_ ?_ ?_
    | refine keep_wr ?_ ?_ ?_ ?_
    | refine keep_raise ?_ ?_ ?_
    | refine keep_bump ?_ ?_ ?_
    | refine keep_cmpTile ?_ ?_ ?_ ?_ ?_ ?_ ?_
    | refine keep_foldl ?_ ?_
    | refine keep_ite ?_ ?_
    | refine keep_snd ‹_› ?_
    | refine keep_snd2 ‹_› ?_
    | refine keep_snd3 ‹_› ?_
    | refine keep_fst ‹_› ?_
    | split

theorem keep_insertMark (s : State) (st : Nat) (m : Mark) (h0 : Keeps z s) : Keeps z (insertMark s st m) := by
  unfold insertMark
  repeat' with_reducible first
    | assumption
    | intro _
    | refine keep_setStream ?_ ?_ ?_ ?_

theorem keep_placeMark (s : State) (f : Frame) (m : Mark) (h0 : Keeps z s) : Keeps z (placeMark s f m) := by
  unfold placeMark
  repeat' with_reducible first
    | assumption
    | intro _
    | refine keep_insertMark ?_ ?_ ?_ ?_
    | refine keep_onAcq ?_ ?_ ?_
    | refine keep_foldl ?_ ?_

theorem keep_pushSlice (s : State) (frame : Nat) (pos : Nat) (l : List PixOut) (st : Nat) (h0 : Keeps z s) :
    Keeps z (pushSlice s frame pos l st) := by
  unfold pushSlice
  repeat' with_reducible first
    | assumption
    | intro _
    | refine keep_pushRec ?_ ?_ ?_ ?_
    | refine keep_ite ?_ ?_

theorem keep_emitPos (s : State) (f : Frame) (pos : Nat) (l : List PixOut) (h0 : Keeps z s) : Keeps z (emitPos s f pos l) := by
  unfold emitPos
  repeat' with_reducible first
    | assumption
    | intro _
    | refine keep_onFrame ?_ ?_ ?_ ?_
    | refine keep_pushSlice ?_ ?_ ?_ ?_ ?_ ?_
    | refine keep_pushRec ?_ ?_ ?_ ?_
    | refine keep_foldl ?_ ?_

theorem keep_flushFrame (num : Nat) (a1 : Nat) (a2 : State) (h2 : Keeps z a2) : Keeps z (flushFrame num a1 a2) := by
  induction a1 generalizing a2 with
  | zero => assumption
  | succ rec_n ih =>
    unfold flushFrame
    repeat' with_reducible first
      | assumption
      | intro _
      | refine keep_endFrame ?_ ?_ ?_
      | refine keep_placeMark ?_ ?_ ?_ ?_
      | refine keep_emitPos ?_ ?_ ?_ ?_ ?_
      | apply ih
      | refine keep_ite ?_ ?_
      | refine keep_snd ‹_› ?_
      | refine keep_snd2 ‹_› ?_
      | refine keep_snd3 ‹_› ?_
      | refine keep_fst ‹_› ?_
      | split
      | dsimp only

theorem keep_pushHeads (s : State) (f : Frame) (h0 : Keeps z s) : Keeps z (pushHeads s f) := by
  unfold pushHeads
  repeat' with_reducible first
    | assumption
    | intro _
    | refine keep_onFrame ?_ ?_ ?_ ?_
    | refine keep_pushRec ?_ ?_ ?_ ?_
    | refine keep_foldl ?_ ?_

theorem keep_flushList (a0 : List Frame) (a1 : State) (h1 : Keeps z a1) : Keeps z (flushList a0 a1) := by
  induction a0 generalizing a1 with
  | nil => assumption
  | cons a l ih =>
    unfold flushList
    repeat' with_reducible first
      | assumption
      | intro _
      | refine keep_flushFrame ?_ ?_ ?_ ?_
      | refine keep_pushHeads ?_ ?_ ?_
      | apply ih
      | refine keep_ite ?_ ?_

theorem keep_flushFrames (s : State) (h0 : Keeps z s) : Keeps z (flushFrames s) := by
  unfold flushFrames
  repeat' with_reducible first
    | assumption
    | intro _
    | refine keep_feedAll ?_ ?_
    | refine keep_flushList ?_ ?_ ?_

theorem keep_grantWatch (o : State) (s : State) (h0 : Keeps z o) (h1 : Keeps z s) : Keeps z (grantWatch o s) := by
  unfold grantWatch
  repeat' with_reducible first
    | assumption
    | intro _
    | refine keep_raise ?_ ?_ ?_
    | refine keep_ite ?_ ?_

theorem keep_onPln (s : State) (f : Pln → Pln) (h0 : Keeps z s) : Keeps z (onPln s f) := by
  unfold onPln
  repeat' with_reducible first
    | assumption
    | intro _
    | dsimp only
    | exact keep_fold ‹_›
    | refine keep_fold ?_
    | refine keep_mk ?_

theorem keep_grantAdd (s : State) (f : Nat × Nat × Bool → Bool) (h0 : Keeps z s) : Keeps z (grantAdd s f) := by
  unfold grantAdd
  repeat' with_reducible first
    | assumption
    | intro _
    | refine keep_onPln ?_ ?_ ?_

theorem keep_planFrameBoundary (s : State) (h0 : Keeps z s) : Keeps z (planFrameBoundary s) := by
  unfold planFrameBoundary
  repeat' with_reducible first
    | assumption
    | intro _
    | refine keep_grantWatch ?_ ?_ ?_ ?_
    | refine keep_grantAdd ?_ ?_ ?_

theorem keep_acqRefresh (s : State) (h0 : Keeps z s) : Keeps z (acqRefresh s) := by
  unfold acqRefresh
  repeat' with_reducible first
    | assumption
    | intro _
    | refine keep_flushFrames ?_ ?_
    | refine keep_onAcq ?_ ?_ ?_
    | refine keep_wr ?_ ?_ ?_ ?_
    | refine keep_lmpEdge ?_ ?_ ?_ ?_
    | refine keep_refPermit ?_ ?_
    | refine keep_planFrameBoundary ?_ ?_
    | refine keep_closeFrames ?_ ?_ ?_
    | refine keep_stopScheduling ?_ ?_
    | refine keep_seqStop ?_ ?_
    | refine keep_autoRestart ?_ ?_
    | refine keep_ite ?_ ?_

theorem keep_enableEffect (s : State) (h0 : Keeps z s) : Keeps z (enableEffect s) := by
  unfold enableEffect
  repeat' with_reducible first
    | assumption
    | intro _
    | refine keep_acqRefresh ?_ ?_
    | refine keep_onAcq ?_ ?_ ?_

theorem keep_leaveRun (s : State) (h0 : Keeps z s) : Keeps z (leaveRun s) := by
  unfold leaveRun
  repeat' with_reducible first
    | assumption
    | intro _
    | refine keep_enableEffect ?_ ?_
    | refine keep_wr ?_ ?_ ?_ ?_
    | refine keep_raise ?_ ?_ ?_
    | refine keep_stopScheduling ?_ ?_
    | refine keep_ite ?_ ?_

theorem keep_enterRun (s : State) (h0 : Keeps z s) : Keeps z (enterRun s) := by
  unfold enterRun
  repeat' with_reducible first
    | assumption
    | intro _
    | refine keep_acqRefresh ?_ ?_
    | refine keep_wr ?_ ?_ ?_ ?_
    | refine keep_raise ?_ ?_ ?_

theorem keep_stateReqAct (d : Word) (s : State) (h1 : Keeps z s) : Keeps z (stateReqAct d s) := by
  unfold stateReqAct
  repeat' with_reducible first
    | assumption
    | intro _
    | refine keep_leaveRun ?_ ?_
    | refine keep_wr ?_ ?_ ?_ ?_
    | refine keep_enterRun ?_ ?_
    | refine keep_ite ?_ ?_
    | split
    | dsimp only
    | exact keep_fold ‹_›
    | refine keep_fold ?_
    | refine keep_mk ?_
    | refine keep_sram_nil ?_
    | refine keep_cal_nil ?_
    | refine keep_sram_word ?_
    | refine keep_cal_word ?_
    | refine keep_sram_half ?_
    | refine keep_sram_clear ?_
    | refine keep_cal_clear ?_
    | refine keep_cal_byte ?_
    | refine keep_sram_foldl ?_ ?_
    | refine keep_cal_foldl ?_ ?_
    | refine keep_sram_ite ?_ ?_
    | refine keep_ringWords ?_
    | refine keep_densityTable ?_
    | refine keep_pwr ?_

theorem keep_onVid (s : State) (f : Vid → Vid) (h0 : Keeps z s) : Keeps z (onVid s f) := by
  unfold onVid
  repeat' with_reducible first
    | assumption
    | intro _
    | dsimp only
    | exact keep_fold ‹_›
    | refine keep_fold ?_
    | refine keep_mk ?_

theorem keep_pinsQuiet (s : State) (gap : Bool) (h0 : Keeps z s) : Keeps z (pinsQuiet s gap) := by
  unfold pinsQuiet
  repeat' with_reducible first
    | assumption
    | intro _
    | refine keep_onVid ?_ ?_ ?_

theorem keep_vidHalt (s : State) (h0 : Keeps z s) : Keeps z (vidHalt s) := by
  unfold vidHalt
  repeat' with_reducible first
    | assumption
    | intro _
    | refine keep_wr ?_ ?_ ?_ ?_
    | refine keep_onVid ?_ ?_ ?_
    | refine keep_pinsQuiet ?_ ?_ ?_

theorem keep_vidLockTo (s : State) (b : Bool) (h0 : Keeps z s) : Keeps z (vidLockTo s b) := by
  unfold vidLockTo
  repeat' with_reducible first
    | assumption
    | intro _
    | refine keep_wrB ?_ ?_ ?_ ?_

theorem keep_vidStopped (s : State) (h0 : Keeps z s) : Keeps z (vidStopped s) := by
  unfold vidStopped
  repeat' with_reducible first
    | assumption
    | intro _
    | refine keep_vidLockTo ?_ ?_ ?_
    | refine keep_vidHalt ?_ ?_

theorem keep_pwrAct (a : Nat) (d : Word) (o : State) (s : State) (h2 : Keeps z o) (h3 : Keeps z s) (hq : a = A.PWR_LC_REQ → LcTarget d) :
    Keeps z (pwrAct a d o s) := by
  unfold pwrAct
  refine keep_ite ?_ fun _ => keep_stateReqAct _ _ h3
  refine keep_ite ?_ fun _ => keep_ite h3 fun _ => keep_vidStopped _ h3
  refine keep_ite ?_ fun _ => keep_mk (keep_pwr (keep_fold h3))
  split
  · next e =>
    refine keep_wr _ _ _ (keep_wr _ _ _ ⟨h3.1, fun _ => rfl, fun f => ?_⟩)
    have k := h3.2.2 f
    refine ⟨k.1, k.2.1, k.2.2.1, fun x hx => ?_⟩
    cases hx
    exact hq e
  · exact h3

theorem keep_onMask (n : Nat) (mask : Nat) (f : State → Nat → State) (s : State) (h2 : ∀ x0 x1, Keeps z x0 → Keeps z (f x0 x1)) (h3 : Keeps z s) : Keeps z (onMask n mask f s) := by
  unfold onMask
  refine keep_foldl (fun s x h => ?_) h3
  exact keep_ite h (fun _ => h2 _ _ h)

theorem keep_pmonAct (a : Nat) (d : Word) (o : State) (s : State) (h2 : Keeps z o) (h3 : Keeps z s) :
    Keeps z (pmonAct a d o s) := by
  unfold pmonAct
  repeat' with_reducible first
    | assumption
    | intro _
    | refine keep_onMask ?_ ?_ ?_ ?_ ?_ ?_
    | refine keep_setMon ?_ ?_ ?_ ?_
    | refine keep_monStart ?_ ?_ ?_
    | refine keep_monSnap ?_ ?_ ?_
    | refine keep_ite ?_ ?_

theorem keep_tdcAct (a : Nat) (s : State) (h1 : Keeps z s) : Keeps z (tdcAct a s) := by
  unfold tdcAct
  repeat' with_reducible first
    | assumption
    | intro _
    | refine keep_ite ?_ ?_
    | split
    | dsimp only
    | exact keep_fold ‹_›
    | refine keep_fold ?_
    | refine keep_mk ?_

theorem keep_divOpen (a : Int) (b : Nat) (s : State) (h2 : Keeps z s) : Keeps z (divOpen a b s).2 := by
  unfold divOpen
  repeat' with_reducible first
    | assumption
    | intro _
    | refine keep_takeFree ?_ ?_ ?_
    | refine keep_ite ?_ ?_
    | refine keep_ite_snd ?_ ?_

theorem keep_tduSnap (s : State) (m : Nat) (h0 : Keeps z s) : Keeps z (tduSnap s m) := by
  unfold tduSnap
  repeat' with_reducible first
    | assumption
    | intro _
    | refine keep_setWide ?_ ?_ ?_ ?_
    | refine keep_divOpen ?_ ?_ ?_ ?_
    | refine keep_setReg ?_ ?_ ?_ ?_
    | refine keep_takeFree ?_ ?_ ?_
    | refine keep_wr ?_ ?_ ?_ ?_
    | refine keep_foldl ?_ ?_
    | refine keep_ite ?_ ?_

theorem keep_setTdu (s : State) (m : Nat) (st : Stat) (h0 : Keeps z s) : Keeps z (setTdu s m st) := by
  unfold setTdu
  repeat' with_reducible first
    | assumption
    | intro _
    | dsimp only
    | exact keep_fold ‹_›
    | refine keep_fold ?_
    | refine keep_mk ?_

theorem keep_setFc (s : State) (k : Nat) (c : Fc) (h0 : Keeps z s) : Keeps z (setFc s k c) := by
  unfold setFc
  repeat' with_reducible first
    | assumption
    | intro _
    | dsimp only
    | exact keep_fold ‹_›
    | refine keep_fold ?_
    | refine keep_mk ?_

theorem keep_fcStart (s : State) (k : Nat) (h0 : Keeps z s) : Keeps z (fcStart s k) := by
  unfold fcStart
  repeat' with_reducible first
    | assumption
    | intro _
    | refine keep_setReg ?_ ?_ ?_ ?_
    | refine keep_wr ?_ ?_ ?_ ?_
    | refine keep_setFc ?_ ?_ ?_ ?_

theorem keep_tduStart (s : State) (m : Nat) (h0 : Keeps z s) : Keeps z (tduStart s m) := by
  unfold tduStart
  repeat' with_reducible first
    | assumption
    | intro _
    | refine keep_setReg ?_ ?_ ?_ ?_
    | refine keep_setTdu ?_ ?_ ?_ ?_
    | refine keep_wr ?_ ?_ ?_ ?_

theorem keep_fctAct (a : Nat) (d : Word) (o : State) (s : State) (h2 : Keeps z o) (h3 : Keeps z s) : Keeps z (fctAct a d o s) := by
  unfold fctAct
  repeat' with_reducible first
    | assumption
    | intro _
    | refine keep_setTdu ?_ ?_ ?_ ?_
    | refine keep_onMask ?_ ?_ ?_ ?_ ?_ ?_
    | refine keep_fcStart ?_ ?_ ?_
    | refine keep_tduStart ?_ ?_ ?_
    | refine keep_setFc ?_ ?_ ?_ ?_
    | refine keep_tduSnap ?_ ?_ ?_
    | refine keep_ite ?_ ?_

theorem keep_colAdvance (s : State) (h0 : Keeps z s) : Keeps z (colAdvance s) := by
  unfold colAdvance
  repeat' with_reducible first
    | assumption
    | intro _
    | refine keep_wr ?_ ?_ ?_ ?_

theorem keep_colWrite (d : Word) (s : State) (h1 : Keeps z s) : Keeps z (colWrite d s) := by
  unfold colWrite
  repeat' with_reducible first
    | assumption
    | intro _
    | refine keep_colAdvance ?_ ?_
    | dsimp only
    | exact keep_fold ‹_›
    | refine keep_fold ?_
    | refine keep_mk ?_

theorem keep_toutTakeOne (s : State) (i : Nat) (h0 : Keeps z s) : Keeps z (toutTakeOne s i) := by
  unfold toutTakeOne
  repeat' with_reducible first
    | assumption
    | intro _
    | dsimp only
    | exact keep_fold ‹_›
    | refine keep_fold ?_
    | refine keep_mk ?_

theorem keep_toutWrite (s : State) (i : Nat) (h0 : Keeps z s) : Keeps z (toutWrite s i) := by
  unfold toutWrite
  repeat' with_reducible first
    | assumption
    | intro _
    | refine keep_toutTakeOne ?_ ?_ ?_
    | refine keep_ite ?_ ?_

theorem keep_toutBegin (s : State) (i : Nat) (start : Nat) (width : Nat) (h0 : Keeps z s) :
    Keeps z (toutBegin s i start width) := by
  unfold toutBegin
  repeat' with_reducible first
    | assumption
    | intro _
    | dsimp only
    | exact keep_fold ‹_›
    | refine keep_fold ?_
    | refine keep_mk ?_

theorem keep_toutFire (s : State) (i : Nat) (start : Nat) (late : Bool) (h0 : Keeps z s) : Keeps z (toutFire s i start late) := by
  unfold toutFire
  repeat' with_reducible first
    | assumption
    | intro _
    | refine keep_wr ?_ ?_ ?_ ?_
    | refine keep_toutBegin ?_ ?_ ?_ ?_ ?_
    | refine keep_raise ?_ ?_ ?_
    | refine keep_ite ?_ ?_

theorem keep_toutLate (s : State) (i : Nat) (h0 : Keeps z s) : Keeps z (toutLate s i) := by
  unfold toutLate
  repeat' with_reducible first
    | assumption
    | intro _
    | refine keep_toutFire ?_ ?_ ?_ ?_ ?_
    | refine keep_ite ?_ ?_

theorem keep_trigEvent (s : State) (b : Nat) (instant : Nat) (forced : Bool) (mask : Option (Nat × Nat)) (h0 : Keeps z s) :
    Keeps z (trigEvent s b instant forced mask) := by
  unfold trigEvent
  repeat' with_reducible first
    | assumption
    | intro _
    | refine keep_onAcq ?_ ?_ ?_
    | refine keep_raise ?_ ?_ ?_
    | refine keep_bump ?_ ?_ ?_
    | refine keep_ite ?_ ?_

theorem keep_nttFire (s : State) (i : Nat) (instant : Nat) (late : Bool) (h0 : Keeps z s) : Keeps z (nttFire s i instant late) := by
  unfold nttFire
  repeat' with_reducible first
    | assumption
    | intro _
    | refine keep_trigEvent ?_ ?_ ?_ ?_ ?_ ?_
    | refine keep_wr ?_ ?_ ?_ ?_
    | refine keep_raise ?_ ?_ ?_
    | refine keep_ite ?_ ?_

theorem keep_nttLate (s : State) (i : Nat) (h0 : Keeps z s) : Keeps z (nttLate s i) := by
  unfold nttLate
  repeat' with_reducible first
    | assumption
    | intro _
    | refine keep_nttFire ?_ ?_ ?_ ?_ ?_
    | refine keep_ite ?_ ?_

theorem keep_timedAct (a : Nat) (d : Word) (s : State) (h2 : Keeps z s) : Keeps z (timedAct a d s) := by
  unfold timedAct
  repeat' with_reducible first
    | assumption
    | intro _
    | refine keep_toutLate ?_ ?_ ?_
    | refine keep_toutWrite ?_ ?_ ?_
    | refine keep_wr ?_ ?_ ?_ ?_
    | refine keep_nttLate ?_ ?_ ?_
    | refine keep_ite ?_ ?_

theorem keep_escAct (a : Nat) (o : State) (s : State) (h1 : Keeps z o) (h2 : Keeps z s) : Keeps z (escAct a o s) := by
  unfold escAct
  repeat' with_reducible first
    | assumption
    | intro _
    | refine keep_stopScheduling ?_ ?_
    | refine keep_ite ?_ ?_

theorem keep_inspLatch (s : State) (h0 : Keeps z s) : Keeps z (inspLatch s) := by
  unfold inspLatch
  repeat' with_reducible first
    | assumption
    | intro _
    | refine keep_setReg ?_ ?_ ?_ ?_
    | refine keep_wr ?_ ?_ ?_ ?_
    | refine keep_foldl ?_ ?_

theorem keep_inspAdvance (s : State) (h0 : Keeps z s) : Keeps z (inspAdvance s) := by
  unfold inspAdvance
  repeat' with_reducible first
    | assumption
    | intro _
    | refine keep_wr ?_ ?_ ?_ ?_

theorem keep_inspWrite (d : Word) (s : State) (h1 : Keeps z s) : Keeps z (inspWrite d s) := by
  unfold inspWrite
  repeat' with_reducible first
    | assumption
    | intro _
    | refine keep_inspAdvance ?_ ?_
    | refine keep_setEngine ?_ ?_ ?_ ?_

theorem keep_vatAct (a : Nat) (d : Word) (s : State) (h2 : Keeps z s) : Keeps z (vatAct a d s) := by
  unfold vatAct
  repeat' with_reducible first
    | assumption
    | intro _
    | refine keep_inspLatch ?_ ?_
    | refine keep_inspWrite ?_ ?_ ?_
    | refine keep_wr ?_ ?_ ?_ ?_
    | refine keep_ite ?_ ?_

theorem keep_retHold (s : State) (h0 : Keeps z s) : Keeps z (retHold s) := by
  unfold retHold
  repeat' with_reducible first
    | assumption
    | intro _
    | refine keep_wr ?_ ?_ ?_ ?_
    | refine keep_raise ?_ ?_ ?_
    | refine keep_ite ?_ ?_

theorem keep_retTemp (s : State) (h0 : Keeps z s) : Keeps z (retTemp s) := by
  unfold retTemp
  repeat' with_reducible first
    | assumption
    | intro _
    | refine keep_setReg ?_ ?_ ?_ ?_
    | refine keep_wr ?_ ?_ ?_ ?_
    | refine keep_retHold ?_ ?_
    | refine keep_ite ?_ ?_

theorem keep_retAct (a : Nat) (s : State) (h1 : Keeps z s) : Keeps z (retAct a s) := by
  unfold retAct
  repeat' with_reducible first
    | assumption
    | intro _
    | refine keep_retTemp ?_ ?_
    | refine keep_ite ?_ ?_

theorem keep_acqSettle (s : State) (h0 : Keeps z s) : Keeps z (acqSettle s) := by
  unfold acqSettle
  repeat' with_reducible first
    | assumption
    | intro _
    | refine keep_enableEffect ?_ ?_
    | refine keep_enterRun ?_ ?_
    | refine keep_ite ?_ ?_

theorem keep_acqAct (a : Nat) (d : Word) (o : State) (s : State) (h2 : Keeps z o) (h3 : Keeps z s) : Keeps z (acqAct a d o s) := by
  unfold acqAct
  repeat' with_reducible first
    | assumption
    | intro _
    | refine keep_trigEvent ?_ ?_ ?_ ?_ ?_ ?_
    | refine keep_onAcq ?_ ?_ ?_
    | refine keep_autoRestart ?_ ?_
    | refine keep_acqSettle ?_ ?_
    | refine keep_ite ?_ ?_

theorem keep_actA (p : Nat) (a : Nat) (d : Word) (o : State) (s : State) (h3 : Keeps z o) (h4 : Keeps z s) (hq : p = 0x2000 → a = A.PWR_LC_REQ → LcTarget d) :
    Keeps z (actA p a d o s) := by
  unfold actA
  refine keep_ite ?_ fun _ => keep_splitAct _ _ h3 h4
  split
  · next e => exact keep_pwrAct _ _ _ _ h3 h4 (hq e)
  · clear hq
    repeat' with_reducible first
      | assumption
      | intro _
      | refine keep_ite ?_ ?_
      | refine keep_pmonAct _ _ _ _ ?_ ?_
      | refine keep_tdcAct _ _ ?_
      | refine keep_fctAct _ _ _ _ ?_ ?_
      | refine keep_colWrite _ _ ?_
      | refine keep_timedAct _ _ _ ?_
      | refine keep_escAct _ _ _ ?_ ?_
      | refine keep_vatAct _ _ _ ?_
      | refine keep_retAct _ _ ?_
      | refine keep_acqAct _ _ _ _ ?_ ?_

theorem keep_applyEq (s : State) (l : Nat) (h0 : Keeps z s) : Keeps z (applyEq s l) := by
  unfold applyEq
  repeat' with_reducible first
    | assumption
    | intro _
    | refine keep_wr ?_ ?_ ?_ ?_
    | refine keep_ite ?_ ?_
    | refine keep_snd ‹_› ?_
    | refine keep_snd2 ‹_› ?_
    | refine keep_snd3 ‹_› ?_
    | refine keep_fst ‹_› ?_
    | split

theorem keep_startLane (s : State) (b : Nat) (i : Nat) (rate : Nat) (h0 : Keeps z s) : Keeps z (startLane s b i rate) := by
  unfold startLane
  repeat' with_reducible first
    | assumption
    | intro _
    | refine keep_setLane ?_ ?_ ?_ ?_
    | refine keep_wr ?_ ?_ ?_ ?_
    | refine keep_applyEq ?_ ?_ ?_
    | refine keep_setBitLock ?_ ?_ ?_ ?_
    | refine keep_onLane ?_ ?_ ?_ ?_

theorem keep_enterDetect (s : State) (b : Nat) (attempts : Nat) (h0 : Keeps z s) : Keeps z (enterDetect s b attempts) := by
  unfold enterDetect
  repeat' with_reducible first
    | assumption
    | intro _
    | refine keep_startLane ?_ ?_ ?_ ?_ ?_
    | refine keep_setBState ?_ ?_ ?_ ?_
    | refine keep_wr ?_ ?_ ?_ ?_
    | refine keep_wrB ?_ ?_ ?_ ?_
    | refine keep_onBundle ?_ ?_ ?_ ?_
    | refine keep_foldl ?_ ?_

theorem keep_showReplay (s : State) (b : Nat) (h0 : Keeps z s) : Keeps z (showReplay s b) := by
  unfold showReplay
  repeat' with_reducible first
    | assumption
    | intro _
    | refine keep_wr ?_ ?_ ?_ ?_
    | refine keep_monSample ?_ ?_ ?_ ?_ ?_

theorem keep_dropReplay (s : State) (b : Nat) (h0 : Keeps z s) : Keeps z (dropReplay s b) := by
  unfold dropReplay
  repeat' with_reducible first
    | assumption
    | intro _
    | refine keep_bumpBy ?_ ?_ ?_ ?_
    | refine keep_wr ?_ ?_ ?_ ?_
    | refine keep_showReplay ?_ ?_ ?_
    | refine keep_raise ?_ ?_ ?_
    | refine keep_onBundle ?_ ?_ ?_ ?_
    | refine keep_ite ?_ ?_
    | split
    | dsimp only
    | exact keep_fold ‹_›
    | refine keep_fold ?_
    | refine keep_mk ?_

theorem keep_disableBundle (s : State) (b : Nat) (h0 : Keeps z s) : Keeps z (disableBundle s b) := by
  unfold disableBundle
  repeat' with_reducible first
    | assumption
    | intro _
    | refine keep_setBState ?_ ?_ ?_ ?_
    | refine keep_setBundle ?_ ?_ ?_ ?_
    | refine keep_setLane ?_ ?_ ?_ ?_
    | refine keep_dropReplay ?_ ?_ ?_
    | refine keep_setBitLock ?_ ?_ ?_ ?_
    | refine keep_foldl ?_ ?_

theorem keep_tryPower (s : State) (b : Nat) (h0 : Keeps z s) : Keeps z (tryPower s b) := by
  unfold tryPower
  repeat' with_reducible first
    | assumption
    | intro _
    | refine keep_onBundle ?_ ?_ ?_ ?_
    | refine keep_sendLcw ?_ ?_ ?_ ?_
    | refine keep_ite ?_ ?_

theorem keep_laneEnChange (s : State) (b : Nat) (old : Nat) (h0 : Keeps z s) : Keeps z (laneEnChange s b old) := by
  unfold laneEnChange
  repeat' with_reducible first
    | assumption
    | intro _
    | refine keep_startLane ?_ ?_ ?_ ?_ ?_
    | refine keep_showLanes ?_ ?_ ?_
    | refine keep_setLane ?_ ?_ ?_ ?_
    | refine keep_setOffer ?_ ?_ ?_ ?_
    | refine keep_onBundle ?_ ?_ ?_ ?_
    | refine keep_onLane ?_ ?_ ?_ ?_
    | refine keep_at' ?_ ?_ ?_
    | refine keep_foldl ?_ ?_
    | refine keep_ite ?_ ?_

theorem keep_bAct (b : Nat) (off : Nat) (d : Word) (before : State) (s : State) (h3 : Keeps z before) (h4 : Keeps z s) :
    Keeps z (bAct b off d before s) := by
  unfold bAct
  repeat' with_reducible first
    | assumption
    | intro _
    | refine keep_enterDetect ?_ ?_ ?_ ?_
    | refine keep_newLcw ?_ ?_ ?_
    | refine keep_laneEnChange ?_ ?_ ?_ ?_
    | refine keep_enterRecovery ?_ ?_ ?_
    | refine keep_disableBundle ?_ ?_ ?_
    | refine keep_tryPower ?_ ?_ ?_
    | refine keep_ite ?_ ?_

theorem keep_laneUnlock (s : State) (l : Nat) (h0 : Keeps z s) : Keeps z (laneUnlock s l) := by
  unfold laneUnlock
  repeat' with_reducible first
    | assumption
    | intro _
    | refine keep_setPllLock ?_ ?_ ?_ ?_
    | refine keep_losePositions ?_ ?_ ?_ ?_ ?_
    | refine keep_newLcw ?_ ?_ ?_
    | refine keep_ite ?_ ?_
    | refine keep_snd ‹_› ?_
    | refine keep_snd2 ‹_› ?_
    | refine keep_snd3 ‹_› ?_
    | refine keep_fst ‹_› ?_
    | split
    | dsimp only

theorem keep_measureLane (s : State) (l : Nat) (h0 : Keeps z s) : Keeps z (measureLane s l) := by
  unfold measureLane
  repeat' with_reducible first
    | assumption
    | intro _
    | refine keep_setReg ?_ ?_ ?_ ?_
    | refine keep_takeFree ?_ ?_ ?_
    | refine keep_wr ?_ ?_ ?_ ?_
    | refine keep_ite ?_ ?_

theorem keep_adaptLane (s : State) (l : Nat) (h0 : Keeps z s) : Keeps z (adaptLane s l) := by
  unfold adaptLane
  repeat' with_reducible first
    | assumption
    | intro _
    | refine keep_measureLane ?_ ?_ ?_
    | refine keep_ite ?_ ?_

theorem keep_lnqAct (q : Nat) (off : Nat) (d : Word) (o' : State) (s : State) (h3 : Keeps z o') (h4 : Keeps z s) :
    Keeps z (lnqAct q off d o' s) := by
  unfold lnqAct
  repeat' with_reducible first
    | assumption
    | intro _
    | refine keep_setPllLock ?_ ?_ ?_ ?_
    | refine keep_setLane ?_ ?_ ?_ ?_
    | refine keep_wr ?_ ?_ ?_ ?_
    | refine keep_wrB ?_ ?_ ?_ ?_
    | refine keep_laneUnlock ?_ ?_ ?_
    | refine keep_applyEq ?_ ?_ ?_
    | refine keep_setBitLock ?_ ?_ ?_ ?_
    | refine keep_adaptLane ?_ ?_ ?_
    | refine keep_onLane ?_ ?_ ?_ ?_
    | refine keep_at' ?_ ?_ ?_
    | refine keep_foldl ?_ ?_
    | refine keep_ite ?_ ?_

theorem keep_setQueue (s : State) (k : Nat) (q : Queue) (h0 : Keeps z s) : Keeps z (setQueue s k q) := by
  unfold setQueue
  repeat' with_reducible first
    | assumption
    | intro _
    | dsimp only
    | exact keep_fold ‹_›
    | refine keep_fold ?_
    | refine keep_mk ?_

theorem keep_bump31 (s : State) (a : Nat) (n : Nat) (h0 : Keeps z s) : Keeps z (bump31 s a n) := by
  unfold bump31
  repeat' with_reducible first
    | assumption
    | intro _
    | refine keep_setReg ?_ ?_ ?_ ?_
    | refine keep_ite ?_ ?_

theorem keep_discard (s : State) (k : Nat) (r : QRec) (h0 : Keeps z s) : Keeps z (discard s k r) := by
  unfold discard
  repeat' with_reducible first
    | assumption
    | intro _
    | refine keep_setReg ?_ ?_ ?_ ?_
    | refine keep_setQueue ?_ ?_ ?_ ?_
    | refine keep_bump31 ?_ ?_ ?_ ?_
    | refine keep_raise ?_ ?_ ?_
    | refine keep_bump ?_ ?_ ?_
    | refine keep_ite ?_ ?_

theorem keep_poolWatch (before : Nat) (k : Nat) (s : State) (h2 : Keeps z s) : Keeps z (poolWatch before k s) := by
  unfold poolWatch
  repeat' with_reducible first
    | assumption
    | intro _
    | refine keep_wr ?_ ?_ ?_ ?_
    | refine keep_raise ?_ ?_ ?_
    | refine keep_monSample ?_ ?_ ?_ ?_ ?_
    | refine keep_ite ?_ ?_

theorem keep_touchPool (s : State) (h0 : Keeps z s) : Keeps z (touchPool s) := by
  unfold touchPool
  repeat' with_reducible first
    | assumption
    | intro _
    | dsimp only
    | exact keep_fold ‹_›
    | refine keep_fold ?_
    | refine keep_mk ?_

theorem keep_takeIn (s : State) (k : Nat) (r : QRec) (h0 : Keeps z s) : Keeps z (takeIn s k r) := by
  unfold takeIn
  repeat' with_reducible first
    | assumption
    | intro _
    | refine keep_poolWatch ?_ ?_ ?_ ?_
    | refine keep_touchPool ?_ ?_
    | refine keep_setQueue ?_ ?_ ?_ ?_

theorem keep_settleQueue (s : State) (k : Nat) (h0 : Keeps z s) : Keeps z (settleQueue s k) := by
  unfold settleQueue
  repeat' with_reducible first
    | assumption
    | intro _
    | refine keep_setQueue ?_ ?_ ?_ ?_
    | refine keep_ite ?_ ?_

theorem keep_applyQueue (s : State) (k : Nat) (h0 : Keeps z s) : Keeps z (applyQueue s k) := by
  unfold applyQueue
  repeat' with_reducible first
    | assumption
    | intro _
    | refine keep_setReg ?_ ?_ ?_ ?_
    | refine keep_setQueue ?_ ?_ ?_ ?_
    | refine keep_settleQueue ?_ ?_ ?_
    | refine keep_ite ?_ ?_
    | split
    | dsimp only
    | exact keep_fold ‹_›
    | refine keep_fold ?_
    | refine keep_mk ?_

end Sys2Proof.Machine
end

