-- ==== Sys2Proof/Laws/KeepB.lean ====
section
/-!
SUPPORT. What each operation keeps, part 2: the canonical form of the memories, and legal fuses.
-/

namespace Sys2Proof.Machine

set_option Elab.async false

variable {z : State}

theorem keep_enterRec (s : State) (k : Nat) (r : QRec) (h0 : Keeps z s) : Keeps z (enterRec s k r) := by
  unfold enterRec
  repeat' with_reducible first
    | assumption
    | intro _
    | refine keep_discard ?_ ?_ ?_ ?_
    | refine keep_takeIn ?_ ?_ ?_ ?_
    | refine keep_applyQueue ?_ ?_ ?_
    | refine keep_ite ?_ ?_

theorem keep_drainWait (a0 : Nat) (a1 : Nat) (a2 : State) (h2 : Keeps z a2) : Keeps z (drainWait a0 a1 a2) := by
  induction a0 generalizing a1 a2 with
  | zero => assumption
  | succ rec_n ih =>
    unfold drainWait
    repeat' with_reducible first
      | assumption
      | intro _
      | refine keep_enterRec ?_ ?_ ?_ ?_
      | refine keep_setQueue ?_ ?_ ?_ ?_
      | apply ih
      | refine keep_ite ?_ ?_
      | refine keep_snd ‹_› ?_
      | refine keep_snd2 ‹_› ?_
      | refine keep_snd3 ‹_› ?_
      | refine keep_fst ‹_› ?_
      | split
      | dsimp only

theorem keep_drainAll (s : State) (h0 : Keeps z s) : Keeps z (drainAll s) := by
  unfold drainAll
  repeat' with_reducible first
    | assumption
    | intro _
    | refine keep_drainWait ?_ ?_ ?_ ?_
    | refine keep_foldl ?_ ?_
    | refine keep_ite ?_ ?_

theorem keep_stqAct (a : Nat) (d : Word) (s : State) (h2 : Keeps z s) : Keeps z (stqAct a d s) := by
  unfold stqAct
  repeat' with_reducible first
    | assumption
    | intro _
    | refine keep_drainAll ?_ ?_
    | refine keep_wr ?_ ?_ ?_ ?_
    | refine keep_ite ?_ ?_

theorem keep_releaseBlock (s : State) (k : Nat) (n : Nat) (out : List Byte) (stored : Bool) (h0 : Keeps z s) :
    Keeps z (releaseBlock s k n out stored) := by
  unfold releaseBlock
  repeat' with_reducible first
    | assumption
    | intro _
    | refine keep_poolWatch ?_ ?_ ?_ ?_
    | refine keep_bumpBy ?_ ?_ ?_ ?_
    | refine keep_drainAll ?_ ?_
    | refine keep_setQueue ?_ ?_ ?_ ?_
    | refine keep_bump ?_ ?_ ?_
    | refine keep_settleQueue ?_ ?_ ?_
    | refine keep_snd ‹_› ?_
    | refine keep_snd2 ‹_› ?_
    | refine keep_snd3 ‹_› ?_
    | refine keep_fst ‹_› ?_
    | split
    | dsimp only
    | exact keep_fold ‹_›
    | refine keep_fold ?_
    | refine keep_mk ?_

theorem keep_endJob (s : State) (e : Nat) (n : Nat) (h0 : Keeps z s) : Keeps z (endJob s e n) := by
  unfold endJob
  repeat' with_reducible first
    | assumption
    | intro _
    | refine keep_wr ?_ ?_ ?_ ?_
    | refine keep_setPress ?_ ?_ ?_ ?_
    | refine keep_monSample ?_ ?_ ?_ ?_ ?_

theorem keep_placeOutput (s : State) (k : Nat) (e : Nat) (a3 : Halt) (h0 : Keeps z s) : Keeps z (placeOutput s k e a3) := by
  unfold placeOutput
  repeat' with_reducible first
    | assumption
    | intro _
    | refine keep_poolWatch ?_ ?_ ?_ ?_
    | refine keep_touchPool ?_ ?_
    | refine keep_endJob ?_ ?_ ?_ ?_
    | refine keep_setReg ?_ ?_ ?_ ?_
    | refine keep_takeFree ?_ ?_ ?_
    | refine keep_wr ?_ ?_ ?_ ?_
    | refine keep_setQueue ?_ ?_ ?_ ?_
    | refine keep_setPress ?_ ?_ ?_ ?_
    | refine keep_raise ?_ ?_ ?_
    | refine keep_bump ?_ ?_ ?_
    | refine keep_releaseBlock ?_ ?_ ?_ ?_ ?_ ?_
    | refine keep_ite ?_ ?_
    | refine keep_snd ‹_› ?_
    | refine keep_snd2 ‹_› ?_
    | refine keep_snd3 ‹_› ?_
    | refine keep_fst ‹_› ?_
    | split

theorem keep_resumeJob (s : State) (k : Nat) (e : Nat) (a3 : Halt) (h0 : Keeps z s) : Keeps z (resumeJob s k e a3) := by
  unfold resumeJob
  repeat' with_reducible first
    | assumption
    | intro _
    | refine keep_placeOutput ?_ ?_ ?_ ?_ ?_
    | refine keep_wr ?_ ?_ ?_ ?_
    | refine keep_setQueue ?_ ?_ ?_ ?_
    | refine keep_raise ?_ ?_ ?_

theorem keep_dropJobs (s : State) (h0 : Keeps z s) : Keeps z (dropJobs s) := by
  unfold dropJobs
  repeat' with_reducible first
    | assumption
    | intro _
    | refine keep_wr ?_ ?_ ?_ ?_
    | refine keep_setPress ?_ ?_ ?_ ?_
    | refine keep_foldl ?_ ?_
    | refine keep_ite ?_ ?_

theorem keep_prsAct (a : Nat) (d : Word) (s : State) (h2 : Keeps z s) : Keeps z (prsAct a d s) := by
  unfold prsAct
  repeat' with_reducible first
    | assumption
    | intro _
    | refine keep_resumeJob ?_ ?_ ?_ ?_ ?_
    | refine keep_dropJobs ?_ ?_
    | refine keep_ite ?_ ?_
    | refine keep_snd ‹_› ?_
    | refine keep_snd2 ‹_› ?_
    | refine keep_snd3 ‹_› ?_
    | refine keep_fst ‹_› ?_
    | split

theorem keep_wnbAct (a : Nat) (o : State) (s : State) (h1 : Keeps z o) (h2 : Keeps z s) : Keeps z (wnbAct a o s) := by
  unfold wnbAct
  repeat' with_reducible first
    | assumption
    | intro _
    | refine keep_enterDetect ?_ ?_ ?_ ?_
    | refine keep_wrBit ?_ ?_ ?_ ?_ ?_
    | refine keep_foldl ?_ ?_
    | refine keep_ite ?_ ?_

theorem keep_agreeJudge (s : State) (h0 : Keeps z s) : Keeps z (agreeJudge s) := by
  unfold agreeJudge
  repeat' with_reducible first
    | assumption
    | intro _
    | refine keep_ite ?_ ?_
    | split
    | dsimp only
    | exact keep_fold ‹_›
    | refine keep_fold ?_
    | refine keep_mk ?_

theorem keep_speedJudge (s : State) (index : Bool) (h0 : Keeps z s) : Keeps z (speedJudge s index) := by
  unfold speedJudge
  repeat' with_reducible first
    | assumption
    | intro _
    | refine keep_ite ?_ ?_
    | split
    | dsimp only
    | exact keep_fold ‹_›
    | refine keep_fold ?_
    | refine keep_mk ?_

theorem keep_safSpeedRefresh (s : State) (h0 : Keeps z s) : Keeps z (safSpeedRefresh s) := by
  unfold safSpeedRefresh
  repeat' with_reducible first
    | assumption
    | intro _
    | refine keep_speedJudge ?_ ?_ ?_
    | refine keep_agreeJudge ?_ ?_
    | refine keep_safRefresh ?_ ?_

theorem keep_galRamp (s : State) (h0 : Keeps z s) : Keeps z (galRamp s) := by
  unfold galRamp
  repeat' with_reducible first
    | assumption
    | intro _
    | refine keep_onGal ?_ ?_ ?_
    | refine keep_wr ?_ ?_ ?_ ?_

theorem keep_galRefresh (s : State) (h0 : Keeps z s) : Keeps z (galRefresh s) := by
  unfold galRefresh
  repeat' with_reducible first
    | assumption
    | intro _
    | refine keep_onGal ?_ ?_ ?_
    | refine keep_slotDue ?_ ?_ ?_ ?_
    | refine keep_wr ?_ ?_ ?_ ?_
    | refine keep_galRamp ?_ ?_
    | refine keep_ite ?_ ?_

theorem keep_tickNumber (n : Nat) (s : State) (h1 : Keeps z s) : Keeps z (tickNumber n s) := by
  unfold tickNumber
  repeat' with_reducible first
    | assumption
    | intro _
    | refine keep_setReg ?_ ?_ ?_ ?_
    | dsimp only
    | exact keep_fold ‹_›
    | refine keep_fold ?_
    | refine keep_mk ?_

theorem keep_scnAct (a : Nat) (o : State) (s : State) (h1 : Keeps z o) (h2 : Keeps z s) : Keeps z (scnAct a o s) := by
  unfold scnAct
  repeat' with_reducible first
    | assumption
    | intro _
    | refine keep_tickNumber ?_ ?_ ?_
    | refine keep_galRefresh ?_ ?_
    | refine keep_safSpeedRefresh ?_ ?_
    | refine keep_wrB ?_ ?_ ?_ ?_
    | refine keep_slotsRefresh ?_ ?_
    | refine keep_ite ?_ ?_

theorem keep_modeRaise (s : State) (m : Nat) (h0 : Keeps z s) : Keeps z (modeRaise s m) := by
  unfold modeRaise
  repeat' with_reducible first
    | assumption
    | intro _
    | refine keep_onMot ?_ ?_ ?_
    | refine keep_wrB ?_ ?_ ?_ ?_
    | refine keep_setMode ?_ ?_ ?_
    | refine keep_ite ?_ ?_

theorem keep_modeLower (s : State) (m : Nat) (h0 : Keeps z s) : Keeps z (modeLower s m) := by
  unfold modeLower
  repeat' with_reducible first
    | assumption
    | intro _
    | refine keep_onMot ?_ ?_ ?_
    | refine keep_wr ?_ ?_ ?_ ?_

theorem keep_modeRequest (s : State) (m : Nat) (h0 : Keeps z s) : Keeps z (modeRequest s m) := by
  unfold modeRequest
  repeat' with_reducible first
    | assumption
    | intro _
    | refine keep_torqueOff ?_ ?_
    | refine keep_modeLower ?_ ?_ ?_
    | refine keep_modeRaise ?_ ?_ ?_
    | refine keep_safSpeedRefresh ?_ ?_
    | refine keep_ite ?_ ?_

theorem keep_motAct (a : Nat) (s : State) (h1 : Keeps z s) : Keeps z (motAct a s) := by
  unfold motAct
  repeat' with_reducible first
    | assumption
    | intro _
    | refine keep_modeRequest ?_ ?_ ?_
    | refine keep_torqueOff ?_ ?_
    | refine keep_safSpeedRefresh ?_ ?_
    | refine keep_ite ?_ ?_

theorem keep_galTblAdvance (s : State) (h0 : Keeps z s) : Keeps z (galTblAdvance s) := by
  unfold galTblAdvance
  repeat' with_reducible first
    | assumption
    | intro _
    | refine keep_wr ?_ ?_ ?_ ?_

theorem keep_galTblWrite (d : Word) (s : State) (h1 : Keeps z s) : Keeps z (galTblWrite d s) := by
  unfold galTblWrite
  repeat' with_reducible first
    | assumption
    | intro _
    | refine keep_onGal ?_ ?_ ?_
    | refine keep_galTblAdvance ?_ ?_

theorem keep_galAct (a : Nat) (d : Word) (s : State) (h2 : Keeps z s) : Keeps z (galAct a d s) := by
  unfold galAct
  repeat' with_reducible first
    | assumption
    | intro _
    | refine keep_wr ?_ ?_ ?_ ?_
    | refine keep_galTblWrite ?_ ?_ ?_
    | refine keep_slotsRefresh ?_ ?_
    | refine keep_ite ?_ ?_

theorem keep_sdfClock (s : State) (h0 : Keeps z s) : Keeps z (sdfClock s) := by
  unfold sdfClock
  repeat' with_reducible first
    | assumption
    | intro _
    | refine keep_wrB ?_ ?_ ?_ ?_
    | refine keep_ite ?_ ?_

theorem keep_sdfStart (s : State) (c : Nat) (h0 : Keeps z s) : Keeps z (sdfStart s c) := by
  unfold sdfStart
  repeat' with_reducible first
    | assumption
    | intro _
    | refine keep_setSdf ?_ ?_ ?_ ?_
    | refine keep_setReg ?_ ?_ ?_ ?_
    | refine keep_bump ?_ ?_ ?_

theorem keep_sdfStartAll (s : State) (h0 : Keeps z s) : Keeps z (sdfStartAll s) := by
  unfold sdfStartAll
  repeat' with_reducible first
    | assumption
    | intro _
    | refine keep_sdfStart ?_ ?_ ?_
    | refine keep_foldl ?_ ?_
    | refine keep_ite ?_ ?_

theorem keep_sdfAct (a : Nat) (d : Word) (o : State) (s : State) (h2 : Keeps z o) (h3 : Keeps z s) : Keeps z (sdfAct a d o s) := by
  unfold sdfAct
  repeat' with_reducible first
    | assumption
    | intro _
    | refine keep_sdfStartAll ?_ ?_
    | refine keep_wr ?_ ?_ ?_ ?_
    | refine keep_sdfClock ?_ ?_
    | refine keep_ite ?_ ?_

theorem keep_safClose (s : State) (h0 : Keeps z s) : Keeps z (safClose s) := by
  unfold safClose
  repeat' with_reducible first
    | assumption
    | intro _
    | refine keep_setReg ?_ ?_ ?_ ?_
    | refine keep_onPath ?_ ?_ ?_ ?_
    | refine keep_wr ?_ ?_ ?_ ?_
    | refine keep_safSpeedRefresh ?_ ?_
    | refine keep_wrBit ?_ ?_ ?_ ?_ ?_
    | refine keep_safLatch ?_ ?_ ?_ ?_ ?_ ?_
    | refine keep_raise ?_ ?_ ?_
    | refine keep_fbJudge ?_ ?_ ?_ ?_
    | refine keep_safRefresh ?_ ?_
    | refine keep_ite ?_ ?_

theorem keep_actB (p : Nat) (a : Nat) (d : Word) (o : State) (s : State) (h3 : Keeps z o) (h4 : Keeps z s) :
    Keeps z (actB p a d o s) := by
  unfold actB
  repeat' with_reducible first
    | assumption
    | intro _
    | refine keep_prsAct ?_ ?_ ?_ ?_
    | refine keep_galAct ?_ ?_ ?_ ?_
    | refine keep_lnqAct ?_ ?_ ?_ ?_ ?_ ?_ ?_
    | refine keep_safClose ?_ ?_
    | refine keep_bAct ?_ ?_ ?_ ?_ ?_ ?_ ?_
    | refine keep_wnbAct ?_ ?_ ?_ ?_ ?_
    | refine keep_motAct ?_ ?_ ?_
    | refine keep_scnAct ?_ ?_ ?_ ?_ ?_
    | refine keep_stqAct ?_ ?_ ?_ ?_
    | refine keep_sdfAct ?_ ?_ ?_ ?_ ?_ ?_
    | refine keep_ite ?_ ?_
    | refine keep_snd ‹_› ?_
    | refine keep_snd2 ‹_› ?_
    | refine keep_snd3 ‹_› ?_
    | refine keep_fst ‹_› ?_
    | split

theorem keep_learn (s : State) (port : Nat) (m : Nat) (h0 : Keeps z s) : Keeps z (learn s port m) := by
  unfold learn
  repeat' with_reducible first
    | assumption
    | intro _
    | refine keep_raise ?_ ?_ ?_
    | refine keep_setMacs ?_ ?_ ?_
    | refine keep_bump ?_ ?_ ?_
    | refine keep_ite ?_ ?_

theorem keep_hostDrop (s : State) (h0 : Keeps z s) : Keeps z (hostDrop s) := by
  unfold hostDrop
  repeat' with_reducible first
    | assumption
    | intro _
    | refine keep_raise ?_ ?_ ?_
    | refine keep_bump ?_ ?_ ?_

theorem keep_hostSend (s : State) (kind : Nat) (port : Nat) (valid : Bool) (prov : Bool) (degr : Bool) (id : Nat) (ts : Nat) (f : List Byte) (h0 : Keeps z s) :
    Keeps z (hostSend s kind port valid prov degr id ts f) := by
  unfold hostSend
  repeat' with_reducible first
    | assumption
    | intro _
    | refine keep_raise ?_ ?_ ?_
    | refine keep_queueFrame ?_ ?_ ?_ ?_
    | refine keep_hostDrop ?_ ?_
    | refine keep_foldl ?_ ?_
    | refine keep_ite ?_ ?_
    | split
    | dsimp only
    | exact keep_fold ‹_›
    | refine keep_fold ?_
    | refine keep_mk ?_

theorem keep_tsReport (s : State) (i : EthItem) (p : Nat) (ts : Option Nat) (h0 : Keeps z s) : Keeps z (tsReport s i p ts) := by
  unfold tsReport
  repeat' with_reducible first
    | assumption
    | intro _
    | refine keep_hostSend ?_ ?_ ?_ ?_ ?_ ?_ ?_ ?_ ?_ ?_
    | refine keep_ite ?_ ?_

theorem keep_nextEthId (s : State) (h0 : Keeps z s) : Keeps z (nextEthId s) := by
  unfold nextEthId
  repeat' with_reducible first
    | assumption
    | intro _
    | dsimp only
    | exact keep_fold ‹_›
    | refine keep_fold ?_
    | refine keep_mk ?_

theorem keep_pauseJudge (s : State) (p : Nat) (h0 : Keeps z s) : Keeps z (pauseJudge s p) := by
  unfold pauseJudge
  repeat' with_reducible first
    | assumption
    | intro _
    | refine keep_bump ?_ ?_ ?_
    | refine keep_ite ?_ ?_
    | split
    | dsimp only
    | exact keep_fold ‹_›
    | refine keep_fold ?_
    | refine keep_mk ?_

theorem keep_setLow (s : State) (p : Nat) (l : List EthItem) (h0 : Keeps z s) : Keeps z (setLow s p l) := by
  unfold setLow
  exact keep_mk (keep_fold h0)

theorem keep_setHigh (s : State) (p : Nat) (l : List EthItem) (h0 : Keeps z s) : Keeps z (setHigh s p l) := by
  unfold setHigh
  repeat' with_reducible first
    | assumption
    | intro _
    | refine keep_setLow ?_ ?_ ?_ ?_
    | dsimp only
    | exact keep_fold ‹_›
    | refine keep_fold ?_
    | refine keep_mk ?_

theorem keep_egressDrop (s : State) (i : EthItem) (p : Nat) (h0 : Keeps z s) : Keeps z (egressDrop s i p) := by
  unfold egressDrop
  repeat' with_reducible first
    | assumption
    | intro _
    | refine keep_tsReport ?_ ?_ ?_ ?_ ?_
    | refine keep_bump ?_ ?_ ?_
    | refine keep_hostDrop ?_ ?_
    | refine keep_ite ?_ ?_

theorem keep_egressPush (s : State) (i : EthItem) (p : Nat) (h0 : Keeps z s) : Keeps z (egressPush s i p) := by
  unfold egressPush
  repeat' with_reducible first
    | assumption
    | intro _
    | refine keep_egressDrop ?_ ?_ ?_ ?_
    | refine keep_setLow ?_ ?_ ?_ ?_
    | refine keep_setHigh ?_ ?_ ?_ ?_
    | refine keep_ite ?_ ?_

theorem keep_forward (s : State) (i : EthItem) (ps : List Nat) (h0 : Keeps z s) : Keeps z (forward s i ps) := by
  unfold forward
  repeat' with_reducible first
    | assumption
    | intro _
    | refine keep_pauseJudge ?_ ?_ ?_
    | refine keep_tsReport ?_ ?_ ?_ ?_ ?_
    | refine keep_nextEthId ?_ ?_
    | refine keep_bump ?_ ?_ ?_
    | refine keep_egressPush ?_ ?_ ?_ ?_
    | refine keep_hostDrop ?_ ?_
    | refine keep_foldl ?_ ?_
    | refine keep_ite ?_ ?_

theorem keep_hostFrame (s : State) (w0 : Word) (w1 : Word) (f : List Byte) (h0 : Keeps z s) : Keeps z (hostFrame s w0 w1 f) := by
  unfold hostFrame
  repeat' with_reducible first
    | assumption
    | intro _
    | refine keep_egressDrop ?_ ?_ ?_ ?_
    | refine keep_learn ?_ ?_ ?_ ?_
    | refine keep_tsReport ?_ ?_ ?_ ?_ ?_
    | refine keep_forward ?_ ?_ ?_ ?_
    | refine keep_foldl ?_ ?_
    | refine keep_ite ?_ ?_

theorem keep_mbSend (s : State) (h0 : Keeps z s) : Keeps z (mbSend s) := by
  unfold mbSend
  repeat' with_reducible first
    | assumption
    | intro _
    | refine keep_hostFrame ?_ ?_ ?_ ?_ ?_
    | refine keep_mbTxClear ?_ ?_
    | refine keep_ite ?_ ?_

theorem keep_ethAct (a : Nat) (d : Word) (s : State) (h2 : Keeps z s) : Keeps z (ethAct a d s) := by
  unfold ethAct
  repeat' with_reducible first
    | assumption
    | intro _
    | refine keep_mbSend ?_ ?_
    | refine keep_mbTxClear ?_ ?_
    | refine keep_ite ?_ ?_
    | split
    | dsimp only
    | exact keep_fold ‹_›
    | refine keep_fold ?_
    | refine keep_mk ?_

theorem keep_portDown (s : State) (p : Nat) (h0 : Keeps z s) : Keeps z (portDown s p) := by
  unfold portDown
  repeat' with_reducible first
    | assumption
    | intro _
    | refine keep_setReg ?_ ?_ ?_ ?_
    | refine keep_egressDrop ?_ ?_ ?_ ?_
    | refine keep_setLow ?_ ?_ ?_ ?_
    | refine keep_setHigh ?_ ?_ ?_ ?_
    | refine keep_setMacs ?_ ?_ ?_
    | refine keep_foldl ?_ ?_
    | dsimp only
    | exact keep_fold ‹_›
    | refine keep_fold ?_
    | refine keep_mk ?_

theorem keep_ethpAct (a : Nat) (o : State) (s : State) (h1 : Keeps z o) (h2 : Keeps z s) : Keeps z (ethpAct a o s) := by
  unfold ethpAct
  repeat' with_reducible first
    | assumption
    | intro _
    | refine keep_portDown ?_ ?_ ?_
    | refine keep_raise ?_ ?_ ?_
    | refine keep_ite ?_ ?_

theorem keep_ntmRate (s : State) (incr : Nat) (h0 : Keeps z s) : Keeps z (ntmRate s incr) := by
  unfold ntmRate
  repeat' with_reducible first
    | assumption
    | intro _
    | refine keep_ite ?_ ?_
    | refine keep_snd ‹_› ?_
    | refine keep_snd2 ‹_› ?_
    | refine keep_snd3 ‹_› ?_
    | refine keep_fst ‹_› ?_
    | split
    | dsimp only
    | exact keep_fold ‹_›
    | refine keep_fold ?_
    | refine keep_mk ?_

theorem keep_timeSend (s : State) (edge : Nat) (incr : Option Nat) (step : Option Int) (h0 : Keeps z s) :
    Keeps z (timeSend s edge incr step) := by
  unfold timeSend
  repeat' with_reducible first
    | assumption
    | intro _
    | refine keep_pairSend ?_ ?_ ?_ ?_ ?_
    | refine keep_ite ?_ ?_

theorem keep_timedLate (s : State) (h0 : Keeps z s) : Keeps z (timedLate s) := by
  unfold timedLate
  repeat' with_reducible first
    | assumption
    | intro _
    | refine keep_toutLate ?_ ?_ ?_
    | refine keep_nttLate ?_ ?_ ?_
    | refine keep_foldl ?_ ?_

theorem keep_planResync (s : State) (h0 : Keeps z s) : Keeps z (planResync s) := by
  unfold planResync
  repeat' with_reducible first
    | assumption
    | intro _
    | refine keep_onPln ?_ ?_ ?_
    | refine keep_raise ?_ ?_ ?_

theorem keep_ntmStep (s : State) (ns : Int) (h0 : Keeps z s) : Keeps z (ntmStep s ns) := by
  unfold ntmStep
  repeat' with_reducible first
    | assumption
    | intro _
    | dsimp only
    | exact keep_fold ‹_›
    | refine keep_fold ?_
    | refine keep_mk ?_

theorem keep_stepApplied (s : State) (ns : Int) (h0 : Keeps z s) : Keeps z (stepApplied s ns) := by
  unfold stepApplied
  repeat' with_reducible first
    | assumption
    | intro _
    | refine keep_timedLate ?_ ?_
    | refine keep_raise ?_ ?_ ?_
    | refine keep_bump ?_ ?_ ?_
    | refine keep_ntmStep ?_ ?_ ?_
    | refine keep_planResync ?_ ?_

theorem keep_ntmRemode (t : Nat) (s : State) (h1 : Keeps z s) : Keeps z (ntmRemode t s) := by
  unfold ntmRemode
  repeat' with_reducible first
    | assumption
    | intro _
    | refine keep_ite ?_ ?_
    | refine keep_snd ‹_› ?_
    | refine keep_snd2 ‹_› ?_
    | refine keep_snd3 ‹_› ?_
    | refine keep_fst ‹_› ?_
    | split
    | dsimp only
    | exact keep_fold ‹_›
    | refine keep_fold ?_
    | refine keep_mk ?_

theorem keep_degradedWatch (o : State) (s : State) (h0 : Keeps z o) (h1 : Keeps z s) : Keeps z (degradedWatch o s) := by
  unfold degradedWatch
  repeat' with_reducible first
    | assumption
    | intro _
    | refine keep_raise ?_ ?_ ?_
    | refine keep_ite ?_ ?_

theorem keep_ntmAct (a : Nat) (d : Word) (o : State) (s : State) (h2 : Keeps z o) (h3 : Keeps z s) : Keeps z (ntmAct a d o s) := by
  unfold ntmAct
  repeat' with_reducible first
    | assumption
    | intro _
    | refine keep_ntmRate ?_ ?_ ?_
    | refine keep_wr ?_ ?_ ?_ ?_
    | refine keep_timeSend ?_ ?_ ?_ ?_ ?_
    | refine keep_ntmRemode ?_ ?_ ?_
    | refine keep_stepApplied ?_ ?_ ?_
    | refine keep_degradedWatch ?_ ?_ ?_ ?_
    | refine keep_ite ?_ ?_
    | split
    | dsimp only
    | exact keep_fold ‹_›
    | refine keep_fold ?_
    | refine keep_mk ?_

theorem keep_planEnter (s : State) (st : Nat) (h0 : Keeps z s) : Keeps z (planEnter s st) := by
  unfold planEnter
  repeat' with_reducible first
    | assumption
    | intro _
    | refine keep_onPln ?_ ?_ ?_
    | refine keep_wr ?_ ?_ ?_ ?_
    | refine keep_grantWatch ?_ ?_ ?_ ?_

theorem keep_planStart (s : State) (h0 : Keeps z s) : Keeps z (planStart s) := by
  unfold planStart
  repeat' with_reducible first
    | assumption
    | intro _
    | refine keep_planEnter ?_ ?_ ?_

theorem keep_planFarewell (s : State) (h0 : Keeps z s) : Keeps z (planFarewell s) := by
  unfold planFarewell
  repeat' with_reducible first
    | assumption
    | intro _
    | refine keep_onPln ?_ ?_ ?_

theorem keep_planEnable (s : State) (h0 : Keeps z s) : Keeps z (planEnable s) := by
  unfold planEnable
  repeat' with_reducible first
    | assumption
    | intro _
    | refine keep_planEnter ?_ ?_ ?_
    | refine keep_planFarewell ?_ ?_
    | refine keep_planStart ?_ ?_
    | refine keep_ite ?_ ?_

theorem keep_peerLatch (s : State) (h0 : Keeps z s) : Keeps z (peerLatch s) := by
  unfold peerLatch
  repeat' with_reducible first
    | assumption
    | intro _
    | refine keep_setReg ?_ ?_ ?_ ?_
    | refine keep_foldl ?_ ?_

theorem keep_plnAct (a : Nat) (o : State) (s : State) (h1 : Keeps z o) (h2 : Keeps z s) : Keeps z (plnAct a o s) := by
  unfold plnAct
  repeat' with_reducible first
    | assumption
    | intro _
    | refine keep_planEnable ?_ ?_
    | refine keep_peerLatch ?_ ?_
    | refine keep_ite ?_ ?_

theorem keep_vtblNext (s : State) (h0 : Keeps z s) : Keeps z (vtblNext s) := by
  unfold vtblNext
  repeat' with_reducible first
    | assumption
    | intro _
    | refine keep_wr ?_ ?_ ?_ ?_

theorem keep_vidAct (a : Nat) (d : Word) (_o : State) (s : State) (h2 : Keeps z _o) (h3 : Keeps z s) :
    Keeps z (vidAct a d _o s) := by
  unfold vidAct
  repeat' with_reducible first
    | assumption
    | intro _
    | refine keep_onVid ?_ ?_ ?_
    | refine keep_vtblNext ?_ ?_
    | refine keep_ite ?_ ?_

theorem keep_onHka (s : State) (f : Hka → Hka) (h0 : Keeps z s) : Keeps z (onHka s f) := by
  unfold onHka
  repeat' with_reducible first
    | assumption
    | intro _
    | dsimp only
    | exact keep_fold ‹_›
    | refine keep_fold ?_
    | refine keep_mk ?_

theorem keep_hkaBegin (s : State) (kind : Nat) (c : Nat) (h0 : Keeps z s) : Keeps z (hkaBegin s kind c) := by
  unfold hkaBegin
  repeat' with_reducible first
    | assumption
    | intro _
    | refine keep_onHka ?_ ?_ ?_
    | refine keep_wr ?_ ?_ ?_ ?_
    | refine keep_ite ?_ ?_

theorem keep_hkaNext (s : State) (h0 : Keeps z s) : Keeps z (hkaNext s) := by
  unfold hkaNext
  repeat' with_reducible first
    | assumption
    | intro _
    | refine keep_onHka ?_ ?_ ?_
    | refine keep_hkaBegin ?_ ?_ ?_ ?_
    | refine keep_ite ?_ ?_
    | refine keep_snd ‹_› ?_
    | refine keep_snd2 ‹_› ?_
    | refine keep_snd3 ‹_› ?_
    | refine keep_fst ‹_› ?_
    | split

theorem keep_hkaHalt (s : State) (h0 : Keeps z s) : Keeps z (hkaHalt s) := by
  unfold hkaHalt
  repeat' with_reducible first
    | assumption
    | intro _
    | refine keep_onHka ?_ ?_ ?_
    | refine keep_wr ?_ ?_ ?_ ?_

theorem keep_roundRequest (s : State) (h0 : Keeps z s) : Keeps z (roundRequest s) := by
  unfold roundRequest
  repeat' with_reducible first
    | assumption
    | intro _
    | refine keep_onHka ?_ ?_ ?_
    | refine keep_wr ?_ ?_ ?_ ?_
    | refine keep_raise ?_ ?_ ?_
    | refine keep_bump ?_ ?_ ?_
    | refine keep_ite ?_ ?_

theorem keep_hkaAbort (s : State) (h0 : Keeps z s) : Keeps z (hkaAbort s) := by
  unfold hkaAbort
  repeat' with_reducible first
    | assumption
    | intro _
    | refine keep_onHka ?_ ?_ ?_
    | refine keep_bump ?_ ?_ ?_
    | refine keep_ite ?_ ?_
    | refine keep_snd ‹_› ?_
    | refine keep_snd2 ‹_› ?_
    | refine keep_snd3 ‹_› ?_
    | refine keep_fst ‹_› ?_
    | split

theorem keep_hostRequest (s : State) (h0 : Keeps z s) : Keeps z (hostRequest s) := by
  unfold hostRequest
  repeat' with_reducible first
    | assumption
    | intro _
    | refine keep_wr ?_ ?_ ?_ ?_
    | refine keep_hkaNext ?_ ?_
    | refine keep_hkaAbort ?_ ?_
    | refine keep_ite ?_ ?_

theorem keep_linLoad (first : Nat) (d : Word) (s : State) (h2 : Keeps z s) : Keeps z (linLoad first d s) := by
  unfold linLoad
  repeat' with_reducible first
    | assumption
    | intro _
    | refine keep_onHka ?_ ?_ ?_
    | refine keep_foldl ?_ ?_
    | refine keep_ite ?_ ?_

theorem keep_chanRestart (s : State) (c : Nat) (h0 : Keeps z s) : Keeps z (chanRestart s c) := by
  unfold chanRestart
  repeat' with_reducible first
    | assumption
    | intro _
    | refine keep_onHka ?_ ?_ ?_
    | refine keep_wr ?_ ?_ ?_ ?_

theorem keep_excAct (o : State) (s : State) (k : Nat) (h0 : Keeps z o) (h1 : Keeps z s) : Keeps z (excAct o s k) := by
  unfold excAct
  repeat' with_reducible first
    | assumption
    | intro _
    | refine keep_chanRestart ?_ ?_ ?_
    | refine keep_wr ?_ ?_ ?_ ?_
    | refine keep_foldl ?_ ?_
    | refine keep_ite ?_ ?_

theorem keep_hkaAct (a : Nat) (d : Word) (o : State) (s : State) (h2 : Keeps z o) (h3 : Keeps z s) : Keeps z (hkaAct a d o s) := by
  unfold hkaAct
  repeat' with_reducible first
    | assumption
    | intro _
    | refine keep_hostRequest ?_ ?_
    | refine keep_linLoad ?_ ?_ ?_ ?_
    | refine keep_chanRestart ?_ ?_ ?_
    | refine keep_hkaHalt ?_ ?_
    | refine keep_excAct ?_ ?_ ?_ ?_ ?_
    | refine keep_hkaNext ?_ ?_
    | refine keep_roundRequest ?_ ?_
    | refine keep_ite ?_ ?_

theorem keep_onThm (s : State) (f : Thm → Thm) (h0 : Keeps z s) : Keeps z (onThm s f) := by
  unfold onThm
  repeat' with_reducible first
    | assumption
    | intro _
    | dsimp only
    | exact keep_fold ‹_›
    | refine keep_fold ?_
    | refine keep_mk ?_

theorem keep_thmAct (a : Nat) (o : State) (s : State) (h1 : Keeps z o) (h2 : Keeps z s) : Keeps z (thmAct a o s) := by
  unfold thmAct
  repeat' with_reducible first
    | assumption
    | intro _
    | refine keep_wr ?_ ?_ ?_ ?_
    | refine keep_onThm ?_ ?_ ?_
    | refine keep_ite ?_ ?_
    | refine keep_snd ‹_› ?_
    | refine keep_snd2 ‹_› ?_
    | refine keep_snd3 ‹_› ?_
    | refine keep_fst ‹_› ?_
    | split

theorem keep_jobRestore (s : State) (j : CalJob) (h0 : Keeps z s) : Keeps z (jobRestore s j) := by
  unfold jobRestore
  repeat' with_reducible first
    | assumption
    | intro _
    | refine keep_settle ?_ ?_ ?_
    | refine keep_foldl ?_ ?_
    | refine keep_ite ?_ ?_

theorem keep_calStart (s : State) (h0 : Keeps z s) : Keeps z (calStart s) := by
  unfold calStart
  repeat' with_reducible first
    | assumption
    | intro _
    | refine keep_setReg ?_ ?_ ?_ ?_
    | refine keep_onCal ?_ ?_ ?_
    | refine keep_raise ?_ ?_ ?_
    | refine keep_ite ?_ ?_

theorem keep_calAgain (s : State) (h0 : Keeps z s) : Keeps z (calAgain s) := by
  unfold calAgain
  repeat' with_reducible first
    | assumption
    | intro _
    | refine keep_calStart ?_ ?_
    | refine keep_ite ?_ ?_

theorem keep_jobEnd (s : State) (st : Nat) (h0 : Keeps z s) : Keeps z (jobEnd s st) := by
  unfold jobEnd
  repeat' with_reducible first
    | assumption
    | intro _
    | refine keep_jobRestore ?_ ?_ ?_
    | refine keep_setReg ?_ ?_ ?_ ?_
    | refine keep_calAgain ?_ ?_
    | refine keep_onCal ?_ ?_ ?_
    | refine keep_wr ?_ ?_ ?_ ?_
    | refine keep_wrB ?_ ?_ ?_ ?_
    | refine keep_raise ?_ ?_ ?_
    | refine keep_bump ?_ ?_ ?_
    | refine keep_ite ?_ ?_
    | refine keep_snd ‹_› ?_
    | refine keep_snd2 ‹_› ?_
    | refine keep_snd3 ‹_› ?_
    | refine keep_fst ‹_› ?_
    | split

theorem keep_recFail (s : State) (p : Nat) (code : Nat) (h0 : Keeps z s) : Keeps z (recFail s p code) := by
  unfold recFail
  repeat' with_reducible first
    | assumption
    | intro _
    | refine keep_recErr ?_ ?_ ?_ ?_ ?_
    | refine keep_ite ?_ ?_
    | split
    | dsimp only
    | exact keep_fold ‹_›
    | refine keep_fold ?_
    | refine keep_mk ?_

theorem keep_jobFail (s : State) (code : Nat) (h0 : Keeps z s) : Keeps z (jobFail s code) := by
  unfold jobFail
  repeat' with_reducible first
    | assumption
    | intro _
    | refine keep_recFail ?_ ?_ ?_ ?_
    | refine keep_jobEnd ?_ ?_ ?_
    | refine keep_ite ?_ ?_

theorem keep_jobStart (s : State) (h0 : Keeps z s) : Keeps z (jobStart s) := by
  unfold jobStart
  repeat' with_reducible first
    | assumption
    | intro _
    | refine keep_setReg ?_ ?_ ?_ ?_
    | refine keep_jobFail ?_ ?_ ?_
    | refine keep_onCal ?_ ?_ ?_
    | refine keep_wr ?_ ?_ ?_ ?_
    | refine keep_ite ?_ ?_
    | split
    | dsimp only
    | exact keep_fold ‹_›
    | refine keep_fold ?_
    | refine keep_mk ?_
    | refine keep_sram_nil ?_
    | refine keep_cal_nil ?_
    | refine keep_sram_word ?_
    | refine keep_cal_word ?_
    | refine keep_sram_half ?_
    | refine keep_sram_clear ?_
    | refine keep_cal_clear ?_

theorem keep_calStale (s : State) (h0 : Keeps z s) : Keeps z (calStale s) := by
  unfold calStale
  repeat' with_reducible first
    | assumption
    | intro _
    | refine keep_wr ?_ ?_ ?_ ?_
    | refine keep_raise ?_ ?_ ?_
    | refine keep_ite ?_ ?_

theorem keep_calSelect (s : State) (h0 : Keeps z s) : Keeps z (calSelect s) := by
  unfold calSelect
  repeat' with_reducible first
    | assumption
    | intro _
    | refine keep_onCal ?_ ?_ ?_
    | refine keep_wr ?_ ?_ ?_ ?_
    | refine keep_calStale ?_ ?_
    | refine keep_ite ?_ ?_

theorem keep_calAct (a : Nat) (d : Word) (o : State) (s : State) (h2 : Keeps z o) (h3 : Keeps z s) : Keeps z (calAct a d o s) := by
  unfold calAct
  repeat' with_reducible first
    | assumption
    | intro _
    | refine keep_jobFail ?_ ?_ ?_
    | refine keep_onCal ?_ ?_ ?_
    | refine keep_calStart ?_ ?_
    | refine keep_wr ?_ ?_ ?_ ?_
    | refine keep_calSelect ?_ ?_
    | refine keep_jobStart ?_ ?_
    | refine keep_ite ?_ ?_

theorem keep_onLmp (s : State) (f : Lmp → Lmp) (h0 : Keeps z s) : Keeps z (onLmp s f) := by
  unfold onLmp
  repeat' with_reducible first
    | assumption
    | intro _
    | dsimp only
    | exact keep_fold ‹_›
    | refine keep_fold ?_
    | refine keep_mk ?_

theorem keep_lengShow (s : State) (e : Nat) (h0 : Keeps z s) : Keeps z (lengShow s e) := by
  unfold lengShow
  repeat' with_reducible first
    | assumption
    | intro _
    | refine keep_setReg ?_ ?_ ?_ ?_

theorem keep_lengPeriod (s : State) (e : Nat) (h0 : Keeps z s) : Keeps z (lengPeriod s e) := by
  unfold lengPeriod
  repeat' with_reducible first
    | assumption
    | intro _
    | refine keep_setLampEng ?_ ?_ ?_ ?_
    | refine keep_raise ?_ ?_ ?_
    | refine keep_lengShow ?_ ?_ ?_
    | refine keep_ite ?_ ?_

theorem keep_setLamp (s : State) (l : Nat) (x : Lamp) (h0 : Keeps z s) : Keeps z (setLamp s l x) := by
  unfold setLamp
  repeat' with_reducible first
    | assumption
    | intro _
    | refine keep_onLmp ?_ ?_ ?_

theorem keep_subStep (s : State) (l : Nat) (h0 : Keeps z s) : Keeps z (subStep s l) := by
  unfold subStep
  repeat' with_reducible first
    | assumption
    | intro _
    | refine keep_raise ?_ ?_ ?_
    | refine keep_bump ?_ ?_ ?_
    | refine keep_setLamp ?_ ?_ ?_ ?_
    | refine keep_ite ?_ ?_

theorem keep_subsTo (n : Nat) (l : Nat) (a2 : Nat) (a3 : State) (h3 : Keeps z a3) : Keeps z (subsTo n l a2 a3) := by
  induction a2 generalizing a3 with
  | zero => assumption
  | succ rec_n ih =>
    unfold subsTo
    repeat' with_reducible first
      | assumption
      | intro _
      | refine keep_subStep ?_ ?_ ?_
      | apply ih
      | refine keep_ite ?_ ?_

theorem keep_lampsTo (s : State) (t : Nat) (h0 : Keeps z s) : Keeps z (lampsTo s t) := by
  unfold lampsTo
  repeat' with_reducible first
    | assumption
    | intro _
    | refine keep_subsTo ?_ ?_ ?_ ?_ ?_
    | refine keep_foldl ?_ ?_

theorem keep_lampTake (s : State) (l : Nat) (h0 : Keeps z s) : Keeps z (lampTake s l) := by
  unfold lampTake
  repeat' with_reducible first
    | assumption
    | intro _
    | refine keep_wr ?_ ?_ ?_ ?_
    | refine keep_wrB ?_ ?_ ?_ ?_
    | refine keep_setLamp ?_ ?_ ?_ ?_
    | refine keep_snd ‹_› ?_
    | refine keep_snd2 ‹_› ?_
    | refine keep_snd3 ‹_› ?_
    | refine keep_fst ‹_› ?_
    | split

theorem keep_periodBegin (s : State) (at0 : Nat) (n : Nat) (h0 : Keeps z s) : Keeps z (periodBegin s at0 n) := by
  unfold periodBegin
  repeat' with_reducible first
    | assumption
    | intro _
    | refine keep_lampTake ?_ ?_ ?_
    | refine keep_wr ?_ ?_ ?_ ?_
    | refine keep_onLmp ?_ ?_ ?_
    | refine keep_lampsTo ?_ ?_ ?_
    | refine keep_lengPeriod ?_ ?_ ?_
    | refine keep_at' ?_ ?_ ?_
    | refine keep_foldl ?_ ?_

theorem keep_lampsOff (s : State) (h0 : Keeps z s) : Keeps z (lampsOff s) := by
  unfold lampsOff
  repeat' with_reducible first
    | assumption
    | intro _
    | refine keep_wr ?_ ?_ ?_ ?_
    | refine keep_setLamp ?_ ?_ ?_ ?_
    | refine keep_foldl ?_ ?_

theorem keep_lmpAct (a : Nat) (d : Word) (o : State) (s : State) (h2 : Keeps z o) (h3 : Keeps z s) : Keeps z (lmpAct a d o s) := by
  unfold lmpAct
  repeat' with_reducible first
    | assumption
    | intro _
    | refine keep_lampEngStart ?_ ?_ ?_
    | refine keep_lampsOff ?_ ?_
    | refine keep_periodBegin ?_ ?_ ?_ ?_
    | refine keep_wr ?_ ?_ ?_ ?_
    | refine keep_onLmp ?_ ?_ ?_
    | refine keep_setLampEng ?_ ?_ ?_ ?_
    | refine keep_safRefresh ?_ ?_
    | refine keep_ite ?_ ?_
    | refine keep_snd ‹_› ?_
    | refine keep_snd2 ‹_› ?_
    | refine keep_snd3 ‹_› ?_
    | refine keep_fst ‹_› ?_
    | split

theorem keep_sdfRedirect (o : State) (s : State) (h0 : Keeps z o) (h1 : Keeps z s) : Keeps z (sdfRedirect o s) := by
  unfold sdfRedirect
  repeat' with_reducible first
    | assumption
    | intro _
    | refine keep_sdfStartAll ?_ ?_
    | refine keep_wr ?_ ?_ ?_ ?_
    | refine keep_sdfClock ?_ ?_
    | refine keep_ite ?_ ?_

theorem keep_setRole (s : State) (r : Nat) (h0 : Keeps z s) : Keeps z (setRole s r) := by
  unfold setRole
  repeat' with_reducible first
    | assumption
    | intro _
    | refine keep_raiseAt ?_ ?_ ?_ ?_
    | refine keep_wr ?_ ?_ ?_ ?_
    | refine keep_raise ?_ ?_ ?_
    | refine keep_onPair ?_ ?_ ?_
    | refine keep_planStart ?_ ?_
    | refine keep_ite ?_ ?_

theorem keep_pairWatch (s : State) (h0 : Keeps z s) : Keeps z (pairWatch s) := by
  unfold pairWatch
  repeat' with_reducible first
    | assumption
    | intro _
    | refine keep_wr ?_ ?_ ?_ ?_
    | refine keep_onPair ?_ ?_ ?_
    | refine keep_ite ?_ ?_

theorem keep_pairEnable (s : State) (h0 : Keeps z s) : Keeps z (pairEnable s) := by
  unfold pairEnable
  repeat' with_reducible first
    | assumption
    | intro _
    | refine keep_pairWatch ?_ ?_
    | refine keep_setReg ?_ ?_ ?_ ?_
    | refine keep_setRole ?_ ?_ ?_
    | refine keep_onPair ?_ ?_ ?_
    | refine keep_safRefresh ?_ ?_
    | refine keep_ite ?_ ?_
    | split
    | dsimp only
    | exact keep_fold ‹_›
    | refine keep_fold ?_
    | refine keep_mk ?_

theorem keep_heartbeatPut (s : State) (h0 : Keeps z s) : Keeps z (heartbeatPut s) := by
  unfold heartbeatPut
  repeat' with_reducible first
    | assumption
    | intro _
    | refine keep_pairSend ?_ ?_ ?_ ?_ ?_

theorem keep_pairAct (a : Nat) (d : Word) (o : State) (s : State) (h2 : Keeps z o) (h3 : Keeps z s) :
    Keeps z (pairAct a d o s) := by
  unfold pairAct
  repeat' with_reducible first
    | assumption
    | intro _
    | refine keep_heartbeatPut ?_ ?_
    | refine keep_pairEnable ?_ ?_
    | refine keep_sdfRedirect ?_ ?_ ?_ ?_
    | refine keep_wr ?_ ?_ ?_ ?_
    | refine keep_ite ?_ ?_

theorem keep_chaAct (a : Nat) (d : Word) (s : State) (h2 : Keeps z s) : Keeps z (chaAct a d s) := by
  unfold chaAct
  repeat' with_reducible first
    | assumption
    | intro _
    | refine keep_settle ?_ ?_ ?_
    | refine keep_wr ?_ ?_ ?_ ?_
    | refine keep_clampEvent ?_ ?_ ?_
    | refine keep_ite ?_ ?_

theorem keep_qtAct (a : Nat) (s : State) (h1 : Keeps z s) : Keeps z (qtAct a s) := by
  unfold qtAct
  repeat' with_reducible first
    | assumption
    | intro _
    | refine keep_setQueue ?_ ?_ ?_ ?_
    | refine keep_ite ?_ ?_

theorem keep_actC (p : Nat) (a : Nat) (d : Word) (o : State) (s : State) (h3 : Keeps z o) (h4 : Keeps z s) :
    Keeps z (actC p a d o s) := by
  unfold actC
  repeat' with_reducible first
    | assumption
    | intro _
    | refine keep_ethAct ?_ ?_ ?_ ?_
    | refine keep_calAct ?_ ?_ ?_ ?_ ?_ ?_
    | refine keep_qtAct ?_ ?_ ?_
    | refine keep_hkaAct ?_ ?_ ?_ ?_ ?_ ?_
    | refine keep_chaAct ?_ ?_ ?_ ?_
    | refine keep_lmpAct ?_ ?_ ?_ ?_ ?_ ?_
    | refine keep_ethpAct ?_ ?_ ?_ ?_ ?_
    | refine keep_pairAct ?_ ?_ ?_ ?_ ?_ ?_
    | refine keep_ntmAct ?_ ?_ ?_ ?_ ?_ ?_
    | refine keep_thmAct ?_ ?_ ?_ ?_ ?_
    | refine keep_plnAct ?_ ?_ ?_ ?_ ?_
    | refine keep_vidAct ?_ ?_ ?_ ?_ ?_ ?_
    | refine keep_ite ?_ ?_

theorem keep_pageAct (p : Nat) (a : Nat) (d : Word) (o : State) (s : State) (h3 : Keeps z o) (h4 : Keeps z s) (hq : p = 0x2000 → a = A.PWR_LC_REQ → LcTarget d) :
    Keeps z (pageAct p a d o s) := by
  unfold pageAct
  exact keep_ite (keep_ite (keep_actC _ _ _ _ _ h3 h4) fun _ => keep_actB _ _ _ _ _ h3 h4) fun _ => keep_actA _ _ _ _ _ h3 h4 hq

theorem keep_writeDo (l : RegLoc) (a : Nat) (d : Word) (o : State) (c : State) (h3 : Keeps z o) (h4 : Keeps z c) (hq : l.pbase = 0x2000 → a = A.PWR_LC_REQ → LcTarget d) :
    Keeps z (writeDo l a d o c) := by
  unfold writeDo
  dsimp only
  have k := keep_storeReg l a d c h4
  refine keep_ite ?_ fun _ => keep_evfWatch _ _ _ h3 k
  refine keep_ite ?_ fun _ => keep_raiseBits _ _ _ k
  refine keep_ite ?_ fun _ => keep_ite k fun _ => keep_commitRequest _ _ _ k
  refine keep_ite ?_ fun _ => keep_ite k fun _ => keep_ite (keep_setReg _ _ _ k) fun _ => keep_setReg _ _ _ (keep_setReg _ _ _ k)
  exact keep_pageAct _ _ _ _ _ h3 k hq

theorem keep_ntmReset (s : State) (h0 : Keeps z s) : Keeps z (ntmReset s) := by
  unfold ntmReset
  repeat' with_reducible first
    | assumption
    | intro _
    | refine keep_setReg ?_ ?_ ?_ ?_
    | dsimp only
    | exact keep_fold ‹_›
    | refine keep_fold ?_
    | refine keep_mk ?_

theorem keep_deviceReset (s : State) (cause : Nat) (h0 : Keeps z s) : Keeps z (deviceReset s cause) := by
  unfold deviceReset
  refine keep_ntmReset _ (keep_wrB _ _ _ (keep_wrB _ _ _ (keep_setReg _ _ _ ?_)))
  exact ⟨fun _ => rfl, h0.2⟩

theorem keep_clearPage (p : Nat) (s : State) (h1 : Keeps z s) : Keeps z (clearPage p s) := by
  unfold clearPage
  repeat' with_reducible first
    | assumption
    | intro _
    | dsimp only
    | exact keep_fold ‹_›
    | refine keep_fold ?_
    | refine keep_mk ?_

theorem keep_ethpReset (p : Nat) (s : State) (h1 : Keeps z s) : Keeps z (ethpReset p s) := by
  unfold ethpReset
  repeat' with_reducible first
    | assumption
    | intro _
    | refine keep_portDown ?_ ?_ ?_

theorem keep_ringDiscard (s : State) (h0 : Keeps z s) : Keeps z (ringDiscard s) := by
  unfold ringDiscard
  repeat' with_reducible first
    | assumption
    | intro _
    | refine keep_onAcq ?_ ?_ ?_

theorem keep_acqReset (s : State) (h0 : Keeps z s) : Keeps z (acqReset s) := by
  unfold acqReset
  repeat' with_reducible first
    | assumption
    | intro _
    | refine keep_flushFrames ?_ ?_
    | refine keep_onAcq ?_ ?_ ?_
    | refine keep_ringDiscard ?_ ?_
    | refine keep_enableEffect ?_ ?_
    | refine keep_wr ?_ ?_ ?_ ?_
    | refine keep_lmpEdge ?_ ?_ ?_ ?_
    | refine keep_closeFrames ?_ ?_ ?_
    | refine keep_ite ?_ ?_

theorem keep_stqReset (s : State) (h0 : Keeps z s) : Keeps z (stqReset s) := by
  unfold stqReset
  repeat' with_reducible first
    | assumption
    | intro _
    | refine keep_wr ?_ ?_ ?_ ?_
    | refine keep_setQueue ?_ ?_ ?_ ?_
    | refine keep_setPress ?_ ?_ ?_ ?_
    | refine keep_settleQueue ?_ ?_ ?_
    | refine keep_foldl ?_ ?_
    | refine keep_ite ?_ ?_

theorem keep_softBefore (p : Nat) (s : State) (h1 : Keeps z s) : Keeps z (softBefore p s) := by
  unfold softBefore
  repeat' with_reducible first
    | assumption
    | intro _
    | refine keep_ethpReset ?_ ?_ ?_
    | refine keep_acqReset ?_ ?_
    | refine keep_lnqAct ?_ ?_ ?_ ?_ ?_ ?_ ?_
    | refine keep_stqReset ?_ ?_
    | refine keep_wr ?_ ?_ ?_ ?_
    | refine keep_disableBundle ?_ ?_ ?_
    | refine keep_ite ?_ ?_
    | refine keep_snd ‹_› ?_
    | refine keep_snd2 ‹_› ?_
    | refine keep_snd3 ‹_› ?_
    | refine keep_fst ‹_› ?_
    | split

theorem keep_modeSettle (q : Nat) (old : Word) (new : Word) (s : State) (h3 : Keeps z s) : Keeps z (modeSettle q old new s) := by
  unfold modeSettle
  repeat' with_reducible first
    | assumption
    | intro _
    | refine keep_settle ?_ ?_ ?_
    | refine keep_foldl ?_ ?_
    | refine keep_ite ?_ ?_

theorem keep_tdcReset (q : Nat) (s : State) (h1 : Keeps z s) : Keeps z (tdcReset q s) := by
  unfold tdcReset
  repeat' with_reducible first
    | assumption
    | intro _
    | dsimp only
    | exact keep_fold ‹_›
    | refine keep_fold ?_
    | refine keep_mk ?_

theorem keep_escReset (s : State) (h0 : Keeps z s) : Keeps z (escReset s) := by
  unfold escReset
  repeat' with_reducible first
    | assumption
    | intro _
    | dsimp only
    | exact keep_fold ‹_›
    | refine keep_fold ?_
    | refine keep_mk ?_

theorem keep_setPixel (s : State) (c : Nat) (p : Option Pixel) (h0 : Keeps z s) : Keeps z (setPixel s c p) := by
  unfold setPixel
  repeat' with_reducible first
    | assumption
    | intro _
    | dsimp only
    | exact keep_fold ‹_›
    | refine keep_fold ?_
    | refine keep_mk ?_

theorem keep_onCurrent (s : State) (p : Pixel) (f : Ctx → Ctx) (h0 : Keeps z s) : Keeps z (onCurrent s p f) := by
  unfold onCurrent
  repeat' with_reducible first
    | assumption
    | intro _
    | refine keep_setEngine ?_ ?_ ?_ ?_

theorem keep_addHit (s : State) (p : Pixel) (a2 : HitTime) (h0 : Keeps z s) : Keeps z (addHit s p a2) := by
  unfold addHit
  repeat' with_reducible first
    | assumption
    | intro _
    | refine keep_onCurrent ?_ ?_ ?_ ?_
    | refine keep_bump ?_ ?_ ?_
    | refine keep_setPixel ?_ ?_ ?_ ?_
    | refine keep_setEngine ?_ ?_ ?_ ?_
    | refine keep_ite ?_ ?_
    | refine keep_snd ‹_› ?_
    | refine keep_snd2 ‹_› ?_
    | refine keep_snd3 ‹_› ?_
    | refine keep_fst ‹_› ?_
    | split

theorem keep_addShot (s : State) (p : Pixel) (fired : Bool) (darkNs : Nat) (provisional : Bool) (subst : Bool) (h0 : Keeps z s) :
    Keeps z (addShot s p fired darkNs provisional subst) := by
  unfold addShot
  repeat' with_reducible first
    | assumption
    | intro _
    | refine keep_onCurrent ?_ ?_ ?_ ?_
    | refine keep_setPixel ?_ ?_ ?_ ?_

theorem keep_drainHold (s : State) (c : Nat) (l : List VatItem) (h0 : Keeps z s) : Keeps z (drainHold s c l) := by
  unfold drainHold
  repeat' with_reducible first
    | assumption
    | intro _
    | refine keep_addHit ?_ ?_ ?_ ?_
    | refine keep_addShot ?_ ?_ ?_ ?_ ?_ ?_ ?_
    | refine keep_foldl ?_ ?_
    | refine keep_snd ‹_› ?_
    | refine keep_snd2 ‹_› ?_
    | refine keep_snd3 ‹_› ?_
    | refine keep_fst ‹_› ?_
    | split

theorem keep_vatFree (s : State) (h0 : Keeps z s) : Keeps z (vatFree s) := by
  unfold vatFree
  repeat' with_reducible first
    | assumption
    | intro _
    | refine keep_ite ?_ ?_
    | split
    | dsimp only
    | exact keep_fold ‹_›
    | refine keep_fold ?_
    | refine keep_mk ?_

theorem keep_vatReset (s : State) (h0 : Keeps z s) : Keeps z (vatReset s) := by
  unfold vatReset
  repeat' with_reducible first
    | assumption
    | intro _
    | refine keep_vatFree ?_ ?_
    | refine keep_drainHold ?_ ?_ ?_ ?_
    | refine keep_foldl ?_ ?_
    | refine keep_snd ‹_› ?_
    | refine keep_snd2 ‹_› ?_
    | refine keep_snd3 ‹_› ?_
    | refine keep_fst ‹_› ?_
    | split

theorem keep_placeStored (s : State) (k : Nat) (e : Nat) (ws : List Word) (coded : Bool) (h0 : Keeps z s) :
    Keeps z (placeStored s k e ws coded) := by
  unfold placeStored
  repeat' with_reducible first
    | assumption
    | intro _
    | refine keep_placeOutput ?_ ?_ ?_ ?_ ?_

theorem keep_abandonJob (s : State) (e : Nat) (h0 : Keeps z s) : Keeps z (abandonJob s e) := by
  unfold abandonJob
  repeat' with_reducible first
    | assumption
    | intro _
    | refine keep_placeStored ?_ ?_ ?_ ?_ ?_ ?_
    | refine keep_wr ?_ ?_ ?_ ?_
    | refine keep_setQueue ?_ ?_ ?_ ?_
    | refine keep_setPress ?_ ?_ ?_ ?_
    | refine keep_ite ?_ ?_
    | refine keep_snd ‹_› ?_
    | refine keep_snd2 ‹_› ?_
    | refine keep_snd3 ‹_› ?_
    | refine keep_fst ‹_› ?_
    | split

theorem keep_prsReset (s : State) (h0 : Keeps z s) : Keeps z (prsReset s) := by
  unfold prsReset
  repeat' with_reducible first
    | assumption
    | intro _
    | refine keep_abandonJob ?_ ?_ ?_
    | refine keep_foldl ?_ ?_
    | dsimp only
    | exact keep_fold ‹_›
    | refine keep_fold ?_
    | refine keep_mk ?_

theorem keep_rejReset (s : State) (h0 : Keeps z s) : Keeps z (rejReset s) := by
  unfold rejReset
  repeat' with_reducible first
    | assumption
    | intro _
    | dsimp only
    | exact keep_fold ‹_›
    | refine keep_fold ?_
    | refine keep_mk ?_

theorem keep_softAfterA (p : Nat) (o : State) (s : State) (h1 : Keeps z o) (h2 : Keeps z s) : Keeps z (softAfterA p o s) := by
  unfold softAfterA
  repeat' with_reducible first
    | assumption
    | intro _
    | refine keep_rejReset ?_ ?_
    | refine keep_vatReset ?_ ?_
    | refine keep_wr ?_ ?_ ?_ ?_
    | refine keep_modeSettle ?_ ?_ ?_ ?_ ?_
    | refine keep_raise ?_ ?_ ?_
    | refine keep_escReset ?_ ?_
    | refine keep_safRefresh ?_ ?_
    | refine keep_prsReset ?_ ?_
    | refine keep_tdcReset ?_ ?_ ?_
    | refine keep_ite ?_ ?_
    | refine keep_snd ‹_› ?_
    | refine keep_snd2 ‹_› ?_
    | refine keep_snd3 ‹_› ?_
    | refine keep_fst ‹_› ?_
    | split
    | dsimp only
    | exact keep_fold ‹_›
    | refine keep_fold ?_
    | refine keep_mk ?_

theorem keep_scnReset (s : State) (h0 : Keeps z s) : Keeps z (scnReset s) := by
  unfold scnReset
  repeat' with_reducible first
    | assumption
    | intro _
    | refine keep_galRefresh ?_ ?_
    | dsimp only
    | exact keep_fold ‹_›
    | refine keep_fold ?_
    | refine keep_mk ?_

theorem keep_motReset (s : State) (h0 : Keeps z s) : Keeps z (motReset s) := by
  unfold motReset
  repeat' with_reducible first
    | assumption
    | intro _
    | refine keep_onMot ?_ ?_ ?_

theorem keep_galReset (s : State) (h0 : Keeps z s) : Keeps z (galReset s) := by
  unfold galReset
  repeat' with_reducible first
    | assumption
    | intro _
    | refine keep_onGal ?_ ?_ ?_
    | refine keep_galRefresh ?_ ?_
    | refine keep_slotsRefresh ?_ ?_

theorem keep_sdfReset (s : State) (h0 : Keeps z s) : Keeps z (sdfReset s) := by
  unfold sdfReset
  repeat' with_reducible first
    | assumption
    | intro _
    | dsimp only
    | exact keep_fold ‹_›
    | refine keep_fold ?_
    | refine keep_mk ?_

theorem keep_ethReset (s : State) (h0 : Keeps z s) : Keeps z (ethReset s) := by
  unfold ethReset
  repeat' with_reducible first
    | assumption
    | intro _
    | dsimp only
    | exact keep_fold ‹_›
    | refine keep_fold ?_
    | refine keep_mk ?_

theorem keep_plnReset (s : State) (h0 : Keeps z s) : Keeps z (plnReset s) := by
  unfold plnReset
  repeat' with_reducible first
    | assumption
    | intro _
    | refine keep_onPln ?_ ?_ ?_
    | refine keep_grantWatch ?_ ?_ ?_ ?_

theorem keep_vidReset (o : State) (s : State) (h0 : Keeps z o) (h1 : Keeps z s) : Keeps z (vidReset o s) := by
  unfold vidReset
  repeat' with_reducible first
    | assumption
    | intro _
    | refine keep_vidLockTo ?_ ?_ ?_
    | refine keep_vidHalt ?_ ?_
    | dsimp only
    | exact keep_fold ‹_›
    | refine keep_fold ?_
    | refine keep_mk ?_

theorem keep_hkaReset (s : State) (h0 : Keeps z s) : Keeps z (hkaReset s) := by
  unfold hkaReset
  repeat' with_reducible first
    | assumption
    | intro _
    | dsimp only
    | exact keep_fold ‹_›
    | refine keep_fold ?_
    | refine keep_mk ?_

theorem keep_thmReset (s : State) (h0 : Keeps z s) : Keeps z (thmReset s) := by
  unfold thmReset
  repeat' with_reducible first
    | assumption
    | intro _
    | dsimp only
    | exact keep_fold ‹_›
    | refine keep_fold ?_
    | refine keep_mk ?_

theorem keep_calReset (s : State) (h0 : Keeps z s) : Keeps z (calReset s) := by
  unfold calReset
  repeat' with_reducible first
    | assumption
    | intro _
    | refine keep_jobRestore ?_ ?_ ?_
    | refine keep_calShow ?_ ?_
    | refine keep_onCal ?_ ?_ ?_
    | refine keep_raise ?_ ?_ ?_
    | refine keep_snd ‹_› ?_
    | refine keep_snd2 ‹_› ?_
    | refine keep_snd3 ‹_› ?_
    | refine keep_fst ‹_› ?_
    | split

theorem keep_lmpReset (s : State) (h0 : Keeps z s) : Keeps z (lmpReset s) := by
  unfold lmpReset
  repeat' with_reducible first
    | assumption
    | intro _
    | refine keep_onLmp ?_ ?_ ?_

theorem keep_softAfterB (p : Nat) (o : State) (s : State) (h1 : Keeps z o) (h2 : Keeps z s) : Keeps z (softAfterB p o s) := by
  unfold softAfterB
  repeat' with_reducible first
    | assumption
    | intro _
    | refine keep_motReset ?_ ?_
    | refine keep_lmpReset ?_ ?_
    | refine keep_hkaReset ?_ ?_
    | refine keep_thmReset ?_ ?_
    | refine keep_lampsOff ?_ ?_
    | refine keep_sdfReset ?_ ?_
    | refine keep_ntmReset ?_ ?_
    | refine keep_safSpeedRefresh ?_ ?_
    | refine keep_wrB ?_ ?_ ?_ ?_
    | refine keep_ethReset ?_ ?_
    | refine keep_scnReset ?_ ?_
    | refine keep_slotsRefresh ?_ ?_
    | refine keep_calReset ?_ ?_
    | refine keep_galReset ?_ ?_
    | refine keep_sdfClock ?_ ?_
    | refine keep_plnReset ?_ ?_
    | refine keep_safRefresh ?_ ?_
    | refine keep_vidReset ?_ ?_ ?_ ?_
    | refine keep_ite ?_ ?_

theorem keep_softDo (p : Nat) (s : State) (h1 : Keeps z s) : Keeps z (softDo p s) := by
  unfold softDo
  repeat' with_reducible first
    | assumption
    | intro _
    | refine keep_softAfterB ?_ ?_ ?_ ?_ ?_
    | refine keep_clearPage ?_ ?_ ?_
    | refine keep_softAfterA ?_ ?_ ?_ ?_ ?_
    | refine keep_softBefore ?_ ?_ ?_
    | refine keep_ite ?_ ?_

theorem keep_softReset (r : Requester) (p : Nat) (s : State) (h2 : Keeps z s) : Keeps z (softReset r p s) := by
  unfold softReset
  repeat' with_reducible first
    | assumption
    | intro _
    | refine keep_setReg ?_ ?_ ?_ ?_
    | refine keep_wr ?_ ?_ ?_ ?_
    | refine keep_softDo ?_ ?_ ?_
    | refine keep_onBundle ?_ ?_ ?_ ?_
    | refine keep_stopScheduling ?_ ?_
    | refine keep_deviceReset ?_ ?_ ?_
    | refine keep_ite ?_ ?_
    | refine keep_snd ‹_› ?_
    | refine keep_snd2 ‹_› ?_
    | refine keep_snd3 ‹_› ?_
    | refine keep_fst ‹_› ?_
    | split
    | dsimp only
    | exact keep_fold ‹_›
    | refine keep_fold ?_
    | refine keep_mk ?_

theorem keep_latchDrop (s : State) (r : Requester) (a : Nat) (h0 : Keeps z s) : Keeps z (latchDrop s r a) := by
  unfold latchDrop
  repeat' with_reducible first
    | assumption
    | intro _
    | refine keep_onBus ?_ ?_ ?_

theorem keep_writeReg (l : RegLoc) (r : Requester) (a : Nat) (d : Word) (s : State) (h4 : Keeps z s) :
    Keeps z (writeReg l r a d s).2 := by
  unfold writeReg
  dsimp only
  refine keep_ite_snd ?_ fun _ => keep_lockWrite _ _ _ h4
  generalize hd : (if (hasHeader l.pbase && decide (a = l.pbase + 8) && bit d 1) = true then reg s a ||| 2#32 else d) = d'
  have c := keep_lowerTaken r a s h4
  generalize lowerTaken r a s = c' at *
  split
  · exact keep_lockCount _ _ (keep_writeRefused _ _ _ _ h4)
  · next e =>
    refine keep_ite_snd ?_ fun _ => keep_lockCount _ _ (keep_onBus _ _ h4)
    split
    · next hs =>
      refine keep_lockCount _ _ (keep_writeRefused _ _ _ _ (keep_writeDo _ _ _ _ _ h4 c fun _ ha => absurd ?_ hs))
      subst ha
      exact (if_neg (by decide)).trans ((if_neg (by decide)).trans (if_neg (by decide)))
    · refine keep_ite_snd ?_ fun _ => keep_softReset _ _ _ h4
      exact keep_latchDrop _ _ _ (keep_lockCount _ _ (keep_writeDo _ _ _ _ _ h4 c (lcTarget_code (not_not.mp e))))

theorem keep_lcDisarm (s : State) (h0 : Keeps z s) : Keeps z (lcDisarm s) := by
  unfold lcDisarm
  repeat' with_reducible first
    | assumption
    | intro _
    | dsimp only
    | exact keep_fold ‹_›
    | refine keep_fold ?_
    | refine keep_mk ?_
    | refine keep_sram_nil ?_
    | refine keep_cal_nil ?_
    | refine keep_sram_word ?_
    | refine keep_cal_word ?_
    | refine keep_sram_half ?_
    | refine keep_sram_clear ?_
    | refine keep_cal_clear ?_
    | refine keep_cal_byte ?_
    | refine keep_sram_foldl ?_ ?_
    | refine keep_cal_foldl ?_ ?_
    | refine keep_sram_ite ?_ ?_
    | refine keep_ringWords ?_
    | refine keep_densityTable ?_
    | refine keep_pwr ?_

theorem keep_lcAfter (p : Nat) (keyed : Bool) (s : State) (h2 : Keeps z s) : Keeps z (lcAfter p keyed s) := by
  unfold lcAfter
  repeat' with_reducible first
    | assumption
    | intro _
    | refine keep_lcDisarm ?_ ?_
    | refine keep_ite ?_ ?_

theorem keep_pageWrite (p : Nat) (r : Requester) (a : Nat) (d : Word) (s : State) (h4 : Keeps z s) :
    Keeps z (pageWrite p r a d s).2 := by
  unfold pageWrite
  repeat' with_reducible first
    | assumption
    | intro _
    | refine keep_recErr ?_ ?_ ?_ ?_ ?_
    | refine keep_lcAfter ?_ ?_ ?_ ?_
    | refine keep_writeReg ?_ ?_ ?_ ?_ ?_ ?_
    | refine keep_lockCount ?_ ?_ ?_
    | refine keep_ite ?_ ?_
    | refine keep_ite_snd ?_ ?_
    | refine keep_snd ‹_› ?_
    | refine keep_snd2 ‹_› ?_
    | refine keep_snd3 ‹_› ?_
    | refine keep_fst ‹_› ?_
    | split

theorem keep_busWrite (r : Requester) (a : Nat) (d : Word) (s : State) (h3 : Keeps z s) : Keeps z (busWrite r a d s).2 := by
  unfold busWrite
  repeat' with_reducible first
    | assumption
    | intro _
    | refine keep_busWait ?_ ?_
    | refine keep_recGlb ?_ ?_ ?_ ?_
    | refine keep_windowWrite ?_ ?_ ?_ ?_
    | refine keep_pageWrite ?_ ?_ ?_ ?_ ?_ ?_
    | refine keep_ite ?_ ?_
    | refine keep_ite_snd ?_ ?_
    | refine keep_snd ‹_› ?_
    | refine keep_snd2 ‹_› ?_
    | refine keep_snd3 ‹_› ?_
    | refine keep_fst ‹_› ?_
    | split

theorem keep_busShow (w : Word) (n : Nat) (s : State) (h2 : Keeps z s) : Keeps z (busShow w n s) := by
  unfold busShow
  repeat' with_reducible first
    | assumption
    | intro _
    | refine keep_onBus ?_ ?_ ?_

theorem keep_writeNow (r : Requester) (a : Nat) (d : Word) (s : State) (h3 : Keeps z s) : Keeps z (writeNow r a d s) := by
  unfold writeNow
  repeat' with_reducible first
    | assumption
    | intro _
    | refine keep_busWrite ?_ ?_ ?_ ?_ ?_
    | refine keep_busShow ?_ ?_ ?_ ?_
    | refine keep_acqSettle ?_ ?_

theorem keep_mspiNote (s : State) (h0 : Keeps z s) : Keeps z (mspiNote s) := by
  unfold mspiNote
  repeat' with_reducible first
    | assumption
    | intro _
    | refine keep_onBus ?_ ?_ ?_
    | refine keep_ite ?_ ?_

theorem keep_postedStep (s : State) (h0 : Keeps z s) : Keeps z (postedStep s) := by
  unfold postedStep
  repeat' with_reducible first
    | assumption
    | intro _
    | refine keep_mspiNote ?_ ?_
    | refine keep_onBus ?_ ?_ ?_
    | refine keep_writeNow ?_ ?_ ?_ ?_ ?_
    | refine keep_ite ?_ ?_
    | refine keep_snd ‹_› ?_
    | refine keep_snd2 ‹_› ?_
    | refine keep_snd3 ‹_› ?_
    | refine keep_fst ‹_› ?_
    | split

theorem keep_misoPut (l : List Byte) (s : State) (h1 : Keeps z s) : Keeps z (misoPut l s) := by
  unfold misoPut
  repeat' with_reducible first
    | assumption
    | intro _
    | refine keep_onBus ?_ ?_ ?_

theorem keep_waitPut (slow : Bool) (s : State) (h1 : Keeps z s) : Keeps z (waitPut slow s) := by
  unfold waitPut
  repeat' with_reducible first
    | assumption
    | intro _
    | refine keep_onBus ?_ ?_ ?_
    | refine keep_misoPut ?_ ?_ ?_

theorem keep_windowRead (a : Nat) (s : State) (h1 : Keeps z s) : Keeps z (windowRead a s).2 := by
  unfold windowRead
  dsimp only
  generalize a - 4194304 = o
  generalize windowAt s a = m
  refine keep_ite_snd (keep_ite_snd (keep_ite_snd h1 fun _ => ?_) fun _ => h1) fun _ => h1
  exact keep_takeFree s 32 h1

theorem keep_galTblRead (s : State) (h0 : Keeps z s) : Keeps z (galTblRead s).2 := by
  unfold galTblRead
  repeat' with_reducible first
    | assumption
    | intro _
    | refine keep_galTblAdvance ?_ ?_

theorem keep_inspBlock (s : State) (h0 : Keeps z s) : Keeps z (inspBlock s).2 := by
  unfold inspBlock
  repeat' with_reducible first
    | assumption
    | intro _
    | refine keep_takeFree ?_ ?_ ?_
    | refine keep_ite ?_ ?_
    | refine keep_ite_snd ?_ ?_
    | refine keep_getD ?_ ?_
    | refine keep_snd ‹_› ?_
    | refine keep_snd2 ‹_› ?_
    | refine keep_snd3 ‹_› ?_
    | refine keep_fst ‹_› ?_
    | split

theorem keep_pjProduced (s : State) (e : Nat) (h0 : Keeps z s) : Keeps z (pjProduced s e).2 := by
  unfold pjProduced
  repeat' with_reducible first
    | assumption
    | intro _
    | refine keep_takeFree ?_ ?_ ?_
    | refine keep_ite ?_ ?_
    | refine keep_ite_snd ?_ ?_
    | refine keep_snd ‹_› ?_
    | refine keep_snd2 ‹_› ?_
    | refine keep_snd3 ‹_› ?_
    | refine keep_fst ‹_› ?_
    | split

theorem keep_mbRead (s : State) (h0 : Keeps z s) : Keeps z (mbRead s).2 := by
  unfold mbRead
  repeat' with_reducible first
    | assumption
    | intro _
    | refine keep_ite ?_ ?_
    | refine keep_ite_snd ?_ ?_
    | refine keep_getD ?_ ?_
    | refine keep_snd ‹_› ?_
    | refine keep_snd2 ‹_› ?_
    | refine keep_snd3 ‹_› ?_
    | refine keep_fst ‹_› ?_
    | split
    | dsimp only
    | exact keep_fold ‹_›
    | refine keep_fold ?_
    | refine keep_mk ?_

theorem keep_latchWide (r : Requester) (a : Nat) (s : State) (h2 : Keeps z s) : Keeps z (latchWide r a s) := by
  unfold latchWide
  repeat' with_reducible first
    | assumption
    | intro _
    | refine keep_onBus ?_ ?_ ?_
    | refine keep_foldl ?_ ?_
    | refine keep_snd ‹_› ?_
    | refine keep_snd2 ‹_› ?_
    | refine keep_snd3 ‹_› ?_
    | refine keep_fst ‹_› ?_
    | split

theorem keep_ppsinRead (s : State) (h0 : Keeps z s) : Keeps z (ppsinRead s) := by
  unfold ppsinRead
  repeat' with_reducible first
    | assumption
    | intro _
    | refine keep_wr ?_ ?_ ?_ ?_

theorem keep_readReg (l : RegLoc) (r : Requester) (a : Nat) (s : State) (h3 : Keeps z s) : Keeps z (readReg l r a s).2 := by
  unfold readReg
  repeat' with_reducible first
    | assumption
    | intro _
    | refine keep_galTblRead ?_ ?_
    | refine keep_inspBlock ?_ ?_
    | refine keep_takeFree ?_ ?_ ?_
    | refine keep_pjProduced ?_ ?_ ?_
    | refine keep_colAdvance ?_ ?_
    | refine keep_inspAdvance ?_ ?_
    | refine keep_mbRead ?_ ?_
    | refine keep_latchWide ?_ ?_ ?_ ?_
    | refine keep_adaptLane ?_ ?_ ?_
    | refine keep_ppsinRead ?_ ?_
    | refine keep_vtblNext ?_ ?_
    | refine keep_ite ?_ ?_
    | refine keep_ite_snd ?_ ?_
    | refine keep_snd ‹_› ?_
    | refine keep_snd2 ‹_› ?_
    | refine keep_snd3 ‹_› ?_
    | refine keep_fst ‹_› ?_
    | split

theorem keep_pageRead (p : Nat) (r : Requester) (a : Nat) (s : State) (h3 : Keeps z s) : Keeps z (pageRead p r a s).2.2 := by
  unfold pageRead
  repeat' with_reducible first
    | assumption
    | intro _
    | refine keep_readReg ?_ ?_ ?_ ?_ ?_
    | refine keep_recErr ?_ ?_ ?_ ?_ ?_
    | refine keep_lcAfter ?_ ?_ ?_ ?_
    | refine keep_lockCount ?_ ?_ ?_
    | refine keep_ite ?_ ?_
    | refine keep_ite_snd ?_ ?_
    | refine keep_snd ‹_› ?_
    | refine keep_snd2 ‹_› ?_
    | refine keep_snd3 ‹_› ?_
    | refine keep_fst ‹_› ?_
    | split
    | dsimp only

theorem keep_busRead (r : Requester) (a : Nat) (s : State) (h2 : Keeps z s) : Keeps z (busRead r a s).2.2 := by
  unfold busRead
  repeat' with_reducible first
    | assumption
    | intro _
    | refine keep_busWait ?_ ?_
    | refine keep_recGlb ?_ ?_ ?_ ?_
    | refine keep_windowRead ?_ ?_ ?_
    | refine keep_pageRead ?_ ?_ ?_ ?_ ?_
    | refine keep_ite ?_ ?_
    | refine keep_ite_snd ?_ ?_
    | refine keep_snd ‹_› ?_
    | refine keep_snd2 ‹_› ?_
    | refine keep_snd3 ‹_› ?_
    | refine keep_fst ‹_› ?_
    | split
    | dsimp only

theorem keep_readNow (r : Requester) (a : Nat) (s : State) (h2 : Keeps z s) : Keeps z (readNow r a s) := by
  unfold readNow
  repeat' with_reducible first
    | assumption
    | intro _
    | refine keep_busShow ?_ ?_ ?_ ?_
    | refine keep_busRead ?_ ?_ ?_ ?_
    | refine keep_acqSettle ?_ ?_

theorem keep_mspiWord (slow : Bool) (s : State) (h1 : Keeps z s) : Keeps z (mspiWord slow s) := by
  unfold mspiWord
  repeat' with_reducible first
    | assumption
    | intro _
    | refine keep_waitPut ?_ ?_ ?_
    | refine keep_mspiNote ?_ ?_
    | refine keep_onBus ?_ ?_ ?_
    | refine keep_readNow ?_ ?_ ?_ ?_
    | refine keep_misoPut ?_ ?_ ?_

theorem keep_mspiRun (a0 : Nat) (a1 : State) (h1 : Keeps z a1) : Keeps z (mspiRun a0 a1) := by
  induction a0 generalizing a1 with
  | zero => assumption
  | succ rec_n ih =>
    unfold mspiRun
    repeat' with_reducible first
      | assumption
      | intro _
      | refine keep_onBus ?_ ?_ ?_
      | refine keep_misoPut ?_ ?_ ?_
      | refine keep_mspiWord ?_ ?_ ?_
      | apply ih
      | refine keep_ite ?_ ?_

theorem keep_slowDone (r : Requester) (s : State) (h1 : Keeps z s) : Keeps z (slowDone r s) := by
  unfold slowDone
  repeat' with_reducible first
    | assumption
    | intro _
    | refine keep_mspiNote ?_ ?_
    | refine keep_onBus ?_ ?_ ?_
    | refine keep_mspiRun ?_ ?_ ?_
    | refine keep_readNow ?_ ?_ ?_ ?_
    | refine keep_writeNow ?_ ?_ ?_ ?_ ?_
    | refine keep_mspiWord ?_ ?_ ?_
    | refine keep_ite ?_ ?_
    | refine keep_snd ‹_› ?_
    | refine keep_snd2 ‹_› ?_
    | refine keep_snd3 ‹_› ?_
    | refine keep_fst ‹_› ?_
    | split

theorem keep_drainSteps (r : Requester) (a1 : Nat) (a2 : State) (h2 : Keeps z a2) : Keeps z (drainSteps r a1 a2) := by
  induction a1 generalizing a2 with
  | zero => assumption
  | succ rec_n ih =>
    unfold drainSteps
    repeat' with_reducible first
      | assumption
      | intro _
      | refine keep_postedStep ?_ ?_
      | refine keep_slowDone ?_ ?_ ?_
      | apply ih
      | refine keep_ite ?_ ?_

theorem keep_drain (r : Requester) (s : State) (h1 : Keeps z s) : Keeps z (drain r s) := by
  unfold drain
  repeat' with_reducible first
    | assumption
    | intro _
    | refine keep_drainSteps ?_ ?_ ?_ ?_

theorem keep_accessW (t : Nat) (r : Requester) (a : Nat) (d : Nat) (s : State) (h4 : Keeps z s) : Keeps z (accessW t r a d s) := by
  unfold accessW
  repeat' with_reducible first
    | assumption
    | intro _
    | refine keep_drain ?_ ?_ ?_
    | refine keep_writeNow ?_ ?_ ?_ ?_ ?_
    | refine keep_at' ?_ ?_ ?_

theorem keep_execScanModeWrite (t : Nat) (r : Requester) (d : Nat) (s : State) (h3 : Keeps z s) :
    ∀ u, (execScanModeWrite t r d s) = .next u → Keeps z u := by
  intro u e
  unfold execScanModeWrite at e
  refine keep_next ?_ e
  clear e
  repeat' with_reducible first
    | assumption
    | intro _
    | refine keep_accessW ?_ ?_ ?_ ?_ ?_ ?_

theorem keep_nttFired (i : Nat) (s : State) (h1 : Keeps z s) : Keeps z (nttFired i s) := by
  unfold nttFired
  repeat' with_reducible first
    | assumption
    | intro _
    | refine keep_nttFire ?_ ?_ ?_ ?_ ?_
    | refine keep_ite ?_ ?_

theorem keep_execNttFired (t : Nat) (i : Nat) (s : State) (h2 : Keeps z s) : ∀ u, (execNttFired t i s) = .next u → Keeps z u := by
  intro u e
  unfold execNttFired at e
  refine keep_next ?_ e
  clear e
  repeat' with_reducible first
    | assumption
    | intro _
    | refine keep_at' ?_ ?_ ?_
    | refine keep_nttFired ?_ ?_ ?_

theorem keep_resetAccept (s : State) (h0 : Keeps z s) : Keeps z (resetAccept s) := by
  unfold resetAccept
  repeat' with_reducible first
    | assumption
    | intro _
    | refine keep_setReg ?_ ?_ ?_ ?_
    | refine keep_onPath ?_ ?_ ?_ ?_
    | refine keep_wr ?_ ?_ ?_ ?_
    | refine keep_lmpEdge ?_ ?_ ?_ ?_
    | refine keep_raise ?_ ?_ ?_
    | refine keep_bump ?_ ?_ ?_
    | refine keep_safRefresh ?_ ?_
    | refine keep_ite ?_ ?_
    | split
    | dsimp only
    | exact keep_fold ‹_›
    | refine keep_fold ?_
    | refine keep_mk ?_

theorem keep_matchEntryExpire (s : State) (h0 : Keeps z s) : Keeps z (matchEntryExpire s) := by
  unfold matchEntryExpire
  repeat' with_reducible first
    | assumption
    | intro _
    | refine keep_snd ‹_› ?_
    | refine keep_snd2 ‹_› ?_
    | refine keep_snd3 ‹_› ?_
    | refine keep_fst ‹_› ?_
    | split
    | dsimp only
    | exact keep_fold ‹_›
    | refine keep_fold ?_
    | refine keep_mk ?_

theorem keep_execMatchEntryExpire (t : Nat) (s : State) (h1 : Keeps z s) :
    ∀ u, (execMatchEntryExpire t s) = .next u → Keeps z u := by
  intro u e
  unfold execMatchEntryExpire at e
  refine keep_next ?_ e
  clear e
  repeat' with_reducible first
    | assumption
    | intro _
    | refine keep_matchEntryExpire ?_ ?_
    | refine keep_at' ?_ ?_ ?_

theorem keep_setPath (s : State) (c : Nat) (l : List VatItem) (h0 : Keeps z s) : Keeps z (setPath s c l) := by
  unfold setPath
  repeat' with_reducible first
    | assumption
    | intro _
    | dsimp only
    | exact keep_fold ‹_›
    | refine keep_fold ?_
    | refine keep_mk ?_

theorem keep_hitAccumulate (c : Nat) (s : State) (h1 : Keeps z s) : Keeps z (hitAccumulate c s) := by
  unfold hitAccumulate
  repeat' with_reducible first
    | assumption
    | intro _
    | refine keep_addHit ?_ ?_ ?_ ?_
    | refine keep_setPath ?_ ?_ ?_ ?_
    | refine keep_bump ?_ ?_ ?_
    | refine keep_setPixel ?_ ?_ ?_ ?_
    | refine keep_ite ?_ ?_
    | refine keep_snd ‹_› ?_
    | refine keep_snd2 ‹_› ?_
    | refine keep_snd3 ‹_› ?_
    | refine keep_fst ‹_› ?_
    | split

theorem keep_tunBad (s : State) (h0 : Keeps z s) : Keeps z (tunBad s) := by
  unfold tunBad
  repeat' with_reducible first
    | assumption
    | intro _
    | refine keep_bump ?_ ?_ ?_

theorem keep_bundleDown (t : Nat) (b : Nat) (s : State) (h2 : Keeps z s) : Keeps z (bundleDown t b s) := by
  unfold bundleDown
  repeat' with_reducible first
    | assumption
    | intro _
    | refine keep_setBState ?_ ?_ ?_ ?_
    | refine keep_enterDetect ?_ ?_ ?_ ?_
    | refine keep_setLane ?_ ?_ ?_ ?_
    | refine keep_newLcw ?_ ?_ ?_
    | refine keep_dropReplay ?_ ?_ ?_
    | refine keep_raise ?_ ?_ ?_
    | refine keep_onBundle ?_ ?_ ?_ ?_
    | refine keep_foldl ?_ ?_
    | refine keep_ite ?_ ?_

theorem keep_excLimit (k : Nat) (on : Bool) (s : State) (h2 : Keeps z s) : Keeps z (excLimit k on s) := by
  unfold excLimit
  repeat' with_reducible first
    | assumption
    | intro _
    | refine keep_wr ?_ ?_ ?_ ?_
    | refine keep_wrB ?_ ?_ ?_ ?_
    | refine keep_raise ?_ ?_ ?_
    | refine keep_ite ?_ ?_

theorem keep_execExcLimit (t : Nat) (k : Nat) (on : Bool) (s : State) (h3 : Keeps z s) :
    ∀ u, (execExcLimit t k on s) = .next u → Keeps z u := by
  intro u e
  unfold execExcLimit at e
  refine keep_next ?_ e
  clear e
  repeat' with_reducible first
    | assumption
    | intro _
    | refine keep_excLimit ?_ ?_ ?_ ?_
    | refine keep_at' ?_ ?_ ?_

theorem keep_commitShow (p : Nat) (s : State) (h1 : Keeps z s) : Keeps z (commitShow p s) := by
  unfold commitShow
  repeat' with_reducible first
    | assumption
    | intro _
    | refine keep_setReg ?_ ?_ ?_ ?_

theorem keep_takeShadows (p : Nat) (s : State) (h1 : Keeps z s) : Keeps z (takeShadows p s) := by
  unfold takeShadows
  repeat' with_reducible first
    | assumption
    | intro _
    | refine keep_setReg ?_ ?_ ?_ ?_
    | refine keep_foldl ?_ ?_
    | refine keep_foldl_snd ?_ ?_
    | refine keep_snd ‹_› ?_
    | refine keep_snd2 ‹_› ?_
    | refine keep_snd3 ‹_› ?_
    | refine keep_fst ‹_› ?_
    | split
    | dsimp only
    | exact keep_fold ‹_›
    | refine keep_fold ?_
    | refine keep_mk ?_

theorem keep_glLose (s : State) (h0 : Keeps z s) : Keeps z (glLose s) := by
  unfold glLose
  repeat' with_reducible first
    | assumption
    | intro _
    | refine keep_wr ?_ ?_ ?_ ?_
    | refine keep_raise ?_ ?_ ?_

end Sys2Proof.Machine
end

