-- ==== Sys2Proof/Laws/KeepC.lean ====
section
/-!
SUPPORT. What each operation keeps, part 3: the canonical form of the memories, and legal fuses.
-/

namespace Sys2Proof.Machine

set_option Elab.async false

variable {z : State}

theorem keep_acqCommitted (o : State) (s : State) (h0 : Keeps z o) (h1 : Keeps z s) : Keeps z (acqCommitted o s) := by
  unfold acqCommitted
  repeat' with_reducible first
    | assumption
    | intro _
    | refine keep_onAcq ?_ ?_ ?_
    | refine keep_glLose ?_ ?_
    | refine keep_wr ?_ ?_ ?_ ?_
    | refine keep_ite ?_ ?_

theorem keep_scnCommitted (o : State) (s : State) (h0 : Keeps z o) (h1 : Keeps z s) : Keeps z (scnCommitted o s) := by
  unfold scnCommitted
  repeat' with_reducible first
    | assumption
    | intro _
    | refine keep_slotDue ?_ ?_ ?_ ?_
    | refine keep_slotsRefresh ?_ ?_
    | refine keep_foldl ?_ ?_
    | refine keep_ite ?_ ?_

theorem keep_galCommitted (o : State) (s : State) (h0 : Keeps z o) (h1 : Keeps z s) : Keeps z (galCommitted o s) := by
  unfold galCommitted
  repeat' with_reducible first
    | assumption
    | intro _
    | refine keep_galRefresh ?_ ?_
    | refine keep_galRamp ?_ ?_
    | refine keep_ite ?_ ?_

theorem keep_sdfCommitted (o : State) (s : State) (h0 : Keeps z o) (h1 : Keeps z s) : Keeps z (sdfCommitted o s) := by
  unfold sdfCommitted
  repeat' with_reducible first
    | assumption
    | intro _
    | refine keep_sdfStart ?_ ?_ ?_
    | refine keep_foldl ?_ ?_
    | refine keep_ite ?_ ?_

theorem keep_planMembership (s : State) (h0 : Keeps z s) : Keeps z (planMembership s) := by
  unfold planMembership
  repeat' with_reducible first
    | assumption
    | intro _
    | refine keep_planEnter ?_ ?_ ?_
    | refine keep_planFarewell ?_ ?_
    | refine keep_planStart ?_ ?_
    | refine keep_ite ?_ ?_

theorem keep_planSettle (s : State) (h0 : Keeps z s) : Keeps z (planSettle s) := by
  unfold planSettle
  repeat' with_reducible first
    | assumption
    | intro _
    | refine keep_wr ?_ ?_ ?_ ?_
    | refine keep_ite ?_ ?_

theorem keep_plnCommitted (o : State) (s : State) (h0 : Keeps z o) (h1 : Keeps z s) : Keeps z (plnCommitted o s) := by
  unfold plnCommitted
  repeat' with_reducible first
    | assumption
    | intro _
    | refine keep_planSettle ?_ ?_
    | refine keep_planMembership ?_ ?_
    | refine keep_ite ?_ ?_

theorem keep_freezeOff (s : State) (l : Nat) (h0 : Keeps z s) : Keeps z (freezeOff s l) := by
  unfold freezeOff
  repeat' with_reducible first
    | assumption
    | intro _
    | refine keep_wr ?_ ?_ ?_ ?_
    | refine keep_onVid ?_ ?_ ?_
    | refine keep_wrBit ?_ ?_ ?_ ?_ ?_

theorem keep_takeShown (s : State) (h0 : Keeps z s) : Keeps z (takeShown s) := by
  unfold takeShown
  repeat' with_reducible first
    | assumption
    | intro _
    | refine keep_setWide ?_ ?_ ?_ ?_
    | refine keep_wr ?_ ?_ ?_ ?_
    | refine keep_onVid ?_ ?_ ?_
    | refine keep_raise ?_ ?_ ?_
    | refine keep_bump ?_ ?_ ?_
    | refine keep_ite ?_ ?_
    | refine keep_snd ‹_› ?_
    | refine keep_snd2 ‹_› ?_
    | refine keep_snd3 ‹_› ?_
    | refine keep_fst ‹_› ?_
    | split

theorem keep_linePins (s : State) (n : Nat) (h0 : Keeps z s) : Keeps z (linePins s n) := by
  unfold linePins
  repeat' with_reducible first
    | assumption
    | intro _
    | refine keep_onVid ?_ ?_ ?_

theorem keep_sendLine (s : State) (n : Nat) (pix : List (List Nat)) (h0 : Keeps z s) : Keeps z (sendLine s n pix) := by
  unfold sendLine
  repeat' with_reducible first
    | assumption
    | intro _
    | refine keep_linePins ?_ ?_ ?_
    | refine keep_onVid ?_ ?_ ?_
    | refine keep_ite ?_ ?_

theorem keep_vidLatch (s : State) (h0 : Keeps z s) : Keeps z (vidLatch s) := by
  unfold vidLatch
  repeat' with_reducible first
    | assumption
    | intro _
    | refine keep_wr ?_ ?_ ?_ ?_
    | refine keep_takeShown ?_ ?_
    | refine keep_onVid ?_ ?_ ?_
    | refine keep_raise ?_ ?_ ?_
    | refine keep_bump ?_ ?_ ?_
    | refine keep_sendLine ?_ ?_ ?_ ?_

theorem keep_vidStart (s : State) (h0 : Keeps z s) : Keeps z (vidStart s) := by
  unfold vidStart
  repeat' with_reducible first
    | assumption
    | intro _
    | refine keep_vidLatch ?_ ?_
    | refine keep_wr ?_ ?_ ?_ ?_
    | refine keep_onVid ?_ ?_ ?_
    | refine keep_ite ?_ ?_

theorem keep_vidCommitted (o : State) (s : State) (h0 : Keeps z o) (h1 : Keeps z s) : Keeps z (vidCommitted o s) := by
  unfold vidCommitted
  repeat' with_reducible first
    | assumption
    | intro _
    | refine keep_vidLockTo ?_ ?_ ?_
    | refine keep_vidHalt ?_ ?_
    | refine keep_wr ?_ ?_ ?_ ?_
    | refine keep_vidStart ?_ ?_
    | refine keep_onVid ?_ ?_ ?_
    | refine keep_raise ?_ ?_ ?_
    | refine keep_bump ?_ ?_ ?_
    | refine keep_pinsQuiet ?_ ?_ ?_
    | refine keep_freezeOff ?_ ?_ ?_
    | refine keep_foldl ?_ ?_
    | refine keep_ite ?_ ?_

theorem keep_commitAct (o : State) (s : State) (p : Nat) (h0 : Keeps z o) (h1 : Keeps z s) : Keeps z (commitAct o s p) := by
  unfold commitAct
  repeat' with_reducible first
    | assumption
    | intro _
    | refine keep_vidCommitted ?_ ?_ ?_ ?_
    | refine keep_scnCommitted ?_ ?_ ?_ ?_
    | refine keep_acqCommitted ?_ ?_ ?_ ?_
    | refine keep_galCommitted ?_ ?_ ?_ ?_
    | refine keep_modeSettle ?_ ?_ ?_ ?_ ?_
    | refine keep_plnCommitted ?_ ?_ ?_ ?_
    | refine keep_sdfCommitted ?_ ?_ ?_ ?_
    | refine keep_safRefresh ?_ ?_
    | refine keep_ite ?_ ?_
    | refine keep_snd ‹_› ?_
    | refine keep_snd2 ‹_› ?_
    | refine keep_snd3 ‹_› ?_
    | refine keep_fst ‹_› ?_
    | split

theorem keep_commitApply (q : Point) (s : State) (h1 : Keeps z s) : Keeps z (commitApply q s) := by
  unfold commitApply
  repeat' with_reducible first
    | assumption
    | intro _
    | refine keep_commitShow ?_ ?_ ?_
    | refine keep_commitAct ?_ ?_ ?_ ?_ ?_
    | refine keep_takeShadows ?_ ?_ ?_
    | refine keep_foldl ?_ ?_
    | dsimp only
    | exact keep_fold ‹_›
    | refine keep_fold ?_
    | refine keep_mk ?_

theorem keep_average (s : State) (sum : Int) (shift : Nat) (h0 : Keeps z s) : Keeps z (average s sum shift).2 := by
  unfold average
  repeat' with_reducible first
    | assumption
    | intro _
    | refine keep_takeFree ?_ ?_ ?_
    | refine keep_ite ?_ ?_
    | refine keep_ite_snd ?_ ?_

theorem keep_roundNext (s : State) (c : Nat) (h0 : Keeps z s) : Keeps z (roundNext s c) := by
  unfold roundNext
  repeat' with_reducible first
    | assumption
    | intro _
    | refine keep_onHka ?_ ?_ ?_
    | refine keep_setReg ?_ ?_ ?_ ?_
    | refine keep_wr ?_ ?_ ?_ ?_
    | refine keep_raise ?_ ?_ ?_
    | refine keep_monSample ?_ ?_ ?_ ?_ ?_
    | refine keep_snd ‹_› ?_
    | refine keep_snd2 ‹_› ?_
    | refine keep_snd3 ‹_› ?_
    | refine keep_fst ‹_› ?_
    | split

theorem keep_toQ16 (s : State) (w : Word) (h0 : Keeps z s) : Keeps z (toQ16 s w).2 := by
  unfold toQ16
  repeat' with_reducible first
    | assumption
    | intro _
    | refine keep_takeFree ?_ ?_ ?_
    | refine keep_ite ?_ ?_
    | refine keep_ite_snd ?_ ?_
    | refine keep_snd ‹_› ?_
    | refine keep_snd2 ‹_› ?_
    | refine keep_snd3 ‹_› ?_
    | refine keep_fst ‹_› ?_
    | split

theorem keep_galPosition (s : State) (y : Int) (h0 : Keeps z s) : Keeps z (galPosition s y) := by
  unfold galPosition
  repeat' with_reducible first
    | assumption
    | intro _
    | refine keep_setReg ?_ ?_ ?_ ?_
    | refine keep_onGal ?_ ?_ ?_

theorem keep_linInstall (s : State) (c : Nat) (h0 : Keeps z s) : Keeps z (linInstall s c) := by
  unfold linInstall
  repeat' with_reducible first
    | assumption
    | intro _
    | refine keep_onHka ?_ ?_ ?_

theorem keep_linFormed (s : State) (c : Nat) (h0 : Keeps z s) : Keeps z (linFormed s c) := by
  unfold linFormed
  repeat' with_reducible first
    | assumption
    | intro _
    | refine keep_linInstall ?_ ?_ ?_
    | refine keep_onHka ?_ ?_ ?_
    | refine keep_ite ?_ ?_
    | refine keep_snd ‹_› ?_
    | refine keep_snd2 ‹_› ?_
    | refine keep_snd3 ‹_› ?_
    | refine keep_fst ‹_› ?_
    | split

theorem keep_openClear (s : State) (c : Nat) (isOpen : Bool) (h0 : Keeps z s) : Keeps z (openClear s c isOpen) := by
  unfold openClear
  repeat' with_reducible first
    | assumption
    | intro _
    | refine keep_wrBit ?_ ?_ ?_ ?_ ?_
    | refine keep_ite ?_ ?_

theorem keep_stopDone (s : State) (h0 : Keeps z s) : Keeps z (stopDone s) := by
  unfold stopDone
  repeat' with_reducible first
    | assumption
    | intro _
    | refine keep_leaveRun ?_ ?_
    | refine keep_wr ?_ ?_ ?_ ?_
    | refine keep_raise ?_ ?_ ?_
    | refine keep_onThm ?_ ?_ ?_

theorem keep_stopFrames (s : State) (h0 : Keeps z s) : Keeps z (stopFrames s) := by
  unfold stopFrames
  repeat' with_reducible first
    | assumption
    | intro _
    | refine keep_flushFrames ?_ ?_
    | refine keep_closeFrames ?_ ?_ ?_
    | refine keep_stopScheduling ?_ ?_

theorem keep_thmStop (s : State) (h0 : Keeps z s) : Keeps z (thmStop s) := by
  unfold thmStop
  repeat' with_reducible first
    | assumption
    | intro _
    | refine keep_ss1Start ?_ ?_
    | refine keep_wr ?_ ?_ ?_ ?_
    | refine keep_safLatch ?_ ?_ ?_ ?_ ?_ ?_
    | refine keep_safRefresh ?_ ?_

theorem keep_thmInhibit (s : State) (h0 : Keeps z s) : Keeps z (thmInhibit s) := by
  unfold thmInhibit
  repeat' with_reducible first
    | assumption
    | intro _
    | refine keep_wr ?_ ?_ ?_ ?_
    | refine keep_safLatch ?_ ?_ ?_ ?_ ?_ ?_
    | refine keep_safRefresh ?_ ?_

theorem keep_immediateStop (s : State) (h0 : Keeps z s) : Keeps z (immediateStop s) := by
  unfold immediateStop
  repeat' with_reducible first
    | assumption
    | intro _
    | refine keep_thmInhibit ?_ ?_
    | refine keep_thmStop ?_ ?_
    | refine keep_wr ?_ ?_ ?_ ?_
    | refine keep_lmpEdge ?_ ?_ ?_ ?_
    | refine keep_raise ?_ ?_ ?_
    | refine keep_bump ?_ ?_ ?_
    | refine keep_stopFrames ?_ ?_
    | refine keep_stopDone ?_ ?_

theorem keep_orderlyStop (s : State) (h0 : Keeps z s) : Keeps z (orderlyStop s) := by
  unfold orderlyStop
  repeat' with_reducible first
    | assumption
    | intro _
    | refine keep_thmInhibit ?_ ?_
    | refine keep_wr ?_ ?_ ?_ ?_
    | refine keep_lmpEdge ?_ ?_ ?_ ?_
    | refine keep_raise ?_ ?_ ?_
    | refine keep_onThm ?_ ?_ ?_
    | refine keep_bump ?_ ?_ ?_
    | refine keep_stopFrames ?_ ?_
    | refine keep_ite ?_ ?_

theorem keep_thmTrip (s : State) (k : Nat) (cause : Nat) (act : Nat) (h0 : Keeps z s) : Keeps z (thmTrip s k cause act) := by
  unfold thmTrip
  repeat' with_reducible first
    | assumption
    | intro _
    | refine keep_thmInhibit ?_ ?_
    | refine keep_thmStop ?_ ?_
    | refine keep_immediateStop ?_ ?_
    | refine keep_wr ?_ ?_ ?_ ?_
    | refine keep_wrBit ?_ ?_ ?_ ?_ ?_
    | refine keep_onThm ?_ ?_ ?_
    | refine keep_orderlyStop ?_ ?_
    | refine keep_bump ?_ ?_ ?_
    | refine keep_ite ?_ ?_

theorem keep_dieJudge (s : State) (c : Nat) (x : Word) (h0 : Keeps z s) : Keeps z (dieJudge s c x) := by
  unfold dieJudge
  repeat' with_reducible first
    | assumption
    | intro _
    | refine keep_wrB ?_ ?_ ?_ ?_
    | refine keep_raise ?_ ?_ ?_
    | refine keep_onThm ?_ ?_ ?_
    | refine keep_thmTrip ?_ ?_ ?_ ?_ ?_
    | refine keep_ite ?_ ?_

theorem keep_alertNow (s : State) (k : Nat) (h0 : Keeps z s) : Keeps z (alertNow s k) := by
  unfold alertNow
  repeat' with_reducible first
    | assumption
    | intro _
    | refine keep_wrBit ?_ ?_ ?_ ?_ ?_

theorem keep_limFound (s : State) (k : Nat) (cause : Nat) (act : Nat) (was : Bool) (h0 : Keeps z s) :
    Keeps z (limFound s k cause act was) := by
  unfold limFound
  repeat' with_reducible first
    | assumption
    | intro _
    | refine keep_raise ?_ ?_ ?_
    | refine keep_bump ?_ ?_ ?_
    | refine keep_thmTrip ?_ ?_ ?_ ?_ ?_
    | refine keep_ite ?_ ?_

theorem keep_limAbs (s : State) (k : Nat) (y : Word) (h0 : Keeps z s) : Keeps z (limAbs s k y) := by
  unfold limAbs
  repeat' with_reducible first
    | assumption
    | intro _
    | refine keep_limFound ?_ ?_ ?_ ?_ ?_ ?_
    | refine keep_onThm ?_ ?_ ?_
    | refine keep_ite ?_ ?_

theorem keep_limJudge (s : State) (k : Nat) (i : Nat) (act : Nat) (found : Bool) (gone : Bool) (h0 : Keeps z s) :
    Keeps z (limJudge s k i act found gone) := by
  unfold limJudge
  repeat' with_reducible first
    | assumption
    | intro _
    | refine keep_limFound ?_ ?_ ?_ ?_ ?_ ?_
    | refine keep_wrBit ?_ ?_ ?_ ?_ ?_
    | refine keep_ite ?_ ?_

theorem keep_limRise (s : State) (k : Nat) (h0 : Keeps z s) : Keeps z (limRise s k) := by
  unfold limRise
  repeat' with_reducible first
    | assumption
    | intro _
    | refine keep_setReg ?_ ?_ ?_ ?_
    | refine keep_limJudge ?_ ?_ ?_ ?_ ?_ ?_ ?_
    | refine keep_wr ?_ ?_ ?_ ?_
    | refine keep_snd ‹_› ?_
    | refine keep_snd2 ‹_› ?_
    | refine keep_snd3 ‹_› ?_
    | refine keep_fst ‹_› ?_
    | split
    | dsimp only

theorem keep_limEval (k : Nat) (valid : Bool) (y : Word) (s : State) (h3 : Keeps z s) : Keeps z (limEval k valid y s) := by
  unfold limEval
  repeat' with_reducible first
    | assumption
    | intro _
    | refine keep_limRise ?_ ?_ ?_
    | refine keep_limJudge ?_ ?_ ?_ ?_ ?_ ?_ ?_
    | refine keep_wr ?_ ?_ ?_ ?_
    | refine keep_raise ?_ ?_ ?_
    | refine keep_onThm ?_ ?_ ?_
    | refine keep_limAbs ?_ ?_ ?_ ?_
    | refine keep_alertNow ?_ ?_ ?_
    | refine keep_ite ?_ ?_

theorem keep_thmResult (s : State) (c : Nat) (valid : Bool) (x : Word) (y : Word) (h0 : Keeps z s) :
    Keeps z (thmResult s c valid x y) := by
  unfold thmResult
  repeat' with_reducible first
    | assumption
    | intro _
    | refine keep_limEval ?_ ?_ ?_ ?_ ?_
    | refine keep_dieJudge ?_ ?_ ?_ ?_
    | refine keep_foldl ?_ ?_
    | refine keep_ite ?_ ?_

theorem keep_calResult (s : State) (c : Nat) (valid : Bool) (y : Word) (h0 : Keeps z s) : Keeps z (calResult s c valid y) := by
  unfold calResult
  repeat' with_reducible first
    | assumption
    | intro _
    | refine keep_onCal ?_ ?_ ?_
    | refine keep_calStart ?_ ?_
    | refine keep_wr ?_ ?_ ?_ ?_
    | refine keep_calStale ?_ ?_
    | refine keep_ite ?_ ?_

theorem keep_placeResult (s : State) (c : Nat) (x : Word) (y : Word) (isOpen : Bool) (clamp : Bool) (timeout : Bool) (ref : Bool) (h0 : Keeps z s) :
    Keeps z (placeResult s c x y isOpen clamp timeout ref) := by
  unfold placeResult
  repeat' with_reducible first
    | assumption
    | intro _
    | refine keep_onHka ?_ ?_ ?_
    | refine keep_setReg ?_ ?_ ?_ ?_
    | refine keep_thmResult ?_ ?_ ?_ ?_ ?_ ?_
    | refine keep_linFormed ?_ ?_ ?_
    | refine keep_retTemp ?_ ?_
    | refine keep_openClear ?_ ?_ ?_ ?_
    | refine keep_galPosition ?_ ?_ ?_
    | refine keep_toQ16 ?_ ?_ ?_
    | refine keep_calResult ?_ ?_ ?_ ?_ ?_
    | refine keep_ite ?_ ?_

theorem keep_scanResult (s : State) (c : Nat) (cfg : Word) (h0 : Keeps z s) : Keeps z (scanResult s c cfg) := by
  unfold scanResult
  repeat' with_reducible first
    | assumption
    | intro _
    | refine keep_roundNext ?_ ?_ ?_
    | refine keep_setReg ?_ ?_ ?_ ?_
    | refine keep_placeResult ?_ ?_ ?_ ?_ ?_ ?_ ?_ ?_ ?_
    | refine keep_average ?_ ?_ ?_ ?_

theorem keep_scanSample (s : State) (c : Nat) (cfg : Word) (v : Int) (h0 : Keeps z s) : Keeps z (scanSample s c cfg v) := by
  unfold scanSample
  repeat' with_reducible first
    | assumption
    | intro _
    | refine keep_onHka ?_ ?_ ?_
    | refine keep_scanResult ?_ ?_ ?_ ?_
    | refine keep_ite ?_ ?_

theorem keep_toutPlace (s : State) (tb : Nat) (i : Nat) (h0 : Keeps z s) : Keeps z (toutPlace s tb i) := by
  unfold toutPlace
  repeat' with_reducible first
    | assumption
    | intro _
    | dsimp only
    | exact keep_fold ‹_›
    | refine keep_fold ?_
    | refine keep_mk ?_

theorem keep_toutEarly (t : Nat) (i : Nat) (s : State) (h2 : Keeps z s) : Keeps z (toutEarly t i s) := by
  unfold toutEarly
  repeat' with_reducible first
    | assumption
    | intro _
    | refine keep_toutPlace ?_ ?_ ?_ ?_
    | refine keep_ite ?_ ?_

theorem keep_toutPulse (t : Nat) (i : Nat) (s : State) (h2 : Keeps z s) : Keeps z (toutPulse t i s) := by
  unfold toutPulse
  repeat' with_reducible first
    | assumption
    | intro _
    | refine keep_toutBegin ?_ ?_ ?_ ?_ ?_
    | refine keep_toutFire ?_ ?_ ?_ ?_ ?_
    | refine keep_toutEarly ?_ ?_ ?_ ?_
    | refine keep_ite ?_ ?_
    | refine keep_snd ‹_› ?_
    | refine keep_snd2 ‹_› ?_
    | refine keep_snd3 ‹_› ?_
    | refine keep_fst ‹_› ?_
    | split
    | dsimp only
    | exact keep_fold ‹_›
    | refine keep_fold ?_
    | refine keep_mk ?_

theorem keep_triggerInputEdge (t : Nat) (line : Nat) (falling : Bool) (s : State) (h3 : Keeps z s) :
    Keeps z (triggerInputEdge t line falling s) := by
  unfold triggerInputEdge
  repeat' with_reducible first
    | assumption
    | intro _
    | refine keep_trigEvent ?_ ?_ ?_ ?_ ?_ ?_
    | refine keep_ite ?_ ?_

theorem keep_lateMark (s : State) (num : Nat) (m : Mark) (h0 : Keeps z s) : Keeps z (lateMark s num m) := by
  unfold lateMark
  repeat' with_reducible first
    | assumption
    | intro _
    | refine keep_placeMark ?_ ?_ ?_ ?_
    | refine keep_ite ?_ ?_
    | refine keep_snd ‹_› ?_
    | refine keep_snd2 ‹_› ?_
    | refine keep_snd3 ‹_› ?_
    | refine keep_fst ‹_› ?_
    | split

theorem keep_slotMirror (s : State) (k : Nat) (m : SlotMirror) (h0 : Keeps z s) : Keeps z (slotMirror s k m) := by
  unfold slotMirror
  repeat' with_reducible first
    | assumption
    | intro _
    | refine keep_setSlot ?_ ?_ ?_ ?_

theorem keep_mirrorState (s : State) (m : LoopMirror) (h0 : Keeps z s) : Keeps z (mirrorState s m) := by
  unfold mirrorState
  repeat' with_reducible first
    | assumption
    | intro _
    | refine keep_onMot ?_ ?_ ?_
    | refine keep_onGal ?_ ?_ ?_
    | refine keep_wr ?_ ?_ ?_ ?_
    | refine keep_wrB ?_ ?_ ?_ ?_
    | refine keep_slotMirror ?_ ?_ ?_ ?_
    | refine keep_foldl ?_ ?_
    | refine keep_ite ?_ ?_

theorem keep_inputCauses (s : State) (b : Bool) (h0 : Keeps z s) : Keeps z (inputCauses s b) := by
  unfold inputCauses
  repeat' with_reducible first
    | assumption
    | intro _
    | refine keep_onPath ?_ ?_ ?_ ?_
    | refine keep_safLatch ?_ ?_ ?_ ?_ ?_ ?_
    | refine keep_ite ?_ ?_

theorem keep_pathInput (s : State) (b : Bool) (i : Nat) (level : Bool) (h0 : Keeps z s) : Keeps z (pathInput s b i level) := by
  unfold pathInput
  repeat' with_reducible first
    | assumption
    | intro _
    | refine keep_inputCauses ?_ ?_ ?_
    | refine keep_onPath ?_ ?_ ?_ ?_

theorem keep_freeSlot (s : State) (n : Nat) (k : Nat) (h0 : Keeps z s) : Keeps z (freeSlot s n k) := by
  unfold freeSlot
  repeat' with_reducible first
    | assumption
    | intro _
    | refine keep_setEngine ?_ ?_ ?_ ?_

theorem keep_noPeak (s : State) (c : Nat) (p : Pixel) (k0 : Nat) (h0 : Keeps z s) : Keeps z (noPeak s c p k0) := by
  unfold noPeak
  repeat' with_reducible first
    | assumption
    | intro _
    | refine keep_drainHold ?_ ?_ ?_ ?_
    | refine keep_bump ?_ ?_ ?_
    | refine keep_setPixel ?_ ?_ ?_ ?_
    | refine keep_freeSlot ?_ ?_ ?_ ?_
    | refine keep_setEngine ?_ ?_ ?_ ?_
    | refine keep_foldl ?_ ?_

theorem keep_bgOf (s : State) (p : Pixel) (c : Ctx) (h0 : Keeps z s) : Keeps z (bgOf s p c).2.2 := by
  unfold bgOf
  repeat' with_reducible first
    | assumption
    | intro _
    | refine keep_takeFree ?_ ?_ ?_
    | refine keep_ite ?_ ?_
    | refine keep_ite_snd ?_ ?_
    | refine keep_snd ‹_› ?_
    | refine keep_snd2 ‹_› ?_
    | refine keep_snd3 ‹_› ?_
    | refine keep_fst ‹_› ?_
    | split

theorem keep_sampleOpen (s : State) (n : Nat) (h0 : Keeps z s) : Keeps z (sampleOpen s n) := by
  unfold sampleOpen
  repeat' with_reducible first
    | assumption
    | intro _
    | refine keep_monSample ?_ ?_ ?_ ?_ ?_

theorem keep_openZooms (s : State) (c : Nat) (p : Pixel) (k0 : Nat) (coarse : Ctx) (ozs : List Int) (h0 : Keeps z s) :
    Keeps z (openZooms s c p k0 coarse ozs) := by
  unfold openZooms
  repeat' with_reducible first
    | assumption
    | intro _
    | refine keep_drainHold ?_ ?_ ?_ ?_
    | refine keep_bgOf ?_ ?_ ?_ ?_
    | refine keep_setPixel ?_ ?_ ?_ ?_
    | refine keep_freeSlot ?_ ?_ ?_ ?_
    | refine keep_setEngine ?_ ?_ ?_ ?_
    | refine keep_sampleOpen ?_ ?_ ?_
    | refine keep_foldl ?_ ?_
    | refine keep_ite ?_ ?_
    | refine keep_getD ?_ ?_
    | refine keep_snd ‹_› ?_
    | refine keep_snd2 ‹_› ?_
    | refine keep_snd3 ‹_› ?_
    | refine keep_fst ‹_› ?_
    | split

theorem keep_zoomOpen (c : Nat) (s : State) (h1 : Keeps z s) : Keeps z (zoomOpen c s) := by
  unfold zoomOpen
  repeat' with_reducible first
    | assumption
    | intro _
    | refine keep_openZooms ?_ ?_ ?_ ?_ ?_ ?_ ?_
    | refine keep_noPeak ?_ ?_ ?_ ?_ ?_
    | refine keep_ite ?_ ?_
    | refine keep_snd ‹_› ?_
    | refine keep_snd2 ‹_› ?_
    | refine keep_snd3 ‹_› ?_
    | refine keep_fst ‹_› ?_
    | split

theorem keep_safInputs (s : State) (h0 : Keeps z s) : Keeps z (safInputs s) := by
  unfold safInputs
  repeat' with_reducible first
    | assumption
    | intro _
    | refine keep_setReg ?_ ?_ ?_ ?_

theorem keep_safeResetEdge (s : State) (a : Bool) (b : Bool) (h0 : Keeps z s) : Keeps z (safeResetEdge s a b) := by
  unfold safeResetEdge
  repeat' with_reducible first
    | assumption
    | intro _
    | refine keep_resetAccept ?_ ?_
    | refine keep_onPath ?_ ?_ ?_ ?_
    | refine keep_safInputs ?_ ?_
    | refine keep_raise ?_ ?_ ?_
    | refine keep_bump ?_ ?_ ?_
    | refine keep_ite ?_ ?_
    | split
    | dsimp only
    | exact keep_fold ‹_›
    | refine keep_fold ?_
    | refine keep_mk ?_

theorem keep_safetyInputChange (t : Nat) (i : Nat) (level : Bool) (a : Bool) (b : Bool) (s : State) (h5 : Keeps z s) :
    Keeps z (safetyInputChange t i level a b s) := by
  unfold safetyInputChange
  repeat' with_reducible first
    | assumption
    | intro _
    | refine keep_pathInput ?_ ?_ ?_ ?_ ?_
    | refine keep_safInputs ?_ ?_
    | refine keep_safeResetEdge ?_ ?_ ?_ ?_
    | refine keep_fbJudge ?_ ?_ ?_ ?_
    | refine keep_safRefresh ?_ ?_
    | refine keep_at' ?_ ?_ ?_
    | refine keep_ite ?_ ?_
    | split
    | dsimp only
    | exact keep_fold ‹_›
    | refine keep_fold ?_
    | refine keep_mk ?_

theorem keep_execSafetyInputChange (t : Nat) (i : Nat) (level : Bool) (a : Bool) (b : Bool) (s : State) (h5 : Keeps z s) :
    ∀ u, (execSafetyInputChange t i level a b s) = .next u → Keeps z u := by
  intro u e
  unfold execSafetyInputChange at e
  refine keep_next ?_ e
  clear e
  repeat' with_reducible first
    | assumption
    | intro _
    | refine keep_safetyInputChange ?_ ?_ ?_ ?_ ?_ ?_ ?_

theorem keep_focVoltage (t : Nat) (u : Nat) (s : State) (h2 : Keeps z s) : Keeps z (focVoltage t u s) := by
  unfold focVoltage
  repeat' with_reducible first
    | assumption
    | intro _
    | refine keep_onMot ?_ ?_ ?_
    | refine keep_wr ?_ ?_ ?_ ?_
    | refine keep_wrB ?_ ?_ ?_ ?_

theorem keep_linkDown (p : Nat) (s : State) (h1 : Keeps z s) : Keeps z (linkDown p s) := by
  unfold linkDown
  repeat' with_reducible first
    | assumption
    | intro _
    | refine keep_portDown ?_ ?_ ?_
    | refine keep_raise ?_ ?_ ?_
    | refine keep_ite ?_ ?_

theorem keep_execLinkDown (t : Nat) (p : Nat) (s : State) (h2 : Keeps z s) : ∀ u, (execLinkDown t p s) = .next u → Keeps z u := by
  intro u e
  unfold execLinkDown at e
  refine keep_next ?_ e
  clear e
  repeat' with_reducible first
    | assumption
    | intro _
    | refine keep_linkDown ?_ ?_ ?_
    | refine keep_at' ?_ ?_ ?_

theorem keep_tduPair (s : State) (m : Nat) (v : Int) (h0 : Keeps z s) : Keeps z (tduPair s m v) := by
  unfold tduPair
  repeat' with_reducible first
    | assumption
    | intro _
    | refine keep_raiseAt ?_ ?_ ?_ ?_
    | refine keep_takeFree ?_ ?_ ?_
    | refine keep_setTdu ?_ ?_ ?_ ?_
    | refine keep_wr ?_ ?_ ?_ ?_
    | refine keep_ite ?_ ?_

theorem keep_tduOne (src : Nat) (time : Nat) (s : State) (m : Nat) (h2 : Keeps z s) : Keeps z (tduOne src time s m) := by
  unfold tduOne
  repeat' with_reducible first
    | assumption
    | intro _
    | refine keep_setTdu ?_ ?_ ?_ ?_
    | refine keep_wr ?_ ?_ ?_ ?_
    | refine keep_tduPair ?_ ?_ ?_ ?_
    | refine keep_bump ?_ ?_ ?_
    | refine keep_ite ?_ ?_
    | refine keep_snd ‹_› ?_
    | refine keep_snd2 ‹_› ?_
    | refine keep_snd3 ‹_› ?_
    | refine keep_fst ‹_› ?_
    | split

theorem keep_tduEvent (s : State) (src : Nat) (time : Nat) (h0 : Keeps z s) : Keeps z (tduEvent s src time) := by
  unfold tduEvent
  repeat' with_reducible first
    | assumption
    | intro _
    | refine keep_tduOne ?_ ?_ ?_ ?_ ?_
    | refine keep_foldl ?_ ?_
    | refine keep_ite ?_ ?_

theorem keep_setShot (s : State) (x : Shot) (h0 : Keeps z s) : Keeps z (setShot s x) := by
  unfold setShot
  repeat' with_reducible first
    | assumption
    | intro _
    | refine keep_ite ?_ ?_
    | split
    | dsimp only
    | exact keep_fold ‹_›
    | refine keep_fold ?_
    | refine keep_mk ?_

theorem keep_startEdge (raw : Nat) (m : Nat) (s : State) (h2 : Keeps z s) : Keeps z (startEdge raw m s) := by
  unfold startEdge
  repeat' with_reducible first
    | assumption
    | intro _
    | refine keep_setReg ?_ ?_ ?_ ?_
    | refine keep_raise ?_ ?_ ?_
    | refine keep_setShot ?_ ?_ ?_
    | refine keep_bump ?_ ?_ ?_
    | refine keep_tduEvent ?_ ?_ ?_ ?_
    | refine keep_ite ?_ ?_
    | refine keep_snd ‹_› ?_
    | refine keep_snd2 ‹_› ?_
    | refine keep_snd3 ‹_› ?_
    | refine keep_fst ‹_› ?_
    | split
    | dsimp only

theorem keep_pauseReceived (s : State) (p : Nat) (f : List Byte) (h0 : Keeps z s) : Keeps z (pauseReceived s p f) := by
  unfold pauseReceived
  repeat' with_reducible first
    | assumption
    | intro _
    | refine keep_wrB ?_ ?_ ?_ ?_
    | refine keep_raise ?_ ?_ ?_
    | refine keep_bump ?_ ?_ ?_
    | refine keep_ite ?_ ?_
    | split
    | dsimp only
    | exact keep_fold ‹_›
    | refine keep_fold ?_
    | refine keep_mk ?_

theorem keep_corrected (s : State) (p : Nat) (f : List Byte) (o : Nat) (udp : Option Nat) (r : Int) (h0 : Keeps z s) :
    Keeps z (corrected s p f o udp r).1 := by
  unfold corrected
  repeat' with_reducible first
    | assumption
    | intro _
    | refine keep_bump ?_ ?_ ?_

theorem keep_setMatch (s : State) (k : List Byte) (e : Option MatchEnt) (h0 : Keeps z s) : Keeps z (setMatch s k e) := by
  unfold setMatch
  repeat' with_reducible first
    | assumption
    | intro _
    | refine keep_ite ?_ ?_
    | split
    | dsimp only
    | exact keep_fold ‹_›
    | refine keep_fold ?_
    | refine keep_mk ?_

theorem keep_followUp (s : State) (p : Nat) (f : List Byte) (k : List Byte) (o : Nat) (udp : Option Nat) (h0 : Keeps z s) :
    Keeps z (followUp s p f k o udp).1 := by
  unfold followUp
  repeat' with_reducible first
    | assumption
    | intro _
    | refine keep_corrected ?_ ?_ ?_ ?_ ?_ ?_ ?_
    | refine keep_setMatch ?_ ?_ ?_ ?_
    | refine keep_raise ?_ ?_ ?_
    | refine keep_bump ?_ ?_ ?_
    | refine keep_ite ?_ ?_
    | refine keep_ite_snd ?_ ?_
    | refine keep_snd ‹_› ?_
    | refine keep_snd2 ‹_› ?_
    | refine keep_snd3 ‹_› ?_
    | refine keep_fst ‹_› ?_
    | split

theorem keep_tcEgress (s : State) (i : EthItem) (p : Nat) (sfd : Nat) (h0 : Keeps z s) : Keeps z (tcEgress s i p sfd).1 := by
  unfold tcEgress
  repeat' with_reducible first
    | assumption
    | intro _
    | refine keep_corrected ?_ ?_ ?_ ?_ ?_ ?_ ?_
    | refine keep_followUp ?_ ?_ ?_ ?_ ?_ ?_ ?_
    | refine keep_setMatch ?_ ?_ ?_ ?_
    | refine keep_ite ?_ ?_
    | refine keep_ite_snd ?_ ?_
    | refine keep_snd ‹_› ?_
    | refine keep_snd2 ‹_› ?_
    | refine keep_snd3 ‹_› ?_
    | refine keep_fst ‹_› ?_
    | split
    | dsimp only

theorem keep_sendOut (s : State) (i : EthItem) (p : Nat) (sfd : Nat) (h0 : Keeps z s) : Keeps z (sendOut s i p sfd) := by
  unfold sendOut
  repeat' with_reducible first
    | assumption
    | intro _
    | refine keep_tcEgress ?_ ?_ ?_ ?_ ?_
    | refine keep_tsReport ?_ ?_ ?_ ?_ ?_
    | refine keep_bump ?_ ?_ ?_
    | dsimp only
    | exact keep_fold ‹_›
    | refine keep_fold ?_
    | refine keep_mk ?_

theorem keep_execLaneEnWrite (t : Nat) (r : Requester) (b : Nat) (d : Nat) (s : State) (h4 : Keeps z s) :
    ∀ u, (execLaneEnWrite t r b d s) = .next u → Keeps z u := by
  intro u e
  unfold execLaneEnWrite at e
  refine keep_next ?_ e
  clear e
  repeat' with_reducible first
    | assumption
    | intro _
    | refine keep_accessW ?_ ?_ ?_ ?_ ?_ ?_

theorem keep_proofLaser (s : State) (h0 : Keeps z s) : Keeps z (proofLaser s) := by
  unfold proofLaser
  repeat' with_reducible first
    | assumption
    | intro _
    | refine keep_safRefresh ?_ ?_
    | dsimp only
    | exact keep_fold ‹_›
    | refine keep_fold ?_
    | refine keep_mk ?_

theorem keep_safMotor (s : State) (q : Torque) (h0 : Keeps z s) : Keeps z (safMotor s q) := by
  unfold safMotor
  repeat' with_reducible first
    | assumption
    | intro _
    | refine keep_safLatch ?_ ?_ ?_ ?_ ?_ ?_
    | refine keep_safRefresh ?_ ?_

theorem keep_motLatch (s : State) (f : Fld) (h0 : Keeps z s) : Keeps z (motLatch s f) := by
  unfold motLatch
  repeat' with_reducible first
    | assumption
    | intro _
    | refine keep_wrBit ?_ ?_ ?_ ?_ ?_
    | refine keep_raise ?_ ?_ ?_

theorem keep_motTrip (s : State) (f : Fld) (h0 : Keeps z s) : Keeps z (motTrip s f) := by
  unfold motTrip
  repeat' with_reducible first
    | assumption
    | intro _
    | refine keep_motLatch ?_ ?_ ?_
    | refine keep_torqueOff ?_ ?_
    | refine keep_safMotor ?_ ?_ ?_

theorem keep_hallFault (s : State) (h0 : Keeps z s) : Keeps z (hallFault s) := by
  unfold hallFault
  repeat' with_reducible first
    | assumption
    | intro _
    | refine keep_motTrip ?_ ?_ ?_
    | refine keep_bump ?_ ?_ ?_

theorem keep_planPhase (s : State) (phase : Int) (h0 : Keeps z s) : Keeps z (planPhase s phase) := by
  unfold planPhase
  repeat' with_reducible first
    | assumption
    | intro _
    | refine keep_onPln ?_ ?_ ?_
    | refine keep_setReg ?_ ?_ ?_ ?_
    | refine keep_wr ?_ ?_ ?_ ?_
    | refine keep_raise ?_ ?_ ?_
    | refine keep_ite ?_ ?_

theorem keep_genlockEdge (t : Nat) (falling : Bool) (s : State) (h2 : Keeps z s) : Keeps z (genlockEdge t falling s) := by
  unfold genlockEdge
  repeat' with_reducible first
    | assumption
    | intro _
    | refine keep_setReg ?_ ?_ ?_ ?_
    | refine keep_onAcq ?_ ?_ ?_
    | refine keep_wr ?_ ?_ ?_ ?_
    | refine keep_planPhase ?_ ?_ ?_
    | refine keep_bump ?_ ?_ ?_
    | refine keep_ite ?_ ?_
    | refine keep_snd ‹_› ?_
    | refine keep_snd2 ‹_› ?_
    | refine keep_snd3 ‹_› ?_
    | refine keep_fst ‹_› ?_
    | split

theorem keep_settlingEnd (t : Nat) (c : Nat) (s : State) (h2 : Keeps z s) : Keeps z (settlingEnd t c s) := by
  unfold settlingEnd
  repeat' with_reducible first
    | assumption
    | intro _
    | refine keep_settle ?_ ?_ ?_
    | refine keep_setChan ?_ ?_ ?_ ?_
    | refine keep_ite ?_ ?_

theorem keep_execSettlingEnd (t : Nat) (c : Nat) (s : State) (h2 : Keeps z s) :
    ∀ u, (execSettlingEnd t c s) = .next u → Keeps z u := by
  intro u e
  unfold execSettlingEnd at e
  refine keep_next ?_ e
  clear e
  repeat' with_reducible first
    | assumption
    | intro _
    | refine keep_at' ?_ ?_ ?_
    | refine keep_settlingEnd ?_ ?_ ?_ ?_

theorem keep_crcRunCheck (t : Nat) (s : State) (h1 : Keeps z s) : Keeps z (crcRunCheck t s) := by
  unfold crcRunCheck
  repeat' with_reducible first
    | assumption
    | intro _
    | refine keep_wr ?_ ?_ ?_ ?_
    | refine keep_safLatch ?_ ?_ ?_ ?_ ?_ ?_
    | refine keep_raise ?_ ?_ ?_
    | refine keep_safRefresh ?_ ?_
    | refine keep_at' ?_ ?_ ?_
    | refine keep_ite ?_ ?_

theorem keep_calApplied (s : State) (h0 : Keeps z s) : Keeps z (calApplied s) := by
  unfold calApplied
  repeat' with_reducible first
    | assumption
    | intro _
    | refine keep_calBoundary ?_ ?_ ?_
    | refine keep_calInstall ?_ ?_ ?_ ?_
    | refine keep_ite ?_ ?_
    | refine keep_snd ‹_› ?_
    | refine keep_snd2 ‹_› ?_
    | refine keep_snd3 ‹_› ?_
    | refine keep_fst ‹_› ?_
    | split

theorem keep_hallEdgeTimeout (s : State) (h0 : Keeps z s) : Keeps z (hallEdgeTimeout s) := by
  unfold hallEdgeTimeout
  repeat' with_reducible first
    | assumption
    | intro _
    | refine keep_hallFault ?_ ?_
    | refine keep_ite ?_ ?_

theorem keep_execHallEdgeTimeout (t : Nat) (s : State) (h1 : Keeps z s) : ∀ u, (execHallEdgeTimeout t s) = .next u → Keeps z u := by
  intro u e
  unfold execHallEdgeTimeout at e
  refine keep_next ?_ e
  clear e
  repeat' with_reducible first
    | assumption
    | intro _
    | refine keep_hallEdgeTimeout ?_ ?_
    | refine keep_at' ?_ ?_ ?_

theorem keep_pushItem (s : State) (c : Nat) (i : VatItem) (h0 : Keeps z s) : Keeps z (pushItem s c i) := by
  unfold pushItem
  repeat' with_reducible first
    | assumption
    | intro _
    | refine keep_setPath ?_ ?_ ?_ ?_

theorem keep_pushMarker (s : State) (g : GroupCfg) (i : VatItem) (h0 : Keeps z s) : Keeps z (pushMarker s g i) := by
  unfold pushMarker
  repeat' with_reducible first
    | assumption
    | intro _
    | refine keep_pushItem ?_ ?_ ?_ ?_
    | refine keep_foldl ?_ ?_

theorem keep_activeOutRaise (t : Nat) (s : State) (h1 : Keeps z s) : Keeps z (activeOutRaise t s) := by
  unfold activeOutRaise
  repeat' with_reducible first
    | assumption
    | intro _
    | refine keep_raiseAt ?_ ?_ ?_ ?_
    | refine keep_onPair ?_ ?_ ?_
    | refine keep_ite ?_ ?_
    | refine keep_snd ‹_› ?_
    | refine keep_snd2 ‹_› ?_
    | refine keep_snd3 ‹_› ?_
    | refine keep_fst ‹_› ?_
    | split

theorem keep_execPlnEnableWrite (t : Nat) (r : Requester) (d : Nat) (s : State) (h3 : Keeps z s) :
    ∀ u, (execPlnEnableWrite t r d s) = .next u → Keeps z u := by
  intro u e
  unfold execPlnEnableWrite at e
  refine keep_next ?_ e
  clear e
  repeat' with_reducible first
    | assumption
    | intro _
    | refine keep_accessW ?_ ?_ ?_ ?_ ?_ ?_

theorem keep_setRun (s : State) (g : Nat) (r : GroupRun) (h0 : Keeps z s) : Keeps z (setRun s g r) := by
  unfold setRun
  repeat' with_reducible first
    | assumption
    | intro _
    | dsimp only
    | exact keep_fold ‹_›
    | refine keep_fold ?_
    | refine keep_mk ?_

theorem keep_execEventCounterClear (t : Nat) (r : Requester) (a : Nat) (s : State) (h3 : Keeps z s) :
    ∀ u, (execEventCounterClear t r a s) = .next u → Keeps z u := by
  intro u e
  unfold execEventCounterClear at e
  refine keep_next ?_ e
  clear e
  repeat' with_reducible first
    | assumption
    | intro _
    | refine keep_accessW ?_ ?_ ?_ ?_ ?_ ?_

theorem keep_access (t : Nat) (r : Requester) (a : Nat) (s : State) (h3 : Keeps z s) : Keeps z (access t r a s) := by
  unfold access
  repeat' with_reducible first
    | assumption
    | intro _
    | refine keep_drain ?_ ?_ ?_
    | refine keep_readNow ?_ ?_ ?_ ?_
    | refine keep_at' ?_ ?_ ?_

theorem keep_execNowNsRead (t : Nat) (r : Requester) (s : State) (h2 : Keeps z s) :
    ∀ u, (execNowNsRead t r s) = .next u → Keeps z u := by
  intro u e
  unfold execNowNsRead at e
  refine keep_next ?_ e
  clear e
  repeat' with_reducible first
    | assumption
    | intro _
    | refine keep_access ?_ ?_ ?_ ?_ ?_

theorem keep_foreignCand (s : State) (p : Pixel) (d : Nat × Nat × Nat) (x : Cand) (h0 : Keeps z s) :
    Keeps z (foreignCand s p d x).2 := by
  unfold foreignCand
  repeat' with_reducible first
    | assumption
    | intro _
    | refine keep_takeFree ?_ ?_ ?_
    | refine keep_ite ?_ ?_
    | refine keep_ite_snd ?_ ?_

theorem keep_foreignTest (s : State) (p : Pixel) (l : List Cand) (h0 : Keeps z s) : Keeps z (foreignTest s p l).2 := by
  unfold foreignTest
  repeat' with_reducible first
    | assumption
    | intro _
    | refine keep_foreignCand ?_ ?_ ?_ ?_ ?_
    | refine keep_raise ?_ ?_ ?_
    | refine keep_bump ?_ ?_ ?_
    | refine keep_foldl ?_ ?_
    | refine keep_foldl_snd ?_ ?_
    | refine keep_ite ?_ ?_
    | refine keep_ite_snd ?_ ?_
    | refine keep_snd ‹_› ?_
    | refine keep_snd2 ‹_› ?_
    | refine keep_snd3 ‹_› ?_
    | refine keep_fst ‹_› ?_
    | split

theorem keep_countReturns (s : State) (l : List Cand) (h0 : Keeps z s) : Keeps z (countReturns s l) := by
  unfold countReturns
  repeat' with_reducible first
    | assumption
    | intro _
    | refine keep_bumpBy ?_ ?_ ?_ ?_
    | refine keep_raise ?_ ?_ ?_
    | refine keep_ite ?_ ?_

theorem keep_countExcess (s : State) (excess : Bool) (h0 : Keeps z s) : Keeps z (countExcess s excess) := by
  unfold countExcess
  repeat' with_reducible first
    | assumption
    | intro _
    | refine keep_raise ?_ ?_ ?_
    | refine keep_bump ?_ ?_ ?_
    | refine keep_ite ?_ ?_

theorem keep_setLastQ (s : State) (g : Nat) (q : Int) (h0 : Keeps z s) : Keeps z (setLastQ s g q) := by
  unfold setLastQ
  repeat' with_reducible first
    | assumption
    | intro _
    | refine keep_setReg ?_ ?_ ?_ ?_
    | refine keep_takeFree ?_ ?_ ?_
    | refine keep_ite ?_ ?_

theorem keep_pixelRecords (s : State) (x : Closing) (takeover : Bool) (h0 : Keeps z s) : Keeps z (pixelRecords s x takeover).2 := by
  unfold pixelRecords
  repeat' with_reducible first
    | assumption
    | intro _
    | refine keep_countReturns ?_ ?_ ?_
    | refine keep_bumpBy ?_ ?_ ?_ ?_
    | refine keep_setLastQ ?_ ?_ ?_ ?_
    | refine keep_countExcess ?_ ?_ ?_
    | refine keep_foreignTest ?_ ?_ ?_ ?_
    | refine keep_bump ?_ ?_ ?_
    | refine keep_ite ?_ ?_
    | refine keep_ite_snd ?_ ?_
    | refine keep_getD ?_ ?_
    | refine keep_snd ‹_› ?_
    | refine keep_snd2 ‹_› ?_
    | refine keep_snd3 ‹_› ?_
    | refine keep_fst ‹_› ?_
    | split
    | dsimp only

theorem keep_linLoadDone (c : Nat) (s : State) (h1 : Keeps z s) : Keeps z (linLoadDone c s) := by
  unfold linLoadDone
  repeat' with_reducible first
    | assumption
    | intro _
    | refine keep_linInstall ?_ ?_ ?_
    | refine keep_onHka ?_ ?_ ?_
    | refine keep_ite ?_ ?_
    | refine keep_snd ‹_› ?_
    | refine keep_snd2 ‹_› ?_
    | refine keep_snd3 ‹_› ?_
    | refine keep_fst ‹_› ?_
    | split

theorem keep_execLinLoadDone (t : Nat) (c : Nat) (s : State) (h2 : Keeps z s) :
    ∀ u, (execLinLoadDone t c s) = .next u → Keeps z u := by
  intro u e
  unfold execLinLoadDone at e
  refine keep_next ?_ e
  clear e
  repeat' with_reducible first
    | assumption
    | intro _
    | refine keep_linLoadDone ?_ ?_ ?_
    | refine keep_at' ?_ ?_ ?_

theorem keep_sendMark (s : State) (ws : List Word) (h0 : Keeps z s) : Keeps z (sendMark s ws) := by
  unfold sendMark
  repeat' with_reducible first
    | assumption
    | intro _
    | refine keep_queueFrame ?_ ?_ ?_ ?_
    | refine keep_bump ?_ ?_ ?_
    | refine keep_foldl ?_ ?_
    | refine keep_ite ?_ ?_

theorem keep_freshLink (s : State) (b : Nat) (h0 : Keeps z s) : Keeps z (freshLink s b) := by
  unfold freshLink
  repeat' with_reducible first
    | assumption
    | intro _
    | refine keep_wr ?_ ?_ ?_ ?_
    | refine keep_onBundle ?_ ?_ ?_ ?_

theorem keep_execLgRateWrite (t : Nat) (r : Requester) (d : Nat) (s : State) (h3 : Keeps z s) :
    ∀ u, (execLgRateWrite t r d s) = .next u → Keeps z u := by
  intro u e
  unfold execLgRateWrite at e
  refine keep_next ?_ e
  clear e
  repeat' with_reducible first
    | assumption
    | intro _
    | refine keep_accessW ?_ ?_ ?_ ?_ ?_ ?_

theorem keep_execToutArm (t : Nat) (r : Requester) (i : Nat) (d : Nat) (s : State) (h4 : Keeps z s) :
    ∀ u, (execToutArm t r i d s) = .next u → Keeps z u := by
  intro u e
  unfold execToutArm at e
  refine keep_next ?_ e
  clear e
  repeat' with_reducible first
    | assumption
    | intro _
    | refine keep_accessW ?_ ?_ ?_ ?_ ?_ ?_

theorem keep_discardFrame (s : State) (b : Nat) (protocol : Bool) (h0 : Keeps z s) : Keeps z (discardFrame s b protocol) := by
  unfold discardFrame
  repeat' with_reducible first
    | assumption
    | intro _
    | refine keep_raise ?_ ?_ ?_
    | refine keep_bump ?_ ?_ ?_
    | refine keep_ite ?_ ?_

theorem keep_matchOpen (s : State) (k : List Byte) (h0 : Keeps z s) : Keeps z (matchOpen s k) := by
  unfold matchOpen
  repeat' with_reducible first
    | assumption
    | intro _
    | refine keep_raise ?_ ?_ ?_
    | refine keep_bump ?_ ?_ ?_
    | refine keep_ite ?_ ?_
    | refine keep_snd ‹_› ?_
    | refine keep_snd2 ‹_› ?_
    | refine keep_snd3 ‹_› ?_
    | refine keep_fst ‹_› ?_
    | split
    | dsimp only
    | exact keep_fold ‹_›
    | refine keep_fold ?_
    | refine keep_mk ?_

theorem keep_ptpIngress (s : State) (p : Nat) (f : List Byte) (h0 : Keeps z s) : Keeps z (ptpIngress s p f) := by
  unfold ptpIngress
  repeat' with_reducible first
    | assumption
    | intro _
    | refine keep_matchOpen ?_ ?_ ?_
    | refine keep_bump ?_ ?_ ?_
    | refine keep_ite ?_ ?_
    | refine keep_snd ‹_› ?_
    | refine keep_snd2 ‹_› ?_
    | refine keep_snd3 ‹_› ?_
    | refine keep_fst ‹_› ?_
    | split

theorem keep_bridgeFrame (s : State) (p : Nat) (sfd : Nat) (f : List Byte) (h0 : Keeps z s) : Keeps z (bridgeFrame s p sfd f) := by
  unfold bridgeFrame
  repeat' with_reducible first
    | assumption
    | intro _
    | refine keep_ptpIngress ?_ ?_ ?_ ?_
    | refine keep_learn ?_ ?_ ?_ ?_
    | refine keep_forward ?_ ?_ ?_ ?_
    | refine keep_ite ?_ ?_

theorem keep_ethFrameReceived (p : Nat) (sfd : Nat) (f : List Byte) (fcsOk : Bool) (s : State) (h4 : Keeps z s) :
    Keeps z (ethFrameReceived p sfd f fcsOk s) := by
  unfold ethFrameReceived
  repeat' with_reducible first
    | assumption
    | intro _
    | refine keep_pauseReceived ?_ ?_ ?_ ?_
    | refine keep_bridgeFrame ?_ ?_ ?_ ?_ ?_
    | refine keep_bump ?_ ?_ ?_
    | refine keep_ite ?_ ?_

theorem keep_execEthFrameReceived (t : Nat) (p : Nat) (sfd : Nat) (frame : List Byte) (fcsOk : Bool) (s : State) (h5 : Keeps z s) :
    ∀ u, (execEthFrameReceived t p sfd frame fcsOk s) = .next u → Keeps z u := by
  intro u e
  unfold execEthFrameReceived at e
  refine keep_next ?_ e
  clear e
  repeat' with_reducible first
    | assumption
    | intro _
    | refine keep_ethFrameReceived ?_ ?_ ?_ ?_ ?_ ?_
    | refine keep_at' ?_ ?_ ?_

theorem keep_refFor (s : State) (t : Nat) (h0 : Keeps z s) : Keeps z (refFor s t).2 := by
  unfold refFor
  repeat' with_reducible first
    | assumption
    | intro _
    | refine keep_onMot ?_ ?_ ?_
    | refine keep_takeFree ?_ ?_ ?_
    | refine keep_getD ?_ ?_
    | refine keep_snd ‹_› ?_
    | refine keep_snd2 ‹_› ?_
    | refine keep_snd3 ‹_› ?_
    | refine keep_fst ‹_› ?_
    | split

theorem keep_edgeRef (s : State) (t : Nat) (h0 : Keeps z s) : Keeps z (edgeRef s t).2 := by
  unfold edgeRef
  repeat' with_reducible first
    | assumption
    | intro _
    | refine keep_onMot ?_ ?_ ?_
    | refine keep_refFor ?_ ?_ ?_
    | refine keep_ite ?_ ?_
    | refine keep_ite_snd ?_ ?_
    | refine keep_snd ‹_› ?_
    | refine keep_snd2 ‹_› ?_
    | refine keep_snd3 ‹_› ?_
    | refine keep_fst ‹_› ?_
    | split

theorem keep_goUp (s : State) (b : Nat) (h0 : Keeps z s) : Keeps z (goUp s b) := by
  unfold goUp
  repeat' with_reducible first
    | assumption
    | intro _
    | refine keep_freshLink ?_ ?_ ?_
    | refine keep_setReg ?_ ?_ ?_ ?_
    | refine keep_setBState ?_ ?_ ?_ ?_
    | refine keep_setLane ?_ ?_ ?_ ?_
    | refine keep_wr ?_ ?_ ?_ ?_
    | refine keep_raise ?_ ?_ ?_
    | refine keep_onBundle ?_ ?_ ?_ ?_
    | refine keep_foldl ?_ ?_
    | refine keep_ite ?_ ?_

theorem keep_measureSkew (s : State) (l : Nat) (h0 : Keeps z s) : Keeps z (measureSkew s l) := by
  unfold measureSkew
  repeat' with_reducible first
    | assumption
    | intro _
    | refine keep_takeFree ?_ ?_ ?_
    | refine keep_wr ?_ ?_ ?_ ?_

theorem keep_enterEqualise (s : State) (b : Nat) (h0 : Keeps z s) : Keeps z (enterEqualise s b) := by
  unfold enterEqualise
  repeat' with_reducible first
    | assumption
    | intro _
    | refine keep_enterStep ?_ ?_ ?_ ?_
    | refine keep_takeFree ?_ ?_ ?_
    | refine keep_onLane ?_ ?_ ?_ ?_
    | refine keep_foldl ?_ ?_

theorem keep_firstCredits (s : State) (b : Nat) (h0 : Keeps z s) : Keeps z (firstCredits s b) := by
  unfold firstCredits
  repeat' with_reducible first
    | assumption
    | intro _
    | refine keep_sendLcw ?_ ?_ ?_ ?_

theorem keep_nextStep (s : State) (b : Nat) (m : Nat) (h0 : Keeps z s) : Keeps z (nextStep s b m) := by
  unfold nextStep
  repeat' with_reducible first
    | assumption
    | intro _
    | refine keep_enterStep ?_ ?_ ?_ ?_
    | refine keep_firstCredits ?_ ?_ ?_
    | refine keep_wr ?_ ?_ ?_ ?_
    | refine keep_measureSkew ?_ ?_ ?_
    | refine keep_enterEqualise ?_ ?_ ?_
    | refine keep_goUp ?_ ?_ ?_
    | refine keep_quarantineLane ?_ ?_ ?_ ?_ ?_
    | refine keep_onBundle ?_ ?_ ?_ ?_
    | refine keep_setBitLock ?_ ?_ ?_ ?_
    | refine keep_measureLane ?_ ?_ ?_
    | refine keep_foldl ?_ ?_
    | refine keep_ite ?_ ?_
    | refine keep_snd ‹_› ?_
    | refine keep_snd2 ‹_› ?_
    | refine keep_snd3 ‹_› ?_
    | refine keep_fst ‹_› ?_
    | split

theorem keep_failAttempt (s : State) (b : Nat) (h0 : Keeps z s) : Keeps z (failAttempt s b) := by
  unfold failAttempt
  repeat' with_reducible first
    | assumption
    | intro _
    | refine keep_setBState ?_ ?_ ?_ ?_
    | refine keep_enterDetect ?_ ?_ ?_ ?_
    | refine keep_setLane ?_ ?_ ?_ ?_
    | refine keep_raise ?_ ?_ ?_
    | refine keep_onBundle ?_ ?_ ?_ ?_
    | refine keep_foldl ?_ ?_
    | refine keep_ite ?_ ?_

theorem keep_trainStepTimeout (t : Nat) (b : Nat) (seen : Nat) (s : State) (h3 : Keeps z s) :
    Keeps z (trainStepTimeout t b seen s) := by
  unfold trainStepTimeout
  repeat' with_reducible first
    | assumption
    | intro _
    | refine keep_nextStep ?_ ?_ ?_ ?_
    | refine keep_newLcw ?_ ?_ ?_
    | refine keep_failAttempt ?_ ?_ ?_
    | refine keep_ite ?_ ?_

theorem keep_execTrainStepTimeout (t : Nat) (b : Nat) (seen : Nat) (s : State) (h3 : Keeps z s) :
    ∀ u, (execTrainStepTimeout t b seen s) = .next u → Keeps z u := by
  intro u e
  unfold execTrainStepTimeout at e
  refine keep_next ?_ e
  clear e
  repeat' with_reducible first
    | assumption
    | intro _
    | refine keep_trainStepTimeout ?_ ?_ ?_ ?_ ?_
    | refine keep_at' ?_ ?_ ?_

theorem keep_columnMarkers (s : State) (g : Nat) (w : Sweep) (cfg : GroupCfg) (col : Nat) (h0 : Keeps z s) :
    Keeps z (columnMarkers s g w cfg col) := by
  unfold columnMarkers
  repeat' with_reducible first
    | assumption
    | intro _
    | refine keep_pushItem ?_ ?_ ?_ ?_
    | refine keep_foldl ?_ ?_

theorem keep_safWake (s : State) (levels : Nat) (h0 : Keeps z s) : Keeps z (safWake s levels) := by
  unfold safWake
  repeat' with_reducible first
    | assumption
    | intro _
    | refine keep_inputCauses ?_ ?_ ?_
    | refine keep_setReg ?_ ?_ ?_ ?_
    | refine keep_wr ?_ ?_ ?_ ?_
    | refine keep_safSpeedRefresh ?_ ?_
    | refine keep_safInputs ?_ ?_
    | dsimp only
    | exact keep_fold ‹_›
    | refine keep_fold ?_
    | refine keep_mk ?_

theorem keep_trainStepComplete (b : Nat) (seen : Nat) (s : State) (h2 : Keeps z s) : Keeps z (trainStepComplete b seen s) := by
  unfold trainStepComplete
  repeat' with_reducible first
    | assumption
    | intro _
    | refine keep_nextStep ?_ ?_ ?_ ?_
    | refine keep_newLcw ?_ ?_ ?_
    | refine keep_ite ?_ ?_

theorem keep_pruneShots (s : State) (g : Nat) (h0 : Keeps z s) : Keeps z (pruneShots s g) := by
  unfold pruneShots
  repeat' with_reducible first
    | assumption
    | intro _
    | dsimp only
    | exact keep_fold ‹_›
    | refine keep_fold ?_
    | refine keep_mk ?_

theorem keep_countWithheld (s : State) (c : Cause) (h0 : Keeps z s) : Keeps z (countWithheld s c) := by
  unfold countWithheld
  repeat' with_reducible first
    | assumption
    | intro _
    | refine keep_raise ?_ ?_ ?_
    | refine keep_bump ?_ ?_ ?_

theorem keep_markersAfter (s : State) (g : GroupCfg) (id : Nat) (j : Nat) (closed : Nat) (h0 : Keeps z s) :
    Keeps z (markersAfter s g id j closed) := by
  unfold markersAfter
  repeat' with_reducible first
    | assumption
    | intro _
    | refine keep_pushMarker ?_ ?_ ?_ ?_
    | refine keep_ite ?_ ?_

theorem keep_withholdShot (s : State) (cfg : GroupCfg) (id : Nat) (j : Nat) (c : Cause) (h0 : Keeps z s) :
    Keeps z (withholdShot s cfg id j c) := by
  unfold withholdShot
  repeat' with_reducible first
    | assumption
    | intro _
    | refine keep_pushMarker ?_ ?_ ?_ ?_
    | refine keep_markersAfter ?_ ?_ ?_ ?_ ?_ ?_
    | refine keep_countWithheld ?_ ?_ ?_

theorem keep_armShot (s : State) (g : Nat) (w : Sweep) (cfg : GroupCfg) (id : Nat) (start : Nat) (d : Nat) (h0 : Keeps z s) :
    Keeps z (armShot s g w cfg id start d) := by
  unfold armShot
  repeat' with_reducible first
    | assumption
    | intro _
    | dsimp only
    | exact keep_fold ‹_›
    | refine keep_fold ?_
    | refine keep_mk ?_

theorem keep_nextShot (s : State) (g : Nat) (cfg : GroupCfg) (w : Sweep) (rest : List Sweep) (h0 : Keeps z s) :
    Keeps z (nextShot s g cfg w rest) := by
  unfold nextShot
  repeat' with_reducible first
    | assumption
    | intro _
    | refine keep_setRun ?_ ?_ ?_ ?_
    | refine keep_ite ?_ ?_

theorem keep_shotStartAt (s : State) (g : Nat) (w : Sweep) (rest : List Sweep) (cfg : GroupCfg) (start : Option Nat) (h0 : Keeps z s) :
    Keeps z (shotStartAt s g w rest cfg start) := by
  unfold shotStartAt
  repeat' with_reducible first
    | assumption
    | intro _
    | refine keep_setRun ?_ ?_ ?_ ?_
    | refine keep_columnMarkers ?_ ?_ ?_ ?_ ?_ ?_
    | refine keep_armShot ?_ ?_ ?_ ?_ ?_ ?_ ?_ ?_
    | refine keep_pruneShots ?_ ?_ ?_
    | refine keep_wr ?_ ?_ ?_ ?_
    | refine keep_withholdShot ?_ ?_ ?_ ?_ ?_ ?_
    | refine keep_nextShot ?_ ?_ ?_ ?_ ?_ ?_
    | refine keep_ite ?_ ?_
    | refine keep_getD ?_ ?_
    | refine keep_snd ‹_› ?_
    | refine keep_snd2 ‹_› ?_
    | refine keep_snd3 ‹_› ?_
    | refine keep_fst ‹_› ?_
    | split
    | dsimp only
    | exact keep_fold ‹_›
    | refine keep_fold ?_
    | refine keep_mk ?_

theorem keep_shotStartEvent (t : Nat) (g : Nat) (s : State) (h2 : Keeps z s) : Keeps z (shotStartEvent t g s) := by
  unfold shotStartEvent
  repeat' with_reducible first
    | assumption
    | intro _
    | refine keep_setRun ?_ ?_ ?_ ?_
    | refine keep_shotStartAt ?_ ?_ ?_ ?_ ?_ ?_ ?_
    | refine keep_ite ?_ ?_
    | refine keep_getD ?_ ?_
    | refine keep_snd ‹_› ?_
    | refine keep_snd2 ‹_› ?_
    | refine keep_snd3 ‹_› ?_
    | refine keep_fst ‹_› ?_
    | split

theorem keep_execShotStart (t : Nat) (g : Nat) (s : State) (h2 : Keeps z s) : ∀ u, (execShotStart t g s) = .next u → Keeps z u := by
  intro u e
  unfold execShotStart at e
  refine keep_next ?_ e
  clear e
  repeat' with_reducible first
    | assumption
    | intro _
    | refine keep_shotStartEvent ?_ ?_ ?_ ?_
    | refine keep_at' ?_ ?_ ?_

theorem keep_detFlag (s : State) (c : Nat) (v : Nat) (th : Nat) (f : Fld) (h0 : Keeps z s) : Keeps z (detFlag s c v th f) := by
  unfold detFlag
  repeat' with_reducible first
    | assumption
    | intro _
    | refine keep_raiseAt ?_ ?_ ?_ ?_
    | refine keep_wr ?_ ?_ ?_ ?_
    | refine keep_ite ?_ ?_

theorem keep_execResetPin (t : Nat) (s : State) (h1 : Keeps z s) : ∀ u, (execResetPin t s) = .next u → Keeps z u := by
  intro u e
  unfold execResetPin at e
  refine keep_next ?_ e
  clear e
  repeat' with_reducible first
    | assumption
    | intro _
    | refine keep_deviceReset ?_ ?_ ?_
    | refine keep_at' ?_ ?_ ?_

theorem keep_execClearCoast (t : Nat) (r : Requester) (d : Nat) (s : State) (h3 : Keeps z s) :
    ∀ u, (execClearCoast t r d s) = .next u → Keeps z u := by
  intro u e
  unfold execClearCoast at e
  refine keep_next ?_ e
  clear e
  repeat' with_reducible first
    | assumption
    | intro _
    | refine keep_accessW ?_ ?_ ?_ ?_ ?_ ?_

theorem keep_execPllRelock (t : Nat) (q : Nat) (s : State) (h2 : Keeps z s) : ∀ u, (execPllRelock t q s) = .next u → Keeps z u := by
  intro u e
  unfold execPllRelock at e
  refine keep_next ?_ e
  clear e
  repeat' with_reducible first
    | assumption
    | intro _
    | refine keep_wr ?_ ?_ ?_ ?_
    | refine keep_raise ?_ ?_ ?_
    | refine keep_at' ?_ ?_ ?_
    | refine keep_ite ?_ ?_
    | split
    | dsimp only
    | exact keep_fold ‹_›
    | refine keep_fold ?_
    | refine keep_mk ?_

theorem keep_ntmStart (s : State) (h0 : Keeps z s) : Keeps z (ntmStart s) := by
  unfold ntmStart
  repeat' with_reducible first
    | assumption
    | intro _
    | dsimp only
    | exact keep_fold ‹_›
    | refine keep_fold ?_
    | refine keep_mk ?_

theorem keep_rawFlags (s : State) (c : Nat) (isOpen : Bool) (clamp : Bool) (h0 : Keeps z s) :
    Keeps z (rawFlags s c isOpen clamp) := by
  unfold rawFlags
  repeat' with_reducible first
    | assumption
    | intro _
    | refine keep_wrBit ?_ ?_ ?_ ?_ ?_
    | refine keep_raise ?_ ?_ ?_
    | refine keep_ite ?_ ?_

theorem keep_walkOf (s : State) (r : RetCfg) (o : Oct) (h0 : Keeps z s) : Keeps z (walkOf s r o).2.2 := by
  unfold walkOf
  repeat' with_reducible first
    | assumption
    | intro _
    | refine keep_takeFree ?_ ?_ ?_
    | refine keep_ite ?_ ?_
    | refine keep_ite_snd ?_ ?_
    | refine keep_snd ‹_› ?_
    | refine keep_snd2 ‹_› ?_
    | refine keep_snd3 ‹_› ?_
    | refine keep_fst ‹_› ?_
    | split
    | dsimp only

theorem keep_candOf (s : State) (p : Pixel) (c : Ctx) (b : Nat) (fell : Bool) (run : Nat × Nat) (h0 : Keeps z s) :
    Keeps z (candOf s p c b fell run).2 := by
  unfold candOf
  repeat' with_reducible first
    | assumption
    | intro _
    | refine keep_walkOf ?_ ?_ ?_ ?_
    | refine keep_takeFree ?_ ?_ ?_
    | refine keep_ite ?_ ?_
    | refine keep_ite_snd ?_ ?_

theorem keep_calPut (s : State) (a : Nat) (w : Word) (h0 : Keeps z s) : Keeps z (calPut s a w) := by
  unfold calPut
  repeat' with_reducible first
    | assumption
    | intro _
    | dsimp only
    | exact keep_fold ‹_›
    | refine keep_fold ?_
    | refine keep_mk ?_
    | refine keep_sram_nil ?_
    | refine keep_cal_nil ?_
    | refine keep_sram_word ?_
    | refine keep_cal_word ?_

theorem keep_recPut (s : State) (k : Nat) (n : Nat) (lo : Nat) (len : Nat) (v : Nat) (h0 : Keeps z s) :
    Keeps z (recPut s k n lo len v) := by
  unfold recPut
  repeat' with_reducible first
    | assumption
    | intro _
    | refine keep_calPut ?_ ?_ ?_ ?_

theorem keep_calClamped (s : State) (h0 : Keeps z s) : Keeps z (calClamped s) := by
  unfold calClamped
  repeat' with_reducible first
    | assumption
    | intro _
    | refine keep_recFail ?_ ?_ ?_ ?_
    | refine keep_raise ?_ ?_ ?_
    | refine keep_bump ?_ ?_ ?_

theorem keep_trimPut (j : CalJob) (dac : Nat) (n : Nat) (lo : Nat) (s : State) (h4 : Keeps z s) :
    Keeps z (trimPut j dac n lo s) := by
  unfold trimPut
  repeat' with_reducible first
    | assumption
    | intro _
    | refine keep_calClamped ?_ ?_
    | refine keep_recPut ?_ ?_ ?_ ?_ ?_ ?_ ?_
    | refine keep_ite ?_ ?_

theorem keep_endCompressed (s : State) (k : Nat) (e : Nat) (bytes : List Byte) (h0 : Keeps z s) :
    Keeps z (endCompressed s k e bytes) := by
  unfold endCompressed
  repeat' with_reducible first
    | assumption
    | intro _
    | refine keep_setReg ?_ ?_ ?_ ?_
    | refine keep_placeStored ?_ ?_ ?_ ?_ ?_ ?_
    | refine keep_placeOutput ?_ ?_ ?_ ?_ ?_
    | refine keep_wr ?_ ?_ ?_ ?_
    | refine keep_raise ?_ ?_ ?_
    | refine keep_bump ?_ ?_ ?_
    | refine keep_ite ?_ ?_

theorem keep_pressBlockEnd (t : Nat) (k : Nat) (bytes : List Byte) (s : State) (h3 : Keeps z s) :
    Keeps z (pressBlockEnd t k bytes s) := by
  unfold pressBlockEnd
  repeat' with_reducible first
    | assumption
    | intro _
    | refine keep_placeStored ?_ ?_ ?_ ?_ ?_ ?_
    | refine keep_endCompressed ?_ ?_ ?_ ?_ ?_
    | refine keep_setQueue ?_ ?_ ?_ ?_
    | refine keep_ite ?_ ?_
    | refine keep_snd ‹_› ?_
    | refine keep_snd2 ‹_› ?_
    | refine keep_snd3 ‹_› ?_
    | refine keep_fst ‹_› ?_
    | split
    | dsimp only

theorem keep_hkaFire (s : State) (g : Nat) (t : Nat) (h0 : Keeps z s) : Keeps z (hkaFire s g t) := by
  unfold hkaFire
  repeat' with_reducible first
    | assumption
    | intro _
    | refine keep_ite ?_ ?_
    | split
    | dsimp only
    | exact keep_fold ‹_›
    | refine keep_fold ?_
    | refine keep_mk ?_

theorem keep_ltrigPulse (s : State) (x : Shot) (h0 : Keeps z s) : Keeps z (ltrigPulse s x) := by
  unfold ltrigPulse
  repeat' with_reducible first
    | assumption
    | intro _
    | refine keep_ite ?_ ?_
    | split
    | dsimp only
    | exact keep_fold ‹_›
    | refine keep_fold ?_
    | refine keep_mk ?_

theorem keep_budgetEdge (s : State) (o : Nat) (c : Nat) (t : Nat) (h0 : Keeps z s) : Keeps z (budgetEdge s o c t) := by
  unfold budgetEdge
  repeat' with_reducible first
    | assumption
    | intro _
    | refine keep_onPath ?_ ?_ ?_ ?_
    | refine keep_safLatch ?_ ?_ ?_ ?_ ?_ ?_
    | refine keep_safRefresh ?_ ?_
    | refine keep_ite ?_ ?_

theorem keep_issueEdge (s : State) (x : Shot) (h0 : Keeps z s) : Keeps z (issueEdge s x) := by
  unfold issueEdge
  repeat' with_reducible first
    | assumption
    | intro _
    | refine keep_pushMarker ?_ ?_ ?_ ?_
    | refine keep_budgetEdge ?_ ?_ ?_ ?_ ?_
    | refine keep_hkaFire ?_ ?_ ?_ ?_
    | refine keep_ltrigPulse ?_ ?_ ?_
    | refine keep_setShot ?_ ?_ ?_
    | refine keep_bump ?_ ?_ ?_
    | refine keep_tduEvent ?_ ?_ ?_ ?_

theorem keep_captureGateOpen (t : Nat) (g : Nat) (dark : Bool) (s : State) (h3 : Keeps z s) :
    Keeps z (captureGateOpen t g dark s) := by
  unfold captureGateOpen
  repeat' with_reducible first
    | assumption
    | intro _
    | refine keep_setShot ?_ ?_ ?_
    | refine keep_ite ?_ ?_
    | refine keep_snd ‹_› ?_
    | refine keep_snd2 ‹_› ?_
    | refine keep_snd3 ‹_› ?_
    | refine keep_fst ‹_› ?_
    | split
    | dsimp only

theorem keep_execCaptureGateOpen (t : Nat) (g : Nat) (dark : Bool) (s : State) (h3 : Keeps z s) :
    ∀ u, (execCaptureGateOpen t g dark s) = .next u → Keeps z u := by
  intro u e
  unfold execCaptureGateOpen at e
  refine keep_next ?_ e
  clear e
  repeat' with_reducible first
    | assumption
    | intro _
    | refine keep_at' ?_ ?_ ?_
    | refine keep_captureGateOpen ?_ ?_ ?_ ?_ ?_

theorem keep_setShort (s : State) (l : Nat) (b : Bool) (h0 : Keeps z s) : Keeps z (setShort s l b) := by
  unfold setShort
  repeat' with_reducible first
    | assumption
    | intro _
    | refine keep_wrB ?_ ?_ ?_ ?_
    | refine keep_wrBit ?_ ?_ ?_ ?_ ?_

theorem keep_shortSample (l : Nat) (high : Bool) (s : State) (h2 : Keeps z s) : Keeps z (shortSample l high s) := by
  unfold shortSample
  repeat' with_reducible first
    | assumption
    | intro _
    | refine keep_raise ?_ ?_ ?_
    | refine keep_setShort ?_ ?_ ?_ ?_
    | refine keep_bump ?_ ?_ ?_
    | refine keep_setLamp ?_ ?_ ?_ ?_
    | refine keep_ite ?_ ?_

theorem keep_setOpen (s : State) (l : Nat) (b : Bool) (h0 : Keeps z s) : Keeps z (setOpen s l b) := by
  unfold setOpen
  repeat' with_reducible first
    | assumption
    | intro _
    | refine keep_wrB ?_ ?_ ?_ ?_
    | refine keep_wrBit ?_ ?_ ?_ ?_ ?_

theorem keep_proofLamp (s : State) (h0 : Keeps z s) : Keeps z (proofLamp s) := by
  unfold proofLamp
  repeat' with_reducible first
    | assumption
    | intro _
    | refine keep_proofLaser ?_ ?_
    | refine keep_ite ?_ ?_

theorem keep_openSample (l : Nat) (high : Bool) (s : State) (h2 : Keeps z s) : Keeps z (openSample l high s) := by
  unfold openSample
  repeat' with_reducible first
    | assumption
    | intro _
    | refine keep_onLmp ?_ ?_ ?_
    | refine keep_proofLamp ?_ ?_
    | refine keep_setOpen ?_ ?_ ?_ ?_
    | refine keep_raise ?_ ?_ ?_
    | refine keep_bump ?_ ?_ ?_
    | refine keep_setLamp ?_ ?_ ?_ ?_
    | refine keep_ite ?_ ?_

theorem keep_lampDiagSample (t : Nat) (l : Nat) (short : Bool) (high : Bool) (s : State) (h4 : Keeps z s) :
    Keeps z (lampDiagSample t l short high s) := by
  unfold lampDiagSample
  repeat' with_reducible first
    | assumption
    | intro _
    | refine keep_lampsTo ?_ ?_ ?_
    | refine keep_wrB ?_ ?_ ?_ ?_
    | refine keep_openSample ?_ ?_ ?_ ?_
    | refine keep_shortSample ?_ ?_ ?_ ?_
    | refine keep_setLamp ?_ ?_ ?_ ?_
    | refine keep_safRefresh ?_ ?_
    | refine keep_ite ?_ ?_

theorem keep_mirrorTake (t : Nat) (n : Nat) (s : State) (h2 : Keeps z s) : Keeps z (mirrorTake t n s) := by
  unfold mirrorTake
  repeat' with_reducible first
    | assumption
    | intro _
    | refine keep_mirrorState ?_ ?_ ?_
    | refine keep_bump ?_ ?_ ?_
    | refine keep_onPair ?_ ?_ ?_
    | refine keep_ite ?_ ?_
    | refine keep_snd ‹_› ?_
    | refine keep_snd2 ‹_› ?_
    | refine keep_snd3 ‹_› ?_
    | refine keep_fst ‹_› ?_
    | split

theorem keep_ackCarried (s : State) (b : Nat) (h0 : Keeps z s) : Keeps z (ackCarried s b) := by
  unfold ackCarried
  repeat' with_reducible first
    | assumption
    | intro _
    | refine keep_onBundle ?_ ?_ ?_ ?_

theorem keep_ackIntExpire (t : Nat) (b : Nat) (s : State) (h2 : Keeps z s) : Keeps z (ackIntExpire t b s) := by
  unfold ackIntExpire
  repeat' with_reducible first
    | assumption
    | intro _
    | refine keep_ackCarried ?_ ?_ ?_
    | refine keep_newLcw ?_ ?_ ?_
    | refine keep_sendLcw ?_ ?_ ?_ ?_
    | refine keep_ite ?_ ?_
    | refine keep_snd ‹_› ?_
    | refine keep_snd2 ‹_› ?_
    | refine keep_snd3 ‹_› ?_
    | refine keep_fst ‹_› ?_
    | split

theorem keep_execAckIntExpire (t : Nat) (b : Nat) (s : State) (h2 : Keeps z s) :
    ∀ u, (execAckIntExpire t b s) = .next u → Keeps z u := by
  intro u e
  unfold execAckIntExpire at e
  refine keep_next ?_ e
  clear e
  repeat' with_reducible first
    | assumption
    | intro _
    | refine keep_ackIntExpire ?_ ?_ ?_ ?_
    | refine keep_at' ?_ ?_ ?_

theorem keep_planDrop (s : State) (c : Nat) (h0 : Keeps z s) : Keeps z (planDrop s c) := by
  unfold planDrop
  repeat' with_reducible first
    | assumption
    | intro _
    | refine keep_onPln ?_ ?_ ?_

theorem keep_putOnLine (s : State) (b : Nat) (f : LinkFrame) (seq : Nat) (retry : Bool) (h0 : Keeps z s) :
    Keeps z (putOnLine s b f seq retry) := by
  unfold putOnLine
  repeat' with_reducible first
    | assumption
    | intro _
    | refine keep_setBundle ?_ ?_ ?_ ?_

theorem keep_startFrame (s : State) (b : Nat) (f : LinkFrame) (h0 : Keeps z s) : Keeps z (startFrame s b f) := by
  unfold startFrame
  repeat' with_reducible first
    | assumption
    | intro _
    | refine keep_putOnLine ?_ ?_ ?_ ?_ ?_ ?_
    | refine keep_wr ?_ ?_ ?_ ?_
    | refine keep_showReplay ?_ ?_ ?_
    | refine keep_onBundle ?_ ?_ ?_ ?_
    | refine keep_bump ?_ ?_ ?_

theorem keep_frameTransmit (t : Nat) (b : Nat) (s : State) (h2 : Keeps z s) : Keeps z (frameTransmit t b s) := by
  unfold frameTransmit
  repeat' with_reducible first
    | assumption
    | intro _
    | refine keep_putOnLine ?_ ?_ ?_ ?_ ?_ ?_
    | refine keep_newLcw ?_ ?_ ?_
    | refine keep_onBundle ?_ ?_ ?_ ?_
    | refine keep_startFrame ?_ ?_ ?_ ?_
    | refine keep_at' ?_ ?_ ?_
    | refine keep_monSample ?_ ?_ ?_ ?_ ?_
    | refine keep_ite ?_ ?_
    | refine keep_getD ?_ ?_
    | refine keep_snd ‹_› ?_
    | refine keep_snd2 ‹_› ?_
    | refine keep_snd3 ‹_› ?_
    | refine keep_fst ‹_› ?_
    | split
    | dsimp only
    | exact keep_fold ‹_›
    | refine keep_fold ?_
    | refine keep_mk ?_

theorem keep_execFrameTransmit (t : Nat) (b : Nat) (s : State) (h2 : Keeps z s) :
    ∀ u, (execFrameTransmit t b s) = .next u → Keeps z u := by
  intro u e
  unfold execFrameTransmit at e
  refine keep_next ?_ e
  clear e
  repeat' with_reducible first
    | assumption
    | intro _
    | refine keep_frameTransmit ?_ ?_ ?_ ?_
    | refine keep_at' ?_ ?_ ?_

theorem keep_idxLost (s : State) (h0 : Keeps z s) : Keeps z (idxLost s) := by
  unfold idxLost
  repeat' with_reducible first
    | assumption
    | intro _
    | refine keep_motLatch ?_ ?_ ?_
    | refine keep_safMotor ?_ ?_ ?_
    | refine keep_motStop ?_ ?_
    | refine keep_modelDrop ?_ ?_
    | refine keep_bump ?_ ?_ ?_

theorem keep_idxLostEvent (s : State) (h0 : Keeps z s) : Keeps z (idxLostEvent s) := by
  unfold idxLostEvent
  repeat' with_reducible first
    | assumption
    | intro _
    | refine keep_idxLost ?_ ?_
    | refine keep_ite ?_ ?_
    | refine keep_snd ‹_› ?_
    | refine keep_snd2 ‹_› ?_
    | refine keep_snd3 ‹_› ?_
    | refine keep_fst ‹_› ?_
    | split

theorem keep_endDrop (s : State) (k : Nat) (h0 : Keeps z s) : Keeps z (endDrop s k) := by
  unfold endDrop
  repeat' with_reducible first
    | assumption
    | intro _
    | refine keep_setQueue ?_ ?_ ?_ ?_

theorem keep_takeRec (s : State) (k : Nat) (r : QRec) (h0 : Keeps z s) : Keeps z (takeRec s k r) := by
  unfold takeRec
  repeat' with_reducible first
    | assumption
    | intro _
    | refine keep_discard ?_ ?_ ?_ ?_
    | refine keep_endDrop ?_ ?_ ?_
    | refine keep_takeIn ?_ ?_ ?_ ?_
    | refine keep_applyQueue ?_ ?_ ?_
    | refine keep_ite ?_ ?_

theorem keep_headsAgain (s : State) (f : Frame) (h0 : Keeps z s) : Keeps z (headsAgain s f) := by
  unfold headsAgain
  repeat' with_reducible first
    | assumption
    | intro _
    | refine keep_takeRec ?_ ?_ ?_ ?_
    | refine keep_foldl ?_ ?_

theorem keep_alignSet (a : Align) (s : State) (h1 : Keeps z s) : Keeps z (alignSet a s) := by
  unfold alignSet
  repeat' with_reducible first
    | assumption
    | intro _
    | refine keep_onPair ?_ ?_ ?_
    | refine keep_ite ?_ ?_

theorem keep_sdfStick (c : Nat) (s : State) (h1 : Keeps z s) : Keeps z (sdfStick c s) := by
  unfold sdfStick
  repeat' with_reducible first
    | assumption
    | intro _
    | refine keep_raiseAt ?_ ?_ ?_ ?_
    | refine keep_wr ?_ ?_ ?_ ?_
    | refine keep_ite ?_ ?_

theorem keep_execSdfStuck (t : Nat) (c : Nat) (s : State) (h2 : Keeps z s) : ∀ u, (execSdfStuck t c s) = .next u → Keeps z u := by
  intro u e
  unfold execSdfStuck at e
  refine keep_next ?_ e
  clear e
  repeat' with_reducible first
    | assumption
    | intro _
    | refine keep_sdfStick ?_ ?_ ?_
    | refine keep_at' ?_ ?_ ?_

theorem keep_speedAgree (t : Nat) (s : State) (h1 : Keeps z s) : Keeps z (speedAgree t s) := by
  unfold speedAgree
  repeat' with_reducible first
    | assumption
    | intro _
    | refine keep_agreeJudge ?_ ?_
    | refine keep_safLatch ?_ ?_ ?_ ?_ ?_ ?_
    | refine keep_safRefresh ?_ ?_
    | refine keep_at' ?_ ?_ ?_
    | refine keep_ite ?_ ?_
    | refine keep_snd ‹_› ?_
    | refine keep_snd2 ‹_› ?_
    | refine keep_snd3 ‹_› ?_
    | refine keep_fst ‹_› ?_
    | split
    | dsimp only

theorem keep_execSpeedAgree (t : Nat) (s : State) (h1 : Keeps z s) : ∀ u, (execSpeedAgree t s) = .next u → Keeps z u := by
  intro u e
  unfold execSpeedAgree at e
  refine keep_next ?_ e
  clear e
  repeat' with_reducible first
    | assumption
    | intro _
    | refine keep_speedAgree ?_ ?_ ?_

theorem keep_execTrainStepComplete (t : Nat) (b : Nat) (seen : Nat) (s : State) (h3 : Keeps z s) :
    ∀ u, (execTrainStepComplete t b seen s) = .next u → Keeps z u := by
  intro u e
  unfold execTrainStepComplete at e
  refine keep_next ?_ e
  clear e
  repeat' with_reducible first
    | assumption
    | intro _
    | refine keep_trainStepComplete ?_ ?_ ?_ ?_
    | refine keep_at' ?_ ?_ ?_

theorem keep_refuseRec (s : State) (k : Nat) (r : QRec) (h0 : Keeps z s) : Keeps z (refuseRec s k r) := by
  unfold refuseRec
  repeat' with_reducible first
    | assumption
    | intro _
    | refine keep_discard ?_ ?_ ?_ ?_
    | refine keep_applyQueue ?_ ?_ ?_
    | refine keep_ite ?_ ?_

end Sys2Proof.Machine
end

