-- ==== Sys2Proof/Laws/KeepD.lean ====
section
/-!
SUPPORT. What each operation keeps, part 4: the canonical form of the memories, and legal fuses.
-/

namespace Sys2Proof.Machine

set_option Elab.async false

variable {z : State}

theorem keep_offerWait (s : State) (k : Nat) (r : QRec) (h0 : Keeps z s) : Keeps z (offerWait s k r) := by
  unfold offerWait
  repeat' with_reducible first
    | assumption
    | intro _
    | refine keep_takeRec ?_ ?_ ?_ ?_
    | refine keep_setQueue ?_ ?_ ?_ ?_
    | refine keep_refuseRec ?_ ?_ ?_ ?_
    | refine keep_ite ?_ ?_

theorem keep_enqueueHead (s : State) (st : Nat) (t : Nat) (r : Rec) (rest : List Rec) (h0 : Keeps z s) :
    Keeps z (enqueueHead s st t r rest) := by
  unfold enqueueHead
  dsimp only
  have h := keep_setStream s st rest h0
  refine keep_ite (keep_ite (keep_ite (keep_foldl (fun s k h => keep_offerWait _ _ _ h) h) fun _ => ?_) fun _ => ?_) fun _ => h
  · refine keep_ite (keep_setStream _ _ _ ?_) fun _ => keep_setStream _ _ _ ?_ <;>
      exact keep_foldl (fun s k h => keep_takeRec _ _ _ h) h0
  · generalize hf : List.foldl _ _ _ = x
    have k : Keeps z x.1 := hf ▸ keep_foldl_fst (fun p k h => keep_takeRec _ _ _ h) h
    obtain ⟨u, ok⟩ := x
    exact keep_ite (keep_foldl (fun s x h => keep_monSample _ _ _ _ h) k) fun _ => k

theorem keep_execGlbSoftReset (t : Nat) (r : Requester) (s : State) (h2 : Keeps z s) :
    ∀ u, (execGlbSoftReset t r s) = .next u → Keeps z u := by
  intro u e
  unfold execGlbSoftReset at e
  refine keep_next ?_ e
  clear e
  repeat' with_reducible first
    | assumption
    | intro _
    | refine keep_accessW ?_ ?_ ?_ ?_ ?_ ?_

theorem keep_budgetSubwindow (t : Nat) (s : State) (h1 : Keeps z s) : Keeps z (budgetSubwindow t s) := by
  unfold budgetSubwindow
  repeat' with_reducible first
    | assumption
    | intro _
    | refine keep_onPath ?_ ?_ ?_ ?_
    | refine keep_at' ?_ ?_ ?_

theorem keep_execBudgetSubwindow (t : Nat) (s : State) (h1 : Keeps z s) : ∀ u, (execBudgetSubwindow t s) = .next u → Keeps z u := by
  intro u e
  unfold execBudgetSubwindow at e
  refine keep_next ?_ e
  clear e
  repeat' with_reducible first
    | assumption
    | intro _
    | refine keep_budgetSubwindow ?_ ?_ ?_

theorem keep_laneTx (b : Nat) (m : Nat) (s : State) (h2 : Keeps z s) : Keeps z (laneTx b m s) := by
  unfold laneTx
  repeat' with_reducible first
    | assumption
    | intro _
    | refine keep_newLcw ?_ ?_ ?_
    | refine keep_onBundle ?_ ?_ ?_ ?_
    | refine keep_ite ?_ ?_

theorem keep_execLaneTx (t : Nat) (b : Nat) (mask : Nat) (s : State) (h3 : Keeps z s) :
    ∀ u, (execLaneTx t b mask s) = .next u → Keeps z u := by
  intro u e
  unfold execLaneTx at e
  refine keep_next ?_ e
  clear e
  repeat' with_reducible first
    | assumption
    | intro _
    | refine keep_laneTx ?_ ?_ ?_ ?_
    | refine keep_at' ?_ ?_ ?_

theorem keep_retainTrigger (s : State) (num : Nat) (frame : Nat) (pos : Nat) (o : Nat) (h0 : Keeps z s) :
    Keeps z (retainTrigger s num frame pos o).2.2.2 := by
  unfold retainTrigger
  repeat' with_reducible first
    | assumption
    | intro _
    | refine keep_onAcq ?_ ?_ ?_
    | refine keep_wr ?_ ?_ ?_ ?_
    | refine keep_pushSeq ?_ ?_ ?_ ?_ ?_ ?_
    | refine keep_raise ?_ ?_ ?_
    | refine keep_bump ?_ ?_ ?_
    | refine keep_ite ?_ ?_
    | refine keep_ite_snd ?_ ?_
    | split

theorem keep_orderlyStopStepEnd (s : State) (h0 : Keeps z s) : Keeps z (orderlyStopStepEnd s) := by
  unfold orderlyStopStepEnd
  repeat' with_reducible first
    | assumption
    | intro _
    | refine keep_flushFrames ?_ ?_
    | refine keep_thmInhibit ?_ ?_
    | refine keep_thmStop ?_ ?_
    | refine keep_onThm ?_ ?_ ?_
    | refine keep_stopDone ?_ ?_
    | refine keep_ite ?_ ?_
    | refine keep_snd ‹_› ?_
    | refine keep_snd2 ‹_› ?_
    | refine keep_snd3 ‹_› ?_
    | refine keep_fst ‹_› ?_
    | split

theorem keep_sdfUnstick (c : Nat) (s : State) (h1 : Keeps z s) : Keeps z (sdfUnstick c s) := by
  unfold sdfUnstick
  repeat' with_reducible first
    | assumption
    | intro _
    | refine keep_wr ?_ ?_ ?_ ?_
    | refine keep_sdfStart ?_ ?_ ?_
    | refine keep_ite ?_ ?_

theorem keep_execSdfUnstuck (t : Nat) (c : Nat) (s : State) (h2 : Keeps z s) :
    ∀ u, (execSdfUnstuck t c s) = .next u → Keeps z u := by
  intro u e
  unfold execSdfUnstuck at e
  refine keep_next ?_ e
  clear e
  repeat' with_reducible first
    | assumption
    | intro _
    | refine keep_sdfUnstick ?_ ?_ ?_
    | refine keep_at' ?_ ?_ ?_

theorem keep_overcurrent (s : State) (c : Nat) (m : Nat) (h0 : Keeps z s) : Keeps z (overcurrent s c m) := by
  unfold overcurrent
  repeat' with_reducible first
    | assumption
    | intro _
    | refine keep_motTrip ?_ ?_ ?_
    | refine keep_ite ?_ ?_

theorem keep_execFaultLatchClear (t : Nat) (r : Requester) (gal : Bool) (d : Nat) (s : State) (h4 : Keeps z s) :
    ∀ u, (execFaultLatchClear t r gal d s) = .next u → Keeps z u := by
  intro u e
  unfold execFaultLatchClear at e
  refine keep_next ?_ e
  clear e
  repeat' with_reducible first
    | assumption
    | intro _
    | refine keep_accessW ?_ ?_ ?_ ?_ ?_ ?_

theorem keep_fcGateOpen (t : Nat) (k : Nat) (s : State) (h2 : Keeps z s) : Keeps z (fcGateOpen t k s) := by
  unfold fcGateOpen
  repeat' with_reducible first
    | assumption
    | intro _
    | refine keep_setFc ?_ ?_ ?_ ?_
    | refine keep_snd ‹_› ?_
    | refine keep_snd2 ‹_› ?_
    | refine keep_snd3 ‹_› ?_
    | refine keep_fst ‹_› ?_
    | split

theorem keep_release (s : State) (b : Nat) (seq : Nat) (h0 : Keeps z s) : Keeps z (release s b seq) := by
  unfold release
  repeat' with_reducible first
    | assumption
    | intro _
    | refine keep_setBundle ?_ ?_ ?_ ?_
    | refine keep_showReplay ?_ ?_ ?_
    | refine keep_raise ?_ ?_ ?_
    | refine keep_ite ?_ ?_

theorem keep_ackReceived (b : Nat) (seq : Nat) (s : State) (h2 : Keeps z s) : Keeps z (ackReceived b seq s) := by
  unfold ackReceived
  repeat' with_reducible first
    | assumption
    | intro _
    | refine keep_newLcw ?_ ?_ ?_
    | refine keep_release ?_ ?_ ?_ ?_
    | refine keep_ite ?_ ?_

theorem keep_sendNak (s : State) (b : Nat) (reason : Nat) (h0 : Keeps z s) : Keeps z (sendNak s b reason) := by
  unfold sendNak
  repeat' with_reducible first
    | assumption
    | intro _
    | refine keep_onBundle ?_ ?_ ?_ ?_
    | refine keep_bump ?_ ?_ ?_
    | refine keep_sendLcw ?_ ?_ ?_ ?_
    | refine keep_ite ?_ ?_

theorem keep_badFrame (s : State) (b : Nat) (reason : Nat) (h0 : Keeps z s) : Keeps z (badFrame s b reason) := by
  unfold badFrame
  repeat' with_reducible first
    | assumption
    | intro _
    | refine keep_sendNak ?_ ?_ ?_ ?_
    | refine keep_bump ?_ ?_ ?_

theorem keep_execToutPulse (t : Nat) (i : Nat) (s : State) (h2 : Keeps z s) : ∀ u, (execToutPulse t i s) = .next u → Keeps z u := by
  intro u e
  unfold execToutPulse at e
  refine keep_next ?_ e
  clear e
  repeat' with_reducible first
    | assumption
    | intro _
    | refine keep_toutPulse ?_ ?_ ?_ ?_
    | refine keep_at' ?_ ?_ ?_

theorem keep_refusePixel (s : State) (p : PixelId) (h0 : Keeps z s) : Keeps z (refusePixel s p) := by
  unfold refusePixel
  repeat' with_reducible first
    | assumption
    | intro _
    | refine keep_wr ?_ ?_ ?_ ?_
    | refine keep_raise ?_ ?_ ?_
    | refine keep_bump ?_ ?_ ?_
    | refine keep_setPixel ?_ ?_ ?_ ?_

theorem keep_setFrag (s : State) (b : Nat) (x : Option EthFrag) (h0 : Keeps z s) : Keeps z (setFrag s b x) := by
  unfold setFrag
  repeat' with_reducible first
    | assumption
    | intro _
    | dsimp only
    | exact keep_fold ‹_›
    | refine keep_fold ?_
    | refine keep_mk ?_

theorem keep_fragAdd (s : State) (b : Nat) (x : EthFrag) (w0 : Word) (data : List Byte) (h0 : Keeps z s) :
    Keeps z (fragAdd s b x w0 data) := by
  unfold fragAdd
  repeat' with_reducible first
    | assumption
    | intro _
    | refine keep_tunBad ?_ ?_
    | refine keep_hostFrame ?_ ?_ ?_ ?_ ?_
    | refine keep_setFrag ?_ ?_ ?_ ?_
    | refine keep_ite ?_ ?_

theorem keep_ethFromHost (b : Nat) (len : Nat) (body : List Word) (s : State) (h3 : Keeps z s) :
    Keeps z (ethFromHost b len body s) := by
  unfold ethFromHost
  repeat' with_reducible first
    | assumption
    | intro _
    | refine keep_tunBad ?_ ?_
    | refine keep_fragAdd ?_ ?_ ?_ ?_ ?_ ?_
    | refine keep_setFrag ?_ ?_ ?_ ?_
    | refine keep_ite ?_ ?_
    | refine keep_getD ?_ ?_
    | refine keep_snd ‹_› ?_
    | refine keep_snd2 ‹_› ?_
    | refine keep_snd3 ‹_› ?_
    | refine keep_fst ‹_› ?_
    | split

theorem keep_execPoolZeroed (t : Nat) (s : State) (h1 : Keeps z s) : ∀ u, (execPoolZeroed t s) = .next u → Keeps z u := by
  intro u e
  unfold execPoolZeroed at e
  refine keep_next ?_ e
  clear e
  repeat' with_reducible first
    | assumption
    | intro _
    | refine keep_wr ?_ ?_ ?_ ?_
    | refine keep_raise ?_ ?_ ?_
    | refine keep_at' ?_ ?_ ?_
    | refine keep_ite ?_ ?_

theorem keep_hallRenew (s : State) (h0 : Keeps z s) : Keeps z (hallRenew s) := by
  unfold hallRenew
  repeat' with_reducible first
    | assumption
    | intro _
    | refine keep_onMot ?_ ?_ ?_

theorem keep_openSpinEnd (s : State) (h0 : Keeps z s) : Keeps z (openSpinEnd s) := by
  unfold openSpinEnd
  repeat' with_reducible first
    | assumption
    | intro _
    | refine keep_setMode ?_ ?_ ?_
    | refine keep_ite ?_ ?_

theorem keep_envelopeJudge (s : State) (b : Bool) (h0 : Keeps z s) : Keeps z (envelopeJudge s b) := by
  unfold envelopeJudge
  repeat' with_reducible first
    | assumption
    | intro _
    | refine keep_safLatch ?_ ?_ ?_ ?_ ?_ ?_
    | refine keep_raise ?_ ?_ ?_
    | refine keep_ite ?_ ?_

theorem keep_safSpeedSample (s : State) (index : Bool) (h0 : Keeps z s) : Keeps z (safSpeedSample s index) := by
  unfold safSpeedSample
  repeat' with_reducible first
    | assumption
    | intro _
    | refine keep_speedJudge ?_ ?_ ?_
    | refine keep_agreeJudge ?_ ?_
    | refine keep_safRefresh ?_ ?_
    | refine keep_envelopeJudge ?_ ?_ ?_
    | refine keep_ite ?_ ?_

theorem keep_hallEdge (p : Nat) (s : State) (h1 : Keeps z s) : Keeps z (hallEdge p s) := by
  unfold hallEdge
  repeat' with_reducible first
    | assumption
    | intro _
    | refine keep_hallFault ?_ ?_
    | refine keep_onMot ?_ ?_ ?_
    | refine keep_hallRenew ?_ ?_
    | refine keep_safSpeedSample ?_ ?_ ?_
    | refine keep_openSpinEnd ?_ ?_
    | refine keep_bump ?_ ?_ ?_
    | refine keep_ite ?_ ?_

theorem keep_execSoftReset (t : Nat) (r : Requester) (p : Nat) (s : State) (h3 : Keeps z s) :
    ∀ u, (execSoftReset t r p s) = .next u → Keeps z u := by
  intro u e
  unfold execSoftReset at e
  refine keep_next ?_ e
  clear e
  repeat' with_reducible first
    | assumption
    | intro _
    | refine keep_accessW ?_ ?_ ?_ ?_ ?_ ?_

theorem keep_pushHit (s : State) (a1 : HitTime) (h0 : Keeps z s) : Keeps z (pushHit s a1) := by
  unfold pushHit
  repeat' with_reducible first
    | assumption
    | intro _
    | refine keep_setPath ?_ ?_ ?_ ?_

theorem keep_setRennet (s : State) (b : Nat) (l : List RennetHit) (h0 : Keeps z s) : Keeps z (setRennet s b l) := by
  unfold setRennet
  repeat' with_reducible first
    | assumption
    | intro _
    | dsimp only
    | exact keep_fold ‹_›
    | refine keep_fold ?_
    | refine keep_mk ?_

theorem keep_rennetPrune (s : State) (b : Nat) (h0 : Keeps z s) : Keeps z (rennetPrune s b) := by
  unfold rennetPrune
  repeat' with_reducible first
    | assumption
    | intro _
    | refine keep_setRennet ?_ ?_ ?_ ?_

theorem keep_rennetJudge (c : Nat) (s : State) (h1 : Keeps z s) : Keeps z (rennetJudge c s) := by
  unfold rennetJudge
  repeat' with_reducible first
    | assumption
    | intro _
    | refine keep_rennetPrune ?_ ?_ ?_
    | refine keep_setRennet ?_ ?_ ?_ ?_
    | refine keep_pushHit ?_ ?_ ?_
    | refine keep_bump ?_ ?_ ?_
    | refine keep_ite ?_ ?_
    | refine keep_snd ‹_› ?_
    | refine keep_snd2 ‹_› ?_
    | refine keep_snd3 ‹_› ?_
    | refine keep_fst ‹_› ?_
    | split
    | dsimp only

theorem keep_creditReceived (b : Nat) (vc : Nat) (limit : Nat) (s : State) (h3 : Keeps z s) :
    Keeps z (creditReceived b vc limit s) := by
  unfold creditReceived
  repeat' with_reducible first
    | assumption
    | intro _
    | refine keep_newLcw ?_ ?_ ?_
    | refine keep_onBundle ?_ ?_ ?_ ?_

theorem keep_egressPop (s : State) (p : Nat) (h0 : Keeps z s) : ∀ y, (egressPop s p) = some y → Keeps z y.2 := by
  intro y e
  unfold egressPop at e
  split at e
  · cases e; exact keep_setHigh _ _ _ h0
  · split at e
    · cases e; exact keep_setLow _ _ _ h0
    · cases e

theorem keep_toHost (s : State) (i : EthItem) (h0 : Keeps z s) : Keeps z (toHost s i) := by
  unfold toHost
  repeat' with_reducible first
    | assumption
    | intro _
    | refine keep_hostSend ?_ ?_ ?_ ?_ ?_ ?_ ?_ ?_ ?_ ?_

theorem keep_ethFrameEgress (p : Nat) (sfd : Nat) (s : State) (h2 : Keeps z s) : Keeps z (ethFrameEgress p sfd s) := by
  unfold ethFrameEgress
  repeat' with_reducible first
    | assumption
    | intro _
    | refine keep_sendOut ?_ ?_ ?_ ?_ ?_
    | refine keep_pauseJudge ?_ ?_ ?_
    | refine keep_toHost ?_ ?_ ?_
    | (refine keep_someP ‹_› ?_; refine keep_egressPop ?_ ?_ ?_)
    | refine keep_ite ?_ ?_
    | refine keep_snd ‹_› ?_
    | refine keep_snd2 ‹_› ?_
    | refine keep_snd3 ‹_› ?_
    | refine keep_fst ‹_› ?_
    | split

theorem keep_execEthFrameEgress (t : Nat) (p : Nat) (sfd : Nat) (s : State) (h3 : Keeps z s) :
    ∀ u, (execEthFrameEgress t p sfd s) = .next u → Keeps z u := by
  intro u e
  unfold execEthFrameEgress at e
  refine keep_next ?_ e
  clear e
  repeat' with_reducible first
    | assumption
    | intro _
    | refine keep_ethFrameEgress ?_ ?_ ?_ ?_
    | refine keep_at' ?_ ?_ ?_

theorem keep_takeReady (s : State) (c : Nat) (h0 : Keeps z s) : ∀ y, (takeReady s c) = some y → Keeps z y.2 := by
  intro y e
  unfold takeReady at e
  split at e
  · cases e
  · split at e
    · split at e <;> (cases e; exact h0)
    · cases e; exact h0

theorem keep_sdfClkLost (s : State) (h0 : Keeps z s) : Keeps z (sdfClkLost s) := by
  unfold sdfClkLost
  repeat' with_reducible first
    | assumption
    | intro _
    | refine keep_wr ?_ ?_ ?_ ?_
    | refine keep_raise ?_ ?_ ?_
    | refine keep_ite ?_ ?_

theorem keep_execClkLost (t : Nat) (s : State) (h1 : Keeps z s) : ∀ u, (execClkLost t s) = .next u → Keeps z u := by
  intro u e
  unfold execClkLost at e
  refine keep_next ?_ e
  clear e
  repeat' with_reducible first
    | assumption
    | intro _
    | refine keep_at' ?_ ?_ ?_
    | refine keep_sdfClkLost ?_ ?_

theorem keep_modelEdge (s : State) (h0 : Keeps z s) : Keeps z (modelEdge s) := by
  unfold modelEdge
  repeat' with_reducible first
    | assumption
    | intro _
    | refine keep_onMot ?_ ?_ ?_
    | refine keep_modelDrop ?_ ?_
    | refine keep_wr ?_ ?_ ?_ ?_
    | refine keep_wrB ?_ ?_ ?_ ?_
    | refine keep_ite ?_ ?_

theorem keep_sampleFacet (s : State) (period : Nat) (h0 : Keeps z s) : Keeps z (sampleFacet s period) := by
  unfold sampleFacet
  repeat' with_reducible first
    | assumption
    | intro _
    | refine keep_monSample ?_ ?_ ?_ ?_ ?_

theorem keep_idxRegister (s : State) (h0 : Keeps z s) : Keeps z (idxRegister s) := by
  unfold idxRegister
  repeat' with_reducible first
    | assumption
    | intro _
    | refine keep_onMot ?_ ?_ ?_
    | refine keep_sampleFacet ?_ ?_ ?_
    | refine keep_bump ?_ ?_ ?_
    | refine keep_ite ?_ ?_
    | refine keep_getD ?_ ?_
    | refine keep_snd ‹_› ?_
    | refine keep_snd2 ‹_› ?_
    | refine keep_snd3 ‹_› ?_
    | refine keep_fst ‹_› ?_
    | split

theorem keep_facetShow (s : State) (h0 : Keeps z s) : Keeps z (facetShow s) := by
  unfold facetShow
  repeat' with_reducible first
    | assumption
    | intro _
    | refine keep_setWide ?_ ?_ ?_ ?_
    | refine keep_wr ?_ ?_ ?_ ?_

theorem keep_markWide (s : State) (h0 : Keeps z s) : Keeps z (markWide s) := by
  unfold markWide
  repeat' with_reducible first
    | assumption
    | intro _
    | refine keep_onMot ?_ ?_ ?_
    | refine keep_idxLost ?_ ?_
    | refine keep_raise ?_ ?_ ?_
    | refine keep_facetShow ?_ ?_
    | refine keep_ite ?_ ?_

theorem keep_idxUnfallen (s : State) (h0 : Keeps z s) : Keeps z (idxUnfallen s) := by
  unfold idxUnfallen
  repeat' with_reducible first
    | assumption
    | intro _
    | refine keep_onMot ?_ ?_ ?_
    | refine keep_markWide ?_ ?_
    | refine keep_snd ‹_› ?_
    | refine keep_snd2 ‹_› ?_
    | refine keep_snd3 ‹_› ?_
    | refine keep_fst ‹_› ?_
    | split

theorem keep_windowEdge (s : State) (h0 : Keeps z s) : Keeps z (windowEdge s) := by
  unfold windowEdge
  repeat' with_reducible first
    | assumption
    | intro _
    | refine keep_onMot ?_ ?_ ?_

theorem keep_endSweeps (s : State) (t : Nat) (h0 : Keeps z s) : Keeps z (endSweeps s t) := by
  unfold endSweeps
  repeat' with_reducible first
    | assumption
    | intro _
    | dsimp only
    | exact keep_fold ‹_›
    | refine keep_fold ?_
    | refine keep_mk ?_

theorem keep_phaseInput (s : State) (h0 : Keeps z s) : Keeps z (phaseInput s) := by
  unfold phaseInput
  repeat' with_reducible first
    | assumption
    | intro _
    | refine keep_onMot ?_ ?_ ?_
    | refine keep_edgeRef ?_ ?_ ?_
    | refine keep_setReg ?_ ?_ ?_ ?_

theorem keep_lockJudge (s : State) (h0 : Keeps z s) : Keeps z (lockJudge s) := by
  unfold lockJudge
  repeat' with_reducible first
    | assumption
    | intro _
    | refine keep_onMot ?_ ?_ ?_
    | refine keep_wr ?_ ?_ ?_ ?_
    | refine keep_raise ?_ ?_ ?_
    | refine keep_ite ?_ ?_

theorem keep_phaseEdge (s : State) (h0 : Keeps z s) : Keeps z (phaseEdge s) := by
  unfold phaseEdge
  repeat' with_reducible first
    | assumption
    | intro _
    | refine keep_onMot ?_ ?_ ?_
    | refine keep_wr ?_ ?_ ?_ ?_
    | refine keep_lockJudge ?_ ?_
    | refine keep_phaseInput ?_ ?_
    | refine keep_ite ?_ ?_

theorem keep_phaseEnter (s : State) (h0 : Keeps z s) : Keeps z (phaseEnter s) := by
  unfold phaseEnter
  repeat' with_reducible first
    | assumption
    | intro _
    | refine keep_onMot ?_ ?_ ?_
    | refine keep_edgeRef ?_ ?_ ?_
    | refine keep_wr ?_ ?_ ?_ ?_
    | refine keep_setMode ?_ ?_ ?_
    | refine keep_phaseInput ?_ ?_
    | refine keep_ite ?_ ?_

theorem keep_pendingEdge (s : State) (h0 : Keeps z s) : Keeps z (pendingEdge s) := by
  unfold pendingEdge
  repeat' with_reducible first
    | assumption
    | intro _
    | refine keep_phaseEnter ?_ ?_
    | refine keep_ite ?_ ?_

theorem keep_galBoundary (t : Nat) (i : Nat) (s : State) (h2 : Keeps z s) : Keeps z (galBoundary t i s) := by
  unfold galBoundary
  repeat' with_reducible first
    | assumption
    | intro _
    | refine keep_onGal ?_ ?_ ?_
    | refine keep_wr ?_ ?_ ?_ ?_
    | refine keep_ite ?_ ?_

theorem keep_addSweep (s : State) (w : Sweep) (h0 : Keeps z s) : Keeps z (addSweep s w) := by
  unfold addSweep
  repeat' with_reducible first
    | assumption
    | intro _
    | refine keep_setRun ?_ ?_ ?_ ?_
    | refine keep_foldl ?_ ?_
    | refine keep_ite ?_ ?_
    | split
    | dsimp only
    | exact keep_fold ‹_›
    | refine keep_fold ?_
    | refine keep_mk ?_

theorem keep_facetSweep (s : State) (h0 : Keeps z s) : Keeps z (facetSweep s) := by
  unfold facetSweep
  repeat' with_reducible first
    | assumption
    | intro _
    | refine keep_addSweep ?_ ?_ ?_
    | refine keep_ite ?_ ?_
    | split
    | dsimp only
    | exact keep_fold ‹_›
    | refine keep_fold ?_
    | refine keep_mk ?_

theorem keep_idxRisingEdge (s : State) (h0 : Keeps z s) : Keeps z (idxRisingEdge s) := by
  unfold idxRisingEdge
  repeat' with_reducible first
    | assumption
    | intro _
    | refine keep_facetSweep ?_ ?_
    | refine keep_safSpeedSample ?_ ?_ ?_
    | refine keep_pendingEdge ?_ ?_
    | refine keep_phaseEdge ?_ ?_
    | refine keep_idxUnfallen ?_ ?_
    | refine keep_windowEdge ?_ ?_
    | refine keep_endSweeps ?_ ?_ ?_
    | refine keep_idxRegister ?_ ?_
    | refine keep_modelEdge ?_ ?_
    | refine keep_galBoundary ?_ ?_ ?_ ?_
    | refine keep_tduEvent ?_ ?_ ?_ ?_
    | refine keep_facetShow ?_ ?_
    | refine keep_ite ?_ ?_

theorem keep_urgentRaw (s : State) (v : Int) (h0 : Keeps z s) : Keeps z (urgentRaw s v).2 := by
  unfold urgentRaw
  repeat' with_reducible first
    | assumption
    | intro _
    | refine keep_takeFree ?_ ?_ ?_
    | refine keep_ite ?_ ?_
    | refine keep_ite_snd ?_ ?_

theorem keep_urgentOver (s : State) (kind : Nat) (h0 : Keeps z s) : Keeps z (urgentOver s kind) := by
  unfold urgentOver
  repeat' with_reducible first
    | assumption
    | intro _
    | refine keep_onHka ?_ ?_ ?_
    | refine keep_wr ?_ ?_ ?_ ?_
    | refine keep_raise ?_ ?_ ?_
    | refine keep_bump ?_ ?_ ?_
    | refine keep_ite ?_ ?_

theorem keep_galFault (s : State) (f : Fld) (h0 : Keeps z s) : Keeps z (galFault s f) := by
  unfold galFault
  repeat' with_reducible first
    | assumption
    | intro _
    | refine keep_onGal ?_ ?_ ?_
    | refine keep_safMotor ?_ ?_ ?_
    | refine keep_motStop ?_ ?_
    | refine keep_wr ?_ ?_ ?_ ?_
    | refine keep_wrBit ?_ ?_ ?_ ?_ ?_
    | refine keep_slotsRefresh ?_ ?_
    | refine keep_raise ?_ ?_ ?_

theorem keep_freezeJudge (s : State) (raw : Int) (r : Int) (h0 : Keeps z s) : Keeps z (freezeJudge s raw r) := by
  unfold freezeJudge
  repeat' with_reducible first
    | assumption
    | intro _
    | refine keep_onGal ?_ ?_ ?_
    | refine keep_galFault ?_ ?_ ?_
    | refine keep_ite ?_ ?_

theorem keep_readyJudge (s : State) (r : Int) (y : Int) (h0 : Keeps z s) : Keeps z (readyJudge s r y) := by
  unfold readyJudge
  repeat' with_reducible first
    | assumption
    | intro _
    | refine keep_onGal ?_ ?_ ?_
    | refine keep_wr ?_ ?_ ?_ ?_
    | refine keep_raise ?_ ?_ ?_
    | refine keep_ite ?_ ?_

theorem keep_slotTick (s : State) (k : Nat) (r : Int) (y : Int) (h0 : Keeps z s) : Keeps z (slotTick s k r y) := by
  unfold slotTick
  repeat' with_reducible first
    | assumption
    | intro _
    | refine keep_raiseAt ?_ ?_ ?_ ?_
    | refine keep_setReg ?_ ?_ ?_ ?_
    | refine keep_setSlot ?_ ?_ ?_ ?_
    | refine keep_raise ?_ ?_ ?_
    | refine keep_monSample ?_ ?_ ?_ ?_ ?_
    | refine keep_ite ?_ ?_

theorem keep_galSample (s : State) (tick : Option Nat) (raw : Int) (y : Int) (h0 : Keeps z s) :
    Keeps z (galSample s tick raw y) := by
  unfold galSample
  repeat' with_reducible first
    | assumption
    | intro _
    | refine keep_onGal ?_ ?_ ?_
    | refine keep_freezeJudge ?_ ?_ ?_ ?_
    | refine keep_slotTick ?_ ?_ ?_ ?_ ?_
    | refine keep_readyJudge ?_ ?_ ?_ ?_
    | refine keep_ite ?_ ?_
    | refine keep_snd ‹_› ?_
    | refine keep_snd2 ‹_› ?_
    | refine keep_snd3 ‹_› ?_
    | refine keep_fst ‹_› ?_
    | split

theorem keep_urgentResult (s : State) (v : HkaConv) (val : Int) (isOpen : Bool) (clamp : Bool) (ref : Bool) (h0 : Keeps z s) :
    Keeps z (urgentResult s v val isOpen clamp ref) := by
  unfold urgentResult
  repeat' with_reducible first
    | assumption
    | intro _
    | refine keep_setReg ?_ ?_ ?_ ?_
    | refine keep_thmResult ?_ ?_ ?_ ?_ ?_ ?_
    | refine keep_urgentOver ?_ ?_ ?_
    | refine keep_linFormed ?_ ?_ ?_
    | refine keep_galSample ?_ ?_ ?_ ?_ ?_
    | refine keep_openClear ?_ ?_ ?_ ?_
    | refine keep_urgentRaw ?_ ?_ ?_
    | refine keep_galPosition ?_ ?_ ?_
    | refine keep_toQ16 ?_ ?_ ?_
    | refine keep_ite ?_ ?_

theorem keep_retentionPostEnd (s : State) (h0 : Keeps z s) : Keeps z (retentionPostEnd s) := by
  unfold retentionPostEnd
  repeat' with_reducible first
    | assumption
    | intro _
    | refine keep_flushFrames ?_ ?_
    | refine keep_wr ?_ ?_ ?_ ?_
    | refine keep_autoRestart ?_ ?_
    | refine keep_ite ?_ ?_

theorem keep_execRetentionPostEnd (t : Nat) (s : State) (h1 : Keeps z s) :
    ∀ u, (execRetentionPostEnd t s) = .next u → Keeps z u := by
  intro u e
  unfold execRetentionPostEnd at e
  refine keep_next ?_ e
  clear e
  repeat' with_reducible first
    | assumption
    | intro _
    | refine keep_retentionPostEnd ?_ ?_
    | refine keep_at' ?_ ?_ ?_

theorem keep_execPressBlockEnd (t : Nat) (k : Nat) (bytes : List Byte) (s : State) (h3 : Keeps z s) :
    ∀ u, (execPressBlockEnd t k bytes s) = .next u → Keeps z u := by
  intro u e
  unfold execPressBlockEnd at e
  refine keep_next ?_ e
  clear e
  repeat' with_reducible first
    | assumption
    | intro _
    | refine keep_pressBlockEnd ?_ ?_ ?_ ?_ ?_
    | refine keep_at' ?_ ?_ ?_

theorem keep_calNoSignal (s : State) (h0 : Keeps z s) : Keeps z (calNoSignal s) := by
  unfold calNoSignal
  repeat' with_reducible first
    | assumption
    | intro _
    | refine keep_jobFail ?_ ?_ ?_
    | refine keep_ite ?_ ?_
    | refine keep_snd ‹_› ?_
    | refine keep_snd2 ‹_› ?_
    | refine keep_snd3 ‹_› ?_
    | refine keep_fst ‹_› ?_
    | split

theorem keep_execCalNoSignal (t : Nat) (s : State) (h1 : Keeps z s) : ∀ u, (execCalNoSignal t s) = .next u → Keeps z u := by
  intro u e
  unfold execCalNoSignal at e
  refine keep_next ?_ e
  clear e
  repeat' with_reducible first
    | assumption
    | intro _
    | refine keep_calNoSignal ?_ ?_
    | refine keep_at' ?_ ?_ ?_

theorem keep_tduFrame (s : State) (h0 : Keeps z s) : Keeps z (tduFrame s) := by
  unfold tduFrame
  repeat' with_reducible first
    | assumption
    | intro _
    | refine keep_tduStart ?_ ?_ ?_
    | refine keep_tduSnap ?_ ?_ ?_
    | refine keep_foldl ?_ ?_
    | refine keep_ite ?_ ?_

theorem keep_candsOf (s : State) (p : Pixel) (c : Ctx) (b : Nat) (fell : Bool) (h0 : Keeps z s) :
    Keeps z (candsOf s p c b fell).2.2 := by
  unfold candsOf
  repeat' with_reducible first
    | assumption
    | intro _
    | refine keep_candOf ?_ ?_ ?_ ?_ ?_ ?_ ?_
    | refine keep_foldl ?_ ?_
    | refine keep_foldl_snd ?_ ?_

theorem keep_execQueueCfgWrite (t : Nat) (r : Requester) (k : Nat) (route : Bool) (d : Nat) (s : State) (h5 : Keeps z s) :
    ∀ u, (execQueueCfgWrite t r k route d s) = .next u → Keeps z u := by
  intro u e
  unfold execQueueCfgWrite at e
  refine keep_next ?_ e
  clear e
  repeat' with_reducible first
    | assumption
    | intro _
    | refine keep_accessW ?_ ?_ ?_ ?_ ?_ ?_

theorem keep_lineCounts (s : State) (b : Nat) (skips : Nat) (errs : List (Nat × Nat × Nat)) (h0 : Keeps z s) :
    Keeps z (lineCounts s b skips errs) := by
  unfold lineCounts
  repeat' with_reducible first
    | assumption
    | intro _
    | refine keep_bumpBy ?_ ?_ ?_ ?_
    | refine keep_foldl ?_ ?_
    | refine keep_foldl_snd ?_ ?_
    | refine keep_ite ?_ ?_

theorem keep_dueAck (s : State) (b : Nat) (h0 : Keeps z s) : Keeps z (dueAck s b) := by
  unfold dueAck
  repeat' with_reducible first
    | assumption
    | intro _
    | refine keep_onBundle ?_ ?_ ?_ ?_

theorem keep_takeFields (s : State) (b : Nat) (hdr : List Word) (h0 : Keeps z s) : Keeps z (takeFields s b hdr) := by
  unfold takeFields
  repeat' with_reducible first
    | assumption
    | intro _
    | refine keep_release ?_ ?_ ?_ ?_
    | refine keep_onBundle ?_ ?_ ?_ ?_
    | refine keep_ite ?_ ?_

theorem keep_sendCredit (s : State) (b : Nat) (v : Nat) (h0 : Keeps z s) : Keeps z (sendCredit s b v) := by
  unfold sendCredit
  repeat' with_reducible first
    | assumption
    | intro _
    | refine keep_setBundle ?_ ?_ ?_ ?_
    | refine keep_sendLcw ?_ ?_ ?_ ?_

theorem keep_freeUnits (s : State) (b : Nat) (v : Nat) (n : Nat) (h0 : Keeps z s) : Keeps z (freeUnits s b v n) := by
  unfold freeUnits
  repeat' with_reducible first
    | assumption
    | intro _
    | refine keep_setBundle ?_ ?_ ?_ ?_
    | refine keep_sendCredit ?_ ?_ ?_ ?_
    | refine keep_onBundle ?_ ?_ ?_ ?_
    | refine keep_ite ?_ ?_

theorem keep_acceptFrame (s : State) (b : Nat) (hdr : List Word) (h0 : Keeps z s) : Keeps z (acceptFrame s b hdr) := by
  unfold acceptFrame
  repeat' with_reducible first
    | assumption
    | intro _
    | refine keep_discardFrame ?_ ?_ ?_ ?_
    | refine keep_dueAck ?_ ?_ ?_
    | refine keep_freeUnits ?_ ?_ ?_ ?_ ?_
    | refine keep_setBundle ?_ ?_ ?_ ?_
    | refine keep_wr ?_ ?_ ?_ ?_
    | refine keep_takeFields ?_ ?_ ?_ ?_
    | refine keep_onBundle ?_ ?_ ?_ ?_
    | refine keep_bump ?_ ?_ ?_
    | refine keep_ite ?_ ?_

theorem keep_frameReceived (b : Nat) (hdr : List Word) (body : List Word) (crc : Word) (fault : Nat) (skips : Nat) (errs : List (Nat × Nat × Nat)) (s : State) (h7 : Keeps z s) :
    Keeps z (frameReceived b hdr body crc fault skips errs s) := by
  unfold frameReceived
  repeat' with_reducible first
    | assumption
    | intro _
    | refine keep_badFrame ?_ ?_ ?_ ?_
    | refine keep_dueAck ?_ ?_ ?_
    | refine keep_lineCounts ?_ ?_ ?_ ?_ ?_
    | refine keep_acceptFrame ?_ ?_ ?_ ?_
    | refine keep_sendNak ?_ ?_ ?_ ?_
    | refine keep_newLcw ?_ ?_ ?_
    | refine keep_takeFields ?_ ?_ ?_ ?_
    | refine keep_ite ?_ ?_

theorem keep_tduGap (s : State) (src : Nat) (h0 : Keeps z s) : Keeps z (tduGap s src) := by
  unfold tduGap
  repeat' with_reducible first
    | assumption
    | intro _
    | refine keep_wr ?_ ?_ ?_ ?_
    | refine keep_foldl ?_ ?_
    | refine keep_ite ?_ ?_

theorem keep_hitDrain (bank : Nat) (s : State) (h1 : Keeps z s) : Keeps z (hitDrain bank s) := by
  unfold hitDrain
  repeat' with_reducible first
    | assumption
    | intro _
    | refine keep_setChan ?_ ?_ ?_ ?_
    | refine keep_tduGap ?_ ?_ ?_
    | refine keep_ite ?_ ?_
    | refine keep_snd ‹_› ?_
    | refine keep_snd2 ‹_› ?_
    | refine keep_snd3 ‹_› ?_
    | refine keep_fst ‹_› ?_
    | split
    | dsimp only
    | exact keep_fold ‹_›
    | refine keep_fold ?_
    | refine keep_mk ?_

theorem keep_detachedCycle (s : State) (h0 : Keeps z s) : Keeps z (detachedCycle s) := by
  unfold detachedCycle
  repeat' with_reducible first
    | assumption
    | intro _
    | refine keep_onPln ?_ ?_ ?_
    | refine keep_wr ?_ ?_ ?_ ?_
    | refine keep_ite ?_ ?_

theorem keep_startFailed (s : State) (h0 : Keeps z s) : Keeps z (startFailed s) := by
  unfold startFailed
  repeat' with_reducible first
    | assumption
    | intro _
    | refine keep_motLatch ?_ ?_ ?_
    | refine keep_torqueOff ?_ ?_
    | refine keep_safSpeedRefresh ?_ ?_

theorem keep_startFailEvent (s : State) (h0 : Keeps z s) : Keeps z (startFailEvent s) := by
  unfold startFailEvent
  repeat' with_reducible first
    | assumption
    | intro _
    | refine keep_startFailed ?_ ?_
    | refine keep_ite ?_ ?_

theorem keep_alignEdgeReached (t : Nat) (s : State) (h1 : Keeps z s) : Keeps z (alignEdgeReached t s) := by
  unfold alignEdgeReached
  repeat' with_reducible first
    | assumption
    | intro _
    | refine keep_tickNumber ?_ ?_ ?_
    | refine keep_setReg ?_ ?_ ?_ ?_
    | refine keep_wr ?_ ?_ ?_ ?_
    | refine keep_onPair ?_ ?_ ?_
    | refine keep_ite ?_ ?_
    | refine keep_snd ‹_› ?_
    | refine keep_snd2 ‹_› ?_
    | refine keep_snd3 ‹_› ?_
    | refine keep_fst ‹_› ?_
    | split
    | dsimp only
    | exact keep_fold ‹_›
    | refine keep_fold ?_
    | refine keep_mk ?_

theorem keep_execAlignEdgeReached (t : Nat) (s : State) (h1 : Keeps z s) :
    ∀ u, (execAlignEdgeReached t s) = .next u → Keeps z u := by
  intro u e
  unfold execAlignEdgeReached at e
  refine keep_next ?_ e
  clear e
  repeat' with_reducible first
    | assumption
    | intro _
    | refine keep_alignEdgeReached ?_ ?_ ?_
    | refine keep_at' ?_ ?_ ?_

theorem keep_setLocks (s : State) (m : Nat) (h0 : Keeps z s) : Keeps z (setLocks s m) := by
  unfold setLocks
  repeat' with_reducible first
    | assumption
    | intro _
    | refine keep_wrBit ?_ ?_ ?_ ?_ ?_
    | refine keep_foldl ?_ ?_
    | refine keep_ite ?_ ?_

theorem keep_ntmCoast (s : State) (h0 : Keeps z s) : Keeps z (ntmCoast s) := by
  unfold ntmCoast
  repeat' with_reducible first
    | assumption
    | intro _
    | refine keep_wr ?_ ?_ ?_ ?_

theorem keep_refLost (t : Nat) (s : State) (h1 : Keeps z s) : Keeps z (refLost t s) := by
  unfold refLost
  repeat' with_reducible first
    | assumption
    | intro _
    | refine keep_discard ?_ ?_ ?_ ?_
    | refine keep_wr ?_ ?_ ?_ ?_
    | refine keep_ntmCoast ?_ ?_
    | refine keep_ntmRemode ?_ ?_ ?_
    | refine keep_raise ?_ ?_ ?_
    | refine keep_setLocks ?_ ?_ ?_
    | refine keep_bump ?_ ?_ ?_
    | refine keep_safRefresh ?_ ?_
    | refine keep_at' ?_ ?_ ?_
    | refine keep_degradedWatch ?_ ?_ ?_ ?_
    | refine keep_foldl ?_ ?_
    | refine keep_ite ?_ ?_
    | split
    | dsimp only
    | exact keep_fold ‹_›
    | refine keep_fold ?_
    | refine keep_mk ?_

theorem keep_mergeMark (s : State) (num : Nat) (pos : Nat) (src : Nat) (forced : Bool) (h0 : Keeps z s) :
    Keeps z (mergeMark s num pos src forced) := by
  unfold mergeMark
  repeat' with_reducible first
    | assumption
    | intro _
    | refine keep_setReg ?_ ?_ ?_ ?_
    | refine keep_onAcq ?_ ?_ ?_
    | refine keep_ite ?_ ?_

theorem keep_ss1MaxExpire (t : Nat) (s : State) (h1 : Keeps z s) : Keeps z (ss1MaxExpire t s) := by
  unfold ss1MaxExpire
  repeat' with_reducible first
    | assumption
    | intro _
    | refine keep_ss1End ?_ ?_
    | refine keep_safRefresh ?_ ?_
    | refine keep_at' ?_ ?_ ?_
    | refine keep_ite ?_ ?_
    | refine keep_snd ‹_› ?_
    | refine keep_snd2 ‹_› ?_
    | refine keep_snd3 ‹_› ?_
    | refine keep_fst ‹_› ?_
    | split
    | dsimp only

theorem keep_execSs1MaxExpire (t : Nat) (s : State) (h1 : Keeps z s) : ∀ u, (execSs1MaxExpire t s) = .next u → Keeps z u := by
  intro u e
  unfold execSs1MaxExpire at e
  refine keep_next ?_ e
  clear e
  repeat' with_reducible first
    | assumption
    | intro _
    | refine keep_ss1MaxExpire ?_ ?_ ?_

theorem keep_anFail (p : Nat) (lp : Nat) (s : State) (h2 : Keeps z s) : Keeps z (anFail p lp s) := by
  unfold anFail
  repeat' with_reducible first
    | assumption
    | intro _
    | refine keep_wr ?_ ?_ ?_ ?_
    | refine keep_raise ?_ ?_ ?_
    | refine keep_linkDown ?_ ?_ ?_
    | refine keep_ite ?_ ?_

theorem keep_linkUp (p : Nat) (lp : Nat) (s : State) (h2 : Keeps z s) : Keeps z (linkUp p lp s) := by
  unfold linkUp
  repeat' with_reducible first
    | assumption
    | intro _
    | refine keep_setReg ?_ ?_ ?_ ?_
    | refine keep_anFail ?_ ?_ ?_ ?_
    | refine keep_raise ?_ ?_ ?_
    | refine keep_ite ?_ ?_

theorem keep_standbyHoldApply (t : Nat) (s : State) (h1 : Keeps z s) : Keeps z (standbyHoldApply t s) := by
  unfold standbyHoldApply
  repeat' with_reducible first
    | assumption
    | intro _
    | refine keep_onPair ?_ ?_ ?_
    | refine keep_ite ?_ ?_
    | refine keep_snd ‹_› ?_
    | refine keep_snd2 ‹_› ?_
    | refine keep_snd3 ‹_› ?_
    | refine keep_fst ‹_› ?_
    | split

theorem keep_plan (st : Nat) (held : Nat) (pending : Nat) (grant : Nat) (s : State) (h4 : Keeps z s) :
    Keeps z (plan st held pending grant s) := by
  unfold plan
  repeat' with_reducible first
    | assumption
    | intro _
    | refine keep_onPln ?_ ?_ ?_
    | refine keep_release ?_ ?_ ?_ ?_
    | refine keep_grantWatch ?_ ?_ ?_ ?_
    | refine keep_ite ?_ ?_

theorem keep_refPresent (t : Nat) (s : State) (h1 : Keeps z s) : Keeps z (refPresent t s) := by
  unfold refPresent
  repeat' with_reducible first
    | assumption
    | intro _
    | refine keep_discard ?_ ?_ ?_ ?_
    | refine keep_wr ?_ ?_ ?_ ?_
    | refine keep_timedLate ?_ ?_
    | refine keep_ntmRemode ?_ ?_ ?_
    | refine keep_raise ?_ ?_ ?_
    | refine keep_safRefresh ?_ ?_
    | refine keep_at' ?_ ?_ ?_
    | refine keep_degradedWatch ?_ ?_ ?_ ?_
    | refine keep_ite ?_ ?_
    | split
    | dsimp only
    | exact keep_fold ‹_›
    | refine keep_fold ?_
    | refine keep_mk ?_

theorem keep_execStateReqWrite (t : Nat) (r : Requester) (d : Nat) (s : State) (h3 : Keeps z s) :
    ∀ u, (execStateReqWrite t r d s) = .next u → Keeps z u := by
  intro u e
  unfold execStateReqWrite at e
  refine keep_next ?_ e
  clear e
  repeat' with_reducible first
    | assumption
    | intro _
    | refine keep_accessW ?_ ?_ ?_ ?_ ?_ ?_

theorem keep_execInspBinDataRead (t : Nat) (r : Requester) (s : State) (h2 : Keeps z s) :
    ∀ u, (execInspBinDataRead t r s) = .next u → Keeps z u := by
  intro u e
  unfold execInspBinDataRead at e
  refine keep_next ?_ e
  clear e
  repeat' with_reducible first
    | assumption
    | intro _
    | refine keep_access ?_ ?_ ?_ ?_ ?_

theorem keep_accessEither (t : Nat) (r : Requester) (a : Nat) (d : Option Nat) (s : State) (h4 : Keeps z s) :
    Keeps z (accessEither t r a d s) := by
  unfold accessEither
  repeat' with_reducible first
    | assumption
    | intro _
    | refine keep_accessW ?_ ?_ ?_ ?_ ?_ ?_
    | refine keep_access ?_ ?_ ?_ ?_ ?_
    | refine keep_snd ‹_› ?_
    | refine keep_snd2 ‹_› ?_
    | refine keep_snd3 ‹_› ?_
    | refine keep_fst ‹_› ?_
    | split

theorem keep_execGalTblDataAccess (t : Nat) (r : Requester) (d : Option Nat) (s : State) (h3 : Keeps z s) :
    ∀ u, (execGalTblDataAccess t r d s) = .next u → Keeps z u := by
  intro u e
  unfold execGalTblDataAccess at e
  refine keep_next ?_ e
  clear e
  repeat' with_reducible first
    | assumption
    | intro _
    | refine keep_accessEither ?_ ?_ ?_ ?_ ?_ ?_

theorem keep_execRefPresent (t : Nat) (s : State) (h1 : Keeps z s) : ∀ u, (execRefPresent t s) = .next u → Keeps z u := by
  intro u e
  unfold execRefPresent at e
  refine keep_next ?_ e
  clear e
  repeat' with_reducible first
    | assumption
    | intro _
    | refine keep_refPresent ?_ ?_ ?_

theorem keep_execResume (t : Nat) (r : Requester) (e : Nat) (s : State) (h3 : Keeps z s) :
    ∀ u, (execResume t r e s) = .next u → Keeps z u := by
  intro u e
  unfold execResume at e
  refine keep_next ?_ e
  clear e
  repeat' with_reducible first
    | assumption
    | intro _
    | refine keep_accessW ?_ ?_ ?_ ?_ ?_ ?_

theorem keep_recordEnqueue (t : Nat) (st : Nat) (s : State) (h2 : Keeps z s) : Keeps z (recordEnqueue t st s) := by
  unfold recordEnqueue
  repeat' with_reducible first
    | assumption
    | intro _
    | refine keep_flushFrames ?_ ?_
    | refine keep_enqueueHead ?_ ?_ ?_ ?_ ?_ ?_
    | refine keep_feedAll ?_ ?_
    | refine keep_ite ?_ ?_
    | refine keep_snd ‹_› ?_
    | refine keep_snd2 ‹_› ?_
    | refine keep_snd3 ‹_› ?_
    | refine keep_fst ‹_› ?_
    | split
    | dsimp only

theorem keep_groupUnlock (s : State) (g : Nat) (h0 : Keeps z s) : Keeps z (groupUnlock s g) := by
  unfold groupUnlock
  repeat' with_reducible first
    | assumption
    | intro _
    | refine keep_laneUnlock ?_ ?_ ?_
    | refine keep_foldl ?_ ?_
    | refine keep_ite ?_ ?_

theorem keep_setHeld (s : State) (n : Nat) (g : HeldCtx → HeldCtx) (h0 : Keeps z s) : Keeps z (setHeld s n g) := by
  unfold setHeld
  repeat' with_reducible first
    | assumption
    | intro _
    | refine keep_setEngine ?_ ?_ ?_ ?_
    | refine keep_snd ‹_› ?_
    | refine keep_snd2 ‹_› ?_
    | refine keep_snd3 ‹_› ?_
    | refine keep_fst ‹_› ?_
    | split

theorem keep_ringRoom (len : Nat) (a1 : Nat) (a2 : State) (h2 : Keeps z a2) : ∀ y, (ringRoom len a1 a2) = some y → Keeps z y := by
  induction a1 generalizing a2 with
  | zero => intro y e; simp [ringRoom] at e
  | succ k ih =>
    intro y e
    unfold ringRoom at e
    split at e
    · cases e; exact h2
    · split at e
      · cases e
      · split at e
        · cases e
        · exact ih _ (keep_onAcq _ _ h2) y e

theorem keep_ringStore (s : State) (typ : Nat) (frame : Nat) (pos : Nat) (ord : Nat) (regs : Nat) (ws : List Word) (h0 : Keeps z s) :
    ∀ y, (ringStore s typ frame pos ord regs ws) = some y → Keeps z y := by
  intro y e
  unfold ringStore at e
  split at e
  · cases e
  · next s' r =>
    cases e
    refine keep_onAcq _ _ ?_
    exact keep_mk (keep_ringWords (keep_ringRoom _ _ _ h0 _ r))

theorem keep_seqTruncate (s : State) (q : Seq) (o : Nat) (h0 : Keeps z s) : Keeps z (seqTruncate s q o) := by
  unfold seqTruncate
  repeat' with_reducible first
    | assumption
    | intro _
    | refine keep_onAcq ?_ ?_ ?_
    | refine keep_onSeq ?_ ?_ ?_ ?_
    | refine keep_raise ?_ ?_ ?_
    | refine keep_bump ?_ ?_ ?_

theorem keep_passThrough (w : State) (s : State) (q : Seq) (a3 : HeldCtx) (o : Nat) (ws : List Word) (h0 : Keeps z w) (h1 : Keeps z s) :
    Keeps z (passThrough w s q a3 o ws) := by
  unfold passThrough
  repeat' with_reducible first
    | assumption
    | intro _
    | refine keep_takeRec ?_ ?_ ?_ ?_
    | refine keep_seqTruncate ?_ ?_ ?_ ?_
    | refine keep_wr ?_ ?_ ?_ ?_
    | refine keep_feedSeq ?_ ?_ ?_ ?_
    | refine keep_foldl ?_ ?_
    | refine keep_ite ?_ ?_

theorem keep_readToRing (s : State) (n : Nat) (a2 : HeldCtx) (ws : List Word) (h0 : Keeps z s) :
    Keeps z (readToRing s n a2 ws) := by
  unfold readToRing
  have k := keep_setHeld s n (fun h => { h with ring := false }) h0
  revert k
  dsimp only
  generalize setHeld s n (fun h => { h with ring := false }) = s'
  intro k
  split
  · exact k
  · refine keep_ite ?_ (fun _ => k)
    split
    · next s2 hq =>
      split at hq
      · cases hq
      · exact keep_ringStore _ _ _ _ _ _ _ k _ hq
    · exact keep_passThrough _ _ _ _ _ _ h0 k
    · exact h0

theorem keep_contextReadoutComplete (t : Nat) (n : Nat) (s : State) (h2 : Keeps z s) : Keeps z (contextReadoutComplete t n s) := by
  unfold contextReadoutComplete
  repeat' with_reducible first
    | assumption
    | intro _
    | refine keep_flushFrames ?_ ?_
    | refine keep_feedAll ?_ ?_
    | refine keep_pruneFrames ?_ ?_
    | refine keep_takeRec ?_ ?_ ?_ ?_
    | refine keep_drainAll ?_ ?_
    | refine keep_readToRing ?_ ?_ ?_ ?_ ?_
    | refine keep_setHeld ?_ ?_ ?_ ?_
    | refine keep_freeSlot ?_ ?_ ?_ ?_
    | refine keep_setEngine ?_ ?_ ?_ ?_
    | refine keep_foldl ?_ ?_
    | refine keep_ite ?_ ?_
    | refine keep_snd ‹_› ?_
    | refine keep_snd2 ‹_› ?_
    | refine keep_snd3 ‹_› ?_
    | refine keep_fst ‹_› ?_
    | split
    | dsimp only

theorem keep_execContextReadoutComplete (t : Nat) (n : Nat) (s : State) (h2 : Keeps z s) :
    ∀ u, (execContextReadoutComplete t n s) = .next u → Keeps z u := by
  intro u e
  unfold execContextReadoutComplete at e
  refine keep_next ?_ e
  clear e
  repeat' with_reducible first
    | assumption
    | intro _
    | refine keep_contextReadoutComplete ?_ ?_ ?_ ?_
    | refine keep_at' ?_ ?_ ?_

theorem keep_ssDiscrepancy (t : Nat) (s : State) (h1 : Keeps z s) : Keeps z (ssDiscrepancy t s) := by
  unfold ssDiscrepancy
  repeat' with_reducible first
    | assumption
    | intro _
    | refine keep_safLatch ?_ ?_ ?_ ?_ ?_ ?_
    | refine keep_safRefresh ?_ ?_
    | refine keep_at' ?_ ?_ ?_
    | refine keep_ite ?_ ?_

theorem keep_execSsDiscrepancy (t : Nat) (s : State) (h1 : Keeps z s) : ∀ u, (execSsDiscrepancy t s) = .next u → Keeps z u := by
  intro u e
  unfold execSsDiscrepancy at e
  refine keep_next ?_ e
  clear e
  repeat' with_reducible first
    | assumption
    | intro _
    | refine keep_ssDiscrepancy ?_ ?_ ?_

theorem keep_execRecompute (t : Nat) (r : Requester) (d : Nat) (s : State) (h3 : Keeps z s) :
    ∀ u, (execRecompute t r d s) = .next u → Keeps z u := by
  intro u e
  unfold execRecompute at e
  refine keep_next ?_ e
  clear e
  repeat' with_reducible first
    | assumption
    | intro _
    | refine keep_accessW ?_ ?_ ?_ ?_ ?_ ?_

theorem keep_execSafeResetEdge (t : Nat) (s : State) (h1 : Keeps z s) : ∀ u, (execSafeResetEdge t s) = .next u → Keeps z u := by
  intro u e
  unfold execSafeResetEdge at e
  refine keep_next ?_ e
  clear e
  repeat' with_reducible first
    | assumption
    | intro _
    | refine keep_safeResetEdge ?_ ?_ ?_ ?_
    | refine keep_at' ?_ ?_ ?_
    | refine keep_ite ?_ ?_

theorem keep_execFctStart (t : Nat) (r : Requester) (d : Nat) (s : State) (h3 : Keeps z s) :
    ∀ u, (execFctStart t r d s) = .next u → Keeps z u := by
  intro u e
  unfold execFctStart at e
  refine keep_next ?_ e
  clear e
  repeat' with_reducible first
    | assumption
    | intro _
    | refine keep_accessW ?_ ?_ ?_ ?_ ?_ ?_

theorem keep_ringHeads (s : State) (f : Frame) (h0 : Keeps z s) : Keeps z (ringHeads s f) := by
  unfold ringHeads
  refine keep_ite h0 (fun _ => ?_)
  refine keep_foldl (fun s r h => ?_) h0
  exact keep_getD (keep_ringStore _ _ _ _ _ _ _ h) h

theorem keep_takeBuffer (s : State) (num : Nat) (provisional : Bool) (h0 : Keeps z s) : Keeps z (takeBuffer s num provisional) := by
  unfold takeBuffer
  repeat' with_reducible first
    | assumption
    | intro _
    | refine keep_giveBuffer ?_ ?_ ?_
    | refine keep_ite ?_ ?_
    | refine keep_snd ‹_› ?_
    | refine keep_snd2 ‹_› ?_
    | refine keep_snd3 ‹_› ?_
    | refine keep_fst ‹_› ?_
    | split
    | dsimp only
    | exact keep_fold ‹_›
    | refine keep_fold ?_
    | refine keep_mk ?_

theorem keep_frameStart (tb : Nat) (s : State) (h1 : Keeps z s) : Keeps z (frameStart tb s) := by
  unfold frameStart
  repeat' with_reducible first
    | assumption
    | intro _
    | refine keep_addSweep ?_ ?_ ?_
    | refine keep_jobFail ?_ ?_ ?_
    | refine keep_onAcq ?_ ?_ ?_
    | refine keep_ringHeads ?_ ?_ ?_
    | refine keep_wr ?_ ?_ ?_ ?_
    | refine keep_takeBuffer ?_ ?_ ?_ ?_
    | refine keep_raise ?_ ?_ ?_
    | refine keep_bump ?_ ?_ ?_
    | refine keep_ite ?_ ?_
    | refine keep_getD ?_ ?_
    | split
    | dsimp only
    | exact keep_fold ‹_›
    | refine keep_fold ?_
    | refine keep_mk ?_

theorem keep_laneRetrainEnd (l : Nat) (ok : Bool) (s : State) (h2 : Keeps z s) : Keeps z (laneRetrainEnd l ok s) := by
  unfold laneRetrainEnd
  repeat' with_reducible first
    | assumption
    | intro _
    | refine keep_laneEvent ?_ ?_ ?_ ?_
    | refine keep_setPllLock ?_ ?_ ?_ ?_
    | refine keep_setLane ?_ ?_ ?_ ?_
    | refine keep_measureSkew ?_ ?_ ?_
    | refine keep_newLcw ?_ ?_ ?_
    | refine keep_setOffer ?_ ?_ ?_ ?_
    | refine keep_setBitLock ?_ ?_ ?_ ?_
    | refine keep_onLane ?_ ?_ ?_ ?_
    | refine keep_at' ?_ ?_ ?_
    | refine keep_ite ?_ ?_
    | refine keep_snd ‹_› ?_
    | refine keep_snd2 ‹_› ?_
    | refine keep_snd3 ‹_› ?_
    | refine keep_fst ‹_› ?_
    | split

theorem keep_countSent (s : State) (k : Nat) (n : Nat) (h0 : Keeps z s) : Keeps z (countSent s k n) := by
  unfold countSent
  repeat' with_reducible first
    | assumption
    | intro _
    | refine keep_setQueue ?_ ?_ ?_ ?_
    | refine keep_bump31 ?_ ?_ ?_ ?_

theorem keep_sendSegment (s : State) (b : Nat) (k : Nat) (p : SegPlan) (h0 : Keeps z s) : Keeps z (sendSegment s b k p) := by
  unfold sendSegment
  repeat' with_reducible first
    | assumption
    | intro _
    | refine keep_poolWatch ?_ ?_ ?_ ?_
    | refine keep_bumpBy ?_ ?_ ?_ ?_
    | refine keep_setReg ?_ ?_ ?_ ?_
    | refine keep_drainAll ?_ ?_
    | refine keep_setQueue ?_ ?_ ?_ ?_
    | refine keep_countSent ?_ ?_ ?_ ?_
    | refine keep_startFrame ?_ ?_ ?_ ?_
    | refine keep_bump ?_ ?_ ?_
    | refine keep_settleQueue ?_ ?_ ?_
    | refine keep_ite ?_ ?_
    | refine keep_snd ‹_› ?_
    | refine keep_snd2 ‹_› ?_
    | refine keep_snd3 ‹_› ?_
    | refine keep_fst ‹_› ?_
    | split
    | dsimp only
    | exact keep_fold ‹_›
    | refine keep_fold ?_
    | refine keep_mk ?_

theorem keep_segmentSend (t : Nat) (b : Nat) (s : State) (h2 : Keeps z s) : Keeps z (segmentSend t b s) := by
  unfold segmentSend
  repeat' with_reducible first
    | assumption
    | intro _
    | refine keep_sendSegment ?_ ?_ ?_ ?_ ?_
    | refine keep_newLcw ?_ ?_ ?_
    | refine keep_ite ?_ ?_
    | refine keep_snd ‹_› ?_
    | refine keep_snd2 ‹_› ?_
    | refine keep_snd3 ‹_› ?_
    | refine keep_fst ‹_› ?_
    | split
    | dsimp only
    | exact keep_fold ‹_›
    | refine keep_fold ?_
    | refine keep_mk ?_

theorem keep_planEpoch (s : State) (n : Nat) (h0 : Keeps z s) : Keeps z (planEpoch s n) := by
  unfold planEpoch
  repeat' with_reducible first
    | assumption
    | intro _
    | refine keep_onPln ?_ ?_ ?_
    | refine keep_grantAdd ?_ ?_ ?_
    | refine keep_ite ?_ ?_

theorem keep_scanFlags (s : State) (isOpen : Bool) (clamp : Bool) (ref : Bool) (h0 : Keeps z s) :
    Keeps z (scanFlags s isOpen clamp ref) := by
  unfold scanFlags
  repeat' with_reducible first
    | assumption
    | intro _
    | refine keep_onHka ?_ ?_ ?_

theorem keep_hkaConversionEnd (code : Int) (clamp : Bool) (s : State) (h2 : Keeps z s) :
    Keeps z (hkaConversionEnd code clamp s) := by
  unfold hkaConversionEnd
  repeat' with_reducible first
    | assumption
    | intro _
    | refine keep_scanSample ?_ ?_ ?_ ?_ ?_
    | refine keep_rawFlags ?_ ?_ ?_ ?_ ?_
    | refine keep_onHka ?_ ?_ ?_
    | refine keep_urgentResult ?_ ?_ ?_ ?_ ?_ ?_ ?_
    | refine keep_scanFlags ?_ ?_ ?_ ?_ ?_
    | refine keep_hkaNext ?_ ?_
    | refine keep_at' ?_ ?_ ?_
    | refine keep_ite ?_ ?_
    | refine keep_getD ?_ ?_
    | refine keep_snd ‹_› ?_
    | refine keep_snd2 ‹_› ?_
    | refine keep_snd3 ‹_› ?_
    | refine keep_fst ‹_› ?_
    | split

theorem keep_setJob (s : State) (j : CalJob) (h0 : Keeps z s) : Keeps z (setJob s j) := by
  unfold setJob
  repeat' with_reducible first
    | assumption
    | intro _
    | refine keep_onCal ?_ ?_ ?_
    | refine keep_wr ?_ ?_ ?_ ?_

theorem keep_openSpinTick (s : State) (h0 : Keeps z s) : Keeps z (openSpinTick s) := by
  unfold openSpinTick
  repeat' with_reducible first
    | assumption
    | intro _
    | refine keep_onMot ?_ ?_ ?_
    | refine keep_ite ?_ ?_

theorem keep_reseed (s : State) (k : Nat) (h0 : Keeps z s) : Keeps z (reseed s k) := by
  unfold reseed
  repeat' with_reducible first
    | assumption
    | intro _
    | refine keep_setRun ?_ ?_ ?_ ?_
    | refine keep_foldl ?_ ?_

theorem keep_reseedFrame (s : State) (k : Nat) (h0 : Keeps z s) : Keeps z (reseedFrame s k) := by
  unfold reseedFrame
  repeat' with_reducible first
    | assumption
    | intro _
    | refine keep_reseed ?_ ?_ ?_
    | dsimp only
    | exact keep_fold ‹_›
    | refine keep_fold ?_
    | refine keep_mk ?_

theorem keep_numberFrame (tb : Nat) (s : State) (h1 : Keeps z s) : Keeps z (numberFrame tb s) := by
  unfold numberFrame
  repeat' with_reducible first
    | assumption
    | intro _
    | refine keep_setWide ?_ ?_ ?_ ?_
    | refine keep_setReg ?_ ?_ ?_ ?_
    | refine keep_onAcq ?_ ?_ ?_
    | refine keep_raise ?_ ?_ ?_
    | refine keep_bump ?_ ?_ ?_
    | refine keep_ite ?_ ?_
    | refine keep_snd ‹_› ?_
    | refine keep_snd2 ‹_› ?_
    | refine keep_snd3 ‹_› ?_
    | refine keep_fst ‹_› ?_
    | split

theorem keep_heartbeatSend (t : Nat) (s : State) (h1 : Keeps z s) : Keeps z (heartbeatSend t s) := by
  unfold heartbeatSend
  repeat' with_reducible first
    | assumption
    | intro _
    | refine keep_pairWatch ?_ ?_
    | refine keep_bumpBy ?_ ?_ ?_ ?_
    | refine keep_heartbeatPut ?_ ?_
    | refine keep_onPair ?_ ?_ ?_
    | refine keep_pairSend ?_ ?_ ?_ ?_ ?_
    | refine keep_ite ?_ ?_

theorem keep_fifoPush (s : State) (c : Nat) (x : Chan) (a3 : Hit) (h0 : Keeps z s) : Keeps z (fifoPush s c x a3) := by
  unfold fifoPush
  repeat' with_reducible first
    | assumption
    | intro _
    | refine keep_setWide ?_ ?_ ?_ ?_
    | refine keep_wr ?_ ?_ ?_ ?_
    | refine keep_setChan ?_ ?_ ?_ ?_
    | refine keep_wrBit ?_ ?_ ?_ ?_ ?_
    | refine keep_raise ?_ ?_ ?_
    | refine keep_bump ?_ ?_ ?_
    | refine keep_monSample ?_ ?_ ?_ ?_ ?_
    | refine keep_ite ?_ ?_

theorem keep_hitFifoEntry (c : Nat) (s : State) (h1 : Keeps z s) : Keeps z (hitFifoEntry c s) := by
  unfold hitFifoEntry
  repeat' with_reducible first
    | assumption
    | intro _
    | refine keep_fifoPush ?_ ?_ ?_ ?_ ?_
    | refine keep_ite ?_ ?_
    | refine keep_snd ‹_› ?_
    | refine keep_snd2 ‹_› ?_
    | refine keep_snd3 ‹_› ?_
    | refine keep_fst ‹_› ?_
    | split
    | dsimp only

theorem keep_permitIdle (s : State) (h0 : Keeps z s) : Keeps z (permitIdle s) := by
  unfold permitIdle
  repeat' with_reducible first
    | assumption
    | intro _
    | refine keep_refPermit ?_ ?_
    | refine keep_ite ?_ ?_

theorem keep_execClkPllLock (t : Nat) (i : Nat) (s : State) (h2 : Keeps z s) :
    ∀ u, (execClkPllLock t i s) = .next u → Keeps z u := by
  intro u e
  unfold execClkPllLock at e
  refine keep_next ?_ e
  clear e
  repeat' with_reducible first
    | assumption
    | intro _
    | refine keep_permitIdle ?_ ?_
    | refine keep_wrBit ?_ ?_ ?_ ?_ ?_
    | refine keep_at' ?_ ?_ ?_
    | refine keep_ite ?_ ?_

theorem keep_planSurplus (s : State) (h0 : Keeps z s) : Keeps z (planSurplus s) := by
  unfold planSurplus
  repeat' with_reducible first
    | assumption
    | intro _
    | refine keep_planDrop ?_ ?_ ?_
    | refine keep_onPln ?_ ?_ ?_
    | refine keep_release ?_ ?_ ?_ ?_
    | refine keep_ite ?_ ?_

theorem keep_planChoose (s : State) (h0 : Keeps z s) : Keeps z (planChoose s) := by
  unfold planChoose
  repeat' with_reducible first
    | assumption
    | intro _
    | refine keep_onPln ?_ ?_ ?_
    | refine keep_ite ?_ ?_

theorem keep_claimBeat (s : State) (h0 : Keeps z s) : Keeps z (claimBeat s) := by
  unfold claimBeat
  repeat' with_reducible first
    | assumption
    | intro _
    | refine keep_onPln ?_ ?_ ?_
    | refine keep_planSettle ?_ ?_
    | refine keep_planChoose ?_ ?_
    | refine keep_planSurplus ?_ ?_
    | refine keep_ite ?_ ?_

theorem keep_ltrigEdge (t : Nat) (g : Nat) (s : State) (h2 : Keeps z s) : Keeps z (ltrigEdge t g s) := by
  unfold ltrigEdge
  repeat' with_reducible first
    | assumption
    | intro _
    | refine keep_issueEdge ?_ ?_ ?_
    | refine keep_withholdShot ?_ ?_ ?_ ?_ ?_ ?_
    | refine keep_setShot ?_ ?_ ?_
    | refine keep_ite ?_ ?_
    | refine keep_snd ‹_› ?_
    | refine keep_snd2 ‹_› ?_
    | refine keep_snd3 ‹_› ?_
    | refine keep_fst ‹_› ?_
    | split

theorem keep_vcalDone (s : State) (j : CalJob) (h0 : Keeps z s) : Keeps z (vcalDone s j) := by
  unfold vcalDone
  repeat' with_reducible first
    | assumption
    | intro _
    | refine keep_setReg ?_ ?_ ?_ ?_
    | refine keep_jobEnd ?_ ?_ ?_

theorem keep_execInspSelWrite (t : Nat) (r : Requester) (d : Nat) (s : State) (h3 : Keeps z s) :
    ∀ u, (execInspSelWrite t r d s) = .next u → Keeps z u := by
  intro u e
  unfold execInspSelWrite at e
  refine keep_next ?_ e
  clear e
  repeat' with_reducible first
    | assumption
    | intro _
    | refine keep_accessW ?_ ?_ ?_ ?_ ?_ ?_

theorem keep_setClosing (s : State) (n : Nat) (x : Closing) (h0 : Keeps z s) : Keeps z (setClosing s n x) := by
  unfold setClosing
  repeat' with_reducible first
    | assumption
    | intro _
    | refine keep_setEngine ?_ ?_ ?_ ?_

theorem keep_extract (s : State) (x : Closing) (zooms : List Ctx) (c : Ctx) (h0 : Keeps z s) : Keeps z (extract s x zooms c).2 := by
  unfold extract
  repeat' with_reducible first
    | assumption
    | intro _
    | refine keep_candsOf ?_ ?_ ?_ ?_ ?_ ?_
    | refine keep_raise ?_ ?_ ?_
    | refine keep_bgOf ?_ ?_ ?_ ?_
    | refine keep_bump ?_ ?_ ?_
    | refine keep_ite ?_ ?_

theorem keep_p4Drop (s : State) (p : PixelId) (h0 : Keeps z s) : Keeps z (p4Drop s p) := by
  unfold p4Drop
  repeat' with_reducible first
    | assumption
    | intro _
    | refine keep_onFrame ?_ ?_ ?_ ?_
    | refine keep_onAcq ?_ ?_ ?_
    | refine keep_onSeq ?_ ?_ ?_ ?_
    | refine keep_raise ?_ ?_ ?_
    | refine keep_bump ?_ ?_ ?_
    | refine keep_foldl ?_ ?_
    | refine keep_ite ?_ ?_
    | refine keep_snd ‹_› ?_
    | refine keep_snd2 ‹_› ?_
    | refine keep_snd3 ‹_› ?_
    | refine keep_fst ‹_› ?_
    | split
    | dsimp only

theorem keep_afterClose (s : State) (n : Nat) (k : Nat) (p : Pixel) (c : Ctx) (h0 : Keeps z s) :
    Keeps z (afterClose s n k p c) := by
  unfold afterClose
  repeat' with_reducible first
    | assumption
    | intro _
    | refine keep_freeSlot ?_ ?_ ?_ ?_
    | refine keep_setEngine ?_ ?_ ?_ ?_
    | refine keep_p4Drop ?_ ?_ ?_
    | refine keep_ite ?_ ?_

theorem keep_closeOne (s : State) (n : Nat) (k : Nat) (x : Closing) (rest : List Nat) (h0 : Keeps z s) :
    Keeps z (closeOne s n k x rest) := by
  unfold closeOne
  repeat' with_reducible first
    | assumption
    | intro _
    | refine keep_afterClose ?_ ?_ ?_ ?_ ?_ ?_
    | refine keep_setClosing ?_ ?_ ?_ ?_
    | refine keep_extract ?_ ?_ ?_ ?_ ?_
    | refine keep_raise ?_ ?_ ?_
    | refine keep_bump ?_ ?_ ?_
    | refine keep_ite ?_ ?_
    | refine keep_snd ‹_› ?_
    | refine keep_snd2 ‹_› ?_
    | refine keep_snd3 ‹_› ?_
    | refine keep_fst ‹_› ?_
    | split

theorem keep_slotApply (s : State) (k : Nat) (h0 : Keeps z s) : Keeps z (slotApply s k) := by
  unfold slotApply
  repeat' with_reducible first
    | assumption
    | intro _
    | refine keep_setReg ?_ ?_ ?_ ?_
    | refine keep_ite ?_ ?_

theorem keep_laneRetrainAttempt (t : Nat) (l : Nat) (s : State) (h2 : Keeps z s) : Keeps z (laneRetrainAttempt t l s) := by
  unfold laneRetrainAttempt
  repeat' with_reducible first
    | assumption
    | intro _
    | refine keep_setLane ?_ ?_ ?_ ?_
    | refine keep_onLane ?_ ?_ ?_ ?_
    | refine keep_at' ?_ ?_ ?_
    | refine keep_ite ?_ ?_
    | refine keep_snd ‹_› ?_
    | refine keep_snd2 ‹_› ?_
    | refine keep_snd3 ‹_› ?_
    | refine keep_fst ‹_› ?_
    | split

theorem keep_alignEnd (s : State) (h0 : Keeps z s) : Keeps z (alignEnd s) := by
  unfold alignEnd
  repeat' with_reducible first
    | assumption
    | intro _
    | refine keep_startFailed ?_ ?_
    | refine keep_setMode ?_ ?_ ?_
    | refine keep_ite ?_ ?_
    | refine keep_snd ‹_› ?_
    | refine keep_snd2 ‹_› ?_
    | refine keep_snd3 ‹_› ?_
    | refine keep_fst ‹_› ?_
    | split

theorem keep_execAlignEnd (t : Nat) (s : State) (h1 : Keeps z s) : ∀ u, (execAlignEnd t s) = .next u → Keeps z u := by
  intro u e
  unfold execAlignEnd at e
  refine keep_next ?_ e
  clear e
  repeat' with_reducible first
    | assumption
    | intro _
    | refine keep_alignEnd ?_ ?_
    | refine keep_at' ?_ ?_ ?_

theorem keep_retentionHoldoffEnd (s : State) (h0 : Keeps z s) : Keeps z (retentionHoldoffEnd s) := by
  unfold retentionHoldoffEnd
  repeat' with_reducible first
    | assumption
    | intro _
    | refine keep_wr ?_ ?_ ?_ ?_
    | refine keep_autoRestart ?_ ?_
    | refine keep_ite ?_ ?_

theorem keep_execRetentionHoldoffEnd (t : Nat) (s : State) (h1 : Keeps z s) :
    ∀ u, (execRetentionHoldoffEnd t s) = .next u → Keeps z u := by
  intro u e
  unfold execRetentionHoldoffEnd at e
  refine keep_next ?_ e
  clear e
  repeat' with_reducible first
    | assumption
    | intro _
    | refine keep_retentionHoldoffEnd ?_ ?_
    | refine keep_at' ?_ ?_ ?_

theorem keep_execStartEdge (t : Nat) (m : Nat) (s : State) (h2 : Keeps z s) : ∀ u, (execStartEdge t m s) = .next u → Keeps z u := by
  intro u e
  unfold execStartEdge at e
  refine keep_next ?_ e
  clear e
  repeat' with_reducible first
    | assumption
    | intro _
    | refine keep_startEdge ?_ ?_ ?_ ?_
    | refine keep_at' ?_ ?_ ?_

theorem keep_proofFail (s : State) (cause : Nat) (q : Torque) (h0 : Keeps z s) : Keeps z (proofFail s cause q) := by
  unfold proofFail
  repeat' with_reducible first
    | assumption
    | intro _
    | refine keep_safLatch ?_ ?_ ?_ ?_ ?_ ?_
    | refine keep_raise ?_ ?_ ?_
    | refine keep_safRefresh ?_ ?_

theorem keep_tsSetReceived (l : Nat) (sym : List Nat) (codeErr : Bool) (s : State) (h3 : Keeps z s) :
    Keeps z (tsSetReceived l sym codeErr s) := by
  unfold tsSetReceived
  repeat' with_reducible first
    | assumption
    | intro _
    | refine keep_setReg ?_ ?_ ?_ ?_
    | refine keep_newLcw ?_ ?_ ?_
    | refine keep_enterRecovery ?_ ?_ ?_
    | refine keep_applyEq ?_ ?_ ?_
    | refine keep_onLane ?_ ?_ ?_ ?_
    | refine keep_ite ?_ ?_
    | refine keep_snd ‹_› ?_
    | refine keep_snd2 ‹_› ?_
    | refine keep_snd3 ‹_› ?_
    | refine keep_fst ‹_› ?_
    | split
    | dsimp only

theorem keep_arbWaitExpire (t : Nat) (s : State) (h1 : Keeps z s) : Keeps z (arbWaitExpire t s) := by
  unfold arbWaitExpire
  repeat' with_reducible first
    | assumption
    | intro _
    | refine keep_pairWatch ?_ ?_
    | refine keep_setRole ?_ ?_ ?_
    | refine keep_wr ?_ ?_ ?_ ?_
    | refine keep_ite ?_ ?_

theorem keep_execPowerReqWrite (t : Nat) (r : Requester) (b : Nat) (d : Nat) (s : State) (h4 : Keeps z s) :
    ∀ u, (execPowerReqWrite t r b d s) = .next u → Keeps z u := by
  intro u e
  unfold execPowerReqWrite at e
  refine keep_next ?_ e
  clear e
  repeat' with_reducible first
    | assumption
    | intro _
    | refine keep_accessW ?_ ?_ ?_ ?_ ?_ ?_

theorem keep_ppsIn (t : Nat) (s : State) (h1 : Keeps z s) : Keeps z (ppsIn t s) := by
  unfold ppsIn
  repeat' with_reducible first
    | assumption
    | intro _
    | refine keep_setWide ?_ ?_ ?_ ?_
    | refine keep_setReg ?_ ?_ ?_ ?_
    | refine keep_wr ?_ ?_ ?_ ?_
    | refine keep_raise ?_ ?_ ?_
    | refine keep_ite ?_ ?_

theorem keep_execGenlockEdge (t : Nat) (falling : Bool) (s : State) (h2 : Keeps z s) :
    ∀ u, (execGenlockEdge t falling s) = .next u → Keeps z u := by
  intro u e
  unfold execGenlockEdge at e
  refine keep_next ?_ e
  clear e
  repeat' with_reducible first
    | assumption
    | intro _
    | refine keep_genlockEdge ?_ ?_ ?_ ?_
    | refine keep_at' ?_ ?_ ?_

theorem keep_tempStale (t : Nat) (s : State) (h1 : Keeps z s) : Keeps z (tempStale t s) := by
  unfold tempStale
  repeat' with_reducible first
    | assumption
    | intro _
    | refine keep_retHold ?_ ?_
    | refine keep_ite ?_ ?_

theorem keep_watchFree (s : State) (n : Nat) (before : Nat) (h0 : Keeps z s) : Keeps z (watchFree s n before) := by
  unfold watchFree
  repeat' with_reducible first
    | assumption
    | intro _
    | refine keep_wr ?_ ?_ ?_ ?_
    | refine keep_raise ?_ ?_ ?_
    | refine keep_ite ?_ ?_

theorem keep_planReady (s : State) (h0 : Keeps z s) : Keeps z (planReady s) := by
  unfold planReady
  repeat' with_reducible first
    | assumption
    | intro _
    | refine keep_planStart ?_ ?_
    | refine keep_ite ?_ ?_

theorem keep_execChThreshWrite (t : Nat) (r : Requester) (c : Nat) (d : Nat) (s : State) (h4 : Keeps z s) :
    ∀ u, (execChThreshWrite t r c d s) = .next u → Keeps z u := by
  intro u e
  unfold execChThreshWrite at e
  refine keep_next ?_ e
  clear e
  repeat' with_reducible first
    | assumption
    | intro _
    | refine keep_accessW ?_ ?_ ?_ ?_ ?_ ?_

theorem keep_execCfgClose (t : Nat) (r : Requester) (s : State) (h2 : Keeps z s) :
    ∀ u, (execCfgClose t r s) = .next u → Keeps z u := by
  intro u e
  unfold execCfgClose at e
  refine keep_next ?_ e
  clear e
  repeat' with_reducible first
    | assumption
    | intro _
    | refine keep_accessW ?_ ?_ ?_ ?_ ?_ ?_

theorem keep_planTrack (s : State) (h0 : Keeps z s) : Keeps z (planTrack s) := by
  unfold planTrack
  repeat' with_reducible first
    | assumption
    | intro _
    | refine keep_onPln ?_ ?_ ?_
    | refine keep_wr ?_ ?_ ?_ ?_
    | refine keep_release ?_ ?_ ?_ ?_
    | refine keep_grantWatch ?_ ?_ ?_ ?_
    | refine keep_ite ?_ ?_

theorem keep_takeoverNote (s : State) (cause : Nat) (h0 : Keeps z s) : Keeps z (takeoverNote s cause) := by
  unfold takeoverNote
  repeat' with_reducible first
    | assumption
    | intro _
    | refine keep_wr ?_ ?_ ?_ ?_
    | refine keep_raise ?_ ?_ ?_
    | refine keep_bump ?_ ?_ ?_

theorem keep_taken (t : Nat) (cause : Nat) (frame : Nat) (s : State) (h3 : Keeps z s) : Keeps z (taken t cause frame s) := by
  unfold taken
  repeat' with_reducible first
    | assumption
    | intro _
    | refine keep_setWide ?_ ?_ ?_ ?_
    | refine keep_raiseAt ?_ ?_ ?_ ?_
    | refine keep_takeoverNote ?_ ?_ ?_
    | refine keep_wr ?_ ?_ ?_ ?_
    | refine keep_planTrack ?_ ?_
    | refine keep_raise ?_ ?_ ?_
    | refine keep_onPair ?_ ?_ ?_
    | refine keep_ite ?_ ?_

theorem keep_budgetOut (s : State) (h0 : Keeps z s) : Keeps z (budgetOut s) := by
  unfold budgetOut
  repeat' with_reducible first
    | assumption
    | intro _
    | refine keep_immediateStop ?_ ?_
    | refine keep_raise ?_ ?_ ?_
    | refine keep_bump ?_ ?_ ?_
    | refine keep_ite ?_ ?_

theorem keep_regCpl (b : Nat) (w0 : Word) (wr' : Bool) (err : Nat) (i : Nat) (m1 : Nat) (data : List Word) (s : State) (h7 : Keeps z s) :
    Keeps z (regCpl b w0 wr' err i m1 data s) := by
  unfold regCpl
  repeat' with_reducible first
    | assumption
    | intro _
    | refine keep_queueFrame ?_ ?_ ?_ ?_
    | refine keep_ite ?_ ?_

theorem keep_regWrites (r : Requester) (a : Nat) (i : Nat) (err : Option (Nat × Nat)) (l : List Nat) (s : State) (h5 : Keeps z s) :
    Keeps z (regWrites r a i err l s).2 := by
  induction l generalizing i err s with
  | nil => exact h5
  | cons d l ih => unfold regWrites; exact ih _ _ _ (keep_writeNow _ _ _ _ h5)

theorem keep_lateReset (b : Nat) (s : State) (h1 : Keeps z s) : Keeps z (lateReset b s) := by
  unfold lateReset
  repeat' with_reducible first
    | assumption
    | intro _
    | refine keep_setReg ?_ ?_ ?_ ?_
    | refine keep_softDo ?_ ?_ ?_
    | refine keep_onBundle ?_ ?_ ?_ ?_
    | refine keep_ite ?_ ?_

theorem keep_execRegWr (t : Nat) (b : Nat) (len : Nat) (body : List Nat) (s : State) (h4 : Keeps z s) :
    ∀ u, (execRegWr t b len body s) = .next u → Keeps z u := by
  intro u e
  unfold execRegWr at e
  refine keep_next ?_ e
  clear e
  repeat' with_reducible first
    | assumption
    | intro _
    | refine keep_drain ?_ ?_ ?_
    | refine keep_regCpl ?_ ?_ ?_ ?_ ?_ ?_ ?_ ?_ ?_
    | refine keep_regWrites ?_ ?_ ?_ ?_ ?_ ?_ ?_
    | refine keep_at' ?_ ?_ ?_
    | refine keep_lateReset ?_ ?_ ?_
    | refine keep_ite ?_ ?_
    | refine keep_getD ?_ ?_
    | refine keep_snd ‹_› ?_
    | refine keep_snd2 ‹_› ?_
    | refine keep_snd3 ‹_› ?_
    | refine keep_fst ‹_› ?_
    | split

theorem keep_idxFallingEdge (s : State) (h0 : Keeps z s) : Keeps z (idxFallingEdge s) := by
  unfold idxFallingEdge
  repeat' with_reducible first
    | assumption
    | intro _
    | refine keep_onMot ?_ ?_ ?_
    | refine keep_markWide ?_ ?_
    | refine keep_ite ?_ ?_
    | refine keep_snd ‹_› ?_
    | refine keep_snd2 ‹_› ?_
    | refine keep_snd3 ‹_› ?_
    | refine keep_fst ‹_› ?_
    | split

theorem keep_execIdxFallingEdge (t : Nat) (s : State) (h1 : Keeps z s) : ∀ u, (execIdxFallingEdge t s) = .next u → Keeps z u := by
  intro u e
  unfold execIdxFallingEdge at e
  refine keep_next ?_ e
  clear e
  repeat' with_reducible first
    | assumption
    | intro _
    | refine keep_idxFallingEdge ?_ ?_
    | refine keep_at' ?_ ?_ ?_

theorem keep_shotMarker (c : Nat) (s : State) (h1 : Keeps z s) : Keeps z (shotMarker c s) := by
  unfold shotMarker
  repeat' with_reducible first
    | assumption
    | intro _
    | refine keep_addShot ?_ ?_ ?_ ?_ ?_ ?_ ?_
    | refine keep_setPath ?_ ?_ ?_ ?_
    | refine keep_setPixel ?_ ?_ ?_ ?_
    | refine keep_ite ?_ ?_
    | refine keep_snd ‹_› ?_
    | refine keep_snd2 ‹_› ?_
    | refine keep_snd3 ‹_› ?_
    | refine keep_fst ‹_› ?_
    | split

theorem keep_toutTake (s : State) (h0 : Keeps z s) : Keeps z (toutTake s) := by
  unfold toutTake
  repeat' with_reducible first
    | assumption
    | intro _
    | refine keep_toutTakeOne ?_ ?_ ?_
    | refine keep_foldl ?_ ?_

theorem keep_boundaryRun (s : State) (partner : Bool) (h0 : Keeps z s) : Keeps z (boundaryRun s partner) := by
  unfold boundaryRun
  repeat' with_reducible first
    | assumption
    | intro _
    | refine keep_leaveRun ?_ ?_
    | refine keep_enterRun ?_ ?_
    | refine keep_ite ?_ ?_

theorem keep_planTakeUp (s : State) (h0 : Keeps z s) : Keeps z (planTakeUp s) := by
  unfold planTakeUp
  repeat' with_reducible first
    | assumption
    | intro _
    | refine keep_onPln ?_ ?_ ?_
    | refine keep_wr ?_ ?_ ?_ ?_
    | refine keep_grantWatch ?_ ?_ ?_ ?_
    | refine keep_ite ?_ ?_

theorem keep_takeover (s : State) (cause : Nat) (h0 : Keeps z s) : Keeps z (takeover s cause) := by
  unfold takeover
  repeat' with_reducible first
    | assumption
    | intro _
    | refine keep_setWide ?_ ?_ ?_ ?_
    | refine keep_raiseAt ?_ ?_ ?_ ?_
    | refine keep_headsAgain ?_ ?_ ?_
    | refine keep_onAcq ?_ ?_ ?_
    | refine keep_takeoverNote ?_ ?_ ?_
    | refine keep_wr ?_ ?_ ?_ ?_
    | refine keep_planTakeUp ?_ ?_
    | refine keep_raise ?_ ?_ ?_
    | refine keep_onPair ?_ ?_ ?_
    | refine keep_pairSend ?_ ?_ ?_ ?_ ?_
    | refine keep_ite ?_ ?_
    | refine keep_getD ?_ ?_
    | refine keep_snd ‹_› ?_
    | refine keep_snd2 ‹_› ?_
    | refine keep_snd3 ‹_› ?_
    | refine keep_fst ‹_› ?_
    | split
    | dsimp only

end Sys2Proof.Machine
end

