-- ==== Sys2Proof/Laws/KeepE.lean ====
section
/-!
SUPPORT. What each operation keeps, part 5: the canonical form of the memories, and legal fuses.
-/

namespace Sys2Proof.Machine

set_option Elab.async false

variable {z : State}

theorem keep_pairBoundary (s : State) (h0 : Keeps z s) : Keeps z (pairBoundary s) := by
  unfold pairBoundary
  repeat' with_reducible first
    | assumption
    | intro _
    | refine keep_wr ?_ ?_ ?_ ?_
    | refine keep_takeover ?_ ?_ ?_
    | refine keep_ite ?_ ?_

theorem keep_retentionMode (s : State) (h0 : Keeps z s) : Keeps z (retentionMode s) := by
  unfold retentionMode
  repeat' with_reducible first
    | assumption
    | intro _
    | refine keep_onAcq ?_ ?_ ?_
    | refine keep_ringDiscard ?_ ?_
    | refine keep_wr ?_ ?_ ?_ ?_
    | refine keep_seqStop ?_ ?_
    | refine keep_autoRestart ?_ ?_
    | refine keep_ite ?_ ?_

theorem keep_rearmNow (s : State) (h0 : Keeps z s) : Keeps z (rearmNow s) := by
  unfold rearmNow
  repeat' with_reducible first
    | assumption
    | intro _
    | refine keep_onAcq ?_ ?_ ?_
    | refine keep_ringDiscard ?_ ?_
    | refine keep_wr ?_ ?_ ?_ ?_
    | refine keep_lmpEdge ?_ ?_ ?_ ?_
    | refine keep_ite ?_ ?_
    | split
    | dsimp only
    | exact keep_fold ‹_›
    | refine keep_fold ?_
    | refine keep_mk ?_

theorem keep_toutFrame (s : State) (tb : Nat) (next : Nat) (h0 : Keeps z s) : Keeps z (toutFrame s tb next) := by
  unfold toutFrame
  repeat' with_reducible first
    | assumption
    | intro _
    | refine keep_toutPlace ?_ ?_ ?_ ?_
    | refine keep_foldl ?_ ?_
    | refine keep_ite ?_ ?_
    | split
    | dsimp only
    | exact keep_fold ‹_›
    | refine keep_fold ?_
    | refine keep_mk ?_

theorem keep_frameTurn (tb : Nat) (s : State) (h1 : Keeps z s) : Keeps z (frameTurn tb s) := by
  unfold frameTurn
  repeat' with_reducible first
    | assumption
    | intro _
    | refine keep_monFrame ?_ ?_
    | refine keep_flushFrames ?_ ?_
    | refine keep_tduFrame ?_ ?_
    | refine keep_frameStart ?_ ?_ ?_
    | refine keep_reseedFrame ?_ ?_ ?_
    | refine keep_numberFrame ?_ ?_ ?_
    | refine keep_onAcq ?_ ?_ ?_
    | refine keep_rearmNow ?_ ?_
    | refine keep_wr ?_ ?_ ?_ ?_
    | refine keep_retentionMode ?_ ?_
    | refine keep_closeFrames ?_ ?_ ?_
    | refine keep_roundRequest ?_ ?_
    | refine keep_toutFrame ?_ ?_ ?_ ?_
    | refine keep_ite ?_ ?_

theorem keep_frameBoundary (t : Nat) (partner : Bool) (s : State) (h2 : Keeps z s) : Keeps z (frameBoundary t partner s) := by
  unfold frameBoundary
  repeat' with_reducible first
    | assumption
    | intro _
    | refine keep_calBoundary ?_ ?_ ?_
    | refine keep_onAcq ?_ ?_ ?_
    | refine keep_enableEffect ?_ ?_
    | refine keep_pairBoundary ?_ ?_
    | refine keep_frameTurn ?_ ?_ ?_
    | refine keep_boundaryRun ?_ ?_ ?_
    | refine keep_endSweeps ?_ ?_ ?_
    | refine keep_refPermit ?_ ?_
    | refine keep_planFrameBoundary ?_ ?_
    | refine keep_toutTake ?_ ?_
    | refine keep_ite ?_ ?_
    | refine keep_snd ‹_› ?_
    | refine keep_snd2 ‹_› ?_
    | refine keep_snd3 ‹_› ?_
    | refine keep_fst ‹_› ?_
    | split

theorem keep_execFrameBoundary (t : Nat) (partner : Bool) (s : State) (h2 : Keeps z s) :
    ∀ u, (execFrameBoundary t partner s) = .next u → Keeps z u := by
  intro u e
  unfold execFrameBoundary at e
  refine keep_next ?_ e
  clear e
  repeat' with_reducible first
    | assumption
    | intro _
    | refine keep_frameBoundary ?_ ?_ ?_ ?_
    | refine keep_at' ?_ ?_ ?_

theorem keep_refusedRecord (s : State) (p : Pixel) (sat : Bool) (takeover : Bool) (h0 : Keeps z s) :
    Keeps z (refusedRecord s p sat takeover).2 := by
  unfold refusedRecord
  repeat' with_reducible first
    | assumption
    | intro _
    | refine keep_bump ?_ ?_ ?_

theorem keep_motStandstill (s : State) (h0 : Keeps z s) : Keeps z (motStandstill s) := by
  unfold motStandstill
  repeat' with_reducible first
    | assumption
    | intro _
    | refine keep_onMot ?_ ?_ ?_
    | refine keep_wr ?_ ?_ ?_ ?_
    | refine keep_raise ?_ ?_ ?_
    | refine keep_setMode ?_ ?_ ?_

theorem keep_standstillEvent (s : State) (h0 : Keeps z s) : Keeps z (standstillEvent s) := by
  unfold standstillEvent
  repeat' with_reducible first
    | assumption
    | intro _
    | refine keep_motStandstill ?_ ?_
    | refine keep_ite ?_ ?_

theorem keep_execStandstill (t : Nat) (s : State) (h1 : Keeps z s) : ∀ u, (execStandstill t s) = .next u → Keeps z u := by
  intro u e
  unfold execStandstill at e
  refine keep_next ?_ e
  clear e
  repeat' with_reducible first
    | assumption
    | intro _
    | refine keep_standstillEvent ?_ ?_
    | refine keep_at' ?_ ?_ ?_

theorem keep_proofDone (s : State) (h0 : Keeps z s) : Keeps z (proofDone s) := by
  unfold proofDone
  repeat' with_reducible first
    | assumption
    | intro _
    | refine keep_wr ?_ ?_ ?_ ?_
    | refine keep_raise ?_ ?_ ?_
    | refine keep_safRefresh ?_ ?_
    | refine keep_ite ?_ ?_
    | split
    | dsimp only
    | exact keep_fold ‹_›
    | refine keep_fold ?_
    | refine keep_mk ?_

theorem keep_execBundleEnableWrite (t : Nat) (r : Requester) (b : Nat) (d : Nat) (s : State) (h4 : Keeps z s) :
    ∀ u, (execBundleEnableWrite t r b d s) = .next u → Keeps z u := by
  intro u e
  unfold execBundleEnableWrite at e
  refine keep_next ?_ e
  clear e
  repeat' with_reducible first
    | assumption
    | intro _
    | refine keep_accessW ?_ ?_ ?_ ?_ ?_ ?_

theorem keep_toutPulseEnd (t : Nat) (i : Nat) (s : State) (h2 : Keeps z s) : Keeps z (toutPulseEnd t i s) := by
  unfold toutPulseEnd
  repeat' with_reducible first
    | assumption
    | intro _
    | refine keep_ite ?_ ?_
    | split
    | dsimp only
    | exact keep_fold ‹_›
    | refine keep_fold ?_
    | refine keep_mk ?_

theorem keep_pairLatch (s : State) (detail : Fld) (h0 : Keeps z s) : Keeps z (pairLatch s detail) := by
  unfold pairLatch
  repeat' with_reducible first
    | assumption
    | intro _
    | refine keep_wr ?_ ?_ ?_ ?_
    | refine keep_safLatch ?_ ?_ ?_ ?_ ?_ ?_
    | refine keep_safRefresh ?_ ?_

theorem keep_hbLost (t : Nat) (s : State) (h1 : Keeps z s) : Keeps z (hbLost t s) := by
  unfold hbLost
  repeat' with_reducible first
    | assumption
    | intro _
    | refine keep_pairWatch ?_ ?_
    | refine keep_pairLatch ?_ ?_ ?_
    | refine keep_wr ?_ ?_ ?_ ?_
    | refine keep_raise ?_ ?_ ?_
    | refine keep_takeover ?_ ?_ ?_
    | refine keep_ite ?_ ?_
    | refine keep_snd ‹_› ?_
    | refine keep_snd2 ‹_› ?_
    | refine keep_snd3 ‹_› ?_
    | refine keep_fst ‹_› ?_
    | split

theorem keep_sdfClkReturn (s : State) (h0 : Keeps z s) : Keeps z (sdfClkReturn s) := by
  unfold sdfClkReturn
  repeat' with_reducible first
    | assumption
    | intro _
    | refine keep_sdfStartAll ?_ ?_
    | refine keep_wr ?_ ?_ ?_ ?_
    | refine keep_ite ?_ ?_

theorem keep_execSdmClkReturn (t : Nat) (s : State) (h1 : Keeps z s) : ∀ u, (execSdmClkReturn t s) = .next u → Keeps z u := by
  intro u e
  unfold execSdmClkReturn at e
  refine keep_next ?_ e
  clear e
  repeat' with_reducible first
    | assumption
    | intro _
    | refine keep_sdfClkReturn ?_ ?_
    | refine keep_at' ?_ ?_ ?_

theorem keep_rennetEnter (s : State) (a1 : HitTime) (h0 : Keeps z s) : Keeps z (rennetEnter s a1) := by
  unfold rennetEnter
  repeat' with_reducible first
    | assumption
    | intro _
    | refine keep_setRennet ?_ ?_ ?_ ?_
    | refine keep_pushHit ?_ ?_ ?_
    | refine keep_ite ?_ ?_

theorem keep_hitTimeFormed (c : Nat) (s : State) (h1 : Keeps z s) : Keeps z (hitTimeFormed c s) := by
  unfold hitTimeFormed
  repeat' with_reducible first
    | assumption
    | intro _
    | (refine keep_someP ‹_› ?_; refine keep_takeReady ?_ ?_ ?_)
    | refine keep_rennetEnter ?_ ?_ ?_
    | refine keep_snd ‹_› ?_
    | refine keep_snd2 ‹_› ?_
    | refine keep_snd3 ‹_› ?_
    | refine keep_fst ‹_› ?_
    | split

theorem keep_execHitTimeFormed (t : Nat) (c : Nat) (s : State) (h2 : Keeps z s) :
    ∀ u, (execHitTimeFormed t c s) = .next u → Keeps z u := by
  intro u e
  unfold execHitTimeFormed at e
  refine keep_next ?_ e
  clear e
  repeat' with_reducible first
    | assumption
    | intro _
    | refine keep_hitTimeFormed ?_ ?_ ?_
    | refine keep_at' ?_ ?_ ?_

theorem keep_execCalJobStart (t : Nat) (r : Requester) (d : Nat) (s : State) (h3 : Keeps z s) :
    ∀ u, (execCalJobStart t r d s) = .next u → Keeps z u := by
  intro u e
  unfold execCalJobStart at e
  refine keep_next ?_ e
  clear e
  repeat' with_reducible first
    | assumption
    | intro _
    | refine keep_accessW ?_ ?_ ?_ ?_ ?_ ?_

theorem keep_ppsOutPulse (t : Nat) (s : State) (h1 : Keeps z s) : Keeps z (ppsOutPulse t s) := by
  unfold ppsOutPulse
  repeat' with_reducible first
    | assumption
    | intro _
    | refine keep_ite ?_ ?_
    | split
    | dsimp only
    | exact keep_fold ‹_›
    | refine keep_fold ?_
    | refine keep_mk ?_

theorem keep_execPpsOutPulse (t : Nat) (s : State) (h1 : Keeps z s) : ∀ u, (execPpsOutPulse t s) = .next u → Keeps z u := by
  intro u e
  unfold execPpsOutPulse at e
  refine keep_next ?_ e
  clear e
  repeat' with_reducible first
    | assumption
    | intro _
    | refine keep_ppsOutPulse ?_ ?_ ?_
    | refine keep_at' ?_ ?_ ?_

theorem keep_tilePixel (num : Nat) (pos : Nat) (x : PixOut) (col : Nat) (s : State) (r : Nat) (h4 : Keeps z s) :
    Keeps z (tilePixel num pos x col s r) := by
  unfold tilePixel
  repeat' with_reducible first
    | assumption
    | intro _
    | refine keep_onFrame ?_ ?_ ?_ ?_
    | refine keep_cmpTile ?_ ?_ ?_ ?_ ?_ ?_ ?_
    | refine keep_ite ?_ ?_
    | refine keep_getD ?_ ?_
    | refine keep_snd ‹_› ?_
    | refine keep_snd2 ‹_› ?_
    | refine keep_snd3 ‹_› ?_
    | refine keep_fst ‹_› ?_
    | split

theorem keep_vidPixel (s : State) (frame : Nat) (row : Nat) (col : Nat) (p1 : Nat) (p2 : Nat) (h0 : Keeps z s) :
    Keeps z (vidPixel s frame row col p1 p2) := by
  unfold vidPixel
  split
  · dsimp only
    refine keep_ite h0 fun _ => keep_ite ?_ fun _ => keep_onBuf _ _ _ (keep_onBuf _ _ _ h0)
    exact keep_mk (keep_sram_pixel (keep_fold (keep_onBuf _ _ _ h0)))
  · exact h0

theorem keep_maskStop (s : State) (num : Nat) (h0 : Keeps z s) : Keeps z (maskStop s num) := by
  unfold maskStop
  repeat' with_reducible first
    | assumption
    | intro _
    | refine keep_onFrame ?_ ?_ ?_ ?_
    | refine keep_onAcq ?_ ?_ ?_
    | refine keep_wr ?_ ?_ ?_ ?_
    | refine keep_lmpEdge ?_ ?_ ?_ ?_
    | refine keep_raise ?_ ?_ ?_
    | refine keep_stopScheduling ?_ ?_
    | refine keep_seqStop ?_ ?_
    | refine keep_ite ?_ ?_
    | split
    | dsimp only
    | exact keep_fold ‹_›
    | refine keep_fold ?_
    | refine keep_mk ?_

theorem keep_maskViolation (s : State) (num : Nat) (pos : Nat) (h0 : Keeps z s) : Keeps z (maskViolation s num pos) := by
  unfold maskViolation
  repeat' with_reducible first
    | assumption
    | intro _
    | refine keep_setWide ?_ ?_ ?_ ?_
    | refine keep_onFrame ?_ ?_ ?_ ?_
    | refine keep_trigEvent ?_ ?_ ?_ ?_ ?_ ?_
    | refine keep_setReg ?_ ?_ ?_ ?_
    | refine keep_maskStop ?_ ?_ ?_
    | refine keep_raise ?_ ?_ ?_
    | refine keep_bump ?_ ?_ ?_
    | refine keep_ite ?_ ?_

theorem keep_maskPixel (num : Nat) (pos : Nat) (row : Nat) (col : Nat) (p1 : Nat) (s : State) (h5 : Keeps z s) :
    Keeps z (maskPixel num pos row col p1 s) := by
  unfold maskPixel
  repeat' with_reducible first
    | assumption
    | intro _
    | refine keep_onFrame ?_ ?_ ?_ ?_
    | refine keep_maskViolation ?_ ?_ ?_ ?_
    | refine keep_ite ?_ ?_
    | refine keep_snd ‹_› ?_
    | refine keep_snd2 ‹_› ?_
    | refine keep_snd3 ‹_› ?_
    | refine keep_fst ‹_› ?_
    | split

theorem keep_pixelOut (s : State) (x : Closing) (recs : List (List Word)) (h0 : Keeps z s) : Keeps z (pixelOut s x recs) := by
  unfold pixelOut
  repeat' with_reducible first
    | assumption
    | intro _
    | refine keep_flushFrames ?_ ?_
    | refine keep_onFrame ?_ ?_ ?_ ?_
    | refine keep_vidPixel ?_ ?_ ?_ ?_ ?_ ?_ ?_
    | refine keep_tilePixel ?_ ?_ ?_ ?_ ?_ ?_ ?_
    | refine keep_maskPixel ?_ ?_ ?_ ?_ ?_ ?_ ?_
    | refine keep_foldl ?_ ?_
    | refine keep_ite ?_ ?_
    | refine keep_snd ‹_› ?_
    | refine keep_snd2 ‹_› ?_
    | refine keep_snd3 ‹_› ?_
    | refine keep_fst ‹_› ?_
    | split
    | dsimp only

theorem keep_execCalJobAbort (t : Nat) (r : Requester) (d : Nat) (s : State) (h3 : Keeps z s) :
    ∀ u, (execCalJobAbort t r d s) = .next u → Keeps z u := by
  intro u e
  unfold execCalJobAbort at e
  refine keep_next ?_ e
  clear e
  repeat' with_reducible first
    | assumption
    | intro _
    | refine keep_accessW ?_ ?_ ?_ ?_ ?_ ?_

theorem keep_execEvtRawClear (t : Nat) (r : Requester) (p : Nat) (d : Nat) (s : State) (h4 : Keeps z s) :
    ∀ u, (execEvtRawClear t r p d s) = .next u → Keeps z u := by
  intro u e
  unfold execEvtRawClear at e
  refine keep_next ?_ e
  clear e
  repeat' with_reducible first
    | assumption
    | intro _
    | refine keep_accessW ?_ ?_ ?_ ?_ ?_ ?_

theorem keep_execRetrain (t : Nat) (r : Requester) (b : Nat) (d : Nat) (s : State) (h4 : Keeps z s) :
    ∀ u, (execRetrain t r b d s) = .next u → Keeps z u := by
  intro u e
  unfold execRetrain at e
  refine keep_next ?_ e
  clear e
  repeat' with_reducible first
    | assumption
    | intro _
    | refine keep_accessW ?_ ?_ ?_ ?_ ?_ ?_

theorem keep_fcNoSignal (t : Nat) (k : Nat) (s : State) (h2 : Keeps z s) : Keeps z (fcNoSignal t k s) := by
  unfold fcNoSignal
  repeat' with_reducible first
    | assumption
    | intro _
    | refine keep_raiseAt ?_ ?_ ?_ ?_
    | refine keep_wr ?_ ?_ ?_ ?_
    | refine keep_setFc ?_ ?_ ?_ ?_
    | refine keep_ite ?_ ?_

theorem keep_execNoSignal (t : Nat) (k : Nat) (s : State) (h2 : Keeps z s) : ∀ u, (execNoSignal t k s) = .next u → Keeps z u := by
  intro u e
  unfold execNoSignal at e
  refine keep_next ?_ e
  clear e
  repeat' with_reducible first
    | assumption
    | intro _
    | refine keep_fcNoSignal ?_ ?_ ?_ ?_
    | refine keep_at' ?_ ?_ ?_

theorem keep_execSdfCfgWrite (t : Nat) (r : Requester) (d : Nat) (s : State) (h3 : Keeps z s) :
    ∀ u, (execSdfCfgWrite t r d s) = .next u → Keeps z u := by
  intro u e
  unfold execSdfCfgWrite at e
  refine keep_next ?_ e
  clear e
  repeat' with_reducible first
    | assumption
    | intro _
    | refine keep_accessW ?_ ?_ ?_ ?_ ?_ ?_

theorem keep_scaleDone (s : State) (j : CalJob) (h0 : Keeps z s) : Keeps z (scaleDone s j) := by
  unfold scaleDone
  repeat' with_reducible first
    | assumption
    | intro _
    | refine keep_setReg ?_ ?_ ?_ ?_
    | refine keep_jobFail ?_ ?_ ?_
    | refine keep_jobEnd ?_ ?_ ?_
    | refine keep_foldl ?_ ?_
    | refine keep_ite ?_ ?_

theorem keep_watchBacklog (s : State) (n : Nat) (h0 : Keeps z s) : Keeps z (watchBacklog s n) := by
  unfold watchBacklog
  repeat' with_reducible first
    | assumption
    | intro _
    | refine keep_wr ?_ ?_ ?_ ?_
    | refine keep_ite ?_ ?_

theorem keep_boundaryMarker (c : Nat) (s : State) (h1 : Keeps z s) : Keeps z (boundaryMarker c s) := by
  unfold boundaryMarker
  repeat' with_reducible first
    | assumption
    | intro _
    | refine keep_setPath ?_ ?_ ?_ ?_
    | refine keep_setPixel ?_ ?_ ?_ ?_
    | refine keep_watchBacklog ?_ ?_ ?_
    | refine keep_ite ?_ ?_
    | refine keep_snd ‹_› ?_
    | refine keep_snd2 ‹_› ?_
    | refine keep_snd3 ‹_› ?_
    | refine keep_fst ‹_› ?_
    | split

theorem keep_speedRamp (s : State) (y : Nat) (h0 : Keeps z s) : Keeps z (speedRamp s y) := by
  unfold speedRamp
  repeat' with_reducible first
    | assumption
    | intro _
    | refine keep_onMot ?_ ?_ ?_
    | refine keep_ite ?_ ?_

theorem keep_speedTick (s : State) (h0 : Keeps z s) : Keeps z (speedTick s) := by
  unfold speedTick
  repeat' with_reducible first
    | assumption
    | intro _
    | refine keep_onMot ?_ ?_ ?_
    | refine keep_hallRenew ?_ ?_
    | refine keep_safSpeedRefresh ?_ ?_
    | refine keep_wrB ?_ ?_ ?_ ?_
    | refine keep_slotTick ?_ ?_ ?_ ?_ ?_
    | refine keep_speedRamp ?_ ?_ ?_
    | refine keep_setMode ?_ ?_ ?_
    | refine keep_ite ?_ ?_
    | refine keep_snd ‹_› ?_
    | refine keep_snd2 ‹_› ?_
    | refine keep_snd3 ‹_› ?_
    | refine keep_fst ‹_› ?_
    | split

theorem keep_pixelEndMarker (c : Nat) (s : State) (h1 : Keeps z s) : Keeps z (pixelEndMarker c s) := by
  unfold pixelEndMarker
  repeat' with_reducible first
    | assumption
    | intro _
    | refine keep_setPath ?_ ?_ ?_ ?_
    | refine keep_setPixel ?_ ?_ ?_ ?_
    | refine keep_freeSlot ?_ ?_ ?_ ?_
    | refine keep_setEngine ?_ ?_ ?_ ?_
    | refine keep_sampleOpen ?_ ?_ ?_
    | refine keep_watchBacklog ?_ ?_ ?_
    | refine keep_foldl ?_ ?_
    | refine keep_ite ?_ ?_
    | refine keep_snd ‹_› ?_
    | refine keep_snd2 ‹_› ?_
    | refine keep_snd3 ‹_› ?_
    | refine keep_fst ‹_› ?_
    | split

theorem keep_peakEnv (s : State) (c : Nat) (m : Nat) (h0 : Keeps z s) : Keeps z (peakEnv s c m) := by
  unfold peakEnv
  repeat' with_reducible first
    | assumption
    | intro _
    | refine keep_detFlag ?_ ?_ ?_ ?_ ?_ ?_
    | refine keep_wr ?_ ?_ ?_ ?_

theorem keep_sdfReady (s : State) (h0 : Keeps z s) : Keeps z (sdfReady s) := by
  unfold sdfReady
  repeat' with_reducible first
    | assumption
    | intro _
    | refine keep_sdfStartAll ?_ ?_
    | refine keep_sdfClock ?_ ?_

theorem keep_execLaneRetrainAttempt (t : Nat) (l : Nat) (s : State) (h2 : Keeps z s) :
    ∀ u, (execLaneRetrainAttempt t l s) = .next u → Keeps z u := by
  intro u e
  unfold execLaneRetrainAttempt at e
  refine keep_next ?_ e
  clear e
  repeat' with_reducible first
    | assumption
    | intro _
    | refine keep_laneRetrainAttempt ?_ ?_ ?_ ?_
    | refine keep_at' ?_ ?_ ?_

theorem keep_trainFailRestart (t : Nat) (b : Nat) (s : State) (h2 : Keeps z s) : Keeps z (trainFailRestart t b s) := by
  unfold trainFailRestart
  repeat' with_reducible first
    | assumption
    | intro _
    | refine keep_enterDetect ?_ ?_ ?_ ?_
    | refine keep_ite ?_ ?_

theorem keep_l1ExitDone (t : Nat) (b : Nat) (s : State) (h2 : Keeps z s) : Keeps z (l1ExitDone t b s) := by
  unfold l1ExitDone
  repeat' with_reducible first
    | assumption
    | intro _
    | refine keep_wr ?_ ?_ ?_ ?_
    | refine keep_newLcw ?_ ?_ ?_
    | refine keep_raise ?_ ?_ ?_
    | refine keep_onBundle ?_ ?_ ?_ ?_
    | refine keep_ite ?_ ?_
    | refine keep_snd ‹_› ?_
    | refine keep_snd2 ‹_› ?_
    | refine keep_snd3 ‹_› ?_
    | refine keep_fst ‹_› ?_
    | split

theorem keep_execL1ExitDone (t : Nat) (b : Nat) (s : State) (h2 : Keeps z s) :
    ∀ u, (execL1ExitDone t b s) = .next u → Keeps z u := by
  intro u e
  unfold execL1ExitDone at e
  refine keep_next ?_ e
  clear e
  repeat' with_reducible first
    | assumption
    | intro _
    | refine keep_l1ExitDone ?_ ?_ ?_ ?_
    | refine keep_at' ?_ ?_ ?_

theorem keep_driveTb (s : State) (src : Nat) (h0 : Keeps z s) : Keeps z (driveTb s src) := by
  unfold driveTb
  repeat' with_reducible first
    | assumption
    | intro _
    | refine keep_onAcq ?_ ?_ ?_
    | refine keep_foldl ?_ ?_
    | refine keep_ite ?_ ?_

theorem keep_powerReceived (b : Nat) (ack : Bool) (st : Nat) (s : State) (h3 : Keeps z s) : Keeps z (powerReceived b ack st s) := by
  unfold powerReceived
  repeat' with_reducible first
    | assumption
    | intro _
    | refine keep_newLcw ?_ ?_ ?_
    | refine keep_onBundle ?_ ?_ ?_ ?_
    | refine keep_sendLcw ?_ ?_ ?_ ?_
    | refine keep_ite ?_ ?_

theorem keep_emitDelayEnd (t : Nat) (s : State) (h1 : Keeps z s) : Keeps z (emitDelayEnd t s) := by
  unfold emitDelayEnd
  repeat' with_reducible first
    | assumption
    | intro _
    | refine keep_safRefresh ?_ ?_
    | refine keep_at' ?_ ?_ ?_
    | refine keep_ite ?_ ?_
    | refine keep_snd ‹_› ?_
    | refine keep_snd2 ‹_› ?_
    | refine keep_snd3 ‹_› ?_
    | refine keep_fst ‹_› ?_
    | split
    | dsimp only
    | exact keep_fold ‹_›
    | refine keep_fold ?_
    | refine keep_mk ?_

theorem keep_execEmitDelayEnd (t : Nat) (s : State) (h1 : Keeps z s) : ∀ u, (execEmitDelayEnd t s) = .next u → Keeps z u := by
  intro u e
  unfold execEmitDelayEnd at e
  refine keep_next ?_ e
  clear e
  repeat' with_reducible first
    | assumption
    | intro _
    | refine keep_emitDelayEnd ?_ ?_ ?_

theorem keep_planMismatch (s : State) (h0 : Keeps z s) : Keeps z (planMismatch s) := by
  unfold planMismatch
  repeat' with_reducible first
    | assumption
    | intro _
    | refine keep_raise ?_ ?_ ?_
    | refine keep_bump ?_ ?_ ?_

theorem keep_planLose (s : State) (n : Nat) (h0 : Keeps z s) : Keeps z (planLose s n) := by
  unfold planLose
  repeat' with_reducible first
    | assumption
    | intro _
    | refine keep_onPln ?_ ?_ ?_
    | refine keep_bumpBy ?_ ?_ ?_ ?_
    | refine keep_raise ?_ ?_ ?_
    | refine keep_ite ?_ ?_

theorem keep_planConflicts (s : State) (q : Peer) (h0 : Keeps z s) : Keeps z (planConflicts s q) := by
  unfold planConflicts
  repeat' with_reducible first
    | assumption
    | intro _
    | refine keep_planDrop ?_ ?_ ?_
    | refine keep_onPln ?_ ?_ ?_
    | refine keep_planSettle ?_ ?_
    | refine keep_planLose ?_ ?_ ?_

theorem keep_peerMessage (s : State) (w : List Word) (i : Nat) (q : Peer) (new : Bool) (h0 : Keeps z s) :
    Keeps z (peerMessage s w i q new) := by
  unfold peerMessage
  repeat' with_reducible first
    | assumption
    | intro _
    | refine keep_onPln ?_ ?_ ?_
    | refine keep_planConflicts ?_ ?_ ?_
    | refine keep_raise ?_ ?_ ?_
    | refine keep_bump ?_ ?_ ?_
    | refine keep_ite ?_ ?_

theorem keep_planHandle (s : State) (w : List Word) (bytes : Nat) (h0 : Keeps z s) : Keeps z (planHandle s w bytes) := by
  unfold planHandle
  repeat' with_reducible first
    | assumption
    | intro _
    | refine keep_planMismatch ?_ ?_
    | refine keep_raise ?_ ?_ ?_
    | refine keep_bump ?_ ?_ ?_
    | refine keep_peerMessage ?_ ?_ ?_ ?_ ?_ ?_
    | refine keep_ite ?_ ?_
    | refine keep_snd ‹_› ?_
    | refine keep_snd2 ‹_› ?_
    | refine keep_snd3 ‹_› ?_
    | refine keep_fst ‹_› ?_
    | split

theorem keep_execVidTblDataAccess (t : Nat) (r : Requester) (d : Option Nat) (s : State) (h3 : Keeps z s) :
    ∀ u, (execVidTblDataAccess t r d s) = .next u → Keeps z u := by
  intro u e
  unfold execVidTblDataAccess at e
  refine keep_next ?_ e
  clear e
  repeat' with_reducible first
    | assumption
    | intro _
    | refine keep_accessEither ?_ ?_ ?_ ?_ ?_ ?_

theorem keep_execTimingResumed (t : Nat) (s : State) (h1 : Keeps z s) : ∀ u, (execTimingResumed t s) = .next u → Keeps z u := by
  intro u e
  unfold execTimingResumed at e
  refine keep_next ?_ e
  clear e
  repeat' with_reducible first
    | assumption
    | intro _
    | refine keep_vidLockTo ?_ ?_ ?_
    | refine keep_wr ?_ ?_ ?_ ?_
    | refine keep_vidStart ?_ ?_
    | refine keep_raise ?_ ?_ ?_
    | refine keep_at' ?_ ?_ ?_
    | refine keep_ite ?_ ?_

theorem keep_hitWidthLimit (t : Nat) (c : Nat) (high : Bool) (s : State) (h3 : Keeps z s) : Keeps z (hitWidthLimit t c high s) := by
  unfold hitWidthLimit
  repeat' with_reducible first
    | assumption
    | intro _
    | refine keep_setChan ?_ ?_ ?_ ?_
    | refine keep_bump ?_ ?_ ?_
    | refine keep_ite ?_ ?_
    | refine keep_snd ‹_› ?_
    | refine keep_snd2 ‹_› ?_
    | refine keep_snd3 ‹_› ?_
    | refine keep_fst ‹_› ?_
    | split
    | dsimp only

theorem keep_dirPut (s : State) (j : CalJob) (ok : Nat) (h0 : Keeps z s) : Keeps z (dirPut s j ok) := by
  unfold dirPut
  repeat' with_reducible first
    | assumption
    | intro _
    | refine keep_calPut ?_ ?_ ?_ ?_

theorem keep_iqRelease (s : State) (h0 : Keeps z s) : Keeps z (iqRelease s) := by
  unfold iqRelease
  repeat' with_reducible first
    | assumption
    | intro _
    | refine keep_onMot ?_ ?_ ?_

theorem keep_phaseTick (s : State) (h0 : Keeps z s) : Keeps z (phaseTick s) := by
  unfold phaseTick
  repeat' with_reducible first
    | assumption
    | intro _
    | refine keep_slotTick ?_ ?_ ?_ ?_ ?_
    | refine keep_ite ?_ ?_

theorem keep_focSlots (u : Nat) (s : State) (h1 : Keeps z s) : Keeps z (focSlots u s) := by
  unfold focSlots
  repeat' with_reducible first
    | assumption
    | intro _
    | refine keep_onMot ?_ ?_ ?_
    | refine keep_slotTick ?_ ?_ ?_ ?_ ?_
    | refine keep_ite ?_ ?_

theorem keep_currentTick (t : Nat) (s : State) (h1 : Keeps z s) : Keeps z (currentTick t s) := by
  unfold currentTick
  repeat' with_reducible first
    | assumption
    | intro _
    | refine keep_focVoltage ?_ ?_ ?_ ?_
    | refine keep_onMot ?_ ?_ ?_
    | refine keep_motTrip ?_ ?_ ?_
    | refine keep_wr ?_ ?_ ?_ ?_
    | refine keep_focSlots ?_ ?_ ?_
    | refine keep_ite ?_ ?_

theorem keep_galMissed (s : State) (h0 : Keeps z s) : Keeps z (galMissed s) := by
  unfold galMissed
  repeat' with_reducible first
    | assumption
    | intro _
    | refine keep_onGal ?_ ?_ ?_
    | refine keep_galFault ?_ ?_ ?_
    | refine keep_raise ?_ ?_ ?_
    | refine keep_bump ?_ ?_ ?_
    | refine keep_ite ?_ ?_

theorem keep_galSend (s : State) (h0 : Keeps z s) : Keeps z (galSend s) := by
  unfold galSend
  repeat' with_reducible first
    | assumption
    | intro _
    | refine keep_wr ?_ ?_ ?_ ?_
    | refine keep_bump ?_ ?_ ?_
    | refine keep_ite ?_ ?_

theorem keep_galSegTick (t : Nat) (s : State) (h1 : Keeps z s) : Keeps z (galSegTick t s) := by
  unfold galSegTick
  repeat' with_reducible first
    | assumption
    | intro _
    | refine keep_onGal ?_ ?_ ?_
    | refine keep_wr ?_ ?_ ?_ ?_
    | refine keep_raise ?_ ?_ ?_
    | refine keep_ite ?_ ?_
    | refine keep_snd ‹_› ?_
    | refine keep_snd2 ‹_› ?_
    | refine keep_snd3 ‹_› ?_
    | refine keep_fst ‹_› ?_
    | split

theorem keep_galRampTick (s : State) (h0 : Keeps z s) : Keeps z (galRampTick s) := by
  unfold galRampTick
  repeat' with_reducible first
    | assumption
    | intro _
    | refine keep_onGal ?_ ?_ ?_

theorem keep_hkaGalRequest (s : State) (h0 : Keeps z s) : Keeps z (hkaGalRequest s) := by
  unfold hkaGalRequest
  repeat' with_reducible first
    | assumption
    | intro _
    | refine keep_onHka ?_ ?_ ?_
    | refine keep_hkaNext ?_ ?_
    | refine keep_hkaAbort ?_ ?_
    | refine keep_ite ?_ ?_

theorem keep_galTick (t : Nat) (s : State) (h1 : Keeps z s) : Keeps z (galTick t s) := by
  unfold galTick
  repeat' with_reducible first
    | assumption
    | intro _
    | refine keep_setReg ?_ ?_ ?_ ?_
    | refine keep_slotApply ?_ ?_ ?_
    | refine keep_onGal ?_ ?_ ?_
    | refine keep_galSend ?_ ?_
    | refine keep_galMissed ?_ ?_
    | refine keep_hkaGalRequest ?_ ?_
    | refine keep_galSegTick ?_ ?_ ?_
    | refine keep_galRampTick ?_ ?_
    | refine keep_ite ?_ ?_

theorem keep_auxTick (s : State) (k : Nat) (h0 : Keeps z s) : Keeps z (auxTick s k) := by
  unfold auxTick
  repeat' with_reducible first
    | assumption
    | intro _
    | refine keep_slotTick ?_ ?_ ?_ ?_ ?_
    | refine keep_toQ16 ?_ ?_ ?_
    | refine keep_ite ?_ ?_

theorem keep_freeWords (a0 : Nat) (a1 : State) (h1 : Keeps z a1) : Keeps z (freeWords a0 a1).2 := by
  induction a0 generalizing a1 with
  | zero => assumption
  | succ rec_n ih =>
    unfold freeWords
    repeat' with_reducible first
      | assumption
      | intro _
      | refine keep_takeFree ?_ ?_ ?_
      | apply ih

theorem keep_mirrorSend (s : State) (h0 : Keeps z s) : Keeps z (mirrorSend s) := by
  unfold mirrorSend
  repeat' with_reducible first
    | assumption
    | intro _
    | refine keep_freeWords ?_ ?_ ?_
    | refine keep_pairSend ?_ ?_ ?_ ?_ ?_
    | refine keep_ite ?_ ?_

theorem keep_controlTick (t : Nat) (s : State) (h1 : Keeps z s) : Keeps z (controlTick t s) := by
  unfold controlTick
  repeat' with_reducible first
    | assumption
    | intro _
    | refine keep_tickNumber ?_ ?_ ?_
    | refine keep_mirrorTake ?_ ?_ ?_ ?_
    | refine keep_openSpinTick ?_ ?_
    | refine keep_slotApply ?_ ?_ ?_
    | refine keep_speedTick ?_ ?_
    | refine keep_phaseTick ?_ ?_
    | refine keep_safSpeedRefresh ?_ ?_
    | refine keep_wrB ?_ ?_ ?_ ?_
    | refine keep_mirrorSend ?_ ?_
    | refine keep_galTick ?_ ?_ ?_
    | refine keep_slotsRefresh ?_ ?_
    | refine keep_auxTick ?_ ?_ ?_
    | refine keep_currentTick ?_ ?_ ?_
    | refine keep_acqSettle ?_ ?_
    | refine keep_iqRelease ?_ ?_
    | refine keep_foldl ?_ ?_
    | refine keep_ite ?_ ?_
    | split
    | dsimp only
    | exact keep_fold ‹_›
    | refine keep_fold ?_
    | refine keep_mk ?_

theorem keep_listenBeat (s : State) (h0 : Keeps z s) : Keeps z (listenBeat s) := by
  unfold listenBeat
  repeat' with_reducible first
    | assumption
    | intro _
    | refine keep_onPln ?_ ?_ ?_
    | refine keep_wr ?_ ?_ ?_ ?_
    | refine keep_raise ?_ ?_ ?_
    | refine keep_ite ?_ ?_

theorem keep_startReplay (s : State) (b : Nat) (h0 : Keeps z s) : Keeps z (startReplay s b) := by
  unfold startReplay
  repeat' with_reducible first
    | assumption
    | intro _
    | refine keep_setBundle ?_ ?_ ?_ ?_
    | refine keep_enterRecovery ?_ ?_ ?_
    | refine keep_bump ?_ ?_ ?_
    | refine keep_ite ?_ ?_

theorem keep_replayTimeout (t : Nat) (b : Nat) (s : State) (h2 : Keeps z s) : Keeps z (replayTimeout t b s) := by
  unfold replayTimeout
  repeat' with_reducible first
    | assumption
    | intro _
    | refine keep_newLcw ?_ ?_ ?_
    | refine keep_startReplay ?_ ?_ ?_
    | refine keep_ite ?_ ?_
    | refine keep_snd ‹_› ?_
    | refine keep_snd2 ‹_› ?_
    | refine keep_snd3 ‹_› ?_
    | refine keep_fst ‹_› ?_
    | split

theorem keep_execReplayTimeout (t : Nat) (b : Nat) (s : State) (h2 : Keeps z s) :
    ∀ u, (execReplayTimeout t b s) = .next u → Keeps z u := by
  intro u e
  unfold execReplayTimeout at e
  refine keep_next ?_ e
  clear e
  repeat' with_reducible first
    | assumption
    | intro _
    | refine keep_replayTimeout ?_ ?_ ?_ ?_
    | refine keep_at' ?_ ?_ ?_

theorem keep_execModeReqWrite (t : Nat) (r : Requester) (d : Nat) (s : State) (h3 : Keeps z s) :
    ∀ u, (execModeReqWrite t r d s) = .next u → Keeps z u := by
  intro u e
  unfold execModeReqWrite at e
  refine keep_next ?_ e
  clear e
  repeat' with_reducible first
    | assumption
    | intro _
    | refine keep_accessW ?_ ?_ ?_ ?_ ?_ ?_

theorem keep_timeTake (edge : Nat) (incr : Option Nat) (step : Option Int) (s : State) (h3 : Keeps z s) :
    Keeps z (timeTake edge incr step s) := by
  unfold timeTake
  repeat' with_reducible first
    | assumption
    | intro _
    | refine keep_onPair ?_ ?_ ?_
    | refine keep_ite ?_ ?_

theorem keep_execPixelEndMarker (t : Nat) (c : Nat) (s : State) (h2 : Keeps z s) :
    ∀ u, (execPixelEndMarker t c s) = .next u → Keeps z u := by
  intro u e
  unfold execPixelEndMarker at e
  refine keep_next ?_ e
  clear e
  repeat' with_reducible first
    | assumption
    | intro _
    | refine keep_pixelEndMarker ?_ ?_ ?_
    | refine keep_at' ?_ ?_ ?_

theorem keep_contactorDetail (s : State) (motor : Bool) (cmd : Bool) (h0 : Keeps z s) : Keeps z (contactorDetail s motor cmd) := by
  unfold contactorDetail
  repeat' with_reducible first
    | assumption
    | intro _
    | refine keep_wr ?_ ?_ ?_ ?_

theorem keep_contactorMismatch (t : Nat) (motor : Bool) (s : State) (h2 : Keeps z s) : Keeps z (contactorMismatch t motor s) := by
  unfold contactorMismatch
  repeat' with_reducible first
    | assumption
    | intro _
    | refine keep_contactorDetail ?_ ?_ ?_ ?_
    | refine keep_safLatch ?_ ?_ ?_ ?_ ?_ ?_
    | refine keep_safRefresh ?_ ?_
    | refine keep_at' ?_ ?_ ?_
    | refine keep_ite ?_ ?_

theorem keep_execContactorMismatch (t : Nat) (motor : Bool) (s : State) (h2 : Keeps z s) :
    ∀ u, (execContactorMismatch t motor s) = .next u → Keeps z u := by
  intro u e
  unfold execContactorMismatch at e
  refine keep_next ?_ e
  clear e
  repeat' with_reducible first
    | assumption
    | intro _
    | refine keep_contactorMismatch ?_ ?_ ?_ ?_

theorem keep_trimMarks (s : State) (h0 : Keeps z s) : Keeps z (trimMarks s) := by
  unfold trimMarks
  repeat' with_reducible first
    | assumption
    | intro _
    | refine keep_onAcq ?_ ?_ ?_

theorem keep_newTrigger (s : State) (f : Frame) (pos : Nat) (src : Nat) (instant : Nat) (forced : Bool) (merged : Bool) (h0 : Keeps z s) :
    Keeps z (newTrigger s f pos src instant forced merged) := by
  unfold newTrigger
  repeat' with_reducible first
    | assumption
    | intro _
    | refine keep_flushFrames ?_ ?_
    | refine keep_lateMark ?_ ?_ ?_ ?_
    | refine keep_setWide ?_ ?_ ?_ ?_
    | refine keep_sendMark ?_ ?_ ?_
    | refine keep_retainTrigger ?_ ?_ ?_ ?_ ?_ ?_
    | refine keep_setReg ?_ ?_ ?_ ?_
    | refine keep_onAcq ?_ ?_ ?_
    | refine keep_driveTb ?_ ?_ ?_
    | refine keep_trimMarks ?_ ?_
    | refine keep_lmpEdge ?_ ?_ ?_ ?_
    | refine keep_raise ?_ ?_ ?_
    | refine keep_bump ?_ ?_ ?_
    | refine keep_autoRestart ?_ ?_
    | refine keep_ite ?_ ?_

theorem keep_triggerResolve (t : Nat) (s : State) (h1 : Keeps z s) : Keeps z (triggerResolve t s) := by
  unfold triggerResolve
  repeat' with_reducible first
    | assumption
    | intro _
    | refine keep_bumpBy ?_ ?_ ?_ ?_
    | refine keep_mergeMark ?_ ?_ ?_ ?_ ?_ ?_
    | refine keep_onAcq ?_ ?_ ?_
    | refine keep_newTrigger ?_ ?_ ?_ ?_ ?_ ?_ ?_ ?_
    | refine keep_foldl ?_ ?_
    | refine keep_ite ?_ ?_
    | refine keep_getD ?_ ?_
    | refine keep_snd ‹_› ?_
    | refine keep_snd2 ‹_› ?_
    | refine keep_snd3 ‹_› ?_
    | refine keep_fst ‹_› ?_
    | split
    | dsimp only

theorem keep_execPlan (t : Nat) (st : Nat) (held : Nat) (pending : Nat) (grant : Nat) (s : State) (h5 : Keeps z s) :
    ∀ u, (execPlan t st held pending grant s) = .next u → Keeps z u := by
  intro u e
  unfold execPlan at e
  refine keep_next ?_ e
  clear e
  repeat' with_reducible first
    | assumption
    | intro _
    | refine keep_plan ?_ ?_ ?_ ?_ ?_ ?_
    | refine keep_at' ?_ ?_ ?_

theorem keep_countPixel (s : State) (p : Pixel) (h0 : Keeps z s) : Keeps z (countPixel s p) := by
  unfold countPixel
  repeat' with_reducible first
    | assumption
    | intro _
    | refine keep_bump ?_ ?_ ?_
    | refine keep_ite ?_ ?_

theorem keep_emitPixel (s : State) (n : Nat) (x : Closing) (h0 : Keeps z s) : Keeps z (emitPixel s n x) := by
  unfold emitPixel
  repeat' with_reducible first
    | assumption
    | intro _
    | refine keep_pixelRecords ?_ ?_ ?_ ?_
    | refine keep_refusedRecord ?_ ?_ ?_ ?_ ?_
    | refine keep_pixelOut ?_ ?_ ?_ ?_
    | refine keep_countPixel ?_ ?_ ?_
    | refine keep_takeover ?_ ?_ ?_
    | refine keep_setEngine ?_ ?_ ?_ ?_
    | refine keep_ite ?_ ?_
    | refine keep_snd ‹_› ?_
    | refine keep_snd2 ‹_› ?_
    | refine keep_snd3 ‹_› ?_
    | refine keep_fst ‹_› ?_
    | split

theorem keep_laneBitLock (l : Nat) (s : State) (h1 : Keeps z s) : Keeps z (laneBitLock l s) := by
  unfold laneBitLock
  repeat' with_reducible first
    | assumption
    | intro _
    | refine keep_enterStep ?_ ?_ ?_ ?_
    | refine keep_setPllLock ?_ ?_ ?_ ?_
    | refine keep_setBState ?_ ?_ ?_ ?_
    | refine keep_setLane ?_ ?_ ?_ ?_
    | refine keep_wr ?_ ?_ ?_ ?_
    | refine keep_onBundle ?_ ?_ ?_ ?_
    | refine keep_setBitLock ?_ ?_ ?_ ?_
    | refine keep_ite ?_ ?_
    | refine keep_snd ‹_› ?_
    | refine keep_snd2 ‹_› ?_
    | refine keep_snd3 ‹_› ?_
    | refine keep_fst ‹_› ?_
    | split

theorem keep_offsetNext (s : State) (j : CalJob) (h0 : Keeps z s) : Keeps z (offsetNext s j) := by
  unfold offsetNext
  repeat' with_reducible first
    | assumption
    | intro _
    | refine keep_calClamped ?_ ?_
    | refine keep_setJob ?_ ?_ ?_
    | refine keep_wr ?_ ?_ ?_ ?_
    | refine keep_foldl ?_ ?_
    | refine keep_ite ?_ ?_

theorem keep_execRoundTimer (t : Nat) (s : State) (h1 : Keeps z s) : ∀ u, (execRoundTimer t s) = .next u → Keeps z u := by
  intro u e
  unfold execRoundTimer at e
  refine keep_next ?_ e
  clear e
  repeat' with_reducible first
    | assumption
    | intro _
    | refine keep_roundRequest ?_ ?_
    | refine keep_at' ?_ ?_ ?_
    | refine keep_ite ?_ ?_

theorem keep_execIncrNsWrite (t : Nat) (r : Requester) (d : Nat) (s : State) (h3 : Keeps z s) :
    ∀ u, (execIncrNsWrite t r d s) = .next u → Keeps z u := by
  intro u e
  unfold execIncrNsWrite at e
  refine keep_next ?_ e
  clear e
  repeat' with_reducible first
    | assumption
    | intro _
    | refine keep_accessW ?_ ?_ ?_ ?_ ?_ ?_

theorem keep_linkPowerEntry (b : Nat) (s : State) (h1 : Keeps z s) : Keeps z (linkPowerEntry b s) := by
  unfold linkPowerEntry
  repeat' with_reducible first
    | assumption
    | intro _
    | refine keep_setPllLock ?_ ?_ ?_ ?_
    | refine keep_wr ?_ ?_ ?_ ?_
    | refine keep_newLcw ?_ ?_ ?_
    | refine keep_raise ?_ ?_ ?_
    | refine keep_onBundle ?_ ?_ ?_ ?_
    | refine keep_setBitLock ?_ ?_ ?_ ?_
    | refine keep_foldl ?_ ?_
    | refine keep_ite ?_ ?_
    | refine keep_snd ‹_› ?_
    | refine keep_snd2 ‹_› ?_
    | refine keep_snd3 ‹_› ?_
    | refine keep_fst ‹_› ?_
    | split

theorem keep_execIdxRisingEdge (t : Nat) (s : State) (h1 : Keeps z s) : ∀ u, (execIdxRisingEdge t s) = .next u → Keeps z u := by
  intro u e
  unfold execIdxRisingEdge at e
  refine keep_next ?_ e
  clear e
  repeat' with_reducible first
    | assumption
    | intro _
    | refine keep_idxRisingEdge ?_ ?_
    | refine keep_at' ?_ ?_ ?_

theorem keep_pauseQuantaEnd (p : Nat) (s : State) (h1 : Keeps z s) : Keeps z (pauseQuantaEnd p s) := by
  unfold pauseQuantaEnd
  repeat' with_reducible first
    | assumption
    | intro _
    | refine keep_wr ?_ ?_ ?_ ?_
    | refine keep_ite ?_ ?_
    | split
    | dsimp only
    | exact keep_fold ‹_›
    | refine keep_fold ?_
    | refine keep_mk ?_

theorem keep_calHits (s : State) (n : Nat) (k : Nat) (h0 : Keeps z s) : Keeps z (calHits s n k) := by
  unfold calHits
  repeat' with_reducible first
    | assumption
    | intro _
    | refine keep_bumpBy ?_ ?_ ?_ ?_
    | refine keep_ite ?_ ?_

theorem keep_execHoldoverLimit (t : Nat) (s : State) (h1 : Keeps z s) : ∀ u, (execHoldoverLimit t s) = .next u → Keeps z u := by
  intro u e
  unfold execHoldoverLimit at e
  refine keep_next ?_ e
  clear e
  repeat' with_reducible first
    | assumption
    | intro _
    | refine keep_at' ?_ ?_ ?_
    | refine keep_ite ?_ ?_
    | split
    | dsimp only
    | exact keep_fold ‹_›
    | refine keep_fold ?_
    | refine keep_mk ?_

theorem keep_execShotMarker (t : Nat) (c : Nat) (s : State) (h2 : Keeps z s) :
    ∀ u, (execShotMarker t c s) = .next u → Keeps z u := by
  intro u e
  unfold execShotMarker at e
  refine keep_next ?_ e
  clear e
  repeat' with_reducible first
    | assumption
    | intro _
    | refine keep_shotMarker ?_ ?_ ?_
    | refine keep_at' ?_ ?_ ?_

theorem keep_calThreshStep (above : List Nat) (s : State) (h1 : Keeps z s) : Keeps z (calThreshStep above s) := by
  unfold calThreshStep
  repeat' with_reducible first
    | assumption
    | intro _
    | refine keep_onCal ?_ ?_ ?_
    | refine keep_foldl ?_ ?_
    | refine keep_ite ?_ ?_
    | refine keep_snd ‹_› ?_
    | refine keep_snd2 ‹_› ?_
    | refine keep_snd3 ‹_› ?_
    | refine keep_fst ‹_› ?_
    | split

theorem keep_execCalThreshStep (t : Nat) (above : List Nat) (s : State) (h2 : Keeps z s) :
    ∀ u, (execCalThreshStep t above s) = .next u → Keeps z u := by
  intro u e
  unfold execCalThreshStep at e
  refine keep_next ?_ e
  clear e
  repeat' with_reducible first
    | assumption
    | intro _
    | refine keep_calThreshStep ?_ ?_ ?_
    | refine keep_at' ?_ ?_ ?_

theorem keep_retentionFillReady (s : State) (h0 : Keeps z s) : Keeps z (retentionFillReady s) := by
  unfold retentionFillReady
  repeat' with_reducible first
    | assumption
    | intro _
    | refine keep_flushFrames ?_ ?_
    | refine keep_wr ?_ ?_ ?_ ?_
    | refine keep_ite ?_ ?_

theorem keep_execRetentionFillReady (t : Nat) (s : State) (h1 : Keeps z s) :
    ∀ u, (execRetentionFillReady t s) = .next u → Keeps z u := by
  intro u e
  unfold execRetentionFillReady at e
  refine keep_next ?_ e
  clear e
  repeat' with_reducible first
    | assumption
    | intro _
    | refine keep_retentionFillReady ?_ ?_
    | refine keep_at' ?_ ?_ ?_

theorem keep_partnerLeft (s : State) (b : Nat) (i : Nat) (h0 : Keeps z s) : Keeps z (partnerLeft s b i) := by
  unfold partnerLeft
  repeat' with_reducible first
    | assumption
    | intro _
    | refine keep_setReg ?_ ?_ ?_ ?_
    | refine keep_setLane ?_ ?_ ?_ ?_
    | refine keep_setOffer ?_ ?_ ?_ ?_
    | refine keep_setBitLock ?_ ?_ ?_ ?_
    | refine keep_onLane ?_ ?_ ?_ ?_

theorem keep_execTempStale (t : Nat) (s : State) (h1 : Keeps z s) : ∀ u, (execTempStale t s) = .next u → Keeps z u := by
  intro u e
  unfold execTempStale at e
  refine keep_next ?_ e
  clear e
  repeat' with_reducible first
    | assumption
    | intro _
    | refine keep_tempStale ?_ ?_ ?_
    | refine keep_at' ?_ ?_ ?_

theorem keep_execPauseQuantaEnd (t : Nat) (p : Nat) (s : State) (h2 : Keeps z s) :
    ∀ u, (execPauseQuantaEnd t p s) = .next u → Keeps z u := by
  intro u e
  unfold execPauseQuantaEnd at e
  refine keep_next ?_ e
  clear e
  repeat' with_reducible first
    | assumption
    | intro _
    | refine keep_pauseQuantaEnd ?_ ?_ ?_
    | refine keep_at' ?_ ?_ ?_

theorem keep_execEvfHoldoffEnd (t : Nat) (s : State) (h1 : Keeps z s) : ∀ u, (execEvfHoldoffEnd t s) = .next u → Keeps z u := by
  intro u e
  unfold execEvfHoldoffEnd at e
  refine keep_next ?_ e
  clear e
  repeat' with_reducible first
    | assumption
    | intro _
    | refine keep_sendEvent ?_ ?_
    | refine keep_at' ?_ ?_ ?_
    | refine keep_ite ?_ ?_
    | split
    | dsimp only
    | exact keep_fold ‹_›
    | refine keep_fold ?_
    | refine keep_mk ?_

theorem keep_sdfStopped (s : State) (h0 : Keeps z s) : Keeps z (sdfStopped s) := by
  unfold sdfStopped
  repeat' with_reducible first
    | assumption
    | intro _
    | refine keep_wr ?_ ?_ ?_ ?_

theorem keep_execRefSelWrite (t : Nat) (r : Requester) (d : Nat) (s : State) (h3 : Keeps z s) :
    ∀ u, (execRefSelWrite t r d s) = .next u → Keeps z u := by
  intro u e
  unfold execRefSelWrite at e
  refine keep_next ?_ e
  clear e
  repeat' with_reducible first
    | assumption
    | intro _
    | refine keep_accessW ?_ ?_ ?_ ?_ ?_ ?_

theorem keep_planPut (s : State) (type : Nat) (subject : Nat) (effect : Nat) (h0 : Keeps z s) :
    Keeps z (planPut s type subject effect) := by
  unfold planPut
  repeat' with_reducible first
    | assumption
    | intro _
    | refine keep_learn ?_ ?_ ?_ ?_
    | refine keep_forward ?_ ?_ ?_ ?_
    | refine keep_bump ?_ ?_ ?_
    | refine keep_ite ?_ ?_

theorem keep_sendConfirm (s : State) (h0 : Keeps z s) : Keeps z (sendConfirm s) := by
  unfold sendConfirm
  repeat' with_reducible first
    | assumption
    | intro _
    | refine keep_onPln ?_ ?_ ?_
    | refine keep_planPut ?_ ?_ ?_ ?_ ?_

theorem keep_planMsgSend (s : State) (h0 : Keeps z s) : Keeps z (planMsgSend s) := by
  unfold planMsgSend
  repeat' with_reducible first
    | assumption
    | intro _
    | refine keep_onPln ?_ ?_ ?_
    | refine keep_sendConfirm ?_ ?_
    | refine keep_planPut ?_ ?_ ?_ ?_ ?_
    | refine keep_release ?_ ?_ ?_ ?_
    | refine keep_ite ?_ ?_

theorem keep_execPlanMsgSend (t : Nat) (s : State) (h1 : Keeps z s) : ∀ u, (execPlanMsgSend t s) = .next u → Keeps z u := by
  intro u e
  unfold execPlanMsgSend at e
  refine keep_next ?_ e
  clear e
  repeat' with_reducible first
    | assumption
    | intro _
    | refine keep_planMsgSend ?_ ?_
    | refine keep_at' ?_ ?_ ?_

theorem keep_execTrainFailRestart (t : Nat) (b : Nat) (s : State) (h2 : Keeps z s) :
    ∀ u, (execTrainFailRestart t b s) = .next u → Keeps z u := by
  intro u e
  unfold execTrainFailRestart at e
  refine keep_next ?_ e
  clear e
  repeat' with_reducible first
    | assumption
    | intro _
    | refine keep_trainFailRestart ?_ ?_ ?_ ?_
    | refine keep_at' ?_ ?_ ?_

theorem keep_execClkPllUnlock (t : Nat) (i : Nat) (s : State) (h2 : Keeps z s) :
    ∀ u, (execClkPllUnlock t i s) = .next u → Keeps z u := by
  intro u e
  unfold execClkPllUnlock at e
  refine keep_next ?_ e
  clear e
  repeat' with_reducible first
    | assumption
    | intro _
    | refine keep_vidLockTo ?_ ?_ ?_
    | refine keep_wrBit ?_ ?_ ?_ ?_ ?_
    | refine keep_raise ?_ ?_ ?_
    | refine keep_at' ?_ ?_ ?_
    | refine keep_ite ?_ ?_

theorem keep_fcGateClose (t : Nat) (k : Nat) (n : Nat) (s : State) (h3 : Keeps z s) : Keeps z (fcGateClose t k n s) := by
  unfold fcGateClose
  repeat' with_reducible first
    | assumption
    | intro _
    | refine keep_raiseAt ?_ ?_ ?_ ?_
    | refine keep_setReg ?_ ?_ ?_ ?_
    | refine keep_wr ?_ ?_ ?_ ?_
    | refine keep_wrB ?_ ?_ ?_ ?_
    | refine keep_setFc ?_ ?_ ?_ ?_
    | refine keep_ite ?_ ?_
    | refine keep_snd ‹_› ?_
    | refine keep_snd2 ‹_› ?_
    | refine keep_snd3 ‹_› ?_
    | refine keep_fst ‹_› ?_
    | split

theorem keep_execTriggerResolve (t : Nat) (s : State) (h1 : Keeps z s) : ∀ u, (execTriggerResolve t s) = .next u → Keeps z u := by
  intro u e
  unfold execTriggerResolve at e
  refine keep_next ?_ e
  clear e
  repeat' with_reducible first
    | assumption
    | intro _
    | refine keep_triggerResolve ?_ ?_ ?_
    | refine keep_at' ?_ ?_ ?_

theorem keep_execBudgetOut (t : Nat) (s : State) (h1 : Keeps z s) : ∀ u, (execBudgetOut t s) = .next u → Keeps z u := by
  intro u e
  unfold execBudgetOut at e
  refine keep_next ?_ e
  clear e
  repeat' with_reducible first
    | assumption
    | intro _
    | refine keep_budgetOut ?_ ?_
    | refine keep_at' ?_ ?_ ?_

theorem keep_execHostTrig (t : Nat) (r : Requester) (d : Nat) (s : State) (h3 : Keeps z s) :
    ∀ u, (execHostTrig t r d s) = .next u → Keeps z u := by
  intro u e
  unfold execHostTrig at e
  refine keep_next ?_ e
  clear e
  repeat' with_reducible first
    | assumption
    | intro _
    | refine keep_accessW ?_ ?_ ?_ ?_ ?_ ?_

theorem keep_hitTrailingEdge (raw : Nat) (c : Nat) (high : Bool) (s : State) (h3 : Keeps z s) :
    Keeps z (hitTrailingEdge raw c high s) := by
  unfold hitTrailingEdge
  repeat' with_reducible first
    | assumption
    | intro _
    | refine keep_setChan ?_ ?_ ?_ ?_
    | refine keep_bump ?_ ?_ ?_
    | refine keep_ite ?_ ?_
    | refine keep_snd ‹_› ?_
    | refine keep_snd2 ‹_› ?_
    | refine keep_snd3 ‹_› ?_
    | refine keep_fst ‹_› ?_
    | split
    | dsimp only

theorem keep_laneOffer (b : Nat) (m : Nat) (s : State) (h2 : Keeps z s) : Keeps z (laneOffer b m s) := by
  unfold laneOffer
  repeat' with_reducible first
    | assumption
    | intro _
    | refine keep_maskChange ?_ ?_ ?_ ?_
    | refine keep_wr ?_ ?_ ?_ ?_
    | refine keep_newLcw ?_ ?_ ?_
    | refine keep_ite ?_ ?_

theorem keep_execLaneOffer (t : Nat) (b : Nat) (mask : Nat) (s : State) (h3 : Keeps z s) :
    ∀ u, (execLaneOffer t b mask s) = .next u → Keeps z u := by
  intro u e
  unfold execLaneOffer at e
  refine keep_next ?_ e
  clear e
  repeat' with_reducible first
    | assumption
    | intro _
    | refine keep_laneOffer ?_ ?_ ?_ ?_
    | refine keep_at' ?_ ?_ ?_

theorem keep_calComputeDone (s : State) (h0 : Keeps z s) : Keeps z (calComputeDone s) := by
  unfold calComputeDone
  repeat' with_reducible first
    | assumption
    | intro _
    | refine keep_calAgain ?_ ?_
    | refine keep_onCal ?_ ?_ ?_
    | refine keep_wr ?_ ?_ ?_ ?_
    | refine keep_ite ?_ ?_
    | refine keep_snd ‹_› ?_
    | refine keep_snd2 ‹_› ?_
    | refine keep_snd3 ‹_› ?_
    | refine keep_fst ‹_› ?_
    | split

theorem keep_execCalComputeDone (t : Nat) (s : State) (h1 : Keeps z s) : ∀ u, (execCalComputeDone t s) = .next u → Keeps z u := by
  intro u e
  unfold execCalComputeDone at e
  refine keep_next ?_ e
  clear e
  repeat' with_reducible first
    | assumption
    | intro _
    | refine keep_calComputeDone ?_ ?_
    | refine keep_at' ?_ ?_ ?_

theorem keep_powerRetry (t : Nat) (b : Nat) (s : State) (h2 : Keeps z s) : Keeps z (powerRetry t b s) := by
  unfold powerRetry
  repeat' with_reducible first
    | assumption
    | intro _
    | refine keep_newLcw ?_ ?_ ?_
    | refine keep_tryPower ?_ ?_ ?_
    | refine keep_ite ?_ ?_

theorem keep_execPowerRetry (t : Nat) (b : Nat) (s : State) (h2 : Keeps z s) :
    ∀ u, (execPowerRetry t b s) = .next u → Keeps z u := by
  intro u e
  unfold execPowerRetry at e
  refine keep_next ?_ e
  clear e
  repeat' with_reducible first
    | assumption
    | intro _
    | refine keep_powerRetry ?_ ?_ ?_ ?_
    | refine keep_at' ?_ ?_ ?_

theorem keep_genlockLost (t : Nat) (s : State) (h1 : Keeps z s) : Keeps z (genlockLost t s) := by
  unfold genlockLost
  repeat' with_reducible first
    | assumption
    | intro _
    | refine keep_glLose ?_ ?_
    | refine keep_ite ?_ ?_
    | refine keep_snd ‹_› ?_
    | refine keep_snd2 ‹_› ?_
    | refine keep_snd3 ‹_› ?_
    | refine keep_fst ‹_› ?_
    | split

theorem keep_execGenlockLost (t : Nat) (s : State) (h1 : Keeps z s) : ∀ u, (execGenlockLost t s) = .next u → Keeps z u := by
  intro u e
  unfold execGenlockLost at e
  refine keep_next ?_ e
  clear e
  repeat' with_reducible first
    | assumption
    | intro _
    | refine keep_genlockLost ?_ ?_ ?_
    | refine keep_at' ?_ ?_ ?_

theorem keep_mspiPost (a : Nat) (words : List Nat) (s : State) (h2 : Keeps z s) : Keeps z (mspiPost a words s) := by
  unfold mspiPost
  repeat' with_reducible first
    | assumption
    | intro _
    | refine keep_onBus ?_ ?_ ?_

theorem keep_execMspiCsEarlyRise (t : Nat) (a : Nat) (words : List Nat) (s : State) (h3 : Keeps z s) :
    ∀ u, (execMspiCsEarlyRise t a words s) = .next u → Keeps z u := by
  intro u e
  unfold execMspiCsEarlyRise at e
  refine keep_next ?_ e
  clear e
  repeat' with_reducible first
    | assumption
    | intro _
    | refine keep_onBus ?_ ?_ ?_
    | refine keep_at' ?_ ?_ ?_
    | refine keep_mspiPost ?_ ?_ ?_ ?_
    | refine keep_ite ?_ ?_

theorem keep_execFcGateOpen (t : Nat) (k : Nat) (s : State) (h2 : Keeps z s) :
    ∀ u, (execFcGateOpen t k s) = .next u → Keeps z u := by
  intro u e
  unfold execFcGateOpen at e
  refine keep_next ?_ e
  clear e
  repeat' with_reducible first
    | assumption
    | intro _
    | refine keep_fcGateOpen ?_ ?_ ?_ ?_
    | refine keep_at' ?_ ?_ ?_

theorem keep_execHeartbeatSend (t : Nat) (s : State) (h1 : Keeps z s) : ∀ u, (execHeartbeatSend t s) = .next u → Keeps z u := by
  intro u e
  unfold execHeartbeatSend at e
  refine keep_next ?_ e
  clear e
  repeat' with_reducible first
    | assumption
    | intro _
    | refine keep_heartbeatSend ?_ ?_ ?_
    | refine keep_at' ?_ ?_ ?_

theorem keep_planCycleStart (t : Nat) (s : State) (h1 : Keeps z s) : Keeps z (planCycleStart t s) := by
  unfold planCycleStart
  repeat' with_reducible first
    | assumption
    | intro _
    | refine keep_detachedCycle ?_ ?_
    | refine keep_planEpoch ?_ ?_ ?_
    | refine keep_reseed ?_ ?_ ?_
    | refine keep_grantWatch ?_ ?_ ?_ ?_
    | refine keep_ite ?_ ?_

theorem keep_execPlanCycleStart (t : Nat) (s : State) (h1 : Keeps z s) : ∀ u, (execPlanCycleStart t s) = .next u → Keeps z u := by
  intro u e
  unfold execPlanCycleStart at e
  refine keep_next ?_ e
  clear e
  repeat' with_reducible first
    | assumption
    | intro _
    | refine keep_planCycleStart ?_ ?_ ?_
    | refine keep_at' ?_ ?_ ?_

theorem keep_threshDone (s : State) (j : CalJob) (h0 : Keeps z s) : Keeps z (threshDone s j) := by
  unfold threshDone
  repeat' with_reducible first
    | assumption
    | intro _
    | refine keep_trimPut ?_ ?_ ?_ ?_ ?_ ?_
    | refine keep_dirPut ?_ ?_ ?_ ?_
    | refine keep_jobEnd ?_ ?_ ?_
    | refine keep_foldl ?_ ?_

theorem keep_execControlTick (t : Nat) (s : State) (h1 : Keeps z s) : ∀ u, (execControlTick t s) = .next u → Keeps z u := by
  intro u e
  unfold execControlTick at e
  refine keep_next ?_ e
  clear e
  repeat' with_reducible first
    | assumption
    | intro _
    | refine keep_controlTick ?_ ?_ ?_
    | refine keep_at' ?_ ?_ ?_

theorem keep_sampleShotHits (s : State) (x : Shot) (h0 : Keeps z s) : Keeps z (sampleShotHits s x) := by
  unfold sampleShotHits
  repeat' with_reducible first
    | assumption
    | intro _
    | refine keep_monSample ?_ ?_ ?_ ?_ ?_
    | refine keep_foldl ?_ ?_
    | refine keep_ite ?_ ?_

theorem keep_captureGateClose (t : Nat) (g : Nat) (dark : Bool) (s : State) (h3 : Keeps z s) :
    Keeps z (captureGateClose t g dark s) := by
  unfold captureGateClose
  repeat' with_reducible first
    | assumption
    | intro _
    | refine keep_markersAfter ?_ ?_ ?_ ?_ ?_ ?_
    | refine keep_sampleShotHits ?_ ?_ ?_
    | refine keep_setShot ?_ ?_ ?_
    | refine keep_ite ?_ ?_
    | refine keep_snd ‹_› ?_
    | refine keep_snd2 ‹_› ?_
    | refine keep_snd3 ‹_› ?_
    | refine keep_fst ‹_› ?_
    | split
    | dsimp only

theorem keep_execCaptureGateClose (t : Nat) (g : Nat) (dark : Bool) (s : State) (h3 : Keeps z s) :
    ∀ u, (execCaptureGateClose t g dark s) = .next u → Keeps z u := by
  intro u e
  unfold execCaptureGateClose at e
  refine keep_next ?_ e
  clear e
  repeat' with_reducible first
    | assumption
    | intro _
    | refine keep_captureGateClose ?_ ?_ ?_ ?_ ?_
    | refine keep_at' ?_ ?_ ?_

theorem keep_execLaneBitLock (t : Nat) (l : Nat) (s : State) (h2 : Keeps z s) :
    ∀ u, (execLaneBitLock t l s) = .next u → Keeps z u := by
  intro u e
  unfold execLaneBitLock at e
  refine keep_next ?_ e
  clear e
  repeat' with_reducible first
    | assumption
    | intro _
    | refine keep_laneBitLock ?_ ?_ ?_
    | refine keep_at' ?_ ?_ ?_

theorem keep_lcFinish (s : State) (h0 : Keeps z s) : Keeps z (lcFinish s) := by
  unfold lcFinish
  split
  · exact h0
  · next x e =>
    refine ⟨h0.1, fun _ => rfl, fun f => ?_⟩
    have k := h0.2.2 f
    have b := k.2.2.2 x (by simp [e])
    refine ⟨by have := b.1; show 1 ≤ x; omega, b.2, ?_, by simp⟩
    show s.pwr.lcLeft - _ ≤ 15
    omega

theorem keep_freezeEnd (s : State) (l : Nat) (h0 : Keeps z s) : Keeps z (freezeEnd s l) := by
  unfold freezeEnd
  repeat' with_reducible first
    | assumption
    | intro _
    | refine keep_wr ?_ ?_ ?_ ?_
    | refine keep_onVid ?_ ?_ ?_
    | refine keep_wrBit ?_ ?_ ?_ ?_ ?_
    | refine keep_raise ?_ ?_ ?_
    | refine keep_freezeOff ?_ ?_ ?_
    | refine keep_ite ?_ ?_

theorem keep_execTaken (t : Nat) (cause : Nat) (frame : Nat) (s : State) (h3 : Keeps z s) :
    ∀ u, (execTaken t cause frame s) = .next u → Keeps z u := by
  intro u e
  unfold execTaken at e
  refine keep_next ?_ e
  clear e
  repeat' with_reducible first
    | assumption
    | intro _
    | refine keep_taken ?_ ?_ ?_ ?_ ?_
    | refine keep_at' ?_ ?_ ?_

theorem keep_execHitFifoEntry (t : Nat) (c : Nat) (s : State) (h2 : Keeps z s) :
    ∀ u, (execHitFifoEntry t c s) = .next u → Keeps z u := by
  intro u e
  unfold execHitFifoEntry at e
  refine keep_next ?_ e
  clear e
  repeat' with_reducible first
    | assumption
    | intro _
    | refine keep_hitFifoEntry ?_ ?_ ?_
    | refine keep_at' ?_ ?_ ?_

theorem keep_execPower (t : Nat) (b : Nat) (ack : Bool) (st : Nat) (s : State) (h4 : Keeps z s) :
    ∀ u, (execPower t b ack st s) = .next u → Keeps z u := by
  intro u e
  unfold execPower at e
  refine keep_next ?_ e
  clear e
  repeat' with_reducible first
    | assumption
    | intro _
    | refine keep_powerReceived ?_ ?_ ?_ ?_ ?_
    | refine keep_at' ?_ ?_ ?_

theorem keep_execHkaConversionEnd (t : Nat) (code : Nat) (clamp : Bool) (s : State) (h3 : Keeps z s) :
    ∀ u, (execHkaConversionEnd t code clamp s) = .next u → Keeps z u := by
  intro u e
  unfold execHkaConversionEnd at e
  refine keep_next ?_ e
  clear e
  repeat' with_reducible first
    | assumption
    | intro _
    | refine keep_hkaConversionEnd ?_ ?_ ?_ ?_
    | refine keep_at' ?_ ?_ ?_

theorem keep_resetStuck (t : Nat) (s : State) (h1 : Keeps z s) : Keeps z (resetStuck t s) := by
  unfold resetStuck
  repeat' with_reducible first
    | assumption
    | intro _
    | refine keep_wr ?_ ?_ ?_ ?_
    | refine keep_raise ?_ ?_ ?_
    | refine keep_at' ?_ ?_ ?_
    | refine keep_ite ?_ ?_

theorem keep_nakReceived (b : Nat) (seq : Nat) (s : State) (h2 : Keeps z s) : Keeps z (nakReceived b seq s) := by
  unfold nakReceived
  repeat' with_reducible first
    | assumption
    | intro _
    | refine keep_newLcw ?_ ?_ ?_
    | refine keep_raise ?_ ?_ ?_
    | refine keep_release ?_ ?_ ?_ ?_
    | refine keep_bump ?_ ?_ ?_
    | refine keep_startReplay ?_ ?_ ?_
    | refine keep_ite ?_ ?_

theorem keep_reservedLcw (b : Nat) (s : State) (h1 : Keeps z s) : Keeps z (reservedLcw b s) := by
  unfold reservedLcw
  repeat' with_reducible first
    | assumption
    | intro _
    | refine keep_newLcw ?_ ?_ ?_
    | refine keep_bump ?_ ?_ ?_
    | refine keep_ite ?_ ?_

theorem keep_execReservedLcw (t : Nat) (b : Nat) (s : State) (h2 : Keeps z s) :
    ∀ u, (execReservedLcw t b s) = .next u → Keeps z u := by
  intro u e
  unfold execReservedLcw at e
  refine keep_next ?_ e
  clear e
  repeat' with_reducible first
    | assumption
    | intro _
    | refine keep_reservedLcw ?_ ?_ ?_
    | refine keep_at' ?_ ?_ ?_

theorem keep_execRecordEnqueue (t : Nat) (st : Nat) (s : State) (h2 : Keeps z s) :
    ∀ u, (execRecordEnqueue t st s) = .next u → Keeps z u := by
  intro u e
  unfold execRecordEnqueue at e
  refine keep_next ?_ e
  clear e
  repeat' with_reducible first
    | assumption
    | intro _
    | refine keep_recordEnqueue ?_ ?_ ?_ ?_
    | refine keep_at' ?_ ?_ ?_

theorem keep_vidLost (s : State) (h0 : Keeps z s) : Keeps z (vidLost s) := by
  unfold vidLost
  repeat' with_reducible first
    | assumption
    | intro _
    | refine keep_onVid ?_ ?_ ?_
    | refine keep_setLatest ?_ ?_ ?_
    | refine keep_vidStopped ?_ ?_

theorem keep_lmpStopped (s : State) (h0 : Keeps z s) : Keeps z (lmpStopped s) := by
  unfold lmpStopped
  repeat' with_reducible first
    | assumption
    | intro _
    | refine keep_lampsOff ?_ ?_

theorem keep_loseData (s : State) (h0 : Keeps z s) : Keeps z (loseData s) := by
  unfold loseData
  dsimp only
  refine keep_vidLost _ (keep_lmpStopped _ (keep_sdfStopped _ (keep_hkaHalt _ (keep_jobFail _ _ ?_))))
  refine keep_mk (keep_sram_nil (keep_fold ?_))
  refine keep_foldl (fun s b h => keep_ite h fun _ => keep_disableBundle _ _ h) (keep_stqReset _ ?_)
  exact keep_foldl (fun s p h => keep_bumpBy _ _ _ (keep_bump31 _ _ _ h)) h0

theorem keep_lanePlls (s : State) (quads : List Nat) (b : Bool) (h0 : Keeps z s) : Keeps z (lanePlls s quads b) := by
  unfold lanePlls
  repeat' with_reducible first
    | assumption
    | intro _
    | refine keep_setPllLock ?_ ?_ ?_ ?_
    | refine keep_foldl ?_ ?_

theorem keep_readyUp (s : State) (h0 : Keeps z s) : Keeps z (readyUp s) := by
  unfold readyUp
  dsimp only
  refine keep_safSpeedRefresh _ (keep_refPermit _ (keep_planReady _ (keep_ite ?_ fun h => keep_periodBegin _ _ _ h)))
  refine keep_slotsRefresh _ (keep_sdfReady _ ?_)
  refine keep_foldl (fun s b h => keep_ite h fun _ => keep_enterDetect _ _ _ h) ?_
  refine keep_foldl (fun s q h => keep_wr _ _ _ (keep_wr _ _ _ h)) (keep_lanePlls _ _ _ (keep_setLocks _ _ ?_))
  exact keep_mk (keep_sram_nil (keep_pwr (keep_fold h0)))

theorem keep_planTimekeep (s : State) (h0 : Keeps z s) : Keeps z (planTimekeep s) := by
  unfold planTimekeep
  repeat' with_reducible first
    | assumption
    | intro _
    | refine keep_onPln ?_ ?_ ?_
    | refine keep_planFarewell ?_ ?_
    | refine keep_wr ?_ ?_ ?_ ?_
    | refine keep_planStart ?_ ?_
    | refine keep_ite ?_ ?_

theorem keep_planSleep (s : State) (h0 : Keeps z s) : Keeps z (planSleep s) := by
  unfold planSleep
  repeat' with_reducible first
    | assumption
    | intro _
    | refine keep_onPln ?_ ?_ ?_
    | refine keep_planStart ?_ ?_

theorem keep_enterState (fr : Nat) (dest : Nat) (s : State) (h2 : Keeps z s) : Keeps z (enterState fr dest s) := by
  unfold enterState
  extract_lets o s1 s2 s3 p4 s4 s5 t1 t2 t3 t4 t5 t6 t7 t8
  have k1 : Keeps z s1 := keep_ite h2 fun _ => keep_loseData _ h2
  have k3 : Keeps z s3 := keep_setReg _ _ _ (keep_raise _ _ (keep_wr _ _ _ (keep_wr _ _ _ k1)))
  have k4 : Keeps z s4 := keep_mk (keep_pwr (keep_fold k3))
  have k5 : Keeps z s5 := keep_ite k4 fun _ => keep_ntmStart _ k4
  have j2 : Keeps z t2 := keep_lanePlls _ _ _ (keep_setLocks _ _ k5)
  have j3 : Keeps z t3 := keep_ite j2 fun _ => keep_lanePlls _ _ _ j2
  have j4 : Keeps z t4 := keep_foldl (fun _ _ h => keep_wr _ _ _ (keep_wr _ _ _ h)) j3
  have j5 : Keeps z t5 := keep_ite (keep_ntmCoast _ (keep_planSleep _ j4)) fun _ => keep_ite j4 fun _ => keep_planTimekeep _ j4
  have j6 : Keeps z t6 := keep_ite j5 fun _ => keep_wr _ _ _ j5
  have j8 : Keeps z t8 := keep_ite (keep_safRefresh _ (keep_mk (keep_fold j6))) fun _ => keep_readyUp _ k5
  exact keep_degradedWatch _ _ h2 (keep_ntmRemode _ _ j8)

theorem keep_execStateEntryDone (t : Nat) (s : State) (h1 : Keeps z s) : ∀ u, (execStateEntryDone t s) = .next u → Keeps z u := by
  intro u e
  unfold execStateEntryDone at e
  refine keep_next ?_ e
  clear e
  repeat' with_reducible first
    | assumption
    | intro _
    | refine keep_at' ?_ ?_ ?_
    | refine keep_enterState ?_ ?_ ?_ ?_
    | refine keep_ite ?_ ?_
    | refine keep_snd ‹_› ?_
    | refine keep_snd2 ‹_› ?_
    | refine keep_snd3 ‹_› ?_
    | refine keep_fst ‹_› ?_
    | split

theorem keep_timeEdgeApply (t : Nat) (s : State) (h1 : Keeps z s) : Keeps z (timeEdgeApply t s) := by
  unfold timeEdgeApply
  repeat' with_reducible first
    | assumption
    | intro _
    | refine keep_setReg ?_ ?_ ?_ ?_
    | refine keep_onPair ?_ ?_ ?_
    | refine keep_stepApplied ?_ ?_ ?_
    | refine keep_ite ?_ ?_
    | refine keep_snd ‹_› ?_
    | refine keep_snd2 ‹_› ?_
    | refine keep_snd3 ‹_› ?_
    | refine keep_fst ‹_› ?_
    | split
    | dsimp only
    | exact keep_fold ‹_›
    | refine keep_fold ?_
    | refine keep_mk ?_

theorem keep_rejoinLane (s : State) (b : Nat) (l : Nat) (h0 : Keeps z s) : Keeps z (rejoinLane s b l) := by
  unfold rejoinLane
  repeat' with_reducible first
    | assumption
    | intro _
    | refine keep_laneEvent ?_ ?_ ?_ ?_
    | refine keep_setLane ?_ ?_ ?_ ?_
    | refine keep_raise ?_ ?_ ?_
    | refine keep_bump ?_ ?_ ?_

theorem keep_laneMaskSwitch (b : Nat) (rx : Bool) (s : State) (h2 : Keeps z s) : Keeps z (laneMaskSwitch b rx s) := by
  unfold laneMaskSwitch
  repeat' with_reducible first
    | assumption
    | intro _
    | refine keep_showLanes ?_ ?_ ?_
    | refine keep_setBundle ?_ ?_ ?_ ?_
    | refine keep_setLane ?_ ?_ ?_ ?_
    | refine keep_partnerLeft ?_ ?_ ?_ ?_
    | refine keep_wr ?_ ?_ ?_ ?_
    | refine keep_newLcw ?_ ?_ ?_
    | refine keep_rejoinLane ?_ ?_ ?_ ?_
    | refine keep_foldl ?_ ?_
    | refine keep_ite ?_ ?_
    | refine keep_snd ‹_› ?_
    | refine keep_snd2 ‹_› ?_
    | refine keep_snd3 ‹_› ?_
    | refine keep_fst ‹_› ?_
    | split

theorem keep_execLaneMaskSwitch (t : Nat) (b : Nat) (rx : Bool) (s : State) (h3 : Keeps z s) :
    ∀ u, (execLaneMaskSwitch t b rx s) = .next u → Keeps z u := by
  intro u e
  unfold execLaneMaskSwitch at e
  refine keep_next ?_ e
  clear e
  repeat' with_reducible first
    | assumption
    | intro _
    | refine keep_laneMaskSwitch ?_ ?_ ?_ ?_
    | refine keep_at' ?_ ?_ ?_

theorem keep_roundStart (s : State) (h0 : Keeps z s) : Keeps z (roundStart s) := by
  unfold roundStart
  repeat' with_reducible first
    | assumption
    | intro _
    | refine keep_onHka ?_ ?_ ?_
    | refine keep_chanRestart ?_ ?_ ?_
    | refine keep_wr ?_ ?_ ?_ ?_
    | refine keep_hkaNext ?_ ?_
    | refine keep_foldl ?_ ?_
    | refine keep_ite ?_ ?_

theorem keep_blankTimeout (s : State) (h0 : Keeps z s) : Keeps z (blankTimeout s) := by
  unfold blankTimeout
  repeat' with_reducible first
    | assumption
    | intro _
    | refine keep_roundNext ?_ ?_ ?_
    | refine keep_onHka ?_ ?_ ?_
    | refine keep_setReg ?_ ?_ ?_ ?_
    | refine keep_thmResult ?_ ?_ ?_ ?_ ?_ ?_
    | refine keep_placeResult ?_ ?_ ?_ ?_ ?_ ?_ ?_ ?_ ?_
    | refine keep_urgentOver ?_ ?_ ?_
    | refine keep_hkaNext ?_ ?_
    | refine keep_raise ?_ ?_ ?_
    | refine keep_bump ?_ ?_ ?_
    | refine keep_ite ?_ ?_
    | refine keep_snd ‹_› ?_
    | refine keep_snd2 ‹_› ?_
    | refine keep_snd3 ‹_› ?_
    | refine keep_fst ‹_› ?_
    | split

theorem keep_mergePulse (s : State) (c : Nat) (h0 : Keeps z s) : Keeps z (mergePulse s c) := by
  unfold mergePulse
  repeat' with_reducible first
    | assumption
    | intro _
    | refine keep_setChan ?_ ?_ ?_ ?_
    | refine keep_bump ?_ ?_ ?_

theorem keep_beginHit (s : State) (c : Nat) (raw : Nat) (shot : Option Nat) (index : Nat) (dark : Bool) (h0 : Keeps z s) :
    Keeps z (beginHit s c raw shot index dark) := by
  unfold beginHit
  repeat' with_reducible first
    | assumption
    | intro _
    | refine keep_setChan ?_ ?_ ?_ ?_
    | refine keep_bump ?_ ?_ ?_
    | refine keep_tduEvent ?_ ?_ ?_ ?_
    | refine keep_ite ?_ ?_

theorem keep_excessHit (s : State) (c : Nat) (e : Nat) (h0 : Keeps z s) : Keeps z (excessHit s c e) := by
  unfold excessHit
  repeat' with_reducible first
    | assumption
    | intro _
    | refine keep_setChan ?_ ?_ ?_ ?_
    | refine keep_raise ?_ ?_ ?_
    | refine keep_bump ?_ ?_ ?_

theorem keep_gatedEdge (s : State) (c : Nat) (raw : Nat) (shot : Shot) (dark : Bool) (h0 : Keeps z s) :
    Keeps z (gatedEdge s c raw shot dark) := by
  unfold gatedEdge
  repeat' with_reducible first
    | assumption
    | intro _
    | refine keep_setChan ?_ ?_ ?_ ?_
    | refine keep_beginHit ?_ ?_ ?_ ?_ ?_ ?_ ?_
    | refine keep_excessHit ?_ ?_ ?_ ?_
    | refine keep_ite ?_ ?_

theorem keep_hitLeadingEdge (raw : Nat) (c : Nat) (s : State) (h2 : Keeps z s) : Keeps z (hitLeadingEdge raw c s) := by
  unfold hitLeadingEdge
  repeat' with_reducible first
    | assumption
    | intro _
    | refine keep_beginHit ?_ ?_ ?_ ?_ ?_ ?_ ?_
    | refine keep_gatedEdge ?_ ?_ ?_ ?_ ?_ ?_
    | refine keep_mergePulse ?_ ?_ ?_
    | refine keep_ite ?_ ?_
    | refine keep_snd ‹_› ?_
    | refine keep_snd2 ‹_› ?_
    | refine keep_snd3 ‹_› ?_
    | refine keep_fst ‹_› ?_
    | split

theorem keep_underrunAt (y : Nat) (s : State) (u : Nat × Nat) (h1 : Keeps z s) : Keeps z (underrunAt y s u) := by
  unfold underrunAt
  repeat' with_reducible first
    | assumption
    | intro _
    | refine keep_wr ?_ ?_ ?_ ?_
    | refine keep_onVid ?_ ?_ ?_
    | refine keep_raise ?_ ?_ ?_
    | refine keep_bump ?_ ?_ ?_
    | refine keep_ite ?_ ?_

theorem keep_rmsDet (s : State) (c : Nat) (m : Nat) (h0 : Keeps z s) : Keeps z (rmsDet s c m) := by
  unfold rmsDet
  repeat' with_reducible first
    | assumption
    | intro _
    | refine keep_detFlag ?_ ?_ ?_ ?_ ?_ ?_
    | refine keep_setSdf ?_ ?_ ?_ ?_
    | refine keep_wr ?_ ?_ ?_ ?_
    | refine keep_ite ?_ ?_

theorem keep_sdfDeliver (s : State) (c : Nat) (y : Int) (h0 : Keeps z s) : Keeps z (sdfDeliver s c y) := by
  unfold sdfDeliver
  repeat' with_reducible first
    | assumption
    | intro _
    | refine keep_overcurrent ?_ ?_ ?_ ?_
    | refine keep_setSdf ?_ ?_ ?_ ?_
    | refine keep_setReg ?_ ?_ ?_ ?_
    | refine keep_peakEnv ?_ ?_ ?_ ?_
    | refine keep_wr ?_ ?_ ?_ ?_
    | refine keep_rmsDet ?_ ?_ ?_ ?_

theorem keep_sdfOutput (c : Nat) (bits : List Bool) (s : State) (h2 : Keeps z s) : Keeps z (sdfOutput c bits s) := by
  unfold sdfOutput
  repeat' with_reducible first
    | assumption
    | intro _
    | refine keep_sdfSamples ?_ ?_ ?_ ?_
    | refine keep_setSdf ?_ ?_ ?_ ?_
    | refine keep_sdfDeliver ?_ ?_ ?_ ?_
    | refine keep_ite ?_ ?_

theorem keep_execIdxLost (t : Nat) (s : State) (h1 : Keeps z s) : ∀ u, (execIdxLost t s) = .next u → Keeps z u := by
  intro u e
  unfold execIdxLost at e
  refine keep_next ?_ e
  clear e
  repeat' with_reducible first
    | assumption
    | intro _
    | refine keep_idxLostEvent ?_ ?_
    | refine keep_at' ?_ ?_ ?_

theorem keep_execTripLatchClear (t : Nat) (r : Requester) (d : Nat) (s : State) (h3 : Keeps z s) :
    ∀ u, (execTripLatchClear t r d s) = .next u → Keeps z u := by
  intro u e
  unfold execTripLatchClear at e
  refine keep_next ?_ e
  clear e
  repeat' with_reducible first
    | assumption
    | intro _
    | refine keep_accessW ?_ ?_ ?_ ?_ ?_ ?_

theorem keep_tiles (frame : Nat) (tile : Option (Nat × Nat × Nat)) (ended : Bool) (stopped : Bool) (s : State) (h4 : Keeps z s) :
    Keeps z (tiles frame tile ended stopped s) := by
  unfold tiles
  repeat' with_reducible first
    | assumption
    | intro _
    | refine keep_onPair ?_ ?_ ?_
    | refine keep_cmpJudge ?_ ?_ ?_
    | refine keep_ite ?_ ?_

theorem keep_execTiles (t : Nat) (frame : Nat) (tile : Option (Nat × Nat × Nat)) (ended : Bool) (stopped : Bool) (s : State) (h5 : Keeps z s) :
    ∀ u, (execTiles t frame tile ended stopped s) = .next u → Keeps z u := by
  intro u e
  unfold execTiles at e
  refine keep_next ?_ e
  clear e
  repeat' with_reducible first
    | assumption
    | intro _
    | refine keep_tiles ?_ ?_ ?_ ?_ ?_ ?_
    | refine keep_at' ?_ ?_ ?_

end Sys2Proof.Machine
end

