-- ==== Sys2Proof/Laws/KeepF.lean ====
section
/-!
SUPPORT. What each operation keeps, part 6: the canonical form of the memories, and legal fuses.
-/

namespace Sys2Proof.Machine

set_option Elab.async false

variable {z : State}

theorem keep_crcLine (s : State) (under : List (Nat × Nat)) (y : Nat) (pix : List (List Nat)) (h0 : Keeps z s) :
    Keeps z (crcLine s under y pix) := by
  unfold crcLine
  repeat' with_reducible first
    | assumption
    | intro _
    | refine keep_onVid ?_ ?_ ?_

theorem keep_fetchLine (s : State) (y : Nat) (h0 : Keeps z s) : Keeps z (fetchLine s y) := by
  unfold fetchLine
  repeat' with_reducible first
    | assumption
    | intro _
    | refine keep_onVid ?_ ?_ ?_
    | refine keep_monSample ?_ ?_ ?_ ?_ ?_

theorem keep_vidLine (s : State) (under : List (Nat × Nat)) (h0 : Keeps z s) : Keeps z (vidLine s under) := by
  unfold vidLine
  repeat' with_reducible first
    | assumption
    | intro _
    | refine keep_wr ?_ ?_ ?_ ?_
    | refine keep_wrB ?_ ?_ ?_ ?_
    | refine keep_underrunAt ?_ ?_ ?_ ?_
    | refine keep_fetchLine ?_ ?_ ?_
    | refine keep_crcLine ?_ ?_ ?_ ?_ ?_
    | refine keep_sendLine ?_ ?_ ?_ ?_
    | refine keep_foldl ?_ ?_
    | refine keep_foldl_snd ?_ ?_
    | refine keep_ite ?_ ?_

theorem keep_hkaStale (c : Nat) (s : State) (h1 : Keeps z s) : Keeps z (hkaStale c s) := by
  unfold hkaStale
  repeat' with_reducible first
    | assumption
    | intro _
    | refine keep_wr ?_ ?_ ?_ ?_
    | refine keep_calStale ?_ ?_
    | refine keep_ite ?_ ?_

theorem keep_execHkaStale (t : Nat) (c : Nat) (s : State) (h2 : Keeps z s) : ∀ u, (execHkaStale t c s) = .next u → Keeps z u := by
  intro u e
  unfold execHkaStale at e
  refine keep_next ?_ e
  clear e
  repeat' with_reducible first
    | assumption
    | intro _
    | refine keep_hkaStale ?_ ?_ ?_
    | refine keep_at' ?_ ?_ ?_

theorem keep_execLcKeyWrite (t : Nat) (r : Requester) (d : Nat) (s : State) (h3 : Keeps z s) :
    ∀ u, (execLcKeyWrite t r d s) = .next u → Keeps z u := by
  intro u e
  unfold execLcKeyWrite at e
  refine keep_next ?_ e
  clear e
  repeat' with_reducible first
    | assumption
    | intro _
    | refine keep_accessW ?_ ?_ ?_ ?_ ?_ ?_

theorem keep_execHitAccumulate (t : Nat) (c : Nat) (s : State) (h2 : Keeps z s) :
    ∀ u, (execHitAccumulate t c s) = .next u → Keeps z u := by
  intro u e
  unfold execHitAccumulate at e
  refine keep_next ?_ e
  clear e
  repeat' with_reducible first
    | assumption
    | intro _
    | refine keep_hitAccumulate ?_ ?_ ?_
    | refine keep_at' ?_ ?_ ?_

theorem keep_execArbWaitExpire (t : Nat) (s : State) (h1 : Keeps z s) : ∀ u, (execArbWaitExpire t s) = .next u → Keeps z u := by
  intro u e
  unfold execArbWaitExpire at e
  refine keep_next ?_ e
  clear e
  repeat' with_reducible first
    | assumption
    | intro _
    | refine keep_arbWaitExpire ?_ ?_ ?_
    | refine keep_at' ?_ ?_ ?_

theorem keep_execLampDiagSample (t : Nat) (l : Nat) (short : Bool) (high : Bool) (s : State) (h4 : Keeps z s) :
    ∀ u, (execLampDiagSample t l short high s) = .next u → Keeps z u := by
  intro u e
  unfold execLampDiagSample at e
  refine keep_next ?_ e
  clear e
  repeat' with_reducible first
    | assumption
    | intro _
    | refine keep_lampDiagSample ?_ ?_ ?_ ?_ ?_ ?_
    | refine keep_at' ?_ ?_ ?_

theorem keep_execSdfOutput (t : Nat) (c : Nat) (bits : List Bool) (s : State) (h3 : Keeps z s) :
    ∀ u, (execSdfOutput t c bits s) = .next u → Keeps z u := by
  intro u e
  unfold execSdfOutput at e
  refine keep_next ?_ e
  clear e
  repeat' with_reducible first
    | assumption
    | intro _
    | refine keep_sdfOutput ?_ ?_ ?_ ?_
    | refine keep_at' ?_ ?_ ?_

theorem keep_cfgWindowTimeout (t : Nat) (s : State) (h1 : Keeps z s) : Keeps z (cfgWindowTimeout t s) := by
  unfold cfgWindowTimeout
  repeat' with_reducible first
    | assumption
    | intro _
    | refine keep_safClose ?_ ?_
    | refine keep_at' ?_ ?_ ?_
    | refine keep_ite ?_ ?_

theorem keep_execCfgWindowTimeout (t : Nat) (s : State) (h1 : Keeps z s) :
    ∀ u, (execCfgWindowTimeout t s) = .next u → Keeps z u := by
  intro u e
  unfold execCfgWindowTimeout at e
  refine keep_next ?_ e
  clear e
  repeat' with_reducible first
    | assumption
    | intro _
    | refine keep_cfgWindowTimeout ?_ ?_ ?_

theorem keep_startSettleEnd (t : Nat) (m : Nat) (s : State) (h2 : Keeps z s) : Keeps z (startSettleEnd t m s) := by
  unfold startSettleEnd
  repeat' with_reducible first
    | assumption
    | intro _
    | refine keep_ite ?_ ?_
    | split
    | dsimp only
    | exact keep_fold ‹_›
    | refine keep_fold ?_
    | refine keep_mk ?_

theorem keep_execStartSettleEnd (t : Nat) (m : Nat) (s : State) (h2 : Keeps z s) :
    ∀ u, (execStartSettleEnd t m s) = .next u → Keeps z u := by
  intro u e
  unfold execStartSettleEnd at e
  refine keep_next ?_ e
  clear e
  repeat' with_reducible first
    | assumption
    | intro _
    | refine keep_startSettleEnd ?_ ?_ ?_ ?_
    | refine keep_at' ?_ ?_ ?_

theorem keep_offsetDone (s : State) (j : CalJob) (h0 : Keeps z s) : Keeps z (offsetDone s j) := by
  unfold offsetDone
  repeat' with_reducible first
    | assumption
    | intro _
    | refine keep_recPut ?_ ?_ ?_ ?_ ?_ ?_ ?_
    | refine keep_dirPut ?_ ?_ ?_ ?_
    | refine keep_calPut ?_ ?_ ?_ ?_
    | refine keep_jobEnd ?_ ?_ ?_
    | refine keep_foldl ?_ ?_

theorem keep_execLaneRetrainEnd (t : Nat) (l : Nat) (ok : Bool) (s : State) (h3 : Keeps z s) :
    ∀ u, (execLaneRetrainEnd t l ok s) = .next u → Keeps z u := by
  intro u e
  unfold execLaneRetrainEnd at e
  refine keep_next ?_ e
  clear e
  repeat' with_reducible first
    | assumption
    | intro _
    | refine keep_laneRetrainEnd ?_ ?_ ?_ ?_
    | refine keep_at' ?_ ?_ ?_

theorem keep_execAbort (t : Nat) (r : Requester) (s : State) (h2 : Keeps z s) : ∀ u, (execAbort t r s) = .next u → Keeps z u := by
  intro u e
  unfold execAbort at e
  refine keep_next ?_ e
  clear e
  repeat' with_reducible first
    | assumption
    | intro _
    | refine keep_accessW ?_ ?_ ?_ ?_ ?_ ?_

theorem keep_execColDataAccess (t : Nat) (r : Requester) (d : Option Nat) (s : State) (h3 : Keeps z s) :
    ∀ u, (execColDataAccess t r d s) = .next u → Keeps z u := by
  intro u e
  unfold execColDataAccess at e
  refine keep_next ?_ e
  clear e
  repeat' with_reducible first
    | assumption
    | intro _
    | refine keep_accessEither ?_ ?_ ?_ ?_ ?_ ?_

theorem keep_execStandbyHoldApply (t : Nat) (s : State) (h1 : Keeps z s) :
    ∀ u, (execStandbyHoldApply t s) = .next u → Keeps z u := by
  intro u e
  unfold execStandbyHoldApply at e
  refine keep_next ?_ e
  clear e
  repeat' with_reducible first
    | assumption
    | intro _
    | refine keep_standbyHoldApply ?_ ?_ ?_
    | refine keep_at' ?_ ?_ ?_

theorem keep_execLcTransitionDone (t : Nat) (s : State) (h1 : Keeps z s) :
    ∀ u, (execLcTransitionDone t s) = .next u → Keeps z u := by
  intro u e
  unfold execLcTransitionDone at e
  refine keep_next ?_ e
  clear e
  repeat' with_reducible first
    | assumption
    | intro _
    | refine keep_lcFinish ?_ ?_
    | refine keep_deviceReset ?_ ?_ ?_
    | refine keep_at' ?_ ?_ ?_
    | refine keep_ite ?_ ?_

theorem keep_resetStuckClear (t : Nat) (s : State) (h1 : Keeps z s) : Keeps z (resetStuckClear t s) := by
  unfold resetStuckClear
  repeat' with_reducible first
    | assumption
    | intro _
    | refine keep_wr ?_ ?_ ?_ ?_
    | refine keep_at' ?_ ?_ ?_
    | refine keep_ite ?_ ?_

theorem keep_openPixel (s : State) (p : PixelId) (h0 : Keeps z s) : Keeps z (openPixel s p) := by
  unfold openPixel
  repeat' with_reducible first
    | assumption
    | intro _
    | refine keep_watchFree ?_ ?_ ?_ ?_
    | refine keep_setPixel ?_ ?_ ?_ ?_
    | refine keep_setEngine ?_ ?_ ?_ ?_
    | refine keep_sampleOpen ?_ ?_ ?_
    | refine keep_foldl ?_ ?_
    | dsimp only
    | exact keep_fold ‹_›
    | refine keep_fold ?_
    | refine keep_mk ?_
    | refine keep_sram_nil ?_
    | refine keep_cal_nil ?_
    | refine keep_sram_word ?_
    | refine keep_cal_word ?_
    | refine keep_sram_half ?_
    | refine keep_sram_clear ?_
    | refine keep_cal_clear ?_
    | refine keep_cal_byte ?_
    | refine keep_sram_foldl ?_ ?_

theorem keep_columnStartMarker (c : Nat) (s : State) (h1 : Keeps z s) : Keeps z (columnStartMarker c s) := by
  unfold columnStartMarker
  repeat' with_reducible first
    | assumption
    | intro _
    | refine keep_refusePixel ?_ ?_ ?_
    | refine keep_setPath ?_ ?_ ?_ ?_
    | refine keep_openPixel ?_ ?_ ?_
    | refine keep_ite ?_ ?_
    | refine keep_snd ‹_› ?_
    | refine keep_snd2 ‹_› ?_
    | refine keep_snd3 ‹_› ?_
    | refine keep_fst ‹_› ?_
    | split

theorem keep_execEth (t : Nat) (b : Nat) (len : Nat) (body : List Word) (s : State) (h4 : Keeps z s) :
    ∀ u, (execEth t b len body s) = .next u → Keeps z u := by
  intro u e
  unfold execEth at e
  refine keep_next ?_ e
  clear e
  repeat' with_reducible first
    | assumption
    | intro _
    | refine keep_ethFromHost ?_ ?_ ?_ ?_ ?_
    | refine keep_at' ?_ ?_ ?_

theorem keep_execCommitApply (t : Nat) (q : Point) (s : State) (h2 : Keeps z s) :
    ∀ u, (execCommitApply t q s) = .next u → Keeps z u := by
  intro u e
  unfold execCommitApply at e
  refine keep_next ?_ e
  clear e
  repeat' with_reducible first
    | assumption
    | intro _
    | refine keep_commitApply ?_ ?_ ?_
    | refine keep_at' ?_ ?_ ?_
    | refine keep_ite ?_ ?_

theorem keep_execLockTimeout (t : Nat) (s : State) (h1 : Keeps z s) : ∀ u, (execLockTimeout t s) = .next u → Keeps z u := by
  intro u e
  unfold execLockTimeout at e
  refine keep_next ?_ e
  clear e
  repeat' with_reducible first
    | assumption
    | intro _
    | refine keep_recFail ?_ ?_ ?_ ?_
    | refine keep_setReg ?_ ?_ ?_ ?_
    | refine keep_wr ?_ ?_ ?_ ?_
    | refine keep_raise ?_ ?_ ?_
    | refine keep_at' ?_ ?_ ?_
    | refine keep_ite ?_ ?_
    | refine keep_snd ‹_› ?_
    | refine keep_snd2 ‹_› ?_
    | refine keep_snd3 ‹_› ?_
    | refine keep_fst ‹_› ?_
    | split
    | dsimp only
    | exact keep_fold ‹_›
    | refine keep_fold ?_
    | refine keep_mk ?_
    | refine keep_sram_nil ?_
    | refine keep_cal_nil ?_
    | refine keep_sram_word ?_
    | refine keep_cal_word ?_
    | refine keep_sram_half ?_
    | refine keep_sram_clear ?_
    | refine keep_cal_clear ?_
    | refine keep_cal_byte ?_
    | refine keep_sram_foldl ?_ ?_
    | refine keep_cal_foldl ?_ ?_
    | refine keep_sram_ite ?_ ?_
    | refine keep_ringWords ?_
    | refine keep_densityTable ?_
    | refine keep_pwr ?_

theorem keep_execStCtrlWrite (t : Nat) (r : Requester) (m : Nat) (d : Nat) (s : State) (h4 : Keeps z s) :
    ∀ u, (execStCtrlWrite t r m d s) = .next u → Keeps z u := by
  intro u e
  unfold execStCtrlWrite at e
  refine keep_next ?_ e
  clear e
  repeat' with_reducible first
    | assumption
    | intro _
    | refine keep_accessW ?_ ?_ ?_ ?_ ?_ ?_

theorem keep_execPressPrimeDone (t : Nat) (e : Nat) (s : State) (h2 : Keeps z s) :
    ∀ u, (execPressPrimeDone t e s) = .next u → Keeps z u := by
  intro u e
  unfold execPressPrimeDone at e
  refine keep_next ?_ e
  clear e
  repeat' with_reducible first
    | assumption
    | intro _
    | refine keep_pressPrimeDone ?_ ?_ ?_ ?_
    | refine keep_at' ?_ ?_ ?_

theorem keep_ppsOutEnd (t : Nat) (s : State) (h1 : Keeps z s) : Keeps z (ppsOutEnd t s) := by
  unfold ppsOutEnd
  repeat' with_reducible first
    | assumption
    | intro _
    | refine keep_ite ?_ ?_
    | split
    | dsimp only
    | exact keep_fold ‹_›
    | refine keep_fold ?_
    | refine keep_mk ?_

theorem keep_execHbLost (t : Nat) (s : State) (h1 : Keeps z s) : ∀ u, (execHbLost t s) = .next u → Keeps z u := by
  intro u e
  unfold execHbLost at e
  refine keep_next ?_ e
  clear e
  repeat' with_reducible first
    | assumption
    | intro _
    | refine keep_hbLost ?_ ?_ ?_
    | refine keep_at' ?_ ?_ ?_

theorem keep_execSegmentSend (t : Nat) (b : Nat) (s : State) (h2 : Keeps z s) :
    ∀ u, (execSegmentSend t b s) = .next u → Keeps z u := by
  intro u e
  unfold execSegmentSend at e
  refine keep_next ?_ e
  clear e
  repeat' with_reducible first
    | assumption
    | intro _
    | refine keep_segmentSend ?_ ?_ ?_ ?_
    | refine keep_at' ?_ ?_ ?_

theorem keep_peersBeat (s : State) (h0 : Keeps z s) : Keeps z (peersBeat s) := by
  unfold peersBeat
  repeat' with_reducible first
    | assumption
    | intro _
    | refine keep_onPln ?_ ?_ ?_
    | refine keep_bumpBy ?_ ?_ ?_ ?_
    | refine keep_raise ?_ ?_ ?_
    | refine keep_ite ?_ ?_

theorem keep_execClkReqWrite (t : Nat) (r : Requester) (d : Nat) (s : State) (h3 : Keeps z s) :
    ∀ u, (execClkReqWrite t r d s) = .next u → Keeps z u := by
  intro u e
  unfold execClkReqWrite at e
  refine keep_next ?_ e
  clear e
  repeat' with_reducible first
    | assumption
    | intro _
    | refine keep_accessW ?_ ?_ ?_ ?_ ?_ ?_

theorem keep_execWideValueLowRead (t : Nat) (r : Requester) (a : Nat) (s : State) (h3 : Keeps z s) :
    ∀ u, (execWideValueLowRead t r a s) = .next u → Keeps z u := by
  intro u e
  unfold execWideValueLowRead at e
  refine keep_next ?_ e
  clear e
  repeat' with_reducible first
    | assumption
    | intro _
    | refine keep_access ?_ ?_ ?_ ?_ ?_

theorem keep_pathCompare (t : Nat) (s : State) (h1 : Keeps z s) : Keeps z (pathCompare t s) := by
  unfold pathCompare
  repeat' with_reducible first
    | assumption
    | intro _
    | refine keep_safSpeedRefresh ?_ ?_
    | refine keep_safLatch ?_ ?_ ?_ ?_ ?_ ?_
    | refine keep_bump ?_ ?_ ?_
    | refine keep_safRefresh ?_ ?_
    | refine keep_at' ?_ ?_ ?_
    | refine keep_ite ?_ ?_
    | split
    | dsimp only
    | exact keep_fold ‹_›
    | refine keep_fold ?_
    | refine keep_mk ?_

theorem keep_ss1Standstill (t : Nat) (s : State) (h1 : Keeps z s) : Keeps z (ss1Standstill t s) := by
  unfold ss1Standstill
  repeat' with_reducible first
    | assumption
    | intro _
    | refine keep_ss1End ?_ ?_
    | refine keep_wr ?_ ?_ ?_ ?_
    | refine keep_motStandstill ?_ ?_
    | refine keep_safRefresh ?_ ?_
    | refine keep_at' ?_ ?_ ?_
    | refine keep_ite ?_ ?_
    | refine keep_snd ‹_› ?_
    | refine keep_snd2 ‹_› ?_
    | refine keep_snd3 ‹_› ?_
    | refine keep_fst ‹_› ?_
    | split
    | dsimp only

theorem keep_autoTrigger (t : Nat) (s : State) (h1 : Keeps z s) : Keeps z (autoTrigger t s) := by
  unfold autoTrigger
  repeat' with_reducible first
    | assumption
    | intro _
    | refine keep_trigEvent ?_ ?_ ?_ ?_ ?_ ?_
    | refine keep_autoRestart ?_ ?_
    | refine keep_ite ?_ ?_
    | refine keep_snd ‹_› ?_
    | refine keep_snd2 ‹_› ?_
    | refine keep_snd3 ‹_› ?_
    | refine keep_fst ‹_› ?_
    | split

theorem keep_execTimeEdgeApply (t : Nat) (s : State) (h1 : Keeps z s) : ∀ u, (execTimeEdgeApply t s) = .next u → Keeps z u := by
  intro u e
  unfold execTimeEdgeApply at e
  refine keep_next ?_ e
  clear e
  repeat' with_reducible first
    | assumption
    | intro _
    | refine keep_timeEdgeApply ?_ ?_ ?_
    | refine keep_at' ?_ ?_ ?_

theorem keep_lrefLost (g : Nat) (s : State) (h1 : Keeps z s) : Keeps z (lrefLost g s) := by
  unfold lrefLost
  repeat' with_reducible first
    | assumption
    | intro _
    | refine keep_raiseAt ?_ ?_ ?_ ?_
    | refine keep_groupUnlock ?_ ?_ ?_
    | refine keep_wrBit ?_ ?_ ?_ ?_ ?_
    | refine keep_ite ?_ ?_

theorem keep_execLrefLost (t : Nat) (g : Nat) (s : State) (h2 : Keeps z s) : ∀ u, (execLrefLost t g s) = .next u → Keeps z u := by
  intro u e
  unfold execLrefLost at e
  refine keep_next ?_ e
  clear e
  repeat' with_reducible first
    | assumption
    | intro _
    | refine keep_lrefLost ?_ ?_ ?_
    | refine keep_at' ?_ ?_ ?_

theorem keep_execNttArm (t : Nat) (r : Requester) (i : Nat) (d : Nat) (s : State) (h4 : Keeps z s) :
    ∀ u, (execNttArm t r i d s) = .next u → Keeps z u := by
  intro u e
  unfold execNttArm at e
  refine keep_next ?_ e
  clear e
  repeat' with_reducible first
    | assumption
    | intro _
    | refine keep_accessW ?_ ?_ ?_ ?_ ?_ ?_

theorem keep_execAcqEnableWrite (t : Nat) (r : Requester) (d : Nat) (s : State) (h3 : Keeps z s) :
    ∀ u, (execAcqEnableWrite t r d s) = .next u → Keeps z u := by
  intro u e
  unfold execAcqEnableWrite at e
  refine keep_next ?_ e
  clear e
  repeat' with_reducible first
    | assumption
    | intro _
    | refine keep_accessW ?_ ?_ ?_ ?_ ?_ ?_

theorem keep_execMbRxDataRead (t : Nat) (r : Requester) (s : State) (h2 : Keeps z s) :
    ∀ u, (execMbRxDataRead t r s) = .next u → Keeps z u := by
  intro u e
  unfold execMbRxDataRead at e
  refine keep_next ?_ e
  clear e
  repeat' with_reducible first
    | assumption
    | intro _
    | refine keep_access ?_ ?_ ?_ ?_ ?_

theorem keep_coastingClear (s : State) (h0 : Keeps z s) : Keeps z (coastingClear s) := by
  unfold coastingClear
  repeat' with_reducible first
    | assumption
    | intro _
    | refine keep_wr ?_ ?_ ?_ ?_
    | refine keep_ite ?_ ?_

theorem keep_execCoastingClear (t : Nat) (s : State) (h1 : Keeps z s) : ∀ u, (execCoastingClear t s) = .next u → Keeps z u := by
  intro u e
  unfold execCoastingClear at e
  refine keep_next ?_ e
  clear e
  repeat' with_reducible first
    | assumption
    | intro _
    | refine keep_coastingClear ?_ ?_
    | refine keep_at' ?_ ?_ ?_

theorem keep_execHitWidthLimit (t : Nat) (c : Nat) (high : Bool) (s : State) (h3 : Keeps z s) :
    ∀ u, (execHitWidthLimit t c high s) = .next u → Keeps z u := by
  intro u e
  unfold execHitWidthLimit at e
  refine keep_next ?_ e
  clear e
  repeat' with_reducible first
    | assumption
    | intro _
    | refine keep_hitWidthLimit ?_ ?_ ?_ ?_ ?_
    | refine keep_at' ?_ ?_ ?_

theorem keep_vidEnd (s : State) (h0 : Keeps z s) : Keeps z (vidEnd s) := by
  unfold vidEnd
  repeat' with_reducible first
    | assumption
    | intro _
    | refine keep_setReg ?_ ?_ ?_ ?_
    | refine keep_freezeEnd ?_ ?_ ?_
    | refine keep_onVid ?_ ?_ ?_
    | refine keep_wrBit ?_ ?_ ?_ ?_ ?_
    | refine keep_raise ?_ ?_ ?_
    | refine keep_bump ?_ ?_ ?_
    | refine keep_foldl ?_ ?_
    | refine keep_ite ?_ ?_

theorem keep_arb (id : Nat) (prefer : Bool) (health : Nat) (runs : Bool) (s : State) (h4 : Keeps z s) :
    Keeps z (arb id prefer health runs s) := by
  unfold arb
  repeat' with_reducible first
    | assumption
    | intro _
    | refine keep_pairWatch ?_ ?_
    | refine keep_pairLatch ?_ ?_ ?_
    | refine keep_sdfRedirect ?_ ?_ ?_ ?_
    | refine keep_setRole ?_ ?_ ?_
    | refine keep_wr ?_ ?_ ?_ ?_
    | refine keep_raise ?_ ?_ ?_
    | refine keep_onPair ?_ ?_ ?_
    | refine keep_ite ?_ ?_

theorem keep_execArb (t : Nat) (id : Nat) (prefer : Bool) (health : Nat) (runs : Bool) (s : State) (h5 : Keeps z s) :
    ∀ u, (execArb t id prefer health runs s) = .next u → Keeps z u := by
  intro u e
  unfold execArb at e
  refine keep_next ?_ e
  clear e
  repeat' with_reducible first
    | assumption
    | intro _
    | refine keep_arb ?_ ?_ ?_ ?_ ?_ ?_
    | refine keep_at' ?_ ?_ ?_

theorem keep_safDetail (s : State) (f : Fld) (v : Nat) (h0 : Keeps z s) : Keeps z (safDetail s f v) := by
  unfold safDetail
  repeat' with_reducible first
    | assumption
    | intro _
    | refine keep_wr ?_ ?_ ?_ ?_

theorem keep_mspiBegin (m : Mspi) (s : State) (h1 : Keeps z s) : Keeps z (mspiBegin m s) := by
  unfold mspiBegin
  repeat' with_reducible first
    | assumption
    | intro _
    | refine keep_onBus ?_ ?_ ?_

theorem keep_execWrite (t : Nat) (a : Nat) (words : List Nat) (done : Nat) (s : State) (h4 : Keeps z s) :
    ∀ u, (execWrite t a words done s) = .next u → Keeps z u := by
  intro u e
  unfold execWrite at e
  refine keep_next ?_ e
  clear e
  repeat' with_reducible first
    | assumption
    | intro _
    | refine keep_drain ?_ ?_ ?_
    | refine keep_mspiBegin ?_ ?_ ?_
    | refine keep_misoPut ?_ ?_ ?_
    | refine keep_at' ?_ ?_ ?_
    | refine keep_mspiPost ?_ ?_ ?_ ?_
    | refine keep_ite ?_ ?_

theorem keep_mirror (t : Nat) (m : LoopMirror) (s : State) (h2 : Keeps z s) : Keeps z (mirror t m s) := by
  unfold mirror
  repeat' with_reducible first
    | assumption
    | intro _
    | refine keep_onPair ?_ ?_ ?_
    | refine keep_ite ?_ ?_

theorem keep_densityDone (s : State) (j : CalJob) (h0 : Keeps z s) : Keeps z (densityDone s j) := by
  unfold densityDone
  repeat' with_reducible first
    | assumption
    | intro _
    | refine keep_jobFail ?_ ?_ ?_
    | refine keep_calPut ?_ ?_ ?_ ?_
    | refine keep_jobEnd ?_ ?_ ?_
    | refine keep_foldl ?_ ?_
    | refine keep_ite ?_ ?_
    | split
    | dsimp only
    | exact keep_fold ‹_›
    | refine keep_fold ?_
    | refine keep_mk ?_
    | refine keep_sram_nil ?_
    | refine keep_cal_nil ?_
    | refine keep_sram_word ?_
    | refine keep_cal_word ?_
    | refine keep_sram_half ?_
    | refine keep_sram_clear ?_
    | refine keep_cal_clear ?_
    | refine keep_cal_byte ?_
    | refine keep_sram_foldl ?_ ?_
    | refine keep_cal_foldl ?_ ?_
    | refine keep_sram_ite ?_ ?_
    | refine keep_ringWords ?_
    | refine keep_densityTable ?_

theorem keep_alignSend (s : State) (h0 : Keeps z s) : Keeps z (alignSend s) := by
  unfold alignSend
  repeat' with_reducible first
    | assumption
    | intro _
    | refine keep_pairSend ?_ ?_ ?_ ?_ ?_

theorem keep_arbDone (t : Nat) (s : State) (h1 : Keeps z s) : Keeps z (arbDone t s) := by
  unfold arbDone
  repeat' with_reducible first
    | assumption
    | intro _
    | refine keep_pairWatch ?_ ?_
    | refine keep_setRole ?_ ?_ ?_
    | refine keep_wr ?_ ?_ ?_ ?_
    | refine keep_alignSend ?_ ?_
    | refine keep_raise ?_ ?_ ?_
    | refine keep_arb ?_ ?_ ?_ ?_ ?_ ?_
    | refine keep_onPair ?_ ?_ ?_
    | refine keep_ite ?_ ?_
    | refine keep_snd ‹_› ?_
    | refine keep_snd2 ‹_› ?_
    | refine keep_snd3 ‹_› ?_
    | refine keep_fst ‹_› ?_
    | split
    | dsimp only

theorem keep_execArbDone (t : Nat) (s : State) (h1 : Keeps z s) : ∀ u, (execArbDone t s) = .next u → Keeps z u := by
  intro u e
  unfold execArbDone at e
  refine keep_next ?_ e
  clear e
  repeat' with_reducible first
    | assumption
    | intro _
    | refine keep_arbDone ?_ ?_ ?_
    | refine keep_at' ?_ ?_ ?_

theorem keep_execActiveOutRaise (t : Nat) (s : State) (h1 : Keeps z s) : ∀ u, (execActiveOutRaise t s) = .next u → Keeps z u := by
  intro u e
  unfold execActiveOutRaise at e
  refine keep_next ?_ e
  clear e
  repeat' with_reducible first
    | assumption
    | intro _
    | refine keep_activeOutRaise ?_ ?_ ?_
    | refine keep_at' ?_ ?_ ?_

theorem keep_execLtrigEdge (t : Nat) (g : Nat) (s : State) (h2 : Keeps z s) : ∀ u, (execLtrigEdge t g s) = .next u → Keeps z u := by
  intro u e
  unfold execLtrigEdge at e
  refine keep_next ?_ e
  clear e
  repeat' with_reducible first
    | assumption
    | intro _
    | refine keep_ltrigEdge ?_ ?_ ?_ ?_
    | refine keep_at' ?_ ?_ ?_

theorem keep_execStartFail (t : Nat) (s : State) (h1 : Keeps z s) : ∀ u, (execStartFail t s) = .next u → Keeps z u := by
  intro u e
  unfold execStartFail at e
  refine keep_next ?_ e
  clear e
  repeat' with_reducible first
    | assumption
    | intro _
    | refine keep_startFailEvent ?_ ?_
    | refine keep_at' ?_ ?_ ?_

theorem keep_queueCfgApplyIdle (t : Nat) (k : Nat) (s : State) (h2 : Keeps z s) : Keeps z (queueCfgApplyIdle t k s) := by
  unfold queueCfgApplyIdle
  repeat' with_reducible first
    | assumption
    | intro _
    | refine keep_poolWatch ?_ ?_ ?_ ?_
    | refine keep_setQueue ?_ ?_ ?_ ?_
    | refine keep_applyQueue ?_ ?_ ?_
    | refine keep_ite ?_ ?_

theorem keep_execQueueCfgApplyIdle (t : Nat) (k : Nat) (s : State) (h2 : Keeps z s) :
    ∀ u, (execQueueCfgApplyIdle t k s) = .next u → Keeps z u := by
  intro u e
  unfold execQueueCfgApplyIdle at e
  refine keep_next ?_ e
  clear e
  repeat' with_reducible first
    | assumption
    | intro _
    | refine keep_queueCfgApplyIdle ?_ ?_ ?_ ?_
    | refine keep_at' ?_ ?_ ?_

theorem keep_execFcGateClose (t : Nat) (k : Nat) (n : Nat) (s : State) (h3 : Keeps z s) :
    ∀ u, (execFcGateClose t k n s) = .next u → Keeps z u := by
  intro u e
  unfold execFcGateClose at e
  refine keep_next ?_ e
  clear e
  repeat' with_reducible first
    | assumption
    | intro _
    | refine keep_fcGateClose ?_ ?_ ?_ ?_ ?_
    | refine keep_at' ?_ ?_ ?_

theorem keep_execBoundaryMarker (t : Nat) (c : Nat) (s : State) (h2 : Keeps z s) :
    ∀ u, (execBoundaryMarker t c s) = .next u → Keeps z u := by
  intro u e
  unfold execBoundaryMarker at e
  refine keep_next ?_ e
  clear e
  repeat' with_reducible first
    | assumption
    | intro _
    | refine keep_boundaryMarker ?_ ?_ ?_
    | refine keep_at' ?_ ?_ ?_

theorem keep_lampAsk (s : State) (h0 : Keeps z s) : Keeps z (lampAsk s) := by
  unfold lampAsk
  repeat' with_reducible first
    | assumption
    | intro _
    | dsimp only
    | exact keep_fold ‹_›
    | refine keep_fold ?_
    | refine keep_mk ?_

theorem keep_execCrcRunCheck (t : Nat) (s : State) (h1 : Keeps z s) : ∀ u, (execCrcRunCheck t s) = .next u → Keeps z u := by
  intro u e
  unfold execCrcRunCheck at e
  refine keep_next ?_ e
  clear e
  repeat' with_reducible first
    | assumption
    | intro _
    | refine keep_crcRunCheck ?_ ?_ ?_

theorem keep_execEscEnableWrite (t : Nat) (r : Requester) (d : Nat) (s : State) (h3 : Keeps z s) :
    ∀ u, (execEscEnableWrite t r d s) = .next u → Keeps z u := by
  intro u e
  unfold execEscEnableWrite at e
  refine keep_next ?_ e
  clear e
  repeat' with_reducible first
    | assumption
    | intro _
    | refine keep_accessW ?_ ?_ ?_ ?_ ?_ ?_

theorem keep_execPairEnableWrite (t : Nat) (r : Requester) (d : Nat) (s : State) (h3 : Keeps z s) :
    ∀ u, (execPairEnableWrite t r d s) = .next u → Keeps z u := by
  intro u e
  unfold execPairEnableWrite at e
  refine keep_next ?_ e
  clear e
  repeat' with_reducible first
    | assumption
    | intro _
    | refine keep_accessW ?_ ?_ ?_ ?_ ?_ ?_

theorem keep_execMbTxDataWrite (t : Nat) (r : Requester) (d : Nat) (s : State) (h3 : Keeps z s) :
    ∀ u, (execMbTxDataWrite t r d s) = .next u → Keeps z u := by
  intro u e
  unfold execMbTxDataWrite at e
  refine keep_next ?_ e
  clear e
  repeat' with_reducible first
    | assumption
    | intro _
    | refine keep_accessW ?_ ?_ ?_ ?_ ?_ ?_

theorem keep_proofStepEnd (t : Nat) (s : State) (h1 : Keeps z s) : Keeps z (proofStepEnd t s) := by
  unfold proofStepEnd
  repeat' with_reducible first
    | assumption
    | intro _
    | refine keep_proofFail ?_ ?_ ?_ ?_
    | refine keep_proofDone ?_ ?_
    | refine keep_contactorDetail ?_ ?_ ?_ ?_
    | refine keep_lampAsk ?_ ?_
    | refine keep_ite ?_ ?_
    | refine keep_snd ‹_› ?_
    | refine keep_snd2 ‹_› ?_
    | refine keep_snd3 ‹_› ?_
    | refine keep_fst ‹_› ?_
    | split
    | dsimp only
    | exact keep_fold ‹_›
    | refine keep_fold ?_
    | refine keep_mk ?_

theorem keep_densityBin (s : State) (n : Nat) (code : Nat) (v : Nat) (h0 : Keeps z s) : Keeps z (densityBin s n code v) := by
  unfold densityBin
  repeat' with_reducible first
    | assumption
    | intro _
    | dsimp only
    | exact keep_fold ‹_›
    | refine keep_fold ?_
    | refine keep_mk ?_
    | refine keep_sram_nil ?_
    | refine keep_cal_nil ?_
    | refine keep_sram_word ?_
    | refine keep_cal_word ?_
    | refine keep_sram_half ?_
    | refine keep_sram_clear ?_
    | refine keep_cal_clear ?_
    | refine keep_cal_byte ?_

theorem keep_calEventCapture (n : Nat) (a : Nat) (b : Nat) (s : State) (h3 : Keeps z s) : Keeps z (calEventCapture n a b s) := by
  unfold calEventCapture
  repeat' with_reducible first
    | assumption
    | intro _
    | refine keep_setJob ?_ ?_ ?_
    | refine keep_onCal ?_ ?_ ?_
    | refine keep_offsetNext ?_ ?_ ?_
    | refine keep_calHits ?_ ?_ ?_ ?_
    | refine keep_raise ?_ ?_ ?_
    | refine keep_bump ?_ ?_ ?_
    | refine keep_densityBin ?_ ?_ ?_ ?_ ?_
    | refine keep_ite ?_ ?_
    | refine keep_snd ‹_› ?_
    | refine keep_snd2 ‹_› ?_
    | refine keep_snd3 ‹_› ?_
    | refine keep_fst ‹_› ?_
    | split

theorem keep_execVidLatchPoint (t : Nat) (s : State) (h1 : Keeps z s) : ∀ u, (execVidLatchPoint t s) = .next u → Keeps z u := by
  intro u e
  unfold execVidLatchPoint at e
  refine keep_next ?_ e
  clear e
  repeat' with_reducible first
    | assumption
    | intro _
    | refine keep_vidLatch ?_ ?_
    | refine keep_at' ?_ ?_ ?_
    | refine keep_ite ?_ ?_

theorem keep_creditIntExpire (t : Nat) (b : Nat) (s : State) (h2 : Keeps z s) : Keeps z (creditIntExpire t b s) := by
  unfold creditIntExpire
  repeat' with_reducible first
    | assumption
    | intro _
    | refine keep_newLcw ?_ ?_ ?_
    | refine keep_sendCredit ?_ ?_ ?_ ?_
    | refine keep_onBundle ?_ ?_ ?_ ?_
    | refine keep_foldl ?_ ?_
    | refine keep_ite ?_ ?_
    | refine keep_snd ‹_› ?_
    | refine keep_snd2 ‹_› ?_
    | refine keep_snd3 ‹_› ?_
    | refine keep_fst ‹_› ?_
    | split

theorem keep_lrefReturn (t : Nat) (g : Nat) (s : State) (h2 : Keeps z s) : Keeps z (lrefReturn t g s) := by
  unfold lrefReturn
  repeat' with_reducible first
    | assumption
    | intro _
    | refine keep_wrBit ?_ ?_ ?_ ?_ ?_
    | refine keep_onLane ?_ ?_ ?_ ?_
    | refine keep_at' ?_ ?_ ?_
    | refine keep_foldl ?_ ?_
    | refine keep_ite ?_ ?_

theorem keep_contextClose (n : Nat) (s : State) (h1 : Keeps z s) : Keeps z (contextClose n s) := by
  unfold contextClose
  repeat' with_reducible first
    | assumption
    | intro _
    | refine keep_closeOne ?_ ?_ ?_ ?_ ?_ ?_
    | refine keep_emitPixel ?_ ?_ ?_ ?_
    | refine keep_snd ‹_› ?_
    | refine keep_snd2 ‹_› ?_
    | refine keep_snd3 ‹_› ?_
    | refine keep_fst ‹_› ?_
    | split
    | dsimp only

theorem keep_execAlignSet (t : Nat) (edge : Nat) (tdc : Nat) (sec : Nat) (ns : Nat) (frac : Nat) (incr : Nat) (tick : Nat) (s : State) (h8 : Keeps z s) :
    ∀ u, (execAlignSet t edge tdc sec ns frac incr tick s) = .next u → Keeps z u := by
  intro u e
  unfold execAlignSet at e
  refine keep_next ?_ e
  clear e
  repeat' with_reducible first
    | assumption
    | intro _
    | refine keep_alignSet ?_ ?_ ?_
    | refine keep_at' ?_ ?_ ?_

theorem keep_execLcReqWrite (t : Nat) (r : Requester) (d : Nat) (s : State) (h3 : Keeps z s) :
    ∀ u, (execLcReqWrite t r d s) = .next u → Keeps z u := by
  intro u e
  unfold execLcReqWrite at e
  refine keep_next ?_ e
  clear e
  repeat' with_reducible first
    | assumption
    | intro _
    | refine keep_accessW ?_ ?_ ?_ ?_ ?_ ?_

theorem keep_execPpsinNsRead (t : Nat) (r : Requester) (s : State) (h2 : Keeps z s) :
    ∀ u, (execPpsinNsRead t r s) = .next u → Keeps z u := by
  intro u e
  unfold execPpsinNsRead at e
  refine keep_next ?_ e
  clear e
  repeat' with_reducible first
    | assumption
    | intro _
    | refine keep_access ?_ ?_ ?_ ?_ ?_

theorem keep_quietBegin (s : State) (h0 : Keeps z s) : Keeps z (quietBegin s) := by
  unfold quietBegin
  repeat' with_reducible first
    | assumption
    | intro _
    | refine keep_onPln ?_ ?_ ?_

theorem keep_execResetRelease (t : Nat) (s : State) (h1 : Keeps z s) : ∀ u, (execResetRelease t s) = .next u → Keeps z u := by
  intro u e
  unfold execResetRelease at e
  refine keep_next ?_ e
  clear e
  repeat' with_reducible first
    | assumption
    | intro _
    | refine keep_wr ?_ ?_ ?_ ?_
    | refine keep_at' ?_ ?_ ?_
    | refine keep_ite ?_ ?_
    | split
    | dsimp only
    | exact keep_fold ‹_›
    | refine keep_fold ?_
    | refine keep_mk ?_
    | refine keep_sram_nil ?_
    | refine keep_cal_nil ?_
    | refine keep_sram_word ?_
    | refine keep_cal_word ?_
    | refine keep_sram_half ?_
    | refine keep_sram_clear ?_
    | refine keep_cal_clear ?_
    | refine keep_cal_byte ?_
    | refine keep_sram_foldl ?_ ?_
    | refine keep_cal_foldl ?_ ?_
    | refine keep_sram_ite ?_ ?_
    | refine keep_ringWords ?_
    | refine keep_densityTable ?_
    | refine keep_pwr ?_

theorem keep_monWindowEnd (t : Nat) (m : Nat) (s : State) (h2 : Keeps z s) : Keeps z (monWindowEnd t m s) := by
  unfold monWindowEnd
  repeat' with_reducible first
    | assumption
    | intro _
    | refine keep_wr ?_ ?_ ?_ ?_
    | refine keep_ite ?_ ?_

theorem keep_execSs1Standstill (t : Nat) (s : State) (h1 : Keeps z s) : ∀ u, (execSs1Standstill t s) = .next u → Keeps z u := by
  intro u e
  unfold execSs1Standstill at e
  refine keep_next ?_ e
  clear e
  repeat' with_reducible first
    | assumption
    | intro _
    | refine keep_ss1Standstill ?_ ?_ ?_

theorem keep_execAck (t : Nat) (b : Nat) (seq : Nat) (s : State) (h3 : Keeps z s) :
    ∀ u, (execAck t b seq s) = .next u → Keeps z u := by
  intro u e
  unfold execAck at e
  refine keep_next ?_ e
  clear e
  repeat' with_reducible first
    | assumption
    | intro _
    | refine keep_ackReceived ?_ ?_ ?_ ?_
    | refine keep_at' ?_ ?_ ?_

theorem keep_execRearm (t : Nat) (r : Requester) (d : Nat) (s : State) (h3 : Keeps z s) :
    ∀ u, (execRearm t r d s) = .next u → Keeps z u := by
  intro u e
  unfold execRearm at e
  refine keep_next ?_ e
  clear e
  repeat' with_reducible first
    | assumption
    | intro _
    | refine keep_accessW ?_ ?_ ?_ ?_ ?_ ?_

theorem keep_execUrgent (t : Nat) (r : Requester) (d : Nat) (s : State) (h3 : Keeps z s) :
    ∀ u, (execUrgent t r d s) = .next u → Keeps z u := by
  intro u e
  unfold execUrgent at e
  refine keep_next ?_ e
  clear e
  repeat' with_reducible first
    | assumption
    | intro _
    | refine keep_accessW ?_ ?_ ?_ ?_ ?_ ?_

theorem keep_execTriggerInputEdge (t : Nat) (line : Nat) (falling : Bool) (s : State) (h3 : Keeps z s) :
    ∀ u, (execTriggerInputEdge t line falling s) = .next u → Keeps z u := by
  intro u e
  unfold execTriggerInputEdge at e
  refine keep_next ?_ e
  clear e
  repeat' with_reducible first
    | assumption
    | intro _
    | refine keep_triggerInputEdge ?_ ?_ ?_ ?_ ?_
    | refine keep_at' ?_ ?_ ?_

theorem keep_noteSubst (x : Shot) (s : State) (c : Nat) (h1 : Keeps z s) : Keeps z (noteSubst x s c) := by
  unfold noteSubst
  repeat' with_reducible first
    | assumption
    | intro _
    | refine keep_setPath ?_ ?_ ?_ ?_
    | refine keep_setPixel ?_ ?_ ?_ ?_
    | refine keep_ite ?_ ?_
    | refine keep_snd ‹_› ?_
    | refine keep_snd2 ‹_› ?_
    | refine keep_snd3 ‹_› ?_
    | refine keep_fst ‹_› ?_
    | split

theorem keep_startWindowClose (t : Nat) (m : Nat) (s : State) (h2 : Keeps z s) : Keeps z (startWindowClose t m s) := by
  unfold startWindowClose
  repeat' with_reducible first
    | assumption
    | intro _
    | refine keep_raise ?_ ?_ ?_
    | refine keep_noteSubst ?_ ?_ ?_ ?_
    | refine keep_setShot ?_ ?_ ?_
    | refine keep_bump ?_ ?_ ?_
    | refine keep_foldl ?_ ?_
    | refine keep_ite ?_ ?_
    | refine keep_snd ‹_› ?_
    | refine keep_snd2 ‹_› ?_
    | refine keep_snd3 ‹_› ?_
    | refine keep_fst ‹_› ?_
    | split

theorem keep_jobDone (s : State) (h0 : Keeps z s) : Keeps z (jobDone s) := by
  unfold jobDone
  repeat' with_reducible first
    | assumption
    | intro _
    | refine keep_vcalDone ?_ ?_ ?_
    | refine keep_scaleDone ?_ ?_ ?_
    | refine keep_threshDone ?_ ?_ ?_
    | refine keep_offsetDone ?_ ?_ ?_
    | refine keep_densityDone ?_ ?_ ?_
    | refine keep_ite ?_ ?_
    | refine keep_snd ‹_› ?_
    | refine keep_snd2 ‹_› ?_
    | refine keep_snd3 ‹_› ?_
    | refine keep_fst ‹_› ?_
    | split

theorem keep_execMirror (t : Nat) (m : LoopMirror) (s : State) (h2 : Keeps z s) :
    ∀ u, (execMirror t m s) = .next u → Keeps z u := by
  intro u e
  unfold execMirror at e
  refine keep_next ?_ e
  clear e
  repeat' with_reducible first
    | assumption
    | intro _
    | refine keep_mirror ?_ ?_ ?_ ?_
    | refine keep_at' ?_ ?_ ?_

theorem keep_execTime (t : Nat) (edge : Nat) (incr : Option Nat) (step : Option Int) (s : State) (h4 : Keeps z s) :
    ∀ u, (execTime t edge incr step s) = .next u → Keeps z u := by
  intro u e
  unfold execTime at e
  refine keep_next ?_ e
  clear e
  repeat' with_reducible first
    | assumption
    | intro _
    | refine keep_timeTake ?_ ?_ ?_ ?_ ?_
    | refine keep_at' ?_ ?_ ?_

theorem keep_execLnCtrlRetry (t : Nat) (r : Requester) (l : Nat) (d : Nat) (s : State) (h4 : Keeps z s) :
    ∀ u, (execLnCtrlRetry t r l d s) = .next u → Keeps z u := by
  intro u e
  unfold execLnCtrlRetry at e
  refine keep_next ?_ e
  clear e
  repeat' with_reducible first
    | assumption
    | intro _
    | refine keep_accessW ?_ ?_ ?_ ?_ ?_ ?_

theorem keep_execVidLock (t : Nat) (s : State) (h1 : Keeps z s) : ∀ u, (execVidLock t s) = .next u → Keeps z u := by
  intro u e
  unfold execVidLock at e
  refine keep_next ?_ e
  clear e
  repeat' with_reducible first
    | assumption
    | intro _
    | refine keep_vidLockTo ?_ ?_ ?_
    | refine keep_vidStart ?_ ?_
    | refine keep_at' ?_ ?_ ?_
    | refine keep_ite ?_ ?_

theorem keep_execStepSecHiWrite (t : Nat) (r : Requester) (d : Nat) (s : State) (h3 : Keeps z s) :
    ∀ u, (execStepSecHiWrite t r d s) = .next u → Keeps z u := by
  intro u e
  unfold execStepSecHiWrite at e
  refine keep_next ?_ e
  clear e
  repeat' with_reducible first
    | assumption
    | intro _
    | refine keep_accessW ?_ ?_ ?_ ?_ ?_ ?_

theorem keep_farewellBeat (s : State) (h0 : Keeps z s) : Keeps z (farewellBeat s) := by
  unfold farewellBeat
  repeat' with_reducible first
    | assumption
    | intro _
    | refine keep_planDrop ?_ ?_ ?_
    | refine keep_onPln ?_ ?_ ?_
    | refine keep_release ?_ ?_ ?_ ?_
    | refine keep_planStart ?_ ?_
    | refine keep_ite ?_ ?_

theorem keep_claimsComplete (s : State) (h0 : Keeps z s) : Keeps z (claimsComplete s) := by
  unfold claimsComplete
  repeat' with_reducible first
    | assumption
    | intro _
    | refine keep_onPln ?_ ?_ ?_

theorem keep_stateBeat (s : State) (h0 : Keeps z s) : Keeps z (stateBeat s) := by
  unfold stateBeat
  repeat' with_reducible first
    | assumption
    | intro _
    | refine keep_onPln ?_ ?_ ?_
    | refine keep_claimBeat ?_ ?_
    | refine keep_listenBeat ?_ ?_
    | refine keep_release ?_ ?_ ?_ ?_
    | refine keep_farewellBeat ?_ ?_
    | refine keep_claimsComplete ?_ ?_
    | refine keep_ite ?_ ?_

theorem keep_execStartWindowClose (t : Nat) (m : Nat) (s : State) (h2 : Keeps z s) :
    ∀ u, (execStartWindowClose t m s) = .next u → Keeps z u := by
  intro u e
  unfold execStartWindowClose at e
  refine keep_next ?_ e
  clear e
  repeat' with_reducible first
    | assumption
    | intro _
    | refine keep_startWindowClose ?_ ?_ ?_ ?_
    | refine keep_at' ?_ ?_ ?_

theorem keep_execInspBinDataWrite (t : Nat) (r : Requester) (d : Nat) (s : State) (h3 : Keeps z s) :
    ∀ u, (execInspBinDataWrite t r d s) = .next u → Keeps z u := by
  intro u e
  unfold execInspBinDataWrite at e
  refine keep_next ?_ e
  clear e
  repeat' with_reducible first
    | assumption
    | intro _
    | refine keep_accessW ?_ ?_ ?_ ?_ ?_ ?_

theorem keep_execAutoTrigger (t : Nat) (s : State) (h1 : Keeps z s) : ∀ u, (execAutoTrigger t s) = .next u → Keeps z u := by
  intro u e
  unfold execAutoTrigger at e
  refine keep_next ?_ e
  clear e
  repeat' with_reducible first
    | assumption
    | intro _
    | refine keep_autoTrigger ?_ ?_ ?_
    | refine keep_at' ?_ ?_ ?_

theorem keep_quietEnd (s : State) (h0 : Keeps z s) : Keeps z (quietEnd s) := by
  unfold quietEnd
  repeat' with_reducible first
    | assumption
    | intro _
    | refine keep_onPln ?_ ?_ ?_

theorem keep_planMirror (s : State) (h0 : Keeps z s) : Keeps z (planMirror s) := by
  unfold planMirror
  repeat' with_reducible first
    | assumption
    | intro _
    | refine keep_pairSend ?_ ?_ ?_ ?_ ?_
    | refine keep_ite ?_ ?_

theorem keep_beatStart (t : Nat) (s : State) (h1 : Keeps z s) : Keeps z (beatStart t s) := by
  unfold beatStart
  repeat' with_reducible first
    | assumption
    | intro _
    | refine keep_onPln ?_ ?_ ?_
    | refine keep_peersBeat ?_ ?_
    | refine keep_quietBegin ?_ ?_
    | refine keep_stateBeat ?_ ?_
    | refine keep_quietEnd ?_ ?_
    | refine keep_planMirror ?_ ?_
    | refine keep_grantWatch ?_ ?_ ?_ ?_
    | refine keep_ite ?_ ?_

theorem keep_execBeatStart (t : Nat) (s : State) (h1 : Keeps z s) : ∀ u, (execBeatStart t s) = .next u → Keeps z u := by
  intro u e
  unfold execBeatStart at e
  refine keep_next ?_ e
  clear e
  repeat' with_reducible first
    | assumption
    | intro _
    | refine keep_beatStart ?_ ?_ ?_
    | refine keep_at' ?_ ?_ ?_

theorem keep_execApplied (t : Nat) (s : State) (h1 : Keeps z s) : ∀ u, (execApplied t s) = .next u → Keeps z u := by
  intro u e
  unfold execApplied at e
  refine keep_next ?_ e
  clear e
  repeat' with_reducible first
    | assumption
    | intro _
    | refine keep_calApplied ?_ ?_
    | refine keep_at' ?_ ?_ ?_

theorem keep_softComplete (p : Nat) (s : State) (h1 : Keeps z s) : Keeps z (softComplete p s) := by
  unfold softComplete
  repeat' with_reducible first
    | assumption
    | intro _
    | refine keep_setReg ?_ ?_ ?_ ?_
    | refine keep_softDo ?_ ?_ ?_
    | refine keep_lateReset ?_ ?_ ?_
    | refine keep_ite ?_ ?_
    | refine keep_snd ‹_› ?_
    | refine keep_snd2 ‹_› ?_
    | refine keep_snd3 ‹_› ?_
    | refine keep_fst ‹_› ?_
    | split
    | dsimp only
    | exact keep_fold ‹_›
    | refine keep_fold ?_
    | refine keep_mk ?_

theorem keep_execSoftResetComplete (t : Nat) (p : Nat) (s : State) (h2 : Keeps z s) :
    ∀ u, (execSoftResetComplete t p s) = .next u → Keeps z u := by
  intro u e
  unfold execSoftResetComplete at e
  refine keep_next ?_ e
  clear e
  repeat' with_reducible first
    | assumption
    | intro _
    | refine keep_softComplete ?_ ?_ ?_
    | refine keep_at' ?_ ?_ ?_
    | refine keep_ite ?_ ?_

theorem keep_execJobDone (t : Nat) (s : State) (h1 : Keeps z s) : ∀ u, (execJobDone t s) = .next u → Keeps z u := by
  intro u e
  unfold execJobDone at e
  refine keep_next ?_ e
  clear e
  repeat' with_reducible first
    | assumption
    | intro _
    | refine keep_jobDone ?_ ?_
    | refine keep_at' ?_ ?_ ?_

theorem keep_execPpsOutEnd (t : Nat) (s : State) (h1 : Keeps z s) : ∀ u, (execPpsOutEnd t s) = .next u → Keeps z u := by
  intro u e
  unfold execPpsOutEnd at e
  refine keep_next ?_ e
  clear e
  repeat' with_reducible first
    | assumption
    | intro _
    | refine keep_ppsOutEnd ?_ ?_ ?_
    | refine keep_at' ?_ ?_ ?_

theorem keep_seqDone (s : State) (h0 : Keeps z s) : Keeps z (seqDone s) := by
  unfold seqDone
  repeat' with_reducible first
    | assumption
    | intro _
    | refine keep_onAcq ?_ ?_ ?_
    | refine keep_raise ?_ ?_ ?_
    | refine keep_snd ‹_› ?_
    | refine keep_snd2 ‹_› ?_
    | refine keep_snd3 ‹_› ?_
    | refine keep_fst ‹_› ?_
    | split

theorem keep_resumed (e : Nat) (s : State) (h1 : Keeps z s) : Keeps z (resumed e s) := by
  unfold resumed
  repeat' with_reducible first
    | assumption
    | intro _
    | refine keep_resumeJob ?_ ?_ ?_ ?_ ?_
    | refine keep_ite ?_ ?_
    | refine keep_snd ‹_› ?_
    | refine keep_snd2 ‹_› ?_
    | refine keep_snd3 ‹_› ?_
    | refine keep_fst ‹_› ?_
    | split

theorem keep_execColumnStartMarker (t : Nat) (c : Nat) (s : State) (h2 : Keeps z s) :
    ∀ u, (execColumnStartMarker t c s) = .next u → Keeps z u := by
  intro u e
  unfold execColumnStartMarker at e
  refine keep_next ?_ e
  clear e
  repeat' with_reducible first
    | assumption
    | intro _
    | refine keep_columnStartMarker ?_ ?_ ?_
    | refine keep_at' ?_ ?_ ?_

theorem keep_execCredit (t : Nat) (b : Nat) (vc : Nat) (limit : Nat) (s : State) (h4 : Keeps z s) :
    ∀ u, (execCredit t b vc limit s) = .next u → Keeps z u := by
  intro u e
  unfold execCredit at e
  refine keep_next ?_ e
  clear e
  repeat' with_reducible first
    | assumption
    | intro _
    | refine keep_creditReceived ?_ ?_ ?_ ?_ ?_
    | refine keep_at' ?_ ?_ ?_

theorem keep_execMacAgeExpire (t : Nat) (s : State) (h1 : Keeps z s) : ∀ u, (execMacAgeExpire t s) = .next u → Keeps z u := by
  intro u e
  unfold execMacAgeExpire at e
  refine keep_next ?_ e
  clear e
  repeat' with_reducible first
    | assumption
    | intro _
    | refine keep_macAgeExpire ?_ ?_
    | refine keep_at' ?_ ?_ ?_

theorem keep_execCalEventCapture (t : Nat) (n : Nat) (a : Nat) (b : Nat) (s : State) (h4 : Keeps z s) :
    ∀ u, (execCalEventCapture t n a b s) = .next u → Keeps z u := by
  intro u e
  unfold execCalEventCapture at e
  refine keep_next ?_ e
  clear e
  repeat' with_reducible first
    | assumption
    | intro _
    | refine keep_calEventCapture ?_ ?_ ?_ ?_ ?_
    | refine keep_at' ?_ ?_ ?_

theorem keep_execRegisterWrite (t : Nat) (r : Requester) (a : Nat) (d : Nat) (s : State) (h4 : Keeps z s) :
    ∀ u, (execRegisterWrite t r a d s) = .next u → Keeps z u := by
  intro u e
  unfold execRegisterWrite at e
  refine keep_next ?_ e
  clear e
  repeat' with_reducible first
    | assumption
    | intro _
    | refine keep_accessW ?_ ?_ ?_ ?_ ?_ ?_

theorem keep_execTdcPllLock (t : Nat) (q : Nat) (s : State) (h2 : Keeps z s) :
    ∀ u, (execTdcPllLock t q s) = .next u → Keeps z u := by
  intro u e
  unfold execTdcPllLock at e
  refine keep_next ?_ e
  clear e
  repeat' with_reducible first
    | assumption
    | intro _
    | refine keep_permitIdle ?_ ?_
    | refine keep_wrBit ?_ ?_ ?_ ?_ ?_
    | refine keep_at' ?_ ?_ ?_
    | refine keep_ite ?_ ?_
    | split
    | dsimp only
    | exact keep_fold ‹_›
    | refine keep_fold ?_
    | refine keep_mk ?_

theorem keep_execLockKeyWrite (t : Nat) (r : Requester) (p : Nat) (d : Nat) (s : State) (h4 : Keeps z s) :
    ∀ u, (execLockKeyWrite t r p d s) = .next u → Keeps z u := by
  intro u e
  unfold execLockKeyWrite at e
  refine keep_next ?_ e
  clear e
  repeat' with_reducible first
    | assumption
    | intro _
    | refine keep_accessW ?_ ?_ ?_ ?_ ?_ ?_

theorem keep_regReads (r : Requester) (a : Nat) (i : Nat) (err : Option (Nat × Nat)) (out : List Word) (n : Nat) (s : State) (h6 : Keeps z s) :
    Keeps z (regReads r a i err out n s).2.2 := by
  induction n generalizing i err out s with
  | zero => exact h6
  | succ k ih => unfold regReads; exact ih _ _ _ _ (keep_readNow _ _ _ h6)

theorem keep_execFctSnap (t : Nat) (r : Requester) (d : Nat) (s : State) (h3 : Keeps z s) :
    ∀ u, (execFctSnap t r d s) = .next u → Keeps z u := by
  intro u e
  unfold execFctSnap at e
  refine keep_next ?_ e
  clear e
  repeat' with_reducible first
    | assumption
    | intro _
    | refine keep_accessW ?_ ?_ ?_ ?_ ?_ ?_

theorem keep_execPeerSelWrite (t : Nat) (r : Requester) (d : Nat) (s : State) (h3 : Keeps z s) :
    ∀ u, (execPeerSelWrite t r d s) = .next u → Keeps z u := by
  intro u e
  unfold execPeerSelWrite at e
  refine keep_next ?_ e
  clear e
  repeat' with_reducible first
    | assumption
    | intro _
    | refine keep_accessW ?_ ?_ ?_ ?_ ?_ ?_

theorem keep_execPmonStart (t : Nat) (r : Requester) (d : Nat) (s : State) (h3 : Keeps z s) :
    ∀ u, (execPmonStart t r d s) = .next u → Keeps z u := by
  intro u e
  unfold execPmonStart at e
  refine keep_next ?_ e
  clear e
  repeat' with_reducible first
    | assumption
    | intro _
    | refine keep_accessW ?_ ?_ ?_ ?_ ?_ ?_

theorem keep_execRoundStart (t : Nat) (s : State) (h1 : Keeps z s) : ∀ u, (execRoundStart t s) = .next u → Keeps z u := by
  intro u e
  unfold execRoundStart at e
  refine keep_next ?_ e
  clear e
  repeat' with_reducible first
    | assumption
    | intro _
    | refine keep_roundStart ?_ ?_
    | refine keep_at' ?_ ?_ ?_

theorem keep_prbsSync (l : Nat) (sync : Bool) (errors : Nat) (s : State) (h3 : Keeps z s) : Keeps z (prbsSync l sync errors s) := by
  unfold prbsSync
  repeat' with_reducible first
    | assumption
    | intro _
    | refine keep_laneEvent ?_ ?_ ?_ ?_
    | refine keep_bumpBy ?_ ?_ ?_ ?_
    | refine keep_wrB ?_ ?_ ?_ ?_
    | refine keep_onLane ?_ ?_ ?_ ?_
    | refine keep_ite ?_ ?_

theorem keep_execPrbsSync (t : Nat) (l : Nat) (sync : Bool) (errors : Nat) (s : State) (h4 : Keeps z s) :
    ∀ u, (execPrbsSync t l sync errors s) = .next u → Keeps z u := by
  intro u e
  unfold execPrbsSync at e
  refine keep_next ?_ e
  clear e
  repeat' with_reducible first
    | assumption
    | intro _
    | refine keep_at' ?_ ?_ ?_
    | refine keep_prbsSync ?_ ?_ ?_ ?_ ?_

theorem keep_execSend (t : Nat) (r : Requester) (s : State) (h2 : Keeps z s) : ∀ u, (execSend t r s) = .next u → Keeps z u := by
  intro u e
  unfold execSend at e
  refine keep_next ?_ e
  clear e
  repeat' with_reducible first
    | assumption
    | intro _
    | refine keep_accessW ?_ ?_ ?_ ?_ ?_ ?_

theorem keep_execMonWindowEnd (t : Nat) (m : Nat) (s : State) (h2 : Keeps z s) :
    ∀ u, (execMonWindowEnd t m s) = .next u → Keeps z u := by
  intro u e
  unfold execMonWindowEnd at e
  refine keep_next ?_ e
  clear e
  repeat' with_reducible first
    | assumption
    | intro _
    | refine keep_monWindowEnd ?_ ?_ ?_ ?_
    | refine keep_at' ?_ ?_ ?_

theorem keep_execLinLoad (t : Nat) (r : Requester) (high : Bool) (d : Nat) (s : State) (h4 : Keeps z s) :
    ∀ u, (execLinLoad t r high d s) = .next u → Keeps z u := by
  intro u e
  unfold execLinLoad at e
  refine keep_next ?_ e
  clear e
  repeat' with_reducible first
    | assumption
    | intro _
    | refine keep_accessW ?_ ?_ ?_ ?_ ?_ ?_

theorem keep_execHitLeadingEdge (t : Nat) (c : Nat) (s : State) (h2 : Keeps z s) :
    ∀ u, (execHitLeadingEdge t c s) = .next u → Keeps z u := by
  intro u e
  unfold execHitLeadingEdge at e
  refine keep_next ?_ e
  clear e
  repeat' with_reducible first
    | assumption
    | intro _
    | refine keep_hitLeadingEdge ?_ ?_ ?_ ?_
    | refine keep_at' ?_ ?_ ?_

theorem keep_exchange (s : State) (r : PairReport) (h0 : Keeps z s) : Keeps z (exchange s r) := by
  unfold exchange
  repeat' with_reducible first
    | assumption
    | intro _
    | refine keep_pairLatch ?_ ?_ ?_
    | refine keep_bump ?_ ?_ ?_
    | refine keep_onPair ?_ ?_ ?_
    | refine keep_ite ?_ ?_

theorem keep_heartbeat (t : Nat) (r : PairReport) (s : State) (h2 : Keeps z s) : Keeps z (heartbeat t r s) := by
  unfold heartbeat
  repeat' with_reducible first
    | assumption
    | intro _
    | refine keep_pairWatch ?_ ?_
    | refine keep_wr ?_ ?_ ?_ ?_
    | refine keep_proofLamp ?_ ?_
    | refine keep_raise ?_ ?_ ?_
    | refine keep_onPair ?_ ?_ ?_
    | refine keep_safRefresh ?_ ?_
    | refine keep_takeover ?_ ?_ ?_
    | refine keep_exchange ?_ ?_ ?_
    | refine keep_ite ?_ ?_
    | refine keep_getD ?_ ?_
    | split
    | dsimp only
    | exact keep_fold ‹_›
    | refine keep_fold ?_
    | refine keep_mk ?_

theorem keep_execVidLineStart (t : Nat) (under : List (Nat × Nat)) (s : State) (h2 : Keeps z s) :
    ∀ u, (execVidLineStart t under s) = .next u → Keeps z u := by
  intro u e
  unfold execVidLineStart at e
  refine keep_next ?_ e
  clear e
  repeat' with_reducible first
    | assumption
    | intro _
    | refine keep_vidLine ?_ ?_ ?_
    | refine keep_at' ?_ ?_ ?_
    | refine keep_ite ?_ ?_

theorem keep_pressJobStart (t : Nat) (e : Nat) (s : State) (h2 : Keeps z s) : Keeps z (pressJobStart t e s) := by
  unfold pressJobStart
  repeat' with_reducible first
    | assumption
    | intro _
    | refine keep_wr ?_ ?_ ?_ ?_
    | refine keep_setPress ?_ ?_ ?_ ?_
    | refine keep_bump ?_ ?_ ?_
    | refine keep_ite ?_ ?_
    | refine keep_snd ‹_› ?_
    | refine keep_snd2 ‹_› ?_
    | refine keep_snd3 ‹_› ?_
    | refine keep_fst ‹_› ?_
    | split

theorem keep_execPressJobStart (t : Nat) (e : Nat) (s : State) (h2 : Keeps z s) :
    ∀ u, (execPressJobStart t e s) = .next u → Keeps z u := by
  intro u e
  unfold execPressJobStart at e
  refine keep_next ?_ e
  clear e
  repeat' with_reducible first
    | assumption
    | intro _
    | refine keep_at' ?_ ?_ ?_
    | refine keep_pressJobStart ?_ ?_ ?_ ?_

theorem keep_execPathCompare (t : Nat) (s : State) (h1 : Keeps z s) : ∀ u, (execPathCompare t s) = .next u → Keeps z u := by
  intro u e
  unfold execPathCompare at e
  refine keep_next ?_ e
  clear e
  repeat' with_reducible first
    | assumption
    | intro _
    | refine keep_pathCompare ?_ ?_ ?_

theorem keep_execHeartbeat (t : Nat) (r : PairReport) (s : State) (h2 : Keeps z s) :
    ∀ u, (execHeartbeat t r s) = .next u → Keeps z u := by
  intro u e
  unfold execHeartbeat at e
  refine keep_next ?_ e
  clear e
  repeat' with_reducible first
    | assumption
    | intro _
    | refine keep_heartbeat ?_ ?_ ?_ ?_
    | refine keep_at' ?_ ?_ ?_

theorem keep_execProofStepEnd (t : Nat) (s : State) (h1 : Keeps z s) : ∀ u, (execProofStepEnd t s) = .next u → Keeps z u := by
  intro u e
  unfold execProofStepEnd at e
  refine keep_next ?_ e
  clear e
  repeat' with_reducible first
    | assumption
    | intro _
    | refine keep_proofStepEnd ?_ ?_ ?_
    | refine keep_at' ?_ ?_ ?_

theorem keep_execCommit (t : Nat) (r : Requester) (p : Nat) (q : Point) (s : State) (h4 : Keeps z s) :
    ∀ u, (execCommit t r p q s) = .next u → Keeps z u := by
  intro u e
  unfold execCommit at e
  refine keep_next ?_ e
  clear e
  repeat' with_reducible first
    | assumption
    | intro _
    | refine keep_accessW ?_ ?_ ?_ ?_ ?_ ?_

theorem keep_execHitDrain (t : Nat) (bank : Nat) (s : State) (h2 : Keeps z s) :
    ∀ u, (execHitDrain t bank s) = .next u → Keeps z u := by
  intro u e
  unfold execHitDrain at e
  refine keep_next ?_ e
  clear e
  repeat' with_reducible first
    | assumption
    | intro _
    | refine keep_hitDrain ?_ ?_ ?_
    | refine keep_at' ?_ ?_ ?_

theorem keep_execLinkUp (t : Nat) (p : Nat) (lp : Nat) (s : State) (h3 : Keeps z s) :
    ∀ u, (execLinkUp t p lp s) = .next u → Keeps z u := by
  intro u e
  unfold execLinkUp at e
  refine keep_next ?_ e
  clear e
  repeat' with_reducible first
    | assumption
    | intro _
    | refine keep_linkUp ?_ ?_ ?_ ?_
    | refine keep_at' ?_ ?_ ?_

theorem keep_execEvtForce (t : Nat) (r : Requester) (p : Nat) (d : Nat) (s : State) (h4 : Keeps z s) :
    ∀ u, (execEvtForce t r p d s) = .next u → Keeps z u := by
  intro u e
  unfold execEvtForce at e
  refine keep_next ?_ e
  clear e
  repeat' with_reducible first
    | assumption
    | intro _
    | refine keep_accessW ?_ ?_ ?_ ?_ ?_ ?_

theorem keep_execHallEdge (t : Nat) (p : Nat) (s : State) (h2 : Keeps z s) : ∀ u, (execHallEdge t p s) = .next u → Keeps z u := by
  intro u e
  unfold execHallEdge at e
  refine keep_next ?_ e
  clear e
  repeat' with_reducible first
    | assumption
    | intro _
    | refine keep_hallEdge ?_ ?_ ?_
    | refine keep_at' ?_ ?_ ?_

theorem keep_execDown (t : Nat) (b : Nat) (s : State) (h2 : Keeps z s) : ∀ u, (execDown t b s) = .next u → Keeps z u := by
  intro u e
  unfold execDown at e
  refine keep_next ?_ e
  clear e
  repeat' with_reducible first
    | assumption
    | intro _
    | refine keep_bundleDown ?_ ?_ ?_ ?_
    | refine keep_at' ?_ ?_ ?_

theorem keep_execPor (t : Nat) (freqSel : Bool) (pairId : Bool) (s : State) (h3 : Keeps z s) :
    ∀ u, (execPor t freqSel pairId s) = .next u → Keeps z u := by
  intro u e
  unfold execPor at e
  refine keep_next ?_ e
  clear e
  repeat' with_reducible first
    | assumption
    | intro _
    | refine keep_wr ?_ ?_ ?_ ?_
    | refine keep_lcFinish ?_ ?_
    | refine keep_deviceReset ?_ ?_ ?_
    | refine keep_at' ?_ ?_ ?_
    | refine keep_ite ?_ ?_
    | split
    | dsimp only
    | exact keep_fold ‹_›
    | refine keep_fold ?_
    | refine keep_mk ?_
    | refine keep_sram_nil ?_
    | refine keep_cal_nil ?_
    | refine keep_sram_word ?_
    | refine keep_cal_word ?_
    | refine keep_sram_half ?_
    | refine keep_sram_clear ?_
    | refine keep_cal_clear ?_
    | refine keep_cal_byte ?_
    | refine keep_sram_foldl ?_ ?_
    | refine keep_cal_foldl ?_ ?_
    | refine keep_sram_ite ?_ ?_
    | refine keep_ringWords ?_
    | refine keep_densityTable ?_
    | refine keep_pwr ?_

theorem keep_execJtagInstruction (t : Nat) (k : Nat) (s : State) (h2 : Keeps z s) :
    ∀ u, (execJtagInstruction t k s) = .next u → Keeps z u := by
  intro u e
  unfold execJtagInstruction at e
  refine keep_next ?_ e
  clear e
  repeat' with_reducible first
    | assumption
    | intro _
    | refine keep_at' ?_ ?_ ?_
    | refine keep_ite ?_ ?_
    | split
    | dsimp only
    | exact keep_fold ‹_›
    | refine keep_fold ?_
    | refine keep_mk ?_
    | refine keep_sram_nil ?_
    | refine keep_cal_nil ?_
    | refine keep_sram_word ?_
    | refine keep_cal_word ?_
    | refine keep_sram_half ?_
    | refine keep_sram_clear ?_
    | refine keep_cal_clear ?_
    | refine keep_cal_byte ?_
    | refine keep_sram_foldl ?_ ?_
    | refine keep_cal_foldl ?_ ?_
    | refine keep_sram_ite ?_ ?_
    | refine keep_ringWords ?_
    | refine keep_densityTable ?_
    | refine keep_pwr ?_

theorem keep_execOrderlyStopStepEnd (t : Nat) (s : State) (h1 : Keeps z s) :
    ∀ u, (execOrderlyStopStepEnd t s) = .next u → Keeps z u := by
  intro u e
  unfold execOrderlyStopStepEnd at e
  refine keep_next ?_ e
  clear e
  repeat' with_reducible first
    | assumption
    | intro _
    | refine keep_orderlyStopStepEnd ?_ ?_
    | refine keep_at' ?_ ?_ ?_

theorem keep_execAnFail (t : Nat) (p : Nat) (lp : Nat) (s : State) (h3 : Keeps z s) :
    ∀ u, (execAnFail t p lp s) = .next u → Keeps z u := by
  intro u e
  unfold execAnFail at e
  refine keep_next ?_ e
  clear e
  repeat' with_reducible first
    | assumption
    | intro _
    | refine keep_anFail ?_ ?_ ?_ ?_
    | refine keep_at' ?_ ?_ ?_

theorem keep_execRoundTrig (t : Nat) (r : Requester) (d : Nat) (s : State) (h3 : Keeps z s) :
    ∀ u, (execRoundTrig t r d s) = .next u → Keeps z u := by
  intro u e
  unfold execRoundTrig at e
  refine keep_next ?_ e
  clear e
  repeat' with_reducible first
    | assumption
    | intro _
    | refine keep_accessW ?_ ?_ ?_ ?_ ?_ ?_

theorem keep_execBlankTimeout (t : Nat) (s : State) (h1 : Keeps z s) : ∀ u, (execBlankTimeout t s) = .next u → Keeps z u := by
  intro u e
  unfold execBlankTimeout at e
  refine keep_next ?_ e
  clear e
  repeat' with_reducible first
    | assumption
    | intro _
    | refine keep_blankTimeout ?_ ?_
    | refine keep_at' ?_ ?_ ?_

theorem keep_execPoolSplitWrite (t : Nat) (r : Requester) (d : Nat) (s : State) (h3 : Keeps z s) :
    ∀ u, (execPoolSplitWrite t r d s) = .next u → Keeps z u := by
  intro u e
  unfold execPoolSplitWrite at e
  refine keep_next ?_ e
  clear e
  repeat' with_reducible first
    | assumption
    | intro _
    | refine keep_accessW ?_ ?_ ?_ ?_ ?_ ?_

theorem keep_execTsSetReceived (t : Nat) (l : Nat) (x : TsSeen) (s : State) (h3 : Keeps z s) :
    ∀ u, (execTsSetReceived t l x s) = .next u → Keeps z u := by
  intro u e
  unfold execTsSetReceived at e
  refine keep_next ?_ e
  clear e
  repeat' with_reducible first
    | assumption
    | intro _
    | refine keep_tsSetReceived ?_ ?_ ?_ ?_ ?_
    | refine keep_at' ?_ ?_ ?_

theorem keep_execRennetJudge (t : Nat) (c : Nat) (s : State) (h2 : Keeps z s) :
    ∀ u, (execRennetJudge t c s) = .next u → Keeps z u := by
  intro u e
  unfold execRennetJudge at e
  refine keep_next ?_ e
  clear e
  repeat' with_reducible first
    | assumption
    | intro _
    | refine keep_rennetJudge ?_ ?_ ?_
    | refine keep_at' ?_ ?_ ?_

theorem keep_execResumed (t : Nat) (e : Nat) (s : State) (h2 : Keeps z s) : ∀ u, (execResumed t e s) = .next u → Keeps z u := by
  intro u e
  unfold execResumed at e
  refine keep_next ?_ e
  clear e
  repeat' with_reducible first
    | assumption
    | intro _
    | refine keep_resumed ?_ ?_ ?_
    | refine keep_at' ?_ ?_ ?_

theorem keep_planFrameReceived (s : State) (h0 : Keeps z s) : Keeps z (planFrameReceived s) := by
  unfold planFrameReceived
  repeat' with_reducible first
    | assumption
    | intro _
    | refine keep_planHandle ?_ ?_ ?_ ?_
    | (refine keep_someP ‹_› ?_; refine keep_egressPop ?_ ?_ ?_)
    | refine keep_ite ?_ ?_
    | refine keep_snd ‹_› ?_
    | refine keep_snd2 ‹_› ?_
    | refine keep_snd3 ‹_› ?_
    | refine keep_fst ‹_› ?_
    | split

theorem keep_execLinkPowerEntry (t : Nat) (b : Nat) (s : State) (h2 : Keeps z s) :
    ∀ u, (execLinkPowerEntry t b s) = .next u → Keeps z u := by
  intro u e
  unfold execLinkPowerEntry at e
  refine keep_next ?_ e
  clear e
  repeat' with_reducible first
    | assumption
    | intro _
    | refine keep_linkPowerEntry ?_ ?_ ?_
    | refine keep_at' ?_ ?_ ?_

theorem keep_execSlowAccessComplete (t : Nat) (r : Requester) (s : State) (h2 : Keeps z s) :
    ∀ u, (execSlowAccessComplete t r s) = .next u → Keeps z u := by
  intro u e
  unfold execSlowAccessComplete at e
  refine keep_next ?_ e
  clear e
  repeat' with_reducible first
    | assumption
    | intro _
    | refine keep_at' ?_ ?_ ?_
    | refine keep_slowDone ?_ ?_ ?_

theorem keep_execWipeDone (t : Nat) (levels : Nat) (s : State) (h2 : Keeps z s) :
    ∀ u, (execWipeDone t levels s) = .next u → Keeps z u := by
  intro u e
  unfold execWipeDone at e
  refine keep_next ?_ e
  clear e
  repeat' with_reducible first
    | assumption
    | intro _
    | refine keep_safWake ?_ ?_ ?_
    | refine keep_wr ?_ ?_ ?_ ?_
    | refine keep_raise ?_ ?_ ?_
    | refine keep_at' ?_ ?_ ?_
    | refine keep_ite ?_ ?_
    | split
    | dsimp only
    | exact keep_fold ‹_›
    | refine keep_fold ?_
    | refine keep_mk ?_
    | refine keep_sram_nil ?_
    | refine keep_cal_nil ?_
    | refine keep_sram_word ?_
    | refine keep_cal_word ?_
    | refine keep_sram_half ?_
    | refine keep_sram_clear ?_
    | refine keep_cal_clear ?_
    | refine keep_cal_byte ?_
    | refine keep_sram_foldl ?_ ?_
    | refine keep_cal_foldl ?_ ?_
    | refine keep_sram_ite ?_ ?_
    | refine keep_ringWords ?_
    | refine keep_densityTable ?_
    | refine keep_pwr ?_

theorem keep_execFrameReceived (t : Nat) (b : Nat) (hdr : List Word) (body : List Word) (line : FrameSeen) (s : State) (h5 : Keeps z s) :
    ∀ u, (execFrameReceived t b hdr body line s) = .next u → Keeps z u := by
  intro u e
  unfold execFrameReceived at e
  refine keep_next ?_ e
  clear e
  repeat' with_reducible first
    | assumption
    | intro _
    | refine keep_frameReceived ?_ ?_ ?_ ?_ ?_ ?_ ?_ ?_ ?_
    | refine keep_at' ?_ ?_ ?_

theorem keep_execRefLost (t : Nat) (s : State) (h1 : Keeps z s) : ∀ u, (execRefLost t s) = .next u → Keeps z u := by
  intro u e
  unfold execRefLost at e
  refine keep_next ?_ e
  clear e
  repeat' with_reducible first
    | assumption
    | intro _
    | refine keep_refLost ?_ ?_ ?_

theorem keep_execPpsIn (t : Nat) (s : State) (h1 : Keeps z s) : ∀ u, (execPpsIn t s) = .next u → Keeps z u := by
  intro u e
  unfold execPpsIn at e
  refine keep_next ?_ e
  clear e
  repeat' with_reducible first
    | assumption
    | intro _
    | refine keep_ppsIn ?_ ?_ ?_
    | refine keep_at' ?_ ?_ ?_

theorem keep_execErrCodeClear (t : Nat) (r : Requester) (p : Nat) (s : State) (h3 : Keeps z s) :
    ∀ u, (execErrCodeClear t r p s) = .next u → Keeps z u := by
  intro u e
  unfold execErrCodeClear at e
  refine keep_next ?_ e
  clear e
  repeat' with_reducible first
    | assumption
    | intro _
    | refine keep_accessW ?_ ?_ ?_ ?_ ?_ ?_

theorem keep_execOcxoWarmChange (t : Nat) (level : Bool) (s : State) (h2 : Keeps z s) :
    ∀ u, (execOcxoWarmChange t level s) = .next u → Keeps z u := by
  intro u e
  unfold execOcxoWarmChange at e
  refine keep_next ?_ e
  clear e
  repeat' with_reducible first
    | assumption
    | intro _
    | refine keep_jobFail ?_ ?_ ?_
    | refine keep_wrB ?_ ?_ ?_ ?_
    | refine keep_raise ?_ ?_ ?_
    | refine keep_at' ?_ ?_ ?_
    | refine keep_degradedWatch ?_ ?_ ?_ ?_
    | refine keep_ite ?_ ?_
    | split
    | dsimp only
    | exact keep_fold ‹_›
    | refine keep_fold ?_
    | refine keep_mk ?_

theorem keep_execPlanFrameReceived (t : Nat) (s : State) (h1 : Keeps z s) :
    ∀ u, (execPlanFrameReceived t s) = .next u → Keeps z u := by
  intro u e
  unfold execPlanFrameReceived at e
  refine keep_next ?_ e
  clear e
  repeat' with_reducible first
    | assumption
    | intro _
    | refine keep_planFrameReceived ?_ ?_
    | refine keep_at' ?_ ?_ ?_

theorem keep_lmpPeriodStart (t : Nat) (s : State) (h1 : Keeps z s) : Keeps z (lmpPeriodStart t s) := by
  unfold lmpPeriodStart
  repeat' with_reducible first
    | assumption
    | intro _
    | refine keep_periodBegin ?_ ?_ ?_ ?_
    | refine keep_lampsTo ?_ ?_ ?_
    | refine keep_ite ?_ ?_

theorem keep_execLmpPeriodStart (t : Nat) (s : State) (h1 : Keeps z s) : ∀ u, (execLmpPeriodStart t s) = .next u → Keeps z u := by
  intro u e
  unfold execLmpPeriodStart at e
  refine keep_next ?_ e
  clear e
  repeat' with_reducible first
    | assumption
    | intro _
    | refine keep_at' ?_ ?_ ?_
    | refine keep_lmpPeriodStart ?_ ?_ ?_

theorem keep_execHitTrailingEdge (t : Nat) (c : Nat) (high : Bool) (s : State) (h3 : Keeps z s) :
    ∀ u, (execHitTrailingEdge t c high s) = .next u → Keeps z u := by
  intro u e
  unfold execHitTrailingEdge at e
  refine keep_next ?_ e
  clear e
  repeat' with_reducible first
    | assumption
    | intro _
    | refine keep_hitTrailingEdge ?_ ?_ ?_ ?_ ?_
    | refine keep_at' ?_ ?_ ?_

theorem keep_execSeqDone (t : Nat) (s : State) (h1 : Keeps z s) : ∀ u, (execSeqDone t s) = .next u → Keeps z u := by
  intro u e
  unfold execSeqDone at e
  refine keep_next ?_ e
  clear e
  repeat' with_reducible first
    | assumption
    | intro _
    | refine keep_seqDone ?_ ?_
    | refine keep_at' ?_ ?_ ?_

theorem keep_execMspiWriteComplete (t : Nat) (s : State) (h1 : Keeps z s) :
    ∀ u, (execMspiWriteComplete t s) = .next u → Keeps z u := by
  intro u e
  unfold execMspiWriteComplete at e
  refine keep_next ?_ e
  clear e
  repeat' with_reducible first
    | assumption
    | intro _
    | refine keep_postedStep ?_ ?_
    | refine keep_at' ?_ ?_ ?_

theorem keep_execResetStuckClear (t : Nat) (s : State) (h1 : Keeps z s) : ∀ u, (execResetStuckClear t s) = .next u → Keeps z u := by
  intro u e
  unfold execResetStuckClear at e
  refine keep_next ?_ e
  clear e
  repeat' with_reducible first
    | assumption
    | intro _
    | refine keep_resetStuckClear ?_ ?_ ?_

theorem keep_execLrefReturn (t : Nat) (g : Nat) (s : State) (h2 : Keeps z s) :
    ∀ u, (execLrefReturn t g s) = .next u → Keeps z u := by
  intro u e
  unfold execLrefReturn at e
  refine keep_next ?_ e
  clear e
  repeat' with_reducible first
    | assumption
    | intro _
    | refine keep_lrefReturn ?_ ?_ ?_ ?_
    | refine keep_at' ?_ ?_ ?_

theorem keep_execNak (t : Nat) (b : Nat) (seq : Nat) (s : State) (h3 : Keeps z s) :
    ∀ u, (execNak t b seq s) = .next u → Keeps z u := by
  intro u e
  unfold execNak at e
  refine keep_next ?_ e
  clear e
  repeat' with_reducible first
    | assumption
    | intro _
    | refine keep_nakReceived ?_ ?_ ?_ ?_
    | refine keep_at' ?_ ?_ ?_

theorem keep_execRegRd (t : Nat) (b : Nat) (len : Nat) (body : List Nat) (s : State) (h4 : Keeps z s) :
    ∀ u, (execRegRd t b len body s) = .next u → Keeps z u := by
  intro u e
  unfold execRegRd at e
  refine keep_next ?_ e
  clear e
  repeat' with_reducible first
    | assumption
    | intro _
    | refine keep_drain ?_ ?_ ?_
    | refine keep_regCpl ?_ ?_ ?_ ?_ ?_ ?_ ?_ ?_ ?_
    | refine keep_regReads ?_ ?_ ?_ ?_ ?_ ?_ ?_ ?_
    | refine keep_at' ?_ ?_ ?_
    | refine keep_ite ?_ ?_

theorem keep_execSwitch (t : Nat) (r : Requester) (s : State) (h2 : Keeps z s) : ∀ u, (execSwitch t r s) = .next u → Keeps z u := by
  intro u e
  unfold execSwitch at e
  refine keep_next ?_ e
  clear e
  repeat' with_reducible first
    | assumption
    | intro _
    | refine keep_accessW ?_ ?_ ?_ ?_ ?_ ?_

theorem keep_execContextClose (t : Nat) (n : Nat) (s : State) (h2 : Keeps z s) :
    ∀ u, (execContextClose t n s) = .next u → Keeps z u := by
  intro u e
  unfold execContextClose at e
  refine keep_next ?_ e
  clear e
  repeat' with_reducible first
    | assumption
    | intro _
    | refine keep_contextClose ?_ ?_ ?_
    | refine keep_at' ?_ ?_ ?_

theorem keep_execZoomOpen (t : Nat) (c : Nat) (s : State) (h2 : Keeps z s) : ∀ u, (execZoomOpen t c s) = .next u → Keeps z u := by
  intro u e
  unfold execZoomOpen at e
  refine keep_next ?_ e
  clear e
  repeat' with_reducible first
    | assumption
    | intro _
    | refine keep_zoomOpen ?_ ?_ ?_
    | refine keep_at' ?_ ?_ ?_

theorem keep_execCreditIntExpire (t : Nat) (b : Nat) (s : State) (h2 : Keeps z s) :
    ∀ u, (execCreditIntExpire t b s) = .next u → Keeps z u := by
  intro u e
  unfold execCreditIntExpire at e
  refine keep_next ?_ e
  clear e
  repeat' with_reducible first
    | assumption
    | intro _
    | refine keep_creditIntExpire ?_ ?_ ?_ ?_
    | refine keep_at' ?_ ?_ ?_

theorem keep_execToutPulseEnd (t : Nat) (i : Nat) (s : State) (h2 : Keeps z s) :
    ∀ u, (execToutPulseEnd t i s) = .next u → Keeps z u := by
  intro u e
  unfold execToutPulseEnd at e
  refine keep_next ?_ e
  clear e
  repeat' with_reducible first
    | assumption
    | intro _
    | refine keep_toutPulseEnd ?_ ?_ ?_ ?_
    | refine keep_at' ?_ ?_ ?_

theorem keep_execVidFrameEnd (t : Nat) (s : State) (h1 : Keeps z s) : ∀ u, (execVidFrameEnd t s) = .next u → Keeps z u := by
  intro u e
  unfold execVidFrameEnd at e
  refine keep_next ?_ e
  clear e
  repeat' with_reducible first
    | assumption
    | intro _
    | refine keep_vidEnd ?_ ?_
    | refine keep_at' ?_ ?_ ?_
    | refine keep_ite ?_ ?_

theorem keep_execEngStart (t : Nat) (r : Requester) (e : Nat) (s : State) (h3 : Keeps z s) :
    ∀ u, (execEngStart t r e s) = .next u → Keeps z u := by
  intro u e
  unfold execEngStart at e
  refine keep_next ?_ e
  clear e
  repeat' with_reducible first
    | assumption
    | intro _
    | refine keep_accessW ?_ ?_ ?_ ?_ ?_ ?_

theorem keep_execRead (t : Nat) (a : Nat) (n : Nat) (waits : List Nat) (s : State) (h4 : Keeps z s) :
    ∀ u, (execRead t a n waits s) = .next u → Keeps z u := by
  intro u e
  unfold execRead at e
  refine keep_next ?_ e
  clear e
  repeat' with_reducible first
    | assumption
    | intro _
    | refine keep_drain ?_ ?_ ?_
    | refine keep_mspiRun ?_ ?_ ?_
    | refine keep_mspiBegin ?_ ?_ ?_
    | refine keep_at' ?_ ?_ ?_
    | refine keep_ite ?_ ?_

theorem keep_execResetStuck (t : Nat) (s : State) (h1 : Keeps z s) : ∀ u, (execResetStuck t s) = .next u → Keeps z u := by
  intro u e
  unfold execResetStuck at e
  refine keep_next ?_ e
  clear e
  repeat' with_reducible first
    | assumption
    | intro _
    | refine keep_resetStuck ?_ ?_ ?_

theorem keep_execPmonSnap (t : Nat) (r : Requester) (d : Nat) (s : State) (h3 : Keeps z s) :
    ∀ u, (execPmonSnap t r d s) = .next u → Keeps z u := by
  intro u e
  unfold execPmonSnap at e
  refine keep_next ?_ e
  clear e
  repeat' with_reducible first
    | assumption
    | intro _
    | refine keep_accessW ?_ ?_ ?_ ?_ ?_ ?_

theorem keep_execPllUnlock (t : Nat) (q : Nat) (s : State) (h2 : Keeps z s) : ∀ u, (execPllUnlock t q s) = .next u → Keeps z u := by
  intro u e
  unfold execPllUnlock at e
  refine keep_next ?_ e
  clear e
  repeat' with_reducible first
    | assumption
    | intro _
    | refine keep_discard ?_ ?_ ?_ ?_
    | refine keep_wr ?_ ?_ ?_ ?_
    | refine keep_wrBit ?_ ?_ ?_ ?_ ?_
    | refine keep_raise ?_ ?_ ?_
    | refine keep_at' ?_ ?_ ?_
    | refine keep_ite ?_ ?_
    | split
    | dsimp only
    | exact keep_fold ‹_›
    | refine keep_fold ?_
    | refine keep_mk ?_

end Sys2Proof.Machine
end

