-- ==== Sys2Proof/Laws/PerInstr.lean ====
section
/-!
SUPPORT. What holds of every command as it is written, one lemma per constructor.
-/

namespace Sys2Proof.Laws.Sender

set_option Elab.async false

/-- The sender of a well-formed command exists: MSPI, or one of the 32 bundles (02 R49; 09 R231). -/
def Statement (c : Instr) : Prop := WellFormed c = true → ∀ q ∈ c.sender, q.wf = true

theorem registerWrite (t : Nat) (r : Requester) (a d : Nat) : Statement (.registerWrite t r a d) := by
  intro h q hq
  cases hq
  simp only [WellFormed, Bool.and_eq_true] at h
  simp only [h]
theorem errCodeClear (t : Nat) (r : Requester) (p : Nat) : Statement (.errCodeClear t r p) := by
  intro h q hq
  cases hq
  simp only [WellFormed, Bool.and_eq_true] at h
  simp only [h]
theorem evtRawClear (t : Nat) (r : Requester) (p d : Nat) : Statement (.evtRawClear t r p d) := by
  intro h q hq
  cases hq
  simp only [WellFormed, Bool.and_eq_true] at h
  simp only [h]
theorem evtForce (t : Nat) (r : Requester) (p d : Nat) : Statement (.evtForce t r p d) := by
  intro h q hq
  cases hq
  simp only [WellFormed, Bool.and_eq_true] at h
  simp only [h]
theorem eventCounterClear (t : Nat) (r : Requester) (a : Nat) : Statement (.eventCounterClear t r a) := by
  intro h q hq
  cases hq
  simp only [WellFormed, Bool.and_eq_true] at h
  simp only [h]
theorem softReset (t : Nat) (r : Requester) (p : Nat) : Statement (.softReset t r p) := by
  intro h q hq
  cases hq
  simp only [WellFormed, Bool.and_eq_true] at h
  simp only [h]
theorem softResetComplete (t p : Nat) : Statement (.softResetComplete t p) := fun _ _ hq => nomatch hq
theorem commit (t : Nat) (r : Requester) (p : Nat) (q : Point) : Statement (.commit t r p q) := by
  intro h q hq
  cases hq
  simp only [WellFormed, Bool.and_eq_true] at h
  simp only [h]
theorem commitApply (t : Nat) (q : Point) : Statement (.commitApply t q) := fun _ _ hq => nomatch hq
theorem lockKeyWrite (t : Nat) (r : Requester) (p d : Nat) : Statement (.lockKeyWrite t r p d) := by
  intro h q hq
  cases hq
  simp only [WellFormed, Bool.and_eq_true] at h
  simp only [h]
theorem wideValueLowRead (t : Nat) (r : Requester) (a : Nat) : Statement (.wideValueLowRead t r a) := by
  intro h q hq
  cases hq
  simp only [WellFormed, Bool.and_eq_true] at h
  simp only [h]
theorem slowAccessComplete (t : Nat) (r : Requester) : Statement (.slowAccessComplete t r) := by
  intro h q hq
  cases hq
  simp only [WellFormed] at h
  simp only [h]
theorem write (t a : Nat) (words : List Nat) (done : Nat) : Statement (.write t a words done) := fun _ _ hq => nomatch hq
theorem read (t a n : Nat) (waits : List Nat) : Statement (.read t a n waits) := fun _ _ hq => nomatch hq
theorem mspiWriteComplete (t : Nat) : Statement (.mspiWriteComplete t) := fun _ _ hq => nomatch hq
theorem mspiCsEarlyRise (t a : Nat) (words : List Nat) : Statement (.mspiCsEarlyRise t a words) := fun _ _ hq => nomatch hq
theorem evfHoldoffEnd (t : Nat) : Statement (.evfHoldoffEnd t) := fun _ _ hq => nomatch hq
theorem pmonSnap (t : Nat) (r : Requester) (d : Nat) : Statement (.pmonSnap t r d) := by
  intro h q hq
  cases hq
  simp only [WellFormed, Bool.and_eq_true] at h
  simp only [h]
theorem pmonStart (t : Nat) (r : Requester) (d : Nat) : Statement (.pmonStart t r d) := by
  intro h q hq
  cases hq
  simp only [WellFormed, Bool.and_eq_true] at h
  simp only [h]
theorem monWindowEnd (t m : Nat) : Statement (.monWindowEnd t m) := fun _ _ hq => nomatch hq
theorem poolSplitWrite (t : Nat) (r : Requester) (d : Nat) : Statement (.poolSplitWrite t r d) := by
  intro h q hq
  cases hq
  simp only [WellFormed, Bool.and_eq_true] at h
  simp only [h]
theorem poolZeroed (t : Nat) : Statement (.poolZeroed t) := fun _ _ hq => nomatch hq
theorem scanModeWrite (t : Nat) (r : Requester) (d : Nat) : Statement (.scanModeWrite t r d) := by
  intro h q hq
  cases hq
  simp only [WellFormed, Bool.and_eq_true] at h
  simp only [h]
theorem ocxoWarmChange (t : Nat) (level : Bool) : Statement (.ocxoWarmChange t level) := fun _ _ hq => nomatch hq
theorem refLost (t : Nat) : Statement (.refLost t) := fun _ _ hq => nomatch hq
theorem holdoverLimit (t : Nat) : Statement (.holdoverLimit t) := fun _ _ hq => nomatch hq
theorem refPresent (t : Nat) : Statement (.refPresent t) := fun _ _ hq => nomatch hq
theorem tdcPllLock (t q : Nat) : Statement (.tdcPllLock t q) := fun _ _ hq => nomatch hq
theorem pllRelock (t q : Nat) : Statement (.pllRelock t q) := fun _ _ hq => nomatch hq
theorem pllUnlock (t q : Nat) : Statement (.pllUnlock t q) := fun _ _ hq => nomatch hq
theorem refSelWrite (t : Nat) (r : Requester) (d : Nat) : Statement (.refSelWrite t r d) := by
  intro h q hq
  cases hq
  simp only [WellFormed, Bool.and_eq_true] at h
  simp only [h]
theorem hitLeadingEdge (t c : Nat) : Statement (.hitLeadingEdge t c) := fun _ _ hq => nomatch hq
theorem hitTrailingEdge (t c : Nat) (high : Bool) : Statement (.hitTrailingEdge t c high) := fun _ _ hq => nomatch hq
theorem hitWidthLimit (t c : Nat) (high : Bool) : Statement (.hitWidthLimit t c high) := fun _ _ hq => nomatch hq
theorem hitFifoEntry (t c : Nat) : Statement (.hitFifoEntry t c) := fun _ _ hq => nomatch hq
theorem hitDrain (t bank : Nat) : Statement (.hitDrain t bank) := fun _ _ hq => nomatch hq
theorem hitTimeFormed (t c : Nat) : Statement (.hitTimeFormed t c) := fun _ _ hq => nomatch hq
theorem startEdge (t m : Nat) : Statement (.startEdge t m) := fun _ _ hq => nomatch hq
theorem startWindowClose (t m : Nat) : Statement (.startWindowClose t m) := fun _ _ hq => nomatch hq
theorem stCtrlWrite (t : Nat) (r : Requester) (m d : Nat) : Statement (.stCtrlWrite t r m d) := by
  intro h q hq
  cases hq
  simp only [WellFormed, Bool.and_eq_true] at h
  simp only [h]
theorem startSettleEnd (t m : Nat) : Statement (.startSettleEnd t m) := fun _ _ hq => nomatch hq
theorem chThreshWrite (t : Nat) (r : Requester) (c d : Nat) : Statement (.chThreshWrite t r c d) := by
  intro h q hq
  cases hq
  simp only [WellFormed, Bool.and_eq_true] at h
  simp only [h]
theorem settlingEnd (t c : Nat) : Statement (.settlingEnd t c) := fun _ _ hq => nomatch hq
theorem fctSnap (t : Nat) (r : Requester) (d : Nat) : Statement (.fctSnap t r d) := by
  intro h q hq
  cases hq
  simp only [WellFormed, Bool.and_eq_true] at h
  simp only [h]
theorem fctStart (t : Nat) (r : Requester) (d : Nat) : Statement (.fctStart t r d) := by
  intro h q hq
  cases hq
  simp only [WellFormed, Bool.and_eq_true] at h
  simp only [h]
theorem fcGateOpen (t k : Nat) : Statement (.fcGateOpen t k) := fun _ _ hq => nomatch hq
theorem fcGateClose (t k n : Nat) : Statement (.fcGateClose t k n) := fun _ _ hq => nomatch hq
theorem noSignal (t k : Nat) : Statement (.noSignal t k) := fun _ _ hq => nomatch hq
theorem idxRisingEdge (t : Nat) : Statement (.idxRisingEdge t) := fun _ _ hq => nomatch hq
theorem idxFallingEdge (t : Nat) : Statement (.idxFallingEdge t) := fun _ _ hq => nomatch hq
theorem shotStart (t g : Nat) : Statement (.shotStart t g) := fun _ _ hq => nomatch hq
theorem ltrigEdge (t g : Nat) : Statement (.ltrigEdge t g) := fun _ _ hq => nomatch hq
theorem captureGateOpen (t g : Nat) (dark : Bool) : Statement (.captureGateOpen t g dark) := fun _ _ hq => nomatch hq
theorem captureGateClose (t g : Nat) (dark : Bool) : Statement (.captureGateClose t g dark) := fun _ _ hq => nomatch hq
theorem colDataAccess (t : Nat) (r : Requester) (d : Option Nat) : Statement (.colDataAccess t r d) := by
  intro h q hq
  cases hq
  simp only [WellFormed, Bool.and_eq_true] at h
  simp only [h]
theorem escEnableWrite (t : Nat) (r : Requester) (d : Nat) : Statement (.escEnableWrite t r d) := by
  intro h q hq
  cases hq
  simp only [WellFormed, Bool.and_eq_true] at h
  simp only [h]
theorem toutArm (t : Nat) (r : Requester) (i d : Nat) : Statement (.toutArm t r i d) := by
  intro h q hq
  cases hq
  simp only [WellFormed, Bool.and_eq_true] at h
  simp only [h]
theorem toutPulse (t i : Nat) : Statement (.toutPulse t i) := fun _ _ hq => nomatch hq
theorem toutPulseEnd (t i : Nat) : Statement (.toutPulseEnd t i) := fun _ _ hq => nomatch hq
theorem nttArm (t : Nat) (r : Requester) (i d : Nat) : Statement (.nttArm t r i d) := by
  intro h q hq
  cases hq
  simp only [WellFormed, Bool.and_eq_true] at h
  simp only [h]
theorem nttFired (t i : Nat) : Statement (.nttFired t i) := fun _ _ hq => nomatch hq
theorem columnStartMarker (t c : Nat) : Statement (.columnStartMarker t c) := fun _ _ hq => nomatch hq
theorem shotMarker (t c : Nat) : Statement (.shotMarker t c) := fun _ _ hq => nomatch hq
theorem hitAccumulate (t c : Nat) : Statement (.hitAccumulate t c) := fun _ _ hq => nomatch hq
theorem boundaryMarker (t c : Nat) : Statement (.boundaryMarker t c) := fun _ _ hq => nomatch hq
theorem zoomOpen (t c : Nat) : Statement (.zoomOpen t c) := fun _ _ hq => nomatch hq
theorem pixelEndMarker (t c : Nat) : Statement (.pixelEndMarker t c) := fun _ _ hq => nomatch hq
theorem contextClose (t n : Nat) : Statement (.contextClose t n) := fun _ _ hq => nomatch hq
theorem contextReadoutComplete (t n : Nat) : Statement (.contextReadoutComplete t n) := fun _ _ hq => nomatch hq
theorem inspSelWrite (t : Nat) (r : Requester) (d : Nat) : Statement (.inspSelWrite t r d) := by
  intro h q hq
  cases hq
  simp only [WellFormed, Bool.and_eq_true] at h
  simp only [h]
theorem inspBinDataRead (t : Nat) (r : Requester) : Statement (.inspBinDataRead t r) := by
  intro h q hq
  cases hq
  simp only [WellFormed] at h
  simp only [h]
theorem inspBinDataWrite (t : Nat) (r : Requester) (d : Nat) : Statement (.inspBinDataWrite t r d) := by
  intro h q hq
  cases hq
  simp only [WellFormed, Bool.and_eq_true] at h
  simp only [h]
theorem rennetJudge (t c : Nat) : Statement (.rennetJudge t c) := fun _ _ hq => nomatch hq
theorem tempStale (t : Nat) : Statement (.tempStale t) := fun _ _ hq => nomatch hq
theorem frameBoundary (t : Nat) (partner : Bool) : Statement (.frameBoundary t partner) := fun _ _ hq => nomatch hq
theorem genlockEdge (t : Nat) (falling : Bool) : Statement (.genlockEdge t falling) := fun _ _ hq => nomatch hq
theorem genlockLost (t : Nat) : Statement (.genlockLost t) := fun _ _ hq => nomatch hq
theorem acqEnableWrite (t : Nat) (r : Requester) (d : Nat) : Statement (.acqEnableWrite t r d) := by
  intro h q hq
  cases hq
  simp only [WellFormed, Bool.and_eq_true] at h
  simp only [h]
theorem triggerInputEdge (t line : Nat) (falling : Bool) : Statement (.triggerInputEdge t line falling) := fun _ _ hq => nomatch hq
theorem hostTrig (t : Nat) (r : Requester) (d : Nat) : Statement (.hostTrig t r d) := by
  intro h q hq
  cases hq
  simp only [WellFormed, Bool.and_eq_true] at h
  simp only [h]
theorem autoTrigger (t : Nat) : Statement (.autoTrigger t) := fun _ _ hq => nomatch hq
theorem triggerResolve (t : Nat) : Statement (.triggerResolve t) := fun _ _ hq => nomatch hq
theorem retentionFillReady (t : Nat) : Statement (.retentionFillReady t) := fun _ _ hq => nomatch hq
theorem retentionPostEnd (t : Nat) : Statement (.retentionPostEnd t) := fun _ _ hq => nomatch hq
theorem retentionHoldoffEnd (t : Nat) : Statement (.retentionHoldoffEnd t) := fun _ _ hq => nomatch hq
theorem seqDone (t : Nat) : Statement (.seqDone t) := fun _ _ hq => nomatch hq
theorem rearm (t : Nat) (r : Requester) (d : Nat) : Statement (.rearm t r d) := by
  intro h q hq
  cases hq
  simp only [WellFormed, Bool.and_eq_true] at h
  simp only [h]
theorem recordEnqueue (t st : Nat) : Statement (.recordEnqueue t st) := fun _ _ hq => nomatch hq
theorem queueCfgWrite (t : Nat) (r : Requester) (k : Nat) (route : Bool) (d : Nat) : Statement (.queueCfgWrite t r k route d) := by
  intro h q hq
  cases hq
  simp only [WellFormed, Bool.and_eq_true] at h
  simp only [h]
theorem queueCfgApplyIdle (t k : Nat) : Statement (.queueCfgApplyIdle t k) := fun _ _ hq => nomatch hq
theorem segmentSend (t b : Nat) : Statement (.segmentSend t b) := fun _ _ hq => nomatch hq
theorem pressJobStart (t e : Nat) : Statement (.pressJobStart t e) := fun _ _ hq => nomatch hq
theorem pressPrimeDone (t e : Nat) : Statement (.pressPrimeDone t e) := fun _ _ hq => nomatch hq
theorem pressBlockEnd (t k : Nat) (bytes : List Byte) : Statement (.pressBlockEnd t k bytes) := fun _ _ hq => nomatch hq
theorem resumed (t e : Nat) : Statement (.resumed t e) := fun _ _ hq => nomatch hq
theorem resume (t : Nat) (r : Requester) (e : Nat) : Statement (.resume t r e) := by
  intro h q hq
  cases hq
  simp only [WellFormed, Bool.and_eq_true] at h
  simp only [h]
theorem bundleEnableWrite (t : Nat) (r : Requester) (b d : Nat) : Statement (.bundleEnableWrite t r b d) := by
  intro h q hq
  cases hq
  simp only [WellFormed, Bool.and_eq_true] at h
  simp only [h]
theorem laneBitLock (t l : Nat) : Statement (.laneBitLock t l) := fun _ _ hq => nomatch hq
theorem tsSetReceived (t l : Nat) (x : TsSeen) : Statement (.tsSetReceived t l x) := fun _ _ hq => nomatch hq
theorem trainStepComplete (t b seen : Nat) : Statement (.trainStepComplete t b seen) := fun _ _ hq => nomatch hq
theorem trainStepTimeout (t b seen : Nat) : Statement (.trainStepTimeout t b seen) := fun _ _ hq => nomatch hq
theorem trainFailRestart (t b : Nat) : Statement (.trainFailRestart t b) := fun _ _ hq => nomatch hq
theorem ack (t b seq : Nat) : Statement (.ack t b seq) := fun _ _ hq => nomatch hq
theorem nak (t b seq : Nat) : Statement (.nak t b seq) := fun _ _ hq => nomatch hq
theorem credit (t b vc limit : Nat) : Statement (.credit t b vc limit) := fun _ _ hq => nomatch hq
theorem laneOffer (t b mask : Nat) : Statement (.laneOffer t b mask) := fun _ _ hq => nomatch hq
theorem laneTx (t b mask : Nat) : Statement (.laneTx t b mask) := fun _ _ hq => nomatch hq
theorem power (t b : Nat) (ack : Bool) (st : Nat) : Statement (.power t b ack st) := fun _ _ hq => nomatch hq
theorem frameReceived (t b : Nat) (hdr body : List Word) (line : FrameSeen) : Statement (.frameReceived t b hdr body line) := fun _ _ hq => nomatch hq
theorem regWr (t b len : Nat) (body : List Nat) : Statement (.regWr t b len body) := fun _ _ hq => nomatch hq
theorem regRd (t b len : Nat) (body : List Nat) : Statement (.regRd t b len body) := fun _ _ hq => nomatch hq
theorem frameTransmit (t b : Nat) : Statement (.frameTransmit t b) := fun _ _ hq => nomatch hq
theorem ackIntExpire (t b : Nat) : Statement (.ackIntExpire t b) := fun _ _ hq => nomatch hq
theorem creditIntExpire (t b : Nat) : Statement (.creditIntExpire t b) := fun _ _ hq => nomatch hq
theorem replayTimeout (t b : Nat) : Statement (.replayTimeout t b) := fun _ _ hq => nomatch hq
theorem down (t b : Nat) : Statement (.down t b) := fun _ _ hq => nomatch hq
theorem retrain (t : Nat) (r : Requester) (b d : Nat) : Statement (.retrain t r b d) := by
  intro h q hq
  cases hq
  simp only [WellFormed, Bool.and_eq_true] at h
  simp only [h]
theorem quarantine (t l cause codes disps : Nat) : Statement (.quarantine t l cause codes disps) := fun _ _ hq => nomatch hq
theorem laneMaskSwitch (t b : Nat) (rx : Bool) : Statement (.laneMaskSwitch t b rx) := fun _ _ hq => nomatch hq
theorem laneRetrainAttempt (t l : Nat) : Statement (.laneRetrainAttempt t l) := fun _ _ hq => nomatch hq
theorem laneRetrainEnd (t l : Nat) (ok : Bool) : Statement (.laneRetrainEnd t l ok) := fun _ _ hq => nomatch hq
theorem lnCtrlRetry (t : Nat) (r : Requester) (l d : Nat) : Statement (.lnCtrlRetry t r l d) := by
  intro h q hq
  cases hq
  simp only [WellFormed, Bool.and_eq_true] at h
  simp only [h]
theorem laneEnWrite (t : Nat) (r : Requester) (b d : Nat) : Statement (.laneEnWrite t r b d) := by
  intro h q hq
  cases hq
  simp only [WellFormed, Bool.and_eq_true] at h
  simp only [h]
theorem powerReqWrite (t : Nat) (r : Requester) (b d : Nat) : Statement (.powerReqWrite t r b d) := by
  intro h q hq
  cases hq
  simp only [WellFormed, Bool.and_eq_true] at h
  simp only [h]
theorem powerRetry (t b : Nat) : Statement (.powerRetry t b) := fun _ _ hq => nomatch hq
theorem powerExit (t b : Nat) (signal : Bool) : Statement (.powerExit t b signal) := fun _ _ hq => nomatch hq
theorem lrefLost (t g : Nat) : Statement (.lrefLost t g) := fun _ _ hq => nomatch hq
theorem lgRateWrite (t : Nat) (r : Requester) (d : Nat) : Statement (.lgRateWrite t r d) := by
  intro h q hq
  cases hq
  simp only [WellFormed, Bool.and_eq_true] at h
  simp only [h]
theorem prbsSync (t l : Nat) (sync : Bool) (errors : Nat) : Statement (.prbsSync t l sync errors) := fun _ _ hq => nomatch hq
theorem controlTick (t : Nat) : Statement (.controlTick t) := fun _ _ hq => nomatch hq
theorem hallEdge (t p : Nat) : Statement (.hallEdge t p) := fun _ _ hq => nomatch hq
theorem hallEdgeTimeout (t : Nat) : Statement (.hallEdgeTimeout t) := fun _ _ hq => nomatch hq
theorem modeReqWrite (t : Nat) (r : Requester) (d : Nat) : Statement (.modeReqWrite t r d) := by
  intro h q hq
  cases hq
  simp only [WellFormed, Bool.and_eq_true] at h
  simp only [h]
theorem alignEnd (t : Nat) : Statement (.alignEnd t) := fun _ _ hq => nomatch hq
theorem startFail (t : Nat) : Statement (.startFail t) := fun _ _ hq => nomatch hq
theorem idxLost (t : Nat) : Statement (.idxLost t) := fun _ _ hq => nomatch hq
theorem standstill (t : Nat) : Statement (.standstill t) := fun _ _ hq => nomatch hq
theorem coastingClear (t : Nat) : Statement (.coastingClear t) := fun _ _ hq => nomatch hq
theorem faultLatchClear (t : Nat) (r : Requester) (gal : Bool) (d : Nat) : Statement (.faultLatchClear t r gal d) := by
  intro h q hq
  cases hq
  simp only [WellFormed, Bool.and_eq_true] at h
  simp only [h]
theorem galTblDataAccess (t : Nat) (r : Requester) (d : Option Nat) : Statement (.galTblDataAccess t r d) := by
  intro h q hq
  cases hq
  simp only [WellFormed, Bool.and_eq_true] at h
  simp only [h]
theorem sdfOutput (t c : Nat) (bits : List Bool) : Statement (.sdfOutput t c bits) := fun _ _ hq => nomatch hq
theorem sdfStuck (t c : Nat) : Statement (.sdfStuck t c) := fun _ _ hq => nomatch hq
theorem sdfUnstuck (t c : Nat) : Statement (.sdfUnstuck t c) := fun _ _ hq => nomatch hq
theorem clkLost (t : Nat) : Statement (.clkLost t) := fun _ _ hq => nomatch hq
theorem sdmClkReturn (t : Nat) : Statement (.sdmClkReturn t) := fun _ _ hq => nomatch hq
theorem sdfCfgWrite (t : Nat) (r : Requester) (d : Nat) : Statement (.sdfCfgWrite t r d) := by
  intro h q hq
  cases hq
  simp only [WellFormed, Bool.and_eq_true] at h
  simp only [h]
theorem safetyInputChange (t i : Nat) (level a b : Bool) : Statement (.safetyInputChange t i level a b) := fun _ _ hq => nomatch hq
theorem safeResetEdge (t : Nat) : Statement (.safeResetEdge t) := fun _ _ hq => nomatch hq
theorem resetStuck (t : Nat) : Statement (.resetStuck t) := fun _ _ hq => nomatch hq
theorem resetStuckClear (t : Nat) : Statement (.resetStuckClear t) := fun _ _ hq => nomatch hq
theorem pathCompare (t : Nat) : Statement (.pathCompare t) := fun _ _ hq => nomatch hq
theorem ss1Standstill (t : Nat) : Statement (.ss1Standstill t) := fun _ _ hq => nomatch hq
theorem ss1MaxExpire (t : Nat) : Statement (.ss1MaxExpire t) := fun _ _ hq => nomatch hq
theorem ssDiscrepancy (t : Nat) : Statement (.ssDiscrepancy t) := fun _ _ hq => nomatch hq
theorem speedAgree (t : Nat) : Statement (.speedAgree t) := fun _ _ hq => nomatch hq
theorem contactorMismatch (t : Nat) (motor : Bool) : Statement (.contactorMismatch t motor) := fun _ _ hq => nomatch hq
theorem proofStepEnd (t : Nat) : Statement (.proofStepEnd t) := fun _ _ hq => nomatch hq
theorem emitDelayEnd (t : Nat) : Statement (.emitDelayEnd t) := fun _ _ hq => nomatch hq
theorem budgetSubwindow (t : Nat) : Statement (.budgetSubwindow t) := fun _ _ hq => nomatch hq
theorem cfgClose (t : Nat) (r : Requester) : Statement (.cfgClose t r) := by
  intro h q hq
  cases hq
  simp only [WellFormed] at h
  simp only [h]
theorem cfgWindowTimeout (t : Nat) : Statement (.cfgWindowTimeout t) := fun _ _ hq => nomatch hq
theorem crcRunCheck (t : Nat) : Statement (.crcRunCheck t) := fun _ _ hq => nomatch hq
theorem ethFrameReceived (t p sfd : Nat) (frame : List Byte) (fcsOk : Bool) : Statement (.ethFrameReceived t p sfd frame fcsOk) := fun _ _ hq => nomatch hq
theorem pauseQuantaEnd (t p : Nat) : Statement (.pauseQuantaEnd t p) := fun _ _ hq => nomatch hq
theorem ethFrameEgress (t p sfd : Nat) : Statement (.ethFrameEgress t p sfd) := fun _ _ hq => nomatch hq
theorem linkUp (t p lp : Nat) : Statement (.linkUp t p lp) := fun _ _ hq => nomatch hq
theorem linkDown (t p : Nat) : Statement (.linkDown t p) := fun _ _ hq => nomatch hq
theorem anFail (t p lp : Nat) : Statement (.anFail t p lp) := fun _ _ hq => nomatch hq
theorem macAgeExpire (t : Nat) : Statement (.macAgeExpire t) := fun _ _ hq => nomatch hq
theorem matchEntryExpire (t : Nat) : Statement (.matchEntryExpire t) := fun _ _ hq => nomatch hq
theorem eth (t b len : Nat) (body : List Word) : Statement (.eth t b len body) := fun _ _ hq => nomatch hq
theorem mbRxDataRead (t : Nat) (r : Requester) : Statement (.mbRxDataRead t r) := by
  intro h q hq
  cases hq
  simp only [WellFormed] at h
  simp only [h]
theorem mbTxDataWrite (t : Nat) (r : Requester) (d : Nat) : Statement (.mbTxDataWrite t r d) := by
  intro h q hq
  cases hq
  simp only [WellFormed, Bool.and_eq_true] at h
  simp only [h]
theorem send (t : Nat) (r : Requester) : Statement (.send t r) := by
  intro h q hq
  cases hq
  simp only [WellFormed] at h
  simp only [h]
theorem abort (t : Nat) (r : Requester) : Statement (.abort t r) := by
  intro h q hq
  cases hq
  simp only [WellFormed] at h
  simp only [h]
theorem incrNsWrite (t : Nat) (r : Requester) (d : Nat) : Statement (.incrNsWrite t r d) := by
  intro h q hq
  cases hq
  simp only [WellFormed, Bool.and_eq_true] at h
  simp only [h]
theorem stepSecHiWrite (t : Nat) (r : Requester) (d : Nat) : Statement (.stepSecHiWrite t r d) := by
  intro h q hq
  cases hq
  simp only [WellFormed, Bool.and_eq_true] at h
  simp only [h]
theorem clearCoast (t : Nat) (r : Requester) (d : Nat) : Statement (.clearCoast t r d) := by
  intro h q hq
  cases hq
  simp only [WellFormed, Bool.and_eq_true] at h
  simp only [h]
theorem nowNsRead (t : Nat) (r : Requester) : Statement (.nowNsRead t r) := by
  intro h q hq
  cases hq
  simp only [WellFormed] at h
  simp only [h]
theorem ppsOutPulse (t : Nat) : Statement (.ppsOutPulse t) := fun _ _ hq => nomatch hq
theorem ppsOutEnd (t : Nat) : Statement (.ppsOutEnd t) := fun _ _ hq => nomatch hq
theorem ppsIn (t : Nat) : Statement (.ppsIn t) := fun _ _ hq => nomatch hq
theorem ppsinNsRead (t : Nat) (r : Requester) : Statement (.ppsinNsRead t r) := by
  intro h q hq
  cases hq
  simp only [WellFormed] at h
  simp only [h]
theorem planCycleStart (t : Nat) : Statement (.planCycleStart t) := fun _ _ hq => nomatch hq
theorem beatStart (t : Nat) : Statement (.beatStart t) := fun _ _ hq => nomatch hq
theorem planMsgSend (t : Nat) : Statement (.planMsgSend t) := fun _ _ hq => nomatch hq
theorem planFrameReceived (t : Nat) : Statement (.planFrameReceived t) := fun _ _ hq => nomatch hq
theorem plnEnableWrite (t : Nat) (r : Requester) (d : Nat) : Statement (.plnEnableWrite t r d) := by
  intro h q hq
  cases hq
  simp only [WellFormed, Bool.and_eq_true] at h
  simp only [h]
theorem peerSelWrite (t : Nat) (r : Requester) (d : Nat) : Statement (.peerSelWrite t r d) := by
  intro h q hq
  cases hq
  simp only [WellFormed, Bool.and_eq_true] at h
  simp only [h]
theorem vidLatchPoint (t : Nat) : Statement (.vidLatchPoint t) := fun _ _ hq => nomatch hq
theorem vidLineStart (t : Nat) (under : List (Nat × Nat)) : Statement (.vidLineStart t under) := fun _ _ hq => nomatch hq
theorem vidFrameEnd (t : Nat) : Statement (.vidFrameEnd t) := fun _ _ hq => nomatch hq
theorem timingResumed (t : Nat) : Statement (.timingResumed t) := fun _ _ hq => nomatch hq
theorem vidTblDataAccess (t : Nat) (r : Requester) (d : Option Nat) : Statement (.vidTblDataAccess t r d) := by
  intro h q hq
  cases hq
  simp only [WellFormed, Bool.and_eq_true] at h
  simp only [h]
theorem roundStart (t : Nat) : Statement (.roundStart t) := fun _ _ hq => nomatch hq
theorem roundTimer (t : Nat) : Statement (.roundTimer t) := fun _ _ hq => nomatch hq
theorem roundTrig (t : Nat) (r : Requester) (d : Nat) : Statement (.roundTrig t r d) := by
  intro h q hq
  cases hq
  simp only [WellFormed, Bool.and_eq_true] at h
  simp only [h]
theorem hkaConversionEnd (t code : Nat) (clamp : Bool) : Statement (.hkaConversionEnd t code clamp) := fun _ _ hq => nomatch hq
theorem urgent (t : Nat) (r : Requester) (d : Nat) : Statement (.urgent t r d) := by
  intro h q hq
  cases hq
  simp only [WellFormed, Bool.and_eq_true] at h
  simp only [h]
theorem blankTimeout (t : Nat) : Statement (.blankTimeout t) := fun _ _ hq => nomatch hq
theorem excLimit (t k : Nat) (on : Bool) : Statement (.excLimit t k on) := fun _ _ hq => nomatch hq
theorem linLoad (t : Nat) (r : Requester) (high : Bool) (d : Nat) : Statement (.linLoad t r high d) := by
  intro h q hq
  cases hq
  simp only [WellFormed, Bool.and_eq_true] at h
  simp only [h]
theorem linLoadDone (t c : Nat) : Statement (.linLoadDone t c) := fun _ _ hq => nomatch hq
theorem hkaStale (t c : Nat) : Statement (.hkaStale t c) := fun _ _ hq => nomatch hq
theorem orderlyStopStepEnd (t : Nat) : Statement (.orderlyStopStepEnd t) := fun _ _ hq => nomatch hq
theorem budgetOut (t : Nat) : Statement (.budgetOut t) := fun _ _ hq => nomatch hq
theorem tripLatchClear (t : Nat) (r : Requester) (d : Nat) : Statement (.tripLatchClear t r d) := by
  intro h q hq
  cases hq
  simp only [WellFormed, Bool.and_eq_true] at h
  simp only [h]
theorem calJobStart (t : Nat) (r : Requester) (d : Nat) : Statement (.calJobStart t r d) := by
  intro h q hq
  cases hq
  simp only [WellFormed, Bool.and_eq_true] at h
  simp only [h]
theorem calJobAbort (t : Nat) (r : Requester) (d : Nat) : Statement (.calJobAbort t r d) := by
  intro h q hq
  cases hq
  simp only [WellFormed, Bool.and_eq_true] at h
  simp only [h]
theorem calNoSignal (t : Nat) : Statement (.calNoSignal t) := fun _ _ hq => nomatch hq
theorem calEventCapture (t n a b : Nat) : Statement (.calEventCapture t n a b) := fun _ _ hq => nomatch hq
theorem calThreshStep (t : Nat) (above : List Nat) : Statement (.calThreshStep t above) := fun _ _ hq => nomatch hq
theorem jobDone (t : Nat) : Statement (.jobDone t) := fun _ _ hq => nomatch hq
theorem recompute (t : Nat) (r : Requester) (d : Nat) : Statement (.recompute t r d) := by
  intro h q hq
  cases hq
  simp only [WellFormed, Bool.and_eq_true] at h
  simp only [h]
theorem calComputeDone (t : Nat) : Statement (.calComputeDone t) := fun _ _ hq => nomatch hq
theorem applied (t : Nat) : Statement (.applied t) := fun _ _ hq => nomatch hq
theorem lmpPeriodStart (t : Nat) : Statement (.lmpPeriodStart t) := fun _ _ hq => nomatch hq
theorem lampDiagSample (t l : Nat) (short high : Bool) : Statement (.lampDiagSample t l short high) := fun _ _ hq => nomatch hq
theorem engStart (t : Nat) (r : Requester) (e : Nat) : Statement (.engStart t r e) := by
  intro h q hq
  cases hq
  simp only [WellFormed, Bool.and_eq_true] at h
  simp only [h]
theorem pairEnableWrite (t : Nat) (r : Requester) (d : Nat) : Statement (.pairEnableWrite t r d) := by
  intro h q hq
  cases hq
  simp only [WellFormed, Bool.and_eq_true] at h
  simp only [h]
theorem arb (t id : Nat) (prefer : Bool) (health : Nat) (runs : Bool) : Statement (.arb t id prefer health runs) := fun _ _ hq => nomatch hq
theorem arbDone (t : Nat) : Statement (.arbDone t) := fun _ _ hq => nomatch hq
theorem arbWaitExpire (t : Nat) : Statement (.arbWaitExpire t) := fun _ _ hq => nomatch hq
theorem alignSet (t edge tdc sec ns frac incr tick : Nat) : Statement (.alignSet t edge tdc sec ns frac incr tick) := fun _ _ hq => nomatch hq
theorem alignEdgeReached (t : Nat) : Statement (.alignEdgeReached t) := fun _ _ hq => nomatch hq
theorem heartbeatSend (t : Nat) : Statement (.heartbeatSend t) := fun _ _ hq => nomatch hq
theorem heartbeat (t : Nat) (r : PairReport) : Statement (.heartbeat t r) := fun _ _ hq => nomatch hq
theorem hbLost (t : Nat) : Statement (.hbLost t) := fun _ _ hq => nomatch hq
theorem activeOutRaise (t : Nat) : Statement (.activeOutRaise t) := fun _ _ hq => nomatch hq
theorem taken (t cause frame : Nat) : Statement (.taken t cause frame) := fun _ _ hq => nomatch hq
theorem standbyHoldApply (t : Nat) : Statement (.standbyHoldApply t) := fun _ _ hq => nomatch hq
theorem mirror (t : Nat) (m : LoopMirror) : Statement (.mirror t m) := fun _ _ hq => nomatch hq
theorem time (t edge : Nat) (incr : Option Nat) (step : Option Int) : Statement (.time t edge incr step) := fun _ _ hq => nomatch hq
theorem tiles (t frame : Nat) (tile : Option (Nat × Nat × Nat)) (ended stopped : Bool) : Statement (.tiles t frame tile ended stopped) := fun _ _ hq => nomatch hq
theorem plan (t st held pending grant : Nat) : Statement (.plan t st held pending grant) := fun _ _ hq => nomatch hq
theorem switch (t : Nat) (r : Requester) : Statement (.switch t r) := by
  intro h q hq
  cases hq
  simp only [WellFormed] at h
  simp only [h]
theorem por (t : Nat) (freqSel pairId : Bool) : Statement (.por t freqSel pairId) := fun _ _ hq => nomatch hq
theorem resetPin (t : Nat) : Statement (.resetPin t) := fun _ _ hq => nomatch hq
theorem glbSoftReset (t : Nat) (r : Requester) : Statement (.glbSoftReset t r) := by
  intro h q hq
  cases hq
  simp only [WellFormed] at h
  simp only [h]
theorem resetRelease (t : Nat) : Statement (.resetRelease t) := fun _ _ hq => nomatch hq
theorem wipeDone (t levels : Nat) : Statement (.wipeDone t levels) := fun _ _ hq => nomatch hq
theorem stateReqWrite (t : Nat) (r : Requester) (d : Nat) : Statement (.stateReqWrite t r d) := by
  intro h q hq
  cases hq
  simp only [WellFormed, Bool.and_eq_true] at h
  simp only [h]
theorem stateEntryDone (t : Nat) : Statement (.stateEntryDone t) := fun _ _ hq => nomatch hq
theorem lockTimeout (t : Nat) : Statement (.lockTimeout t) := fun _ _ hq => nomatch hq
theorem clkReqWrite (t : Nat) (r : Requester) (d : Nat) : Statement (.clkReqWrite t r d) := by
  intro h q hq
  cases hq
  simp only [WellFormed, Bool.and_eq_true] at h
  simp only [h]
theorem vidLock (t : Nat) : Statement (.vidLock t) := fun _ _ hq => nomatch hq
theorem lcKeyWrite (t : Nat) (r : Requester) (d : Nat) : Statement (.lcKeyWrite t r d) := by
  intro h q hq
  cases hq
  simp only [WellFormed, Bool.and_eq_true] at h
  simp only [h]
theorem lcReqWrite (t : Nat) (r : Requester) (d : Nat) : Statement (.lcReqWrite t r d) := by
  intro h q hq
  cases hq
  simp only [WellFormed, Bool.and_eq_true] at h
  simp only [h]
theorem lcTransitionDone (t : Nat) : Statement (.lcTransitionDone t) := fun _ _ hq => nomatch hq
theorem lrefReturn (t g : Nat) : Statement (.lrefReturn t g) := fun _ _ hq => nomatch hq
theorem clkPllUnlock (t i : Nat) : Statement (.clkPllUnlock t i) := fun _ _ hq => nomatch hq
theorem clkPllLock (t i : Nat) : Statement (.clkPllLock t i) := fun _ _ hq => nomatch hq
theorem timeEdgeApply (t : Nat) : Statement (.timeEdgeApply t) := fun _ _ hq => nomatch hq
theorem reservedLcw (t b : Nat) : Statement (.reservedLcw t b) := fun _ _ hq => nomatch hq
theorem jtagInstruction (t k : Nat) : Statement (.jtagInstruction t k) := fun _ _ hq => nomatch hq
theorem linkPowerEntry (t b : Nat) : Statement (.linkPowerEntry t b) := fun _ _ hq => nomatch hq
theorem l1ExitDone (t b : Nat) : Statement (.l1ExitDone t b) := fun _ _ hq => nomatch hq

end Sys2Proof.Laws.Sender
end

