-- ==== Sys2Proof/Tests/Slice0.lean ====
section
/-!
SUPPORT. The tests: ill-formed commands, one step against the spec's own figures, and the states that meet the premises of the
statements.
-/

namespace Sys2Proof.Machine.Tests

open Sys2Proof Sys2Proof.Machine

set_option Elab.async false
set_option linter.unusedVariables false

/-! ## Ill-formed commands -/

/-- A command that each check of WellFormed refuses. -/
theorem test_ill_formed_refused :
  ([ .registerWrite 0 (.bundle 32) 0 0,
   .registerWrite 0 .mspi 2 0,
   .registerWrite 0 .mspi 0 (2 ^ 32),
   .errCodeClear 0 .mspi 0x101,
   .write 0 0 [2 ^ 32] 0,
   .write 0 0 [] 1,
   .read 0 0 0 [],
   .monWindowEnd 0 16,
   .tdcPllLock 0 4,
   .hitLeadingEdge 0 512,
   .hitDrain 0 64,
   .startEdge 0 8,
   .fcGateOpen 0 4,
   .fcGateClose 0 0 4294967296,
   .shotStart 0 32,
   .toutArm 0 .mspi 4 0,
   .contextClose 0 256,
   .triggerInputEdge 0 6 false,
   .recordEnqueue 0 128,
   .queueCfgWrite 0 .mspi 16384 false 0,
   .segmentSend 0 32,
   .pressJobStart 0 32,
   .laneBitLock 0 144,
   .tsSetReceived 0 0 ⟨[], false⟩,
   .ack 0 0 65536,
   .credit 0 0 8 0,
   .credit 0 0 0 8192,
   .laneOffer 0 0 65536,
   .power 0 0 false 4,
   .regWr 0 0 65536 [],
   .quarantine 0 0 8 0 0,
   .lrefLost 0 9,
   .hallEdge 0 8,
   .sdfOutput 0 8 [],
   .safetyInputChange 0 6 false false false,
   .ethFrameReceived 0 4 0 [] false,
   .ethFrameEgress 0 5 0,
   .linkUp 0 0 65536,
   .hkaConversionEnd 0 65536 false,
   .excLimit 0 2 false,
   .linLoadDone 0 36,
   .calEventCapture 0 521 0 0,
   .lampDiagSample 0 16 false false,
   .engStart 0 .mspi 4,
   .arb 0 2 false 0 false,
   .arb 0 0 false 8 false,
   .alignSet 0 0 0 281474976710656 0 0 0 0,
   .alignSet 0 0 0 0 1000000000 0 0 0,
   .alignSet 0 0 0 0 0 4294967296 0 0,
   .alignSet 0 0 0 0 0 0 4294967296 0,
   .heartbeat 0 ⟨3, 0, true, 0, 0, false, false, false⟩,
   .mirror 0 ⟨9, [], 0, 0, 0, 0, 8, false, none⟩,
   .plan 0 16 0 0 0,
   .wipeDone 0 64,
   .clkPllUnlock 0 10,
   .jtagInstruction 0 6,
   .colDataAccess 0 .mspi (some (2 ^ 32)),
   .regWr 0 0 4 [2 ^ 32],
   .vidLineStart 0 [(4, 0)],
   .calThreshStep 0 [1032],
   .time 0 0 (some (2 ^ 32)) none,
   .tsSetReceived 0 0 ⟨List.replicate 15 256, false⟩,
   .frameReceived 0 0 [] [] ⟨0#32, 0, 0, [(144, 0, 0)]⟩,
   .frameReceived 0 0 [] [] ⟨0#32, 3, 0, []⟩,
   .regRd 0 0 8 [2 ^ 32],
   .galTblDataAccess 0 .mspi (some (2 ^ 32)),
   .vidTblDataAccess 0 .mspi (some (2 ^ 32))] : List Instr).all (fun c => !(WellFormed c)) = true := by decide

/-- A frame longer than a port can carry is ill-formed. -/
theorem test_ill_formed_long_frame (l : List Byte) (h : l.length = 65536) :
    WellFormed (.ethFrameReceived 0 0 0 l false) = false := by
  simp only [WellFormed, h]
  decide

/-! ## Small states -/

/-- The state with registers set. -/
def withRegs (l : List (Nat × Word)) (s : State) : State := l.foldl (fun s p => setReg s p.1 p.2) s

/-- The state with fields set. -/
def withFlds (l : List (Fld × Nat)) (s : State) : State := l.foldl (fun s p => wr s p.1 p.2) s

/-- The device awake in a power state, with fields set. -/
def atPower (st : Nat) (l : List (Fld × Nat)) : State :=
  withFlds ((F.PWR_STATUS_STATE, st) :: l) { State.reset with held := false }

/-- A state in which a slow access waits, behind the base of the general pool. -/
def slowState (x : SlowAccess) : State :=
  { atPower 3 [(F.GLB_MEMWIN_BASE_BASE_MIB, 120)] with bus := { State.reset.bus with slow := [x] } }

/-- ESC with a soft reset that waits for columns in progress. -/
def escWaits : State :=
  { withRegs [(0x20008, 2#32)] (atPower 3 []) with esc := { State.reset.esc with resetDue := true, runs := [(0, ⟨[⟨0, 0, false, 0, none, 0, 0, 0, 0, 0, false⟩], 0, 0, none, 1, 0⟩)] } }

/-- A laser group on channels 8 to 15 with the start channel 0. -/
def grp0 : GroupCfg :=
  { pos := 0, start := 0, ltrig := 0, first := 8, count := 8, width := 7, period := 1000, winStart := 0, winLen := 240, dark := 100,
    guard := 0, span := 0, bank := 0, shift := 0, stareFirst := 0, stareCol := 10000, s := 16, c := 4, ncLog := 6, kc := 3, origin := 0,
    nzLog := 5, kz := 1, peaks := 2, zoomMin := 4, retCoarse := false, p4Coarse := false, p4Zoom := false }

/-- A shot of the group, its edge issued and its range window open. -/
def shot0 : Shot :=
  ⟨3, 0, grp0, 10, 0, 0, 1, 100000, 7, true, false, 200000, none, false, false, true, false, false, false, false, 0⟩

/-- TDC quadrant 0 captures on channel 8, with the shot in flight. -/
def tdcState (l : List (Fld × Nat)) : State :=
  { atPower 3 ([(F.TDC_CTRL_ENABLE 0, 1), (F.CH_CTRL_ENABLE 8, 1)] ++ l) with esc := { State.reset.esc with shots := [shot0] } }

/-- A hit of the shot. -/
def hit0 : Hit := ⟨110000, 0, some 3, 0, none, false, false, false, false, false, false, false⟩

/-- A hit time of the shot. -/
def ht0 : HitTime := ⟨8, 3, 500, 110000, 100, false, false, false, false, false, false⟩

/-- Values of the return extraction that play no part here. -/
def ret0 : RetCfg := ⟨0#32, 0, 0, 0#32, 0, 0, 0, 0, false, 0#32, 0, [], 0#32, 0#32⟩

/-- A pixel of the group on channel 8. -/
def pix0 : PixelId := ⟨0, 8, 10, 0, 1, grp0, 90000, ret0, [], [], 0, 0⟩

/-- The pixel with its coarse context in slot 0. -/
def px0 : Pixel := Pixel.start pix0 false (some 0) []

/-- Its coarse context, open. -/
def ctx0 : Ctx := newCtx pix0 1 0 6 3 0 [0, 1, 2, 3, 4]

/-- Channel 8 with a path, a pixel and the coarse context in engine 4. -/
def vatState (l : List VatItem) (p : Option Pixel) : State :=
  { atPower 3 [(F.VAT_CTRL_ENABLE, 1)] with vat := ⟨[(4, ⟨[(0, some ctx0)], [], []⟩)], [(8, l)], [(8, p)]⟩ }

/-- ESC with a sweep scheduled for group 0, its first column at the origin. -/
def escState : State :=
  { atPower 4 [(F.LG_CTRL_ENABLE 0, 1), (F.LG_PERIOD_SHOT_PERIOD 0, 1000), (F.VLG_DWELL_S_M1 0, 3), (F.ESC_STARE_COL_STARE_COL_NS, 10000)] with
    esc := { State.reset.esc with active := true, runs := [(0, ⟨[⟨100000, 0, true, 10000000000, none, 0, 0, 0, 1, 8, false⟩], 0, 0, none, 1, 0⟩)] } }


/-- Acquisition runs in RUN, with every trigger source enabled. -/
def acqState : State :=
  let s := withRegs [(A.ACQ_TRIG_SRC, 0x3FF#32)] (atPower 4 [(F.ACQ_CTRL_ENABLE, 1), (F.ACQ_STATUS_RUNNING, 1), (F.SCN_SCAN_MODE, 2)])
  { s with acq := { s.acq with on' := true } }

/-- A frame of one position of 100 columns. -/
def frame0 : Frame :=
  ⟨9, 1000, [0], 1, 100, 1, [], [], [], [], 0, false, [], false, 0, false, false, false, false, false, false, [⟨1000, 0, true, 10000000, none, 0, 0, 0, 9, 100, false⟩], [], false⟩

/-- Acquisition in a retention state, its last post position and hold-off at these ordinals, no frame in flight. -/
def retained (st post hold next : Nat) : State :=
  { withFlds [(F.ACQ_STATUS_RET_STATE, st)] acqState with acq := { acqState.acq with post := post, hold := hold, ordNext := next } }

/-- A sequence that has been delivered. -/
def seq0 : Seq := ⟨3, 9, 5, 2, 2, 4, false, 1, 3, 7, 0, 8, 7, 0, false, 0, true, [], 0⟩

/-- A record of stream 0. -/
def rec0 : Rec := ⟨0x10, 9, 5, [1#32, 2#32], none, false, 1000, [], []⟩

/-- Queue 5 enabled for product 0 of region 0, with 8 blocks of the pool. -/
def queueState (q : Queue) : State :=
  { withFlds [(F.STQ_CTRL_ENABLE, 1), (F.Q_CFG_ENABLE 5, 1), (F.Q_LIMIT_MIN_BLOCKS 5, 2), (F.Q_LIMIT_MAX_BLOCKS 5, 60)] (atPower 3 []) with
    stq := { State.reset.stq with queues := [(5, q)] } }

/-- A record in a queue. -/
def qrec0 : QRec := ⟨[0x11223344#32, 0x55667788#32], false, true, 1000, 0⟩

/-- A queue whose stream is compressed, with one record. -/
def pressed : Queue := { Queue.off with live := true, pressing := true, items := [.data qrec0], inN := 8 }

/-- Bundle 2 on lanes 32 to 35 at rest in a state, with its quads enabled. -/
def linkState (st : Nat) (l : List (Fld × Nat)) (x : Bundle) : State :=
  { atPower 3 ([(F.WNB_CTRL_ENABLE, 1), (F.B_CTRL_ENABLE 2, 1), (F.B_LANES_FIRST 2, 32), (F.B_LANES_COUNT_M1 2, 3),
      (F.B_LANES_LANE_EN 2, 15), (F.B_STATUS_STATE 2, st), (F.LNQ_CTRL_ENABLE 8, 1)] ++ l) with wnb := ⟨[], [(2, x)], []⟩ }

/-- A link frame of a completion. -/
def linkFrame0 : LinkFrame := ⟨4, 0, 0, 8, [1#32, 2#32]⟩

/-- The symbols of a training set of lane 33. -/
def tsSymbols : List Nat :=
  [0x1A, 3, 0x31, 15, 0, 0, 0x34, 0x12, 0, 0, 0x4A, 0x4A, 0x4A, tsCheck [0x1A, 3, 0x31, 15, 0, 0, 0x34, 0x12, 0, 0, 0x4A, 0x4A, 0x4A], 0xB5]

/-- The training set. -/
def ts0 : TsSet := ⟨1, false, 3, 3, 1, 15, 0, 0, false, 0, 0, 0x1234#32⟩

/-- The polygon drive in a mode beside its registers. -/
def motState (mode : Nat) (l : List (Fld × Nat)) (m : Mot) : State :=
  { atPower 3 ([(F.SCN_CTRL_ENABLE, 1), (F.MOT_CTRL_ENABLE, 1), (F.MOT_STATUS_MODE, mode)] ++ l) with ctl := { State.reset.ctl with mot := m } }

/-- The current chain with channel 2 running. -/
def sdfState (l : List (Fld × Nat)) (x : SdfChan) : State :=
  { atPower 3 ([(F.SDF_CTRL_ENABLE, 1), (F.SDF_STATUS_CLK_OK, 1), (F.SDC_CFG_ENABLE 2, 1)] ++ l) with sdf := [(2, x)] }

/-- The safety block in READY. -/
def safState (l : List (Fld × Nat)) (x : Saf) : State := { atPower 3 l with saf := x }

/-- A path with its inputs at rest. -/
def path0 : Path := { Path.empty with ins := 0x33 }

/-- The bridge with port 1 enabled and its link up. -/
def ethState (l : List (Fld × Nat)) (x : Eth) : State :=
  { atPower 3 ([(F.ETH_CTRL_ENABLE, 1), (F.ETHP_CTRL_ENABLE 1, 1), (F.LNQ_QUAD_CFG_ROLE 35, 1), (F.ETHP_STATUS_LINK 1, 1), (F.ETHP_STATUS_SPEED 1, 2)] ++ l) with eth := x }

/-- A frame of 60 bytes to a learnt or unknown address. -/
def bytes60 : List Byte := [0x02#8, 1#8, 2#8, 3#8, 4#8, 5#8, 0x02#8, 9#8, 8#8, 7#8, 6#8, 5#8, 0x12#8, 0x34#8] ++ List.replicate 46 7#8

/-- A frame in an egress queue. -/
def ethItem0 : EthItem := ⟨3, 0, 256, 65536, false, false, false, 0, bytes60⟩

/-- The head of a host frame of 60 bytes for port 1, whole or as a first fragment. -/
def tunHead (last : Bool) : List Word := [word (1 * 2 ^ 24 + b2n last * 2 ^ 21 + 60), 0#32, 0#32, 0#32]

/-- Network time runs in READY. -/
def ntmState (l : List (Fld × Nat)) : State :=
  { atPower 3 ([(F.NTM_CTRL_ENABLE, 1)] ++ l) with ntm := ⟨.tkp, true, 0, 0, 100 * 2 ^ 32, none, false, 0⟩ }

/-- The preview is active in the first preset, its PLL locked. -/
def vidState (l : List (Fld × Nat)) : State :=
  atPower 3 ([(F.VID_OUT_CFG_PRESET, 1), (F.VID_STATUS_CLK_LOCK, 1), (F.VID_STATUS_ACTIVE, 1)] ++ l)

/-- The housekeeping converter is enabled. -/
def hkaState (l : List (Fld × Nat)) (x : Hka) : State := { atPower 3 ((F.HKA_CTRL_ENABLE, 1) :: l) with hka := x }

/-- An orderly stop in a step. -/
def thmState (l : List (Fld × Nat)) (k : Nat) : State := { atPower 3 l with thm := ⟨[], k, 5, 0, 0⟩ }

/-- A SCALE job of calibration. -/
def job0 : CalJob := ⟨3, 0, 4, 0, 0, [], [], [], [], 5, 0, 0, 0, 0, 0, [], [0, 0, 0, 0], 0⟩

/-- Calibration is enabled, with a job or none. -/
def calState (l : List (Fld × Nat)) (x : Option CalJob) : State :=
  { atPower 3 ([(F.CAL_CTRL_ENABLE, 1), (F.CLK_STATUS_OCXO_WARM, 1)] ++ l) with cal := { State.reset.cal with job := x } }

/-- The lamp block is enabled. -/
def lmpState (l : List (Fld × Nat)) (x : Lmp) : State := { atPower 3 ((F.LMP_CTRL_ENABLE, 1) :: l) with lmp := x }

/-- One chip of a pair in a role, the pair bundle UP. -/
def pairState (role : Nat) (l : List (Fld × Nat)) (x : Pair) : State :=
  { linkState 3 ([(F.B_CFG_PAIR 2, 1), (F.PAIR_CTRL_ENABLE, 1), (F.PAIR_ROLE_ROLE, role)] ++ l) Bundle.off with pair := x }

/-- A report of a partner at rest. -/
def report0 : PairReport := ⟨2, 0, true, 0, 0x33, false, false, false⟩

/-! ## Single steps and the worked examples -/

/-- The first two codes of a plan cycle: the worked example after 04 R112. -/
theorem test_dither_codes :
    seed 0x2C419E07 0x13A8F 5 = 0x2945A18D ∧ stage16 0x2945A18D = 0x218DC6D1 ∧ stage16 0x218DC6D1 = 0x46D15BC7 ∧
      dither 0x218DC6D1 255 = 209 ∧ dither 0x46D15BC7 255 = 199 ∧ dither 0x218DC6D1 99 = 97 ∧ dither 0x46D15BC7 99 = 95 := by decide

/-- The hit word of channel 166: the worked example after 03 R88. -/
theorem test_hit_word :
    hitWord (atPower 3 []) 166 ⟨56467, 147, some 3, 0, some (56467 + 624), true, false, false, false, false, false, false⟩ = 0x0000DC9302785300 := by
  decide

/-- CALSTORE as the worked example after 17 R449 gives it: channel 166 in the sets 1 and 4. -/
def calExample : State :=
  let put (k tap thl res : Nat) (m : List Host.Cell) : List Host.Cell :=
    setMemWord (setMemWord m (calRec k 166) (word (tap * 2 ^ 16 + thl))) (calRec k 166 + 4) (word res)
  { atPower 3 [] with calstore := put 1 61 0xFD 15960 (put 4 63 0xFB 16250 []) }

/-- The tap, residual and trim in force of channel 166 at 45.0 °C: the worked example after 17 R449. -/
theorem test_corrections :
    calOffset calExample [1, 4] 32768 166 = (62, 16105) ∧ calTrim calExample [1, 4] 32768 0 166 = -4 := by decide

/-- The on-times of an indicator at EMIT_DUTY 96, and PROOF_TICKS at reset: the worked example after 18 R462. -/
theorem test_indicator_low_duty :
    subOns 96 = List.replicate 16 6 ∧ lampProofTicks (lmpState [] State.reset.lmp) = 8 := by decide

/-- The sub-period of a proof pulse runs 8 ticks and owes 2, which the next gives back: the worked example after 18 R462. -/
theorem test_proof_pulse_debt :
    let x : Lamp := ⟨List.replicate 16 6, [], 0, 0, 0, 0, 0⟩
    let s := lmpState [(F.LAMP_CFG_ENABLE 3, 1), (F.LAMP_CFG_PROOF_EN 3, 1)] { State.reset.lmp with lamps := [(3, x)] }
    (lamp (subStep s 3) 3).ran = [8] ∧ (lamp (subStep s 3) 3).debt = 2 ∧ (lamp (subStep (subStep s 3) 3) 3).ran = [8, 4] ∧
      (lamp (subStep (subStep s 3) 3) 3).debt = 0 := by decide

/-- What a step answers, as a state. -/
def next (o : Host.Outcome State Fault Refusal) : State :=
  match o with
  | .next s => s
  | _ => State.reset

/-- The release of reset starts the wipe (20 R491). -/
theorem test_reset_release :
    flag (next (step { State.reset with pending := [.resetRelease 7] })) F.GLB_STATUS_WIPE_BUSY = true := by decide

/-- A wrong key leaves PWR closed and is recorded as 0x07 (02 R48). -/
theorem test_wrong_key :
    let u := next (step { atPower 1 [] with pending := [.lockKeyWrite 7 .mspi 0x2000 0x4C6C] })
    u.bus.lastErr = 0x07 ∧ fld (reg u 0x2028) 0 8 = 0x07 ∧ lockOpen u 0x2000 = false := by decide

/-- A page whose clock is stopped reads 0 and records 0x05 in GLB (01 R22). -/
theorem test_stopped_page :
    let u := next (step { atPower 1 [] with pending := [.registerWrite 7 .mspi 0x30008 1] })
    u.bus.lastErr = 0x05 ∧ fld (reg u 0x28) 0 8 = 0x05 ∧ reg u A.GLB_ERR_ADDR = 0x30008#32 := by decide

/-- CALSTORE stores its words little-endian (02 R34). -/
theorem test_calstore_bytes :
    (next (step { atPower 3 [] with pending := [.registerWrite 7 .mspi 0x400804 0xA1B2C3D4] })).calstore =
      [(0x804, 0xD4#8), (0x805, 0xC3#8), (0x806, 0xB2#8), (0x807, 0xA1#8)] := by decide

/-- STATE_REQ refuses the reserved encoding 7 (00 R11; 20 R495). -/
theorem test_reserved_state :
    (next (step { atPower 1 [] with pending := [.stateReqWrite 7 .mspi 7] })).bus.lastErr = 0x02 := by decide

/-- The premises of MemoriesStayCanonical and FusesStayLegal are met. -/
theorem witness_invariants :
    let s : State := { State.reset with pending := [.resetRelease 7], sram := [(5, 1#8), (9, 2#8)] }
    MemoriesCanonical s ∧ FusesLegal s ∧ ∃ u, step s = .next u := ⟨by decide, by decide, _, rfl⟩

/-- The seed of a key cycle number of more than 32 bits, and of a sum that is 0 (04 R111), computed by hand. -/
theorem test_seed_high_bits : seed 5 0x300000007 1 = 0x01008103 ∧ seed 0 (2 ^ 32) 0 = 0x8000 ∧ seed 0 0 0 = 0x7FFFFFFF := by decide

/-! ## The premises of the statements are met -/

theorem witness_writes_show_their_code :
    (∃ (t : Nat) (r : Requester) (a : Nat) (d : Nat) (s : State), BusIdle s) ∧
    (∃ (t : Nat) (r : Requester) (a : Nat) (d : Nat) (s : State) (f : FieldRow), Accepts t r a d s ∧ busAddr a = a ∧ pageBase a = some 0x3000 ∧ f ∈ fieldsAt a ∧ f.acc = .rw) :=
  ⟨⟨5, .mspi, 0x3080, 0, (atPower 3 []), by decide⟩,
    ⟨5, (.bundle 3), 0x3080, 0x80050007, (atPower 3 []), (⟨16, 5, .rw, [], false⟩), by decide⟩⟩

theorem witness_header_register_writes :
    (∃ (t : Nat) (r : Requester) (p : Nat) (s : State), HeaderPage p ∧ Accepts t r (p + 0x28) (2 ^ 31) s) ∧
    (∃ (t : Nat) (r : Requester) (p : Nat) (d : Nat) (s : State), HeaderPage p ∧ Accepts t r (p + 0x10) d s) ∧
    (∃ (t : Nat) (r : Requester) (p : Nat) (d : Nat) (s : State), HeaderPage p ∧ Accepts t r (p + 0x1C) d s) ∧
    (∃ (t : Nat) (r : Requester) (a : Nat) (s : State) (f : FieldRow), Accepts t r a 0xFFFFFFFF s ∧ busAddr a = a ∧ windowed a = false ∧ fieldsAt a = [f] ∧ f.acc = .cnt ∧ f.len = 32) :=
  ⟨⟨5, .mspi, 0x20000, (withRegs [(0x20028, 0x405#32)] (atPower 3 [])), by decide⟩,
    ⟨5, .mspi, 0x90000, 6, (withRegs [(0x90010, 0x7#32)] (atPower 3 [])), by decide⟩,
    ⟨5, (.bundle 0), 0x61080, 3, (withRegs [(0x61094, 0xFF#32)] (atPower 3 [])), by decide⟩,
    ⟨5, .mspi, A.IRQ_EVF_DROPPED, (withRegs [(A.IRQ_EVF_DROPPED, 9#32)] (atPower 3 [])), (⟨0, 32, .cnt, [], false⟩), by decide⟩⟩

theorem witness_soft_resets :
    (∃ (t : Nat) (r : Requester) (p : Nat) (s : State), HeaderPage p ∧ Accepts t r (p + 8) 2 s) ∧
    (∃ (t : Nat) (p : Nat) (s : State), HeaderPage p ∧ s.held = false ∧ bit (reg s (p + 8)) 1 = true ∧ s.esc.resetDue = false) ∧
    (∃ (t : Nat) (s : State), s.held = false ∧ bit (reg s 0x20008) 1 = true ∧ s.esc.resetDue = true ∧ columnsRun s = true) :=
  ⟨⟨5, .mspi, 0x30000, (atPower 3 []), by decide⟩,
    ⟨5, 0xA8000, (withRegs [(0xA8008, 2#32)] (atPower 3 [])), by decide⟩,
    ⟨5, escWaits, by decide⟩⟩

theorem witness_commits_and_lock :
    (∃ (t : Nat) (r : Requester) (p : Nat) (q : Point) (s : State), HeaderPage p ∧ Accepts t r (p + 0x20) (2 * q.code + 1) s) ∧
    (∃ (t : Nat) (q : Point) (s : State), awake s = true) ∧
    (∃ (t : Nat) (q : Point) (s : State) (c : Commit) (c' : Commit), awake s = true ∧ s.commits = [c] ∧ HeaderPage c.page ∧ commitStep (at' t s) q c = (c', true)) ∧
    (∃ (t : Nat) (q : Point) (s : State) (c : Commit) (c' : Commit), awake s = true ∧ s.commits = [c] ∧ commitStep (at' t s) q c = (c', false)) ∧
    (∃ (t : Nat) (r : Requester) (p : Nat) (d : Nat) (s : State), HeaderPage p ∧ Accepts t r (p + 0x2C) d s) ∧
    (∃ (t : Nat) (r : Requester) (p : Nat) (d : Nat) (s : State), HeaderPage p ∧ BusIdle s ∧ (busWrite r (p + 0x2C) (word d) (at' t s)).1 = 0x07) :=
  ⟨⟨5, .mspi, 0x20000, .frame, (atPower 3 []), by decide⟩,
    ⟨20000, .immediate, ({ withRegs [(0x30020, 1#32)] (atPower 3 []) with commits := [⟨0x30000, .immediate, 0, false, false, true⟩] }), by decide⟩,
    ⟨20000, .immediate, ({ withRegs [(0x30020, 1#32)] (atPower 3 []) with commits := [⟨0x30000, .immediate, 0, false, false, true⟩] }), (⟨0x30000, .immediate, 0, false, false, true⟩), (⟨0x30000, .immediate, 0, false, false, true⟩), by decide⟩,
    ⟨100, .immediate, ({ atPower 3 [] with commits := [⟨0x30000, .immediate, 0, false, false, true⟩] }), (⟨0x30000, .immediate, 0, false, false, true⟩), (⟨0x30000, .immediate, 0, false, false, true⟩), by decide⟩,
    ⟨5, .mspi, 0x1000, 0x4C6B, (atPower 1 []), by decide⟩,
    ⟨5, .mspi, 0x1000, 0x1234, (withRegs [(0x102C, 0x80000005#32)] (atPower 1 [])), by decide⟩⟩

theorem witness_wide_and_slow_accesses :
    (∃ (t : Nat) (r : Requester) (a : Nat) (s : State) (h : Nat), Readable t r a s ∧ busAddr a = a ∧ h ∈ wideHigh a ∧ latchedWord s r a = none) ∧
    (∃ (t : Nat) (s : State) (a : Nat) (d : Word), s.bus.slow = [⟨.mspi, true, a, d⟩] ∧ s.held = false ∧ Settled s ∧ flag s F.PMON_CTRL_ENABLE = false ∧ sysOn s = true ∧ 0x800000 ≤ busAddr a ∧ 0x3000000 ≤ windowAt s (busAddr a) ∧ windowRefused s (windowAt s (busAddr a)) = false) ∧
    (∃ (t : Nat) (s : State) (a : Nat) (d : Word) (b : Nat), s.bus.slow = [⟨.bundle b, false, a, d⟩] ∧ s.held = false ∧ Settled s ∧ flag s F.PMON_CTRL_ENABLE = false ∧ sysOn s = true ∧ 0x800000 ≤ busAddr a ∧ 0x3000000 ≤ windowAt s (busAddr a) ∧ !(inStream s (windowAt s (busAddr a)) && s.stq.touched)) :=
  ⟨⟨5, .mspi, A.ACQ_FRAME_NUM_LO, (atPower 3 []), (A.ACQ_FRAME_NUM_LO + 4), by decide⟩,
    ⟨5, (slowState ⟨.mspi, true, 0x800010, 0xA1B2C3D4#32⟩), 0x800010, 0xA1B2C3D4#32, by decide⟩,
    ⟨5, (slowState ⟨.bundle 2, false, 0x800010, 0#32⟩), 0x800010, 0#32, 2, by decide⟩⟩

theorem witness_mspi_transactions :
    (∃ (t : Nat) (a : Nat) (words : List Nat) (s : State), s.held = false ∧ words.length ≤ 256) ∧
    (∃ (t : Nat) (a : Nat) (words : List Nat) (done : Nat) (s : State), s.held = false) ∧
    (∃ (t : Nat) (a : Nat) (d : Nat) (s : State), BusIdle s ∧ slowAddr (a % 2 ^ 24) s = false) ∧
    (∃ (t : Nat) (a : Nat) (w : Nat) (ws : List Nat) (s : State), BusIdle s ∧ w ≤ 13 ∧ slowAddr (a % 2 ^ 24) s = false) ∧
    (∃ (t : Nat) (a : Nat) (n : Nat) (waits : List Nat) (s : State), BusIdle s) ∧
    (∃ (t : Nat) (a : Nat) (d : Word) (rest : List (Nat × Word)) (s : State), s.bus.posted = (a, d) :: rest ∧ s.bus.slow = []) ∧
    (∃ (t : Nat) (a : Nat) (words : List Nat) (s : State), s.held = false) :=
  ⟨⟨5, 0x1040, ([3, 4]), (atPower 3 []), by decide⟩,
    ⟨5, 0x1040, ([3, 4, 5]), 2, (atPower 3 []), by decide⟩,
    ⟨5, 0x1040, 0x4C6B, (atPower 3 []), by decide⟩,
    ⟨5, 0, 3, [], (atPower 3 []), by decide⟩,
    ⟨5, 0x1040, 3, ([1, 2]), (atPower 3 []), by decide⟩,
    ⟨5, 0x302C, 0x4C6B#32, ([(0x800000, 1#32)]), ({ atPower 3 [] with bus := { State.reset.bus with posted := [(0x302C, 0x4C6B#32), (0x800000, 1#32)] } }), by decide⟩,
    ⟨5, 0x1040, [7], (atPower 3 []), by decide⟩⟩

theorem witness_monitors_and_event_frames :
    (∃ (t : Nat) (s : State), s.irq.holding = true ∧ s.irq.endAt ≤ t ∧ s.irq.owed = false) ∧
    (∃ (t : Nat) (s : State) (b : Nat), s.irq.holding = true ∧ s.irq.endAt ≤ t ∧ s.irq.owed = true ∧ flag s F.IRQ_EVF_CFG_ENABLE = true ∧ rd s F.IRQ_EVF_CFG_BUNDLE = b ∧ bundleUp s b = true) ∧
    (∃ (t : Nat) (r : Requester) (d : Nat) (m : Nat) (s : State), Accepts t r A.PMON_SNAP d s ∧ m < 16 ∧ bit (word d) m = true) ∧
    (∃ (t : Nat) (r : Requester) (d : Nat) (m : Nat) (s : State), Accepts t r A.PMON_START d s ∧ m < 16 ∧ bit (word d) m = true) ∧
    (∃ (t : Nat) (m : Nat) (s : State), sysOn s = true ∧ m < 16 ∧ flag s (F.MON_CTRL_RUN m) = true ∧ rd s (F.MON_CTRL_MODE m) = 1 ∧ (monStat s m).since + usec (rd s (F.MON_WINDOW m)) ≤ t) :=
  ⟨⟨50, ({ atPower 3 [] with irq := ⟨true, 40, false⟩ }), by decide⟩,
    ⟨50, ({ atPower 3 [(F.IRQ_EVF_CFG_ENABLE, 1), (F.IRQ_EVF_CFG_BUNDLE, 2), (F.B_STATUS_STATE 2, 3)] with irq := ⟨true, 40, true⟩ }), 2, by decide⟩,
    ⟨5, .mspi, 6, 1, (setMon (atPower 3 []) 1 { Stat.empty with count := 4, lo := -3, hi := 9 }), by decide⟩,
    ⟨5, .mspi, 6, 1, (setMon (atPower 3 []) 1 { Stat.empty with count := 4, lo := -3, hi := 9 }), by decide⟩,
    ⟨(usec 30), 2, (atPower 3 [(F.MON_CTRL_RUN 2, 1), (F.MON_CTRL_MODE 2, 1), (F.MON_WINDOW 2, 20)]), by decide⟩⟩

theorem witness_pool_and_mode_writes :
    (∃ (t : Nat) (r : Requester) (d : Nat) (s : State), Accepts t r F.GLB_POOL_SPLIT_DISPLAY.addr d s) ∧
    (∃ (t : Nat) (s : State), sysOn s = true ∧ flag s F.GLB_STATUS_POOL_ZEROING = true) ∧
    (∃ (t : Nat) (r : Requester) (d : Nat) (s : State), Accepts t r A.SCN_SCAN_MODE d s) ∧
    (∃ (t : Nat) (r : Requester) (d : Nat) (s : State), Accepts t r F.CLK_REF_SEL_FREQ.addr d s) :=
  ⟨⟨5, .mspi, 0x0C1410, (withRegs [(0x2C, 0x80000040#32)] (atPower 3 [])), by decide⟩,
    ⟨5, (atPower 3 [(F.GLB_STATUS_POOL_ZEROING, 1)]), by decide⟩,
    ⟨5, .mspi, 2, (atPower 3 []), by decide⟩,
    ⟨5, .mspi, 1, (withRegs [(0x102C, 0x80000040#32)] (atPower 1 [])), by decide⟩⟩

theorem witness_reference_clock :
    (∃ (t : Nat) (level : Bool) (s : State), s.held = false ∧ flag s F.CLK_STATUS_OCXO_WARM ≠ level) ∧
    (∃ (t : Nat) (s : State), s.held = false ∧ flag s F.CLK_STATUS_REF_PRESENT = true) ∧
    (∃ (t : Nat) (s : State), flag s F.CLK_STATUS_HOLDOVER = true ∧ s.clk.heldSince + msec 10 ≤ t) ∧
    (∃ (t : Nat) (s : State), s.held = false ∧ flag s F.CLK_STATUS_REF_PRESENT = false) :=
  ⟨⟨5, true, (atPower 3 []), by decide⟩,
    ⟨5, (atPower 3 [(F.CLK_STATUS_REF_PRESENT, 1)]), by decide⟩,
    ⟨(msec 11), (atPower 3 [(F.CLK_STATUS_HOLDOVER, 1)]), by decide⟩,
    ⟨5, (atPower 3 [(F.CLK_STATUS_REF_LOST, 1)]), by decide⟩⟩

theorem witness_pll_locks :
    (∃ (t : Nat) (q : Nat) (s : State), sysOn s = true ∧ q < 4 ∧ flag s F.CLK_STATUS_REF_PRESENT = true ∧ rdBit s F.CLK_STATUS_SYS_LOCK.addr (2 + q) = false) ∧
    (∃ (t : Nat) (q : Nat) (s : State), sysOn s = true ∧ q ∈ s.clk.discard ∧ rdBit s F.CLK_STATUS_SYS_LOCK.addr (2 + q) = true ∧ q < 4 ∧ pget 0 s.clk.lockedAt q + usec 10 ≤ t) ∧
    (∃ (t : Nat) (q : Nat) (s : State), sysOn s = true ∧ q < 4 ∧ flag s F.CLK_STATUS_REF_PRESENT = true ∧ rdBit s F.CLK_STATUS_SYS_LOCK.addr (2 + q) = true) ∧
    (∃ (t : Nat) (i : Nat) (s : State), clkPll s i = true ∧ rdBit s F.CLK_STATUS_SYS_LOCK.addr i = true) ∧
    (∃ (t : Nat) (i : Nat) (s : State), clkPll s i = true ∧ rdBit s F.CLK_STATUS_SYS_LOCK.addr i = false) :=
  ⟨⟨5, 2, (atPower 3 [(F.CLK_STATUS_REF_PRESENT, 1)]), by decide⟩,
    ⟨(usec 12), 1, ({ atPower 3 [(⟨F.CLK_STATUS_SYS_LOCK.addr, 3, 1⟩, 1)] with clk := { State.reset.clk with discard := [1] } }), by decide⟩,
    ⟨5, 1, (atPower 3 [(F.CLK_STATUS_REF_PRESENT, 1), (⟨F.CLK_STATUS_SYS_LOCK.addr, 3, 1⟩, 1)]), by decide⟩,
    ⟨5, 6, (atPower 3 [(F.CLK_STATUS_REF_PRESENT, 1), (⟨F.CLK_STATUS_SYS_LOCK.addr, 6, 1⟩, 1)]), by decide⟩,
    ⟨5, 9, (atPower 3 [(F.CLK_STATUS_REF_PRESENT, 1)]), by decide⟩⟩

theorem witness_hit_edges :
    (∃ (t : Nat) (c : Nat) (x : Shot) (dark : Bool) (s : State), chanCaptures s c = true ∧ flag s (F.CH_CTRL_FREE_RUN c) = false ∧ openGate s c = some (x, dark) ∧ merges (chan s c) (hitEdge s c t) = false ∧ (if (chan s c).shot = x.id + 1 then (chan s c).count else 0) ≤ rd s (F.CH_CTRL_MAX_HITS c)) ∧
    (∃ (t : Nat) (c : Nat) (s : State), chanCaptures s c = true ∧ flag s (F.CH_CTRL_FREE_RUN c) = true ∧ merges (chan s c) (hitEdge s c t) = false) ∧
    (∃ (t : Nat) (c : Nat) (x : Shot) (dark : Bool) (s : State), chanCaptures s c = true ∧ flag s (F.CH_CTRL_FREE_RUN c) = false ∧ openGate s c = some (x, dark) ∧ merges (chan s c) (hitEdge s c t) = true) ∧
    (∃ (t : Nat) (c : Nat) (x : Shot) (dark : Bool) (s : State), chanCaptures s c = true ∧ flag s (F.CH_CTRL_FREE_RUN c) = false ∧ openGate s c = some (x, dark) ∧ merges (chan s c) (hitEdge s c t) = false ∧ (chan s c).shot = x.id + 1 ∧ rd s (F.CH_CTRL_MAX_HITS c) < (chan s c).count) ∧
    (∃ (t : Nat) (c : Nat) (s : State), flag s (F.CH_CTRL_FREE_RUN c) = false ∧ openGate s c = none) ∧
    (∃ (t : Nat) (c : Nat) (high : Bool) (h : Hit) (s : State), (chan s c).cur = some h ∧ (chan s c).live = true) ∧
    (∃ (t : Nat) (c : Nat) (high : Bool) (h : Hit) (s : State), (chan s c).cur = some h ∧ (chan s c).live = true ∧ h.time + 65520 ≤ t) :=
  ⟨⟨110000, 8, shot0, false, (tdcState []), by decide⟩,
    ⟨110000, 8, (tdcState [(F.CH_CTRL_FREE_RUN 8, 1)]), by decide⟩,
    ⟨110100, 8, shot0, false, (setChan (tdcState []) 8 { Chan.empty with cur := some hit0, live := true, lead := 110000 }), by decide⟩,
    ⟨150000, 8, shot0, false, (setChan (tdcState []) 8 { Chan.empty with shot := 4, count := 9 }), by decide⟩,
    ⟨5, 40, (tdcState []), by decide⟩,
    ⟨111000, 8, true, hit0, (setChan (tdcState []) 8 { Chan.empty with cur := some hit0, live := true }), by decide⟩,
    ⟨190000, 8, false, hit0, (setChan (tdcState []) 8 { Chan.empty with cur := some hit0, live := true }), by decide⟩⟩

theorem witness_hit_path :
    (∃ (t : Nat) (c : Nat) (h : Hit) (l : List Hit) (s : State), (chan s c).done = h :: l ∧ (chan s c).fifo.length < 64) ∧
    (∃ (t : Nat) (c : Nat) (h : Hit) (s : State), (chan s c).done = [] ∧ (chan s c).cur = some h ∧ h.trail.isSome = true ∧ 5 * h.time + 2048 ≤ 5 * max s.now t ∧ (chan s c).fifo.length < 64) ∧
    (∃ (t : Nat) (c : Nat) (h : Hit) (l : List Hit) (s : State), (chan s c).done = h :: l ∧ (chan s c).fifo.length = 64) ∧
    (∃ (t : Nat) (bank : Nat) (c : Nat) (h : Hit) (l : List Hit) (s : State), nextServed s bank = some c ∧ (chan s c).fifo = h :: l) ∧
    (∃ (t : Nat) (c : Nat) (p : Nat × Hit) (s : State), s.tdc.waiting.find? (hitReady s c) = some p) ∧
    (∃ (t : Nat) (c : Nat) (x : RennetHit) (s : State), (rennet s (c / 8)).find? (fun y => !y.judged && decide (y.hit.chan = c)) = some x ∧ x.pass = false ∧ rennetReady (at' t s) x = true ∧ x.count = true ∧ flag s F.REJ_CTRL_ENABLE = true) :=
  ⟨⟨5, 8, hit0, [], (setChan (tdcState []) 8 { Chan.empty with done := [hit0] }), by decide⟩,
    ⟨120000, 8, ({ hit0 with trail := some 111000 }), (setChan (tdcState []) 8 { Chan.empty with cur := some { hit0 with trail := some 111000 } }), by decide⟩,
    ⟨5, 8, hit0, [], (setChan (tdcState []) 8 { Chan.empty with done := [hit0], fifo := List.replicate 64 hit0 }), by decide⟩,
    ⟨5, 1, 9, hit0, [], (setChan { tdcState [] with esc := { State.reset.esc with shots := [{ shot0 with found := some 70 }] } } 9 { Chan.empty with fifo := [hit0] }), by decide⟩,
    ⟨5, 8, ((8, hit0)), ({ tdcState [] with tdc := { State.reset.tdc with waiting := [(8, hit0)] }, esc := { State.reset.esc with shots := [{ shot0 with found := some 70 }] } }), by decide⟩,
    ⟨200000, 8, (⟨ht0, 0x20100#32, false, true, false⟩), (setRennet (tdcState [(F.REJ_CTRL_ENABLE, 1)]) 1 [⟨ht0, 0x20100#32, false, true, false⟩]), by decide⟩⟩

theorem witness_starts_and_thresholds :
    (∃ (t : Nat) (m : Nat) (x : Shot) (s : State), quadCaptures s (m / 2) = true ∧ flag s (F.ST_CTRL_ENABLE m) = true ∧ calHolds s = false ∧ stSettling s m (max s.now t) = false ∧ s.esc.shots.find? (fun y => (y.cfg.start = m && y.issued && !y.closed && decide (edgeTime s (512 + m) t + pget 0 s.cal.cur.tap (512 + m) ≤ y.winEnd)) && y.found.isNone) = some x) ∧
    (∃ (t : Nat) (m : Nat) (s : State), quadCaptures s (m / 2) = true ∧ flag s (F.ST_CTRL_ENABLE m) = true ∧ calHolds s = false ∧ stSettling s m (max s.now t) = false ∧ s.esc.shots = [] ∧ m < 8) ∧
    (∃ (t : Nat) (m : Nat) (x : Shot) (s : State), m < 8 ∧ s.esc.shots.find? (fun y => decide (y.cfg.start = m) && y.issued && !y.closed && decide (y.winEnd ≤ t)) = some x ∧ x.found = none) ∧
    (∃ (t : Nat) (m : Nat) (x : Shot) (v : Int) (s : State), s.esc.shots.find? (fun y => decide (y.cfg.start = m) && y.issued && !y.closed && decide (y.winEnd ≤ t)) = some x ∧ x.found = some v) ∧
    (∃ (t : Nat) (r : Requester) (m : Nat) (d : Nat) (s : State), m < 8 ∧ Accepts t r (A.ST_CTRL m) d s) ∧
    (∃ (t : Nat) (m : Nat) (s : State), stSettling s m t = false) ∧
    (∃ (t : Nat) (r : Requester) (c : Nat) (d : Nat) (s : State), c < 512 ∧ Accepts t r (F.CH_THRESH_THL c).addr d s) ∧
    (∃ (t : Nat) (c : Nat) (s : State), (chan s c).settle ≤ t) :=
  ⟨⟨102000, 0, shot0, (tdcState [(F.ST_CTRL_ENABLE 0, 1)]), by decide⟩,
    ⟨102000, 1, ({ tdcState [(F.ST_CTRL_ENABLE 1, 1)] with esc := State.reset.esc }), by decide⟩,
    ⟨200000, 0, shot0, (tdcState []), by decide⟩,
    ⟨200000, 0, ({ shot0 with found := some 9 }), 9, ({ tdcState [] with esc := { State.reset.esc with shots := [{ shot0 with found := some 9 }] } }), by decide⟩,
    ⟨5, .mspi, 3, 0x101, (atPower 3 []), by decide⟩,
    ⟨(usec 3), 2, ({ tdcState [] with tdc := { State.reset.tdc with stSettle := [(2, usec 2)] } }), by decide⟩,
    ⟨5, .mspi, 511, 0x2000100, (atPower 3 []), by decide⟩,
    ⟨5, 8, (setChan (tdcState []) 8 { Chan.empty with settle := 4 }), by decide⟩⟩

theorem witness_time_difference_and_frequency :
    (∃ (t : Nat) (r : Requester) (d : Nat) (m : Nat) (s : State), Accepts t r A.FCT_SNAP d s ∧ m < 16 ∧ bit (word d) m = true) ∧
    (∃ (t : Nat) (r : Requester) (d : Nat) (m : Nat) (s : State), Accepts t r A.FCT_START d s ∧ m < 16 ∧ bit (word d) m = true) ∧
    (∃ (t : Nat) (r : Requester) (d : Nat) (k : Nat) (s : State), Accepts t r A.FCT_START d s ∧ k < 4 ∧ bit (word d) (16 + k) = true) ∧
    (∃ (t : Nat) (k : Nat) (a : Nat) (s : State), fcRuns s k = true ∧ (fcOf s k).armed = some a) ∧
    (∃ (t : Nat) (k : Nat) (n : Nat) (o : Nat) (s : State), fcRuns s k = true ∧ (fcOf s k).open' = some o ∧ o + usec (rd s (F.FC_CTRL_GATE_US k)) ≤ t) ∧
    (∃ (t : Nat) (k : Nat) (a : Nat) (s : State), fcRuns s k = true ∧ (fcOf s k).armed = some a ∧ a + usec (rd s (F.FC_CTRL_GATE_US k)) ≤ t) :=
  ⟨⟨5, .mspi, 0x8001, 15, (setTdu (atPower 3 []) 15 { Stat.empty with count := 2, sum := 7, lo := 3, hi := 4 }), by decide⟩,
    ⟨5, .mspi, 0x30001, 0, (atPower 3 []), by decide⟩,
    ⟨5, .mspi, 0x30001, 1, (atPower 3 []), by decide⟩,
    ⟨9, 3, 2, (setFc (atPower 3 [(F.FCT_CTRL_ENABLE, 1), (F.FC_CTRL_RUN 3, 1)]) 3 ⟨some 2, none⟩), by decide⟩,
    ⟨(usec 2000), 1, 77, 3, (setFc (atPower 3 [(F.FCT_CTRL_ENABLE, 1), (F.FC_CTRL_RUN 1, 1)]) 1 ⟨none, some 3⟩), by decide⟩,
    ⟨(usec 2000), 1, 3, (setFc (atPower 3 [(F.FCT_CTRL_ENABLE, 1), (F.FC_CTRL_RUN 1, 1)]) 1 ⟨some 3, none⟩), by decide⟩⟩

theorem witness_shots_and_edges :
    (∃ (t : Nat) (g : Nat) (w : Sweep) (l : List Sweep) (z : GroupCfg) (s : State), (runOf s g).sweeps = w :: l ∧ ((runOf s g).cfg.isSome || flag s (F.LG_CTRL_ENABLE g)) = true ∧ z = (runOf s g).cfg.getD (groupCfg s w g) ∧ (shotStart s w z (runOf s g).col (runOf s g).shot).getD t ≤ t ∧ g < 32 ∧ ((flag s F.PLN_CTRL_ENABLE || decide (w.frame = s.acq.numbered.getD w.frame)) = true)) ∧
    (∃ (t : Nat) (g : Nat) (w : Sweep) (l : List Sweep) (z : GroupCfg) (s : State), (runOf s g).sweeps = w :: l ∧ ((runOf s g).cfg.isSome || flag s (F.LG_CTRL_ENABLE g)) = true ∧ z = (runOf s g).cfg.getD (groupCfg s w g) ∧ (shotStart s w z (runOf s g).col (runOf s g).shot).getD t ≤ t ∧ g < 32 ∧ flag s F.PLN_CTRL_ENABLE = false ∧ w.frame ≠ s.acq.numbered.getD w.frame) ∧
    (∃ (t : Nat) (g : Nat) (x : Shot) (s : State), s.esc.shots.find? (fun y => decide (y.group = g) && !y.issued && !y.dropped && decide (y.cmd ≤ t)) = some x ∧ edgeStopped s x = false) ∧
    (∃ (t : Nat) (g : Nat) (x : Shot) (s : State), s.esc.shots.find? (fun y => decide (y.group = g) && !y.issued && !y.dropped && decide (y.cmd ≤ t)) = some x ∧ edgeStopped s x = true) :=
  ⟨⟨400000, 0, (⟨100000, 0, true, 10000000000, none, 0, 0, 0, 1, 8, false⟩), [], (groupCfg escState ⟨100000, 0, true, 10000000000, none, 0, 0, 0, 1, 8, false⟩ 0), escState, by decide⟩,
    ⟨400000, 0, (⟨100000, 0, true, 10000000000, none, 0, 0, 0, 1, 8, false⟩), [], (groupCfg escState ⟨100000, 0, true, 10000000000, none, 0, 0, 0, 1, 8, false⟩ 0), ({ escState with acq := { State.reset.acq with numbered := some 2 } }), by decide⟩,
    ⟨103000, 0, ({ shot0 with issued := false, rangeOpen := false }), ({ tdcState [] with esc := { State.reset.esc with shots := [{ shot0 with issued := false, rangeOpen := false }] } }), by decide⟩,
    ⟨130000, 0, ({ shot0 with issued := false, d := 100 }), ({ tdcState [] with esc := { State.reset.esc with shots := [{ shot0 with issued := false, d := 100 }] }, saf := { Saf.empty with lostAt := 110000 } }), by decide⟩⟩

theorem witness_capture_gates :
    (∃ (t : Nat) (g : Nat) (x : Shot) (s : State), s.esc.shots.find? (fun y => decide (y.group = g) && !y.dropped && (!y.issued && !y.darkDone && decide (y.start ≤ t) && decide (t < y.darkEnd))) = some x) ∧
    (∃ (t : Nat) (g : Nat) (x : Shot) (s : State), s.esc.shots.find? (fun y => decide (y.group = g) && !y.dropped && (y.issued && !y.rangeOpen && !y.rangeDone && decide (y.cmd + nsec y.cfg.winStart ≤ t))) = some x) ∧
    (∃ (t : Nat) (g : Nat) (x : Shot) (s : State), s.esc.shots.find? (fun y => decide (y.group = g) && (y.darkOpen && decide (y.darkEnd ≤ t))) = some x) ∧
    (∃ (t : Nat) (g : Nat) (x : Shot) (s : State), s.esc.shots.find? (fun y => decide (y.group = g) && (y.issued && !y.rangeDone && decide (y.cmd + nsec (y.cfg.winStart + y.cfg.winLen) ≤ t))) = some x) :=
  ⟨⟨100010, 0, ({ shot0 with issued := false, cfg := { grp0 with dark := 50 } }), ({ tdcState [] with esc := { State.reset.esc with shots := [{ shot0 with issued := false, cfg := { grp0 with dark := 50 } }] } }), by decide⟩,
    ⟨103000, 0, ({ shot0 with rangeOpen := false }), ({ tdcState [] with esc := { State.reset.esc with shots := [{ shot0 with rangeOpen := false }] } }), by decide⟩,
    ⟨130000, 0, ({ shot0 with darkOpen := true }), ({ tdcState [] with esc := { State.reset.esc with shots := [{ shot0 with darkOpen := true }] } }), by decide⟩,
    ⟨180000, 0, shot0, (tdcState []), by decide⟩⟩

theorem witness_esc_registers :
    (∃ (t : Nat) (r : Requester) (d : Nat) (s : State), Accepts t r A.ESC_COL_DATA d s) ∧
    (∃ (t : Nat) (r : Requester) (s : State), Readable t r A.ESC_COL_DATA s) ∧
    (∃ (t : Nat) (r : Requester) (d : Nat) (s : State), Accepts t r F.ESC_CTRL_ENABLE.addr d s ∧ bit (word d) 1 = false) :=
  ⟨⟨5, .mspi, 0xDEADBEEF, (atPower 3 [(F.ESC_COL_ADDR_INDEX, 4095), (F.ESC_COL_ADDR_BANK, 1)]), by decide⟩,
    ⟨5, (.bundle 1), (atPower 3 [(F.ESC_COL_ADDR_INDEX, 7)]), by decide⟩,
    ⟨5, .mspi, 0, ({ atPower 3 [(F.ESC_CTRL_ENABLE, 1)] with esc := { State.reset.esc with active := true } }), by decide⟩⟩

theorem witness_timed_outputs :
    (∃ (t : Nat) (r : Requester) (i : Nat) (d : Nat) (s : State), i < 4 ∧ Accepts t r (A.TOUT_SEC_HI i) d s ∧ toutMode s i 1 = true) ∧
    (∃ (t : Nat) (i : Nat) (x : Burst) (s : State), (toutEarly t i s).esc.bursts.find? (fun y => decide (y.out = i) && decide (y.start ≤ t)) = some x ∧ toutMode s i 0 = true) ∧
    (∃ (t : Nat) (i : Nat) (s : State), i < 4 ∧ (toutEarly t i s).esc.bursts.find? (fun y => decide (y.out = i) && decide (y.start ≤ t)) = none ∧ toutMode s i 1 = true ∧ flag s (F.TOUT_STATUS_ARMED i) = true ∧ targetsHeld s = false ∧ toutReached (at' t s) i = true) ∧
    (∃ (t : Nat) (i : Nat) (s : State), pget 0 s.esc.pulses i ≤ t) ∧
    (∃ (t : Nat) (r : Requester) (i : Nat) (d : Nat) (s : State), i < 4 ∧ Accepts t r (F.NTT_CTRL_ARM i).addr (withBit d 31) s) ∧
    (∃ (t : Nat) (i : Nat) (s : State), i < 4 ∧ flag s (F.NTT_CTRL_ARM i) = true ∧ targetsHeld s = false ∧ nttReached (at' t s) i = true) :=
  ⟨⟨5, .mspi, 2, 1, (toutTakeOne (atPower 3 [(F.TOUT_CTRL_ENABLE 2, 1), (F.TOUT_CTRL_MODE 2, 1)]) 2), by decide⟩,
    ⟨900, 1, (⟨1, 800, 3, 500, 100⟩), (toutTakeOne { atPower 3 [(F.TOUT_CTRL_ENABLE 1, 1)] with esc := { State.reset.esc with bursts := [⟨1, 800, 3, 500, 100⟩] } } 1), by decide⟩,
    ⟨900, 1, (toutTakeOne (atPower 3 [(F.TOUT_CTRL_ENABLE 1, 1), (F.TOUT_CTRL_MODE 1, 1), (F.TOUT_STATUS_ARMED 1, 1)]) 1), by decide⟩,
    ⟨900, 1, ({ atPower 3 [] with esc := { State.reset.esc with pulses := [(1, 800)] } }), by decide⟩,
    ⟨5, .mspi, 3, 0, (atPower 3 []), by decide⟩,
    ⟨900, 1, (atPower 3 [(F.NTT_CTRL_ARM 1, 1)]), by decide⟩⟩

theorem witness_pixels_begin :
    (∃ (t : Nat) (c : Nat) (p : PixelId) (l : List VatItem) (s : State), path s c = .column p :: l ∧ pixel s c = none ∧ p.chan = c) ∧
    (∃ (t : Nat) (c : Nat) (id : Nat) (fired : Bool) (d : Nat) (prov : Bool) (sub : Bool) (l : List VatItem) (p : Pixel) (s : State), path s c = .shot id fired d prov sub :: l ∧ pixel s c = some p ∧ p.id.chan = c) ∧
    (∃ (t : Nat) (c : Nat) (h : HitTime) (l : List VatItem) (s : State), path s c = .hit h :: l ∧ pixel s c = none) ∧
    (∃ (t : Nat) (c : Nat) (h : HitTime) (l : List VatItem) (p : Pixel) (s : State), path s c = .hit h :: l ∧ pixel s c = some p ∧ p.id.chan = c ∧ p.refused = true ∧ p.phase ≠ .search) ∧
    (∃ (t : Nat) (c : Nat) (h : HitTime) (l : List VatItem) (p : Pixel) (s : State), path s c = .hit h :: l ∧ pixel s c = some p ∧ p.phase = .search) ∧
    (∃ (t : Nat) (c : Nat) (h : HitTime) (l : List VatItem) (p : Pixel) (k : Nat) (i : Nat) (x : Ctx) (s : State), path s c = .hit h :: l ∧ pixel s c = some p ∧ p.id.chan = c ∧ p.refused = false ∧ p.phase ≠ .search ∧ h.settling = false ∧ h.dark = false ∧ h.subst = false ∧ h.provisional = false ∧ findBin (engine s (engOf c)) p.current h.t = some (k, i) ∧ (engine s (engOf c)).slot k = some x) :=
  ⟨⟨5, 8, pix0, [], (vatState [.column pix0] none), by decide⟩,
    ⟨5, 8, 3, true, 7, false, true, [], px0, (vatState [.shot 3 true 7 false true] (some px0)), by decide⟩,
    ⟨5, 8, ht0, [], (vatState [.hit ht0] none), by decide⟩,
    ⟨5, 8, ht0, [], ({ px0 with refused := true }), (vatState [.hit ht0] (some { px0 with refused := true })), by decide⟩,
    ⟨5, 8, ht0, [], ({ px0 with phase := .search }), (vatState [.hit ht0] (some { px0 with phase := .search })), by decide⟩,
    ⟨5, 8, ht0, [], px0, 0, 62, ctx0, (vatState [.hit ht0] (some px0)), by decide⟩⟩

theorem witness_search_and_pixel_end :
    (∃ (t : Nat) (c : Nat) (a : Nat) (l : List VatItem) (p : Pixel) (s : State), path s c = .boundary a :: l ∧ pixel s c = some p ∧ hitsDue s c a = false ∧ p.refused = false ∧ p.id.cfg.peaks ≠ 0) ∧
    (∃ (t : Nat) (c : Nat) (p : Pixel) (k : Nat) (x : Ctx) (s : State), pixel s c = some p ∧ p.phase = .search ∧ p.coarse = some k ∧ (engine s (engOf c)).slot k = some x ∧ findPeaks p.id.cfg x = [] ∧ searchWaits s c p = false) ∧
    (∃ (t : Nat) (c : Nat) (p : Pixel) (k : Nat) (x : Ctx) (s : State), pixel s c = some p ∧ p.id.chan = c ∧ p.phase = .search ∧ p.coarse = some k ∧ (engine s (engOf c)).slot k = some x ∧ findPeaks p.id.cfg x ≠ [] ∧ searchWaits s c p = false) ∧
    (∃ (t : Nat) (c : Nat) (p : Pixel) (s : State), pixel s c = some p ∧ searchWaits s c p = true) ∧
    (∃ (t : Nat) (c : Nat) (a : Nat) (b : Nat) (d : Nat) (l : List VatItem) (p : Pixel) (s : State), path s c = .pixelEnd a b d :: l ∧ pixel s c = some p ∧ hitsDue s c a = false ∧ startsDue s p.id.group a = false ∧ p.phase ≠ .search) ∧
    (∃ (t : Nat) (n : Nat) (x : Closing) (l : List Closing) (k : Nat) (k2 : Nat) (rest : List Nat) (s : State), (engine s n).closing = x :: l ∧ x.todo = k :: k2 :: rest) ∧
    (∃ (t : Nat) (n : Nat) (x : Closing) (l : List Closing) (s : State), (engine s n).closing = x :: l ∧ x.todo.length ≤ 1) :=
  ⟨⟨5, 8, 3, [], px0, (vatState [.boundary 3] (some px0)), by decide⟩,
    ⟨5, 8, ({ px0 with phase := .search }), 0, ctx0, (vatState [] (some { px0 with phase := .search })), by decide⟩,
    ⟨5, 8, ({ px0 with phase := .search, zooms := [1] }), 0, ({ ctx0 with bins := [(20, 40)] }), ({ vatState [] (some { px0 with phase := .search, zooms := [1] }) with vat := ⟨[(4, ⟨[(0, some { ctx0 with bins := [(20, 40)] }), (1, some (reservedCtx [7, 8, 9]))], [], []⟩)], [], [(8, some { px0 with phase := .search, zooms := [1] })]⟩ }), by decide⟩,
    ⟨5, 9, ({ px0 with phase := .search }), ({ vatState [] none with vat := ⟨[], [], [(8, some { px0 with phase := .search }), (9, some { px0 with phase := .search })]⟩ }), by decide⟩,
    ⟨5, 8, 3, 4, 5, [], px0, (vatState [.pixelEnd 3 4 5] (some px0)), by decide⟩,
    ⟨5, 4, (⟨px0, [0, 1], [], 4, [], none, false, false⟩), [], 0, 1, [], ({ vatState [] none with vat := ⟨[(4, ⟨[(0, some ctx0)], [⟨px0, [0, 1], [], 4, [], none, false, false⟩], []⟩)], [], []⟩ }), by decide⟩,
    ⟨5, 4, (⟨px0, [0], [], 4, [], none, false, false⟩), [], ({ vatState [] none with vat := ⟨[(4, ⟨[(0, some ctx0)], [⟨px0, [0], [], 4, [], none, false, false⟩], []⟩)], [], []⟩ }), by decide⟩⟩

theorem witness_readout_and_inspection :
    (∃ (t : Nat) (n : Nat) (h : HeldCtx) (l : List HeldCtx) (x : Ctx) (s : State), (engine (flushFrames (at' t s)) n).held = h :: l ∧ (engine (flushFrames (at' t s)) n).slot h.slot = some x ∧ h.since + nsec 200 ≤ t ∧ readoutInOrder (flushFrames (at' t s)) n h = true ∧ h.ring = false ∧ ctxQueues (flushFrames (at' t s)) h.pixel = []) ∧
    (∃ (t : Nat) (r : Requester) (d : Nat) (k : Nat) (s : State), Accepts t r A.VAT_INSP_SEL d s ∧ k < 8) ∧
    (∃ (t : Nat) (r : Requester) (s : State), Readable t r A.VAT_INSP_BIN_DATA s) ∧
    (∃ (t : Nat) (r : Requester) (d : Nat) (x : Ctx) (s : State), Accepts t r A.VAT_INSP_BIN_DATA d s ∧ (engine s (rd s F.VAT_INSP_SEL_ENGINE)).slot (rd s F.VAT_INSP_SEL_SLOT) = some x) ∧
    (∃ (t : Nat) (s : State), flag s (F.HCH_STATUS_VALID (rd s F.RET_TEMP_SEL_CHAN)) = false) ∧
    (∃ (t : Nat) (s : State), pget 0 s.hka.last (rd s F.RET_TEMP_SEL_CHAN) + usec (2 * rd s F.HKA_ROUND_CFG_PERIOD_US) ≤ t) :=
  ⟨⟨60000, 4, (⟨0, pix0, 5, [], false⟩), [], ctx0, ({ vatState [] none with vat := ⟨[(4, ⟨[(0, some ctx0)], [], [⟨0, pix0, 5, [], false⟩]⟩)], [], []⟩ }), by decide⟩,
    ⟨5, .mspi, 0x400, 1, (vatState [] none), by decide⟩,
    ⟨5, .mspi, (withFlds [(F.VAT_INSP_SEL_ENGINE, 4)] (vatState [] none)), by decide⟩,
    ⟨5, .mspi, 0x50003, ctx0, (withFlds [(F.VAT_INSP_SEL_ENGINE, 4), (F.VAT_CTRL_TEST, 1)] (vatState [] none)), by decide⟩,
    ⟨5, (atPower 3 []), by decide⟩,
    ⟨(msec 1000), (atPower 3 [(F.HCH_STATUS_VALID 0, 1)]), by decide⟩⟩

theorem witness_frames_and_genlock :
    (∃ (t : Nat) (s : State), sysOn s = true ∧ s.clk.discard.contains 0 = false) ∧
    (∃ (t : Nat) (s : State) (p : Nat × Option Nat), sysOn s = true ∧ s.clk.discard.contains 0 = false ∧ s.ctl.mot.rise = some p) ∧
    (∃ (t : Nat) (x : Bool) (b : Nat) (s : State), boundaryAt (at' t s) t = some b ∧ sysOn s = true ∧ s.acq.bound < b) ∧
    (∃ (t : Nat) (x : Bool) (b : Nat) (s : State), boundaryAt (at' t s) t = some b ∧ b ≤ s.acq.bound) ∧
    (∃ (t : Nat) (x : Bool) (s : State), sysOn s = true ∧ s.clk.discard.contains 0 = false ∧ refMode s = 2 ∧ flag s F.ACQ_TIME_REF_GL_FALLING = x ∧ (s.acq.glEdge.all fun e => decide (acqPeriod s ≤ 2 * (t - e) * 2 ^ 24)) = true) ∧
    (∃ (t : Nat) (x : Bool) (e : Nat) (s : State), sysOn s = true ∧ s.clk.discard.contains 0 = false ∧ refMode s = 2 ∧ flag s F.ACQ_TIME_REF_GL_FALLING = x ∧ s.acq.glEdge = some e ∧ 2 * (t - e) * 2 ^ 24 < acqPeriod s) ∧
    (∃ (t : Nat) (e : Nat) (s : State), sysOn s = true ∧ refMode s = 2 ∧ s.acq.glEdge = some e ∧ flag s F.ACQ_STATUS_GENLOCK_LOST = false ∧ e + 2 * glExpected s ≤ t) :=
  ⟨⟨5000, (atPower 3 []), by decide⟩,
    ⟨5000, ({ atPower 3 [] with ctl := { State.reset.ctl with mot := { Mot.empty with rise := some (4000, some 100000) } } }), ((4000, some 100000)), by decide⟩,
    ⟨5000, false, 5000, ({ acqState with acq := { acqState.acq with on' := true } }), by decide⟩,
    ⟨5000, true, 5000, ({ acqState with acq := { acqState.acq with bound := 7000 } }), by decide⟩,
    ⟨5000, true, (withFlds [(F.ACQ_TIME_REF_MODE, 2), (F.ACQ_TIME_REF_GL_FALLING, 1)] acqState), by decide⟩,
    ⟨5000, false, 4000, ({ withFlds [(F.ACQ_TIME_REF_MODE, 2)] acqState with acq := { acqState.acq with glEdge := some 4000 } }), by decide⟩,
    ⟨5000000, 4000, ({ withFlds [(F.ACQ_TIME_REF_MODE, 2)] acqState with acq := { acqState.acq with glEdge := some 4000, glPeriod := 1000 } }), by decide⟩⟩

theorem witness_trigger_events :
    (∃ (t : Nat) (r : Requester) (d : Nat) (s : State), Accepts t r A.ACQ_CTRL d s ∧ bit (word d) 1 = false) ∧
    (∃ (t : Nat) (n : Nat) (s : State), sysOn s = true ∧ s.clk.discard.contains 0 = false ∧ n < 2 ∧ rdBit s A.ACQ_TRIG_SRC n = true ∧ acqRuns s = true ∧ acqStopped s = false) ∧
    (∃ (t : Nat) (i : Nat) (s : State), sysOn s = true ∧ s.clk.discard.contains 0 = false ∧ i < 4 ∧ rdBit s A.ACQ_TRIG_SRC (i + 2) = true ∧ acqRuns s = true ∧ acqStopped s = false ∧ tbDeaf s i t = false) ∧
    (∃ (t : Nat) (n : Nat) (s : State), sysOn s = true ∧ s.clk.discard.contains 0 = false ∧ n < 2 ∧ rdBit s A.ACQ_TRIG_SRC n = true ∧ acqRuns s = false) ∧
    (∃ (t : Nat) (r : Requester) (d : Nat) (s : State), Accepts t r A.ACQ_CTRL (withBit d 2) s ∧ bit (word d) 1 = false ∧ rdBit s A.ACQ_TRIG_SRC 8 = true ∧ acqRuns s = true ∧ acqStopped s = false ∧ noBoundary s = false) ∧
    (∃ (t : Nat) (t0 : Nat) (s : State), s.acq.auto' = some t0 ∧ rdBit s A.ACQ_TRIG_SRC 9 = true ∧ acqRuns s = true ∧ acqStopped s = false ∧ t0 + msec (rd s F.ACQ_AUTO_TIMEOUT) ≤ t) ∧
    (∃ (t : Nat) (e : TrigEvent) (n : Nat) (p : Nat) (s : State), s.acq.events = [e] ∧ e.at' ≤ t ∧ eventPosition s e = some (n, p) ∧ p < 2 ^ 24 ∧ isMarked s n p = true) ∧
    (∃ (t : Nat) (e : TrigEvent) (n : Nat) (p : Nat) (f : Frame) (s : State), s.acq.events = [e] ∧ e.at' ≤ t ∧ eventPosition s e = some (n, p) ∧ p < 2 ^ 24 ∧ isMarked s n p = false ∧ frameOf s n = some f) ∧
    (∃ (t : Nat) (r : Requester) (d : Nat) (s : State), Accepts t r A.ACQ_CTRL (withBit d 3) s ∧ bit (word d) 1 = false ∧ acqStopped s = true) :=
  ⟨⟨5, .mspi, 1, (atPower 3 []), by decide⟩,
    ⟨5000, 1, acqState, by decide⟩,
    ⟨5000, 3, acqState, by decide⟩,
    ⟨5000, 0, (withFlds [(F.ACQ_STATUS_RUNNING, 0)] acqState), by decide⟩,
    ⟨5, .mspi, 1, ({ acqState with acq := { acqState.acq with anchor := some 3 } }), by decide⟩,
    ⟨300000000000, 5, ({ acqState with acq := { acqState.acq with auto' := some 5 } }), by decide⟩,
    ⟨5000, (⟨1, 4000, false, some (9, 5)⟩), 9, 5, ({ acqState with acq := { acqState.acq with events := [⟨1, 4000, false, some (9, 5)⟩], marked := [(1005, ⟨9, 5, []⟩)] } }), by decide⟩,
    ⟨5000, (⟨1, 4000, false, some (9, 5)⟩), 9, 5, frame0, ({ acqState with acq := { acqState.acq with events := [⟨1, 4000, false, some (9, 5)⟩], frames := [frame0] } }), by decide⟩,
    ⟨5, .mspi, 1, (withFlds [(F.ACQ_STATUS_STOPPED, 1)] acqState), by decide⟩⟩

theorem witness_retention_states :
    (∃ (t : Nat) (s : State), retState (flushFrames (at' t s)) = 1 ∧ fillState (flushFrames (at' t s)) = 2) ∧
    (∃ (t : Nat) (s : State), retState (flushFrames (at' t s)) = 3 ∧ (flushFrames (at' t s)).acq.post ≤ capturedTo (flushFrames (at' t s))) ∧
    (∃ (t : Nat) (s : State), retState s = 4 ∧ s.acq.hold ≤ capturedTo s) ∧
    (∃ (t : Nat) (q : Seq) (s : State), s.acq.seqs = [q] ∧ q.closed = true ∧ seqEndWaits s q.num = false) :=
  ⟨⟨5000, (withFlds [(F.ACQ_RET_PRE_PRE, 0)] (retained 1 1 1 5000)), by decide⟩,
    ⟨5000, (retained 3 20 40 30), by decide⟩,
    ⟨5000, (retained 4 20 40 41), by decide⟩,
    ⟨5000, seq0, ({ acqState with acq := { acqState.acq with seqs := [seq0] } }), by decide⟩⟩

theorem witness_records_and_queues :
    (∃ (t : Nat) (st : Nat) (x : Rec) (l : List Rec) (s : State), stream (flushFrames (at' t s)) st = x :: l ∧ x.at' + nsec 200 ≤ t ∧ ((st % 8 ≠ 4 ∨ x.typ ≠ 0x14)) ∧ (flushFrames (at' t s)).acq.seqs = []) ∧
    (∃ (t : Nat) (r : Requester) (k : Nat) (x : Bool) (d : Nat) (s : State) (f : FieldRow), k < 16384 ∧ Accepts t r (qBase k + if x then 4 else 0) d s ∧ f ∈ fieldsAt (qBase k + if x then 4 else 0)) ∧
    (∃ (t : Nat) (k : Nat) (s : State), qPending s k = true ∧ (queue s k).inFrame = false ∧ flag s F.ACQ_CTRL_ENABLE = false ∧ (queue s k).pendAt + usec 1 ≤ t) ∧
    (∃ (t : Nat) (b : Nat) (p : Nat) (k : Nat) (s : State), lineFree (newLcw (at' t s) b) b t = true ∧ (bundle s b).replay = [] ∧ nextFrame (newLcw (at' t s) b) b = none ∧ pickQueue (newLcw (at' t s) b) b = some (p, k) ∧ b < 32 ∧ p < 4) :=
  ⟨⟨60000, 0, rec0, [], ({ queueState Queue.off with acq := { acqState.acq with streams := [(0, [rec0])] } }), by decide⟩,
    ⟨5, .mspi, 5, false, 0x80021F00, (queueState Queue.off), (⟨16, 3, .rws, [(5, 7)], false⟩), by decide⟩,
    ⟨500000, 5, ({ queueState Queue.off with shadows := [(0x2000A0, 0x80021F00#32)] }), by decide⟩,
    ⟨500000, 0, 0, 5, ({ withFlds [(F.B_STATUS_STATE 0, 3)] (queueState { Queue.off with live := true, items := [.data qrec0], inN := 8 }) with wnb := ⟨[], [(0, { Bundle.off with limit := [(3, 100)] })], []⟩ }), by decide⟩⟩

theorem witness_press_jobs :
    (∃ (t : Nat) (e : Nat) (k : Nat) (s : State), e < 32 ∧ flag s F.PRS_CTRL_ENABLE = true ∧ (press s e).job = none ∧ pressPick s e = some k) ∧
    (∃ (t : Nat) (e : Nat) (k : Nat) (t0 : Nat) (s : State), (press s e).job = some (k, t0, true) ∧ t0 + (if (queue s k).window.length = 32768 then nsec 640 else 0) ≤ t) ∧
    (∃ (t : Nat) (k : Nat) (b : List Byte) (n : Nat) (m : Nat) (s : State), (queue s k).pressing = true ∧ (queue s k).halt = none ∧ blockEnds s k t = true ∧ flag s F.PRS_CTRL_ENABLE = false ∧ (press s (boundEng s k)).job = none ∧ storedHeaders (4 * (nextInput s k).1.length) = n ∧ begun ((queue s k).outN + n) - begun (queue s k).outN = m ∧ canTakeUpTo (setQueue s k { queue s k with codes := none }) k m = m) ∧
    (∃ (t : Nat) (k : Nat) (b : List Byte) (n : Nat) (m : Nat) (s : State), (queue s k).pressing = true ∧ (queue s k).halt = none ∧ blockEnds s k t = true ∧ flag s F.PRS_CTRL_ENABLE = false ∧ (press s (boundEng s k)).job = none ∧ storedHeaders (4 * (nextInput s k).1.length) = n ∧ begun ((queue s k).outN + n) - begun (queue s k).outN = m ∧ canTakeUpTo (setQueue s k { queue s k with codes := none }) k m ≠ m) ∧
    (∃ (t : Nat) (k : Nat) (e : Nat) (t0 : Nat) (b : List Byte) (ws : List Word) (x : List Nat × List Nat) (m : Nat) (s : State), (queue s k).pressing = true ∧ (queue s k).halt = none ∧ blockEnds s k t = true ∧ flag s F.PRS_CTRL_ENABLE = true ∧ jobOf s k = some e ∧ (press s e).job = some (k, t0, false) ∧ (nextInput s k).1 = ws ∧ consumedWords (at' t s) k t0 false = ws.length ∧ inflate (flag s (F.Q_CFG_BTYPE k) && !(queue s k).restart && !(queue s k).fresh && !(windowReset s k)) (queue s k).codes (blockWindow s k) b = some (streamBytes ws, x) ∧ b.length * 256 < 4 * ws.length * (reg s A.PRS_EXPAND_LIMIT).toNat ∧ begun ((queue s k).outN + b.length) - begun (queue s k).outN = m ∧ canTakeUpTo (setQueue s k { queue s k with codes := some x }) k m = m) ∧
    (∃ (t : Nat) (k : Nat) (e : Nat) (t0 : Nat) (b : List Byte) (ws : List Word) (x : List Nat × List Nat) (s : State), (queue s k).pressing = true ∧ (queue s k).halt = none ∧ blockEnds s k t = true ∧ flag s F.PRS_CTRL_ENABLE = true ∧ jobOf s k = some e ∧ (press s e).job = some (k, t0, false) ∧ (nextInput s k).1 = ws ∧ consumedWords (at' t s) k t0 false = ws.length ∧ inflate (flag s (F.Q_CFG_BTYPE k) && !(queue s k).restart && !(queue s k).fresh && !(windowReset s k)) (queue s k).codes (blockWindow s k) b = some (streamBytes ws, x) ∧ 4 * ws.length * (reg s A.PRS_EXPAND_LIMIT).toNat ≤ b.length * 256) ∧
    (∃ (t : Nat) (e : Nat) (k : Nat) (h : Halt) (s : State), haltedOn s e = some (k, h) ∧ flag s F.PRS_CTRL_MANUAL = false ∧ canTake s k 1 = true) ∧
    (∃ (t : Nat) (r : Requester) (e : Nat) (s : State), e < 32 ∧ Accepts t r (F.PJ_CTRL_RESUME e).addr 1 s) :=
  ⟨⟨5, 0, 5, (withFlds [(F.PRS_CTRL_ENABLE, 1)] (queueState pressed)), by decide⟩,
    ⟨500000, 3, 5, 100, ({ queueState pressed with stq := { (queueState pressed).stq with engs := [(3, ⟨some (5, 100, true), some 5⟩)] } }), by decide⟩,
    ⟨500000, 5, [], 5, 1, (queueState pressed), by decide⟩,
    ⟨500000, 5, [], 5, 1, (withFlds [(F.Q_LIMIT_MIN_BLOCKS 5, 1), (F.Q_LIMIT_MAX_BLOCKS 5, 1)] (queueState pressed)), by decide⟩,
    ⟨500000, 5, 0, 1000, ([0x72#8, 0x31#8, 0x56#8, 0x12#8, 0xEC#8, 0x28#8, 0x4F#8, 0x0B#8, 0x05#8, 0x00#8, 0x00#8, 0x00#8, 0xFF#8, 0xFF#8]), ([0x11223344#32, 0x55667788#32]), (((inflate false none [] [0x72#8, 0x31#8, 0x56#8, 0x12#8, 0xEC#8, 0x28#8, 0x4F#8, 0x0B#8, 0x05#8, 0x00#8, 0x00#8, 0x00#8, 0xFF#8, 0xFF#8]).map (·.2)).getD ([], [])), 1, (withFlds [(F.PRS_CTRL_ENABLE, 1), (⟨A.PRS_EXPAND_LIMIT, 0, 10⟩, 1000)] { queueState pressed with stq := { (queueState pressed).stq with engs := [(0, ⟨some (5, 1000, false), some 5⟩)] } }), by decide +kernel⟩,
    ⟨500000, 5, 0, 1000, ([0x72#8, 0x31#8, 0x56#8, 0x12#8, 0xEC#8, 0x28#8, 0x4F#8, 0x0B#8, 0x05#8, 0x00#8, 0x00#8, 0x00#8, 0xFF#8, 0xFF#8]), ([0x11223344#32, 0x55667788#32]), (((inflate false none [] [0x72#8, 0x31#8, 0x56#8, 0x12#8, 0xEC#8, 0x28#8, 0x4F#8, 0x0B#8, 0x05#8, 0x00#8, 0x00#8, 0x00#8, 0xFF#8, 0xFF#8]).map (·.2)).getD ([], [])), (withFlds [(F.PRS_CTRL_ENABLE, 1), (⟨A.PRS_EXPAND_LIMIT, 0, 10⟩, 100)] { queueState pressed with stq := { (queueState pressed).stq with engs := [(0, ⟨some (5, 1000, false), some 5⟩)] } }), by decide +kernel⟩,
    ⟨5, 0, 5, (⟨[1#32], [1#8, 2#8], 2, 0, false, true⟩), ({ queueState { pressed with halt := some ⟨[1#32], [1#8, 2#8], 2, 0, false, true⟩ } with stq := { State.reset.stq with queues := [(5, { pressed with halt := some ⟨[1#32], [1#8, 2#8], 2, 0, false, true⟩ })], engs := [(0, ⟨some (5, 1000, false), some 5⟩)] } }), by decide⟩,
    ⟨5, .mspi, 0, (withFlds [(F.PRS_CTRL_MANUAL, 1)] { queueState pressed with stq := { State.reset.stq with queues := [(5, { pressed with halt := some ⟨[1#32], [1#8, 2#8], 2, 0, false, true⟩ })], engs := [(0, ⟨some (5, 1000, false), some 5⟩)] } }), by decide⟩⟩

theorem witness_link_training :
    (∃ (t : Nat) (r : Requester) (b : Nat) (d : Nat) (s : State), b < 32 ∧ Accepts t r (F.B_CTRL_ENABLE b).addr d s ∧ bit (word d) 0 = true ∧ bit (word d) 1 = false ∧ flag s (F.B_CTRL_ENABLE b) = false ∧ flag s F.WNB_CTRL_ENABLE = true ∧ rd s (F.B_STATUS_STATE b) = 0) ∧
    (∃ (t : Nat) (r : Requester) (b : Nat) (d : Nat) (s : State), b < 32 ∧ Accepts t r (F.B_CTRL_ENABLE b).addr d s ∧ bit (word d) 0 = false ∧ bit (word d) 1 = false ∧ flag s (F.B_CTRL_ENABLE b) = true) ∧
    (∃ (t : Nat) (l : Nat) (s : State), l < 144 ∧ flag s (F.LNQ_CTRL_ENABLE (l / 4)) = true ∧ ((bundleOf s l).all fun x => !(rateSetsOut (at' t s) x.1 l)) = true) ∧
    (∃ (t : Nat) (l : Nat) (b : Nat) (i : Nat) (s : State), l < 144 ∧ flag s (F.LNQ_CTRL_ENABLE (l / 4)) = true ∧ bundleOf s l = some (b, i) ∧ rd s (F.B_STATUS_STATE b) = 1 ∧ ((rd s (F.LN_STATUS_STATE l) = 1 ∨ rd s (F.LN_STATUS_STATE l) = 3))) ∧
    (∃ (t : Nat) (l : Nat) (y : List Nat) (e : Bool) (x : TsSet) (s : State), parseTs y e = some x) ∧
    (∃ (t : Nat) (l : Nat) (y : List Nat) (e : Bool) (s : State), parseTs y e = none) ∧
    (∃ (t : Nat) (b : Nat) (n : Nat) (s : State), b < 32 ∧ rd s (F.B_STATUS_STATE b) = 2 ∧ 1 ≤ (bundle s b).step ∧ (bundle s b).step ≤ 4 ∧ stepPassed (at' t s) b n ≠ 0 ∧ stepPassed (at' t s) b n = (bundle s b).cand) ∧
    (∃ (t : Nat) (b : Nat) (n : Nat) (s : State), b < 32 ∧ rd s (F.B_STATUS_STATE b) = 2 ∧ (bundle s b).step = 5 ∧ stepPassed (at' t s) b n ≠ 0 ∧ stepPassed (at' t s) b n = (bundle s b).cand) ∧
    (∃ (t : Nat) (b : Nat) (n : Nat) (s : State), b < 32 ∧ rd s (F.B_STATUS_STATE b) = 2 ∧ (bundle s b).step ≠ 0 ∧ (bundle s b).stepAt + stepTimeout (bundle s b).step ≤ t ∧ stepPassed (at' t s) b n = 0) ∧
    (∃ (t : Nat) (b : Nat) (s : State), b < 32 ∧ rd s (F.B_STATUS_STATE b) = 6 ∧ flag s (F.B_CTRL_AUTO_RESTART b) = true ∧ (bundle s b).since + msec 100 ≤ t) :=
  ⟨⟨5, .mspi, 2, 1, (withFlds [(F.B_CTRL_ENABLE 2, 0)] (linkState 0 [] Bundle.off)), by decide⟩,
    ⟨5, (.bundle 2), 2, 0, (linkState 3 [] Bundle.off), by decide⟩,
    ⟨5, 33, (linkState 2 [] Bundle.off), by decide⟩,
    ⟨5, 33, 2, 1, (linkState 1 [(F.LN_STATUS_STATE 33, 3), (F.LN_STATUS_STATE 32, 1)] Bundle.off), by decide⟩,
    ⟨5, 33, tsSymbols, false, ts0, (linkState 2 [] Bundle.off), by decide⟩,
    ⟨5, 33, (tsSymbols.set 6 1), false, (linkState 2 [] Bundle.off), by decide⟩,
    ⟨5, 2, 15, ({ linkState 2 [] Bundle.off with wnb := ⟨[], [(2, { Bundle.off with step := 4, cand := 15 })], [(32, { LaneSt.empty with ts2 := 16 }), (33, { LaneSt.empty with ts2 := 16 }), (34, { LaneSt.empty with ts2 := 16 }), (35, { LaneSt.empty with ts2 := 17 })]⟩ }), by decide⟩,
    ⟨5, 2, 7, (linkState 2 [] { Bundle.off with step := 5, cand := 7, limit := [(0, 96), (1, 96), (2, 96), (3, 96)] }), by decide⟩,
    ⟨600000000, 2, 0, (linkState 2 [(F.B_CFG_TRAIN_ATTEMPTS 2, 4)] { Bundle.off with step := 3, cand := 7, stepAt := 5 }), by decide⟩,
    ⟨50000000000, 2, (linkState 6 [(F.B_CTRL_AUTO_RESTART 2, 1)] { Bundle.off with since := 5 }), by decide⟩⟩

theorem witness_link_frames :
    (∃ (t : Nat) (b : Nat) (n : Nat) (s : State), bundleUp s b = true) ∧
    (∃ (t : Nat) (b : Nat) (n : Nat) (s : State), b < 32 ∧ bundleUp s b = true) ∧
    (∃ (t : Nat) (b : Nat) (h : List Word) (d : List Word) (c : Word) (k : Nat) (e : List (Nat × Nat × Nat)) (s : State), b < 32 ∧ bundleUp s b = true ∧ h.length = 4 ∧ fld (h.getD 1 0#32) 0 16 ≤ 4096 ∧ d.length = (fld (h.getD 1 0#32) 0 16 + 3) / 4 ∧ c = word (crc32 (wordBytes (h ++ d))) ∧ fld (h.getD 1 0#32) 16 16 = (rd s (F.B_SEQ_LAST b) + 1) % 65536) ∧
    (∃ (t : Nat) (b : Nat) (h : List Word) (d : List Word) (c : Word) (x : Nat) (k : Nat) (e : List (Nat × Nat × Nat)) (s : State), b < 32 ∧ bundleUp s b = true ∧ x ≠ 2 ∧ ((x = 1 ∨ c ≠ word (crc32 (wordBytes (h ++ d)))))) ∧
    (∃ (t : Nat) (b : Nat) (p : LinkFrame × Nat) (s : State), b < 32 ∧ lineFree s b t = true ∧ (bundle s b).replay = [] ∧ nextFrame s b = some p) ∧
    (∃ (t : Nat) (b : Nat) (q : Nat) (l : List Nat) (s : State), b < 32 ∧ lineFree s b t = true ∧ (bundle s b).replay = q :: l) ∧
    (∃ (t : Nat) (b : Nat) (x : Nat) (s : State), (bundle s b).ackDue = some x ∧ x ≤ t ∧ bundleUp s b = true) ∧
    (∃ (t : Nat) (b : Nat) (x : Nat) (s : State), (bundle s b).creditDue = some x ∧ x ≤ t ∧ bundleUp s b = true) ∧
    (∃ (t : Nat) (b : Nat) (f : TxFrame) (l : List TxFrame) (s : State), b < 32 ∧ (bundle s b).sent = f :: l ∧ bundleUp s b = true ∧ f.at' + nsec (100 * rd s (F.B_TIMERS_REPLAY_TO b)) ≤ t) ∧
    (∃ (t : Nat) (b : Nat) (s : State), bundleUp s b = true) :=
  ⟨⟨5, 2, 7, (linkState 3 [] { Bundle.off with sent := [⟨7, linkFrame0, 0⟩, ⟨8, linkFrame0, 0⟩] }), by decide⟩,
    ⟨5, 2, 7, (linkState 3 [] { Bundle.off with sent := [⟨7, linkFrame0, 0⟩, ⟨8, linkFrame0, 0⟩] }), by decide⟩,
    ⟨5, 2, ([0x2000000#32, 0x00000008#32, 0#32, 0#32]), ([1#32, 2#32]), (word (crc32 (wordBytes [0x2000000#32, 0x00000008#32, 0#32, 0#32, 1#32, 2#32]))), 1, ([(33, 2, 3)]), (linkState 3 [(F.B_SEQ_LAST 2, 0xFFFF)] Bundle.off), by decide +kernel⟩,
    ⟨5, 2, ([0x2000000#32, 0x00000008#32, 0#32, 0#32]), ([1#32, 2#32]), 5#32, 0, 0, [], (linkState 3 [] Bundle.off), by decide +kernel⟩,
    ⟨5, 2, ((linkFrame0, 3)), ({ linkState 3 [] Bundle.off with wnb := ⟨[(2, [(linkFrame0, 3)])], [(2, { Bundle.off with limit := [(0, 10)] })], []⟩ }), by decide⟩,
    ⟨5, 2, 7, [8], (linkState 3 [] { Bundle.off with sent := [⟨7, linkFrame0, 0⟩, ⟨8, linkFrame0, 0⟩], replay := [7, 8] }), by decide⟩,
    ⟨500, 2, 400, (linkState 3 [(F.B_SEQ_LAST 2, 9)] { Bundle.off with ackDue := some 400 }), by decide⟩,
    ⟨500, 2, 400, (linkState 3 [] { Bundle.off with creditDue := some 400, alloc := 0x4444, freed := [(0, 5)] }), by decide⟩,
    ⟨500000000, 2, (⟨7, linkFrame0, 0⟩), [], (linkState 3 [] { Bundle.off with sent := [⟨7, linkFrame0, 0⟩] }), by decide⟩,
    ⟨5, 2, (linkState 3 [] Bundle.off), by decide⟩⟩

theorem witness_link_lanes :
    (∃ (t : Nat) (b : Nat) (m : Nat) (s : State), b < 32 ∧ bundleUp s b = true ∧ convMask s b m &&& rd s (F.B_OFFER_OWN b) ≠ 0) ∧
    (∃ (t : Nat) (b : Nat) (m : Nat) (s : State), bundleUp s b = true) ∧
    (∃ (t : Nat) (b : Nat) (m : Nat) (s : State), b < 32 ∧ (bundle s b).rxMask = some m) ∧
    (∃ (t : Nat) (b : Nat) (m : Nat) (s : State), b < 32 ∧ (bundle s b).txMask = some m ∧ offerAnd s b = m ∧ m ≠ 0) ∧
    (∃ (t : Nat) (l : Nat) (c : Nat) (m : Nat) (n : Nat) (b : Nat) (i : Nat) (s : State), l < 144 ∧ bundleOf s l = some (b, i) ∧ rd s (F.LN_STATUS_STATE l) = 2) ∧
    (∃ (t : Nat) (l : Nat) (b : Nat) (i : Nat) (s : State), l < 144 ∧ bundleOf s l = some (b, i) ∧ bundleUp s b = true ∧ rd s (F.LN_STATUS_STATE l) = 3 ∧ (laneSt s l).busy = false ∧ (laneSt s l).at' ≤ t ∧ flag s (F.LNQ_CTRL_ENABLE (l / 4)) = true ∧ lrefPresent s (groupOf l) = true) ∧
    (∃ (t : Nat) (l : Nat) (b : Nat) (i : Nat) (s : State), l < 144 ∧ bundleOf s l = some (b, i) ∧ (laneSt s l).busy = true ∧ (laneSt s l).once = false) ∧
    (∃ (t : Nat) (l : Nat) (b : Nat) (i : Nat) (s : State), l < 144 ∧ bundleOf s l = some (b, i) ∧ (laneSt s l).busy = true ∧ bundleUp s b = true ∧ (rd s (F.B_OFFER_OWN b) ||| 2 ^ i) &&& rd s (F.B_OFFER_PARTNER b) ≠ 0) ∧
    (∃ (t : Nat) (r : Requester) (l : Nat) (d : Nat) (b : Nat) (i : Nat) (s : State), l < 144 ∧ Accepts t r (F.LN_CTRL_LOOP l).addr (withBit d 31) s ∧ rd s (F.LN_STATUS_STATE l) = 4 ∧ (laneSt s l).held = true ∧ bundleOf s l = some (b, i)) ∧
    (∃ (t : Nat) (r : Requester) (b : Nat) (d : Nat) (s : State), b < 32 ∧ Accepts t r (F.B_LANES_FIRST b).addr d s) ∧
    (∃ (t : Nat) (r : Requester) (b : Nat) (d : Nat) (s : State), b < 32 ∧ Accepts t r (F.B_CTRL_ENABLE b).addr (withBit d 2) s ∧ bit (word d) 0 = true ∧ bit (word d) 1 = false ∧ flag s (F.B_CTRL_ENABLE b) = true) ∧
    (∃ (t : Nat) (b : Nat) (s : State), b < 32 ∧ rd s (F.B_STATUS_STATE b) = 4 ∧ (bundle s b).since + msec (rd s (F.B_RETRY_RECOVERY_MS b)) ≤ t) :=
  ⟨⟨5, 2, 3, (linkState 3 [(F.B_OFFER_OWN 2, 15), (F.B_OFFER_PARTNER 2, 15), (F.B_MASK_TX 2, 15)] Bundle.off), by decide⟩,
    ⟨5, 2, 3, (linkState 3 [] Bundle.off), by decide⟩,
    ⟨5, 2, 3, (linkState 3 [] { Bundle.off with rxMask := some 3 }), by decide⟩,
    ⟨5, 2, 3, (linkState 3 [(F.B_MASK_TX 2, 15), (F.B_OFFER_OWN 2, 15), (F.B_OFFER_PARTNER 2, 3), (F.LN_STATUS_STATE 34, 2), (F.LN_STATUS_STATE 35, 2)] { Bundle.off with txMask := some 3 }), by decide⟩,
    ⟨5, 34, 2, 8, 0, 2, 2, (linkState 3 [(F.LN_STATUS_STATE 34, 2), (F.B_OFFER_OWN 2, 15), (F.B_OFFER_PARTNER 2, 15), (F.B_MASK_TX 2, 15)] Bundle.off), by decide⟩,
    ⟨5, 34, 2, 2, (linkState 3 [(F.LN_STATUS_STATE 34, 3), (F.CLK_STATUS_LREF_LOCK, 1)] Bundle.off), by decide⟩,
    ⟨5, 34, 2, 2, ({ linkState 3 [(F.LN_STATUS_STATE 34, 1)] Bundle.off with wnb := ⟨[], [], [(34, { LaneSt.empty with busy := true })]⟩ }), by decide⟩,
    ⟨5, 34, 2, 2, ({ linkState 3 [(F.LN_STATUS_STATE 34, 1), (F.B_OFFER_OWN 2, 11), (F.B_OFFER_PARTNER 2, 11), (F.B_MASK_TX 2, 11)] Bundle.off with wnb := ⟨[], [], [(34, { LaneSt.empty with busy := true })]⟩ }), by decide⟩,
    ⟨5, .mspi, 34, 0x40000000, 2, 2, ({ linkState 3 [(F.LN_STATUS_STATE 34, 4)] Bundle.off with wnb := ⟨[], [], [(34, { LaneSt.empty with held := true })]⟩ }), by decide⟩,
    ⟨5, .mspi, 2, 0x00072003, (linkState 3 [(F.B_MASK_TX 2, 15), (F.B_OFFER_OWN 2, 15), (F.B_OFFER_PARTNER 2, 15)] Bundle.off), by decide⟩,
    ⟨5, .mspi, 2, 1, (linkState 3 [] Bundle.off), by decide⟩,
    ⟨500000000000, 2, (linkState 4 [] { Bundle.off with sent := [⟨7, linkFrame0, 0⟩] }), by decide⟩⟩

theorem witness_link_power_and_reference :
    (∃ (t : Nat) (b : Nat) (x : Nat) (s : State), b < 32 ∧ idleLink s b = true ∧ x ≠ 0 ∧ x ≠ 3) ∧
    (∃ (t : Nat) (b : Nat) (s : State), bundleUp s b = true) ∧
    (∃ (t : Nat) (b : Nat) (x : Nat) (s : State), bundleUp s b = true ∧ (bundle s b).asked = true ∧ x ≠ 0) ∧
    (∃ (t : Nat) (r : Requester) (b : Nat) (d : Nat) (s : State), b < 32 ∧ Accepts t r (F.B_CTRL_ENABLE b).addr d s ∧ bit (word d) 1 = false) ∧
    (∃ (t : Nat) (b : Nat) (s : State), (bundle s b).retryAt ≤ t ∧ rd s (F.B_CTRL_POWER_REQ b) ≠ 0 ∧ rd s (F.B_STATUS_POWER b) = 0 ∧ idleLink s b = true) ∧
    (∃ (t : Nat) (b : Nat) (x : Bool) (s : State), bundleUp s b = true ∧ rd s (F.B_STATUS_POWER b) = 1 ∧ (bundle s b).waking = none ∧ (x || decide (rd s (F.B_CTRL_POWER_REQ b) = 0) || (flag s (F.B_CTRL_AUTO_WAKE b) && frameWaits s b)) = true) ∧
    (∃ (t : Nat) (b : Nat) (x : Bool) (s : State), b < 32 ∧ bundleUp s b = true ∧ rd s (F.B_STATUS_POWER b) = 2 ∧ (bundle s b).waking = none ∧ (x || decide (rd s (F.B_CTRL_POWER_REQ b) = 0) || (flag s (F.B_CTRL_AUTO_WAKE b) && frameWaits s b)) = true) ∧
    (∃ (t : Nat) (b : Nat) (x : Nat) (s : State), b < 32 ∧ (bundle s b).enter = some x ∧ x < 4) ∧
    (∃ (t : Nat) (b : Nat) (x : Nat) (s : State), b < 32 ∧ (bundle s b).waking = some x ∧ x + nsec 800 ≤ t) ∧
    (∃ (t : Nat) (g : Nat) (s : State), g < 9 ∧ rdBit s A.WNB_LREF_SEL g = true ∧ rdBit s A.WNB_LREF_STATUS g = true) ∧
    (∃ (t : Nat) (g : Nat) (s : State), g < 9 ∧ rdBit s A.WNB_LREF_SEL g = true ∧ rdBit s A.WNB_LREF_STATUS g = false) ∧
    (∃ (t : Nat) (r : Requester) (d : Nat) (g : Nat) (s : State), Accepts t r F.WNB_LG_RATE_G0.addr d s ∧ g < 9) ∧
    (∃ (t : Nat) (l : Nat) (x : Bool) (n : Nat) (s : State), l < 144 ∧ rd s (F.LN_CTRL_PRBS_RX l) ≠ 0) :=
  ⟨⟨5, 2, 1, (linkState 3 [] Bundle.off), by decide⟩,
    ⟨5, 2, (linkState 3 [] { Bundle.off with asked := true }), by decide⟩,
    ⟨5, 2, 2, (linkState 3 [] { Bundle.off with asked := true }), by decide⟩,
    ⟨5, .mspi, 2, 0x101, (linkState 3 [] Bundle.off), by decide⟩,
    ⟨5, 2, (linkState 3 [(F.B_CTRL_POWER_REQ 2, 1)] Bundle.off), by decide⟩,
    ⟨5, 2, false, (linkState 3 [(F.B_STATUS_POWER 2, 1)] Bundle.off), by decide⟩,
    ⟨5, 2, true, (linkState 3 [(F.B_STATUS_POWER 2, 2), (F.B_CTRL_POWER_REQ 2, 2)] Bundle.off), by decide⟩,
    ⟨5, 2, 2, (linkState 3 [] { Bundle.off with enter := some 2 }), by decide⟩,
    ⟨500000, 2, 5, (linkState 3 [(F.B_STATUS_POWER 2, 1)] { Bundle.off with waking := some 5 }), by decide⟩,
    ⟨5, 2, (withRegs [(A.WNB_LREF_SEL, 4#32), (A.WNB_LREF_STATUS, 4#32)] (linkState 3 [(F.LN_STATUS_PLL_LOCK 34, 1)] Bundle.off)), by decide⟩,
    ⟨5, 2, (withRegs [(A.WNB_LREF_SEL, 4#32), (A.WNB_LREF_STATUS, 0#32)] (linkState 3 [] Bundle.off)), by decide⟩,
    ⟨5, .mspi, 0x1, 8, (atPower 3 []), by decide⟩,
    ⟨5, 34, false, 9, (atPower 3 [(F.LN_CTRL_PRBS_RX 34, 1), (F.LN_STATUS_PRBS_SYNC 34, 1)]), by decide⟩⟩

theorem witness_link_register_access :
    (∃ (t : Nat) (b : Nat) (x : Nat) (y : Nat) (d : Nat) (s : State), BusIdle s ∧ sysOn s = true ∧ b < 32 ∧ bundleUp s b = true ∧ fld (word y) 0 8 = 0 ∧ slowAddr (fld (word x) 0 24) s = false) ∧
    (∃ (t : Nat) (b : Nat) (x : Nat) (y : Nat) (s : State), BusIdle s ∧ sysOn s = true ∧ b < 32 ∧ bundleUp s b = true ∧ fld (word y) 0 8 = 0 ∧ slowAddr (fld (word x) 0 24) s = false) ∧
    (∃ (t : Nat) (b : Nat) (n : Nat) (l : List Nat) (s : State), sysOn s = true ∧ b < 32 ∧ bundleUp s b = true ∧ ((n ≠ 8 + 4 * (fld (word (l.getD 1 0)) 0 8 + 1) ∨ l.length ≠ fld (word (l.getD 1 0)) 0 8 + 3))) ∧
    (∃ (t : Nat) (b : Nat) (n : Nat) (l : List Nat) (s : State), sysOn s = true ∧ b < 32 ∧ bundleUp s b = true ∧ ((n ≠ 8 ∨ l.length ≠ 2))) :=
  ⟨⟨5, 2, 0x7003080, 0x80000000, 5, (linkState 3 [] Bundle.off), by decide⟩,
    ⟨5, 2, 0x7003080, 0, (linkState 3 [] Bundle.off), by decide⟩,
    ⟨5, 2, 8, ([0x7003080, 0]), (linkState 3 [] Bundle.off), by decide⟩,
    ⟨5, 2, 12, ([0x7003080, 3, 5]), (linkState 3 [] Bundle.off), by decide⟩⟩

theorem witness_control_ticks :
    (∃ (t : Nat) (s : State), ticking s = true) ∧
    (∃ (t : Nat) (s : State), ticking s = false) ∧
    (∃ (t : Nat) (p : Nat) (s : State), sysOn s = true ∧ p ≠ s.ctl.mot.pattern) ∧
    (∃ (t : Nat) (s : State), 2 ≤ motMode s ∧ s.ctl.mot.edges = 2 ∧ s.ctl.mot.edge + 4 * s.ctl.mot.hall ≤ max s.now t ∧ openRpm s < hallSpeed s (max s.now t)) ∧
    (∃ (t : Nat) (r : Requester) (d : Nat) (s : State), Accepts t r A.GAL_TBL_DATA d s) ∧
    (∃ (t : Nat) (r : Requester) (s : State), Readable t r A.GAL_TBL_DATA s) :=
  ⟨⟨5000, (motState 2 [] Mot.empty), by decide⟩,
    ⟨5000, (atPower 3 []), by decide⟩,
    ⟨5000, 5, (motState 2 [] Mot.empty), by decide⟩,
    ⟨1000000, (motState 3 [(F.MOT_GEOM_POLE_PAIRS, 4)] { Mot.empty with edges := 2, edge := 500000, hall := 1000 }), by decide⟩,
    ⟨5, .mspi, 0x12345, (withFlds [(F.GAL_TBL_ADDR_INDEX, 4095)] (atPower 3 [])), by decide⟩,
    ⟨5, .mspi, (withFlds [(F.GAL_TBL_ADDR_INDEX, 4)] (atPower 3 [])), by decide⟩⟩

theorem witness_polygon_modes :
    (∃ (t : Nat) (r : Requester) (d : Nat) (s : State), Accepts t r F.MOT_MODE_REQ.addr d s) ∧
    (∃ (t : Nat) (s : State), motMode s = 1 ∧ 2 ≤ s.ctl.mot.goal ∧ s.ctl.mot.stepAt + msec (rd s F.MOT_ALIGN_ALIGN_MS) ≤ max s.now t) ∧
    (∃ (t : Nat) (s : State), motMode s = 2 ∧ 3 ≤ s.ctl.mot.goal ∧ s.ctl.mot.stepAt + msec (rd s F.MOT_OPEN_OPEN_MAX_MS) ≤ max s.now t) ∧
    (∃ (t : Nat) (e : Nat) (s : State), s.ctl.mot.idx.head? = some e ∧ modelValid s = true ∧ 2 * 65536 * e + 3 * s.ctl.mot.pred ≤ 2 * 65536 * max s.now t) ∧
    (∃ (t : Nat) (s : State), flag s F.MOT_STATUS_STOPPING = true ∧ motMode s = 3 ∧ s.ctl.mot.sp = 0 ∧ hallQuiet (at' t s) s.ctl.mot.stepAt = true) ∧
    (∃ (t : Nat) (s : State), flag s F.MOT_STATUS_COASTING = true ∧ hallQuiet (at' t s) 0 = true) ∧
    (∃ (t : Nat) (r : Requester) (x : Bool) (d : Nat) (s : State), Accepts t r (if x then A.GAL_FAULT_LATCH else A.MOT_FAULT_LATCH) d s) :=
  ⟨⟨5, .mspi, 2, (motState 0 [] Mot.empty), by decide⟩,
    ⟨900000000000, (motState 1 [] { Mot.empty with goal := 3, pattern := 5 }), by decide⟩,
    ⟨9000000000000, (motState 2 [] { Mot.empty with goal := 3 }), by decide⟩,
    ⟨900000, 5, (motState 3 [(F.MOT_STATUS_MODEL_VALID, 1)] { Mot.empty with idx := [5, 1], pred := 65536 }), by decide⟩,
    ⟨90000000000, (motState 3 [(F.MOT_STATUS_STOPPING, 1)] { Mot.empty with stepAt := 5 }), by decide⟩,
    ⟨90000000000, (motState 0 [(F.MOT_STATUS_COASTING, 1)] Mot.empty), by decide⟩,
    ⟨5, .mspi, false, 3, (withRegs [(A.MOT_FAULT_LATCH, 0x5#32)] (motState 0 [] Mot.empty)), by decide⟩⟩

theorem witness_current_channels :
    (∃ (t : Nat) (c : Nat) (l : List Bool) (x : SdfChan) (s : State), c < 8 ∧ sdfRuns s c = true ∧ sdfChan (sdfSamples (at' t s) c l) c = x ∧ 2 ^ sdfLog (reg s (A.SDC_CFG c)) ≤ x.bits.length ∧ x.left ≠ 0) ∧
    (∃ (t : Nat) (c : Nat) (l : List Bool) (x : SdfChan) (s : State), c < 8 ∧ sdfRuns s c = true ∧ sdfChan (sdfSamples (at' t s) c l) c = x ∧ 2 ^ sdfLog (reg s (A.SDC_CFG c)) ≤ x.bits.length ∧ x.left = 0 ∧ sdfStuck s c = false) ∧
    (∃ (t : Nat) (c : Nat) (l : List Bool) (x : SdfChan) (s : State), c < 8 ∧ sdfRuns s c = true ∧ sdfChan (sdfSamples (at' t s) c l) c = x ∧ x.bits.length < 2 ^ sdfLog (reg s (A.SDC_CFG c))) ∧
    (∃ (t : Nat) (c : Nat) (s : State), c < 8 ∧ sdfRuns s c = true ∧ sdfStuck s c = false) ∧
    (∃ (t : Nat) (c : Nat) (s : State), c < 8 ∧ sdfStuck s c = true) ∧
    (∃ (t : Nat) (s : State), sysOn s = true ∧ sdfReceive s = true ∧ flag s F.SDF_STATUS_CLK_OK = true) ∧
    (∃ (t : Nat) (s : State), sysOn s = true ∧ sdfReceive s = true ∧ flag s F.SDF_STATUS_CLK_OK = false) ∧
    (∃ (t : Nat) (r : Requester) (d : Nat) (s : State) (f : FieldRow), Accepts t r F.SDF_CFG_CLK_SEL.addr d s ∧ f ∈ fieldsAt F.SDF_CFG_CLK_SEL.addr ∧ f.acc = .rw) :=
  ⟨⟨5, 2, (List.replicate 64 true), (⟨[0, 0, 0], [0, 0, 0], 3, false, 0, 0, List.replicate 64 true, 0⟩), (sdfState [] ⟨[0, 0, 0], [0, 0, 0], 3, false, 0, 0, [], 0⟩), by decide⟩,
    ⟨5, 2, (List.replicate 65 true), (⟨[5, 0, 0], [0, 0, 0], 0, false, 0, 0, List.replicate 65 true, 0⟩), (sdfState [] ⟨[5, 0, 0], [0, 0, 0], 0, false, 0, 0, [], 0⟩), by decide⟩,
    ⟨5, 2, ([true, false]), (⟨[5, 0, 0], [0, 0, 0], 0, false, 0, 0, [true, false], 0⟩), (sdfState [] ⟨[5, 0, 0], [0, 0, 0], 0, false, 0, 0, [], 0⟩), by decide⟩,
    ⟨5, 2, (sdfState [] ⟨[5, 0, 0], [0, 0, 0], 0, false, 0, 0, [], 0⟩), by decide⟩,
    ⟨5, 2, (sdfState [(F.SDF_STATUS_STUCK, 4)] ⟨[5, 0, 0], [0, 0, 0], 0, false, 0, 0, [], 0⟩), by decide⟩,
    ⟨5, (sdfState [(F.SDF_CFG_CLK_DIR, 1)] ⟨[5, 0, 0], [0, 0, 0], 0, false, 0, 0, [], 0⟩), by decide⟩,
    ⟨5, (sdfState [(F.SDF_CFG_CLK_DIR, 1), (F.SDF_STATUS_CLK_OK, 0)] ⟨[5, 0, 0], [0, 0, 0], 0, false, 0, 0, [], 0⟩), by decide⟩,
    ⟨5, .mspi, 0x11, (sdfState [] ⟨[5, 0, 0], [0, 0, 0], 0, false, 0, 0, [], 0⟩), (⟨4, 1, .rw, [], false⟩), by decide⟩⟩

theorem witness_safety_inputs_and_reset :
    (∃ (t : Nat) (i : Nat) (x : Bool) (y : Bool) (s : State), awake s = true ∧ i < 6 ∧ i ≠ 3) ∧
    (∃ (t : Nat) (x : Bool) (y : Bool) (s : State), awake s = true) ∧
    (∃ (t : Nat) (s : State), awake s = true ∧ resetHigh s = false ∧ resetAllowed { at' t s with saf := { s.saf with a := { s.saf.a with ins := s.saf.a.ins ||| 8 }, b := { s.saf.b with ins := s.saf.b.ins ||| 8 } } } = true) ∧
    (∃ (t : Nat) (s : State), awake s = true ∧ resetHigh s = false ∧ resetAllowed { at' t s with saf := { s.saf with a := { s.saf.a with ins := s.saf.a.ins ||| 8 }, b := { s.saf.b with ins := s.saf.b.ins ||| 8 } } } = false) ∧
    (∃ (t : Nat) (s : State), awake s = true ∧ resetHigh s = true ∧ s.saf.pinAt + msec 5000 ≤ t ∧ flag s F.SAF_STATUS_RESET_STUCK = false) ∧
    (∃ (t : Nat) (s : State), s.saf.a.ins.testBit 3 = false ∧ s.saf.b.ins.testBit 3 = false ∧ s.saf.pinAt + msec 100 ≤ t) ∧
    (∃ (t : Nat) (s : State), s.saf.proof = 1 ∧ s.saf.proofAt + msec 10 ≤ t ∧ contactorBad (at' t s) true = false ∧ contactorBad (at' t s) false = false) ∧
    (∃ (t : Nat) (s : State), s.saf.proof = 2 ∧ s.saf.proofAt + msec 20 ≤ t) ∧
    (∃ (t : Nat) (s : State), s.saf.proof = 3 ∧ fbLaserOn s = false ∧ s.saf.proofAt + msec (cfgOf s.saf.a F.SAF_FB_TIME) ≤ t) ∧
    (∃ (t : Nat) (t0 : Nat) (s : State), s.saf.delay = some t0 ∧ t0 + msec (cfgOf s.saf.a F.SAF_EMIT_DELAY) ≤ t) :=
  ⟨⟨5, 1, false, false, (safState [] { Saf.empty with a := path0, b := path0 }), by decide⟩,
    ⟨5, true, true, (safState [] { Saf.empty with a := path0, b := path0 }), by decide⟩,
    ⟨5, (safState [(F.LMP_CTRL_ENABLE, 1), (F.LAMP_CFG_ENABLE 15, 1), (⟨A.SAF_LATCH_A, 0, 32⟩, 2), (⟨A.SAF_LATCH_B, 0, 32⟩, 2)] { Saf.empty with a := path0, b := path0 }), by decide⟩,
    ⟨5, (safState [] Saf.empty), by decide⟩,
    ⟨5000000000000, (safState [] { Saf.empty with a := { path0 with ins := 0x3B }, b := { path0 with ins := 0x3B } }), by decide⟩,
    ⟨5000000000000, (safState [(F.SAF_STATUS_RESET_STUCK, 1)] { Saf.empty with a := path0 }), by decide⟩,
    ⟨5000000000000, (safState [] { Saf.empty with proof := 1 }), by decide⟩,
    ⟨5000000000000, (safState [] { Saf.empty with proof := 2 }), by decide⟩,
    ⟨5000000000000, (safState [] { Saf.empty with proof := 3 }), by decide⟩,
    ⟨5000000000000, 5, (safState [] { Saf.empty with delay := some 5 }), by decide⟩⟩

theorem witness_safety_stops :
    (∃ (t : Nat) (s : State), sysOn s = true ∧ s.saf.differ = true ∧ (latched s false ≠ latched s true ∨ s.saf.a.ins ≠ s.saf.b.ins)) ∧
    (∃ (t : Nat) (s : State), sysOn s = true ∧ s.saf.differ = false ∧ (latched s false ≠ latched s true ∨ s.saf.a.ins ≠ s.saf.b.ins)) ∧
    (∃ (t : Nat) (t0 : Nat) (s : State), s.saf.ss1 = some t0 ∧ hallQuiet (at' t s) t0 = true) ∧
    (∃ (t : Nat) (t0 : Nat) (s : State), s.saf.ss1 = some t0 ∧ t0 + msec (cfgOf s.saf.a F.SAF_SS1_MAX) ≤ t) ∧
    (∃ (t : Nat) (t0 : Nat) (s : State), s.saf.a.disc = some t0 ∧ t0 + msec (cfgOf s.saf.a F.SAF_DISC_TIME) < t) ∧
    (∃ (t : Nat) (t0 : Nat) (s : State), (agreeJudge (at' t s)).saf.agree = some t0 ∧ sysOn s = true ∧ t0 + msec (cfgOf s.saf.a F.SAF_SPEED_AGREE_AGREE_MS) < t) ∧
    (∃ (t : Nat) (x : Bool) (s : State), mismatched (at' t s) false x = true) ∧
    (∃ (t : Nat) (r : Requester) (s : State), Accepts t r A.SAF_CFG_CTRL 1 s) ∧
    (∃ (t : Nat) (s : State), awake s = true ∧ flag s F.SAF_STATUS_WINDOW_OPEN = true ∧ s.saf.opened + msec 60000 ≤ t) ∧
    (∃ (t : Nat) (s : State), sysOn s = true ∧ cfgValid s = true ∧ word (cfgCrc s.saf.a.cfg) ≠ reg s A.SAF_CFG_CRC) ∧
    (∃ (t : Nat) (s : State), word (cfgCrc s.saf.a.cfg) = reg s A.SAF_CFG_CRC ∧ word (cfgCrc s.saf.b.cfg) = reg s A.SAF_CFG_CRC) :=
  ⟨⟨5, (safState [] { Saf.empty with a := path0, differ := true }), by decide⟩,
    ⟨5, (safState [] { Saf.empty with a := path0 }), by decide⟩,
    ⟨90000000000, 5, (safState [(F.SAF_STATUS_STOPPING, 1)] { Saf.empty with ss1 := some 5 }), by decide⟩,
    ⟨90000000000, 5, (safState [(F.SAF_STATUS_STOPPING, 1)] { Saf.empty with ss1 := some 5 }), by decide⟩,
    ⟨90000000000, 5, (safState [] { Saf.empty with a := { path0 with disc := some 5 } }), by decide⟩,
    ⟨900000000000, 5, ({ motState 3 [(F.MOT_STATUS_MODEL_VALID, 1), (F.MOT_GEOM_FACETS, 3), (F.MOT_GEOM_POLE_PAIRS, 4)] { Mot.empty with idx := [5000, 4000, 3000, 2000, 1000] } with saf := { Saf.empty with agree := some 5 } }), by decide⟩,
    ⟨900000000000, false, (safState [] { Saf.empty with a := { path0 with fbLaser := some 5 } }), by decide⟩,
    ⟨5, .mspi, (safState [(F.SAF_STATUS_WINDOW_OPEN, 1), (⟨0x9002C, 0, 32⟩, 0x80000009)] Saf.empty), by decide⟩,
    ⟨90000000000000, (safState [(F.SAF_STATUS_WINDOW_OPEN, 1)] Saf.empty), by decide⟩,
    ⟨5, (safState [(F.SAF_STATUS_CFG_VALID, 1), (⟨A.SAF_CFG_CRC, 0, 32⟩, 0x12345678)] { Saf.empty with a := { path0 with cfg := [1#32] } }), by decide⟩,
    ⟨5, (safState [(F.SAF_STATUS_CFG_VALID, 1)] Saf.empty), by decide⟩⟩

theorem witness_ethernet_ports :
    (∃ (t : Nat) (p : Nat) (n : Nat) (l : List Byte) (s : State), linkIsUp s p = true ∧ 60 ≤ l.length ∧ l.length ≤ 9212) ∧
    (∃ (t : Nat) (p : Nat) (n : Nat) (l : List Byte) (s : State), linkIsUp s p = true) ∧
    (∃ (t : Nat) (p : Nat) (n : Nat) (l : List Byte) (s : State), linkIsUp s p = true ∧ l.length < 60) ∧
    (∃ (t : Nat) (p : Nat) (s : State), p < 4 ∧ pget 0 s.eth.pause p ≠ 0 ∧ pget 0 s.eth.pause p ≤ max s.now t) ∧
    (∃ (t : Nat) (p : Nat) (n : Nat) (i : EthItem) (l : List EthItem) (s : State), p < 4 ∧ bridging s = true ∧ linkIsUp s p = true ∧ pget 0 s.eth.pause p ≤ n ∧ highOf s p = i :: l) ∧
    (∃ (t : Nat) (p : Nat) (n : Nat) (i : EthItem) (l : List EthItem) (s : State), p < 4 ∧ bridging s = true ∧ linkIsUp s p = true ∧ pget 0 s.eth.pause p ≤ n ∧ highOf s p = [] ∧ lowOf s p = i :: l) ∧
    (∃ (t : Nat) (n : Nat) (i : EthItem) (l : List EthItem) (s : State), bridging s = true ∧ highOf s 4 = i :: l) ∧
    (∃ (t : Nat) (p : Nat) (n : Nat) (s : State), portOn s p = true ∧ flag s (F.ETHP_STATUS_LINK p) = false ∧ (negotiates s p = false ∨ offersFull s p n = true)) ∧
    (∃ (t : Nat) (p : Nat) (s : State), linkIsUp s p = true) ∧
    (∃ (t : Nat) (p : Nat) (n : Nat) (s : State), portOn s p = true ∧ negotiates s p = true) :=
  ⟨⟨5000, 1, 400, bytes60, (ethState [] State.reset.eth), by decide⟩,
    ⟨5000, 1, 400, bytes60, (ethState [] State.reset.eth), by decide⟩,
    ⟨5000, 1, 400, [], (ethState [] State.reset.eth), by decide⟩,
    ⟨5000, 1, (ethState [(F.ETHP_STATUS_PAUSED 1, 1)] { State.reset.eth with pause := [(1, 4000)] }), by decide⟩,
    ⟨5000, 1, 400, ethItem0, [], (ethState [] { State.reset.eth with high := [(1, [ethItem0])] }), by decide⟩,
    ⟨5000, 1, 400, ethItem0, [], (ethState [] { State.reset.eth with low := [(1, [ethItem0])] }), by decide⟩,
    ⟨5000, 400, ethItem0, [], (ethState [(F.ETH_TUNNEL_CFG_PATH, 2)] { State.reset.eth with high := [(4, [ethItem0])] }), by decide⟩,
    ⟨5, 1, 0x20, (ethState [(F.ETHP_STATUS_LINK 1, 0)] State.reset.eth), by decide⟩,
    ⟨5, 1, (ethState [] { State.reset.eth with low := [(1, [ethItem0])] }), by decide⟩,
    ⟨5, 1, 0x40, (ethState [(F.ETHP_PORT_CFG_MODE 1, 2)] State.reset.eth), by decide⟩⟩

theorem witness_host_frames_and_mailbox :
    (∃ (t : Nat) (b : Nat) (n : Nat) (l : List Word) (s : State), rd s F.ETH_TUNNEL_CFG_PATH = 1 ∧ rd s F.ETH_TUNNEL_CFG_BUNDLE = b ∧ awake s = true ∧ domRunning s .eth 0 = true ∧ (n < 16 ∨ 4096 < n ∨ headGood (l.getD 0 0#32) = false)) ∧
    (∃ (t : Nat) (b : Nat) (n : Nat) (l : List Word) (s : State), rd s F.ETH_TUNNEL_CFG_PATH = 1 ∧ rd s F.ETH_TUNNEL_CFG_BUNDLE = b ∧ awake s = true ∧ domRunning s .eth 0 = true ∧ 16 ≤ n ∧ n ≤ 4096 ∧ headGood (l.getD 0 0#32) = true ∧ fld (l.getD 0 0#32) 22 2 = 0 ∧ bit (l.getD 0 0#32) 21 = false) ∧
    (∃ (t : Nat) (b : Nat) (n : Nat) (l : List Word) (s : State), rd s F.ETH_TUNNEL_CFG_PATH = 1 ∧ rd s F.ETH_TUNNEL_CFG_BUNDLE = b ∧ bridging s = true ∧ n ≤ 4096 ∧ headGood (l.getD 0 0#32) = true ∧ fld (l.getD 0 0#32) 22 2 = 0 ∧ bit (l.getD 0 0#32) 21 = true ∧ n = 16 + fld (l.getD 0 0#32) 0 16 ∧ l.length = 4 + (fld (l.getD 0 0#32) 0 16 + 3) / 4 ∧ linkIsUp s (fld (l.getD 0 0#32) 24 4) = true ∧ ingressUsed s 4 + (fld (l.getD 0 0#32) 0 16 + 4) ≤ 24 * 1024) ∧
    (∃ (t : Nat) (r : Requester) (s : State), Readable t r A.ETH_MB_RX_DATA s) ∧
    (∃ (t : Nat) (r : Requester) (d : Nat) (s : State), Accepts t r A.ETH_MB_TX_DATA d s) ∧
    (∃ (t : Nat) (r : Requester) (s : State), Accepts t r A.ETH_MB_TX_CTRL (2 ^ 31) s) ∧
    (∃ (t : Nat) (r : Requester) (s : State), Accepts t r A.ETH_MB_TX_CTRL (2 ^ 30) s) :=
  ⟨⟨5, 2, 15, [0#32], (ethState [(F.ETH_TUNNEL_CFG_PATH, 1), (F.ETH_TUNNEL_CFG_BUNDLE, 2)] State.reset.eth), by decide⟩,
    ⟨5, 2, 20, (tunHead false ++ [5#32]), (ethState [(F.ETH_TUNNEL_CFG_PATH, 1), (F.ETH_TUNNEL_CFG_BUNDLE, 2)] State.reset.eth), by decide⟩,
    ⟨5, 2, 76, (tunHead true ++ List.replicate 15 7#32), (ethState [(F.ETH_TUNNEL_CFG_PATH, 1), (F.ETH_TUNNEL_CFG_BUNDLE, 2)] State.reset.eth), by decide⟩,
    ⟨5, .mspi, (ethState [] { State.reset.eth with mbRx := [[5#32, 6#32]] }), by decide⟩,
    ⟨5, .mspi, 7, (ethState [] { State.reset.eth with mbTx := [5#32] }), by decide⟩,
    ⟨5, .mspi, (ethState [(F.ETH_TUNNEL_CFG_PATH, 2)] { State.reset.eth with mbTx := tunHead true ++ List.replicate 15 7#32 }), by decide⟩,
    ⟨5, .mspi, (ethState [] { State.reset.eth with mbTx := [5#32] }), by decide⟩⟩

theorem witness_network_time :
    (∃ (t : Nat) (r : Requester) (d : Nat) (s : State), Accepts t r A.NTM_INCR_NS d s) ∧
    (∃ (t : Nat) (r : Requester) (d : Nat) (s : State), Accepts t r A.NTM_STEP_SEC_HI d s) ∧
    (∃ (t : Nat) (r : Requester) (d : Nat) (s : State), Accepts t r A.NTM_CTRL (withBit d 2) s ∧ bit (word d) 1 = false) ∧
    (∃ (t : Nat) (r : Requester) (s : State), Readable t r A.NTM_NOW_NS s ∧ latchedWord s r A.NTM_NOW_NS = none) ∧
    (∃ (t : Nat) (s : State), awake s = true ∧ flag s F.NTM_PPS_CFG_OUT_EN = true ∧ s.ntm.mode ≠ .held ∧ ppsPhase s t < ppsGrain s) ∧
    (∃ (t : Nat) (s : State), s.ntm.pps = true ∧ s.ntm.ppsAt + msec (rd s F.NTM_PPS_CFG_WIDTH) ≤ t) ∧
    (∃ (t : Nat) (s : State), awake s = true ∧ domRunning s .tkp 0 = true) ∧
    (∃ (t : Nat) (r : Requester) (s : State), Readable t r F.NTM_PPSIN_NS_NS.addr s ∧ latchedWord s r F.NTM_PPSIN_NS_NS.addr = none) :=
  ⟨⟨5, .mspi, 100, (ntmState []), by decide⟩,
    ⟨5, .mspi, 0, (withFlds [(⟨A.NTM_STEP_NS, 0, 32⟩, 77)] (ntmState [])), by decide⟩,
    ⟨5, .mspi, 1, (ntmState [(F.NTM_STATUS_COASTED, 1)]), by decide⟩,
    ⟨256000, .mspi, (ntmState []), by decide⟩,
    ⟨10, (ntmState [(F.NTM_PPS_CFG_OUT_EN, 1)]), by decide⟩,
    ⟨128000000000, ({ ntmState [(F.NTM_PPS_CFG_OUT_EN, 1)] with ntm := ⟨.tkp, true, 0, 0, 100 * 2 ^ 32, none, true, 0⟩ }), by decide⟩,
    ⟨128000, (ntmState []), by decide⟩,
    ⟨5, .mspi, (ntmState [(F.NTM_PPSIN_NS_NEW, 1), (F.NTM_PPSIN_NS_NS, 77)]), by decide⟩⟩

theorem witness_slot_plan :
    (∃ (t : Nat) (s : State), planClock s = true ∧ planCycle s t % 256 = 0) ∧
    (∃ (t : Nat) (s : State), planClock s = true) ∧
    (∃ (t : Nat) (s : State), planClock s = true ∧ s.pln.beatDue = true) ∧
    (∃ (t : Nat) (s : State), planClock s = true ∧ s.pln.beatDue = true ∧ s.pln.release = 0 ∧ s.pln.confirm = 0 ∧ s.pln.claim = 0 ∧ s.pln.held ≠ 0 ∧ bridging s = true) ∧
    (∃ (t : Nat) (i : EthItem) (l : List EthItem) (s : State), bridging s = true ∧ highOf s 5 = i :: l) ∧
    (∃ (t : Nat) (i : EthItem) (l : List EthItem) (s : State), bridging s = true ∧ highOf s 5 = i :: l ∧ planState s ≠ 0 ∧ i.frame.length < 102) ∧
    (∃ (t : Nat) (r : Requester) (d : Nat) (s : State), Accepts t r F.PLN_CTRL_ENABLE.addr d s ∧ bit (word d) 1 = false) ∧
    (∃ (t : Nat) (r : Requester) (d : Nat) (s : State), Accepts t r F.PLN_PEER_SEL.addr d s) :=
  ⟨⟨10, ({ ntmState [(F.PLN_CTRL_ENABLE, 1), (F.PLN_STATUS_STATE, 3)] with pln := { Pln.empty with grant := 7, drops := 2 } }), by decide⟩,
    ⟨1280000000000, ({ ntmState [(F.PLN_CTRL_ENABLE, 1), (F.PLN_STATUS_STATE, 3)] with pln := { Pln.empty with held := 7, leaving := 2 } }), by decide⟩,
    ⟨1280, ({ ntmState [(F.PLN_CTRL_ENABLE, 1), (F.PLN_STATUS_STATE, 3)] with pln := { Pln.empty with beatDue := true, claim := 3 } }), by decide⟩,
    ⟨1280, ({ ntmState [(F.PLN_CTRL_ENABLE, 1), (F.PLN_STATUS_STATE, 3), (F.ETH_CTRL_ENABLE, 1)] with pln := { Pln.empty with beatDue := true, held := 3 } }), by decide⟩,
    ⟨5, ethItem0, [], (ethState [(F.PLN_STATUS_STATE, 3)] { State.reset.eth with high := [(5, [ethItem0])] }), by decide⟩,
    ⟨5, ethItem0, [], (ethState [(F.PLN_STATUS_STATE, 3)] { State.reset.eth with high := [(5, [ethItem0])] }), by decide⟩,
    ⟨5, .mspi, 1, (ntmState []), by decide⟩,
    ⟨5, .mspi, 1, ({ ntmState [] with pln := { Pln.empty with peers := [(1, some ⟨77, 0, 0, 0, 0, 0, false, false, 0⟩)] } }), by decide⟩⟩

theorem witness_preview_timing :
    (∃ (t : Nat) (s : State), vidActive s = true) ∧
    (∃ (t : Nat) (l : List (Nat × Nat)) (s : State), vidActive s = true ∧ rd s F.VID_STATUS_LINE + 1 < vLines s) ∧
    (∃ (t : Nat) (s : State), vidActive s = true ∧ rd s F.VID_STATUS_LINE + 1 = vLines s ∧ s.vid.done = false) ∧
    (∃ (t : Nat) (s : State), sysOn s = true ∧ flag s F.VID_STATUS_TIMING_GAP = true) ∧
    (∃ (t : Nat) (s : State), sysOn s = true ∧ domRunning s .vid 0 = true ∧ flag s F.VID_STATUS_TIMING_GAP = false ∧ flag s F.VID_STATUS_CLK_LOCK = false) ∧
    (∃ (t : Nat) (r : Requester) (d : Nat) (s : State), Accepts t r A.VID_TBL_DATA d s) ∧
    (∃ (t : Nat) (r : Requester) (s : State), Readable t r A.VID_TBL_DATA s) :=
  ⟨⟨5, (vidState []), by decide⟩,
    ⟨5, [], (vidState [(F.VID_STATUS_LINE, 4)]), by decide⟩,
    ⟨5, (vidState [(F.VID_STATUS_LINE, 749)]), by decide⟩,
    ⟨5, (vidState [(F.VID_STATUS_TIMING_GAP, 1), (F.VID_STATUS_ACTIVE, 0), (F.VID_CTRL_ENABLE, 1)]), by decide⟩,
    ⟨5, (atPower 3 [(F.PWR_CLK_REQ_VID, 1)]), by decide⟩,
    ⟨5, .mspi, 0xFFFFFFFF, (atPower 3 [(F.PWR_CLK_REQ_VID, 1), (F.VID_TBL_ADDR_INDEX, 1023)]), by decide⟩,
    ⟨5, .mspi, (atPower 3 [(F.PWR_CLK_REQ_VID, 1), (F.VID_TBL_ADDR_INDEX, 4)]), by decide⟩⟩

theorem witness_housekeeping_rounds :
    (∃ (t : Nat) (s : State), hkaOn s = true ∧ s.hka.due = true ∧ flag s F.HKA_STATUS_IN_ROUND = false) ∧
    (∃ (t : Nat) (s : State), hkaOn s = true ∧ rd s F.HKA_ROUND_CFG_SRC = 0 ∧ flag s F.HKA_STATUS_IN_ROUND = false ∧ s.hka.due = false) ∧
    (∃ (t : Nat) (s : State), hkaOn s = true ∧ rd s F.HKA_ROUND_CFG_SRC = 0 ∧ (flag s F.HKA_STATUS_IN_ROUND || s.hka.due) = true ∧ flag s F.HKA_STATUS_ROUND_QUEUED = false) ∧
    (∃ (t : Nat) (s : State), hkaOn s = true ∧ rd s F.HKA_ROUND_CFG_SRC = 0 ∧ (flag s F.HKA_STATUS_IN_ROUND || s.hka.due) = true ∧ flag s F.HKA_STATUS_ROUND_QUEUED = true) ∧
    (∃ (t : Nat) (r : Requester) (d : Nat) (s : State), Accepts t r F.HKA_CTRL_ENABLE.addr (withBit d 2) s ∧ bit (word d) 1 = false ∧ bit (word d) 0 = true ∧ sysOn s = true ∧ flag s F.HKA_STATUS_IN_ROUND = false) ∧
    (∃ (t : Nat) (k : Nat) (m : Bool) (v : HkaConv) (s : State), hkaOn s = true ∧ s.hka.conv = some v ∧ isDiode v.chan v.cfg = true ∧ v.first = none ∧ holdDeferred (at' t s) v = false) ∧
    (∃ (t : Nat) (k : Nat) (m : Bool) (v : HkaConv) (s : State), hkaOn s = true ∧ s.hka.conv = some v ∧ v.kind = 0 ∧ isDiode v.chan v.cfg = false ∧ holdDeferred (at' t s) v = false ∧ s.hka.chan = some v.chan ∧ s.hka.restart.testBit v.chan = false ∧ s.hka.acc.skip = true) ∧
    (∃ (t : Nat) (k : Nat) (m : Bool) (v : HkaConv) (s : State), hkaOn s = true ∧ s.hka.conv = some v ∧ v.kind = 0 ∧ isDiode v.chan v.cfg = false ∧ holdDeferred (at' t s) v = false ∧ s.hka.chan = some v.chan ∧ s.hka.restart.testBit v.chan = false ∧ s.hka.acc.skip = false ∧ s.hka.acc.n + 1 < 2 ^ fld v.cfg 4 4) ∧
    (∃ (t : Nat) (k : Nat) (m : Bool) (v : HkaConv) (s : State), hkaOn s = true ∧ s.hka.conv = some v ∧ v.kind = 0 ∧ isDiode v.chan v.cfg = false ∧ holdDeferred (at' t s) v = false ∧ Unwatched s v.chan ∧ s.hka.restart.testBit v.chan = false ∧ s.hka.acc.skip = false ∧ 2 ^ fld v.cfg 4 4 ≤ s.hka.acc.n + 1) :=
  ⟨⟨5, (hkaState [] { Hka.empty with due := true }), by decide⟩,
    ⟨5, (hkaState [(F.HKA_ROUND_CFG_SRC, 0)] Hka.empty), by decide⟩,
    ⟨5, (hkaState [(F.HKA_ROUND_CFG_SRC, 0), (F.HKA_STATUS_IN_ROUND, 1)] Hka.empty), by decide⟩,
    ⟨5, (hkaState [(F.HKA_ROUND_CFG_SRC, 0), (F.HKA_STATUS_IN_ROUND, 1), (F.HKA_STATUS_ROUND_QUEUED, 1)] Hka.empty), by decide⟩,
    ⟨5, .mspi, 1, (hkaState [] Hka.empty), by decide⟩,
    ⟨5, 0xFFF0, true, (⟨0, 32, 0#32, none, false, none, 0⟩), (hkaState [] { Hka.empty with chan := some 32, conv := some ⟨0, 32, 0#32, none, false, none, 0⟩ }), by decide⟩,
    ⟨5, 0xFFF0, true, (⟨0, 3, 0x20#32, none, false, none, 0⟩), (hkaState [] { Hka.empty with chan := some 3, conv := some ⟨0, 3, 0x20#32, none, false, none, 0⟩, acc := { HkaAcc.empty with skip := true } }), by decide⟩,
    ⟨5, 0xFFF0, true, (⟨0, 3, 0x20#32, none, false, none, 0⟩), (hkaState [] { Hka.empty with chan := some 3, conv := some ⟨0, 3, 0x20#32, none, false, none, 0⟩ }), by decide⟩,
    ⟨5, 0xFFF0, false, (⟨0, 3, 0#32, none, false, none, 0⟩), (hkaState [] { Hka.empty with chan := some 3, set := 8, conv := some ⟨0, 3, 0#32, none, false, none, 0⟩ }), by decide⟩⟩

theorem witness_housekeeping_events :
    (∃ (t : Nat) (r : Requester) (d : Nat) (s : State), Accepts t r F.HKA_URGENT_REQ.addr (withBit d 31) s) ∧
    (∃ (t : Nat) (v : HkaConv) (s : State), hkaOn s = true ∧ s.hka.conv = some v ∧ fld v.cfg 24 3 ≠ 0 ∧ Unwatched s v.chan ∧ v.at' + nsec 600 + usec (rd s F.HKA_BLANK_CFG_BLANK_MAX) ≤ max s.now t) ∧
    (∃ (t : Nat) (k : Nat) (m : Bool) (s : State), sysOn s = true ∧ k < 2 ∧ rdBit s F.HKA_EXC_CFG_EXC0.addr k = true) ∧
    (∃ (t : Nat) (r : Requester) (h : Bool) (d : Nat) (s : State), Accepts t r (if h then A.HKA_LIN_LOAD1 else A.HKA_LIN_LOAD0) d s) ∧
    (∃ (t : Nat) (c : Nat) (s : State), s.hka.loads.find? (fun x => x.1 = c) = some (c, 0)) ∧
    (∃ (t : Nat) (c : Nat) (s : State), sysOn s = true ∧ c < 36 ∧ flag s (F.HCH_STATUS_STALE c) = false ∧ pget 0 s.hka.last c + usec (2 * rd s F.HKA_ROUND_CFG_PERIOD_US) ≤ max s.now t) :=
  ⟨⟨5, .mspi, 7, (hkaState [] { Hka.empty with chan := some 3, set := 8, conv := some ⟨0, 3, 0#32, none, false, none, 0⟩ }), by decide⟩,
    ⟨90000000000, (⟨0, 3, 0x01000000#32, none, false, none, 0⟩), (hkaState [] { Hka.empty with chan := some 3, set := 8, conv := some ⟨0, 3, 0x01000000#32, none, false, none, 0⟩ }), by decide⟩,
    ⟨5, 1, true, (hkaState [(F.HKA_EXC_CFG_EXC1, 1)] Hka.empty), by decide⟩,
    ⟨5, .mspi, true, 15, (hkaState [] Hka.empty), by decide⟩,
    ⟨5, 4, (hkaState [] { Hka.empty with loads := [(3, 1), (4, 0)] }), by decide⟩,
    ⟨900000000000, 35, (hkaState [] Hka.empty), by decide⟩⟩

theorem witness_thermal_stops :
    (∃ (t : Nat) (s : State), s.thm.step = 1 ∧ escRunning s = false) ∧
    (∃ (t : Nat) (s : State), s.thm.step = 2 ∧ flushed (flushFrames (at' t s)) = true) ∧
    (∃ (t : Nat) (s : State), s.thm.step = 3) ∧
    (∃ (t : Nat) (s : State), s.thm.step = 4) ∧
    (∃ (t : Nat) (s : State), s.thm.step = 5) ∧
    (∃ (t : Nat) (s : State), s.thm.step ≠ 0 ∧ s.thm.since + msec (rd s F.THM_ORDERLY_BUDGET) ≤ max s.now t) ∧
    (∃ (t : Nat) (r : Requester) (d : Nat) (s : State), Accepts t r A.THM_TRIP_LATCH d s) :=
  ⟨⟨5, (thmState [] 1), by decide⟩,
    ⟨5, (thmState [] 2), by decide⟩,
    ⟨5, (thmState [] 3), by decide⟩,
    ⟨5, (thmState [] 4), by decide⟩,
    ⟨5, (thmState [] 5), by decide⟩,
    ⟨90000000000000, (thmState [] 2), by decide⟩,
    ⟨5, .mspi, 3, (withRegs [(A.THM_TRIP_LATCH, 0x5#32)] (atPower 3 [])), by decide⟩⟩

theorem witness_calibration_jobs :
    (∃ (t : Nat) (r : Requester) (d : Nat) (s : State), Accepts t r F.CAL_CTRL_START.addr (withBit d 3) s ∧ bit (word d) 1 = false ∧ bit (word d) 4 = false ∧ ((rd s F.CAL_JOB_CFG_TYPE ≠ 4 ∨ flag s F.HKA_CTRL_ENABLE = true))) ∧
    (∃ (t : Nat) (r : Requester) (d : Nat) (s : State), Accepts t r F.CAL_CTRL_START.addr (withBit d 3) s ∧ bit (word d) 1 = false ∧ bit (word d) 4 = false ∧ rd s F.CAL_JOB_CFG_TYPE = 4 ∧ flag s F.HKA_CTRL_ENABLE = false) ∧
    (∃ (t : Nat) (r : Requester) (d : Nat) (s : State), Accepts t r F.CAL_CTRL_START.addr (withBit d 4) s ∧ bit (word d) 1 = false ∧ bit (word d) 3 = false ∧ s.cal.job.isSome = true) ∧
    (∃ (t : Nat) (j : CalJob) (s : State), s.cal.job = some j ∧ j.type ∈ [0, 1, 3] ∧ j.edge + msec 10 ≤ max s.now t) ∧
    (∃ (t : Nat) (n : Nat) (a : Nat) (b : Nat) (j : CalJob) (s : State), sysOn s = true ∧ s.cal.job = some j ∧ j.type ∈ [0, 3, 4] ∧ j.channels.contains n = true ∧ pget 0 j.count n < j.need) ∧
    (∃ (t : Nat) (n : Nat) (a : Nat) (b : Nat) (j : CalJob) (s : State), sysOn s = true ∧ s.cal.job = some j ∧ j.type = 1 ∧ j.channels.contains n = true ∧ pget 0 j.count n < j.need ∧ (j.take n 0 (max s.now t)).full = false) ∧
    (∃ (t : Nat) (n : Nat) (a : Nat) (b : Nat) (j : CalJob) (s : State), sysOn s = true ∧ s.cal.job = some j ∧ j.type = 1 ∧ j.channels.contains n = true ∧ pget 0 j.count n < j.need ∧ (j.take n 0 (max s.now t)).full = true ∧ j.orient = 0) ∧
    (∃ (t : Nat) (l : List Nat) (j : CalJob) (s : State), sysOn s = true ∧ s.cal.job = some j ∧ j.type = 2 ∧ j.step < 10 ∧ j.edge + usec 256 ≤ max s.now t) ∧
    (∃ (t : Nat) (j : CalJob) (s : State), sysOn s = true ∧ s.cal.job = some j ∧ ((j.type = 2 ∧ j.step = 10 ∨ j.type = 1 ∧ j.full = true ∧ j.pass = 1 ∧ j.orient = 1 ∨ j.type ∈ [0, 3, 4] ∧ j.full = true))) :=
  ⟨⟨5, .mspi, 0, (calState [(F.CAL_JOB_CFG_TYPE, 3)] none), by decide⟩,
    ⟨5, .mspi, 0, (calState [(F.CAL_JOB_CFG_TYPE, 4)] none), by decide⟩,
    ⟨5, .mspi, 0, (calState [] (some job0)), by decide⟩,
    ⟨90000000000, job0, (calState [] (some job0)), by decide⟩,
    ⟨5, 519, 100, 300, job0, (calState [] (some job0)), by decide +kernel⟩,
    ⟨5, 7, 100, 300, ({ job0 with type := 1 }), (calState [] (some { job0 with type := 1 })), by decide +kernel⟩,
    ⟨5, 7, 100, 300, ({ job0 with type := 1, events := 1, count := (List.range 520).filterMap fun i => if i = 7 then none else some (i, 1) }), (calState [] (some { job0 with type := 1, events := 1, count := (List.range 520).filterMap fun i => if i = 7 then none else some (i, 1) })), by decide +kernel⟩,
    ⟨90000000000, ([0, 700]), ({ job0 with type := 2 }), (calState [] (some { job0 with type := 2 })), by decide⟩,
    ⟨5, ({ job0 with type := 4, count := [(0, 16), (1, 16), (2, 16), (3, 16)] }), (calState [] (some { job0 with type := 4, count := [(0, 16), (1, 16), (2, 16), (3, 16)] })), by decide⟩⟩

theorem witness_corrections_computed :
    (∃ (t : Nat) (r : Requester) (d : Nat) (s : State), Accepts t r F.CAL_CTRL_START.addr (withBit d 2) s ∧ bit (word d) 0 = true ∧ bit (word d) 1 = false ∧ bit (word d) 3 = false ∧ bit (word d) 4 = false ∧ s.cal.job = none ∧ s.cal.comp = none) ∧
    (∃ (t : Nat) (r : Requester) (d : Nat) (s : State), Accepts t r F.CAL_CTRL_START.addr (withBit d 2) s ∧ bit (word d) 0 = true ∧ bit (word d) 1 = false ∧ bit (word d) 3 = false ∧ bit (word d) 4 = false ∧ (s.cal.job.isSome || s.cal.comp.isSome) = true) ∧
    (∃ (t : Nat) (a : Nat) (x : CalSet) (s : State), s.cal.job = none ∧ s.cal.comp = some (a, x)) ∧
    (∃ (t : Nat) (a : Nat) (x : CalSet) (s : State), sysOn s = true ∧ s.cal.job = none ∧ s.cal.wait = some (a, x) ∧ flag s F.ACQ_STATUS_RUNNING = false) ∧
    (∃ (t : Nat) (tb : Nat) (a : Nat) (x : CalSet) (s : State), sysOn s = true ∧ s.cal.job = none ∧ s.cal.wait = some (a, x) ∧ flag s F.ACQ_STATUS_RUNNING = true ∧ boundaryAt (at' t s) (max s.now t) = some tb ∧ s.acq.bound < tb ∧ a + usec 1 ≤ tb) :=
  ⟨⟨5, .mspi, 1, (calState [] none), by decide⟩,
    ⟨5, .mspi, 1, (calState [] (some job0)), by decide⟩,
    ⟨5, 3, CalSet.empty, ({ calState [] none with cal := { State.reset.cal with comp := some (3, CalSet.empty) } }), by decide⟩,
    ⟨5, 3, ({ CalSet.empty with tap := [(5, 9)] }), ({ calState [] none with cal := { State.reset.cal with wait := some (3, { CalSet.empty with tap := [(5, 9)] }) } }), by decide⟩,
    ⟨900000, 900000, 3, ({ CalSet.empty with tap := [(5, 9)] }), ({ acqState with cal := { State.reset.cal with wait := some (3, { CalSet.empty with tap := [(5, 9)] }) } }), by decide⟩⟩

theorem witness_lamp_periods :
    (∃ (t : Nat) (s : State), lmpOn s = true ∧ s.lmp.at' + lampPeriod s ≤ t) ∧
    (∃ (t : Nat) (l : Nat) (a : Bool) (b : Bool) (s : State), lmpOn s = true ∧ l < 16 ∧ flag s (F.LAMP_CFG_ENABLE l) = true) ∧
    (∃ (t : Nat) (r : Requester) (e : Nat) (s : State), Accepts t r (0xE0400 + 0x100 * (e % 4) + 8) 1 s ∧ flag s (F.LENG_CTRL_ENABLE (e % 4)) = true ∧ rd s (F.LENG_CTRL_START_SRC (e % 4)) = 0) :=
  ⟨⟨900000000, (lmpState [] { State.reset.lmp with period := 7 }), by decide⟩,
    ⟨5, 15, false, true, (lmpState [(F.LAMP_CFG_ENABLE 15, 1)] State.reset.lmp), by decide⟩,
    ⟨5, .mspi, 3, (lmpState [(F.LENG_CTRL_ENABLE 3, 1)] State.reset.lmp), by decide⟩⟩

theorem witness_pair_roles :
    (∃ (t : Nat) (r : Requester) (d : Nat) (s : State), Accepts t r F.PAIR_CTRL_ENABLE.addr d s) ∧
    (∃ (t : Nat) (i : Nat) (a : Bool) (h : Nat) (b : Bool) (s : State), paired s = true ∧ i % 2 = rd s F.PAIR_ROLE_PAIR_ID ∧ flag s F.PAIR_STATUS_ID_CLASH = false) ∧
    (∃ (t : Nat) (i : Nat) (a : Bool) (h : Nat) (b : Bool) (s : State), paired s = true ∧ i % 2 ≠ rd s F.PAIR_ROLE_PAIR_ID) ∧
    (∃ (t : Nat) (a : Nat) (x : Rival) (s : State), pairUp s = s.pair.up ∧ s.pair.arb = some a ∧ s.pair.rival = some x ∧ a + usec 100 ≤ t ∧ flag s F.PAIR_STATUS_ID_CLASH = false) ∧
    (∃ (t : Nat) (s : State), paired s = true ∧ flag s F.PAIR_CFG_SOLO = true ∧ pairRole s = 2 ∧ flag s F.PAIR_STATUS_ARBITRATED = false ∧ flag s F.PAIR_STATUS_ID_CLASH = false ∧ s.pair.up = false ∧ pairUp s = false ∧ s.pair.since + msec (rd s F.PAIR_CFG_ARB_WAIT) ≤ t) ∧
    (∃ (t : Nat) (r : Requester) (s : State), Accepts t r A.PAIR_SWITCH 1 s) ∧
    (∃ (t : Nat) (c : Nat) (f : Nat) (s : State), paired s = true ∧ pairRole s = 1) ∧
    (∃ (t : Nat) (a : Nat) (s : State), s.pair.raiseAt = some a ∧ a ≤ t ∧ pairRole s = 1) ∧
    (∃ (t : Nat) (a : Nat) (s : State), s.pair.holdAt = some a ∧ a ≤ t ∧ pairRole s = 2) :=
  ⟨⟨5, .mspi, 1, (atPower 3 []), by decide⟩,
    ⟨5, 2, true, 0, false, (pairState 1 [] Pair.empty), by decide⟩,
    ⟨5, 1, true, 9, false, (pairState 2 [] Pair.empty), by decide⟩,
    ⟨90000000, 5, (⟨false, 0, true⟩), (pairState 2 [] { Pair.empty with up := true, arb := some 5, rival := some ⟨false, 0, true⟩ }), by decide⟩,
    ⟨9000000000000, (withFlds [(F.B_CTRL_ENABLE 2, 0), (F.B_STATUS_STATE 2, 0), (F.PAIR_CFG_SOLO, 1)] (pairState 2 [] Pair.empty)), by decide⟩,
    ⟨5, .mspi, (pairState 1 [(F.PAIR_STATUS_PARTNER_OK, 1)] { Pair.empty with up := true, partner := some ⟨5, report0⟩ }), by decide⟩,
    ⟨5, 3, 77, (pairState 1 [] { Pair.empty with up := true, actOut := true }), by decide⟩,
    ⟨30000, 25605, (pairState 1 [] { Pair.empty with up := true, raiseAt := some 25605 }), by decide⟩,
    ⟨2560005, 2560005, (pairState 2 [] { Pair.empty with up := true, holdAt := some 2560005 }), by decide⟩⟩

theorem witness_pair_exchange :
    (∃ (t : Nat) (e : Nat) (a : Nat) (b : Nat) (n : Nat) (f : Nat) (i : Nat) (k : Nat) (s : State), pairRole s = 2 ∧ flag s F.PAIR_STATUS_ID_CLASH = false) ∧
    (∃ (t : Nat) (a : Align) (s : State), s.pair.align = some a ∧ pairRole s = 2 ∧ a.edge * nsec (pNom s) ≤ t) ∧
    (∃ (t : Nat) (b : Nat) (s : State), paired s = true ∧ pairUp s = s.pair.up ∧ pairBundle s = some b ∧ s.pair.arb = none) ∧
    (∃ (t : Nat) (x : PairReport) (s : State), paired s = true) ∧
    (∃ (t : Nat) (p : Partner) (s : State), paired s = true ∧ s.pair.partner = some p ∧ flag s F.PAIR_STATUS_PARTNER_OK = true ∧ p.at' + usec 32 ≤ t) ∧
    (∃ (t : Nat) (p : Partner) (s : State), paired s = true ∧ s.pair.partner = some p ∧ flag s F.PAIR_STATUS_PARTNER_OK = true ∧ p.at' + usec 32 ≤ t ∧ pairUp s = s.pair.up ∧ mayTake s = true) ∧
    (∃ (t : Nat) (m : LoopMirror) (s : State), pairRole s = 2) ∧
    (∃ (t : Nat) (e : Nat) (i : Option Nat) (d : Option Int) (s : State), follows s = true) ∧
    (∃ (t : Nat) (e : Nat) (i : Option Nat) (d : Option Int) (l : List (Nat × Option Nat × Option Int)) (s : State), paired s = true ∧ flag s F.PAIR_STATUS_TIME_ALIGNED = true ∧ s.pair.times = (e, i, d) :: l ∧ e * nsec (pNom s) ≤ t) ∧
    (∃ (t : Nat) (f : Nat) (x : Option (Nat × Nat × Nat)) (a : Bool) (b : Bool) (s : State), paired s = true ∧ flag s F.PAIR_CFG_CMP_EN = true ∧ ((cmpFrame s.pair.mine f).ended && ((cmpFrame s.pair.theirs f).ended || a)) = false) ∧
    (∃ (t : Nat) (f : Nat) (x : Option (Nat × Nat × Nat)) (a : Bool) (b : Bool) (s : State), paired s = true ∧ flag s F.PAIR_CFG_CMP_EN = true ∧ ((cmpFrame s.pair.mine f).ended && ((cmpFrame s.pair.theirs f).ended || a)) = true ∧ ((cmpFrame s.pair.mine f).stopped || (cmpFrame s.pair.theirs f).stopped || b) = false) ∧
    (∃ (t : Nat) (a : Nat) (h : Nat) (p : Nat) (g : Nat) (s : State), planState s = 6) :=
  ⟨⟨5, 1, 2, 3, 4, 5, 6, 7, (pairState 2 [] Pair.empty), by decide⟩,
    ⟨900000, (⟨3, 100, 2, 9, 0, 77, 55⟩), (pairState 2 [] { Pair.empty with align := some ⟨3, 100, 2, 9, 0, 77, 55⟩ }), by decide⟩,
    ⟨9000000, 2, (pairState 1 [] { Pair.empty with up := true, seqs := [(3, 16777215)] }), by decide⟩,
    ⟨5, report0, (pairState 1 [] { Pair.empty with up := true }), by decide⟩,
    ⟨90000000, (⟨5, report0⟩), (pairState 1 [(F.PAIR_STATUS_PARTNER_OK, 1)] { Pair.empty with up := true, partner := some ⟨5, report0⟩ }), by decide⟩,
    ⟨90000000, (⟨5, report0⟩), (pairState 2 [(F.PAIR_STATUS_PARTNER_OK, 1), (F.PAIR_STATUS_ARBITRATED, 1)] { Pair.empty with up := true, partner := some ⟨5, report0⟩ }), by decide⟩,
    ⟨5, (⟨9, [], 0, 0, 0, 0, 3, false, none⟩), (pairState 2 [] { Pair.empty with up := true }), by decide⟩,
    ⟨5, 9, (some 7), none, (pairState 2 [(F.PAIR_STATUS_TIME_ALIGNED, 1)] { Pair.empty with up := true }), by decide⟩,
    ⟨900000, 9, (some 7), (some 5), [], (pairState 2 [(F.PAIR_STATUS_TIME_ALIGNED, 1)] { Pair.empty with up := true, times := [(9, some 7, some 5)] }), by decide⟩,
    ⟨5, 9, (some (3, 4, 5)), false, false, (pairState 2 [(F.PAIR_CFG_CMP_EN, 1)] { Pair.empty with up := true }), by decide⟩,
    ⟨5, 9, (some (3, 4, 5)), true, false, (pairState 2 [(F.PAIR_CFG_CMP_EN, 1)] { Pair.empty with up := true, mine := [⟨9, [], true, false⟩] }), by decide⟩,
    ⟨5, 3, 7, 8, 5, (pairState 2 [(F.PLN_STATUS_STATE, 6)] { Pair.empty with up := true }), by decide⟩⟩

theorem witness_resets :
    (∃ (t : Nat) (a : Bool) (b : Bool) (s : State), s.pwr.lcBegun = none) ∧
    (∃ (t : Nat) (a : Bool) (b : Bool) (x : Nat) (s : State), s.pwr.lcBegun = some x) ∧
    (∃ (t : Nat) (r : Requester) (s : State), Accepts t r 0x000008 2 s) ∧
    (∃ (t : Nat) (s : State), s.held = true) ∧
    (∃ (t : Nat) (n : Nat) (s : State), s.held = false ∧ s.wiping = true) :=
  ⟨⟨5, true, false, (atPower 3 []), by decide⟩,
    ⟨5, true, false, 2, ({ atPower 3 [] with pwr := { State.reset.pwr with lcBegun := some 2 } }), by decide⟩,
    ⟨5, .mspi, (withRegs [(0x2C, 0x80000040#32)] (atPower 3 [])), by decide⟩,
    ⟨5, State.reset, by decide⟩,
    ⟨5, 0, ({ State.reset with held := false, wiping := true }), by decide⟩⟩

theorem witness_power_states :
    (∃ (t : Nat) (r : Requester) (d : Nat) (s : State), Accepts t r F.PWR_STATE_REQ_STATE.addr d s ∧ fld (word d) 0 3 ≤ 3 ∧ pstate s ≠ 4) ∧
    (∃ (t : Nat) (r : Requester) (d : Nat) (s : State), Accepts t r F.PWR_STATE_REQ_STATE.addr d s ∧ fld (word d) 0 3 = 4 ∧ (isStare s || modelValid s) = true) ∧
    (∃ (t : Nat) (r : Requester) (d : Nat) (s : State), Accepts t r F.PWR_STATE_REQ_STATE.addr d s ∧ fld (word d) 0 3 = 3 ∧ pstate s = 4 ∧ acqRuns s = true) ∧
    (∃ (t : Nat) (a : PState) (b : PState) (s : State), s.pwr.trans = some (a, b) ∧ ((b.code ≤ a.code ∨ flag s F.CLK_STATUS_REF_PRESENT = true))) ∧
    (∃ (t : Nat) (a : PState) (b : PState) (s : State), s.pwr.trans = some (a, b) ∧ a.code < b.code ∧ s.pwr.since + msec 4 ≤ t) ∧
    (∃ (t : Nat) (r : Requester) (d : Nat) (s : State), Accepts t r F.PWR_CLK_REQ_VID.addr d s) ∧
    (∃ (t : Nat) (r : Requester) (d : Nat) (s : State), Accepts t r A.PWR_LC_KEY d s) ∧
    (∃ (t : Nat) (r : Requester) (d : Nat) (s : State), Accepts t r A.PWR_LC_REQ d s) ∧
    (∃ (t : Nat) (x : Nat) (s : State), flag s F.PWR_STATUS_LC_BUSY = true ∧ s.pwr.lcBegun = some x) :=
  ⟨⟨5, .mspi, 3, (atPower 1 [(F.CLK_STATUS_REF_PRESENT, 1)]), by decide⟩,
    ⟨5, .mspi, 4, (atPower 3 [(F.CLK_STATUS_REF_PRESENT, 1), (F.SCN_SCAN_MODE, 2)]), by decide⟩,
    ⟨5, .mspi, 3, (withFlds [(F.CLK_STATUS_REF_PRESENT, 1)] acqState), by decide⟩,
    ⟨5, .sleep, .timekeep, ({ atPower 1 [(F.CLK_STATUS_REF_PRESENT, 1), (F.PWR_STATUS_TRANSITION, 1)] with pwr := { State.reset.pwr with trans := some (.sleep, .timekeep) } }), by decide⟩,
    ⟨90000000000, .sleep, .ready, ({ atPower 1 [(F.PWR_STATUS_TRANSITION, 1)] with pwr := { State.reset.pwr with trans := some (.sleep, .ready) } }), by decide⟩,
    ⟨5, .mspi, 1, (atPower 3 []), by decide⟩,
    ⟨5, .mspi, 0x1C5E, (withRegs [(0x202C, 0x80000040#32)] (atPower 1 [])), by decide⟩,
    ⟨5, .mspi, 2, ({ withRegs [(0x202C, 0x80000040#32)] (atPower 1 []) with pwr := { State.reset.pwr with lcArmed := true } }), by decide⟩,
    ⟨5, 2, ({ atPower 1 [(F.PWR_STATUS_LC_BUSY, 1)] with pwr := { State.reset.pwr with lcBegun := some 2 } }), by decide⟩⟩

theorem witness_step_takes_the_front :
    (∃ (c : Instr) (l : List Instr) (s : State), s.pending = c :: l) ∧
    (∃ (s : State), s.pending = []) :=
  ⟨⟨(.resetPin 5), [], ({ State.reset with pending := [.resetPin 5] }), by decide⟩,
    ⟨State.reset, by decide⟩⟩

theorem witness_reset_state :
    ∃ (s : State), s = State.reset :=
  ⟨State.reset, by decide⟩

theorem witness_lock_keys :
    (∃ (t : Nat) (r : Requester) (p : Nat) (d : Nat) (s : State), HeaderPage p ∧ p ≠ 0x90000 ∧ BusIdle s ∧ clocked (p + 0x2C) s = true ∧ ((p = 0x2000 → s.pwr.lcArmed = false)) ∧ fld (word d) 0 16 ≠ 0) ∧
    (∃ (t : Nat) (r : Requester) (d : Nat) (s : State), BusIdle s ∧ clocked 0x9002C s = true ∧ fld (word d) 0 16 ≠ 0) :=
  ⟨⟨5, .mspi, 0x2000, 0x5AFE, (atPower 1 []), by decide⟩,
    ⟨5, .mspi, 0x5AFE, (atPower 3 [(F.SAF_STATUS_WINDOW_OPEN, 1)]), by decide⟩⟩

theorem witness_reserved_encodings :
    ∃ (t : Nat) (r : Requester) (a : Nat) (d : Nat) (s : State) (l : RegLoc) (f : FieldRow) (e : Nat × Nat), BusIdle s ∧ busAddr a = a ∧ windowed a = false ∧ slowAddr a s = false ∧ pageBase a = some l.pbase ∧ findReg a = some l ∧ clocked a s = true ∧ (hasHeader l.pbase && (decide (a = l.pbase + 0x2C) || (decide (a = l.pbase + 8) && bit (word d) 1))) = false ∧ (protChange l a (word d) s && !(lockOpen s l.pbase)) = false ∧ shadowBusy l a s = false ∧ f ∈ l.row.fields ∧ f.acc ≠ .cnt ∧ e ∈ f.bad ∧ e.1 ≤ fld (word d) f.lo f.len ∧ fld (word d) f.lo f.len ≤ e.2 ∧ a ≠ errPage l.pbase a + 0x28 :=
  ⟨5, .mspi, 0x2040, 7, (atPower 1 []), (⟨0x2000, 0, .aon, ⟨0x040, 1, fun _ => 0x1, [⟨31, 1, .rw, [], false⟩, ⟨0, 3, .rw, [(0, 0), (5, 7)], false⟩]⟩, 0, 0⟩), (⟨0, 3, .rw, [(0, 0), (5, 7)], false⟩), ((5, 7)), by refine ⟨?_, ?_, ?_, ?_, ?_, rfl, ?_⟩ <;> decide⟩

theorem witness_life_cycle_transitions :
    (∃ (t : Nat) (r : Requester) (d : Nat) (s : State), BusIdle s ∧ lockOpen s 0x2000 = true ∧ s.pwr.lcArmed = true ∧ s.wiping = false ∧ pstate s = 1 ∧ flag s F.PWR_STATUS_TRANSITION = false ∧ flag s F.PWR_STATUS_LC_BUSY = false) ∧
    (∃ (t : Nat) (x : Nat) (s : State), flag s F.PWR_STATUS_LC_BUSY = true ∧ s.pwr.lcBegun = some x) ∧
    (∃ (s : State), s = State.reset) :=
  ⟨⟨5, .mspi, 3, ({ withRegs [(0x202C, 0x80000040#32)] (atPower 1 []) with pwr := { State.reset.pwr with lcArmed := true, lcState := 2, lcLeft := 0 } }), by decide⟩,
    ⟨5, 3, ({ atPower 1 [(F.PWR_STATUS_LC_BUSY, 1)] with pwr := { State.reset.pwr with lcBegun := some 3 } }), by decide⟩,
    ⟨State.reset, by decide⟩⟩

theorem witness_frames_of_writes_and_events :
    (∃ (t : Nat) (r : Requester) (p : Nat) (s : State), HeaderPage p ∧ Accepts t r (p + 0x28) (2 ^ 31) s) ∧
    (∃ (t : Nat) (r : Requester) (p : Nat) (d : Nat) (s : State), HeaderPage p ∧ Accepts t r (p + 0x10) d s) ∧
    (∃ (t : Nat) (r : Requester) (p : Nat) (d : Nat) (s : State), HeaderPage p ∧ Accepts t r (p + 0x1C) d s) ∧
    (∃ (t : Nat) (r : Requester) (a : Nat) (d : Nat) (p : Nat) (s : State), BusIdle s ∧ busAddr a = a ∧ windowed a = false ∧ slowAddr a s = false ∧ p = (pageBase a).getD 0 ∧ p ∉ [0xA0000, 0xA8000] ∧ stays a (word d) s = 0#32 ∧ (busWrite r a (word d) (at' t s)).1 ≠ 0) ∧
    (∃ (t : Nat) (r : Requester) (a : Nat) (d : Nat) (s : State), Accepts t r a d s ∧ busAddr a = a ∧ 0x400000 ≤ a ∧ a < 0x480000) ∧
    (∃ (t : Nat) (s : State) (a : Nat) (d : Word), s.bus.slow = [⟨.mspi, true, a, d⟩] ∧ s.held = false ∧ Settled s ∧ flag s F.PMON_CTRL_ENABLE = false ∧ sysOn s = true ∧ 0x800000 ≤ busAddr a ∧ 0x3000000 ≤ windowAt s (busAddr a) ∧ inStream s (windowAt s (busAddr a)) = false ∧ windowRefused s (windowAt s (busAddr a)) = false) :=
  ⟨⟨5, .mspi, 0x20000, (withRegs [(0x20028, 0x405#32)] (atPower 3 [])), by decide⟩,
    ⟨5, .mspi, 0x90000, 6, (withRegs [(0x90010, 0x7#32)] (atPower 3 [])), by decide⟩,
    ⟨5, (.bundle 0), 0x61080, 3, (withRegs [(0x61094, 0xFF#32)] (atPower 3 [])), by decide⟩,
    ⟨5, .mspi, 0x2040, 7, 0x2000, (atPower 1 []), by decide⟩,
    ⟨5, .mspi, 0x400804, 0x12345678, ({ atPower 3 [] with calstore := [(0x803, 5#8), (0x804, 6#8), (0x808, 7#8)] }), by decide⟩,
    ⟨5, (slowState ⟨.mspi, true, 0x800010, 0xA1B2C3D4#32⟩), 0x800010, 0xA1B2C3D4#32, by decide⟩⟩

end Sys2Proof.Machine.Tests
end

section
/-!
SUPPORT. What a refused write of a register leaves (02 R40), for every register that is not a LOCK; then the writes that
place a reserved encoding (spec/00 R11), where the tables
give the reserved encodings as ranges (log entry 92).
-/

namespace Sys2Proof.Machine

/-! ## The parts of a refusal -/

/-- A shadow value depends on the shadows and on the register in force. -/
theorem shadowReg_congr {s s' : State} {a : Nat} (hs : s'.shadows = s.shadows) (hr : reg s' a = reg s a) :
    shadowReg s' a = shadowReg s a := by simp [shadowReg, hs, hr]

@[simp] theorem lockCount_shadows (p : Nat) (s : State) : (lockCount p s).shadows = s.shadows := by
  unfold lockCount
  dsimp only
  split <;> rfl

@[simp] theorem lcAfter_shadows (p : Nat) (k : Bool) (s : State) : (lcAfter p k s).shadows = s.shadows := by
  unfold lcAfter lcDisarm
  split <;> rfl

@[simp] theorem busShow_shadows (w : Word) (n : Nat) (s : State) : (busShow w n s).shadows = s.shadows := rfl

/-- A page without the common header has no LOCK, and an access counts nothing. -/
theorem lockCount_headerless (p : Nat) (s : State) (h : hasHeader p = false) : lockCount p s = s := by simp [lockCount, h]

/-- An access counts in no register but the LOCK of a page with the common header. -/
theorem reg_lockCount_unlocked (p : Nat) (s : State) (a : Nat) (h : (hasHeader p && decide (a = p + 0x2C)) = false) :
    reg (lockCount p s) a = reg s a := by
  cases hp : hasHeader p with
  | false => rw [lockCount_headerless p s hp]
  | true => exact reg_lockCount p s a (by simpa [hp] using h)

/-- A page with the common header keeps its own errors. -/
theorem errPage_of_header {p : Nat} (a : Nat) (h : hasHeader p = true) : errPage p a = p := by
  have hp : p < 0x100000 := by simpa [hasHeader] using h
  have h1 : p ≠ 0x100000 := by omega
  have h2 : p ≠ 0x200000 := by omega
  simp [errPage, h1, h2]

/-- The ERR_CODE that takes a page's errors is not the LOCK of the page. -/
theorem errCode_unlocked (p a : Nat) : (hasHeader p && decide (errPage p a + 0x28 = p + 0x2C)) = false := by
  cases hp : hasHeader p with
  | false => rfl
  | true => simp [errPage_of_header a hp]

/-- The first error recorded in a page shows its code. -/
theorem code_recErr_first (s : State) (p off code : Nat) (h : fld (reg s (p + 0x28)) 0 8 = 0) (hc : code < 2 ^ 8) :
    fld (reg (recErr s p off code) (p + 0x28)) 0 8 = code := by
  rw [reg_recErr_first s p off code h]
  simp only [fld, word, BitVec.toNat_ofNat, Nat.shiftRight_zero]
  omega

/-- Most codes add nothing to the record of the error: a chapter adds to 0x03 on ETH and to 0x20 on NTM alone. -/
theorem writeRefused_recErr (l : RegLoc) (a n : Nat) (s : State) (h1 : n ≠ 0x03) (h2 : n ≠ 0x20) :
    writeRefused l a n s = recErr s (errPage l.pbase a) (a - l.pbase) n := by simp [writeRefused, h1, h2]

/-! ## A refused write -/

/-- A write with a code, of a register that is no LOCK and asks for no soft reset, is recorded and counts in LOCK; a held
lower word stays (02 R40, R50). -/
theorem writeReg_refused (l : RegLoc) (r : Requester) (a : Nat) (d : Word) (s : State)
    (hk : (hasHeader l.pbase && decide (a = l.pbase + 0x2C)) = false)
    (hsr : (hasHeader l.pbase && decide (a = l.pbase + 8) && bit d 1) = false)
    (hcode : writeCode l a d s (lowerTaken r a s) ≠ 0) :
    writeReg l r a d s = (writeCode l a d s (lowerTaken r a s),
      lockCount l.pbase (writeRefused l a (writeCode l a d s (lowerTaken r a s)) s)) := by
  have hk' : ¬ (hasHeader l.pbase = true ∧ a = l.pbase + 0x2C) := by simpa using hk
  unfold writeReg
  simp only [hk', if_false, hsr, Bool.false_eq_true, ne_eq, hcode, not_false_eq_true, if_true]

/-- A requester's refused write: the code is shown, the error recorded, LOCK counted, and an armed life-cycle request
disarmed. -/
theorem accessW_refused_eq (t : Nat) (r : Requester) (a d n : Nat) (s : State) (l : RegLoc) (hs : BusIdle s)
    (ha : busAddr a = a) (hw : windowed a = false) (hp : pageBase a = some l.pbase) (hc : clocked a (at' t s) = true)
    (hl : findReg a = some l) (hk : (hasHeader l.pbase && decide (a = l.pbase + 0x2C)) = false)
    (hsr : (hasHeader l.pbase && decide (a = l.pbase + 8) && bit (word d) 1) = false)
    (hcode : writeCode l a (word d) (at' t s) (lowerTaken r a (at' t s)) = n) (hn : n ≠ 0) :
    accessW t r a d s = busShow (accessW t r a d s).bus.lastRead n
      (lcAfter l.pbase false (lockCount l.pbase (writeRefused l a n (at' t s)))) := by
  have hpage : pageWrite l.pbase r a (word d) (at' t s) =
      (n, lcAfter l.pbase false (lockCount l.pbase (writeRefused l a n (at' t s)))) := by
    unfold pageWrite
    simp only [hl]
    rw [writeReg_refused l r a (word d) (at' t s) hk hsr (by rwa [hcode]), hcode]
    simp [hn]
  rw [accessW_page t r a d l.pbase s hs ha hw hp hc, hpage]
  rfl

/-! ## Reserved encodings -/

/-- A field that no counter keeps refuses the codes of its reserved ranges. -/
theorem fieldBad_of_reserved {d : Word} {f : FieldRow} {e : Nat × Nat} (hf : f.acc ≠ .cnt) (he : e ∈ f.bad)
    (hlo : e.1 ≤ fld d f.lo f.len) (hhi : fld d f.lo f.len ≤ e.2) : fieldBad d f = true := by
  have hbad : (f.bad.any fun r => decide (r.1 ≤ fld d f.lo f.len) && decide (fld d f.lo f.len ≤ r.2)) = true :=
    List.any_eq_true.2 ⟨e, he, by simp [hlo, hhi]⟩
  unfold fieldBad
  split
  · next hcnt => exact absurd hcnt hf
  · exact hbad

/-- A reserved encoding comes next in the order of R40 after LOCK and a pending commit. -/
theorem writeCode_of_fieldBad {l : RegLoc} {a : Nat} {d : Word} {s c : State} {f : FieldRow}
    (hprot : (protChange l a d s && !(lockOpen s l.pbase)) = false) (hbusy : shadowBusy l a s = false)
    (hf : f ∈ l.row.fields) (hbad : fieldBad d f = true) : writeCode l a d s c = 0x02 := by
  have hany : l.row.fields.any (fieldBad d) = true := List.any_eq_true.2 ⟨f, hf, hbad⟩
  have hprot' : ¬ (protChange l a d s = true ∧ (!(lockOpen s l.pbase)) = true) := by simpa using hprot
  unfold writeCode
  simp only [hprot', if_false, hbusy, Bool.false_eq_true, and_false, hany, Bool.true_or, if_true]

/-- Settles O55: by the order of R40 the write has code 0x02, so it is refused, and a refusal writes ERR_CODE and LOCK
alone. -/
theorem reservedEncodings : Obligations.ReservedEncodings := by
  intro t r a d s l f e hs ha hw _ hp hl hc hhdr hprot hbusy hf hacc he hlo hhi herr
  rw [Bool.and_or_distrib_left, Bool.or_eq_false_iff, ← Bool.and_assoc] at hhdr
  obtain ⟨hk, hsr⟩ := hhdr
  have hcode : writeCode l a (word d) (at' t s) (lowerTaken r a (at' t s)) = 0x02 :=
    writeCode_of_fieldBad (s := at' t s) hprot hbusy hf (fieldBad_of_reserved hacc he hlo hhi)
  have hrefused := accessW_refused_eq t r a d 0x02 s l hs ha hw hp hc hl hk hsr hcode (by decide)
  rw [writeRefused_recErr l a 0x02 (at' t s) (by decide) (by decide)] at hrefused
  have hreg : reg (accessW t r a d s) a = reg s a := by
    rw [hrefused, reg_busShow, reg_lcAfter, reg_lockCount_unlocked _ _ _ hk, reg_recErr_other _ _ _ _ _ herr, reg_at']
  have hshadows : (accessW t r a d s).shadows = s.shadows := by rw [hrefused]; simp
  refine ⟨accessW t r a d s, rfl, ?_, hreg, shadowReg_congr hshadows hreg, fun hfree => ?_⟩
  · rw [hrefused, busShow_lastErr]
  · rw [hrefused, reg_busShow, reg_lcAfter, reg_lockCount_unlocked _ _ _ (errCode_unlocked _ _)]
    exact code_recErr_first (at' t s) _ _ _ hfree (by decide)

end Sys2Proof.Machine
end

section
/-!
SUPPORT. What every command keeps (the canonical form of the memories, legal fuses), from what its meaning keeps; then the
invariant of the memories (01 R23, 02 R36, 17 R450).
-/

namespace Sys2Proof.Machine

/-- Every command keeps the canonical form of the memories and legal fuses: each by the lemma on its own meaning. -/
theorem keep_exec {z : State} (i : Instr) (s : State) (h : Keeps z s) : ∀ u, exec i s = .next u → Keeps z u := by
  cases i with
  | registerWrite t r a d => exact keep_execRegisterWrite t r a d s h
  | errCodeClear t r p => exact keep_execErrCodeClear t r p s h
  | evtRawClear t r p d => exact keep_execEvtRawClear t r p d s h
  | evtForce t r p d => exact keep_execEvtForce t r p d s h
  | eventCounterClear t r a => exact keep_execEventCounterClear t r a s h
  | softReset t r p => exact keep_execSoftReset t r p s h
  | softResetComplete t p => exact keep_execSoftResetComplete t p s h
  | commit t r p q => exact keep_execCommit t r p q s h
  | commitApply t q => exact keep_execCommitApply t q s h
  | lockKeyWrite t r p d => exact keep_execLockKeyWrite t r p d s h
  | wideValueLowRead t r a => exact keep_execWideValueLowRead t r a s h
  | slowAccessComplete t r => exact keep_execSlowAccessComplete t r s h
  | write t a words done => exact keep_execWrite t a words done s h
  | read t a n waits => exact keep_execRead t a n waits s h
  | mspiWriteComplete t => exact keep_execMspiWriteComplete t s h
  | mspiCsEarlyRise t a words => exact keep_execMspiCsEarlyRise t a words s h
  | evfHoldoffEnd t => exact keep_execEvfHoldoffEnd t s h
  | pmonSnap t r d => exact keep_execPmonSnap t r d s h
  | pmonStart t r d => exact keep_execPmonStart t r d s h
  | monWindowEnd t m => exact keep_execMonWindowEnd t m s h
  | poolSplitWrite t r d => exact keep_execPoolSplitWrite t r d s h
  | poolZeroed t => exact keep_execPoolZeroed t s h
  | scanModeWrite t r d => exact keep_execScanModeWrite t r d s h
  | ocxoWarmChange t level => exact keep_execOcxoWarmChange t level s h
  | refLost t => exact keep_execRefLost t s h
  | holdoverLimit t => exact keep_execHoldoverLimit t s h
  | refPresent t => exact keep_execRefPresent t s h
  | tdcPllLock t q => exact keep_execTdcPllLock t q s h
  | pllRelock t q => exact keep_execPllRelock t q s h
  | pllUnlock t q => exact keep_execPllUnlock t q s h
  | refSelWrite t r d => exact keep_execRefSelWrite t r d s h
  | hitLeadingEdge t c => exact keep_execHitLeadingEdge t c s h
  | hitTrailingEdge t c high => exact keep_execHitTrailingEdge t c high s h
  | hitWidthLimit t c high => exact keep_execHitWidthLimit t c high s h
  | hitFifoEntry t c => exact keep_execHitFifoEntry t c s h
  | hitDrain t bank => exact keep_execHitDrain t bank s h
  | hitTimeFormed t c => exact keep_execHitTimeFormed t c s h
  | startEdge t m => exact keep_execStartEdge t m s h
  | startWindowClose t m => exact keep_execStartWindowClose t m s h
  | stCtrlWrite t r m d => exact keep_execStCtrlWrite t r m d s h
  | startSettleEnd t m => exact keep_execStartSettleEnd t m s h
  | chThreshWrite t r c d => exact keep_execChThreshWrite t r c d s h
  | settlingEnd t c => exact keep_execSettlingEnd t c s h
  | fctSnap t r d => exact keep_execFctSnap t r d s h
  | fctStart t r d => exact keep_execFctStart t r d s h
  | fcGateOpen t k => exact keep_execFcGateOpen t k s h
  | fcGateClose t k n => exact keep_execFcGateClose t k n s h
  | noSignal t k => exact keep_execNoSignal t k s h
  | idxRisingEdge t => exact keep_execIdxRisingEdge t s h
  | idxFallingEdge t => exact keep_execIdxFallingEdge t s h
  | shotStart t g => exact keep_execShotStart t g s h
  | ltrigEdge t g => exact keep_execLtrigEdge t g s h
  | captureGateOpen t g dark => exact keep_execCaptureGateOpen t g dark s h
  | captureGateClose t g dark => exact keep_execCaptureGateClose t g dark s h
  | colDataAccess t r d => exact keep_execColDataAccess t r d s h
  | escEnableWrite t r d => exact keep_execEscEnableWrite t r d s h
  | toutArm t r idx d => exact keep_execToutArm t r idx d s h
  | toutPulse t idx => exact keep_execToutPulse t idx s h
  | toutPulseEnd t idx => exact keep_execToutPulseEnd t idx s h
  | nttArm t r idx d => exact keep_execNttArm t r idx d s h
  | nttFired t idx => exact keep_execNttFired t idx s h
  | columnStartMarker t c => exact keep_execColumnStartMarker t c s h
  | shotMarker t c => exact keep_execShotMarker t c s h
  | hitAccumulate t c => exact keep_execHitAccumulate t c s h
  | boundaryMarker t c => exact keep_execBoundaryMarker t c s h
  | zoomOpen t c => exact keep_execZoomOpen t c s h
  | pixelEndMarker t c => exact keep_execPixelEndMarker t c s h
  | contextClose t n => exact keep_execContextClose t n s h
  | contextReadoutComplete t n => exact keep_execContextReadoutComplete t n s h
  | inspSelWrite t r d => exact keep_execInspSelWrite t r d s h
  | inspBinDataRead t r => exact keep_execInspBinDataRead t r s h
  | inspBinDataWrite t r d => exact keep_execInspBinDataWrite t r d s h
  | rennetJudge t c => exact keep_execRennetJudge t c s h
  | tempStale t => exact keep_execTempStale t s h
  | frameBoundary t partner => exact keep_execFrameBoundary t partner s h
  | genlockEdge t falling => exact keep_execGenlockEdge t falling s h
  | genlockLost t => exact keep_execGenlockLost t s h
  | acqEnableWrite t r d => exact keep_execAcqEnableWrite t r d s h
  | triggerInputEdge t line falling => exact keep_execTriggerInputEdge t line falling s h
  | hostTrig t r d => exact keep_execHostTrig t r d s h
  | autoTrigger t => exact keep_execAutoTrigger t s h
  | triggerResolve t => exact keep_execTriggerResolve t s h
  | retentionFillReady t => exact keep_execRetentionFillReady t s h
  | retentionPostEnd t => exact keep_execRetentionPostEnd t s h
  | retentionHoldoffEnd t => exact keep_execRetentionHoldoffEnd t s h
  | seqDone t => exact keep_execSeqDone t s h
  | rearm t r d => exact keep_execRearm t r d s h
  | recordEnqueue t st => exact keep_execRecordEnqueue t st s h
  | queueCfgWrite t r k route d => exact keep_execQueueCfgWrite t r k route d s h
  | queueCfgApplyIdle t k => exact keep_execQueueCfgApplyIdle t k s h
  | segmentSend t b => exact keep_execSegmentSend t b s h
  | pressJobStart t e => exact keep_execPressJobStart t e s h
  | pressPrimeDone t e => exact keep_execPressPrimeDone t e s h
  | pressBlockEnd t k bytes => exact keep_execPressBlockEnd t k bytes s h
  | resumed t e => exact keep_execResumed t e s h
  | resume t r e => exact keep_execResume t r e s h
  | bundleEnableWrite t r b d => exact keep_execBundleEnableWrite t r b d s h
  | laneBitLock t l => exact keep_execLaneBitLock t l s h
  | tsSetReceived t l x => exact keep_execTsSetReceived t l x s h
  | trainStepComplete t b seen => exact keep_execTrainStepComplete t b seen s h
  | trainStepTimeout t b seen => exact keep_execTrainStepTimeout t b seen s h
  | trainFailRestart t b => exact keep_execTrainFailRestart t b s h
  | ack t b seq => exact keep_execAck t b seq s h
  | nak t b seq => exact keep_execNak t b seq s h
  | credit t b vc limit => exact keep_execCredit t b vc limit s h
  | laneOffer t b mask => exact keep_execLaneOffer t b mask s h
  | laneTx t b mask => exact keep_execLaneTx t b mask s h
  | power t b ack st => exact keep_execPower t b ack st s h
  | frameReceived t b hdr body line => exact keep_execFrameReceived t b hdr body line s h
  | regWr t b len body => exact keep_execRegWr t b len body s h
  | regRd t b len body => exact keep_execRegRd t b len body s h
  | frameTransmit t b => exact keep_execFrameTransmit t b s h
  | ackIntExpire t b => exact keep_execAckIntExpire t b s h
  | creditIntExpire t b => exact keep_execCreditIntExpire t b s h
  | replayTimeout t b => exact keep_execReplayTimeout t b s h
  | down t b => exact keep_execDown t b s h
  | retrain t r b d => exact keep_execRetrain t r b d s h
  | quarantine t l cause codes disps => exact keep_execQuarantine t l cause codes disps s h
  | laneMaskSwitch t b rx => exact keep_execLaneMaskSwitch t b rx s h
  | laneRetrainAttempt t l => exact keep_execLaneRetrainAttempt t l s h
  | laneRetrainEnd t l ok => exact keep_execLaneRetrainEnd t l ok s h
  | lnCtrlRetry t r l d => exact keep_execLnCtrlRetry t r l d s h
  | laneEnWrite t r b d => exact keep_execLaneEnWrite t r b d s h
  | powerReqWrite t r b d => exact keep_execPowerReqWrite t r b d s h
  | powerRetry t b => exact keep_execPowerRetry t b s h
  | powerExit t b signal => exact keep_execPowerExit t b signal s h
  | lrefLost t g => exact keep_execLrefLost t g s h
  | lgRateWrite t r d => exact keep_execLgRateWrite t r d s h
  | prbsSync t l sync errors => exact keep_execPrbsSync t l sync errors s h
  | controlTick t => exact keep_execControlTick t s h
  | hallEdge t p => exact keep_execHallEdge t p s h
  | hallEdgeTimeout t => exact keep_execHallEdgeTimeout t s h
  | modeReqWrite t r d => exact keep_execModeReqWrite t r d s h
  | alignEnd t => exact keep_execAlignEnd t s h
  | startFail t => exact keep_execStartFail t s h
  | idxLost t => exact keep_execIdxLost t s h
  | standstill t => exact keep_execStandstill t s h
  | coastingClear t => exact keep_execCoastingClear t s h
  | faultLatchClear t r gal d => exact keep_execFaultLatchClear t r gal d s h
  | galTblDataAccess t r d => exact keep_execGalTblDataAccess t r d s h
  | sdfOutput t c bits => exact keep_execSdfOutput t c bits s h
  | sdfStuck t c => exact keep_execSdfStuck t c s h
  | sdfUnstuck t c => exact keep_execSdfUnstuck t c s h
  | clkLost t => exact keep_execClkLost t s h
  | sdmClkReturn t => exact keep_execSdmClkReturn t s h
  | sdfCfgWrite t r d => exact keep_execSdfCfgWrite t r d s h
  | safetyInputChange t idx level a b => exact keep_execSafetyInputChange t idx level a b s h
  | safeResetEdge t => exact keep_execSafeResetEdge t s h
  | resetStuck t => exact keep_execResetStuck t s h
  | resetStuckClear t => exact keep_execResetStuckClear t s h
  | pathCompare t => exact keep_execPathCompare t s h
  | ss1Standstill t => exact keep_execSs1Standstill t s h
  | ss1MaxExpire t => exact keep_execSs1MaxExpire t s h
  | ssDiscrepancy t => exact keep_execSsDiscrepancy t s h
  | speedAgree t => exact keep_execSpeedAgree t s h
  | contactorMismatch t motor => exact keep_execContactorMismatch t motor s h
  | proofStepEnd t => exact keep_execProofStepEnd t s h
  | emitDelayEnd t => exact keep_execEmitDelayEnd t s h
  | budgetSubwindow t => exact keep_execBudgetSubwindow t s h
  | cfgClose t r => exact keep_execCfgClose t r s h
  | cfgWindowTimeout t => exact keep_execCfgWindowTimeout t s h
  | crcRunCheck t => exact keep_execCrcRunCheck t s h
  | ethFrameReceived t p sfd frame fcsOk => exact keep_execEthFrameReceived t p sfd frame fcsOk s h
  | pauseQuantaEnd t p => exact keep_execPauseQuantaEnd t p s h
  | ethFrameEgress t p sfd => exact keep_execEthFrameEgress t p sfd s h
  | linkUp t p lp => exact keep_execLinkUp t p lp s h
  | linkDown t p => exact keep_execLinkDown t p s h
  | anFail t p lp => exact keep_execAnFail t p lp s h
  | macAgeExpire t => exact keep_execMacAgeExpire t s h
  | matchEntryExpire t => exact keep_execMatchEntryExpire t s h
  | eth t b len body => exact keep_execEth t b len body s h
  | mbRxDataRead t r => exact keep_execMbRxDataRead t r s h
  | mbTxDataWrite t r d => exact keep_execMbTxDataWrite t r d s h
  | send t r => exact keep_execSend t r s h
  | abort t r => exact keep_execAbort t r s h
  | incrNsWrite t r d => exact keep_execIncrNsWrite t r d s h
  | stepSecHiWrite t r d => exact keep_execStepSecHiWrite t r d s h
  | clearCoast t r d => exact keep_execClearCoast t r d s h
  | nowNsRead t r => exact keep_execNowNsRead t r s h
  | ppsOutPulse t => exact keep_execPpsOutPulse t s h
  | ppsOutEnd t => exact keep_execPpsOutEnd t s h
  | ppsIn t => exact keep_execPpsIn t s h
  | ppsinNsRead t r => exact keep_execPpsinNsRead t r s h
  | planCycleStart t => exact keep_execPlanCycleStart t s h
  | beatStart t => exact keep_execBeatStart t s h
  | planMsgSend t => exact keep_execPlanMsgSend t s h
  | planFrameReceived t => exact keep_execPlanFrameReceived t s h
  | plnEnableWrite t r d => exact keep_execPlnEnableWrite t r d s h
  | peerSelWrite t r d => exact keep_execPeerSelWrite t r d s h
  | vidLatchPoint t => exact keep_execVidLatchPoint t s h
  | vidLineStart t under => exact keep_execVidLineStart t under s h
  | vidFrameEnd t => exact keep_execVidFrameEnd t s h
  | timingResumed t => exact keep_execTimingResumed t s h
  | vidTblDataAccess t r d => exact keep_execVidTblDataAccess t r d s h
  | roundStart t => exact keep_execRoundStart t s h
  | roundTimer t => exact keep_execRoundTimer t s h
  | roundTrig t r d => exact keep_execRoundTrig t r d s h
  | hkaConversionEnd t code clamp => exact keep_execHkaConversionEnd t code clamp s h
  | urgent t r d => exact keep_execUrgent t r d s h
  | blankTimeout t => exact keep_execBlankTimeout t s h
  | excLimit t k on => exact keep_execExcLimit t k on s h
  | linLoad t r high d => exact keep_execLinLoad t r high d s h
  | linLoadDone t c => exact keep_execLinLoadDone t c s h
  | hkaStale t c => exact keep_execHkaStale t c s h
  | orderlyStopStepEnd t => exact keep_execOrderlyStopStepEnd t s h
  | budgetOut t => exact keep_execBudgetOut t s h
  | tripLatchClear t r d => exact keep_execTripLatchClear t r d s h
  | calJobStart t r d => exact keep_execCalJobStart t r d s h
  | calJobAbort t r d => exact keep_execCalJobAbort t r d s h
  | calNoSignal t => exact keep_execCalNoSignal t s h
  | calEventCapture t n a b => exact keep_execCalEventCapture t n a b s h
  | calThreshStep t above => exact keep_execCalThreshStep t above s h
  | jobDone t => exact keep_execJobDone t s h
  | recompute t r d => exact keep_execRecompute t r d s h
  | calComputeDone t => exact keep_execCalComputeDone t s h
  | applied t => exact keep_execApplied t s h
  | lmpPeriodStart t => exact keep_execLmpPeriodStart t s h
  | lampDiagSample t l short high => exact keep_execLampDiagSample t l short high s h
  | engStart t r e => exact keep_execEngStart t r e s h
  | pairEnableWrite t r d => exact keep_execPairEnableWrite t r d s h
  | arb t id prefer health runs => exact keep_execArb t id prefer health runs s h
  | arbDone t => exact keep_execArbDone t s h
  | arbWaitExpire t => exact keep_execArbWaitExpire t s h
  | alignSet t edge tdc sec ns frac incr tick => exact keep_execAlignSet t edge tdc sec ns frac incr tick s h
  | alignEdgeReached t => exact keep_execAlignEdgeReached t s h
  | heartbeatSend t => exact keep_execHeartbeatSend t s h
  | heartbeat t r => exact keep_execHeartbeat t r s h
  | hbLost t => exact keep_execHbLost t s h
  | activeOutRaise t => exact keep_execActiveOutRaise t s h
  | taken t cause frame => exact keep_execTaken t cause frame s h
  | standbyHoldApply t => exact keep_execStandbyHoldApply t s h
  | mirror t m => exact keep_execMirror t m s h
  | time t edge incr step => exact keep_execTime t edge incr step s h
  | tiles t frame tile ended stopped => exact keep_execTiles t frame tile ended stopped s h
  | plan t st held pending grant => exact keep_execPlan t st held pending grant s h
  | switch t r => exact keep_execSwitch t r s h
  | por t freqSel pairId => exact keep_execPor t freqSel pairId s h
  | resetPin t => exact keep_execResetPin t s h
  | glbSoftReset t r => exact keep_execGlbSoftReset t r s h
  | resetRelease t => exact keep_execResetRelease t s h
  | wipeDone t levels => exact keep_execWipeDone t levels s h
  | stateReqWrite t r d => exact keep_execStateReqWrite t r d s h
  | stateEntryDone t => exact keep_execStateEntryDone t s h
  | lockTimeout t => exact keep_execLockTimeout t s h
  | clkReqWrite t r d => exact keep_execClkReqWrite t r d s h
  | vidLock t => exact keep_execVidLock t s h
  | lcKeyWrite t r d => exact keep_execLcKeyWrite t r d s h
  | lcReqWrite t r d => exact keep_execLcReqWrite t r d s h
  | lcTransitionDone t => exact keep_execLcTransitionDone t s h
  | lrefReturn t g => exact keep_execLrefReturn t g s h
  | clkPllUnlock t idx => exact keep_execClkPllUnlock t idx s h
  | clkPllLock t idx => exact keep_execClkPllLock t idx s h
  | timeEdgeApply t => exact keep_execTimeEdgeApply t s h
  | reservedLcw t b => exact keep_execReservedLcw t b s h
  | jtagInstruction t k => exact keep_execJtagInstruction t k s h
  | linkPowerEntry t b => exact keep_execLinkPowerEntry t b s h
  | l1ExitDone t b => exact keep_execL1ExitDone t b s h

/-- What a step keeps of its own state: taking the command from the queue touches neither memories nor fuses. -/
theorem keep_step {s u : State} (h : step s = .next u) : Keeps s u := by
  unfold step at h
  split at h
  · exact keep_next (Keeps.refl s) h
  · next c rest _ => exact keep_exec c { s with pending := rest } (Keeps.refl s) u h

/-- Settles O59: each of the two memories keeps its canonical form along a step. -/
theorem memoriesStayCanonical : Obligations.MemoriesStayCanonical := by
  intro s u ⟨hsram, hcal⟩ hstep
  obtain ⟨keepsSram, keepsCal, _⟩ := keep_step hstep
  exact ⟨keepsSram hsram, keepsCal hcal⟩

end Sys2Proof.Machine
end

section
/-!
SUPPORT. The registers that lie outside the loops of motion and safety: what their shared refreshes leave (12 R321 to R335,
10 R288, R293), one lemma per operation.
-/

namespace Sys2Proof.Machine

/-! ## Registers that motion and safety write -/

/-- The registers that a refresh of motion or safety may write: EVF_DROPPED with its OVF word, the events of ESC,
SCN.STATUS, and those from the slots of SCN to the lamps. -/
def motionReg (a : Nat) : Bool :=
  decide (a = A.IRQ_EVF_DROPPED) || decide (a = A.IRQ_EVF_DROPPED + 4) || decide (a = F.ESC_EVT_RAW_MODEL_INVALID.addr)
    || decide (a = A.SCN_STATUS) || (decide (0x80100 ≤ a) && decide (a < 0xF0000))

theorem motionReg_slot : ∀ k < 8, motionReg (A.SL_INTEG k) = true ∧ motionReg (A.SL_OUT k) = true := by decide

theorem ne_of_motionReg {a k : Nat} (h : motionReg a = false) (hk : motionReg k = true) : a ≠ k := by
  rintro rfl
  simp [h] at hk

theorem not_evfReg_of_motionReg {a : Nat} (h : motionReg a = false) : ¬ evfReg a := by
  rintro (rfl | rfl) <;> simp [motionReg] at h

section
variable {a : Nat} (h : motionReg a = false)
include h

theorem reg_setReg_motion (s : State) (k : Nat) (v : Word) (hk : motionReg k = true) : reg (setReg s k v) a = reg s a :=
  reg_setReg_other s k a v (ne_of_motionReg h hk)

theorem reg_wr_motion (s : State) (f : Fld) (v : Nat) (hf : motionReg f.addr = true) : reg (wr s f v) a = reg s a :=
  reg_setReg_motion h s f.addr _ hf

theorem reg_wrB_motion (s : State) (f : Fld) (b : Bool) (hf : motionReg f.addr = true) : reg (wrB s f b) a = reg s a :=
  reg_wr_motion h s f _ hf

theorem reg_wrBit_motion (s : State) (k i : Nat) (b : Bool) (hk : motionReg k = true) : reg (wrBit s k i b) a = reg s a :=
  reg_setReg_motion h s k _ hk

theorem reg_bump_motion (s : State) (k : Nat) (hk : motionReg k = true) (hk' : motionReg (k + 4) = true) :
    reg (bump s k) a = reg s a :=
  reg_bump_other s k a (ne_of_motionReg h hk) (ne_of_motionReg h hk')

theorem reg_raise_motion (s : State) (f : Fld) (hf : motionReg (f.addr - 0x10 + 0x10) = true) : reg (raise s f) a = reg s a :=
  reg_raise_other s f a (not_evfReg_of_motionReg h) (ne_of_motionReg h hf)

end

/-! ## Operations that write no register -/

@[simp] theorem reg_onMot (s : State) (f : Mot → Mot) (a : Nat) : reg (onMot s f) a = reg s a := rfl
@[simp] theorem reg_onGal (s : State) (f : Gal → Gal) (a : Nat) : reg (onGal s f) a = reg s a := rfl
@[simp] theorem reg_setSlot (s : State) (k : Nat) (x : Slot) (a : Nat) : reg (setSlot s k x) a = reg s a := rfl
@[simp] theorem reg_setLampEng (s : State) (e : Nat) (x : LampEng) (a : Nat) : reg (setLampEng s e x) a = reg s a := rfl
@[simp] theorem reg_stopScheduling (s : State) (a : Nat) : reg (stopScheduling s) a = reg s a := rfl
@[simp] theorem reg_lampRelease (s : State) (a : Nat) : reg (lampRelease s) a = reg s a := rfl
@[simp] theorem reg_agreeJudge (s : State) (a : Nat) : reg (agreeJudge s) a = reg s a := rfl

/-- A register of a choice of states. -/
theorem reg_ite (c : Prop) [Decidable c] (x y : State) (a : Nat) :
    reg (if c then x else y) a = if c then reg x a else reg y a := apply_ite (fun u => reg u a) c x y

/-- A register that an operation leaves, where the operation is made on a condition. -/
theorem reg_ite_of_imp {c : Prop} [Decidable c] {x y : State} {a : Nat} {w : Word} (hy : reg y a = w)
    (hx : reg y a = w → reg x a = w) : reg (if c then x else y) a = w := by
  split
  · exact hx hy
  · exact hy

@[simp] theorem reg_onPath (s : State) (b : Bool) (f : Path → Path) (a : Nat) : reg (onPath s b f) a = reg s a := by
  cases b <;> rfl

@[simp] theorem reg_slotDue (s : State) (k : Nat) (old : Option Int) (a : Nat) : reg (slotDue s k old) a = reg s a := by
  simp only [slotDue, reg_ite, reg_setSlot, ite_self]

@[simp] theorem reg_speedJudge (s : State) (index : Bool) (a : Nat) : reg (speedJudge s index) a = reg s a := by
  unfold speedJudge
  split
  · rfl
  · split
    · rfl
    · split
      · split <;> rfl
      · rfl

@[simp] theorem reg_fbJudge (s : State) (laser motor : Bool) (a : Nat) : reg (fbJudge s laser motor) a = reg s a := by
  simp only [fbJudge, List.foldl_cons, List.foldl_nil, reg_onPath]

/-- A register that no step of a fold writes. -/
theorem reg_foldl {α : Type} {f : State → α → State} {a : Nat} {l : List α} (hf : ∀ s, ∀ x ∈ l, reg (f s x) a = reg s a)
    (s : State) : reg (l.foldl f s) a = reg s a :=
  List.foldlRecOn (motive := fun u => reg u a = reg s a) l f rfl fun u hu x hx => (hf u x hx).trans hu

/-! ## The refreshes -/

section
variable {a : Nat} (h : motionReg a = false)
include h

theorem reg_lampEngStart (s : State) (e : Nat) : reg (lampEngStart s e) a = reg s a := by
  unfold lampEngStart
  simp (disch := decide) only [reg_setLampEng, reg_ite, reg_bump_motion h, ite_self]

theorem reg_lmpEdge (s : State) (src : Nat) (rise : Bool) : reg (lmpEdge s src rise) a = reg s a := by
  refine reg_foldl (fun s e _ => ?_) s
  simp only [reg_ite, reg_lampEngStart h, reg_setLampEng, ite_self]

theorem reg_galActivate (s : State) (on : Bool) : reg (galActivate s on) a = reg s a := by
  unfold galActivate
  simp (disch := decide) only [reg_ite, reg_onGal, reg_wr_motion h, ite_self]

theorem reg_slotRefresh (s : State) (k : Nat) (hk : k < 8) : reg (slotRefresh s k) a = reg s a := by
  obtain ⟨hinteg, hout⟩ := motionReg_slot k hk
  unfold slotRefresh
  simp (disch := decide) only [reg_ite, reg_setSlot, reg_setReg_motion h _ _ _ hinteg, reg_setReg_motion h _ _ _ hout,
    reg_galActivate h, reg_wrBit_motion h, ite_self]

theorem reg_slotsRefresh (s : State) : reg (slotsRefresh s) a = reg s a := by
  unfold slotsRefresh
  rw [reg_wrB_motion h _ _ _ (by decide)]
  exact reg_foldl (fun s k hk => reg_slotRefresh h s k (List.mem_range.1 hk)) s

theorem reg_modelLost (s : State) : reg (modelLost s) a = reg s a := by
  unfold modelLost
  simp (disch := decide) only [reg_ite, reg_raise_motion h, reg_stopScheduling, ite_self]

theorem reg_modelDrop (s : State) : reg (modelDrop s) a = reg s a := by
  unfold modelDrop
  simp (disch := decide) only [reg_ite, reg_modelLost h, reg_wr_motion h, reg_onMot, ite_self]

theorem reg_phaseClear (s : State) : reg (phaseClear s) a = reg s a := by
  unfold phaseClear
  simp (disch := decide) only [reg_onMot, reg_wr_motion h]

theorem reg_setMode (s : State) (m : Nat) : reg (setMode s m) a = reg s a := by
  unfold setMode
  dsimp only
  refine reg_ite_of_imp ?_ fun _ => rfl
  refine reg_ite_of_imp ?_ fun hs => (reg_slotDue _ _ _ a).trans hs
  refine (reg_slotsRefresh h _).trans ?_
  rw [reg_ite, reg_slotDue, reg_slotDue, reg_slotDue, ite_self]
  rw [reg_ite, reg_onMot, reg_ite _ (onMot _ _), reg_onMot, reg_ite _ (onMot _ _), reg_onMot, reg_ite _ (onMot _ _), reg_onMot,
    ite_self, ite_self, ite_self, ite_self]
  refine reg_ite_of_imp ?_ fun hs => (reg_phaseClear h _).trans hs
  refine reg_ite_of_imp ?_ fun hs => (reg_wr_motion h _ _ _ rfl).trans ((reg_modelDrop h _).trans hs)
  refine reg_ite_of_imp ?_ fun hs => (reg_wr_motion h _ _ _ rfl).trans hs
  exact (reg_raise_motion h _ _ rfl).trans (reg_wr_motion h _ _ _ rfl)

theorem reg_motStop (s : State) : reg (motStop s) a = reg s a := by
  unfold motStop
  simp (disch := decide) only [reg_ite, reg_onMot, reg_setMode h, reg_wr_motion h, ite_self]

theorem reg_torqueOff (s : State) : reg (torqueOff s) a = reg s a := by
  unfold torqueOff
  simp (disch := decide) only [reg_ite, reg_setMode h, reg_wr_motion h, reg_onMot, ite_self]

theorem reg_ss1Start (s : State) : reg (ss1Start s) a = reg s a := by
  unfold ss1Start
  simp (disch := decide) only [reg_ite, reg_motStop h, reg_raise_motion h, reg_bump_motion h, reg_setReg_motion h,
    reg_wr_motion h]
  split <;> rfl

theorem reg_ss1End (s : State) : reg (ss1End s) a = reg s a := by
  unfold ss1End
  split
  · rfl
  · exact (reg_setReg_motion h _ _ _ (by decide)).trans (reg_wr_motion h _ _ _ (by decide))

theorem reg_safLatch (s : State) (p q : Bool) (cause : Nat) (o : Torque) : reg (safLatch s p q cause o) a = reg s a := by
  unfold safLatch
  dsimp only
  refine reg_ite_of_imp ?_ fun hlatched => reg_ite_of_imp ?_ fun hs => (reg_ss1Start h _).trans hs
  · refine reg_ite_of_imp ?_ fun hs => (reg_ss1End h _).trans ?_
    · refine reg_ite_of_imp ?_ fun hs => (reg_wrBit_motion h _ _ _ _ rfl).trans hs
      exact reg_ite_of_imp rfl fun hs => reg_wrBit_motion h _ _ _ _ rfl
    · refine reg_ite_of_imp ?_ fun hs => (reg_onPath _ _ _ a).trans hs
      exact reg_ite_of_imp hs fun hs => (reg_onPath _ _ _ a).trans hs
  · refine (reg_wr_motion h _ _ _ rfl).trans ?_
    exact (reg_raise_motion h _ _ rfl).trans ((reg_lmpEdge h _ _ _).trans hlatched)

theorem reg_safOutputs (s : State) : reg (safOutputs s) a = reg s a := by
  unfold safOutputs
  dsimp only
  refine (reg_fbJudge _ _ _ a).trans ?_
  refine reg_ite_of_imp ?_ fun hs => (reg_lampRelease _ a).trans hs
  refine reg_ite_of_imp ?_ fun hs => (reg_torqueOff h _).trans ((reg_raise_motion h _ _ rfl).trans hs)
  rw [reg_ite, reg_lmpEdge h, reg_ite _ (lmpEdge _ _ _), reg_lmpEdge h, ite_self, ite_self]
  refine reg_ite_of_imp ?_ fun hs => (reg_raise_motion h _ _ rfl).trans hs
  simp (disch := decide) only [reg_wrB_motion h]

theorem reg_safRefresh (s : State) : reg (safRefresh s) a = reg s a := by
  unfold safRefresh
  simp only [reg_ite, reg_safOutputs h, reg_safLatch h, ite_self]

theorem reg_safSpeedRefresh (s : State) : reg (safSpeedRefresh s) a = reg s a := by
  rw [safSpeedRefresh, reg_safRefresh h, reg_agreeJudge, reg_speedJudge]

theorem reg_galRefresh (s : State) : reg (galRefresh s) a = reg s a := by
  unfold galRefresh galRamp
  simp (disch := decide) only [reg_ite, reg_slotDue, reg_onGal, reg_wr_motion h, ite_self]

end
end Sys2Proof.Machine
end

section
/-!
SUPPORT. An accepted write of a register in the body of a page whose fields are all RW (02 R41): what it stores, then the
writes of the pool split, of the scan mode and of the reference frequency (01 R24, R31; 03 R63).
-/

namespace Sys2Proof.Machine

/-! ## Fields taken from a written word -/

/-- A field on which two words agree still agrees once another field is taken over. -/
theorem fld_takeField_of_eq {w d : Word} {lo n : Nat} (f : FieldRow) (hn : lo + n ≤ 32) (h : fld w lo n = fld d lo n) :
    fld (takeField w d f) lo n = fld d lo n := by
  apply Nat.eq_of_testBit_eq
  intro i
  have hi := congrArg (Nat.testBit · i) h
  simp only [testBit_fld] at hi ⊢
  by_cases hin : i < n
  · rw [takeField, testBit_setFld _ _ _ _ _ (by omega), testBit_fld]
    split
    · next hf => simp [show lo + i - f.lo < f.len by omega, show f.lo + (lo + i - f.lo) = lo + i by omega]
    · exact hi
  · simp [hin]

theorem fld_takeField_same {f : FieldRow} (hf : f.lo + f.len ≤ 32) (w d : Word) :
    fld (takeField w d f) f.lo f.len = fld d f.lo f.len := by
  rw [takeField, fld_setFld_same _ _ _ _ hf, fld, Nat.mod_mod]

/-- Every field taken over reads as in the written word, since all are taken from the same word. -/
theorem fld_foldl_takeField {d : Word} {f : FieldRow} (hf : f.lo + f.len ≤ 32) (l : List FieldRow) (w : Word)
    (h : f ∈ l ∨ fld w f.lo f.len = fld d f.lo f.len) :
    fld (l.foldl (takeField · d) w) f.lo f.len = fld d f.lo f.len := by
  induction l generalizing w with
  | nil => simpa using h
  | cons g l ih =>
    refine ih _ ?_
    rcases h with hmem | heq
    · rcases List.mem_cons.1 hmem with rfl | hmem
      · exact .inr (fld_takeField_same hf w d)
      · exact .inl hmem
    · exact .inr (fld_takeField_of_eq g hf heq)

/-! ## Registers whose fields are all RW -/

/-- The register at `a`, on page `p`, lies past the common header and is no port, no part of a wide value and no window; its
fields are all RW. -/
structure PlainReg (a p : Nat) (l : RegLoc) : Prop where
  aligned : busAddr a = a
  unwindowed : windowed a = false
  page : pageBase a = some p
  row : findReg a = some l
  base : l.pbase = p
  body : p + 0x40 ≤ a
  narrow : wideLow a = none
  unheld : heldWord a = false
  unported : isPort a = false
  rw : ∀ f ∈ l.row.fields, f.acc = .rw

/-- Storing RW fields takes them into their register, and into no other. -/
theorem reg_foldl_storeField {a : Nat} {d : Word} (hport : isPort a = false) (l : List FieldRow) (hrw : ∀ f ∈ l, f.acc = .rw)
    (s : State) (b : Nat) :
    reg (l.foldl (storeField a d) s) b = if b = a then l.foldl (takeField · d) (reg s a) else reg s b := by
  induction l generalizing s with
  | nil => by_cases h : b = a <;> simp [h]
  | cons f l ih =>
    have hf : storeField a d s f = setReg s a (takeField (reg s a) d f) := by
      simp [storeField, hrw f List.mem_cons_self, hport]
    rw [List.foldl_cons, List.foldl_cons, hf, ih fun g hg => hrw g (List.mem_cons_of_mem f hg)]
    split
    · rw [reg_setReg_same]
    · next h => exact reg_setReg_other s a b _ h

namespace PlainReg
variable {a p : Nat} {l : RegLoc} (h : PlainReg a p l)
include h

theorem reg_storeReg (d : Word) (s : State) (b : Nat) :
    reg (storeReg l a d s) b = if b = a then l.row.fields.foldl (takeField · d) (reg s a) else reg s b :=
  reg_foldl_storeField h.unported _ h.rw s b

/-- A stored field reads as written. -/
theorem fld_storeReg {f : FieldRow} (hf : f ∈ l.row.fields) (hlen : f.lo + f.len ≤ 32) (d : Word) (s : State) :
    fld (reg (storeReg l a d s) a) f.lo f.len = fld d f.lo f.len := by
  rw [h.reg_storeReg, if_pos rfl]
  exact fld_foldl_takeField hlen _ _ (.inl hf)

/-- Past the header, beside its register a write does what the page's own chapter says. -/
theorem writeDo_eq (d : Word) (o c : State) : writeDo l a d o c = pageAct p a d o (storeReg l a d c) := by
  have hbody := h.body
  unfold writeDo
  simp only [h.base]
  rw [if_neg (by omega), if_neg (by omega), if_neg (by omega), if_neg (by omega)]

/-- The registers after an accepted write, but for the page's LOCK. -/
theorem reg_accessW {t : Nat} {r : Requester} {d b : Nat} {s : State} (hacc : Accepts t r a d s) (hb : b ≠ p + 0x2C) :
    reg (accessW t r a d s) b = reg (pageAct p a (word d) (at' t s) (storeReg l a (word d) (at' t s))) b := by
  have hbody := h.body
  have hlock : (hasHeader p && decide (a = p + 0x2C)) = false := by simp; omega
  have hsoft : (hasHeader p && decide (a = p + 8) && bit (word d) 1) = false := by simp; omega
  rw [hacc.write_reg h.aligned h.unwindowed h.page h.row h.base hlock hsoft h.narrow h.unheld hb, h.writeDo_eq]

/-- An accepted write leaves its field as written, where the page's own chapter leaves the register. -/
theorem fld_accessW {t : Nat} {r : Requester} {d : Nat} {s : State} (f : FieldRow) (hacc : Accepts t r a d s)
    (hact : ∀ o c, reg (pageAct p a (word d) o c) a = reg c a) (hf : f ∈ l.row.fields) (hlen : f.lo + f.len ≤ 32) :
    fld (reg (accessW t r a d s) a) f.lo f.len = fld (word d) f.lo f.len := by
  have hbody := h.body
  rw [h.reg_accessW hacc (by omega), hact, h.fld_storeReg hf hlen]

end PlainReg

/-! ## The split of the pool -/

/-- An accepted split writes no register but GLB.STATUS. -/
theorem reg_splitAct_other (o s : State) (b : Nat) (hb : b ≠ F.GLB_STATUS_POOL_ZEROING.addr) :
    reg (splitAct o s) b = reg s b := by
  unfold splitAct
  dsimp only
  split
  · rfl
  · exact reg_setReg_other _ _ b _ hb

/-- A split that moves a granule shows POOL_ZEROING. -/
theorem flag_splitAct (o s : State)
    (hmoved : ((List.range 48).any fun g => granuleOwner (reg o F.GLB_POOL_SPLIT_DISPLAY.addr) g ≠
      granuleOwner (reg s F.GLB_POOL_SPLIT_DISPLAY.addr) g) = true) :
    flag (splitAct o s) F.GLB_STATUS_POOL_ZEROING = true := by
  obtain ⟨g, hg, hne⟩ := List.any_eq_true.1 hmoved
  unfold splitAct
  dsimp only
  rw [if_neg (List.ne_nil_of_mem (List.mem_filter.2 ⟨hg, hne⟩)), flag, rd_wr_same _ _ _ (by decide)]
  rfl

/-- Where GLB.POOL_SPLIT lies (20 R507). -/
def poolSplitLoc : RegLoc :=
  ⟨0, 0, .aon, ⟨0x050, 1, fun _ => 0x200808, [⟨16, 6, .rw, [], false⟩, ⟨8, 6, .rw, [], false⟩, ⟨0, 6, .rw, [], false⟩]⟩, 0, 0⟩

theorem plainReg_poolSplit : PlainReg F.GLB_POOL_SPLIT_DISPLAY.addr 0 poolSplitLoc :=
  ⟨by decide, by decide, by decide, rfl, rfl, by decide, by decide, by decide, by decide, by decide⟩

theorem pageAct_poolSplit (d : Word) (o s : State) : pageAct 0 F.GLB_POOL_SPLIT_DISPLAY.addr d o s = splitAct o s := rfl

section
variable {t d : Nat} {r : Requester} {s : State} (hacc : Accepts t r F.GLB_POOL_SPLIT_DISPLAY.addr d s)
include hacc

theorem accessW_poolSplit_sizes :
    ∀ f ∈ [F.GLB_POOL_SPLIT_DISPLAY, F.GLB_POOL_SPLIT_STREAM, F.GLB_POOL_SPLIT_RETAIN],
      rd (accessW t r F.GLB_POOL_SPLIT_DISPLAY.addr d s) f = fld (word d) f.lo f.len := by
  have hact : ∀ o c, reg (pageAct 0 F.GLB_POOL_SPLIT_DISPLAY.addr (word d) o c) F.GLB_POOL_SPLIT_DISPLAY.addr =
      reg c F.GLB_POOL_SPLIT_DISPLAY.addr := fun o c => reg_splitAct_other o c _ (by decide)
  have hfld : ∀ f ∈ poolSplitLoc.row.fields, fld (reg (accessW t r F.GLB_POOL_SPLIT_DISPLAY.addr d s)
      F.GLB_POOL_SPLIT_DISPLAY.addr) f.lo f.len = fld (word d) f.lo f.len := fun f hf =>
    plainReg_poolSplit.fld_accessW f hacc hact hf (by revert f; decide)
  intro f hf
  fin_cases hf
  · exact hfld ⟨0, 6, .rw, [], false⟩ (by decide)
  · exact hfld ⟨8, 6, .rw, [], false⟩ (by decide)
  · exact hfld ⟨16, 6, .rw, [], false⟩ (by decide)

theorem accessW_poolSplit_zeroing
    (hmoved : ((List.range 48).any fun g => granuleOwner (reg s F.GLB_POOL_SPLIT_DISPLAY.addr) g ≠
      granuleOwner (reg (accessW t r F.GLB_POOL_SPLIT_DISPLAY.addr d s) F.GLB_POOL_SPLIT_DISPLAY.addr) g) = true) :
    flag (accessW t r F.GLB_POOL_SPLIT_DISPLAY.addr d s) F.GLB_STATUS_POOL_ZEROING = true := by
  rw [plainReg_poolSplit.reg_accessW hacc (by decide), pageAct_poolSplit, reg_splitAct_other _ _ _ (by decide)] at hmoved
  rw [flag, rd, plainReg_poolSplit.reg_accessW hacc (by decide), pageAct_poolSplit]
  exact flag_splitAct (at' t s) _ hmoved

end

theorem execPoolZeroed_zeroing (t : Nat) (s : State) (hon : sysOn s = true) (hz : flag s F.GLB_STATUS_POOL_ZEROING = true) :
    execPoolZeroed t s =
      .next (raise (wr (at' t s) F.GLB_STATUS_POOL_ZEROING 0) F.GLB_EVT_RAW_POOL_ZEROED) := by
  simp [execPoolZeroed, hon, hz]

/-- Once the event of the zeroing is set, POOL_ZEROING stays clear. -/
theorem flag_poolZeroed (s : State) :
    flag (raise (wr s F.GLB_STATUS_POOL_ZEROING 0) F.GLB_EVT_RAW_POOL_ZEROED) F.GLB_STATUS_POOL_ZEROING = false := by
  have hevf : ¬ evfReg F.GLB_STATUS_POOL_ZEROING.addr := by simp [evfReg]
  rw [flag, rd, reg_raise_other _ _ _ hevf (by decide), ← rd, rd_wr_same _ _ _ (by decide)]
  rfl

/-! ## The scan mode -/

/-- Where SCN.SCAN_MODE lies (10 R302). -/
def scanModeLoc : RegLoc := ⟨0x80000, 0, .ctl, ⟨0x040, 1, fun _ => 0x0, [⟨0, 2, .rw, [(3, 3)], false⟩]⟩, 0, 0⟩

theorem plainReg_scanMode : PlainReg A.SCN_SCAN_MODE 0x80000 scanModeLoc :=
  ⟨by decide, by decide, by decide, rfl, rfl, by decide, by decide, by decide, by decide, by decide⟩

theorem pageAct_scanMode (d : Word) (o s : State) :
    pageAct 0x80000 A.SCN_SCAN_MODE d o s = safSpeedRefresh (galRefresh s) := rfl

/-- The galvanometer and the safety block follow a new scan mode, and leave it. -/
theorem accessW_scanMode {t d : Nat} {r : Requester} {s : State} (hacc : Accepts t r A.SCN_SCAN_MODE d s) :
    fld (reg (accessW t r A.SCN_SCAN_MODE d s) A.SCN_SCAN_MODE) 0 2 = fld (word d) 0 2 := by
  have hquiet : motionReg A.SCN_SCAN_MODE = false := by decide
  refine plainReg_scanMode.fld_accessW ⟨0, 2, .rw, [(3, 3)], false⟩ hacc (fun o c => ?_) (by decide) (by decide)
  rw [pageAct_scanMode, reg_safSpeedRefresh hquiet, reg_galRefresh hquiet]

/-! ## The reference frequency -/

/-- Where CLK.REF_SEL lies (20 R508). -/
def refSelLoc : RegLoc :=
  ⟨0x1000, 0, .aon, ⟨0x040, 1, fun _ => 0, [⟨4, 1, .rw, [], false⟩, ⟨0, 1, .rw, [], false⟩]⟩, 0, 0⟩

theorem plainReg_refSel : PlainReg F.CLK_REF_SEL_FREQ.addr 0x1000 refSelLoc :=
  ⟨by decide, by decide, by decide, rfl, rfl, by decide, by decide, by decide, by decide, by decide⟩

theorem pageAct_refSel (d : Word) (o s : State) : pageAct 0x1000 F.CLK_REF_SEL_FREQ.addr d o s = s := rfl

theorem accessW_refSel {t d : Nat} {r : Requester} {s : State} (hacc : Accepts t r F.CLK_REF_SEL_FREQ.addr d s) :
    rd (accessW t r F.CLK_REF_SEL_FREQ.addr d s) F.CLK_REF_SEL_FREQ =
      fld (word d) F.CLK_REF_SEL_FREQ.lo F.CLK_REF_SEL_FREQ.len :=
  plainReg_refSel.fld_accessW ⟨0, 1, .rw, [], false⟩ hacc (fun o c => by rw [pageAct_refSel]) (by decide) (by decide)

/-- Settles O8: the fields of the three registers are RW and take the word, and what their chapters do beside them leaves
them. -/
theorem poolAndModeWrites : Obligations.PoolAndModeWrites := by
  refine ⟨fun t r d s hacc => ?_, fun t s hon hz => ?_, fun t r d s hacc => ?_, fun t r d s hacc => ?_⟩
  · exact ⟨_, rfl, accessW_poolSplit_sizes hacc, accessW_poolSplit_zeroing hacc⟩
  · exact ⟨_, execPoolZeroed_zeroing t s hon hz, flag_poolZeroed _,
      flag_raise _ _ (by simp [evfReg]) (by decide) rfl (by decide)⟩
  · exact ⟨_, rfl, accessW_scanMode hacc⟩
  · exact ⟨_, rfl, accessW_refSel hacc⟩

end Sys2Proof.Machine
end

section
/-!
SUPPORT. What a flag, a bit or a counter reads after a write; what the shared refreshes leave of the clocks; then the reference
clock and the locks of the PLLs (03 R65 to R72; 20 R508).
-/

namespace Sys2Proof.Machine

/-! ## Flags and bits after a write -/

/-- A field depends on its register alone. -/
theorem rd_congr {s u : State} {f : Fld} (h : reg u f.addr = reg s f.addr) : rd u f = rd s f := by simp [rd, h]

theorem flag_congr {s u : State} {f : Fld} (h : reg u f.addr = reg s f.addr) : flag u f = flag s f := by simp [flag, rd_congr h]

/-- A flag set or cleared reads so. -/
theorem flag_wrB_same (s : State) (f : Fld) (b : Bool) (h : f.lo + f.len ≤ 32) (hl : f.len = 1) : flag (wrB s f b) f = b := by
  rw [flag, wrB, rd_wr_same _ _ _ h, hl]
  cases b <;> rfl

theorem flag_wr_one (s : State) (f : Fld) (h : f.lo + f.len ≤ 32) (hl : f.len = 1) : flag (wr s f 1) f = true :=
  flag_wrB_same s f true h hl

theorem flag_wr_zero (s : State) (f : Fld) (h : f.lo + f.len ≤ 32) (hl : f.len = 1) : flag (wr s f 0) f = false :=
  flag_wrB_same s f false h hl

/-- A write of a field leaves a flag that it does not hold. -/
theorem flag_wr_field (s : State) (f g : Fld) (v : Nat) (hg : g.lo + g.len ≤ 32)
    (hd : g.lo + g.len ≤ f.lo ∨ f.lo + f.len ≤ g.lo) : flag (wr s f v) g = flag s g := by
  rw [flag, rd_wr_field s f g v hg hd, flag]

theorem reg_wr_other (s : State) (f : Fld) (v a : Nat) (h : a ≠ f.addr) : reg (wr s f v) a = reg s a :=
  reg_setReg_other s f.addr a _ h

/-- A bit of a register is a flag of it. -/
theorem rdBit_eq_flag (s : State) (a i : Nat) : rdBit s a i = flag s ⟨a, i, 1⟩ := by
  have hbit : fld (reg s a) i 1 = ((reg s a).toNat.testBit i).toNat := by
    rw [fld, pow_one, Nat.shiftRight_eq_div_pow, Nat.toNat_testBit]
  rw [rdBit, bit, flag, rd, hbit]
  cases (reg s a).toNat.testBit i <;> rfl

theorem wrBit_eq_wrB (s : State) (a i : Nat) (b : Bool) : wrBit s a i b = wrB s ⟨a, i, 1⟩ b := rfl

theorem rdBit_wrBit_same (s : State) (a i : Nat) (b : Bool) (h : i < 32) : rdBit (wrBit s a i b) a i = b := by
  rw [rdBit_eq_flag, wrBit_eq_wrB, flag_wrB_same s ⟨a, i, 1⟩ b h rfl]

theorem rdBit_congr {s u : State} {a i : Nat} (h : reg u a = reg s a) : rdBit u a i = rdBit s a i := by simp [rdBit, h]

/-! ## Operations that leave the clocks -/

@[simp] theorem onMot_clk (s : State) (f : Mot → Mot) : (onMot s f).clk = s.clk := rfl
@[simp] theorem onGal_clk (s : State) (f : Gal → Gal) : (onGal s f).clk = s.clk := rfl
@[simp] theorem setSlot_clk (s : State) (k : Nat) (x : Slot) : (setSlot s k x).clk = s.clk := rfl
@[simp] theorem setLampEng_clk (s : State) (e : Nat) (x : LampEng) : (setLampEng s e x).clk = s.clk := rfl
@[simp] theorem stopScheduling_clk (s : State) : (stopScheduling s).clk = s.clk := rfl
@[simp] theorem lampRelease_clk (s : State) : (lampRelease s).clk = s.clk := rfl

theorem clk_ite (c : Prop) [Decidable c] (x y : State) : (if c then x else y).clk = if c then x.clk else y.clk :=
  apply_ite State.clk c x y

/-- A part of the state that no step of a fold writes. -/
theorem foldl_keeps {α β : Type} (part : State → β) {f : State → α → State} (hf : ∀ s x, part (f s x) = part s) (l : List α)
    (s : State) : part (l.foldl f s) = part s :=
  List.foldlRecOn (motive := fun u => part u = part s) l f rfl fun u hu x _ => (hf u x).trans hu

@[simp] theorem onPath_clk (s : State) (b : Bool) (f : Path → Path) : (onPath s b f).clk = s.clk := by cases b <;> rfl

@[simp] theorem slotDue_clk (s : State) (k : Nat) (old : Option Int) : (slotDue s k old).clk = s.clk := by
  simp only [slotDue, clk_ite, setSlot_clk, ite_self]

@[simp] theorem fbJudge_clk (s : State) (laser motor : Bool) : (fbJudge s laser motor).clk = s.clk := by
  simp only [fbJudge, List.foldl_cons, List.foldl_nil, onPath_clk]

@[simp] theorem lampEngStart_clk (s : State) (e : Nat) : (lampEngStart s e).clk = s.clk := by
  simp only [lampEngStart, setLampEng_clk, clk_ite, bump_clk, ite_self]

@[simp] theorem lmpEdge_clk (s : State) (src : Nat) (rise : Bool) : (lmpEdge s src rise).clk = s.clk :=
  foldl_keeps State.clk (fun s e => by simp only [clk_ite, lampEngStart_clk, setLampEng_clk, ite_self]) _ s

@[simp] theorem galActivate_clk (s : State) (on : Bool) : (galActivate s on).clk = s.clk := by
  simp only [galActivate, clk_ite, onGal_clk, wr_clk, ite_self]

@[simp] theorem slotRefresh_clk (s : State) (k : Nat) : (slotRefresh s k).clk = s.clk := by
  simp only [slotRefresh, clk_ite, setSlot_clk, setReg_clk, galActivate_clk, wrBit_clk, ite_self]

@[simp] theorem slotsRefresh_clk (s : State) : (slotsRefresh s).clk = s.clk := foldl_keeps State.clk slotRefresh_clk _ s

@[simp] theorem modelLost_clk (s : State) : (modelLost s).clk = s.clk := by
  simp only [modelLost, clk_ite, raise_clk, stopScheduling_clk, ite_self]

@[simp] theorem modelDrop_clk (s : State) : (modelDrop s).clk = s.clk := by
  simp only [modelDrop, clk_ite, modelLost_clk, wr_clk, onMot_clk, ite_self]

@[simp] theorem phaseClear_clk (s : State) : (phaseClear s).clk = s.clk := rfl

@[simp] theorem setMode_clk (s : State) (m : Nat) : (setMode s m).clk = s.clk := by
  simp only [setMode, clk_ite, slotDue_clk, slotsRefresh_clk, onMot_clk, phaseClear_clk, wr_clk, modelDrop_clk, raise_clk, ite_self]

@[simp] theorem motStop_clk (s : State) : (motStop s).clk = s.clk := by
  simp only [motStop, clk_ite, onMot_clk, setMode_clk, wr_clk, ite_self]

@[simp] theorem torqueOff_clk (s : State) : (torqueOff s).clk = s.clk := by
  simp only [torqueOff, clk_ite, setMode_clk, onMot_clk, wr_clk, ite_self]

@[simp] theorem ss1Start_clk (s : State) : (ss1Start s).clk = s.clk := by
  simp only [ss1Start, clk_ite, motStop_clk, raise_clk, bump_clk, setReg_clk, wr_clk, ite_self]

@[simp] theorem ss1End_clk (s : State) : (ss1End s).clk = s.clk := by
  unfold ss1End
  split <;> rfl

@[simp] theorem safLatch_clk (s : State) (p q : Bool) (cause : Nat) (o : Torque) : (safLatch s p q cause o).clk = s.clk := by
  simp only [safLatch, clk_ite, ss1Start_clk, ss1End_clk, onPath_clk, wr_clk, wrBit_clk, raise_clk, lmpEdge_clk, ite_self]

@[simp] theorem safOutputs_clk (s : State) : (safOutputs s).clk = s.clk := by
  simp only [safOutputs, fbJudge_clk, clk_ite, lampRelease_clk, torqueOff_clk, raise_clk, lmpEdge_clk, wrB_clk, ite_self]

@[simp] theorem safRefresh_clk (s : State) : (safRefresh s).clk = s.clk := by
  simp only [safRefresh, clk_ite, safOutputs_clk, safLatch_clk, ite_self]

/-! ## Network time and the end of a calibration job -/

@[simp] theorem ntmRemode_regs (t : Nat) (s : State) : (ntmRemode t s).regs = s.regs := by
  unfold ntmRemode
  dsimp only
  split <;> rfl

@[simp] theorem ntmRemode_clk (t : Nat) (s : State) : (ntmRemode t s).clk = s.clk := by
  unfold ntmRemode
  dsimp only
  split <;> rfl

@[simp] theorem ntmCoast_clk (s : State) : (ntmCoast s).clk = s.clk := rfl

@[simp] theorem degradedWatch_clk (o s : State) : (degradedWatch o s).clk = s.clk := by
  simp only [degradedWatch, clk_ite, raise_clk, ite_self]

@[simp] theorem reg_settle (s : State) (c a : Nat) : reg (settle s c) a = reg s a := rfl

@[simp] theorem reg_onCal (s : State) (f : Cal → Cal) (a : Nat) : reg (onCal s f) a = reg s a := rfl

theorem reg_ntmRemode (t : Nat) (s : State) (a : Nat) : reg (ntmRemode t s) a = reg s a := reg_congr (ntmRemode_regs t s) a

theorem reg_jobRestore (s : State) (j : CalJob) (a : Nat) : reg (jobRestore s j) a = reg s a := by
  unfold jobRestore
  split
  · exact reg_foldl (fun s c _ => by rw [reg_ite, reg_settle, ite_self]) s
  · rfl

section
variable {a : Nat} (h : motionReg a = false)
include h

theorem reg_ntmCoast (s : State) : reg (ntmCoast s) a = reg s a := by
  rw [ntmCoast, reg_wr_motion h _ _ _ (by decide)]

theorem reg_degradedWatch (o s : State) : reg (degradedWatch o s) a = reg s a := by
  simp (disch := decide) only [degradedWatch, reg_ite, reg_raise_motion h, ite_self]

theorem reg_calStart (s : State) : reg (calStart s) a = reg s a := by
  unfold calStart
  split
  · rfl
  · rw [reg_onCal, reg_setReg_motion h _ _ _ (by decide)]
    refine reg_ite_of_imp ?_ (reg_raise_motion h _ _ (by decide)).trans
    exact reg_ite_of_imp rfl (reg_raise_motion h _ _ (by decide)).trans

theorem reg_jobEnd (s : State) (st : Nat) : reg (jobEnd s st) a = reg s a := by
  unfold jobEnd calAgain
  split
  · rfl
  · simp (disch := decide) only [reg_ite, reg_calStart h, reg_onCal, reg_wr_motion h, reg_wrB_motion h, reg_setReg_motion h,
      reg_raise_motion h, reg_bump_motion h, reg_jobRestore, ite_self]

theorem reg_recFail_cal (s : State) (code : Nat) : reg (recFail s 0xD0000 code) a = reg s a := by
  have hne : a ≠ 0xD0000 + 0x28 := ne_of_motionReg h (by decide)
  unfold recFail
  split
  · exact reg_recErr_other _ _ _ _ _ hne
  · exact reg_recErr_other _ _ _ _ _ hne

theorem reg_jobFail (s : State) (code : Nat) : reg (jobFail s code) a = reg s a := by
  simp only [jobFail, reg_ite, reg_jobEnd h, reg_recFail_cal h, ite_self]

end

/-! ## Late outputs -/

section
variable {a : Nat} (hlow : a < 0x20000)
include hlow

theorem reg_wr_low (s : State) (f : Fld) (v : Nat) (hf : 0x20000 ≤ f.addr) : reg (wr s f v) a = reg s a :=
  reg_wr_other s f v a (by omega)

theorem reg_bump_low (s : State) (k : Nat) (hk : 0x20000 ≤ k) : reg (bump s k) a = reg s a :=
  reg_bump_other s k a (by omega) (by omega)

variable (hev : ¬ evfReg a)
include hev

theorem reg_raise_low (s : State) (f : Fld) (hf : 0x20000 ≤ f.addr) : reg (raise s f) a = reg s a :=
  reg_raise_other s f a hev (by omega)

/-- A trigger writes no register below those of ESC. -/
theorem reg_trigEvent_low (s : State) (b instant : Nat) (forced : Bool) (mask : Option (Nat × Nat)) :
    reg (trigEvent s b instant forced mask) a = reg s a := by
  have honAcq : ∀ u f, reg (onAcq u f) a = reg u a := fun _ _ => rfl
  unfold trigEvent
  simp (disch := decide) only [reg_ite, reg_raise_low hlow hev, reg_bump_low hlow, honAcq, ite_self]

theorem reg_nttFire_low (s : State) (i instant : Nat) (late : Bool) : reg (nttFire s i instant late) a = reg s a := by
  have hctrl : 0x20000 ≤ (F.NTT_CTRL_ARM i).addr := Nat.le_add_right_of_le (by decide)
  have hraise : ∀ u f, (F.NTT_CTRL_ARM i).addr = f.addr → ∀ v e, 0x20000 ≤ e.addr → reg (raise (wr u f v) e) a = reg u a :=
    fun u f hf v e he => (reg_raise_low hlow hev _ e he).trans (reg_wr_low hlow u f v (hf ▸ hctrl))
  unfold nttFire
  refine reg_ite_of_imp ?_ (reg_trigEvent_low hlow hev _ _ _ _ _).trans
  refine reg_ite_of_imp ?_ (hraise _ (F.NTT_CTRL_LATE i) rfl _ _ (by decide)).trans
  exact (hraise _ (F.NTT_CTRL_FIRED i) rfl _ _ (by decide)).trans (reg_wr_low hlow _ _ _ hctrl)

theorem reg_toutFire_low (s : State) (i start : Nat) (late : Bool) : reg (toutFire s i start late) a = reg s a := by
  have hstatus : 0x20000 ≤ (F.TOUT_STATUS_ARMED i).addr := Nat.le_add_right_of_le (by decide)
  have hbegin : ∀ w, reg (toutBegin s i start w) a = reg s a := fun _ => rfl
  unfold toutFire
  refine reg_ite_of_imp ?_ fun hs =>
    (reg_raise_low hlow hev _ _ (by decide)).trans ((reg_wr_low hlow _ (F.TOUT_STATUS_LATE i) _ hstatus).trans hs)
  exact (reg_wr_low hlow _ (F.TOUT_STATUS_DONE i) _ hstatus).trans ((reg_wr_low hlow _ _ _ hstatus).trans (hbegin _))

/-- Late instants write no register below those of ESC. -/
theorem reg_timedLate_low (s : State) : reg (timedLate s) a = reg s a := by
  refine (reg_foldl (fun s i _ => ?_) _).trans (reg_foldl (fun s i _ => ?_) s)
  · simp only [nttLate, reg_ite, reg_nttFire_low hlow hev, ite_self]
  · simp only [toutLate, reg_ite, reg_toutFire_low hlow hev, ite_self]

end

/-! ## The reference clock -/

theorem flag_raise_other (s : State) (e f : Fld) (hev : ¬ evfReg f.addr) (hne : f.addr ≠ e.addr - 0x10 + 0x10) :
    flag (raise s e) f = flag s f :=
  flag_congr (reg_raise_other s e f.addr hev hne)

/-- CLK.STATUS and the events of CLK lie outside the loops of motion and safety. -/
theorem clkReg_quiet : motionReg F.CLK_STATUS_SYS_LOCK.addr = false ∧ motionReg F.CLK_EVT_RAW_PLL_UNLOCK.addr = false := by decide

theorem clkReg_event_free : ¬ evfReg F.CLK_STATUS_SYS_LOCK.addr ∧ ¬ evfReg F.CLK_EVT_RAW_PLL_UNLOCK.addr :=
  ⟨not_evfReg_of_motionReg clkReg_quiet.1, not_evfReg_of_motionReg clkReg_quiet.2⟩

/-- The warm level is written, its event set, and nothing of CLK follows. -/
theorem execOcxoWarmChange_reg {t : Nat} {level : Bool} {s : State} (hheld : s.held = false)
    (hlevel : flag s F.CLK_STATUS_OCXO_WARM ≠ level) :
    ∃ u, execOcxoWarmChange t level s = .next u ∧ ∀ a, motionReg a = false →
      reg u a = reg (raise (wrB (at' t s) F.CLK_STATUS_OCXO_WARM level) F.CLK_EVT_RAW_WARM_CHANGE) a := by
  have hcond : ¬ ((at' t s).held = true ∨ flag (at' t s) F.CLK_STATUS_OCXO_WARM = level) := by simp [hheld, hlevel]
  refine ⟨_, congrArg Host.Outcome.next (if_neg hcond), fun a ha => ?_⟩
  rw [reg_degradedWatch ha]
  split
  · rfl
  · exact reg_jobFail ha _ _

/-- What CLK.STATUS says of REFCLK: present, and lost. -/
structure RefShown (present lost : Bool) (s : State) : Prop where
  present : flag s F.CLK_STATUS_REF_PRESENT = present
  lost : flag s F.CLK_STATUS_REF_LOST = lost

theorem RefShown.congr {p l : Bool} {s u : State} (h : RefShown p l s)
    (hreg : reg u F.CLK_STATUS_SYS_LOCK.addr = reg s F.CLK_STATUS_SYS_LOCK.addr) : RefShown p l u :=
  ⟨(flag_congr (f := F.CLK_STATUS_REF_PRESENT) hreg).trans h.present,
    (flag_congr (f := F.CLK_STATUS_REF_LOST) hreg).trans h.lost⟩

theorem RefShown.ite {p l : Bool} {c : Prop} [Decidable c] {x y : State} (hx : RefShown p l x) (hy : RefShown p l y) :
    RefShown p l (if c then x else y) := by
  split
  · exact hx
  · exact hy

theorem RefShown.ite_of_imp {p l : Bool} {c : Prop} [Decidable c] {x y : State} (hy : RefShown p l y)
    (hx : RefShown p l y → RefShown p l x) : RefShown p l (if c then x else y) :=
  RefShown.ite (hx hy) hy

/-- HOLDOVER and the lock bits lie below what is said of REFCLK. -/
theorem RefShown.wr_below {p l : Bool} {s : State} (h : RefShown p l s) (f : Fld) (v : Nat) (hf : f.lo + f.len ≤ 30) :
    RefShown p l (wr s f v) :=
  ⟨(flag_wr_field s f _ v (by decide) (.inr (Nat.le_succ_of_le hf))).trans h.present,
    (flag_wr_field s f _ v (by decide) (.inr hf)).trans h.lost⟩

theorem RefShown.setLocks {p l : Bool} {s : State} (h : RefShown p l s) (m : Nat) : RefShown p l (setLocks s m) := by
  refine List.foldlRecOn (motive := RefShown p l) _ _ h fun u hu i hi => ?_
  have hi10 : i < 10 := List.mem_range.1 hi
  refine hu.ite ?_
  rw [wrBit_eq_wrB]
  exact hu.wr_below ⟨_, i, 1⟩ _ (by simp only; omega)

theorem refShown_write (s : State) (p l : Bool) :
    RefShown p l (wr (wr s F.CLK_STATUS_REF_PRESENT (b2n p)) F.CLK_STATUS_REF_LOST (b2n l)) :=
  ⟨(flag_wr_field _ _ _ _ (by decide) (.inr (by decide))).trans (flag_wrB_same s _ p (by decide) rfl),
    flag_wrB_same _ _ l (by decide) rfl⟩

/-- The HOLDOVER and PLL_LOCK of the quadrants lie on the TDC pages. -/
theorem reg_holdTdc {a : Nat} (ha : a < 0x10000) (s : State) :
    reg ((List.range 4).foldl (fun s q => wr (wr s (F.TDC_STATUS_HOLDOVER q) 1) (F.TDC_STATUS_PLL_LOCK q) 0) s) a = reg s a := by
  refine reg_foldl (fun s q _ => ?_) s
  have hq : ∀ u v f, f.addr = 0x1000C + 0x1000 * q → reg (wr u f v) a = reg u a := fun u v f hf =>
    reg_wr_other u f v a (by omega)
  rw [hq _ _ (F.TDC_STATUS_PLL_LOCK q) rfl, hq _ _ (F.TDC_STATUS_HOLDOVER q) rfl]

@[simp] theorem holdTdc_clk (s : State) :
    ((List.range 4).foldl (fun s q => wr (wr s (F.TDC_STATUS_HOLDOVER q) 1) (F.TDC_STATUS_PLL_LOCK q) 0) s).clk = s.clk :=
  foldl_keeps State.clk (f := fun s q => wr (wr s (F.TDC_STATUS_HOLDOVER q) 1) (F.TDC_STATUS_PLL_LOCK q) 0) (fun _ _ => rfl) _ s

@[simp] theorem setLocks_clk (s : State) (m : Nat) : (setLocks s m).clk = s.clk :=
  foldl_keeps State.clk (fun u i => by simp only [clk_ite, wrBit_clk, ite_self]) _ s

theorem reg_setClk (s : State) (k : Clk) (a : Nat) : reg { s with clk := k } a = reg s a := rfl

section
variable {t : Nat} {s : State} (hheld : s.held = false)
include hheld

theorem refLost_shown (hpresent : flag s F.CLK_STATUS_REF_PRESENT = true) : RefShown false true (refLost t s) := by
  have hcond : ¬ ((at' t s).held = true ∨ (!(flag (at' t s) F.CLK_STATUS_REF_PRESENT)) = true) := by simp [hheld, hpresent]
  unfold refLost
  rw [if_neg hcond]
  refine RefShown.congr ?_ ((reg_safRefresh clkReg_quiet.1 _).trans ((reg_degradedWatch clkReg_quiet.1 _ _).trans
    ((reg_ntmCoast clkReg_quiet.1 _).trans (reg_ntmRemode _ _ _))))
  refine RefShown.ite_of_imp ?_ fun h => h.congr (reg_holdTdc (by decide) _)
  refine RefShown.ite_of_imp ?_ fun h => ((h.wr_below F.CLK_STATUS_HOLDOVER 1 (by decide)).setLocks 0).congr (reg_setClk _ _ _)
  exact (refShown_write (at' t s) false true).congr ((reg_bump_other _ _ _ (by decide) (by decide)).trans
    ((reg_setClk _ _ _).trans (reg_raise_other _ _ _ clkReg_event_free.1 (by decide))))

theorem refLost_noPermit (hpresent : flag s F.CLK_STATUS_REF_PRESENT = true) : (refLost t s).clk.noPermit = true := by
  have hcond : ¬ ((at' t s).held = true ∨ (!(flag (at' t s) F.CLK_STATUS_REF_PRESENT)) = true) := by simp [hheld, hpresent]
  unfold refLost
  rw [if_neg hcond]
  simp only [safRefresh_clk, degradedWatch_clk, ntmCoast_clk, ntmRemode_clk, clk_ite, holdTdc_clk, ite_self, setLocks_clk, wr_clk,
    bump_clk, apply_ite Clk.noPermit]

/-- REFCLK judged present; after a loss it is lost no more. -/
theorem refPresent_shown (habsent : flag s F.CLK_STATUS_REF_PRESENT = false) : RefShown true false (refPresent t s) := by
  have hcond : ¬ ((at' t s).held = true ∨ flag (at' t s) F.CLK_STATUS_REF_PRESENT = true) := by simp [hheld, habsent]
  unfold refPresent
  rw [if_neg hcond]
  dsimp only
  split
  · refine RefShown.congr ?_ ((reg_timedLate_low (by decide) clkReg_event_free.1 _).trans
      ((reg_safRefresh clkReg_quiet.1 _).trans ((reg_degradedWatch clkReg_quiet.1 _ _).trans (reg_ntmRemode _ _ _))))
    refine RefShown.ite_of_imp ?_ fun h => h.congr (reg_setClk _ _ _)
    refine RefShown.congr ?_ (reg_raise_other _ _ _ clkReg_event_free.1 (by decide))
    exact (refShown_write (at' t s) true false).wr_below F.CLK_STATUS_HOLDOVER 0 (by decide)
  · next hlost =>
    exact ⟨flag_wr_one _ _ (by decide) rfl,
      (flag_wr_field _ _ _ _ (by decide) (.inl (by decide))).trans (Bool.eq_false_iff.2 hlost)⟩

end

/-- Settles O9: what follows a change of OCXO_WARM or of REFCLK leaves what CLK shows of it. -/
theorem referenceClock : Obligations.ReferenceClock := by
  refine ⟨fun t level s hheld hlevel => ?_, fun t s hheld hpresent => ?_, fun t s hover hlong => ?_, fun t s hheld habsent => ?_⟩
  · obtain ⟨u, hu, hreg⟩ := execOcxoWarmChange_reg (t := t) hheld hlevel
    refine ⟨u, hu, ?_, ?_⟩
    · rw [flag_congr (hreg _ (by decide)), flag_raise_other _ _ F.CLK_STATUS_OCXO_WARM clkReg_event_free.1 (by decide)]
      exact flag_wrB_same _ _ _ (by decide) rfl
    · rw [flag_congr (hreg _ (by decide))]
      exact flag_raise _ _ clkReg_event_free.2 (by decide) rfl (by decide)
  · have hshown := refLost_shown (t := t) hheld hpresent
    exact ⟨_, rfl, hshown.present, hshown.lost, refLost_noPermit hheld hpresent⟩
  · exact congrArg Host.Outcome.next (if_pos ⟨hover, hlong⟩)
  · have hshown := refPresent_shown (t := t) hheld habsent
    exact ⟨_, rfl, hshown.present, hshown.lost⟩

/-! ## The locks of the PLLs -/

theorem reg_permitIdle {a : Nat} (h : motionReg a = false) (s : State) : reg (permitIdle s) a = reg s a := by
  unfold permitIdle refPermit
  refine reg_ite_of_imp (reg_ite_of_imp rfl ?_) fun _ => rfl
  exact fun _ => (reg_safRefresh h _).trans (reg_setClk _ _ _)

theorem permitIdle_lockedAt (s : State) : (permitIdle s).clk.lockedAt = s.clk.lockedAt := by
  simp only [permitIdle, refPermit, clk_ite, safRefresh_clk, apply_ite Clk.lockedAt, ite_self]

/-- The STATUS and the events of a quadrant's page are not the registers of EVENT frames. -/
theorem tdcReg_event_free (q : Nat) : ¬ evfReg (F.TDC_STATUS_PLL_LOCK q).addr ∧ ¬ evfReg (F.TDC_EVT_RAW_PLL_UNLOCK q).addr := by
  constructor <;> rintro (h | h) <;> exact absurd h (Nat.ne_of_gt (Nat.lt_add_right _ (by decide)))

/-- An event of another page leaves a lock bit. -/
theorem rdBit_lock_raise (s : State) (e : Fld) (i : Nat) (he : F.CLK_STATUS_SYS_LOCK.addr ≠ e.addr - 0x10 + 0x10) :
    rdBit (raise s e) F.CLK_STATUS_SYS_LOCK.addr i = rdBit s F.CLK_STATUS_SYS_LOCK.addr i :=
  rdBit_congr (reg_raise_other _ _ _ clkReg_event_free.1 he)

section
variable {t q : Nat} {s : State}

theorem execTdcPllLock_locks (hon : sysOn s = true) (hq : q < 4) (href : flag s F.CLK_STATUS_REF_PRESENT = true)
    (hlock : rdBit s F.CLK_STATUS_SYS_LOCK.addr (2 + q) = false) :
    ∃ u, execTdcPllLock t q s = .next u ∧ rdBit u F.CLK_STATUS_SYS_LOCK.addr (2 + q) = true ∧
      pget 0 u.clk.lockedAt q = max s.now t := by
  refine ⟨_, congrArg Host.Outcome.next (if_pos ⟨hon, hq, href, by simp [hlock]⟩), ?_, ?_⟩
  · rw [rdBit_congr ((reg_permitIdle clkReg_quiet.1 _).trans (reg_setClk _ _ _))]
    exact rdBit_wrBit_same _ _ _ _ (by omega)
  · rw [permitIdle_lockedAt]
    exact pget_pset_same _ _ _ _

theorem execPllRelock_accepts (hon : sysOn s = true) (hdiscard : q ∈ s.clk.discard)
    (hlock : rdBit s F.CLK_STATUS_SYS_LOCK.addr (2 + q) = true) (hlong : pget 0 s.clk.lockedAt q + usec 10 ≤ t) :
    ∃ u, execPllRelock t q s = .next u ∧ q ∉ u.clk.discard ∧ flag u (F.TDC_STATUS_PLL_LOCK q) = true ∧
      flag u (F.TDC_STATUS_HOLDOVER q) = false ∧ flag u (F.TDC_EVT_RAW_PLL_RELOCK q) = true := by
  obtain ⟨hstatus, hevent⟩ := tdcReg_event_free q
  have hne : (F.TDC_STATUS_PLL_LOCK q).addr ≠ (F.TDC_EVT_RAW_PLL_RELOCK q).addr - 0x10 + 0x10 := by simp only; omega
  refine ⟨_, congrArg Host.Outcome.next (if_pos ⟨hon, List.contains_iff_mem.2 hdiscard, hlock, hlong⟩), ?_, ?_, ?_, ?_⟩
  · simp
  · rw [flag_raise_other _ _ _ hstatus hne, flag_wr_field _ _ _ _ (by simp) (.inl (by simp))]
    exact flag_wr_one _ _ (by simp) rfl
  · rw [flag_raise_other _ _ (F.TDC_STATUS_HOLDOVER q) hstatus hne]
    exact flag_wr_zero _ _ (by simp) rfl
  · exact flag_raise _ _ hevent (by simp only; omega) rfl (by simp)

theorem execPllUnlock_discards (hon : sysOn s = true) (hq : q < 4) (href : flag s F.CLK_STATUS_REF_PRESENT = true)
    (hlock : rdBit s F.CLK_STATUS_SYS_LOCK.addr (2 + q) = true) :
    ∃ u, execPllUnlock t q s = .next u ∧ rdBit u F.CLK_STATUS_SYS_LOCK.addr (2 + q) = false ∧ q ∈ u.clk.discard ∧
      flag u (F.TDC_STATUS_PLL_LOCK q) = false ∧ flag u (F.TDC_EVT_RAW_PLL_UNLOCK q) = true := by
  obtain ⟨hstatus, hevent⟩ := tdcReg_event_free q
  refine ⟨_, congrArg Host.Outcome.next (if_pos ⟨hon, hq, href, hlock⟩), ?_, List.mem_cons_self, ?_, ?_⟩
  · rw [rdBit_congr (reg_setClk _ _ _), rdBit_lock_raise _ _ _ (by decide), rdBit_lock_raise _ _ _ (by simp only; omega),
      rdBit_congr (reg_wr_other _ _ _ _ (by simp only; omega))]
    exact rdBit_wrBit_same _ _ _ _ (by omega)
  · rw [flag_congr (reg_setClk _ _ _), flag_raise_other _ _ _ hstatus (by simp only; omega),
      flag_raise_other _ _ _ hstatus (by simp only; omega)]
    exact flag_wr_zero _ _ (by simp) rfl
  · rw [flag_congr (reg_setClk _ _ _), flag_raise_other _ _ _ hevent (by simp only; omega)]
    exact flag_raise _ _ hevent (by simp only; omega) rfl (by simp)

end

/-- The lock bits of CLK.STATUS lie below bit 10. -/
theorem clkPll_lt {s : State} {i : Nat} (h : clkPll s i = true) : i < 32 := by
  simp only [clkPll, Bool.and_eq_true, List.contains_iff_mem] at h
  obtain ⟨⟨⟨_, hmem⟩, _⟩, _⟩ := h
  fin_cases hmem <;> decide

/-- Settles O10: each change of lock writes its bit, its event and its note, and the return of permission leaves them. -/
theorem pllLocks : Obligations.PllLocks := by
  refine ⟨fun t q s hon hq href hlock => execTdcPllLock_locks hon hq href hlock,
    fun t q s hon hdiscard hlock _ hlong => execPllRelock_accepts hon hdiscard hlock hlong,
    fun t q s hon hq href hlock => execPllUnlock_discards hon hq href hlock,
    fun t i s hpll hlock => ?_, fun t i s hpll hlock => ?_⟩
  · refine ⟨_, congrArg Host.Outcome.next (if_pos ⟨hpll, hlock⟩), ?_, ?_⟩
    · rw [rdBit_lock_raise _ _ _ (by decide)]
      exact rdBit_wrBit_same _ _ _ _ (clkPll_lt hpll)
    · exact flag_raise _ _ clkReg_event_free.2 (by decide) rfl (by decide)
  · refine ⟨_, congrArg Host.Outcome.next (if_pos ⟨hpll, by simp [hlock]⟩), ?_⟩
    rw [rdBit_congr (reg_permitIdle clkReg_quiet.1 _)]
    exact rdBit_wrBit_same _ _ _ _ (clkPll_lt hpll)

end Sys2Proof.Machine
end

section
/-!
SUPPORT. What the statistics units leave of the channels; then the edges of a hit channel and what it holds after them
(03 R77, R78, R79, R82).
-/

namespace Sys2Proof.Machine

/-! ## Statistics leave the channels -/

theorem tdc_ite (c : Prop) [Decidable c] (x y : State) : (if c then x else y).tdc = if c then x.tdc else y.tdc :=
  apply_ite State.tdc c x y

/-- The converters where an operation that leaves them is made on a condition. -/
theorem tdc_ite_of_imp {c : Prop} [Decidable c] {x y : State} {k : Tdc} (hy : y.tdc = k) (hx : y.tdc = k → x.tdc = k) :
    (if c then x else y).tdc = k := by
  split
  · exact hx hy
  · exact hy

@[simp] theorem setTdu_tdc (s : State) (m : Nat) (st : Stat) : (setTdu s m st).tdc = s.tdc := rfl

@[simp] theorem tduPair_tdc (s : State) (m : Nat) (v : Int) : (tduPair s m v).tdc = s.tdc := by
  simp only [tduPair, tdc_ite, raiseAt_tdc, wr_tdc, setTdu_tdc, takeFree_tdc, ite_self]

@[simp] theorem tduOne_tdc (src time : Nat) (s : State) (m : Nat) : (tduOne src time s m).tdc = s.tdc := by
  unfold tduOne
  split
  · rfl
  · refine tdc_ite_of_imp (tdc_ite_of_imp ?_ fun hprov => ?_) fun hpair => hpair
    · rw [tdc_ite, wr_tdc, ite_self]
    · split
      · rw [tdc_ite, tduPair_tdc, bump_tdc, ite_self]
        exact hprov
      · rw [bump_tdc]
        exact hprov

@[simp] theorem tduEvent_tdc (s : State) (src time : Nat) : (tduEvent s src time).tdc = s.tdc := by
  simp only [tduEvent, tdc_ite, foldl_keeps State.tdc (tduOne_tdc src time), ite_self]

/-! ## Channels -/

/-- What a channel holds depends on the time-digital converters alone. -/
theorem chan_congr {s u : State} (h : u.tdc = s.tdc) (c : Nat) : chan u c = chan s c := by simp [chan, h]

@[simp] theorem chan_setChan_same (s : State) (c : Nat) (x : Chan) : chan (setChan s c x) c = x := pget_pset_same _ _ _ _

@[simp] theorem reg_setChan (s : State) (c : Nat) (x : Chan) (a : Nat) : reg (setChan s c x) a = reg s a := rfl

/-- A hit that begins is live, has the shot, the time and the window given, and no trailing edge yet. -/
theorem chan_beginHit (s : State) (c raw : Nat) (shot : Option Nat) (index : Nat) (dark : Bool) :
    (chan (beginHit s c raw shot index dark) c).live = true ∧
      ∃ h, (chan (beginHit s c raw shot index dark) c).cur = some h ∧ h.shot = shot ∧ h.time = hitEdge s c raw ∧
        h.dark = dark ∧ h.trail = none := by
  unfold beginHit
  simp only [chan_congr (tduEvent_tdc _ _ _)]
  split
  · rw [chan_congr (bump_tdc _ _), chan_setChan_same]
    exact ⟨rfl, _, rfl, rfl, rfl, rfl, rfl⟩
  · rw [chan_setChan_same]
    exact ⟨rfl, _, rfl, rfl, rfl, rfl, rfl⟩

/-- A merged pulse is counted. -/
theorem reg_mergePulse (s : State) (c : Nat) :
    (reg (mergePulse s c) (A.CH_MERGED c)).toNat = min ((reg s (A.CH_MERGED c)).toNat + 1) 0xFFFFFFFF :=
  reg_bump_toNat _ _

/-- The counters of the channel array are no registers of EVENT frames. -/
theorem not_evfReg_chan (a c : Nat) (ha : 0x100000 ≤ a) : ¬ evfReg (a + 0x100 * c) := by
  rintro (h | h)
  all_goals exact absurd h (Nat.ne_of_gt (Nat.lt_add_right _ (Nat.lt_of_lt_of_le (by decide) ha)))

/-- A hit beyond the limit leaves no live pulse and is counted. -/
theorem excessHit_counts (s : State) (c e : Nat) :
    (chan (excessHit s c e) c).live = false ∧
      (reg (excessHit s c e) (A.CH_EXCESS c)).toNat = min ((reg s (A.CH_EXCESS c)).toNat + 1) 0xFFFFFFFF := by
  unfold excessHit
  dsimp only
  constructor
  · rw [chan_congr (raise_tdc _ _), chan_congr (bump_tdc _ _), chan_setChan_same]
  · rw [reg_raise_other _ _ _ (not_evfReg_chan _ _ (by decide)) (by simp only; omega), reg_bump_toNat, reg_setChan]

/-! ## The edges of a channel -/

theorem hitLeadingEdge_freeRun {s : State} {raw c : Nat} (hcap : chanCaptures s c = true)
    (hfree : flag s (F.CH_CTRL_FREE_RUN c) = true) (hmerge : merges (chan s c) (hitEdge s c raw) = false) :
    hitLeadingEdge raw c s = beginHit s c raw none 0 false := by
  simp only [hitLeadingEdge, hcap, hfree, hmerge, Bool.not_true, Bool.false_eq_true, if_false, if_true]

section
variable {s : State} {raw c : Nat} {x : Shot} {dark : Bool} (hcap : chanCaptures s c = true)
  (hfree : flag s (F.CH_CTRL_FREE_RUN c) = false) (hgate : openGate s c = some (x, dark))
include hcap hfree hgate

theorem hitLeadingEdge_merges (hmerge : merges (chan s c) (hitEdge s c raw) = true) : hitLeadingEdge raw c s = mergePulse s c := by
  simp only [hitLeadingEdge, hcap, hfree, hgate, hmerge, Bool.not_true, Bool.false_eq_true, if_false, if_true]

theorem hitLeadingEdge_gated (hmerge : merges (chan s c) (hitEdge s c raw) = false) :
    hitLeadingEdge raw c s = gatedEdge s c raw x dark := by
  simp only [hitLeadingEdge, hcap, hfree, hgate, hmerge, Bool.not_true, Bool.false_eq_true, if_false]

end

/-- Up to MAX_HITS + 1 an edge in the gate of a shot begins a hit of the shot (03 R82). -/
theorem gatedEdge_begins {s : State} {c raw : Nat} {x : Shot} {dark : Bool}
    (hroom : (if (chan s c).shot = x.id + 1 then (chan s c).count else 0) ≤ rd s (F.CH_CTRL_MAX_HITS c)) :
    (chan (gatedEdge s c raw x dark) c).live = true ∧
      ∃ h, (chan (gatedEdge s c raw x dark) c).cur = some h ∧ h.shot = some x.id ∧ h.time = hitEdge s c raw ∧
        h.dark = dark ∧ h.trail = none := by
  rw [gatedEdge, if_pos hroom]
  exact chan_beginHit _ c raw _ _ dark

/-- Beyond MAX_HITS + 1 hits of a shot the edge is an excess hit (03 R82). -/
theorem gatedEdge_excess {s : State} {c raw : Nat} {x : Shot} {dark : Bool} (hshot : (chan s c).shot = x.id + 1)
    (hfull : rd s (F.CH_CTRL_MAX_HITS c) < (chan s c).count) :
    gatedEdge s c raw x dark = excessHit s c (hitEdge s c raw) := by
  rw [gatedEdge, if_pos hshot, if_neg (Nat.not_le.2 hfull)]

/-- Outside every gate a gated channel takes no edge. -/
theorem hitLeadingEdge_closed {s : State} {raw c : Nat} (hfree : flag s (F.CH_CTRL_FREE_RUN c) = false)
    (hgate : openGate s c = none) : hitLeadingEdge raw c s = s := by
  simp only [hitLeadingEdge, hfree, hgate, Bool.false_eq_true, if_false, ite_self]

theorem hitTrailingEdge_ends {s : State} {raw c : Nat} {high : Bool} {h : Hit} (hcur : (chan s c).cur = some h)
    (hlive : (chan s c).live = true) :
    (chan (hitTrailingEdge raw c high s) c).live = false ∧
      (chan (hitTrailingEdge raw c high s) c).cur.map (fun x => (x.time, x.trail, x.noTrail)) =
        some (h.time, some (hitEdge s c raw), decide (h.time + 65520 ≤ hitEdge s c raw)) := by
  unfold hitTrailingEdge
  simp only [hcur, hlive]
  split
  · next hover => simp [chan_congr (bump_tdc _ _), hover]
  · next hover => simp [hover]

theorem hitWidthLimit_ends {s : State} {t c : Nat} {high : Bool} {h : Hit} (hcur : (chan s c).cur = some h)
    (hlive : (chan s c).live = true) (hover : h.time + 65520 ≤ t) :
    (chan (hitWidthLimit t c high s) c).live = false ∧ (chan (hitWidthLimit t c high s) c).cur.map (·.noTrail) = some true ∧
      (reg (hitWidthLimit t c high s) (A.CH_NO_TRAIL c)).toNat = min ((reg s (A.CH_NO_TRAIL c)).toNat + 1) 0xFFFFFFFF := by
  unfold hitWidthLimit
  simp only [hcur, hlive, hover, if_true, chan_congr (bump_tdc _ _), chan_setChan_same, reg_bump_toNat, reg_setChan,
    Option.map_some, and_self]

/-- Settles O11: by the cases of a leading edge (03 R77, R78, R82), then the two ends of a pulse. -/
theorem hitEdges : Obligations.HitEdges := by
  refine ⟨fun t c x dark s hcap hfree hgate hmerge hroom => ?_, fun t c s hcap hfree hmerge => ?_,
    fun t c x dark s hcap hfree hgate hmerge => ?_, fun t c x dark s hcap hfree hgate hmerge hshot hfull => ?_,
    fun t c s hfree hgate => ?_, fun t c high h s hcur hlive => ?_, fun t c high h s hcur hlive hover => ?_⟩
  · refine ⟨_, congrArg Host.Outcome.next (hitLeadingEdge_gated (s := at' t s) hcap hfree hgate hmerge), ?_⟩
    obtain ⟨hlive, h, hcur, hshot, htime, hdark, htrail⟩ := gatedEdge_begins (s := at' t s) (raw := t) (dark := dark) hroom
    refine ⟨hlive, ?_⟩
    rw [hcur, Option.map_some, hshot, htime, hdark, htrail]
    rfl
  · refine ⟨_, congrArg Host.Outcome.next (hitLeadingEdge_freeRun (s := at' t s) hcap hfree hmerge), ?_⟩
    obtain ⟨hlive, h, hcur, hshot, htime, -, htrail⟩ := chan_beginHit (at' t s) c t none 0 false
    refine ⟨hlive, ?_⟩
    rw [hcur, Option.map_some, hshot, htime, htrail]
    rfl
  · exact ⟨_, congrArg Host.Outcome.next (hitLeadingEdge_merges (s := at' t s) hcap hfree hgate hmerge), reg_mergePulse _ c⟩
  · refine ⟨_, congrArg Host.Outcome.next (hitLeadingEdge_gated (s := at' t s) hcap hfree hgate hmerge), ?_⟩
    rw [gatedEdge_excess (s := at' t s) hshot hfull]
    exact excessHit_counts _ c _
  · exact congrArg Host.Outcome.next (hitLeadingEdge_closed (s := at' t s) hfree hgate)
  · exact ⟨_, rfl, hitTrailingEdge_ends (s := at' t s) hcur hlive⟩
  · exact ⟨_, rfl, hitWidthLimit_ends (s := at' t s) hcur hlive hover⟩

end Sys2Proof.Machine
end

section
/-!
SUPPORT. Snapshots and starts of the time-difference units, then the gate of a frequency counter (03 R91 to R94).
-/

namespace Sys2Proof.Machine

/-! ## Operations on a selection of units -/

/-- A fold in which the step of `m` reaches `Q` from `P` and every other step keeps both ends in `Q`, once `m` is met. -/
theorem foldl_reaches {P Q : State → Prop} {f : State → Nat → State} {m : Nat} {l : List Nat} (hm : m ∈ l)
    (hP : ∀ s k, P s → P (f s k)) (hat : ∀ s, P s → Q (f s m)) (hQP : ∀ s, Q s → P s)
    (hQ : ∀ s, ∀ k ∈ l, k ≠ m → Q s → Q (f s k)) {s : State} (hs : P s) : Q (l.foldl f s) := by
  induction l generalizing s with
  | nil => exact absurd hm List.not_mem_nil
  | cons k l ih =>
    have hQl : ∀ s, ∀ k ∈ l, k ≠ m → Q s → Q (f s k) := fun s k hk => hQ s k (List.mem_cons_of_mem _ hk)
    rw [List.foldl_cons]
    rcases eq_or_ne m k with rfl | hne
    · refine List.foldlRecOn (motive := Q) l f (hat s hs) fun u hu k hk => ?_
      rcases eq_or_ne k m with rfl | hne
      · exact hat u (hQP u hu)
      · exact hQl u k hk hne hu
    · exact ih ((List.mem_cons.1 hm).resolve_left hne) hQl (hP s k hs)

/-- The operation given to a selection of `n` units reaches `Q` at the selected unit `m`. -/
theorem onMask_reaches {P Q : State → Prop} {f : State → Nat → State} {n mask m : Nat} (hm : m < n)
    (hmask : mask.testBit m = true) (hP : ∀ s k, P s → P (f s k)) (hat : ∀ s, P s → Q (f s m)) (hQP : ∀ s, Q s → P s)
    (hQ : ∀ s, ∀ k < n, k ≠ m → Q s → Q (f s k)) {s : State} (hs : P s) : Q (onMask n mask f s) := by
  refine foldl_reaches (List.mem_range.2 hm) (fun s k hk => ?_) (fun s hk => ?_) hQP (fun s k hk hne hq => ?_) hs
  · split
    · exact hP s k hk
    · exact hk
  · rw [if_pos hmask]
    exact hat s hk
  · split
    · exact hQ s k (List.mem_range.1 hk) hne hq
    · exact hq

/-- The operation given to a selection keeps what each step keeps. -/
theorem onMask_keeps {P : State → Prop} {f : State → Nat → State} {n mask : Nat} (hP : ∀ s k, P s → P (f s k)) {s : State}
    (hs : P s) : P (onMask n mask f s) := by
  refine List.foldlRecOn (motive := P) _ _ hs fun u hu k _ => ?_
  split
  · exact hP u k hu
  · exact hu

/-! ## The time-difference units -/

@[simp] theorem divOpen_regs (a : Int) (b : Nat) (s : State) : (divOpen a b s).2.regs = s.regs := by
  unfold divOpen
  split <;> rfl

@[simp] theorem divOpen_fct (a : Int) (b : Nat) (s : State) : (divOpen a b s).2.fct = s.fct := by
  unfold divOpen
  split <;> rfl

theorem fct_ite (c : Prop) [Decidable c] (x y : State) : (if c then x else y).fct = if c then x.fct else y.fct :=
  apply_ite State.fct c x y

/-- The part of a snapshot that copies the live state `st`: TDU_STATUS, the count, the sum, the extremes and the histogram. -/
def tduCopy (st : Stat) (s : State) (m : Nat) : State :=
  let s := if coldSince s st.since then wr s (F.TDU_STATUS_PROVISIONAL m) 1 else s
  let s := setWide (setReg s (A.TDU_COUNT m) (word st.count)) (A.TDU_SUM_LO m) (unsigned 64 st.sum)
  let s := setReg (setReg s (A.TDU_MIN m) (iword st.lo)) (A.TDU_MAX m) (iword st.hi)
  (List.range 32).foldl (fun s j =>
    setReg s (A.TDU_HIST m j) (word (pget 0 st.hist (2 * j) + pget 0 st.hist (2 * j + 1) * 2 ^ 16))) s

/-- The part of a snapshot that forms TDU_MEAN. -/
def tduMean (st : Stat) (s : State) (m : Nat) : State :=
  if st.count = 0 then setReg (takeFree s 32).2 (A.TDU_MEAN m) (word (takeFree s 32).1)
  else setReg (divOpen (st.sum * 256) st.count s).2 (A.TDU_MEAN m)
    (iword (max (-0x80000000) (min 0x7FFFFFFF (divOpen (st.sum * 256) st.count s).1)))

theorem tduSnap_eq (s : State) (m : Nat) : tduSnap s m = tduMean (tduStat s m) (tduCopy (tduStat s m) s m) m := rfl

@[simp] theorem tduCopy_fct (st : Stat) (s : State) (m : Nat) : (tduCopy st s m).fct = s.fct := by
  unfold tduCopy
  rw [foldl_keeps State.fct fun _ _ => setReg_fct _ _ _, setReg_fct, setReg_fct, setWide_fct, setReg_fct, fct_ite, wr_fct, ite_self]

@[simp] theorem tduMean_fct (st : Stat) (s : State) (m : Nat) : (tduMean st s m).fct = s.fct := by
  rw [tduMean, fct_ite, setReg_fct, setReg_fct, takeFree_fct, divOpen_fct, ite_self]

/-- A snapshot leaves the live state. -/
@[simp] theorem tduSnap_fct (s : State) (m : Nat) : (tduSnap s m).fct = s.fct := by
  rw [tduSnap_eq, tduMean_fct, tduCopy_fct]

theorem reg_tduMean (st : Stat) (s : State) (m a : Nat) (h : a ≠ A.TDU_MEAN m) : reg (tduMean st s m) a = reg s a := by
  rw [tduMean, reg_ite, reg_setReg_other _ _ _ _ h, reg_setReg_other _ _ _ _ h, reg_congr (takeFree_regs s 32),
    reg_congr (divOpen_regs _ _ s), ite_self]

/-- Where the registers of TDU `m` lie (03 R99). -/
theorem tduAddr (m : Nat) : A.TDU_COUNT m = 0x18114 + 0x40 * m ∧ A.TDU_SUM_LO m = 0x18118 + 0x40 * m ∧
    A.TDU_MIN m = 0x18120 + 0x40 * m ∧ A.TDU_MAX m = 0x18124 + 0x40 * m ∧ A.TDU_MEAN m = 0x18134 + 0x40 * m ∧
    (F.TDU_STATUS_PROVISIONAL m).addr = 0x18130 + 0x40 * m :=
  ⟨rfl, rfl, rfl, rfl, rfl, rfl⟩

/-- What TDU `m` shows of a live state: the count and the extremes. -/
structure TduShows (m : Nat) (st : Stat) (s : State) : Prop where
  count : reg s (A.TDU_COUNT m) = word st.count
  lo : reg s (A.TDU_MIN m) = iword st.lo
  hi : reg s (A.TDU_MAX m) = iword st.hi

theorem TduShows.congr {m : Nat} {st : Stat} {s u : State} (h : TduShows m st s)
    (hreg : ∀ a ∈ [A.TDU_COUNT m, A.TDU_MIN m, A.TDU_MAX m], reg u a = reg s a) : TduShows m st u :=
  ⟨(hreg _ (by simp)).trans h.count, (hreg _ (by simp)).trans h.lo, (hreg _ (by simp)).trans h.hi⟩

/-- The histograms lie past the blocks of the units. -/
theorem reg_tduHist {a : Nat} (ha : a < 0x18800) (m : Nat) (w : Nat → Word) (s : State) :
    reg ((List.range 32).foldl (fun s j => setReg s (A.TDU_HIST m j) (w j)) s) a = reg s a :=
  reg_foldl (fun s j _ => reg_setReg_other s _ _ _ (by simp only [A.TDU_HIST]; omega)) s

theorem tduShows_tduCopy {m : Nat} (hm : m < 16) (st : Stat) (s : State) : TduShows m st (tduCopy st s m) := by
  obtain ⟨hcount, hsum, hlo, hhi, -, -⟩ := tduAddr m
  constructor
  · rw [tduCopy, reg_tduHist (by omega), reg_setReg_other _ _ _ _ (by omega), reg_setReg_other _ _ _ _ (by omega), setWide,
      reg_setReg_other _ _ _ _ (by omega), reg_setReg_other _ _ _ _ (by omega), reg_setReg_same]
  · rw [tduCopy, reg_tduHist (by omega), reg_setReg_other _ _ _ _ (by omega), reg_setReg_same]
  · rw [tduCopy, reg_tduHist (by omega), reg_setReg_same]

/-- A snapshot shows the live state. -/
theorem tduShows_tduSnap {m : Nat} (hm : m < 16) (s : State) : TduShows m (tduStat s m) (tduSnap s m) := by
  obtain ⟨hcount, -, hlo, hhi, hmean, -⟩ := tduAddr m
  rw [tduSnap_eq]
  refine (tduShows_tduCopy hm _ s).congr fun a ha => reg_tduMean _ _ _ _ ?_
  simp only [List.mem_cons, List.not_mem_nil, or_false] at ha
  omega

/-- A snapshot of another unit leaves what TDU `m` shows. -/
theorem TduShows.tduSnap {m k : Nat} {st : Stat} {s : State} (h : TduShows m st s) (hm : m < 16) (hne : k ≠ m) :
    TduShows m st (tduSnap s k) := by
  obtain ⟨hcount, -, hlo, hhi, -, -⟩ := tduAddr m
  obtain ⟨hcount', hsum', hlo', hhi', hmean', hstatus'⟩ := tduAddr k
  rw [tduSnap_eq]
  refine h.congr fun a ha => ?_
  simp only [List.mem_cons, List.not_mem_nil, or_false] at ha
  rw [reg_tduMean _ _ _ _ (by omega), tduCopy, reg_tduHist (by omega), reg_setReg_other _ _ _ _ (by omega),
    reg_setReg_other _ _ _ _ (by omega), setWide, reg_setReg_other _ _ _ _ (by omega), reg_setReg_other _ _ _ _ (by omega),
    reg_setReg_other _ _ _ _ (by omega), reg_ite, reg_wr_other _ _ _ _ (by omega), ite_self]

/-- Snapshots of a selection of units show the live state of each. -/
theorem tduShows_onMask {m mask : Nat} (hm : m < 16) (hmask : mask.testBit m = true) (s : State) :
    TduShows m (tduStat s m) (onMask 16 mask tduSnap s) := by
  refine (onMask_reaches (P := fun u => u.fct = s.fct) (Q := fun u => u.fct = s.fct ∧ TduShows m (tduStat s m) u) hm hmask
    (fun u k hu => (tduSnap_fct u k).trans hu) (fun u hu => ⟨(tduSnap_fct u m).trans hu, ?_⟩) (fun u hu => hu.1)
    (fun u k _ hne hu => ⟨(tduSnap_fct u k).trans hu.1, hu.2.tduSnap hm hne⟩) rfl).2
  have hstat : tduStat u m = tduStat s m := by rw [tduStat, hu, tduStat]
  exact hstat ▸ tduShows_tduSnap hm u

/-- TDU `m` runs, and its live state holds no pair. -/
structure TduStarted (m : Nat) (s : State) : Prop where
  runs : flag s (F.TDU_CTRL_RUN m) = true
  clear : (tduStat s m).count = 0

theorem TduStarted.congr {m : Nat} {s u : State} (h : TduStarted m s) (hreg : reg u (A.TDU_CTRL m) = reg s (A.TDU_CTRL m))
    (hstat : tduStat u m = tduStat s m) : TduStarted m u :=
  ⟨(flag_congr (f := F.TDU_CTRL_RUN m) hreg).trans h.runs, hstat ▸ h.clear⟩

theorem tduStat_setTdu (s : State) (m k : Nat) (st : Stat) :
    tduStat (setTdu s k st) m = if m = k then st else tduStat s m :=
  pget_pset _ _ _ _ _

theorem tduStarted_tduStart (s : State) (m : Nat) : TduStarted m (tduStart s m) :=
  ⟨flag_wr_one _ _ (by simp) rfl, congrArg Stat.count ((tduStat_setTdu _ m m _).trans (if_pos rfl))⟩

/-- The start of another unit leaves TDU `m` as started. -/
theorem TduStarted.tduStart {m k : Nat} {s : State} (h : TduStarted m s) (hne : k ≠ m) : TduStarted m (tduStart s k) := by
  refine h.congr ?_ ((tduStat_setTdu _ m k _).trans (if_neg hne.symm))
  exact (reg_wr_other _ _ _ _ (by simp only [A.TDU_CTRL]; omega)).trans
    (reg_setReg_other s _ _ _ (by simp only [A.TDU_CTRL, A.TDU_STATUS]; omega))

/-- A selection of units started. -/
theorem tduStarted_onMask {m mask : Nat} (hm : m < 16) (hmask : mask.testBit m = true) (s : State) :
    TduStarted m (onMask 16 mask tduStart s) :=
  onMask_reaches (P := fun _ => True) hm hmask (fun _ _ _ => trivial) (fun u _ => tduStarted_tduStart u m) (fun _ _ => trivial)
    (fun _ _ _ hne hu => hu.tduStart hne) trivial

theorem now_onMask_tduStart (mask : Nat) (s : State) : (onMask 16 mask tduStart s).now = s.now :=
  onMask_keeps (f := tduStart) (P := fun u => u.now = s.now) (fun _ _ hu => hu) rfl

/-! ## Frequency counters -/

theorem fcOf_setFc (s : State) (j k : Nat) (x : Fc) : fcOf (setFc s k x) j = if j = k then x else fcOf s j :=
  pget_pset _ _ _ _ _

/-- Counter `k` runs and waits for a prescaled edge since the instant. -/
structure FcArmed (k now : Nat) (s : State) : Prop where
  runs : flag s (F.FC_CTRL_RUN k) = true
  armed : fcOf s k = ⟨some now, none⟩

theorem fcArmed_fcStart (s : State) (k : Nat) : FcArmed k s.now (fcStart s k) :=
  ⟨flag_wr_one _ _ (by simp) rfl, (fcOf_setFc _ k k _).trans (if_pos rfl)⟩

/-- A start of a counter writes its own two registers. -/
theorem reg_fcStart_other (s : State) (k a : Nat) (hctrl : a ≠ A.FC_CTRL k) (hstatus : a ≠ A.FC_STATUS k) :
    reg (fcStart s k) a = reg s a :=
  (reg_wr_other _ _ _ _ hctrl).trans (reg_setReg_other s _ _ _ hstatus)

theorem FcArmed.fcStart {k j now : Nat} {s : State} (h : FcArmed k now s) (hne : j ≠ k) : FcArmed k now (fcStart s j) := by
  refine ⟨(flag_congr ?_).trans h.runs, ((fcOf_setFc _ k j _).trans (if_neg hne.symm)).trans h.armed⟩
  exact reg_fcStart_other s j _ (by simp only [A.FC_CTRL]; omega) (by simp only [A.FC_STATUS]; omega)

theorem fcArmed_onMask {k mask : Nat} (hk : k < 4) (hmask : mask.testBit k = true) (s : State) :
    FcArmed k s.now (onMask 4 mask fcStart s) :=
  (onMask_reaches (f := fcStart) (P := fun u => u.now = s.now) (Q := fun u => u.now = s.now ∧ FcArmed k s.now u) hk hmask
    (fun _ _ hu => hu) (fun u hu => ⟨hu, hu ▸ fcArmed_fcStart u k⟩) (fun _ hu => hu.1)
    (fun _ _ _ hne hu => ⟨hu.1, hu.2.fcStart hne⟩) rfl).2

/-- The starts of counters leave a started TDU. -/
theorem TduStarted.onMask_fcStart {m mask : Nat} {s : State} (h : TduStarted m s) (hm : m < 16) :
    TduStarted m (onMask 4 mask fcStart s) :=
  onMask_keeps (P := TduStarted m) (fun u k hu => hu.congr
    (reg_fcStart_other u k _ (by simp only [A.TDU_CTRL, A.FC_CTRL]; omega) (by simp only [A.TDU_CTRL, A.FC_STATUS]; omega)) rfl) h

/-! ## Writes of FCT_SNAP and FCT_START -/

/-- Where the two write-only registers of the FCT page lie (03 R99). -/
def fctSnapLoc : RegLoc := ⟨0x18000, 0, .sys, ⟨0x040, 1, fun _ => 0x0, [⟨0, 16, .wo, [], false⟩]⟩, 0, 0⟩
def fctStartLoc : RegLoc :=
  ⟨0x18000, 0, .sys, ⟨0x044, 1, fun _ => 0x0, [⟨16, 4, .wo, [], false⟩, ⟨0, 16, .wo, [], false⟩]⟩, 0, 0⟩

theorem findReg_fctSnap : findReg A.FCT_SNAP = some fctSnapLoc := rfl
theorem findReg_fctStart : findReg A.FCT_START = some fctStartLoc := rfl

@[simp] theorem lockCount_fct (p : Nat) (s : State) : (lockCount p s).fct = s.fct := by
  unfold lockCount
  dsimp only
  split <;> rfl

/-- What an accepted write of FCT_SNAP or FCT_START leaves of the registers and of the statistics units is what FCT does. -/
theorem Accepts.fct {t d a : Nat} {r : Requester} {s : State} (ha : a = A.FCT_SNAP ∨ a = A.FCT_START) (h : Accepts t r a d s) :
    (accessW t r a d s).fct = (fctAct a (word d) (at' t s) (at' t s)).fct ∧
      ∀ b, b ≠ 0x1802C → reg (accessW t r a d s) b = reg (fctAct a (word d) (at' t s) (at' t s)) b := by
  have hwrite : accessW t r a d s = busShow (accessW t r a d s).bus.lastRead 0
      (latchDrop (lockCount 0x18000 (fctAct a (word d) (at' t s) (at' t s))) r a) := by
    rcases ha with rfl | rfl
    · exact h.write (by decide) (by decide) (by decide) findReg_fctSnap rfl (by decide) rfl (by decide) (by decide)
    · exact h.write (by decide) (by decide) (by decide) findReg_fctStart rfl (by decide) rfl (by decide) (by decide)
  refine ⟨?_, fun b hb => ?_⟩
  · rw [hwrite]
    exact lockCount_fct _ _
  · rw [hwrite, reg_busShow, reg_latchDrop, reg_lockCount _ _ _ hb]

/-! ## The gate of a counter -/

/-- After a result or a silence a counter in CONT mode waits again, and another stops; either writes FC_CTRL alone. -/
theorem reg_fcNext {a k : Nat} (ha : a ≠ A.FC_CTRL k) (c : Prop) [Decidable c] (x y : Fc) (v : Nat) (s : State) :
    reg (if c then setFc s k x else wr (setFc s k y) (F.FC_CTRL_RUN k) v) a = reg s a := by
  rw [reg_ite, reg_wr_other _ _ _ _ ha]
  exact ite_self _

theorem fcOf_fcGateOpen {t k i : Nat} {s : State} (hruns : fcRuns s k = true) (harmed : (fcOf s k).armed = some i) :
    fcOf (fcGateOpen t k s) k = ⟨none, some t⟩ := by
  simp only [fcGateOpen, hruns, harmed]
  exact (fcOf_setFc _ k k _).trans (if_pos rfl)

/-- The registers of the counters are no registers of EVENT frames, and no events of FCT. -/
theorem fcReg_event_free (o k : Nat) (ho : 0x18500 ≤ o) : ¬ evfReg (o + 0x20 * k) ∧ o + 0x20 * k ≠ 0x18010 := by
  refine ⟨?_, by omega⟩
  rintro (h | h)
  all_goals exact absurd h (Nat.ne_of_gt (Nat.lt_add_right _ (Nat.lt_of_lt_of_le (by decide) ho)))

/-- What a counter shows when its gate closes: N, T, a result, and a signal. -/
structure FcShows (k n span : Nat) (s : State) : Prop where
  edges : reg s (A.FC_EDGES k) = word n
  time : reg s (A.FC_TIME_LO k) = word span
  done : flag s (F.FC_STATUS_DONE k) = true
  signal : flag s (F.FC_STATUS_NO_SIGNAL k) = false

theorem FcShows.congr {k n span : Nat} {s u : State} (h : FcShows k n span s)
    (hreg : ∀ o ∈ [0x18504, 0x18508, 0x18510], reg u (o + 0x20 * k) = reg s (o + 0x20 * k)) : FcShows k n span u := by
  have hstatus : reg u (A.FC_STATUS k) = reg s (A.FC_STATUS k) := hreg 0x18510 (by decide)
  exact ⟨(hreg 0x18504 (by decide)).trans h.edges, (hreg 0x18508 (by decide)).trans h.time,
    (flag_congr (f := F.FC_STATUS_DONE k) hstatus).trans h.done,
    (flag_congr (f := F.FC_STATUS_NO_SIGNAL k) hstatus).trans h.signal⟩

/-- N and T stay as latched while TIME_HI and STATUS are written. -/
theorem fcShows_latched (s : State) (k n span high results : Nat) (provisional : Bool) :
    FcShows k n span (wr (wr (wrB (wr (setReg (setReg (setReg s (A.FC_EDGES k) (word n)) (A.FC_TIME_LO k) (word span))
      (A.FC_TIME_HI k) (word high)) (F.FC_STATUS_RESULTS k) results) (F.FC_STATUS_PROVISIONAL k) provisional)
      (F.FC_STATUS_DONE k) 1) (F.FC_STATUS_NO_SIGNAL k) 0) := by
  have hstatus : ∀ (f : Fld) (v : Nat) (u : State) (o : Nat), f.addr = A.FC_STATUS k → o ≠ A.FC_STATUS k →
      reg (wr u f v) o = reg u o := fun f v u o hf ho => reg_wr_other u f v o (hf ▸ ho)
  constructor
  · rw [hstatus _ _ _ _ rfl (by simp), hstatus _ _ _ _ rfl (by simp), wrB, hstatus _ _ _ _ rfl (by simp),
      hstatus _ _ _ _ rfl (by simp), reg_setReg_other _ _ _ _ (by simp), reg_setReg_other _ _ _ _ (by simp), reg_setReg_same]
  · rw [hstatus _ _ _ _ rfl (by simp), hstatus _ _ _ _ rfl (by simp), wrB, hstatus _ _ _ _ rfl (by simp),
      hstatus _ _ _ _ rfl (by simp), reg_setReg_other _ _ _ _ (by simp), reg_setReg_same]
  · rw [flag_wr_field _ _ _ _ (by simp) (.inl (by simp))]
    exact flag_wr_one _ _ (by simp) rfl
  · exact flag_wr_zero _ _ (by simp) rfl

theorem fcShows_fcGateClose {t k n o : Nat} {s : State} (hruns : fcRuns s k = true) (hopen : (fcOf s k).open' = some o)
    (hlong : o + usec (rd s (F.FC_CTRL_GATE_US k)) ≤ t) : FcShows k n (t - o) (fcGateClose t k n s) := by
  simp only [fcGateClose, hruns, hopen, hlong, if_true]
  have hplace : ∀ a ∈ [0x18504, 0x18508, 0x18510], 0x18500 < a := by decide
  have hevent := fun a ha => fcReg_event_free a k (hplace a ha).le
  have hctrl : ∀ a ∈ [0x18504, 0x18508, 0x18510], a + 0x20 * k ≠ A.FC_CTRL k := fun a ha =>
    Nat.ne_of_gt (Nat.add_lt_add_right (hplace a ha) _)
  refine FcShows.congr ?_ fun a ha =>
    (reg_raiseAt_other _ F.FCT_EVT_RAW_RESULT _ _ (hevent a ha).1 (hevent a ha).2).trans (reg_fcNext (hctrl a ha) _ _ _ _ _)
  exact fcShows_latched s k n (t - o) _ _ _

/-- NO_SIGNAL is set when the gate of a waiting counter has not opened in time (03 R94). -/
theorem flag_fcNoSignal {t k i : Nat} {s : State} (hruns : fcRuns s k = true) (harmed : (fcOf s k).armed = some i)
    (hlong : i + usec (rd s (F.FC_CTRL_GATE_US k)) ≤ t) : flag (fcNoSignal t k s) (F.FC_STATUS_NO_SIGNAL k) = true := by
  obtain ⟨hev, hne⟩ := fcReg_event_free 0x18510 k (by decide)
  simp only [fcNoSignal, hruns, harmed, hlong, decide_true, Bool.and_self, if_true]
  rw [flag_congr (reg_raiseAt_other _ _ _ _ hev hne)]
  exact flag_wr_one _ _ (by simp) rfl

/-- Settles O14: a selection of units is a fold that reaches each selected one and leaves the others; the gate of a counter
writes its own registers. -/
theorem timeDifferenceAndFrequency : Obligations.TimeDifferenceAndFrequency := by
  refine ⟨fun t r d m s hacc hm hbit => ?_, fun t r d m s hacc hm hbit => ?_, fun t r d k s hacc hk hbit => ?_,
    fun t k a s hruns harmed => ?_, fun t k n o s hruns hopen hlong => ?_, fun t k a s hruns harmed hlong => ?_⟩
  · obtain ⟨-, hreg⟩ := hacc.fct (.inl rfl)
    have hshows : TduShows m (tduStat s m) (accessW t r A.FCT_SNAP d s) :=
      (tduShows_onMask hm hbit (at' t s)).congr fun a ha => hreg a (by
        simp only [List.mem_cons, List.not_mem_nil, or_false] at ha
        obtain ⟨hcount, -, hlo, hhi, -, -⟩ := tduAddr m
        omega)
    exact ⟨_, rfl, hshows.count, hshows.lo, hshows.hi⟩
  · obtain ⟨hfct, hreg⟩ := hacc.fct (.inr rfl)
    have hstarted := (tduStarted_onMask hm hbit (at' t s)).onMask_fcStart (mask := fld (word d) 16 4) hm
    have hstarted' : TduStarted m (accessW t r A.FCT_START d s) :=
      hstarted.congr (hreg _ (by simp only [A.TDU_CTRL]; omega)) (by rw [tduStat, hfct]; rfl)
    exact ⟨_, rfl, hstarted'.runs, hstarted'.clear⟩
  · obtain ⟨hfct, hreg⟩ := hacc.fct (.inr rfl)
    have hmask : (fld (word d) 16 4).testBit k = true := by
      rw [testBit_fld, decide_eq_true hk, Bool.true_and]
      exact hbit
    obtain ⟨hrun, harmed⟩ := fcArmed_onMask hk hmask (onMask 16 (word d).toNat tduStart (at' t s))
    refine ⟨_, rfl, (flag_congr (hreg _ (by simp only; omega))).trans hrun, ?_⟩
    rw [fcOf, hfct]
    exact harmed.trans (by rw [now_onMask_tduStart, now_at'])
  · exact ⟨_, rfl, fcOf_fcGateOpen (s := at' t s) hruns harmed⟩
  · have hshows := fcShows_fcGateClose (s := at' t s) (n := n) hruns hopen hlong
    exact ⟨_, rfl, hshows.edges, hshows.time, hshows.done, hshows.signal⟩
  · exact ⟨_, rfl, flag_fcNoSignal (s := at' t s) hruns harmed hlong⟩

end Sys2Proof.Machine
end

section
/-!
SUPPORT. The events that leave the registers: the one part that each changes (03 R75, R94; 04 R104, R117; 05 R129; 09 R244, R256,
R261; 12 R331; 13 R360, R361; 19 R478).
-/

namespace Sys2Proof.Machine

/-! ## Time capture and the histogramming engines -/

/-- The converters alone may differ. -/
theorem settlingEnd_frame (t c : Nat) (s : State) : settlingEnd t c s = { s with tdc := (settlingEnd t c s).tdc } := by
  unfold settlingEnd
  split <;> rfl

theorem startSettleEnd_frame (t m : Nat) (s : State) : startSettleEnd t m s = { s with tdc := (startSettleEnd t m s).tdc } := by
  unfold startSettleEnd
  split <;> rfl

theorem takeReady_frame {s u : State} {c : Nat} {h : Option HitTime} (hready : takeReady s c = some (h, u)) :
    u = { s with tdc := u.tdc } := by
  unfold takeReady at hready
  split at hready
  · cases hready
  · split at hready
    · split at hready <;> cases hready <;> rfl
    · cases hready
      rfl

theorem rennetEnter_frame (s : State) (h : HitTime) :
    rennetEnter s h = { s with tdc := (rennetEnter s h).tdc, vat := (rennetEnter s h).vat } := by
  unfold rennetEnter
  dsimp only
  split <;> rfl

theorem hitTimeFormed_frame (c : Nat) (s : State) :
    hitTimeFormed c s = { s with tdc := (hitTimeFormed c s).tdc, vat := (hitTimeFormed c s).vat } := by
  unfold hitTimeFormed
  split
  · rfl
  · next u hready => rw [takeReady_frame hready]
  · next h u hready => rw [rennetEnter_frame, takeReady_frame hready]

theorem fcGateOpen_frame (t k : Nat) (s : State) : fcGateOpen t k s = { s with fct := (fcGateOpen t k s).fct } := by
  unfold fcGateOpen
  split <;> rfl

theorem captureGateOpen_frame (t g : Nat) (dark : Bool) (s : State) :
    captureGateOpen t g dark s = { s with esc := (captureGateOpen t g dark s).esc } := by
  unfold captureGateOpen
  dsimp only
  split <;> rfl

theorem toutPulseEnd_frame (t i : Nat) (s : State) : toutPulseEnd t i s = { s with esc := (toutPulseEnd t i s).esc } := by
  unfold toutPulseEnd
  split <;> rfl

theorem shotMarker_frame (c : Nat) (s : State) : shotMarker c s = { s with vat := (shotMarker c s).vat } := by
  unfold shotMarker
  split
  · dsimp only
    split <;> rfl
  · rfl

/-! ## The links -/

/-- Nothing but the links differs. -/
def LinksOnly (s u : State) : Prop := u = { s with wnb := u.wnb }

namespace LinksOnly
variable {s u v : State}

theorem refl (s : State) : LinksOnly s s := rfl

theorem trans (h : LinksOnly s u) (h' : LinksOnly u v) : LinksOnly s v := by
  unfold LinksOnly at h h' ⊢
  rw [h', h]

theorem onBundle (h : LinksOnly s u) (b : Nat) (f : Bundle → Bundle) : LinksOnly s (onBundle u b f) := h.trans rfl

theorem ite {c : Prop} [Decidable c] (hu : LinksOnly s u) (hv : LinksOnly s v) : LinksOnly s (if c then u else v) := by
  split
  · exact hu
  · exact hv

theorem sendCredit (h : LinksOnly s u) (b v : Nat) : LinksOnly s (sendCredit u b v) := h.trans rfl

end LinksOnly

theorem linksOnly_ackIntExpire (t b : Nat) (s : State) : LinksOnly s (ackIntExpire t b s) := by
  unfold ackIntExpire
  split
  · exact .ite (((LinksOnly.refl s).onBundle b _).onBundle b _ |>.onBundle b _) (.refl s)
  · exact .refl s

theorem linksOnly_creditIntExpire (t b : Nat) (s : State) : LinksOnly s (creditIntExpire t b s) := by
  unfold creditIntExpire
  split
  · refine .ite ?_ (.refl s)
    refine List.foldlRecOn (motive := LinksOnly s) _ _ ?_ fun u hu v _ => hu.sendCredit b v
    exact ((LinksOnly.refl s).onBundle b _).onBundle b _
  · exact .refl s

theorem linksOnly_laneTx (b m : Nat) (s : State) : LinksOnly s (laneTx b m s) :=
  .ite (((LinksOnly.refl s).onBundle b _).onBundle b _) ((LinksOnly.refl s).onBundle b _)

theorem linksOnly_powerReceived (b : Nat) (ack : Bool) (st : Nat) (s : State) : LinksOnly s (powerReceived b ack st s) := by
  have hnew : LinksOnly s (newLcw s b) := (LinksOnly.refl s).onBundle b _
  unfold powerReceived
  refine .ite hnew (.ite (.ite (hnew.onBundle b _) hnew) (.ite (hnew.onBundle b _) (.ite ?_ (hnew.onBundle b _))))
  exact (hnew.onBundle b _).onBundle b _

theorem linksOnly_powerRetry (t b : Nat) (s : State) : LinksOnly s (powerRetry t b s) := by
  have hnew : LinksOnly s (newLcw s b) := (LinksOnly.refl s).onBundle b _
  unfold powerRetry tryPower
  refine .ite (.ite hnew (.ite ?_ (hnew.onBundle b _))) (.refl s)
  exact ((hnew.onBundle b _).onBundle b _).onBundle b _

/-! ## Network time, housekeeping, calibration and the pair -/

theorem ppsOutPulse_frame (t : Nat) (s : State) :
    ppsOutPulse t s = { s with ntm := { s.ntm with pps := (ppsOutPulse t s).ntm.pps, ppsAt := (ppsOutPulse t s).ntm.ppsAt } } := by
  unfold ppsOutPulse
  split <;> rfl

theorem ppsOutEnd_frame (t : Nat) (s : State) :
    ppsOutEnd t s = { s with ntm := { s.ntm with pps := (ppsOutEnd t s).ntm.pps } } := by
  unfold ppsOutEnd
  split <;> rfl

theorem linLoadDone_frame (c : Nat) (s : State) :
    linLoadDone c s = { s with hka := { s.hka with
      coefs := (linLoadDone c s).hka.coefs, loads := (linLoadDone c s).hka.loads } } := by
  unfold linLoadDone
  split <;> rfl

theorem calThreshStep_frame (above : List Nat) (s : State) :
    calThreshStep above s = { s with cal := { s.cal with job := (calThreshStep above s).cal.job } } := by
  unfold calThreshStep
  split
  · rfl
  · split <;> rfl

theorem mirror_frame (t : Nat) (m : LoopMirror) (s : State) :
    mirror t m s = { s with pair := { s.pair with mirror := (mirror t m s).pair.mirror } } := by
  unfold mirror
  split <;> rfl

theorem timeTake_frame (edge : Nat) (incr : Option Nat) (step : Option Int) (s : State) :
    timeTake edge incr step s = { s with pair := { s.pair with times := (timeTake edge incr step s).pair.times } } := by
  unfold timeTake
  split <;> rfl

theorem alignSet_frame (a : Align) (s : State) :
    alignSet a s = { s with pair := { s.pair with align := (alignSet a s).pair.align } } := by
  unfold alignSet
  split <;> rfl

theorem activeOutRaise_frame (t : Nat) (s : State) :
    activeOutRaise t s = { s with pair := { s.pair with
      actOut := (activeOutRaise t s).pair.actOut, raiseAt := (activeOutRaise t s).pair.raiseAt } } := by
  unfold activeOutRaise
  split
  · split <;> rfl
  · rfl

theorem standbyHoldApply_frame (t : Nat) (s : State) :
    standbyHoldApply t s = { s with pair := { s.pair with
      held := (standbyHoldApply t s).pair.held, holdAt := (standbyHoldApply t s).pair.holdAt } } := by
  unfold standbyHoldApply
  split
  · split <;> rfl
  · rfl

/-! ## The clocks -/

theorem holdoverLimit_frame (t : Nat) (s : State) : ∃ u, execHoldoverLimit t s = .next u ∧
    u = { s with now := max s.now t, clk := { s.clk with wide := u.clk.wide } } := by
  refine ⟨_, rfl, ?_⟩
  split <;> rfl

theorem mspiCsEarlyRise_frame (t a : Nat) (l : List Nat) (s : State) : ∃ u, execMspiCsEarlyRise t a l s = .next u ∧
    u = { s with now := max s.now t, bus := u.bus } := by
  refine ⟨_, rfl, ?_⟩
  split <;> rfl

/-- Settles O57: each event's meaning, at its instant, changes its own part. -/
theorem framesBesideRegisters : Obligations.FramesBesideRegisters :=
  ⟨fun t c s => ⟨_, rfl, settlingEnd_frame t c (at' t s)⟩,
   fun t m s => ⟨_, rfl, startSettleEnd_frame t m (at' t s)⟩,
   fun t c s => ⟨_, rfl, hitTimeFormed_frame c (at' t s)⟩,
   fun t k s => ⟨_, rfl, fcGateOpen_frame t k (at' t s)⟩,
   fun t g b s => ⟨_, rfl, captureGateOpen_frame t g b (at' t s)⟩,
   fun t i s => ⟨_, rfl, toutPulseEnd_frame t i (at' t s)⟩,
   fun t c s => ⟨_, rfl, shotMarker_frame c (at' t s)⟩,
   mspiCsEarlyRise_frame,
   holdoverLimit_frame,
   fun _ _ _ => ⟨_, rfl, rfl⟩,
   fun _ _ _ _ _ => ⟨_, rfl, rfl⟩,
   fun t b s => ⟨_, rfl, linksOnly_ackIntExpire t b (at' t s)⟩,
   fun t b s => ⟨_, rfl, linksOnly_creditIntExpire t b (at' t s)⟩,
   fun t b m s => ⟨_, rfl, linksOnly_laneTx b m (at' t s)⟩,
   fun t b a k s => ⟨_, rfl, linksOnly_powerReceived b a k (at' t s)⟩,
   fun t b s => ⟨_, rfl, linksOnly_powerRetry t b (at' t s)⟩,
   fun _ _ => ⟨_, rfl, rfl⟩,
   fun _ _ => ⟨_, rfl, rfl⟩,
   fun t s => ⟨_, rfl, ppsOutPulse_frame t (at' t s)⟩,
   fun t s => ⟨_, rfl, ppsOutEnd_frame t (at' t s)⟩,
   fun t c s => ⟨_, rfl, linLoadDone_frame c (at' t s)⟩,
   fun t l s => ⟨_, rfl, calThreshStep_frame l (at' t s)⟩,
   fun t m s => ⟨_, rfl, mirror_frame t m (at' t s)⟩,
   fun t e d x s => ⟨_, rfl, timeTake_frame e d x (at' t s)⟩,
   fun t e a b n f i k s => ⟨_, rfl, alignSet_frame ⟨e, a, b, n, f, i, k⟩ (at' t s)⟩,
   fun t s => ⟨_, rfl, activeOutRaise_frame t (at' t s)⟩,
   fun t s => ⟨_, rfl, standbyHoldApply_frame t (at' t s)⟩⟩

end Sys2Proof.Machine
end

section
/-!
SUPPORT. The part of the state that motion, safety and the lamps reach when permission is judged again: registers, EVENT frames,
their own parts, and the schedule of the Escapement (12 R321 to R328; 10 R288; 04 R116). All else stays.
-/

namespace Sys2Proof.Machine

/-- From `s` to `u` nothing differs but registers, EVENT frames, motion, safety, lamps, and the schedule that a lost speed
model stops. -/
def MotionOnly (s u : State) : Prop :=
  u = { s with
    regs := u.regs, irq := u.irq, wnb := u.wnb, ctl := u.ctl, saf := u.saf, lmp := u.lmp,
    esc := { s.esc with active := u.esc.active, runs := u.esc.runs } }

namespace MotionOnly
variable {s u v : State}

theorem refl (s : State) : MotionOnly s s := rfl

theorem trans (h : MotionOnly s u) (h' : MotionOnly u v) : MotionOnly s v := by
  unfold MotionOnly at h h' ⊢
  rw [h', h]

theorem ite {c : Prop} [Decidable c] (hu : MotionOnly s u) (hv : MotionOnly s v) : MotionOnly s (if c then u else v) := by
  split
  · exact hu
  · exact hv

/-- An operation made on a condition. -/
theorem ite_of_imp {c : Prop} [Decidable c] (hv : MotionOnly s v) (hu : MotionOnly s v → MotionOnly s u) :
    MotionOnly s (if c then u else v) := ite (hu hv) hv

theorem foldl {α : Type} {f : State → α → State} {l : List α} (h : MotionOnly s u)
    (hf : ∀ v, ∀ x ∈ l, MotionOnly s v → MotionOnly s (f v x)) : MotionOnly s (l.foldl f u) :=
  List.foldlRecOn (motive := MotionOnly s) l f h fun v hv x hx => hf v x hx hv

/-- The shots in flight stay. -/
theorem shots (h : MotionOnly s u) : u.esc.shots = s.esc.shots := congrArg (·.esc.shots) h

/-! ## The operations that are shared -/

theorem setReg (h : MotionOnly s u) (a : Nat) (w : Word) : MotionOnly s (setReg u a w) := h.trans rfl
theorem wr (h : MotionOnly s u) (f : Fld) (n : Nat) : MotionOnly s (wr u f n) := h.trans rfl
theorem wrB (h : MotionOnly s u) (f : Fld) (b : Bool) : MotionOnly s (wrB u f b) := h.trans rfl
theorem wrBit (h : MotionOnly s u) (a i : Nat) (b : Bool) : MotionOnly s (wrBit u a i b) := h.trans rfl
theorem onMot (h : MotionOnly s u) (f : Mot → Mot) : MotionOnly s (onMot u f) := h.trans rfl
theorem onGal (h : MotionOnly s u) (f : Gal → Gal) : MotionOnly s (onGal u f) := h.trans rfl
theorem setSlot (h : MotionOnly s u) (k : Nat) (x : Slot) : MotionOnly s (setSlot u k x) := h.trans rfl
theorem setLampEng (h : MotionOnly s u) (e : Nat) (x : LampEng) : MotionOnly s (setLampEng u e x) := h.trans rfl
theorem lampRelease (h : MotionOnly s u) : MotionOnly s (lampRelease u) := h.trans rfl
theorem stopScheduling (h : MotionOnly s u) : MotionOnly s (stopScheduling u) := h.trans rfl
theorem withSaf (h : MotionOnly s u) (x : Saf) : MotionOnly s { u with saf := x } := h.trans rfl

theorem onPath (h : MotionOnly s u) (b : Bool) (f : Path → Path) : MotionOnly s (onPath u b f) := by
  cases b <;> exact h.trans rfl

theorem bump (h : MotionOnly s u) (a : Nat) : MotionOnly s (Machine.bump u a) :=
  ite (h.setReg a _) (ite h ((h.setReg a _).setReg _ _))

/-- An event may send an EVENT frame (02 R57). -/
theorem sendEvent (h : MotionOnly s u) : MotionOnly s (Machine.sendEvent u) :=
  ite (ite (h.trans rfl) (h.trans rfl)) (h.bump _)

theorem raise (h : MotionOnly s u) (f : Fld) : MotionOnly s (raise u f) := by
  have hset := h.setReg (f.addr - 0x10 + 0x10) (reg u (f.addr - 0x10 + 0x10) ||| word (2 ^ f.lo))
  refine ite ?_ hset
  split
  · exact ite_of_imp hset fun _ => ite (hset.trans rfl) hset.sendEvent
  · exact hset

/-! ## Lamps, slots and the galvanometer -/

theorem lampEngStart (h : MotionOnly s u) (e : Nat) : MotionOnly s (lampEngStart u e) :=
  (ite_of_imp h fun h => h.bump _).setLampEng e _

theorem lmpEdge (h : MotionOnly s u) (src : Nat) (rise : Bool) : MotionOnly s (lmpEdge u src rise) :=
  h.foldl fun _ e _ h => ite (ite (h.lampEngStart e) (ite (h.setLampEng e _) h)) h

theorem galActivate (h : MotionOnly s u) (on : Bool) : MotionOnly s (galActivate u on) :=
  ite (((h.wr _ _).wr _ _).onGal _) (((h.wr _ _).wr _ _).onGal _)

theorem slotDue (h : MotionOnly s u) (k : Nat) (old : Option Int) : MotionOnly s (slotDue u k old) := ite (h.setSlot k _) h

theorem slotRefresh (h : MotionOnly s u) (k : Nat) : MotionOnly s (slotRefresh u k) := by
  have hgal := ite_of_imp (c := k = 4) (h.wrBit A.SCN_STATUS k (slotWanted u k)) fun h => h.galActivate (slotWanted u k)
  exact ite h (ite (hgal.setSlot k _) (((hgal.setSlot k _).setReg _ _).setReg _ _))

theorem slotsRefresh (h : MotionOnly s u) : MotionOnly s (slotsRefresh u) :=
  (h.foldl fun _ k _ h => h.slotRefresh k).wrB _ _

/-! ## The polygon -/

theorem modelLost (h : MotionOnly s u) : MotionOnly s (modelLost u) := ite (h.stopScheduling.raise _) h

theorem phaseClear (h : MotionOnly s u) : MotionOnly s (phaseClear u) := (h.wr _ _).onMot _

theorem modelDrop (h : MotionOnly s u) : MotionOnly s (modelDrop u) :=
  ite_of_imp (h.onMot _) fun h => ((h.wr _ _).wr _ _).modelLost

theorem setMode (h : MotionOnly s u) (m : Nat) : MotionOnly s (setMode u m) := by
  unfold Machine.setMode
  extract_lets old sum lastIq meas shown timed started low unphased turned due refreshed
  have htimed : MotionOnly s timed := ((h.wr _ _).raise _).onMot _
  have hlow : MotionOnly s low :=
    ite_of_imp (ite_of_imp htimed fun h => (h.wr _ _).onMot _) fun h => (h.modelDrop.wr _ _).onMot _
  have hunphased : MotionOnly s unphased := ite_of_imp hlow fun h => h.phaseClear
  have hturned : MotionOnly s turned :=
    ite (hunphased.onMot _) (ite (hunphased.onMot _) (ite (hunphased.onMot _) (ite (hunphased.onMot _) hunphased)))
  have hdue : MotionOnly s due := ite ((hturned.slotDue _ _).slotDue _ _) (hturned.slotDue _ _)
  exact ite h (ite_of_imp hdue.slotsRefresh fun h => h.slotDue _ _)

theorem motStop (h : MotionOnly s u) : MotionOnly s (motStop u) := ite h ((((h.wr _ _).wr _ _).setMode 3).onMot _)

theorem torqueOff (h : MotionOnly s u) : MotionOnly s (torqueOff u) :=
  have hgoal := ((h.wr F.MOT_STATUS_STOPPING 0).wr F.MOT_STATUS_PHASE_PENDING 0).onMot fun m => { m with goal := 0 }
  ite hgoal ((hgoal.wr F.MOT_STATUS_COASTING 1).setMode 0)

/-! ## Safety -/

theorem ss1Start (h : MotionOnly s u) : MotionOnly s (ss1Start u) :=
  ite h (((((((h.withSaf _).wr _ _).wr _ _).setReg _ _).bump _).raise _).motStop)

theorem ss1End (h : MotionOnly s u) : MotionOnly s (ss1End u) := by
  unfold Machine.ss1End
  split
  · exact h
  · exact ((h.wr _ _).setReg _ _).withSaf _

theorem fbJudge (h : MotionOnly s u) (laser motor : Bool) : MotionOnly s (fbJudge u laser motor) :=
  h.foldl fun _ b _ h => h.onPath b _

theorem safLatch (h : MotionOnly s u) (a b : Bool) (cause : Nat) (q : Torque) : MotionOnly s (safLatch u a b cause q) := by
  unfold Machine.safLatch
  extract_lets newA newB latchedA latched torqueA torqueB stopped told saf ended
  have hlatched : MotionOnly s latched := ite_of_imp (ite_of_imp h fun h => h.wrBit _ _ _) fun h => h.wrBit _ _ _
  have htorque : MotionOnly s torqueB := ite_of_imp (ite_of_imp hlatched fun h => h.onPath _ _) fun h => h.onPath _ _
  have hstopped : MotionOnly s stopped := ite htorque.ss1End hlatched
  have hended : MotionOnly s ended := (((hstopped.lmpEdge _ _).raise _).withSaf _).wr _ _
  exact ite (ite_of_imp hended fun h => h.ss1Start) hstopped

theorem safOutputs (h : MotionOnly s u) : MotionOnly s (safOutputs u) := by
  unfold Machine.safOutputs
  extract_lets permit staA staB had fell laserWas torqueWas emit torque laser event saf inhibited lit off released
  have hlaser : MotionOnly s laser := (((((h.wrB _ _).wrB _ _).wrB _ _).wrB _ _).wrB _ _).wrB _ _
  have hinhibited : MotionOnly s inhibited := ite ((hlaser.raise _).withSaf _) hlaser
  have hlit : MotionOnly s lit := ite (hinhibited.lmpEdge _ _) (ite_of_imp hinhibited fun h => h.lmpEdge _ _)
  have hoff : MotionOnly s off := ite_of_imp hlit fun h => (h.raise _).torqueOff
  exact (ite_of_imp hoff fun h => h.lampRelease).fbJudge _ _

theorem safRefresh (h : MotionOnly s u) : MotionOnly s (safRefresh u) :=
  ite (safOutputs (ite_of_imp h fun h => h.safLatch _ _ _ _)) h

end MotionOnly

end Sys2Proof.Machine
end

section
/-!
SUPPORT. What the operations beside the Escapement leave of it; then the capture windows of a shot (04 R104).
-/

namespace Sys2Proof.Machine

/-! ## Operations that leave the Escapement -/

theorem esc_ite (c : Prop) [Decidable c] (x y : State) : (if c then x else y).esc = if c then x.esc else y.esc :=
  apply_ite State.esc c x y

@[simp] theorem pushItem_esc (s : State) (c : Nat) (i : VatItem) : (pushItem s c i).esc = s.esc := rfl

@[simp] theorem pushMarker_esc (s : State) (g : GroupCfg) (i : VatItem) : (pushMarker s g i).esc = s.esc :=
  foldl_keeps State.esc (fun u c => pushItem_esc u c i) _ s

@[simp] theorem columnMarkers_esc (s : State) (g : Nat) (w : Sweep) (cfg : GroupCfg) (col : Nat) :
    (columnMarkers s g w cfg col).esc = s.esc := foldl_keeps State.esc (fun u c => pushItem_esc u c _) _ s

@[simp] theorem markersAfter_esc (s : State) (g : GroupCfg) (id j closed : Nat) : (markersAfter s g id j closed).esc = s.esc := by
  simp only [markersAfter, esc_ite, pushMarker_esc, ite_self]

@[simp] theorem countWithheld_esc (s : State) (c : Cause) : (countWithheld s c).esc = s.esc := by
  simp only [countWithheld, raise_esc, bump_esc]

@[simp] theorem withholdShot_esc (s : State) (cfg : GroupCfg) (id j : Nat) (c : Cause) :
    (withholdShot s cfg id j c).esc = s.esc := by
  simp only [withholdShot, markersAfter_esc, pushMarker_esc, countWithheld_esc]

@[simp] theorem hkaFire_esc (s : State) (g t : Nat) : (hkaFire s g t).esc = s.esc := by
  simp only [hkaFire, esc_ite, ite_self]

@[simp] theorem setTdu_esc (s : State) (m : Nat) (st : Stat) : (setTdu s m st).esc = s.esc := rfl

@[simp] theorem tduPair_esc (s : State) (m : Nat) (v : Int) : (tduPair s m v).esc = s.esc := by
  simp only [tduPair, esc_ite, raiseAt_esc, wr_esc, setTdu_esc, takeFree_esc, ite_self]

@[simp] theorem tduOne_esc (src time : Nat) (s : State) (m : Nat) : (tduOne src time s m).esc = s.esc := by
  unfold tduOne
  extract_lets isA isB shown paired
  have hshown : shown.esc = s.esc := by simp only [shown, esc_ite, wr_esc, ite_self]
  have hpaired : paired.esc = s.esc := by
    dsimp only [paired]
    split
    · split <;> simp only [esc_ite, tduPair_esc, bump_esc, hshown, ite_self]
    · exact hshown
  simp only [esc_ite, setTdu_esc, hpaired, ite_self]

@[simp] theorem tduEvent_esc (s : State) (src time : Nat) : (tduEvent s src time).esc = s.esc := by
  simp only [tduEvent, esc_ite, foldl_keeps State.esc (tduOne_esc src time), ite_self]

@[simp] theorem monAdd_esc (s : State) (m : Nat) (v : Int) : (monAdd s m v).esc = s.esc := by
  have hset : ∀ u st, (setMon u m st).esc = u.esc := fun _ _ => rfl
  simp only [monAdd, esc_ite, hset, wr_esc, takeFree_esc, ite_self]

@[simp] theorem monSample_esc (s : State) (src arg : Nat) (v : Int) : (monSample s src arg v).esc = s.esc := by
  unfold monSample
  rw [esc_ite, foldl_keeps State.esc fun u m => by rw [esc_ite, monAdd_esc, ite_self], ite_self]

@[simp] theorem sampleShotHits_esc (s : State) (x : Shot) : (sampleShotHits s x).esc = s.esc := by
  unfold sampleShotHits
  rw [esc_ite, foldl_keeps State.esc fun _ _ => monSample_esc _ _ _ _, ite_self]

/-- A commanded edge may withdraw permission, which stops schedules and no shot in flight (12 R324). -/
theorem budgetEdge_shots (s : State) (o c t : Nat) : (budgetEdge s o c t).esc.shots = s.esc.shots := by
  have hcounted := ((MotionOnly.refl s).onPath false fun p => budgetAdd p o c t (budgetWeight p o)).onPath true fun p =>
    budgetAdd p o (sectorB s t) t (budgetWeight p o)
  exact (MotionOnly.ite_of_imp hcounted fun h => (h.safLatch _ _ _ _).safRefresh).shots

/-! ## The capture windows (04 R104) -/

section
variable {t g : Nat} {x : Shot} {s : State}

theorem captureGateOpen_dark
    (h : s.esc.shots.find? (fun y => decide (y.group = g) && !y.dropped &&
      (!y.issued && !y.darkDone && decide (y.start ≤ t) && decide (t < y.darkEnd))) = some x) :
    captureGateOpen t g true s = setShot s { x with darkOpen := true } := by
  simp only [captureGateOpen, if_true, h]

theorem captureGateOpen_range
    (h : s.esc.shots.find? (fun y => decide (y.group = g) && !y.dropped &&
      (y.issued && !y.rangeOpen && !y.rangeDone && decide (y.cmd + nsec y.cfg.winStart ≤ t))) = some x) :
    captureGateOpen t g false s = setShot s { x with rangeOpen := true } := by
  simp only [captureGateOpen, Bool.false_eq_true, if_false, h]

theorem captureGateClose_dark
    (h : s.esc.shots.find? (fun y => decide (y.group = g) && (y.darkOpen && decide (y.darkEnd ≤ t))) = some x) :
    captureGateClose t g true s = setShot s { x with darkOpen := false, darkDone := true } := by
  simp only [captureGateClose, if_true, h]

/-- The close of a range window samples the shot's hits and sends the markers that follow the shot. -/
theorem captureGateClose_range
    (h : s.esc.shots.find? (fun y => decide (y.group = g) &&
      (y.issued && !y.rangeDone && decide (y.cmd + nsec (y.cfg.winStart + y.cfg.winLen) ≤ t))) = some x) :
    (captureGateClose t g false s).esc = (setShot s { x with rangeOpen := false, rangeDone := true }).esc := by
  simp only [captureGateClose, Bool.false_eq_true, if_false, h, markersAfter_esc, sampleShotHits_esc]

end

/-- Settles O16: the shot found is put back with its window open or closed, and what follows a close leaves the shots. -/
theorem captureGates : Obligations.CaptureGates := by
  refine ⟨fun t g x s h => ⟨_, rfl, ?_⟩, fun t g x s h => ⟨_, rfl, ?_⟩, fun t g x s h => ⟨_, rfl, ?_⟩,
    fun t g x s h => ⟨_, rfl, ?_⟩⟩
  · rw [captureGateOpen_dark (s := at' t s) h]
    rfl
  · rw [captureGateOpen_range (s := at' t s) h]
    rfl
  · rw [captureGateClose_dark (s := at' t s) h]
    rfl
  · rw [captureGateClose_range (s := at' t s) h]
    rfl

end Sys2Proof.Machine
end

section
/-!
SUPPORT. The draw of a scheduled shot, and its commanded edge (04 R101, R103, R108 to R114).
-/

namespace Sys2Proof.Machine

/-! ## The draw of a shot -/

/-- A sweep whose frame a later one has followed, where frames reseed: its shots advance the sequence of the frame before. -/
def lastFrame (s : State) (w : Sweep) : Bool := !(flag s F.PLN_CTRL_ENABLE) && decide (w.frame ≠ s.acq.numbered.getD w.frame)

/-- The state of the sequence that the next shot of a group draws its dither from (04 R111). -/
def drawnState (s : State) (g : Nat) (w : Sweep) : Nat :=
  stage16 (if lastFrame s w then (runOf s g).prev else (runOf s g).lfsr)

/-- The schedule of a group after a draw. -/
def drawnRun (s : State) (g : Nat) (w : Sweep) (cfg : GroupCfg) : GroupRun :=
  if lastFrame s w then { runOf s g with prev := drawnState s g w, cfg := some cfg }
  else { runOf s g with lfsr := drawnState s g w, cfg := some cfg }

/-- The part of a scheduled shot before its gates: sequence, number, column-start markers, LG_STATUS. -/
def shotDraw (s : State) (g : Nat) (w : Sweep) (cfg : GroupCfg) : State :=
  let r := runOf s g
  let u := setRun (pruneShots s g) g (drawnRun s g w cfg)
  let u := { u with esc := { u.esc with nextId := s.esc.nextId + 1 } }
  let u := if r.shot = 0 then columnMarkers u g w cfg r.col else u
  wr (wr u (F.LG_STATUS_COLUMN g) r.col) (F.LG_STATUS_LAST_D g) (dither (drawnState s g w) cfg.span)

/-- The part of a scheduled shot at its gates: the shot is armed or withheld. -/
def shotGate (u : State) (g : Nat) (w : Sweep) (cfg : GroupCfg) (r : GroupRun) (id d : Nat) (start : Option Nat) : State :=
  match start with
  | none => withholdShot u cfg id r.shot .cut
  | some t =>
    match gateFails u cfg w.il (columnSector u w cfg r.col) t d with
    | some c => withholdShot u cfg id r.shot c
    | none => armShot u g w cfg id t d

theorem shotStartAt_eq (s : State) (g : Nat) (w : Sweep) (rest : List Sweep) (cfg : GroupCfg) (start : Option Nat) :
    shotStartAt s g w rest cfg start = nextShot (shotGate (shotDraw s g w cfg) g w cfg (runOf s g) s.esc.nextId
      (dither (drawnState s g w) cfg.span) start) g cfg w rest := rfl

/-- A schedule depends on the schedules of the Escapement alone. -/
theorem runOf_congr {s u : State} (h : u.esc.runs = s.esc.runs) (g : Nat) : runOf u g = runOf s g := by simp only [runOf, h]

@[simp] theorem runOf_setRun_same (s : State) (g : Nat) (r : GroupRun) : runOf (setRun s g r) g = r := pget_pset_same _ _ _ _

theorem runOf_shotDraw (s : State) (g : Nat) (w : Sweep) (cfg : GroupCfg) : runOf (shotDraw s g w cfg) g = drawnRun s g w cfg := by
  refine (runOf_congr ?_ g).trans (runOf_setRun_same (pruneShots s g) g (drawnRun s g w cfg))
  simp only [shotDraw, wr_esc, esc_ite, columnMarkers_esc, ite_self]

theorem shotDraw_nextId (s : State) (g : Nat) (w : Sweep) (cfg : GroupCfg) :
    (shotDraw s g w cfg).esc.nextId = s.esc.nextId + 1 := by
  simp only [shotDraw, wr_esc, esc_ite, columnMarkers_esc, ite_self]

theorem rd_shotDraw (s : State) (g : Nat) (w : Sweep) (cfg : GroupCfg) :
    rd (shotDraw s g w cfg) (F.LG_STATUS_LAST_D g) = dither (drawnState s g w) cfg.span % 2 ^ (F.LG_STATUS_LAST_D g).len :=
  rd_wr_same _ _ _ (by simp)

/-! ## The gates -/

/-- The registers from those of ESC on are not those of EVENT frames. -/
theorem not_evfReg_of_ge {a : Nat} (h : 0x20000 ≤ a) : ¬ evfReg a := by
  rintro (rfl | rfl) <;> exact absurd h (by decide)

theorem causeCounter_lt (c : Cause) : causeCounter c < 0x20098 := by cases c <;> decide

/-- A withheld shot writes its two counters and an event, which lie below COL_ADDR. -/
theorem reg_countWithheld {a : Nat} (h : 0x200A0 ≤ a) (s : State) (c : Cause) : reg (countWithheld s c) a = reg s a := by
  have hc := causeCounter_lt c
  have hraised : a ≠ (if c = .cut then F.ESC_EVT_RAW_CUT else F.ESC_EVT_RAW_WITHHELD).addr - 0x10 + 0x10 := by
    split <;> exact Nat.ne_of_gt (Nat.lt_of_lt_of_le (by decide) h)
  unfold countWithheld
  rw [reg_raise_other _ _ _ (not_evfReg_of_ge (by omega)) hraised, reg_bump_other _ _ _ (by omega) (by omega),
    reg_bump_other _ _ _ (by simp only [A.ESC_WITHHELD]; omega) (by simp only [A.ESC_WITHHELD]; omega)]

theorem reg_pushMarker (s : State) (g : GroupCfg) (i : VatItem) (a : Nat) : reg (pushMarker s g i) a = reg s a :=
  reg_foldl (f := fun u c => pushItem u c i) (fun _ _ _ => rfl) s

theorem reg_markersAfter (s : State) (g : GroupCfg) (id j closed a : Nat) : reg (markersAfter s g id j closed) a = reg s a := by
  simp only [markersAfter, reg_ite, reg_pushMarker, ite_self]

theorem reg_withholdShot {a : Nat} (h : 0x200A0 ≤ a) (s : State) (cfg : GroupCfg) (id j : Nat) (c : Cause) :
    reg (withholdShot s cfg id j c) a = reg s a := by
  rw [withholdShot, reg_markersAfter, reg_pushMarker, reg_countWithheld h]

/-- At its gates a shot is withheld with a cause, or armed. -/
theorem shotGate_cases (u : State) (g : Nat) (w : Sweep) (cfg : GroupCfg) (r : GroupRun) (id d : Nat) (start : Option Nat) :
    (∃ c, shotGate u g w cfg r id d start = withholdShot u cfg id r.shot c) ∨
      ∃ t, shotGate u g w cfg r id d start = armShot u g w cfg id t d := by
  unfold shotGate
  split
  · exact .inl ⟨_, rfl⟩
  · split
    · exact .inl ⟨_, rfl⟩
    · exact .inr ⟨_, rfl⟩

/-- The gates leave schedules, numbers, and what LG_STATUS shows. -/
theorem shotGate_leaves (u : State) (g : Nat) (w : Sweep) (cfg : GroupCfg) (r : GroupRun) (id d : Nat) (start : Option Nat) :
    (shotGate u g w cfg r id d start).esc.runs = u.esc.runs ∧ (shotGate u g w cfg r id d start).esc.nextId = u.esc.nextId ∧
      ∀ a, 0x200A0 ≤ a → reg (shotGate u g w cfg r id d start) a = reg u a := by
  obtain ⟨c, heq⟩ | ⟨t, heq⟩ := shotGate_cases u g w cfg r id d start
  · rw [heq, withholdShot_esc]
    exact ⟨rfl, rfl, fun a ha => reg_withholdShot ha u cfg id r.shot c⟩
  · rw [heq]
    exact ⟨rfl, rfl, fun _ _ => rfl⟩

/-- The passage to the next shot writes the group's schedule, and keeps its sequences. -/
theorem nextShot_cases (s : State) (g : Nat) (cfg : GroupCfg) (w : Sweep) (rest : List Sweep) :
    ∃ r, nextShot s g cfg w rest = setRun s g r ∧ r.lfsr = (runOf s g).lfsr ∧ r.prev = (runOf s g).prev := by
  unfold nextShot
  dsimp only
  split
  · exact ⟨_, rfl, rfl, rfl⟩
  · split
    · exact ⟨_, rfl, rfl, rfl⟩
    · exact ⟨_, rfl, rfl, rfl⟩

/-- What a scheduled shot leaves: the next number, the sequences after the draw, and the dither drawn. -/
structure ShotDrawn (s : State) (g : Nat) (w : Sweep) (cfg : GroupCfg) (u : State) : Prop where
  number : u.esc.nextId = s.esc.nextId + 1
  lfsr : (runOf u g).lfsr = (drawnRun s g w cfg).lfsr
  prev : (runOf u g).prev = (drawnRun s g w cfg).prev
  shown : rd u (F.LG_STATUS_LAST_D g) = dither (drawnState s g w) cfg.span % 2 ^ (F.LG_STATUS_LAST_D g).len

theorem shotDrawn_shotStartAt (s : State) (g : Nat) (w : Sweep) (rest : List Sweep) (cfg : GroupCfg) (start : Option Nat) :
    ShotDrawn s g w cfg (shotStartAt s g w rest cfg start) := by
  rw [shotStartAt_eq]
  obtain ⟨hruns, hid, hreg⟩ := shotGate_leaves (shotDraw s g w cfg) g w cfg (runOf s g) s.esc.nextId
    (dither (drawnState s g w) cfg.span) start
  obtain ⟨r, hnext, hlfsr, hprev⟩ := nextShot_cases (shotGate (shotDraw s g w cfg) g w cfg (runOf s g) s.esc.nextId
    (dither (drawnState s g w) cfg.span) start) g cfg w rest
  rw [runOf_congr hruns, runOf_shotDraw] at hlfsr hprev
  rw [hnext]
  refine ⟨hid.trans (shotDraw_nextId s g w cfg), ?_, ?_, ?_⟩
  · rw [runOf_setRun_same, hlfsr]
  · rw [runOf_setRun_same, hprev]
  · exact (rd_congr (hreg _ (by simp only; omega))).trans (rd_shotDraw s g w cfg)

/-- A due shot, or one found cut, of a group that schedules is drawn. -/
theorem shotStartEvent_due {t g : Nat} {w : Sweep} {l : List Sweep} {z : GroupCfg} {s : State}
    (hsweeps : (runOf s g).sweeps = w :: l) (hon : ((runOf s g).cfg.isSome || flag s (F.LG_CTRL_ENABLE g)) = true)
    (hz : z = (runOf s g).cfg.getD (groupCfg s w g)) (hdue : (shotStart s w z (runOf s g).col (runOf s g).shot).getD t ≤ t) :
    ∃ start, shotStartEvent t g s = shotStartAt s g w l z start := by
  have hoff : ¬ ((runOf s g).cfg.isNone = true ∧ (!(flag s (F.LG_CTRL_ENABLE g))) = true) := by
    cases hcfg : (runOf s g).cfg <;> simp_all
  unfold shotStartEvent
  simp only [hsweeps, hoff, if_false, ← hz]
  cases hstart : shotStart s w z (runOf s g).col (runOf s g).shot with
  | none => exact ⟨none, rfl⟩
  | some u =>
    rw [hstart] at hdue
    exact ⟨some u, if_pos hdue⟩

/-! ## The commanded edge -/

section
variable {t g : Nat} {x : Shot} {s : State} (h : s.esc.shots.find? (fun y => decide (y.group = g) && !y.issued && !y.dropped &&
  decide (y.cmd ≤ t)) = some x)
include h

theorem ltrigEdge_issues (hstop : edgeStopped s x = false) : ltrigEdge t g s = issueEdge s x := by
  simp only [ltrigEdge, h, hstop, Bool.false_eq_true, if_false]

theorem ltrigEdge_stops (hstop : edgeStopped s x = true) :
    ltrigEdge t g s = withholdShot (setShot s { x with dropped := true, darkOpen := false }) x.cfg x.id x.j .safety := by
  simp only [ltrigEdge, h, hstop, if_true]

end

@[simp] theorem ltrigPulse_shots (s : State) (x : Shot) : (ltrigPulse s x).esc.shots = s.esc.shots := by
  unfold ltrigPulse
  split <;> rfl

/-- A shot whose commanded edge is issued: its dark window is over, and its start window closes WIN after the edge
(04 R101, R104). -/
def issuedShot (s : State) (x : Shot) : Shot :=
  { x with issued := true, darkOpen := false, darkDone := true, winEnd := x.cmd + nsec (rd s (F.ST_CTRL_WIN x.cfg.start)) }

/-- Beside its shot an issued edge leaves the shots in flight. -/
theorem issueEdge_shots (s : State) (x : Shot) : (issueEdge s x).esc.shots = (setShot s (issuedShot s x)).esc.shots := by
  unfold issueEdge
  dsimp only
  rw [pushMarker_esc, budgetEdge_shots, tduEvent_esc, hkaFire_esc, bump_esc, ltrigPulse_shots]
  rfl

/-- SHOT_START of a due shot, or of one found cut, draws it. -/
theorem execShotStart_draws {t g : Nat} {w : Sweep} {l : List Sweep} {z : GroupCfg} {s : State}
    (hsweeps : (runOf s g).sweeps = w :: l) (hon : ((runOf s g).cfg.isSome || flag s (F.LG_CTRL_ENABLE g)) = true)
    (hz : z = (runOf s g).cfg.getD (groupCfg s w g))
    (hdue : (shotStart s w z (runOf s g).col (runOf s g).shot).getD t ≤ t) :
    ∃ u, exec (.shotStart t g) s = .next u ∧ ShotDrawn s g w z u := by
  obtain ⟨start, hstart⟩ := shotStartEvent_due (s := at' t s) hsweeps hon hz hdue
  refine ⟨_, congrArg Host.Outcome.next hstart, ?_⟩
  obtain ⟨number, lfsr, prev, shown⟩ := shotDrawn_shotStartAt (at' t s) g w l z start
  exact ⟨number, lfsr, prev, shown⟩

/-- Settles O15: a draw writes the schedule, the number and LG_STATUS, which gates and the passage to the next shot keep; an edge
puts its shot back, issued or dropped. -/
theorem shotsAndEdges : Obligations.ShotsAndEdges := by
  refine ⟨fun t g w l z s hsweeps hon hz hdue _ hown => ?_, fun t g w l z s hsweeps hon hz hdue _ hplan hframe => ?_,
    fun t g x s h hstop => ⟨_, rfl, ?_⟩, fun t g x s h hstop => ⟨_, rfl, ?_⟩⟩
  · have hlast : lastFrame s w = false := by
      rw [lastFrame, decide_not, ← Bool.not_or, hown, Bool.not_true]
    obtain ⟨u, hu, number, lfsr, prev, shown⟩ := execShotStart_draws hsweeps hon hz hdue
    simp only [drawnRun, drawnState, hlast, Bool.false_eq_true, if_false] at lfsr prev shown
    exact ⟨u, hu, number, lfsr, prev, shown⟩
  · have hlast : lastFrame s w = true := by
      rw [lastFrame, hplan, decide_eq_true hframe, Bool.not_false, Bool.true_and]
    obtain ⟨u, hu, number, lfsr, prev, shown⟩ := execShotStart_draws hsweeps hon hz hdue
    simp only [drawnRun, drawnState, hlast, if_true] at lfsr prev shown
    exact ⟨u, hu, number, prev, lfsr, shown⟩
  · rw [ltrigEdge_issues (s := at' t s) h hstop, issueEdge_shots]
    rfl
  · rw [ltrigEdge_stops (s := at' t s) h hstop, withholdShot_esc]
    rfl

end Sys2Proof.Machine
end

section
/-!
SUPPORT. An accepted write of a register of the ESC page, held lower words included (02 R41, R50); then the column port and the
ENABLE of the Escapement (04 R106, R116, R120).
-/

namespace Sys2Proof.Machine

/-! ## Storing leaves the Escapement -/

@[simp] theorem storeField_esc (a : Nat) (d : Word) (s : State) (f : FieldRow) : (storeField a d s f).esc = s.esc := by
  unfold storeField
  split
  · rw [esc_ite, setReg_esc, ite_self]
  · rfl
  · rfl
  · simp only [counterClear, esc_ite, setReg_esc, ite_self]
  all_goals rfl

@[simp] theorem storeReg_esc (l : RegLoc) (a : Nat) (d : Word) (s : State) : (storeReg l a d s).esc = s.esc :=
  foldl_keeps State.esc (storeField_esc a d) _ s

@[simp] theorem lowerTaken_esc (r : Requester) (a : Nat) (s : State) : (lowerTaken r a s).esc = s.esc := by
  unfold lowerTaken
  split
  · split
    · exact storeReg_esc _ _ _ s
    · rfl
  · rfl

@[simp] theorem lockCount_esc (p : Nat) (s : State) : (lockCount p s).esc = s.esc := by
  simp only [lockCount, esc_ite, setReg_esc, ite_self]

/-- A field is stored in its register, and in the OVF word of a counter. -/
theorem reg_storeField_other {a b : Nat} (h : b ≠ a) (h' : b ≠ a + 4) (d : Word) (s : State) (f : FieldRow) :
    reg (storeField a d s f) b = reg s b := by
  unfold storeField
  split
  · rw [reg_ite, reg_setReg_other _ _ _ _ h, ite_self]
  · rfl
  · exact reg_setReg_other _ _ _ _ h
  · simp only [counterClear, reg_ite, reg_setReg_other _ _ _ _ h, reg_setReg_other _ _ _ _ h', ite_self]
  all_goals rfl

theorem reg_storeReg_other {a b : Nat} (h : b ≠ a) (h' : b ≠ a + 4) (l : RegLoc) (d : Word) (s : State) :
    reg (storeReg l a d s) b = reg s b :=
  reg_foldl (fun u f _ => reg_storeField_other h h' d u f) s

/-- The lower word of a wide value lies one word below its highest. -/
theorem wideLow_eq {a k : Nat} (h : wideLow a = some k) : k = a - 4 := by
  unfold wideLow at h
  split at h
  · exact (Option.some.inj h).symm
  · cases h

theorem reg_lowerTaken_other {a b : Nat} (h : b ≠ a - 4) (h' : b ≠ a - 4 + 4) (r : Requester) (s : State) :
    reg (lowerTaken r a s) b = reg s b := by
  unfold lowerTaken
  split
  · next k hk =>
    obtain rfl := wideLow_eq hk
    split
    · exact reg_storeReg_other h h' _ _ s
    · rfl
  · rfl

/-! ## Accepted writes -/

/-- A write of a page without a code does what R41 and the block's chapter say, with the held lower word in place. -/
theorem pageWrite_of_code {p : Nat} {r : Requester} {a : Nat} {d : Word} {s : State} {l : RegLoc} (hl : findReg a = some l)
    (hlp : l.pbase = p) (hk : (hasHeader p && decide (a = p + 0x2C)) = false)
    (hs : (hasHeader p && decide (a = p + 8) && bit d 1) = false) (hh : heldWord a = false) (hc : (pageWrite p r a d s).1 = 0) :
    (pageWrite p r a d s).2 =
      lcAfter p (decide (a = A.PWR_LC_KEY)) (latchDrop (lockCount p (writeDo l a d s (lowerTaken r a s))) r a) := by
  subst hlp
  have hk' : ¬ (hasHeader l.pbase = true ∧ a = l.pbase + 0x2C) := by simpa using hk
  unfold pageWrite writeReg at hc ⊢
  simp only [hl, hk', if_false, hs, Bool.false_eq_true, hh] at hc ⊢
  by_cases hcode : writeCode l a d s (lowerTaken r a s) = 0
  · by_cases hstays : stays a d s = 0#32
    · simp [hcode, hstays]
    · simp [hcode, hstays] at hc
  · simp [hcode] at hc

/-- Where a register of the ESC page lies that is CTRL or lies past the common header, and is no window and no lower word. -/
structure EscReg (a : Nat) (l : RegLoc) : Prop where
  aligned : busAddr a = a
  unwindowed : windowed a = false
  page : pageBase a = some 0x20000
  row : findReg a = some l
  base : l.pbase = 0x20000
  place : a = 0x20008 ∨ 0x20040 ≤ a
  unheld : heldWord a = false

/-- What an accepted write of the ESC page leaves of the Escapement and of the registers but LOCK: what the register takes, and
what chapter 04 says beside it. -/
theorem EscReg.write {a : Nat} {l : RegLoc} (h : EscReg a l) {t d : Nat} {r : Requester} {s : State} (hacc : Accepts t r a d s)
    (hsoft : a = 0x20008 → bit (word d) 1 = false) :
    (accessW t r a d s).esc =
        (pageAct 0x20000 a (word d) (at' t s) (storeReg l a (word d) (lowerTaken r a (at' t s)))).esc ∧
      ∀ b, b ≠ 0x2002C → reg (accessW t r a d s) b =
        reg (pageAct 0x20000 a (word d) (at' t s) (storeReg l a (word d) (lowerTaken r a (at' t s)))) b := by
  obtain ⟨hidle, hclock, hcode⟩ := hacc.elim h.aligned h.unwindowed h.page
  have hplace := h.place
  have hlock : (hasHeader 0x20000 && decide (a = 0x20000 + 0x2C)) = false := by simp; omega
  have hsoft' : (hasHeader 0x20000 && decide (a = 0x20000 + 8) && bit (word d) 1) = false := by
    by_cases ha : a = 0x20008
    · simp [hsoft ha]
    · simp [ha]
  have hdo : writeDo l a (word d) (at' t s) (lowerTaken r a (at' t s)) =
      pageAct 0x20000 a (word d) (at' t s) (storeReg l a (word d) (lowerTaken r a (at' t s))) := by
    unfold writeDo
    simp only [h.base]
    rw [if_neg (by omega), if_neg (by omega), if_neg (by omega), if_neg (by omega)]
  rw [accessW_page t r a d 0x20000 s hidle h.aligned h.unwindowed h.page hclock,
    pageWrite_of_code h.row h.base hlock hsoft' h.unheld hcode, hdo, lcAfter_off _ _ _ (by decide)]
  exact ⟨lockCount_esc _ _, fun b hb => reg_lockCount _ _ _ hb⟩

/-! ## The column port -/

/-- Where ESC.COL_DATA lies (04 R120). -/
def colDataLoc : RegLoc := ⟨0x20000, 0, .sys, ⟨0x0A4, 1, fun _ => 0x0, [⟨0, 32, .rw, [], false⟩]⟩, 0, 0⟩

theorem escReg_colData : EscReg A.ESC_COL_DATA colDataLoc :=
  ⟨by decide, by decide, by decide, rfl, rfl, by decide, by decide⟩

/-- The port holds no value itself. -/
theorem storeReg_colData (d : Word) (s : State) : storeReg colDataLoc A.ESC_COL_DATA d s = s := rfl

theorem pageAct_colData (d : Word) (o s : State) : pageAct 0x20000 A.ESC_COL_DATA d o s = colWrite d s := rfl

theorem rd_colAdvance (s : State) :
    rd (colAdvance s) F.ESC_COL_ADDR_INDEX = (rd s F.ESC_COL_ADDR_INDEX + 1) % 2 ^ F.ESC_COL_ADDR_INDEX.len :=
  rd_wr_same _ _ _ (by decide)

theorem colEntry_colWrite (d : Word) (s : State) :
    colEntry (colWrite d s) (rd s F.ESC_COL_ADDR_BANK) (rd s F.ESC_COL_ADDR_INDEX) = d := pget_pset_same _ _ _ _

theorem rd_colWrite (d : Word) (s : State) :
    rd (colWrite d s) F.ESC_COL_ADDR_INDEX = (rd s F.ESC_COL_ADDR_INDEX + 1) % 2 ^ F.ESC_COL_ADDR_INDEX.len :=
  rd_colAdvance _

/-- An entry of a column bank depends on the column banks alone. -/
theorem colEntry_congr {s u : State} (h : u.esc = s.esc) (bank i : Nat) : colEntry u bank i = colEntry s bank i := by
  simp only [colEntry, h]

/-- COL_DATA is no higher word of a wide value. -/
theorem lowerTaken_colData (r : Requester) (s : State) : lowerTaken r A.ESC_COL_DATA s = s := rfl

/-- What a permitted read says: the page answers. -/
theorem clocked_of_readable {t : Nat} {r : Requester} {a p : Nat} {s : State} (h : Readable t r a s) (ha : busAddr a = a)
    (hw : windowed a = false) (hp : pageBase a = some p) : clocked a (at' t s) = true := by
  obtain ⟨⟨hheld, -, -, -, hmon⟩, hcode⟩ := h
  unfold busRead at hcode
  simp only [ha, at_held, hheld, Bool.false_eq_true, if_false, busWait_idle (at' t s) hmon, hw, hp] at hcode
  cases hclock : clocked a (at' t s) with
  | true => rfl
  | false => simp [hclock] at hcode

theorem pageRead_colData (r : Requester) (s : State) :
    pageRead 0x20000 r A.ESC_COL_DATA s =
      (colEntry (lockCount 0x20000 s) (rd (lockCount 0x20000 s) F.ESC_COL_ADDR_BANK)
        (rd (lockCount 0x20000 s) F.ESC_COL_ADDR_INDEX), 0, colAdvance (lockCount 0x20000 s)) := rfl

/-- A permitted read of COL_DATA gives the entry and advances INDEX. -/
theorem access_colData {t : Nat} {r : Requester} {s : State} (h : Readable t r A.ESC_COL_DATA s) :
    (access t r A.ESC_COL_DATA s).bus.lastRead = colEntry s (rd s F.ESC_COL_ADDR_BANK) (rd s F.ESC_COL_ADDR_INDEX) ∧
      rd (access t r A.ESC_COL_DATA s) F.ESC_COL_ADDR_INDEX =
        (rd s F.ESC_COL_ADDR_INDEX + 1) % 2 ^ F.ESC_COL_ADDR_INDEX.len := by
  have hclock := clocked_of_readable h escReg_colData.aligned escReg_colData.unwindowed escReg_colData.page
  have haddr : ∀ f : Fld, f.addr = 0x200A0 → rd (lockCount 0x20000 (at' t s)) f = rd s f := fun f hf =>
    rd_congr (reg_lockCount _ _ _ (by rw [hf]; decide))
  rw [access_page t r _ _ s h.1 escReg_colData.aligned escReg_colData.unwindowed escReg_colData.page hclock, pageRead_colData]
  constructor
  · rw [busShow_lastRead, haddr _ rfl, haddr _ rfl, colEntry_congr (lockCount_esc _ _), colEntry_congr (at_esc t s)]
  · rw [rd_congr (reg_busShow _ _ _ _), rd_colAdvance, haddr _ rfl]

/-! ## ENABLE -/

theorem bit_eq_fld (w : Word) (i : Nat) : bit w i = decide (fld w i 1 = 1) := by
  have hfld : fld w i 1 = (w.toNat.testBit i).toNat := by
    rw [fld, pow_one, Nat.shiftRight_eq_div_pow, Nat.toNat_testBit]
  rw [hfld, bit]
  cases w.toNat.testBit i <;> rfl

/-- Where ESC.CTRL lies (02 R38). -/
def escCtrlLoc : RegLoc :=
  ⟨0x20000, 0, .sys, ⟨0x008, 1, fun _ => 0x0, [⟨0, 1, .rw, [], false⟩, ⟨1, 1, .w1s, [], false⟩]⟩, 0, 0⟩

theorem escReg_ctrl : EscReg F.ESC_CTRL_ENABLE.addr escCtrlLoc :=
  ⟨by decide, by decide, by decide, rfl, rfl, by decide, by decide⟩

theorem lowerTaken_ctrl (r : Requester) (s : State) : lowerTaken r F.ESC_CTRL_ENABLE.addr s = s := rfl

theorem pageAct_ctrl (d : Word) (o s : State) :
    pageAct 0x20000 F.ESC_CTRL_ENABLE.addr d o s = escAct F.ESC_CTRL_ENABLE.addr o s := rfl

/-- ESC.CTRL takes ENABLE as written. -/
theorem flag_storeReg_ctrl (d : Word) (s : State) :
    flag (storeReg escCtrlLoc F.ESC_CTRL_ENABLE.addr d s) F.ESC_CTRL_ENABLE = bit d 0 := by
  have hstore : storeReg escCtrlLoc F.ESC_CTRL_ENABLE.addr d s =
      setReg s F.ESC_CTRL_ENABLE.addr (takeField (reg s F.ESC_CTRL_ENABLE.addr) d ⟨0, 1, .rw, [], false⟩) := rfl
  rw [bit_eq_fld, flag, rd, hstore, reg_setReg_same, fld_takeField_same (by decide)]

/-- What a change of ENABLE does beside the register leaves the registers. -/
theorem reg_escAct (a : Nat) (o s : State) (b : Nat) : reg (escAct a o s) b = reg s b := by
  rw [escAct, reg_ite, reg_stopScheduling, ite_self]

/-- Clearing ENABLE stops scheduling (04 R116). -/
theorem escAct_stops {o s : State} (hwas : flag o F.ESC_CTRL_ENABLE = true) (hnow : flag s F.ESC_CTRL_ENABLE = false) :
    (escAct F.ESC_CTRL_ENABLE.addr o s).esc.active = false := by
  rw [escAct, if_pos ⟨rfl, hwas, by simp [hnow]⟩]
  rfl

/-- Settles O17: the port passes the word to the column banks, and a change of ENABLE acts beside the register. -/
theorem escRegisters : Obligations.EscRegisters := by
  refine ⟨fun t r d s hacc => ?_, fun t r s h => ⟨_, rfl, access_colData h⟩, fun t r d s hacc hsoft => ?_⟩
  · obtain ⟨hesc, hreg⟩ := escReg_colData.write hacc fun h => absurd h (by decide)
    rw [lowerTaken_colData, storeReg_colData, pageAct_colData] at hesc hreg
    refine ⟨_, rfl, ?_, ?_⟩
    · exact (colEntry_congr hesc _ _).trans (colEntry_colWrite (word d) (at' t s))
    · exact (rd_congr (hreg _ (by decide))).trans (rd_colWrite (word d) (at' t s))
  · obtain ⟨hesc, hreg⟩ := escReg_ctrl.write hacc fun _ => hsoft
    rw [lowerTaken_ctrl, pageAct_ctrl] at hesc hreg
    refine ⟨_, rfl, ?_, fun hwas hcleared => ?_⟩
    · exact (flag_congr ((hreg _ (by decide)).trans (reg_escAct _ _ _ _))).trans (flag_storeReg_ctrl (word d) (at' t s))
    · exact (congrArg Esc.active hesc).trans (escAct_stops hwas ((flag_storeReg_ctrl _ _).trans hcleared))

end Sys2Proof.Machine
end

section
/-!
SUPPORT. What the firing of a timed output or of a network-timed trigger shows, and the writes that arm them (04 R117 to R119,
R122).
-/

namespace Sys2Proof.Machine

/-! ## Timed outputs -/

/-- What TOUT_STATUS of output `i` shows: ARMED and DONE. -/
structure ToutShows (i : Nat) (armed done : Bool) (s : State) : Prop where
  armed : flag s (F.TOUT_STATUS_ARMED i) = armed
  done : flag s (F.TOUT_STATUS_DONE i) = done

theorem ToutShows.congr {i : Nat} {a d : Bool} {s u : State} (h : ToutShows i a d s)
    (hreg : reg u (0x20618 + 0x20 * i) = reg s (0x20618 + 0x20 * i)) : ToutShows i a d u :=
  ⟨(flag_congr (f := F.TOUT_STATUS_ARMED i) hreg).trans h.armed, (flag_congr (f := F.TOUT_STATUS_DONE i) hreg).trans h.done⟩

/-- LATE lies beside ARMED and DONE. -/
theorem ToutShows.wr_late {i : Nat} {a d : Bool} {s : State} (h : ToutShows i a d s) (v : Nat) :
    ToutShows i a d (wr s (F.TOUT_STATUS_LATE i) v) :=
  ⟨(flag_wr_field _ _ _ _ (by simp) (.inl (by simp))).trans h.armed,
    (flag_wr_field _ _ _ _ (by simp) (.inl (by simp))).trans h.done⟩

/-- An output that fires is done and no longer armed. -/
theorem toutShows_toutFire (s : State) (i start : Nat) (late : Bool) : ToutShows i false true (toutFire s i start late) := by
  have hfired : ∀ u, ToutShows i false true (wr (wr u (F.TOUT_STATUS_ARMED i) 0) (F.TOUT_STATUS_DONE i) 1) := fun u =>
    ⟨(flag_wr_field _ _ _ _ (by simp) (.inr (by simp))).trans (flag_wr_zero _ _ (by simp) rfl), flag_wr_one _ _ (by simp) rfl⟩
  unfold toutFire
  cases late with
  | false => exact hfired _
  | true =>
    exact ((hfired _).wr_late 1).congr (reg_raise_other _ _ _ (not_evfReg_of_ge (by omega)) (by simp only; omega))

/-- The state in which output `i` is armed anew. -/
def toutArmed (s : State) (i : Nat) : State :=
  wr (wr (wr s (F.TOUT_STATUS_DONE i) 0) (F.TOUT_STATUS_LATE i) 0) (F.TOUT_STATUS_ARMED i) 1

theorem reg_toutArmed {i b : Nat} (h : b ≠ 0x20618 + 0x20 * i) (s : State) : reg (toutArmed s i) b = reg s b :=
  (reg_wr_other _ _ _ _ h).trans ((reg_wr_other _ _ _ _ h).trans (reg_wr_other s _ _ _ h))

theorem toutShows_toutArmed (s : State) (i : Nat) : ToutShows i true false (toutArmed s i) := by
  refine ⟨flag_wr_one _ _ (by simp) rfl, ?_⟩
  rw [toutArmed, flag_wr_field _ _ _ _ (by simp) (.inl (by simp)), flag_wr_field _ _ _ _ (by simp) (.inl (by simp))]
  exact flag_wr_zero _ _ (by simp) rfl

/-- An armed output stays armed, or fires late. -/
theorem toutShows_toutLate {s : State} {i : Nat} (h : ToutShows i true false s) :
    ∃ done, ToutShows i (!done) done (toutLate s i) := by
  unfold toutLate
  split
  · exact ⟨true, toutShows_toutFire _ _ _ _⟩
  · exact ⟨false, h⟩

/-- With targets held no output fires late (04 R119). -/
theorem toutLate_held {s : State} (i : Nat) (h : targetsHeld s = true) : toutLate s i = s := by
  rw [toutLate, if_neg (by simp [h])]

/-- Whether targets are held is shown by CLK.STATUS. -/
theorem targetsHeld_congr {s u : State} (h : reg u F.CLK_STATUS_REF_LOST.addr = reg s F.CLK_STATUS_REF_LOST.addr) :
    targetsHeld u = targetsHeld s := flag_congr (f := F.CLK_STATUS_REF_LOST) h

/-- The mode in force of an output depends on the Escapement alone. -/
theorem toutMode_congr {s u : State} (h : u.esc = s.esc) (i m : Nat) : toutMode u i m = toutMode s i m := by
  simp only [toutMode, toutWord, h]

/-! ## Writes of the TOUT and NTT blocks -/

/-- In the blocks of the timed outputs and triggers a write does what R117 to R119 say. -/
theorem pageAct_timed {a : Nat} (h : 0x20600 ≤ a) (d : Word) (o s : State) : pageAct 0x20000 a d o s = timedAct a d s := by
  have hsplit : a ≠ F.GLB_POOL_SPLIT_DISPLAY.addr := Nat.ne_of_gt (Nat.lt_of_lt_of_le (by decide) h)
  have hcol : a ≠ A.ESC_COL_DATA := Nat.ne_of_gt (Nat.lt_of_lt_of_le (by decide) h)
  have hctrl : ¬ (a = F.ESC_CTRL_ENABLE.addr ∧ flag o F.ESC_CTRL_ENABLE = true ∧ (!(flag s F.ESC_CTRL_ENABLE)) = true) :=
    fun hc => absurd hc.1 (Nat.ne_of_gt (Nat.lt_of_lt_of_le (by decide) h))
  have hact : escAct a o s = s := if_neg hctrl
  simp [pageAct, actA, hsplit, hcol, hact, inst]

/-- Where TOUT_SEC_HI of output `i` lies (04 R120). -/
def toutSecHiLoc (i : Nat) : RegLoc := ⟨0x20000, 0, .sys, ⟨0x014, 1, fun _ => 0x0, [⟨0, 32, .rw, [], false⟩]⟩, i, 0⟩

theorem escReg_toutSecHi {i : Nat} (hi : i < 4) : EscReg (A.TOUT_SEC_HI i) (toutSecHiLoc i) := by
  interval_cases i
  all_goals exact ⟨by decide, by decide, by decide, rfl, rfl, by decide, by decide⟩

/-- A write of TOUT_SEC_HI arms its output in NETTIME (04 R117). -/
theorem timedAct_toutSecHi {i : Nat} (hi : i < 4) (d : Word) {s : State} (hmode : toutMode s i 1 = true) :
    timedAct (A.TOUT_SEC_HI i) d s = toutLate (toutArmed s i) i := by
  have hidx : (A.TOUT_SEC_HI i - 0x20600) / 0x20 = i := by simp only [A.TOUT_SEC_HI]; omega
  have hnot : ¬ (0x20600 ≤ A.TOUT_SEC_HI i ∧ A.TOUT_SEC_HI i < 0x20680 ∧ A.TOUT_SEC_HI i % 0x20 = 0) := by
    simp only [A.TOUT_SEC_HI]; omega
  have hin : 0x20600 ≤ A.TOUT_SEC_HI i ∧ A.TOUT_SEC_HI i < 0x20680 ∧ A.TOUT_SEC_HI i % 0x20 = 0x14 := by
    simp only [A.TOUT_SEC_HI]; omega
  rw [timedAct, if_neg hnot, if_pos hin]
  simp only [hidx, hmode, if_true]
  rfl

/-- Where NTT_CTRL of trigger `i` lies (04 R120). -/
def nttCtrlLoc (i : Nat) : RegLoc :=
  ⟨0x20000, 0, .sys, ⟨0x00C, 1, fun _ => 0x0,
    [⟨31, 1, .w1s, [], false⟩, ⟨2, 1, .ro, [], false⟩, ⟨1, 1, .rw, [], false⟩, ⟨0, 1, .ro, [], false⟩]⟩, i, 0⟩

theorem escReg_nttCtrl {i : Nat} (hi : i < 4) : EscReg (F.NTT_CTRL_ARM i).addr (nttCtrlLoc i) := by
  interval_cases i
  all_goals exact ⟨by decide, by decide, by decide, rfl, rfl, by decide, by decide⟩

/-- What a write in the blocks of the timed outputs and triggers stores lies there. -/
theorem reg_stored_low {a b : Nat} (ha : 0x20600 ≤ a) (hb : b < 0x20000) (l : RegLoc) (r : Requester) (d : Word) (s : State) :
    reg (storeReg l a d (lowerTaken r a s)) b = reg s b := by
  rw [reg_storeReg_other (by omega) (by omega), reg_lowerTaken_other (by omega) (by omega)]

/-- Arming a NETTIME output leaves it armed, or done with its target passed; with targets held it stays armed. -/
theorem toutArm_shows {t d i : Nat} {r : Requester} {s : State} (hi : i < 4) (hacc : Accepts t r (A.TOUT_SEC_HI i) d s)
    (hmode : toutMode s i 1 = true) :
    (∃ done, ToutShows i (!done) done (accessW t r (A.TOUT_SEC_HI i) d s)) ∧
      (targetsHeld s = true → flag (accessW t r (A.TOUT_SEC_HI i) d s) (F.TOUT_STATUS_ARMED i) = true) := by
  have hplace : 0x20600 ≤ A.TOUT_SEC_HI i := by simp only [A.TOUT_SEC_HI]; omega
  obtain ⟨-, hreg⟩ := (escReg_toutSecHi hi).write hacc fun h => by simp only [A.TOUT_SEC_HI] at h; omega
  have hesc : (storeReg (toutSecHiLoc i) (A.TOUT_SEC_HI i) (word d) (lowerTaken r (A.TOUT_SEC_HI i) (at' t s))).esc = s.esc := by
    rw [storeReg_esc, lowerTaken_esc, at_esc]
  rw [pageAct_timed hplace, timedAct_toutSecHi hi _ ((toutMode_congr hesc i 1).trans hmode)] at hreg
  have hstatus := hreg (0x20618 + 0x20 * i) (by omega)
  constructor
  · obtain ⟨done, hshows⟩ := toutShows_toutLate (toutShows_toutArmed
      (storeReg (toutSecHiLoc i) (A.TOUT_SEC_HI i) (word d) (lowerTaken r (A.TOUT_SEC_HI i) (at' t s))) i)
    exact ⟨done, hshows.congr hstatus⟩
  · intro hheld
    rw [toutLate_held] at hstatus
    · exact ((toutShows_toutArmed _ i).congr hstatus).armed
    · refine (targetsHeld_congr ?_).trans hheld
      exact (reg_toutArmed (by simp only; omega) _).trans (reg_stored_low hplace (by decide) _ _ _ _)

/-! ## Pulses (04 R117) -/

/-- The pulse of a negative OFFSET is placed among those to begin, and in no other part. -/
theorem toutEarly_eq (t i : Nat) (s : State) : ∃ bursts placed,
    toutEarly t i s = { s with esc := { s.esc with bursts := bursts, toutDone := placed } } := by
  unfold toutEarly
  dsimp only
  split
  · exact ⟨_, _, rfl⟩
  · exact ⟨_, _, rfl⟩

theorem toutEarly_at' (t k i : Nat) (s : State) : toutEarly t i (at' k s) = at' k (toutEarly t i s) := by
  unfold toutEarly
  dsimp only
  rw [apply_ite (at' k)]
  rfl

/-- A FRAME pulse that is due lasts its width; an active pulse is extended. -/
theorem toutPulse_frame {t i : Nat} {x : Burst} {s : State} (h : (toutEarly t i s).esc.bursts.find? (fun y => decide (y.out = i) &&
    decide (y.start ≤ t)) = some x) (hmode : toutMode s i 0 = true) :
    pget 0 (toutPulse t i s).esc.pulses i = max (pget 0 s.esc.pulses i) (x.start + nsec x.width) := by
  obtain ⟨bursts, placed, hearly⟩ := toutEarly_eq t i s
  have hmode' : ∀ l, toutMode { toutEarly t i s with esc := { (toutEarly t i s).esc with bursts := l } } i 0 = true := by
    rw [hearly]
    exact fun _ => hmode
  have hpulses : (toutEarly t i s).esc.pulses = s.esc.pulses := by rw [hearly]
  simp only [toutPulse, h, hmode', if_true]
  rw [← hpulses]
  exact pget_pset_same _ _ _ _

/-- A NETTIME output whose target is reached fires. -/
theorem toutShows_toutPulse {t i : Nat} {s : State} (h : (toutEarly t i s).esc.bursts.find? (fun y => decide (y.out = i) &&
    decide (y.start ≤ t)) = none) (hmode : toutMode s i 1 = true) (harmed : flag s (F.TOUT_STATUS_ARMED i) = true)
    (hheld : targetsHeld s = false) (hreached : toutReached s i = true) : ToutShows i false true (toutPulse t i s) := by
  obtain ⟨bursts, placed, hearly⟩ := toutEarly_eq t i s
  have hfires : toutMode (toutEarly t i s) i 1 = true ∧ flag (toutEarly t i s) (F.TOUT_STATUS_ARMED i) = true ∧
      (!(targetsHeld (toutEarly t i s))) = true ∧ toutReached (toutEarly t i s) i = true := by
    rw [hearly]
    exact ⟨hmode, harmed, congrArg not hheld, hreached⟩
  simp only [toutPulse, h]
  rw [if_pos hfires]
  exact toutShows_toutFire _ _ _ _

/-- A pulse whose end has come is over. -/
theorem toutPulseEnd_over {t i : Nat} {s : State} (h : pget 0 s.esc.pulses i ≤ t) :
    pget 0 (toutPulseEnd t i s).esc.pulses i = 0 := by
  rw [toutPulseEnd, if_pos h]
  exact pget_pset_same _ _ _ _

/-! ## Network-timed triggers (04 R118, R119) -/

/-- A trigger event writes no register below those of ACQ. -/
theorem reg_trigEvent_belowAcq {a : Nat} (ha : a < 0x40000) (hev : ¬ evfReg a) (s : State) (b instant : Nat) (forced : Bool)
    (mask : Option (Nat × Nat)) : reg (trigEvent s b instant forced mask) a = reg s a := by
  have honAcq : ∀ u f, reg (onAcq u f) a = reg u a := fun _ _ => rfl
  have hraise : ∀ u f, f.addr = 0x40010 → reg (raise u f) a = reg u a := fun u f hf =>
    reg_raise_other u f a hev (by rw [hf]; omega)
  have hbump : ∀ u k, 0x40000 ≤ k → reg (bump u k) a = reg u a := fun u k hk => reg_bump_other u k a (by omega) (by omega)
  unfold trigEvent
  simp (disch := decide) only [reg_ite, hraise, hbump, honAcq, ite_self]

/-- What NTT_CTRL of trigger `i` shows: ARM and FIRED. -/
structure NttShows (i : Nat) (armed fired : Bool) (s : State) : Prop where
  armed : flag s (F.NTT_CTRL_ARM i) = armed
  fired : flag s (F.NTT_CTRL_FIRED i) = fired

theorem NttShows.congr {i : Nat} {a f : Bool} {s u : State} (h : NttShows i a f s)
    (hreg : reg u (0x2070C + 0x10 * i) = reg s (0x2070C + 0x10 * i)) : NttShows i a f u :=
  ⟨(flag_congr (f := F.NTT_CTRL_ARM i) hreg).trans h.armed, (flag_congr (f := F.NTT_CTRL_FIRED i) hreg).trans h.fired⟩

/-- LATE lies between ARM and FIRED. -/
theorem NttShows.wr_late {i : Nat} {a f : Bool} {s : State} (h : NttShows i a f s) (v : Nat) :
    NttShows i a f (wr s (F.NTT_CTRL_LATE i) v) :=
  ⟨(flag_wr_field _ _ _ _ (by simp) (.inr (by simp))).trans h.armed,
    (flag_wr_field _ _ _ _ (by simp) (.inl (by simp))).trans h.fired⟩

/-- An event of ESC leaves NTT_CTRL. -/
theorem NttShows.raise {i : Nat} {a f : Bool} {s : State} (h : NttShows i a f s) (e : Fld) (he : e.addr = 0x20010) :
    NttShows i a f (raise s e) :=
  h.congr (reg_raise_other _ _ _ (not_evfReg_of_ge (by omega)) (by rw [he]; omega))

/-- A trigger that fires has FIRED and is no longer armed. -/
theorem nttShows_nttFire {i : Nat} (hi : i < 4) (s : State) (instant : Nat) (late : Bool) :
    NttShows i false true (nttFire s i instant late) := by
  have hfired : NttShows i false true (wr (wr s (F.NTT_CTRL_ARM i) 0) (F.NTT_CTRL_FIRED i) 1) :=
    ⟨(flag_wr_field _ _ _ _ (by simp) (.inr (by simp))).trans (flag_wr_zero _ _ (by simp) rfl), flag_wr_one _ _ (by simp) rfl⟩
  unfold nttFire
  extract_lets shown told
  have hshown : NttShows i false true shown := hfired.raise _ rfl
  have htold : NttShows i false true told := by
    dsimp only [told]
    split
    · exact (hshown.wr_late 1).raise _ rfl
    · exact hshown
  split
  · exact htold.congr (reg_trigEvent_belowAcq (by omega) (not_evfReg_of_ge (by omega)) _ _ _ _ _)
  · exact htold

/-- The state in which trigger `i` is armed anew. -/
def nttArmed (s : State) (i : Nat) : State :=
  wr (wr (wr s (F.NTT_CTRL_ARM i) 1) (F.NTT_CTRL_FIRED i) 0) (F.NTT_CTRL_LATE i) 0

theorem nttShows_nttArmed (s : State) (i : Nat) : NttShows i true false (nttArmed s i) :=
  NttShows.wr_late ⟨(flag_wr_field _ _ _ _ (by simp) (.inr (by simp))).trans (flag_wr_one _ _ (by simp) rfl),
    flag_wr_zero _ _ (by simp) rfl⟩ 0

theorem reg_nttArmed {i b : Nat} (h : b ≠ 0x2070C + 0x10 * i) (s : State) : reg (nttArmed s i) b = reg s b :=
  (reg_wr_other _ _ _ _ h).trans ((reg_wr_other _ _ _ _ h).trans (reg_wr_other s _ _ _ h))

/-- An armed trigger stays armed, or fires late. -/
theorem nttShows_nttLate {s : State} {i : Nat} (hi : i < 4) (h : NttShows i true false s) :
    ∃ fired, NttShows i (!fired) fired (nttLate s i) := by
  unfold nttLate
  split
  · exact ⟨true, nttShows_nttFire hi _ _ _⟩
  · exact ⟨false, h⟩

/-- With targets held no trigger fires late (04 R119). -/
theorem nttLate_held {s : State} (i : Nat) (h : targetsHeld s = true) : nttLate s i = s := by
  rw [nttLate, if_neg (by simp [h])]

/-- A write of ARM arms its trigger (04 R118). -/
theorem timedAct_nttCtrl {i : Nat} (hi : i < 4) {d : Word} (hbit : bit d 31 = true) (s : State) :
    timedAct (F.NTT_CTRL_ARM i).addr d s = nttLate (nttArmed s i) i := by
  have hidx : ((F.NTT_CTRL_ARM i).addr - 0x20700) / 16 = i := by simp only; omega
  have hin : 0x20700 ≤ (F.NTT_CTRL_ARM i).addr ∧ (F.NTT_CTRL_ARM i).addr < 0x20740 ∧ (F.NTT_CTRL_ARM i).addr % 16 = 12 ∧
      bit d 31 = true := ⟨by simp only; omega, by simp only; omega, by simp only; omega, hbit⟩
  rw [timedAct, if_neg (by simp only; omega), if_neg (by simp only; omega), if_pos hin]
  simp only [hidx]
  rfl

/-- A word with a bit set has it. -/
theorem bit_withBit (d : Nat) {k : Nat} (hk : k < 32) : bit (word (withBit d k)) k = true := by
  have hword : word (withBit d k) = word d ||| word (2 ^ k) := by
    rw [withBit, word, BitVec.ofNat_toNat, BitVec.setWidth_eq]
  have hpow : (word (2 ^ k)).toNat = 2 ^ k := Nat.mod_eq_of_lt (Nat.pow_lt_pow_right (by decide) hk)
  rw [bit, hword, BitVec.toNat_or, Nat.testBit_or, hpow, Nat.testBit_two_pow_self, Bool.or_true]

/-- Arming a trigger leaves it armed, or fired with its target passed; with targets held it stays armed. -/
theorem nttArm_shows {t d i : Nat} {r : Requester} {s : State} (hi : i < 4)
    (hacc : Accepts t r (F.NTT_CTRL_ARM i).addr (withBit d 31) s) :
    (∃ fired, NttShows i (!fired) fired (accessW t r (F.NTT_CTRL_ARM i).addr (withBit d 31) s)) ∧
      (targetsHeld s = true → flag (accessW t r (F.NTT_CTRL_ARM i).addr (withBit d 31) s) (F.NTT_CTRL_ARM i) = true) := by
  have hplace : 0x20600 ≤ (F.NTT_CTRL_ARM i).addr := by simp only; omega
  obtain ⟨-, hreg⟩ := (escReg_nttCtrl hi).write hacc fun h => by simp only at h; omega
  rw [pageAct_timed hplace, timedAct_nttCtrl hi (bit_withBit d (by decide))] at hreg
  have hctrl := hreg (0x2070C + 0x10 * i) (by omega)
  constructor
  · obtain ⟨fired, hshows⟩ := nttShows_nttLate hi (nttShows_nttArmed (storeReg (nttCtrlLoc i) (F.NTT_CTRL_ARM i).addr
      (word (withBit d 31)) (lowerTaken r (F.NTT_CTRL_ARM i).addr (at' t s))) i)
    exact ⟨fired, hshows.congr hctrl⟩
  · intro hheld
    rw [nttLate_held] at hctrl
    · exact ((nttShows_nttArmed _ i).congr hctrl).armed
    · refine (targetsHeld_congr ?_).trans hheld
      exact (reg_nttArmed (by simp only; omega) _).trans (reg_stored_low hplace (by decide) _ _ _ _)

/-- A trigger whose target is reached fires. -/
theorem nttShows_nttFired {i : Nat} {s : State} (hi : i < 4) (harm : flag s (F.NTT_CTRL_ARM i) = true)
    (hheld : targetsHeld s = false) (hreached : nttReached s i = true) : NttShows i false true (nttFired i s) := by
  rw [nttFired, if_pos ⟨harm, by simp [hheld], hreached⟩]
  exact nttShows_nttFire hi _ _ _

/-- Settles O18: arming, firing and the late targets each write the status register whole, and the rest of a write leaves it. -/
theorem timedOutputs : Obligations.TimedOutputs := by
  refine ⟨fun t r i d s hi hacc hmode => ?_, fun t i x s h hmode => ⟨_, rfl, ?_⟩,
    fun t i s _ h hmode harmed hheld hreached => ⟨_, rfl, ?_⟩, fun t i s h => ⟨_, rfl, toutPulseEnd_over (s := at' t s) h⟩,
    fun t r i d s hi hacc => ?_, fun t i s hi harm hheld hreached => ⟨_, rfl, ?_⟩⟩
  · obtain ⟨⟨done, hshows⟩, hstays⟩ := toutArm_shows hi hacc hmode
    refine ⟨_, congrArg (fun k => Host.Outcome.next (accessW t r (A.TOUT_SEC_HI k) d s)) (Nat.mod_eq_of_lt hi), ?_, hstays⟩
    rw [hshows.armed, hshows.done]
  · rw [← at_esc t (toutEarly t i s), ← toutEarly_at'] at h
    exact toutPulse_frame (s := at' t s) h hmode
  · rw [← at_esc t (toutEarly t i s), ← toutEarly_at'] at h
    have hshows := toutShows_toutPulse (s := at' t s) h hmode harmed hheld hreached
    exact ⟨hshows.done, hshows.armed⟩
  · obtain ⟨⟨fired, hshows⟩, hstays⟩ := nttArm_shows hi hacc
    refine ⟨_, congrArg (fun k => Host.Outcome.next (accessW t r (F.NTT_CTRL_ARM k).addr (withBit d 31) s))
      (Nat.mod_eq_of_lt hi), ?_, hstays⟩
    rw [hshows.armed, hshows.fired]
  · have hshows := nttShows_nttFired (s := at' t s) hi harm hheld hreached
    exact ⟨hshows.fired, hshows.armed⟩

end Sys2Proof.Machine
end

section
/-!
SUPPORT. What the records, products and samples of a pixel leave of the Vat: all of it (05 R139 to R142; 06 R156 to R174; 07 R187
to R205).
-/

namespace Sys2Proof.Machine

/-! ## Small updates and samples -/

theorem vat_ite (c : Prop) [Decidable c] (x y : State) : (if c then x else y).vat = if c then x.vat else y.vat :=
  apply_ite State.vat c x y

@[simp] theorem onAcq_vat (s : State) (f : Acq → Acq) : (onAcq s f).vat = s.vat := rfl
@[simp] theorem onFrame_vat (s : State) (n : Nat) (f : Frame → Frame) : (onFrame s n f).vat = s.vat := rfl
@[simp] theorem onSeq_vat (s : State) (n : Nat) (f : Seq → Seq) : (onSeq s n f).vat = s.vat := rfl
@[simp] theorem onPair_vat (s : State) (f : Pair → Pair) : (onPair s f).vat = s.vat := rfl
@[simp] theorem onBuf_vat (s : State) (n : Nat) (f : VidBuf → VidBuf) : (onBuf s n f).vat = s.vat := rfl
@[simp] theorem setLatest_vat (s : State) (x : Option (Nat × Nat)) : (setLatest s x).vat = s.vat := rfl
@[simp] theorem pushRec_vat (s : State) (i : Nat) (r : Rec) : (pushRec s i r).vat = s.vat := rfl
@[simp] theorem insertMark_vat (s : State) (i : Nat) (m : Mark) : (insertMark s i m).vat = s.vat := rfl
@[simp] theorem setQueue_vat (s : State) (k : Nat) (q : Queue) : (setQueue s k q).vat = s.vat := rfl
@[simp] theorem touchPool_vat (s : State) : (touchPool s).vat = s.vat := rfl
@[simp] theorem setLampEng_vat (s : State) (e : Nat) (x : LampEng) : (setLampEng s e x).vat = s.vat := rfl
@[simp] theorem stopScheduling_vat (s : State) : (stopScheduling s).vat = s.vat := rfl
@[simp] theorem setMon_vat (s : State) (m : Nat) (x : Stat) : (setMon s m x).vat = s.vat := rfl
@[simp] theorem pruneFrames_vat (s : State) : (pruneFrames s).vat = s.vat := rfl

@[simp] theorem monAdd_vat (s : State) (m : Nat) (v : Int) : (monAdd s m v).vat = s.vat := by
  simp only [monAdd, vat_ite, setMon_vat, wr_vat, takeFree_vat, ite_self]

@[simp] theorem monSample_vat (s : State) (src arg : Nat) (v : Int) : (monSample s src arg v).vat = s.vat := by
  unfold monSample
  split
  · rfl
  · exact foldl_keeps State.vat (fun u m => by simp only [vat_ite, monAdd_vat, ite_self]) _ s

@[simp] theorem bump31_vat (s : State) (a n : Nat) : (bump31 s a n).vat = s.vat := by
  simp only [bump31, vat_ite, setReg_vat, ite_self]

/-! ## Sequences and streams -/

@[simp] theorem pushSeq_vat (s : State) (typ frame pos : Nat) (ws : List Word) : (pushSeq s typ frame pos ws).vat = s.vat :=
  foldl_keeps State.vat (fun u _ => pushRec_vat u _ _) _ s

@[simp] theorem pushRing_vat (s : State) (e : RingEnt) : (pushRing s e).vat = s.vat :=
  foldl_keeps State.vat (fun u _ => pushRec_vat u _ _) _ s

@[simp] theorem feedFront_vat (s : State) (num o : Nat) : (feedFront s num o).vat = s.vat := by
  unfold feedFront
  split
  · rfl
  · rw [onSeq_vat, foldl_keeps State.vat fun u m => pushSeq_vat u _ _ _ _, foldl_keeps State.vat pushRing_vat]

@[simp] theorem feedSeq_vat (num n : Nat) (s : State) : (feedSeq num n s).vat = s.vat := by
  induction n generalizing s with
  | zero => rfl
  | succ n ih =>
    unfold feedSeq
    split
    · rfl
    · simp only [vat_ite, wr_vat, onSeq_vat, pushSeq_vat, ih, foldl_keeps State.vat pushRing_vat, feedFront_vat, ite_self]

@[simp] theorem feedAll_vat (s : State) : (feedAll s).vat = s.vat := foldl_keeps State.vat (fun u _ => feedSeq_vat _ _ u) _ s

@[simp] theorem seqStop_vat (s : State) : (seqStop s).vat = s.vat := by rw [seqStop, feedAll_vat, onAcq_vat]

@[simp] theorem placeMark_vat (s : State) (f : Frame) (m : Mark) : (placeMark s f m).vat = s.vat :=
  foldl_keeps State.vat (fun u i => insertMark_vat u i m) _ s

@[simp] theorem pushSlice_vat (s : State) (frame pos : Nat) (l : List PixOut) (st : Nat) :
    (pushSlice s frame pos l st).vat = s.vat := by
  simp only [pushSlice, vat_ite, pushRec_vat, ite_self]

@[simp] theorem emitPos_vat (s : State) (f : Frame) (pos : Nat) (l : List PixOut) : (emitPos s f pos l).vat = s.vat := by
  rw [emitPos, onFrame_vat, foldl_keeps State.vat fun u x => pushRec_vat u _ _,
    foldl_keeps State.vat fun u x => pushSlice_vat u _ _ _ x]

/-! ## Tiles, the preview and the mask -/

@[simp] theorem pairSend_vat (s : State) (sub bytes : Nat) (body : List Word) : (pairSend s sub bytes body).vat = s.vat := by
  unfold pairSend
  split
  · rw [queueFrame_vat, onPair_vat]
  · rfl

@[simp] theorem cmpTile_vat (s : State) (r frame tile valid dsum : Nat) : (cmpTile s r frame tile valid dsum).vat = s.vat := by
  simp only [cmpTile, vat_ite, onPair_vat, pairSend_vat, ite_self]

@[simp] theorem cmpJudge_vat (s : State) (frame : Nat) : (cmpJudge s frame).vat = s.vat := by
  simp only [cmpJudge, vat_ite, raise_vat, bump_vat, onPair_vat, ite_self]

@[simp] theorem cmpEnd_vat (s : State) (frame : Nat) (stopped : Bool) : (cmpEnd s frame stopped).vat = s.vat := by
  simp only [cmpEnd, vat_ite, cmpJudge_vat, onPair_vat, pairSend_vat, ite_self]

@[simp] theorem tilePixel_vat (num pos : Nat) (x : PixOut) (col : Nat) (s : State) (r : Nat) :
    (tilePixel num pos x col s r).vat = s.vat := by
  unfold tilePixel
  split
  · rfl
  · simp only [vat_ite, cmpTile_vat, onFrame_vat, ite_self]

@[simp] theorem vidPixel_vat (s : State) (frame row col p1 p2 : Nat) : (vidPixel s frame row col p1 p2).vat = s.vat := by
  unfold vidPixel
  split
  · simp only [vat_ite, onBuf_vat, ite_self]
  · rfl

@[simp] theorem bufferEnd_vat (s : State) (b : VidBuf) (i : Nat) (stopped : Bool) : (bufferEnd s b i stopped).vat = s.vat := by
  simp only [bufferEnd, vat_ite, bump_vat, setLatest_vat, ite_self]

@[simp] theorem giveBuffer_vat (s : State) (frame : Nat) : (giveBuffer s frame).vat = s.vat := by
  unfold giveBuffer
  split
  · simp only [onBuf_vat, vat_ite, setLatest_vat, raise_vat, bump_vat, ite_self]
  · rfl

@[simp] theorem vidFrameEnd_vat (s : State) (frame : Nat) (stopped : Bool) : (vidFrameEnd s frame stopped).vat = s.vat := by
  have hend : ∀ b : VidBuf, (match b.idx with
      | some i => bufferEnd s b i stopped
      | none => if stopped then bump s A.VID_C_SRC_DISCARD else raise (bump s A.VID_C_SRC_DROP) F.VID_EVT_RAW_SRC_DROP).vat =
        s.vat := by
    intro b
    split
    · exact bufferEnd_vat s b _ stopped
    · simp only [vat_ite, raise_vat, bump_vat, ite_self]
  unfold vidFrameEnd
  split
  · rfl
  · dsimp only
    split
    · exact (giveBuffer_vat _ _).trans (hend _)
    · exact hend _

@[simp] theorem trigEvent_vat (s : State) (b instant : Nat) (forced : Bool) (mask : Option (Nat × Nat)) :
    (trigEvent s b instant forced mask).vat = s.vat := by
  simp only [trigEvent, vat_ite, raise_vat, bump_vat, onAcq_vat, ite_self]

@[simp] theorem lampEngStart_vat (s : State) (e : Nat) : (lampEngStart s e).vat = s.vat := by
  simp only [lampEngStart, setLampEng_vat, vat_ite, bump_vat, ite_self]

@[simp] theorem lmpEdge_vat (s : State) (src : Nat) (rise : Bool) : (lmpEdge s src rise).vat = s.vat :=
  foldl_keeps State.vat (fun u e => by simp only [vat_ite, lampEngStart_vat, setLampEng_vat, ite_self]) _ s

@[simp] theorem maskStop_vat (s : State) (num : Nat) : (maskStop s num).vat = s.vat := by
  simp only [maskStop, stopScheduling_vat, raise_vat, onAcq_vat, onFrame_vat, wr_vat, seqStop_vat, lmpEdge_vat]

@[simp] theorem maskViolation_vat (s : State) (num pos : Nat) : (maskViolation s num pos).vat = s.vat := by
  simp only [maskViolation, vat_ite, maskStop_vat, trigEvent_vat, setReg_vat, setWide_vat, raise_vat, bump_vat, onFrame_vat,
    ite_self]

@[simp] theorem maskPixel_vat (num pos row col p1 : Nat) (s : State) : (maskPixel num pos row col p1 s).vat = s.vat := by
  unfold maskPixel
  split
  · rfl
  · simp only [vat_ite, maskViolation_vat, onFrame_vat, ite_self]

/-! ## The end of a frame and what leaves with it -/

@[simp] theorem endFrame_vat (s : State) (f : Frame) : (endFrame s f).vat = s.vat := by
  have htile : ∀ (u : State) (x : Nat × Option TileAcc), (match x.2 with
      | some t => cmpTile (pushRec u (8 * (x.1 / 2 ^ 32) + 3)
          (plainRec 0x13 f.num f.lastPos u.now (tileWords f.num (x.1 % 2 ^ 32) t)))
          (x.1 / 2 ^ 32) f.num (x.1 % 2 ^ 32) t.valid t.dsum
      | none => u).vat = u.vat := by
    intro u x
    split
    · rw [cmpTile_vat, pushRec_vat]
    · rfl
  simp only [endFrame, pruneFrames_vat, onFrame_vat, cmpEnd_vat, vidFrameEnd_vat, vat_ite, raise_vat, bump_vat, wr_vat, ite_self]
  rw [foldl_keeps State.vat fun u x => pushRec_vat u _ _]
  exact foldl_keeps State.vat htile _ s

@[simp] theorem flushFrame_vat (num n : Nat) (s : State) : (flushFrame num n s).vat = s.vat := by
  induction n generalizing s with
  | zero => rfl
  | succ n ih =>
    unfold flushFrame
    split
    · rfl
    · split
      · rfl
      · dsimp only
        split
        · split
          · split
            · rw [ih, placeMark_vat]
            · rfl
          · rw [ih, emitPos_vat]
        · split
          · rw [ih, placeMark_vat]
          · rfl
        · rw [ih, emitPos_vat]
        · rw [vat_ite, endFrame_vat, ite_self]

@[simp] theorem pushHeads_vat (s : State) (f : Frame) : (pushHeads s f).vat = s.vat :=
  foldl_keeps State.vat (fun u _ => pushRec_vat u _ _) _ s

@[simp] theorem flushList_vat (l : List Frame) (s : State) : (flushList l s).vat = s.vat := by
  induction l generalizing s with
  | nil => rfl
  | cons f l ih => simp only [flushList, vat_ite, ih, flushFrame_vat, pushHeads_vat, ite_self]

@[simp] theorem flushFrames_vat (s : State) : (flushFrames s).vat = s.vat := by rw [flushFrames, feedAll_vat, flushList_vat]

@[simp] theorem pixelOut_vat (s : State) (x : Closing) (recs : List (List Word)) : (pixelOut s x recs).vat = s.vat := by
  unfold pixelOut
  dsimp only
  split
  · rfl
  · rw [vat_ite]
    split
    · rfl
    · rw [flushFrames_vat, maskPixel_vat, vidPixel_vat, foldl_keeps State.vat fun u r => tilePixel_vat _ _ _ _ u _, onFrame_vat]

/-! ## Queues -/

@[simp] theorem settleQueue_vat (s : State) (k : Nat) : (settleQueue s k).vat = s.vat := by
  simp only [settleQueue, vat_ite, setQueue_vat, ite_self]

@[simp] theorem applyQueue_vat (s : State) (k : Nat) : (applyQueue s k).vat = s.vat := by
  simp only [applyQueue, vat_ite, settleQueue_vat, setQueue_vat, setReg_vat, ite_self]

@[simp] theorem poolWatch_vat (n k : Nat) (s : State) : (poolWatch n k s).vat = s.vat := by
  simp only [poolWatch, monSample_vat, vat_ite, raise_vat, wr_vat, ite_self]

@[simp] theorem takeIn_vat (s : State) (k : Nat) (r : QRec) : (takeIn s k r).vat = s.vat := by
  simp only [takeIn, poolWatch_vat, touchPool_vat, setQueue_vat]

@[simp] theorem discard_vat (s : State) (k : Nat) (r : QRec) : (discard s k r).vat = s.vat := by
  simp only [discard, bump_vat, bump31_vat, setQueue_vat, vat_ite, setReg_vat, raise_vat, ite_self]

@[simp] theorem enterRec_vat (s : State) (k : Nat) (r : QRec) : (enterRec s k r).vat = s.vat := by
  simp only [enterRec, vat_ite, takeIn_vat, discard_vat, applyQueue_vat, ite_self]

@[simp] theorem drainWait_vat (n k : Nat) (s : State) : (drainWait n k s).vat = s.vat := by
  induction n generalizing s with
  | zero => rfl
  | succ n ih =>
    unfold drainWait
    dsimp only
    split
    · simp only [vat_ite, ih, enterRec_vat, setQueue_vat, ite_self]
    · rfl

@[simp] theorem drainAll_vat (s : State) : (drainAll s).vat = s.vat :=
  foldl_keeps State.vat (fun u p => by simp only [vat_ite, drainWait_vat, ite_self]) _ s

/-! ## Extraction and point records -/

@[simp] theorem bgOf_vat (s : State) (p : Pixel) (c : Ctx) : (bgOf s p c).2.2.vat = s.vat := by
  unfold bgOf
  split
  · split <;> rfl
  · rfl

@[simp] theorem walkOf_vat (s : State) (r : RetCfg) (o : Oct) : (walkOf s r o).2.2.vat = s.vat := by
  unfold walkOf
  dsimp only
  split
  · rfl
  · rfl
  · split <;> rfl

@[simp] theorem candOf_vat (s : State) (p : Pixel) (c : Ctx) (b : Nat) (fell : Bool) (run : Nat × Nat) :
    (candOf s p c b fell run).2.vat = s.vat := by
  simp only [candOf, apply_ite Prod.snd, vat_ite, takeFree_vat, walkOf_vat, ite_self]

@[simp] theorem candsOf_vat (s : State) (p : Pixel) (c : Ctx) (b : Nat) (fell : Bool) :
    (candsOf s p c b fell).2.2.vat = s.vat :=
  List.foldlRecOn (motive := fun acc : List Cand × State => acc.2.vat = s.vat) _ _ rfl
    fun acc hacc run _ => (candOf_vat acc.2 p c b fell run).trans hacc

@[simp] theorem extract_vat (s : State) (x : Closing) (zooms : List Ctx) (c : Ctx) : (extract s x zooms c).2.vat = s.vat := by
  simp only [extract, candsOf_vat, vat_ite, raise_vat, bump_vat, bgOf_vat, ite_self]

@[simp] theorem foreignCand_vat (s : State) (p : Pixel) (d : Nat × Nat × Nat) (x : Cand) :
    (foreignCand s p d x).2.vat = s.vat := by
  simp only [foreignCand, apply_ite Prod.snd, vat_ite, takeFree_vat, ite_self]

@[simp] theorem foreignTest_vat (s : State) (p : Pixel) (l : List Cand) : (foreignTest s p l).2.vat = s.vat := by
  unfold foreignTest
  split
  · rfl
  · split
    · exact List.foldlRecOn (motive := fun acc : List Cand × State => acc.2.vat = s.vat) _ _ (by rw [raise_vat, bump_vat])
        fun acc hacc x _ => (foreignCand_vat acc.2 p _ x).trans hacc
    · rfl

@[simp] theorem countReturns_vat (s : State) (l : List Cand) : (countReturns s l).vat = s.vat := by
  simp only [countReturns, vat_ite, raise_vat, bumpBy_vat, ite_self]

@[simp] theorem countExcess_vat (s : State) (excess : Bool) : (countExcess s excess).vat = s.vat := by
  simp only [countExcess, vat_ite, raise_vat, bump_vat, ite_self]

@[simp] theorem setLastQ_vat (s : State) (g : Nat) (q : Int) : (setLastQ s g q).vat = s.vat := by
  simp only [setLastQ, vat_ite, setReg_vat, takeFree_vat, ite_self]

@[simp] theorem pixelRecords_vat (s : State) (x : Closing) (takeover : Bool) : (pixelRecords s x takeover).2.vat = s.vat := by
  unfold pixelRecords
  dsimp only
  split
  · simp only [bump_vat, countExcess_vat, bumpBy_vat, countReturns_vat, foreignTest_vat]
  · simp only [setLastQ_vat, countExcess_vat, bumpBy_vat, countReturns_vat, foreignTest_vat]

@[simp] theorem refusedRecord_vat (s : State) (p : Pixel) (sat takeover : Bool) :
    (refusedRecord s p sat takeover).2.vat = s.vat :=
  bump_vat s _

/-! ## Counts of the Vat itself -/

@[simp] theorem p4Drop_vat (s : State) (p : PixelId) : (p4Drop s p).vat = s.vat := by
  unfold p4Drop
  dsimp only
  split
  · rw [raise_vat, bump_vat]
  · rw [vat_ite]
    split
    · rw [onFrame_vat, raise_vat, bump_vat]
    · split
      · rw [onSeq_vat, onAcq_vat, onFrame_vat, raise_vat, bump_vat]
      · rw [onAcq_vat, onFrame_vat, raise_vat, bump_vat]

@[simp] theorem countPixel_vat (s : State) (p : Pixel) : (countPixel s p).vat = s.vat := by
  simp only [countPixel, vat_ite, bump_vat, ite_self]

@[simp] theorem sampleOpen_vat (s : State) (n : Nat) : (sampleOpen s n).vat = s.vat := monSample_vat s _ _ _

@[simp] theorem watchFree_vat (s : State) (n before : Nat) : (watchFree s n before).vat = s.vat := by
  simp only [watchFree, vat_ite, raise_vat, wr_vat, ite_self]

@[simp] theorem watchBacklog_vat (s : State) (n : Nat) : (watchBacklog s n).vat = s.vat := by
  simp only [watchBacklog, vat_ite, wr_vat, ite_self]

end Sys2Proof.Machine
end

section
/-!
SUPPORT. The parts of the Vat after an update of one of them; then what markers and hit times do to the pixel of their channel
(05 R129, R130, R133, R138, R143).
-/

namespace Sys2Proof.Machine

/-! ## Engines, paths and pixels -/

theorem engine_congr {s u : State} (h : u.vat = s.vat) (n : Nat) : engine u n = engine s n := by rw [engine, engine, h]
theorem path_congr {s u : State} (h : u.vat = s.vat) (c : Nat) : path u c = path s c := by rw [path, path, h]
theorem pixel_congr {s u : State} (h : u.vat = s.vat) (c : Nat) : pixel u c = pixel s c := by rw [pixel, pixel, h]

@[simp] theorem engine_setEngine_same (s : State) (n : Nat) (e : Engine) : engine (setEngine s n e) n = e :=
  pget_pset_same _ _ _ _
@[simp] theorem path_setPath_same (s : State) (c : Nat) (l : List VatItem) : path (setPath s c l) c = l :=
  pget_pset_same _ _ _ _
@[simp] theorem pixel_setPixel_same (s : State) (c : Nat) (p : Option Pixel) : pixel (setPixel s c p) c = p :=
  pget_pset_same _ _ _ _

@[simp] theorem engine_setPath (s : State) (c : Nat) (l : List VatItem) (n : Nat) : engine (setPath s c l) n = engine s n := rfl
@[simp] theorem engine_setPixel (s : State) (c : Nat) (p : Option Pixel) (n : Nat) : engine (setPixel s c p) n = engine s n := rfl
@[simp] theorem path_setEngine (s : State) (n : Nat) (e : Engine) (c : Nat) : path (setEngine s n e) c = path s c := rfl
@[simp] theorem path_setPixel (s : State) (d : Nat) (p : Option Pixel) (c : Nat) : path (setPixel s d p) c = path s c := rfl
@[simp] theorem pixel_setEngine (s : State) (n : Nat) (e : Engine) (c : Nat) : pixel (setEngine s n e) c = pixel s c := rfl
@[simp] theorem pixel_setPath (s : State) (d : Nat) (l : List VatItem) (c : Nat) : pixel (setPath s d l) c = pixel s c := rfl

@[simp] theorem reg_setEngine (s : State) (n : Nat) (e : Engine) (a : Nat) : reg (setEngine s n e) a = reg s a := rfl
@[simp] theorem reg_setPath (s : State) (c : Nat) (l : List VatItem) (a : Nat) : reg (setPath s c l) a = reg s a := rfl
@[simp] theorem reg_setPixel (s : State) (c : Nat) (p : Option Pixel) (a : Nat) : reg (setPixel s c p) a = reg s a := rfl

/-- A context changed in its slot reads so. -/
theorem slot_onSlot_same {e : Engine} {k : Nat} {x : Ctx} (h : e.slot k = some x) (f : Ctx → Ctx) :
    (e.onSlot k f).slot k = some (f x) := by
  rw [Engine.onSlot, h]
  exact pget_pset_same _ _ _ _

/-! ## The current contexts of a pixel -/

@[simp] theorem pixel_onCurrent (s : State) (p : Pixel) (f : Ctx → Ctx) (c : Nat) : pixel (onCurrent s p f) c = pixel s c := rfl
@[simp] theorem reg_onCurrent (s : State) (p : Pixel) (f : Ctx → Ctx) (a : Nat) : reg (onCurrent s p f) a = reg s a := rfl

/-! ## Column starts (05 R133, R143) -/

/-- At the head of a free channel's path the marker of a pixel opens it or refuses it. -/
theorem columnStartMarker_begins {c : Nat} {p : PixelId} {l : List VatItem} {s : State} (hpath : path s c = .column p :: l)
    (hfree : pixel s c = none) :
    columnStartMarker c s = if flag s F.VAT_CTRL_ENABLE && fits (engine s (engOf c)) p then openPixel (setPath s c l) p
      else refusePixel (setPath s c l) p := by
  rw [columnStartMarker, hpath, hfree]
  rfl

theorem path_openPixel (s : State) (p : PixelId) (c : Nat) : path (openPixel s p) c = path s c := by
  simp only [openPixel, path, sampleOpen_vat, watchFree_vat]
  rfl

theorem pixel_openPixel (s : State) (p : PixelId) :
    ∃ k zooms, pixel (openPixel s p) p.chan = some (Pixel.start p false (some k) zooms) := by
  simp only [openPixel, pixel, sampleOpen_vat, watchFree_vat]
  exact ⟨_, _, pget_pset_same _ _ _ _⟩

theorem refusePixel_vat (s : State) (p : PixelId) :
    (refusePixel s p).vat = (setPixel s p.chan (some (Pixel.start p true none []))).vat := by
  simp only [refusePixel, wr_vat, raise_vat, bump_vat]

/-! ## Shot markers (05 R130, R138) -/

/-- A pixel that has taken a shot marker. -/
def Pixel.withShot (p : Pixel) (fired provisional subst : Bool) : Pixel :=
  { p with scheduled := p.scheduled + 1, fired := p.fired + b2n fired, provisional := p.provisional || provisional,
           subst := p.subst || subst }

theorem path_addShot (s : State) (p : Pixel) (fired : Bool) (d : Nat) (prov sub : Bool) (c : Nat) :
    path (addShot s p fired d prov sub) c = path s c := rfl

theorem pixel_addShot (s : State) (p : Pixel) (fired : Bool) (d : Nat) (prov sub : Bool) :
    pixel (addShot s p fired d prov sub) p.id.chan = some (p.withShot fired prov sub) :=
  pixel_setPixel_same s p.id.chan _

theorem reg_addShot (s : State) (p : Pixel) (fired : Bool) (d : Nat) (prov sub : Bool) (a : Nat) :
    reg (addShot s p fired d prov sub) a = reg s a := rfl

section
variable {c id d : Nat} {fired prov sub : Bool} {l : List VatItem} {p : Pixel} {s : State}
  (hpath : path s c = .shot id fired d prov sub :: l) (hpixel : pixel s c = some p)
include hpath hpixel

/-- During a search a shot marker waits in the hold buffer. -/
theorem shotMarker_holds (hsearch : p.phase = .search) :
    shotMarker c s = setPixel (setPath s c l) c (some { p with hold := p.hold ++ [.shot id fired d prov sub] }) := by
  simp only [shotMarker, hpath, hpixel, hsearch, if_true]

theorem shotMarker_adds (hsearch : p.phase ≠ .search) : shotMarker c s = addShot (setPath s c l) p fired d prov sub := by
  simp only [shotMarker, hpath, hpixel, hsearch, if_false]

end

/-! ## Hit times (05 R129, R138, R143) -/

/-- A pixel that has taken a hit time. -/
def Pixel.withHit (p : Pixel) (h : HitTime) : Pixel :=
  { p with settling := p.settling || h.settling, provisional := p.provisional || h.provisional, subst := p.subst || h.subst }

/-- A refused pixel counts its hits in NO_CONTEXT. -/
theorem addHit_refused {p : Pixel} (hrefused : p.refused = true) (s : State) (h : HitTime) :
    addHit s p h = bump (setPixel s p.id.chan (some (p.withHit h))) A.VAT_NO_CONTEXT :=
  if_pos hrefused

/-- A hit that no flag sets apart is counted and stored in the bin it falls in, and leaves the pixel. -/
theorem addHit_bins {s : State} {p : Pixel} {h : HitTime} {k i : Nat} (hrefused : p.refused = false)
    (hsettling : h.settling = false) (hdark : h.dark = false) (hsubst : h.subst = false) (hprov : h.provisional = false)
    (hbin : findBin (engine s (engOf p.id.chan)) p.current h.t = some (k, i)) :
    addHit s p h = setEngine (setPixel s p.id.chan (some p)) (engOf p.id.chan)
      ((engine s (engOf p.id.chan)).onSlot k fun c => (c.hit i).store i h) := by
  simp only [addHit, hsettling, hdark, hsubst, hprov, Bool.or_false, Bool.false_eq_true, if_false, engine_setPixel]
  rw [if_neg (ne_true_of_eq_false hrefused)]
  split
  · next hfound =>
    obtain ⟨rfl, rfl⟩ := Prod.mk.inj (Option.some.inj (hfound.symm.trans hbin))
    rfl
  · next hfound => cases hfound.symm.trans hbin

section
variable {c : Nat} {h : HitTime} {l : List VatItem} {s : State} (hpath : path s c = .hit h :: l)
include hpath

/-- A hit time without a pixel is counted in NO_CONTEXT. -/
theorem hitAccumulate_free (hfree : pixel s c = none) : hitAccumulate c s = bump (setPath s c l) A.VAT_NO_CONTEXT := by
  simp only [hitAccumulate, hpath, hfree]

/-- During a search a hit time waits in the hold buffer. -/
theorem hitAccumulate_holds {p : Pixel} (hpixel : pixel s c = some p) (hsearch : p.phase = .search) :
    hitAccumulate c s = setPixel (setPath s c l) c (some { p with hold := p.hold ++ [.hit h] }) := by
  simp only [hitAccumulate, hpath, hpixel, hsearch, if_true]

theorem hitAccumulate_adds {p : Pixel} (hpixel : pixel s c = some p) (hsearch : p.phase ≠ .search) :
    hitAccumulate c s = addHit (setPath s c l) p h := by
  simp only [hitAccumulate, hpath, hpixel, hsearch, if_false]

end

/-- Settles O19: by what the head of the path is, and by what the channel's pixel does with it. -/
theorem pixelsBegin : Obligations.PixelsBegin := by
  refine ⟨fun t c p l s hpath hfree hchan => ⟨_, rfl, ?_⟩,
    fun t c id fired d prov sub l p s hpath hpixel hchan => ⟨_, rfl, ?_⟩,
    fun t c h l s hpath hfree => ⟨_, rfl, ?_⟩, fun t c h l p s hpath hpixel hchan hrefused hsearch => ⟨_, rfl, ?_⟩,
    fun t c h l p s hpath hpixel hsearch => ⟨_, rfl, ?_⟩,
    fun t c h l p k i x s hpath hpixel hchan hrefused hsearch hsettling hdark hsubst hprov hbin hslot => ⟨_, rfl, ?_⟩⟩
  · rw [columnStartMarker_begins (s := at' t s) hpath hfree]
    subst hchan
    have hsame : (flag (at' t s) F.VAT_CTRL_ENABLE && fits (engine (at' t s) (engOf p.chan)) p) =
      (flag s F.VAT_CTRL_ENABLE && fits (engine s (engOf p.chan)) p) := rfl
    rw [hsame]
    cases flag s F.VAT_CTRL_ENABLE && fits (engine s (engOf p.chan)) p with
    | true =>
      obtain ⟨k, zooms, hopen⟩ := pixel_openPixel (setPath (at' t s) p.chan l) p
      rw [if_pos rfl, path_openPixel, path_setPath_same, hopen]
      exact ⟨rfl, rfl⟩
    | false =>
      rw [if_neg Bool.false_ne_true, path_congr (refusePixel_vat _ _), pixel_congr (refusePixel_vat _ _), pixel_setPixel_same,
        path_setPixel, path_setPath_same]
      exact ⟨rfl, rfl⟩
  · by_cases hsearch : p.phase = .search
    · rw [shotMarker_holds (s := at' t s) hpath hpixel hsearch, if_pos hsearch, pixel_setPixel_same, path_setPixel,
        path_setPath_same]
      exact ⟨rfl, rfl⟩
    · rw [shotMarker_adds (s := at' t s) hpath hpixel hsearch, if_neg hsearch, path_addShot, path_setPath_same, ← hchan,
        pixel_addShot]
      exact ⟨rfl, rfl⟩
  · rw [hitAccumulate_free (s := at' t s) hpath hfree, path_congr (bump_vat _ _), path_setPath_same, reg_bump_toNat]
    exact ⟨rfl, rfl⟩
  · rw [hitAccumulate_adds (s := at' t s) hpath hpixel hsearch, addHit_refused hrefused, path_congr (bump_vat _ _),
      path_setPixel, path_setPath_same, reg_bump_toNat]
    exact ⟨rfl, rfl⟩
  · rw [hitAccumulate_holds (s := at' t s) hpath hpixel hsearch, path_setPixel, path_setPath_same, pixel_setPixel_same]
    exact ⟨rfl, rfl⟩
  · subst hchan
    rw [hitAccumulate_adds (s := at' t s) hpath hpixel hsearch,
      addHit_bins (s := setPath (at' t s) p.id.chan l) hrefused hsettling hdark hsubst hprov hbin, path_setEngine, path_setPixel,
      path_setPath_same, engine_setEngine_same]
    exact ⟨rfl, slot_onSlot_same hslot _⟩

end Sys2Proof.Machine
end

section
/-!
SUPPORT. What the search of a pixel does with its hold buffer, and how the contexts of pixels that have ended close (05 R127, R134
to R139).
-/

namespace Sys2Proof.Machine

/-! ## The boundary and the search (05 R134 to R138) -/

/-- A pixel whose search begins. -/
def Pixel.searching (p : Pixel) (now : Nat) : Pixel := { p with phase := .search, coarseFired := p.fired, searchAt := now }

theorem boundaryMarker_searches {c a : Nat} {l : List VatItem} {p : Pixel} {s : State} (hpath : path s c = .boundary a :: l)
    (hpixel : pixel s c = some p) (hdue : hitsDue s c a = false) (hrefused : p.refused = false) (hpeaks : p.id.cfg.peaks ≠ 0) :
    boundaryMarker c s = watchBacklog (setPixel (setPath s c l) c (some (p.searching s.now))) (engOf c) := by
  have hsearch : ¬ (p.refused = true ∨ p.id.cfg.peaks = 0) := by simp [hrefused, hpeaks]
  simp only [boundaryMarker, hpath, hpixel, hdue, Bool.false_eq_true, if_false, hsearch]
  rfl

theorem zoomOpen_waits {c : Nat} {p : Pixel} {s : State} (hpixel : pixel s c = some p) (hwaits : searchWaits s c p = true) :
    zoomOpen c s = s := by
  simp only [zoomOpen, hpixel, hwaits, if_true]

section
variable {c k : Nat} {p : Pixel} {x : Ctx} {s : State} (hpixel : pixel s c = some p) (hsearch : p.phase = .search)
  (hcoarse : p.coarse = some k) (hslot : (engine s (engOf c)).slot k = some x) (hwaits : searchWaits s c p = false)
include hpixel hsearch hcoarse hslot hwaits

theorem zoomOpen_noPeak (hpeaks : findPeaks p.id.cfg x = []) : zoomOpen c s = noPeak s c p k := by
  simp only [zoomOpen, hpixel, hwaits, Bool.false_eq_true, if_false, hsearch, hcoarse, hslot, hpeaks]

theorem zoomOpen_opens (hpeaks : findPeaks p.id.cfg x ≠ []) :
    zoomOpen c s = openZooms s c p k x ((findPeaks p.id.cfg x).map (zoomOrigin p.id.cfg x)) := by
  simp only [zoomOpen, hpixel, hwaits, Bool.false_eq_true, if_false, hsearch, hcoarse, hslot]

end

/-! ## The hold buffer (05 R138) -/

theorem pixel_ite (b : Prop) [Decidable b] (u v : State) (c : Nat) :
    pixel (if b then u else v) c = if b then pixel u c else pixel v c :=
  apply_ite (pixel · c) b u v

@[simp] theorem pixel_bump (s : State) (a c : Nat) : pixel (bump s a) c = pixel s c := pixel_congr (bump_vat s a) c

theorem pixel_addHit (s : State) (p : Pixel) (h : HitTime) : pixel (addHit s p h) p.id.chan = some (p.withHit h) := by
  unfold addHit
  dsimp only
  split
  · rw [pixel_bump, pixel_setPixel_same, Pixel.withHit]
  · split
    · simp only [pixel_onCurrent, pixel_ite, pixel_setPixel_same, ite_self, Pixel.withHit]
    · split
      · simp only [pixel_onCurrent, pixel_ite, pixel_setPixel_same, ite_self, Pixel.withHit]
      · split <;>
          simp only [pixel_bump, pixel_setEngine, pixel_onCurrent, pixel_ite, pixel_setPixel_same, ite_self, Pixel.withHit]

/-- A hit counts in NO_CONTEXT or in OOR, and writes no other register but their OVF words. -/
theorem reg_addHit {a : Nat} (hcontext : a ≠ A.VAT_NO_CONTEXT ∧ a ≠ A.VAT_NO_CONTEXT + 4)
    (hoor : a ≠ A.VAT_OOR ∧ a ≠ A.VAT_OOR + 4) (s : State) (p : Pixel) (h : HitTime) : reg (addHit s p h) a = reg s a := by
  unfold addHit
  dsimp only
  split
  · rw [reg_bump_other _ _ _ hcontext.1 hcontext.2, reg_setPixel]
  · split
    · simp only [reg_onCurrent, reg_ite, reg_setPixel, ite_self]
    · split
      · simp only [reg_onCurrent, reg_ite, reg_setPixel, ite_self]
      · split <;> simp only [reg_bump_other _ _ _ hoor.1 hoor.2, reg_setEngine, reg_onCurrent, reg_ite, reg_setPixel, ite_self]

/-- What the hold buffer of a channel drains is hits and shots of the pixel that the channel then has. -/
theorem drainHold_induct {c : Nat} {motive : State → Prop}
    (hhit : ∀ u p h, pixel u c = some p → motive u → motive (addHit u p h))
    (hshot : ∀ u p fired d prov sub, pixel u c = some p → motive u → motive (addShot u p fired d prov sub))
    (l : List VatItem) {s : State} (h : motive s) : motive (drainHold s c l) := by
  refine List.foldlRecOn _ _ h fun u hu i hi => ?_
  clear hi
  split
  · next hpixel => exact hhit u _ _ hpixel hu
  · next hpixel => exact hshot u _ _ _ _ _ hpixel hu
  · exact hu

theorem reg_drainHold_noPeak (c : Nat) (l : List VatItem) (s : State) :
    reg (drainHold s c l) A.VAT_NO_PEAK = reg s A.VAT_NO_PEAK :=
  drainHold_induct (motive := fun u => reg u A.VAT_NO_PEAK = reg s A.VAT_NO_PEAK)
    (fun u p h _ hu => (reg_addHit (by decide) (by decide) u p h).trans hu)
    (fun u p fired d prov sub _ hu => (reg_addShot u p fired d prov sub _).trans hu) l rfl

/-- The pixel of a channel keeps its identity and phase while its hold buffer drains. -/
theorem pixel_drainHold {c : Nat} {p : Pixel} (l : List VatItem) {s : State} (hpixel : pixel s c = some p)
    (hchan : p.id.chan = c) : ∃ q, pixel (drainHold s c l) c = some q ∧ q.id = p.id ∧ q.phase = p.phase := by
  refine drainHold_induct (motive := fun u => ∃ q, pixel u c = some q ∧ q.id = p.id ∧ q.phase = p.phase) ?_ ?_ l
    ⟨p, hpixel, rfl, rfl⟩
  · rintro u p' h hp' ⟨q, hq, hid, hphase⟩
    obtain rfl := Option.some.inj (hp'.symm.trans hq)
    obtain rfl : p'.id.chan = c := by rw [hid, hchan]
    exact ⟨_, pixel_addHit u p' h, hid, hphase⟩
  · rintro u p' fired d prov sub hp' ⟨q, hq, hid, hphase⟩
    obtain rfl := Option.some.inj (hp'.symm.trans hq)
    obtain rfl : p'.id.chan = c := by rw [hid, hchan]
    exact ⟨_, pixel_addShot u p' fired d prov sub, hid, hphase⟩

@[simp] theorem reg_freeSlot (s : State) (n k a : Nat) : reg (freeSlot s n k) a = reg s a := rfl

/-- A search without a peak counts in NO_PEAK, which what waited leaves. -/
theorem reg_noPeak (s : State) (c : Nat) (p : Pixel) (k : Nat) :
    (reg (noPeak s c p k) A.VAT_NO_PEAK).toNat = min ((reg s A.VAT_NO_PEAK).toNat + 1) 0xFFFFFFFF := by
  rw [noPeak, reg_drainHold_noPeak, reg_bump_toNat, reg_setPixel, reg_setEngine, reg_foldl fun u j _ => reg_freeSlot u _ j _]

theorem phase_drainHold {c : Nat} {p : Pixel} (hchan : p.id.chan = c) (s : State) (n : Nat) (l : List VatItem) :
    (pixel (drainHold (sampleOpen (setPixel s c (some p)) n) c l) c).map (·.phase) = some p.phase := by
  have hpixel : pixel (sampleOpen (setPixel s c (some p)) n) c = some p := by
    rw [pixel_congr (sampleOpen_vat _ n), pixel_setPixel_same]
  obtain ⟨q, hq, -, hphase⟩ := pixel_drainHold l hpixel hchan
  rw [hq, Option.map_some, hphase]

/-- Zoom contexts that open put their pixel in its zoom phase. -/
theorem phase_openZooms {c : Nat} {p : Pixel} (hchan : p.id.chan = c) (s : State) (k : Nat) (x : Ctx) (ozs : List Int) :
    (pixel (openZooms s c p k x ozs) c).map (·.phase) = some .zoom := by
  unfold openZooms
  dsimp only
  rw [phase_drainHold]
  exact hchan

/-! ## Closing contexts -/

@[simp] theorem onSlot_closing (e : Engine) (k : Nat) (f : Ctx → Ctx) : (e.onSlot k f).closing = e.closing := by
  unfold Engine.onSlot
  split <;> rfl

theorem closing_congr {s u : State} (h : u.vat = s.vat) (n : Nat) : (engine u n).closing = (engine s n).closing := by
  rw [engine_congr h]

/-- A part of the engines that an update of one of them keeps. -/
theorem engine_part_setEngine {α : Type} (part : Engine → α) {s : State} {n : Nat} {e : Engine}
    (h : part e = part (engine s n)) (m : Nat) : part (engine (setEngine s n e) m) = part (engine s m) := by
  have hget : engine (setEngine s n e) m = if m = n then e else engine s m := pget_pset _ _ _ _ _
  rw [hget]
  split
  · next hm => rw [h, hm]
  · rfl

@[simp] theorem freeSlot_closing (s : State) (n k m : Nat) : (engine (freeSlot s n k) m).closing = (engine s m).closing :=
  engine_part_setEngine Engine.closing (e := (engine s n).setSlot k none) rfl m

@[simp] theorem freeSlot_held (s : State) (n k m : Nat) : (engine (freeSlot s n k) m).held = (engine s m).held :=
  engine_part_setEngine Engine.held (e := (engine s n).setSlot k none) rfl m

/-- What follows the close of a context leaves the pixels that wait. -/
theorem afterClose_closing (s : State) (n k : Nat) (p : Pixel) (x : Ctx) :
    (engine (afterClose s n k p x) n).closing = (engine s n).closing := by
  unfold afterClose
  dsimp only
  split
  · exact freeSlot_closing s n k n
  · split
    · rw [closing_congr (p4Drop_vat _ _), freeSlot_closing]
    · rw [engine_setEngine_same, onSlot_closing]

@[simp] theorem setClosing_closing (s : State) (n : Nat) (x : Closing) :
    (engine (setClosing s n x) n).closing = x :: (engine s n).closing.tail := by
  rw [setClosing, engine_setEngine_same]

/-- The close of a context takes it from those of the first pixel that waits. -/
theorem closeOne_closing (s : State) (n k : Nat) (x : Closing) (rest : List Nat) :
    ∃ y, (engine (closeOne s n k x rest) n).closing = y :: (engine s n).closing.tail ∧ y.todo = rest := by
  unfold closeOne
  split
  · exact ⟨_, setClosing_closing s n _, rfl⟩
  · dsimp only
    rw [afterClose_closing, setClosing_closing, closing_congr (s := s)]
    · exact ⟨_, rfl, rfl⟩
    · simp only [vat_ite, raise_vat, bump_vat, apply_ite Prod.snd, extract_vat, ite_self]

/-- A pixel that leaves is the first of those that wait. -/
theorem emitPixel_closing (s : State) (n : Nat) (x : Closing) :
    (engine (emitPixel s n x) n).closing = (engine s n).closing.tail := by
  unfold emitPixel
  dsimp only
  rw [closing_congr (pixelOut_vat _ _ _), engine_setEngine_same]
  refine congrArg List.tail (closing_congr ?_ n)
  simp only [apply_ite Prod.snd, vat_ite, refusedRecord_vat, pixelRecords_vat, countPixel_vat, ite_self]

/-- The close of one context of several takes it from those of the first pixel. -/
theorem contextClose_next {n k k' : Nat} {rest : List Nat} {x : Closing} {l : List Closing} {s : State}
    (hclosing : (engine s n).closing = x :: l) (htodo : x.todo = k :: k' :: rest) :
    contextClose n s = closeOne s n k x (k' :: rest) := by
  simp only [contextClose, hclosing, htodo]

/-- With its last context the first pixel leaves. -/
theorem contextClose_last {n : Nat} {x : Closing} {l : List Closing} {s : State} (hclosing : (engine s n).closing = x :: l)
    (htodo : x.todo.length ≤ 1) : (engine (contextClose n s) n).closing = l := by
  match hx : x.todo with
  | [] => simp only [contextClose, hclosing, hx, emitPixel_closing, List.tail_cons]
  | [k] =>
    obtain ⟨y, hy, -⟩ := closeOne_closing s n k x []
    simp only [contextClose, hclosing, hx, hy, emitPixel_closing, List.tail_cons]
  | _ :: _ :: _ => simp [hx] at htodo

/-! ## The end of a pixel (05 R127, R139) -/

theorem foldl_onSlot_closing (f : Ctx → Ctx) (l : List Nat) (e : Engine) :
    (l.foldl (fun e k => e.onSlot k f) e).closing = e.closing :=
  List.foldlRecOn (motive := fun e' => e'.closing = e.closing) l _ rfl fun e' he' k _ => (onSlot_closing e' k f).trans he'

/-- Zoom contexts that never opened are released at the end of their pixel, and their slots alone change. -/
theorem released_keeps {β : Type} (part : State → β) {n : Nat} (hpart : ∀ u k, part (freeSlot u n k) = part u) (p : Pixel)
    (s : State) : part (if p.phase = .zoom then s else p.zooms.foldl (fun s k => freeSlot s n k) s) = part s := by
  split
  · rfl
  · exact foldl_keeps part hpart _ s

/-- Beside the engine of the pixel that ends, its samples leave the Vat. -/
theorem pixelEnded_vat (u : State) (e : Engine) (n : Nat) (q : Prop) [Decidable q] :
    (watchBacklog (if q then setEngine u n e else sampleOpen (setEngine u n e) n) n).vat = (setEngine u n e).vat := by
  simp only [watchBacklog_vat, vat_ite, sampleOpen_vat, ite_self]

/-- The pixel that ends leaves its channel and joins those that wait for close. -/
theorem pixelEndMarker_queues {c a b d : Nat} {l : List VatItem} {p : Pixel} {s : State} (hpath : path s c = .pixelEnd a b d :: l)
    (hpixel : pixel s c = some p) (hdue : hitsDue s c a = false) (hstarts : startsDue s p.id.group a = false)
    (hsearch : p.phase ≠ .search) :
    path (pixelEndMarker c s) c = l ∧ pixel (pixelEndMarker c s) c = none ∧
      ∃ x, (engine (pixelEndMarker c s) (engOf c)).closing = (engine s (engOf c)).closing ++ [x] := by
  have hends : ¬ (hitsDue s c a = true ∨ startsDue s p.id.group a = true ∨ p.phase = .search) := by
    simp [hdue, hstarts, hsearch]
  simp only [pixelEndMarker, hpath, hpixel, hends, if_false]
  rw [path_congr (pixelEnded_vat _ _ _ _), pixel_congr (pixelEnded_vat _ _ _ _), engine_congr (pixelEnded_vat _ _ _ _),
    engine_setEngine_same, path_setEngine, pixel_setEngine]
  refine ⟨(released_keeps (path · c) (fun _ _ => rfl) p _).trans (path_setPath_same s c l),
    (released_keeps (pixel · c) (fun _ _ => rfl) p _).trans (pixel_setPixel_same _ c none), _, congrArg (· ++ _) ?_⟩
  rw [foldl_onSlot_closing]
  exact released_keeps (fun u => (engine u (engOf c)).closing) (fun u k => freeSlot_closing u _ k _) p _

/-- Settles O20: what a search or an end of a pixel leaves in the Vat is not changed by what the records, samples and waiting hits
do after it. -/
theorem searchAndPixelEnd : Obligations.SearchAndPixelEnd := by
  refine ⟨fun t c a l p s hpath hpixel hdue hrefused hpeaks => ⟨_, rfl, ?_⟩,
    fun t c p k x s hpixel hsearch hcoarse hslot hpeaks hwaits => ⟨_, rfl, ?_⟩,
    fun t c p k x s hpixel hchan hsearch hcoarse hslot hpeaks hwaits => ⟨_, rfl, ?_⟩,
    fun t c p s hpixel hwaits => ⟨_, rfl, ?_⟩,
    fun t c a b d l p s hpath hpixel hdue hstarts hsearch => ⟨_, rfl, ?_⟩,
    fun t n x l k k' rest s hclosing htodo => ⟨_, rfl, ?_⟩, fun t n x l s hclosing htodo => ⟨_, rfl, ?_⟩⟩
  · rw [boundaryMarker_searches (s := at' t s) hpath hpixel hdue hrefused hpeaks, path_congr (watchBacklog_vat _ _),
      pixel_congr (watchBacklog_vat _ _), path_setPixel, path_setPath_same, pixel_setPixel_same]
    exact ⟨rfl, rfl⟩
  · rw [zoomOpen_noPeak (s := at' t s) hpixel hsearch hcoarse hslot hwaits hpeaks]
    exact reg_noPeak (at' t s) c p k
  · rw [zoomOpen_opens (s := at' t s) hpixel hsearch hcoarse hslot hwaits hpeaks]
    exact phase_openZooms hchan _ _ _ _
  · rw [zoomOpen_waits (s := at' t s) hpixel hwaits]
    exact hpixel
  · obtain ⟨hpath', hpixel', x, hclosing⟩ := pixelEndMarker_queues (s := at' t s) hpath hpixel hdue hstarts hsearch
    exact ⟨hpath', hpixel', by rw [hclosing, List.length_append]; rfl⟩
  · obtain ⟨y, hy, htodo'⟩ := closeOne_closing (at' t s) n k x (k' :: rest)
    rw [contextClose_next (s := at' t s) hclosing htodo, hy, List.head?_cons, Option.map_some, htodo']
    exact ⟨rfl, congrArg List.tail hclosing⟩
  · exact contextClose_last (s := at' t s) hclosing htodo

end Sys2Proof.Machine
end

section
/-!
SUPPORT. The readout of a held context, the inspection port, and the temperature of the walk (05 R141, R146, R147; 06 R163).
-/

namespace Sys2Proof.Machine

/-! ## Readout (05 R141) -/

theorem held_congr {s u : State} (h : u.vat = s.vat) (n : Nat) : (engine u n).held = (engine s n).held := by rw [engine_congr h]

/-- The first held context changed stays the first. -/
theorem setHeld_held {s : State} {n : Nat} {h : HeldCtx} {l : List HeldCtx} (hheld : (engine s n).held = h :: l)
    (f : HeldCtx → HeldCtx) : (engine (setHeld s n f) n).held = f h :: l := by
  simp only [setHeld, hheld, engine_setEngine_same]

/-- A context that no queue and no ring waits for leaves those held. -/
theorem contextReadoutComplete_frees {t n : Nat} {h : HeldCtx} {l : List HeldCtx} {x : Ctx} {s : State}
    (hheld : (engine (flushFrames s) n).held = h :: l) (hslot : (engine (flushFrames s) n).slot h.slot = some x)
    (hsince : h.since + nsec 200 ≤ t) (horder : readoutInOrder (flushFrames s) n h = true) (hring : h.ring = false)
    (hqueues : ctxQueues (flushFrames s) h.pixel = []) : (engine (contextReadoutComplete t n s) n).held = l := by
  unfold contextReadoutComplete
  generalize flushFrames s = u at *
  have hready : ¬ (t < h.since + nsec 200 ∨ (!(readoutInOrder u n h)) = true) := by simp [horder, hsince]
  have hmarked := setHeld_held hheld fun h' => { h' with taken := h.taken ++ [] }
  simp only [hheld, hslot, hready, if_false, hring, Bool.false_eq_true, hqueues, List.filter_nil, List.foldl_nil, hmarked,
    List.head?_cons, Option.any_some, List.all_nil, Bool.not_false, Bool.and_true, if_true, List.tail_cons]
  rw [held_congr (drainAll_vat _), held_congr (pruneFrames_vat _), held_congr (feedAll_vat _), freeSlot_held,
    engine_setEngine_same]

/-! ## Accesses of the VAT page (05 R149) -/

@[simp] theorem lockCount_vat (p : Nat) (s : State) : (lockCount p s).vat = s.vat := by
  simp only [lockCount, vat_ite, setReg_vat, ite_self]

@[simp] theorem latchDrop_vat (s : State) (r : Requester) (a : Nat) : (latchDrop s r a).vat = s.vat := rfl

@[simp] theorem busShow_vat (w : Word) (n : Nat) (s : State) : (busShow w n s).vat = s.vat := rfl

/-- Past its header a write on the VAT page does what chapter 05 says. -/
theorem pageAct_vat {a : Nat} (ha : 0x30040 ≤ a) (d : Word) (o s : State) : pageAct 0x30000 a d o s = vatAct a d s := by
  have hsplit : a ≠ F.GLB_POOL_SPLIT_DISPLAY.addr := by simp only; omega
  have hcol : a ≠ A.ESC_COL_DATA := by simp only [A.ESC_COL_DATA]; omega
  have hquad : (inst 0x30000 0x10000 0x1000 4).isSome = false := by decide
  simp [pageAct, actA, hsplit, hcol, hquad]

/-- Where a register of the VAT page lies that is past the common header and is no window and no part of a wide value. -/
structure VatReg (a : Nat) (l : RegLoc) : Prop where
  aligned : busAddr a = a
  unwindowed : windowed a = false
  page : pageBase a = some 0x30000
  row : findReg a = some l
  base : l.pbase = 0x30000
  body : 0x30040 ≤ a
  narrow : wideLow a = none
  unheld : heldWord a = false

/-- What an accepted write leaves of the Vat and of the registers but the page's LOCK: what the register takes, and what chapter
05 says beside it. -/
theorem VatReg.write {a : Nat} {l : RegLoc} (h : VatReg a l) {t d : Nat} {r : Requester} {s : State} (hacc : Accepts t r a d s) :
    (accessW t r a d s).vat = (vatAct a (word d) (storeReg l a (word d) (at' t s))).vat ∧
      ∀ b, b ≠ 0x3002C → reg (accessW t r a d s) b = reg (vatAct a (word d) (storeReg l a (word d) (at' t s))) b := by
  have hbody := h.body
  have hlock : (hasHeader 0x30000 && decide (a = 0x30000 + 0x2C)) = false := by simp; omega
  have hsoft : (hasHeader 0x30000 && decide (a = 0x30000 + 8) && bit (word d) 1) = false := by simp; omega
  have hdo : writeDo l a (word d) (at' t s) (at' t s) = vatAct a (word d) (storeReg l a (word d) (at' t s)) := by
    unfold writeDo
    simp only [h.base]
    rw [if_neg (by omega), if_neg (by omega), if_neg (by omega), if_neg (by omega), pageAct_vat hbody]
  rw [hacc.write h.aligned h.unwindowed h.page h.row h.base hlock hsoft h.narrow h.unheld, hdo, lcAfter_off _ _ _ (by decide)]
  exact ⟨by simp only [busShow_vat, latchDrop_vat, lockCount_vat], fun b hb => reg_lockCount _ _ _ hb⟩

/-! ## The selected context (05 R146) -/

/-- The selected context depends on the Vat and on INSP_SEL. -/
theorem inspCtx_congr {s u : State} (hvat : u.vat = s.vat) (hsel : reg u A.VAT_INSP_SEL = reg s A.VAT_INSP_SEL) :
    inspCtx u = inspCtx s := by
  have hrd : ∀ f : Fld, f.addr = A.VAT_INSP_SEL → rd u f = rd s f := fun f hf => rd_congr (by rw [hf, hsel])
  rw [inspCtx, inspCtx, hrd _ rfl, hrd _ rfl, engine_congr hvat]

/-- Word `k` of the header of the selected context. -/
def inspHdr (s : State) (k : Nat) : Word :=
  match inspCtx s with
  | some c => c.hdr.getD k 0#32
  | none => 0#32

theorem inspHdr_congr {s u : State} (hvat : u.vat = s.vat) (hsel : reg u A.VAT_INSP_SEL = reg s A.VAT_INSP_SEL) (k : Nat) :
    inspHdr u k = inspHdr s k := by
  rw [inspHdr, inspHdr, inspCtx_congr hvat hsel]

/-- The first `n` words of the header latched. -/
def hdrLatch (s : State) (n : Nat) : State := (List.range n).foldl (fun s k => setReg s (A.VAT_INSP_HDR k) (inspHdr s k)) s

theorem inspLatch_eq (s : State) : inspLatch s = hdrLatch (wr s F.VAT_INSP_BIN_IDX_PAIR 0) 8 := rfl

theorem hdrLatch_succ (s : State) (n : Nat) :
    hdrLatch s (n + 1) = setReg (hdrLatch s n) (A.VAT_INSP_HDR n) (inspHdr (hdrLatch s n) n) := by
  simp only [hdrLatch, List.range_succ, List.foldl_append, List.foldl_cons, List.foldl_nil]

/-- Latching leaves the Vat and every register but those of the header. -/
theorem hdrLatch_leaves (s : State) (n : Nat) :
    (hdrLatch s n).vat = s.vat ∧ ∀ a, (∀ k < n, a ≠ A.VAT_INSP_HDR k) → reg (hdrLatch s n) a = reg s a := by
  induction n with
  | zero => exact ⟨rfl, fun _ _ => rfl⟩
  | succ n ih =>
    obtain ⟨hvat, hreg⟩ := ih
    rw [hdrLatch_succ]
    refine ⟨(setReg_vat _ _ _).trans hvat, fun a ha => ?_⟩
    rw [reg_setReg_other _ _ _ _ (ha n (by omega)), hreg a fun k hk => ha k (by omega)]

/-- The latched words are those of the selected context. -/
theorem reg_hdrLatch {s : State} {n k : Nat} (hk : k < n) : reg (hdrLatch s n) (A.VAT_INSP_HDR k) = inspHdr s k := by
  induction n with
  | zero => omega
  | succ n ih =>
    obtain ⟨hvat, hreg⟩ := hdrLatch_leaves s n
    rw [hdrLatch_succ]
    by_cases hkn : k = n
    · rw [hkn, reg_setReg_same, inspHdr_congr hvat (hreg _ fun j _ => by simp only [A.VAT_INSP_SEL, A.VAT_INSP_HDR]; omega)]
    · rw [reg_setReg_other _ _ _ _ (by simp only [A.VAT_INSP_HDR]; omega), ih (by omega)]

/-- INSP_SEL latches the header of the context that it then selects. -/
theorem reg_inspLatch (s : State) {k : Nat} (hk : k < 8) : reg (inspLatch s) (A.VAT_INSP_HDR k) = inspHdr (inspLatch s) k := by
  rw [inspLatch_eq]
  obtain ⟨hvat, hreg⟩ := hdrLatch_leaves (wr s F.VAT_INSP_BIN_IDX_PAIR 0) 8
  rw [reg_hdrLatch hk, inspHdr_congr hvat (hreg _ fun j _ => by simp only [A.VAT_INSP_SEL, A.VAT_INSP_HDR]; omega)]

/-- Where VAT.INSP_SEL lies (05 R149). -/
def inspSelLoc : RegLoc :=
  ⟨0x30000, 0, .vat, ⟨0x100, 1, fun _ => 0x0, [⟨16, 8, .rw, [], false⟩, ⟨0, 9, .rw, [], false⟩]⟩, 0, 0⟩

theorem vatReg_inspSel : VatReg A.VAT_INSP_SEL inspSelLoc :=
  ⟨by decide, by decide, by decide, rfl, rfl, by decide, by decide, by decide⟩

theorem vatAct_inspSel (d : Word) (s : State) : vatAct A.VAT_INSP_SEL d s = inspLatch s := rfl

theorem accessW_inspSel {t d k : Nat} {r : Requester} {s : State} (hacc : Accepts t r A.VAT_INSP_SEL d s) (hk : k < 8) :
    reg (accessW t r A.VAT_INSP_SEL d s) (A.VAT_INSP_HDR k) = inspHdr (accessW t r A.VAT_INSP_SEL d s) k := by
  obtain ⟨hvat, hreg⟩ := vatReg_inspSel.write hacc
  rw [vatAct_inspSel] at hvat hreg
  rw [hreg _ (by simp only [A.VAT_INSP_HDR]; omega), reg_inspLatch _ hk, inspHdr_congr hvat (hreg _ (by decide))]

/-! ## Its bins (05 R146, R147) -/

/-- Where VAT.INSP_BIN_DATA lies (05 R149). -/
def inspBinLoc : RegLoc :=
  ⟨0x30000, 0, .vat, ⟨0x128, 1, fun _ => 0x0, [⟨16, 16, .rw, [], false⟩, ⟨0, 16, .rw, [], false⟩]⟩, 0, 0⟩

theorem vatReg_inspBin : VatReg A.VAT_INSP_BIN_DATA inspBinLoc :=
  ⟨by decide, by decide, by decide, rfl, rfl, by decide, by decide, by decide⟩

/-- The port holds no value itself. -/
theorem storeReg_inspBin (d : Word) (s : State) : storeReg inspBinLoc A.VAT_INSP_BIN_DATA d s = s := rfl

theorem vatAct_inspBin (d : Word) (s : State) : vatAct A.VAT_INSP_BIN_DATA d s = inspWrite d s := rfl

theorem pageRead_inspBin (r : Requester) (s : State) :
    pageRead 0x30000 r A.VAT_INSP_BIN_DATA s =
      (inspBins (lockCount 0x30000 s), 0, inspAdvance (lockCount 0x30000 s)) := rfl

/-- The pair shown depends on the Vat, INSP_SEL and INSP_BIN_IDX. -/
theorem inspBins_congr {s u : State} (hvat : u.vat = s.vat) (hsel : reg u A.VAT_INSP_SEL = reg s A.VAT_INSP_SEL)
    (hidx : reg u F.VAT_INSP_BIN_IDX_PAIR.addr = reg s F.VAT_INSP_BIN_IDX_PAIR.addr) : inspBins u = inspBins s := by
  rw [inspBins, inspBins, inspCtx_congr hvat hsel, rd_congr hidx]

/-- A permitted read of INSP_BIN_DATA gives the pair at the index. -/
theorem access_inspBin {t : Nat} {r : Requester} {s : State} (h : Readable t r A.VAT_INSP_BIN_DATA s) :
    (access t r A.VAT_INSP_BIN_DATA s).bus.lastRead = inspBins s := by
  have hplace := vatReg_inspBin
  have hclock := clocked_of_readable h hplace.aligned hplace.unwindowed hplace.page
  rw [access_page t r _ _ s h.1 hplace.aligned hplace.unwindowed hplace.page hclock, pageRead_inspBin, busShow_lastRead]
  exact inspBins_congr (s := at' t s) (lockCount_vat _ _) (reg_lockCount _ _ _ (by decide)) (reg_lockCount _ _ _ (by decide))

/-- A context with a pair of its bins replaced. -/
def Ctx.withPair (c : Ctx) (j : Nat) (d : Word) : Ctx :=
  { c with bins := pset 0 (pset 0 c.bins (2 * j) (fld d 0 16)) (2 * j + 1) (fld d 16 16) }

/-- A pair written goes to the selected slot. -/
theorem inspWrite_vat (d : Word) (s : State) :
    (inspWrite d s).vat =
      (setEngine s (rd s F.VAT_INSP_SEL_ENGINE) ((engine s (rd s F.VAT_INSP_SEL_ENGINE)).onSlot (rd s F.VAT_INSP_SEL_SLOT)
        (·.withPair (rd s F.VAT_INSP_BIN_IDX_PAIR) d))).vat := rfl

theorem slot_inspWrite {s : State} {x : Ctx}
    (hslot : (engine s (rd s F.VAT_INSP_SEL_ENGINE)).slot (rd s F.VAT_INSP_SEL_SLOT) = some x) (d : Word) :
    (engine (inspWrite d s) (rd s F.VAT_INSP_SEL_ENGINE)).slot (rd s F.VAT_INSP_SEL_SLOT) =
      some (x.withPair (rd s F.VAT_INSP_BIN_IDX_PAIR) d) := by
  rw [engine_congr (inspWrite_vat d s), engine_setEngine_same]
  exact slot_onSlot_same hslot _

/-! ## The temperature of the walk (06 R163) -/

/-- A temperature that is held is shown stale. -/
theorem flag_retHold (s : State) : flag (retHold s) F.RET_STATUS_TEMP_STALE = true := by
  unfold retHold
  split
  · next hstale => exact hstale
  · rw [flag_raise_other _ _ _ (not_evfReg_of_ge (by decide)) (by decide), flag_wr_one _ _ (by decide) rfl]

/-- Where the result that supplies the temperature is invalid, or has not been renewed for two round periods, it is held. -/
theorem flag_tempStale {t : Nat} {s : State} (h : flag s (F.HCH_STATUS_VALID (rd s F.RET_TEMP_SEL_CHAN)) = false ∨
    pget 0 s.hka.last (rd s F.RET_TEMP_SEL_CHAN) + usec (2 * rd s F.HKA_ROUND_CFG_PERIOD_US) ≤ t) :
    flag (tempStale t s) F.RET_STATUS_TEMP_STALE = true := by
  unfold tempStale
  dsimp only
  rw [if_pos (by simpa using h)]
  exact flag_retHold s

/-- Settles O21: the head of the list that is read out is marked and removed, and each access of the port or of RET leaves what it
shows. -/
theorem readoutAndInspection : Obligations.ReadoutAndInspection := by
  refine ⟨fun t n h l x s hheld hslot hsince horder hring hqueues => ⟨_, rfl, ?_⟩,
    fun t r d k s hacc hk => ⟨_, rfl, ?_⟩, fun t r s h => ⟨_, rfl, access_inspBin h⟩,
    fun t r d x s hacc hslot => ⟨_, rfl, ?_⟩, fun t s hvalid => ⟨_, rfl, ?_⟩,
    fun t s hold => ⟨_, rfl, ?_⟩⟩
  · exact contextReadoutComplete_frees hheld hslot hsince horder hring hqueues
  · exact accessW_inspSel hacc hk
  · obtain ⟨hvat, -⟩ := vatReg_inspBin.write hacc
    rw [storeReg_inspBin, vatAct_inspBin] at hvat
    rw [engine_congr hvat]
    exact slot_inspWrite (s := at' t s) hslot (word d)
  · exact flag_tempStale (s := at' t s) (.inl hvalid)
  · exact flag_tempStale (s := at' t s) (.inr hold)

end Sys2Proof.Machine
end

section
/-!
SUPPORT. The retention states (07 R199 to R201): what RET_STATE reads after each passage from one state to the next.
-/

namespace Sys2Proof.Machine

/-- The auto timer is no register. -/
@[simp] theorem retState_autoRestart (s : State) : retState (autoRestart s) = retState s := rfl

/-- RET_STATE shows the state it is set to. -/
theorem retState_wr {n : Nat} (hn : n < 8) (s : State) : retState (wr s F.ACQ_STATUS_RET_STATE n) = n :=
  (rd_wr_same s _ n (by decide)).trans (Nat.mod_eq_of_lt hn)

/-- Between sequences the state is FILL or READY. -/
theorem fillState_lt (s : State) : fillState s < 8 := by
  unfold fillState
  split <;> decide

theorem retState_retentionFillReady {s : State} (hstate : retState (flushFrames s) = 1) (hfill : fillState (flushFrames s) = 2) :
    retState (retentionFillReady s) = 2 := by
  rw [retentionFillReady, if_pos ⟨hstate, hfill⟩]
  exact retState_wr (by decide) _

theorem retState_retentionPostEnd {s : State} (hstate : retState (flushFrames s) = 3)
    (hpost : (flushFrames s).acq.post ≤ capturedTo (flushFrames s)) :
    retState (retentionPostEnd s) =
      if (flushFrames s).acq.post < (flushFrames s).acq.hold then 4 else fillState (flushFrames s) := by
  rw [retentionPostEnd, if_pos ⟨hstate, hpost⟩, apply_ite retState, retState_wr (by decide), retState_autoRestart,
    retState_wr (fillState_lt _)]

theorem retState_retentionHoldoffEnd {s : State} (hstate : retState s = 4) (hhold : s.acq.hold ≤ capturedTo s) :
    retState (retentionHoldoffEnd s) = fillState s := by
  rw [retentionHoldoffEnd, if_pos ⟨hstate, hhold⟩, retState_autoRestart, retState_wr (fillState_lt _)]

/-- The only sequence leaves when its SEQ_END has entered its queues. -/
theorem seqDone_eq {s : State} {q : Seq} (hseqs : s.acq.seqs = [q]) (hclosed : q.closed = true)
    (hwaits : seqEndWaits s q.num = false) :
    seqDone s = raise (onAcq s fun a => { a with seqs := a.seqs.filter fun x => x.num ≠ q.num }) F.ACQ_EVT_RAW_SEQ_DONE := by
  have hfind : s.acq.seqs.find? (fun x => x.closed && !(seqEndWaits s x.num)) = some q := by
    rw [hseqs]
    exact List.find?_cons_of_pos (by rw [hclosed, hwaits]; rfl)
  simp only [seqDone, hfind]

/-- Settles O24: each passage writes RET_STATE, and a sequence that is done leaves the list and raises its event. -/
theorem retentionStates : Obligations.RetentionStates := by
  refine ⟨fun t s hstate hfill => ⟨_, rfl, retState_retentionFillReady hstate hfill⟩,
    fun t s hstate hpost => ⟨_, rfl, retState_retentionPostEnd hstate hpost⟩,
    fun t s hstate hhold => ⟨_, rfl, retState_retentionHoldoffEnd (s := at' t s) hstate hhold⟩,
    fun t q s hseqs hclosed hwaits => ⟨_, rfl, ?_⟩⟩
  rw [seqDone_eq (s := at' t s) hseqs hclosed hwaits]
  constructor
  · rw [raise_acq]
    exact (congrArg (List.filter fun x : Seq => x.num ≠ q.num) hseqs).trans (by simp)
  · exact flag_raise _ _ (by unfold evfReg; decide) (by decide) rfl (by decide)

end Sys2Proof.Machine
end

section
/-!
SUPPORT. What the operations of motion, safety and the statistics leave of the index edges: the count of IDX_EDGES and the pulse
that awaits its fall (10 R270, R282, R290, R297; 12 R324).
-/

namespace Sys2Proof.Machine

-- The proofs are many and short: checked side by side, each on a stack of its own, they would pass the build's memory limit.
set_option Elab.async false

/-- From `s` to `u` the count of index edges and the pulse that awaits its fall stay: of registers and of motion, which `MotionOnly`
leaves free, what an edge itself changes. -/
structure EdgesKept (s u : State) : Prop where
  count : reg u A.MOT_IDX_EDGES = reg s A.MOT_IDX_EDGES
  rise : u.ctl.mot.rise = s.ctl.mot.rise

namespace EdgesKept
variable {s u v : State}

theorem refl (s : State) : EdgesKept s s := ⟨rfl, rfl⟩

theorem congr (h : EdgesKept s u) (hregs : v.regs = u.regs) (hrise : v.ctl.mot.rise = u.ctl.mot.rise) : EdgesKept s v :=
  ⟨(reg_congr hregs _).trans h.count, hrise.trans h.rise⟩

theorem ite {c : Prop} [Decidable c] (hu : EdgesKept s u) (hv : EdgesKept s v) : EdgesKept s (if c then u else v) := by
  split
  · exact hu
  · exact hv

/-- An operation made on a condition. -/
theorem ite_of_imp {c : Prop} [Decidable c] (hv : EdgesKept s v) (hu : EdgesKept s v → EdgesKept s u) :
    EdgesKept s (if c then u else v) := ite (hu hv) hv

theorem foldl {α : Type} {f : State → α → State} {l : List α} (h : EdgesKept s u)
    (hf : ∀ v, ∀ x ∈ l, EdgesKept s v → EdgesKept s (f v x)) : EdgesKept s (l.foldl f u) :=
  List.foldlRecOn (motive := EdgesKept s) l f h fun v hv x hx => hf v x hx hv

/-! ## The operations that are shared -/

theorem setReg (h : EdgesKept s u) (a : Nat) (w : Word) (ha : A.MOT_IDX_EDGES ≠ a := by decide) : EdgesKept s (setReg u a w) :=
  ⟨(reg_setReg_other u a _ w ha).trans h.count, h.rise⟩

theorem wr (h : EdgesKept s u) (f : Fld) (n : Nat) (hf : A.MOT_IDX_EDGES ≠ f.addr := by decide) : EdgesKept s (wr u f n) :=
  h.setReg f.addr _ hf

theorem wrB (h : EdgesKept s u) (f : Fld) (b : Bool) (hf : A.MOT_IDX_EDGES ≠ f.addr := by decide) : EdgesKept s (wrB u f b) :=
  h.setReg f.addr _ hf

theorem wrBit (h : EdgesKept s u) (a i : Nat) (b : Bool) (ha : A.MOT_IDX_EDGES ≠ a := by decide) :
    EdgesKept s (wrBit u a i b) := h.setReg a _ ha

theorem bump (h : EdgesKept s u) (a : Nat) (ha : A.MOT_IDX_EDGES ≠ a ∧ A.MOT_IDX_EDGES ≠ a + 4 := by decide) :
    EdgesKept s (bump u a) :=
  ⟨(reg_bump_other u a _ ha.1 ha.2).trans h.count, (congrArg (·.mot.rise) (bump_ctl u a)).trans h.rise⟩

theorem raise (h : EdgesKept s u) (f : Fld) (hf : A.MOT_IDX_EDGES ≠ f.addr - 0x10 + 0x10 := by decide) :
    EdgesKept s (raise u f) :=
  ⟨(reg_raise_other u f _ (by unfold evfReg; decide) hf).trans h.count, (congrArg (·.mot.rise) (raise_ctl u f)).trans h.rise⟩

theorem raiseAt (h : EdgesKept s u) (f : Fld) (i : Nat) (hf : A.MOT_IDX_EDGES ≠ f.addr - 0x10 + 0x10 := by decide) :
    EdgesKept s (raiseAt u f i) :=
  ⟨(reg_raiseAt_other u f i _ (by unfold evfReg; decide) hf).trans h.count,
    (congrArg (·.mot.rise) (raiseAt_ctl u f i)).trans h.rise⟩

theorem onMot (h : EdgesKept s u) (f : Mot → Mot) (hf : (f u.ctl.mot).rise = u.ctl.mot.rise := by rfl) :
    EdgesKept s (onMot u f) := h.congr rfl hf

theorem onGal (h : EdgesKept s u) (f : Gal → Gal) : EdgesKept s (onGal u f) := h.congr rfl rfl
theorem setSlot (h : EdgesKept s u) (k : Nat) (x : Slot) : EdgesKept s (setSlot u k x) := h.congr rfl rfl
theorem setLampEng (h : EdgesKept s u) (e : Nat) (x : LampEng) : EdgesKept s (setLampEng u e x) := h.congr rfl rfl
theorem lampRelease (h : EdgesKept s u) : EdgesKept s (lampRelease u) := h.congr rfl rfl
theorem stopScheduling (h : EdgesKept s u) : EdgesKept s (stopScheduling u) := h.congr rfl rfl
theorem withSaf (h : EdgesKept s u) (x : Saf) : EdgesKept s { u with saf := x } := h.congr rfl rfl
theorem withEsc (h : EdgesKept s u) (x : Esc) : EdgesKept s { u with esc := x } := h.congr rfl rfl
theorem withAcq (h : EdgesKept s u) (x : Acq) : EdgesKept s { u with acq := x } := h.congr rfl rfl
theorem setTdu (h : EdgesKept s u) (m : Nat) (x : Stat) : EdgesKept s (setTdu u m x) := h.congr rfl rfl
theorem setMon (h : EdgesKept s u) (m : Nat) (x : Stat) : EdgesKept s (setMon u m x) := h.congr rfl rfl
theorem takeFree (h : EdgesKept s u) (n : Nat) : EdgesKept s (takeFree u n).2 := h.congr rfl rfl

theorem onPath (h : EdgesKept s u) (b : Bool) (f : Path → Path) : EdgesKept s (onPath u b f) := by
  cases b <;> exact h.congr rfl rfl

/-! ## Lamps, slots and the galvanometer -/

theorem lampEngStart (h : EdgesKept s u) (e : Nat) : EdgesKept s (lampEngStart u e) :=
  (ite_of_imp h fun h => h.bump _).setLampEng e _

theorem lmpEdge (h : EdgesKept s u) (src : Nat) (rise : Bool) : EdgesKept s (lmpEdge u src rise) :=
  h.foldl fun _ e _ h => ite (ite (h.lampEngStart e) (ite (h.setLampEng e _) h)) h

theorem galActivate (h : EdgesKept s u) (on : Bool) : EdgesKept s (galActivate u on) :=
  ite (((h.wr _ _).wr _ _).onGal _) (((h.wr _ _).wr _ _).onGal _)

theorem slotDue (h : EdgesKept s u) (k : Nat) (old : Option Int) : EdgesKept s (slotDue u k old) := ite (h.setSlot k _) h

theorem slotRegs_ne : ∀ k < 8, A.MOT_IDX_EDGES ≠ A.SL_INTEG k ∧ A.MOT_IDX_EDGES ≠ A.SL_OUT k := by decide

theorem slotRefresh (h : EdgesKept s u) {k : Nat} (hk : k < 8) : EdgesKept s (slotRefresh u k) := by
  obtain ⟨hinteg, hout⟩ := slotRegs_ne k hk
  have hgal := ite_of_imp (c := k = 4) (h.wrBit A.SCN_STATUS k (slotWanted u k)) fun h => h.galActivate (slotWanted u k)
  exact ite h (ite (hgal.setSlot k _) (((hgal.setSlot k _).setReg _ _ hinteg).setReg _ _ hout))

theorem slotsRefresh (h : EdgesKept s u) : EdgesKept s (slotsRefresh u) :=
  (h.foldl fun _ _ hk h => h.slotRefresh (List.mem_range.1 hk)).wrB _ _

theorem galBoundary (h : EdgesKept s u) (t i : Nat) : EdgesKept s (galBoundary t i u) :=
  ite (ite ((((h.wr _ _).wr _ _).wr _ _).onGal _) ((h.wr _ _).wr _ _)) h

/-! ## The modes of the polygon -/

theorem modelLost (h : EdgesKept s u) : EdgesKept s (modelLost u) := ite (h.stopScheduling.raise _) h

theorem phaseClear (h : EdgesKept s u) : EdgesKept s (phaseClear u) := (h.wr _ _).onMot _

theorem modelDrop (h : EdgesKept s u) : EdgesKept s (modelDrop u) :=
  ite_of_imp (h.onMot _) fun h => ((h.wr _ _).wr _ _).modelLost

theorem setMode (h : EdgesKept s u) (m : Nat) : EdgesKept s (setMode u m) := by
  unfold Machine.setMode
  extract_lets old sum lastIq meas shown timed started low unphased turned due refreshed
  have htimed : EdgesKept s timed := ((h.wr _ _).raise _).onMot _
  have hlow : EdgesKept s low :=
    ite_of_imp (ite_of_imp htimed fun h => (h.wr _ _).onMot _) fun h => (h.modelDrop.wr _ _).onMot _
  have hunphased : EdgesKept s unphased := ite_of_imp hlow fun h => h.phaseClear
  have hturned : EdgesKept s turned :=
    ite (hunphased.onMot _) (ite (hunphased.onMot _) (ite (hunphased.onMot _) (ite (hunphased.onMot _) hunphased)))
  have hdue : EdgesKept s due := ite ((hturned.slotDue _ _).slotDue _ _) (hturned.slotDue _ _)
  exact ite h (ite_of_imp hdue.slotsRefresh fun h => h.slotDue _ _)

theorem motStop (h : EdgesKept s u) : EdgesKept s (motStop u) := ite h ((((h.wr _ _).wr _ _).setMode 3).onMot _)

theorem torqueOff (h : EdgesKept s u) : EdgesKept s (torqueOff u) :=
  have hgoal := ((h.wr F.MOT_STATUS_STOPPING 0).wr F.MOT_STATUS_PHASE_PENDING 0).onMot fun m => { m with goal := 0 }
  ite hgoal ((hgoal.wr F.MOT_STATUS_COASTING 1).setMode 0)

/-! ## Safety -/

theorem ss1Start (h : EdgesKept s u) : EdgesKept s (ss1Start u) :=
  ite h (((((((h.withSaf _).wr _ _).wr _ _).setReg _ _).bump _).raise _).motStop)

theorem ss1End (h : EdgesKept s u) : EdgesKept s (ss1End u) := by
  unfold Machine.ss1End
  split
  · exact h
  · exact ((h.wr _ _).setReg _ _).withSaf _

theorem fbJudge (h : EdgesKept s u) (laser motor : Bool) : EdgesKept s (fbJudge u laser motor) :=
  h.foldl fun _ b _ h => h.onPath b _

theorem safLatch (h : EdgesKept s u) (a b : Bool) (cause : Nat) (q : Torque) : EdgesKept s (safLatch u a b cause q) := by
  unfold Machine.safLatch
  extract_lets newA newB latchedA latched torqueA torqueB stopped told saf ended
  have hlatched : EdgesKept s latched := ite_of_imp (ite_of_imp h fun h => h.wrBit _ _ _) fun h => h.wrBit _ _ _
  have htorque : EdgesKept s torqueB := ite_of_imp (ite_of_imp hlatched fun h => h.onPath _ _) fun h => h.onPath _ _
  have hstopped : EdgesKept s stopped := ite htorque.ss1End hlatched
  have hended : EdgesKept s ended := (((hstopped.lmpEdge _ _).raise _).withSaf _).wr _ _
  exact ite (ite_of_imp hended fun h => h.ss1Start) hstopped

theorem safOutputs (h : EdgesKept s u) : EdgesKept s (safOutputs u) := by
  unfold Machine.safOutputs
  extract_lets permit staA staB had fell laserWas torqueWas emit torque laser event saf inhibited lit off released
  have hlaser : EdgesKept s laser := (((((h.wrB _ _).wrB _ _).wrB _ _).wrB _ _).wrB _ _).wrB _ _
  have hinhibited : EdgesKept s inhibited := ite ((hlaser.raise _).withSaf _) hlaser
  have hlit : EdgesKept s lit := ite (hinhibited.lmpEdge _ _) (ite_of_imp hinhibited fun h => h.lmpEdge _ _)
  have hoff : EdgesKept s off := ite_of_imp hlit fun h => (h.raise _).torqueOff
  exact (ite_of_imp hoff fun h => h.lampRelease).fbJudge _ _

theorem safRefresh (h : EdgesKept s u) : EdgesKept s (safRefresh u) :=
  ite (safOutputs (ite_of_imp h fun h => h.safLatch _ _ _ _)) h

theorem envelopeJudge (h : EdgesKept s u) (b : Bool) : EdgesKept s (envelopeJudge u b) :=
  ite ((h.safLatch _ _ _ _).raise _) h

theorem speedJudge (h : EdgesKept s u) (index : Bool) : EdgesKept s (speedJudge u index) :=
  ite (h.withSaf _) (ite (h.withSaf _) (ite (ite (h.withSaf _) (h.withSaf _)) h))

theorem safSpeedSample (h : EdgesKept s u) (index : Bool) : EdgesKept s (safSpeedSample u index) := by
  unfold Machine.safSpeedSample
  extract_lets own both
  have hown : EdgesKept s own := ite_of_imp h fun h => h.envelopeJudge false
  have hboth : EdgesKept s both := ite hown (hown.envelopeJudge true)
  exact ((hboth.speedJudge index).withSaf _).safRefresh

end EdgesKept

end Sys2Proof.Machine
end

section
/-!
SUPPORT. What an index edge does: its samples, the speed model and the phase leave the count that the edge itself advances
(10 R270, R282, R283, R290, R291).
-/

namespace Sys2Proof.Machine.EdgesKept

-- The proofs are many and short: checked side by side, each on a stack of its own, they would pass the build's memory limit.
set_option Elab.async false
variable {s u : State}

/-! ## Statistics -/

theorem statRegs_ne : ∀ m < 16,
    (A.MOT_IDX_EDGES ≠ (F.TDU_STATUS_HIST_OVF m).addr ∧ A.MOT_IDX_EDGES ≠ (F.TDU_CTRL_RUN m).addr) ∧
    (A.MOT_IDX_EDGES ≠ A.TDU_UNPAIRED m ∧ A.MOT_IDX_EDGES ≠ A.TDU_UNPAIRED m + 4) ∧
    A.MOT_IDX_EDGES ≠ (F.MON_STATUS_HIST_OVF m).addr := by decide

theorem tduPair (h : EdgesKept s u) {m : Nat} (hm : m < 16) (v : Int) : EdgesKept s (tduPair u m v) := by
  obtain ⟨⟨hstatus, hrun⟩, -, -⟩ := statRegs_ne m hm
  unfold Machine.tduPair
  extract_lets bin st full summed
  have hfull : EdgesKept s full := ite (h.wr _ _ hstatus) h
  have hsummed : EdgesKept s summed :=
    ite (((hfull.takeFree 64).wr (F.TDU_STATUS_SUM_OVF m) 1 hstatus).setTdu m _) (hfull.setTdu m _)
  exact ite (((hsummed.wr (F.TDU_CTRL_RUN m) 0 hrun).wr (F.TDU_STATUS_DONE m) 1 hstatus).raiseAt _ _) hsummed

theorem tduOne (h : EdgesKept s u) {m : Nat} (hm : m < 16) (src time : Nat) : EdgesKept s (tduOne src time u m) := by
  obtain ⟨⟨hstatus, -⟩, hunpaired, -⟩ := statRegs_ne m hm
  unfold Machine.tduOne
  extract_lets isA isB shown paired
  have hshown : EdgesKept s shown := ite (h.wr _ _ hstatus) h
  have hpaired : EdgesKept s paired := by
    refine ite ?_ hshown
    split
    · exact ite (hshown.tduPair hm _) (hshown.bump _ hunpaired)
    · exact hshown.bump _ hunpaired
  exact ite h (ite (hpaired.setTdu m _) hpaired)

theorem tduEvent (h : EdgesKept s u) (src time : Nat) : EdgesKept s (tduEvent u src time) :=
  ite (h.foldl fun _ _ hm h => h.tduOne (List.mem_range.1 hm) src time) h

theorem monAdd (h : EdgesKept s u) {m : Nat} (hm : m < 16) (v : Int) : EdgesKept s (monAdd u m v) := by
  obtain ⟨-, -, hstatus⟩ := statRegs_ne m hm
  unfold Machine.monAdd
  extract_lets bin st full
  have hfull : EdgesKept s full := ite (h.wr _ _ hstatus) h
  exact ite (((hfull.takeFree 64).wr (F.MON_STATUS_SUM_OVF m) 1 hstatus).setMon m _) (hfull.setMon m _)

theorem monSample (h : EdgesKept s u) (src arg : Nat) (v : Int) : EdgesKept s (monSample u src arg v) :=
  ite h (h.foldl fun _ _ hm h => ite (h.monAdd (List.mem_range.1 hm) v) h)

/-! ## The facet and the pulse -/

theorem facetShow (h : EdgesKept s u) : EdgesKept s (facetShow u) := (((h.wr _ _).wr _ _).setReg _ _).setReg _ _

theorem idxLost (h : EdgesKept s u) : EdgesKept s (idxLost u) :=
  ((((h.bump _).wrBit _ _ _).raise _).modelDrop.motStop.safLatch _ _ _ _).safRefresh

theorem markWide (h : EdgesKept s u) : EdgesKept s (markWide u) :=
  have hshown := (h.onMot fun m => { m with f := 0, run := 0 }).facetShow
  ite (ite hshown.idxLost (hshown.raise _)) h

/-! ## The speed model and the phase -/

theorem modelEdge (h : EdgesKept s u) : EdgesKept s (modelEdge u) := by
  unfold Machine.modelEdge
  extract_lets n counted fast shown restarted
  have hcounted : EdgesKept s counted := h.onMot _
  have hrestarted : EdgesKept s restarted := ((hcounted.wr _ _).wrB _ _).onMot _
  exact ite (h.onMot _) (ite (ite hcounted.modelDrop ((hcounted.wrB _ _).onMot _)) (ite (hrestarted.onMot _) hcounted))

theorem windowEdge (h : EdgesKept s u) : EdgesKept s (windowEdge u) := h.onMot _

theorem refFor (h : EdgesKept s u) (t : Nat) : EdgesKept s (refFor u t).2 := by
  unfold Machine.refFor
  split
  · exact h
  · dsimp only
    exact (h.takeFree 40).onMot _

theorem edgeRef (h : EdgesKept s u) (t : Nat) : EdgesKept s (edgeRef u t).2 := by
  unfold Machine.edgeRef
  split
  · split
    · split
      · exact h
      · dsimp only
        exact (h.refFor _).onMot _
    · dsimp only
      exact (h.refFor _).onMot _
  · exact (h.onMot _).refFor _

theorem phaseInput (h : EdgesKept s u) : EdgesKept s (phaseInput u) := ((h.edgeRef _).onMot _).setReg _ _

theorem lockJudge (h : EdgesKept s u) : EdgesKept s (lockJudge u) := by
  unfold Machine.lockJudge
  extract_lets y tol judged had lost
  have hjudged : EdgesKept s judged := h.onMot _
  have hlost : EdgesKept s lost := (hjudged.wr _ _).onMot _
  exact ite (ite (hlost.raise _) hlost) (ite ((hjudged.wr _ _).raise _) hjudged)

theorem phaseEdge (h : EdgesKept s u) : EdgesKept s (phaseEdge u) :=
  ite ((h.wr _ _).onMot _) (ite h.phaseInput.lockJudge (h.phaseInput.onMot _))

theorem phaseEnter (h : EdgesKept s u) : EdgesKept s (phaseEnter u) := by
  unfold Machine.phaseEnter
  extract_lets cleared emptied r q renumbered entered started
  have hemptied : EdgesKept s emptied := (h.wr _ _).onMot _
  have hrenumbered : EdgesKept s renumbered := ite hemptied ((hemptied.edgeRef _).onMot _)
  exact (hrenumbered.phaseInput.onMot _).setMode 4

theorem pendingEdge (h : EdgesKept s u) : EdgesKept s (pendingEdge u) := ite h.phaseEnter h

/-! ## Sweeps -/

theorem setRun (h : EdgesKept s u) (g : Nat) (r : GroupRun) : EdgesKept s (setRun u g r) := h.withEsc _

theorem addSweep (h : EdgesKept s u) (w : Sweep) : EdgesKept s (addSweep u w) :=
  (h.withAcq _).foldl fun _ _ _ h => ite (h.setRun _ _) h

theorem facetSweep (h : EdgesKept s u) : EdgesKept s (facetSweep u) := ite ((h.withEsc _).addSweep _) (h.withEsc _)

end Sys2Proof.Machine.EdgesKept

namespace Sys2Proof.Machine

/-! ## The edges -/

/-- An edge at a die that runs on locked clocks is not discarded. -/
theorem edge_taken {s : State} (hon : sysOn s = true) (hdiscard : s.clk.discard.contains 0 = false) :
    ¬ ((!(sysOn s)) = true ∨ s.clk.discard.contains 0 = true) := by
  rw [hon, hdiscard]
  decide

/-- The pulse that never fell is judged, and the count stays (10 R270). -/
theorem reg_idxUnfallen (s : State) : reg (idxUnfallen s) A.MOT_IDX_EDGES = reg s A.MOT_IDX_EDGES := by
  unfold idxUnfallen
  split
  · exact (EdgesKept.refl (onMot s fun m => { m with rise := none })).markWide.count
  · rfl

/-- The registration of an edge is its count (10 R270). -/
theorem reg_idxRegister (s : State) :
    (reg (idxRegister s) A.MOT_IDX_EDGES).toNat = min ((reg s A.MOT_IDX_EDGES).toNat + 1) 0xFFFFFFFF := by
  unfold idxRegister
  extract_lets t m n closed sampled
  clear_value closed
  have hsampled : EdgesKept s sampled := by
    cases closed with
    | none => exact .refl s
    | some c => exact .ite ((EdgesKept.refl s).monSample _ _ _) (.refl s)
  rw [reg_onMot, reg_bump_toNat, hsampled.count]

/-- What follows the registration of an edge leaves the count (10 R282, R289 to R291; 04 R105). -/
theorem reg_idxRisingEdge {s : State} (hon : sysOn s = true) (hdiscard : s.clk.discard.contains 0 = false) :
    reg (idxRisingEdge s) A.MOT_IDX_EDGES =
      reg (idxRegister (idxUnfallen (tduEvent s 0x230 s.now))) A.MOT_IDX_EDGES := by
  unfold idxRisingEdge
  rw [if_neg (edge_taken hon hdiscard)]
  extract_lets sampled modelled windowed phased shown passed
  have hmodelled : EdgesKept (idxRegister (idxUnfallen sampled)) modelled := (EdgesKept.refl _).modelEdge
  have hwindowed : EdgesKept _ windowed := (EdgesKept.ite hmodelled (hmodelled.withEsc _)).windowEdge
  have hphased : EdgesKept _ phased := .ite hwindowed.phaseEdge (.ite hwindowed.pendingEdge hwindowed)
  have hpassed : EdgesKept _ passed := .ite (hphased.facetShow.galBoundary _ _) hphased.facetShow
  exact (hpassed.facetSweep.safSpeedSample true).count

/-- A rising edge that is not discarded counts. -/
theorem idxRisingEdge_counts {s : State} (hon : sysOn s = true) (hdiscard : s.clk.discard.contains 0 = false) :
    (reg (idxRisingEdge s) A.MOT_IDX_EDGES).toNat = min ((reg s A.MOT_IDX_EDGES).toNat + 1) 0xFFFFFFFF := by
  rw [reg_idxRisingEdge hon hdiscard, reg_idxRegister, reg_idxUnfallen, ((EdgesKept.refl s).tduEvent _ _).count]

/-- A falling edge that is not discarded ends the pulse, whether or not it was wide (10 R270). -/
theorem idxFallingEdge_ends {s : State} {p : Nat × Option Nat} (hon : sysOn s = true)
    (hdiscard : s.clk.discard.contains 0 = false) (hrise : s.ctl.mot.rise = some p) :
    (idxFallingEdge s).ctl.mot.rise = none := by
  obtain ⟨r, closed⟩ := p
  have hended : EdgesKept (onMot s fun m => { m with rise := none }) (onMot s fun m => { m with rise := none }) := .refl _
  unfold idxFallingEdge
  simp only [hrise]
  rw [if_neg (edge_taken hon hdiscard)]
  cases closed with
  | none => rfl
  | some c => exact (EdgesKept.ite hended.markWide hended).rise

end Sys2Proof.Machine
end

section
/-!
SUPPORT. The operations beside acquisition leave it: links, preview, pair, queues, statistics, calibration and the schedule
(07 R181; 08 R210; 14 R376; 15 R391; 17 R449; 19 R479, R482).
-/

namespace Sys2Proof.Machine

-- The proofs are many and short: checked side by side, each on a stack of its own, they would pass the build's memory limit.
set_option Elab.async false

/-! ## Small updates -/

theorem acq_ite (c : Prop) [Decidable c] (x y : State) : (if c then x else y).acq = if c then x.acq else y.acq :=
  apply_ite State.acq c x y

@[simp] theorem onAcq_acq (s : State) (f : Acq → Acq) : (onAcq s f).acq = f s.acq := rfl
@[simp] theorem onPln_acq (s : State) (f : Pln → Pln) : (onPln s f).acq = s.acq := rfl
@[simp] theorem onPair_acq (s : State) (f : Pair → Pair) : (onPair s f).acq = s.acq := rfl
@[simp] theorem onBuf_acq (s : State) (n : Nat) (f : VidBuf → VidBuf) : (onBuf s n f).acq = s.acq := rfl
@[simp] theorem onCal_acq (s : State) (f : Cal → Cal) : (onCal s f).acq = s.acq := rfl
@[simp] theorem onHka_acq (s : State) (f : Hka → Hka) : (onHka s f).acq = s.acq := rfl
@[simp] theorem setLatest_acq (s : State) (x : Option (Nat × Nat)) : (setLatest s x).acq = s.acq := rfl
@[simp] theorem setQueue_acq (s : State) (k : Nat) (q : Queue) : (setQueue s k q).acq = s.acq := rfl
@[simp] theorem touchPool_acq (s : State) : (touchPool s).acq = s.acq := rfl
@[simp] theorem endDrop_acq (s : State) (k : Nat) : (endDrop s k).acq = s.acq := rfl
@[simp] theorem setMon_acq (s : State) (m : Nat) (x : Stat) : (setMon s m x).acq = s.acq := rfl
@[simp] theorem setTdu_acq (s : State) (m : Nat) (x : Stat) : (setTdu s m x).acq = s.acq := rfl
@[simp] theorem setRun_acq (s : State) (g : Nat) (r : GroupRun) : (setRun s g r).acq = s.acq := rfl
@[simp] theorem stopScheduling_acq (s : State) : (stopScheduling s).acq = s.acq := rfl
@[simp] theorem endSweeps_acq (s : State) (t : Nat) : (endSweeps s t).acq = s.acq := rfl
@[simp] theorem toutPlace_acq (s : State) (tb i : Nat) : (toutPlace s tb i).acq = s.acq := rfl

theorem MotionOnly.acq {s u : State} (h : MotionOnly s u) : u.acq = s.acq := congrArg (·.acq) h

@[simp] theorem lmpEdge_acq (s : State) (src : Nat) (rise : Bool) : (lmpEdge s src rise).acq = s.acq :=
  ((MotionOnly.refl s).lmpEdge src rise).acq

@[simp] theorem refPermit_acq (s : State) : (refPermit s).acq = s.acq := by
  rw [refPermit, acq_ite, (MotionOnly.refl _).safRefresh.acq, ite_self]

@[simp] theorem toutTake_acq (s : State) : (toutTake s).acq = s.acq := foldl_keeps State.acq (f := toutTakeOne) (fun _ _ => rfl) _ s

@[simp] theorem toutFrame_acq (s : State) (tb next : Nat) : (toutFrame s tb next).acq = s.acq :=
  foldl_keeps State.acq (fun u i => by simp only [acq_ite, toutPlace_acq, ite_self]) _ s

@[simp] theorem reseedFrame_acq (s : State) (k : Nat) : (reseedFrame s k).acq = s.acq :=
  foldl_keeps State.acq (fun u g => setRun_acq u g _) _ _

/-! ## Statistics -/

@[simp] theorem monAdd_acq (s : State) (m : Nat) (v : Int) : (monAdd s m v).acq = s.acq := by
  simp only [monAdd, acq_ite, setMon_acq, wr_acq, takeFree_acq, ite_self]

@[simp] theorem monSample_acq (s : State) (src arg : Nat) (v : Int) : (monSample s src arg v).acq = s.acq := by
  rw [monSample, acq_ite, foldl_keeps State.acq fun u m => by rw [acq_ite, monAdd_acq, ite_self], ite_self]

@[simp] theorem monSnap_acq (s : State) (m : Nat) : (monSnap s m).acq = s.acq := by
  rw [monSnap, foldl_keeps State.acq fun u _ => setReg_acq u _ _, setWide_acq, setReg_acq, setReg_acq, setReg_acq]

@[simp] theorem monStart_acq (s : State) (m : Nat) : (monStart s m).acq = s.acq := by
  rw [monStart, wr_acq, setMon_acq, setReg_acq]

@[simp] theorem monFrame_acq (s : State) : (monFrame s).acq = s.acq := by
  rw [monFrame, foldl_keeps State.acq fun u m => by rw [acq_ite, monStart_acq, monSnap_acq, ite_self]]

@[simp] theorem divOpen_acq (a : Int) (b : Nat) (s : State) : (divOpen a b s).2.acq = s.acq := by
  unfold divOpen
  split <;> rfl

@[simp] theorem tduCopy_acq (st : Stat) (s : State) (m : Nat) : (tduCopy st s m).acq = s.acq := by
  rw [tduCopy, foldl_keeps State.acq fun _ _ => setReg_acq _ _ _, setReg_acq, setReg_acq, setWide_acq, setReg_acq, acq_ite,
    wr_acq, ite_self]

@[simp] theorem tduMean_acq (st : Stat) (s : State) (m : Nat) : (tduMean st s m).acq = s.acq := by
  rw [tduMean, acq_ite, setReg_acq, setReg_acq, takeFree_acq, divOpen_acq, ite_self]

@[simp] theorem tduSnap_acq (s : State) (m : Nat) : (tduSnap s m).acq = s.acq := by
  rw [tduSnap_eq, tduMean_acq, tduCopy_acq]

@[simp] theorem tduStart_acq (s : State) (m : Nat) : (tduStart s m).acq = s.acq := by
  rw [tduStart, wr_acq, setTdu_acq, setReg_acq]

@[simp] theorem tduFrame_acq (s : State) : (tduFrame s).acq = s.acq := by
  rw [tduFrame, foldl_keeps State.acq fun u m => by rw [acq_ite, tduStart_acq, tduSnap_acq, ite_self]]

@[simp] theorem roundRequest_acq (s : State) : (roundRequest s).acq = s.acq := by
  simp only [roundRequest, acq_ite, onHka_acq, wr_acq, raise_acq, bump_acq, ite_self]

/-! ## The pair and the planner -/

@[simp] theorem pairSend_acq (s : State) (sub bytes : Nat) (body : List Word) : (pairSend s sub bytes body).acq = s.acq := by
  unfold pairSend
  split
  · rfl
  · rfl

@[simp] theorem cmpTile_acq (s : State) (r frame tile valid dsum : Nat) : (cmpTile s r frame tile valid dsum).acq = s.acq := by
  simp only [cmpTile, acq_ite, onPair_acq, pairSend_acq, ite_self]

@[simp] theorem cmpEnd_acq (s : State) (frame : Nat) (stopped : Bool) : (cmpEnd s frame stopped).acq = s.acq := by
  simp only [cmpEnd, cmpJudge, acq_ite, raise_acq, bump_acq, onPair_acq, pairSend_acq, ite_self]

@[simp] theorem grantWatch_acq (o s : State) : (grantWatch o s).acq = s.acq := by
  simp only [grantWatch, acq_ite, raise_acq, ite_self]

@[simp] theorem planFrameBoundary_acq (s : State) : (planFrameBoundary s).acq = s.acq := by
  simp only [planFrameBoundary, grantWatch_acq, grantAdd, onPln_acq]

@[simp] theorem planTakeUp_acq (s : State) : (planTakeUp s).acq = s.acq := by
  simp only [planTakeUp, acq_ite, grantWatch_acq, onPln_acq, wr_acq, ite_self]

@[simp] theorem planPhase_acq (s : State) (p : Int) : (planPhase s p).acq = s.acq := by
  simp only [planPhase, acq_ite, raise_acq, onPln_acq, wr_acq, setReg_acq, ite_self]

@[simp] theorem takeoverNote_acq (s : State) (cause : Nat) : (takeoverNote s cause).acq = s.acq := by
  simp only [takeoverNote, raise_acq, bump_acq, wr_acq]

/-! ## The preview -/

@[simp] theorem giveBuffer_acq (s : State) (frame : Nat) : (giveBuffer s frame).acq = s.acq := by
  unfold giveBuffer
  split
  · simp only [onBuf_acq, acq_ite, setLatest_acq, raise_acq, bump_acq, ite_self]
  · rfl

@[simp] theorem takeBuffer_acq (s : State) (num : Nat) (provisional : Bool) : (takeBuffer s num provisional).acq = s.acq := by
  simp only [takeBuffer, acq_ite, giveBuffer_acq, ite_self]

@[simp] theorem bufferEnd_acq (s : State) (b : VidBuf) (i : Nat) (stopped : Bool) : (bufferEnd s b i stopped).acq = s.acq := by
  simp only [bufferEnd, acq_ite, bump_acq, setLatest_acq, ite_self]

@[simp] theorem vidFrameEnd_acq (s : State) (frame : Nat) (stopped : Bool) : (vidFrameEnd s frame stopped).acq = s.acq := by
  unfold vidFrameEnd
  split
  · rfl
  · next b _ =>
    extract_lets ended left
    have hended : ended.acq = s.acq := by
      dsimp only [ended]
      cases b.idx with
      | some i => exact bufferEnd_acq s b i stopped
      | none => simp only [acq_ite, raise_acq, bump_acq, ite_self]
    split
    · exact (giveBuffer_acq _ _).trans hended
    · exact hended

/-! ## Queues -/

@[simp] theorem settleQueue_acq (s : State) (k : Nat) : (settleQueue s k).acq = s.acq := by
  simp only [settleQueue, acq_ite, setQueue_acq, ite_self]

@[simp] theorem applyQueue_acq (s : State) (k : Nat) : (applyQueue s k).acq = s.acq := by
  simp only [applyQueue, acq_ite, settleQueue_acq, setQueue_acq, setReg_acq, ite_self]

@[simp] theorem bump31_acq (s : State) (a n : Nat) : (bump31 s a n).acq = s.acq := by
  simp only [bump31, acq_ite, setReg_acq, ite_self]

@[simp] theorem takeIn_acq (s : State) (k : Nat) (r : QRec) : (takeIn s k r).acq = s.acq := by
  simp only [takeIn, poolWatch, monSample_acq, acq_ite, raise_acq, wr_acq, touchPool_acq, setQueue_acq, ite_self]

@[simp] theorem discard_acq (s : State) (k : Nat) (r : QRec) : (discard s k r).acq = s.acq := by
  simp only [discard, bump_acq, bump31_acq, setQueue_acq, acq_ite, setReg_acq, raise_acq, ite_self]

@[simp] theorem takeRec_acq (s : State) (k : Nat) (r : QRec) : (takeRec s k r).acq = s.acq := by
  simp only [takeRec, acq_ite, takeIn_acq, endDrop_acq, discard_acq, applyQueue_acq, ite_self]

@[simp] theorem headsAgain_acq (s : State) (f : Frame) : (headsAgain s f).acq = s.acq :=
  foldl_keeps State.acq (fun u _ => foldl_keeps State.acq (fun v k => takeRec_acq v k _) _ u) _ s

/-! ## Calibration -/

@[simp] theorem recFail_acq (s : State) (p code : Nat) : (recFail s p code).acq = s.acq := by
  simp only [recFail, acq_ite, recErr_acq, ite_self]

@[simp] theorem jobRestore_acq (s : State) (j : CalJob) : (jobRestore s j).acq = s.acq := by
  have hsettle : ∀ (p : Prop) [Decidable p] (u : State) c, (if p then u else settle u c).acq = u.acq := fun p _ u c => by
    split <;> rfl
  unfold jobRestore
  split
  · exact foldl_keeps State.acq (fun u c => hsettle _ u c) _ s
  · rfl

@[simp] theorem calStart_acq (s : State) : (calStart s).acq = s.acq := by
  unfold calStart
  split
  · rfl
  · extract_lets t l x dup out
    rw [onCal_acq, setReg_acq]
    simp only [out, dup, acq_ite, raise_acq, ite_self]

@[simp] theorem calAgain_acq (s : State) : (calAgain s).acq = s.acq := by
  rw [calAgain, acq_ite, calStart_acq, ite_self]

@[simp] theorem jobFail_acq (s : State) (code : Nat) : (jobFail s code).acq = s.acq := by
  have hend : ∀ (u : State) n, (jobEnd u n).acq = u.acq := fun u n => by
    unfold jobEnd
    split
    · rfl
    · simp only [calAgain_acq, acq_ite, raise_acq, bump_acq, onCal_acq, wr_acq, wrB_acq, setReg_acq, jobRestore_acq, ite_self]
  simp only [jobFail, acq_ite, hend, recFail_acq, ite_self]

@[simp] theorem clampEvent_acq (s : State) (c : Nat) : (clampEvent s c).acq = s.acq := by
  rw [clampEvent, acq_ite, raise_acq, ite_self]

@[simp] theorem calChannel_acq (x : CalSet) (s : State) (c : Nat) : (calChannel x s c).acq = s.acq := by
  unfold calChannel
  rw [clampEvent_acq]
  split <;> rfl

@[simp] theorem calShow_acq (s : State) : (calShow s).acq = s.acq := by
  rw [calShow, wrB_acq, setReg_acq, wr_acq, wr_acq, wr_acq]

theorem calChannels_acq (x : CalSet) (s : State) (l : List Nat) : (l.foldl (calChannel x) s).acq = s.acq :=
  foldl_keeps State.acq (calChannel_acq x) l s

@[simp] theorem calInstall_acq (s : State) (e : Nat) (x : CalSet) : (calInstall s e x).acq = s.acq := by
  rw [calInstall, raise_acq, bump_acq, wrB_acq, wr_acq, calShow_acq, onCal_acq, calChannels_acq]

@[simp] theorem calBoundary_acq (tb : Nat) (s : State) : (calBoundary tb s).acq = s.acq := by
  unfold calBoundary
  split
  · rfl
  · rw [acq_ite, calInstall_acq, ite_self]

end Sys2Proof.Machine
end

section
/-!
SUPPORT. The boundary last taken: nothing that a frame boundary does changes it again (07 R181 to R187, R198 to R201; 19 R482;
20 R498).
-/

namespace Sys2Proof.Machine

-- The proofs are many and short: checked side by side, each on a stack of its own, they would pass the build's memory limit.
set_option Elab.async false

/-! ## Small updates -/

theorem bound_ite (c : Prop) [Decidable c] (x y : State) :
    (if c then x else y).acq.bound = if c then x.acq.bound else y.acq.bound := apply_ite (fun u : State => u.acq.bound) c x y

/-- The boundary last taken after a fold of which no step changes it. -/
theorem bound_foldl {α : Type} {f : State → α → State} (hf : ∀ s x, (f s x).acq.bound = s.acq.bound) (l : List α) (s : State) :
    (l.foldl f s).acq.bound = s.acq.bound := foldl_keeps (fun u => u.acq.bound) hf l s

@[simp] theorem pushRec_bound (s : State) (i : Nat) (r : Rec) : (pushRec s i r).acq.bound = s.acq.bound := rfl
@[simp] theorem insertMark_bound (s : State) (i : Nat) (m : Mark) : (insertMark s i m).acq.bound = s.acq.bound := rfl
@[simp] theorem onSeq_bound (s : State) (n : Nat) (f : Seq → Seq) : (onSeq s n f).acq.bound = s.acq.bound := rfl
@[simp] theorem onFrame_bound (s : State) (n : Nat) (f : Frame → Frame) : (onFrame s n f).acq.bound = s.acq.bound := rfl
@[simp] theorem autoRestart_bound (s : State) : (autoRestart s).acq.bound = s.acq.bound := rfl
@[simp] theorem closeFrames_bound (s : State) (stopped : Bool) : (closeFrames s stopped).acq.bound = s.acq.bound := rfl
@[simp] theorem pruneFrames_bound (s : State) : (pruneFrames s).acq.bound = s.acq.bound := rfl
@[simp] theorem ringDiscard_bound (s : State) : (ringDiscard s).acq.bound = s.acq.bound := rfl

/-! ## Sequences -/

@[simp] theorem pushSeq_bound (s : State) (typ frame pos : Nat) (ws : List Word) :
    (pushSeq s typ frame pos ws).acq.bound = s.acq.bound := bound_foldl (fun u _ => pushRec_bound u _ _) _ s

@[simp] theorem pushRing_bound (s : State) (e : RingEnt) : (pushRing s e).acq.bound = s.acq.bound :=
  bound_foldl (fun u _ => pushRec_bound u _ _) _ s

@[simp] theorem feedFront_bound (s : State) (num o : Nat) : (feedFront s num o).acq.bound = s.acq.bound := by
  unfold feedFront
  split
  · rfl
  · rw [onSeq_bound, bound_foldl fun u m => pushSeq_bound u _ _ _ _, bound_foldl pushRing_bound]

@[simp] theorem feedSeq_bound (num n : Nat) (s : State) : (feedSeq num n s).acq.bound = s.acq.bound := by
  induction n generalizing s with
  | zero => rfl
  | succ n ih =>
    unfold feedSeq
    split
    · rfl
    · simp only [bound_ite, wr_acq, onSeq_bound, pushSeq_bound, ih, bound_foldl pushRing_bound, feedFront_bound, ite_self]

@[simp] theorem feedAll_bound (s : State) : (feedAll s).acq.bound = s.acq.bound := bound_foldl (fun u _ => feedSeq_bound _ _ u) _ s

@[simp] theorem seqStop_bound (s : State) : (seqStop s).acq.bound = s.acq.bound := by rw [seqStop, feedAll_bound, onAcq_acq]

/-! ## What is complete leaves -/

@[simp] theorem placeMark_bound (s : State) (f : Frame) (m : Mark) : (placeMark s f m).acq.bound = s.acq.bound :=
  bound_foldl (fun u i => insertMark_bound u i m) _ s

@[simp] theorem pushSlice_bound (s : State) (frame pos : Nat) (l : List PixOut) (st : Nat) :
    (pushSlice s frame pos l st).acq.bound = s.acq.bound := by
  simp only [pushSlice, bound_ite, pushRec_bound, ite_self]

@[simp] theorem emitPos_bound (s : State) (f : Frame) (pos : Nat) (l : List PixOut) :
    (emitPos s f pos l).acq.bound = s.acq.bound := by
  rw [emitPos, onFrame_bound, bound_foldl fun u x => pushRec_bound u _ _, bound_foldl fun u x => pushSlice_bound u _ _ _ x]

@[simp] theorem endFrame_bound (s : State) (f : Frame) : (endFrame s f).acq.bound = s.acq.bound := by
  have hloss : ∀ (p : Prop) [Decidable p] (u : State), (if p then raise (bump u A.ACQ_P4_LOSS_FRAMES) F.ACQ_EVT_RAW_P4_LOSS
      else u).acq = u.acq := fun p _ u => by rw [acq_ite, raise_acq, bump_acq, ite_self]
  rw [endFrame, pruneFrames_bound, onFrame_bound, cmpEnd_acq, vidFrameEnd_acq, hloss, wr_acq,
    bound_foldl fun u x => pushRec_bound u _ _]
  refine bound_foldl (fun u x => ?_) _ s
  split
  · rw [cmpTile_acq, pushRec_bound]
  · rfl

@[simp] theorem flushFrame_bound (num n : Nat) (s : State) : (flushFrame num n s).acq.bound = s.acq.bound := by
  induction n generalizing s with
  | zero => rfl
  | succ n ih =>
    unfold flushFrame
    split
    · rfl
    · split
      · rfl
      · dsimp only
        split
        · split
          · split
            · rw [ih, placeMark_bound]
            · rfl
          · rw [ih, emitPos_bound]
        · split
          · rw [ih, placeMark_bound]
          · rfl
        · rw [ih, emitPos_bound]
        · rw [bound_ite, endFrame_bound, ite_self]

@[simp] theorem pushHeads_bound (s : State) (f : Frame) : (pushHeads s f).acq.bound = s.acq.bound :=
  bound_foldl (fun u _ => pushRec_bound u _ _) _ s

@[simp] theorem flushList_bound (l : List Frame) (s : State) : (flushList l s).acq.bound = s.acq.bound := by
  induction l generalizing s with
  | nil => rfl
  | cons f l ih => simp only [flushList, bound_ite, ih, flushFrame_bound, pushHeads_bound, ite_self]

@[simp] theorem flushFrames_bound (s : State) : (flushFrames s).acq.bound = s.acq.bound := by
  rw [flushFrames, feedAll_bound, flushList_bound]

/-! ## ENABLE, RUN and READY -/

@[simp] theorem acqRefresh_bound (s : State) : (acqRefresh s).acq.bound = s.acq.bound := by
  simp only [acqRefresh, bound_ite, autoRestart_bound, refPermit_acq, flushFrames_bound, planFrameBoundary_acq,
    stopScheduling_acq, lmpEdge_acq, onAcq_acq, wr_acq, seqStop_bound, closeFrames_bound, ite_self]

@[simp] theorem enableEffect_bound (s : State) : (enableEffect s).acq.bound = s.acq.bound := by
  rw [enableEffect, acqRefresh_bound, onAcq_acq]

@[simp] theorem enterRun_bound (s : State) : (enterRun s).acq.bound = s.acq.bound := by
  rw [enterRun, acqRefresh_bound, raise_acq, wr_acq, wr_acq]

@[simp] theorem leaveRun_bound (s : State) : (leaveRun s).acq.bound = s.acq.bound := by
  rw [leaveRun, bound_ite, enableEffect_bound, stopScheduling_acq, raise_acq, wr_acq, wr_acq, wr_acq, ite_self]

@[simp] theorem boundaryRun_bound (s : State) (partner : Bool) : (boundaryRun s partner).acq.bound = s.acq.bound := by
  rw [boundaryRun, bound_ite, enterRun_bound, bound_ite, leaveRun_bound, ite_self, ite_self]

/-- A takeover at a boundary marks frames only. -/
@[simp] theorem pairBoundary_bound (s : State) : (pairBoundary s).acq.bound = s.acq.bound := by
  have htake : ∀ (u : State) n, (takeover u n).acq.bound = u.acq.bound := fun u n => by
    unfold takeover
    extract_lets fl num sent held noted planned headed
    have hplanned : planned.acq = u.acq := by
      simp only [planned, noted, held, sent, planTakeUp_acq, setWide_acq, raise_acq, takeoverNote_acq, onPair_acq, wr_acq,
        pairSend_acq]
    have hheaded : headed.acq = u.acq := by
      dsimp only [headed]
      cases fl with
      | some f => simp only [acq_ite, headsAgain_acq, onPair_acq, hplanned, ite_self]
      | none => simp only [hplanned, ite_self]
    cases fl with
    | some f => exact congrArg (·.bound) hheaded
    | none => exact congrArg (·.bound) hheaded
  rw [pairBoundary, bound_ite, htake, wr_acq, ite_self]

/-! ## A frame ends and the next starts -/

@[simp] theorem rearmNow_bound (s : State) : (rearmNow s).acq.bound = s.acq.bound := by
  simp only [rearmNow, bound_ite, ringDiscard_bound, onAcq_acq, lmpEdge_acq, wr_acq, ite_self]

@[simp] theorem numberFrame_bound (tb : Nat) (s : State) : (numberFrame tb s).acq.bound = s.acq.bound := by
  unfold numberFrame
  extract_lets next r num skipped shown
  have hskipped : skipped.acq = s.acq := by
    simp only [skipped, acq_ite, raise_acq, bump_acq, ite_self]
  have hshown : shown.acq = s.acq := by
    dsimp only [shown]
    cases r with
    | some r => rw [setReg_acq, hskipped]
    | none => exact hskipped
  rw [setWide_acq, onAcq_acq, hshown]

@[simp] theorem retentionMode_bound (s : State) : (retentionMode s).acq.bound = s.acq.bound := by
  unfold retentionMode
  split
  · rw [bound_ite, onAcq_acq, ringDiscard_bound, wr_acq, ite_self]
  · rw [bound_ite, bound_ite, autoRestart_bound, wr_acq, seqStop_bound, ite_self, ite_self]

theorem ringRoom_bound {len n : Nat} {s u : State} (h : ringRoom len n s = some u) : u.acq.bound = s.acq.bound := by
  induction n generalizing s with
  | zero => cases h
  | succ n ih =>
    unfold ringRoom at h
    split at h
    · cases h
      rfl
    · split at h
      · cases h
      · split at h
        · cases h
        · rw [ih h, onAcq_acq]

theorem ringStore_bound (s : State) (typ frame pos ord regs : Nat) (ws : List Word) :
    ((ringStore s typ frame pos ord regs ws).getD s).acq.bound = s.acq.bound := by
  unfold ringStore
  split
  · rfl
  · next u hroom =>
    have hkept := ringRoom_bound hroom
    exact hkept

@[simp] theorem ringHeads_bound (s : State) (f : Frame) : (ringHeads s f).acq.bound = s.acq.bound := by
  rw [ringHeads, bound_ite, bound_foldl fun u r => ringStore_bound u _ _ _ _ _ _, ite_self]

@[simp] theorem addSweep_bound (s : State) (w : Sweep) : (addSweep s w).acq.bound = s.acq.bound :=
  bound_foldl (fun u g => by rw [bound_ite, setRun_acq, ite_self]) _ _

@[simp] theorem frameStart_bound (tb : Nat) (s : State) : (frameStart tb s).acq.bound = s.acq.bound := by
  simp only [frameStart, takeBuffer_acq, bound_ite, jobFail_acq, addSweep_bound, raise_acq, bump_acq, wr_acq, ringHeads_bound,
    onAcq_acq, ite_self]

@[simp] theorem frameTurn_bound (tb : Nat) (s : State) : (frameTurn tb s).acq.bound = s.acq.bound := by
  simp only [frameTurn, flushFrames_bound, bound_ite, roundRequest_acq, tduFrame_acq, monFrame_acq, toutFrame_acq,
    frameStart_bound, reseedFrame_acq, retentionMode_bound, numberFrame_bound, rearmNow_bound, onAcq_acq, wr_acq,
    closeFrames_bound, ite_self]

end Sys2Proof.Machine
end

section
/-!
SUPPORT. Frame boundaries and genlock edges: what is taken, what is ignored, and the loss of genlock (07 R180, R181; 01 R33;
14 R379).
-/

namespace Sys2Proof.Machine

/-- A boundary after the last one taken is taken (07 R181). -/
theorem bound_frameBoundary {t b : Nat} {partner : Bool} {s : State} (hb : boundaryAt s t = some b) (hon : sysOn s = true)
    (hlt : s.acq.bound < b) : (frameBoundary t partner s).acq.bound = b := by
  have hnew : ¬ ((!(sysOn s)) = true ∨ b ≤ s.acq.bound) := by simp [hon, hlt]
  simp only [frameBoundary, hb, if_neg hnew]
  simp only [bound_ite, frameTurn_bound, calBoundary_acq, pairBoundary_bound, refPermit_acq, planFrameBoundary_acq,
    enableEffect_bound, boundaryRun_bound, toutTake_acq, endSweeps_acq, onAcq_acq, ite_self]

theorem frameBoundary_taken {t b : Nat} {partner : Bool} {s : State} (hb : boundaryAt s t = some b) (hle : b ≤ s.acq.bound) :
    frameBoundary t partner s = s := by
  simp only [frameBoundary, hb, if_pos (Or.inr hle)]

section
variable {t : Nat} {falling : Bool} {s : State} (hon : sysOn s = true) (hdiscard : s.clk.discard.contains 0 = false)
  (hmode : refMode s = 2) (hedge : flag s F.ACQ_TIME_REF_GL_FALLING = falling)
include hon hdiscard hmode hedge

/-- The active edge of GENLOCK_IN in GENLOCK is not ignored. -/
theorem genlock_active : ¬ ((!(sysOn s)) = true ∨ s.clk.discard.contains 0 = true ∨ refMode s ≠ 2 ∨
    flag s F.ACQ_TIME_REF_GL_FALLING ≠ falling) := by
  rw [hon, hdiscard, hmode, hedge]
  simp

/-- An accepted edge becomes the latest (07 R180). -/
theorem glEdge_genlockEdge (hlate : (s.acq.glEdge.all fun e => decide (acqPeriod s ≤ 2 * (t - e) * 2 ^ 24)) = true) :
    (genlockEdge t falling s).acq.glEdge = some t := by
  have hsoon : (s.acq.glEdge.any fun e => decide (2 * (t - e) * 2 ^ 24 < acqPeriod s)) = false := by
    cases he : s.acq.glEdge with
    | none => rfl
    | some e =>
      rw [he, Option.all_some] at hlate
      rw [Option.any_some]
      exact decide_eq_false (Nat.not_lt.2 (of_decide_eq_true hlate))
  unfold genlockEdge
  rw [if_neg (genlock_active hon hdiscard hmode hedge), hsoon, if_neg Bool.false_ne_true, planPhase_acq, wr_acq, onAcq_acq]

/-- An edge within half a period of the last is counted and ignored (07 R180). -/
theorem genlockEdge_soon {e : Nat} (hlast : s.acq.glEdge = some e) (hsoon : 2 * (t - e) * 2 ^ 24 < acqPeriod s) :
    genlockEdge t falling s = bump s A.ACQ_GENLOCK_EXTRA := by
  unfold genlockEdge
  rw [if_neg (genlock_active hon hdiscard hmode hedge)]
  refine if_pos ?_
  rw [hlast, Option.any_some]
  exact decide_eq_true hsoon

end

/-- The loss of genlock shows and raises its event (01 R33). -/
theorem flag_glLose (s : State) :
    flag (glLose s) F.ACQ_STATUS_GENLOCK_LOST = true ∧ flag (glLose s) F.ACQ_EVT_RAW_GENLOCK_LOST = true := by
  constructor
  · rw [glLose, flag_raise_other _ _ _ (by unfold evfReg; decide) (by decide), flag_wr_one _ _ (by decide) rfl]
  · exact flag_raise _ _ (by unfold evfReg; decide) (by decide) rfl (by decide)

theorem genlockLost_loses {t e : Nat} {s : State} (hon : sysOn s = true) (hmode : refMode s = 2) (hlast : s.acq.glEdge = some e)
    (hlost : flag s F.ACQ_STATUS_GENLOCK_LOST = false) (hold : e + 2 * glExpected s ≤ t) : genlockLost t s = glLose s := by
  simp only [genlockLost, hlast]
  exact if_pos ⟨hon, hmode, by rw [hlost]; rfl, hold⟩

/-- Settles O22: what follows the registration of an index edge leaves its count, what follows the taking of a boundary leaves it
the last one taken, and a genlock edge is taken, counted as extra, or missed. -/
theorem framesAndGenlock : Obligations.FramesAndGenlock := by
  refine ⟨fun t s hon hdiscard => ⟨_, rfl, ?_⟩, fun t s p hon hdiscard hrise => ⟨_, rfl, ?_⟩,
    fun t x b s hb hon hlt => ⟨_, rfl, ?_⟩, fun t x b s hb hle => congrArg Host.Outcome.next (frameBoundary_taken hb hle),
    fun t x s hon hdiscard hmode hedge hlate => ⟨_, rfl, ?_⟩,
    fun t x e s hon hdiscard hmode hedge hlast hsoon => ⟨_, rfl, ?_⟩,
    fun t e s hon hmode hlast hlost hold => ⟨_, rfl, ?_⟩⟩
  · exact idxRisingEdge_counts (s := at' t s) hon hdiscard
  · exact idxFallingEdge_ends (s := at' t s) hon hdiscard hrise
  · exact bound_frameBoundary (s := at' t s) hb hon hlt
  · exact glEdge_genlockEdge (s := at' t s) hon hdiscard hmode hedge hlate
  · rw [genlockEdge_soon (s := at' t s) hon hdiscard hmode hedge hlast hsoon]
    exact ⟨(congrArg (·.glEdge) (bump_acq (at' t s) _)).trans hlast, reg_bump_toNat _ _⟩
  · rw [genlockLost_loses (s := at' t s) hon hmode hlast hlost hold]
    exact flag_glLose _

end Sys2Proof.Machine
end

section
/-!
SUPPORT. The registers from the Press page to the channel array lie outside what the queues and the monitors write (02 R61;
08 R211 to R213, R228 to R230).
-/

namespace Sys2Proof.Machine

/-! ## Small updates -/

@[simp] theorem reg_setQueue (s : State) (k : Nat) (q : Queue) (a : Nat) : reg (setQueue s k q) a = reg s a := rfl
@[simp] theorem reg_setPress (s : State) (e : Nat) (x : PressEng) (a : Nat) : reg (setPress s e x) a = reg s a := rfl
@[simp] theorem reg_touchPool (s : State) (a : Nat) : reg (touchPool s) a = reg s a := rfl

@[simp] theorem reg_settleQueue (s : State) (k a : Nat) : reg (settleQueue s k) a = reg s a := by
  simp only [settleQueue, reg_ite, reg_setQueue, ite_self]

/-- A counter of a queue leaves every register but itself (08 R228). -/
theorem reg_bump31_other (s : State) (k n a : Nat) (h : a ≠ k) : reg (bump31 s k n) a = reg s a := by
  simp only [bump31, reg_ite, reg_setReg_other _ _ _ _ h, ite_self]

section
variable {a : Nat} (hlo : 0x51000 ≤ a)
include hlo

/-! ## Samples -/

theorem reg_monAdd {m : Nat} (hm : m < 16) (s : State) (v : Int) : reg (monAdd s m v) a = reg s a := by
  have hstatus : a ≠ 0x4124 + 0xC0 * m := by omega
  unfold monAdd
  extract_lets bin st full
  have hfull : reg full a = reg s a := reg_ite_of_imp rfl (reg_wr_other _ _ _ _ hstatus).trans
  exact reg_ite_of_imp hfull (reg_wr_other _ (F.MON_STATUS_SUM_OVF m) _ _ hstatus).trans

theorem reg_monSample (s : State) (src arg : Nat) (v : Int) : reg (monSample s src arg v) a = reg s a := by
  rw [monSample, reg_ite, reg_foldl, ite_self]
  intro u m hm
  rw [reg_ite, reg_monAdd hlo (List.mem_range.1 hm), ite_self]

/-- Watching the pool writes the page of the queues and the monitors (08 R229, R230). -/
theorem reg_poolWatch (before k : Nat) (s : State) : reg (poolWatch before k s) a = reg s a := by
  have hmin : a ≠ F.STQ_FREE_MIN_MIN.addr := Nat.ne_of_gt (Nat.lt_of_lt_of_le (by decide) hlo)
  have hraw : a ≠ F.STQ_EVT_RAW_POOL_LOW.addr - 0x10 + 0x10 := Nat.ne_of_gt (Nat.lt_of_lt_of_le (by decide) hlo)
  simp only [poolWatch, reg_monSample hlo, reg_ite, reg_raise_other _ _ _ (not_evfReg_of_ge (by omega)) hraw,
    reg_wr_other _ _ _ _ hmin, ite_self]

/-! ## Admission -/

theorem reg_takeIn (s : State) (k : Nat) (r : QRec) : reg (takeIn s k r) a = reg s a := by
  rw [takeIn, reg_poolWatch hlo, reg_touchPool, reg_setQueue]

variable (hhi : a < 0x200000)
include hhi

theorem reg_applyQueue (s : State) (k : Nat) : reg (applyQueue s k) a = reg s a := by
  have hcfg : a ≠ 0x200000 + 0x20 * k := by omega
  have hroute : a ≠ 0x200000 + 0x20 * k + 4 := by omega
  unfold applyQueue
  rw [reg_ite, reg_settleQueue, reg_setQueue]
  have hstored : ∀ v w, reg (setReg (setReg s (qBase k) v) (qBase k + 4) w) a = reg s a := fun v w =>
    (reg_setReg_other _ _ _ _ hroute).trans (reg_setReg_other s _ _ _ hcfg)
  exact (if_congr Iff.rfl rfl (hstored _ _)).trans (ite_self _)

theorem reg_discard (s : State) (k : Nat) (r : QRec) : reg (discard s k r) a = reg s a := by
  have hbelow : ∀ {c}, c < 0x51000 → a ≠ c := fun hc => Nat.ne_of_gt (Nat.lt_of_lt_of_le hc hlo)
  have hgaps : a ≠ 0x200018 + 0x20 * k := by omega
  have hdropped : a ≠ 0x200014 + 0x20 * k := by omega
  simp only [discard, reg_bump_other _ A.STQ_DROPPED a (hbelow (by decide)) (hbelow (by decide)),
    reg_bump_other _ A.STQ_GAP_FRAMES a (hbelow (by decide)) (hbelow (by decide)), reg_bump31_other _ _ _ _ hgaps,
    reg_bump31_other _ _ _ _ hdropped, reg_setQueue, reg_ite, reg_setReg_other _ A.STQ_LAST_DROP_Q a _ (hbelow (by decide)),
    reg_raise_other s F.STQ_EVT_RAW_DROP a (not_evfReg_of_ge (by omega)) (hbelow (by decide)), ite_self]

theorem reg_enterRec (s : State) (k : Nat) (r : QRec) : reg (enterRec s k r) a = reg s a := by
  simp only [enterRec, reg_ite, reg_takeIn hlo, reg_discard hlo hhi, reg_applyQueue hlo hhi, ite_self]

theorem reg_drainWait (n k : Nat) (s : State) : reg (drainWait n k s) a = reg s a := by
  induction n generalizing s with
  | zero => rfl
  | succ n ih =>
    unfold drainWait
    dsimp only
    split
    · simp only [reg_ite, ih, reg_enterRec hlo hhi, reg_setQueue, ite_self]
    · rfl

/-- Records that wait enter their queues, and no register of the range changes (08 R213). -/
theorem reg_drainAll (s : State) : reg (drainAll s) a = reg s a :=
  reg_foldl (fun u p _ => by simp only [reg_ite, reg_drainWait hlo hhi, ite_self]) s

end

end Sys2Proof.Machine
end

section
/-!
SUPPORT. What a queue and an engine of the Press read: their own part of the state, and for the room of a queue the queue table and
the split of the pool (08 R212, R222).
-/

namespace Sys2Proof.Machine

/-! ## Queues and engines -/

@[simp] theorem queue_setQueue_same (s : State) (k : Nat) (q : Queue) : queue (setQueue s k q) k = q := pget_pset_same _ _ _ _
@[simp] theorem press_setPress_same (s : State) (e : Nat) (x : PressEng) : press (setPress s e x) e = x := pget_pset_same _ _ _ _

theorem queue_congr {s u : State} (h : u.stq = s.stq) (k : Nat) : queue u k = queue s k := by rw [queue, queue, h]
theorem press_congr {s u : State} (h : u.stq = s.stq) (e : Nat) : press u e = press s e := by rw [press, press, h]

/-- The engine that has a queue's job is one of the 32. -/
theorem jobOf_lt {s : State} {k e : Nat} (h : jobOf s k = some e) : e < 32 := List.mem_range.1 (List.mem_of_find?_eq_some h)

/-! ## Room -/

section
variable {α : Type} {a b : Nat} {p : Nat × α → Bool} (hp : ∀ x, p x = true → b ≤ x.1) (h : a < b)
include hp h

/-- An entry below a range of keys is not of the range. -/
theorem filter_cons_low {x : Nat × α} (hx : x.1 ≤ a) (l : List (Nat × α)) : (x :: l).filter p = l.filter p :=
  List.filter_cons_of_neg fun hpx => by have := hp x hpx; omega

theorem filter_dropWhile_low (l : List (Nat × α)) : (l.dropWhile fun x => decide (x.1 ≤ a)).filter p = l.filter p := by
  induction l with
  | nil => rfl
  | cons x l ih =>
    by_cases hx : x.1 ≤ a
    · rw [List.dropWhile_cons_of_pos (by simpa using hx), filter_cons_low hp h hx, ih]
    · rw [List.dropWhile_cons_of_neg (by simpa using hx)]

/-- A write below a range of keys leaves the entries of the range. -/
theorem filter_pset_low [DecidableEq α] (d v : α) (l : List (Nat × α)) : (pset d l a v).filter p = l.filter p := by
  have hentry := filter_cons_low hp h (x := (a, v)) (Nat.le_refl a)
  induction l with
  | nil =>
    unfold pset
    split
    · rfl
    · exact hentry []
  | cons x l ih =>
    obtain ⟨k, w⟩ := x
    unfold pset
    split
    · rw [List.filter_cons, List.filter_cons, ih]
    · split
      · next hka =>
        rw [filter_cons_low hp h (x := (k, w)) (Nat.le_of_eq hka)]
        split
        · exact filter_dropWhile_low hp h l
        · exact hentry l
      · split
        · rfl
        · exact hentry _

end

section
variable {a : Nat} (hlow : a < 0x200000) (s : State) (v : Word)
include hlow

/-- A write of a register below the queue table makes no queue differ from reset. -/
theorem queueKeys_setReg : queueKeys (setReg s a v) = queueKeys s := by
  have hkeys : tableKeys (setReg s a v).regs = tableKeys s.regs :=
    congrArg (List.map _) (filter_pset_low (fun x hx => by simp at hx; exact hx.1) hlow _ v s.regs)
  rw [queueKeys, hkeys]
  rfl

theorem rd_table_setReg (f : Fld) (hf : 0x200000 ≤ f.addr) : rd (setReg s a v) f = rd s f :=
  rd_setReg_other _ _ _ _ (by omega)

theorem qEnabled_setReg (k : Nat) : qEnabled (setReg s a v) k = qEnabled s k := by
  have hcfg : reg (setReg s a v) (F.Q_CFG_ENABLE k).addr = reg s (F.Q_CFG_ENABLE k).addr :=
    reg_setReg_other _ _ _ _ (by simp only; omega)
  have hshadow : shadowReg (setReg s a v) (F.Q_CFG_ENABLE k).addr = shadowReg s (F.Q_CFG_ENABLE k).addr :=
    shadowReg_congr rfl hcfg
  simp only [qEnabled, flag_congr hcfg, rdShadow, hshadow]
  rfl

/-- The room of a queue does not turn on a register below the queue table that does not split the pool. -/
theorem canTakeUpTo_setReg (hsplit : a ≠ F.GLB_POOL_SPLIT_STREAM.addr) (k n : Nat) :
    canTakeUpTo (setReg s a v) k n = canTakeUpTo s k n := by
  have hfree : poolFree (setReg s a v) = poolFree s := by
    rw [poolFree, poolBlocks, rd_setReg_other _ _ _ _ hsplit.symm]
    rfl
  have hmin : ∀ j, qMin (setReg s a v) j = qMin s j := fun j =>
    rd_table_setReg hlow s v _ (Nat.le_add_right_of_le (by decide))
  have hmax : ∀ j, qMax (setReg s a v) j = qMax s j := fun j =>
    rd_table_setReg hlow s v _ (Nat.le_add_right_of_le (by decide))
  have hothers : othersReserve (setReg s a v) k = othersReserve s k := by
    simp only [othersReserve, queueKeys_setReg hlow, qEnabled_setReg hlow, hmin]
    rfl
  have htake : ∀ m, canTake (setReg s a v) k m = canTake s k m := fun m => by
    simp only [canTake, hfree, hmin, hmax, hothers]
    rfl
  simp only [canTakeUpTo, htake]

end

end Sys2Proof.Machine
end

section
/-!
SUPPORT. What a block of the Press leaves and counts when its output is placed, and what it shows when it halts (08 R220, R224).
-/

namespace Sys2Proof.Machine

/-! ## Fields beside events -/

/-- An event of a page leaves the fields that do not hold its bit. -/
theorem rd_raise_beside (s : State) (e f : Fld) (hev : ¬ evfReg f.addr)
    (hbit : f.addr ≠ e.addr - 0x10 + 0x10 ∨ e.lo < f.lo ∨ f.lo + f.len ≤ e.lo) : rd (raise s e) f = rd s f := by
  unfold rd raise
  rw [reg_raiseBits _ _ _ _ hev]
  split
  · next ha =>
    have hout : e.lo < f.lo ∨ f.lo + f.len ≤ e.lo := hbit.resolve_left fun hne => hne ha
    apply Nat.eq_of_testBit_eq
    intro i
    rw [testBit_fld, testBit_fld, BitVec.toNat_or, Nat.testBit_or]
    by_cases hi : i < f.len
    · have hpow : (word (2 ^ e.lo)).toNat.testBit (f.lo + i) = false := by
        rw [word, BitVec.toNat_ofNat, Nat.testBit_mod_two_pow, Nat.testBit_two_pow_of_ne (by omega), Bool.and_false]
      rw [hpow, Bool.or_false]
    · simp [hi]
  · rfl

/-- A field that the output of a block on engine `e` leaves: on the page of the Press, beside the counts of blocks, input and
halts, the event HALT, and what the engine shows of its job. -/
structure BesideOutput (e : Nat) (f : Fld) : Prop where
  above : 0x51000 ≤ f.addr
  below : f.addr < 0x200000
  fits : f.lo + f.len ≤ 32
  counts : ∀ c ∈ [A.PRS_BLOCKS, A.PRS_HALTS, A.PRS_IN_KIB], f.addr ≠ c ∧ f.addr ≠ c + 4
  event : f.addr ≠ 0x51010 ∨ 1 < f.lo ∨ f.lo + f.len ≤ 1
  data : f.addr ≠ 0x51104 + 0x10 * e ∧ f.addr ≠ 0x51108 + 0x10 * e
  status : f.addr ≠ 0x51100 + 0x10 * e ∨ 14 ≤ f.lo ∧ f.lo + f.len ≤ 30

/-- Below what the engines show, output leaves all but its counts and its event. -/
theorem besideOutput_of_lt {f : Fld} (habove : 0x51000 ≤ f.addr) (hlt : f.addr < 0x51100) (hfits : f.lo + f.len ≤ 32)
    (hcounts : ∀ c ∈ [A.PRS_BLOCKS, A.PRS_HALTS, A.PRS_IN_KIB], f.addr ≠ c ∧ f.addr ≠ c + 4)
    (hevent : f.addr ≠ 0x51010 ∨ 1 < f.lo ∨ f.lo + f.len ≤ 1) (e : Nat) : BesideOutput e f :=
  ⟨habove, by omega, hfits, hcounts, hevent, ⟨by omega, by omega⟩, .inl (by omega)⟩

theorem besideOutput_resumed (e : Nat) : BesideOutput e F.PRS_EVT_RAW_RESUMED :=
  besideOutput_of_lt (by decide) (by decide) (by decide) (by decide) (by decide) e

theorem besideOutput_expand (e : Nat) : BesideOutput e F.PRS_EVT_RAW_EXPAND :=
  besideOutput_of_lt (by decide) (by decide) (by decide) (by decide) (by decide) e

theorem besideOutput_expanded (e : Nat) : BesideOutput e ⟨A.PRS_EXPANDED, 0, 32⟩ :=
  besideOutput_of_lt (by decide) (by decide) (by decide) (by decide) (by decide) e

theorem besideOutput_expandLast {e : Nat} (he : e < 32) : BesideOutput e (F.PJ_STATUS_EXPAND_LAST e) where
  above := Nat.le_add_right_of_le (by decide)
  below := by simp only; omega
  fits := by simp
  counts c hc := by
    have hlow : ∀ c ∈ [A.PRS_BLOCKS, A.PRS_HALTS, A.PRS_IN_KIB], c + 4 < 0x51100 := by decide
    have := hlow c hc
    simp only
    omega
  event := .inl (by simp only; omega)
  data := ⟨by simp only; omega, by simp only; omega⟩
  status := .inr (by simp)

namespace BesideOutput
variable {e : Nat} {f : Fld} (h : BesideOutput e f)
include h

theorem rd_bumpBy {c : Nat} (hc : c ∈ [A.PRS_BLOCKS, A.PRS_HALTS, A.PRS_IN_KIB]) (s : State) (n : Nat) :
    rd (bumpBy s c n) f = rd s f :=
  rd_congr (reg_bumpBy_other s c n _ (h.counts c hc).1 (h.counts c hc).2)

/-- What an engine shows of its state and its queue lies beside the field. -/
theorem rd_wr_status {g : Fld} (hg : g = F.PJ_STATUS_STATE e ∨ g = F.PJ_STATUS_QUEUE e) (s : State) (v : Nat) :
    rd (wr s g v) f = rd s f := by
  obtain hne | ⟨hlo, hhi⟩ := h.status
  · refine rd_wr_reg _ _ _ _ ?_
    rcases hg with rfl | rfl <;> exact hne
  · refine rd_wr_field _ _ _ _ h.fits ?_
    rcases hg with rfl | rfl
    · exact .inl hhi
    · exact .inr hlo

theorem rd_setReg_data {a : Nat} (ha : a = A.PJ_CONSUMED e ∨ a = A.PJ_PRODUCED e) (s : State) (v : Word) :
    rd (setReg s a v) f = rd s f := by
  refine rd_setReg_other _ _ _ _ ?_
  rcases ha with rfl | rfl
  · exact h.data.1
  · exact h.data.2

end BesideOutput

/-! ## A block ends -/

/-- The input of a block is counted (08 R230). -/
def inputCounted (s : State) (n : Nat) : State :=
  bumpBy { s with stq := { s.stq with inRest := (s.stq.inRest + 4 * n) % 1024 } } A.PRS_IN_KIB ((s.stq.inRest + 4 * n) / 1024)

/-- A block that ends changes its queue, and is counted with its input. -/
theorem releaseBlock_eq (s : State) (k n : Nat) (out : List Byte) (stored : Bool) : ∃ q, releaseBlock s k n out stored =
    drainAll (poolWatch (poolFree s) k (inputCounted (bump (settleQueue (setQueue s k q) k) A.PRS_BLOCKS) n)) := by
  unfold releaseBlock
  extract_lets before q
  split
  split
  exact ⟨_, rfl⟩

theorem reg_inputCounted (s : State) (n a : Nat) (h : a ≠ A.PRS_IN_KIB) (h' : a ≠ A.PRS_IN_KIB + 4) :
    reg (inputCounted s n) a = reg s a :=
  (reg_bumpBy_other _ _ _ _ h h').trans (reg_congr rfl a)

/-- A block that ends counts in BLOCKS (08 R220). -/
theorem reg_releaseBlock_blocks (s : State) (k n : Nat) (out : List Byte) (stored : Bool) :
    (reg (releaseBlock s k n out stored) A.PRS_BLOCKS).toNat = min ((reg s A.PRS_BLOCKS).toNat + 1) 0xFFFFFFFF := by
  obtain ⟨q, hq⟩ := releaseBlock_eq s k n out stored
  rw [hq, reg_drainAll (by decide) (by decide), reg_poolWatch (by decide),
    reg_inputCounted _ _ _ (by decide) (by decide), reg_bump_toNat, reg_settleQueue, reg_setQueue]

theorem BesideOutput.rd_releaseBlock {e : Nat} {f : Fld} (h : BesideOutput e f) (s : State) (k n : Nat) (out : List Byte)
    (stored : Bool) : rd (releaseBlock s k n out stored) f = rd s f := by
  obtain ⟨q, hq⟩ := releaseBlock_eq s k n out stored
  obtain ⟨hinput, hinput'⟩ := h.counts A.PRS_IN_KIB (by decide)
  rw [hq, rd_congr (reg_drainAll h.above h.below _), rd_congr (reg_poolWatch h.above _ _ _),
    rd_congr (reg_inputCounted _ _ _ hinput hinput'), bump, h.rd_bumpBy (by decide), rd_congr (reg_settleQueue _ _ _),
    rd_congr (reg_setQueue _ _ _ _)]

/-! ## Output finds room -/

/-- A queue takes `n` more bytes of output. -/
def outputTaken (s : State) (k n : Nat) : State :=
  poolWatch (poolFree s) k (touchPool (setQueue s k { queue s k with outN := (queue s k).outN + n }))

/-- The job that a block has ended ends on its engine, which shows what it gave where no coding has shown it. -/
def jobEnded (s : State) (k e : Nat) (h : Halt) : State :=
  if jobOf s k = some e then
    endJob (if h.coded then s
      else setReg (setReg s (A.PJ_CONSUMED e) (word (4 * h.input.length))) (A.PJ_PRODUCED e) (word h.out.length)) e
      (4 * h.input.length)
  else s

/-- Output that finds its room ends its block, and the job with it (08 R222, R224). -/
theorem placeOutput_fits {s : State} {k m : Nat} {h : Halt}
    (hneed : begun ((queue s k).outN + (h.need - h.placed)) - begun (queue s k).outN = m)
    (hroom : canTakeUpTo s k m = m) (e : Nat) :
    placeOutput s k e h =
      jobEnded (releaseBlock (outputTaken s k (h.need - h.placed)) k h.input.length h.out h.stored) k e h := by
  subst hneed
  exact if_pos hroom

theorem reg_jobEnded_blocks (s : State) (k e : Nat) (h : Halt) : reg (jobEnded s k e h) A.PRS_BLOCKS = reg s A.PRS_BLOCKS := by
  have hstatus : 0x51060 ≠ (F.PJ_STATUS_STATE e).addr := by simp only; omega
  have hconsumed : 0x51060 ≠ 0x51104 + 0x10 * e := by omega
  have hproduced : 0x51060 ≠ 0x51108 + 0x10 * e := by omega
  simp only [jobEnded, endJob, reg_ite, reg_monSample (show 0x51000 ≤ A.PRS_BLOCKS by decide), reg_wr_other _ _ _ _ hstatus,
    reg_setPress, reg_setReg_other _ _ _ _ hconsumed, reg_setReg_other _ _ _ _ hproduced, ite_self]

/-- Output that finds its room counts its block. -/
theorem reg_placeOutput_blocks {s : State} {k m : Nat} {h : Halt}
    (hneed : begun ((queue s k).outN + (h.need - h.placed)) - begun (queue s k).outN = m)
    (hroom : canTakeUpTo s k m = m) (e : Nat) :
    (reg (placeOutput s k e h) A.PRS_BLOCKS).toNat = min ((reg s A.PRS_BLOCKS).toNat + 1) 0xFFFFFFFF := by
  rw [placeOutput_fits hneed hroom, reg_jobEnded_blocks, reg_releaseBlock_blocks, outputTaken, reg_poolWatch (by decide)]
  rfl

theorem rd_ite (c : Prop) [Decidable c] (x y : State) (f : Fld) : rd (if c then x else y) f = if c then rd x f else rd y f :=
  apply_ite (fun u => rd u f) c x y

theorem BesideOutput.rd_jobEnded {e : Nat} {f : Fld} (hf : BesideOutput e f) (s : State) (k : Nat) (h : Halt) :
    rd (jobEnded s k e h) f = rd s f := by
  have hsample : ∀ u n, rd (endJob u e n) f = rd u f := fun u n =>
    (rd_congr (reg_monSample hf.above _ _ _ _)).trans (hf.rd_wr_status (.inl rfl) _ _)
  simp only [jobEnded, rd_ite, hsample, hf.rd_setReg_data (.inl rfl), hf.rd_setReg_data (.inr rfl), ite_self]

/-! ## Output finds no room -/

/-- A queue halts with `n` more bytes of its output placed. -/
def outputHalted (s : State) (k : Nat) (h : Halt) (n : Nat) : State :=
  touchPool (setQueue s k { queue s k with outN := (queue s k).outN + n, halt := some { h with placed := h.placed + n } })

/-- The input that a halted engine has consumed, free where it codes the block (log entry 31), and the state behind it. -/
def haltConsumed (s : State) (k : Nat) (h : Halt) (n : Nat) : Nat × State :=
  if h.stored then (4 * h.input.length, outputHalted s k h n) else takeFree (outputHalted s k h n) 17

/-- Engine `e` shows a halt: what it has consumed and produced, its state and queue, and the event, counted (08 R224). -/
def haltShown (k e : Nat) (h : Halt) (n : Nat) (c : Nat × State) : State :=
  let s := setReg c.2 (A.PJ_CONSUMED e) (word (c.1 % (4 * h.input.length + 1)))
  let s := if h.stored && h.coded then s else setReg s (A.PJ_PRODUCED e) (word (h.placed + n))
  let s := setPress s e { press s e with job := some (k, s.now, false) }
  let s := wr (wr s (F.PJ_STATUS_STATE e) 2) (F.PJ_STATUS_QUEUE e) k
  bump (raise s F.PRS_EVT_RAW_HALT) A.PRS_HALTS

/-- Output that finds no room halts its queue, and its engine shows so (08 R224). -/
theorem placeOutput_halts {s : State} {k m : Nat} {h : Halt}
    (hneed : begun ((queue s k).outN + (h.need - h.placed)) - begun (queue s k).outN = m)
    (hfull : canTakeUpTo s k m ≠ m) (e : Nat) :
    ∃ n, placeOutput s k e h = haltShown k e h n (haltConsumed s k h n) := by
  subst hneed
  exact ⟨_, if_neg hfull⟩

/-- What a halted engine has consumed touches neither the registers nor the queues. -/
theorem haltConsumed_keeps (s : State) (k : Nat) (h : Halt) (n : Nat) :
    (haltConsumed s k h n).2.regs = s.regs ∧ (haltConsumed s k h n).2.stq = (outputHalted s k h n).stq := by
  unfold haltConsumed
  split <;> exact ⟨rfl, rfl⟩

theorem haltShown_queue (k e : Nat) (h : Halt) (n : Nat) (c : Nat × State) (j : Nat) :
    queue (haltShown k e h n c) j = queue c.2 j := by
  unfold haltShown
  extract_lets shown given job held told
  have hgiven : given.stq = c.2.stq := by
    dsimp only [given]
    split <;> rfl
  exact (queue_congr ((bump_stq _ _).trans (raise_stq _ _)) j).trans (queue_congr hgiven j)

/-- The queue of a block that halts is halted, and the event is raised. -/
theorem haltShown_shows (s : State) (k e : Nat) (h : Halt) (n : Nat) :
    (queue (haltShown k e h n (haltConsumed s k h n)) k).halt.isSome = true ∧
      flag (haltShown k e h n (haltConsumed s k h n)) F.PRS_EVT_RAW_HALT = true := by
  constructor
  · rw [haltShown_queue, queue_congr (haltConsumed_keeps s k h n).2]
    exact congrArg (fun q => q.halt.isSome) (queue_setQueue_same s k _)
  · rw [haltShown, flag_congr (reg_bump_other _ _ _ (by decide) (by decide))]
    exact flag_raise _ _ (not_evfReg_of_ge (by decide)) (by decide) rfl (by decide)

theorem BesideOutput.rd_haltShown {e : Nat} {f : Fld} (hf : BesideOutput e f) (k : Nat) (h : Halt) (n : Nat) (c : Nat × State) :
    rd (haltShown k e h n c) f = rd c.2 f := by
  unfold haltShown
  extract_lets shown given job held told
  have hgiven : rd given f = rd c.2 f := by
    simp only [given, shown, rd_ite, hf.rd_setReg_data (.inl rfl), hf.rd_setReg_data (.inr rfl), ite_self]
  have htold : rd told f = rd held f := (hf.rd_wr_status (.inr rfl) _ _).trans (hf.rd_wr_status (.inl rfl) _ _)
  have hraised : rd (raise told F.PRS_EVT_RAW_HALT) f = rd told f :=
    rd_raise_beside _ _ _ (not_evfReg_of_ge (by have := hf.above; omega)) hf.event
  exact (hf.rd_bumpBy (by decide) _ 1).trans (hraised.trans (htold.trans hgiven))

/-- A field that output leaves reads as before, whether the block ends or halts. -/
theorem BesideOutput.rd_placeOutput {e : Nat} {f : Fld} (hf : BesideOutput e f) (s : State) (k : Nat) (h : Halt) :
    rd (placeOutput s k e h) f = rd s f := by
  by_cases hroom : canTakeUpTo s k (begun ((queue s k).outN + (h.need - h.placed)) - begun (queue s k).outN) =
      begun ((queue s k).outN + (h.need - h.placed)) - begun (queue s k).outN
  · rw [placeOutput_fits rfl hroom, hf.rd_jobEnded, hf.rd_releaseBlock, outputTaken, rd_congr (reg_poolWatch hf.above _ _ _)]
    rfl
  · obtain ⟨n, hn⟩ := placeOutput_halts rfl hroom e
    rw [hn, hf.rd_haltShown, rd_congr (reg_congr (haltConsumed_keeps s k h n).1 _)]

end Sys2Proof.Machine
end

section
/-!
SUPPORT. The Press: a job that starts or is primed, a block that ends stored or compressed, and a halted job that resumes (08 R220,
R222 to R225).
-/

namespace Sys2Proof.Machine

/-! ## Jobs (08 R222) -/

/-- What engine `e` shows of a job that starts. -/
def jobShown (s : State) (e k : Nat) (prime : Bool) : State :=
  wr (wr s (F.PJ_STATUS_STATE e) (if prime then 3 else 1)) (F.PJ_STATUS_QUEUE e) k

/-- An idle enabled engine takes the queue that is due. -/
theorem pressJobStart_starts {t e k : Nat} {s : State} (he : e < 32) (hon : flag s F.PRS_CTRL_ENABLE = true)
    (hidle : (press s e).job = none) (hdue : pressPick s e = some k) {prime : Bool}
    (hprime : decide ((press s e).last ≠ some k) = prime) :
    pressJobStart t e s =
      if prime then bump (jobShown (setPress s e ⟨some (k, t, prime), some k⟩) e k prime) A.PRS_PRIMES
      else jobShown (setPress s e ⟨some (k, t, prime), some k⟩) e k prime := by
  subst hprime
  unfold pressJobStart
  rw [if_pos ⟨he, hon, by rw [hidle]; rfl⟩, hdue]
  rfl

theorem press_jobShown (s : State) (e k : Nat) (prime : Bool) (j : Nat) : press (jobShown s e k prime) j = press s j := rfl

theorem rd_jobShown (s : State) (e k : Nat) (prime : Bool) :
    rd (jobShown s e k prime) (F.PJ_STATUS_STATE e) = if prime then 3 else 1 := by
  rw [jobShown, rd_wr_field _ _ _ _ (by simp) (.inr (by simp)), rd_wr_same _ _ _ (by simp)]
  cases prime <;> rfl

/-- The job of an engine that starts one, and what the engine shows of it. -/
theorem pressJobStart_shows {t e k : Nat} {s : State} (he : e < 32) (hon : flag s F.PRS_CTRL_ENABLE = true)
    (hidle : (press s e).job = none) (hdue : pressPick s e = some k) :
    press (pressJobStart t e s) e = ⟨some (k, t, decide ((press s e).last ≠ some k)), some k⟩ ∧
      rd (pressJobStart t e s) (F.PJ_STATUS_STATE e) = if (press s e).last = some k then 1 else 3 := by
  by_cases hlast : (press s e).last = some k
  · have hprime : decide ((press s e).last ≠ some k) = false := decide_eq_false (not_not_intro hlast)
    rw [pressJobStart_starts he hon hidle hdue hprime, hprime, if_neg Bool.false_ne_true, press_jobShown, press_setPress_same,
      rd_jobShown, if_pos hlast]
    exact ⟨rfl, rfl⟩
  · have hprime : decide ((press s e).last ≠ some k) = true := decide_eq_true hlast
    have hstatus : (F.PJ_STATUS_STATE e).addr ≠ 0x51088 ∧ (F.PJ_STATUS_STATE e).addr ≠ 0x51088 + 4 := by simp only; omega
    rw [pressJobStart_starts he hon hidle hdue hprime, hprime, if_pos rfl, press_congr (bump_stq _ _), press_jobShown,
      press_setPress_same, rd_congr (reg_bump_other _ _ _ hstatus.1 hstatus.2), rd_jobShown, if_neg hlast]
    exact ⟨rfl, rfl⟩

/-- Priming that has taken its time leaves the job at work. -/
theorem press_pressPrimeDone {t e k start : Nat} {s : State} (hjob : (press s e).job = some (k, start, true))
    (htime : start + (if (queue s k).window.length = 32768 then nsec 640 else 0) ≤ t) :
    (press (pressPrimeDone t e s) e).job = some (k, t, false) := by
  unfold pressPrimeDone
  simp only [hjob]
  rw [if_pos htime, press_congr (wr_stq _ _ _), press_setPress_same]

/-! ## Blocks (08 R220, R223, R225) -/

/-- The output of a block that goes as stored blocks, none of it placed. -/
def storedOutput (ws : List Word) (coded : Bool) : Halt :=
  ⟨ws, storedBlocks (streamBytes ws), storedHeaders (4 * ws.length), 0, true, coded⟩

/-- A queue whose last block had the given counts of codes. -/
def recoded (s : State) (k : Nat) (c : Option (List Nat × List Nat)) : State := setQueue s k { queue s k with codes := c }

/-- The counts of codes leave the output of a queue, and the input of its next block. -/
theorem outN_recoded (s : State) (k : Nat) (c : Option (List Nat × List Nat)) :
    (queue (recoded s k c) k).outN = (queue s k).outN := by rw [recoded, queue_setQueue_same]

theorem nextInput_recoded (s : State) (k : Nat) (c : Option (List Nat × List Nat)) :
    nextInput (recoded s k c) k = nextInput s k := by
  rw [nextInput, recoded, queue_setQueue_same]
  rfl

section
variable {t k : Nat} {bytes : List Byte} {s : State} (hpress : (queue s k).pressing = true) (hgoing : (queue s k).halt = none)
  (hends : blockEnds s k t = true)
include hpress hgoing hends

/-- A block that may end is not passed over. -/
theorem block_ends : ¬ ((!(queue s k).pressing) = true ∨ (queue s k).halt.isSome = true ∨ (!(blockEnds s k t)) = true) := by
  rw [hpress, hgoing, hends]
  decide

section
variable (hoff : flag s F.PRS_CTRL_ENABLE = false) (hidle : (press s (boundEng s k)).job = none)
include hoff hidle

/-- With the Press disabled a block ends as stored blocks. -/
theorem pressBlockEnd_stores : pressBlockEnd t k bytes s =
    placeOutput (recoded s k none) k (boundEng s k) (storedOutput (nextInput s k).1 false) := by
  unfold pressBlockEnd
  dsimp only
  rw [if_neg (block_ends hpress hgoing hends), hoff, if_neg Bool.false_ne_true, hidle]
  exact if_neg Bool.false_ne_true

variable {m : Nat}
  (hneed : begun ((queue s k).outN + storedHeaders (4 * (nextInput s k).1.length)) - begun (queue s k).outN = m)
include hneed

/-- A stored block that finds its room is counted. -/
theorem pressBlockEnd_stored_counts (hroom : canTakeUpTo (recoded s k none) k m = m) :
    (reg (pressBlockEnd t k bytes s) A.PRS_BLOCKS).toNat = min ((reg s A.PRS_BLOCKS).toNat + 1) 0xFFFFFFFF := by
  rw [← outN_recoded s k none] at hneed
  rw [pressBlockEnd_stores hpress hgoing hends hoff hidle,
    reg_placeOutput_blocks (h := storedOutput (nextInput s k).1 false) hneed hroom, recoded, reg_setQueue]

/-- A stored block that finds no room halts. -/
theorem pressBlockEnd_stored_halts (hfull : canTakeUpTo (recoded s k none) k m ≠ m) :
    (queue (pressBlockEnd t k bytes s) k).halt.isSome = true ∧
      flag (pressBlockEnd t k bytes s) F.PRS_EVT_RAW_HALT = true := by
  rw [← outN_recoded s k none] at hneed
  obtain ⟨n, hn⟩ := placeOutput_halts (h := storedOutput (nextInput s k).1 false) hneed hfull (boundEng s k)
  rw [pressBlockEnd_stores hpress hgoing hends hoff hidle, hn]
  exact haltShown_shows _ _ _ _ _

end

/-- With the Press enabled a block ends by an output of its engine that decodes to its input. -/
theorem pressBlockEnd_codes {e start : Nat} {x : List Nat × List Nat} (hon : flag s F.PRS_CTRL_ENABLE = true)
    (hjob : jobOf s k = some e) (hwork : (press s e).job = some (k, start, false))
    (htaken : consumedWords s k start false = (nextInput s k).1.length)
    (hcoded : inflate (flag s (F.Q_CFG_BTYPE k) && !(queue s k).restart && !(queue s k).fresh && !(windowReset s k))
      (queue s k).codes (blockWindow s k) bytes = some (streamBytes (nextInput s k).1, x)) :
    pressBlockEnd t k bytes s = endCompressed (recoded s k (some x)) k e bytes := by
  unfold pressBlockEnd
  dsimp only
  rw [if_neg (block_ends hpress hgoing hends), if_pos hon, hjob]
  dsimp only
  rw [hwork]
  dsimp only
  rw [hcoded]
  exact if_pos ⟨htaken, rfl⟩

end

/-- What engine `e` shows of a coding: the input and the output of the block, in bytes. -/
def codingShown (s : State) (e n produced : Nat) : State :=
  setReg (setReg s (A.PJ_CONSUMED e) (word n)) (A.PJ_PRODUCED e) (word produced)

theorem reg_codingShown {a : Nat} (h : a < 0x51100) (s : State) (e n produced : Nat) :
    reg (codingShown s e n produced) a = reg s a := by
  have hconsumed : a ≠ 0x51104 + 0x10 * e := by omega
  have hproduced : a ≠ 0x51108 + 0x10 * e := by omega
  rw [codingShown, reg_setReg_other _ _ _ _ hproduced, reg_setReg_other _ _ _ _ hconsumed]

/-- A coding beyond EXPAND_LIMIT raises EXPAND, is counted, and stores the block (08 R223). -/
theorem endCompressed_expands {s : State} {k : Nat} {bytes : List Byte} {ws : List Word} (hinput : (nextInput s k).1 = ws)
    (hlimit : 4 * ws.length * (reg s A.PRS_EXPAND_LIMIT).toNat ≤ bytes.length * 256) (e : Nat) :
    endCompressed s k e bytes =
      placeOutput (wr (bump (raise (codingShown s e (4 * ws.length) bytes.length) F.PRS_EVT_RAW_EXPAND) A.PRS_EXPANDED)
        (F.PJ_STATUS_EXPAND_LAST e) 1) k e (storedOutput ws true) := by
  subst hinput
  rw [← reg_codingShown (by decide) s e (4 * (nextInput s k).1.length) bytes.length] at hlimit
  exact if_pos hlimit

/-- A coding within EXPAND_LIMIT is the output of its block. -/
theorem endCompressed_places {s : State} {k : Nat} {bytes : List Byte} {ws : List Word} (hinput : (nextInput s k).1 = ws)
    (hlimit : bytes.length * 256 < 4 * ws.length * (reg s A.PRS_EXPAND_LIMIT).toNat) (e : Nat) :
    endCompressed s k e bytes =
      placeOutput (wr (codingShown s e (4 * ws.length) bytes.length) (F.PJ_STATUS_EXPAND_LAST e) 0) k e
        ⟨ws, bytes, bytes.length, 0, false, true⟩ := by
  subst hinput
  rw [← reg_codingShown (by decide) s e (4 * (nextInput s k).1.length) bytes.length] at hlimit
  exact if_neg (Nat.not_le.2 hlimit)

/-- What an engine shows of a coding leaves the queues, and their room. -/
theorem queue_coded (s : State) (e n produced last k : Nat) :
    queue (wr (codingShown s e n produced) (F.PJ_STATUS_EXPAND_LAST e) last) k = queue s k := rfl

theorem canTakeUpTo_coded {e : Nat} (he : e < 32) (s : State) (n produced last k m : Nat) :
    canTakeUpTo (wr (codingShown s e n produced) (F.PJ_STATUS_EXPAND_LAST e) last) k m = canTakeUpTo s k m := by
  have hset : ∀ a v (u : State), 0x51100 ≤ a → a < 0x51300 → canTakeUpTo (setReg u a v) k m = canTakeUpTo u k m :=
    fun a v u hlo hhi => canTakeUpTo_setReg (by omega) u v (Nat.ne_of_gt (Nat.lt_of_lt_of_le (by decide) hlo)) k m
  calc canTakeUpTo (wr (codingShown s e n produced) (F.PJ_STATUS_EXPAND_LAST e) last) k m
      = canTakeUpTo (codingShown s e n produced) k m := hset (0x51100 + 0x10 * e) _ _ (by omega) (by omega)
    _ = canTakeUpTo (setReg s (A.PJ_CONSUMED e) (word n)) k m := hset (0x51108 + 0x10 * e) _ _ (by omega) (by omega)
    _ = canTakeUpTo s k m := hset (0x51104 + 0x10 * e) _ _ (by omega) (by omega)

/-- A coding within EXPAND_LIMIT that finds its room counts its block. -/
theorem reg_endCompressed_blocks {s : State} {k e m : Nat} {bytes : List Byte} {ws : List Word} (he : e < 32)
    (hinput : (nextInput s k).1 = ws) (hlimit : bytes.length * 256 < 4 * ws.length * (reg s A.PRS_EXPAND_LIMIT).toNat)
    (hneed : begun ((queue s k).outN + bytes.length) - begun (queue s k).outN = m) (hroom : canTakeUpTo s k m = m) :
    (reg (endCompressed s k e bytes) A.PRS_BLOCKS).toNat = min ((reg s A.PRS_BLOCKS).toNat + 1) 0xFFFFFFFF := by
  have hstatus : 0x51060 ≠ (F.PJ_STATUS_EXPAND_LAST e).addr := by simp only; omega
  rw [← queue_coded s e (4 * ws.length) bytes.length 0 k] at hneed
  rw [← canTakeUpTo_coded he s (4 * ws.length) bytes.length 0 k m] at hroom
  rw [endCompressed_places hinput hlimit, reg_placeOutput_blocks (h := ⟨ws, bytes, bytes.length, 0, false, true⟩) hneed hroom,
    reg_wr_other _ _ _ _ hstatus, reg_codingShown (by decide)]

/-- A coding beyond EXPAND_LIMIT shows, and is counted (08 R223). -/
theorem endCompressed_shows {s : State} {k e : Nat} {bytes : List Byte} {ws : List Word} (he : e < 32)
    (hinput : (nextInput s k).1 = ws) (hlimit : 4 * ws.length * (reg s A.PRS_EXPAND_LIMIT).toNat ≤ bytes.length * 256) :
    flag (endCompressed s k e bytes) F.PRS_EVT_RAW_EXPAND = true ∧
      flag (endCompressed s k e bytes) (F.PJ_STATUS_EXPAND_LAST e) = true ∧
      (reg (endCompressed s k e bytes) A.PRS_EXPANDED).toNat = min ((reg s A.PRS_EXPANDED).toNat + 1) 0xFFFFFFFF := by
  have hraw : 0x51010 ≠ (F.PJ_STATUS_EXPAND_LAST e).addr := by simp only; omega
  have hcount : 0x51068 ≠ (F.PJ_STATUS_EXPAND_LAST e).addr := by simp only; omega
  rw [endCompressed_expands hinput hlimit]
  refine ⟨?_, ?_, ?_⟩
  · rw [flag, (besideOutput_expand e).rd_placeOutput, ← flag, flag_congr (reg_wr_other _ _ _ _ hraw),
      flag_congr (reg_bump_other _ _ _ (by decide) (by decide))]
    exact flag_raise _ _ (not_evfReg_of_ge (by decide)) (by decide) rfl (by decide)
  · rw [flag, (besideOutput_expandLast he).rd_placeOutput, ← flag]
    exact flag_wr_one _ _ (by simp) rfl
  · have hwhole : ∀ u, (reg u A.PRS_EXPANDED).toNat = rd u ⟨A.PRS_EXPANDED, 0, 32⟩ := fun u =>
      (Nat.mod_eq_of_lt (reg u A.PRS_EXPANDED).isLt).symm
    rw [hwhole, (besideOutput_expanded e).rd_placeOutput, ← hwhole, reg_wr_other _ _ _ _ hcount, reg_bump_toNat,
      reg_raise_other _ _ _ (not_evfReg_of_ge (by decide)) (by decide), reg_codingShown (by decide)]

/-! ## Halted jobs (08 R224) -/

/-- A job that resumes raises RESUMED, which what follows leaves. -/
theorem flag_resumeJob (s : State) (k e : Nat) (h : Halt) : flag (resumeJob s k e h) F.PRS_EVT_RAW_RESUMED = true := by
  rw [flag, resumeJob, (besideOutput_resumed e).rd_placeOutput, ← flag, flag_congr (reg_setQueue _ _ _ _)]
  exact flag_raise _ _ (not_evfReg_of_ge (by decide)) (by decide) rfl (by decide)

/-- With MANUAL 0 a halted job resumes once a block is free. -/
theorem resumed_resumes {s : State} {e k : Nat} {h : Halt} (hhalt : haltedOn s e = some (k, h))
    (hmanual : flag s F.PRS_CTRL_MANUAL = false) (hfree : canTake s k 1 = true) : resumed e s = resumeJob s k e h := by
  unfold resumed
  simp only [hhalt]
  exact if_pos ⟨by rw [hmanual]; rfl, hfree⟩

/-- The engine of a PJ_CTRL is found from its address. -/
theorem pjCtrl_resume : ∀ e < 32, pjCtrl (F.PJ_CTRL_RESUME e).addr = some e := by decide

/-- Where PJ_CTRL of an engine lies (08 R230). -/
theorem resume_place : ∀ e < 32, busAddr (F.PJ_CTRL_RESUME e).addr = (F.PJ_CTRL_RESUME e).addr ∧
    windowed (F.PJ_CTRL_RESUME e).addr = false ∧ pageBase (F.PJ_CTRL_RESUME e).addr = some 0x51000 ∧
    wideLow (F.PJ_CTRL_RESUME e).addr = none ∧ heldWord (F.PJ_CTRL_RESUME e).addr = false := by decide

/-- PJ_CTRL holds the one field RESUME, which is only written. -/
theorem resume_row : ∀ e < 32, (findReg (F.PJ_CTRL_RESUME e).addr).map (fun l => (l.pbase, l.row.fields)) =
    some (0x51000, [⟨0, 1, .wo, [], false⟩]) := by decide

/-- A write without a code has passed the checks of its page. -/
theorem checkB_of_writeCode {l : RegLoc} {a : Nat} {d : Word} {s c : State} (hlo : 0x50000 ≤ l.pbase) (hhi : l.pbase < 0xA0000)
    (h : writeCode l a d s c = 0) : checkB l.pbase a d c = 0 := by
  unfold writeCode at h
  dsimp only at h
  rw [if_neg (by omega : ¬ l.pbase < 0x50000), if_pos hhi] at h
  by_contra hcode
  split at h
  · cases h
  · split at h
    · cases h
    · split at h
      · cases h
      · split at h
        · cases h
        · exact hcode h

/-- On the page of the Press the checks are those of RESUME, and a write acts by it. -/
theorem checkB_press (a : Nat) (d : Word) (s : State) : checkB 0x51000 a d s = prsCheck a d s := rfl

theorem pageAct_press (a : Nat) (d : Word) (o s : State) : pageAct 0x51000 a d o s = prsAct a d s := rfl

/-- RESUME is accepted where its engine is halted. -/
theorem haltedOn_of_check {s : State} {e a : Nat} (ha : pjCtrl a = some e) (h : prsCheck a 1#32 s = 0) :
    ∃ k x, haltedOn s e = some (k, x) := by
  unfold prsCheck at h
  simp only [ha] at h
  have hbit : bit 1#32 0 = true := by decide
  cases hhalt : haltedOn s e with
  | some p => exact ⟨p.1, p.2, rfl⟩
  | none => simp [hhalt, hbit] at h

/-- What a write of RESUME does to an engine whose job is halted. -/
theorem writeDo_resume {l : RegLoc} {e k : Nat} {h : Halt} {s : State} (he : e < 32) (hbase : l.pbase = 0x51000)
    (hrow : l.row.fields = [⟨0, 1, .wo, [], false⟩]) (hhalt : haltedOn s e = some (k, h)) :
    writeDo l (F.PJ_CTRL_RESUME e).addr (word 1) s s = resumeJob s k e h := by
  have habove : 0x51100 ≤ (F.PJ_CTRL_RESUME e).addr := Nat.le_add_right_of_le (by decide)
  have hstore : storeReg l (F.PJ_CTRL_RESUME e).addr (word 1) s = s := by
    rw [storeReg, hrow]
    rfl
  unfold writeDo
  simp only [hbase, hstore]
  rw [if_neg (by omega), if_neg (by omega), if_neg (by omega), if_neg (by omega), pageAct_press, prsAct]
  simp only [pjCtrl_resume e he, hhalt]
  rfl

/-- An accepted write of RESUME resumes its engine's job. -/
theorem flag_accessW_resume {t e : Nat} {r : Requester} {s : State} (he : e < 32)
    (hacc : Accepts t r (F.PJ_CTRL_RESUME e).addr 1 s) :
    flag (accessW t r (F.PJ_CTRL_RESUME e).addr 1 s) F.PRS_EVT_RAW_RESUMED = true := by
  obtain ⟨ha, hw, hp, hn, hh⟩ := resume_place e he
  obtain ⟨l, hl, hfields⟩ := Option.map_eq_some_iff.1 (resume_row e he)
  obtain ⟨hbase, hrow⟩ := Prod.mk.inj hfields
  have habove : 0x51100 ≤ (F.PJ_CTRL_RESUME e).addr := Nat.le_add_right_of_le (by decide)
  have hlock : (hasHeader 0x51000 && decide ((F.PJ_CTRL_RESUME e).addr = 0x51000 + 0x2C)) = false := by simp; omega
  have hsoft : (hasHeader 0x51000 && decide ((F.PJ_CTRL_RESUME e).addr = 0x51000 + 8) && bit (word 1) 1) = false := by
    simp; omega
  obtain ⟨-, -, hcode⟩ := hacc.elim ha hw hp
  rw [pageWrite_code _ _ _ _ _ _ hl hbase hlock hsoft hn] at hcode
  have hpassed : writeCode l (F.PJ_CTRL_RESUME e).addr (word 1) (at' t s) (at' t s) = 0 := by
    by_contra hne
    exact hne ((if_pos hne).symm.trans hcode)
  have hcheck := checkB_of_writeCode (by rw [hbase]; decide) (by rw [hbase]; decide) hpassed
  rw [hbase, checkB_press] at hcheck
  obtain ⟨k, h, hhalt⟩ := haltedOn_of_check (pjCtrl_resume e he) hcheck
  rw [flag_congr (hacc.write_reg ha hw hp hl hbase hlock hsoft hn hh (by decide)), writeDo_resume he hbase hrow hhalt,
    flag_resumeJob]

/-! ## The statement -/

/-- Settles O26: a job and its priming write the engine alone; a block is placed as stored or coded, where its room decides between
a counted block and a halt, and what it shows of EXPAND, or a resumption of RESUMED, lies beside what placing writes. -/
theorem pressJobs : Obligations.PressJobs := by
  refine ⟨fun t e k s he hon hidle hdue => ⟨_, rfl, ?_⟩, fun t e k t0 s hjob htime => ⟨_, rfl, ?_⟩,
    fun t k b n m s hpress hgoing hends hoff hidle hn hneed hroom => ⟨_, rfl, ?_⟩,
    fun t k b n m s hpress hgoing hends hoff hidle hn hneed hfull => ⟨_, rfl, ?_⟩,
    fun t k e t0 b ws x m s hpress hgoing hends hon hjob hwork hinput htaken hcoded hlimit hneed hroom => ⟨_, rfl, ?_⟩,
    fun t k e t0 b ws x s hpress hgoing hends hon hjob hwork hinput htaken hcoded hlimit => ⟨_, rfl, ?_⟩,
    fun t e k h s hhalt hmanual hfree => ⟨_, rfl, ?_⟩,
    fun t r e s he hacc => ⟨accessW t r (F.PJ_CTRL_RESUME e).addr 1 s, ?_, ?_⟩⟩
  · obtain ⟨hjob, hstate⟩ := pressJobStart_shows (t := t) (s := at' t s) he hon hidle hdue
    exact ⟨congrArg PressEng.job hjob, congrArg PressEng.last hjob, hstate⟩
  · exact press_pressPrimeDone (s := at' t s) hjob htime
  · subst hn
    exact pressBlockEnd_stored_counts (s := at' t s) hpress hgoing hends hoff hidle hneed hroom
  · subst hn
    exact pressBlockEnd_stored_halts (s := at' t s) hpress hgoing hends hoff hidle hneed hfull
  · subst hinput
    rw [pressBlockEnd_codes (s := at' t s) hpress hgoing hends hon hjob hwork htaken hcoded]
    exact reg_endCompressed_blocks (jobOf_lt hjob) (congrArg Prod.fst (nextInput_recoded _ _ _)) hlimit
      (by rw [outN_recoded]; exact hneed) hroom
  · subst hinput
    rw [pressBlockEnd_codes (s := at' t s) hpress hgoing hends hon hjob hwork htaken hcoded]
    exact endCompressed_shows (jobOf_lt hjob) (congrArg Prod.fst (nextInput_recoded _ _ _)) hlimit
  · rw [resumed_resumes (s := at' t s) hhalt hmanual hfree, flag_resumeJob]
  · exact congrArg (fun j => Host.Outcome.next (accessW t r (F.PJ_CTRL_RESUME j).addr 1 s)) (Nat.mod_eq_of_lt he)
  · exact flag_accessW_resume he hacc

end Sys2Proof.Machine
end

section
/-!
SUPPORT. What the updates of the link leave: bundles and lanes beside their registers, the registers that configure the link, and
three frames, for what changes lanes alone, what changes bundles alone, and either (09 R240 to R266).
-/

namespace Sys2Proof.Machine

/-! ## Bundles and lanes beside their registers -/

/-- A bundle without its count of EVENT frames, which any event may advance (09 R260). -/
def Bundle.core (x : Bundle) : Bundle := { x with events := 0 }

theorem bundle_congr {s u : State} (h : u.wnb = s.wnb) (b : Nat) : bundle u b = bundle s b := by rw [bundle, bundle, h]
theorem laneSt_congr {s u : State} (h : u.wnb.lanes = s.wnb.lanes) (l : Nat) : laneSt u l = laneSt s l := by
  rw [laneSt, laneSt, h]

@[simp] theorem bundle_wr (s : State) (f : Fld) (v b : Nat) : bundle (wr s f v) b = bundle s b := rfl
@[simp] theorem bundle_wrB (s : State) (f : Fld) (v : Bool) (b : Nat) : bundle (wrB s f v) b = bundle s b := rfl
@[simp] theorem bundle_onLane (s : State) (l : Nat) (f : LaneSt → LaneSt) (b : Nat) : bundle (onLane s l f) b = bundle s b := rfl

@[simp] theorem bundle_setBundle_same (s : State) (b : Nat) (x : Bundle) : bundle (setBundle s b x) b = x :=
  pget_pset_same _ _ _ _

@[simp] theorem bundle_onBundle_same (s : State) (b : Nat) (f : Bundle → Bundle) : bundle (onBundle s b f) b = f (bundle s b) :=
  pget_pset_same _ _ _ _

@[simp] theorem laneSt_setPllLock (s : State) (k : Nat) (v : Bool) (l : Nat) : laneSt (setPllLock s k v) l = laneSt s l := rfl

theorem laneSt_onLane (s : State) (k l : Nat) (f : LaneSt → LaneSt) :
    laneSt (onLane s k f) l = if l = k then f (laneSt s k) else laneSt s l := pget_pset _ _ _ _ _

@[simp] theorem laneSt_onLane_same (s : State) (l : Nat) (f : LaneSt → LaneSt) : laneSt (onLane s l f) l = f (laneSt s l) :=
  pget_pset_same _ _ _ _

@[simp] theorem reg_onLane (s : State) (l : Nat) (f : LaneSt → LaneSt) (a : Nat) : reg (onLane s l f) a = reg s a := rfl
@[simp] theorem reg_newLcw (s : State) (b a : Nat) : reg (newLcw s b) a = reg s a := rfl
@[simp] theorem rd_onLane (s : State) (l : Nat) (f : LaneSt → LaneSt) (g : Fld) : rd (onLane s l f) g = rd s g := rfl
@[simp] theorem rd_onBundle (s : State) (b : Nat) (f : Bundle → Bundle) (g : Fld) : rd (onBundle s b f) g = rd s g := rfl
@[simp] theorem rd_setBundle (s : State) (b : Nat) (x : Bundle) (g : Fld) : rd (setBundle s b x) g = rd s g := rfl
@[simp] theorem rd_newLcw (s : State) (b : Nat) (g : Fld) : rd (newLcw s b) g = rd s g := rfl

/-! ## Events -/

/-- A part of the state that neither a write of a register, nor the holdoff, nor an EVENT frame changes stays through an event. -/
theorem raiseBits_keeps {β : Type} (part : State → β) (hreg : ∀ s a v, part (setReg s a v) = part s)
    (hirq : ∀ s x, part { s with irq := x } = part s) (hsend : ∀ s, part (sendEvent s) = part s) (s : State) (p : Nat) (m : Word) :
    part (raiseBits s p m) = part s := by
  have hrise : ∀ s i, part (evfRise s i) = part s := by
    intro s i
    unfold evfRise
    split
    · split
      · exact hirq s _
      · exact hsend s
    · rfl
  unfold raiseBits evfWatch
  split
  · split
    · rw [hrise, hreg]
    · exact hreg s _ _
  · exact hreg s _ _

theorem sendEvent_lanes (s : State) : (sendEvent s).wnb.lanes = s.wnb.lanes := by
  unfold sendEvent
  dsimp only
  split
  · split <;> rfl
  · rw [bump_wnb]

theorem core_sendEvent (s : State) (c : Nat) : (bundle (sendEvent s) c).core = (bundle s c).core := by
  have hcount : ∀ u b, (bundle (onBundle u b fun x => { x with events := (x.events + 1) % 2 ^ 32 }) c).core = (bundle u c).core := by
    intro u b
    rw [bundle, onBundle, setBundle, pget_pset]
    split
    · next h => rw [h]; rfl
    · rfl
  unfold sendEvent
  dsimp only
  split
  · split
    · exact hcount _ _
    · exact hcount _ _
  · rw [bundle_congr (bump_wnb _ _)]

theorem raiseBits_lanes (s : State) (p : Nat) (m : Word) : (raiseBits s p m).wnb.lanes = s.wnb.lanes :=
  raiseBits_keeps (·.wnb.lanes) (fun _ _ _ => rfl) (fun _ _ => rfl) sendEvent_lanes s p m

theorem core_raiseBits (s : State) (p : Nat) (m : Word) (c : Nat) : (bundle (raiseBits s p m) c).core = (bundle s c).core :=
  raiseBits_keeps (fun s => (bundle s c).core) (fun _ _ _ => rfl) (fun _ _ => rfl) (fun s => core_sendEvent s c) s p m

@[simp] theorem raise_lanes (s : State) (f : Fld) : (raise s f).wnb.lanes = s.wnb.lanes := raiseBits_lanes s _ _
@[simp] theorem core_raise (s : State) (f : Fld) (b : Nat) : (bundle (raise s f) b).core = (bundle s b).core :=
  core_raiseBits s _ _ b
@[simp] theorem core_raiseAt (s : State) (f : Fld) (i b : Nat) : (bundle (raiseAt s f i) b).core = (bundle s b).core :=
  core_raiseBits s _ _ b

/-! ## Monitors -/

/-- A part of the state that no monitor's sample changes stays through the samples of all. -/
theorem monSample_keeps {β : Type} (part : State → β) (hadd : ∀ s m v, part (monAdd s m v) = part s) (s : State) (src arg : Nat)
    (v : Int) : part (monSample s src arg v) = part s := by
  unfold monSample
  split
  · rfl
  · refine foldl_keeps part (fun u m => ?_) _ s
    split
    · exact hadd u m v
    · rfl

theorem monAdd_wnb (s : State) (m : Nat) (v : Int) : (monAdd s m v).wnb = s.wnb := by
  unfold monAdd
  dsimp only
  split <;> split <;> rfl

theorem monAdd_bus (s : State) (m : Nat) (v : Int) : (monAdd s m v).bus = s.bus := by
  unfold monAdd
  dsimp only
  split <;> split <;> rfl

@[simp] theorem monSample_wnb (s : State) (src arg : Nat) (v : Int) : (monSample s src arg v).wnb = s.wnb :=
  monSample_keeps State.wnb monAdd_wnb s src arg v

@[simp] theorem monSample_bus (s : State) (src arg : Nat) (v : Int) : (monSample s src arg v).bus = s.bus :=
  monSample_keeps State.bus monAdd_bus s src arg v

/-! ## The registers of the link -/

/-- The registers that configure bundles (CTRL, CFG, LANES, TIMERS, RETRY), and LREF_STATUS: no training, loss or recovery writes
them (09 R263, R265). -/
def linkFixed (a : Nat) : Prop :=
  a = 0x60050 ∨ 0x61000 ≤ a ∧ a < 0x62000 ∧ (a % 0x80 = 0x08 ∨ 0x40 ≤ a % 0x80 ∧ a % 0x80 < 0x50)

theorem linkFixed_ctrl {b : Nat} (hb : b < 32) : linkFixed (F.B_CTRL_ENABLE b).addr := .inr (by simp only; omega)
theorem linkFixed_lanes {b : Nat} (hb : b < 32) : linkFixed (F.B_LANES_FIRST b).addr := .inr (by simp only; omega)

theorem not_evfReg_of_linkFixed {a : Nat} (h : linkFixed a) : ¬ evfReg a := by
  rintro (rfl | rfl) <;> simp [linkFixed, A.IRQ_EVF_DROPPED] at h

theorem not_evfReg_of_link {a : Nat} (h : 0x60000 ≤ a) : ¬ evfReg a := not_evfReg_of_ge (by omega)

/-- A register of a lane's block lies on a lane page. -/
theorem lane_high {o x y : Nat} (h : 0x70000 ≤ o) : 0x70000 ≤ o + x + y := by omega

/-! ## Changes of lanes alone -/

/-- Below the lane pages no register changes but EVF_DROPPED, and no bundle but in its count of EVENT frames. -/
structure LaneOnly (s u : State) : Prop where
  reg : ∀ a, a < 0x70000 → ¬ evfReg a → reg u a = reg s a
  core : ∀ b, (bundle u b).core = (bundle s b).core

namespace LaneOnly
variable {s u v : State}

theorem refl (s : State) : LaneOnly s s := ⟨fun _ _ _ => rfl, fun _ => rfl⟩

theorem trans (h : LaneOnly s u) (h' : LaneOnly u v) : LaneOnly s v :=
  ⟨fun a ha hev => (h'.reg a ha hev).trans (h.reg a ha hev), fun b => (h'.core b).trans (h.core b)⟩

theorem ite {c : Prop} [Decidable c] (hu : LaneOnly s u) (hv : LaneOnly s v) : LaneOnly s (if c then u else v) := by
  split
  · exact hu
  · exact hv

theorem foldl {α : Type} {f : State → α → State} {l : List α} (h : LaneOnly s u) (hf : ∀ w x, LaneOnly w (f w x)) :
    LaneOnly s (l.foldl f u) :=
  List.foldlRecOn (motive := LaneOnly s) l f h fun w hw x _ => hw.trans (hf w x)

theorem setReg (h : LaneOnly s u) (a : Nat) (w : Word) (ha : 0x70000 ≤ a := by simp only; omega) : LaneOnly s (setReg u a w) :=
  h.trans ⟨fun _ hlt _ => reg_setReg_other _ _ _ _ (by omega), fun _ => rfl⟩

theorem wr (h : LaneOnly s u) (f : Fld) (n : Nat) (hf : 0x70000 ≤ f.addr := by simp only; omega) : LaneOnly s (wr u f n) :=
  h.setReg _ _ hf

theorem wrB (h : LaneOnly s u) (f : Fld) (x : Bool) (hf : 0x70000 ≤ f.addr := by simp only; omega) : LaneOnly s (wrB u f x) :=
  h.setReg _ _ hf

theorem wrBit (h : LaneOnly s u) (a i : Nat) (x : Bool) (ha : 0x70000 ≤ a := by simp only; omega) : LaneOnly s (wrBit u a i x) :=
  h.setReg _ _ ha

theorem bumpBy (h : LaneOnly s u) (a n : Nat) (ha : 0x70000 ≤ a := by simp only; omega) : LaneOnly s (bumpBy u a n) :=
  h.trans ⟨fun _ hlt _ => reg_bumpBy_other _ _ _ _ (by omega) (by omega), fun b => by rw [bundle_congr (bumpBy_wnb _ _ _)]⟩

theorem onLane (h : LaneOnly s u) (l : Nat) (f : LaneSt → LaneSt) : LaneOnly s (onLane u l f) :=
  h.trans ⟨fun _ _ _ => rfl, fun _ => rfl⟩

theorem takeFree (h : LaneOnly s u) (n : Nat) : LaneOnly s (takeFree u n).2 := h.trans ⟨fun _ _ _ => rfl, fun _ => rfl⟩

theorem laneEvent (h : LaneOnly s u) (l k : Nat) : LaneOnly s (laneEvent u l k) :=
  h.trans ⟨fun _ hlt hev => reg_raiseAt_other _ _ _ _ hev (by simp only; omega), fun b => core_raiseAt _ _ _ b⟩

theorem setLane (h : LaneOnly s u) (l st : Nat) : LaneOnly s (setLane u l st) := h.wr _ _

theorem setBitLock (h : LaneOnly s u) (l : Nat) (x : Bool) : LaneOnly s (setBitLock u l x) := by
  unfold Machine.setBitLock
  exact ((h.wrB _ _).wrBit _ _ _).onLane _ _

theorem setPllLock (h : LaneOnly s u) (l : Nat) (x : Bool) : LaneOnly s (setPllLock u l x) := (h.wrB _ _).wrBit _ _ _

theorem applyEq (h : LaneOnly s u) (l : Nat) : LaneOnly s (applyEq u l) := by
  have hput : ∀ p a m q, LaneOnly s (Machine.wr (Machine.wr (Machine.wr (Machine.wr u (F.LN_EQ_TX_ACTIVE_PRESET l) p)
      (F.LN_EQ_TX_ACTIVE_PRE l) a) (F.LN_EQ_TX_ACTIVE_MAIN l) m) (F.LN_EQ_TX_ACTIVE_POST l) q) :=
    fun p a m q => (((h.wr _ _).wr _ _).wr _ _).wr _ _
  unfold Machine.applyEq
  dsimp only
  split
  · exact hput _ _ _ _
  · split <;> exact hput _ _ _ _

theorem startLane (h : LaneOnly s u) (b i r : Nat) : LaneOnly s (startLane u b i r) :=
  ((((((h.onLane _ _).setBitLock _ _).setLane _ _).wr _ _).wr _ _).wr _ _).applyEq _

theorem measureLane (h : LaneOnly s u) (l : Nat) : LaneOnly s (measureLane u l) := by
  unfold Machine.measureLane
  exact ite h ((((h.takeFree 4).wr _ _).takeFree 30).setReg _ _ (lane_high (by decide)))

theorem measureSkew (h : LaneOnly s u) (l : Nat) : LaneOnly s (measureSkew u l) := by
  unfold Machine.measureSkew
  exact (h.takeFree 9).wr _ _

end LaneOnly

/-! ## Changes of bundles alone -/

/-- A register below the lane pages that training, loss or recovery may write. -/
def linkMoving (a : Nat) : Prop := a < 0x70000 ∧ ¬ linkFixed a

/-- No register of a lane page changes and none that configures the link, and no lane beside its registers. -/
structure BundleOnly (s u : State) : Prop where
  high : ∀ a, 0x70000 ≤ a → reg u a = reg s a
  fixed : ∀ a, linkFixed a → reg u a = reg s a
  lanes : u.wnb.lanes = s.wnb.lanes

namespace BundleOnly
variable {s u v : State}

theorem refl (s : State) : BundleOnly s s := ⟨fun _ _ => rfl, fun _ _ => rfl, rfl⟩

theorem trans (h : BundleOnly s u) (h' : BundleOnly u v) : BundleOnly s v :=
  ⟨fun a ha => (h'.high a ha).trans (h.high a ha), fun a ha => (h'.fixed a ha).trans (h.fixed a ha), h'.lanes.trans h.lanes⟩

theorem ite {c : Prop} [Decidable c] (hu : BundleOnly s u) (hv : BundleOnly s v) : BundleOnly s (if c then u else v) := by
  split
  · exact hu
  · exact hv

theorem setReg (h : BundleOnly s u) (a : Nat) (w : Word) (ha : linkMoving a := by simp only [linkMoving, linkFixed]; omega) :
    BundleOnly s (setReg u a w) :=
  h.trans ⟨fun _ hhigh => reg_setReg_other _ _ _ _ (by unfold linkMoving at ha; omega),
    fun _ hfixed => reg_setReg_other _ _ _ _ fun heq => ha.2 (heq ▸ hfixed), rfl⟩

theorem wr (h : BundleOnly s u) (f : Fld) (n : Nat) (hf : linkMoving f.addr := by simp only [linkMoving, linkFixed]; omega) :
    BundleOnly s (wr u f n) := h.setReg _ _ hf

theorem wrB (h : BundleOnly s u) (f : Fld) (x : Bool) (hf : linkMoving f.addr := by simp only [linkMoving, linkFixed]; omega) :
    BundleOnly s (wrB u f x) := h.setReg _ _ hf

theorem wrBit (h : BundleOnly s u) (a i : Nat) (x : Bool) (ha : linkMoving a := by simp only [linkMoving, linkFixed]; omega) :
    BundleOnly s (wrBit u a i x) := h.setReg _ _ ha

theorem bumpBy (h : BundleOnly s u) (a n : Nat)
    (ha : linkMoving a ∧ linkMoving (a + 4) := by simp only [linkMoving, linkFixed]; omega) : BundleOnly s (bumpBy u a n) := by
  unfold Machine.bumpBy
  exact ite (h.setReg _ _ ha.1) (ite h ((h.setReg _ _ ha.1).setReg _ _ ha.2))

theorem raise (h : BundleOnly s u) (f : Fld)
    (hf : linkMoving (f.addr - 0x10 + 0x10) := by simp only [linkMoving, linkFixed]; omega) : BundleOnly s (raise u f) :=
  h.trans ⟨fun _ hhigh => reg_raise_other _ _ _ (not_evfReg_of_link (by omega)) (by unfold linkMoving at hf; omega),
    fun _ hfixed => reg_raise_other _ _ _ (not_evfReg_of_linkFixed hfixed) fun heq => hf.2 (heq ▸ hfixed), raise_lanes _ _⟩

theorem setBundle (h : BundleOnly s u) (b : Nat) (x : Bundle) : BundleOnly s (setBundle u b x) :=
  h.trans ⟨fun _ _ => rfl, fun _ _ => rfl, rfl⟩

theorem onBundle (h : BundleOnly s u) (b : Nat) (f : Bundle → Bundle) : BundleOnly s (onBundle u b f) := h.setBundle b _

theorem monSample (h : BundleOnly s u) (src arg : Nat) (v : Int) : BundleOnly s (monSample u src arg v) :=
  h.trans ⟨fun _ hhigh => reg_monSample (by omega) _ _ _ _,
    fun _ hfixed => reg_monSample (by unfold linkFixed at hfixed; omega) _ _ _ _, by rw [monSample_wnb]⟩

variable {b : Nat} (hb : b < 32)
include hb

theorem showLanes (h : BundleOnly s u) : BundleOnly s (showLanes u b) := by
  have hshown : ∀ n d, BundleOnly s (Machine.wrB (Machine.wr u (F.B_STATUS_ACTIVE_LANES b) n) (F.B_STATUS_DEGRADED b) d) :=
    fun n d => (h.wr _ _).wrB _ _
  unfold Machine.showLanes
  exact (ite ((hshown _ _).raise _) (hshown _ _)).wrB _ _

theorem setBState (h : BundleOnly s u) (st : Nat) : BundleOnly s (setBState u b st) :=
  ((h.wr _ _).wrBit _ _ _ (by simp [linkMoving, linkFixed])).showLanes hb

theorem showReplay (h : BundleOnly s u) : BundleOnly s (showReplay u b) := ((h.wr _ _).wr _ _).monSample _ _ _

theorem dropReplay (h : BundleOnly s u) : BundleOnly s (dropReplay u b) := by
  have hqueue : ∀ {w}, BundleOnly s w → BundleOnly s { w with wnb := { w.wnb with tx := pset [] w.wnb.tx b [] } } := fun hw =>
    hw.trans ⟨fun _ _ => rfl, fun _ _ => rfl, rfl⟩
  have hlost : linkMoving (A.BA_FRAMES_LOST b) ∧ linkMoving (A.BA_FRAMES_LOST b + 4) := by
    simp only [linkMoving, linkFixed, A.BA_FRAMES_LOST]
    omega
  unfold Machine.dropReplay
  exact ((((((((hqueue ((ite h ((h.bumpBy _ _ hlost).raise _)).onBundle b _)).wr _ _).wr _ _).wr _ _).wr _ _).wr _ _).wr _ _).wr _ _
    ).showReplay hb

end BundleOnly

/-! ## Changes of lanes and bundles -/

/-- No register that configures the link changes. -/
def LinkMoves (s u : State) : Prop := ∀ a, linkFixed a → reg u a = reg s a

theorem LaneOnly.moves {s u : State} (h : LaneOnly s u) : LinkMoves s u := fun a ha =>
  h.reg a (by unfold linkFixed at ha; omega) (not_evfReg_of_linkFixed ha)

theorem BundleOnly.moves {s u : State} (h : BundleOnly s u) : LinkMoves s u := h.fixed

namespace LinkMoves
variable {s u v : State}

theorem refl (s : State) : LinkMoves s s := fun _ _ => rfl
theorem trans (h : LinkMoves s u) (h' : LinkMoves u v) : LinkMoves s v := fun a ha => (h' a ha).trans (h a ha)

theorem ite {c : Prop} [Decidable c] (hu : LinkMoves s u) (hv : LinkMoves s v) : LinkMoves s (if c then u else v) := by
  split
  · exact hu
  · exact hv

theorem foldl {α : Type} {f : State → α → State} {l : List α} (h : LinkMoves s u) (hf : ∀ w x, LinkMoves w (f w x)) :
    LinkMoves s (l.foldl f u) :=
  List.foldlRecOn (motive := LinkMoves s) l f h fun w hw x _ => hw.trans (hf w x)

end LinkMoves

/-- The fields that configure a bundle stay. -/
theorem LinkMoves.bundle_fields {s u : State} (h : LinkMoves s u) {b : Nat} (hb : b < 32) :
    flag u (F.B_CTRL_ENABLE b) = flag s (F.B_CTRL_ENABLE b) ∧ laneEn u b = laneEn s b ∧ ∀ i, laneAt u b i = laneAt s b i := by
  have hlanes := h _ (linkFixed_lanes hb)
  refine ⟨flag_congr (h _ (linkFixed_ctrl hb)), ?_, fun i => ?_⟩
  · rw [laneEn, laneEn, bCount, bCount, rd_congr (f := F.B_LANES_LANE_EN b) hlanes, rd_congr (f := F.B_LANES_COUNT_M1 b) hlanes]
  · rw [laneAt, laneAt, rd_congr (f := F.B_LANES_FIRST b) hlanes]

theorem findSome?_congr {α β : Type} {f g : α → Option β} {l : List α} (h : ∀ x ∈ l, f x = g x) :
    l.findSome? f = l.findSome? g := by
  induction l with
  | nil => rfl
  | cons x l ih =>
    rw [List.findSome?_cons, List.findSome?_cons, h x List.mem_cons_self, ih fun y hy => h y (List.mem_cons_of_mem x hy)]

theorem bundleOf_congr {s u : State} (h : LinkMoves s u) (l : Nat) : bundleOf u l = bundleOf s l := by
  unfold bundleOf
  refine findSome?_congr fun b hb => ?_
  obtain ⟨hon, hen, hat⟩ := h.bundle_fields (List.mem_range.1 hb)
  simp only [hon, hen, hat]

/-- The bundle of a lane exists, is enabled, and holds it at one of its positions. -/
theorem bundleOf_some {s : State} {l b i : Nat} (h : bundleOf s l = some (b, i)) :
    b < 32 ∧ i ∈ bitsOf (laneEn s b) 16 ∧ laneAt s b i = l := by
  obtain ⟨c, hc, hfound⟩ := List.exists_of_findSome?_eq_some h
  split at hfound
  · obtain ⟨j, hj, hpair⟩ := Option.map_eq_some_iff.1 hfound
    obtain ⟨rfl, rfl⟩ := Prod.mk.inj hpair
    exact ⟨List.mem_range.1 hc, List.mem_of_find?_eq_some hj,
      of_decide_eq_true (List.find?_some (p := fun i => decide (laneAt s c i = l)) hj)⟩
  · cases hfound

theorem bitsOf_lt {m n i : Nat} (h : i ∈ bitsOf m n) : i < n := List.mem_range.1 (List.mem_filter.1 h).1
end Sys2Proof.Machine
end

section
/-!
SUPPORT. What the shared operations of the link do, said once: the state of a bundle shown, the entry of a training step, of DETECT
and of RECOVERY, a change of the offers, and lanes lost (09 R240, R241, R252, R255, R256, R265).
-/

namespace Sys2Proof.Machine

/-! ## The state of a bundle shown -/

/-- A field that the words showing the lanes of a bundle leave: beside ACTIVE_LANES, DEGRADED and LANES_LOW, and no event of the
bundle. -/
structure BesideShown (b : Nat) (f : Fld) : Prop where
  link : 0x60000 ≤ f.addr
  fits : f.lo + f.len ≤ 32
  event : f.addr ≠ 0x61010 + 0x80 * b
  shown : f.addr ≠ 0x6100C + 0x80 * b ∨ f.lo + f.len ≤ 6 ∨ 8 ≤ f.lo ∧ f.lo + f.len ≤ 16

theorem besideShown_state (b : Nat) : BesideShown b (F.B_STATUS_STATE b) :=
  ⟨by simp only; omega, by simp, by simp, .inr (.inl (by simp))⟩

theorem besideShown_power (b : Nat) : BesideShown b (F.B_STATUS_POWER b) :=
  ⟨by simp only; omega, by simp, by simp, .inr (.inr (by simp))⟩

theorem besideShown_maskTx (b : Nat) : BesideShown b (F.B_MASK_TX b) :=
  ⟨by simp only; omega, by simp, by simp, .inl (by simp)⟩

/-- A field is left by a write of a field that shares no bit with it. -/
theorem rd_wr_apart (s : State) (f g : Fld) (v : Nat) (hg : g.lo + g.len ≤ 32)
    (hd : g.addr ≠ f.addr ∨ g.lo + g.len ≤ f.lo ∨ f.lo + f.len ≤ g.lo) : rd (wr s f v) g = rd s g := by
  by_cases ha : g.addr = f.addr
  · exact rd_wr_field s f g v hg (hd.resolve_left (not_not.2 ha))
  · exact rd_wr_reg s f g v ha

/-- An event of a bundle leaves every register but its EVT_RAW. -/
theorem reg_raise_bundle (s : State) {e : Fld} {a b : Nat} (he : e.addr = 0x61010 + 0x80 * b) (hev : ¬ evfReg a)
    (ha : a ≠ 0x61010 + 0x80 * b) : reg (raise s e) a = reg s a := reg_raise_other _ _ _ hev (by omega)

theorem BesideShown.rd_showLanes {b : Nat} {f : Fld} (h : BesideShown b f) (s : State) : rd (showLanes s b) f = rd s f := by
  have hshown : ∀ u g v, g.addr = 0x6100C + 0x80 * b → 16 ≤ g.lo ∨ 6 ≤ g.lo ∧ g.lo + g.len ≤ 8 → rd (wr u g v) f = rd u f := by
    intro u g v ha hlo
    have := h.shown
    exact rd_wr_apart _ _ _ _ h.fits (by omega)
  have hraise : ∀ u, rd (raise u (F.B_EVT_RAW_LANES_LOW b)) f = rd u f := fun u =>
    rd_congr (reg_raise_bundle _ rfl (not_evfReg_of_link h.link) h.event)
  unfold showLanes wrB
  dsimp only
  rw [hshown _ _ _ rfl (by simp), rd_ite, hraise, ite_self, hshown _ _ _ rfl (by simp), hshown _ _ _ rfl (by simp)]

/-- A bundle that is not UP shows its lanes in B_STATUS alone. -/
theorem showLanes_down {s : State} {b : Nat} (h : rd s (F.B_STATUS_STATE b) ≠ 3) :
    (showLanes s b).wnb = s.wnb ∧ ∀ a, a ≠ 0x6100C + 0x80 * b → reg (showLanes s b) a = reg s a := by
  unfold showLanes
  simp only [h, decide_false, Bool.false_and, Bool.false_eq_true, if_false]
  exact ⟨rfl, fun a ha => by rw [wrB, wrB, reg_wr_other _ _ _ _ ha, reg_wr_other _ _ _ _ ha, reg_wr_other _ _ _ _ ha]⟩

theorem rd_setBState_state (s : State) (b st : Nat) : rd (setBState s b st) (F.B_STATUS_STATE b) = st % 8 := by
  rw [setBState, (besideShown_state b).rd_showLanes, wrBit_eq_wrB, wrB, rd_wr_reg _ _ _ _ (by simp; omega),
    rd_wr_same _ _ _ (by simp)]
  rfl

theorem BesideShown.rd_setBState {b : Nat} {f : Fld} (h : BesideShown b f) (hup : f.addr ≠ 0x6000C)
    (hstate : f.addr ≠ 0x6100C + 0x80 * b ∨ 3 ≤ f.lo) (s : State) (st : Nat) : rd (setBState s b st) f = rd s f := by
  rw [setBState, h.rd_showLanes, wrBit_eq_wrB, wrB, rd_wr_reg _ _ _ _ hup, rd_wr_apart _ _ _ _ h.fits]
  exact hstate.imp id .inr

/-- Short of UP a change of state shows in B_STATUS and WNB.STATUS alone. -/
theorem setBState_down {s : State} {b st : Nat} (h : st % 8 ≠ 3) :
    (setBState s b st).wnb = s.wnb ∧
      ∀ a, a ≠ 0x6000C → a ≠ 0x6100C + 0x80 * b → reg (setBState s b st) a = reg s a := by
  have hdown : rd (wrBit (wr s (F.B_STATUS_STATE b) st) F.WNB_STATUS_UP.addr b (decide (st = 3))) (F.B_STATUS_STATE b) ≠ 3 := by
    rw [wrBit_eq_wrB, wrB, rd_wr_reg _ _ _ _ (by simp; omega), rd_wr_same _ _ _ (by simp)]
    exact h
  obtain ⟨hwnb, hreg⟩ := showLanes_down hdown
  refine ⟨hwnb, fun a hup ha => ?_⟩
  rw [setBState, hreg a ha, wrBit, reg_setReg_other _ _ _ _ hup, reg_wr_other _ _ _ _ ha]

/-- Bundles of one core agree in every part that lies beside the count of EVENT frames. -/
theorem Bundle.eq_of_core {β : Type} {x y : Bundle} (f : Bundle → β) (hf : ∀ z, f z.core = f z) (h : x.core = y.core) :
    f x = f y := (hf x).symm.trans ((congrArg f h).trans (hf y))

/-! ## Training steps -/

/-- A lane without its counts of training sets, which every step starts again (09 R240). -/
def LaneSt.core (x : LaneSt) : LaneSt := { x with ts1 := 0, ts2 := 0 }

/-- A part of the state that a fold over lanes beside their registers leaves. -/
theorem bundle_foldl_onLane {α : Type} (f : State → α → State) (hf : ∀ s x b, bundle (f s x) b = bundle s b) (l : List α)
    (s : State) (b : Nat) : bundle (l.foldl f s) b = bundle s b := foldl_keeps (fun s => bundle s b) (fun s x => hf s x b) l s

theorem reg_enterStep (s : State) (b n a : Nat) : reg (enterStep s b n) a = reg s a := by
  unfold enterStep
  dsimp only
  rw [reg_foldl fun _ _ _ => reg_onLane _ _ _ _]
  rfl

theorem bundle_enterStep (s : State) (b n : Nat) : bundle (enterStep s b n) b = { bundle s b with step := n, stepAt := s.now } := by
  unfold enterStep
  dsimp only
  exact (bundle_foldl_onLane _ (fun _ _ _ => bundle_onLane _ _ _ _) _ _ b).trans (bundle_onBundle_same _ _ _)

theorem laneCore_enterStep (s : State) (b n l : Nat) : (laneSt (enterStep s b n) l).core = (laneSt s l).core := by
  refine (foldl_keeps (fun u => (laneSt u l).core) (fun u k => ?_) _ _).trans rfl
  rw [laneSt_onLane]
  split
  · next h => rw [h]; rfl
  · rfl

/-! ## DETECT -/

/-- The lanes of a bundle start to train for DETECT. -/
def detectLanes (s : State) (b r : Nat) : State := (bitsOf (laneEn s b) 16).foldl (fun s i => startLane s b i r) s

theorem detectLanes_laneOnly (s : State) (b r : Nat) : LaneOnly s (detectLanes s b r) :=
  (LaneOnly.refl s).foldl fun w i => (LaneOnly.refl w).startLane b i r

/-- The rate that a bundle enters DETECT with (09 R240). -/
def detectRate (s : State) (b : Nat) : Nat := if isPairBundle s b then 4 else 0

/-- DETECT begun, its state not yet shown. -/
def detectBegun (s : State) (b n : Nat) : State :=
  let w := detectLanes s b (detectRate s b)
  let w := wr (wrB w (F.B_STATUS_PAIR b) (isPairBundle w b)) (F.B_STATUS_RATE b) (detectRate s b)
  onBundle w b fun x => { x with step := 0, stepAt := w.now, began := w.now, attempts := n, cand := 0, rev := false, limit := [] }

theorem enterDetect_eq (s : State) (b n : Nat) : enterDetect s b n = setBState (detectBegun s b n) b 1 := rfl

theorem enterDetect_state (s : State) (b n : Nat) : rd (enterDetect s b n) (F.B_STATUS_STATE b) = 1 := rd_setBState_state _ b 1

/-- DETECT counts the attempts, and frames of the replay region stay. -/
theorem enterDetect_bundle (s : State) (b n : Nat) :
    (bundle (enterDetect s b n) b).attempts = n ∧ (bundle (enterDetect s b n) b).sent = (bundle s b).sent := by
  have hsent : (bundle (detectLanes s b (detectRate s b)) b).sent = (bundle s b).sent :=
    Bundle.eq_of_core Bundle.sent (fun _ => rfl) ((detectLanes_laneOnly s b (detectRate s b)).core b)
  rw [enterDetect_eq, bundle_congr (setBState_down (by decide)).1, detectBegun, bundle_onBundle_same]
  exact ⟨rfl, hsent⟩

theorem reg_enterDetect {a b : Nat} (s : State) (n : Nat) (hlow : a < 0x70000) (hev : ¬ evfReg a) (hup : a ≠ 0x6000C)
    (ha : a ≠ 0x6100C + 0x80 * b) : reg (enterDetect s b n) a = reg s a := by
  rw [enterDetect_eq, (setBState_down (by decide)).2 a hup ha, detectBegun, reg_onBundle, reg_wr_other _ _ _ _ ha, wrB,
    reg_wr_other _ _ _ _ ha]
  exact (detectLanes_laneOnly s b _).reg a hlow hev

theorem enterDetect_moves (s : State) (b n : Nat) : LinkMoves s (enterDetect s b n) := fun a ha =>
  reg_enterDetect s n (by unfold linkFixed at ha; omega) (not_evfReg_of_linkFixed ha) (by unfold linkFixed at ha; omega)
    (by unfold linkFixed at ha; omega)

/-! ## RECOVERY -/

/-- The lanes of a bundle train again for RECOVERY, but those HELD and those of a disabled quad. -/
def recoveryLanes (s : State) (b : Nat) : State :=
  (bitsOf (laneEn s b) 16).foldl (fun s i =>
    let l := laneAt s b i
    if (laneSt s l).held ∨ !(flag s (F.LNQ_CTRL_ENABLE (l / 4))) then s else setLane s l 1) s

theorem recoveryLanes_laneOnly (s : State) (b : Nat) : LaneOnly s (recoveryLanes s b) :=
  (LaneOnly.refl s).foldl fun w _ => .ite (.refl w) ((LaneOnly.refl w).setLane _ _)

/-- RECOVERY begun, its state not yet shown. -/
def recoveryBegun (s : State) (b : Nat) : State :=
  let w := recoveryLanes s b
  let w := onBundle w b fun x => { x with cand := joinable w b, since := w.now, txMask := none, rxMask := none, replay := [] }
  enterStep (wr (wr w (F.B_MASK_TX b) 0) (F.B_MASK_RX b) 0) b 4

theorem enterRecovery_eq (s : State) (b : Nat) :
    enterRecovery s b = raise (setBState (recoveryBegun s b) b 4) (F.B_EVT_RAW_RECOVERY b) := rfl

/-- The registers as RECOVERY begins are those of its lanes, but for the masks. -/
theorem reg_recoveryBegun {a b : Nat} (s : State) (ha : a ≠ 0x61050 + 0x80 * b) :
    reg (recoveryBegun s b) a = reg (recoveryLanes s b) a := by
  rw [recoveryBegun, reg_enterStep, reg_wr_other _ _ _ _ ha, reg_wr_other _ _ _ _ ha, reg_onBundle]

theorem enterRecovery_state (s : State) (b : Nat) : rd (enterRecovery s b) (F.B_STATUS_STATE b) = 4 := by
  rw [enterRecovery_eq, rd_congr (reg_raise_bundle _ rfl (not_evfReg_of_link (by simp only; omega)) (by simp only; omega)),
    rd_setBState_state]

theorem enterRecovery_power (s : State) (b : Nat) (hb : b < 32) :
    rd (enterRecovery s b) (F.B_STATUS_POWER b) = rd s (F.B_STATUS_POWER b) := by
  have hev : ¬ evfReg (F.B_STATUS_POWER b).addr := not_evfReg_of_link (by simp only; omega)
  rw [enterRecovery_eq, rd_congr (reg_raise_bundle _ rfl hev (by simp only; omega)),
    (besideShown_power b).rd_setBState (by simp only; omega) (.inr (by simp)), rd_congr (reg_recoveryBegun s (by simp only; omega))]
  exact rd_congr ((recoveryLanes_laneOnly s b).reg _ (by simp only; omega) hev)

/-- Behind its lanes RECOVERY changes bundles alone, and the counts of training sets. -/
theorem recovery_bundleOnly (s : State) {b : Nat} (hb : b < 32) :
    (∀ a, 0x70000 ≤ a → reg (enterRecovery s b) a = reg (recoveryLanes s b) a) ∧
      ∀ a, linkFixed a → reg (enterRecovery s b) a = reg (recoveryLanes s b) a := by
  have h := ((BundleOnly.refl (recoveryBegun s b)).setBState hb 4).raise (F.B_EVT_RAW_RECOVERY b)
  exact ⟨fun a ha => (h.high a ha).trans (reg_recoveryBegun s (by omega)),
    fun a ha => (h.fixed a ha).trans (reg_recoveryBegun s (by unfold linkFixed at ha; omega))⟩

theorem enterRecovery_moves (s : State) {b : Nat} (hb : b < 32) : LinkMoves s (enterRecovery s b) := fun a ha =>
  ((recovery_bundleOnly s hb).2 a ha).trans ((recoveryLanes_laneOnly s b).moves a ha)

/-- RECOVERY keeps of every lane what lies beside its registers, but its counts of training sets. -/
theorem laneCore_enterRecovery (s : State) {b : Nat} (hb : b < 32) (l : Nat) :
    (laneSt (enterRecovery s b) l).core = (laneSt s l).core := by
  have hshow := ((BundleOnly.refl (recoveryBegun s b)).setBState hb 4).raise (F.B_EVT_RAW_RECOVERY b)
  have hlanes : laneSt (recoveryLanes s b) l = laneSt s l := by
    refine foldl_keeps (fun u => laneSt u l) (fun u i => ?_) _ s
    dsimp only
    split <;> rfl
  rw [enterRecovery_eq, laneSt_congr hshow.lanes, recoveryBegun, laneCore_enterStep]
  exact congrArg LaneSt.core hlanes

/-- A field of the lane pages that a change of lane states leaves. -/
structure BesideLaneState (f : Fld) : Prop where
  high : 0x70000 ≤ f.addr
  fits : f.lo + f.len ≤ 32
  apart : f.lo + f.len ≤ 28 ∨ ∀ k, f.addr ≠ (F.LN_STATUS_STATE k).addr

theorem BesideLaneState.rd_setLane {f : Fld} (h : BesideLaneState f) (s : State) (l st : Nat) : rd (setLane s l st) f = rd s f :=
  rd_wr_apart _ _ _ _ h.fits (h.apart.elim (fun hlo => .inr (.inl hlo)) fun hne => .inl (hne l))

theorem BesideLaneState.rd_enterRecovery {f : Fld} (h : BesideLaneState f) (s : State) {b : Nat} (hb : b < 32) :
    rd (enterRecovery s b) f = rd s f := by
  refine (rd_congr ((recovery_bundleOnly s hb).1 _ h.high)).trans (foldl_keeps (fun u => rd u f) (fun u i => ?_) _ s)
  dsimp only
  rw [rd_ite, h.rd_setLane, ite_self]

/-- RECOVERY leaves the state of a lane, or has it train. -/
theorem laneState_enterRecovery (s : State) {b : Nat} (hb : b < 32) (l : Nat) :
    rd (enterRecovery s b) (F.LN_STATUS_STATE l) ∈ [rd s (F.LN_STATUS_STATE l), 1] := by
  rw [rd_congr ((recovery_bundleOnly s hb).1 _ (lane_high (by decide)))]
  refine List.foldlRecOn (motive := fun u => rd u (F.LN_STATUS_STATE l) ∈ [rd s (F.LN_STATUS_STATE l), 1]) _ _ (by simp)
    fun u hu i _ => ?_
  dsimp only
  split
  · exact hu
  · by_cases hl : (F.LN_STATUS_STATE l).addr = (F.LN_STATUS_STATE (laneAt u b i)).addr
    · have hsame : rd (setLane u (laneAt u b i) 1) (F.LN_STATUS_STATE l) = 1 := by
        have := rd_wr_same u (F.LN_STATUS_STATE (laneAt u b i)) 1 (by simp)
        rw [setLane, rd, hl]
        exact this
      simp [hsame]
    · rw [setLane, rd_wr_reg _ _ _ _ hl]
      exact hu

end Sys2Proof.Machine
end

section
/-!
SUPPORT. Access over a link (09 R259): the access of a frame of one word, and the bus as a bundle's late soft reset leaves it.
-/

namespace Sys2Proof.Machine

/-! ## The bus beside a soft reset of a bundle -/

theorem setBState_bus (s : State) (b st : Nat) : (setBState s b st).bus = s.bus := by
  unfold setBState showLanes
  dsimp only
  rw [wrB_bus]
  split
  · rw [raise_bus]
    rfl
  · rfl

theorem dropReplay_bus (s : State) (b : Nat) : (dropReplay s b).bus = s.bus := by
  have hlost : ∀ n, (if n = 0 then s else raise (bumpBy s (A.BA_FRAMES_LOST b) n) (F.B_EVT_RAW_FRAMES_LOST b)).bus = s.bus := by
    intro n
    split
    · rfl
    · rw [raise_bus, bumpBy_bus]
  unfold dropReplay showReplay
  dsimp only
  simp only [monSample_bus, wr_bus]
  exact hlost _

theorem disableBundle_bus (s : State) (b : Nat) : (disableBundle s b).bus = s.bus := by
  unfold disableBundle
  dsimp only
  rw [setBState_bus, setBundle_bus, dropReplay_bus]
  refine foldl_keeps State.bus (fun u l => ?_) _ s
  rfl

/-- A soft reset of a bundle's page leaves what the bus shows. -/
theorem softDo_bundle_bus (s : State) {b : Nat} (hb : b < 32) : (softDo (0x61000 + 0x80 * b) s).bus = s.bus := by
  have hinst : inst (0x61000 + 0x80 * b) 0x61000 0x80 32 = some b := by
    unfold inst
    rw [if_pos (by omega)]
    exact congrArg some (by omega)
  have htdc : inst (0x61000 + 0x80 * b) 0x10000 0x1000 4 = none := if_neg (by omega)
  have hbefore : (softBefore (0x61000 + 0x80 * b) s).bus = s.bus := by
    unfold softBefore
    rw [hinst]
    exact disableBundle_bus s b
  have hafter : ∀ o u, (softAfterA (0x61000 + 0x80 * b) o u).bus = u.bus := by
    intro o u
    have hother : ∀ p ∈ [0x3000, 0x4000, 0x18000, 0x20000, 0x30000, 0x31000, 0x51000, 0x32000], 0x61000 + 0x80 * b ≠ p := by
      simp only [List.mem_cons, List.not_mem_nil, or_false]
      omega
    simp only [List.mem_cons, List.not_mem_nil, or_false, forall_eq_or_imp, forall_eq] at hother
    obtain ⟨h1, h2, h3, h4, h5, h6, h7, h8⟩ := hother
    unfold softAfterA
    simp only [htdc, h1, h2, h3, h4, h5, h6, h7, h8, if_false, hinst]
    split
    · rfl
    · exact raise_bus _ _
  unfold softDo
  dsimp only
  rw [if_pos (by omega), hafter]
  exact hbefore

theorem lateReset_bus (s : State) {b : Nat} (hb : b < 32) : (lateReset b s).bus = s.bus := by
  unfold lateReset
  split
  · exact softDo_bundle_bus _ hb
  · rfl

/-! ## One access of a frame -/

theorem regCpl_bus (b : Nat) (w0 : Word) (x : Bool) (err i m1 : Nat) (data : List Word) (s : State) :
    (regCpl b w0 x err i m1 data s).bus = s.bus := by
  unfold regCpl
  dsimp only
  split <;> rfl

/-- A completion waits for transmission on a bundle that is UP, and no register changes. -/
theorem regCpl_up {b : Nat} {s : State} (h : bundleUp s b = true) (w0 : Word) (x : Bool) (err i m1 : Nat) (data : List Word) :
    pget [] (regCpl b w0 x err i m1 data s).wnb.tx b = pget [] s.wnb.tx b ++
      [(⟨4, 0, 0, 8 + 4 * data.length, w0 :: word (b2n x * 2 ^ 31 + err * 2 ^ 16 + i * 2 ^ 8 + m1) :: data⟩, s.now)] ∧
      (regCpl b w0 x err i m1 data s).regs = s.regs := by
  unfold regCpl
  dsimp only
  rw [if_pos h]
  exact ⟨pget_pset_same _ _ _ _, rfl⟩

/-- An idle bus shows what the write that meets it gives. -/
theorem regWrites_one (r : Requester) (a d : Nat) {s : State} (h : Settled s) :
    (regWrites r a 0 none [d] s).2.bus.lastErr = (busWrite r a (word d) s).1 := by
  show (writeNow r (a + 4 * 0) (word d) s).bus.lastErr = _
  unfold writeNow
  rw [acqSettle_settled s h]
  rfl

/-- An idle bus shows what the read that meets it gives. -/
theorem regReads_one (r : Requester) (a : Nat) {s : State} (h : Settled s) :
    (regReads r a 0 none [] 1 s).2.2.bus.lastErr = (busRead r a s).2.1 ∧
      (regReads r a 0 none [] 1 s).2.2.bus.lastRead = (busRead r a s).1 := by
  show (readNow r (a + 4 * 0) s).bus.lastErr = _ ∧ (readNow r (a + 4 * 0) s).bus.lastRead = _
  unfold readNow
  rw [acqSettle_settled s h]
  exact ⟨rfl, rfl⟩

/-- On a bundle that is UP a frame is taken while SYS runs. -/
theorem frame_taken {b : Nat} {s : State} (hsys : sysOn s = true) (hb : b < 32) (hup : bundleUp s b = true) :
    ¬ ((!(sysOn s)) = true ∨ 32 ≤ b ∨ (!(bundleUp s b)) = true) := by
  simp [hsys, hup, hb]

/-! ## The statement -/

/-- Settles O31: the one access of a frame meets the idle bus, and neither the completion nor a late soft reset of the bundle
touches what the bus shows. -/
theorem linkRegisterAccess : Obligations.LinkRegisterAccess := by
  unfold Obligations.LinkRegisterAccess
  refine ⟨fun t b x y d s hidle hsys hb hup hone _ => ?_, fun t b x y s hidle hsys hb hup hone _ => ?_,
    fun t b n l s hsys hb hup hlen => ?_, fun t b n l s hsys hb hup hlen => ?_⟩
  · obtain ⟨-, hset, hslow, hposted, -⟩ := hidle
    refine ⟨_, rfl, ?_⟩
    have hlen : ¬ (12 ≠ 8 + 4 * (fld (word y) 0 8 + 1) ∨ [x, y, d].length ≠ fld (word y) 0 8 + 3) := by simp [hone]
    simp only [List.getD_cons_zero, List.getD_cons_succ, List.drop_succ_cons, List.drop_zero]
    rw [if_neg (frame_taken (s := at' t s) hsys hb hup), if_neg hlen, lateReset_bus _ hb, drain_idle _ (at' t s) hslow hposted]
    rw [← regWrites_one _ _ _ (s := at' t s) hset]
    split
    · rw [regCpl_bus]
    · split
      · rw [regCpl_bus]
      · rfl
  · obtain ⟨-, hset, hslow, hposted, -⟩ := hidle
    refine ⟨_, rfl, ?_⟩
    have hlen : ¬ (8 ≠ 8 ∨ [x, y].length ≠ 2) := by simp
    simp only [List.getD_cons_zero, List.getD_cons_succ]
    rw [if_neg (frame_taken (s := at' t s) hsys hb hup), if_neg hlen, regCpl_bus, drain_idle _ (at' t s) hslow hposted, hone]
    exact regReads_one _ _ (s := at' t s) hset
  · refine ⟨_, rfl, ?_⟩
    dsimp only
    rw [if_neg (frame_taken (s := at' t s) hsys hb hup), if_pos hlen]
    exact regCpl_up (s := at' t s) hup _ _ _ _ _ _
  · refine ⟨_, rfl, ?_⟩
    dsimp only
    rw [if_neg (frame_taken (s := at' t s) hsys hb hup), if_pos hlen]
    have h := regCpl_up (s := at' t s) hup (word (l.getD 0 0)) false 3 0 (fld (word (l.getD 1 0)) 0 8)
      (List.replicate (fld (word (l.getD 1 0)) 0 8 + 1) 0#32)
    rw [List.length_replicate] at h
    simpa [b2n] using h
end Sys2Proof.Machine
end

section
/-!
SUPPORT. Training of a bundle (09 R240, R241): bit lock, training sets, the steps and their end.
-/

namespace Sys2Proof.Machine

/-- Lanes of one core agree in every part that lies beside the counts of training sets. -/
theorem LaneSt.eq_of_core {β : Type} {x y : LaneSt} (f : LaneSt → β) (hf : ∀ z, f z.core = f z) (h : x.core = y.core) : f x = f y :=
  (hf x).symm.trans ((congrArg f h).trans (hf y))

/-- Control words that leave the link change nothing of a bundle but what is on its way. -/
@[simp] theorem bundle_newLcw (s : State) (b : Nat) : bundle (newLcw s b) b = { bundle s b with lcw := [], wire := [] } :=
  bundle_onBundle_same _ _ _

@[simp] theorem bundleUp_newLcw (s : State) (b c : Nat) : bundleUp (newLcw s b) c = bundleUp s c := rfl

/-! ## Bit lock -/

/-- A lane with bit lock and the lock of its PLL. -/
def bitLocked (s : State) (l : Nat) : State := setPllLock (setBitLock s l true) l true


theorem laneBit_bitLocked (s : State) (l : Nat) : (laneSt (bitLocked s l) l).bit = true := by
  rw [bitLocked, laneSt_setPllLock, setBitLock, laneSt_onLane_same]

theorem flag_bitLocked (s : State) (l : Nat) : flag (bitLocked s l) (F.LN_STATUS_CDR_LOCK l) = true := by
  have hset : flag (wrB s (F.LN_STATUS_CDR_LOCK l) true) (F.LN_STATUS_CDR_LOCK l) = true := flag_wrB_same _ _ _ (by simp) rfl
  rw [bitLocked, setPllLock, wrBit_eq_wrB, wrB, flag_congr (reg_wr_other _ _ _ _ (by simp only; omega)), wrB,
    flag_wr_field _ _ _ _ (by simp) (by simp), setBitLock, wrBit_eq_wrB, wrB]
  exact (flag_congr (reg_wr_other _ _ _ _ (by simp only; omega))).trans hset

theorem laneState_bitLocked (s : State) (l : Nat) : rd (bitLocked s l) (F.LN_STATUS_STATE l) = rd s (F.LN_STATUS_STATE l) := by
  rw [bitLocked, setPllLock, wrBit_eq_wrB, wrB, rd_wr_reg _ _ _ _ (by simp only; omega), wrB,
    rd_wr_field _ _ _ _ (by simp) (by simp), setBitLock, rd_onLane, wrBit_eq_wrB, wrB, rd_wr_reg _ _ _ _ (by simp only; omega), wrB,
    rd_wr_field _ _ _ _ (by simp) (by simp)]

theorem bitLocked_laneOnly (s : State) (l : Nat) : LaneOnly s (bitLocked s l) := ((LaneOnly.refl s).setBitLock l true).setPllLock l true

/-- A bundle in DETECT begins to train: IDENTITY with the positions that may join. -/
def trainingBegun (s : State) (b : Nat) : State :=
  setBState (enterStep (onBundle s b fun x => { x with cand := joinable s b }) b 1) b 2

theorem reg_trainingBegun (s : State) {a b : Nat} (hup : a ≠ 0x6000C) (ha : a ≠ 0x6100C + 0x80 * b) :
    reg (trainingBegun s b) a = reg s a := by
  rw [trainingBegun, (setBState_down (by decide)).2 a hup ha, reg_enterStep, reg_onBundle]

theorem bundle_trainingBegun (s : State) (b : Nat) :
    bundle (trainingBegun s b) b = { bundle s b with cand := joinable s b, step := 1, stepAt := s.now } := by
  rw [trainingBegun, bundle_congr (setBState_down (by decide)).1, bundle_enterStep, bundle_onBundle_same]
  rfl

theorem laneBit_trainingBegun (s : State) (b l : Nat) : (laneSt (trainingBegun s b) l).bit = (laneSt s l).bit := by
  rw [trainingBegun, laneSt_congr (congrArg Wnb.lanes (setBState_down (by decide)).1)]
  exact LaneSt.eq_of_core LaneSt.bit (fun _ => rfl) (laneCore_enterStep _ _ _ _)

/-- The positions that may join depend on B_LANES and the states of lanes. -/
theorem joinable_congr {s u : State} {b : Nat} (hlanes : reg u (F.B_LANES_FIRST b).addr = reg s (F.B_LANES_FIRST b).addr)
    (hstates : ∀ l, reg u (F.LN_STATUS_STATE l).addr = reg s (F.LN_STATUS_STATE l).addr) : joinable u b = joinable s b := by
  have hat : ∀ i, laneAt u b i = laneAt s b i := fun i => congrArg (· + i) (rd_congr (f := F.B_LANES_FIRST b) hlanes)
  have hen : laneEn u b = laneEn s b := by
    rw [laneEn, laneEn, bCount, bCount, rd_congr (f := F.B_LANES_LANE_EN b) hlanes, rd_congr (f := F.B_LANES_COUNT_M1 b) hlanes]
  unfold joinable
  simp only [hen, hat, rd_congr (hstates _)]

theorem joinable_trainingBegun (s : State) {b : Nat} (hb : b < 32) : joinable (trainingBegun s b) b = joinable s b :=
  joinable_congr (reg_trainingBegun s (by simp only; omega) (by simp only; omega))
    fun l => reg_trainingBegun s (by simp only; omega) (by simp only; omega)

/-- A lane out of quarantine for the attempt that its bit lock joins. -/
def laneJoins (s : State) (l : Nat) : State := if rd s (F.LN_STATUS_STATE l) = 3 then setLane s l 1 else s

theorem laneSt_laneJoins (s : State) (l k : Nat) : laneSt (laneJoins s l) k = laneSt s k := by
  unfold laneJoins
  split <;> rfl

theorem flag_laneJoins (s : State) (l : Nat) : flag (laneJoins s l) (F.LN_STATUS_CDR_LOCK l) = flag s (F.LN_STATUS_CDR_LOCK l) := by
  unfold laneJoins
  split
  · exact flag_wr_field _ _ _ _ (by simp) (by simp)
  · rfl

theorem laneState_laneJoins {s : State} {l : Nat} (h : rd s (F.LN_STATUS_STATE l) = 1 ∨ rd s (F.LN_STATUS_STATE l) = 3) :
    rd (laneJoins s l) (F.LN_STATUS_STATE l) = 1 := by
  unfold laneJoins
  split
  · exact rd_wr_same _ _ _ (by simp)
  · next hne => exact h.resolve_right hne

theorem laneBitLock_eq (l : Nat) (s : State) : laneBitLock l s =
    if !(flag s (F.LNQ_CTRL_ENABLE (l / 4))) then s
    else match bundleOf s l with
    | some (b, _) =>
      if rateSetsOut s b l then s
      else if rd s (F.B_STATUS_STATE b) = 2 ∧ (bundle s b).step = 2 then wr (bitLocked s l) (F.LN_STATUS_RATE l) (bundle s b).target
      else if rd s (F.B_STATUS_STATE b) = 1 then
        if rd (laneJoins (bitLocked s l) l) (F.LN_STATUS_STATE l) = 1 then trainingBegun (laneJoins (bitLocked s l) l) b
        else laneJoins (bitLocked s l) l
      else bitLocked s l
    | none => bitLocked s l := rfl

/-- A lane that gains bit lock shows it. -/
theorem laneBitLock_locks {l : Nat} {s : State} (hon : flag s (F.LNQ_CTRL_ENABLE (l / 4)) = true)
    (hsets : ((bundleOf s l).all fun x => !(rateSetsOut s x.1 l)) = true) :
    flag (laneBitLock l s) (F.LN_STATUS_CDR_LOCK l) = true ∧ (laneSt (laneBitLock l s) l).bit = true := by
  have hjoin : flag (laneJoins (bitLocked s l) l) (F.LN_STATUS_CDR_LOCK l) = true ∧ (laneSt (laneJoins (bitLocked s l) l) l).bit = true :=
    ⟨(flag_laneJoins _ _).trans (flag_bitLocked s l), (congrArg LaneSt.bit (laneSt_laneJoins _ _ _)).trans (laneBit_bitLocked s l)⟩
  rw [laneBitLock_eq, hon]
  cases hof : bundleOf s l with
  | none => exact ⟨flag_bitLocked s l, laneBit_bitLocked s l⟩
  | some x =>
    obtain ⟨hb, -⟩ := bundleOf_some hof
    rw [hof] at hsets
    have hout : rateSetsOut s x.1 l = false := Bool.not_eq_true' _ ▸ hsets
    simp only [hout, Bool.not_true, Bool.false_eq_true, if_false]
    split
    · exact ⟨(flag_wr_field _ _ _ _ (by simp) (by simp)).trans (flag_bitLocked s l), laneBit_bitLocked s l⟩
    · split
      · split
        · exact ⟨(flag_congr (reg_trainingBegun _ (by simp only; omega) (by simp only; omega))).trans hjoin.1,
            (laneBit_trainingBegun _ _ _).trans hjoin.2⟩
        · exact hjoin
      · exact ⟨flag_bitLocked s l, laneBit_bitLocked s l⟩

/-- Bit lock on a lane that trains takes its bundle from DETECT to TRAINING, in step IDENTITY. -/
theorem laneBitLock_trains {l b i : Nat} {s : State} (hon : flag s (F.LNQ_CTRL_ENABLE (l / 4)) = true)
    (hof : bundleOf s l = some (b, i)) (hdetect : rd s (F.B_STATUS_STATE b) = 1)
    (hlane : rd s (F.LN_STATUS_STATE l) = 1 ∨ rd s (F.LN_STATUS_STATE l) = 3) :
    rd (laneBitLock l s) (F.B_STATUS_STATE b) = 2 ∧ (bundle (laneBitLock l s) b).step = 1 ∧
      (bundle (laneBitLock l s) b).cand = joinable (laneBitLock l s) b := by
  have hout : rateSetsOut s b l = false := by simp [rateSetsOut, hdetect]
  have hjoins := laneState_laneJoins (s := bitLocked s l) (l := l) (by rwa [laneState_bitLocked])
  have heq : laneBitLock l s = trainingBegun (laneJoins (bitLocked s l) l) b := by
    rw [laneBitLock_eq, hon, hof]
    simp [hout, hdetect, hjoins]
  rw [heq, bundle_trainingBegun, joinable_trainingBegun _ (bundleOf_some hof).1]
  exact ⟨rd_setBState_state _ _ _, rfl, rfl⟩

/-! ## Training sets -/

theorem applyEq_wnb (s : State) (l : Nat) : (applyEq s l).wnb = s.wnb := by
  unfold applyEq
  dsimp only
  split
  · rfl
  · split <;> rfl

/-- A valid training set kept for its lane, and what it asks of the transmitter. -/
def setTaken (s : State) (l : Nat) (x : TsSet) : State :=
  applyEq (onLane s l fun y =>
    { y with set := some x, ts1 := if x.kind = 1 then y.ts1 + 1 else 0, ts2 := if x.kind = 2 then y.ts2 + 1 else 0,
             req := if x.reqValid then some x.req else y.req }) l

theorem tsSetReceived_valid {l : Nat} {y : List Nat} {e : Bool} {x : TsSet} (s : State) (h : parseTs y e = some x) :
    tsSetReceived l y e s = match bundleOf (setTaken s l x) l with
      | none => setTaken s l x
      | some (b, _) =>
        let u := setReg (newLcw (setTaken s l x) b) (A.BA_PARTNER_ID b) x.id
        if rd u (F.B_STATUS_STATE b) = 3 ∧ x.kind = 1 ∧ x.step = 4 then enterRecovery u b else u := by
  unfold tsSetReceived
  rw [h]
  rfl

theorem laneSet_setTaken (s : State) (l : Nat) (x : TsSet) : (laneSt (setTaken s l x) l).set = some x := by
  rw [setTaken, laneSt_congr (congrArg Wnb.lanes (applyEq_wnb _ _)), laneSt_onLane_same]

/-- A valid training set is kept for its lane. -/
theorem tsSetReceived_kept {l : Nat} {y : List Nat} {e : Bool} {x : TsSet} (s : State) (h : parseTs y e = some x) :
    (laneSt (tsSetReceived l y e s) l).set = some x := by
  rw [tsSetReceived_valid s h]
  split
  · exact laneSet_setTaken s l x
  · next b i hof =>
    dsimp only
    split
    · exact (LaneSt.eq_of_core LaneSt.set (fun _ => rfl) (laneCore_enterRecovery _ (bundleOf_some hof).1 l)).trans
        (laneSet_setTaken s l x)
    · exact laneSet_setTaken s l x

/-- A training set that is not valid ends the run of those that are, and is not kept. -/
theorem tsSetReceived_broken {l : Nat} {y : List Nat} {e : Bool} (s : State) (h : parseTs y e = none) :
    (laneSt (tsSetReceived l y e s) l).set = (laneSt s l).set ∧ (laneSt (tsSetReceived l y e s) l).ts1 = 0 ∧
      (laneSt (tsSetReceived l y e s) l).ts2 = 0 := by
  unfold tsSetReceived
  rw [h]
  dsimp only
  rw [laneSt_onLane_same]
  exact ⟨rfl, rfl, rfl⟩

/-! ## The steps -/

/-- What the steps of a bundle read: registers and the clock, lanes beside their registers, and its attempt. -/
structure SameAttempt (b : Nat) (s u : State) : Prop where
  regs : u.regs = s.regs
  now : u.now = s.now
  lanes : u.wnb.lanes = s.wnb.lanes
  cand : (bundle u b).cand = (bundle s b).cand
  step : (bundle u b).step = (bundle s b).step
  stepAt : (bundle u b).stepAt = (bundle s b).stepAt
  limit : (bundle u b).limit = (bundle s b).limit

namespace SameAttempt
variable {b : Nat} {s u : State} (h : SameAttempt b s u)
include h

theorem reg (a : Nat) : reg u a = Machine.reg s a := by rw [Machine.reg, Machine.reg, h.regs]
theorem rd (f : Fld) : rd u f = Machine.rd s f := rd_congr (h.reg _)
theorem flag (f : Fld) : flag u f = Machine.flag s f := flag_congr (h.reg _)
theorem laneSt (l : Nat) : laneSt u l = Machine.laneSt s l := laneSt_congr h.lanes l

theorem stepPassed (n : Nat) : stepPassed u b n = Machine.stepPassed s b n := by
  unfold Machine.stepPassed orderRev identityOk creditsIn isPairBundle
  simp only [laneAt, h.reg, h.rd, h.flag, h.laneSt, h.cand, h.step, h.stepAt, h.limit, h.now]

theorem trans {v : State} (h' : SameAttempt b u v) : SameAttempt b s v :=
  ⟨h'.regs.trans h.regs, h'.now.trans h.now, h'.lanes.trans h.lanes, h'.cand.trans h.cand, h'.step.trans h.step,
    h'.stepAt.trans h.stepAt, h'.limit.trans h.limit⟩

theorem targetRate : targetRate u b = Machine.targetRate s b := by
  unfold Machine.targetRate rateMask ceiling
  simp only [laneAt, h.reg, h.rd, h.laneSt, h.cand]

end SameAttempt

theorem sameAttempt_newLcw (s : State) (b : Nat) : SameAttempt b s (newLcw s b) := by
  constructor
  case regs | now | lanes => rfl
  all_goals rw [bundle_newLcw]

/-- EQUALISE is the third step, and no register of the bundle changes with it. -/
theorem enterEqualise_shows (s : State) (b : Nat) :
    (bundle (enterEqualise s b) b).step = 3 ∧ ∀ a, reg (enterEqualise s b) a = reg s a := by
  unfold enterEqualise
  dsimp only
  refine ⟨congrArg Bundle.step (bundle_enterStep _ _ _), fun a => ?_⟩
  rw [reg_enterStep]
  refine reg_foldl (fun u i _ => ?_) s
  rfl

/-- EQUALISE entered for an attempt, or a step behind changes of lanes alone, shows no other state. -/
theorem enterEqualise_state (s : State) (b : Nat) : rd (enterEqualise s b) (F.B_STATUS_STATE b) = rd s (F.B_STATUS_STATE b) :=
  rd_congr ((enterEqualise_shows s b).2 _)

theorem enterStep_state {s u : State} (h : LaneOnly s u) {b : Nat} (hb : b < 32) (n : Nat) :
    rd (enterStep u b n) (F.B_STATUS_STATE b) = rd s (F.B_STATUS_STATE b) :=
  (rd_congr (reg_enterStep _ _ _ _)).trans
    (rd_congr (h.reg _ (by simp only; omega) (not_evfReg_of_link (by simp only; omega))))

/-- The lanes of an attempt change one by one. -/
def onLanes (s : State) (b m : Nat) (f : State → Nat → State) : State := (bitsOf m 16).foldl (fun w i => f w (laneAt w b i)) s

theorem onLanes_laneOnly {f : State → Nat → State} (hf : ∀ w l, LaneOnly w (f w l)) (s : State) (b m : Nat) :
    LaneOnly s (onLanes s b m f) := (LaneOnly.refl s).foldl fun w _ => hf w _

/-- IDENTITY has ended with this order, EQUALISE to follow where the rate stays. -/
def afterIdentity (s : State) (b m r : Nat) : State :=
  let s := onBundle s b fun x => { x with target := r }
  if isPairBundle s b ∨ r = rd s (F.B_STATUS_RATE b) then enterEqualise s b
  else enterStep (onLanes s b m fun s l => setBitLock s l false) b 2

/-- What follows the step `n` of TRAINING with the lanes `m`. -/
def afterStep (s : State) (b m n target : Nat) : State :=
  match n with
  | 1 => afterIdentity s b m (targetRate s b)
  | 2 => enterEqualise (wr s (F.B_STATUS_RATE b) target) b
  | 3 => enterStep (onLanes s b m measureLane) b 4
  | 4 => firstCredits (enterStep (onLanes s b m measureSkew) b 5) b
  | _ => goUp s b

/-- The attempt of a bundle with the order that its lanes fit kept at the end of IDENTITY. -/
def ordered (s : State) (b : Nat) : State :=
  onBundle s b fun x => { x with cand := (bundle s b).cand, rev := if (bundle s b).step = 1 then orderRev s b else (bundle s b).rev }

theorem sameAttempt_ordered (s : State) (b : Nat) : SameAttempt b s (ordered s b) := by
  constructor
  case regs | now | lanes => rfl
  all_goals rw [ordered, bundle_onBundle_same]

/-- A step of TRAINING that every lane to join has met takes no lane out. -/
theorem nextStep_joined {s : State} {b : Nat} (hstate : rd s (F.B_STATUS_STATE b) = 2) :
    nextStep s b (bundle s b).cand = afterStep (ordered s b) b (bundle s b).cand (bundle s b).step (bundle s b).target := by
  have hgone : bitsOf ((bundle s b).cand ^^^ (bundle s b).cand) 16 = [] := by rw [Nat.xor_self]; rfl
  unfold nextStep
  dsimp only
  rw [hgone, List.foldl_nil, rd_onBundle, if_neg (by rw [hstate]; decide)]
  rfl

theorem afterIdentity_shows {s : State} {b : Nat} (hb : b < 32) (m r : Nat) :
    (bundle (afterIdentity s b m r) b).step = (if isPairBundle s b ∨ r = rd s (F.B_STATUS_RATE b) then 3 else 2) ∧
      rd (afterIdentity s b m r) (F.B_STATUS_STATE b) = rd s (F.B_STATUS_STATE b) := by
  have hpair : ∀ f, isPairBundle (onBundle s b f) b = isPairBundle s b := fun _ => rfl
  unfold afterIdentity
  dsimp only
  rw [hpair, rd_onBundle]
  split
  · exact ⟨(enterEqualise_shows _ _).1, enterEqualise_state _ _⟩
  · exact ⟨congrArg Bundle.step (bundle_enterStep _ _ _),
      enterStep_state (onLanes_laneOnly (fun w l => (LaneOnly.refl w).setBitLock l false) _ b m) hb 2⟩

/-- The step that follows one before CREDIT. -/
theorem afterStep_shows {s : State} {b n : Nat} (hb : b < 32) (hlow : 1 ≤ n) (hhigh : n ≤ 4) (m r : Nat) :
    (bundle (afterStep s b m n r) b).step =
        (if n = 1 ∧ (isPairBundle s b ∨ targetRate s b = rd s (F.B_STATUS_RATE b)) then 3 else n + 1) ∧
      rd (afterStep s b m n r) (F.B_STATUS_STATE b) = rd s (F.B_STATUS_STATE b) := by
  obtain rfl | rfl | rfl | rfl : n = 1 ∨ n = 2 ∨ n = 3 ∨ n = 4 := by omega
  · simp only [true_and]
    exact afterIdentity_shows hb m (targetRate s b)
  · exact ⟨(enterEqualise_shows _ _).1, (enterEqualise_state _ _).trans (rd_wr_field _ _ _ _ (by simp) (by simp))⟩
  · exact ⟨congrArg Bundle.step (bundle_enterStep _ _ _),
      enterStep_state (onLanes_laneOnly (fun w l => (LaneOnly.refl w).measureLane l) s b m) hb 4⟩
  · refine ⟨?_, enterStep_state (onLanes_laneOnly (fun w l => (LaneOnly.refl w).measureSkew l) s b m) hb 5⟩
    refine (congrArg Bundle.step (bundle_onBundle_same _ _ _)).trans ?_
    exact congrArg Bundle.step (bundle_enterStep _ _ _)

/-- CREDIT ended takes a bundle UP on its lanes (09 R241). -/
theorem goUp_shows {s : State} {b : Nat} (hb : b < 32) :
    rd (goUp s b) (F.B_STATUS_STATE b) = 3 ∧ rd (goUp s b) (F.B_MASK_TX b) = (bundle s b).cand % 2 ^ 16 ∧
      flag (goUp s b) (F.B_EVT_RAW_UP b) = true := by
  have hbeside : ∀ u (f : Fld), 0x60000 ≤ f.addr → f.addr ≠ 0x61010 + 0x80 * b →
      rd (raise u (F.B_EVT_RAW_UP b)) f = rd u f := fun u f hlink hne =>
    rd_congr (reg_raise_bundle _ rfl (not_evfReg_of_link hlink) hne)
  unfold goUp
  dsimp only
  refine ⟨?_, ?_, flag_raise _ _ (not_evfReg_of_link (by simp only; omega)) (by simp only; omega) rfl (by simp)⟩
  · rw [hbeside _ _ (by simp only; omega) (by simp only; omega), rd_setBState_state]
  · rw [hbeside _ _ (by simp only; omega) (by simp only; omega),
      (besideShown_maskTx b).rd_setBState (by simp only; omega) (.inl (by simp only; omega)),
      rd_wr_reg _ _ _ _ (by simp only; omega), rd_onBundle, rd_ite,
      rd_congr (reg_setReg_other _ _ _ _ (by simp only [A.BA_TRAIN_TIME]; omega)), ite_self,
      rd_wr_reg _ _ _ _ (by simp only; omega), rd_wr_reg _ _ _ _ (by simp only; omega), rd_wr_field _ _ _ _ (by simp) (by simp),
      rd_wr_same _ _ _ (by simp)]

/-- The end of a step that every lane to join has met. -/
theorem trainStepComplete_eq {s : State} {b n : Nat} (hstate : rd s (F.B_STATUS_STATE b) = 2) (hstep : (bundle s b).step ≠ 0)
    (hmet : stepPassed s b n ≠ 0) (hall : stepPassed s b n = (bundle s b).cand) :
    trainStepComplete b n s = afterStep (ordered (newLcw s b) b) b (bundle s b).cand (bundle s b).step (bundle s b).target := by
  have hsame := sameAttempt_newLcw s b
  have htrains : inTraining (newLcw s b) b = true := by
    simp [inTraining, hstate, hstep]
  have hjoined := nextStep_joined (s := newLcw s b) (b := b) (by rwa [rd_newLcw])
  rw [hsame.cand, hsame.step] at hjoined
  unfold trainStepComplete
  dsimp only
  rw [hsame.stepPassed, hsame.cand, if_pos ⟨htrains, hmet, hall⟩, hall, hjoined, bundle_newLcw]

/-- A step of TRAINING that every lane to join has met is followed by the next. -/
theorem trainStepComplete_next {s : State} {b n : Nat} (hb : b < 32) (hstate : rd s (F.B_STATUS_STATE b) = 2)
    (hlow : 1 ≤ (bundle s b).step) (hhigh : (bundle s b).step ≤ 4) (hmet : stepPassed s b n ≠ 0)
    (hall : stepPassed s b n = (bundle s b).cand) :
    (bundle (trainStepComplete b n s) b).step =
        (if (bundle s b).step = 1 ∧ (isPairBundle s b ∨ targetRate s b = rd s (F.B_STATUS_RATE b)) then 3
          else (bundle s b).step + 1) ∧
      rd (trainStepComplete b n s) (F.B_STATUS_STATE b) = 2 := by
  have hsame := (sameAttempt_newLcw s b).trans (sameAttempt_ordered (newLcw s b) b)
  have hafter := afterStep_shows (s := ordered (newLcw s b) b) hb hlow hhigh (bundle s b).cand (bundle s b).target
  rw [isPairBundle, hsame.targetRate, hsame.rd, hsame.rd, hsame.flag, hstate] at hafter
  rwa [trainStepComplete_eq hstate (by omega) hmet hall]

/-- CREDIT that every lane to join has met takes a bundle UP. -/
theorem trainStepComplete_up {s : State} {b n : Nat} (hb : b < 32) (hstate : rd s (F.B_STATUS_STATE b) = 2)
    (hstep : (bundle s b).step = 5) (hmet : stepPassed s b n ≠ 0) (hall : stepPassed s b n = (bundle s b).cand) :
    rd (trainStepComplete b n s) (F.B_STATUS_STATE b) = 3 ∧
      rd (trainStepComplete b n s) (F.B_MASK_TX b) = (bundle s b).cand % 2 ^ 16 ∧
      flag (trainStepComplete b n s) (F.B_EVT_RAW_UP b) = true := by
  have hsame := (sameAttempt_newLcw s b).trans (sameAttempt_ordered (newLcw s b) b)
  have hup := goUp_shows (s := ordered (newLcw s b) b) hb
  rw [hsame.cand] at hup
  rw [trainStepComplete_eq hstate (by omega) hmet hall, hstep]
  exact hup

/-! ## The end of an attempt -/

/-- With the last attempt failed its bundle is FAILED. -/
theorem failAttempt_shows {s : State} {b : Nat} (hb : b < 32) :
    rd (failAttempt s b) (F.B_STATUS_STATE b) =
        (if rd s (F.B_CFG_TRAIN_ATTEMPTS b) ≤ (bundle s b).attempts + 1 then 6 else 1) ∧
      (bundle (failAttempt s b) b).attempts = (bundle s b).attempts + 1 := by
  unfold failAttempt
  dsimp only
  split
  · constructor
    · rw [rd_congr (reg_raise_bundle _ rfl (not_evfReg_of_link (by simp only; omega)) (by simp only; omega)), rd_setBState_state]
    · refine (Bundle.eq_of_core Bundle.attempts (fun _ => rfl) (core_raise _ _ _)).trans ?_
      rw [bundle_congr (setBState_down (by decide)).1, bundle_onBundle_same]
  · exact ⟨enterDetect_state _ _ _, (enterDetect_bundle _ _ _).1⟩

/-- A step that no lane meets within its time fails the attempt. -/
theorem trainStepTimeout_eq {t b n : Nat} {s : State} (hstate : rd s (F.B_STATUS_STATE b) = 2) (hstep : (bundle s b).step ≠ 0)
    (htime : (bundle s b).stepAt + stepTimeout (bundle s b).step ≤ t) (hnone : stepPassed s b n = 0) :
    trainStepTimeout t b n s = failAttempt (newLcw s b) b := by
  have hsame := sameAttempt_newLcw s b
  have htrains : inTraining (newLcw s b) b = true := by
    simp [inTraining, hstate, hstep]
  unfold trainStepTimeout
  dsimp only
  rw [hsame.stepPassed, hsame.step, hsame.stepAt, if_pos ⟨htrains, htime⟩, hnone, if_neg (not_not.2 rfl), rd_newLcw,
    if_neg (by rw [hstate]; decide)]

end Sys2Proof.Machine
end

section
/-!
SUPPORT. Accepted writes of the registers of the link (02 R41; 09 R258, R261, R265, R266).
-/

namespace Sys2Proof.Machine

/-! ## What a write leaves of the link beside its registers -/

@[simp] theorem busShow_wnb (w : Word) (n : Nat) (s : State) : (busShow w n s).wnb = s.wnb := rfl
@[simp] theorem latchDrop_wnb (s : State) (r : Requester) (a : Nat) : (latchDrop s r a).wnb = s.wnb := rfl

@[simp] theorem lockCount_wnb (p : Nat) (s : State) : (lockCount p s).wnb = s.wnb := by
  unfold lockCount
  dsimp only
  split <;> rfl

theorem storeField_wnb (a : Nat) (d : Word) (s : State) (f : FieldRow) : (storeField a d s f).wnb = s.wnb := by
  unfold storeField counterClear
  repeat' split
  all_goals rfl

@[simp] theorem storeReg_wnb (l : RegLoc) (a : Nat) (d : Word) (s : State) : (storeReg l a d s).wnb = s.wnb :=
  foldl_keeps State.wnb (storeField_wnb a d) _ s

/-! ## Registers of fields that are RW or W1S -/

/-- The register at `a` is CTRL of page `p` or lies past the common header, and is no port, no part of a wide value and no window;
its fields are RW, or only set. -/
structure LinkReg (a p : Nat) (l : RegLoc) : Prop where
  aligned : busAddr a = a
  unwindowed : windowed a = false
  page : pageBase a = some p
  row : findReg a = some l
  base : l.pbase = p
  off : p ≠ 0x2000
  place : a = p + 8 ∨ p + 0x40 ≤ a
  narrow : wideLow a = none
  unheld : heldWord a = false
  unported : isPort a = false
  kinds : ∀ f ∈ l.row.fields, f.acc = .rw ∨ f.acc = .w1s

/-- Storing takes RW fields into their register, and into no other; a bit that is only set takes nothing. -/
theorem reg_foldl_storeField_rw {a : Nat} {d : Word} (hport : isPort a = false) (l : List FieldRow)
    (hkinds : ∀ f ∈ l, f.acc = .rw ∨ f.acc = .w1s) (s : State) (b : Nat) :
    reg (l.foldl (storeField a d) s) b =
      if b = a then (l.filter (·.acc = .rw)).foldl (takeField · d) (reg s a) else reg s b := by
  have hall : (l.filter (·.acc = .rw)).foldl (storeField a d) s = l.foldl (storeField a d) s := by
    induction l generalizing s with
    | nil => rfl
    | cons f l ih =>
      have ih' := fun u => ih (fun g hg => hkinds g (List.mem_cons_of_mem f hg)) u
      obtain hf | hf := hkinds f List.mem_cons_self
      · simp only [List.filter_cons, hf, decide_true, if_true, List.foldl_cons]
        exact ih' _
      · have hkeep : storeField a d s f = s := by simp [storeField, hf]
        simp only [List.filter_cons, hf, reduceCtorEq, decide_false, Bool.false_eq_true, if_false, List.foldl_cons, hkeep]
        exact ih' _
  rw [← hall, reg_foldl_storeField hport _ fun f hf => by simpa using (List.mem_filter.1 hf).2]

namespace LinkReg
variable {a p : Nat} {l : RegLoc} (h : LinkReg a p l)
include h

theorem reg_storeReg_other {b : Nat} (hb : b ≠ a) (d : Word) (s : State) : reg (storeReg l a d s) b = reg s b := by
  rw [storeReg, reg_foldl_storeField_rw h.unported _ h.kinds, if_neg hb]

/-- A stored RW field reads as written. -/
theorem fld_storeReg {f : FieldRow} (hf : f ∈ l.row.fields) (hrw : f.acc = .rw) (hlen : f.lo + f.len ≤ 32) (d : Word) (s : State) :
    fld (reg (storeReg l a d s) a) f.lo f.len = fld d f.lo f.len := by
  rw [storeReg, reg_foldl_storeField_rw h.unported _ h.kinds, if_pos rfl]
  exact fld_foldl_takeField hlen _ _ (.inl (List.mem_filter.2 ⟨hf, by simpa using hrw⟩))

/-- Beside its register a write does what the page's own chapter says. -/
theorem writeDo_eq (d : Word) (o c : State) : writeDo l a d o c = pageAct p a d o (storeReg l a d c) := by
  have hplace := h.place
  unfold writeDo
  simp only [h.base]
  rw [if_neg (by omega), if_neg (by omega), if_neg (by omega), if_neg (by omega)]

/-- What an accepted write that is no soft reset has passed, and what it leaves of the link and of the registers but LOCK. -/
theorem write {t d : Nat} {r : Requester} {s : State} (hacc : Accepts t r a d s) (hsoft : a = p + 8 → bit (word d) 1 = false) :
    writeCode l a (word d) (at' t s) (at' t s) = 0 ∧
      (accessW t r a d s).wnb = (pageAct p a (word d) (at' t s) (storeReg l a (word d) (at' t s))).wnb ∧
      ∀ b, b ≠ p + 0x2C →
        reg (accessW t r a d s) b = reg (pageAct p a (word d) (at' t s) (storeReg l a (word d) (at' t s))) b := by
  have hplace := h.place
  have hlock : (hasHeader p && decide (a = p + 0x2C)) = false := by simp; omega
  have hsoft' : (hasHeader p && decide (a = p + 8) && bit (word d) 1) = false := by
    by_cases ha : a = p + 8
    · simp [hsoft ha]
    · simp [ha]
  obtain ⟨-, -, hcode⟩ := hacc.elim h.aligned h.unwindowed h.page
  rw [pageWrite_code _ _ _ _ _ _ h.row h.base hlock hsoft' h.narrow] at hcode
  have hpassed : writeCode l a (word d) (at' t s) (at' t s) = 0 := by
    by_contra hne
    exact hne ((if_pos hne).symm.trans hcode)
  rw [hacc.write h.aligned h.unwindowed h.page h.row h.base hlock hsoft' h.narrow h.unheld, h.writeDo_eq, lcAfter_off _ _ _ h.off]
  exact ⟨hpassed, by simp only [busShow_wnb, latchDrop_wnb, lockCount_wnb], fun b hb => reg_lockCount _ _ _ hb⟩

end LinkReg

/-! ## The pages of bundles -/

/-- The fields of B.CTRL (09 R265). -/
def bCtrlFields : List FieldRow :=
  [⟨9, 1, .rw, [], false⟩, ⟨8, 1, .rw, [], false⟩, ⟨4, 2, .rw, [(3, 3)], false⟩, ⟨2, 1, .w1s, [], false⟩,
    ⟨1, 1, .w1s, [], false⟩, ⟨0, 1, .rw, [], false⟩]

/-- The fields of B_LANES (09 R265). -/
def bLanesFields : List FieldRow := [⟨16, 16, .rw, [], false⟩, ⟨8, 8, .rw, [], false⟩, ⟨0, 4, .rw, [], false⟩]

theorem bundle_places : ∀ b < 32, ∀ o ∈ [0x08, 0x44], busAddr (0x61000 + 0x80 * b + o) = 0x61000 + 0x80 * b + o ∧
    windowed (0x61000 + 0x80 * b + o) = false ∧ pageBase (0x61000 + 0x80 * b + o) = some (0x61000 + 0x80 * b) ∧
    wideLow (0x61000 + 0x80 * b + o) = none ∧ heldWord (0x61000 + 0x80 * b + o) = false ∧
    isPort (0x61000 + 0x80 * b + o) = false := by decide

theorem bundle_rows : ∀ b < 32, ∀ x ∈ [(0x08, bCtrlFields), (0x44, bLanesFields)],
    (findReg (0x61000 + 0x80 * b + x.1)).map (fun l => (l.pbase, l.row.fields)) = some (0x61000 + 0x80 * b, x.2) := by decide

theorem linkReg_bundle {b o : Nat} {fs : List FieldRow} (hb : b < 32) (h : (o, fs) ∈ [(0x08, bCtrlFields), (0x44, bLanesFields)]) :
    ∃ l, LinkReg (0x61000 + 0x80 * b + o) (0x61000 + 0x80 * b) l ∧ l.row.fields = fs := by
  obtain ⟨l, hl, hfields⟩ := Option.map_eq_some_iff.1 (bundle_rows b hb _ h)
  obtain ⟨hbase, hrow⟩ := Prod.mk.inj hfields
  have hmem : o ∈ [0x08, 0x44] ∧ (o = 8 ∨ 0x40 ≤ o) ∧ ∀ f ∈ fs, f.acc = .rw ∨ f.acc = .w1s := by
    simp only [List.mem_cons, Prod.mk.injEq, List.not_mem_nil, or_false] at h
    obtain ⟨rfl, rfl⟩ | ⟨rfl, rfl⟩ := h <;> decide
  obtain ⟨ho, hplace, hkinds⟩ := hmem
  obtain ⟨haligned, hwindow, hpage, hnarrow, hheld, hport⟩ := bundle_places b hb o ho
  exact ⟨l, ⟨haligned, hwindow, hpage, hl, hbase, by omega, by omega, hnarrow, hheld, hport, by rwa [hrow]⟩, hrow⟩

theorem inst_bundle {b : Nat} (hb : b < 32) : inst (0x61000 + 0x80 * b) 0x61000 0x80 32 = some b := by
  unfold inst
  rw [if_pos (by omega)]
  exact congrArg some (by omega)

theorem pageAct_bundle {b : Nat} (hb : b < 32) (o : Nat) (d : Word) (c s : State) :
    pageAct (0x61000 + 0x80 * b) (0x61000 + 0x80 * b + o) d c s = bAct b o d c s := by
  unfold pageAct actB
  rw [if_neg (by omega), if_pos (by omega), inst_bundle hb]
  dsimp only
  rw [Nat.add_sub_cancel_left]

theorem checkB_bundle {b : Nat} (hb : b < 32) (o : Nat) (d : Word) (s : State) :
    checkB (0x61000 + 0x80 * b) (0x61000 + 0x80 * b + o) d s = bCheck b o d s := by
  unfold checkB
  rw [inst_bundle hb]
  dsimp only
  rw [Nat.add_sub_cancel_left]

/-! ## B.CTRL -/

/-- What an accepted write of B.CTRL, no soft reset, has stored before chapter 09 acts on it. -/
structure CtrlStored (b : Nat) (d : Word) (o s : State) : Prop where
  enable : flag s (F.B_CTRL_ENABLE b) = bit d 0
  power : rd s (F.B_CTRL_POWER_REQ b) = fld d (F.B_CTRL_POWER_REQ b).lo (F.B_CTRL_POWER_REQ b).len
  others : ∀ a, a ≠ 0x61008 + 0x80 * b → reg s a = reg o a
  wnb : s.wnb = o.wnb
  retrain : bit d 2 = true → bundleUp o b = true

/-- An accepted write of B.CTRL leaves of the link, and of the registers but LOCK, what chapter 09 does to it stored. -/
theorem accepts_bCtrl {t b d : Nat} {r : Requester} {s : State} (hb : b < 32) (hacc : Accepts t r (F.B_CTRL_ENABLE b).addr d s)
    (hsoft : bit (word d) 1 = false) :
    ∃ c, CtrlStored b (word d) (at' t s) c ∧
      (accessW t r (F.B_CTRL_ENABLE b).addr d s).wnb = (bAct b 0x08 (word d) (at' t s) c).wnb ∧
      ∀ a, a ≠ 0x6102C + 0x80 * b →
        reg (accessW t r (F.B_CTRL_ENABLE b).addr d s) a = reg (bAct b 0x08 (word d) (at' t s) c) a := by
  have haddr : (F.B_CTRL_ENABLE b).addr = 0x61000 + 0x80 * b + 0x08 := by simp only; omega
  obtain ⟨l, hreg, hrow⟩ := linkReg_bundle (o := 0x08) (fs := bCtrlFields) hb (by simp)
  rw [haddr] at hacc ⊢
  obtain ⟨hcode, hwnb, hregs⟩ := hreg.write hacc fun _ => hsoft
  have hbase := hreg.base
  have hcheck := checkB_of_writeCode (by omega) (by omega) hcode
  rw [hbase, checkB_bundle hb] at hcheck
  rw [pageAct_bundle hb] at hwnb hregs
  have hstored : ∀ f ∈ bCtrlFields, f.acc = .rw → f.lo + f.len ≤ 32 → ∀ g : Fld, g = ⟨0x61000 + 0x80 * b + 0x08, f.lo, f.len⟩ →
      rd (storeReg l (0x61000 + 0x80 * b + 0x08) (word d) (at' t s)) g = fld (word d) f.lo f.len := by
    rintro f hf hrw hlen g rfl
    exact hreg.fld_storeReg (by rwa [hrow]) hrw hlen _ _
  refine ⟨storeReg l (0x61000 + 0x80 * b + 0x08) (word d) (at' t s), ⟨?_, ?_, fun a ha => ?_, storeReg_wnb _ _ _ _, fun hbit => ?_⟩,
    hwnb, fun a ha => hregs a (by omega)⟩
  · rw [flag, hstored ⟨0, 1, .rw, [], false⟩ (by decide) rfl (by decide) _ (by simp only [Fld.mk.injEq, and_true]; omega), bit_eq_fld]
  · exact hstored ⟨4, 2, .rw, [(3, 3)], false⟩ (by decide) rfl (by decide) _ (by simp only [Fld.mk.injEq, and_true]; omega)
  · exact hreg.reg_storeReg_other (by omega) _ _
  · by_contra hdown
    rw [Bool.not_eq_true] at hdown
    simp [bCheck, hbit, hdown] at hcheck

theorem tryPower_regs (s : State) (b : Nat) : (tryPower s b).regs = s.regs := by
  unfold tryPower
  dsimp only
  split
  · rfl
  · split <;> rfl

theorem reg_tryPower (s : State) (b a : Nat) : reg (tryPower s b) a = reg s a := by rw [reg, reg, tryPower_regs]

/-- A bundle that is not UP tries no change of power. -/
theorem tryPower_down {s : State} {b : Nat} (h : bundleUp s b = false) : tryPower s b = s := by
  unfold tryPower
  dsimp only
  exact if_pos (.inr (.inr (by rw [h]; rfl)))

/-- What a change of ENABLE does. -/
def enableAct (b : Nat) (o s : State) : State :=
  if flag s (F.B_CTRL_ENABLE b) ∧ !(flag o (F.B_CTRL_ENABLE b)) then
    (if flag s F.WNB_CTRL_ENABLE then enterDetect s b 0 else s)
  else if !(flag s (F.B_CTRL_ENABLE b)) ∧ flag o (F.B_CTRL_ENABLE b) then disableBundle s b
  else s

/-- What RETRAIN does. -/
def retrainAct (b : Nat) (d : Word) (s : State) : State := if bit d 2 ∧ bundleUp s b then enterRecovery s b else s

theorem bAct_ctrl (b : Nat) (d : Word) (o s : State) :
    bAct b 0x08 d o s = tryPower (retrainAct b d (enableAct b o (newLcw s b))) b := rfl

theorem not_bundleUp {s : State} {b n : Nat} (h : rd s (F.B_STATUS_STATE b) = n) (hn : n ≠ 3) : bundleUp s b = false := by
  rw [bundleUp, h]
  exact decide_eq_false hn

/-- RETRAIN does nothing to a bundle that is not UP. -/
theorem retrainAct_down {s : State} {b n : Nat} (h : rd s (F.B_STATUS_STATE b) = n) (hn : n ≠ 3) (d : Word) :
    retrainAct b d s = s := if_neg (by rw [not_bundleUp h hn]; simp)

/-- ENABLE written as 1 takes a bundle to DETECT. -/
theorem enableAct_on {b : Nat} {o s : State} (hwas : flag o (F.B_CTRL_ENABLE b) = false)
    (hon : flag s (F.B_CTRL_ENABLE b) = true) (hwnb : flag s F.WNB_CTRL_ENABLE = true) : enableAct b o s = enterDetect s b 0 := by
  unfold enableAct
  rw [if_pos ⟨hon, by rw [hwas]; rfl⟩, if_pos hwnb]

/-- ENABLE written as 0 makes a bundle DISABLED. -/
theorem enableAct_off {b : Nat} {o s : State} (hwas : flag o (F.B_CTRL_ENABLE b) = true)
    (hoff : flag s (F.B_CTRL_ENABLE b) = false) : enableAct b o s = disableBundle s b := by
  unfold enableAct
  rw [if_neg (by simp [hoff]), if_pos ⟨by rw [hoff]; rfl, hwas⟩]

theorem enableAct_same {b : Nat} {o s : State} (hwas : flag o (F.B_CTRL_ENABLE b) = true)
    (hon : flag s (F.B_CTRL_ENABLE b) = true) : enableAct b o s = s := by
  unfold enableAct
  rw [if_neg (by simp [hwas]), if_neg (by simp [hon])]

/-! ## DISABLED -/

theorem disableBundle_moves (s : State) {b : Nat} (hb : b < 32) : LinkMoves s (disableBundle s b) := by
  have hlanes : LaneOnly s ((bundleLanes s b).foldl (fun s l => setBitLock (setLane s l 0) l false) s) :=
    (LaneOnly.refl s).foldl fun w l => ((LaneOnly.refl w).setLane l 0).setBitLock l false
  have hbundle : ∀ u, BundleOnly u (setBState (setBundle (dropReplay u b) b Bundle.off) b 0) := fun u =>
    (((BundleOnly.refl u).dropReplay hb).setBundle b Bundle.off).setBState hb 0
  unfold disableBundle
  exact hlanes.moves.trans (hbundle _).moves

theorem disableBundle_state (s : State) (b : Nat) : rd (disableBundle s b) (F.B_STATUS_STATE b) = 0 := rd_setBState_state _ b 0

theorem disableBundle_bundle (s : State) (b : Nat) : bundle (disableBundle s b) b = Bundle.off := by
  unfold disableBundle
  dsimp only
  rw [bundle_congr (setBState_down (by decide)).1, bundle_setBundle_same]

/-! ## What an act of B.CTRL leaves and shows -/

theorem enableAct_moves (o s : State) {b : Nat} (hb : b < 32) : LinkMoves s (enableAct b o s) :=
  .ite (.ite (enterDetect_moves s b 0) (.refl s)) (.ite (disableBundle_moves s hb) (.refl s))

theorem retrainAct_moves (d : Word) (s : State) {b : Nat} (hb : b < 32) : LinkMoves s (retrainAct b d s) :=
  .ite (enterRecovery_moves s hb) (.refl s)

/-- No act of B.CTRL changes the registers that configure the link. -/
theorem bAct_ctrl_moves (d : Word) (o s : State) {b : Nat} (hb : b < 32) : LinkMoves s (bAct b 0x08 d o s) := by
  rw [bAct_ctrl]
  refine LinkMoves.trans ?_ fun a _ => reg_tryPower _ _ a
  exact LinkMoves.trans (LinkMoves.trans (fun a _ => reg_newLcw s b a) (enableAct_moves o _ hb)) (retrainAct_moves d _ hb)

/-- An accepted write of B.CTRL that is no soft reset leaves ENABLE and POWER_REQ as written. -/
theorem bCtrl_stores {t b d : Nat} {r : Requester} {s : State} (hb : b < 32) (hacc : Accepts t r (F.B_CTRL_ENABLE b).addr d s)
    (hsoft : bit (word d) 1 = false) :
    flag (accessW t r (F.B_CTRL_ENABLE b).addr d s) (F.B_CTRL_ENABLE b) = bit (word d) 0 ∧
      rd (accessW t r (F.B_CTRL_ENABLE b).addr d s) (F.B_CTRL_POWER_REQ b) =
        fld (word d) (F.B_CTRL_POWER_REQ b).lo (F.B_CTRL_POWER_REQ b).len := by
  obtain ⟨c, hc, -, hregs⟩ := accepts_bCtrl hb hacc hsoft
  have hkept : reg (accessW t r (F.B_CTRL_ENABLE b).addr d s) (F.B_CTRL_ENABLE b).addr = reg c (F.B_CTRL_ENABLE b).addr :=
    (hregs _ (by simp only; omega)).trans (bAct_ctrl_moves _ _ _ hb _ (linkFixed_ctrl hb))
  exact ⟨(flag_congr hkept).trans hc.enable, (rd_congr (f := F.B_CTRL_POWER_REQ b) hkept).trans hc.power⟩

/-- An accepted write of ENABLE 1 to a bundle that is DISABLED takes it to DETECT. -/
theorem bCtrl_enables {t b d : Nat} {r : Requester} {s : State} (hb : b < 32) (hacc : Accepts t r (F.B_CTRL_ENABLE b).addr d s)
    (hon : bit (word d) 0 = true) (hsoft : bit (word d) 1 = false) (hwas : flag s (F.B_CTRL_ENABLE b) = false)
    (hwnb : flag s F.WNB_CTRL_ENABLE = true) :
    rd (accessW t r (F.B_CTRL_ENABLE b).addr d s) (F.B_STATUS_STATE b) = 1 := by
  obtain ⟨c, hc, -, hregs⟩ := accepts_bCtrl hb hacc hsoft
  have hwnb' : flag c F.WNB_CTRL_ENABLE = true := (flag_congr (hc.others _ (by simp only; omega))).trans hwnb
  have hact : enableAct b (at' t s) (newLcw c b) = enterDetect (newLcw c b) b 0 := enableAct_on hwas (hc.enable.trans hon) hwnb'
  rw [rd_congr (hregs _ (by simp only; omega)), bAct_ctrl, hact, retrainAct_down (enterDetect_state _ _ _) (by decide),
    rd_congr (reg_tryPower _ _ _), enterDetect_state]

/-- An accepted write of ENABLE 0 makes a bundle DISABLED, as at reset beside its registers. -/
theorem bCtrl_disables {t b d : Nat} {r : Requester} {s : State} (hb : b < 32) (hacc : Accepts t r (F.B_CTRL_ENABLE b).addr d s)
    (hoff : bit (word d) 0 = false) (hsoft : bit (word d) 1 = false) (hwas : flag s (F.B_CTRL_ENABLE b) = true) :
    rd (accessW t r (F.B_CTRL_ENABLE b).addr d s) (F.B_STATUS_STATE b) = 0 ∧
      bundle (accessW t r (F.B_CTRL_ENABLE b).addr d s) b = Bundle.off := by
  obtain ⟨c, hc, hbeside, hregs⟩ := accepts_bCtrl hb hacc hsoft
  have hact : enableAct b (at' t s) (newLcw c b) = disableBundle (newLcw c b) b := enableAct_off hwas (hc.enable.trans hoff)
  have hdown := not_bundleUp (disableBundle_state (newLcw c b) b) (by decide)
  rw [rd_congr (hregs _ (by simp only; omega)), bundle_congr hbeside, bAct_ctrl, hact,
    retrainAct_down (disableBundle_state _ _) (by decide), tryPower_down hdown]
  exact ⟨disableBundle_state _ _, disableBundle_bundle _ _⟩

/-- An accepted write of RETRAIN that leaves the bundle enabled takes it to RECOVERY: it was UP. -/
theorem bCtrl_retrains {t b d : Nat} {r : Requester} {s : State} (hb : b < 32) (hacc : Accepts t r (F.B_CTRL_ENABLE b).addr d s)
    (hon : bit (word d) 0 = true) (hsoft : bit (word d) 1 = false) (hretrain : bit (word d) 2 = true)
    (hwas : flag s (F.B_CTRL_ENABLE b) = true) :
    rd (accessW t r (F.B_CTRL_ENABLE b).addr d s) (F.B_STATUS_STATE b) = 4 := by
  obtain ⟨c, hc, -, hregs⟩ := accepts_bCtrl hb hacc hsoft
  have hact : enableAct b (at' t s) (newLcw c b) = newLcw c b := enableAct_same hwas (hc.enable.trans hon)
  have hup : bundleUp (newLcw c b) b = true := by
    have hstate : rd (newLcw c b) (F.B_STATUS_STATE b) = rd (at' t s) (F.B_STATUS_STATE b) :=
      rd_congr (hc.others _ (by simp only; omega))
    rw [bundleUp, hstate]
    exact hc.retrain hretrain
  rw [rd_congr (hregs _ (by simp only; omega)), bAct_ctrl, hact, retrainAct, if_pos ⟨hretrain, hup⟩, rd_congr (reg_tryPower _ _ _),
    enterRecovery_state]

end Sys2Proof.Machine
end

section
/-!
SUPPORT. The statement on the training of a bundle (09 R239 to R241, R265).
-/

namespace Sys2Proof.Machine

/-- The row of a write of B.CTRL, for a bundle that exists. -/
theorem exec_bundleEnableWrite {b : Nat} (hb : b < 32) (t : Nat) (r : Requester) (d : Nat) (s : State) :
    exec (.bundleEnableWrite t r b d) s = .next (accessW t r (F.B_CTRL_ENABLE b).addr d s) :=
  congrArg (fun k => Host.Outcome.next (accessW t r (F.B_CTRL_ENABLE k).addr d s)) (Nat.mod_eq_of_lt hb)

/-- Settles O27: ENABLE acts once it is stored; a step that all lanes meet takes none out, so the next one follows it; and a step
that none meets fails the attempt. -/
theorem linkTraining : Obligations.LinkTraining := by
  refine ⟨fun t r b d s hb hacc hon hsoft hwas hwnb _ => ⟨_, exec_bundleEnableWrite hb t r d s, ?_⟩,
    fun t r b d s hb hacc hoff hsoft hwas => ⟨_, exec_bundleEnableWrite hb t r d s, ?_⟩,
    fun t l s _ hon hsets => ⟨_, rfl, ?_⟩, fun t l b i s _ hon hof hdetect hlane => ⟨_, rfl, ?_⟩,
    fun t l y e x s hset => ⟨_, rfl, ?_⟩, fun t l y e s hset => ⟨_, rfl, ?_⟩,
    fun t b n s hb hstate hlow hhigh hmet hall => ⟨_, rfl, ?_⟩, fun t b n s hb hstate hstep hmet hall => ⟨_, rfl, ?_⟩,
    fun t b n s hb hstate hstep htime hnone => ⟨_, rfl, ?_⟩, fun t b s hb hstate hauto htime => ⟨_, rfl, ?_⟩⟩
  · exact ⟨(bCtrl_stores hb hacc hsoft).1.trans hon, bCtrl_enables hb hacc hon hsoft hwas hwnb⟩
  · exact ⟨(bCtrl_stores hb hacc hsoft).1.trans hoff, bCtrl_disables hb hacc hoff hsoft hwas⟩
  · exact laneBitLock_locks (s := at' t s) hon hsets
  · exact laneBitLock_trains (s := at' t s) hon hof hdetect hlane
  · exact tsSetReceived_kept (at' t s) hset
  · exact tsSetReceived_broken (at' t s) hset
  · exact trainStepComplete_next (s := at' t s) hb hstate hlow hhigh hmet hall
  · exact trainStepComplete_up (s := at' t s) hb hstate hstep hmet hall
  · rw [trainStepTimeout_eq (s := at' t s) hstate hstep htime hnone]
    have hfail := failAttempt_shows (s := newLcw (at' t s) b) hb
    rwa [bundle_newLcw] at hfail
  · have hrestart : trainFailRestart t b (at' t s) = enterDetect (at' t s) b 0 := if_pos ⟨hstate, hauto, htime⟩
    rw [hrestart]
    exact ⟨enterDetect_state _ _ _, (enterDetect_bundle _ _ _).1⟩

end Sys2Proof.Machine
end

section
/-!
SUPPORT. Power states of the link (09 R261), the rate ceilings (R232) and the PRBS checkers (R262).
-/

namespace Sys2Proof.Machine

/-! ## Power requests -/

/-- Whether a link is idle does not depend on the control words that leave it. -/
theorem idleLink_newLcw (s : State) (b : Nat) : idleLink (newLcw s b) b = idleLink s b := by
  have hup : bundleUp (newLcw s b) b = bundleUp s b := rfl
  have hwaits : frameWaits (newLcw s b) b = frameWaits s b := rfl
  rw [idleLink, idleLink, hup, hwaits, bundle_newLcw]

theorem up_of_idle {s : State} {b : Nat} (h : idleLink s b = true) : bundleUp s b = true := by
  simp only [idleLink, Bool.and_eq_true] at h
  exact h.1.1

/-- A request on an idle bundle is acknowledged, and entered at the next ALIGN. -/
theorem powerReceived_request {b x : Nat} {s : State} (hidle : idleLink s b = true) (h0 : x ≠ 0) (h3 : x ≠ 3) :
    (bundle (powerReceived b false x s) b).enter = some x ∧
      (bundle (powerReceived b false x s) b).lcw = [5 * 2 ^ 21 + 2 ^ 20 + x * 2 ^ 16] := by
  have hup : bundleUp (newLcw s b) b = true := up_of_idle (s := s) hidle
  have hidle' : idleLink (newLcw s b) b = true := (idleLink_newLcw s b).trans hidle
  unfold powerReceived
  dsimp only
  rw [hup, if_neg (by simp), if_neg (by simp), if_neg h0, if_pos ⟨hidle', h3⟩, sendLcw, bundle_onBundle_same, bundle_onBundle_same,
    bundle_newLcw]
  exact ⟨rfl, rfl⟩

/-- A refusal clears the own request, which may be tried again. -/
theorem powerReceived_refusal {b : Nat} {s : State} (hup : bundleUp s b = true) :
    (bundle (powerReceived b false 0 s) b).asked = false ∧ (bundle (powerReceived b false 0 s) b).retryAt = s.now + usec 10 := by
  have hup' : bundleUp (newLcw s b) b = true := hup
  unfold powerReceived
  dsimp only
  rw [hup', if_neg (by simp), if_neg (by simp), if_pos rfl, bundle_onBundle_same]
  exact ⟨rfl, rfl⟩

/-- An acknowledgement answers the own request. -/
theorem powerReceived_ack {b x : Nat} {s : State} (hup : bundleUp s b = true) (hasked : (bundle s b).asked = true) (h0 : x ≠ 0) :
    (bundle (powerReceived b true x s) b).asked = false ∧ (bundle (powerReceived b true x s) b).enter = some x := by
  have hup' : bundleUp (newLcw s b) b = true := hup
  have hasked' : (bundle (newLcw s b) b).asked = true := by rw [bundle_newLcw]; exact hasked
  unfold powerReceived
  dsimp only
  rw [hup', if_neg (by simp), if_pos rfl, if_pos ⟨hasked', h0⟩, bundle_onBundle_same]
  exact ⟨rfl, rfl⟩

/-- A standing request is sent again on an idle bundle in L0. -/
theorem powerRetry_asks {t b : Nat} {s : State} (htime : (bundle s b).retryAt ≤ t) (hreq : rd s (F.B_CTRL_POWER_REQ b) ≠ 0)
    (hl0 : rd s (F.B_STATUS_POWER b) = 0) (hidle : idleLink s b = true) :
    (bundle (powerRetry t b s) b).asked = true ∧
      (bundle (powerRetry t b s) b).lcw = [5 * 2 ^ 21 + rd s (F.B_CTRL_POWER_REQ b) * 2 ^ 16] := by
  have hup : bundleUp (newLcw s b) b = true := up_of_idle (s := s) hidle
  have htry : idleLink (onBundle (newLcw s b) b fun x => { x with retryAt := (newLcw s b).now + usec 10 }) b = true := by
    have hidle' := (idleLink_newLcw s b).trans hidle
    rw [idleLink, bundle_newLcw] at hidle'
    rw [idleLink, bundle_onBundle_same, bundle_newLcw]
    exact hidle'
  unfold powerRetry tryPower
  dsimp only
  rw [if_pos htime, if_neg (by simp [hreq, hl0, hup]), if_pos ⟨htry, hl0⟩, sendLcw, bundle_onBundle_same, bundle_onBundle_same,
    bundle_onBundle_same, bundle_newLcw]
  exact ⟨rfl, rfl⟩

/-! ## Power states left and entered -/

/-- A cause for an exit from a power state (09 R261). -/
def wakes (s : State) (b : Nat) (x : Bool) : Bool :=
  x || decide (rd s (F.B_CTRL_POWER_REQ b) = 0) || (flag s (F.B_CTRL_AUTO_WAKE b) && frameWaits s b)

theorem powerExit_eq {t b : Nat} {x : Bool} {s : State} (hup : bundleUp s b = true) (hwaking : (bundle s b).waking = none)
    (hwhy : wakes s b x = true) : powerExit t b x s =
      let u := newLcw s b
      if rd s (F.B_STATUS_POWER b) = 1 then onBundle u b fun y => { y with waking := some t }
      else if rd s (F.B_STATUS_POWER b) = 2 then
        enterRecovery (raise (wr ((bundleLanes u b).foldl (fun w l => setPllLock w l true) u) (F.B_STATUS_POWER b) 0)
          (F.B_EVT_RAW_POWER_CHANGE b)) b
      else u := by
  have hstays : ¬ (!(bundleUp (newLcw s b) b) ∨ !(wakes (newLcw s b) b x) ∨ (bundle (newLcw s b) b).waking.isSome) := by
    have hup' : bundleUp (newLcw s b) b = true := hup
    have hwhy' : wakes (newLcw s b) b x = true := hwhy
    rw [bundle_newLcw]
    simp [hup', hwhy', hwaking]
  exact if_neg hstays

/-- An exit from L1 starts. -/
theorem powerExit_l1 {t b : Nat} {x : Bool} {s : State} (hup : bundleUp s b = true) (hl1 : rd s (F.B_STATUS_POWER b) = 1)
    (hwaking : (bundle s b).waking = none) (hwhy : wakes s b x = true) : (bundle (powerExit t b x s) b).waking = some t := by
  rw [powerExit_eq hup hwaking hwhy]
  dsimp only
  rw [if_pos hl1, bundle_onBundle_same]

/-- L2 is left through RECOVERY. -/
theorem powerExit_l2 {t b : Nat} {x : Bool} {s : State} (hb : b < 32) (hup : bundleUp s b = true)
    (hl2 : rd s (F.B_STATUS_POWER b) = 2) (hwaking : (bundle s b).waking = none) (hwhy : wakes s b x = true) :
    rd (powerExit t b x s) (F.B_STATUS_POWER b) = 0 ∧ rd (powerExit t b x s) (F.B_STATUS_STATE b) = 4 := by
  rw [powerExit_eq hup hwaking hwhy]
  dsimp only
  rw [if_neg (by omega), if_pos hl2, enterRecovery_power _ _ hb,
    rd_congr (reg_raise_bundle _ rfl (not_evfReg_of_link (by simp only; omega)) (by simp only; omega)), rd_wr_same _ _ _ (by simp)]
  exact ⟨rfl, enterRecovery_state _ _⟩

/-- A power state shown with its event reads so, and the bundle beside its registers stays. -/
theorem powerShown (s : State) (b x : Nat) :
    rd (raise (wr s (F.B_STATUS_POWER b) x) (F.B_EVT_RAW_POWER_CHANGE b)) (F.B_STATUS_POWER b) = x % 4 ∧
      (bundle (raise (wr s (F.B_STATUS_POWER b) x) (F.B_EVT_RAW_POWER_CHANGE b)) b).core = (bundle s b).core := by
  constructor
  · rw [rd_congr (reg_raise_bundle _ rfl (not_evfReg_of_link (by simp only; omega)) (by simp only; omega))]
    exact rd_wr_same _ _ _ (by simp)
  · rw [core_raise, bundle_wr]

/-- The ALIGN after an acknowledgement enters the power state. -/
theorem linkPowerEntry_enters {b x : Nat} {s : State} (henter : (bundle s b).enter = some x) (hx : x < 4) :
    rd (linkPowerEntry b s) (F.B_STATUS_POWER b) = x ∧ (bundle (linkPowerEntry b s) b).enter = none := by
  have hlanes : ∀ u : State, (bundle (if x = 2 then (bundleLanes u b).foldl (fun w l => setPllLock (setBitLock w l false) l false) u
      else u) b) = bundle u b := by
    intro u
    split
    · refine bundle_foldl_onLane _ (fun w l c => ?_) _ u b
      rfl
    · rfl
  unfold linkPowerEntry
  rw [henter]
  dsimp only
  refine ⟨(powerShown _ _ _).1.trans (Nat.mod_eq_of_lt hx), ?_⟩
  refine (Bundle.eq_of_core Bundle.enter (fun _ => rfl) (powerShown _ _ _).2).trans ?_
  rw [hlanes, bundle_onBundle_same]

/-- L1 is left when its exit has taken 800 ns. -/
theorem l1ExitDone_leaves {t b x : Nat} {s : State} (hwaking : (bundle s b).waking = some x) (htime : x + nsec 800 ≤ t) :
    rd (l1ExitDone t b s) (F.B_STATUS_POWER b) = 0 ∧ (bundle (l1ExitDone t b s) b).waking = none := by
  unfold l1ExitDone
  rw [hwaking]
  dsimp only
  rw [if_pos htime]
  refine ⟨(powerShown _ _ _).1, ?_⟩
  refine (Bundle.eq_of_core Bundle.waking (fun _ => rfl) (powerShown _ _ _).2).trans ?_
  rw [bundle_onBundle_same]

/-! ## Rate ceilings -/

/-- The fields of WNB.LG_RATE (09 R232). -/
def lgRateFields : List FieldRow := (List.range 9).map fun g => ⟨3 * g, 3, .rw, [(5, 7)], false⟩

theorem plainReg_lgRate : ∃ l, PlainReg F.WNB_LG_RATE_G0.addr 0x60000 l ∧ l.row.fields = lgRateFields := by
  have hrow : (findReg F.WNB_LG_RATE_G0.addr).map (fun l => (l.pbase, l.row.fields)) = some (0x60000, lgRateFields) := by decide
  obtain ⟨l, hl, hfields⟩ := Option.map_eq_some_iff.1 hrow
  obtain ⟨hbase, hrows⟩ := Prod.mk.inj hfields
  exact ⟨l, ⟨by decide, by decide, by decide, hl, hbase, by decide, by decide, by decide, by decide, by rw [hrows]; decide⟩, hrows⟩

/-- An accepted write of LG_RATE sets the ceiling of every group. -/
theorem ceiling_accessW {t d g : Nat} {r : Requester} {s : State} (hacc : Accepts t r F.WNB_LG_RATE_G0.addr d s) (hg : g < 9) :
    ceiling (accessW t r F.WNB_LG_RATE_G0.addr d s) g = fld (word d) (3 * g) 3 := by
  obtain ⟨l, hreg, hrow⟩ := plainReg_lgRate
  have hmem : (⟨3 * g, 3, .rw, [(5, 7)], false⟩ : FieldRow) ∈ l.row.fields := by
    rw [hrow]
    exact List.mem_map.2 ⟨g, List.mem_range.2 hg, rfl⟩
  exact hreg.fld_accessW ⟨3 * g, 3, .rw, [(5, 7)], false⟩ hacc (fun _ _ => rfl) hmem (by simp only; omega)

/-! ## PRBS -/

/-- Bit errors in sync counted, with the event of the first since the sync. -/
def prbsCounted (s : State) (l n : Nat) : State :=
  let s := bumpBy s (A.LN_PRBS_ERR l) n
  if (laneSt s l).prbsErr then s else laneEvent (onLane s l fun x => { x with prbsErr := true }) l 3

theorem prbsSync_eq {l n : Nat} {x : Bool} {s : State} (h : rd s (F.LN_CTRL_PRBS_RX l) ≠ 0) :
    prbsSync l x n s =
      let was := flag s (F.LN_STATUS_PRBS_SYNC l)
      let u := if was ∧ n ≠ 0 then prbsCounted s l n else s
      wrB (if was ∧ x then u else onLane u l fun x => { x with prbsErr := false }) (F.LN_STATUS_PRBS_SYNC l) x := if_neg h

/-- A counter advanced saturates (02 R58). -/
theorem reg_bumpBy_toNat (s : State) (a n : Nat) : (reg (bumpBy s a n) a).toNat = min ((reg s a).toNat + n) 0xFFFFFFFF := by
  have hlt := (reg s a).isLt
  unfold bumpBy
  split
  · simp only [reg_setReg_same, word, BitVec.toNat_ofNat]
    omega
  · split
    · omega
    · rw [reg_setReg_other _ _ _ _ (by omega), reg_setReg_same]
      simp
      omega

theorem reg_prbsCounted (s : State) (l n : Nat) :
    (reg (prbsCounted s l n) (A.LN_PRBS_ERR l)).toNat = min ((reg s (A.LN_PRBS_ERR l)).toNat + n) 0xFFFFFFFF := by
  have hevent : ∀ u, reg (laneEvent u l 3) (A.LN_PRBS_ERR l) = reg u (A.LN_PRBS_ERR l) := fun u =>
    reg_raiseAt_other _ _ _ _ (not_evfReg_of_link (by simp only [A.LN_PRBS_ERR]; omega)) (by simp only [A.LN_PRBS_ERR]; omega)
  unfold prbsCounted
  dsimp only
  split
  · exact reg_bumpBy_toNat _ _ _
  · rw [hevent, reg_onLane]
    exact reg_bumpBy_toNat _ _ _

/-- A checker shows its sync, and bit errors that come in sync count. -/
theorem prbsSync_shows {l n : Nat} {x : Bool} {s : State} (h : rd s (F.LN_CTRL_PRBS_RX l) ≠ 0) :
    flag (prbsSync l x n s) (F.LN_STATUS_PRBS_SYNC l) = x ∧
      (flag s (F.LN_STATUS_PRBS_SYNC l) = true → (reg (prbsSync l x n s) (A.LN_PRBS_ERR l)).toNat =
        min ((reg s (A.LN_PRBS_ERR l)).toNat + n) 0xFFFFFFFF) := by
  rw [prbsSync_eq h]
  refine ⟨flag_wrB_same _ _ _ (by simp) rfl, fun hwas => ?_⟩
  dsimp only
  rw [wrB, reg_wr_other _ _ _ _ (by simp only [A.LN_PRBS_ERR]; omega), reg_ite, reg_onLane, ite_self, hwas, reg_ite]
  split
  · exact reg_prbsCounted s l n
  · next hzero =>
    obtain rfl : n = 0 := by simpa using hzero
    have hlt := (reg s (A.LN_PRBS_ERR l)).isLt
    omega

end Sys2Proof.Machine
end

section
/-!
SUPPORT. Lanes lost (09 R233, R255): what a quarantine writes, what a change of the offers leaves, and both for the positions that
are lost at once.
-/

namespace Sys2Proof.Machine

/-! ## What leaves the lanes -/

/-- No lane changes but in its counts of training sets, and in its state where RECOVERY has it train; no register changes that
configures the link. -/
structure LanesKept (s u : State) : Prop where
  fixed : LinkMoves s u
  beside : ∀ f, BesideLaneState f → rd u f = rd s f
  state : ∀ l, rd u (F.LN_STATUS_STATE l) ∈ [rd s (F.LN_STATUS_STATE l), 1]
  core : ∀ l, (laneSt u l).core = (laneSt s l).core

theorem LanesKept.refl (s : State) : LanesKept s s := ⟨.refl s, fun _ _ => rfl, fun _ => List.mem_cons_self, fun _ => rfl⟩

theorem LanesKept.trans {s u v : State} (h : LanesKept s u) (h' : LanesKept u v) : LanesKept s v := by
  refine ⟨h.fixed.trans h'.fixed, fun f hf => (h'.beside f hf).trans (h.beside f hf), fun l => ?_,
    fun l => (h'.core l).trans (h.core l)⟩
  have hfirst := h.state l
  have hsecond := h'.state l
  simp only [List.mem_cons, List.not_mem_nil, or_false] at hfirst hsecond ⊢
  omega

theorem BundleOnly.lanesKept {s u : State} (h : BundleOnly s u) : LanesKept s u := by
  refine ⟨h.moves, fun f hf => rd_congr (h.high _ hf.high), fun l => ?_, fun l => by rw [laneSt_congr h.lanes]⟩
  rw [rd_congr (h.high _ (lane_high (by decide)))]
  exact List.mem_cons_self

theorem enterRecovery_lanesKept (s : State) {b : Nat} (hb : b < 32) : LanesKept s (enterRecovery s b) :=
  ⟨enterRecovery_moves s hb, fun _ hf => hf.rd_enterRecovery s hb, laneState_enterRecovery s hb, laneCore_enterRecovery s hb⟩

/-! ## Changes of the offers (09 R256) -/

/-- A change of the offers whose AND is not empty writes no register, and of bundles only what the next ALIGN awaits. -/
theorem maskChange_offered {s : State} {b : Nat} (h : offerAnd s b ≠ 0) (x : Bool) :
    (maskChange s b x).regs = s.regs ∧ (maskChange s b x).wnb.lanes = s.wnb.lanes := by
  unfold maskChange
  dsimp only
  split
  · exact ⟨rfl, rfl⟩
  · cases x <;> split <;> exact ⟨rfl, rfl⟩

theorem maskChange_lanesKept (s : State) {b : Nat} (hb : b < 32) (x : Bool) : LanesKept s (maskChange s b x) := by
  by_cases h : offerAnd s b = 0
  · unfold maskChange
    dsimp only
    split
    · exact .refl s
    · exact enterRecovery_lanesKept s hb
  · obtain ⟨hregs, hlanes⟩ := maskChange_offered h x
    have hreg : ∀ a, reg (maskChange s b x) a = reg s a := fun a => by rw [reg, reg, hregs]
    exact BundleOnly.lanesKept ⟨fun a _ => hreg a, fun a _ => hreg a, hlanes⟩

theorem setOffer_lanesKept (s : State) {b : Nat} (hb : b < 32) (m : Nat) : LanesKept s (setOffer s b m) := by
  have hoffer : BundleOnly s (wr s (F.B_OFFER_OWN b) m) := (BundleOnly.refl s).wr _ _
  unfold setOffer
  split
  · exact .refl s
  · exact hoffer.lanesKept.trans (maskChange_lanesKept _ hb true)

/-! ## One lane quarantined -/

/-- A lane out of service, with the cause. -/
def laneOut (s : State) (l cause : Nat) : State := setReg (setLane (setBitLock s l false) l 3) (A.LN_LAST_CAUSE l) (word cause)

/-- A lane out of service, counted, with its event and that of its bundle. -/
def laneLost (s : State) (b l cause : Nat) : State :=
  raise (bump (laneEvent (bump (laneOut s l cause) (A.LN_QUARANTINES l)) l 0) (A.B_LANE_LOSS b)) (F.B_EVT_RAW_LANE_LOSS b)

/-- The instant of a quarantine kept with those of the last second: the fourth holds the lane. -/
def laneHeldOut (s : State) (l : Nat) : State :=
  let outs := ((laneSt s l).outs ++ [s.now]).filter fun u => decide (s.now < u + msec 1000)
  let s := onLane s l fun x => { x with outs := outs, busy := false, at' := s.now, once := false, held := decide (4 ≤ outs.length) }
  if 4 ≤ outs.length then laneEvent (setLane s l 4) l 2 else s

theorem quarantineLane_eq (s : State) (b l cause : Nat) : quarantineLane s b l cause = laneHeldOut (laneLost s b l cause) l := rfl

/-- The registers that a quarantine of a lane may write. -/
def quarantineReg (b l a : Nat) : Prop :=
  evfReg a ∨ a = (F.LN_STATUS_STATE l).addr ∨ a = (F.LNQ_STATUS_CDR_LOCK (l / 4)).addr ∨
    a = (F.LNQ_EVT_RAW_LANE (l / 4)).addr ∨ a = A.LN_LAST_CAUSE l ∨ a = A.LN_QUARANTINES l ∨ a = A.LN_QUARANTINES l + 4 ∨
    a = A.B_LANE_LOSS b ∨ a = A.B_LANE_LOSS b + 4 ∨ a = (F.B_EVT_RAW_LANE_LOSS b).addr

theorem reg_laneOut {a l : Nat} (s : State) (cause : Nat) (hstatus : a ≠ (F.LN_STATUS_STATE l).addr)
    (hquad : a ≠ (F.LNQ_STATUS_CDR_LOCK (l / 4)).addr) (hcause : a ≠ A.LN_LAST_CAUSE l) : reg (laneOut s l cause) a = reg s a := by
  rw [laneOut, reg_setReg_other _ _ _ _ hcause, setLane, reg_wr_other _ _ _ _ hstatus, setBitLock, reg_onLane, wrBit,
    reg_setReg_other _ _ _ _ hquad, wrB, reg_wr_other _ (F.LN_STATUS_CDR_LOCK l) _ _ hstatus]

theorem reg_laneEvent {a l : Nat} (s : State) (k : Nat) (hev : ¬ evfReg a) (ha : a ≠ (F.LNQ_EVT_RAW_LANE (l / 4)).addr) :
    reg (laneEvent s l k) a = reg s a := reg_raiseAt_other _ _ _ _ hev (by simp only at ha ⊢; omega)

theorem reg_laneHeldOut {a l : Nat} (s : State) (hev : ¬ evfReg a) (hstatus : a ≠ (F.LN_STATUS_STATE l).addr)
    (hquad : a ≠ (F.LNQ_EVT_RAW_LANE (l / 4)).addr) : reg (laneHeldOut s l) a = reg s a := by
  unfold laneHeldOut
  dsimp only
  split
  · rw [reg_laneEvent _ _ hev hquad, setLane, reg_wr_other _ _ _ _ hstatus, reg_onLane]
  · exact reg_onLane _ _ _ _

theorem reg_quarantineLane {a b l : Nat} (s : State) (cause : Nat) (h : ¬ quarantineReg b l a) :
    reg (quarantineLane s b l cause) a = reg s a := by
  simp only [quarantineReg, not_or] at h
  obtain ⟨hev, hstatus, hquad, hevent, hcause, hcount, hover, hloss, hlossOver, hbundle⟩ := h
  rw [quarantineLane_eq, reg_laneHeldOut _ hev hstatus hevent, laneLost, reg_raise_bundle _ rfl hev hbundle,
    bump, reg_bumpBy_other _ _ _ _ hloss hlossOver, reg_laneEvent _ _ hev hevent, bump, reg_bumpBy_other _ _ _ _ hcount hover,
    reg_laneOut _ _ hstatus hquad hcause]

theorem quarantineLane_moves (s : State) (b l cause : Nat) : LinkMoves s (quarantineLane s b l cause) := fun a ha =>
  reg_quarantineLane s cause (by
    have hev := not_evfReg_of_linkFixed ha
    simp only [quarantineReg, A.LN_LAST_CAUSE, A.LN_QUARANTINES, A.B_LANE_LOSS, hev, false_or]
    unfold linkFixed at ha
    omega)

/-- The registers of one lane (09 R266). -/
def inLane (l a : Nat) : Prop :=
  0x70100 + 0x400 * (l / 4) + 0xC0 * (l % 4) ≤ a ∧ a < 0x701C0 + 0x400 * (l / 4) + 0xC0 * (l % 4)

theorem inLane_state (l : Nat) : inLane l (F.LN_STATUS_STATE l).addr := by simp only [inLane]; omega
theorem inLane_quarantines (l : Nat) : inLane l (A.LN_QUARANTINES l) := by simp only [inLane, A.LN_QUARANTINES]; omega

/-- The registers of a lane lie in no other lane. -/
theorem inLane_unique {l k a : Nat} (h : inLane l a) (h' : inLane k a) : k = l := by
  have hl : l % 4 = 0 ∨ l % 4 = 1 ∨ l % 4 = 2 ∨ l % 4 = 3 := by omega
  have hk : k % 4 = 0 ∨ k % 4 = 1 ∨ k % 4 = 2 ∨ k % 4 = 3 := by omega
  unfold inLane at h h'
  omega

/-- The registers of a lane lie past those of every quad. -/
theorem inLane_ne_quad {l a : Nat} (h : inLane l a) (q x : Nat) (hx : x < 0x100) : a ≠ 0x70000 + x + 0x400 * q := by
  have hl : l % 4 = 0 ∨ l % 4 = 1 ∨ l % 4 = 2 ∨ l % 4 = 3 := by omega
  unfold inLane at h
  omega

theorem not_evfReg_of_inLane {l a : Nat} (h : inLane l a) : ¬ evfReg a := not_evfReg_of_link (by unfold inLane at h; omega)

theorem reg_laneEvent_lane {l a : Nat} (h : inLane l a) (s : State) (j k : Nat) : reg (laneEvent s j k) a = reg s a :=
  reg_laneEvent s k (not_evfReg_of_inLane h) (inLane_ne_quad h _ 0x10 (by decide))

/-- The count and the event of its bundle leave the registers of a lane. -/
theorem reg_laneLost_lane {l a : Nat} (h : inLane l a) (s : State) {b : Nat} (hb : b < 32) (k cause : Nat) :
    reg (laneLost s b k cause) a = reg (bump (laneOut s k cause) (A.LN_QUARANTINES k)) a := by
  have hhigh : 0x70000 ≤ a := by unfold inLane at h; omega
  rw [laneLost, reg_raise_bundle _ rfl (not_evfReg_of_inLane h) (by omega), bump,
    reg_bumpBy_other _ _ _ _ (by simp only [A.B_LANE_LOSS]; omega) (by simp only [A.B_LANE_LOSS]; omega), reg_laneEvent_lane h]

/-- A quarantine leaves the registers of another lane. -/
theorem reg_quarantineLane_lane {l a : Nat} (h : inLane l a) (s : State) {b k : Nat} (hb : b < 32) (hk : k ≠ l) (cause : Nat) :
    reg (quarantineLane s b k cause) a = reg s a :=
  reg_quarantineLane s cause (by
    have hother : ¬ inLane k a := fun h' => hk (inLane_unique h h')
    have hstatus := inLane_ne_quad h (k / 4) 0xC (by decide)
    have hevent := inLane_ne_quad h (k / 4) 0x10 (by decide)
    have hev := not_evfReg_of_inLane h
    simp only [quarantineReg, A.LN_LAST_CAUSE, A.LN_QUARANTINES, A.B_LANE_LOSS, hev, false_or]
    unfold inLane at h hother
    omega)

theorem laneState_laneOut (s : State) (l cause : Nat) : rd (laneOut s l cause) (F.LN_STATUS_STATE l) = 3 := by
  rw [laneOut, rd_congr (reg_setReg_other _ _ _ _ (by simp only [A.LN_LAST_CAUSE]; omega))]
  exact rd_wr_same _ _ _ (by simp)

/-- A lane quarantined is QUARANTINED or HELD, and the quarantine counts. -/
theorem quarantineLane_shows (s : State) {b : Nat} (hb : b < 32) (l cause : Nat) :
    rd (quarantineLane s b l cause) (F.LN_STATUS_STATE l) ∈ [3, 4] ∧
      (reg (quarantineLane s b l cause) (A.LN_QUARANTINES l)).toNat = min ((reg s (A.LN_QUARANTINES l)).toNat + 1) 0xFFFFFFFF := by
  have hlost : rd (laneLost s b l cause) (F.LN_STATUS_STATE l) = 3 := by
    have hcount : reg (bump (laneOut s l cause) (A.LN_QUARANTINES l)) (F.LN_STATUS_STATE l).addr =
        reg (laneOut s l cause) (F.LN_STATUS_STATE l).addr :=
      reg_bumpBy_other _ _ _ _ (by simp only [A.LN_QUARANTINES]; omega) (by simp only [A.LN_QUARANTINES]; omega)
    rw [rd_congr (reg_laneLost_lane (inLane_state l) s hb l cause), rd_congr hcount, laneState_laneOut]
  rw [quarantineLane_eq]
  constructor
  · unfold laneHeldOut
    dsimp only
    split
    · have hheld : ∀ u, rd (setLane u l 4) (F.LN_STATUS_STATE l) = 4 := fun u => rd_wr_same _ _ _ (by simp)
      rw [rd_congr (reg_laneEvent_lane (inLane_state l) _ _ _), hheld]
      decide
    · rw [rd_onLane, hlost]
      decide
  · have hquad : A.LN_QUARANTINES l ≠ (F.LNQ_EVT_RAW_LANE (l / 4)).addr := by simp only [A.LN_QUARANTINES]; omega
    have hquad' : A.LN_QUARANTINES l ≠ (F.LNQ_STATUS_CDR_LOCK (l / 4)).addr := by simp only [A.LN_QUARANTINES]; omega
    have hstatus : A.LN_QUARANTINES l ≠ (F.LN_STATUS_STATE l).addr := by simp only [A.LN_QUARANTINES]; omega
    have hcause : A.LN_QUARANTINES l ≠ A.LN_LAST_CAUSE l := by simp only [A.LN_QUARANTINES, A.LN_LAST_CAUSE]; omega
    rw [reg_laneHeldOut _ (not_evfReg_of_inLane (inLane_quarantines l)) hstatus hquad,
      reg_laneLost_lane (inLane_quarantines l) s hb l cause, reg_bump_toNat, reg_laneOut _ _ hstatus hquad' hcause]

/-! ## Positions lost at once -/

/-- The lanes at some positions of a bundle quarantined. -/
def quarantineAll (s : State) (b cause : Nat) (l : List Nat) : State :=
  l.foldl (fun s i => quarantineLane s b (laneAt s b i) cause) s

theorem losePositions_eq (s : State) (b cause : Nat) (l : List Nat) :
    losePositions s b cause l =
      let u := onBundle (quarantineAll s b cause l) b fun x => { x with cand := x.cand - (x.cand &&& maskOf l) }
      setOffer u b (rd u (F.B_OFFER_OWN b) - (rd u (F.B_OFFER_OWN b) &&& maskOf l)) := rfl

theorem quarantineAll_moves (s : State) (b cause : Nat) (l : List Nat) : LinkMoves s (quarantineAll s b cause l) :=
  (LinkMoves.refl s).foldl fun w _ => quarantineLane_moves w b _ cause

theorem laneAt_quarantineLane (s : State) {b : Nat} (hb : b < 32) (k cause i : Nat) :
    laneAt (quarantineLane s b k cause) b i = laneAt s b i := ((quarantineLane_moves s b k cause).bundle_fields hb).2.2 i

/-- The lanes of positions left alone keep their registers. -/
theorem reg_quarantineAll {b i a : Nat} (hb : b < 32) (cause : Nat) {l : List Nat} (hi : i ∉ l) (s : State)
    (ha : inLane (laneAt s b i) a) : reg (quarantineAll s b cause l) a = reg s a := by
  induction l generalizing s with
  | nil => rfl
  | cons j l ih =>
    obtain ⟨hij, hil⟩ := not_or.1 (mt List.mem_cons.2 hi)
    have hat := laneAt_quarantineLane s hb (laneAt s b j) cause i
    exact (ih hil _ (by rwa [hat])).trans (reg_quarantineLane_lane ha s hb (by unfold laneAt; omega) cause)

/-- A lane at one of the positions is quarantined once. -/
theorem quarantineAll_shows {b i : Nat} (hb : b < 32) (cause : Nat) {l : List Nat} (hnodup : l.Nodup) (hi : i ∈ l) (s : State) {k : Nat}
    (hk : laneAt s b i = k) :
    rd (quarantineAll s b cause l) (F.LN_STATUS_STATE k) ∈ [3, 4] ∧
      (reg (quarantineAll s b cause l) (A.LN_QUARANTINES k)).toNat = min ((reg s (A.LN_QUARANTINES k)).toNat + 1) 0xFFFFFFFF := by
  induction l generalizing s with
  | nil => exact absurd hi List.not_mem_nil
  | cons j l ih =>
    have hat := laneAt_quarantineLane s hb (laneAt s b j) cause i
    obtain ⟨hj, hrest⟩ := List.nodup_cons.1 hnodup
    by_cases hji : i = j
    · subst hji
      have hat' : laneAt (quarantineLane s b k cause) b i = k := by rw [laneAt_quarantineLane s hb, hk]
      have hkeep : ∀ a, inLane k a →
          reg (quarantineAll (quarantineLane s b k cause) b cause l) a = reg (quarantineLane s b k cause) a :=
        fun a ha => reg_quarantineAll hb cause hj _ (by rwa [hat'])
      have hfirst : quarantineAll s b cause (i :: l) = quarantineAll (quarantineLane s b k cause) b cause l := by rw [← hk]; rfl
      rw [hfirst, rd_congr (hkeep _ (inLane_state k)), hkeep _ (inLane_quarantines k)]
      exact quarantineLane_shows s hb k cause
    · have hmem : i ∈ l := (List.mem_cons.1 hi).resolve_left hji
      have hother : laneAt s b j ≠ k := by rw [← hk]; unfold laneAt; omega
      have hlater := ih hrest hmem (quarantineLane s b (laneAt s b j) cause) (by rw [hat, hk])
      rwa [reg_quarantineLane_lane (inLane_quarantines k) s hb hother] at hlater

/-- Behind its lanes the loss of positions changes no lane but where RECOVERY has it train. -/
theorem losePositions_lanesKept (s : State) {b : Nat} (hb : b < 32) (cause : Nat) (l : List Nat) :
    LanesKept (quarantineAll s b cause l) (losePositions s b cause l) := by
  rw [losePositions_eq]
  exact ((BundleOnly.refl _).onBundle b _).lanesKept.trans (setOffer_lanesKept _ hb _)

theorem losePositions_moves (s : State) {b : Nat} (hb : b < 32) (cause : Nat) (l : List Nat) :
    LinkMoves s (losePositions s b cause l) :=
  (quarantineAll_moves s b cause l).trans (losePositions_lanesKept s hb cause l).fixed

/-- A 32-bit count is its register. -/
theorem rd_count (s : State) (a : Nat) : rd s ⟨a, 0, 32⟩ = (reg s a).toNat := by
  have hlt := (reg s a).isLt
  simp only [rd, fld, Nat.shiftRight_zero]
  omega

theorem besideLaneState_quarantines (l : Nat) : BesideLaneState ⟨A.LN_QUARANTINES l, 0, 32⟩ :=
  ⟨by simp only [A.LN_QUARANTINES]; omega, by simp, .inr fun k => by simp only [A.LN_QUARANTINES]; omega⟩

/-- A lane lost leaves service, and its quarantine counts. -/
theorem losePositions_shows {b i : Nat} (hb : b < 32) (cause : Nat) {l : List Nat} (hnodup : l.Nodup) (hi : i ∈ l) (s : State)
    {k : Nat} (hk : laneAt s b i = k) :
    rd (losePositions s b cause l) (F.LN_STATUS_STATE k) ∉ [2, 6] ∧
      (reg (losePositions s b cause l) (A.LN_QUARANTINES k)).toNat = min ((reg s (A.LN_QUARANTINES k)).toNat + 1) 0xFFFFFFFF := by
  obtain ⟨hstate, hcount⟩ := quarantineAll_shows hb cause hnodup hi s hk
  have hkept := losePositions_lanesKept s hb cause l
  constructor
  · have hafter := hkept.state k
    simp only [List.mem_cons, List.not_mem_nil, or_false] at hstate hafter ⊢
    omega
  · rw [← hcount, ← rd_count, ← rd_count, hkept.beside _ (besideLaneState_quarantines k)]

end Sys2Proof.Machine
end

section
/-!
SUPPORT. Lane references lost and back (09 R233), and the statement on power states, references, rates and checkers.
-/

namespace Sys2Proof.Machine

/-! ## PLL locks -/

theorem inLane_pll (l : Nat) : inLane l (F.LN_STATUS_PLL_LOCK l).addr := inLane_state l

/-- A quarantine leaves every PLL lock. -/
theorem rd_pll_quarantineLane (s : State) {b : Nat} (hb : b < 32) (k cause l : Nat) :
    rd (quarantineLane s b k cause) (F.LN_STATUS_PLL_LOCK l) = rd s (F.LN_STATUS_PLL_LOCK l) := by
  have hstate : ∀ u st, rd (setLane u k st) (F.LN_STATUS_PLL_LOCK l) = rd u (F.LN_STATUS_PLL_LOCK l) := fun u st =>
    rd_wr_field _ _ _ _ (by simp) (by simp)
  have hheld : ∀ u, rd (laneHeldOut u k) (F.LN_STATUS_PLL_LOCK l) = rd u (F.LN_STATUS_PLL_LOCK l) := by
    intro u
    unfold laneHeldOut
    dsimp only
    split
    · rw [rd_congr (reg_laneEvent_lane (inLane_pll l) _ _ _), hstate, rd_onLane]
    · exact rd_onLane _ _ _ _
  have hout : rd (laneOut s k cause) (F.LN_STATUS_PLL_LOCK l) = rd s (F.LN_STATUS_PLL_LOCK l) := by
    rw [laneOut, rd_congr (reg_setReg_other _ _ _ _ (by simp only [A.LN_LAST_CAUSE]; omega)), hstate, setBitLock, rd_onLane, wrBit,
      rd_congr (reg_setReg_other _ _ _ _ (inLane_ne_quad (inLane_pll l) _ 0xC (by decide))), wrB,
      rd_wr_field _ _ _ _ (by simp) (by simp)]
  rw [quarantineLane_eq, hheld, rd_congr (reg_laneLost_lane (inLane_pll l) s hb k cause), ← hout]
  exact rd_congr (reg_bumpBy_other _ _ _ _ (by simp only [A.LN_QUARANTINES]; omega) (by simp only [A.LN_QUARANTINES]; omega))

theorem besideLaneState_pll (l : Nat) : BesideLaneState (F.LN_STATUS_PLL_LOCK l) :=
  ⟨by simp only; omega, by simp, .inl (by simp)⟩

/-- The loss of positions leaves every PLL lock. -/
theorem flag_pll_losePositions (s : State) {b : Nat} (hb : b < 32) (cause : Nat) (p : List Nat) (l : Nat) :
    flag (losePositions s b cause p) (F.LN_STATUS_PLL_LOCK l) = flag s (F.LN_STATUS_PLL_LOCK l) := by
  have hall : rd (quarantineAll s b cause p) (F.LN_STATUS_PLL_LOCK l) = rd s (F.LN_STATUS_PLL_LOCK l) :=
    foldl_keeps (fun u => rd u (F.LN_STATUS_PLL_LOCK l)) (fun u _ => rd_pll_quarantineLane u hb _ cause l) p s
  rw [flag, flag, (losePositions_lanesKept s hb cause p).beside _ (besideLaneState_pll l), hall]

/-- A PLL lock lost shows on its lane, and no other comes with it. -/
theorem flag_pll_setPllLock_same (s : State) (l : Nat) : flag (setPllLock s l false) (F.LN_STATUS_PLL_LOCK l) = false := by
  rw [setPllLock, wrBit, flag_congr (reg_setReg_other _ _ _ _ (inLane_ne_quad (inLane_pll l) _ 0xC (by decide)))]
  exact flag_wrB_same _ _ _ (by simp) rfl

theorem flag_pll_setPllLock {s : State} {l : Nat} (h : flag s (F.LN_STATUS_PLL_LOCK l) = false) (k : Nat) :
    flag (setPllLock s k false) (F.LN_STATUS_PLL_LOCK l) = false := by
  by_cases hk : k = l
  · rw [hk, flag_pll_setPllLock_same]
  · have hother : (F.LN_STATUS_PLL_LOCK l).addr ≠ (F.LN_STATUS_PLL_LOCK k).addr := fun heq =>
      hk (inLane_unique (inLane_pll l) (heq ▸ inLane_pll k))
    rwa [setPllLock, wrBit, flag_congr (reg_setReg_other _ _ _ _ (inLane_ne_quad (inLane_pll l) _ 0xC (by decide))), wrB,
      flag_congr (reg_wr_other _ _ _ _ hother)]

/-! ## A lane and a group without reference -/

/-- A lane that has lost its PLL lock is lost to its bundle, or nothing more follows. -/
theorem laneUnlock_cases (s : State) (l : Nat) : laneUnlock s l = setPllLock s l false ∨
    ∃ b < 32, ∃ i, laneUnlock s l = losePositions (newLcw (setPllLock s l false) b) b 5 [i] := by
  unfold laneUnlock
  dsimp only
  split
  · next b i hof =>
    split
    · exact .inr ⟨b, (bundleOf_some hof).1, i, rfl⟩
    · exact .inl rfl
  · exact .inl rfl

theorem laneUnlock_moves (s : State) (l : Nat) : LinkMoves s (laneUnlock s l) := by
  have hlock : LinkMoves s (setPllLock s l false) := ((LaneOnly.refl s).setPllLock l false).moves
  obtain h | ⟨b, hb, i, h⟩ := laneUnlock_cases s l
  · rwa [h]
  · rw [h]
    exact hlock.trans ((BundleOnly.refl _).onBundle b _ |>.moves.trans (losePositions_moves _ hb 5 [i]))

theorem flag_pll_laneUnlock_eq (s : State) (l k : Nat) :
    flag (laneUnlock s k) (F.LN_STATUS_PLL_LOCK l) = flag (setPllLock s k false) (F.LN_STATUS_PLL_LOCK l) := by
  obtain h | ⟨b, hb, i, h⟩ := laneUnlock_cases s k
  · rw [h]
  · rw [h, flag_pll_losePositions _ hb]
    rfl

/-- One lane of a group loses its lock with the reference. -/
def unlockOf (g : Nat) (s : State) (k : Nat) : State := if 16 * g + k < 144 then laneUnlock s (16 * g + k) else s

theorem groupUnlock_eq (s : State) (g : Nat) : groupUnlock s g = (List.range 16).foldl (unlockOf g) s := rfl

theorem groupUnlock_moves (s : State) (g : Nat) : LinkMoves s (groupUnlock s g) := by
  rw [groupUnlock_eq]
  exact (LinkMoves.refl s).foldl fun w k => .ite (laneUnlock_moves w _) (.refl w)

/-- Every lane of a group loses its PLL lock. -/
theorem flag_pll_groupUnlock (s : State) {g k : Nat} (hg : g < 9) (hk : k ∈ List.range 16) :
    flag (groupUnlock s g) (F.LN_STATUS_PLL_LOCK (16 * g + k)) = false := by
  have hlt := List.mem_range.1 hk
  rw [groupUnlock_eq]
  refine foldl_reaches (P := fun _ => True) (Q := fun u => flag u (F.LN_STATUS_PLL_LOCK (16 * g + k)) = false) hk
    (fun _ _ _ => trivial) (fun u _ => ?_) (fun _ _ => trivial) (fun u j _ _ hu => ?_) trivial
  · rw [unlockOf, if_pos (by omega), flag_pll_laneUnlock_eq, flag_pll_setPllLock_same]
  · unfold unlockOf
    split
    · rw [flag_pll_laneUnlock_eq]
      exact flag_pll_setPllLock hu _
    · exact hu

/-- A group whose reference is lost shows it, and its lanes lose their locks. -/
theorem lrefLost_shows {s : State} {g : Nat} (hg : g < 9) (hsel : rdBit s A.WNB_LREF_SEL g = true)
    (hwas : rdBit s A.WNB_LREF_STATUS g = true) :
    rdBit (lrefLost g s) A.WNB_LREF_STATUS g = false ∧
      ∀ k ∈ List.range 16, flag (lrefLost g s) (F.LN_STATUS_PLL_LOCK (16 * g + k)) = false := by
  have hfixed : linkFixed A.WNB_LREF_STATUS := .inl rfl
  unfold lrefLost
  rw [if_pos ⟨hsel, hwas⟩]
  constructor
  · rw [rdBit_congr (reg_raiseAt_other _ _ _ _ (not_evfReg_of_linkFixed hfixed) (by decide)),
      rdBit_congr (groupUnlock_moves _ _ _ hfixed), rdBit_wrBit_same _ _ _ _ (by omega)]
  · intro k hk
    rw [flag_congr (reg_raiseAt_other _ _ _ _ (not_evfReg_of_inLane (inLane_pll _)) (by simp only; omega)), flag_pll_groupUnlock _ hg hk]

/-- The return of a reference shows, and the lanes of its group may train again at once. -/
theorem lrefReturn_shows {t g : Nat} {s : State} (hg : g < 9) (hsel : rdBit s A.WNB_LREF_SEL g = true)
    (hwas : rdBit s A.WNB_LREF_STATUS g = false) :
    rdBit (lrefReturn t g s) A.WNB_LREF_STATUS g = true ∧ ∀ k ∈ List.range 16, (laneSt (lrefReturn t g s) (16 * g + k)).at' = t := by
  unfold lrefReturn
  rw [if_pos ⟨hsel, by rw [hwas]; rfl⟩]
  constructor
  · rw [rdBit_congr (reg_foldl (fun _ _ _ => reg_onLane _ _ _ _) _), rdBit_wrBit_same _ _ _ _ (by omega)]
  · intro k hk
    refine foldl_reaches (P := fun _ => True) (Q := fun u => (laneSt u (16 * g + k)).at' = t) hk
      (fun _ _ _ => trivial) (fun u _ => ?_) (fun _ _ => trivial) (fun u j _ _ hu => ?_) trivial
    · rw [laneSt_onLane_same]
    · rw [laneSt_onLane]
      split
      · rfl
      · exact hu

/-! ## The statement -/

/-- Settles O30: a request or an answer lies in the bundle beside its registers; POWER shows last when a state is entered; the locks
of a group stay lost through the quarantines that follow. -/
theorem linkPowerAndReference : Obligations.LinkPowerAndReference := by
  refine ⟨fun t b x s _ hidle h0 h3 => ⟨_, rfl, powerReceived_request (s := at' t s) hidle h0 h3⟩,
    fun t b s hup => ⟨_, rfl, powerReceived_refusal (s := at' t s) hup⟩,
    fun t b x s hup hasked h0 => ⟨_, rfl, powerReceived_ack (s := at' t s) hup hasked h0⟩,
    fun t r b d s hb hacc hsoft => ⟨_, exec_bundleEnableWrite hb t r d s, (bCtrl_stores hb hacc hsoft).2⟩,
    fun t b s htime hreq hl0 hidle => ⟨_, rfl, powerRetry_asks (s := at' t s) htime hreq hl0 hidle⟩,
    fun t b x s hup hl1 hwaking hwhy => ⟨_, rfl, powerExit_l1 (s := at' t s) hup hl1 hwaking hwhy⟩,
    fun t b x s hb hup hl2 hwaking hwhy => ⟨_, rfl, powerExit_l2 (s := at' t s) hb hup hl2 hwaking hwhy⟩,
    fun t b x s _ henter hx => ⟨_, rfl, linkPowerEntry_enters (s := at' t s) henter hx⟩,
    fun t b x s _ hwaking htime => ⟨_, rfl, l1ExitDone_leaves (s := at' t s) hwaking htime⟩,
    fun t g s hg hsel hwas => ⟨_, rfl, lrefLost_shows (s := at' t s) hg hsel hwas⟩,
    fun t g s hg hsel hwas => ⟨_, rfl, lrefReturn_shows (s := at' t s) hg hsel hwas⟩,
    fun t r d g s hacc hg => ⟨_, rfl, ceiling_accessW hacc hg⟩,
    fun t l x n s _ hrx => ⟨_, rfl, prbsSync_shows (s := at' t s) hrx⟩⟩

end Sys2Proof.Machine
end

section
/-!
SUPPORT. Offers and masks of a bundle's lanes (09 R242, R255, R256).
-/

namespace Sys2Proof.Machine

/-! ## Masks -/

theorem maskOf_lt {l : List Nat} {n : Nat} (h : ∀ i ∈ l, i < n) : maskOf l < 2 ^ n :=
  List.foldlRecOn (motive := (· < 2 ^ n)) l _ (Nat.two_pow_pos n) fun _ hm i hi =>
    Nat.or_lt_two_pow hm (Nat.pow_lt_pow_right (by decide) (h i hi))

/-- A mask with a bit is an odd number of that bit's weight, and a rest below it. -/
theorem exists_of_testBit {m i : Nat} (h : m.testBit i = true) : ∃ a, ∃ r < 2 ^ i, m = 2 ^ i * (2 * a + 1) + r := by
  have hmod : m / 2 ^ i % 2 = 1 := by rw [← Nat.toNat_testBit, h]; rfl
  refine ⟨m / 2 ^ i / 2, m % 2 ^ i, Nat.mod_lt _ (Nat.two_pow_pos i), ?_⟩
  have hodd : 2 * (m / 2 ^ i / 2) + 1 = m / 2 ^ i := by omega
  rw [hodd, Nat.div_add_mod]

/-- A mask without a bit that it has keeps the others. -/
theorem testBit_sub_two_pow {m i j : Nat} (hbit : m.testBit i = true) (hj : j ≠ i) : (m - 2 ^ i).testBit j = m.testBit j := by
  obtain ⟨a, r, hr, rfl⟩ := exists_of_testBit hbit
  have hwithout : 2 ^ i * (2 * a + 1) + r - 2 ^ i = 2 ^ i * (2 * a) + r := by
    rw [Nat.mul_add, Nat.mul_one]
    omega
  rw [hwithout, Nat.testBit_two_pow_mul_add _ hr, Nat.testBit_two_pow_mul_add _ hr]
  split
  · rfl
  · next hge =>
    obtain ⟨k, hk⟩ : ∃ k, j - i = k + 1 := ⟨j - i - 1, by omega⟩
    have hhalf : 2 * a / 2 = (2 * a + 1) / 2 := by omega
    rw [hk, Nat.testBit_succ, Nat.testBit_succ, hhalf]

/-- A bit that two masks do not share may leave one of them. -/
theorem and_withoutBit {m p i : Nat} (h : (m &&& p).testBit i = false) : (m - (m &&& 2 ^ i)) &&& p = m &&& p := by
  cases hbit : m.testBit i with
  | false => rw [Nat.and_two_pow, hbit, Bool.toNat_false, Nat.zero_mul, Nat.sub_zero]
  | true =>
    have hp : p.testBit i = false := by simpa [Nat.testBit_and, hbit] using h
    rw [Nat.and_two_pow, hbit, Bool.toNat_true, Nat.one_mul]
    refine Nat.eq_of_testBit_eq fun j => ?_
    by_cases hj : j = i
    · rw [hj, Nat.testBit_and, Nat.testBit_and, hp, Bool.and_false, Bool.and_false]
    · rw [Nat.testBit_and, Nat.testBit_and, testBit_sub_two_pow hbit hj]

theorem offerAnd_lt (s : State) (b : Nat) : offerAnd s b < 2 ^ 16 := Nat.and_lt_two_pow _ (Nat.mod_lt _ (Nat.two_pow_pos 16))

theorem convMask_lt (s : State) (b m : Nat) : convMask s b m < 2 ^ 16 := by
  unfold convMask
  split
  · refine maskOf_lt fun j hj => ?_
    obtain ⟨i, -, hij⟩ := List.mem_filterMap.1 hj
    have hcount : rd s (F.B_LANES_COUNT_M1 b) < 2 ^ 4 := Nat.mod_lt _ (Nat.two_pow_pos 4)
    split at hij
    · cases hij
      simp only [bCount]
      omega
    · cases hij
  · exact Nat.mod_lt _ (Nat.two_pow_pos 16)

theorem convMask_newLcw (s : State) (b m : Nat) : convMask (newLcw s b) b m = convMask s b m := by
  have hcount : bCount (newLcw s b) b = bCount s b := rfl
  rw [convMask, convMask, bundle_newLcw, hcount]

/-! ## Offers and masks from the partner -/

/-- An offer with lanes in common is taken, and the bundle stays UP. -/
theorem laneOffer_taken {b m : Nat} {s : State} (hup : bundleUp s b = true)
    (hshared : convMask s b m &&& rd s (F.B_OFFER_OWN b) ≠ 0) :
    rd (laneOffer b m s) (F.B_OFFER_PARTNER b) = convMask s b m ∧ rd (laneOffer b m s) (F.B_STATUS_STATE b) = 3 := by
  have hpartner : rd (wr (newLcw s b) (F.B_OFFER_PARTNER b) (convMask s b m)) (F.B_OFFER_PARTNER b) = convMask s b m :=
    (rd_wr_same _ _ _ (by simp)).trans (Nat.mod_eq_of_lt (convMask_lt s b m))
  have hown : rd (wr (newLcw s b) (F.B_OFFER_PARTNER b) (convMask s b m)) (F.B_OFFER_OWN b) = rd s (F.B_OFFER_OWN b) :=
    rd_wr_field _ _ _ _ (by simp) (by simp)
  have hoffered : offerAnd (wr (newLcw s b) (F.B_OFFER_PARTNER b) (convMask s b m)) b ≠ 0 := by
    rwa [offerAnd, hpartner, hown, Nat.and_comm]
  obtain ⟨hregs, -⟩ := maskChange_offered hoffered false
  have hrd : ∀ f, rd (laneOffer b m s) f = rd (wr (newLcw s b) (F.B_OFFER_PARTNER b) (convMask s b m)) f := by
    intro f
    unfold laneOffer
    dsimp only
    rw [bundleUp_newLcw, if_pos hup, convMask_newLcw]
    exact rd_congr (by rw [reg, reg, hregs])
  rw [hrd, hrd, hpartner, rd_wr_reg _ _ _ _ (by simp only; omega)]
  exact ⟨rfl, of_decide_eq_true hup⟩

/-- The partner's mask waits for its next ALIGN. -/
theorem laneTx_waits {b m : Nat} {s : State} (hup : bundleUp s b = true) :
    (bundle (laneTx b m s) b).rxMask = some (convMask s b m) := by
  unfold laneTx
  dsimp only
  rw [bundleUp_newLcw, if_pos hup, bundle_onBundle_same, convMask_newLcw]

/-- The switch of the receiver puts its mask in force. -/
theorem laneMaskSwitch_receives {b m : Nat} {s : State} (hmask : (bundle s b).rxMask = some m) :
    (bundle (laneMaskSwitch b true s) b).rxMask = none ∧ rd (laneMaskSwitch b true s) (F.B_MASK_RX b) = m % 2 ^ 16 := by
  unfold laneMaskSwitch
  simp only [if_true, bundle_newLcw, hmask]
  exact ⟨by rw [bundle_wr, bundle_setBundle_same], rd_wr_same _ _ _ (by simp)⟩

/-! ## The switch of the transmitter -/

/-- The mask `m` of the transmitter is in force, and no other awaits the next ALIGN. -/
structure MaskInForce (b m : Nat) (s : State) : Prop where
  awaited : (bundle s b).txMask = none
  shown : rd s (F.B_MASK_TX b) = m
  offers : offerAnd s b = m

/-- Changes of lanes alone leave the mask in force. -/
theorem MaskInForce.laneOnly {b m : Nat} (hb : b < 32) {s u : State} (h : MaskInForce b m s) (hlanes : LaneOnly s u) :
    MaskInForce b m u := by
  have hrd : ∀ f : Fld, 0x61050 ≤ f.addr → f.addr < 0x70000 → rd u f = rd s f := fun f hlo hhi =>
    rd_congr (hlanes.reg _ hhi (not_evfReg_of_link (by omega)))
  refine ⟨(Bundle.eq_of_core Bundle.txMask (fun _ => rfl) (hlanes.core b)).trans h.awaited,
    (hrd _ (by simp only; omega) (by simp only; omega)).trans h.shown, ?_⟩
  rw [offerAnd, hrd _ (by simp only; omega) (by simp only; omega), hrd _ (by simp only; omega) (by simp only; omega)]
  exact h.offers

/-- A change of an offer that leaves the AND of both leaves the mask in force. -/
theorem MaskInForce.maskChange {b m : Nat} {s : State} (h : MaskInForce b m s) (hm : m ≠ 0) (x : Bool) :
    MaskInForce b m (maskChange s b x) := by
  have hsent : ∀ l, MaskInForce b m (sendLcw s b l) := fun l =>
    ⟨(congrArg Bundle.txMask (bundle_onBundle_same s b _)).trans h.awaited, h.shown, h.offers⟩
  have hcurrent : offerAnd s b = ((bundle s b).txMask).getD (rd s (F.B_MASK_TX b)) := by
    rw [h.offers, h.awaited, Option.getD_none, h.shown]
  unfold Machine.maskChange
  dsimp only
  split
  · exact h
  · rw [if_neg (by rw [h.offers]; exact hm)]
    cases x
    · exact h
    · exact hsent _

/-- An own offer without a lane that the mask has not leaves the mask in force. -/
theorem MaskInForce.setOffer {b m i : Nat} {s : State} (h : MaskInForce b m s) (hm : m ≠ 0) (hi : m.testBit i = false) :
    MaskInForce b m (setOffer s b (rd s (F.B_OFFER_OWN b) - (rd s (F.B_OFFER_OWN b) &&& 2 ^ i))) := by
  have hlt : rd s (F.B_OFFER_OWN b) - (rd s (F.B_OFFER_OWN b) &&& 2 ^ i) < 2 ^ 16 :=
    (Nat.sub_le _ _).trans_lt (Nat.mod_lt _ (Nat.two_pow_pos 16))
  have hoffered : MaskInForce b m (wr s (F.B_OFFER_OWN b) (rd s (F.B_OFFER_OWN b) - (rd s (F.B_OFFER_OWN b) &&& 2 ^ i))) := by
    refine ⟨h.awaited, (rd_wr_reg _ _ _ _ (by simp only; omega)).trans h.shown, ?_⟩
    have hsame := h.offers
    rw [offerAnd] at hsame
    rw [offerAnd, rd_wr_same _ _ _ (by simp), Nat.mod_eq_of_lt hlt, rd_wr_field _ _ _ _ (by simp) (by simp),
      and_withoutBit (by rw [hsame, hi]), hsame]
  unfold Machine.setOffer
  split
  · exact h
  · exact hoffered.maskChange hm true

/-- A lane that the mask has not leaves its bundle. -/
theorem MaskInForce.partnerLeft {b m i : Nat} {s : State} (hb : b < 32) (h : MaskInForce b m s) (hm : m ≠ 0)
    (hi : m.testBit i = false) : MaskInForce b m (partnerLeft s b i) := by
  have hlane : LaneOnly s (onLane (laneOut s (laneAt s b i) 6) (laneAt s b i) fun x => { x with busy := false, at' := s.now }) :=
    ((((LaneOnly.refl s).setBitLock _ _).setLane _ _).setReg _ _ (lane_high (by decide))).onLane _ _
  exact (h.laneOnly hb hlane).setOffer hm hi

/-- One lane that stands by joins at the switch. -/
def rejoins (b : Nat) (s : State) (i : Nat) : State :=
  if rd s (F.LN_STATUS_STATE (laneAt s b i)) = 6 then rejoinLane s b (laneAt s b i) else s

/-- One lane that the new mask has not leaves. -/
def leaves (b : Nat) (s : State) (i : Nat) : State :=
  if !((laneEn s b).testBit i) then setLane s (laneAt s b i) 0
  else if rd s (F.LN_STATUS_STATE (laneAt s b i)) = 2 then partnerLeft s b i
  else s

/-- The new mask put in force, its lanes shown. -/
def maskShown (s : State) (b m : Nat) : State :=
  showLanes (wr (setBundle s b { bundle s b with txMask := none }) (F.B_MASK_TX b) m) b

theorem laneMaskSwitch_eq {b m : Nat} {s : State} (hmask : (bundle s b).txMask = some m) :
    laneMaskSwitch b false s =
      let u := (bitsOf m 16).foldl (rejoins b) (newLcw s b)
      ((bitsOf (rd u (F.B_MASK_TX b)) 16).filter fun i => !(m.testBit i)).foldl (leaves b) (maskShown u b m) := by
  unfold laneMaskSwitch
  simp only [Bool.false_eq_true, if_false, bundle_newLcw, hmask]
  rfl

theorem MaskInForce.leaves {b m i : Nat} {s : State} (hb : b < 32) (h : MaskInForce b m s) (hm : m ≠ 0) (hi : m.testBit i = false) :
    MaskInForce b m (leaves b s i) := by
  unfold Machine.leaves
  split
  · exact h.laneOnly hb ((LaneOnly.refl s).setLane _ _)
  · split
    · exact h.partnerLeft hb hm hi
    · exact h

/-- Lanes that join leave the offers. -/
theorem rd_offer_rejoins {b : Nat} {f : Fld} (hf : f.addr = 0x61054 + 0x80 * b) (hb : b < 32) (s : State) (i : Nat) :
    rd (rejoins b s i) f = rd s f := by
  have hev : ¬ evfReg f.addr := not_evfReg_of_link (by omega)
  have hlane : ∀ l, LaneOnly s (laneEvent (bump (setLane s l 2) (A.LN_REJOINS l)) l 1) := fun l =>
    (((LaneOnly.refl s).setLane l 2).bumpBy _ 1 (lane_high (by decide))).laneEvent l 1
  unfold rejoins
  split
  · exact rd_congr ((reg_raise_bundle _ rfl hev (by omega)).trans ((hlane _).reg _ (by omega) hev))
  · rfl

theorem core_showLanes (s : State) (b c : Nat) : (bundle (showLanes s b) c).core = (bundle s c).core := by
  unfold showLanes
  dsimp only
  rw [bundle_wrB]
  split
  · rw [core_raise]
    rfl
  · rfl

theorem maskShown_inForce {b m : Nat} {s : State} (hb : b < 32) (hoffers : offerAnd s b = m) : MaskInForce b m (maskShown s b m) := by
  have hlt := offerAnd_lt s b
  rw [hoffers] at hlt
  have hoffer : ∀ f : Fld, f.addr = 0x61054 + 0x80 * b → f.lo + f.len ≤ 32 → rd (maskShown s b m) f = rd s f := by
    intro f hf hfits
    have hbeside : BesideShown b f := ⟨by omega, hfits, by omega, .inl (by omega)⟩
    rw [maskShown, hbeside.rd_showLanes, rd_wr_reg _ _ _ _ (by simp only; omega), rd_setBundle]
  refine ⟨?_, ?_, ?_⟩
  · refine (Bundle.eq_of_core Bundle.txMask (fun _ => rfl) (core_showLanes _ _ _)).trans ?_
    rw [bundle_wr, bundle_setBundle_same]
  · rw [maskShown, (besideShown_maskTx b).rd_showLanes, rd_wr_same _ _ _ (by simp)]
    exact Nat.mod_eq_of_lt hlt
  · rw [offerAnd, hoffer _ rfl (by simp), hoffer _ rfl (by simp)]
    exact hoffers

/-- The switch of the transmitter puts its mask in force. -/
theorem laneMaskSwitch_transmits {b m : Nat} {s : State} (hb : b < 32) (hmask : (bundle s b).txMask = some m)
    (hoffers : offerAnd s b = m) (hm : m ≠ 0) : MaskInForce b m (laneMaskSwitch b false s) := by
  have hoffers' : offerAnd ((bitsOf m 16).foldl (rejoins b) (newLcw s b)) b = m := by
    have hkept : ∀ f : Fld, f.addr = 0x61054 + 0x80 * b → rd ((bitsOf m 16).foldl (rejoins b) (newLcw s b)) f = rd s f := fun f hf =>
      foldl_keeps (fun u => rd u f) (fun u i => rd_offer_rejoins hf hb u i) _ (newLcw s b)
    rw [offerAnd, hkept _ rfl, hkept _ rfl]
    exact hoffers
  rw [laneMaskSwitch_eq hmask]
  refine List.foldlRecOn (motive := MaskInForce b m) _ _ (maskShown_inForce hb hoffers') fun u hu i hi => ?_
  have hgone : m.testBit i = false := by simpa using (List.mem_filter.1 hi).2
  exact hu.leaves hb hm hgone

end Sys2Proof.Machine
end

section
/-!
SUPPORT. Lane faults (09 R255) and background attempts (R257).
-/

namespace Sys2Proof.Machine

/-! ## Lane faults -/

/-- The errors that come with a lane fault counted, and the lock lost with a reference. -/
def faultCounted (s : State) (l cause codes disps : Nat) : State :=
  let s := bumpBy (bumpBy s (A.LN_CODE_ERR l) codes) (A.LN_DISP_ERR l) disps
  if cause = 5 then setPllLock s l false else s

theorem faultCounted_laneOnly (s : State) (l cause codes disps : Nat) : LaneOnly s (faultCounted s l cause codes disps) := by
  have hcounts : LaneOnly s (bumpBy (bumpBy s (A.LN_CODE_ERR l) codes) (A.LN_DISP_ERR l) disps) :=
    ((LaneOnly.refl s).bumpBy _ _ (lane_high (by decide))).bumpBy _ _ (lane_high (by decide))
  exact .ite (hcounts.setPllLock l false) hcounts

/-- What is counted with a fault leaves the state of the lane, and its count of quarantines. -/
theorem faultCounted_keeps (s : State) (l cause codes disps : Nat) :
    rd (faultCounted s l cause codes disps) (F.LN_STATUS_STATE l) = rd s (F.LN_STATUS_STATE l) ∧
      reg (faultCounted s l cause codes disps) (A.LN_QUARANTINES l) = reg s (A.LN_QUARANTINES l) := by
  have hcounts : ∀ a, a = (F.LN_STATUS_STATE l).addr ∨ a = A.LN_QUARANTINES l →
      reg (bumpBy (bumpBy s (A.LN_CODE_ERR l) codes) (A.LN_DISP_ERR l) disps) a = reg s a := by
    intro a ha
    simp only [A.LN_QUARANTINES] at ha
    rw [reg_bumpBy_other _ _ _ _ (by simp only [A.LN_DISP_ERR]; omega) (by simp only [A.LN_DISP_ERR]; omega),
      reg_bumpBy_other _ _ _ _ (by simp only [A.LN_CODE_ERR]; omega) (by simp only [A.LN_CODE_ERR]; omega)]
  have hlock : ∀ u, rd (setPllLock u l false) (F.LN_STATUS_STATE l) = rd u (F.LN_STATUS_STATE l) ∧
      reg (setPllLock u l false) (A.LN_QUARANTINES l) = reg u (A.LN_QUARANTINES l) := by
    intro u
    rw [setPllLock, wrBit, rd_congr (reg_setReg_other _ _ _ _ (inLane_ne_quad (inLane_state l) _ 0xC (by decide))),
      reg_setReg_other _ _ _ _ (inLane_ne_quad (inLane_quarantines l) _ 0xC (by decide)), wrB,
      rd_wr_field _ _ _ _ (by simp) (by simp), reg_wr_other _ _ _ _ (by simp only [A.LN_QUARANTINES]; omega)]
    exact ⟨rfl, rfl⟩
  have hstate := rd_congr (f := F.LN_STATUS_STATE l) (hcounts _ (.inl rfl))
  unfold faultCounted
  dsimp only
  split
  · exact ⟨(hlock _).1.trans hstate, (hlock _).2.trans (hcounts _ (.inr rfl))⟩
  · exact ⟨hstate, hcounts _ (.inr rfl)⟩

theorem laneFault_eq (l cause codes disps : Nat) (s : State) : laneFault l cause codes disps s =
    let u := faultCounted s l cause codes disps
    match bundleOf u l with
    | some (b, i) =>
      let w := newLcw u b
      if !(inService w l) then w
      else if cause = 4 ∧ wideHoldover w l then
        losePositions w b cause ((bitsOf (laneEn w b) 16).filter fun j => inService w (laneAt w b j))
      else losePositions w b cause [i]
    | none => u := rfl

/-- A fault of an active lane takes it out of service, and its quarantine counts. -/
theorem laneFault_loses {l cause codes disps b i : Nat} {s : State} (hof : bundleOf s l = some (b, i))
    (hactive : rd s (F.LN_STATUS_STATE l) = 2) :
    rd (laneFault l cause codes disps s) (F.LN_STATUS_STATE l) ∉ [2, 6] ∧
      (reg (laneFault l cause codes disps s) (A.LN_QUARANTINES l)).toNat = min ((reg s (A.LN_QUARANTINES l)).toNat + 1) 0xFFFFFFFF := by
  obtain ⟨hstate, hcount⟩ := faultCounted_keeps s l cause codes disps
  have hof' : bundleOf (faultCounted s l cause codes disps) l = some (b, i) :=
    (bundleOf_congr (faultCounted_laneOnly s l cause codes disps).moves l).trans hof
  obtain ⟨hb, hi, hat⟩ := bundleOf_some hof'
  have hserves : inService (newLcw (faultCounted s l cause codes disps) b) l = true := by
    simp [inService, hstate, hactive]
  rw [laneFault_eq, ← hcount]
  dsimp only
  rw [hof']
  dsimp only
  rw [hserves, if_neg (by simp)]
  split
  · refine losePositions_shows hb cause ((List.nodup_range.filter _).filter _) (List.mem_filter.2 ⟨hi, ?_⟩) _ hat
    exact (congrArg (inService _) hat).trans hserves
  · exact losePositions_shows hb cause (List.nodup_singleton i) (List.mem_singleton_self i) _ hat

/-! ## Background attempts -/

/-- An attempt starts on a quarantined lane. -/
theorem laneRetrainAttempt_starts {t l b i : Nat} {s : State} (hof : bundleOf s l = some (b, i)) (hup : bundleUp s b = true)
    (hout : rd s (F.LN_STATUS_STATE l) = 3) (hidle : (laneSt s l).busy = false) (htime : (laneSt s l).at' ≤ t)
    (hon : flag s (F.LNQ_CTRL_ENABLE (l / 4)) = true) (href : lrefPresent s (groupOf l) = true) :
    rd (laneRetrainAttempt t l s) (F.LN_STATUS_STATE l) = 1 ∧ (laneSt (laneRetrainAttempt t l s) l).busy = true := by
  have hmay : bundleUp s b ∧ rd s (F.LN_STATUS_STATE l) = 3 ∧ !(laneSt s l).busy ∧ (laneSt s l).at' ≤ t
      ∧ flag s (F.LNQ_CTRL_ENABLE (l / 4)) ∧ lrefPresent s (groupOf l) := ⟨hup, hout, by rw [hidle]; rfl, htime, hon, href⟩
  unfold laneRetrainAttempt
  rw [hof]
  dsimp only
  rw [if_pos hmay, rd_onLane, laneSt_onLane_same]
  exact ⟨rd_wr_same _ _ _ (by simp), rfl⟩

/-- The end of an attempt, the next one due in 10 ms. -/
def attemptEnded (s : State) (b l : Nat) : State :=
  onLane (newLcw s b) l fun x => { x with busy := false, at' := x.at' + msec 10, once := false }

/-- A lane that has trained in the background stands by, its skew measured. -/
def standsBy (s : State) (l : Nat) : State := measureSkew (setPllLock (setBitLock (setLane s l 6) l true) l true) l

theorem laneRetrainEnd_eq {l b i : Nat} {s : State} (hof : bundleOf s l = some (b, i)) (hbusy : (laneSt s l).busy = true) (ok : Bool) :
    laneRetrainEnd l ok s =
      let u := attemptEnded s b l
      if ok then setOffer (standsBy u l) b (rd (standsBy u l) (F.B_OFFER_OWN b) ||| 2 ^ i)
      else if (laneSt s l).once then laneEvent (setLane (onLane u l fun y => { y with held := true }) l 4) l 2
      else setLane u l 3 := by
  unfold laneRetrainEnd
  rw [hof]
  dsimp only
  rw [hbusy, if_neg (by simp)]
  rfl

theorem laneBusy_attemptEnded (s : State) (b l : Nat) : (laneSt (attemptEnded s b l) l).busy = false := by
  rw [attemptEnded, laneSt_onLane_same]

/-- An attempt that failed leaves its lane quarantined. -/
theorem laneRetrainEnd_fails {l b i : Nat} {s : State} (hof : bundleOf s l = some (b, i)) (hbusy : (laneSt s l).busy = true)
    (honce : (laneSt s l).once = false) :
    rd (laneRetrainEnd l false s) (F.LN_STATUS_STATE l) = 3 ∧ (laneSt (laneRetrainEnd l false s) l).busy = false := by
  rw [laneRetrainEnd_eq hof hbusy]
  dsimp only
  rw [if_neg (by simp), honce, if_neg (by simp)]
  exact ⟨rd_wr_same _ _ _ (by simp), laneBusy_attemptEnded s b l⟩

/-- A lane that stands by shows it, and what lies below the lane pages stays. -/
theorem standsBy_shows (s : State) (l : Nat) :
    rd (standsBy s l) (F.LN_STATUS_STATE l) = 6 ∧ (laneSt (standsBy s l) l).busy = (laneSt s l).busy ∧ LaneOnly s (standsBy s l) := by
  have hstate : rd (setLane s l 6) (F.LN_STATUS_STATE l) = 6 := rd_wr_same _ _ _ (by simp)
  have hlocked : rd (bitLocked (setLane s l 6) l) (F.LN_STATUS_STATE l) = 6 := (laneState_bitLocked _ l).trans hstate
  have hskew : ∀ u, rd (measureSkew u l) (F.LN_STATUS_STATE l) = rd u (F.LN_STATUS_STATE l) := fun u =>
    rd_wr_field _ _ _ _ (by simp) (by simp)
  refine ⟨(hskew _).trans hlocked, ?_, ((LaneOnly.refl s).setLane l 6).trans ((bitLocked_laneOnly _ l).measureSkew l)⟩
  have hlane : ∀ u, laneSt (measureSkew u l) l = laneSt u l := fun _ => rfl
  rw [standsBy, hlane, laneSt_setPllLock, setBitLock, laneSt_onLane_same]
  rfl

/-- A lane that has trained in the background is offered again, and stands by. -/
theorem laneRetrainEnd_offers {l b i : Nat} {s : State} (hof : bundleOf s l = some (b, i)) (hbusy : (laneSt s l).busy = true)
    (hshared : (rd s (F.B_OFFER_OWN b) ||| 2 ^ i) &&& rd s (F.B_OFFER_PARTNER b) ≠ 0) :
    rd (laneRetrainEnd l true s) (F.LN_STATUS_STATE l) = 6 ∧ (laneSt (laneRetrainEnd l true s) l).busy = false ∧
      rd (laneRetrainEnd l true s) (F.B_OFFER_OWN b) = rd s (F.B_OFFER_OWN b) ||| 2 ^ i := by
  obtain ⟨hb, hpos, -⟩ := bundleOf_some hof
  obtain ⟨hstate, hbusy', hbelow⟩ := standsBy_shows (attemptEnded s b l) l
  have hoffer : ∀ f : Fld, f.addr = 0x61054 + 0x80 * b → rd (standsBy (attemptEnded s b l) l) f = rd s f := fun f hf =>
    rd_congr (hbelow.reg _ (by omega) (not_evfReg_of_link (by omega)))
  have hlt : rd s (F.B_OFFER_OWN b) ||| 2 ^ i < 2 ^ 16 :=
    Nat.or_lt_two_pow (Nat.mod_lt _ (Nat.two_pow_pos 16)) (Nat.pow_lt_pow_right (by decide) (bitsOf_lt hpos))
  rw [laneRetrainEnd_eq hof hbusy]
  dsimp only
  rw [if_pos rfl, hoffer _ rfl]
  rw [laneBusy_attemptEnded] at hbusy'
  generalize standsBy (attemptEnded s b l) l = u at hstate hbusy' hoffer
  have hown : rd (wr u (F.B_OFFER_OWN b) (rd s (F.B_OFFER_OWN b) ||| 2 ^ i)) (F.B_OFFER_OWN b) = rd s (F.B_OFFER_OWN b) ||| 2 ^ i :=
    (rd_wr_same _ _ _ (by simp)).trans (Nat.mod_eq_of_lt hlt)
  have hoffered : offerAnd (wr u (F.B_OFFER_OWN b) (rd s (F.B_OFFER_OWN b) ||| 2 ^ i)) b ≠ 0 := by
    rwa [offerAnd, hown, rd_wr_field _ _ _ _ (by simp) (by simp), hoffer _ rfl]
  unfold setOffer
  split
  · next hsame => exact ⟨hstate, hbusy', hsame⟩
  · obtain ⟨hregs, hlanes⟩ := maskChange_offered hoffered true
    have hrd : ∀ f, rd (maskChange (wr u (F.B_OFFER_OWN b) (rd s (F.B_OFFER_OWN b) ||| 2 ^ i)) b true) f =
        rd (wr u (F.B_OFFER_OWN b) (rd s (F.B_OFFER_OWN b) ||| 2 ^ i)) f := fun f => rd_congr (by rw [reg, reg, hregs])
    rw [hrd, hrd, laneSt_congr hlanes, hown, rd_wr_reg _ _ _ _ (by simp only; omega)]
    exact ⟨hstate, hbusy', rfl⟩

end Sys2Proof.Machine
end

section
/-!
SUPPORT. RETRY of a held lane (09 R257), changes of LANE_EN (R258), and RECOVERY that has not ended (R253), with the statement on the
lanes of a bundle.
-/

namespace Sys2Proof.Machine

/-! ## RETRY -/

/-- The fields of LN_CTRL (09 R266). -/
def lnCtrlFields : List FieldRow :=
  [⟨31, 1, .w1s, [], false⟩, ⟨28, 3, .rw, [(5, 7)], false⟩, ⟨24, 3, .rw, [(4, 7)], false⟩, ⟨20, 3, .rw, [(5, 7)], false⟩,
    ⟨16, 3, .rw, [(5, 7)], false⟩, ⟨9, 1, .rw, [], false⟩, ⟨8, 1, .rw, [], false⟩]

theorem lane_places : ∀ q < 36, ∀ k < 4, busAddr (0x70100 + 0x400 * q + 0xC0 * k) = 0x70100 + 0x400 * q + 0xC0 * k ∧
    windowed (0x70100 + 0x400 * q + 0xC0 * k) = false ∧ pageBase (0x70100 + 0x400 * q + 0xC0 * k) = some (0x70000 + 0x400 * q) ∧
    wideLow (0x70100 + 0x400 * q + 0xC0 * k) = none ∧ heldWord (0x70100 + 0x400 * q + 0xC0 * k) = false ∧
    isPort (0x70100 + 0x400 * q + 0xC0 * k) = false := by decide

theorem lane_rows : ∀ q < 36, ∀ k < 4, (findReg (0x70100 + 0x400 * q + 0xC0 * k)).map (fun l => (l.pbase, l.row.fields)) =
    some (0x70000 + 0x400 * q, lnCtrlFields) := by decide

theorem linkReg_lane {l : Nat} (hl : l < 144) :
    ∃ x, LinkReg (F.LN_CTRL_LOOP l).addr (0x70000 + 0x400 * (l / 4)) x ∧ x.row.fields = lnCtrlFields := by
  obtain ⟨x, hx, hfields⟩ := Option.map_eq_some_iff.1 (lane_rows (l / 4) (by omega) (l % 4) (by omega))
  obtain ⟨hbase, hrow⟩ := Prod.mk.inj hfields
  obtain ⟨haligned, hwindow, hpage, hnarrow, hheld, hport⟩ := lane_places (l / 4) (by omega) (l % 4) (by omega)
  exact ⟨x, ⟨haligned, hwindow, hpage, hx, hbase, by omega, .inr (by simp only; omega), hnarrow, hheld, hport,
    by rw [hrow]; decide⟩, hrow⟩

theorem inst_lane {q : Nat} (hq : q < 36) :
    inst (0x70000 + 0x400 * q) 0x61000 0x80 32 = none ∧ inst (0x70000 + 0x400 * q) 0x70000 0x400 36 = some q := by
  unfold inst
  rw [if_neg (by omega), if_pos (by omega)]
  exact ⟨rfl, congrArg some (by omega)⟩

theorem pageAct_lane {q : Nat} (hq : q < 36) (o : Nat) (d : Word) (c s : State) :
    pageAct (0x70000 + 0x400 * q) (0x70000 + 0x400 * q + o) d c s = lnqAct q o d c s := by
  obtain ⟨hbundle, hlane⟩ := inst_lane hq
  unfold pageAct actB
  rw [if_neg (by omega), if_pos (by omega), hbundle, hlane]
  dsimp only
  rw [Nat.add_sub_cancel_left]

/-- A held lane released. -/
def retried (s : State) (l : Nat) : State :=
  onLane (setLane s l 3) l fun x => { x with at' := s.now, once := true, outs := [], held := false }

/-- RETRY releases the held lane of a bundle. -/
theorem lnqAct_retry {l : Nat} {d : Word} {o s : State} (hbit : bit d 31 = true) (hheld : (laneSt s l).held = true)
    (hstate : rd s (F.LN_STATUS_STATE l) = 4) (hof : (bundleOf s l).isSome = true) :
    lnqAct (l / 4) (0x100 + 0xC0 * (l % 4)) d o s = retried s l := by
  have hlane : 4 * (l / 4) + (0x100 + 0xC0 * (l % 4) - 0x100) / 0xC0 = l := by omega
  have hfirst : 0x100 ≤ 0x100 + 0xC0 * (l % 4) ∧ 0x100 + 0xC0 * (l % 4) < 0x400 ∧ (0x100 + 0xC0 * (l % 4) - 0x100) % 0xC0 = 0 := by
    omega
  have hmoves : LinkMoves s (retried s l) := (((LaneOnly.refl s).setLane l 3).onLane l _).moves
  have hof' : (bundleOf (retried s l) l).isSome = true := by rwa [bundleOf_congr hmoves]
  unfold lnqAct
  dsimp only
  rw [hlane, if_neg (by omega), if_pos hfirst]
  simp only [hbit, hheld, hstate, and_self, if_true]
  exact if_pos hof'

/-- An accepted write of RETRY releases the held lane of a bundle. -/
theorem lnCtrl_retries {t l d : Nat} {r : Requester} {s : State} (hl : l < 144)
    (hacc : Accepts t r (F.LN_CTRL_LOOP l).addr (withBit d 31) s) (hstate : rd s (F.LN_STATUS_STATE l) = 4)
    (hheld : (laneSt s l).held = true) (hof : (bundleOf s l).isSome = true) :
    rd (accessW t r (F.LN_CTRL_LOOP l).addr (withBit d 31) s) (F.LN_STATUS_STATE l) = 3 ∧
      (laneSt (accessW t r (F.LN_CTRL_LOOP l).addr (withBit d 31) s) l).once = true ∧
      (laneSt (accessW t r (F.LN_CTRL_LOOP l).addr (withBit d 31) s) l).outs = [] ∧
      (laneSt (accessW t r (F.LN_CTRL_LOOP l).addr (withBit d 31) s) l).held = false := by
  obtain ⟨x, hreg, -⟩ := linkReg_lane hl
  obtain ⟨-, hwnb, hregs⟩ := hreg.write hacc fun heq => absurd heq (by simp only; omega)
  have haddr : (F.LN_CTRL_LOOP l).addr = 0x70000 + 0x400 * (l / 4) + (0x100 + 0xC0 * (l % 4)) := by simp only; omega
  have hstored : ∀ a, a ≠ (F.LN_CTRL_LOOP l).addr →
      reg (storeReg x (F.LN_CTRL_LOOP l).addr (word (withBit d 31)) (at' t s)) a = reg s a :=
    fun a ha => hreg.reg_storeReg_other ha _ (at' t s)
  have hmoves : LinkMoves s (storeReg x (F.LN_CTRL_LOOP l).addr (word (withBit d 31)) (at' t s)) := fun a ha =>
    hstored a (by unfold linkFixed at ha; simp only; omega)
  have hlane : laneSt (storeReg x (F.LN_CTRL_LOOP l).addr (word (withBit d 31)) (at' t s)) l = laneSt s l :=
    laneSt_congr (congrArg Wnb.lanes (storeReg_wnb _ _ _ _)) l
  have hact := lnqAct_retry (d := word (withBit d 31)) (o := at' t s) (bit_withBit d (by decide)) (by rwa [hlane])
    ((rd_congr (hstored _ (by simp only; omega))).trans hstate) (by rwa [bundleOf_congr hmoves])
  have hpage := pageAct_lane (q := l / 4) (by omega) (0x100 + 0xC0 * (l % 4)) (word (withBit d 31)) (at' t s)
    (storeReg x (F.LN_CTRL_LOOP l).addr (word (withBit d 31)) (at' t s))
  rw [← haddr, hact] at hpage
  rw [hpage] at hwnb hregs
  rw [rd_congr (hregs _ (by simp only; omega)), laneSt_congr (congrArg Wnb.lanes hwnb), retried, laneSt_onLane_same, rd_onLane]
  exact ⟨rd_wr_same _ _ _ (by simp), rfl, rfl, rfl⟩

/-! ## LANE_EN -/

/-- A position that enters LANE_EN trains, in the background where training has passed it. -/
def laneEnters (b old st : Nat) (s : State) (i : Nat) : State :=
  if old.testBit i then s
  else
    let l := laneAt s b i
    let s := startLane s b i (rd s (F.B_STATUS_RATE b))
    if st = 1 ∨ rd s (F.LN_STATUS_STATE l) ≠ 1 then s
    else onLane (setLane s l 3) l fun x => { x with at' := s.now }

theorem laneEnChange_eq (s : State) (b old : Nat) : laneEnChange s b old =
    if !(1 ≤ rd s (F.B_STATUS_STATE b) ∧ rd s (F.B_STATUS_STATE b) ≤ 4) then showLanes s b
    else
      let u := (bitsOf (laneEn s b) 16).foldl (laneEnters b old (rd s (F.B_STATUS_STATE b))) s
      if rd s (F.B_STATUS_STATE b) = 3 then showLanes (setOffer u b (rd u (F.B_OFFER_OWN b) &&& laneEn s b)) b
      else
        let u := (bitsOf (old - (old &&& laneEn s b)) 16).foldl (fun s i => setLane s (laneAt s b i) 0) u
        showLanes (onBundle u b fun x => { x with cand := x.cand &&& laneEn s b }) b := rfl

theorem laneEnters_laneOnly (b old st : Nat) (s : State) (i : Nat) : LaneOnly s (laneEnters b old st s i) := by
  have hstart : ∀ r, LaneOnly s (startLane s b i r) := fun r => (LaneOnly.refl s).startLane b i r
  unfold laneEnters
  dsimp only
  exact .ite (.refl s) (.ite (hstart _) (((hstart _).setLane _ 3).onLane _ _))

/-- A change of LANE_EN leaves the registers that configure the link. -/
theorem laneEnChange_moves (s : State) {b : Nat} (hb : b < 32) (old : Nat) : LinkMoves s (laneEnChange s b old) := by
  have hshow : ∀ u, LinkMoves u (showLanes u b) := fun u => ((BundleOnly.refl u).showLanes hb).moves
  have henter : LinkMoves s ((bitsOf (laneEn s b) 16).foldl (laneEnters b old (rd s (F.B_STATUS_STATE b))) s) :=
    (LinkMoves.refl s).foldl fun w i => (laneEnters_laneOnly b old _ w i).moves
  have hleave : ∀ (u : State) (l : List Nat), LinkMoves u (l.foldl (fun s i => setLane s (laneAt s b i) 0) u) := fun u l =>
    (LinkMoves.refl u).foldl fun w _ => ((LaneOnly.refl w).setLane _ 0).moves
  have hleft : ∀ u, LinkMoves u (showLanes (onBundle u b fun x => { x with cand := x.cand &&& laneEn s b }) b) := fun u =>
    (((BundleOnly.refl u).onBundle b _).showLanes hb).moves
  rw [laneEnChange_eq]
  refine .ite (hshow s) (.ite ?_ ?_)
  · exact henter.trans ((setOffer_lanesKept _ hb _).fixed.trans (hshow _))
  · exact henter.trans ((hleave _ _).trans (hleft _))

/-- An accepted write of B_LANES stores LANE_EN and FIRST. -/
theorem bLanes_stores {t b d : Nat} {r : Requester} {s : State} (hb : b < 32) (hacc : Accepts t r (F.B_LANES_FIRST b).addr d s) :
    rd (accessW t r (F.B_LANES_FIRST b).addr d s) (F.B_LANES_LANE_EN b) = fld (word d) 16 16 ∧
      rd (accessW t r (F.B_LANES_FIRST b).addr d s) (F.B_LANES_FIRST b) = fld (word d) 8 8 := by
  have haddr : (F.B_LANES_FIRST b).addr = 0x61000 + 0x80 * b + 0x44 := by simp only; omega
  obtain ⟨l, hreg, hrow⟩ := linkReg_bundle (o := 0x44) (fs := bLanesFields) hb (by simp)
  rw [← haddr] at hreg
  obtain ⟨-, -, hregs⟩ := hreg.write hacc fun heq => absurd heq (by simp only; omega)
  have hact : ∀ c, pageAct (0x61000 + 0x80 * b) (F.B_LANES_FIRST b).addr (word d) (at' t s) c =
      laneEnChange (newLcw c b) b (laneEn (at' t s) b) := fun c => by
    rw [haddr, pageAct_bundle hb]
    rfl
  have hkept : reg (accessW t r (F.B_LANES_FIRST b).addr d s) (F.B_LANES_FIRST b).addr =
      reg (storeReg l (F.B_LANES_FIRST b).addr (word d) (at' t s)) (F.B_LANES_FIRST b).addr := by
    rw [hregs _ (by simp only; omega), hact, laneEnChange_moves _ hb _ _ (linkFixed_lanes hb), reg_newLcw]
  have hfield : ∀ f ∈ bLanesFields, f.acc = .rw → f.lo + f.len ≤ 32 →
      fld (reg (accessW t r (F.B_LANES_FIRST b).addr d s) (F.B_LANES_FIRST b).addr) f.lo f.len = fld (word d) f.lo f.len :=
    fun f hf hrw hlen => by
      rw [hkept]
      exact hreg.fld_storeReg (by rwa [hrow]) hrw hlen _ _
  exact ⟨hfield ⟨16, 16, .rw, [], false⟩ (by decide) rfl (by decide), hfield ⟨8, 8, .rw, [], false⟩ (by decide) rfl (by decide)⟩

/-! ## DOWN -/

theorem dropReplay_sent (s : State) (b : Nat) : (bundle (dropReplay s b) b).sent = [] := by
  have htx : ∀ (u : State) x, bundle { u with wnb := { u.wnb with tx := x } } b = bundle u b := fun _ _ => rfl
  unfold dropReplay showReplay
  dsimp only
  simp only [bundle_congr (monSample_wnb _ _ _ _), bundle_wr, htx, bundle_onBundle_same]

/-- A bundle shown DOWN, with its event. -/
def downShown (t b : Nat) (s : State) : State :=
  raise (setBState (onBundle s b fun x => { x with step := 0, since := t }) b 5) (F.B_EVT_RAW_DOWN b)

theorem downShown_shows {t b : Nat} (s : State) :
    rd (downShown t b s) (F.B_STATUS_STATE b) = 5 ∧ (bundle (downShown t b s) b).sent = (bundle s b).sent ∧
      flag (downShown t b s) (F.B_EVT_RAW_DOWN b) = true := by
  refine ⟨?_, ?_, flag_raise _ _ (not_evfReg_of_link (by simp only; omega)) (by simp only; omega) rfl (by simp)⟩
  · rw [downShown, rd_congr (reg_raise_bundle _ rfl (not_evfReg_of_link (by simp only; omega)) (by simp only; omega)),
      rd_setBState_state]
  · refine (Bundle.eq_of_core Bundle.sent (fun _ => rfl) (core_raise _ _ _)).trans ?_
    rw [bundle_congr (setBState_down (by decide)).1, bundle_onBundle_same]

/-- The lanes of a bundle that goes DOWN are OFF. -/
def lanesOff (b : Nat) (s : State) : State := (bundleLanes s b).foldl (fun s l => setLane s l 0) s

/-- A bundle DOWN, its frames discarded, before AUTO_RESTART is looked at. -/
def wentDown (t b : Nat) (s : State) : State := downShown t b (dropReplay (lanesOff b (newLcw s b)) b)

theorem wentDown_moves {t b : Nat} (hb : b < 32) (s : State) : LinkMoves s (wentDown t b s) := by
  have hlanes : LaneOnly (newLcw s b) (lanesOff b (newLcw s b)) :=
    (LaneOnly.refl _).foldl fun w l => (LaneOnly.refl w).setLane l 0
  have hdrop : ∀ u, BundleOnly u (dropReplay u b) := fun u => (BundleOnly.refl u).dropReplay hb
  have hshow : ∀ u, BundleOnly u (downShown t b u) := fun u => (((BundleOnly.refl u).onBundle b _).setBState hb 5).raise _
  exact LinkMoves.trans (fun a _ => reg_newLcw s b a) (hlanes.moves.trans ((hdrop _).trans (hshow _)).moves)

/-- A RECOVERY past RECOVERY_MS takes its bundle DOWN, or to DETECT with AUTO_RESTART. -/
theorem bundleDown_shows {t b : Nat} {s : State} (hb : b < 32) (hstate : rd s (F.B_STATUS_STATE b) = 4)
    (htime : (bundle s b).since + msec (rd s (F.B_RETRY_RECOVERY_MS b)) ≤ t) :
    rd (bundleDown t b s) (F.B_STATUS_STATE b) = (if flag s (F.B_CTRL_AUTO_RESTART b) then 1 else 5) ∧
      (bundle (bundleDown t b s) b).sent = [] ∧ flag (bundleDown t b s) (F.B_EVT_RAW_DOWN b) = true := by
  obtain ⟨hdown, hkept, hevent⟩ := downShown_shows (t := t) (b := b) (dropReplay (lanesOff b (newLcw s b)) b)
  have hsent : (bundle (wentDown t b s) b).sent = [] := hkept.trans (dropReplay_sent _ _)
  have hauto : flag (wentDown t b s) (F.B_CTRL_AUTO_RESTART b) = flag s (F.B_CTRL_AUTO_RESTART b) :=
    flag_congr (wentDown_moves hb s _ (linkFixed_ctrl hb))
  have heq : bundleDown t b s =
      if flag (wentDown t b s) (F.B_CTRL_AUTO_RESTART b) then enterDetect (wentDown t b s) b 0 else wentDown t b s :=
    if_pos ⟨hstate, htime⟩
  rw [heq, hauto]
  split
  · refine ⟨enterDetect_state _ _ _, (enterDetect_bundle _ _ _).2.trans hsent, (flag_congr ?_).trans hevent⟩
    exact reg_enterDetect _ 0 (by simp only; omega) (not_evfReg_of_link (by simp only; omega)) (by simp only; omega)
      (by simp only; omega)
  · exact ⟨hdown, hsent, hevent⟩

/-! ## The statement -/

/-- The row of a write of LN_CTRL.RETRY, for a lane that exists. -/
theorem exec_lnCtrlRetry {l : Nat} (hl : l < 144) (t : Nat) (r : Requester) (d : Nat) (s : State) :
    exec (.lnCtrlRetry t r l d) s = .next (accessW t r (F.LN_CTRL_LOOP l).addr (withBit d 31) s) :=
  congrArg (fun k => Host.Outcome.next (accessW t r (F.LN_CTRL_LOOP k).addr (withBit d 31) s)) (Nat.mod_eq_of_lt hl)

/-- The row of a write of B_LANES, for a bundle that exists. -/
theorem exec_laneEnWrite {b : Nat} (hb : b < 32) (t : Nat) (r : Requester) (d : Nat) (s : State) :
    exec (.laneEnWrite t r b d) s = .next (accessW t r (F.B_LANES_FIRST b).addr d s) :=
  congrArg (fun k => Host.Outcome.next (accessW t r (F.B_LANES_FIRST k).addr d s)) (Nat.mod_eq_of_lt hb)

/-- A word with one bit set keeps the others. -/
theorem bit_withBit_other (d : Nat) {i k : Nat} (hk : k < 32) (h : i ≠ k) : bit (word (withBit d k)) i = bit (word d) i := by
  have hword : word (withBit d k) = word d ||| word (2 ^ k) := by
    rw [withBit, word, BitVec.ofNat_toNat, BitVec.setWidth_eq]
  have hpow : (word (2 ^ k)).toNat = 2 ^ k := Nat.mod_eq_of_lt (Nat.pow_lt_pow_right (by decide) hk)
  rw [bit, bit, hword, BitVec.toNat_or, Nat.testBit_or, hpow, Nat.testBit_two_pow_of_ne h.symm, Bool.or_false]

/-- Settles O29: an AND of the offers that is not empty changes a mask alone; a lane lost is quarantined once, and RECOVERY can at
most have it train; the lanes that a switch leaves out do not change the AND. -/
theorem linkLanes : Obligations.LinkLanes := by
  refine ⟨fun t b m s _ hup hshared => ⟨_, rfl, laneOffer_taken (s := at' t s) hup hshared⟩,
    fun t b m s hup => ⟨_, rfl, laneTx_waits (s := at' t s) hup⟩,
    fun t b m s _ hmask => ⟨_, rfl, laneMaskSwitch_receives (s := at' t s) hmask⟩,
    fun t b m s hb hmask hoffers hm => ⟨_, rfl, ?_⟩,
    fun t l c m n b i s _ hof hactive => ⟨_, rfl, laneFault_loses (s := at' t s) hof hactive⟩,
    fun t l b i s _ hof hup hout hidle htime hon href =>
      ⟨_, rfl, laneRetrainAttempt_starts (s := at' t s) hof hup hout hidle htime hon href⟩,
    fun t l b i s _ hof hbusy honce => ⟨_, rfl, laneRetrainEnd_fails (s := at' t s) hof hbusy honce⟩,
    fun t l b i s _ hof hbusy _ hshared => ⟨_, rfl, laneRetrainEnd_offers (s := at' t s) hof hbusy hshared⟩,
    fun t r l d b i s hl hacc hstate hheld hof =>
      ⟨_, exec_lnCtrlRetry hl t r d s, lnCtrl_retries hl hacc hstate hheld (by rw [hof]; rfl)⟩,
    fun t r b d s hb hacc => ⟨_, exec_laneEnWrite hb t r d s, bLanes_stores hb hacc⟩,
    fun t r b d s hb hacc hon hsoft hwas => ⟨_, exec_bundleEnableWrite hb t r (withBit d 2) s, ?_⟩,
    fun t b s hb hstate htime => ⟨_, rfl, bundleDown_shows (s := at' t s) hb hstate htime⟩⟩
  · have hlt : m < 2 ^ 16 := hoffers ▸ offerAnd_lt s b
    have hforce := laneMaskSwitch_transmits (s := at' t s) hb hmask hoffers hm
    exact ⟨hforce.awaited, hforce.shown.trans (Nat.mod_eq_of_lt hlt).symm⟩
  · exact bCtrl_retrains hb hacc (by rwa [bit_withBit_other d (by decide) (by decide)])
      (by rwa [bit_withBit_other d (by decide) (by decide)]) (bit_withBit d (by decide)) hwas

end Sys2Proof.Machine
end

section
/-!
SUPPORT. What the operations of motion and safety leave of the drives: their counts, requests and latches, the number of the tick
and the Hall pattern stay, their events stay set, a lost speed model stays lost, and a mode is left by a change of mode alone
(10 R274, R283, R286, R297, R298; 12 R321 to R328).
-/

namespace Sys2Proof.Machine

-- The proofs are many and short: checked side by side, each on a stack of its own, they would pass the build's memory limit.
set_option Elab.async false

/-! ## The relation -/

/-- Registers of the drives that no shared operation of motion or safety writes: TICK_COUNT, MODE_REQ, the counts of faults and
GAL.FAULT_LATCH. -/
def driveRegs : List Nat :=
  [A.SCN_TICK_COUNT, F.MOT_MODE_REQ.addr, A.MOT_HALL_FAULTS, A.MOT_IDX_LOSSES, A.GAL_FAULT_LATCH]

/-- The address is none of those, nor that of the events or of the STATUS of MOT. -/
def driveFree (a : Nat) : Bool :=
  !(driveRegs.contains a) && decide (a ≠ F.MOT_EVT_RAW_GALV.addr) && decide (a ≠ F.MOT_STATUS_MODE.addr)

/-- The field lies beside a field of MOT.STATUS. -/
def besideField (f g : Fld) : Bool :=
  decide (f.addr ≠ g.addr) || decide (g.lo + g.len ≤ f.lo) || decide (f.lo + f.len ≤ g.lo)

/-- The field is none of those registers', nor an event of MOT, nor MODE or MODEL_VALID. -/
def driveFreeField (f : Fld) : Bool :=
  !(driveRegs.contains f.addr) && decide (f.addr ≠ F.MOT_EVT_RAW_GALV.addr) && besideField f F.MOT_STATUS_MODE &&
    besideField f F.MOT_STATUS_MODEL_VALID

/-- From `s` to `u` the drives keep their registers, the tick and the pattern, the events of MOT stay set, a speed model that is
lost stays lost, and mode `n` is not left. -/
structure DriveKept (n : Nat) (s u : State) : Prop where
  regs : ∀ a ∈ driveRegs, reg u a = reg s a
  tick : u.ctl.tick = s.ctl.tick
  tickAt : u.ctl.tickAt = s.ctl.tickAt
  pattern : u.ctl.mot.pattern = s.ctl.mot.pattern
  raised : ∀ i, rdBit s F.MOT_EVT_RAW_GALV.addr i = true → rdBit u F.MOT_EVT_RAW_GALV.addr i = true
  lost : modelValid s = false → modelValid u = false
  mode : motMode s = n → motMode u = n

namespace DriveKept
variable {n : Nat} {s u v : State}

theorem refl (s : State) : DriveKept n s s := ⟨fun _ _ => rfl, rfl, rfl, rfl, fun _ => id, id, id⟩

theorem trans (h : DriveKept n s u) (h' : DriveKept n u v) : DriveKept n s v :=
  ⟨fun a ha => (h'.regs a ha).trans (h.regs a ha), h'.tick.trans h.tick, h'.tickAt.trans h.tickAt, h'.pattern.trans h.pattern,
    fun i hi => h'.raised i (h.raised i hi), fun hl => h'.lost (h.lost hl), fun hm => h'.mode (h.mode hm)⟩

/-- What writes no register keeps what it keeps of the tick and the pattern. -/
theorem congr (h : DriveKept n s u) (hregs : v.regs = u.regs) (htick : v.ctl.tick = u.ctl.tick)
    (htickAt : v.ctl.tickAt = u.ctl.tickAt) (hpattern : v.ctl.mot.pattern = u.ctl.mot.pattern) : DriveKept n s v :=
  h.trans ⟨fun a _ => reg_congr hregs a, htick, htickAt, hpattern, fun _ hi => (rdBit_congr (reg_congr hregs _)).trans hi,
    fun hl => (flag_congr (reg_congr hregs _)).trans hl, fun hm => (rd_congr (reg_congr hregs _)).trans hm⟩

theorem ite {c : Prop} [Decidable c] (hu : DriveKept n s u) (hv : DriveKept n s v) : DriveKept n s (if c then u else v) := by
  split
  · exact hu
  · exact hv

/-- An operation made on a condition. -/
theorem ite_of_imp {c : Prop} [Decidable c] (hv : DriveKept n s v) (hu : DriveKept n s v → DriveKept n s u) :
    DriveKept n s (if c then u else v) := ite (hu hv) hv

theorem foldl {α : Type} {f : State → α → State} {l : List α} (h : DriveKept n s u)
    (hf : ∀ v, ∀ x ∈ l, DriveKept n s v → DriveKept n s (f v x)) : DriveKept n s (l.foldl f u) :=
  List.foldlRecOn (motive := DriveKept n s) l f h fun v hv x hx => hf v x hx hv

/-- An event of MOT that is set stays set. -/
theorem flag_event (h : DriveKept n s u) {f : Fld} (hf : flag s f = true) (ha : f.addr = F.MOT_EVT_RAW_GALV.addr := by rfl)
    (hl : f.len = 1 := by rfl) : flag u f = true := by
  obtain ⟨a, lo, len⟩ := f
  subst ha hl
  rw [← rdBit_eq_flag] at hf ⊢
  exact h.raised lo hf

/-! ## The operations that are shared -/

theorem ne_of_driveFree {a b : Nat} (ha : driveFree a = true) (hb : b ∈ driveRegs) : b ≠ a := by
  rintro rfl
  simp [driveFree, hb] at ha

theorem setReg (h : DriveKept n s u) (a : Nat) (w : Word) (ha : driveFree a = true := by decide) :
    DriveKept n s (setReg u a w) := by
  have hevents : F.MOT_EVT_RAW_GALV.addr ≠ a := by rintro rfl; exact absurd ha (by decide)
  have hstatus : F.MOT_STATUS_MODE.addr ≠ a := by rintro rfl; exact absurd ha (by decide)
  exact h.trans ⟨fun b hb => reg_setReg_other u a b w (ne_of_driveFree ha hb), rfl, rfl, rfl,
    fun i hi => (rdBit_congr (reg_setReg_other u a _ w hevents)).trans hi,
    fun hl => (flag_congr (f := F.MOT_STATUS_MODEL_VALID) (reg_setReg_other u a _ w hstatus)).trans hl,
    fun hm => (rd_congr (reg_setReg_other u a _ w hstatus)).trans hm⟩

theorem rd_wr_beside {f g : Fld} (hb : besideField f g = true) (hg : g.lo + g.len ≤ 32) (s : State) (v : Nat) :
    rd (Machine.wr s f v) g = rd s g := by
  simp only [besideField, Bool.or_eq_true, decide_eq_true_eq] at hb
  obtain (hne | hlo) | hhi := hb
  · exact rd_wr_reg s f g v (Ne.symm hne)
  · exact rd_wr_field s f g v hg (.inl hlo)
  · exact rd_wr_field s f g v hg (.inr hhi)

theorem wr (h : DriveKept n s u) (f : Fld) (v : Nat) (hf : driveFreeField f = true := by decide) : DriveKept n s (wr u f v) := by
  simp only [driveFreeField, Bool.and_eq_true, Bool.not_eq_true', decide_eq_true_eq] at hf
  obtain ⟨⟨⟨hregs, hevents⟩, hmode⟩, hvalid⟩ := hf
  have hne : ∀ b ∈ driveRegs, b ≠ f.addr := by
    rintro b hb rfl
    simp [hb] at hregs
  exact h.trans ⟨fun b hb => reg_wr_other u f v b (hne b hb), rfl, rfl, rfl,
    fun i hi => (rdBit_congr (reg_wr_other u f v _ (Ne.symm hevents))).trans hi,
    fun hl => by rwa [modelValid, flag, rd_wr_beside hvalid (by decide)],
    fun hm => by rwa [motMode, rd_wr_beside hmode (by decide)]⟩

theorem wrB (h : DriveKept n s u) (f : Fld) (b : Bool) (hf : driveFreeField f = true := by decide) : DriveKept n s (wrB u f b) :=
  h.wr f _ hf

theorem wrBit (h : DriveKept n s u) (a i : Nat) (b : Bool) (ha : driveFree a = true := by decide) :
    DriveKept n s (wrBit u a i b) := h.setReg a _ ha

/-- The speed model is lost. -/
theorem wr_lost (h : DriveKept n s u) : DriveKept n s (Machine.wr u F.MOT_STATUS_MODEL_VALID 0) :=
  h.trans ⟨fun b hb => reg_wr_other u _ _ b (by revert b; decide), rfl, rfl, rfl,
    fun i hi => (rdBit_congr (reg_wr_other u _ _ _ (by decide))).trans hi,
    fun _ => flag_wr_zero u _ (by decide) rfl,
    fun hm => by rwa [motMode, rd_wr_field u _ _ _ (by decide) (by decide)]⟩

/-- The mode changes, where mode `n` is not left. -/
theorem wr_mode (h : DriveKept n s u) (m : Nat) (hm : motMode u = n → m % 2 ^ F.MOT_STATUS_MODE.len = n) :
    DriveKept n s (Machine.wr u F.MOT_STATUS_MODE m) :=
  h.trans ⟨fun b hb => reg_wr_other u _ _ b (by revert b; decide), rfl, rfl, rfl,
    fun i hi => (rdBit_congr (reg_wr_other u _ _ _ (by decide))).trans hi,
    fun hl => by rwa [modelValid, flag, rd_wr_field u _ _ _ (by decide) (by decide)],
    fun hu => (rd_wr_same u _ m (by decide)).trans (hm hu)⟩

theorem bump (h : DriveKept n s u) (a : Nat) (ha : driveFree a = true ∧ driveFree (a + 4) = true := by decide) :
    DriveKept n s (bump u a) :=
  ite (h.setReg a _ ha.1) (ite h ((h.setReg a _ ha.1).setReg _ _ ha.2))

/-- The registers of the drives take no part in the count of dropped EVENT frames. -/
theorem not_evfReg {a : Nat} (ha : a ∈ driveRegs ∨ a = F.MOT_EVT_RAW_GALV.addr ∨ a = F.MOT_STATUS_MODE.addr) : ¬ evfReg a := by
  have hregs : ∀ a ∈ driveRegs, a ≠ A.IRQ_EVF_DROPPED ∧ a ≠ A.IRQ_EVF_DROPPED + 4 := by decide
  have hev : a ≠ A.IRQ_EVF_DROPPED ∧ a ≠ A.IRQ_EVF_DROPPED + 4 := by
    rcases ha with ha | rfl | rfl
    · exact hregs a ha
    · decide
    · decide
  exact not_or.2 hev

/-- An event sets a bit of its own EVT_RAW, and clears none. -/
theorem raise (h : DriveKept n s u) (f : Fld)
    (hf : f.addr - 0x10 + 0x10 ∉ driveRegs ∧ f.addr - 0x10 + 0x10 ≠ F.MOT_STATUS_MODE.addr := by decide) :
    DriveKept n s (raise u f) := by
  have hne : ∀ b ∈ driveRegs, b ≠ f.addr - 0x10 + 0x10 := by
    rintro b hb rfl
    exact hf.1 hb
  have hstatus := reg_raise_other u f F.MOT_STATUS_MODE.addr (not_evfReg (.inr (.inr rfl))) (Ne.symm hf.2)
  refine h.trans ⟨fun b hb => reg_raise_other u f b (not_evfReg (.inl hb)) (hne b hb), congrArg Ctl.tick (raise_ctl u f),
    congrArg Ctl.tickAt (raise_ctl u f), congrArg (·.mot.pattern) (raise_ctl u f), fun i hi => ?_,
    fun hl => (flag_congr (f := F.MOT_STATUS_MODEL_VALID) hstatus).trans hl, fun hm => (rd_congr hstatus).trans hm⟩
  rw [rdBit, Machine.raise, reg_raiseBits _ _ _ _ (not_evfReg (.inr (.inl rfl)))]
  split
  · rw [bit, BitVec.toNat_or, Nat.testBit_or]
    exact Bool.or_eq_true_iff.2 (.inl hi)
  · exact hi

theorem onMot (h : DriveKept n s u) (f : Mot → Mot) (hf : (f u.ctl.mot).pattern = u.ctl.mot.pattern := by rfl) :
    DriveKept n s (onMot u f) := h.congr rfl rfl rfl hf

theorem onGal (h : DriveKept n s u) (f : Gal → Gal) : DriveKept n s (onGal u f) := h.congr rfl rfl rfl rfl
theorem setSlot (h : DriveKept n s u) (k : Nat) (x : Slot) : DriveKept n s (setSlot u k x) := h.congr rfl rfl rfl rfl
theorem setLampEng (h : DriveKept n s u) (e : Nat) (x : LampEng) : DriveKept n s (setLampEng u e x) := h.congr rfl rfl rfl rfl
theorem lampRelease (h : DriveKept n s u) : DriveKept n s (lampRelease u) := h.congr rfl rfl rfl rfl
theorem stopScheduling (h : DriveKept n s u) : DriveKept n s (stopScheduling u) := h.congr rfl rfl rfl rfl
theorem withSaf (h : DriveKept n s u) (x : Saf) : DriveKept n s { u with saf := x } := h.congr rfl rfl rfl rfl

theorem onPath (h : DriveKept n s u) (b : Bool) (f : Path → Path) : DriveKept n s (onPath u b f) := by
  cases b <;> exact h.congr rfl rfl rfl rfl

/-! ## Lamps, slots and the galvanometer -/

theorem lampEngStart (h : DriveKept n s u) (e : Nat) : DriveKept n s (lampEngStart u e) :=
  (ite_of_imp h fun h => h.bump _).setLampEng e _

theorem lmpEdge (h : DriveKept n s u) (src : Nat) (rise : Bool) : DriveKept n s (lmpEdge u src rise) :=
  h.foldl fun _ e _ h => ite (ite (h.lampEngStart e) (ite (h.setLampEng e _) h)) h

theorem galActivate (h : DriveKept n s u) (on : Bool) : DriveKept n s (galActivate u on) :=
  ite (((h.wr _ _).wr _ _).onGal _) (((h.wr _ _).wr _ _).onGal _)

theorem slotDue (h : DriveKept n s u) (k : Nat) (old : Option Int) : DriveKept n s (slotDue u k old) := ite (h.setSlot k _) h

theorem slotRegs_free : ∀ k < 8, driveFree (A.SL_INTEG k) = true ∧ driveFree (A.SL_OUT k) = true := by decide

theorem slotRefresh (h : DriveKept n s u) {k : Nat} (hk : k < 8) : DriveKept n s (slotRefresh u k) := by
  obtain ⟨hinteg, hout⟩ := slotRegs_free k hk
  have hgal := ite_of_imp (c := k = 4) (h.wrBit A.SCN_STATUS k (slotWanted u k)) fun h => h.galActivate (slotWanted u k)
  exact ite h (ite (hgal.setSlot k _) (((hgal.setSlot k _).setReg _ _ hinteg).setReg _ _ hout))

theorem slotsRefresh (h : DriveKept n s u) : DriveKept n s (slotsRefresh u) :=
  (h.foldl fun _ _ hk h => h.slotRefresh (List.mem_range.1 hk)).wrB _ _

/-! ## The modes of the polygon -/

theorem modelLost (h : DriveKept n s u) : DriveKept n s (modelLost u) := ite (h.stopScheduling.raise _) h

theorem phaseClear (h : DriveKept n s u) : DriveKept n s (phaseClear u) := (h.wr _ _).onMot _

theorem modelDrop (h : DriveKept n s u) : DriveKept n s (modelDrop u) :=
  ite_of_imp (h.onMot _) fun h => (h.wr_lost.wr _ _).modelLost

/-- What a change of mode does beside the mode shown. -/
theorem setMode_of_shown {m : Nat} (h : DriveKept n s (Machine.wr u F.MOT_STATUS_MODE m)) (hne : m ≠ motMode u) :
    DriveKept n s (setMode u m) := by
  unfold Machine.setMode
  extract_lets old sum lastIq meas shown timed started low unphased turned due refreshed
  have htimed : DriveKept n s timed := (h.raise _).onMot _
  have hlow : DriveKept n s low :=
    ite_of_imp (ite_of_imp htimed fun h => (h.wr _ _).onMot _) fun h => (h.modelDrop.wr _ _).onMot _
  have hunphased : DriveKept n s unphased := ite_of_imp hlow fun h => h.phaseClear
  have hturned : DriveKept n s turned :=
    ite (hunphased.onMot _) (ite (hunphased.onMot _) (ite (hunphased.onMot _) (ite (hunphased.onMot _) hunphased)))
  have hdue : DriveKept n s due := ite ((hturned.slotDue _ _).slotDue _ _) (hturned.slotDue _ _)
  rw [if_neg hne]
  exact ite_of_imp hdue.slotsRefresh fun h => h.slotDue _ _

theorem setMode (h : DriveKept n s u) {m : Nat} (hm : motMode u = n → m % 2 ^ F.MOT_STATUS_MODE.len = n) :
    DriveKept n s (setMode u m) := by
  by_cases hsame : m = motMode u
  · rwa [Machine.setMode, if_pos hsame]
  · exact (h.wr_mode m hm).setMode_of_shown hsame

end DriveKept

/-- The mode set is in force. -/
theorem motMode_setMode (s : State) {m : Nat} (hm : m < 8) : motMode (setMode s m) = m := by
  by_cases hsame : m = motMode s
  · rw [setMode, if_pos hsame, hsame]
  · have hkept : DriveKept m (wr s F.MOT_STATUS_MODE m) (setMode s m) := (DriveKept.refl _).setMode_of_shown hsame
    exact hkept.mode ((rd_wr_same s _ m (by decide)).trans (Nat.mod_eq_of_lt hm))

/-- A speed model that is dropped is lost (10 R283). -/
theorem modelValid_modelDrop (s : State) : modelValid (modelDrop s) = false := by
  unfold modelDrop
  extract_lets u
  split
  · refine ((DriveKept.refl (n := 0) (wr u F.MOT_STATUS_MODEL_VALID 0)).wr _ _).modelLost.lost ?_
    exact flag_wr_zero u _ (by decide) rfl
  · next hvalid => exact Bool.eq_false_iff.2 hvalid

namespace DriveKept
variable {s u : State}

/-! ## Torque and safety: a polygon that is OFF stays OFF -/

theorem motStop (h : DriveKept 0 s u) : DriveKept 0 s (motStop u) := by
  unfold Machine.motStop
  split
  · exact h
  · next hoff =>
    have hshown := (DriveKept.refl (n := motMode u) u).wr F.MOT_STATUS_STOPPING 1 |>.wr F.MOT_STATUS_PHASE_PENDING 0
    refine (((h.wr _ _).wr _ _).setMode fun hzero => absurd ?_ hoff).onMot _
    exact (hshown.mode rfl).symm.trans hzero

theorem torqueOff (h : DriveKept 0 s u) : DriveKept 0 s (torqueOff u) :=
  have hgoal := ((h.wr F.MOT_STATUS_STOPPING 0).wr F.MOT_STATUS_PHASE_PENDING 0).onMot fun m => { m with goal := 0 }
  ite hgoal ((hgoal.wr F.MOT_STATUS_COASTING 1).setMode fun _ => rfl)

theorem ss1Start (h : DriveKept 0 s u) : DriveKept 0 s (ss1Start u) :=
  ite h (((((((h.withSaf _).wr _ _).wr _ _).setReg _ _).bump _).raise _).motStop)

theorem ss1End (h : DriveKept 0 s u) : DriveKept 0 s (ss1End u) := by
  unfold Machine.ss1End
  split
  · exact h
  · exact ((h.wr _ _).setReg _ _).withSaf _

theorem fbJudge (h : DriveKept 0 s u) (laser motor : Bool) : DriveKept 0 s (fbJudge u laser motor) :=
  h.foldl fun _ b _ h => h.onPath b _

theorem safLatch (h : DriveKept 0 s u) (a b : Bool) (cause : Nat) (q : Torque) : DriveKept 0 s (safLatch u a b cause q) := by
  unfold Machine.safLatch
  extract_lets newA newB latchedA latched torqueA torqueB stopped told saf ended
  have hlatched : DriveKept 0 s latched := ite_of_imp (ite_of_imp h fun h => h.wrBit _ _ _) fun h => h.wrBit _ _ _
  have htorque : DriveKept 0 s torqueB := ite_of_imp (ite_of_imp hlatched fun h => h.onPath _ _) fun h => h.onPath _ _
  have hstopped : DriveKept 0 s stopped := ite htorque.ss1End hlatched
  have hended : DriveKept 0 s ended := (((hstopped.lmpEdge _ _).raise _).withSaf _).wr _ _
  exact ite (ite_of_imp hended fun h => h.ss1Start) hstopped

theorem safOutputs (h : DriveKept 0 s u) : DriveKept 0 s (safOutputs u) := by
  unfold Machine.safOutputs
  extract_lets permit staA staB had fell laserWas torqueWas emit torque laser event saf inhibited lit off released
  have hlaser : DriveKept 0 s laser := (((((h.wrB _ _).wrB _ _).wrB _ _).wrB _ _).wrB _ _).wrB _ _
  have hinhibited : DriveKept 0 s inhibited := ite ((hlaser.raise _).withSaf _) hlaser
  have hlit : DriveKept 0 s lit := ite (hinhibited.lmpEdge _ _) (ite_of_imp hinhibited fun h => h.lmpEdge _ _)
  have hoff : DriveKept 0 s off := ite_of_imp hlit fun h => (h.raise _).torqueOff
  exact (ite_of_imp hoff fun h => h.lampRelease).fbJudge _ _

theorem safRefresh (h : DriveKept 0 s u) : DriveKept 0 s (safRefresh u) :=
  ite (safOutputs (ite_of_imp h fun h => h.safLatch _ _ _ _)) h

theorem envelopeJudge (h : DriveKept 0 s u) (b : Bool) : DriveKept 0 s (envelopeJudge u b) :=
  ite ((h.safLatch _ _ _ _).raise _) h

theorem speedJudge (h : DriveKept 0 s u) (index : Bool) : DriveKept 0 s (speedJudge u index) :=
  ite (h.withSaf _) (ite (h.withSaf _) (ite (ite (h.withSaf _) (h.withSaf _)) h))

theorem safSpeedRefresh (h : DriveKept 0 s u) : DriveKept 0 s (safSpeedRefresh u) :=
  ((h.speedJudge false).withSaf _).safRefresh

theorem safSpeedSample (h : DriveKept 0 s u) (index : Bool) : DriveKept 0 s (safSpeedSample u index) := by
  unfold Machine.safSpeedSample
  extract_lets own both
  have hown : DriveKept 0 s own := ite_of_imp h fun h => h.envelopeJudge false
  have hboth : DriveKept 0 s both := ite hown (hown.envelopeJudge true)
  exact ((hboth.speedJudge index).withSaf _).safRefresh

/-- MOTOR in both paths, and the outputs follow (12 R321). -/
theorem safMotor (h : DriveKept 0 s u) (q : Torque) : DriveKept 0 s (safMotor u q) := (h.safLatch _ _ _ _).safRefresh

end DriveKept

/-- Without torque the polygon is OFF (10 R298). -/
theorem motMode_torqueOff (s : State) : motMode (torqueOff s) = 0 := by
  unfold torqueOff
  extract_lets shown asked
  split
  · assumption
  · exact motMode_setMode _ (by decide)

end Sys2Proof.Machine
end

section
/-!
SUPPORT. What the faults of the polygon count, show and remove, the Hall edge, and the ends of its start steps and of its stop
(10 R269, R286, R288, R297, R298).
-/

namespace Sys2Proof.Machine

/-! ## Faults (10 R297, R298) -/

theorem DriveKept.motLatch {s u : State} (h : DriveKept 0 s u) (f : Fld)
    (hf : f.addr - 0x10 + 0x10 ∉ driveRegs ∧ f.addr - 0x10 + 0x10 ≠ F.MOT_STATUS_MODE.addr := by decide) :
    DriveKept 0 s (motLatch u f) := (h.wrBit A.MOT_FAULT_LATCH _ true).raise f hf

/-- A fault that is latched shows its event. -/
theorem flag_motLatch (s : State) (f : Fld) (ha : f.addr = F.MOT_EVT_RAW_GALV.addr := by rfl) (hl : f.len = 1 := by rfl)
    (hb : f.lo < 32 := by decide) : flag (motLatch s f) f = true :=
  flag_raise _ f (by rw [ha]; exact DriveKept.not_evfReg (.inr (.inl rfl))) (by rw [ha]; decide) hl hb

/-- After its latch a fault that removes torque at once keeps what the drives keep. -/
theorem motTrip_kept (s : State) (f : Fld) : DriveKept 0 (motLatch s f) (motTrip s f) := (DriveKept.refl _).torqueOff.safMotor _

/-- HALL_FAULT is counted and shown. -/
theorem hallFault_counts (s : State) :
    (reg (hallFault s) A.MOT_HALL_FAULTS).toNat = min ((reg s A.MOT_HALL_FAULTS).toNat + 1) 0xFFFFFFFF ∧
      flag (hallFault s) F.MOT_EVT_RAW_HALL_FAULT = true := by
  have hlatch := (DriveKept.refl (bump s A.MOT_HALL_FAULTS)).motLatch F.MOT_EVT_RAW_HALL_FAULT
  have htrip := motTrip_kept (bump s A.MOT_HALL_FAULTS) F.MOT_EVT_RAW_HALL_FAULT
  refine ⟨?_, htrip.flag_event (flag_motLatch _ _)⟩
  rw [hallFault, (hlatch.trans htrip).regs _ (by decide), reg_bump_toNat]

theorem hallFault_pattern (s : State) : (hallFault s).ctl.mot.pattern = s.ctl.mot.pattern := by
  have hlatch := (DriveKept.refl (bump s A.MOT_HALL_FAULTS)).motLatch F.MOT_EVT_RAW_HALL_FAULT
  rw [hallFault, (hlatch.trans (motTrip_kept _ _)).pattern, bump_ctl]

/-- IDX_LOST is counted and shown, and the speed model is lost. -/
theorem idxLost_counts (s : State) :
    (reg (idxLost s) A.MOT_IDX_LOSSES).toNat = min ((reg s A.MOT_IDX_LOSSES).toNat + 1) 0xFFFFFFFF ∧
      flag (idxLost s) F.MOT_EVT_RAW_IDX_LOST = true ∧ modelValid (idxLost s) = false := by
  have hlatch := (DriveKept.refl (bump s A.MOT_IDX_LOSSES)).motLatch F.MOT_EVT_RAW_IDX_LOST
  have hstop (u : State) : DriveKept 0 (modelDrop u) (safMotor (motStop (modelDrop u)) .stops) :=
    (DriveKept.refl _).motStop.safMotor _
  have hdrop (u : State) : DriveKept 0 u (modelDrop u) := (DriveKept.refl u).modelDrop
  have htrip : DriveKept 0 (motLatch (bump s A.MOT_IDX_LOSSES) F.MOT_EVT_RAW_IDX_LOST) (idxLost s) := (hdrop _).trans (hstop _)
  refine ⟨?_, htrip.flag_event (flag_motLatch _ _), (hstop _).lost (modelValid_modelDrop _)⟩
  rw [(hlatch.trans htrip).regs _ (by decide), reg_bump_toNat]

/-- START_FAIL is shown, and torque is removed. -/
theorem startFailed_shows (s : State) :
    flag (startFailed s) F.MOT_EVT_RAW_START_FAIL = true ∧ motMode (startFailed s) = 0 := by
  have htorque (u : State) : DriveKept 0 u (torqueOff u) := (DriveKept.refl u).torqueOff
  have hjudged (u : State) : DriveKept 0 u (safSpeedRefresh u) := (DriveKept.refl u).safSpeedRefresh
  exact ⟨((htorque _).trans (hjudged _)).flag_event (flag_motLatch _ _), (hjudged _).mode (motMode_torqueOff _)⟩

/-! ## Hall edges (10 R269, R297) -/

/-- The end of OPEN_SPIN at an edge leaves the pattern. -/
theorem openSpinEnd_pattern (s : State) : (openSpinEnd s).ctl.mot.pattern = s.ctl.mot.pattern := by
  unfold openSpinEnd
  split
  · exact ((DriveKept.refl (n := 3) s).setMode fun _ => rfl).pattern
  · rfl

/-- An edge to another pattern shows it. -/
theorem hallEdge_pattern {p : Nat} {s : State} (hon : sysOn s = true) (hp : p ≠ s.ctl.mot.pattern) :
    (hallEdge p s).ctl.mot.pattern = p := by
  have hedge : ¬ ((!(sysOn s)) = true ∨ p = s.ctl.mot.pattern) := by simp [hon, hp]
  unfold hallEdge
  rw [if_neg hedge]
  extract_lets old new bad e renewed judged
  have hjudged : judged.ctl.mot.pattern = renewed.ctl.mot.pattern := by
    dsimp only [judged]
    split
    · exact hallFault_pattern renewed
    · exact openSpinEnd_pattern renewed
  exact ((DriveKept.refl judged).safSpeedSample false).pattern.trans hjudged

/-- Edges that do not come while the polygon turns fast are a HALL_FAULT. -/
theorem hallEdgeTimeout_eq {s : State} (hmode : 2 ≤ motMode s) (hedges : s.ctl.mot.edges = 2)
    (hlate : s.ctl.mot.edge + 4 * s.ctl.mot.hall ≤ s.now) (hfast : openRpm s < hallSpeed s s.now) :
    hallEdgeTimeout s = hallFault s := if_pos ⟨hmode, hedges, hlate, hfast⟩

/-! ## Start steps, the loss of index and standstill (10 R286, R288, R297) -/

/-- ALIGN that has passed goes on where the rotor stands in sector 0 or 5, and fails elsewhere. -/
theorem alignEnd_eq {s : State} (hmode : motMode s = 1) (hgoal : 2 ≤ s.ctl.mot.goal)
    (hpassed : s.ctl.mot.stepAt + msec (rd s F.MOT_ALIGN_ALIGN_MS) ≤ s.now) :
    alignEnd s = if hallSector s s.ctl.mot.pattern ∈ [some 0, some 5] then setMode s 2 else startFailed s := by
  unfold alignEnd
  rw [if_pos ⟨hmode, hgoal, hpassed⟩]
  split
  · next h => simp [h]
  · next h => simp [h]
  · next hzero hfive => rw [if_neg (by simpa using ⟨hzero, hfive⟩)]

theorem alignEnd_ends {s : State} (hmode : motMode s = 1) (hgoal : 2 ≤ s.ctl.mot.goal)
    (hpassed : s.ctl.mot.stepAt + msec (rd s F.MOT_ALIGN_ALIGN_MS) ≤ s.now) :
    if hallSector s s.ctl.mot.pattern ∈ [some 0, some 5] then motMode (alignEnd s) = 2
    else flag (alignEnd s) F.MOT_EVT_RAW_START_FAIL = true ∧ motMode (alignEnd s) = 0 := by
  rw [alignEnd_eq hmode hgoal hpassed]
  split
  · exact motMode_setMode s (by decide)
  · exact startFailed_shows s

theorem startFailEvent_eq {s : State} (hmode : motMode s = 2) (hgoal : 3 ≤ s.ctl.mot.goal)
    (hpassed : s.ctl.mot.stepAt + msec (rd s F.MOT_OPEN_OPEN_MAX_MS) ≤ s.now) : startFailEvent s = startFailed s :=
  if_pos ⟨hmode, hgoal, hpassed⟩

theorem idxLostEvent_eq {s : State} {e : Nat} (hidx : s.ctl.mot.idx.head? = some e) (hvalid : modelValid s = true)
    (hlate : 2 * 65536 * e + 3 * s.ctl.mot.pred ≤ 2 * 65536 * s.now) : idxLostEvent s = idxLost s := by
  simp only [idxLostEvent, hidx]
  exact if_pos ⟨hvalid, hlate⟩

theorem standstillEvent_eq {s : State} (hstopping : flag s F.MOT_STATUS_STOPPING = true) (hmode : motMode s = 3)
    (hsp : s.ctl.mot.sp = 0) (hquiet : hallQuiet s s.ctl.mot.stepAt = true) : standstillEvent s = motStandstill s :=
  if_pos ⟨hstopping, hmode, hsp, hquiet⟩

/-- STATUS of the polygon that stands: the event and the goal lie elsewhere. -/
theorem reg_motStandstill (s : State) :
    reg (motStandstill s) F.MOT_STATUS_MODE.addr =
      reg (wr (wr (setMode s 0) F.MOT_STATUS_STOPPING 0) F.MOT_STATUS_STANDSTILL 1) F.MOT_STATUS_MODE.addr :=
  reg_raise_other _ _ _ (DriveKept.not_evfReg (.inr (.inr rfl))) (by decide)

/-- The polygon that stands is OFF, and its STATUS shows it. -/
theorem motStandstill_shows (s : State) :
    motMode (motStandstill s) = 0 ∧ flag (motStandstill s) F.MOT_STATUS_STANDSTILL = true ∧
      flag (motStandstill s) F.MOT_STATUS_STOPPING = false ∧ flag (motStandstill s) F.MOT_EVT_RAW_STANDSTILL = true := by
  refine ⟨?_, ?_, ?_, flag_raise _ _ (DriveKept.not_evfReg (.inr (.inl rfl))) (by decide) rfl (by decide)⟩
  · rw [motMode, rd_congr (f := F.MOT_STATUS_MODE) (reg_motStandstill s), rd_wr_field _ _ _ _ (by decide) (by decide),
      rd_wr_field _ _ _ _ (by decide) (by decide)]
    exact motMode_setMode s (by decide)
  · rw [flag_congr (f := F.MOT_STATUS_STANDSTILL) (reg_motStandstill s), flag_wr_one _ _ (by decide) rfl]
  · rw [flag_congr (f := F.MOT_STATUS_STOPPING) (reg_motStandstill s), flag_wr_field _ _ _ _ (by decide) (by decide),
      flag_wr_zero _ _ (by decide) rfl]

theorem coastingClear_eq {s : State} (hcoasting : flag s F.MOT_STATUS_COASTING = true) (hquiet : hallQuiet s 0 = true) :
    coastingClear s = wr s F.MOT_STATUS_COASTING 0 := if_pos ⟨hcoasting, hquiet⟩

end Sys2Proof.Machine
end

section
/-!
SUPPORT. Accepted writes of the registers of the drives: what a write of ones clears (02 R41), MODE_REQ and the FAULT_LATCHes (10 R286,
R299), with the statement on the modes of the polygon.
-/

namespace Sys2Proof.Machine

/-! ## Fields that a write of 1 clears (02 R41) -/

/-- Bit `i` lies in the field. -/
def FieldRow.holds (f : FieldRow) (i : Nat) : Bool := decide (f.lo ≤ i) && decide (i < f.lo + f.len)

theorem testBit_takeField (w d : Word) (f : FieldRow) {i : Nat} (hi : i < 32) :
    (takeField w d f).toNat.testBit i = if f.holds i then d.toNat.testBit i else w.toNat.testBit i := by
  rw [takeField, testBit_setFld _ _ _ _ _ hi]
  by_cases hf : f.lo ≤ i ∧ i < f.lo + f.len
  · have hin : i - f.lo < f.len := by omega
    simp [FieldRow.holds, hf, testBit_fld, hin]
  · rw [if_neg hf, if_neg (by simpa [FieldRow.holds] using hf)]

theorem testBit_foldl_takeField (d : Word) (l : List FieldRow) (w : Word) {i : Nat} (hi : i < 32) :
    (l.foldl (takeField · d) w).toNat.testBit i = if l.any (·.holds i) then d.toNat.testBit i else w.toNat.testBit i := by
  induction l generalizing w with
  | nil => rfl
  | cons f l ih =>
    rw [List.foldl_cons, ih, testBit_takeField w d f hi, List.any_cons]
    cases f.holds i <;> cases l.any (·.holds i) <;> rfl

/-- The mask of a register's fields holds the bits that lie in one of them. -/
theorem testBit_rowMask (l : RegLoc) {i : Nat} (hi : i < 32) : (rowMask l).toNat.testBit i = l.row.fields.any (·.holds i) := by
  rw [rowMask, testBit_foldl_takeField _ _ _ hi]
  have hones : (0xFFFFFFFF#32).toNat.testBit i = true := by
    rw [show (0xFFFFFFFF#32).toNat = 2 ^ 32 - 1 from rfl, Nat.testBit_two_pow_sub_one]
    exact decide_eq_true hi
  rw [hones, show (0#32).toNat = 0 from rfl, Nat.zero_testBit]
  cases l.row.fields.any (·.holds i) <;> rfl

/-- Bits that a mask clears. -/
theorem testBit_clear (w m : Word) {i : Nat} (hi : i < 32) :
    (w &&& ~~~ m).toNat.testBit i = (w.toNat.testBit i && !m.toNat.testBit i) := by
  simp only [BitVec.testBit_toNat, BitVec.getLsbD_and, BitVec.getLsbD_not, hi, decide_true, Bool.true_and]

/-- Fields that a write of 1 clears lose the bits written 1, one after the other. -/
theorem testBit_foldl_storeField_w1c {a : Nat} {d : Word} (l : List FieldRow) (hkind : ∀ f ∈ l, f.acc = .w1c) (s : State) {i : Nat}
    (hi : i < 32) :
    (reg (l.foldl (storeField a d) s) a).toNat.testBit i =
      ((reg s a).toNat.testBit i && !(d.toNat.testBit i && l.any (·.holds i))) := by
  induction l generalizing s with
  | nil => simp
  | cons f l ih =>
    have hstore : storeField a d s f = setReg s a (reg s a &&& ~~~ takeField 0#32 d f) := by
      simp [storeField, hkind f List.mem_cons_self]
    rw [List.foldl_cons, ih fun g hg => hkind g (List.mem_cons_of_mem f hg), hstore, reg_setReg_same, testBit_clear _ _ hi,
      testBit_takeField _ _ _ hi, List.any_cons]
    cases f.holds i <;> cases l.any (·.holds i) <;> simp

/-- A register of such fields keeps the bits that are not written 1 in a field. -/
theorem reg_storeReg_w1c (l : RegLoc) (hkind : ∀ f ∈ l.row.fields, f.acc = .w1c) (a : Nat) (d : Word) (s : State) :
    reg (storeReg l a d s) a = reg s a &&& ~~~ (d &&& rowMask l) := by
  refine BitVec.eq_of_getLsbD_eq fun i hi => ?_
  rw [← BitVec.testBit_toNat, ← BitVec.testBit_toNat, testBit_clear _ _ hi, BitVec.toNat_and, Nat.testBit_and, testBit_rowMask l hi]
  exact testBit_foldl_storeField_w1c l.row.fields hkind s hi

/-! ## Accepted writes -/

theorem ctl_ite (c : Prop) [Decidable c] (x y : State) : (if c then x else y).ctl = if c then x.ctl else y.ctl :=
  apply_ite State.ctl c x y

@[simp] theorem lockCount_ctl (p : Nat) (s : State) : (lockCount p s).ctl = s.ctl := by
  simp only [lockCount, ctl_ite, setReg_ctl, ite_self]

/-- Where a register of a drive lies: past the common header of its page, no window and no part of a wide value. -/
structure DriveReg (a p : Nat) (l : RegLoc) : Prop where
  aligned : busAddr a = a
  unwindowed : windowed a = false
  page : pageBase a = some p
  row : findReg a = some l
  base : l.pbase = p
  off : p ≠ 0x2000
  body : p + 0x40 ≤ a
  narrow : wideLow a = none
  unheld : heldWord a = false

/-- What an accepted write leaves of the drives and of the registers but the page's LOCK: what the register takes, and what chapter
10 says beside it. -/
theorem DriveReg.write {a p : Nat} {l : RegLoc} (h : DriveReg a p l) {t d : Nat} {r : Requester} {s : State}
    (hacc : Accepts t r a d s) :
    (accessW t r a d s).ctl = (pageAct p a (word d) (at' t s) (storeReg l a (word d) (at' t s))).ctl ∧
      ∀ b, b ≠ p + 0x2C →
        reg (accessW t r a d s) b = reg (pageAct p a (word d) (at' t s) (storeReg l a (word d) (at' t s))) b := by
  have hbody := h.body
  have hlock : (hasHeader p && decide (a = p + 0x2C)) = false := by simp; omega
  have hsoft : (hasHeader p && decide (a = p + 8) && bit (word d) 1) = false := by simp; omega
  have hdo : writeDo l a (word d) (at' t s) (at' t s) =
      pageAct p a (word d) (at' t s) (storeReg l a (word d) (at' t s)) := by
    unfold writeDo
    simp only [h.base]
    rw [if_neg (by omega), if_neg (by omega), if_neg (by omega), if_neg (by omega)]
  rw [hacc.write h.aligned h.unwindowed h.page h.row h.base hlock hsoft h.narrow h.unheld, hdo, lcAfter_off _ _ _ h.off]
  exact ⟨lockCount_ctl _ _, fun b hb => reg_lockCount _ _ _ hb⟩

/-! ## MODE_REQ (10 R286) -/

/-- A request for a mode leaves the registers that only writes and faults change. -/
theorem reg_modeRequest (s : State) (m : Nat) {a : Nat} (ha : a ∈ driveRegs) : reg (modeRequest s m) a = reg s a := by
  have hraise : reg (modeRaise s m) a = reg s a := by
    unfold modeRaise
    extract_lets cur shown held asked
    have hasked : DriveKept 1 s asked := ((DriveKept.refl s).wrB _ _).onMot _
    exact (DriveKept.ite (hasked.setMode fun _ => rfl) hasked).regs a ha
  have hlower : reg (modeLower s m) a = reg s a := (((DriveKept.refl (n := 0) s).wr _ _).onMot _).regs a ha
  unfold modeRequest
  rw [(DriveKept.refl _).safSpeedRefresh.regs a ha]
  split
  · exact (DriveKept.refl s).torqueOff.regs a ha
  · split
    · exact hraise
    · exact hlower

/-- Where MOT.MODE_REQ lies (10 R304). -/
def modeReqLoc : RegLoc := ⟨0x81000, 0, .ctl, ⟨0x044, 1, fun _ => 0x0, [⟨0, 3, .rw, [(5, 7)], false⟩]⟩, 0, 0⟩

theorem plainReg_modeReq : PlainReg F.MOT_MODE_REQ.addr 0x81000 modeReqLoc :=
  ⟨by decide, by decide, by decide, rfl, rfl, by decide, by decide, by decide, by decide, by decide⟩

theorem pageAct_modeReq (d : Word) (o s : State) :
    pageAct 0x81000 F.MOT_MODE_REQ.addr d o s = modeRequest s (rd s F.MOT_MODE_REQ) := rfl

theorem accessW_modeReq {t d : Nat} {r : Requester} {s : State} (hacc : Accepts t r F.MOT_MODE_REQ.addr d s) :
    rd (accessW t r F.MOT_MODE_REQ.addr d s) F.MOT_MODE_REQ = fld (word d) 0 3 :=
  plainReg_modeReq.fld_accessW ⟨0, 3, .rw, [(5, 7)], false⟩ hacc
    (fun o c => by rw [pageAct_modeReq, reg_modeRequest _ _ (by decide)]) (by decide) (by decide)

/-! ## The FAULT_LATCHes (10 R299) -/

/-- Where MOT.FAULT_LATCH lies (10 R304). -/
def motLatchLoc : RegLoc :=
  ⟨0x81000, 0, .ctl, ⟨0x088, 1, fun _ => 0x0, [⟨5, 1, .w1c, [], false⟩, ⟨4, 1, .w1c, [], false⟩, ⟨3, 1, .w1c, [], false⟩,
    ⟨2, 1, .w1c, [], false⟩, ⟨1, 1, .w1c, [], false⟩, ⟨0, 1, .w1c, [], false⟩]⟩, 0, 0⟩

/-- Where GAL.FAULT_LATCH lies (10 R305). -/
def galLatchLoc : RegLoc :=
  ⟨0x82000, 0, .ctl, ⟨0x098, 1, fun _ => 0x0, [⟨1, 1, .w1c, [], false⟩, ⟨0, 1, .w1c, [], false⟩]⟩, 0, 0⟩

theorem driveReg_motLatch : DriveReg A.MOT_FAULT_LATCH 0x81000 motLatchLoc :=
  ⟨by decide, by decide, by decide, rfl, rfl, by decide, by decide, by decide, by decide⟩

theorem driveReg_galLatch : DriveReg A.GAL_FAULT_LATCH 0x82000 galLatchLoc :=
  ⟨by decide, by decide, by decide, rfl, rfl, by decide, by decide, by decide, by decide⟩

theorem pageAct_motLatch (d : Word) (o s : State) : pageAct 0x81000 A.MOT_FAULT_LATCH d o s = s := rfl

theorem pageAct_galLatch (d : Word) (o s : State) :
    pageAct 0x82000 A.GAL_FAULT_LATCH d o s =
      slotsRefresh (if reg s A.GAL_FAULT_LATCH = 0#32 then wr s F.GAL_STATUS_SAFE 0 else s) := rfl

/-- An accepted write of a latch whose page's act leaves it clears its bits written 1. -/
theorem DriveReg.clears {a p : Nat} {l : RegLoc} (h : DriveReg a p l) (hkind : ∀ f ∈ l.row.fields, f.acc = .w1c)
    (hact : ∀ d o c, reg (pageAct p a d o c) a = reg c a) {t d : Nat} {r : Requester} {s : State} (hacc : Accepts t r a d s) :
    reg (accessW t r a d s) a = reg s a &&& ~~~ (word d &&& fieldBits a) := by
  have hbody := h.body
  obtain ⟨-, hreg⟩ := h.write hacc
  rw [hreg a (by omega), hact, reg_storeReg_w1c l hkind, fieldBits, h.row, reg_at']

theorem accessW_faultLatch {t d : Nat} {r : Requester} {x : Bool} {s : State}
    (hacc : Accepts t r (if x then A.GAL_FAULT_LATCH else A.MOT_FAULT_LATCH) d s) :
    reg (accessW t r (if x then A.GAL_FAULT_LATCH else A.MOT_FAULT_LATCH) d s)
        (if x then A.GAL_FAULT_LATCH else A.MOT_FAULT_LATCH) =
      reg s (if x then A.GAL_FAULT_LATCH else A.MOT_FAULT_LATCH) &&&
        ~~~ (word d &&& fieldBits (if x then A.GAL_FAULT_LATCH else A.MOT_FAULT_LATCH)) := by
  cases x with
  | false => exact driveReg_motLatch.clears (by decide) (fun d o c => by rw [pageAct_motLatch]) hacc
  | true =>
    refine driveReg_galLatch.clears (by decide) (fun d o c => ?_) hacc
    have hsafe : DriveKept 0 c (if reg c A.GAL_FAULT_LATCH = 0#32 then wr c F.GAL_STATUS_SAFE 0 else c) :=
      .ite ((DriveKept.refl c).wr _ _) (.refl c)
    rw [pageAct_galLatch, hsafe.slotsRefresh.regs _ (by decide)]

/-! ## The statement -/

/-- Settles O33: each end of a step is one change of mode or one fault, whose count, event and mode the operations after it leave, and
an accepted write takes its register. -/
theorem polygonModes : Obligations.PolygonModes := by
  refine ⟨fun t r d s hacc => ⟨_, rfl, accessW_modeReq hacc⟩, fun t s hmode hgoal hpassed => ⟨_, rfl, ?_⟩,
    fun t s hmode hgoal hpassed => ⟨_, rfl, ?_⟩, fun t e s hidx hvalid hlate => ⟨_, rfl, ?_⟩,
    fun t s hstopping hmode hsp hquiet => ⟨_, rfl, ?_⟩, fun t s hcoasting hquiet => ⟨_, rfl, ?_⟩,
    fun t r x d s hacc => ⟨_, rfl, accessW_faultLatch hacc⟩⟩
  · exact alignEnd_ends (s := at' t s) hmode hgoal hpassed
  · rw [startFailEvent_eq (s := at' t s) hmode hgoal hpassed]
    exact startFailed_shows _
  · rw [idxLostEvent_eq (s := at' t s) hidx hvalid hlate]
    exact idxLost_counts (at' t s)
  · rw [standstillEvent_eq (s := at' t s) hstopping hmode hsp hquiet]
    exact motStandstill_shows _
  · rw [coastingClear_eq (s := at' t s) hcoasting hquiet]
    exact flag_wr_zero _ _ (by decide) rfl

end Sys2Proof.Machine
end

section
/-!
SUPPORT. Acquisition leaves the drives: records, marks, sequences, tiles, the preview and the end of frames (07 R185 to R205; 15 R391;
19 R479), so that what settles before a tick leaves the number of the tick (07 R183; 20 R498).
-/

namespace Sys2Proof.Machine

-- The proofs are many and short: checked side by side, each on a stack of its own, they would pass the build's memory limit.
set_option Elab.async false

/-! ## Small updates -/

@[simp] theorem onAcq_ctl (s : State) (f : Acq → Acq) : (onAcq s f).ctl = s.ctl := rfl
@[simp] theorem onFrame_ctl (s : State) (n : Nat) (f : Frame → Frame) : (onFrame s n f).ctl = s.ctl := rfl
@[simp] theorem onSeq_ctl (s : State) (n : Nat) (f : Seq → Seq) : (onSeq s n f).ctl = s.ctl := rfl
@[simp] theorem onPair_ctl (s : State) (f : Pair → Pair) : (onPair s f).ctl = s.ctl := rfl
@[simp] theorem onPln_ctl (s : State) (f : Pln → Pln) : (onPln s f).ctl = s.ctl := rfl
@[simp] theorem onBuf_ctl (s : State) (n : Nat) (f : VidBuf → VidBuf) : (onBuf s n f).ctl = s.ctl := rfl
@[simp] theorem setLatest_ctl (s : State) (x : Option (Nat × Nat)) : (setLatest s x).ctl = s.ctl := rfl
@[simp] theorem setLampEng_ctl (s : State) (e : Nat) (x : LampEng) : (setLampEng s e x).ctl = s.ctl := rfl
@[simp] theorem pushRec_ctl (s : State) (i : Nat) (r : Rec) : (pushRec s i r).ctl = s.ctl := rfl
@[simp] theorem insertMark_ctl (s : State) (i : Nat) (m : Mark) : (insertMark s i m).ctl = s.ctl := rfl
@[simp] theorem stopScheduling_ctl (s : State) : (stopScheduling s).ctl = s.ctl := rfl
@[simp] theorem closeFrames_ctl (s : State) (stopped : Bool) : (closeFrames s stopped).ctl = s.ctl := rfl
@[simp] theorem pruneFrames_ctl (s : State) : (pruneFrames s).ctl = s.ctl := rfl
@[simp] theorem autoRestart_ctl (s : State) : (autoRestart s).ctl = s.ctl := rfl

@[simp] theorem lmpEdge_ctl (s : State) (src : Nat) (rise : Bool) : (lmpEdge s src rise).ctl = s.ctl :=
  foldl_keeps State.ctl (fun u e => by simp only [lampEngStart, ctl_ite, setLampEng_ctl, bump_ctl, ite_self]) _ s

@[simp] theorem grantWatch_ctl (o s : State) : (grantWatch o s).ctl = s.ctl := by
  simp only [grantWatch, ctl_ite, raise_ctl, ite_self]

@[simp] theorem planFrameBoundary_ctl (s : State) : (planFrameBoundary s).ctl = s.ctl := by
  simp only [planFrameBoundary, grantWatch_ctl, grantAdd, onPln_ctl]

/-! ## Sequences -/

@[simp] theorem pushSeq_ctl (s : State) (typ frame pos : Nat) (ws : List Word) : (pushSeq s typ frame pos ws).ctl = s.ctl :=
  foldl_keeps State.ctl (fun u _ => pushRec_ctl u _ _) _ s

@[simp] theorem pushRing_ctl (s : State) (e : RingEnt) : (pushRing s e).ctl = s.ctl :=
  foldl_keeps State.ctl (fun u _ => pushRec_ctl u _ _) _ s

@[simp] theorem feedFront_ctl (s : State) (num o : Nat) : (feedFront s num o).ctl = s.ctl := by
  unfold feedFront
  split
  · rfl
  · rw [onSeq_ctl, foldl_keeps State.ctl fun u m => pushSeq_ctl u _ _ _ _, foldl_keeps State.ctl pushRing_ctl]

@[simp] theorem feedSeq_ctl (num n : Nat) (s : State) : (feedSeq num n s).ctl = s.ctl := by
  induction n generalizing s with
  | zero => rfl
  | succ n ih =>
    unfold feedSeq
    split
    · rfl
    · simp only [ctl_ite, wr_ctl, onSeq_ctl, pushSeq_ctl, ih, foldl_keeps State.ctl pushRing_ctl, feedFront_ctl, ite_self]

@[simp] theorem feedAll_ctl (s : State) : (feedAll s).ctl = s.ctl := foldl_keeps State.ctl (fun u _ => feedSeq_ctl _ _ u) _ s

@[simp] theorem seqStop_ctl (s : State) : (seqStop s).ctl = s.ctl := by rw [seqStop, feedAll_ctl, onAcq_ctl]

/-! ## Tiles and the preview -/

@[simp] theorem pairSend_ctl (s : State) (sub bytes : Nat) (body : List Word) : (pairSend s sub bytes body).ctl = s.ctl := by
  unfold pairSend
  split
  · rw [queueFrame_ctl, onPair_ctl]
  · rfl

@[simp] theorem cmpTile_ctl (s : State) (r frame tile valid dsum : Nat) : (cmpTile s r frame tile valid dsum).ctl = s.ctl := by
  simp only [cmpTile, ctl_ite, onPair_ctl, pairSend_ctl, ite_self]

@[simp] theorem cmpEnd_ctl (s : State) (frame : Nat) (stopped : Bool) : (cmpEnd s frame stopped).ctl = s.ctl := by
  simp only [cmpEnd, cmpJudge, ctl_ite, raise_ctl, bump_ctl, onPair_ctl, pairSend_ctl, ite_self]

@[simp] theorem giveBuffer_ctl (s : State) (frame : Nat) : (giveBuffer s frame).ctl = s.ctl := by
  unfold giveBuffer
  split
  · simp only [onBuf_ctl, ctl_ite, setLatest_ctl, raise_ctl, bump_ctl, ite_self]
  · rfl

@[simp] theorem bufferEnd_ctl (s : State) (b : VidBuf) (i : Nat) (stopped : Bool) : (bufferEnd s b i stopped).ctl = s.ctl := by
  simp only [bufferEnd, ctl_ite, bump_ctl, setLatest_ctl, ite_self]

@[simp] theorem vidFrameEnd_ctl (s : State) (frame : Nat) (stopped : Bool) : (vidFrameEnd s frame stopped).ctl = s.ctl := by
  unfold vidFrameEnd
  split
  · rfl
  · next b _ =>
    extract_lets ended left
    have hended : ended.ctl = s.ctl := by
      dsimp only [ended]
      cases b.idx with
      | some i => exact bufferEnd_ctl s b i stopped
      | none => simp only [ctl_ite, raise_ctl, bump_ctl, ite_self]
    split
    · exact (giveBuffer_ctl _ _).trans hended
    · exact hended

/-! ## The end of a frame and what leaves with it -/

@[simp] theorem placeMark_ctl (s : State) (f : Frame) (m : Mark) : (placeMark s f m).ctl = s.ctl :=
  foldl_keeps State.ctl (fun u i => insertMark_ctl u i m) _ s

@[simp] theorem emitPos_ctl (s : State) (f : Frame) (pos : Nat) (l : List PixOut) : (emitPos s f pos l).ctl = s.ctl := by
  have hslice (u : State) (st : Nat) : (pushSlice u f.num pos l st).ctl = u.ctl := by
    simp only [pushSlice, ctl_ite, pushRec_ctl, ite_self]
  rw [emitPos, onFrame_ctl, foldl_keeps State.ctl fun u x => pushRec_ctl u _ _, foldl_keeps State.ctl hslice]

@[simp] theorem endFrame_ctl (s : State) (f : Frame) : (endFrame s f).ctl = s.ctl := by
  unfold endFrame
  extract_lets tiled streamed shown counted
  have htiled : tiled.ctl = s.ctl := by
    refine foldl_keeps State.ctl (fun u x => ?_) _ s
    split
    · rw [cmpTile_ctl, pushRec_ctl]
    · rfl
  have hstreamed : streamed.ctl = tiled.ctl := foldl_keeps State.ctl (fun u _ => pushRec_ctl u _ _) _ tiled
  have hcounted : counted.ctl = streamed.ctl := by simp only [counted, shown, ctl_ite, raise_ctl, bump_ctl, wr_ctl, ite_self]
  rw [pruneFrames_ctl, onFrame_ctl, cmpEnd_ctl, vidFrameEnd_ctl, hcounted, hstreamed, htiled]

@[simp] theorem flushFrame_ctl (num n : Nat) (s : State) : (flushFrame num n s).ctl = s.ctl := by
  induction n generalizing s with
  | zero => rfl
  | succ n ih =>
    unfold flushFrame
    split
    · rfl
    · split
      · rfl
      · dsimp only
        split
        · split
          · split
            · rw [ih, placeMark_ctl]
            · rfl
          · rw [ih, emitPos_ctl]
        · split
          · rw [ih, placeMark_ctl]
          · rfl
        · rw [ih, emitPos_ctl]
        · rw [ctl_ite, endFrame_ctl, ite_self]

@[simp] theorem pushHeads_ctl (s : State) (f : Frame) : (pushHeads s f).ctl = s.ctl :=
  foldl_keeps State.ctl (fun u _ => pushRec_ctl u _ _) _ s

@[simp] theorem flushList_ctl (l : List Frame) (s : State) : (flushList l s).ctl = s.ctl := by
  induction l generalizing s with
  | nil => rfl
  | cons f l ih => simp only [flushList, ctl_ite, ih, flushFrame_ctl, pushHeads_ctl, ite_self]

@[simp] theorem flushFrames_ctl (s : State) : (flushFrames s).ctl = s.ctl := by rw [flushFrames, feedAll_ctl, flushList_ctl]

/-! ## What settles before a tick -/

/-- The permission that returns leaves the number of the tick. -/
theorem refPermit_tick (s : State) : (refPermit s).ctl.tick = s.ctl.tick := by
  unfold refPermit
  split
  · exact (DriveKept.refl _).safRefresh.tick
  · rfl

theorem acqRefresh_tick (s : State) : (acqRefresh s).ctl.tick = s.ctl.tick := by
  unfold acqRefresh
  extract_lets on stopped shown quiet
  split
  · rfl
  · split
    · rw [autoRestart_ctl, lmpEdge_ctl, wr_ctl]
    · rw [refPermit_tick]
      simp only [quiet, shown, stopped, flushFrames_ctl, planFrameBoundary_ctl, stopScheduling_ctl, lmpEdge_ctl, onAcq_ctl, wr_ctl,
        seqStop_ctl, closeFrames_ctl]

theorem acqSettle_tick (s : State) : (acqSettle s).ctl.tick = s.ctl.tick := by
  unfold acqSettle
  extract_lets entered
  have hentered : entered.ctl.tick = s.ctl.tick := by
    dsimp only [entered]
    split
    · rw [enterRun, acqRefresh_tick, raise_ctl, wr_ctl, wr_ctl]
    · rfl
  split
  · rw [enableEffect, acqRefresh_tick, onAcq_ctl, hentered]
  · exact hentered

end Sys2Proof.Machine
end

section
/-!
SUPPORT. The number of a tick, and the trajectory port (10 R274, R295), with the statement on ticks, Hall edges and trajectories.
-/

namespace Sys2Proof.Machine

/-! ## Ticks (10 R274) -/

/-- The mirror that an active device sends leaves the drives. -/
theorem DriveKept.mirrorSend {s u : State} (h : DriveKept 0 s u) : DriveKept 0 s (mirrorSend u) := by
  have hwords (n : Nat) (v : State) : (freeWords n v).2.ctl = v.ctl ∧ (freeWords n v).2.regs = v.regs := by
    induction n generalizing v with
    | zero => exact ⟨rfl, rfl⟩
    | succ n ih => exact ih (takeFree v 32).2
  have hsend (v : State) (body : List Word) : (pairSend v 4 192 body).regs = v.regs := by
    unfold pairSend
    split <;> rfl
  obtain ⟨hctl, hregs⟩ := hwords 47 u
  have hsent := (pairSend_ctl (freeWords 47 u).2 4 192 (freeWords 47 u).1).trans hctl
  exact .ite (h.congr ((hsend _ _).trans hregs) (congrArg Ctl.tick hsent) (congrArg Ctl.tickAt hsent)
    (congrArg (·.mot.pattern) hsent)) h

/-- A tick ends with its number advanced and its instant noted; what follows leaves both. -/
theorem controlTick_counts {t : Nat} {s : State} (hticks : ticking s = true) :
    (controlTick t s).ctl.tick = s.ctl.tick + 1 ∧ reg (controlTick t s) A.SCN_TICK_COUNT = word (s.ctl.tick + 1) ∧
      (controlTick t s).ctl.tickAt = t := by
  unfold controlTick
  rw [if_pos hticks]
  extract_lets settled n mirrored due applied released phased sped driven swung ran drives numbered
  have hn : n = s.ctl.tick := acqSettle_tick s
  have hkept : DriveKept 0 numbered (mirrorSend (safSpeedRefresh (wrB numbered F.SCN_STATUS_HANDOVER (blending numbered)))) :=
    ((DriveKept.refl numbered).wrB _ _).safSpeedRefresh.mirrorSend
  have hshown : reg numbered A.SCN_TICK_COUNT = word (n + 1) := reg_setReg_same _ _ _
  rw [hkept.tick, hkept.regs _ (by decide), hkept.tickAt, hshown, ← hn]
  exact ⟨rfl, rfl, rfl⟩

theorem controlTick_idle {t : Nat} {s : State} (hticks : ticking s = false) : controlTick t s = s := by
  unfold controlTick
  rw [if_neg (by rw [hticks]; decide)]

/-! ## The trajectory port (10 R295) -/

/-- Where GAL.TBL_DATA lies (10 R305). -/
def galTblLoc : RegLoc := ⟨0x82000, 0, .ctl, ⟨0x078, 1, fun _ => 0x0, [⟨0, 32, .rw, [], false⟩]⟩, 0, 0⟩

theorem driveReg_galTbl : DriveReg A.GAL_TBL_DATA 0x82000 galTblLoc :=
  ⟨by decide, by decide, by decide, rfl, rfl, by decide, by decide, by decide, by decide⟩

/-- The port holds no value itself. -/
theorem storeReg_galTbl (d : Word) (s : State) : storeReg galTblLoc A.GAL_TBL_DATA d s = s := rfl

theorem pageAct_galTbl (d : Word) (o s : State) : pageAct 0x82000 A.GAL_TBL_DATA d o s = galTblWrite d s := rfl

theorem pageRead_galTbl (r : Requester) (s : State) :
    pageRead 0x82000 r A.GAL_TBL_DATA s =
      (pget 0#32 (lockCount 0x82000 s).ctl.gal.table (galTblIndex (lockCount 0x82000 s)), 0, galTblAdvance (lockCount 0x82000 s)) :=
  rfl

theorem rd_galTblAdvance (s : State) :
    rd (galTblAdvance s) F.GAL_TBL_ADDR_INDEX = (rd s F.GAL_TBL_ADDR_INDEX + 1) % 4096 := rd_wr_same _ _ _ (by decide)

/-- A point written is the point at TBL_ADDR. -/
theorem pget_galTblWrite (d : Word) (s : State) : pget 0#32 (galTblWrite d s).ctl.gal.table (galTblIndex s) = d :=
  pget_pset_same _ _ _ _

/-- An accepted write of TBL_DATA stores its point and advances INDEX. -/
theorem accessW_galTbl {t d : Nat} {r : Requester} {s : State} (hacc : Accepts t r A.GAL_TBL_DATA d s) :
    pget 0#32 (accessW t r A.GAL_TBL_DATA d s).ctl.gal.table (galTblIndex s) = word d ∧
      rd (accessW t r A.GAL_TBL_DATA d s) F.GAL_TBL_ADDR_INDEX = (rd s F.GAL_TBL_ADDR_INDEX + 1) % 4096 := by
  obtain ⟨hctl, hreg⟩ := driveReg_galTbl.write hacc
  rw [storeReg_galTbl, pageAct_galTbl] at hctl hreg
  rw [hctl, rd_congr (f := F.GAL_TBL_ADDR_INDEX) (hreg _ (by decide))]
  exact ⟨pget_galTblWrite (word d) (at' t s), rd_galTblAdvance _⟩

/-- A permitted read of TBL_DATA gives its point and advances INDEX. -/
theorem access_galTbl {t : Nat} {r : Requester} {s : State} (h : Readable t r A.GAL_TBL_DATA s) :
    (access t r A.GAL_TBL_DATA s).bus.lastRead = pget 0#32 s.ctl.gal.table (galTblIndex s) ∧
      rd (access t r A.GAL_TBL_DATA s) F.GAL_TBL_ADDR_INDEX = (rd s F.GAL_TBL_ADDR_INDEX + 1) % 4096 := by
  have hplace := driveReg_galTbl
  have hclock := clocked_of_readable h hplace.aligned hplace.unwindowed hplace.page
  have haddr (f : Fld) (hf : f.addr = F.GAL_TBL_ADDR_INDEX.addr) : rd (lockCount 0x82000 (at' t s)) f = rd s f :=
    rd_congr (reg_lockCount _ _ _ (by rw [hf]; decide))
  rw [access_page t r _ _ s h.1 hplace.aligned hplace.unwindowed hplace.page hclock, pageRead_galTbl]
  constructor
  · rw [busShow_lastRead, lockCount_ctl, at_ctl, galTblIndex, haddr F.GAL_TBL_ADDR_BANK rfl, haddr _ rfl, galTblIndex]
  · rw [rd_congr (reg_busShow _ _ _ _), rd_galTblAdvance, haddr _ rfl]

/-! ## The statement -/

/-- Settles O32: the number of the tick is written last but for what leaves it, an edge sets the pattern and a fault counts, and the
port passes its word to the table. -/
theorem controlTicks : Obligations.ControlTicks := by
  refine ⟨fun t s hticks => ⟨_, rfl, ?_⟩, fun t s hticks => congrArg Host.Outcome.next (controlTick_idle hticks),
    fun t p s hon hp => ⟨_, rfl, ?_⟩, fun t s hmode hedges hlate hfast => ⟨_, rfl, ?_⟩,
    fun t r d s hacc => ⟨_, rfl, accessW_galTbl hacc⟩, fun t r s h => ⟨_, rfl, access_galTbl h⟩⟩
  · exact controlTick_counts (s := at' t s) hticks
  · exact hallEdge_pattern (s := at' t s) hon hp
  · rw [hallEdgeTimeout_eq (s := at' t s) hmode hedges hlate hfast]
    exact hallFault_counts (at' t s)

end Sys2Proof.Machine
end

section
/-!
SUPPORT. The registers of the SDF page lie outside what a fault of the polygon writes: one lemma per operation of motion and safety
(10 R286, R297, R298; 12 R321 to R328), so that an OVERCURRENT leaves what an output has delivered (11 R311).
-/

namespace Sys2Proof.Machine

-- As with the drives: many short proofs side by side would pass the build's memory limit.
set_option Elab.async false

/-- The register lies on the SDF page. -/
def sdfReg (a : Nat) : Bool := decide (0x83000 ≤ a) && decide (a < 0x84000)

/-- From `s` to `u` the registers of the SDF page stay. -/
def SdfRegsKept (s u : State) : Prop := ∀ a, sdfReg a = true → reg u a = reg s a

namespace SdfRegsKept
variable {s u v : State}

theorem refl (s : State) : SdfRegsKept s s := fun _ _ => rfl

/-- What writes no register. -/
theorem congr (h : SdfRegsKept s u) (hregs : v.regs = u.regs) : SdfRegsKept s v :=
  fun a ha => (reg_congr hregs a).trans (h a ha)

theorem ite {c : Prop} [Decidable c] (hu : SdfRegsKept s u) (hv : SdfRegsKept s v) : SdfRegsKept s (if c then u else v) := by
  split
  · exact hu
  · exact hv

/-- An operation made on a condition. -/
theorem ite_of_imp {c : Prop} [Decidable c] (hv : SdfRegsKept s v) (hu : SdfRegsKept s v → SdfRegsKept s u) :
    SdfRegsKept s (if c then u else v) := ite (hu hv) hv

theorem foldl {α : Type} {f : State → α → State} {l : List α} (h : SdfRegsKept s u)
    (hf : ∀ v, ∀ x ∈ l, SdfRegsKept s v → SdfRegsKept s (f v x)) : SdfRegsKept s (l.foldl f u) :=
  List.foldlRecOn (motive := SdfRegsKept s) l f h fun v hv x hx => hf v x hx hv

/-! ## The operations that are shared -/

theorem ne_of_sdfReg {a b : Nat} (ha : sdfReg a = true) (hb : sdfReg b = false) : a ≠ b := by
  rintro rfl
  simp [hb] at ha

/-- The count of dropped EVENT frames lies on the IRQ page. -/
theorem not_evfReg {a : Nat} (ha : sdfReg a = true) : ¬ evfReg a :=
  not_or.2 ⟨ne_of_sdfReg ha (by decide), ne_of_sdfReg ha (by decide)⟩

theorem setReg (h : SdfRegsKept s u) (b : Nat) (w : Word) (hb : sdfReg b = false := by decide) : SdfRegsKept s (setReg u b w) :=
  fun a ha => (reg_setReg_other u b a w (ne_of_sdfReg ha hb)).trans (h a ha)

theorem wr (h : SdfRegsKept s u) (f : Fld) (n : Nat) (hf : sdfReg f.addr = false := by decide) : SdfRegsKept s (wr u f n) :=
  h.setReg _ _ hf

theorem wrB (h : SdfRegsKept s u) (f : Fld) (b : Bool) (hf : sdfReg f.addr = false := by decide) : SdfRegsKept s (wrB u f b) :=
  h.wr f _ hf

theorem wrBit (h : SdfRegsKept s u) (b i : Nat) (x : Bool) (hb : sdfReg b = false := by decide) : SdfRegsKept s (wrBit u b i x) :=
  h.setReg b _ hb

theorem bump (h : SdfRegsKept s u) (b : Nat) (hb : sdfReg b = false ∧ sdfReg (b + 4) = false := by decide) :
    SdfRegsKept s (bump u b) :=
  fun a ha => (reg_bump_other u b a (ne_of_sdfReg ha hb.1) (ne_of_sdfReg ha hb.2)).trans (h a ha)

theorem raise (h : SdfRegsKept s u) (f : Fld) (hf : sdfReg (f.addr - 0x10 + 0x10) = false := by decide) :
    SdfRegsKept s (raise u f) :=
  fun a ha => (reg_raise_other u f a (not_evfReg ha) (ne_of_sdfReg ha hf)).trans (h a ha)

theorem onPath (h : SdfRegsKept s u) (b : Bool) (f : Path → Path) : SdfRegsKept s (onPath u b f) :=
  fun a ha => (reg_onPath u b f a).trans (h a ha)

theorem slotDue (h : SdfRegsKept s u) (k : Nat) (old : Option Int) : SdfRegsKept s (slotDue u k old) :=
  fun a ha => (reg_slotDue u k old a).trans (h a ha)

theorem fbJudge (h : SdfRegsKept s u) (laser motor : Bool) : SdfRegsKept s (fbJudge u laser motor) :=
  fun a ha => (reg_fbJudge u laser motor a).trans (h a ha)

theorem onMot (h : SdfRegsKept s u) (f : Mot → Mot) : SdfRegsKept s (onMot u f) := h.congr rfl
theorem onGal (h : SdfRegsKept s u) (f : Gal → Gal) : SdfRegsKept s (onGal u f) := h.congr rfl
theorem setSlot (h : SdfRegsKept s u) (k : Nat) (x : Slot) : SdfRegsKept s (setSlot u k x) := h.congr rfl
theorem setLampEng (h : SdfRegsKept s u) (e : Nat) (x : LampEng) : SdfRegsKept s (setLampEng u e x) := h.congr rfl
theorem withSaf (h : SdfRegsKept s u) (x : Saf) : SdfRegsKept s { u with saf := x } := h.congr rfl

/-! ## Lamps, slots and the galvanometer -/

theorem lampEngStart (h : SdfRegsKept s u) (e : Nat) : SdfRegsKept s (lampEngStart u e) :=
  (ite_of_imp h fun h => h.bump _).setLampEng e _

theorem lmpEdge (h : SdfRegsKept s u) (src : Nat) (rise : Bool) : SdfRegsKept s (lmpEdge u src rise) :=
  h.foldl fun _ e _ h => ite (ite (h.lampEngStart e) (ite (h.setLampEng e _) h)) h

theorem galActivate (h : SdfRegsKept s u) (on : Bool) : SdfRegsKept s (galActivate u on) :=
  ite (((h.wr _ _).wr _ _).onGal _) (((h.wr _ _).wr _ _).onGal _)

theorem slotRegs_off : ∀ k < 8, sdfReg (A.SL_INTEG k) = false ∧ sdfReg (A.SL_OUT k) = false := by decide

theorem slotRefresh (h : SdfRegsKept s u) {k : Nat} (hk : k < 8) : SdfRegsKept s (slotRefresh u k) := by
  obtain ⟨hinteg, hout⟩ := slotRegs_off k hk
  have hgal := ite_of_imp (c := k = 4) (h.wrBit A.SCN_STATUS k (slotWanted u k)) fun h => h.galActivate (slotWanted u k)
  exact ite h (ite (hgal.setSlot k _) (((hgal.setSlot k _).setReg _ _ hinteg).setReg _ _ hout))

theorem slotsRefresh (h : SdfRegsKept s u) : SdfRegsKept s (slotsRefresh u) :=
  (h.foldl fun _ _ hk h => h.slotRefresh (List.mem_range.1 hk)).wrB _ _

/-! ## The polygon -/

theorem modelDrop (h : SdfRegsKept s u) : SdfRegsKept s (modelDrop u) :=
  ite_of_imp (h.onMot _) fun h => ite_of_imp ((h.wr _ _).wr _ _) fun h => (h.congr (v := stopScheduling _) rfl).raise _

theorem setMode (h : SdfRegsKept s u) (m : Nat) : SdfRegsKept s (setMode u m) := by
  unfold Machine.setMode
  extract_lets old sum lastIq meas shown timed started low unphased turned due refreshed
  have htimed : SdfRegsKept s timed := ((h.wr _ _).raise _).onMot _
  have hlow : SdfRegsKept s low :=
    ite_of_imp (ite_of_imp htimed fun h => (h.wr _ _).onMot _) fun h => (h.modelDrop.wr _ _).onMot _
  have hunphased : SdfRegsKept s unphased := ite_of_imp hlow fun h => (h.wr _ _).onMot _
  have hturned : SdfRegsKept s turned :=
    ite (hunphased.onMot _) (ite (hunphased.onMot _) (ite (hunphased.onMot _) (ite (hunphased.onMot _) hunphased)))
  have hdue : SdfRegsKept s due := ite ((hturned.slotDue _ _).slotDue _ _) (hturned.slotDue _ _)
  exact ite h (ite_of_imp hdue.slotsRefresh fun h => h.slotDue _ _)

theorem motStop (h : SdfRegsKept s u) : SdfRegsKept s (motStop u) := ite h ((((h.wr _ _).wr _ _).setMode 3).onMot _)

theorem torqueOff (h : SdfRegsKept s u) : SdfRegsKept s (torqueOff u) :=
  have hgoal := ((h.wr F.MOT_STATUS_STOPPING 0).wr F.MOT_STATUS_PHASE_PENDING 0).onMot fun m => { m with goal := 0 }
  ite hgoal ((hgoal.wr F.MOT_STATUS_COASTING 1).setMode 0)

/-! ## Safety -/

theorem ss1Start (h : SdfRegsKept s u) : SdfRegsKept s (ss1Start u) :=
  ite h (((((((h.withSaf _).wr _ _).wr _ _).setReg _ _).bump _).raise _).motStop)

theorem ss1End (h : SdfRegsKept s u) : SdfRegsKept s (ss1End u) := by
  unfold Machine.ss1End
  split
  · exact h
  · exact ((h.wr _ _).setReg _ _).withSaf _

theorem safLatch (h : SdfRegsKept s u) (a b : Bool) (cause : Nat) (q : Torque) : SdfRegsKept s (safLatch u a b cause q) := by
  unfold Machine.safLatch
  extract_lets newA newB latchedA latched torqueA torqueB stopped told saf ended
  have hlatched : SdfRegsKept s latched := ite_of_imp (ite_of_imp h fun h => h.wrBit _ _ _) fun h => h.wrBit _ _ _
  have htorque : SdfRegsKept s torqueB := ite_of_imp (ite_of_imp hlatched fun h => h.onPath _ _) fun h => h.onPath _ _
  have hstopped : SdfRegsKept s stopped := ite htorque.ss1End hlatched
  have hended : SdfRegsKept s ended := (((hstopped.lmpEdge _ _).raise _).withSaf _).wr _ _
  exact ite (ite_of_imp hended fun h => h.ss1Start) hstopped

theorem safOutputs (h : SdfRegsKept s u) : SdfRegsKept s (safOutputs u) := by
  unfold Machine.safOutputs
  extract_lets permit staA staB had fell laserWas torqueWas emit torque laser event saf inhibited lit off released
  have hlaser : SdfRegsKept s laser := (((((h.wrB _ _).wrB _ _).wrB _ _).wrB _ _).wrB _ _).wrB _ _
  have hinhibited : SdfRegsKept s inhibited := ite ((hlaser.raise _).withSaf _) hlaser
  have hlit : SdfRegsKept s lit := ite (hinhibited.lmpEdge _ _) (ite_of_imp hinhibited fun h => h.lmpEdge _ _)
  have hoff : SdfRegsKept s off := ite_of_imp hlit fun h => (h.raise _).torqueOff
  exact (ite_of_imp hoff fun h => h.congr (v := lampRelease _) rfl).fbJudge _ _

theorem safRefresh (h : SdfRegsKept s u) : SdfRegsKept s (safRefresh u) :=
  ite (safOutputs (ite_of_imp h fun h => h.safLatch _ _ _ _)) h

/-- A fault of the polygon that removes torque (10 R298). -/
theorem motTrip (h : SdfRegsKept s u) (f : Fld) (hf : sdfReg (f.addr - 0x10 + 0x10) = false := by decide) :
    SdfRegsKept s (motTrip u f) := (((h.wrBit A.MOT_FAULT_LATCH _ true).raise f hf).torqueOff.safLatch _ _ _ _).safRefresh

end SdfRegsKept

end Sys2Proof.Machine
end

section
/-!
SUPPORT. The current channels: samples, suppression and delivery of outputs, starts, the clock and its configuration (11 R306 to
R311).
-/

namespace Sys2Proof.Machine

/-! ## The registers of the channels (R316) -/

/-- Registers of the channels' blocks at different offsets differ. -/
theorem ne_of_offset {i j : Nat} (h : i % 0x40 ≠ j % 0x40) (c d : Nat) : i + 0x40 * c ≠ j + 0x40 * d := by omega

/-- The registers of the page's header and of SDF.CFG lie below the channels. -/
theorem ne_of_low {i a : Nat} (ha : a < 0x83100) (hi : 0x83100 ≤ i) (c : Nat) : i + 0x40 * c ≠ a := by omega

/-! ## The channels after an update -/

theorem sdfChan_congr {s u : State} (h : u.sdf = s.sdf) (c : Nat) : sdfChan u c = sdfChan s c := by rw [sdfChan, h, sdfChan]

@[simp] theorem sdfChan_setSdf_same (s : State) (c : Nat) (x : SdfChan) : sdfChan (setSdf s c x) c = x := pget_pset_same _ _ _ _

theorem sdfChan_setSdf_other (s : State) {c d : Nat} (x : SdfChan) (h : c ≠ d) : sdfChan (setSdf s d x) c = sdfChan s c :=
  pget_pset_other _ _ _ _ _ _ h

@[simp] theorem reg_setSdf (s : State) (c : Nat) (x : SdfChan) (a : Nat) : reg (setSdf s c x) a = reg s a := rfl

theorem sdfStuck_congr {s u : State} (h : reg u F.SDF_STATUS_STUCK.addr = reg s F.SDF_STATUS_STUCK.addr) (c : Nat) :
    sdfStuck u c = sdfStuck s c := by rw [sdfStuck, rd_congr h, sdfStuck]

/-- Samples change channels and no register (R307). -/
@[simp] theorem reg_sdfSamples (s : State) (c : Nat) (bits : List Bool) (a : Nat) : reg (sdfSamples s c bits) a = reg s a := by
  unfold sdfSamples
  refine foldl_keeps (reg · a) (fun u d => ?_) _ s
  dsimp only
  split <;> rfl

/-! ## What an output does (R309, R311) -/

/-- The channel once the samples of a decimation have left it and passed its filter. -/
def sdfFiltered (w : Word) (x : SdfChan) : SdfChan := (sdfFilter w { x with bits := x.bits.drop (2 ^ sdfLog w) } x.bits).1

section
variable {c : Nat} {bits : List Bool} {s : State} {x : SdfChan} (hc : c < 8) (hruns : sdfRuns s c = true)
  (hx : sdfChan (sdfSamples s c bits) c = x)
include hc hruns hx

/-- Samples short of a decimation wait. -/
theorem sdfOutput_short (hshort : x.bits.length < 2 ^ sdfLog (reg s (A.SDC_CFG c))) : sdfOutput c bits s = sdfSamples s c bits := by
  unfold sdfOutput
  rw [if_pos ⟨hc, hruns⟩]
  subst hx
  exact if_pos hshort

section
variable (hfull : 2 ^ sdfLog (reg s (A.SDC_CFG c)) ≤ x.bits.length)
include hfull

/-- While outputs are suppressed a decimation counts one of them off. -/
theorem sdfOutput_suppressed (hleft : x.left ≠ 0) :
    sdfOutput c bits s = setSdf (sdfSamples s c bits) c
      { sdfFiltered (reg s (A.SDC_CFG c)) x with left := x.left - 1 } := by
  unfold sdfOutput
  rw [if_pos ⟨hc, hruns⟩]
  subst hx
  exact (if_neg hfull.not_gt).trans (if_pos hleft)

/-- An output that is neither suppressed nor STUCK is delivered. -/
theorem sdfOutput_delivered (hleft : x.left = 0) (hstuck : sdfStuck s c = false) :
    sdfOutput c bits s = sdfDeliver (setSdf (sdfSamples s c bits) c (sdfFiltered (reg s (A.SDC_CFG c)) x)) c
      (rnd ((sdfFilter (reg s (A.SDC_CFG c)) x x.bits).2 * 65536)
        (2 ^ (sdfOrder (reg s (A.SDC_CFG c)) * sdfLog (reg s (A.SDC_CFG c))))) := by
  have hstuck' : ¬ sdfStuck (setSdf (sdfSamples s c bits) c (sdfFiltered (reg s (A.SDC_CFG c)) x)) c = true := by
    rw [sdfStuck_congr (s := s) (by simp), hstuck]
    exact Bool.false_ne_true
  unfold sdfOutput
  rw [if_pos ⟨hc, hruns⟩]
  subst hx
  exact (if_neg hfull.not_gt).trans ((if_neg (not_not.2 hleft)).trans (if_neg hstuck'))

end
end

/-! ## The detectors and I_TRIP leave what is delivered (R314; 10 R297) -/

/-- From `s` to `u` the output of channel `c` stands: its OUT, and that it has delivered. -/
structure OutputStands (c : Nat) (s u : State) : Prop where
  out : reg u (A.SDC_OUT c) = reg s (A.SDC_OUT c)
  given : (sdfChan u c).have' = (sdfChan s c).have'

theorem OutputStands.refl {c : Nat} (s : State) : OutputStands c s s := ⟨rfl, rfl⟩

theorem OutputStands.trans {c : Nat} {s u v : State} (h : OutputStands c s u) (h' : OutputStands c u v) : OutputStands c s v :=
  ⟨h'.out.trans h.out, h'.given.trans h.given⟩

theorem outputStands_wr {c : Nat} (s : State) (f : Fld) (n : Nat) (hf : A.SDC_OUT c ≠ f.addr) : OutputStands c s (wr s f n) :=
  ⟨reg_wr_other s f n _ hf, rfl⟩

section
variable {c : Nat} (hc : c < 8)
include hc

theorem sdfReg_out : sdfReg (A.SDC_OUT c) = true := by
  simp only [sdfReg, A.SDC_OUT, Bool.and_eq_true, decide_eq_true_eq]
  omega

theorem outputStands_raiseAt (s : State) (i : Nat) : OutputStands c s (raiseAt s F.SDF_EVT_RAW_DET_OVER i) :=
  ⟨reg_raiseAt_other _ _ _ _ (SdfRegsKept.not_evfReg (sdfReg_out hc)) (ne_of_low (by decide) (by decide) c),
    by rw [sdfChan_congr (raiseAt_sdf _ _ _)]⟩

theorem outputStands_detFlag (s : State) (v th : Nat) (f : Fld) (hf : A.SDC_OUT c ≠ f.addr) :
    OutputStands c s (detFlag s c v th f) := by
  unfold detFlag
  split
  · exact (outputStands_wr s f 1 hf).trans (outputStands_raiseAt hc _ c)
  · exact .refl s

theorem outputStands_peakEnv (s : State) (m : Nat) : OutputStands c s (peakEnv s c m) :=
  (outputStands_wr _ _ _ (ne_of_offset (by decide) c c)).trans <| (outputStands_wr _ _ _ (ne_of_offset (by decide) c c)).trans <|
    (outputStands_detFlag hc _ _ _ _ (ne_of_offset (by decide) c c)).trans <|
      outputStands_detFlag hc _ _ _ _ (ne_of_offset (by decide) c c)

theorem outputStands_rmsDet (s : State) (m : Nat) : OutputStands c s (rmsDet s c m) := by
  have hset (x : SdfChan) (hx : x.have' = (sdfChan s c).have') : OutputStands c s (setSdf s c x) :=
    ⟨rfl, by rw [sdfChan_setSdf_same, hx]⟩
  unfold rmsDet
  extract_lets x w r renewed
  split
  · exact hset _ rfl
  · have hrenewed : OutputStands c s renewed :=
      (hset { x with sum := 0, count := 0 } rfl).trans (outputStands_wr _ (F.SDC_RMS c) r (ne_of_offset (by decide) c c))
    exact hrenewed.trans (outputStands_detFlag hc _ _ _ _ (ne_of_offset (by decide) c c))

theorem outputStands_overcurrent (s : State) (m : Nat) : OutputStands c s (overcurrent s c m) := by
  have hmotion : MotionOnly s (motTrip s F.MOT_EVT_RAW_OVERCURRENT) :=
    ((((MotionOnly.refl s).wrBit _ _ _).raise _).torqueOff.safLatch _ _ _ _).safRefresh
  have hsdf : (motTrip s F.MOT_EVT_RAW_OVERCURRENT).sdf = s.sdf := congrArg (·.sdf) hmotion
  unfold overcurrent
  split
  · exact ⟨(SdfRegsKept.refl s).motTrip F.MOT_EVT_RAW_OVERCURRENT (by decide) _ (sdfReg_out hc), by rw [sdfChan_congr hsdf]⟩
  · exact .refl s

/-- An output that is delivered shows in OUT, and the channel has delivered. -/
theorem sdfDeliver_shows (s : State) (y : Int) :
    reg (sdfDeliver s c y) (A.SDC_OUT c) = iword y ∧ (sdfChan (sdfDeliver s c y) c).have' = true := by
  unfold sdfDeliver
  extract_lets m old shown counted
  have hstands : OutputStands c shown (overcurrent (rmsDet (peakEnv counted c m) c m) c m) :=
    (outputStands_wr _ _ _ (ne_of_offset (by decide) c c)).trans <| (outputStands_peakEnv hc _ _).trans <|
      (outputStands_rmsDet hc _ _).trans (outputStands_overcurrent hc _ _)
  have hchan : sdfChan shown c = { sdfChan s c with have' := true } := pget_pset_same _ _ _ _
  exact ⟨hstands.out.trans (reg_setReg_same _ _ _), by rw [hstands.given, hchan]⟩

end

/-! ## Starts (R311) -/

/-- A start writes ENV and STARTS of its channel, and leaves the configuration of the channels and all that lies below them. -/
theorem reg_sdfStart (s : State) (d : Nat) {a : Nat} (ha : a < 0x83100 ∨ a % 0x40 = 0) : reg (sdfStart s d) a = reg s a := by
  have henv : a ≠ A.SDC_ENV d := by dsimp only [A.SDC_ENV]; omega
  have hstarts : a ≠ A.SDC_STARTS d ∧ a ≠ A.SDC_STARTS d + 4 := by dsimp only [A.SDC_STARTS]; omega
  rw [sdfStart, reg_bump_other _ _ _ hstarts.1 hstarts.2, reg_setReg_other _ _ _ _ henv, reg_setSdf]

theorem sdfStart_sdf (s : State) (d : Nat) :
    (sdfStart s d).sdf = (setSdf s d ⟨List.replicate (sdfOrder (reg s (A.SDC_CFG d))) 0,
      List.replicate (sdfOrder (reg s (A.SDC_CFG d))) 0, sdfOrder (reg s (A.SDC_CFG d)), false, 0, 0, [], s.now⟩).sdf := by
  rw [sdfStart, bump_sdf, setReg_sdf]

/-- A channel that starts has N outputs to suppress. -/
theorem left_sdfStart (s : State) (c : Nat) : (sdfChan (sdfStart s c) c).left = sdfOrder (reg s (A.SDC_CFG c)) := by
  rw [sdfChan_congr (sdfStart_sdf s c), sdfChan_setSdf_same]

/-- The start of one channel leaves the others. -/
theorem sdfChan_sdfStart_other (s : State) {c d : Nat} (h : c ≠ d) : sdfChan (sdfStart s d) c = sdfChan s c := by
  rw [sdfChan_congr (sdfStart_sdf s d), sdfChan_setSdf_other _ _ h]

/-- A start is counted. -/
theorem starts_sdfStart (s : State) (c : Nat) :
    (reg (sdfStart s c) (A.SDC_STARTS c)).toNat = min ((reg s (A.SDC_STARTS c)).toNat + 1) 0xFFFFFFFF := by
  rw [sdfStart, reg_bump_toNat, reg_setReg_other _ _ _ _ (ne_of_offset (by decide) c c), reg_setSdf]

/-- Starts of enabled channels leave what each of them leaves. -/
theorem reg_sdfStartAll (s : State) {a : Nat} (ha : a < 0x83100 ∨ a % 0x40 = 0) : reg (sdfStartAll s) a = reg s a :=
  foldl_keeps (reg · a) (fun u d => by rw [reg_ite, reg_sdfStart u d ha, ite_self]) _ s

/-- Once a channel that is enabled has started, the starts of the channels leave it with N outputs to suppress. -/
theorem left_foldl_sdfStart {c : Nat} (l : List Nat) (s : State) (hen : flag s (F.SDC_CFG_ENABLE c) = true)
    (h : c ∈ l ∨ (sdfChan s c).left = sdfOrder (reg s (A.SDC_CFG c))) :
    (sdfChan (l.foldl (fun s d => if flag s (F.SDC_CFG_ENABLE d) then sdfStart s d else s) s) c).left =
      sdfOrder (reg s (A.SDC_CFG c)) := by
  induction l generalizing s with
  | nil => simpa using h
  | cons d l ih =>
    rw [List.foldl_cons]
    by_cases hd : flag s (F.SDC_CFG_ENABLE d) = true
    · have hcfg := reg_sdfStart s d (a := A.SDC_CFG c) (.inr (by dsimp only [A.SDC_CFG]; omega))
      rw [if_pos hd, ← hcfg]
      refine ih (sdfStart s d) ((flag_congr (f := F.SDC_CFG_ENABLE c) hcfg).trans hen) ?_
      rw [hcfg]
      by_cases heq : c = d
      · subst heq
        exact .inr (left_sdfStart s c)
      · rw [sdfChan_sdfStart_other s heq]
        exact h.imp_left fun hmem => (List.mem_cons.1 hmem).resolve_left heq
    · rw [if_neg hd]
      refine ih s hen (h.imp_left fun hmem => (List.mem_cons.1 hmem).resolve_left ?_)
      rintro rfl
      exact hd hen

theorem left_sdfStartAll {c : Nat} (hc : c ∈ List.range 8) (s : State) (hen : flag s (F.SDC_CFG_ENABLE c) = true) :
    (sdfChan (sdfStartAll s) c).left = sdfOrder (reg s (A.SDC_CFG c)) := left_foldl_sdfStart _ s hen (.inl hc)

/-! ## STUCK (R308) -/

theorem testBit_dropBit_same (n c : Nat) : (dropBit n c).testBit c = false := by
  unfold dropBit
  split
  · next h => simp [Nat.testBit_xor, h, Nat.testBit_two_pow_self]
  · next h => exact Bool.eq_false_iff.2 h

/-- The mask of the channels that are STUCK is written as given. -/
theorem sdfStuck_wr {c : Nat} (hc : c < 8) (s : State) (n : Nat) : sdfStuck (wr s F.SDF_STATUS_STUCK n) c = n.testBit c := by
  rw [sdfStuck, rd_wr_same _ _ _ (by decide), Nat.testBit_mod_two_pow, decide_eq_true hc, Bool.true_and]

/-- An event bit of several is set in its own EVT_RAW. -/
theorem rdBit_raiseAt (s : State) (f : Fld) (i : Nat) (hev : ¬ evfReg f.addr) (ha : 0x10 ≤ f.addr) (hi : f.lo + i < 32) :
    rdBit (raiseAt s f i) f.addr (f.lo + i) = true := by
  have haddr : f.addr = f.addr - 0x10 + 0x10 := by omega
  have hpow : 2 ^ (f.lo + i) < 2 ^ 32 := Nat.pow_lt_pow_right (by omega) hi
  rw [rdBit, raiseAt, reg_raiseBits _ _ _ _ hev, if_pos haddr, bit, BitVec.toNat_or, Nat.testBit_or, word, BitVec.toNat_ofNat,
    Nat.mod_eq_of_lt hpow, Nat.testBit_two_pow_self, Bool.or_true]

/-- A channel that sticks is STUCK, with its event. -/
theorem sdfStick_shows {c : Nat} {s : State} (hc : c < 8) (hruns : sdfRuns s c = true) (hstuck : sdfStuck s c = false) :
    sdfStuck (sdfStick c s) c = true ∧ rdBit (sdfStick c s) 0x83010 (F.SDF_EVT_RAW_STUCK.lo + c) = true := by
  rw [sdfStick, if_pos ⟨hc, hruns, by rw [hstuck]; rfl⟩]
  constructor
  · rw [sdfStuck_congr (reg_raiseAt_other _ _ _ _ (by simp [evfReg]) (by decide)), sdfStuck_wr hc, Nat.add_comm,
      Nat.testBit_two_pow_add_eq, ← sdfStuck, hstuck, Bool.not_false]
  · exact rdBit_raiseAt _ F.SDF_EVT_RAW_STUCK c (by simp [evfReg]) (by decide) (by dsimp only; omega)

/-- A channel whose transitions return is no longer STUCK, and starts. -/
theorem sdfUnstick_starts {c : Nat} {s : State} (hc : c < 8) (hstuck : sdfStuck s c = true) :
    sdfStuck (sdfUnstick c s) c = false ∧
      (reg (sdfUnstick c s) (A.SDC_STARTS c)).toNat = min ((reg s (A.SDC_STARTS c)).toNat + 1) 0xFFFFFFFF ∧
      (sdfChan (sdfUnstick c s) c).left = sdfOrder (reg s (A.SDC_CFG c)) := by
  have hlow (i : Nat) (hi : 0x83100 ≤ i) (n : Nat) : reg (wr s F.SDF_STATUS_STUCK n) (i + 0x40 * c) = reg s (i + 0x40 * c) :=
    reg_wr_other _ _ _ _ (ne_of_low (by decide) hi c)
  rw [sdfUnstick, if_pos ⟨hc, hstuck⟩]
  refine ⟨?_, ?_, ?_⟩
  · rw [sdfStuck_congr (reg_sdfStart _ _ (.inl (by decide))), sdfStuck_wr hc, testBit_dropBit_same]
  · rw [starts_sdfStart, hlow _ (by decide)]
  · rw [left_sdfStart, hlow _ (by decide)]

/-! ## The clock (R306) -/

/-- A lost clock clears CLK_OK and shows its event. -/
theorem sdfClkLost_shows {s : State} (hon : sysOn s = true) (hrec : sdfReceive s = true)
    (hok : flag s F.SDF_STATUS_CLK_OK = true) :
    flag (sdfClkLost s) F.SDF_STATUS_CLK_OK = false ∧ flag (sdfClkLost s) F.SDF_EVT_RAW_CLK_LOST = true := by
  rw [sdfClkLost, if_pos ⟨hon, hrec, hok⟩]
  refine ⟨?_, flag_raise _ _ (by simp [evfReg]) (by decide) rfl (by decide)⟩
  rw [flag_congr (f := F.SDF_STATUS_CLK_OK) (reg_raise_other _ _ _ (by simp [evfReg]) (by decide)),
    flag_wr_zero _ _ (by decide) rfl]

/-- A clock that returns sets CLK_OK, and the enabled channels start. -/
theorem sdfClkReturn_starts {s : State} (hon : sysOn s = true) (hrec : sdfReceive s = true)
    (hok : flag s F.SDF_STATUS_CLK_OK = false) :
    flag (sdfClkReturn s) F.SDF_STATUS_CLK_OK = true ∧
      ∀ c ∈ List.range 8, flag s (F.SDC_CFG_ENABLE c) = true →
        (sdfChan (sdfClkReturn s) c).left = sdfOrder (reg s (A.SDC_CFG c)) := by
  rw [sdfClkReturn, if_pos ⟨hon, hrec, by rw [hok]; rfl⟩]
  constructor
  · rw [flag_congr (f := F.SDF_STATUS_CLK_OK) (reg_sdfStartAll _ (.inl (by decide))), flag_wr_one _ _ (by decide) rfl]
  · intro c hc hen
    have hcfg : reg (wr s F.SDF_STATUS_CLK_OK 1) (A.SDC_CFG c) = reg s (A.SDC_CFG c) :=
      reg_wr_other _ _ _ _ (ne_of_low (by decide) (by decide) c)
    rw [left_sdfStartAll hc _ ((flag_congr (f := F.SDC_CFG_ENABLE c) hcfg).trans hen), hcfg]

/-! ## Its configuration (R306, R315) -/

/-- Where SDF.CFG lies (R315). -/
def sdfCfgLoc : RegLoc :=
  ⟨0x83000, 0, .ctl, ⟨0x040, 1, fun _ => 0, [⟨4, 1, .rw, [], false⟩, ⟨0, 1, .rw, [], false⟩]⟩, 0, 0⟩

theorem plainReg_sdfCfg : PlainReg F.SDF_CFG_CLK_SEL.addr 0x83000 sdfCfgLoc :=
  ⟨by decide, by decide, by decide, rfl, rfl, by decide, by decide, by decide, by decide, by decide⟩

theorem pageAct_sdfCfg (d : Word) (o s : State) :
    pageAct 0x83000 F.SDF_CFG_CLK_SEL.addr d o s = sdfAct F.SDF_CFG_CLK_SEL.addr d o s := rfl

theorem reg_sdfClock (s : State) {a : Nat} (ha : a ≠ F.SDF_STATUS_CLK_OK.addr) : reg (sdfClock s) a = reg s a := by
  rw [sdfClock, reg_ite, wrB, reg_wr_other _ _ _ _ ha, ite_self]

/-- The restarts that a change of the configuration brings leave it. -/
theorem reg_sdfAct_cfg (d : Word) (o s : State) :
    reg (sdfAct F.SDF_CFG_CLK_SEL.addr d o s) F.SDF_CFG_CLK_SEL.addr = reg s F.SDF_CFG_CLK_SEL.addr := by
  unfold sdfAct
  rw [if_neg (by decide)]
  split
  · rw [reg_sdfStartAll _ (.inl (by decide)), reg_sdfClock _ (by decide)]
  · rw [if_neg fun h => absurd h.1 (by decide)]

theorem accessW_sdfCfg {t d : Nat} {r : Requester} {s : State} {f : FieldRow} (hacc : Accepts t r F.SDF_CFG_CLK_SEL.addr d s)
    (hf : f ∈ fieldsAt F.SDF_CFG_CLK_SEL.addr) :
    fld (reg (accessW t r F.SDF_CFG_CLK_SEL.addr d s) F.SDF_CFG_CLK_SEL.addr) f.lo f.len = fld (word d) f.lo f.len := by
  rw [fieldsAt, plainReg_sdfCfg.row] at hf
  exact plainReg_sdfCfg.fld_accessW f hacc (fun o c => by rw [pageAct_sdfCfg, reg_sdfAct_cfg]) hf (by revert f; decide)

/-! ## The statement -/

/-- Settles O34: an output waits, is counted off or is delivered, and what follows a delivery leaves OUT; STUCK and the clock are
written where they show; a start is counted and no later one undoes it. -/
theorem currentChannels : Obligations.CurrentChannels := by
  refine ⟨fun t c l x s hc hruns hx hfull hleft => ⟨_, rfl, ?_⟩,
    fun t c l x s hc hruns hx hfull hleft hstuck => ⟨_, rfl, ?_⟩,
    fun t c l x s hc hruns hx hshort => congrArg Host.Outcome.next (sdfOutput_short (s := at' t s) hc hruns hx hshort),
    fun t c s hc hruns hstuck => ⟨_, rfl, sdfStick_shows (s := at' t s) hc hruns hstuck⟩,
    fun t c s hc hstuck => ⟨_, rfl, sdfUnstick_starts (s := at' t s) hc hstuck⟩,
    fun t s hon hrec hok => ⟨_, rfl, sdfClkLost_shows (s := at' t s) hon hrec hok⟩,
    fun t s hon hrec hok => ⟨_, rfl, sdfClkReturn_starts (s := at' t s) hon hrec hok⟩,
    fun t r d s f hacc hf _ => ⟨_, rfl, accessW_sdfCfg hacc hf⟩⟩
  · rw [sdfOutput_suppressed (s := at' t s) hc hruns hx hfull hleft]
    simp
  · rw [sdfOutput_delivered (s := at' t s) hc hruns hx hfull hleft hstuck]
    exact sdfDeliver_shows hc _ _

end Sys2Proof.Machine
end

section
/-!
SUPPORT. The life-cycle fuses along a step (20 R504 to R506).
-/

namespace Sys2Proof.Machine

/-- Settles O60: what every command keeps of the fuses holds of the step that takes it from the queue. -/
theorem fusesStayLegal : Obligations.FusesStayLegal := by
  intro s u hlegal hstep
  obtain ⟨_, _, keepsFuses⟩ := keep_step hstep
  exact keepsFuses hlegal

end Sys2Proof.Machine
end

section
/-!
SUPPORT. One access of a register past the header of its page, said once for every page off PWR (02 R34, R41, R50).
-/

namespace Sys2Proof.Machine

/-- Where a register lies that is CTRL of its page or lies past the common header, and is no window and no lower word. -/
structure BodyReg (a p : Nat) (l : RegLoc) : Prop where
  aligned : busAddr a = a
  unwindowed : windowed a = false
  page : pageBase a = some p
  row : findReg a = some l
  base : l.pbase = p
  off : p ≠ 0x2000
  place : a = p + 8 ∨ p + 0x40 ≤ a
  unheld : heldWord a = false

/-- `v` is `u` but for the LOCK of the page at `p` and what the register bus shows. -/
structure Written (p : Nat) (u v : State) : Prop where
  regs : ∀ b, b ≠ p + 0x2C → reg v b = reg u b
  rest : v = { u with regs := v.regs, bus := v.bus }

namespace Written
variable {p : Nat} {u v w : State}

theorem rd (h : Written p u v) (f : Fld) (hf : f.addr ≠ p + 0x2C) : rd v f = rd u f := rd_congr (h.regs _ hf)

theorem flag (h : Written p u v) (f : Fld) (hf : f.addr ≠ p + 0x2C) : flag v f = flag u f := flag_congr (h.regs _ hf)

/-- What counts in LOCK and what is shown of an access leave everything else. -/
theorem of_shown (p : Nat) (w : Word) (n : Nat) (r : Requester) (a : Nat) (s : State) :
    Written p s (busShow w n (latchDrop (lockCount p s) r a)) := by
  refine ⟨fun b hb => reg_lockCount p s b hb, ?_⟩
  unfold lockCount
  dsimp only
  split <;> rfl

end Written

/-- A write that is no soft reset. -/
theorem unreset_of {a p : Nat} {d : Word} (hsoft : a = p + 8 → bit d 1 = false) :
    (hasHeader p && decide (a = p + 8) && bit d 1) = false := by
  by_cases ha : a = p + 8
  · simp [hsoft ha]
  · simp [ha]

namespace BodyReg
variable {a p : Nat} {l : RegLoc} (h : BodyReg a p l)
include h

/-- A write stores the register and does what the page's own chapter says. -/
theorem writeDo_eq (d : Word) (o c : State) : writeDo l a d o c = pageAct p a d o (storeReg l a d c) := by
  have hplace := h.place
  unfold writeDo
  simp only [h.base]
  rw [if_neg (by omega), if_neg (by omega), if_neg (by omega), if_neg (by omega)]

theorem unlock : (hasHeader p && decide (a = p + 0x2C)) = false := by
  have hplace := h.place
  simp
  omega

/-- An accepted write leaves what the register takes and what the page's own chapter says beside it. -/
theorem written {t d : Nat} {r : Requester} {s : State} (hacc : Accepts t r a d s)
    (hsoft : a = p + 8 → bit (word d) 1 = false := by exact fun h => absurd h (by decide)) :
    Written p (pageAct p a (word d) (at' t s) (storeReg l a (word d) (lowerTaken r a (at' t s)))) (accessW t r a d s) := by
  obtain ⟨hidle, hclock, hcode⟩ := hacc.elim h.aligned h.unwindowed h.page
  rw [accessW_page t r a d p s hidle h.aligned h.unwindowed h.page hclock,
    pageWrite_of_code h.row h.base h.unlock (unreset_of hsoft) h.unheld hcode, h.writeDo_eq, lcAfter_off _ _ _ h.off]
  exact .of_shown _ _ _ _ _ _

/-- So does a write of a register that is no part of a wide value. -/
theorem written_narrow (hn : wideLow a = none) {t d : Nat} {r : Requester} {s : State} (hacc : Accepts t r a d s)
    (hsoft : a = p + 8 → bit (word d) 1 = false := by exact fun h => absurd h (by decide)) :
    Written p (pageAct p a (word d) (at' t s) (storeReg l a (word d) (at' t s))) (accessW t r a d s) := by
  have hwritten := h.written hacc hsoft
  rwa [show lowerTaken r a (at' t s) = at' t s by simp [lowerTaken, hn]] at hwritten

/-- A permitted read shows what the register gives, after LOCK has counted it, and what it changes. -/
theorem read {t : Nat} {r : Requester} {s : State} (hread : Readable t r a s) :
    access t r a s = busShow (readReg l r a (lockCount p (at' t s))).1 0 (readReg l r a (lockCount p (at' t s))).2 := by
  have hclock := clocked_of_readable hread h.aligned h.unwindowed h.page
  obtain ⟨⟨hheld, hset, hslow, hposted, hmon⟩, hcode⟩ := hread
  unfold busRead at hcode
  simp only [h.aligned, at_held, hheld, Bool.false_eq_true, if_false, busWait_idle (at' t s) hmon, h.unwindowed, h.page, hclock,
    Bool.not_true, pageRead] at hcode
  have hcheck : readCheck a (lockCount p (at' t s)) = 0 := by
    by_contra hne
    simp [hne] at hcode
  rw [access_page t r a p s ⟨hheld, hset, hslow, hposted, hmon⟩ h.aligned h.unwindowed h.page hclock, pageRead]
  simp only [hcheck, ne_eq, not_true_eq_false, if_false, h.row, lcAfter_off _ _ _ h.off]

end BodyReg

/-- An access that counts in LOCK changes no register but LOCK, and nothing else. -/
theorem lockCount_written (p : Nat) (s : State) : Written p s (lockCount p s) := by
  refine ⟨fun b hb => reg_lockCount p s b hb, ?_⟩
  unfold lockCount
  dsimp only
  split <;> rfl

/-- A field of one bit that a write stores reads as written. -/
theorem flag_stored_enable (s : State) (a : Nat) (d : Word) :
    flag (setReg s a (takeField (reg s a) d ⟨0, 1, .rw, [], false⟩)) ⟨a, 0, 1⟩ = bit d 0 := by
  unfold flag rd
  rw [reg_setReg_same]
  exact (congrArg (decide <| · = 1) (fld_takeField_same (f := ⟨0, 1, .rw, [], false⟩) (by decide) _ d)).trans (bit_eq_fld d 0).symm

/-- Whether SYS runs is a matter of the reset, the wipe and the power state. -/
theorem sysOn_congr {s u : State} (hheld : u.held = s.held) (hwiping : u.wiping = s.wiping)
    (hpower : reg u F.PWR_STATUS_STATE.addr = reg s F.PWR_STATUS_STATE.addr) : sysOn u = sysOn s := by
  have hstate : domRunning u .sys 0 = domRunning s .sys 0 := congrArg (fun n => decide (3 ≤ n)) (rd_congr hpower)
  rw [sysOn, sysOn, hstate, awake, awake, hheld, hwiping]

end Sys2Proof.Machine
end

section
/-!
SUPPORT. What a reset of the device leaves (20 R490, R491): the registers, the straps, CALSTORE and the fuses.
-/

namespace Sys2Proof.Machine

/-! ## A device reset -/

/-- The registers that a device reset does not leave at their reset values: the cause, what the straps set, ID_CLASH, and the
nominal increment. -/
def strapped : List Nat :=
  [F.GLB_RESET_CAUSE_POR.addr, F.CLK_REF_SEL_FREQ.addr, F.PAIR_ROLE_PAIR_ID.addr, F.PAIR_STATUS_ID_CLASH.addr,
    F.SDF_CFG_CLK_DIR.addr, A.NTM_INCR_NS]

/-- The state that a device reset begins from: the reset state with what R491 leaves. -/
def resetFrom (s : State) : State :=
  let z := State.reset
  { z with
    pending := s.pending, now := s.now, fresh := s.fresh, calstore := s.calstore,
    pwr := { z.pwr with freqSel := s.pwr.freqSel, pairId := s.pwr.pairId, lcState := s.pwr.lcState, lcLeft := s.pwr.lcLeft,
                        lcBegun := s.pwr.lcBegun, jtag := s.pwr.jtag } }

/-- The registers of a device reset that take the cause and the straps. -/
def resetStraps (s : State) (cause : Nat) : State :=
  wrB (wrB (setReg (resetFrom s) F.GLB_RESET_CAUSE_POR.addr (word (2 ^ cause))) F.CLK_REF_SEL_FREQ s.pwr.freqSel)
    F.PAIR_ROLE_PAIR_ID s.pwr.pairId

theorem deviceReset_eq (s : State) (cause : Nat) :
    deviceReset s cause =
      ntmReset (wrB (wrB (resetStraps s cause) F.PAIR_STATUS_ID_CLASH (flag s F.PAIR_STATUS_ID_CLASH)) F.SDF_CFG_CLK_DIR s.pwr.pairId) :=
  rfl

theorem reg_resetFrom (s : State) (a : Nat) : reg (resetFrom s) a = regReset a := rfl

theorem reg_ntmReset (s : State) (a : Nat) (ha : a ≠ A.NTM_INCR_NS) : reg (ntmReset s) a = reg s a :=
  reg_setReg_other s _ a _ ha

/-- Past the straps a device reset writes ID_CLASH, CLK_DIR and INCR_NS. -/
theorem reg_deviceReset_straps (s : State) (cause a : Nat)
    (ha : a ∉ [F.PAIR_STATUS_ID_CLASH.addr, F.SDF_CFG_CLK_DIR.addr, A.NTM_INCR_NS]) :
    reg (deviceReset s cause) a = reg (resetStraps s cause) a := by
  simp only [List.mem_cons, List.not_mem_nil, or_false, not_or] at ha
  obtain ⟨hclash, hdir, hincr⟩ := ha
  rw [deviceReset_eq, reg_ntmReset _ _ hincr, wrB, reg_wr_other _ _ _ _ hdir, wrB, reg_wr_other _ _ _ _ hclash]

/-- Every other register returns to its reset value. -/
theorem reg_deviceReset (s : State) (cause a : Nat) (ha : a ∉ strapped) : reg (deviceReset s cause) a = regReset a := by
  simp only [strapped, List.mem_cons, List.not_mem_nil, or_false, not_or] at ha
  obtain ⟨hcause, href, hrole, hclash, hdir, hincr⟩ := ha
  rw [reg_deviceReset_straps _ _ _ (by simp [hclash, hdir, hincr]), resetStraps, wrB, reg_wr_other _ _ _ _ hrole, wrB,
    reg_wr_other _ _ _ _ href, reg_setReg_other _ _ _ _ hcause, reg_resetFrom]

/-- RESET_CAUSE holds the bit of the cause. -/
theorem resetCause_deviceReset (s : State) (cause : Nat) :
    reg (deviceReset s cause) F.GLB_RESET_CAUSE_POR.addr = word (2 ^ cause) := by
  rw [reg_deviceReset_straps _ _ _ (by decide), resetStraps, wrB, reg_wr_other _ _ _ _ (by decide), wrB,
    reg_wr_other _ _ _ _ (by decide), reg_setReg_same]

/-- REF_SEL holds its strap. -/
theorem refSel_deviceReset (s : State) (cause : Nat) : rd (deviceReset s cause) F.CLK_REF_SEL_FREQ = b2n s.pwr.freqSel := by
  rw [rd_congr (reg_deviceReset_straps s cause _ (by decide)), resetStraps, wrB, rd_wr_reg _ _ _ _ (by decide), wrB,
    rd_wr_same _ _ _ (by decide)]
  cases s.pwr.freqSel <;> rfl

/-- PAIR.ROLE holds its strap. -/
theorem pairRole_deviceReset (s : State) (cause : Nat) : rd (deviceReset s cause) F.PAIR_ROLE_PAIR_ID = b2n s.pwr.pairId := by
  rw [rd_congr (reg_deviceReset_straps s cause _ (by decide)), resetStraps, wrB, rd_wr_same _ _ _ (by decide)]
  cases s.pwr.pairId <;> rfl

/-! ## What a reset leaves of everything -/

/-- Settles O53: the reset state is written out, and a device reset is the reset state with what R491 leaves. -/
theorem resetState : Obligations.ResetState := by
  refine ⟨?_, fun _ => rfl, fun t s a ha => ⟨_, rfl, reg_deviceReset _ _ _ ha, rfl, rfl, rfl⟩⟩
  rintro s rfl
  exact ⟨⟨rfl, rfl⟩, ⟨by decide, by decide, by decide, by simp [State.reset]⟩, rfl, rfl, rfl, rfl, rfl, rfl, by decide, by decide, by decide⟩

/-! ## A life-cycle transition that was begun -/

theorem lcFinish_none {s : State} (h : s.pwr.lcBegun = none) : lcFinish s = s := by simp [lcFinish, h]

theorem lcFinish_some {s : State} {x : Nat} (h : s.pwr.lcBegun = some x) :
    lcFinish s = { s with
      calstore := [],
      pwr := { s.pwr with lcState := x, lcLeft := s.pwr.lcLeft - (if x = 3 then 1 else 0), lcBegun := none } } := by
  simp [lcFinish, h]

/-- The state at an instant with the straps latched at their levels. -/
def strapsLatched (t : Nat) (freqSel pairId : Bool) (s : State) : State :=
  let s := at' t s
  { s with pwr := { s.pwr with freqSel := freqSel, pairId := pairId } }

/-- Power-on finishes what was begun and resets the device, of a cause that says so. -/
theorem exec_por (t : Nat) (a b : Bool) (s : State) :
    exec (.por t a b) s =
      .next (wr (deviceReset (lcFinish (strapsLatched t a b s)) (if (strapsLatched t a b s).pwr.lcBegun.isSome then 3 else 0))
        F.PAIR_STATUS_ID_CLASH 0) := rfl

/-! ## SOFT_RESET of GLB -/

/-- Where GLB.CTRL lies (02 R39). -/
def glbCtrlLoc : RegLoc := ⟨0, 0, .aon, ⟨0x008, 1, fun _ => 0x1, [⟨0, 1, .ro, [], false⟩, ⟨1, 1, .w1s, [], true⟩]⟩, 0, 0⟩

theorem findReg_glbCtrl : findReg 0x8 = some glbCtrlLoc := rfl

/-- A SOFT_RESET of GLB that no check refuses resets the device (20 R490). -/
theorem writeReg_glbCtrl {r : Requester} {s : State} (hcode : (writeReg glbCtrlLoc r 0x8 (word 2) s).1 = 0) :
    (writeReg glbCtrlLoc r 0x8 (word 2) s).2 = deviceReset s 2 := by
  have hlock : ¬ (hasHeader glbCtrlLoc.pbase = true ∧ (0x8 : Nat) = glbCtrlLoc.pbase + 0x2C) := by decide
  have hsoft : (hasHeader glbCtrlLoc.pbase && decide ((0x8 : Nat) = glbCtrlLoc.pbase + 8) && bit (word 2) 1) = true := by decide
  have hheld : heldWord 0x8 = false := by decide
  unfold writeReg at hcode ⊢
  simp only [hlock, if_false, hsoft, if_true, hheld, Bool.false_eq_true] at hcode ⊢
  split at hcode
  · next hne => exact absurd hcode hne
  · next heq => rw [if_neg heq]; rfl

/-- An accepted SOFT_RESET of GLB. -/
theorem accessW_glbSoftReset {t : Nat} {r : Requester} {s : State} (hacc : Accepts t r 0x000008 2 s) :
    ∃ w n, accessW t r 0x000008 2 s = busShow w n (deviceReset (at' t s) 2) := by
  obtain ⟨hidle, hclock, hcode⟩ := hacc.elim (p := 0) (by decide) (by decide) (by decide)
  have hpage : (pageWrite 0 r 0x8 (word 2) (at' t s)).2 = deviceReset (at' t s) 2 := by
    unfold pageWrite at hcode ⊢
    rw [findReg_glbCtrl] at hcode ⊢
    dsimp only at hcode ⊢
    rw [lcAfter_off 0 _ _ (by decide), writeReg_glbCtrl hcode]
  rw [accessW_page t r _ 2 0 s hidle (by decide) (by decide) (by decide) hclock, hpage]
  exact ⟨_, _, rfl⟩

/-! ## The release and the wipe (20 R491) -/

section
variable {a : Nat} (h : motionReg a = false)
include h

theorem reg_inputCauses (s : State) (b : Bool) : reg (inputCauses s b) a = reg s a := by
  unfold inputCauses
  dsimp only
  rw [reg_onPath]
  refine reg_ite_of_imp ?_ fun hs => (reg_safLatch h _ _ _ _ _).trans hs
  exact reg_ite_of_imp rfl fun hs => reg_safLatch h _ _ _ _ _

/-- The safety block wakes in its own registers. -/
theorem reg_safWake (s : State) (levels : Nat) : reg (safWake s levels) a = reg s a := by
  unfold safWake safInputs
  dsimp only
  rw [reg_safSpeedRefresh h, reg_setReg_motion h _ _ _ (by decide), reg_inputCauses h, reg_inputCauses h,
    reg_wr_motion h _ _ _ (by decide), reg_setReg_motion h _ _ _ (by decide), reg_setReg_motion h _ _ _ (by decide)]
  rfl

end

namespace MotionOnly
variable {s u : State}

theorem inputCauses (h : MotionOnly s u) (b : Bool) : MotionOnly s (inputCauses u b) := by
  unfold Machine.inputCauses
  extract_lets levels stopped opened
  exact (ite_of_imp (ite_of_imp h fun h => h.safLatch _ _ _ _) fun h => h.safLatch _ _ _ _).onPath _ _

theorem speedJudge (h : MotionOnly s u) (index : Bool) : MotionOnly s (speedJudge u index) :=
  ite (h.withSaf _) (ite (h.withSaf _) (ite (ite (h.withSaf _) (h.withSaf _)) h))

theorem safSpeedRefresh (h : MotionOnly s u) : MotionOnly s (safSpeedRefresh u) :=
  ((h.speedJudge false).withSaf _).safRefresh

theorem safWake (h : MotionOnly s u) (levels : Nat) : MotionOnly s (safWake u levels) :=
  ((((((h.withSaf _).setReg _ _).setReg _ _).wr _ _).inputCauses _).inputCauses _ |>.setReg _ _).safSpeedRefresh

end MotionOnly

/-- The end of the wipe shows in GLB.STATUS before the safety block wakes. -/
theorem exec_wipeDone {t n : Nat} {s : State} (hheld : s.held = false) (hwipe : s.wiping = true) :
    exec (.wipeDone t n) s =
      .next (safWake (raise (wr (wr { at' t s with wiping := false, pwr := { s.pwr with sramOn := false } }
        F.GLB_STATUS_WIPE_BUSY 0) F.GLB_STATUS_WIPE_DONE 1) F.GLB_EVT_RAW_WIPE_DONE) n) := by
  simp [exec, execWipeDone, hheld, hwipe]

/-- The wipe shows in GLB.STATUS, beside the registers of motion and safety. -/
theorem glbReg_quiet : motionReg F.GLB_STATUS_WIPE_BUSY.addr = false ∧ motionReg F.GLB_EVT_RAW_WIPE_DONE.addr = false := by decide

/-- Settles O50: each reset is a device reset of its cause, the wipe is shown before safety wakes, and JTAG takes what the state
allows. -/
theorem resets : Obligations.Resets := by
  obtain ⟨hstatus, hevent⟩ := glbReg_quiet
  refine ⟨fun t a b s hnone => ?_, fun t a b x s hbegun => ?_, fun t s => ⟨_, rfl, rfl, resetCause_deviceReset _ _, rfl⟩,
    fun t r s hacc => ?_, fun t s hheld => ?_, fun t n s hheld hwipe => ⟨_, exec_wipeDone hheld hwipe, ?_, ?_, ?_, ?_⟩,
    fun t k s => ⟨_, rfl, rfl⟩⟩
  · have hbegun : (strapsLatched t a b s).pwr.lcBegun = none := hnone
    rw [exec_por, hbegun, lcFinish_none hbegun]
    refine ⟨_, rfl, rfl, rfl, rfl, ?_, ?_, ?_⟩
    · rw [reg_wr_other _ _ _ _ (by decide)]
      exact resetCause_deviceReset _ _
    · rw [rd_wr_reg _ _ _ _ (by decide)]
      exact refSel_deviceReset _ _
    · rw [rd_wr_reg _ _ _ _ (by decide)]
      exact pairRole_deviceReset _ _
  · have hbegun' : (strapsLatched t a b s).pwr.lcBegun = some x := hbegun
    rw [exec_por, hbegun', lcFinish_some hbegun']
    refine ⟨_, rfl, rfl, rfl, rfl, rfl, ?_⟩
    rw [reg_wr_other _ _ _ _ (by decide)]
    exact resetCause_deviceReset _ _
  · obtain ⟨w, n, hreset⟩ := accessW_glbSoftReset hacc
    refine ⟨busShow w n (deviceReset (at' t s) 2), congrArg Host.Outcome.next hreset, rfl, ?_, rfl⟩
    rw [reg_busShow]
    exact resetCause_deviceReset _ _
  · have hheld' : (at' t s).held = true := hheld
    exact ⟨_, congrArg Host.Outcome.next (if_pos hheld'), rfl, rfl, flag_wr_one _ _ (by decide) rfl⟩
  · exact congrArg State.wiping (((MotionOnly.refl _).raise _).safWake n)
  · rw [flag_congr (reg_safWake hstatus _ _), flag_raise_other _ _ _ (not_evfReg_of_motionReg hstatus) (by decide),
      flag_wr_field _ _ _ _ (by decide) (by decide), flag_wr_zero _ _ (by decide) rfl]
  · rw [flag_congr (f := F.GLB_STATUS_WIPE_DONE) (reg_safWake hstatus _ _),
      flag_raise_other _ _ F.GLB_STATUS_WIPE_DONE (not_evfReg_of_motionReg hstatus) (by decide),
      flag_wr_one _ _ (by decide) rfl]
  · rw [flag_congr (reg_safWake hevent _ _), flag_raise _ _ (not_evfReg_of_motionReg hevent) (by decide) rfl (by decide)]

/-! ## Life-cycle requests (20 R505, R506) -/

/-- Where PWR.LC_REQ lies. -/
def lcReqLoc : RegLoc := ⟨0x2000, 0, .aon, ⟨0x058, 1, fun _ => 0x0, [⟨0, 4, .wo, [], true⟩]⟩, 0, 0⟩

theorem findReg_lcReq : findReg A.PWR_LC_REQ = some lcReqLoc := rfl

/-- With LOCK open only the page's own check refuses a request. -/
theorem writeCode_lcReq (d : Word) (s : State) (hlock : lockOpen s 0x2000 = true) :
    writeCode lcReqLoc A.PWR_LC_REQ d s s = pwrCheck A.PWR_LC_REQ d s := by
  have hprot : ¬ (protChange lcReqLoc A.PWR_LC_REQ d s = true ∧ (!(lockOpen s lcReqLoc.pbase)) = true) := by
    simp [lcReqLoc, hlock]
  have hshadow : shadowBusy lcReqLoc A.PWR_LC_REQ s = false := by simp [shadowBusy, lcReqLoc, A.PWR_LC_REQ]
  have hbad : (lcReqLoc.row.fields.any (fieldBad d) || pointBad lcReqLoc A.PWR_LC_REQ d s) = false := rfl
  have hbars : zeroingBars A.PWR_LC_REQ d s = false := by simp [zeroingBars, A.PWR_LC_REQ]
  have hcheck : checkA lcReqLoc.pbase A.PWR_LC_REQ d s = pwrCheck A.PWR_LC_REQ d s := rfl
  unfold writeCode
  rw [if_neg hprot, hshadow, hbad, hcheck, hbars]
  simp only [lcReqLoc, A.PWR_LC_REQ]
  simpa using Eq.symm

/-- The transitions that the fuses permit, by state and request. -/
theorem lcAllowed_iff (s : State) (x : Nat) :
    lcAllowed s x = true ↔
      (s.pwr.lcState, x) ∈ [(1, 2), (1, 3), (1, 4), (2, 4), (3, 2), (3, 4)] ∨ (s.pwr.lcState = 2 ∧ x = 3 ∧ 0 < s.pwr.lcLeft) := by
  unfold lcAllowed
  split
  all_goals simp_all
  omega

/-- An armed request in SLEEP, with no passage or transition in progress, meets only the fuses. -/
theorem pwrCheck_lcReq {d : Word} {s : State} (harmed : s.pwr.lcArmed = true) (hawake : awake s = true) (hsleep : pstate s = 1)
    (htrans : flag s F.PWR_STATUS_TRANSITION = false) (hbusy : flag s F.PWR_STATUS_LC_BUSY = false) :
    pwrCheck A.PWR_LC_REQ d s = if lcAllowed s (fld d 0 4) = true then 0 else 0x22 := by
  unfold pwrCheck lcIntrudes
  simp [harmed, hawake, hsleep, htrans, hbusy, A.PWR_LC_REQ, A.PWR_LC_KEY]

/-- The clock of the PWR page runs whenever the device is out of reset. -/
theorem clocked_lcReq {t : Nat} {s : State} (hidle : BusIdle s) : clocked A.PWR_LC_REQ (at' t s) = true := by
  obtain ⟨hheld, -⟩ := hidle
  rw [show clocked A.PWR_LC_REQ (at' t s) = !(at' t s).held from rfl, at_held, hheld, Bool.not_false]

theorem lcReq_unlock (d : Word) : (hasHeader 0x2000 && decide (A.PWR_LC_REQ = 0x2000 + 0x2C)) = false ∧
    (hasHeader 0x2000 && decide (A.PWR_LC_REQ = 0x2000 + 8) && bit d 1) = false :=
  ⟨by decide, by simp [A.PWR_LC_REQ]⟩

theorem lcBegun_lcAfter (p : Nat) (k : Bool) (s : State) : (lcAfter p k s).pwr.lcBegun = s.pwr.lcBegun := by
  unfold lcAfter lcDisarm
  split <;> rfl

theorem lockCount_pwr (p : Nat) (s : State) : (lockCount p s).pwr = s.pwr := by
  rw [(lockCount_written p s).rest]

/-- A request that no check refuses begins its transition. -/
theorem accessW_lcReq {t d : Nat} {r : Requester} {s : State} (hidle : BusIdle s)
    (hcode : writeCode lcReqLoc A.PWR_LC_REQ (word d) (at' t s) (at' t s) = 0) :
    (accessW t r A.PWR_LC_REQ d s).bus.lastErr = 0 ∧
      (accessW t r A.PWR_LC_REQ d s).pwr.lcBegun = some (fld (word d) 0 4) := by
  obtain ⟨hlock, hsoft⟩ := lcReq_unlock (word d)
  rw [accessW_page t r _ d 0x2000 s hidle (by decide) (by decide) (by decide) (clocked_lcReq hidle),
    pageWrite_accepted 0x2000 r _ (word d) _ lcReqLoc findReg_lcReq rfl hlock hsoft (by decide) (by decide) hcode rfl]
  refine ⟨rfl, (lcBegun_lcAfter _ _ _).trans ?_⟩
  rw [show ∀ u : State, (latchDrop u r A.PWR_LC_REQ).pwr = u.pwr from fun _ => rfl, lockCount_pwr]
  rfl

/-- A request that the page's check refuses begins nothing. -/
theorem accessW_lcReq_refused {t d : Nat} {r : Requester} {s : State} (hidle : BusIdle s)
    (hcode : writeCode lcReqLoc A.PWR_LC_REQ (word d) (at' t s) (at' t s) = 0x22) :
    (accessW t r A.PWR_LC_REQ d s).bus.lastErr = 0x22 ∧ (accessW t r A.PWR_LC_REQ d s).pwr.lcBegun = s.pwr.lcBegun := by
  obtain ⟨hlock, hsoft⟩ := lcReq_unlock (word d)
  rw [accessW_refused_eq t r _ d 0x22 s lcReqLoc hidle (by decide) (by decide) (by decide) (clocked_lcReq hidle) findReg_lcReq
    hlock hsoft hcode (by decide)]
  refine ⟨rfl, (lcBegun_lcAfter _ _ _).trans ?_⟩
  rw [lockCount_pwr, writeRefused, if_neg (by decide), if_neg (by decide), recErr_pwr, at_pwr]

/-- Settles O56: with the key written and in SLEEP, what the fuses permit decides a request. -/
theorem lifeCycleTransitions : Obligations.LifeCycleTransitions := by
  refine ⟨fun t r d s hidle hlock harmed hwipe hsleep htrans hbusy => ⟨_, rfl, ?_⟩, fun t x s hbusy hbegun => ?_,
    fun s hs => by rw [hs]; rfl⟩
  · have hawake : awake (at' t s) = true := by
      obtain ⟨hheld, -⟩ := hidle
      simp [awake, hheld, hwipe]
    have hcode := (writeCode_lcReq (word d) (at' t s) hlock).trans (pwrCheck_lcReq harmed hawake hsleep htrans hbusy)
    split
    · next hmay =>
      rw [if_pos ((lcAllowed_iff (at' t s) _).2 hmay)] at hcode
      exact accessW_lcReq hidle hcode
    · next hnot =>
      rw [if_neg fun h => hnot ((lcAllowed_iff (at' t s) _).1 h)] at hcode
      exact accessW_lcReq_refused hidle hcode
  · have hbusy' : flag (at' t s) F.PWR_STATUS_LC_BUSY = true := hbusy
    have hbegun' : (at' t s).pwr.lcBegun = some x := hbegun
    refine ⟨_, congrArg Host.Outcome.next (if_pos hbusy'), ?_⟩
    rw [lcFinish_some hbegun']
    exact ⟨rfl, rfl, rfl⟩

end Sys2Proof.Machine
end

section
/-!
SUPPORT. What motion and the lamps leave of the safety block, and what a refresh of the safety block leaves: the inputs of the paths,
the registers of other pages, and in its own page everything but the outputs, latches that are set and events (10 R285 to R298;
12 R321 to R327).
-/

namespace Sys2Proof.Machine

-- As with the drives: many short proofs side by side would pass the build's memory limit.
set_option Elab.async false

/-! ## Motion and lamps -/

/-- The registers that motion and lamp engines write: EVF_DROPPED with its OVF word, the event of ESC, the pages of SCN, MOT and
GAL, and ENG_RESTARTS with its OVF word. -/
def driveWord (a : Nat) : Bool :=
  decide (a = A.IRQ_EVF_DROPPED) || decide (a = A.IRQ_EVF_DROPPED + 4) || decide (a = F.ESC_EVT_RAW_MODEL_INVALID.addr)
    || (decide (0x80000 ≤ a) && decide (a < 0x83000)) || decide (a = A.LMP_ENG_RESTARTS) || decide (a = A.LMP_ENG_RESTARTS + 4)

/-- From `s` to `u` the safety block and every register but those stay. -/
structure MotionKept (s u : State) : Prop where
  regs : ∀ a, driveWord a = false → reg u a = reg s a
  saf : u.saf = s.saf

theorem ne_of_driveWord {a b : Nat} (ha : driveWord a = false) (hb : driveWord b = true) : a ≠ b := by
  rintro rfl
  simp [hb] at ha

theorem not_evfReg_of_driveWord {a : Nat} (ha : driveWord a = false) : ¬ evfReg a :=
  not_or.2 ⟨ne_of_driveWord ha (by decide), ne_of_driveWord ha (by decide)⟩

namespace MotionKept
variable {s u v : State}

theorem refl (s : State) : MotionKept s s := ⟨fun _ _ => rfl, rfl⟩

theorem trans (h : MotionKept s u) (h' : MotionKept u v) : MotionKept s v :=
  ⟨fun a ha => (h'.regs a ha).trans (h.regs a ha), h'.saf.trans h.saf⟩

/-- What writes no register and leaves the safety block. -/
theorem congr (h : MotionKept s u) (hregs : v.regs = u.regs) (hsaf : v.saf = u.saf) : MotionKept s v :=
  h.trans ⟨fun a _ => reg_congr hregs a, hsaf⟩

theorem ite {c : Prop} [Decidable c] (hu : MotionKept s u) (hv : MotionKept s v) : MotionKept s (if c then u else v) := by
  split
  · exact hu
  · exact hv

/-- An operation made on a condition. -/
theorem ite_of_imp {c : Prop} [Decidable c] (hv : MotionKept s v) (hu : MotionKept s v → MotionKept s u) :
    MotionKept s (if c then u else v) := ite (hu hv) hv

theorem foldl {α : Type} {f : State → α → State} {l : List α} (h : MotionKept s u)
    (hf : ∀ v, ∀ x ∈ l, MotionKept s v → MotionKept s (f v x)) : MotionKept s (l.foldl f u) :=
  List.foldlRecOn (motive := MotionKept s) l f h fun v hv x hx => hf v x hx hv

theorem setReg (h : MotionKept s u) (b : Nat) (w : Word) (hb : driveWord b = true := by decide) : MotionKept s (setReg u b w) :=
  h.trans ⟨fun a ha => reg_setReg_other u b a w (ne_of_driveWord ha hb), rfl⟩

theorem wr (h : MotionKept s u) (f : Fld) (n : Nat) (hf : driveWord f.addr = true := by decide) : MotionKept s (wr u f n) :=
  h.setReg _ _ hf

theorem bump (h : MotionKept s u) (b : Nat) (hb : driveWord b = true ∧ driveWord (b + 4) = true := by decide) :
    MotionKept s (bump u b) :=
  h.trans ⟨fun a ha => reg_bump_other u b a (ne_of_driveWord ha hb.1) (ne_of_driveWord ha hb.2), bump_saf u b⟩

theorem raise (h : MotionKept s u) (f : Fld) (hf : driveWord (f.addr - 0x10 + 0x10) = true := by decide) :
    MotionKept s (raise u f) :=
  h.trans ⟨fun a ha => reg_raise_other u f a (not_evfReg_of_driveWord ha) (ne_of_driveWord ha hf), raise_saf u f⟩

theorem onMot (h : MotionKept s u) (f : Mot → Mot) : MotionKept s (onMot u f) := h.congr rfl rfl
theorem onGal (h : MotionKept s u) (f : Gal → Gal) : MotionKept s (onGal u f) := h.congr rfl rfl
theorem setSlot (h : MotionKept s u) (k : Nat) (x : Slot) : MotionKept s (setSlot u k x) := h.congr rfl rfl
theorem setLampEng (h : MotionKept s u) (e : Nat) (x : LampEng) : MotionKept s (setLampEng u e x) := h.congr rfl rfl
theorem lampRelease (h : MotionKept s u) : MotionKept s (lampRelease u) := h.congr rfl rfl

theorem slotDue (h : MotionKept s u) (k : Nat) (old : Option Int) : MotionKept s (slotDue u k old) := ite (h.setSlot k _) h

theorem lampEngStart (h : MotionKept s u) (e : Nat) : MotionKept s (lampEngStart u e) :=
  (ite_of_imp h fun h => h.bump _).setLampEng e _

theorem lmpEdge (h : MotionKept s u) (src : Nat) (rise : Bool) : MotionKept s (lmpEdge u src rise) :=
  h.foldl fun _ e _ h => ite (ite (h.lampEngStart e) (ite (h.setLampEng e _) h)) h

theorem galActivate (h : MotionKept s u) (on : Bool) : MotionKept s (galActivate u on) :=
  ite (((h.wr _ _).wr _ _).onGal _) (((h.wr _ _).wr _ _).onGal _)

theorem slotWords : ∀ k < 8, driveWord (A.SL_INTEG k) = true ∧ driveWord (A.SL_OUT k) = true := by decide

theorem slotRefresh (h : MotionKept s u) {k : Nat} (hk : k < 8) : MotionKept s (slotRefresh u k) := by
  obtain ⟨hinteg, hout⟩ := slotWords k hk
  have hshown : MotionKept s (wrBit u A.SCN_STATUS k (slotWanted u k)) := h.setReg _ _
  have hgal := ite_of_imp (c := k = 4) hshown fun h => h.galActivate (slotWanted u k)
  exact ite h (ite (hgal.setSlot k _) (((hgal.setSlot k _).setReg _ _ hinteg).setReg _ _ hout))

theorem slotsRefresh (h : MotionKept s u) : MotionKept s (slotsRefresh u) :=
  (h.foldl fun _ _ hk h => h.slotRefresh (List.mem_range.1 hk)).wr _ _

theorem stopScheduling (h : MotionKept s u) : MotionKept s (stopScheduling u) := h.congr rfl rfl

theorem modelLost (h : MotionKept s u) : MotionKept s (modelLost u) := ite (h.stopScheduling.raise _) h

theorem modelDrop (h : MotionKept s u) : MotionKept s (modelDrop u) :=
  ite_of_imp (h.onMot _) fun h => ((h.wr _ _).wr _ _).modelLost

theorem setMode (h : MotionKept s u) (m : Nat) : MotionKept s (setMode u m) := by
  unfold Machine.setMode
  extract_lets old sum lastIq meas shown timed started low unphased turned due refreshed
  have htimed : MotionKept s timed := ((h.wr _ _).raise _).onMot _
  have hlow : MotionKept s low :=
    ite_of_imp (ite_of_imp htimed fun h => (h.wr _ _).onMot _) fun h => (h.modelDrop.wr _ _).onMot _
  have hunphased : MotionKept s unphased := ite_of_imp hlow fun h => (h.wr _ _).onMot _
  have hturned : MotionKept s turned :=
    ite (hunphased.onMot _) (ite (hunphased.onMot _) (ite (hunphased.onMot _) (ite (hunphased.onMot _) hunphased)))
  have hdue : MotionKept s due := ite ((hturned.slotDue _ _).slotDue _ _) (hturned.slotDue _ _)
  exact ite h (ite_of_imp hdue.slotsRefresh fun h => h.slotDue _ _)

theorem motStop (h : MotionKept s u) : MotionKept s (motStop u) := ite h ((((h.wr _ _).wr _ _).setMode 3).onMot _)

theorem torqueOff (h : MotionKept s u) : MotionKept s (torqueOff u) :=
  have hgoal := ((h.wr F.MOT_STATUS_STOPPING 0).wr F.MOT_STATUS_PHASE_PENDING 0).onMot fun m => { m with goal := 0 }
  ite hgoal ((hgoal.wr F.MOT_STATUS_COASTING 1).setMode 0)

theorem motStandstill (h : MotionKept s u) : MotionKept s (motStandstill u) :=
  have hmode := (h.setMode 0).wr F.MOT_STATUS_STOPPING 0
  ((hmode.wr F.MOT_STATUS_STANDSTILL 1).raise F.MOT_EVT_RAW_STANDSTILL).onMot fun m => { m with goal := 0 }

end MotionKept

/-! ## The safety block -/

/-- The registers that a refresh of the safety block writes: those of motion, STATUS, the latches and events, and what SS1 counts
and times. -/
def guardWord (a : Nat) : Bool :=
  driveWord a || decide (a = A.SAF_STATUS) || decide (a = A.SAF_LATCH_A) || decide (a = A.SAF_LATCH_B)
    || decide (a = F.SAF_EVT_RAW_LATCH.addr) || decide (a = A.SAF_STOP_MS) || decide (a = A.SAF_STOPS) || decide (a = A.SAF_STOPS + 4)

/-- From `s` to `u` the filtered inputs, what the paths compare and delay, and every register but those stay; of STATUS, PROVEN
and WINDOW_OPEN; no latch and no event is cleared; and where `still`, SS1 stays as it is, with STOPPING and STANDSTILL. -/
structure GuardKept (still : Bool) (s u : State) : Prop where
  regs : ∀ a, guardWord a = false → reg u a = reg s a
  insA : u.saf.a.ins = s.saf.a.ins
  insB : u.saf.b.ins = s.saf.b.ins
  differ : u.saf.differ = s.saf.differ
  delay : u.saf.delay = s.saf.delay
  shown : ∀ f ∈ [F.SAF_STATUS_PROVEN, F.SAF_STATUS_WINDOW_OPEN], flag u f = flag s f
  latched : ∀ b i, bit (latched s b) i = true → bit (latched u b) i = true
  raised : ∀ i, rdBit s F.SAF_EVT_RAW_LATCH.addr i = true → rdBit u F.SAF_EVT_RAW_LATCH.addr i = true
  ss1 : still = true → u.saf.ss1 = s.saf.ss1 ∧ u.saf.ended = s.saf.ended
  stopping : still = true → ∀ f ∈ [F.SAF_STATUS_STOPPING, F.SAF_STATUS_STANDSTILL], flag u f = flag s f

/-- The latches of a cause set in the paths named, where they are not (12 R321). -/
def latchSet (s : State) (a b : Bool) (c : Nat) : State :=
  let u := if a && !(bit (latched s false) c) then wrBit s A.SAF_LATCH_A c true else s
  if b && !(bit (latched s true) c) then wrBit u A.SAF_LATCH_B c true else u

namespace GuardKept
variable {q : Bool} {s u v : State}

theorem refl (s : State) : GuardKept q s s :=
  ⟨fun _ _ => rfl, rfl, rfl, rfl, rfl, fun _ _ => rfl, fun _ _ => id, fun _ => id, fun _ => ⟨rfl, rfl⟩, fun _ _ _ => rfl⟩

theorem trans (h : GuardKept q s u) (h' : GuardKept q u v) : GuardKept q s v where
  regs a ha := (h'.regs a ha).trans (h.regs a ha)
  insA := h'.insA.trans h.insA
  insB := h'.insB.trans h.insB
  differ := h'.differ.trans h.differ
  delay := h'.delay.trans h.delay
  shown f hf := (h'.shown f hf).trans (h.shown f hf)
  latched b i hi := h'.latched b i (h.latched b i hi)
  raised i hi := h'.raised i (h.raised i hi)
  ss1 hq := ⟨(h'.ss1 hq).1.trans (h.ss1 hq).1, (h'.ss1 hq).2.trans (h.ss1 hq).2⟩
  stopping hq f hf := (h'.stopping hq f hf).trans (h.stopping hq f hf)

theorem ite {c : Prop} [Decidable c] (hu : GuardKept q s u) (hv : GuardKept q s v) : GuardKept q s (if c then u else v) := by
  split
  · exact hu
  · exact hv

/-- An operation made on a condition. -/
theorem ite_of_imp {c : Prop} [Decidable c] (hv : GuardKept q s v) (hu : GuardKept q s v → GuardKept q s u) :
    GuardKept q s (if c then u else v) := ite (hu hv) hv

/-- What leaves every register of the page of SAF, and the safety block. -/
theorem of_motion (h : MotionKept s u) : GuardKept q s u := by
  have hpage (a : Nat) (ha : driveWord a = false) : reg u a = reg s a := h.regs a ha
  have hstatus : reg u A.SAF_STATUS = reg s A.SAF_STATUS := hpage _ (by decide)
  refine ⟨fun a ha => hpage a ?_, by rw [h.saf], by rw [h.saf], by rw [h.saf], by rw [h.saf], fun f hf => flag_congr ?_,
    fun b i hi => ?_, fun i hi => (rdBit_congr (hpage _ (by decide))).trans hi, fun _ => by rw [h.saf]; exact ⟨rfl, rfl⟩,
    fun _ f hf => flag_congr ?_⟩
  · simp only [guardWord, Bool.or_eq_false_iff] at ha
    tauto
  · revert f; simpa using hstatus
  · cases b <;> exact (congrArg (bit · i) (hpage _ (by decide))).trans hi
  · revert f; simpa using hstatus

theorem motion (h : GuardKept q s u) (h' : MotionKept u v) : GuardKept q s v := h.trans (of_motion h')

theorem ne_of_guardWord {a b : Nat} (ha : guardWord a = false) (hb : guardWord b = true) : a ≠ b := by
  rintro rfl
  simp [hb] at ha

/-- The field lies beside the fields of STATUS that every refresh keeps. -/
def besideShown (f : Fld) : Bool := besideField f F.SAF_STATUS_PROVEN && besideField f F.SAF_STATUS_WINDOW_OPEN

/-- The field lies beside the fields of STATUS that SS1 shows. -/
def besideStop (f : Fld) : Bool := besideField f F.SAF_STATUS_STOPPING && besideField f F.SAF_STATUS_STANDSTILL

theorem flag_wr_beside {f g : Fld} (hb : besideField f g = true) (hg : g.lo + g.len ≤ 32) (s : State) (n : Nat) :
    flag (Machine.wr s f n) g = flag s g := by
  rw [flag, DriveKept.rd_wr_beside hb hg, flag]

/-- A field of STATUS beside those kept is written. -/
theorem wr (h : GuardKept q s u) (f : Fld) (n : Nat) (hf : besideShown f = true := by decide)
    (ha : f.addr = A.SAF_STATUS := by rfl) (hq : q = true → besideStop f = true := by exact fun _ => by decide) :
    GuardKept q s (wr u f n) := by
  simp only [besideShown, Bool.and_eq_true] at hf
  have hother (b : Nat) (hb : b ≠ A.SAF_STATUS) : reg (Machine.wr u f n) b = reg u b :=
    reg_wr_other u f n b (by rw [ha]; exact hb)
  refine h.trans ⟨fun a hfree => hother a (ne_of_guardWord hfree (by decide)), rfl, rfl, rfl, rfl, fun g hg => ?_,
    fun b i hi => ?_, fun i hi => (rdBit_congr (hother _ (by decide))).trans hi, fun _ => ⟨rfl, rfl⟩, fun hstill g hg => ?_⟩
  · simp only [List.mem_cons, List.not_mem_nil, or_false] at hg
    obtain rfl | rfl := hg
    · exact flag_wr_beside hf.1 (by decide) u n
    · exact flag_wr_beside hf.2 (by decide) u n
  · cases b <;> exact (congrArg (bit · i) (hother _ (by decide))).trans hi
  · have hstop := hq hstill
    simp only [besideStop, Bool.and_eq_true] at hstop
    simp only [List.mem_cons, List.not_mem_nil, or_false] at hg
    obtain rfl | rfl := hg
    · exact flag_wr_beside hstop.1 (by decide) u n
    · exact flag_wr_beside hstop.2 (by decide) u n

theorem wrB (h : GuardKept q s u) (f : Fld) (b : Bool) (hf : besideShown f = true := by decide)
    (ha : f.addr = A.SAF_STATUS := by rfl) (hq : q = true → besideStop f = true := by exact fun _ => by decide) :
    GuardKept q s (wrB u f b) := h.wr f _ hf ha hq

/-- The registers of the page of SAF that are not its STATUS, its latches and its events. -/
def countWord (a : Nat) : Bool := decide (a = A.SAF_STOP_MS) || decide (a = A.SAF_STOPS) || decide (a = A.SAF_STOPS + 4)

/-- What SS1 counts and times is written. -/
theorem setReg (h : GuardKept q s u) (a : Nat) (w : Word) (ha : countWord a = true := by decide) : GuardKept q s (setReg u a w) := by
  have hguard : guardWord a = true := by
    simp only [countWord, Bool.or_eq_true] at ha
    simp only [guardWord, Bool.or_eq_true]
    tauto
  have hother (b : Nat) (hb : countWord b = false) : reg (Machine.setReg u a w) b = reg u b :=
    reg_setReg_other u a b w (by rintro rfl; simp [ha] at hb)
  have hstatus : reg (Machine.setReg u a w) A.SAF_STATUS = reg u A.SAF_STATUS := hother _ (by decide)
  refine h.trans ⟨fun b hfree => reg_setReg_other u a b w (ne_of_guardWord hfree hguard), rfl, rfl, rfl, rfl, fun g hg => flag_congr ?_,
    fun b i hi => ?_, fun i hi => (rdBit_congr (hother _ (by decide))).trans hi, fun _ => ⟨rfl, rfl⟩, fun _ g hg => flag_congr ?_⟩
  · revert g; simpa using hstatus
  · cases b <;> exact (congrArg (bit · i) (hother _ (by decide))).trans hi
  · revert g; simpa using hstatus

theorem bump (h : GuardKept q s u) (a : Nat) (ha : countWord a = true ∧ countWord (a + 4) = true := by decide) :
    GuardKept q s (bump u a) :=
  ite (h.setReg a _ ha.1) (ite h ((h.setReg a _ ha.1).setReg _ _ ha.2))

/-- A bit of a register that is set stays set where another is set. -/
theorem rdBit_wrBit_of_set {a k i c : Nat} {s : State} (hc : c < 32) (h : rdBit s a i = true) : rdBit (wrBit s k c true) a i = true := by
  by_cases ha : a = k
  · subst ha
    by_cases hi : i = c
    · subst hi
      exact rdBit_wrBit_same s a i true hc
    · have hlt : i < 32 := by
        by_contra hge
        rw [rdBit, bit, Nat.testBit_lt_two_pow ((reg s a).isLt.trans_le (Nat.pow_le_pow_right (by decide) (by omega)))] at h
        cases h
      rw [rdBit_eq_flag, wrBit_eq_wrB, Machine.wrB, flag_wr_field _ _ _ _ (by simpa using hlt) (by simp; omega), ← rdBit_eq_flag]
      exact h
  · exact (rdBit_congr (reg_setReg_other s k a _ ha)).trans h

/-- A cause is latched. -/
theorem latch (h : GuardKept q s u) (b : Bool) {c : Nat} (hc : c < 32) : GuardKept q s (wrBit u (latchReg b) c true) := by
  have hguard : guardWord (latchReg b) = true := by cases b <;> decide
  have hother (a : Nat) (ha : a ≠ A.SAF_LATCH_A ∧ a ≠ A.SAF_LATCH_B) : reg (wrBit u (latchReg b) c true) a = reg u a :=
    reg_setReg_other u _ a _ (by cases b; exacts [ha.1, ha.2])
  have hstatus : reg (wrBit u (latchReg b) c true) A.SAF_STATUS = reg u A.SAF_STATUS := hother _ (by decide)
  refine h.trans ⟨fun a hfree => reg_setReg_other u _ a _ (ne_of_guardWord hfree hguard), rfl, rfl, rfl, rfl,
    fun g hg => flag_congr ?_, fun x i hi => rdBit_wrBit_of_set (a := latchReg x) hc hi,
    fun i hi => (rdBit_congr (hother _ (by decide))).trans hi, fun _ => ⟨rfl, rfl⟩, fun _ g hg => flag_congr ?_⟩
  · revert g; simpa using hstatus
  · revert g; simpa using hstatus

/-- An event of SAF sets its bit, and clears none. -/
theorem raise (h : GuardKept q s u) (f : Fld) (hf : f.addr = F.SAF_EVT_RAW_LATCH.addr := by rfl) : GuardKept q s (raise u f) := by
  have haddr : f.addr - 0x10 + 0x10 = F.SAF_EVT_RAW_LATCH.addr := by rw [hf]; rfl
  have hother (a : Nat) (ha : ¬ evfReg a) (hne : a ≠ F.SAF_EVT_RAW_LATCH.addr) : reg (Machine.raise u f) a = reg u a :=
    reg_raise_other u f a ha (by rw [haddr]; exact hne)
  have hsaf := raise_saf u f
  have hstatus : reg (Machine.raise u f) A.SAF_STATUS = reg u A.SAF_STATUS := hother _ (not_evfReg_of_ge (by decide)) (by decide)
  refine h.trans ⟨fun a hfree => hother a ?_ (ne_of_guardWord hfree (by decide)), by rw [hsaf], by rw [hsaf], by rw [hsaf], by rw [hsaf],
    fun g hg => flag_congr ?_, fun b i hi => ?_, fun i hi => ?_, fun _ => by rw [hsaf]; exact ⟨rfl, rfl⟩, fun _ g hg => flag_congr ?_⟩
  · exact not_or.2 ⟨ne_of_guardWord hfree (by decide), ne_of_guardWord hfree (by decide)⟩
  · revert g; simpa using hstatus
  · cases b <;> exact (congrArg (bit · i) (hother _ (not_evfReg_of_ge (by decide)) (by decide))).trans hi
  · rw [rdBit, Machine.raise, reg_raiseBits _ _ _ _ (not_evfReg_of_ge (by decide))]
    split
    · rw [bit, BitVec.toNat_or, Nat.testBit_or]
      exact Bool.or_eq_true_iff.2 (.inl hi)
    · exact hi
  · revert g; simpa using hstatus

/-- The safety block changes beside what is kept. -/
theorem withSaf (h : GuardKept q s u) (x : Saf) (hins : x.a.ins = u.saf.a.ins ∧ x.b.ins = u.saf.b.ins := by exact ⟨rfl, rfl⟩)
    (hkept : x.differ = u.saf.differ ∧ x.delay = u.saf.delay := by exact ⟨rfl, rfl⟩)
    (hq : q = true → x.ss1 = u.saf.ss1 ∧ x.ended = u.saf.ended := by exact fun _ => ⟨rfl, rfl⟩) :
    GuardKept q s { u with saf := x } :=
  h.trans ⟨fun _ _ => rfl, hins.1, hins.2, hkept.1, hkept.2, fun _ _ => rfl, fun _ _ => id, fun _ => id, hq, fun _ _ _ => rfl⟩

/-- A path changes beside its inputs. -/
theorem onPath (h : GuardKept q s u) (b : Bool) (f : Path → Path) (hf : ∀ p, (f p).ins = p.ins := by exact fun _ => rfl) :
    GuardKept q s (onPath u b f) := by
  cases b
  · exact h.withSaf _ ⟨hf _, rfl⟩
  · exact h.withSaf _ ⟨rfl, hf _⟩

theorem fbJudge (h : GuardKept q s u) (laser motor : Bool) : GuardKept q s (fbJudge u laser motor) :=
  List.foldlRecOn (motive := GuardKept q s) [false, true] _ h fun _ h b _ => h.onPath b _

theorem safOutputs (h : GuardKept q s u) : GuardKept q s (safOutputs u) := by
  unfold Machine.safOutputs
  extract_lets permit staA staB had fell laserWas torqueWas emit torque laser event saf inhibited lit off released
  have hlaser : GuardKept q s laser := (((((h.wrB _ _).wrB _ _).wrB _ _).wrB _ _).wrB _ _).wrB _ _
  have hevent : event.saf = laser.saf := raise_saf laser _
  have hinhibited : GuardKept q s inhibited :=
    ite ((hlaser.raise _).withSaf _ (by rw [hevent]; exact ⟨rfl, rfl⟩) (by rw [hevent]; exact ⟨rfl, rfl⟩)
      (by rw [hevent]; exact fun _ => ⟨rfl, rfl⟩)) hlaser
  have hlit : GuardKept q s lit :=
    hinhibited.motion (.ite ((MotionKept.refl _).lmpEdge _ _) (.ite_of_imp (.refl _) fun h => h.lmpEdge _ _))
  have hoff : GuardKept q s off := ite_of_imp hlit fun h => (h.raise _).motion (MotionKept.refl _).torqueOff
  exact (ite_of_imp hoff fun h => h.motion (MotionKept.refl _).lampRelease).fbJudge _ _

theorem ss1End (h : GuardKept false s u) : GuardKept false s (ss1End u) := by
  unfold Machine.ss1End
  split
  · exact h
  · exact ((h.wr _ _ (hq := nofun)).setReg _ _).withSaf _ (hq := nofun)

theorem ss1Start (h : GuardKept false s u) : GuardKept false s (ss1Start u) :=
  have hbegun := ((h.withSaf _ (hq := nofun)).wr F.SAF_STATUS_STOPPING 1 (hq := nofun)).wr F.SAF_STATUS_STANDSTILL 0 (hq := nofun)
  ite h ((((hbegun.setReg _ _).bump _).raise _).motion (MotionKept.refl _).motStop)

/-- The latches of a cause are set in the paths named. -/
theorem latchSet (h : GuardKept q s u) (a b : Bool) {c : Nat} (hc : c < 32) : GuardKept q s (latchSet u a b c) :=
  ite_of_imp (ite_of_imp h fun h => h.latch false hc) fun h => h.latch true hc

/-- What a cause does beside its latches; SS1 may begin or end, unless the cause leaves torque. -/
theorem safLatch_after (s : State) (a b : Bool) (c : Nat) (o : Torque) (ho : q = true → o = .stays) :
    GuardKept q (Machine.latchSet s a b c) (safLatch s a b c o) := by
  unfold Machine.safLatch
  extract_lets newA newB latchedA latched torqueA torqueB stopped told saf ended
  have hlatched : GuardKept q (Machine.latchSet s a b c) latched := refl latched
  have hstopped : GuardKept q (Machine.latchSet s a b c) stopped := by
    cases q with
    | true => rw [show stopped = latched from if_neg (by rw [ho rfl]; decide)]; exact hlatched
    | false =>
      have htorque : GuardKept false (Machine.latchSet s a b c) torqueB :=
        ite_of_imp (ite_of_imp hlatched fun h => h.onPath _ _) fun h => h.onPath _ _
      exact ite htorque.ss1End hlatched
  have hended : GuardKept q (Machine.latchSet s a b c) ended :=
    (((hstopped.motion ((MotionKept.refl _).lmpEdge _ _)).raise _).withSaf _).wr _ _
  refine ite ?_ hstopped
  cases q with
  | true => rw [if_neg (by rw [ho rfl]; decide)]; exact hended
  | false => exact ite_of_imp hended fun h => h.ss1Start

theorem safLatch_of (h : GuardKept q s u) (a b : Bool) {c : Nat} (hc : c < 32) (o : Torque) (ho : q = true → o = .stays) :
    GuardKept q s (safLatch u a b c o) := (h.latchSet a b hc).trans (safLatch_after u a b c o ho)

theorem safLatch (h : GuardKept false s u) (a b : Bool) (c : Nat) (o : Torque) (hc : c < 32 := by decide) :
    GuardKept false s (safLatch u a b c o) := h.safLatch_of a b hc o fun h => by cases h

theorem safLatch_stays (h : GuardKept q s u) (a b : Bool) (c : Nat) (hc : c < 32 := by decide) :
    GuardKept q s (Machine.safLatch u a b c .stays) := h.safLatch_of a b hc _ fun _ => rfl

theorem safRefresh (h : GuardKept q s u) : GuardKept q s (safRefresh u) :=
  ite (safOutputs (ite_of_imp h fun h => h.safLatch_stays _ _ _)) h

end GuardKept

end Sys2Proof.Machine
end

section
/-!
SUPPORT. What records that leave change: acquisition, its events and counters, the pair's comparison, the preview's buffers and
memory (07 R186 to R207); then the stops of the thermal block (16 R429 to R431).
-/

namespace Sys2Proof.Machine

/-- From `s` to `u` nothing differs but registers, EVENT frames and frames of the bundles, acquisition, the pair, the preview and
memory. -/
def RecordsOnly (s u : State) : Prop :=
  u = { s with regs := u.regs, irq := u.irq, wnb := u.wnb, acq := u.acq, pair := u.pair, vid := u.vid, sram := u.sram }

namespace RecordsOnly
variable {s u v : State}

theorem refl (s : State) : RecordsOnly s s := rfl

theorem trans (h : RecordsOnly s u) (h' : RecordsOnly u v) : RecordsOnly s v := by
  unfold RecordsOnly at h h' ⊢
  rw [h', h]

theorem ite {c : Prop} [Decidable c] (hu : RecordsOnly s u) (hv : RecordsOnly s v) : RecordsOnly s (if c then u else v) := by
  split
  · exact hu
  · exact hv

/-- An operation made on a condition. -/
theorem ite_of_imp {c : Prop} [Decidable c] (hv : RecordsOnly s v) (hu : RecordsOnly s v → RecordsOnly s u) :
    RecordsOnly s (if c then u else v) := ite (hu hv) hv

theorem foldl {α : Type} {f : State → α → State} {l : List α} (h : RecordsOnly s u)
    (hf : ∀ v, ∀ x ∈ l, RecordsOnly s v → RecordsOnly s (f v x)) : RecordsOnly s (l.foldl f u) :=
  List.foldlRecOn (motive := RecordsOnly s) l f h fun v hv x hx => hf v x hx hv

/-- The thermal block stays. -/
theorem thm (h : RecordsOnly s u) : u.thm = s.thm := by rw [h]

/-! ## The operations that are shared -/

theorem setReg (h : RecordsOnly s u) (a : Nat) (w : Word) : RecordsOnly s (setReg u a w) := h.trans rfl
theorem wr (h : RecordsOnly s u) (f : Fld) (n : Nat) : RecordsOnly s (wr u f n) := h.trans rfl
theorem onAcq (h : RecordsOnly s u) (f : Acq → Acq) : RecordsOnly s (onAcq u f) := h.trans rfl
theorem onPair (h : RecordsOnly s u) (f : Pair → Pair) : RecordsOnly s (onPair u f) := h.trans rfl
theorem onFrame (h : RecordsOnly s u) (num : Nat) (g : Frame → Frame) : RecordsOnly s (onFrame u num g) := h.trans rfl
theorem pruneFrames (h : RecordsOnly s u) : RecordsOnly s (pruneFrames u) := h.trans rfl
theorem insertMark (h : RecordsOnly s u) (st : Nat) (m : Mark) : RecordsOnly s (insertMark u st m) := h.trans rfl
theorem onBuf (h : RecordsOnly s u) (frame : Nat) (f : VidBuf → VidBuf) : RecordsOnly s (onBuf u frame f) := h.trans rfl
theorem withSram (h : RecordsOnly s u) (m : List Host.Cell) : RecordsOnly s { u with sram := m } := h.trans rfl
theorem pushRec (h : RecordsOnly s u) (i : Nat) (r : Rec) : RecordsOnly s (pushRec u i r) := h.trans rfl
theorem setLatest (h : RecordsOnly s u) (x : Option (Nat × Nat)) : RecordsOnly s (setLatest u x) := h.trans rfl

theorem bump (h : RecordsOnly s u) (a : Nat) : RecordsOnly s (Machine.bump u a) :=
  ite (h.setReg a _) (ite h ((h.setReg a _).setReg _ _))

theorem sendEvent (h : RecordsOnly s u) : RecordsOnly s (Machine.sendEvent u) := ite (ite (h.trans rfl) (h.trans rfl)) (h.bump _)

theorem raise (h : RecordsOnly s u) (f : Fld) : RecordsOnly s (raise u f) := by
  have hset := h.setReg (f.addr - 0x10 + 0x10) (reg u (f.addr - 0x10 + 0x10) ||| word (2 ^ f.lo))
  refine ite ?_ hset
  split
  · exact ite_of_imp hset fun _ => ite (hset.trans rfl) hset.sendEvent
  · exact hset

/-! ## Sequences -/

theorem pushSeq (h : RecordsOnly s u) (typ frame pos : Nat) (ws : List Word) : RecordsOnly s (pushSeq u typ frame pos ws) :=
  h.foldl fun _ _ _ h => h.pushRec _ _

theorem pushRing (h : RecordsOnly s u) (e : RingEnt) : RecordsOnly s (pushRing u e) := h.foldl fun _ _ _ h => h.pushRec _ _

theorem feedFront (h : RecordsOnly s u) (num o : Nat) : RecordsOnly s (feedFront u num o) := by
  unfold Machine.feedFront
  split
  · exact h
  · exact ((h.foldl fun _ _ _ h => h.pushRing _).foldl fun _ _ _ h => h.pushSeq _ _ _ _).onAcq _

theorem feedSeq (h : RecordsOnly s u) (num n : Nat) : RecordsOnly s (feedSeq num n u) := by
  induction n generalizing u with
  | zero => exact h
  | succ n ih =>
    unfold Machine.feedSeq
    split
    · exact h
    · refine ite h (ite (((h.pushSeq _ _ _ _).onAcq _).wr _ _) ?_)
      exact ite (ih (((h.feedFront _ _).foldl fun _ _ _ h => h.pushRing _).onAcq _)) (h.feedFront _ _)

theorem feedAll (h : RecordsOnly s u) : RecordsOnly s (feedAll u) := h.foldl fun _ _ _ h => h.feedSeq _ _

/-! ## Tiles and the preview -/

theorem pairSend (h : RecordsOnly s u) (sub bytes : Nat) (body : List Word) : RecordsOnly s (pairSend u sub bytes body) := by
  unfold Machine.pairSend
  split
  · exact (h.onPair _).trans rfl
  · exact h

theorem cmpTile (h : RecordsOnly s u) (r frame tile valid dsum : Nat) : RecordsOnly s (cmpTile u r frame tile valid dsum) :=
  ite ((h.pairSend _ _ _).onPair _) h

theorem cmpJudge (h : RecordsOnly s u) (frame : Nat) : RecordsOnly s (cmpJudge u frame) := by
  unfold Machine.cmpJudge
  extract_lets mine theirs kept
  refine ite (ite (h.onPair _) ?_) h
  exact ite ((((h.onPair _).bump _).bump _).raise _) ((h.onPair _).bump _)

theorem cmpEnd (h : RecordsOnly s u) (frame : Nat) (stopped : Bool) : RecordsOnly s (cmpEnd u frame stopped) :=
  ite (((h.pairSend _ _ _).onPair _).cmpJudge _) h

theorem giveBuffer (h : RecordsOnly s u) (frame : Nat) : RecordsOnly s (giveBuffer u frame) := by
  unfold Machine.giveBuffer
  split
  · exact ((ite (((h.bump _).raise _).setLatest _) h).withSram _).onBuf _ _
  · exact h

theorem bufferEnd (h : RecordsOnly s u) (b : VidBuf) (i : Nat) (stopped : Bool) : RecordsOnly s (bufferEnd u b i stopped) := by
  unfold Machine.bufferEnd
  extract_lets m0 m1 m2 m3 m4 written
  have hwritten : RecordsOnly s written := h.withSram m4
  exact ite (hwritten.bump _) (hwritten.setLatest _)

theorem vidFrameEnd (h : RecordsOnly s u) (frame : Nat) (stopped : Bool) : RecordsOnly s (vidFrameEnd u frame stopped) := by
  unfold Machine.vidFrameEnd
  split
  · exact h
  · next b _ =>
    extract_lets ended vid left
    have hended : RecordsOnly s ended := by
      dsimp only [ended]
      split
      · exact h.bufferEnd _ _ _
      · exact ite (h.bump _) ((h.bump _).raise _)
    have hleft : RecordsOnly s left := hended.trans rfl
    split
    · exact hleft.giveBuffer _
    · exact hleft

/-! ## The end of a frame and what leaves with it -/

theorem placeMark (h : RecordsOnly s u) (f : Frame) (m : Mark) : RecordsOnly s (placeMark u f m) :=
  (h.foldl (f := fun s st => Machine.insertMark s st m) (l := f.streams) fun _ _ _ h => h.insertMark _ _).onAcq
    fun a => { a with marks := a.marks.filter fun x => !(decide (x.frame = m.frame) && decide (x.pos = m.pos)) }

theorem pushSlice (h : RecordsOnly s u) (frame pos : Nat) (l : List PixOut) (st : Nat) : RecordsOnly s (pushSlice u frame pos l st) :=
  ite h (h.pushRec _ _)

theorem emitPos (h : RecordsOnly s u) (f : Frame) (pos : Nat) (l : List PixOut) : RecordsOnly s (emitPos u f pos l) :=
  ((h.foldl fun _ _ _ h => h.pushSlice _ _ _ _).foldl fun _ _ _ h => h.pushRec _ _).onFrame _ _

theorem endFrame (h : RecordsOnly s u) (f : Frame) : RecordsOnly s (endFrame u f) := by
  unfold Machine.endFrame
  extract_lets tiled streamed shown counted
  have htiled : RecordsOnly s tiled := h.foldl fun v x _ h => by
    split
    · exact (h.pushRec _ _).cmpTile _ _ _ _ _
    · exact h
  have hshown : RecordsOnly s shown := (htiled.foldl fun _ _ _ h => h.pushRec _ _).wr _ _
  have hcounted : RecordsOnly s counted := ite_of_imp hshown fun h => (h.bump _).raise _
  exact (((hcounted.vidFrameEnd _ _).cmpEnd _ _).onFrame _ _).pruneFrames

theorem flushFrame (h : RecordsOnly s u) (num n : Nat) : RecordsOnly s (flushFrame num n u) := by
  induction n generalizing u with
  | zero => exact h
  | succ n ih =>
    unfold Machine.flushFrame
    split
    · exact h
    · refine ite h ?_
      dsimp only
      split
      · split
        · split
          · exact ih (h.placeMark _ _)
          · exact h
        · exact ih (h.emitPos _ _ _)
      · split
        · exact ih (h.placeMark _ _)
        · exact h
      · exact ih (h.emitPos _ _ _)
      · exact ite (h.endFrame _) h

theorem pushHeads (h : RecordsOnly s u) (f : Frame) : RecordsOnly s (pushHeads u f) :=
  (h.foldl fun _ _ _ h => h.pushRec _ _).onFrame _ _

theorem flushList (h : RecordsOnly s u) (l : List Frame) : RecordsOnly s (flushList l u) := by
  induction l generalizing u with
  | nil => exact h
  | cons f l ih =>
    unfold Machine.flushList
    extract_lets flushed
    have hflushed : RecordsOnly s flushed := (ite h (h.pushHeads f)).flushFrame _ _
    exact ite hflushed (ih hflushed)

theorem flushFrames (h : RecordsOnly s u) : RecordsOnly s (flushFrames u) := (h.flushList _).feedAll

end RecordsOnly

/-! ## Requests to the safety block -/

/-- STATUS of THM lies on no page of motion or safety. -/
theorem thmStatus_free : guardWord F.THM_STATUS_INHIBIT_REQ.addr = false := by decide

/-- The inhibit request is shown, and the safety block latches THERMAL beside it (16 R430). -/
theorem flag_thmInhibit (s : State) : flag (thmInhibit s) F.THM_STATUS_INHIBIT_REQ = true := by
  have hkept : GuardKept false (wr s F.THM_STATUS_INHIBIT_REQ 1) (thmInhibit s) :=
    ((GuardKept.refl _).safLatch _ _ _ _).safRefresh
  rw [flag_congr (hkept.regs _ thmStatus_free), flag_wr_one _ _ (by decide) rfl]

theorem flag_thmStop (s : State) : flag (thmStop s) F.THM_STATUS_STOP_REQ = true := by
  have hkept : GuardKept false (wr s F.THM_STATUS_STOP_REQ 1) (thmStop s) :=
    ((GuardKept.refl _).safLatch _ _ _ _).ss1Start.safRefresh
  rw [flag_congr (f := F.THM_STATUS_STOP_REQ) (hkept.regs _ thmStatus_free), flag_wr_one _ _ (by decide) rfl]

theorem MotionOnly.thm {s u : State} (h : MotionOnly s u) : u.thm = s.thm := by rw [h]

theorem thmInhibit_thm (s : State) : (thmInhibit s).thm = s.thm :=
  have hkept : MotionOnly s (thmInhibit s) := (((MotionOnly.refl s).wr _ _).safLatch _ _ _ _).safRefresh
  hkept.thm

theorem thmStop_thm (s : State) : (thmStop s).thm = s.thm :=
  have hkept : MotionOnly s (thmStop s) := (((MotionOnly.refl s).wr _ _).safLatch _ _ _ _).ss1Start.safRefresh
  hkept.thm

/-! ## The end of a stop -/

/-- A stop that is done shows DONE and its event, and runs no step (16 R430). -/
theorem stopDone_shows (s : State) :
    (stopDone s).thm.step = 0 ∧ rd (stopDone s) F.THM_STATUS_STOP_STATE = 3 ∧ flag (stopDone s) F.THM_EVT_RAW_STOP_DONE = true := by
  unfold stopDone
  extract_lets ms left shown
  refine ⟨rfl, ?_, flag_raise shown _ (not_evfReg_of_ge (by decide)) (by decide) rfl (by decide)⟩
  calc rd (raise shown F.THM_EVT_RAW_STOP_DONE) F.THM_STATUS_STOP_STATE
      = rd shown F.THM_STATUS_STOP_STATE := rd_congr (reg_raise_other _ _ _ (not_evfReg_of_ge (by decide)) (by decide))
    _ = rd (wr left F.THM_STATUS_STOP_STATE 3) F.THM_STATUS_STOP_STATE := rd_wr_reg _ _ _ _ (by decide)
    _ = 3 := rd_wr_same _ _ _ (by decide)

/-! ## TRIP_LATCH (16 R429) -/

/-- Where THM.TRIP_LATCH lies. -/
def tripLatchLoc : RegLoc :=
  ⟨0xC1000, 0, .hka, ⟨0x048, 1, fun _ => 0x0, [⟨16, 1, .w1c, [], false⟩, ⟨0, 16, .w1c, [], false⟩]⟩, 0, 0⟩

theorem bodyReg_tripLatch : BodyReg A.THM_TRIP_LATCH 0xC1000 tripLatchLoc :=
  ⟨by decide, by decide, by decide, rfl, rfl, by decide, by decide, by decide⟩

/-- Beside TRIP_LATCH the last bit that clears takes fields of STATUS only. -/
theorem reg_thmAct_tripLatch (o s : State) : reg (thmAct A.THM_TRIP_LATCH o s) A.THM_TRIP_LATCH = reg s A.THM_TRIP_LATCH := by
  unfold thmAct
  rw [show limOf A.THM_TRIP_LATCH = none from rfl]
  refine reg_ite_of_imp rfl fun _ => ?_
  rw [reg_wr_other _ _ _ _ (by decide), reg_wr_other _ _ _ _ (by decide), reg_wr_other _ _ _ _ (by decide)]

/-- An accepted write clears the latches written 1. -/
theorem reg_tripLatchClear {t d : Nat} {r : Requester} {s : State} (hacc : Accepts t r A.THM_TRIP_LATCH d s) :
    reg (accessW t r A.THM_TRIP_LATCH d s) A.THM_TRIP_LATCH =
      reg s A.THM_TRIP_LATCH &&& ~~~ (word d &&& fieldBits A.THM_TRIP_LATCH) := by
  rw [(bodyReg_tripLatch.written_narrow rfl hacc).regs _ (by decide)]
  exact (reg_thmAct_tripLatch (at' t s) _).trans (reg_storeReg_w1c tripLatchLoc (by decide) _ _ _)

/-! ## The statement -/

/-- Settles O44: each step of an orderly stop hands on to the next, the budget's end runs through an immediate stop to DONE, and
TRIP_LATCH clears bit by bit. -/
theorem thermalStops : Obligations.ThermalStops := by
  refine ⟨fun t s hstep hesc => ?_, fun t s hstep hflushed => ?_, fun t s hstep => ?_, fun t s hstep => ?_, fun t s hstep => ?_,
    fun t s hstep hbudget => ?_, fun t r d s hacc => ⟨_, rfl, reg_tripLatchClear hacc⟩⟩
  · have hmatch : orderlyStopStepEnd (at' t s) = onThm (at' t s) fun h => { h with step := h.step + 1 } := by
      unfold orderlyStopStepEnd
      have hquiet : escRunning (at' t s) = false := hesc
      simp only [at_thm, hstep, hquiet, Bool.false_eq_true, if_false]
    exact ⟨_, congrArg Host.Outcome.next hmatch, by rw [onThm, at_thm, hstep]⟩
  · have hmatch : orderlyStopStepEnd (at' t s) =
        thmInhibit (onThm (flushFrames (at' t s)) fun h => { h with step := h.step + 1 }) := by
      unfold orderlyStopStepEnd
      simp only [at_thm, hstep, hflushed, if_true]
    refine ⟨_, congrArg Host.Outcome.next hmatch, ?_, flag_thmInhibit _⟩
    rw [thmInhibit_thm, onThm, (RecordsOnly.refl (at' t s)).flushFrames.thm, at_thm, hstep]
  · have hmatch : orderlyStopStepEnd (at' t s) = thmStop (onThm (at' t s) fun h => { h with step := h.step + 1 }) := by
      unfold orderlyStopStepEnd
      simp only [at_thm, hstep]
    refine ⟨_, congrArg Host.Outcome.next hmatch, ?_, flag_thmStop _⟩
    rw [thmStop_thm, onThm, at_thm, hstep]
  · have hmatch : orderlyStopStepEnd (at' t s) = onThm (at' t s) fun h => { h with step := h.step + 1 } := by
      unfold orderlyStopStepEnd
      simp only [at_thm, hstep]
    exact ⟨_, congrArg Host.Outcome.next hmatch, by rw [onThm, at_thm, hstep]⟩
  · have hmatch : orderlyStopStepEnd (at' t s) = stopDone (at' t s) := by
      unfold orderlyStopStepEnd
      simp only [at_thm, hstep]
    exact ⟨_, congrArg Host.Outcome.next hmatch, stopDone_shows _⟩
  · refine ⟨_, congrArg Host.Outcome.next (if_pos ⟨hstep, hbudget⟩), ?_⟩
    exact stopDone_shows _

end Sys2Proof.Machine
end

section
/-!
Calibration jobs (17 R439 to R445).
-/

namespace Sys2Proof.Machine

/-- A VCAL_ADC job that has taken no sample. -/
def vcalJob : CalJob := ⟨4, 0, 0, 0, 0, [], [], [], [], 0, 0, 0, 0, 0, 0, [], [0, 0, 0, 0], 0⟩

/-- A device in RUN with that job, its converter not enabled. -/
def vcalState : State :=
  wr { State.reset with held := false, cal := { State.reset.cal with job := some vcalJob } } F.PWR_STATUS_STATE 3

/-- A VCAL_ADC job takes no sample while HKA is not enabled. -/
theorem calEventCapture_of_disabled {s : State} {j : CalJob} (n a b : Nat) (hjob : s.cal.job = some j) (htype : j.type = 4)
    (hoff : flag s F.HKA_CTRL_ENABLE = false) : calEventCapture n a b s = s := by
  simp [calEventCapture, hjob, htype, hoff]

/-- Refutes O45: an event of a VCAL_ADC job is not counted while HKA.CTRL.ENABLE is 0, which the clause of the events does not ask. -/
theorem not_calibrationJobs : ¬ Obligations.CalibrationJobs := by
  unfold Obligations.CalibrationJobs
  rintro ⟨-, -, -, -, hcount, -⟩
  have hkept : calEventCapture 0 0 0 (at' 0 vcalState) = at' 0 vcalState :=
    calEventCapture_of_disabled 0 0 0 (j := vcalJob) rfl rfl (by decide)
  obtain ⟨u, hu, htaken⟩ := hcount 0 0 0 0 vcalJob vcalState (by decide) rfl (by decide) (by decide) (by decide)
  obtain rfl : at' 0 vcalState = u := by simpa [exec, execCalEventCapture, hkept] using hu
  exact absurd htaken (by decide)

end Sys2Proof.Machine
end

section
/-!
Computations of corrections, and their installation (17 R447 to R449).
-/

namespace Sys2Proof.Machine

/-! ## What counts and shows computations -/

/-- A register of the page of CAL that no channel, no event and no computation writes: its STATUS, and APPLIED. -/
def calKept (a : Nat) : Prop := a = F.CAL_STATUS_PENDING.addr ∨ a = A.CAL_APPLIED

theorem calKept.free {a : Nat} (h : calKept a) :
    ¬ evfReg a ∧ a ≠ F.CAL_EVT_RAW_DUP_TEMP.addr - 0x10 + 0x10 ∧ a ≠ A.CAL_TEMP_NOW ∧ a < 0x100000 ∧ 0x2000C < a := by
  obtain rfl | rfl := h <;> exact ⟨not_evfReg_of_ge (by decide), by decide, by decide, by decide, by decide⟩

/-- What starts a computation tells of the sets it uses. -/
def calNoted (s : State) (single : Bool) : State :=
  have u := if (calUnique (calSets s)).length < (calSets s).length then raise s F.CAL_EVT_RAW_DUP_TEMP else s
  if single then raise u F.CAL_EVT_RAW_OUT_OF_RANGE else u

/-- What holds of a state and stays when an event is raised holds whether or not it is. -/
theorem ite_raise {P : State → Prop} {s : State} (c : Prop) [Decidable c] (f : Fld) (hs : P s) (hf : P s → P (raise s f)) :
    P (if c then raise s f else s) := by
  split
  · exact hf hs
  · exact hs

/-- From `s` to `u` the time, the block, STATUS and APPLIED stay. -/
structure NotedKept (s u : State) : Prop where
  now : u.now = s.now
  cal : u.cal = s.cal
  regs : ∀ a, calKept a → reg u a = reg s a

theorem NotedKept.raise {s u : State} (h : NotedKept s u) (f : Fld) (hf : f.addr = F.CAL_EVT_RAW_DUP_TEMP.addr) :
    NotedKept s (raise u f) where
  now := (raise_now u f).trans h.now
  cal := (raise_cal u f).trans h.cal
  regs a ha := (reg_raise_other u f a ha.free.1 (by rw [hf]; exact ha.free.2.1)).trans (h.regs a ha)

theorem calNoted_kept (s : State) (single : Bool) : NotedKept s (calNoted s single) :=
  have hstart : NotedKept s s := ⟨rfl, rfl, fun _ _ => rfl⟩
  ite_raise _ _ (ite_raise _ _ hstart fun h => h.raise _ rfl) fun h => h.raise F.CAL_EVT_RAW_OUT_OF_RANGE rfl

/-- With no job and no computation, a computation starts. -/
theorem calStart_free {s : State} (hfree : ¬ (s.cal.job.isSome = true ∨ s.cal.comp.isSome = true)) :
    ∃ x u, calStart s = onCal (setReg u A.CAL_TEMP_NOW s.cal.temp) (fun c => { c with comp := some (s.now, x), again := false }) ∧
      u.cal = s.cal ∧ ∀ a, calKept a → reg u a = reg s a := by
  generalize hx : calCompute s s.cal.temp = x
  obtain ⟨hnow, hcal, hregs⟩ := calNoted_kept s x.single
  refine ⟨x, calNoted s x.single, ?_, hcal, hregs⟩
  rw [← hnow, ← hx]
  exact if_neg hfree

/-- A computation for the present temperature begins. -/
theorem calStart_begins {s : State} (hjob : s.cal.job = none) (hcomp : s.cal.comp = none) :
    (calStart s).cal.comp.map (·.1) = some s.now ∧ reg (calStart s) A.CAL_TEMP_NOW = s.cal.temp := by
  obtain ⟨x, u, hstart, -⟩ := calStart_free (s := s) (by simp [hjob, hcomp])
  rw [hstart]
  exact ⟨rfl, (reg_onCal _ _ _).trans (reg_setReg_same _ _ _)⟩

/-- While a job or a computation runs, a computation is asked for. -/
theorem calStart_busy {s : State} (hbusy : s.cal.job.isSome = true ∨ s.cal.comp.isSome = true) :
    calStart s = onCal s fun c => { c with again := true } := if_pos hbusy

/-- What awaits its installation stays, and so do STATUS and APPLIED. -/
theorem calStart_kept (s : State) : (calStart s).cal.wait = s.cal.wait ∧ ∀ a, calKept a → reg (calStart s) a = reg s a := by
  by_cases hbusy : s.cal.job.isSome = true ∨ s.cal.comp.isSome = true
  · rw [calStart_busy hbusy]
    exact ⟨rfl, fun _ _ => rfl⟩
  · obtain ⟨x, u, hstart, hcal, hregs⟩ := calStart_free hbusy
    rw [hstart]
    refine ⟨congrArg Cal.wait (a₁ := (setReg u A.CAL_TEMP_NOW s.cal.temp).cal) hcal, fun a ha => ?_⟩
    obtain ⟨-, -, htemp, -⟩ := ha.free
    exact (reg_setReg_other _ _ _ _ htemp).trans (hregs a ha)

theorem calAgain_kept (s : State) : (calAgain s).cal.wait = s.cal.wait ∧ ∀ a, calKept a → reg (calAgain s) a = reg s a := by
  unfold calAgain
  split
  · exact calStart_kept s
  · exact ⟨rfl, fun _ _ => rfl⟩

/-- A computation that ends awaits its boundary. -/
theorem calComputeDone_pends {s : State} {a : Nat} {x : CalSet} (hjob : s.cal.job = none) (hcomp : s.cal.comp = some (a, x)) :
    (calComputeDone s).cal.wait = some (s.now, x) ∧ flag (calComputeDone s) F.CAL_STATUS_PENDING = true := by
  unfold calComputeDone
  rw [if_neg (by simp [hjob]), hcomp]
  dsimp only
  obtain ⟨hwait, hregs⟩ := calAgain_kept (onCal (wr s F.CAL_STATUS_PENDING 1) fun c => { c with comp := none, wait := some (s.now, x) })
  refine ⟨hwait, ?_⟩
  rw [flag_congr (hregs _ (.inl rfl))]
  exact flag_wr_one s _ (by decide) rfl

/-! ## A write of CTRL -/

def calCtrlLoc : RegLoc := ⟨0xD0000, 0, .sys, ⟨8, 1, fun _ => 0, [⟨4, 1, .w1s, [], false⟩, ⟨3, 1, .w1s, [], false⟩,
  ⟨2, 1, .w1s, [], false⟩, ⟨1, 1, .w1s, [], false⟩, ⟨0, 1, .rw, [], false⟩]⟩, 0, 0⟩

theorem bodyReg_calCtrl : BodyReg F.CAL_CTRL_START.addr 0xD0000 calCtrlLoc :=
  ⟨by decide, by decide, by decide, rfl, rfl, by decide, by decide, by decide⟩

/-- A write of CTRL stores ENABLE. -/
theorem storeReg_calCtrl (d : Word) (s : State) : storeReg calCtrlLoc F.CAL_CTRL_START.addr d s =
    setReg s F.CAL_CTRL_START.addr (takeField (reg s F.CAL_CTRL_START.addr) d ⟨0, 1, .rw, [], false⟩) := rfl

theorem flag_calCtrl_stored (d : Word) (s : State) :
    flag (storeReg calCtrlLoc F.CAL_CTRL_START.addr d s) F.CAL_CTRL_ENABLE = bit d 0 := by
  rw [storeReg_calCtrl]
  exact flag_stored_enable s _ d

theorem pageAct_calCtrl (d : Word) (o s : State) : pageAct 0xD0000 F.CAL_CTRL_START.addr d o s = calAct F.CAL_CTRL_START.addr d o s := rfl

/-- RECOMPUTE beside ENABLE starts a computation, where a first ENABLE waits for a temperature. -/
theorem calAct_recompute {d : Word} {o s : State} (hon : flag s F.CAL_CTRL_ENABLE = true) (hbit : bit d 2 = true)
    (hjob : bit d 3 = false) (habort : bit d 4 = false) :
    calAct F.CAL_CTRL_START.addr d o s =
      calStart (if !(flag o F.CAL_CTRL_ENABLE) then onCal s fun c => { c with have' := false } else s) := by
  unfold calAct
  rw [if_pos rfl]
  dsimp only
  simp only [hon, hbit, hjob, habort, true_and, if_true, and_self, Bool.false_eq_true, if_false]

/-- What an accepted RECOMPUTE leaves: what starts a computation leaves of a state that differs in nothing it uses. -/
theorem written_recompute {t d : Nat} {r : Requester} {s : State} (hacc : Accepts t r F.CAL_CTRL_START.addr (withBit d 2) s)
    (hon : bit (word d) 0 = true) (hsoft : bit (word d) 1 = false) (hjob : bit (word d) 3 = false) (habort : bit (word d) 4 = false) :
    ∃ u, Written 0xD0000 (calStart u) (accessW t r F.CAL_CTRL_START.addr (withBit d 2) s) ∧ u.now = max s.now t ∧
      u.cal.job = s.cal.job ∧ u.cal.comp = s.cal.comp ∧ u.cal.temp = s.cal.temp := by
  have hother : ∀ i, i ≠ 2 → bit (word (withBit d 2)) i = bit (word d) i := fun i hi => bit_withBit_other d (by decide) hi
  have hwritten := bodyReg_calCtrl.written_narrow rfl hacc fun _ => (hother 1 (by decide)).trans hsoft
  rw [pageAct_calCtrl, calAct_recompute ((flag_calCtrl_stored _ _).trans ((hother 0 (by decide)).trans hon)) (bit_withBit d (by decide))
    ((hother 3 (by decide)).trans hjob) ((hother 4 (by decide)).trans habort)] at hwritten
  refine ⟨_, hwritten, ?_⟩
  split
  · exact ⟨rfl, rfl, rfl, rfl⟩
  · exact ⟨rfl, rfl, rfl, rfl⟩

/-! ## Installation -/

/-- The trims of a channel come into force outside the page of CAL. -/
theorem reg_calChannel {a : Nat} (ha : calKept a) (x : CalSet) (s : State) (c : Nat) : reg (calChannel x s c) a = reg s a := by
  obtain ⟨hev, -, -, hlt, -⟩ := ha.free
  have htrim : ∀ u : State, ∀ f : Fld, f.addr = 0x100008 + 0x100 * c → ∀ v, reg (wr u f v) a = reg u a := fun u f hf v =>
    reg_wr_other u f v a (by omega)
  have hclamp : ∀ u, reg (clampEvent u c) a = reg u a := fun u => by
    have hevent : a ≠ (F.TDC_EVT_RAW_TRIM_CLAMP (quadOf c)).addr - 0x10 + 0x10 := by
      obtain rfl | rfl := ha <;> · simp only [A.CAL_APPLIED]; omega
    rw [clampEvent, reg_ite, reg_raise_other _ _ _ hev hevent, ite_self]
  unfold calChannel
  dsimp only
  rw [hclamp, reg_ite, reg_settle, ite_self, wrI, htrim _ _ rfl, wrI, htrim _ _ rfl, htrim _ _ rfl]

/-- What an installation shows. -/
def calInstalled (u : State) (e : Nat) (x : CalSet) : State :=
  raise (bump (wrB (wr (calShow (onCal u fun c => { c with cur := x, wait := none, stepAt := e })) F.CAL_STATUS_PENDING 0)
    F.RET_STATUS_CAL_ZERO (!x.some')) A.CAL_APPLIED) F.CAL_EVT_RAW_APPLIED

theorem calInstall_eq (s : State) (e : Nat) (x : CalSet) :
    calInstall s e x = calInstalled ((List.range 512).foldl (calChannel x) s) e x := rfl

theorem calShow_frame (s : State) : (calShow s).cal = s.cal ∧ reg (calShow s) A.CAL_APPLIED = reg s A.CAL_APPLIED := by
  refine ⟨rfl, ?_⟩
  unfold calShow wrB
  simp (disch := decide) only [reg_wr_other, reg_setReg_other]

/-- Corrections come into force, and are counted. -/
theorem calInstall_shows (s : State) (e : Nat) (x : CalSet) :
    (calInstall s e x).cal.cur = x ∧ (calInstall s e x).cal.wait = none ∧ flag (calInstall s e x) F.CAL_STATUS_PENDING = false ∧
      (reg (calInstall s e x) A.CAL_APPLIED).toNat = min ((reg s A.CAL_APPLIED).toNat + 1) 0xFFFFFFFF ∧
      flag (calInstall s e x) F.CAL_EVT_RAW_APPLIED = true := by
  have hchannels : ∀ a, calKept a → reg ((List.range 512).foldl (calChannel x) s) a = reg s a := fun a ha =>
    reg_foldl (fun u c _ => reg_calChannel ha x u c) s
  rw [calInstall_eq]
  generalize (List.range 512).foldl (calChannel x) s = u at hchannels
  have hcal : (calInstalled u e x).cal = { u.cal with cur := x, wait := none, stepAt := e } := by
    rw [calInstalled, raise_cal, bump_cal, wrB_cal, wr_cal, (calShow_frame _).1]
    rfl
  refine ⟨congrArg Cal.cur hcal, congrArg Cal.wait hcal, ?_, ?_, flag_raise _ _ (not_evfReg_of_ge (by decide)) (by decide) rfl (by decide)⟩
  · rw [calInstalled, flag_raise_other _ _ _ (not_evfReg_of_ge (by decide)) (by decide),
      flag_congr (reg_bump_other _ _ _ (by decide) (by decide)), wrB, flag_congr (reg_wr_other _ F.RET_STATUS_CAL_ZERO _ _ (by decide))]
    exact flag_wr_zero _ _ (by decide) rfl
  · rw [calInstalled, reg_raise_other _ _ _ (not_evfReg_of_ge (by decide)) (by decide), reg_bump_toNat, wrB,
      reg_wr_other _ _ _ _ (by decide), reg_wr_other _ _ _ _ (by decide), (calShow_frame _).2, reg_onCal, hchannels _ (.inr rfl)]

/-- While acquisition does not run, pending corrections come into force at once. -/
theorem calApplied_stopped {s : State} {a : Nat} {x : CalSet} (hon : sysOn s = true) (hjob : s.cal.job = none)
    (hwait : s.cal.wait = some (a, x)) (hstop : flag s F.ACQ_STATUS_RUNNING = false) : calApplied s = calInstall s s.now x := by
  simp [calApplied, hon, hjob, hwait, hstop]

/-- While it runs, they come into force at a boundary not taken before. -/
theorem calApplied_running {s : State} {a tb : Nat} {x : CalSet} (hon : sysOn s = true) (hjob : s.cal.job = none)
    (hwait : s.cal.wait = some (a, x)) (hrun : flag s F.ACQ_STATUS_RUNNING = true) (hbound : boundaryAt s s.now = some tb)
    (hnew : s.acq.bound < tb) (hready : a + usec 1 ≤ tb) : calApplied s = calInstall s tb x := by
  have hjob' : ¬ (s.cal.job.isSome = true) := by simp [hjob]
  unfold calApplied
  rw [hwait]
  dsimp only
  rw [if_neg (by simp [hjob, hon]), if_pos hrun, hbound]
  dsimp only
  rw [if_neg (by omega), calBoundary, hwait]
  exact if_neg (not_or.2 ⟨hjob', by omega⟩)

/-- Settles O46: RECOMPUTE, the end of a computation, and both ways into force. -/
theorem correctionsComputed : Obligations.CorrectionsComputed := by
  refine ⟨fun t r d s hacc hon hsoft hjob habort hnojob hnocomp => ⟨_, rfl, ?_⟩,
    fun t r d s hacc hon hsoft hjob habort hbusy => ⟨_, rfl, ?_⟩,
    fun t a x s hjob hcomp => ⟨_, rfl, calComputeDone_pends hjob hcomp⟩,
    fun t a x s hon hjob hwait hstop => ⟨_, rfl, ?_⟩,
    fun t tb a x s hon hjob hwait hrun hbound hnew hready => ⟨_, rfl, ?_⟩⟩
  · obtain ⟨u, hwritten, hnow, hj, hc, htemp⟩ := written_recompute hacc hon hsoft hjob habort
    obtain ⟨hcomp, hshown⟩ := calStart_begins (hj.trans hnojob) (hc.trans hnocomp)
    rw [hwritten.regs _ (by decide), hwritten.rest]
    exact ⟨hcomp.trans (congrArg some hnow), hshown.trans htemp⟩
  · obtain ⟨u, hwritten, -, hj, hc, -⟩ := written_recompute hacc hon hsoft hjob habort
    rw [hwritten.rest, calStart_busy (by rw [hj, hc]; simpa using hbusy)]
    exact ⟨rfl, hc⟩
  · rw [show calApplied (at' t s) = calInstall (at' t s) (at' t s).now x from calApplied_stopped hon hjob hwait hstop]
    exact calInstall_shows (at' t s) _ x
  · rw [show calApplied (at' t s) = calInstall (at' t s) tb x from calApplied_running hon hjob hwait hrun hbound hnew hready]
    exact calInstall_shows (at' t s) tb x

end Sys2Proof.Machine
end

section
/-!
Lamp periods, samples, and the start of engines (18 R452, R454, R456, R459).
-/

namespace Sys2Proof.Machine

/-! ## Periods -/

/-- The timebase of the lamps: the start and the number of the period, the divider in force, and whether it is renewed. -/
def lampClock (s : State) : Nat × Nat × Nat × Bool := (s.lmp.at', s.lmp.period, s.lmp.div, s.lmp.renew)

theorem lampClock_congr {s u : State} (h : u.lmp = s.lmp) : lampClock u = lampClock s := by rw [lampClock, h, lampClock]

theorem lampClock_ite {c : Prop} [Decidable c] {s u v : State} (hu : lampClock u = lampClock s) (hv : lampClock v = lampClock s) :
    lampClock (if c then u else v) = lampClock s := by
  split
  · exact hu
  · exact hv

theorem lampClock_raise (s : State) (f : Fld) : lampClock (raise s f) = lampClock s := lampClock_congr (raise_lmp s f)

/-- A register that the sub-periods of the lamps do not write. -/
def subFree (a : Nat) : Prop := 0x20000 ≤ a ∧ a ≠ F.LMP_EVT_RAW_DEBT_DROP.addr ∧ a ≠ A.LMP_DEBT_DROPS ∧ a ≠ A.LMP_DEBT_DROPS + 4

/-- From `s` to `u` the timebase stays, and every register but those of dropped debts. -/
structure SubKept (s u : State) : Prop where
  clock : lampClock u = lampClock s
  regs : ∀ a, subFree a → reg u a = reg s a

theorem SubKept.refl (s : State) : SubKept s s := ⟨rfl, fun _ _ => rfl⟩

theorem SubKept.trans {s u v : State} (h : SubKept s u) (h' : SubKept u v) : SubKept s v :=
  ⟨h'.clock.trans h.clock, fun a ha => (h'.regs a ha).trans (h.regs a ha)⟩

theorem SubKept.setLamp {s u : State} (h : SubKept s u) (l : Nat) (x : Lamp) : SubKept s (setLamp u l x) :=
  ⟨h.clock, h.regs⟩

theorem SubKept.drop {s u : State} (h : SubKept s u) : SubKept s (raise (bump u A.LMP_DEBT_DROPS) F.LMP_EVT_RAW_DEBT_DROP) := by
  refine ⟨(lampClock_raise _ _).trans ((lampClock_congr (bump_lmp u _)).trans h.clock), fun a ha => ?_⟩
  obtain ⟨hge, hevent, hcount, hhigh⟩ := ha
  exact (reg_raise_other _ F.LMP_EVT_RAW_DEBT_DROP _ (not_evfReg_of_ge hge) hevent).trans ((reg_bump_other _ _ _ hcount hhigh).trans (h.regs a ⟨hge, hevent, hcount, hhigh⟩))

theorem subStep_kept (s : State) (l : Nat) : SubKept s (subStep s l) := by
  unfold subStep
  extract_lets x j b asked due dropped debt want
  have hdropped : SubKept s dropped := by
    simp only [dropped]
    split
    · exact (SubKept.refl s).drop
    · exact .refl s
  split
  · exact (SubKept.refl s).setLamp _ _
  · split
    · exact hdropped.setLamp _ _
    · exact hdropped.setLamp _ _

theorem subsTo_kept (n l k : Nat) (s : State) : SubKept s (subsTo n l k s) := by
  induction k generalizing s with
  | zero => exact .refl s
  | succ k ih =>
    rw [subsTo]
    split
    · exact (subStep_kept s l).trans (ih _)
    · exact .refl s

theorem lampsTo_kept (s : State) (t : Nat) : SubKept s (lampsTo s t) :=
  List.foldlRecOn (motive := SubKept s) _ _ (SubKept.refl s) fun u hu l _ => hu.trans (subsTo_kept _ l 16 u)

theorem lampClock_lengPeriod (s : State) (e : Nat) : lampClock (lengPeriod s e) = lampClock s := by
  unfold lengPeriod
  refine lampClock_ite ?_ (lampClock_ite rfl (lampClock_ite (lampClock_ite rfl (lampClock_ite ?_ rfl)) rfl))
  · exact lampClock_raise _ _
  · exact lampClock_raise _ _

theorem lampClock_lampTake (s : State) (l : Nat) : lampClock (lampTake s l) = lampClock s := by
  unfold lampTake
  dsimp only
  split <;> rfl

/-- A period begins at its instant, with its number and the divider written. -/
theorem lampClock_periodBegin (s : State) (at0 n : Nat) : lampClock (periodBegin s at0 n) = (at0, n, rd s F.LMP_PWM_CFG_BASE_DIV, false) := by
  unfold periodBegin
  extract_lets begun engines shown
  have hengines : lampClock engines = lampClock begun := foldl_keeps lampClock lampClock_lengPeriod _ begun
  have hshown : lampClock shown = lampClock engines := lampClock_congr (wr_lmp _ _ _)
  exact (lampsTo_kept _ _).clock.trans ((foldl_keeps lampClock lampClock_lampTake _ _).trans (hshown.trans hengines))

/-- While LMP is enabled, a period that ends is followed by the next. -/
theorem lampClock_lmpPeriodStart {t : Nat} {s : State} (hon : lmpOn s = true) (hend : s.lmp.at' + lampPeriod s ≤ t) :
    lampClock (lmpPeriodStart t s) =
      (s.lmp.at' + lampPeriod s, (if s.lmp.renew then 0 else s.lmp.period + 1), rd s F.LMP_PWM_CFG_BASE_DIV, false) := by
  unfold lmpPeriodStart
  rw [if_pos ⟨hon, hend⟩]
  have hkept := lampsTo_kept s (s.lmp.at' + lampPeriod s - 1)
  generalize lampsTo s (s.lmp.at' + lampPeriod s - 1) = u at hkept
  obtain ⟨hclock, hregs⟩ := hkept
  simp only [lampClock, Prod.mk.injEq] at hclock
  obtain ⟨hat, hperiod, hdiv, hrenew⟩ := hclock
  dsimp only
  rw [lampClock_periodBegin, rd_congr (hregs _ ⟨by decide, by decide, by decide, by decide⟩), hat, hperiod, hrenew, lampPeriod,
    lampTick, hdiv]
  rfl

/-! ## Samples -/

/-- What the safety block writes lies outside the registers of the lamps. -/
theorem guardWord_lamp (l : Nat) : guardWord (F.LAMP_STATUS_LSENSE l).addr = false := by
  simp only [guardWord, driveWord, Bool.or_eq_false_iff, Bool.and_eq_false_imp, decide_eq_false_iff_not, decide_eq_true_eq,
    A.IRQ_EVF_DROPPED, A.LMP_ENG_RESTARTS, A.SAF_STATUS, A.SAF_LATCH_A, A.SAF_LATCH_B, A.SAF_STOP_MS, A.SAF_STOPS]
  omega

/-- From `s` to `u` the level last sampled of a lamp stays. -/
def SenseKept (l : Nat) (s u : State) : Prop := flag u (F.LAMP_STATUS_LSENSE l) = flag s (F.LAMP_STATUS_LSENSE l)

namespace SenseKept
variable {l : Nat} {s u : State} (h : SenseKept l s u)

theorem refl (l : Nat) (s : State) : SenseKept l s s := rfl

theorem ite {c : Prop} [Decidable c] {v : State} (hu : SenseKept l s u) (hv : SenseKept l s v) : SenseKept l s (if c then u else v) := by
  split
  · exact hu
  · exact hv

include h

theorem setLamp (k : Nat) (x : Lamp) : SenseKept l s (setLamp u k x) := h

theorem onLmp (f : Lmp → Lmp) : SenseKept l s (onLmp u f) := h

/-- A register below the lamps is written. -/
theorem low {v : State} (hlow : ∀ a, 0xE0100 ≤ a → reg v a = reg u a) : SenseKept l s v :=
  (flag_congr (hlow _ (by simp only; omega))).trans h

theorem raise (f : Fld) (hf : f.addr = F.LMP_EVT_RAW_OPEN.addr) : SenseKept l s (raise u f) :=
  h.low fun a ha => reg_raise_other u f a (not_evfReg_of_ge (by omega)) (by rw [hf]; simp only; omega)

theorem bump (a : Nat) (ha : a + 4 < 0xE0100) : SenseKept l s (bump u a) :=
  h.low fun b hb => reg_bump_other u a b (by omega) (by omega)

theorem shown (f : Fld) (b : Bool) (hf : f = F.LAMP_STATUS_OPEN l ∨ f = F.LAMP_STATUS_SHORT l) : SenseKept l s (wrB u f b) := by
  refine (flag_wr_field _ _ _ _ (by simp) ?_).trans h
  obtain rfl | rfl := hf
  · exact .inl (by simp)
  · exact .inl (by simp)

theorem setOpen (b : Bool) : SenseKept l s (setOpen u l b) :=
  (h.shown _ b (.inl rfl)).low fun a ha => reg_setReg_other _ _ _ _ (by simp only [A.LMP_OPEN_NOW]; omega)

theorem setShort (b : Bool) : SenseKept l s (setShort u l b) :=
  (h.shown _ b (.inr rfl)).low fun a ha => reg_setReg_other _ _ _ _ (by simp only [A.LMP_SHORT_NOW]; omega)

theorem guard {q : Bool} {v : State} (hv : GuardKept q u v) : SenseKept l s v :=
  (flag_congr (hv.regs _ (guardWord_lamp l))).trans h

theorem safRefresh : SenseKept l s (safRefresh u) := h.guard (GuardKept.refl (q := true) u).safRefresh

theorem proofLamp : SenseKept l s (proofLamp u) := by
  refine ite ?_ h
  have hbegun : SenseKept l s { u with saf := { u.saf with laser := true, proof := 3, proofAt := u.now } } := h
  exact hbegun.safRefresh

theorem shortSample (high : Bool) : SenseKept l s (shortSample l high u) := by
  unfold Machine.shortSample
  split
  · exact ite ((((h.setLamp _ _).setShort _).bump _ (by decide)).raise _ rfl) (h.setLamp _ _)
  · exact (h.setLamp _ _).setShort _

theorem openSample (high : Bool) : SenseKept l s (openSample l high u) := by
  unfold Machine.openSample
  split
  · have hclosed := (h.setLamp l { lamp u l with opens := 0 }).setOpen false
    have hproven := (hclosed.onLmp fun b => { b with asked := false }).raise F.LMP_EVT_RAW_PROVEN rfl
    exact ite (ite hproven (proofLamp hproven)) hclosed
  · exact ite ((((h.setLamp _ _).setOpen _).bump _ (by decide)).raise _ rfl) (h.setLamp _ _)

end SenseKept

/-- A sample of an enabled lamp shows. -/
theorem lampDiagSample_shows {t l : Nat} {s : State} (short high : Bool) (hon : lmpOn s = true) (hl : l < 16)
    (henabled : flag s (F.LAMP_CFG_ENABLE l) = true) : flag (lampDiagSample t l short high s) (F.LAMP_STATUS_LSENSE l) = high := by
  unfold lampDiagSample
  rw [if_pos ⟨hon, hl, henabled⟩]
  extract_lets u n j v
  have hshown : flag v (F.LAMP_STATUS_LSENSE l) = high := flag_wrB_same _ _ _ (by simp) rfl
  suffices hkept : SenseKept l v _ from hkept.trans hshown
  have hstart := SenseKept.refl l v
  refine .ite hstart (.ite (.ite ((hstart.setLamp _ _).shortSample _) hstart) (.ite ?_ hstart))
  exact ((hstart.setLamp _ _).openSample _).safRefresh

/-! ## Engines -/

/-- ENG_START of an engine. -/
def lengStartLoc (e : Nat) : RegLoc := ⟨0xE0000, 0, .lmp, ⟨8, 1, fun _ => 0, [⟨0, 1, .wo, [], false⟩]⟩, e, 0⟩

theorem bodyReg_lengStart {e : Nat} (he : e < 4) : BodyReg (0xE0400 + 0x100 * e + 8) 0xE0000 (lengStartLoc e) := by
  obtain rfl | rfl | rfl | rfl : e = 0 ∨ e = 1 ∨ e = 2 ∨ e = 3 := by omega
  all_goals exact ⟨by decide, by decide, by decide, rfl, rfl, by decide, by decide, by decide⟩

theorem lengAt_start {e : Nat} (he : e < 4) : lengAt (0xE0400 + 0x100 * e + 8) = some (e, 8) := by
  unfold lengAt
  rw [if_pos (by omega)]
  exact congrArg some (Prod.ext (by simp only; omega) (by simp only; omega))

theorem wideLow_lengStart {e : Nat} (he : e < 4) : wideLow (0xE0400 + 0x100 * e + 8) = none := by
  obtain rfl | rfl | rfl | rfl : e = 0 ∨ e = 1 ∨ e = 2 ∨ e = 3 := by omega
  all_goals rfl

theorem lampEng_lampEngStart (s : State) (e : Nat) :
    (lampEng (lampEngStart s e) e).start = true ∧ (lampEng (lampEngStart s e) e).stop = false := by
  unfold lampEngStart lampEng setLampEng
  simp only [pget_pset_same, and_self]

/-- A write of ENG_START asks for the start of an enabled engine with software start. -/
theorem lmpAct_start {e : Nat} {o s : State} (he : e < 4) (henabled : flag s (F.LENG_CTRL_ENABLE e) = true)
    (hsoft : rd s (F.LENG_CTRL_START_SRC e) = 0) : lmpAct (0xE0400 + 0x100 * e + 8) 1#32 o s = lampEngStart s e := by
  unfold lmpAct
  rw [if_neg (by simp only; omega), if_neg (by simp only; omega), lengAt_start he]
  dsimp only
  rw [if_neg (by simp), if_pos ⟨rfl, rfl, henabled, hsoft⟩]

/-- Settles O47: periods, samples and engine starts. -/
theorem lampPeriods : Obligations.LampPeriods := by
  refine ⟨fun t s hon hend => ⟨_, rfl, ?_⟩, fun t l a b s hon hl henabled => ⟨_, rfl, ?_⟩, fun t r e s hacc henabled hsoft => ⟨_, rfl, ?_⟩⟩
  · have hclock : lampClock (lmpPeriodStart t (at' t s)) = _ := lampClock_lmpPeriodStart (s := at' t s) hon hend
    simp only [lampClock, Prod.mk.injEq] at hclock
    exact ⟨hclock.1, hclock.2.1, hclock.2.2.1⟩
  · exact lampDiagSample_shows (s := at' t s) a b hon hl henabled
  · have he : e % 4 < 4 := Nat.mod_lt _ (by decide)
    have hwritten := (bodyReg_lengStart he).written_narrow (wideLow_lengStart he) hacc fun h => absurd h (by omega)
    have hstored : storeReg (lengStartLoc (e % 4)) (0xE0400 + 0x100 * (e % 4) + 8) (word 1) (at' t s) = at' t s := rfl
    have hact : pageAct 0xE0000 (0xE0400 + 0x100 * (e % 4) + 8) (word 1) (at' t s) (at' t s) = lampEngStart (at' t s) (e % 4) :=
      lmpAct_start he henabled hsoft
    rw [hstored, hact] at hwritten
    have heng : ∀ u : State, ∀ k, lampEng u k = pget LampEng.empty u.lmp.engs k := fun _ _ => rfl
    rw [heng, show (accessW t r (0xE0400 + 0x100 * (e % 4) + 8) 1 s).lmp = (lampEngStart (at' t s) (e % 4)).lmp by rw [hwritten.rest],
      ← heng]
    exact lampEng_lampEngStart _ _

end Sys2Proof.Machine
end

section
/-!
The pair is enabled, arbitrates, and takes over (19 R473 to R475, R481, R485).
-/

namespace Sys2Proof.Machine

/-! ## What leaves the page of PAIR -/

/-- A register of the page of PAIR beside its events. -/
def pairWord (a : Nat) : Prop := 0xF0000 ≤ a ∧ a < 0xF1000 ∧ a ≠ F.PAIR_EVT_RAW_ID_CLASH.addr

/-- From `s` to `u` the registers of the page stay, and no event of it is cleared. -/
structure PairKept (s u : State) : Prop where
  regs : ∀ a, pairWord a → reg u a = reg s a
  raised : ∀ i, rdBit s F.PAIR_EVT_RAW_ID_CLASH.addr i = true → rdBit u F.PAIR_EVT_RAW_ID_CLASH.addr i = true

/-- An event that is set stays set where events are raised. -/
theorem rdBit_raise_of_set {s : State} {a i : Nat} (f : Fld) (hev : ¬ evfReg a) (h : rdBit s a i = true) : rdBit (raise s f) a i = true := by
  rw [rdBit, raise, reg_raiseBits _ _ _ _ hev]
  split
  · rw [bit, BitVec.toNat_or, Nat.testBit_or]
    exact Bool.or_eq_true_iff.2 (.inl h)
  · exact h

namespace PairKept
variable {s u v : State}

theorem refl (s : State) : PairKept s s := ⟨fun _ _ => rfl, fun _ => id⟩

theorem trans (h : PairKept s u) (h' : PairKept u v) : PairKept s v :=
  ⟨fun a ha => (h'.regs a ha).trans (h.regs a ha), fun i hi => h'.raised i (h.raised i hi)⟩

/-- What leaves every register of the page. -/
theorem of_regs (hregs : ∀ a, 0xF0000 ≤ a → a < 0xF1000 → reg u a = reg s a) : PairKept s u :=
  ⟨fun a ha => hregs a ha.1 ha.2.1, fun _ hi => (rdBit_congr (hregs _ (by decide) (by decide))).trans hi⟩

theorem ite {c : Prop} [Decidable c] (hu : PairKept s u) (hv : PairKept s v) : PairKept s (if c then u else v) := by
  split
  · exact hu
  · exact hv

/-- A field of another page is written. -/
theorem wr (h : PairKept s u) (f : Fld) (n : Nat) (hf : f.addr < 0xF0000) : PairKept s (wr u f n) :=
  h.trans (of_regs fun a ha _ => reg_wr_other _ _ _ _ (by omega))

theorem onPair (h : PairKept s u) (f : Pair → Pair) : PairKept s (onPair u f) := ⟨h.regs, h.raised⟩

/-- An event is raised, of this page or of one below. -/
theorem raise (h : PairKept s u) (f : Fld) (hf : f.addr < 0xF0000 ∨ f.addr = F.PAIR_EVT_RAW_ID_CLASH.addr := by decide) :
    PairKept s (raise u f) := by
  refine h.trans ⟨fun a ha => ?_, fun i hi => rdBit_raise_of_set f (not_evfReg_of_ge (by decide)) hi⟩
  obtain ⟨hge, -, hne⟩ := ha
  exact reg_raise_other _ _ _ (not_evfReg_of_ge (by omega)) (by obtain hlow | hsame := hf <;> omega)

theorem rd (h : PairKept s u) (f : Fld) (hf : pairWord f.addr := by exact ⟨by decide, by decide, by decide⟩) : rd u f = rd s f :=
  rd_congr (h.regs _ hf)

theorem flag (h : PairKept s u) (f : Fld) (hf : pairWord f.addr := by exact ⟨by decide, by decide, by decide⟩) : flag u f = flag s f :=
  flag_congr (h.regs _ hf)

/-- The safety block writes no register of the page. -/
theorem guard {q : Bool} (h : PairKept s u) (h' : GuardKept q u v) : PairKept s v :=
  h.trans (of_regs fun a hlo hhi => h'.regs a (by
    simp only [guardWord, driveWord, Bool.or_eq_false_iff, Bool.and_eq_false_imp, decide_eq_false_iff_not, decide_eq_true_eq,
      A.IRQ_EVF_DROPPED, A.LMP_ENG_RESTARTS, A.SAF_STATUS, A.SAF_LATCH_A, A.SAF_LATCH_B, A.SAF_STOP_MS, A.SAF_STOPS]
    omega))

theorem safRefresh (h : PairKept s u) : PairKept s (safRefresh u) := h.guard (GuardKept.refl (q := true) u).safRefresh

theorem safLatch (h : PairKept s u) (a b : Bool) (c : Nat) (o : Torque) (hc : c < 32 := by decide) : PairKept s (safLatch u a b c o) :=
  h.guard ((GuardKept.refl u).safLatch a b c o hc)

theorem pairLatch (h : PairKept s u) (f : Fld) (hf : f.addr < 0xF0000 := by decide) : PairKept s (pairLatch u f) :=
  ((h.wr f 1 hf).safLatch _ _ _ _).safRefresh

theorem grantWatch (h : PairKept s u) (o : State) : PairKept s (grantWatch o u) := ite h (h.raise _)

theorem planStart (h : PairKept s u) : PairKept s (planStart u) :=
  have hentered : PairKept s (onPln (Machine.wr u F.PLN_STATUS_STATE (planHome u)) fun p => { Pln.empty with beat := p.beat, peers := p.peers }) :=
    (h.wr F.PLN_STATUS_STATE (planHome u) (by decide)).trans ⟨fun _ _ => rfl, fun _ => id⟩
  hentered.grantWatch _

theorem planTrack (h : PairKept s u) : PairKept s (planTrack u) := by
  unfold Machine.planTrack
  refine ite h (grantWatch ?_ _)
  exact (h.wr F.PLN_STATUS_STATE 6 (by decide)).trans ⟨fun _ _ => rfl, fun _ => id⟩

theorem sdfStartAll (h : PairKept s u) : PairKept s (sdfStartAll u) := by
  refine h.trans (of_regs fun a ha _ => reg_foldl (fun v c hc => ?_) u)
  have hlt := List.mem_range.1 hc
  rw [reg_ite]
  split
  · exact (reg_bump_other _ _ _ (by simp only [A.SDC_STARTS]; omega) (by simp only [A.SDC_STARTS]; omega)).trans
      (reg_setReg_other _ _ _ _ (by simp only [A.SDC_ENV]; omega))
  · rfl

theorem sdfRedirect (h : PairKept s u) (o : State) : PairKept s (sdfRedirect o u) := by
  unfold Machine.sdfRedirect
  refine ite h (sdfStartAll ?_)
  have hlost : PairKept s (if sdfReceive u then Machine.wr u F.SDF_STATUS_CLK_OK 0 else u) := ite (h.wr _ _ (by decide)) h
  exact ite hlost (hlost.wr F.SDF_STATUS_CLK_OK _ (by decide))

/-- A frame sent to the partner changes no register. -/
theorem pairSend (h : PairKept s u) (sub bytes : Nat) (body : List Word) : PairKept s (pairSend u sub bytes body) := by
  refine h.trans (of_regs fun a _ _ => ?_)
  unfold Machine.pairSend
  split <;> rfl

end PairKept

theorem pair_grantWatch (o s : State) : (grantWatch o s).pair = s.pair := by
  unfold grantWatch
  split
  · rfl
  · exact raise_pair s _

theorem pair_planTrack (s : State) : (planTrack s).pair = s.pair := by
  unfold planTrack
  split
  · rfl
  · exact pair_grantWatch _ _

/-! ## Roles and events -/

/-- A change of role writes ROLE, and an event. -/
theorem setRole_kept (s : State) (r : Nat) : PairKept (wr s F.PAIR_ROLE_ROLE r) (setRole s r) := by
  have hheld := (PairKept.refl (wr s F.PAIR_ROLE_ROLE r)).onPair fun p => { p with
    actOut := decide (r = 1), held := decide (r = 2), raiseAt := none, holdAt := none }
  exact .ite hheld (hheld.raise F.PAIR_EVT_RAW_ROLE_CHANGE).planStart

theorem pairRole_wr {s : State} {r : Nat} (hr : r < 4) : pairRole (wr s F.PAIR_ROLE_ROLE r) = r :=
  (rd_wr_same _ _ _ (by decide)).trans (Nat.mod_eq_of_lt hr)

theorem pairRole_setRole {s : State} {r : Nat} (hr : r < 4) : pairRole (setRole s r) = r :=
  ((setRole_kept s r).rd _).trans (pairRole_wr hr)

/-- A change of role leaves the flags of STATUS and CTRL. -/
theorem flag_setRole (s : State) (r : Nat) (f : Fld) (hf : f.addr ≠ F.PAIR_ROLE_ROLE.addr := by decide)
    (hf' : pairWord f.addr := by exact ⟨by decide, by decide, by decide⟩) : flag (setRole s r) f = flag s f :=
  ((setRole_kept s r).flag f hf').trans (flag_congr (reg_wr_other _ _ _ _ hf))

theorem raised_setRole (s : State) (r i : Nat) (h : rdBit s F.PAIR_EVT_RAW_ID_CLASH.addr i = true) :
    rdBit (setRole s r) F.PAIR_EVT_RAW_ID_CLASH.addr i = true :=
  (setRole_kept s r).raised i ((rdBit_congr (reg_wr_other _ _ _ _ (by decide))).trans h)

/-- A flag of the events of PAIR as a bit of their register. -/
theorem rdBit_event (s : State) (f : Fld) (hf : f.addr = F.PAIR_EVT_RAW_ID_CLASH.addr ∧ f.len = 1 := by decide) :
    rdBit s F.PAIR_EVT_RAW_ID_CLASH.addr f.lo = flag s f := by
  obtain ⟨haddr, hlen⟩ := hf
  rw [rdBit_eq_flag, ← haddr, ← hlen]

/-- An event of PAIR that shows is shown still after what clears none. -/
theorem PairKept.event {s u : State} (h : PairKept s u) {f : Fld} (hs : Machine.flag s f = true)
    (hf : f.addr = F.PAIR_EVT_RAW_ID_CLASH.addr ∧ f.len = 1 := by decide) : Machine.flag u f = true := by
  rw [← rdBit_event u f hf]
  exact h.raised _ ((rdBit_event s f hf).trans hs)

/-- An event of PAIR that is raised shows. -/
theorem flag_raise_pair (s : State) (f : Fld) (hf : f.addr = F.PAIR_EVT_RAW_ID_CLASH.addr ∧ f.len = 1 ∧ f.lo < 32 := by decide) :
    flag (raise s f) f = true := by
  obtain ⟨haddr, hlen, hlo⟩ := hf
  exact flag_raise s f (by rw [haddr]; exact not_evfReg_of_ge (by decide)) (by rw [haddr]; decide) hlen hlo

/-- A look at the pair bundle writes no register but STATUS. -/
theorem reg_pairWatch (s : State) {a : Nat} (ha : a ≠ F.PAIR_STATUS_ARBITRATED.addr) : reg (pairWatch s) a = reg s a := by
  unfold pairWatch
  split
  · rfl
  · split
    · exact reg_wr_other _ _ _ _ ha
    · rfl

theorem idClash_pairWatch (s : State) : flag (pairWatch s) F.PAIR_STATUS_ID_CLASH = flag s F.PAIR_STATUS_ID_CLASH := by
  unfold pairWatch
  split
  · rfl
  · split
    · exact flag_wr_field _ _ _ _ (by decide) (by decide)
    · rfl

/-- Where the bundle is as it was last seen, a look changes nothing. -/
theorem pairWatch_eq {s : State} (h : pairUp s = s.pair.up) : pairWatch s = s := if_pos h

/-! ## ENABLE and SWITCH -/

def pairCtrlLoc : RegLoc := ⟨0xF0000, 0, .sys, ⟨8, 1, fun _ => 0, [⟨1, 1, .w1s, [], false⟩, ⟨0, 1, .rw, [], false⟩]⟩, 0, 0⟩

def pairSwitchLoc : RegLoc := ⟨0xF0000, 0, .sys, ⟨104, 1, fun _ => 0, [⟨0, 1, .wo, [], false⟩]⟩, 0, 0⟩

theorem bodyReg_pairCtrl : BodyReg F.PAIR_CTRL_ENABLE.addr 0xF0000 pairCtrlLoc :=
  ⟨by decide, by decide, by decide, rfl, rfl, by decide, by decide, by decide⟩

theorem bodyReg_pairSwitch : BodyReg A.PAIR_SWITCH 0xF0000 pairSwitchLoc :=
  ⟨by decide, by decide, by decide, rfl, rfl, by decide, by decide, by decide⟩

/-- The page takes no SOFT_RESET. -/
theorem writeCode_pairReset {d : Word} {s c : State} (hsoft : bit d 1 = true) : writeCode pairCtrlLoc F.PAIR_CTRL_ENABLE.addr d s c ≠ 0 := by
  have hreset : (hasHeader pairCtrlLoc.pbase && decide (F.PAIR_CTRL_ENABLE.addr = pairCtrlLoc.pbase + 8) && bit d 1) = true := by
    rw [hsoft]
    decide
  unfold writeCode
  simp only [hreset]
  split_ifs <;> simp_all [pairCtrlLoc]

theorem pairCtrl_unreset {t d : Nat} {r : Requester} {s : State} (hacc : Accepts t r F.PAIR_CTRL_ENABLE.addr d s) : bit (word d) 1 = false := by
  by_contra hne
  have hsoft : bit (word d) 1 = true := by simpa using hne
  obtain ⟨-, -, hcode⟩ := hacc.elim (by decide) (by decide) (by decide : pageBase F.PAIR_CTRL_ENABLE.addr = some 0xF0000)
  have hset : bit (reg (at' t s) F.PAIR_CTRL_ENABLE.addr ||| 2#32) 1 = true := by
    rw [bit, BitVec.toNat_or, Nat.testBit_or]
    exact Bool.or_eq_true_iff.2 (.inr (by decide))
  have hrefused := writeCode_pairReset (s := at' t s) (c := lowerTaken r F.PAIR_CTRL_ENABLE.addr (at' t s)) hset
  have hhead : hasHeader 0xF0000 = true := by decide
  unfold pageWrite writeReg at hcode
  simp only [bodyReg_pairCtrl.row] at hcode
  rw [if_neg (by decide)] at hcode
  simp only [show (hasHeader pairCtrlLoc.pbase && decide (F.PAIR_CTRL_ENABLE.addr = pairCtrlLoc.pbase + 8) && bit (word d) 1) = true by
    rw [hsoft]; decide, if_true] at hcode
  rw [if_pos hrefused] at hcode
  exact hrefused hcode

/-- The pair is enabled as STANDBY, or disabled as SINGLE. -/
theorem pairEnable_shows (s : State) :
    flag (pairEnable s) F.PAIR_CTRL_ENABLE = paired s ∧ pairRole (pairEnable s) = if paired s then 2 else 0 := by
  unfold pairEnable
  split
  · next hon =>
    refine ⟨?_, ?_⟩
    · rw [flag_congr (reg_pairWatch _ (by decide))]
      exact flag_setRole s 2 _
    · rw [pairRole, rd_congr (reg_pairWatch _ (by decide))]
      exact pairRole_setRole (by decide)
  · next hoff =>
    have hkept : PairKept (setReg (setRole s 0) F.PAIR_STATUS_ARBITRATED.addr (setFld 0#32 7 1 (rd (setRole s 0) F.PAIR_STATUS_ID_CLASH)))
        (safRefresh { setReg (setRole s 0) F.PAIR_STATUS_ARBITRATED.addr (setFld 0#32 7 1 (rd (setRole s 0) F.PAIR_STATUS_ID_CLASH)) with
          pair := Pair.empty }) := PairKept.safRefresh ⟨fun _ _ => rfl, fun _ => id⟩
    refine ⟨?_, ?_⟩
    · rw [hkept.flag F.PAIR_CTRL_ENABLE, flag_congr (reg_setReg_other _ _ _ _ (by decide))]
      exact flag_setRole s 0 _
    · rw [pairRole, hkept.rd F.PAIR_ROLE_ROLE, rd_congr (reg_setReg_other _ _ _ _ (by decide))]
      exact pairRole_setRole (by decide)

/-- What a write of CTRL does beside ENABLE. -/
theorem pairAct_ctrl {d : Word} {o s : State} :
    paired (pairAct F.PAIR_CTRL_ENABLE.addr d o s) = paired s ∧
      (paired o ≠ paired s → pairRole (pairAct F.PAIR_CTRL_ENABLE.addr d o s) = if paired s then 2 else 0) := by
  unfold pairAct
  by_cases hchange : paired o = paired s
  · rw [if_neg (by simp [hchange]), if_neg fun h => absurd h.1 (by decide)]
    exact ⟨rfl, fun h => absurd hchange h⟩
  · rw [if_pos ⟨rfl, hchange⟩]
    have hkept := (PairKept.refl (pairEnable s)).sdfRedirect o
    obtain ⟨hpaired, hrole⟩ := pairEnable_shows s
    exact ⟨(hkept.flag _).trans hpaired, fun _ => (hkept.rd _).trans hrole⟩

theorem paired_pairCtrl_stored (d : Word) (s : State) : paired (storeReg pairCtrlLoc F.PAIR_CTRL_ENABLE.addr d s) = bit d 0 := by
  have hstored : storeReg pairCtrlLoc F.PAIR_CTRL_ENABLE.addr d s =
      setReg s F.PAIR_CTRL_ENABLE.addr (takeField (reg s F.PAIR_CTRL_ENABLE.addr) d ⟨0, 1, .rw, [], false⟩) := rfl
  rw [hstored]
  exact flag_stored_enable s _ d

/-- A SWITCH is pending. -/
theorem pairAct_switch (o s : State) : flag (pairAct A.PAIR_SWITCH 1#32 o s) F.PAIR_STATUS_SWITCH_PENDING = true := by
  have hkept : PairKept (wr s F.PAIR_STATUS_SWITCH_PENDING 1) (pairAct A.PAIR_SWITCH 1#32 o s) := by
    unfold pairAct
    rw [if_neg (by simp), if_pos ⟨rfl, rfl⟩]
    exact .ite ((PairKept.refl _).pairSend _ _ _) (.refl _)
  rw [hkept.flag F.PAIR_STATUS_SWITCH_PENDING]
  exact flag_wr_one _ _ (by decide) rfl

/-! ## Arbitration -/

/-- An ARB frame with the device's own id is a clash of the straps. -/
theorem arb_clashes {i h : Nat} {a b : Bool} {s : State} (hpaired : paired s = true) (hid : i % 2 = rd s F.PAIR_ROLE_PAIR_ID)
    (hclear : flag s F.PAIR_STATUS_ID_CLASH = false) :
    flag (arb i a h b s) F.PAIR_STATUS_ID_CLASH = true ∧ pairRole (arb i a h b s) = 2 ∧ flag (arb i a h b s) F.PAIR_EVT_RAW_ID_CLASH = true := by
  unfold arb
  rw [hpaired, if_neg (by simp)]
  dsimp only
  rw [if_pos (hid.trans (rd_congr (reg_pairWatch s (by decide))).symm), idClash_pairWatch, hclear, if_neg (by simp)]
  generalize pairWatch s = o
  generalize hraised : raise (wr o F.PAIR_STATUS_ID_CLASH 1) F.PAIR_EVT_RAW_ID_CLASH = v
  have hkept := ((PairKept.refl (setRole v 2)).pairLatch F.SAF_FAULT_DETAIL_PAIR_DISAGREE).sdfRedirect o
  refine ⟨?_, ?_, ?_⟩
  · rw [hkept.flag F.PAIR_STATUS_ID_CLASH, flag_setRole _ _ F.PAIR_STATUS_ID_CLASH, ← hraised, flag_raise_other _ _ _ (not_evfReg_of_ge (by decide)) (by decide)]
    exact flag_wr_one _ _ (by decide) rfl
  · exact (hkept.rd _).trans (pairRole_setRole (by decide))
  · refine hkept.event ?_
    rw [← rdBit_event _ F.PAIR_EVT_RAW_ID_CLASH]
    refine raised_setRole v 2 _ ?_
    rw [rdBit_event v F.PAIR_EVT_RAW_ID_CLASH, ← hraised]
    exact flag_raise_pair _ _

/-- Another ARB frame is kept. -/
theorem arb_keeps {i h : Nat} {a b : Bool} {s : State} (hpaired : paired s = true) (hid : i % 2 ≠ rd s F.PAIR_ROLE_PAIR_ID) :
    (arb i a h b s).pair.rival = some ⟨b, h % 8, a⟩ := by
  unfold arb
  rw [hpaired, if_neg (by simp)]
  dsimp only
  rw [if_neg fun heq => hid (heq.trans (rd_congr (reg_pairWatch s (by decide))))]
  rfl

/-- After 100 µs of exchange the rules decide. -/
theorem arbDone_decides {t a : Nat} {x : Rival} {s : State} (hup : pairUp s = s.pair.up) (harb : s.pair.arb = some a)
    (hrival : s.pair.rival = some x) (hlong : a + usec 100 ≤ t) (hclear : flag s F.PAIR_STATUS_ID_CLASH = false) :
    flag (arbDone t s) F.PAIR_STATUS_ARBITRATED = true ∧ pairRole (arbDone t s) = (if arbWins s x then 1 else 2) ∧
      flag (arbDone t s) F.PAIR_EVT_RAW_ARB_DONE = true := by
  have hlt : (if arbWins s x then 1 else 2) < 4 := by split <;> decide
  unfold arbDone
  rw [pairWatch_eq hup]
  dsimp only
  rw [harb, hrival]
  dsimp only
  rw [if_pos ⟨hlong, by simp [hclear]⟩]
  generalize hshown : onPair (wr (wr s F.PAIR_STATUS_ARBITRATED 1) F.PAIR_STATUS_SPLIT 0) (fun p => { p with arb := none }) = o
  have hdone : PairKept (raise (setRole o (if arbWins s x then 1 else 2)) F.PAIR_EVT_RAW_ARB_DONE)
      (if arbWins s x then alignSend (raise (setRole o (if arbWins s x then 1 else 2)) F.PAIR_EVT_RAW_ARB_DONE)
        else raise (setRole o (if arbWins s x then 1 else 2)) F.PAIR_EVT_RAW_ARB_DONE) :=
    .ite ((PairKept.refl _).pairSend _ _ _) (.refl _)
  have hrole := (PairKept.refl (setRole o (if arbWins s x then 1 else 2))).raise F.PAIR_EVT_RAW_ARB_DONE
  refine ⟨?_, ?_, hdone.event (flag_raise_pair _ _)⟩
  · rw [hdone.flag F.PAIR_STATUS_ARBITRATED, hrole.flag F.PAIR_STATUS_ARBITRATED, flag_setRole _ _ F.PAIR_STATUS_ARBITRATED, ← hshown]
    exact (flag_wr_field _ _ _ _ (by decide) (by decide)).trans (flag_wr_one _ _ (by decide) rfl)
  · exact (hdone.rd _).trans ((hrole.rd _).trans (pairRole_setRole hlt))

/-- A SOLO device that has found no partner becomes ACTIVE. -/
theorem arbWaitExpire_solo {t : Nat} {s : State} (hpaired : paired s = true) (hsolo : flag s F.PAIR_CFG_SOLO = true) (hrole : pairRole s = 2)
    (harb : flag s F.PAIR_STATUS_ARBITRATED = false) (hclear : flag s F.PAIR_STATUS_ID_CLASH = false) (hdown : s.pair.up = false)
    (hup : pairUp s = false) (hlong : s.pair.since + msec (rd s F.PAIR_CFG_ARB_WAIT) ≤ t) :
    pairRole (arbWaitExpire t s) = 1 ∧ flag (arbWaitExpire t s) F.PAIR_STATUS_SPLIT = true := by
  unfold arbWaitExpire
  rw [pairWatch_eq (hup.trans hdown.symm)]
  dsimp only
  rw [if_pos ⟨hpaired, hsolo, hrole, by simp [harb], by simp [hclear], by simp [hdown], hlong⟩]
  exact ⟨pairRole_setRole (by decide), (flag_setRole _ _ F.PAIR_STATUS_SPLIT).trans (flag_wr_one _ _ (by decide) rfl)⟩

/-! ## Takeover -/

/-- What an old active device shows of a takeover. -/
def takenShown (t cause frame : Nat) (s : State) : State :=
  setWide (raise (takeoverNote (onPair (wr (wr (wr s F.PAIR_ROLE_ROLE 2) F.PAIR_STATUS_SWITCH_PENDING 0) F.PAIR_STATUS_TIME_ALIGNED 1)
    fun p => { p with actOut := false, raiseAt := none, holdAt := some (t + usec 10) }) (cause % 8)) F.PAIR_EVT_RAW_ROLE_CHANGE)
    A.PAIR_TAKEOVER_FRAME_LO frame

theorem taken_eq {t c f : Nat} {s : State} (hpaired : paired s = true) (hrole : pairRole s = 1) :
    taken t c f s = planTrack (takenShown t c f s) := if_pos ⟨hpaired, hrole⟩

theorem pair_takenShown (t c f : Nat) (s : State) :
    (takenShown t c f s).pair = { s.pair with actOut := false, raiseAt := none, holdAt := some (t + usec 10) } := by
  simp only [takenShown, takeoverNote, setWide, setReg_pair, raise_pair, bump_pair, wr_pair, onPair]

theorem takenShown_shows (t c f : Nat) (s : State) : pairRole (takenShown t c f s) = 2 ∧
    rd (takenShown t c f s) F.PAIR_TAKEOVER_CAUSE = c % 8 ∧ flag (takenShown t c f s) F.PAIR_EVT_RAW_TAKEOVER = true := by
  have hwide : ∀ (u : State) (g : Fld), g.addr ≠ A.PAIR_TAKEOVER_FRAME_LO → g.addr ≠ A.PAIR_TAKEOVER_FRAME_LO + 4 →
      reg (setWide u A.PAIR_TAKEOVER_FRAME_LO f) g.addr = reg u g.addr := fun u g h h' =>
    (reg_setReg_other _ _ _ _ h').trans (reg_setReg_other _ _ _ _ h)
  have hnote : ∀ u : State, PairKept (bump (wr u F.PAIR_TAKEOVER_CAUSE (c % 8)) A.PAIR_TAKEOVERS)
      (raise (takeoverNote u (c % 8)) F.PAIR_EVT_RAW_ROLE_CHANGE) := fun u =>
    ((PairKept.refl _).raise F.PAIR_EVT_RAW_TAKEOVER).raise F.PAIR_EVT_RAW_ROLE_CHANGE
  unfold takenShown
  generalize hbegun : onPair (wr (wr (wr s F.PAIR_ROLE_ROLE 2) F.PAIR_STATUS_SWITCH_PENDING 0) F.PAIR_STATUS_TIME_ALIGNED 1)
    (fun p => { p with actOut := false, raiseAt := none, holdAt := some (t + usec 10) }) = u
  refine ⟨?_, ?_, ?_⟩
  · rw [pairRole, rd_congr (hwide _ F.PAIR_ROLE_ROLE (by decide) (by decide)), (hnote u).rd F.PAIR_ROLE_ROLE,
      rd_congr (reg_bump_other _ _ _ (by decide) (by decide)), rd_wr_reg _ _ _ _ (by decide), ← hbegun]
    exact (rd_wr_reg _ _ _ _ (by decide)).trans ((rd_wr_reg _ _ _ _ (by decide)).trans (pairRole_wr (by decide)))
  · rw [rd_congr (hwide _ F.PAIR_TAKEOVER_CAUSE (by decide) (by decide)), (hnote u).rd F.PAIR_TAKEOVER_CAUSE,
      rd_congr (reg_bump_other _ _ _ (by decide) (by decide)), rd_wr_same _ _ _ (by decide)]
    exact Nat.mod_mod c 8
  · rw [flag_congr (hwide _ F.PAIR_EVT_RAW_TAKEOVER (by decide) (by decide))]
    exact ((PairKept.refl _).raise F.PAIR_EVT_RAW_ROLE_CHANGE).event (flag_raise_pair _ _)

/-- Settles O48: ENABLE, arbitration, SWITCH and both sides of a takeover. -/
theorem pairRoles : Obligations.PairRoles := by
  refine ⟨fun t r d s hacc => ⟨_, rfl, ?_⟩,
    fun t i a h b s hpaired hid hclear => ⟨_, rfl, arb_clashes (s := at' t s) hpaired hid hclear⟩,
    fun t i a h b s hpaired hid => ⟨_, rfl, arb_keeps (s := at' t s) hpaired hid⟩,
    fun t a x s hup harb hrival hlong hclear => ⟨_, rfl, arbDone_decides (s := at' t s) hup harb hrival hlong hclear⟩,
    fun t s hpaired hsolo hrole harb hclear hdown hup hlong =>
      ⟨_, rfl, arbWaitExpire_solo (s := at' t s) hpaired hsolo hrole harb hclear hdown hup hlong⟩,
    fun t r s hacc => ⟨_, rfl, ?_⟩,
    fun t c f s hpaired hrole => ⟨_, rfl, ?_⟩,
    fun t a s hraise hdue hrole => ⟨_, rfl, ?_⟩,
    fun t a s hhold hdue hrole => ⟨_, rfl, ?_⟩⟩
  · have hwritten := bodyReg_pairCtrl.written_narrow rfl hacc fun _ => pairCtrl_unreset hacc
    obtain ⟨hon, hrole⟩ := pairAct_ctrl (d := word d) (o := at' t s) (s := storeReg pairCtrlLoc F.PAIR_CTRL_ENABLE.addr (word d) (at' t s))
    have hstored := paired_pairCtrl_stored (word d) (at' t s)
    refine ⟨(hwritten.flag _ (by decide)).trans (hon.trans hstored), fun hchange => ?_⟩
    rw [hstored] at hrole
    exact (hwritten.rd _ (by decide)).trans (hrole hchange)
  · have hwritten := bodyReg_pairSwitch.written_narrow rfl hacc
    exact (hwritten.flag _ (by decide)).trans (pairAct_switch (at' t s) _)
  · rw [show taken t c f (at' t s) = _ from taken_eq (s := at' t s) hpaired hrole, pair_planTrack, pair_takenShown]
    obtain ⟨hrole, hcause, hevent⟩ := takenShown_shows t c f (at' t s)
    have hkept := (PairKept.refl (takenShown t c f (at' t s))).planTrack
    exact ⟨(hkept.rd _).trans hrole, rfl, rfl, (hkept.rd _).trans hcause, hkept.event hevent⟩
  · have hraise' : (at' t s).pair.raiseAt = some a := hraise
    unfold activeOutRaise
    rw [hraise']
    dsimp only
    rw [if_pos ⟨hdue, hrole⟩]
    exact ⟨rfl, rfl⟩
  · have hhold' : (at' t s).pair.holdAt = some a := hhold
    unfold standbyHoldApply
    rw [hhold']
    dsimp only
    rw [if_pos ⟨hdue, hrole⟩]
    exact ⟨rfl, rfl⟩

end Sys2Proof.Machine
end

section
/-!
SUPPORT. What the start of a conversion, a result of a channel that no other block takes, and the end of a channel of a round leave of
the housekeeping converter (16 R412 to R421).
-/

namespace Sys2Proof.Machine

theorem reg_onHka (s : State) (f : Hka → Hka) (a : Nat) : reg (onHka s f) a = reg s a := rfl

/-! ## Starts of conversions -/

/-- From `s` to `u` at most a conversion starts, which URGENT_ACTIVE shows. -/
structure NextKept (s u : State) : Prop where
  rest : u = { s with regs := u.regs, hka := u.hka }
  regs : ∀ a, a ≠ F.HKA_STATUS_RUNNING.addr → reg u a = reg s a
  shown : ∀ f ∈ [F.HKA_STATUS_IN_ROUND, F.HKA_STATUS_ROUND_QUEUED, F.HKA_STATUS_URG_HOST_BUSY], flag u f = flag s f
  due : u.hka.due = s.hka.due
  start : u.hka.start = s.hka.start
  last : u.hka.last = s.hka.last

theorem NextKept.refl (s : State) : NextKept s s := ⟨rfl, fun _ _ => rfl, fun _ _ => rfl, rfl, rfl, rfl⟩

theorem hkaBegin_kept (s : State) (kind c : Nat) : NextKept s (hkaBegin s kind c) := by
  unfold hkaBegin
  split
  · split
    · exact ⟨rfl, fun _ _ => rfl, fun _ _ => rfl, rfl, rfl, rfl⟩
    · exact ⟨rfl, fun _ _ => rfl, fun _ _ => rfl, rfl, rfl, rfl⟩
  · refine ⟨rfl, fun a ha => reg_wr_other _ _ _ _ ha, fun f hf => ?_, rfl, rfl, rfl⟩
    simp only [List.mem_cons, List.not_mem_nil, or_false] at hf
    obtain rfl | rfl | rfl := hf
    all_goals exact flag_wr_field s F.HKA_STATUS_URGENT_ACTIVE _ _ (by decide) (by decide)

theorem hkaNext_kept (s : State) : NextKept s (hkaNext s) := by
  unfold hkaNext
  split
  · exact .refl s
  · split
    · obtain ⟨hrest, hregs, hshown, hdue, hstart, hlast⟩ := hkaBegin_kept (onHka s fun h => { h with galWait := false }) 1 31
      exact ⟨hrest, hregs, hshown, hdue, hstart, hlast⟩
    · split
      · exact hkaBegin_kept s 2 _
      · split
        · exact hkaBegin_kept s 0 _
        · exact .refl s

/-- The samples gathered stay where the channel of the round does not restart. -/
theorem acc_hkaNext {s : State} (h : ∀ c, s.hka.chan = some c → s.hka.restart.testBit c = false) : (hkaNext s).hka.acc = s.hka.acc := by
  have hurgent : ∀ (u : State) (kind c : Nat), kind ≠ 0 → (hkaBegin u kind c).hka.acc = u.hka.acc := fun u kind c hk => by
    rw [hkaBegin, if_neg hk]
    rfl
  unfold hkaNext
  split
  · rfl
  · split
    · exact hurgent (onHka s fun h => { h with galWait := false }) 1 31 (by decide)
    · split
      · exact hurgent s 2 _ (by decide)
      · split
        · next c hc =>
          rw [hkaBegin, if_pos rfl, h c hc, if_neg (by decide)]
          rfl
        · rfl

/-! ## Results -/

/-- A register that selects channels which other blocks take. -/
def hkaTaker (a : Nat) : Prop := a = F.THM_CTRL_ENABLE.addr ∨ a = F.CAL_TEMP_SEL.addr ∨ a = F.RET_TEMP_SEL_CHAN.addr

/-- The registers followed: what selects the channels that other blocks take, the count of timeouts, and the words of the channels. -/
def hkaFixed (a : Nat) : Prop := hkaTaker a ∨ a = A.HKA_BLANK_TIMEOUTS ∨ ∃ c < 36, a = (F.HCH_STATUS_VALID c).addr

theorem hkaFixed_status {c : Nat} (hc : c < 36) : hkaFixed (F.HCH_STATUS_VALID c).addr := .inr (.inr ⟨c, hc, rfl⟩)

theorem hkaTaker.ne_status {a : Nat} (h : hkaTaker a) (c : Nat) : a ≠ (F.HCH_STATUS_VALID c).addr := by
  obtain rfl | rfl | rfl := h <;> simp only <;> omega

theorem hkaFixed.ge {a : Nat} (h : hkaFixed a) : 0x31000 ≤ a ∧ a ≠ F.HKA_EVT_RAW_OPEN.addr := by
  obtain (rfl | rfl | rfl) | rfl | ⟨c, -, rfl⟩ := h
  · decide
  · decide
  · decide
  · decide
  · simp only
    omega

/-- A register that is not followed: below them, or in the page of HKA beside them. -/
def hkaLoose (a : Nat) : Bool :=
  decide (a < 0x31000) || (decide (0x82000 ≤ a) && decide (a < 0x83000))
    || (decide (0xC0000 ≤ a) && decide (a < 0xC0580) && decide (a ≠ A.HKA_BLANK_TIMEOUTS) && !(decide (0xC0100 ≤ a) && decide (a % 0x20 = 0x10)))

theorem ne_of_hkaLoose {a b : Nat} (ha : hkaFixed a) (hb : hkaLoose b = true) : a ≠ b := by
  simp only [hkaLoose, Bool.or_eq_true, Bool.and_eq_true, decide_eq_true_eq, Bool.not_eq_true', Bool.and_eq_false_imp,
    decide_eq_false_iff_not] at hb
  obtain (rfl | rfl | rfl) | rfl | ⟨c, hc, rfl⟩ := ha <;> simp only [A.HKA_BLANK_TIMEOUTS] at hb ⊢ <;> omega

/-- From `s` to `u` the registers followed stay, no event of HKA is cleared, and neither the time nor an instant of a result changes. -/
structure ResultKept (s u : State) : Prop where
  regs : ∀ a, hkaFixed a → reg u a = reg s a
  raised : ∀ i, rdBit s F.HKA_EVT_RAW_OPEN.addr i = true → rdBit u F.HKA_EVT_RAW_OPEN.addr i = true
  now : u.now = s.now
  last : u.hka.last = s.hka.last

namespace ResultKept
variable {s u v : State}

theorem refl (s : State) : ResultKept s s := ⟨fun _ _ => rfl, fun _ => id, rfl, rfl⟩

theorem trans (h : ResultKept s u) (h' : ResultKept u v) : ResultKept s v :=
  ⟨fun a ha => (h'.regs a ha).trans (h.regs a ha), fun i hi => h'.raised i (h.raised i hi), h'.now.trans h.now, h'.last.trans h.last⟩

theorem ite {c : Prop} [Decidable c] (hu : ResultKept s u) (hv : ResultKept s v) : ResultKept s (if c then u else v) := by
  split
  · exact hu
  · exact hv

/-- A register that is not followed is written. -/
theorem setReg (h : ResultKept s u) (b : Nat) (w : Word) (hb : hkaLoose b = true ∧ b ≠ F.HKA_EVT_RAW_OPEN.addr := by decide) :
    ResultKept s (setReg u b w) :=
  h.trans ⟨fun _ ha => reg_setReg_other _ _ _ _ (ne_of_hkaLoose ha hb.1), fun _ hi => (rdBit_congr (reg_setReg_other _ _ _ _ hb.2.symm)).trans hi,
    rfl, rfl⟩

theorem wr (h : ResultKept s u) (f : Fld) (n : Nat) (hf : hkaLoose f.addr = true ∧ f.addr ≠ F.HKA_EVT_RAW_OPEN.addr := by decide) :
    ResultKept s (wr u f n) := h.setReg _ _ hf

theorem wrBit (h : ResultKept s u) (b i : Nat) (x : Bool) (hb : hkaLoose b = true ∧ b ≠ F.HKA_EVT_RAW_OPEN.addr := by decide) :
    ResultKept s (wrBit u b i x) := h.setReg _ _ hb

theorem bump (h : ResultKept s u) (b : Nat)
    (hb : (hkaLoose b = true ∧ b ≠ F.HKA_EVT_RAW_OPEN.addr) ∧ hkaLoose (b + 4) = true ∧ b + 4 ≠ F.HKA_EVT_RAW_OPEN.addr := by decide) :
    ResultKept s (bump u b) :=
  ite (h.setReg _ _ hb.1) (ite h ((h.setReg _ _ hb.1).setReg _ _ hb.2))

/-- An event of HKA, or of a page below, is raised. -/
theorem raise (h : ResultKept s u) (f : Fld) (hf : f.addr = F.HKA_EVT_RAW_OPEN.addr := by rfl) : ResultKept s (raise u f) := by
  refine h.trans ⟨fun a ha => ?_, fun i hi => rdBit_raise_of_set f (not_evfReg_of_ge (by decide)) hi, raise_now u f, ?_⟩
  · obtain ⟨hge, hne⟩ := ha.ge
    exact reg_raise_other _ _ _ (not_evfReg_of_ge (by omega)) (by rw [hf]; exact hne)
  · rw [raise_hka]

/-- The block changes beside the instants of results. -/
theorem onHka (h : ResultKept s u) (f : Hka → Hka) (hf : ∀ x, (f x).last = x.last := by exact fun _ => rfl) : ResultKept s (onHka u f) :=
  h.trans ⟨fun _ _ => rfl, fun _ => id, rfl, hf _⟩

theorem toQ16 (h : ResultKept s u) (w : Word) : ResultKept s (toQ16 u w).2 := by
  unfold Machine.toQ16
  split
  · split
    · exact h
    · exact h.trans ⟨fun _ _ => rfl, fun _ => id, rfl, rfl⟩
  · exact h.trans ⟨fun _ _ => rfl, fun _ => id, rfl, rfl⟩

/-- A sample of a monitor writes the registers of the monitors. -/
theorem monAdd (h : ResultKept s u) {m : Nat} (hm : m < 16) (x : Int) : ResultKept s (monAdd u m x) := by
  have hstatus : ∀ f : Fld, f.addr = 0x4124 + 0xC0 * m → hkaLoose f.addr = true ∧ f.addr ≠ F.HKA_EVT_RAW_OPEN.addr := fun f hf => by
    rw [hf]
    refine ⟨?_, by simp only; omega⟩
    simp only [hkaLoose, Bool.or_eq_true, decide_eq_true_eq]
    exact .inl (.inl (by omega))
  unfold Machine.monAdd
  extract_lets bin st full
  have hfull : ResultKept s full := ite (h.wr (F.MON_STATUS_HIST_OVF m) 1 (hstatus _ rfl)) h
  refine ite ?_ (hfull.trans ⟨fun _ _ => rfl, fun _ => id, rfl, rfl⟩)
  have hfree : ResultKept s (takeFree full 64).2 := hfull.trans ⟨fun _ _ => rfl, fun _ => id, rfl, rfl⟩
  exact (hfree.wr (F.MON_STATUS_SUM_OVF m) 1 (hstatus _ rfl)).trans ⟨fun _ _ => rfl, fun _ => id, rfl, rfl⟩

theorem monSample (h : ResultKept s u) (src arg : Nat) (x : Int) : ResultKept s (monSample u src arg x) :=
  ite h (List.foldlRecOn (motive := ResultKept s) _ _ h fun _ hv _ hm => ite (hv.monAdd (List.mem_range.1 hm) x) hv)

theorem galPosition (h : ResultKept s u) (y : Int) : ResultKept s (galPosition u y) :=
  (h.setReg A.GAL_POS _).trans ⟨fun _ _ => rfl, fun _ => id, rfl, rfl⟩

theorem linFormed (h : ResultKept s u) (c : Nat) : ResultKept s (linFormed u c) := by
  unfold Machine.linFormed
  split
  · exact h.onHka _
  · exact h.onHka _
  · exact h

theorem openClear (h : ResultKept s u) (c : Nat) (isOpen : Bool) : ResultKept s (openClear u c isOpen) := ite h (h.wrBit _ _ _)

theorem rawFlags (h : ResultKept s u) (c : Nat) (isOpen clamp : Bool) : ResultKept s (rawFlags u c isOpen clamp) := by
  have hopen : ResultKept s (if isOpen then Machine.raise (Machine.wrBit u A.HKA_OPEN_FLAGS c true) F.HKA_EVT_RAW_OPEN else u) :=
    ite ((h.wrBit _ _ _).raise _) h
  exact ite ((hopen.wrBit _ _ _).raise _) hopen

theorem hkaNext (h : ResultKept s u) : ResultKept s (hkaNext u) := by
  have hnext := hkaNext_kept u
  refine h.trans ⟨fun a ha => hnext.regs a (ne_of_hkaLoose ha (by decide)), fun i hi => ?_, ?_, hnext.last⟩
  · exact (rdBit_congr (hnext.regs _ (by decide))).trans hi
  · rw [hnext.rest]

theorem roundNext (h : ResultKept s u) (c : Nat) : ResultKept s (roundNext u c) := by
  unfold Machine.roundNext
  split
  · exact h.onHka _
  · exact (((((((h.setReg A.HKA_ROUND_COUNT _).setReg A.HKA_ROUND_LAST_US _).wr F.HKA_STATUS_IN_ROUND 0).wr
      F.HKA_STATUS_ROUND_QUEUED 0).onHka _).raise _).monSample _ _ _)

theorem urgentOver (h : ResultKept s u) (kind : Nat) : ResultKept s (urgentOver u kind) :=
  have hover := ((h.onHka fun x => { x with conv := none }).wr F.HKA_STATUS_URGENT_ACTIVE 0).bump A.HKA_URGENTS
  ite (((hover.wr F.HKA_URGENT_REQ 0).wr F.HKA_STATUS_URG_HOST_BUSY 0).raise _) hover

/-- A field of a register followed. -/
theorem rd (h : ResultKept s u) (f : Fld) (hf : hkaFixed f.addr) : rd u f = rd s f := rd_congr (h.regs _ hf)

end ResultKept

/-! ## A channel that no other block takes -/

/-- THM and CAL take no result of the channel. -/
def Aside (s : State) (c : Nat) : Prop :=
  c < 36 ∧ c ≠ 32 ∧ c ≠ 33 ∧ flag s F.THM_CTRL_ENABLE = false ∧ rd s F.CAL_TEMP_SEL ≠ c ∧ rd s F.RET_TEMP_SEL_CHAN ≠ c

theorem Aside.kept {s u : State} {c : Nat} (h : Aside s c) (hkept : ∀ a, hkaTaker a → reg u a = reg s a) :
    Aside u c := by
  obtain ⟨hc, h32, h33, hthm, hcal, hret⟩ := h
  have hthm' := hkept F.THM_CTRL_ENABLE.addr (.inl rfl)
  have hcal' := hkept F.CAL_TEMP_SEL.addr (.inr (.inl rfl))
  have hret' := hkept F.RET_TEMP_SEL_CHAN.addr (.inr (.inr rfl))
  exact ⟨hc, h32, h33, (flag_congr hthm').trans hthm, by rwa [rd_congr hcal'], by rwa [rd_congr hret']⟩

theorem thmResult_aside {s : State} {c : Nat} (h : Aside s c) (valid : Bool) (x y : Word) : thmResult s c valid x y = s := by
  obtain ⟨-, h32, h33, hthm, -⟩ := h
  unfold thmResult
  dsimp only
  rw [if_neg (not_or.2 ⟨h32, h33⟩), hthm, if_neg (by decide)]

theorem calResult_aside {s : State} {c : Nat} (h : Aside s c) (valid : Bool) (y : Word) : calResult s c valid y = s := by
  obtain ⟨-, -, -, -, hcal, -⟩ := h
  exact if_pos hcal

/-- The low half of a word. -/
theorem fld_word_low (n : Nat) : fld (word n) 0 16 = n % 65536 := by
  simp [fld, word]

/-- A result of a channel that no other block takes counts in its CH_STATUS, and its instant is noted. -/
structure Placed (s u : State) (c : Nat) : Prop where
  count : rd u (F.HCH_STATUS_COUNT c) = (rd s (F.HCH_STATUS_COUNT c) + 1) % 65536
  last : pget 0 u.hka.last c = s.now
  regs : ∀ a, hkaFixed a → a ≠ (F.HCH_STATUS_VALID c).addr → reg u a = reg s a
  raised : ∀ i, rdBit s F.HKA_EVT_RAW_OPEN.addr i = true → rdBit u F.HKA_EVT_RAW_OPEN.addr i = true

theorem Placed.then {s u v : State} {c : Nat} (h : Placed s u c) (hc : c < 36) (h' : ResultKept u v) : Placed s v c where
  count := (rd_congr (f := F.HCH_STATUS_COUNT c) (h'.regs _ (hkaFixed_status hc))).trans h.count
  last := by rw [h'.last, h.last]
  regs a ha hne := (h'.regs a ha).trans (h.regs a ha hne)
  raised i hi := h'.raised i (h.raised i hi)

theorem placeResult_placed {s : State} {c : Nat} (h : Aside s c) (x y : Word) (isOpen clamp timeout ref : Bool) :
    Placed s (placeResult s c x y isOpen clamp timeout ref) c := by
  obtain ⟨hc, -⟩ := id h
  have hfixed : hkaFixed (F.HCH_STATUS_VALID c).addr := hkaFixed_status hc
  have hother : ∀ a w, a ≠ (F.HCH_STATUS_VALID c).addr → reg (setReg s (F.HCH_STATUS_VALID c).addr w) a = reg s a :=
    fun a w ha => reg_setReg_other _ _ _ _ ha
  have hresult : hkaLoose (A.HCH_RESULT c) = true ∧ A.HCH_RESULT c ≠ F.HKA_EVT_RAW_OPEN.addr := by
    simp only [hkaLoose, A.HCH_RESULT, A.HKA_BLANK_TIMEOUTS, Bool.or_eq_true, Bool.and_eq_true, decide_eq_true_eq, Bool.not_eq_true', Bool.and_eq_false_imp,
      decide_eq_false_iff_not]
    omega
  unfold placeResult
  extract_lets valid n st shown valued felt noted cleared held
  have hshown : rd shown (F.HCH_STATUS_COUNT c) = (rd s (F.HCH_STATUS_COUNT c) + 1) % 65536 := by
    have hword : reg shown (F.HCH_STATUS_COUNT c).addr = word st := reg_setReg_same _ _ _
    rw [rd, hword, fld_word_low]
    simp only [st, n]
    split <;> omega
  have hfelt : ResultKept shown felt := by
    have hvalued : ResultKept shown valued := .ite ((ResultKept.refl shown).setReg _ _ hresult) (.refl shown)
    exact .ite ((hvalued.toQ16 y).galPosition _) hvalued
  have hcleared : ResultKept noted cleared := ((ResultKept.refl noted).openClear _ _).linFormed _
  have hregs : ∀ a, hkaFixed a → reg cleared a = reg shown a := fun a ha => (hcleared.regs a ha).trans (hfelt.regs a ha)
  have haside : Aside cleared c := h.kept fun a ha => (hregs a (.inl ha)).trans (hother a _ (ha.ne_status c))
  have hheld : held = cleared := by
    obtain ⟨-, -, -, -, -, hret⟩ := id haside
    exact if_neg hret
  rw [hheld, calResult_aside haside, thmResult_aside haside]
  refine ⟨(rd_congr (f := F.HCH_STATUS_COUNT c) (hregs _ hfixed)).trans hshown, ?_, fun a ha hne => (hregs a ha).trans (hother a _ hne), fun i hi => ?_⟩
  · rw [hcleared.last]
    exact (pget_pset_same _ _ _ _).trans hfelt.now
  · refine hcleared.raised i (hfelt.raised i ?_)
    exact (rdBit_congr (hother _ _ (by simp only; omega))).trans hi

end Sys2Proof.Machine
end

section
/-!
Rounds of the housekeeping converter, and the ends of its conversions (16 R412, R413, R415, R418, R421, R423).
-/

namespace Sys2Proof.Machine

/-! ## Rounds -/

/-- The set that a round latches. -/
def roundSet (s : State) : Nat := (reg s A.HKA_SCAN_MASK0).toNat + (rd s F.HKA_SCAN_MASK1_HI * 4 + 3) * 2 ^ 32

/-- The channels of a set restart that were not in the set before. -/
def enterRestart (old set : Nat) (s : State) : State :=
  (List.range 36).foldl (fun s c => if set.testBit c ∧ !(old.testBit c) then chanRestart s c else s) s

/-- A round has begun, and no conversion yet. -/
def roundBegun (s : State) (set : Nat) : State :=
  onHka (wr s F.HKA_STATUS_IN_ROUND 1) fun h => { h with
    due := false, start := s.now, set := set, chan := nextChan set 0, acc := HkaAcc.empty }

theorem roundBegun_shows (s : State) (set : Nat) : flag (roundBegun s set) F.HKA_STATUS_IN_ROUND = true ∧
    (roundBegun s set).hka.due = false ∧ (roundBegun s set).hka.start = s.now :=
  ⟨(flag_congr (reg_onHka _ _ _)).trans (flag_wr_one s _ (by decide) rfl), rfl, rfl⟩

theorem roundStart_eq {s : State} (h : ¬ (!(hkaOn s) ∨ !s.hka.due ∨ flag s F.HKA_STATUS_IN_ROUND)) :
    roundStart s = hkaNext (roundBegun (enterRestart s.hka.set (roundSet s) s) (roundSet s)) := if_neg h

theorem now_enterRestart (old set : Nat) (s : State) : (enterRestart old set s).now = s.now :=
  foldl_keeps State.now (fun u c => by split <;> rfl) _ s

/-- A round that is due begins. -/
theorem roundStart_begins {s : State} (hon : hkaOn s = true) (hdue : s.hka.due = true) (hidle : flag s F.HKA_STATUS_IN_ROUND = false) :
    flag (roundStart s) F.HKA_STATUS_IN_ROUND = true ∧ (roundStart s).hka.due = false ∧ (roundStart s).hka.start = s.now := by
  rw [roundStart_eq (by simp [hon, hdue, hidle])]
  obtain ⟨hround, hdue', hstart⟩ := roundBegun_shows (enterRestart s.hka.set (roundSet s) s) (roundSet s)
  have hnext := hkaNext_kept (roundBegun (enterRestart s.hka.set (roundSet s) s) (roundSet s))
  exact ⟨(hnext.shown _ (by simp)).trans hround, hnext.due.trans hdue', hnext.start.trans (hstart.trans (now_enterRestart _ _ _))⟩

/-- A round start that is given while none is in progress or due makes a round due. -/
theorem roundRequest_due {s : State} (hon : hkaOn s = true) (hidle : flag s F.HKA_STATUS_IN_ROUND = false) :
    (roundRequest s).hka.due = true := by
  have hbump : ∀ u : State, u.hka.due = s.hka.due → s.hka.due = true → u.hka.due = true := fun u h h' => h.trans h'
  unfold roundRequest
  rw [hon, if_neg (by decide)]
  split
  · rfl
  · next hbusy =>
    have hdue : s.hka.due = true := by simpa [hidle] using hbusy
    split
    · exact hdue
    · exact hbump _ (by rw [raise_hka, bump_hka]) hdue

/-- While a round is in progress or due, a start is queued; one more is an overrun. -/
theorem roundRequest_busy {s : State} (hon : hkaOn s = true) (hbusy : (flag s F.HKA_STATUS_IN_ROUND || s.hka.due) = true) :
    roundRequest s = if !(flag s F.HKA_STATUS_ROUND_QUEUED) then wr s F.HKA_STATUS_ROUND_QUEUED 1
      else raise (bump s A.HKA_ROUND_OVERRUN) F.HKA_EVT_RAW_ROUND_OVERRUN := by
  unfold roundRequest
  rw [hon, if_neg (by decide), if_neg]
  rcases Bool.or_eq_true_iff.1 hbusy with h | h <;> simp [h]

/-- The timer gives a round start. -/
theorem exec_roundTimer {t : Nat} {s : State} (hsrc : rd s F.HKA_ROUND_CFG_SRC = 0) :
    exec (.roundTimer t) s = .next (roundRequest (at' t s)) := congrArg Host.Outcome.next (if_pos hsrc)

def hkaCtrlLoc : RegLoc :=
  ⟨0xC0000, 0, .hka, ⟨8, 1, fun _ => 0, [⟨2, 1, .w1s, [], false⟩, ⟨1, 1, .w1s, [], false⟩, ⟨0, 1, .rw, [], false⟩]⟩, 0, 0⟩

theorem bodyReg_hkaCtrl : BodyReg F.HKA_CTRL_ENABLE.addr 0xC0000 hkaCtrlLoc :=
  ⟨by decide, by decide, by decide, rfl, rfl, by decide, by decide, by decide⟩

/-- ROUND_TRIG beside ENABLE gives a round start. -/
theorem hkaAct_trig {d : Word} {o s : State} (hen : flag s F.HKA_CTRL_ENABLE = true) (htrig : bit d 2 = true) :
    hkaAct F.HKA_CTRL_ENABLE.addr d o s = roundRequest (hkaNext s) := by
  unfold hkaAct
  rw [if_pos rfl]
  dsimp only
  rw [if_pos hen, if_pos htrig]

/-- A conversion that starts leaves the converter on. -/
theorem hkaOn_hkaNext (s : State) : hkaOn (hkaNext s) = hkaOn s := by
  have hnext := hkaNext_kept s
  have hheld : (hkaNext s).held = s.held := by rw [hnext.rest]
  have hwiping : (hkaNext s).wiping = s.wiping := by rw [hnext.rest]
  rw [hkaOn, hkaOn, sysOn_congr hheld hwiping (hnext.regs _ (by decide)), flag_congr (hnext.regs _ (by decide))]

/-- An accepted ROUND_TRIG makes a round due. -/
theorem roundTrig_due {t d : Nat} {r : Requester} {s : State} (hacc : Accepts t r F.HKA_CTRL_ENABLE.addr (withBit d 2) s)
    (hsoft : bit (word d) 1 = false) (hen : bit (word d) 0 = true) (hon : sysOn s = true)
    (hidle : flag s F.HKA_STATUS_IN_ROUND = false) : (accessW t r F.HKA_CTRL_ENABLE.addr (withBit d 2) s).hka.due = true := by
  have hother : ∀ i, i ≠ 2 → bit (word (withBit d 2)) i = bit (word d) i := fun i hi => bit_withBit_other d (by decide) hi
  have hwritten := bodyReg_hkaCtrl.written_narrow rfl hacc fun _ => (hother 1 (by decide)).trans hsoft
  have hhka : (accessW t r F.HKA_CTRL_ENABLE.addr (withBit d 2) s).hka = (pageAct 0xC0000 F.HKA_CTRL_ENABLE.addr (word (withBit d 2)) (at' t s)
      (storeReg hkaCtrlLoc F.HKA_CTRL_ENABLE.addr (word (withBit d 2)) (at' t s))).hka := by
    rw [hwritten.rest]
  have henabled := flag_stored_enable (at' t s) F.HKA_CTRL_ENABLE.addr (word (withBit d 2))
  have hregs := fun a (ha : a ≠ F.HKA_CTRL_ENABLE.addr) =>
    reg_setReg_other (at' t s) _ a (takeField (reg (at' t s) F.HKA_CTRL_ENABLE.addr) (word (withBit d 2)) ⟨0, 1, .rw, [], false⟩) ha
  rw [show setReg (at' t s) F.HKA_CTRL_ENABLE.addr (takeField (reg (at' t s) F.HKA_CTRL_ENABLE.addr) (word (withBit d 2)) ⟨0, 1, .rw, [], false⟩) =
    storeReg hkaCtrlLoc F.HKA_CTRL_ENABLE.addr (word (withBit d 2)) (at' t s) from rfl] at henabled hregs
  have hheld : (storeReg hkaCtrlLoc F.HKA_CTRL_ENABLE.addr (word (withBit d 2)) (at' t s)).held = s.held := rfl
  have hwiping : (storeReg hkaCtrlLoc F.HKA_CTRL_ENABLE.addr (word (withBit d 2)) (at' t s)).wiping = s.wiping := rfl
  generalize storeReg hkaCtrlLoc F.HKA_CTRL_ENABLE.addr (word (withBit d 2)) (at' t s) = u at hhka henabled hregs hheld hwiping
  have hrunning : sysOn u = true := (sysOn_congr hheld hwiping (hregs _ (by decide))).trans hon
  have hen' : flag u F.HKA_CTRL_ENABLE = true := henabled.trans ((hother 0 (by decide)).trans hen)
  have hact : pageAct 0xC0000 F.HKA_CTRL_ENABLE.addr (word (withBit d 2)) (at' t s) u = roundRequest (hkaNext u) :=
    hkaAct_trig (o := at' t s) hen' (bit_withBit d (by decide))
  have hnext := hkaNext_kept u
  rw [hhka, hact]
  refine roundRequest_due ?_ ?_
  · rw [hkaOn_hkaNext, hkaOn, hrunning, hen']
    rfl
  · rw [hnext.shown _ (by simp), flag_congr (hregs _ (by decide))]
    exact hidle

/-! ## Ends of conversions -/

@[simp] theorem rawFlags_hka (s : State) (c : Nat) (isOpen clamp : Bool) : (rawFlags s c isOpen clamp).hka = s.hka := by
  have hset : ∀ (u : State) a i, (wrBit u a i true).hka = u.hka := fun _ _ _ => rfl
  unfold rawFlags
  dsimp only
  split <;> split <;> simp only [raise_hka, hset]

@[simp] theorem rawFlags_now (s : State) (c : Nat) (isOpen clamp : Bool) : (rawFlags s c isOpen clamp).now = s.now := by
  have hset : ∀ (u : State) a i, (wrBit u a i true).now = u.now := fun _ _ _ => rfl
  unfold rawFlags
  dsimp only
  split <;> split <;> simp only [raise_now, hset]

/-- What a scan conversion that ends with a code leaves before its sample is taken. -/
def scanEnded (s : State) (v : HkaConv) (code : Int) (clamp : Bool) : State :=
  onHka (scanFlags (rawFlags s v.chan (rawOpen v.chan v.cfg code) (clamp && decide (v.chan < 28))) (rawOpen v.chan v.cfg code)
    (clamp && decide (v.chan < 28)) (refFault s v.chan v.cfg)) fun h => { h with conv := none }

/-- A conversion of a scan that is no diode pair gives one sample. -/
theorem hkaConversionEnd_sample {s : State} {v : HkaConv} (code : Int) (clamp : Bool) (hon : hkaOn s = true) (hconv : s.hka.conv = some v)
    (hkind : v.kind = 0) (hdiode : isDiode v.chan v.cfg = false) (hdefer : holdDeferred s v = false) :
    hkaConversionEnd code clamp s = hkaNext (scanSample (scanEnded s v code clamp) v.chan v.cfg code) := by
  unfold hkaConversionEnd
  rw [hconv]
  dsimp only
  rw [if_neg (by simp [hon, hdefer])]
  simp only [hdiode, hkind, if_true, Bool.false_eq_true, if_false]
  rfl

/-- The first code of a diode pair is kept for the second. -/
theorem hkaConversionEnd_first {s : State} {v : HkaConv} (code : Int) (clamp : Bool) (hon : hkaOn s = true) (hconv : s.hka.conv = some v)
    (hdiode : isDiode v.chan v.cfg = true) (hfirst : v.first = none) (hdefer : holdDeferred s v = false) :
    (hkaConversionEnd code clamp s).hka.conv = some { v with first := some code, clamp := clamp && decide (v.chan < 28), at' := s.now } := by
  unfold hkaConversionEnd
  rw [hconv]
  dsimp only
  rw [if_neg (by simp [hon, hdefer])]
  simp only [hdiode, hfirst]
  split
  · simp only [onHka, scanFlags, rawFlags_now]
  · simp only [onHka, rawFlags_now]

/-- What ends a scan conversion keeps of the samples gathered, of the channel of the round and of the restarts. -/
theorem scanEnded_kept (s : State) (v : HkaConv) (code : Int) (clamp : Bool) :
    (scanEnded s v code clamp).hka.acc.skip = s.hka.acc.skip ∧ (scanEnded s v code clamp).hka.acc.n = s.hka.acc.n ∧
      (scanEnded s v code clamp).hka.acc.sum = s.hka.acc.sum ∧ (scanEnded s v code clamp).hka.restart = s.hka.restart ∧
      (scanEnded s v code clamp).hka.chan = s.hka.chan := by
  unfold scanEnded scanFlags onHka
  simp only [rawFlags_hka, and_self]

/-- It writes no register followed, and no instant of a result. -/
theorem scanEnded_result (s : State) (v : HkaConv) (code : Int) (clamp : Bool) : ResultKept s (scanEnded s v code clamp) :=
  (((ResultKept.refl s).rawFlags _ _ _).onHka _).onHka _

/-- A sample joins those of its channel. -/
def gathered (s : State) (v : Int) : State :=
  onHka s fun h => { h with acc := { h.acc with sum := h.acc.sum + v, n := h.acc.n + 1, first := none } }

/-- A sample that is not discarded is gathered, and the last one forms the result. -/
theorem scanSample_eq {s : State} {c : Nat} {cfg : Word} {v : Int} (hskip : s.hka.acc.skip = false) (hrestart : s.hka.restart.testBit c = false) :
    scanSample s c cfg v = if 2 ^ fld cfg 4 4 ≤ s.hka.acc.n + 1 then scanResult (gathered s v) c cfg else gathered s v :=
  if_neg (by simp [hskip, hrestart])

theorem scanSample_gathers {s : State} {c : Nat} {cfg : Word} {v : Int} (hskip : s.hka.acc.skip = false)
    (hrestart : s.hka.restart.testBit c = false) (hfew : s.hka.acc.n + 1 < 2 ^ fld cfg 4 4) : scanSample s c cfg v = gathered s v :=
  (scanSample_eq hskip hrestart).trans (if_neg (Nat.not_le.2 hfew))

/-- RAW_A shows the averaged value of a channel. -/
def rawShown (s : State) (c : Nat) (cfg : Word) (a : Int) : State :=
  setReg s (F.HCH_RAW_A c).addr (word (b2n (isDiode c cfg) * 2 ^ 26 + fld cfg 8 2 * 2 ^ 24 + unsigned 24 a))

/-- A result is placed with the averaged value shown, and its channel ends. -/
theorem scanResult_eq (s : State) (c : Nat) (cfg : Word) : ∃ x y,
    scanResult s c cfg = roundNext (placeResult (rawShown (average s s.hka.acc.sum (fld cfg 0 4)).2 c cfg
      (average s s.hka.acc.sum (fld cfg 0 4)).1) c x y s.hka.acc.isOpen s.hka.acc.clamp false s.hka.acc.ref) c := ⟨_, _, rfl⟩

theorem ResultKept.average {s u : State} (h : ResultKept s u) (sum : Int) (shift : Nat) : ResultKept s (average u sum shift).2 := by
  unfold Machine.average
  dsimp only
  split
  · exact h
  · exact h.trans ⟨fun _ _ => rfl, fun _ => id, rfl, rfl⟩

theorem ResultKept.rawShown {s u : State} {c : Nat} (h : ResultKept s u) (hc : c < 36) (cfg : Word) (a : Int) :
    ResultKept s (rawShown u c cfg a) := by
  refine h.setReg _ _ ?_
  simp only [hkaLoose, A.HKA_BLANK_TIMEOUTS, Bool.or_eq_true, Bool.and_eq_true, decide_eq_true_eq, Bool.not_eq_true', Bool.and_eq_false_imp,
    decide_eq_false_iff_not]
  omega

/-- What is placed after steps that keep what is followed. -/
theorem Placed.after {s u v : State} {c : Nat} (hc : c < 36) (h : ResultKept s u) (h' : Placed u v c) : Placed s v c where
  count := h'.count.trans (by rw [h.rd (F.HCH_STATUS_COUNT c) (hkaFixed_status hc)])
  last := h'.last.trans h.now
  regs a ha hne := (h'.regs a ha hne).trans (h.regs a ha)
  raised i hi := h'.raised i (h.raised i hi)

/-- With the last sample of a channel that no other block takes, its result is counted. -/
theorem scanSample_forms {s : State} {c : Nat} {cfg : Word} {v : Int} (haside : Aside s c) (hskip : s.hka.acc.skip = false)
    (hrestart : s.hka.restart.testBit c = false) (hmany : 2 ^ fld cfg 4 4 ≤ s.hka.acc.n + 1) :
    Placed s (scanSample s c cfg v) c := by
  obtain ⟨hc, -⟩ := id haside
  have hgathered : ResultKept s (gathered s v) := (ResultKept.refl s).onHka _
  rw [scanSample_eq hskip hrestart, if_pos hmany]
  obtain ⟨x, y, hform⟩ := scanResult_eq (gathered s v) c cfg
  rw [hform]
  generalize (gathered s v).hka.acc = k
  have hraw := (hgathered.average k.sum (fld cfg 0 4)).rawShown hc cfg (average (gathered s v) k.sum (fld cfg 0 4)).1
  exact ((placeResult_placed (haside.kept fun a ha => hraw.regs a (.inl ha)) x y k.isOpen k.clamp false k.ref).after hc hraw).then hc
    ((ResultKept.refl _).roundNext c)

/-- Settles O42: rounds, and what the ends of conversions give. -/
theorem housekeepingRounds : Obligations.HousekeepingRounds := by
  refine ⟨fun t s hon hdue hidle => ⟨_, rfl, roundStart_begins (s := at' t s) hon hdue hidle⟩,
    fun t s hon hsrc hidle _ => ⟨_, exec_roundTimer hsrc, roundRequest_due (s := at' t s) hon hidle⟩,
    fun t s hon hsrc hbusy hfree => ⟨_, exec_roundTimer hsrc, ?_⟩,
    fun t s hon hsrc hbusy hqueued => ⟨_, exec_roundTimer hsrc, ?_⟩,
    fun t r d s hacc hsoft hen hon hidle => ⟨_, rfl, roundTrig_due hacc hsoft hen hon hidle⟩,
    fun t k m v s hon hconv hdiode hfirst hdefer =>
      ⟨_, rfl, hkaConversionEnd_first (s := at' t s) (signed 16 k) m hon hconv hdiode hfirst hdefer⟩,
    fun t k m v s hon hconv hkind hdiode hdefer hchan hrestart hskip =>
      ⟨_, congrArg Host.Outcome.next (hkaConversionEnd_sample (s := at' t s) (signed 16 k) m hon hconv hkind hdiode hdefer), ?_⟩,
    fun t k m v s hon hconv hkind hdiode hdefer hchan hrestart hskip hfew =>
      ⟨_, congrArg Host.Outcome.next (hkaConversionEnd_sample (s := at' t s) (signed 16 k) m hon hconv hkind hdiode hdefer), ?_⟩,
    fun t k m v s hon hconv hkind hdiode hdefer haside hrestart hskip hmany =>
      ⟨_, congrArg Host.Outcome.next (hkaConversionEnd_sample (s := at' t s) (signed 16 k) m hon hconv hkind hdiode hdefer), ?_⟩⟩
  · rw [roundRequest_busy (s := at' t s) hon hbusy, show flag (at' t s) F.HKA_STATUS_ROUND_QUEUED = false from hfree]
    exact flag_wr_one _ _ (by decide) rfl
  · rw [roundRequest_busy (s := at' t s) hon hbusy, show flag (at' t s) F.HKA_STATUS_ROUND_QUEUED = true from hqueued]
    simp only [Bool.not_true, Bool.false_eq_true, if_false]
    refine ⟨?_, flag_raise _ _ (not_evfReg_of_ge (by decide)) (by decide) rfl (by decide)⟩
    rw [reg_raise_other _ _ _ (not_evfReg_of_ge (by decide)) (by decide)]
    exact reg_bump_toNat _ _
  · obtain ⟨hskip', -, -, hrestart', hchan'⟩ := scanEnded_kept (at' t s) v (signed 16 k) m
    have hdropped : scanSample (scanEnded (at' t s) v (signed 16 k) m) v.chan v.cfg (signed 16 k) =
        onHka (scanEnded (at' t s) v (signed 16 k) m) fun h => { h with acc := HkaAcc.empty } := if_pos (.inr (hskip'.trans hskip))
    rw [hdropped, acc_hkaNext]
    · rfl
    · intro c hc
      obtain rfl : c = v.chan := Option.some.inj (hc.symm.trans (hchan'.trans hchan))
      exact (congrArg (·.testBit v.chan) hrestart').trans hrestart
  · obtain ⟨hskip', hn, hsum, hrestart', hchan'⟩ := scanEnded_kept (at' t s) v (signed 16 k) m
    have hn' : (scanEnded (at' t s) v (signed 16 k) m).hka.acc.n + 1 < 2 ^ fld v.cfg 4 4 := by rwa [hn]
    rw [scanSample_gathers (hskip'.trans hskip) ((congrArg (·.testBit v.chan) hrestart').trans hrestart) hn', acc_hkaNext]
    · exact ⟨congrArg (· + 1) hn, congrArg (· + signed 16 k) hsum⟩
    · intro c hc
      obtain rfl : c = v.chan := Option.some.inj (hc.symm.trans (hchan'.trans hchan))
      exact (congrArg (·.testBit v.chan) hrestart').trans hrestart
  · obtain ⟨hskip', hn, -, hrestart', -⟩ := scanEnded_kept (at' t s) v (signed 16 k) m
    have hkept := scanEnded_result (at' t s) v (signed 16 k) m
    have haside' : Aside (at' t s) v.chan := haside
    obtain ⟨hc, -⟩ := id haside
    have hplaced := (scanSample_forms (v := signed 16 k) (cfg := v.cfg) (haside'.kept fun a ha => hkept.regs a (.inl ha)) (hskip'.trans hskip)
      ((congrArg (·.testBit v.chan) hrestart').trans hrestart) (by rwa [hn])).then hc (ResultKept.refl _).hkaNext
    refine ⟨?_, hplaced.last.trans hkept.now⟩
    rw [hplaced.count, hkept.rd (F.HCH_STATUS_COUNT v.chan) (hkaFixed_status hc)]
    rfl

end Sys2Proof.Machine
end

section
/-!
Urgent requests, hold timeouts, excitation limits, copies of coefficients and stale channels (16 R411, R416, R417, R420, R421).
-/

namespace Sys2Proof.Machine

/-! ## Urgent requests -/

def urgentLoc : RegLoc :=
  ⟨0xC0000, 0, .hka, ⟨88, 1, fun _ => 0, [⟨31, 1, .w1s, [], false⟩, ⟨0, 6, .rw, [(36, 63)], false⟩]⟩, 0, 0⟩

theorem bodyReg_urgent : BodyReg F.HKA_URGENT_REQ.addr 0xC0000 urgentLoc :=
  ⟨by decide, by decide, by decide, rfl, rfl, by decide, by decide, by decide⟩

/-- A host request is busy, and leaves the register of the request. -/
theorem hostRequest_shows (s : State) :
    flag (hostRequest s) F.HKA_STATUS_URG_HOST_BUSY = true ∧ reg (hostRequest s) F.HKA_URGENT_CHAN.addr = reg s F.HKA_URGENT_CHAN.addr := by
  have hbusy : flag (wr s F.HKA_STATUS_URG_HOST_BUSY 1) F.HKA_STATUS_URG_HOST_BUSY = true := flag_wr_one s _ (by decide) rfl
  have hreg : reg (wr s F.HKA_STATUS_URG_HOST_BUSY 1) F.HKA_URGENT_CHAN.addr = reg s F.HKA_URGENT_CHAN.addr := reg_wr_other _ _ _ _ (by decide)
  have hnext : ∀ u, (∀ a, a ≠ A.HKA_ABORTS → a ≠ A.HKA_ABORTS + 4 → reg u a = reg (wr s F.HKA_STATUS_URG_HOST_BUSY 1) a) →
      flag (hkaNext u) F.HKA_STATUS_URG_HOST_BUSY = true ∧ reg (hkaNext u) F.HKA_URGENT_CHAN.addr = reg s F.HKA_URGENT_CHAN.addr := fun u hu =>
    ⟨((hkaNext_kept u).shown _ (by simp)).trans ((flag_congr (hu _ (by decide) (by decide))).trans hbusy),
      ((hkaNext_kept u).regs _ (by decide)).trans ((hu _ (by decide) (by decide)).trans hreg)⟩
  unfold hostRequest
  dsimp only
  split
  · refine hnext _ fun a ha ha' => ?_
    unfold hkaAbort
    split
    · rfl
    · dsimp only
      rw [reg_ite, reg_bump_other _ _ _ ha ha', reg_onHka, ite_self]
  · exact hnext _ fun _ _ _ => rfl

theorem hkaAct_urgent {d : Word} (o s : State) (hbit : bit d 31 = true) : hkaAct F.HKA_URGENT_REQ.addr d o s = hostRequest s := by
  unfold hkaAct
  rw [if_neg (by decide), if_pos rfl, if_pos hbit]

theorem fld_withBit_low (d : Nat) : fld (word (withBit d 31)) 0 6 = fld (word d) 0 6 := by
  apply Nat.eq_of_testBit_eq
  intro i
  rw [testBit_fld, testBit_fld]
  by_cases hi : i < 6
  · exact congrArg _ (bit_withBit_other d (by decide) (by omega))
  · simp [hi]

/-- An accepted urgent request names its channel and is busy. -/
theorem urgent_shows {t d : Nat} {r : Requester} {s : State} (hacc : Accepts t r F.HKA_URGENT_REQ.addr (withBit d 31) s) :
    flag (accessW t r F.HKA_URGENT_REQ.addr (withBit d 31) s) F.HKA_STATUS_URG_HOST_BUSY = true ∧
      rd (accessW t r F.HKA_URGENT_REQ.addr (withBit d 31) s) F.HKA_URGENT_CHAN = fld (word d) 0 6 := by
  have hwritten := bodyReg_urgent.written_narrow rfl hacc
  have hstored : storeReg urgentLoc F.HKA_URGENT_REQ.addr (word (withBit d 31)) (at' t s) = setReg (at' t s) F.HKA_URGENT_REQ.addr
      (takeField (reg (at' t s) F.HKA_URGENT_REQ.addr) (word (withBit d 31)) ⟨0, 6, .rw, [(36, 63)], false⟩) := rfl
  have hact : ∀ o u, pageAct 0xC0000 F.HKA_URGENT_REQ.addr (word (withBit d 31)) o u = hostRequest u := fun o u =>
    hkaAct_urgent o u (bit_withBit d (by decide))
  rw [hstored, hact] at hwritten
  obtain ⟨hbusy, hreg⟩ := hostRequest_shows (setReg (at' t s) F.HKA_URGENT_REQ.addr
      (takeField (reg (at' t s) F.HKA_URGENT_REQ.addr) (word (withBit d 31)) ⟨0, 6, .rw, [(36, 63)], false⟩))
  refine ⟨(hwritten.flag _ (by decide)).trans hbusy, ?_⟩
  rw [hwritten.rd _ (by decide), rd_congr hreg]
  unfold rd
  rw [reg_setReg_same]
  exact (fld_takeField_same (f := ⟨0, 6, .rw, [(36, 63)], false⟩) (by decide) _ _).trans (fld_withBit_low d)

/-! ## Timeouts -/

/-- Of a channel that no other block takes, a hold that is not taken is counted, and clears no event after its own. -/
theorem blankTimeout_counts {s : State} {v : HkaConv} (hon : hkaOn s = true) (hconv : s.hka.conv = some v) (hblank : fld v.cfg 24 3 ≠ 0)
    (haside : Aside s v.chan) (hlong : v.at' + nsec 600 + usec (rd s F.HKA_BLANK_CFG_BLANK_MAX) ≤ s.now) :
    (reg (blankTimeout s) A.HKA_BLANK_TIMEOUTS).toNat = min ((reg s A.HKA_BLANK_TIMEOUTS).toNat + 1) 0xFFFFFFFF ∧
      flag (blankTimeout s) F.HKA_EVT_RAW_BLANK_TIMEOUT = true := by
  unfold blankTimeout
  rw [hconv]
  dsimp only
  rw [if_neg (by simp [hon, hblank]; omega)]
  have hcount : (reg (raise (bump s A.HKA_BLANK_TIMEOUTS) F.HKA_EVT_RAW_BLANK_TIMEOUT) A.HKA_BLANK_TIMEOUTS).toNat =
      min ((reg s A.HKA_BLANK_TIMEOUTS).toNat + 1) 0xFFFFFFFF := by
    rw [reg_raise_other _ _ _ (not_evfReg_of_ge (by decide)) (by decide)]
    exact reg_bump_toNat _ _
  have hevent : rdBit (raise (bump s A.HKA_BLANK_TIMEOUTS) F.HKA_EVT_RAW_BLANK_TIMEOUT) F.HKA_EVT_RAW_OPEN.addr 4 = true :=
    (rdBit_eq_flag _ _ _).trans (flag_raise _ F.HKA_EVT_RAW_BLANK_TIMEOUT (not_evfReg_of_ge (by decide)) (by decide) rfl (by decide))
  have haside' : Aside (raise (bump s A.HKA_BLANK_TIMEOUTS) F.HKA_EVT_RAW_BLANK_TIMEOUT) v.chan := haside.kept fun a ha => by
    obtain ⟨hge, hne⟩ := hkaFixed.ge (.inl ha)
    have hother : a ≠ A.HKA_BLANK_TIMEOUTS ∧ a ≠ A.HKA_BLANK_TIMEOUTS + 4 := by
      obtain rfl | rfl | rfl := ha <;> decide
    rw [reg_raise_other _ _ _ (not_evfReg_of_ge (by omega)) hne, reg_bump_other _ _ _ hother.1 hother.2]
  generalize raise (bump s A.HKA_BLANK_TIMEOUTS) F.HKA_EVT_RAW_BLANK_TIMEOUT = u at hcount hevent haside'
  suffices hend : ∀ x, reg x A.HKA_BLANK_TIMEOUTS = reg u A.HKA_BLANK_TIMEOUTS → rdBit x F.HKA_EVT_RAW_OPEN.addr 4 = true →
      (reg x A.HKA_BLANK_TIMEOUTS).toNat = min ((reg s A.HKA_BLANK_TIMEOUTS).toNat + 1) 0xFFFFFFFF ∧ flag x F.HKA_EVT_RAW_BLANK_TIMEOUT = true by
    obtain ⟨hc, -⟩ := id haside
    split
    · have hplaced := ((placeResult_placed (s := onHka u fun h => { h with conv := none }) haside' (reg u (A.HCH_RESULT v.chan))
        (reg u (A.HCH_RESULT v.chan)) u.hka.acc.isOpen u.hka.acc.clamp true u.hka.acc.ref).then hc ((ResultKept.refl _).roundNext v.chan).hkaNext)
      exact hend _ (hplaced.regs _ (.inr (.inl rfl)) (by simp only [A.HKA_BLANK_TIMEOUTS]; omega)) (hplaced.raised _ hevent)
    · have hover := ((ResultKept.refl u).setReg (F.HKA_URG_RAW_RAW).addr
        (word (2 ^ 28 + fld v.cfg 8 2 * 2 ^ 24 + v.chan * 2 ^ 16 + rd u F.HKA_URG_RAW_RAW))).urgentOver v.kind
      rw [thmResult_aside (haside'.kept fun a ha => hover.regs a (.inl ha))]
      have hkept := hover.hkaNext
      exact hend _ (hkept.regs _ (.inr (.inl rfl))) (hkept.raised _ hevent)
  exact fun x hreg hbit => ⟨by rw [hreg, hcount], (rdBit_eq_flag _ _ _).symm.trans hbit⟩

/-! ## Limits of the excitations -/

theorem excLimit_shows {s : State} {k : Nat} (hon : sysOn s = true) (hk : k < 2) (hen : rdBit s F.HKA_EXC_CFG_EXC0.addr k = true) (m : Bool) :
    flag (excLimit k m s) (if k = 0 then F.HKA_STATUS_EXC0_LIMIT else F.HKA_STATUS_EXC1_LIMIT) = m ∧
      (m = true → flag s (if k = 0 then F.HKA_STATUS_EXC0_LIMIT else F.HKA_STATUS_EXC1_LIMIT) = false →
        flag (excLimit k m s) F.HKA_EVT_RAW_EXC_LIMIT = true) := by
  unfold excLimit
  rw [if_neg (by simp [hon, hen]; omega)]
  generalize hf : (if k = 0 then F.HKA_STATUS_EXC0_LIMIT else F.HKA_STATUS_EXC1_LIMIT) = f
  have haddr : f.addr = F.HKA_STATUS_RUNNING.addr ∧ f.lo + f.len ≤ 32 ∧ f.len = 1 := by
    rw [← hf]
    split <;> decide
  obtain ⟨haddr, hfits, hlen⟩ := haddr
  dsimp only
  split
  · next hnew =>
    obtain ⟨hm, -⟩ := hnew
    refine ⟨?_, fun _ _ => flag_raise _ _ (not_evfReg_of_ge (by decide)) (by decide) rfl (by decide)⟩
    rw [flag_raise_other _ _ _ (not_evfReg_of_ge (by rw [haddr]; decide)) (by rw [haddr]; decide), hm]
    exact flag_wr_one _ _ hfits hlen
  · next hold => exact ⟨flag_wrB_same _ _ _ hfits hlen, fun hm hnew => absurd ⟨hm, by simp [hnew]⟩ hold⟩

/-! ## Copies of coefficients -/

/-- A copy of a channel runs. -/
def copies (c : Nat) (s : State) : Prop := (s.hka.loads.any fun x => decide (x.1 = c)) = true

/-- The copy of a channel starts. -/
def copyStart (s : State) (c : Nat) : State :=
  onHka s fun h => { h with
    loads := h.loads.filter (fun l => l.1 ≠ c) ++ [(c, b2n (decide (s.hka.chan = some c) || s.hka.conv.any fun v => decide (v.chan = c)))] }

theorem copies_copyStart_same (s : State) (c : Nat) : copies c (copyStart s c) := by
  simp [copies, copyStart, onHka]

/-- The start of another copy leaves a copy. -/
theorem copies_copyStart {s : State} {c k : Nat} (h : copies c s) : copies c (copyStart s k) := by
  by_cases hk : c = k
  · rw [hk]
    exact copies_copyStart_same s k
  · simp only [copies, copyStart, onHka, List.any_append, List.any_filter, Bool.or_eq_true, List.any_eq_true] at h ⊢
    obtain ⟨x, hx, hxc⟩ := h
    exact .inl ⟨x, hx, by simp_all⟩

/-- Copies start for the channels written 1. -/
theorem linLoad_starts (first : Nat) (d : Word) (s : State) {i : Nat} (hi : i < 32) (hbit : bit d i = true) (hc : first + i < 36) :
    copies (first + i) (linLoad first d s) := by
  refine foldl_reaches (P := fun _ => True) (Q := copies (first + i)) (m := i) (List.mem_range.2 hi) (fun _ _ _ => trivial)
    (fun u _ => ?_) (fun _ _ => trivial) (fun u k _ _ hu => ?_) trivial
  · dsimp only
    rw [if_pos ⟨hbit, hc⟩]
    exact copies_copyStart_same u _
  · dsimp only
    split
    · exact copies_copyStart hu
    · exact hu

/-- A copy that ends beside no result comes into force. -/
theorem linInstall_shows (s : State) (c : Nat) :
    ((linInstall s c).hka.loads.any fun x => decide (x.1 = c)) = false ∧
      linCoefs (linInstall s c) c = (List.range 12).map fun i => memWord s.calstore (0x800 + 0x30 * c + 4 * i) := by
  refine ⟨?_, pget_pset_same _ _ _ _⟩
  simp only [linInstall, onHka, List.any_filter, Bool.eq_false_iff, ne_eq, List.any_eq_true, not_exists, not_and]
  simp

def linLoadLoc (h : Bool) : RegLoc :=
  if h then ⟨0xC0000, 0, .hka, ⟨104, 1, fun _ => 0, [⟨0, 4, .wo, [], false⟩]⟩, 0, 0⟩
  else ⟨0xC0000, 0, .hka, ⟨100, 1, fun _ => 0, [⟨0, 32, .wo, [], false⟩]⟩, 0, 0⟩

theorem bodyReg_linLoad (h : Bool) : BodyReg (if h then A.HKA_LIN_LOAD1 else A.HKA_LIN_LOAD0) 0xC0000 (linLoadLoc h) := by
  cases h
  · exact ⟨by decide, by decide, by decide, rfl, rfl, by decide, by decide, by decide⟩
  · exact ⟨by decide, by decide, by decide, rfl, rfl, by decide, by decide, by decide⟩

/-- An accepted LIN_LOAD starts the copies of the channels written 1. -/
theorem written_linLoad {t d : Nat} {r : Requester} {h : Bool} {s : State} (hacc : Accepts t r (if h then A.HKA_LIN_LOAD1 else A.HKA_LIN_LOAD0) d s) :
    (accessW t r (if h then A.HKA_LIN_LOAD1 else A.HKA_LIN_LOAD0) d s).hka = (linLoad (if h then 32 else 0) (word d) (at' t s)).hka := by
  cases h
  · have hwritten := (bodyReg_linLoad false).written_narrow rfl hacc
    rw [hwritten.rest]
    rfl
  · have hwritten := (bodyReg_linLoad true).written_narrow rfl hacc
    rw [hwritten.rest]
    rfl

theorem linLoadDone_free {s : State} {c : Nat} (h : s.hka.loads.find? (fun x => x.1 = c) = some (c, 0)) :
    linLoadDone c s = linInstall s c := by
  simp only [linLoadDone, h]

/-! ## Stale channels -/

theorem hkaStale_shows {s : State} {c : Nat} (hon : sysOn s = true) (hc : c < 36) (hfresh : flag s (F.HCH_STATUS_STALE c) = false)
    (hlong : pget 0 s.hka.last c + usec (2 * rd s F.HKA_ROUND_CFG_PERIOD_US) ≤ s.now) : flag (hkaStale c s) (F.HCH_STATUS_STALE c) = true := by
  have hstale : flag (wr s (F.HCH_STATUS_STALE c) 1) (F.HCH_STATUS_STALE c) = true := flag_wr_one _ _ (by simp) rfl
  unfold hkaStale
  rw [if_neg (by simp [hon, hfresh]; omega)]
  dsimp only
  split
  · unfold calStale
    split
    · exact hstale
    · rw [flag_raise_other _ _ _ (not_evfReg_of_ge (by simp only; omega)) (by simp only; omega), flag_congr (reg_wr_other _ _ _ _ (by simp only; omega))]
      exact hstale
  · exact hstale

/-- Settles O43: requests, timeouts, limits, copies and stale channels. -/
theorem housekeepingEvents : Obligations.HousekeepingEvents := by
  refine ⟨fun t r d s hacc => ⟨_, rfl, urgent_shows hacc⟩,
    fun t v s hon hconv hblank haside hlong => ⟨_, rfl, blankTimeout_counts (s := at' t s) hon hconv hblank haside hlong⟩,
    fun t k m s hon hk hen => ⟨_, rfl, excLimit_shows (s := at' t s) hon hk hen m⟩,
    fun t r h d s hacc => ⟨_, rfl, ?_⟩,
    fun t c s hload => ⟨_, congrArg Host.Outcome.next (linLoadDone_free (s := at' t s) hload), linInstall_shows (at' t s) c⟩,
    fun t c s hon hc hfresh hlong => ⟨_, rfl, hkaStale_shows (s := at' t s) hon hc hfresh hlong⟩⟩
  rw [written_linLoad hacc, List.all_eq_true]
  intro i hi
  by_cases hbit : bit (word d) i = true
  · have hstart := linLoad_starts (if h then 32 else 0) (word d) (at' t s) (List.mem_range.1 hi) hbit
    have hnum : (if h then 32 + i else i) = (if h then 32 else 0) + i := by cases h <;> simp
    rw [hnum]
    by_cases hc : (if h then 32 else 0) + i < 36
    · exact Bool.or_eq_true_iff.2 (.inr (hstart hc))
    · simp only [Bool.or_eq_true, decide_eq_true_eq]
      exact .inl (.inr (Nat.not_lt.1 hc))
  · simp [hbit]

end Sys2Proof.Machine
end

section
/-!
Network time: its rate, its steps, its readings, and the pulses per second (13 R352, R353, R355, R361, R362).
-/

namespace Sys2Proof.Machine

/-! ## What leaves the counter -/

theorem ntm_ite (c : Prop) [Decidable c] (x y : State) : (if c then x else y).ntm = if c then x.ntm else y.ntm := apply_ite State.ntm c x y

theorem trigEvent_ntm (s : State) (b instant : Nat) (forced : Bool) (mask : Option (Nat × Nat)) :
    (trigEvent s b instant forced mask).ntm = s.ntm := by
  have honAcq : ∀ u f, (onAcq u f).ntm = u.ntm := fun _ _ => rfl
  simp only [trigEvent, ntm_ite, raise_ntm, bump_ntm, honAcq, ite_self]

theorem nttFire_ntm (s : State) (i instant : Nat) (late : Bool) : (nttFire s i instant late).ntm = s.ntm := by
  simp only [nttFire, ntm_ite, trigEvent_ntm, raise_ntm, wr_ntm, ite_self]

theorem toutFire_ntm (s : State) (i start : Nat) (late : Bool) : (toutFire s i start late).ntm = s.ntm := by
  have hbegin : ∀ w, (toutBegin s i start w).ntm = s.ntm := fun _ => rfl
  simp only [toutFire, ntm_ite, raise_ntm, wr_ntm, hbegin, ite_self]

/-- Late instants leave the counter. -/
theorem timedLate_ntm (s : State) : (timedLate s).ntm = s.ntm := by
  have htout : ∀ u i, (toutLate u i).ntm = u.ntm := fun u i => by rw [toutLate, ntm_ite, toutFire_ntm, ite_self]
  have hntt : ∀ u i, (nttLate u i).ntm = u.ntm := fun u i => by rw [nttLate, ntm_ite, nttFire_ntm, ite_self]
  exact (foldl_keeps State.ntm hntt _ _).trans (foldl_keeps State.ntm htout _ s)

theorem planResync_ntm (s : State) : (planResync s).ntm = s.ntm := raise_ntm _ _

theorem stepApplied_ntm (s : State) (ns : Int) : (stepApplied s ns).ntm = (ntmStep s ns).ntm := by
  rw [stepApplied, timedLate_ntm, planResync_ntm, raise_ntm, bump_ntm]

/-- What the partner is told of changes no register and not the counter. -/
theorem timeSend_frame (s : State) (edge : Nat) (incr : Option Nat) (step : Option Int) :
    (timeSend s edge incr step).ntm = s.ntm ∧ ∀ a, reg (timeSend s edge incr step) a = reg s a := by
  unfold timeSend pairSend
  split
  · split
    · exact ⟨rfl, fun _ => rfl⟩
    · exact ⟨rfl, fun _ => rfl⟩
  · exact ⟨rfl, fun _ => rfl⟩

/-! ## Writes with a lower word -/

/-- A field as wide as its register takes the word written. -/
theorem takeField_whole (w d : Word) : takeField w d ⟨0, 32, .rw, [], false⟩ = d := by
  apply BitVec.eq_of_toNat_eq
  have hfield := fld_takeField_same (f := ⟨0, 32, .rw, [], false⟩) (by decide) w d
  have hlt := d.isLt
  have hlt' := (takeField w d ⟨0, 32, .rw, [], false⟩).isLt
  simpa [fld, Nat.mod_eq_of_lt hlt, Nat.mod_eq_of_lt hlt'] using hfield

/-- A held lower word comes into its register; everything but the words held stays. -/
theorem lowerTaken_low {a k : Nat} {l : RegLoc} (hwide : wideLow a = some k) (hrow : findReg k = some l)
    (hstore : ∀ w s, storeReg l k w s = setReg s k w) (r : Requester) (s : State) :
    reg (lowerTaken r a s) k = (lowerWord s r k).getD (reg s k) ∧ (∀ b, b ≠ k → reg (lowerTaken r a s) b = reg s b) ∧
      (lowerTaken r a s).ntm = s.ntm ∧ (lowerTaken r a s).now = s.now := by
  unfold lowerTaken
  rw [hwide]
  dsimp only
  rw [hrow]
  cases hword : lowerWord s r k with
  | none => exact ⟨rfl, fun _ _ => rfl, rfl, rfl⟩
  | some w =>
    dsimp only
    rw [hstore]
    exact ⟨reg_setReg_same s k w, fun b hb => reg_setReg_other s k b w hb, rfl, rfl⟩

def incrNsLoc : RegLoc := ⟨0xA8000, 0, .tkp, ⟨100, 1, fun _ => 100, [⟨0, 8, .rw, [], false⟩]⟩, 0, 0⟩
def incrFracLoc : RegLoc := ⟨0xA8000, 0, .tkp, ⟨96, 1, fun _ => 0, [⟨0, 32, .rw, [], false⟩]⟩, 0, 0⟩
def stepHiLoc : RegLoc := ⟨0xA8000, 0, .tkp, ⟨112, 1, fun _ => 0, [⟨0, 32, .rw, [], false⟩]⟩, 0, 0⟩
def stepLoLoc : RegLoc := ⟨0xA8000, 0, .tkp, ⟨108, 1, fun _ => 0, [⟨0, 32, .rw, [], false⟩]⟩, 0, 0⟩
def ntmCtrlLoc : RegLoc := ⟨0xA8000, 0, .tkp, ⟨8, 1, fun _ => 1, [⟨0, 1, .rw, [], false⟩, ⟨2, 1, .w1s, [], false⟩, ⟨1, 1, .w1s, [], false⟩]⟩, 0, 0⟩
def nowNsLoc : RegLoc := ⟨0xA8000, 0, .tkp, ⟨64, 1, fun _ => 0, [⟨0, 30, .ro, [], false⟩]⟩, 0, 0⟩
def ppsinLoc : RegLoc :=
  ⟨0xA8000, 0, .tkp, ⟨136, 1, fun _ => 0, [⟨31, 1, .ro, [], false⟩, ⟨30, 1, .ro, [], false⟩, ⟨0, 30, .ro, [], false⟩]⟩, 0, 0⟩

theorem bodyReg_incrNs : BodyReg A.NTM_INCR_NS 0xA8000 incrNsLoc :=
  ⟨by decide, by decide, by decide, rfl, rfl, by decide, by decide, by decide⟩
theorem bodyReg_stepHi : BodyReg A.NTM_STEP_SEC_HI 0xA8000 stepHiLoc :=
  ⟨by decide, by decide, by decide, rfl, rfl, by decide, by decide, by decide⟩
theorem bodyReg_ntmCtrl : BodyReg A.NTM_CTRL 0xA8000 ntmCtrlLoc :=
  ⟨by decide, by decide, by decide, rfl, rfl, by decide, by decide, by decide⟩
theorem bodyReg_nowNs : BodyReg A.NTM_NOW_NS 0xA8000 nowNsLoc :=
  ⟨by decide, by decide, by decide, rfl, rfl, by decide, by decide, by decide⟩
theorem bodyReg_ppsin : BodyReg F.NTM_PPSIN_NS_NS.addr 0xA8000 ppsinLoc :=
  ⟨by decide, by decide, by decide, rfl, rfl, by decide, by decide, by decide⟩

theorem storeReg_incrFrac (w : Word) (s : State) : storeReg incrFracLoc A.NTM_INCR_FRAC w s = setReg s A.NTM_INCR_FRAC w :=
  congrArg (setReg s A.NTM_INCR_FRAC) (takeField_whole _ w)

theorem storeReg_stepLo (w : Word) (s : State) : storeReg stepLoLoc A.NTM_STEP_SEC_LO w s = setReg s A.NTM_STEP_SEC_LO w :=
  congrArg (setReg s A.NTM_STEP_SEC_LO) (takeField_whole _ w)

theorem storeReg_stepHi (w : Word) (s : State) : storeReg stepHiLoc A.NTM_STEP_SEC_HI w s = setReg s A.NTM_STEP_SEC_HI w :=
  congrArg (setReg s A.NTM_STEP_SEC_HI) (takeField_whole _ w)

/-! ## Rates -/

/-- In TIMEKEEP an INCREMENT is due at the next REFCLK edge. -/
theorem ntmRate_next {s : State} (hmode : s.ntm.mode = .tkp) (incr : Nat) : (ntmRate s incr).ntm.next = some (nextRefEdge s s.now, incr) := by
  unfold ntmRate
  rw [hmode]

theorem reg_ntmRate (s : State) (incr a : Nat) : reg (ntmRate s incr) a = reg s a := by
  unfold ntmRate
  split <;> rfl

theorem nextRefEdge_congr {s u : State} (h : reg u F.CLK_REF_SEL_FREQ.addr = reg s F.CLK_REF_SEL_FREQ.addr) (t : Nat) :
    nextRefEdge u t = nextRefEdge s t := by
  rw [nextRefEdge, nextRefEdge, pNom, pNom, flag_congr h]

/-- What a write of INCR_NS does beside its register. -/
theorem ntmAct_incr (d : Word) (o s : State) : (∀ a, reg (ntmAct A.NTM_INCR_NS d o s) a = reg s a) ∧
    (s.ntm.mode = .tkp → (ntmAct A.NTM_INCR_NS d o s).ntm.next = some (nextRefEdge s s.now, incrWritten s)) := by
  unfold ntmAct
  rw [if_pos rfl]
  dsimp only
  obtain ⟨hntm, hregs⟩ := timeSend_frame (ntmRate s (incrWritten s))
    (nextRefEdge (ntmRate s (incrWritten s)) (ntmRate s (incrWritten s)).now / nsec (pNom (ntmRate s (incrWritten s))))
    (some (incrWritten (ntmRate s (incrWritten s)))) none
  exact ⟨fun a => (hregs a).trans (reg_ntmRate _ _ _), fun hmode => (congrArg Ntm.next hntm).trans (ntmRate_next hmode _)⟩

/-- An accepted write of INCR_NS. -/
theorem incrNs_written {t d : Nat} {r : Requester} {s : State} (hacc : Accepts t r A.NTM_INCR_NS d s) :
    rd (accessW t r A.NTM_INCR_NS d s) F.NTM_INCR_NS = fld (word d) 0 8 ∧
      (s.ntm.mode = .tkp → (accessW t r A.NTM_INCR_NS d s).ntm.next = some (nextRefEdge s (max s.now t),
        fld (word d) 0 8 * 2 ^ 32 + ((lowerWord s r A.NTM_INCR_FRAC).getD (reg s A.NTM_INCR_FRAC)).toNat)) := by
  have hwritten := bodyReg_incrNs.written hacc
  obtain ⟨hfrac, hother, hntm, hnow⟩ := lowerTaken_low (a := A.NTM_INCR_NS) (l := incrFracLoc) rfl rfl storeReg_incrFrac r (at' t s)
  have hstored : ∀ u, storeReg incrNsLoc A.NTM_INCR_NS (word d) u =
      setReg u A.NTM_INCR_NS (takeField (reg u A.NTM_INCR_NS) (word d) ⟨0, 8, .rw, [], false⟩) := fun _ => rfl
  rw [hstored] at hwritten
  generalize lowerTaken r A.NTM_INCR_NS (at' t s) = u at hwritten hfrac hother hntm hnow
  generalize hv : setReg u A.NTM_INCR_NS (takeField (reg u A.NTM_INCR_NS) (word d) ⟨0, 8, .rw, [], false⟩) = v at hwritten
  obtain ⟨hregs, hnext⟩ := ntmAct_incr (word d) (at' t s) v
  have hrate : rd v F.NTM_INCR_NS = fld (word d) 0 8 := by
    rw [← hv, rd, reg_setReg_same]
    exact fld_takeField_same (f := ⟨0, 8, .rw, [], false⟩) (by decide) _ _
  have hlow : reg v A.NTM_INCR_FRAC = (lowerWord s r A.NTM_INCR_FRAC).getD (reg s A.NTM_INCR_FRAC) := by
    rw [← hv]
    exact (reg_setReg_other _ _ _ _ (by decide)).trans hfrac
  have hclk : reg v F.CLK_REF_SEL_FREQ.addr = reg s F.CLK_REF_SEL_FREQ.addr := by
    rw [← hv]
    exact (reg_setReg_other _ _ _ _ (by decide)).trans (hother _ (by decide))
  have hv' : v.ntm = s.ntm ∧ v.now = max s.now t := by
    rw [← hv]
    exact ⟨hntm, hnow⟩
  refine ⟨(hwritten.rd _ (by decide)).trans ((rd_congr (hregs _)).trans hrate), fun hmode => ?_⟩
  have hpart : (accessW t r A.NTM_INCR_NS d s).ntm = (ntmAct A.NTM_INCR_NS (word d) (at' t s) v).ntm := by
    rw [hwritten.rest]
    rfl
  rw [hpart, hnext (by rw [hv'.1]; exact hmode), incrWritten, hrate, hlow, nextRefEdge_congr hclk, hv'.2]

/-! ## Steps and coasting -/

theorem stepNs_congr {s u : State} (h : ∀ a ∈ [A.NTM_STEP_SEC_LO, A.NTM_STEP_SEC_LO + 4, A.NTM_STEP_NS], reg u a = reg s a) :
    stepNs u = stepNs s := by
  simp only [stepNs, rdWide, h _ (by simp : A.NTM_STEP_SEC_LO ∈ _), h _ (by simp : A.NTM_STEP_SEC_LO + 4 ∈ _), h _ (by simp : A.NTM_STEP_NS ∈ _)]

/-- A write of STEP_SEC_HI applies the step that the registers hold. -/
theorem ntmAct_step (d : Word) (o s : State) : (ntmAct A.NTM_STEP_SEC_HI d o s).ntm.net = (s.ntm.net + stepNs s * nsU) % netRange := by
  unfold ntmAct
  rw [if_neg (by decide), if_pos rfl, (timeSend_frame _ _ _ _).1, stepApplied_ntm]
  rfl

/-- An accepted write of STEP_SEC_HI. -/
theorem stepHi_written {t d : Nat} {r : Requester} {s : State} (hacc : Accepts t r A.NTM_STEP_SEC_HI d s) :
    (accessW t r A.NTM_STEP_SEC_HI d s).ntm.net = (s.ntm.net + stepNs (setReg (setReg s A.NTM_STEP_SEC_LO
      ((lowerWord s r A.NTM_STEP_SEC_LO).getD (reg s A.NTM_STEP_SEC_LO))) A.NTM_STEP_SEC_HI (word d)) * nsU) % netRange := by
  have hwritten := bodyReg_stepHi.written hacc
  obtain ⟨hlow, hother, hntm, -⟩ := lowerTaken_low (a := A.NTM_STEP_SEC_HI) (l := stepLoLoc) rfl rfl storeReg_stepLo r (at' t s)
  rw [storeReg_stepHi] at hwritten
  generalize lowerTaken r A.NTM_STEP_SEC_HI (at' t s) = u at hwritten hlow hother hntm
  have hpart : (accessW t r A.NTM_STEP_SEC_HI d s).ntm =
      (ntmAct A.NTM_STEP_SEC_HI (word d) (at' t s) (setReg u A.NTM_STEP_SEC_HI (word d))).ntm := by
    rw [hwritten.rest]
    rfl
  have hnet : (setReg u A.NTM_STEP_SEC_HI (word d)).ntm.net = s.ntm.net := congrArg Ntm.net hntm
  rw [hpart, ntmAct_step, hnet]
  congr 3
  refine stepNs_congr fun a ha => ?_
  simp only [List.mem_cons, List.not_mem_nil, or_false] at ha
  obtain rfl | rfl | rfl := ha
  · rw [reg_setReg_other _ _ _ _ (by decide), reg_setReg_other _ _ _ _ (by decide), reg_setReg_same]
    exact hlow
  · exact (reg_setReg_same _ _ _).trans (reg_setReg_same _ _ _).symm
  · rw [reg_setReg_other _ _ _ _ (by decide), reg_setReg_other _ _ _ _ (by decide), reg_setReg_other _ _ _ _ (by decide)]
    exact hother _ (by decide)

/-- CLEAR_COAST clears COASTED. -/
theorem ntmAct_clearCoast {d : Word} (o s : State) (hbit : bit d 2 = true) : flag (ntmAct A.NTM_CTRL d o s) F.NTM_STATUS_COASTED = false := by
  unfold ntmAct
  rw [if_neg (by decide), if_neg (by decide), if_pos rfl]
  dsimp only
  rw [if_pos hbit]
  have hclear := flag_wr_zero (ntmRemode s.now s) F.NTM_STATUS_COASTED (by decide) rfl
  unfold degradedWatch
  split
  · exact (flag_raise_other _ _ _ (not_evfReg_of_ge (by decide)) (by decide)).trans hclear
  · exact hclear

/-! ## Readings -/

/-- A word latched for a requester stands in the bus, which LOCK does not. -/
theorem latchedWord_lockCount (p : Nat) (s : State) (r : Requester) (a : Nat) : latchedWord (lockCount p s) r a = latchedWord s r a := by
  have hbus : (lockCount p s).bus = s.bus := by
    unfold lockCount
    dsimp only
    split <;> rfl
  rw [latchedWord, latchedWord, hbus]

/-- A register of NTM that is not latched shows itself, and latches the words above it. -/
theorem readReg_ntm {l : RegLoc} {a : Nat} {r : Requester} {s : State} (ha : a = A.NTM_NOW_NS ∨ a = F.NTM_PPSIN_NS_NS.addr)
    (hnone : latchedWord s r a = none) :
    readReg l r a s = (showReg l a s, if a = F.NTM_PPSIN_NS_NS.addr then ppsinRead (latchWide r a s) else latchWide r a s) := by
  unfold readReg
  rw [hnone]
  obtain rfl | rfl := ha <;> rfl

/-- What a read of NOW_NS gives does not depend on LOCK. -/
theorem showReg_nowNs (s : State) : showReg nowNsLoc A.NTM_NOW_NS s = (ntmNow s).getD 0 0#32 := rfl

theorem showReg_ppsin (s : State) : showReg ppsinLoc F.NTM_PPSIN_NS_NS.addr s = reg s F.NTM_PPSIN_NS_NS.addr := rfl

theorem netAt_congr {s u : State} (hntm : u.ntm = s.ntm) (hclk : reg u F.CLK_REF_SEL_FREQ.addr = reg s F.CLK_REF_SEL_FREQ.addr) (t : Nat) :
    netAt u t = netAt s t := by
  have hspan : ∀ d i, netSpan u d i = netSpan s d i := fun d i => by rw [netSpan, netSpan, pNom, pNom, flag_congr hclk]
  simp only [netAt, hntm, hspan]

theorem ntmNow_lockCount (s : State) : ntmNow (lockCount 0xA8000 s) = ntmNow s := by
  obtain ⟨hregs, hrest⟩ := lockCount_written 0xA8000 s
  have hnow : (lockCount 0xA8000 s).now = s.now := by rw [hrest]
  have hntm : (lockCount 0xA8000 s).ntm = s.ntm := by rw [hrest]
  have hpower : pstate (lockCount 0xA8000 s) = pstate s := rd_congr (hregs _ (by decide))
  simp only [ntmNow, hnow, hpower, netAt_congr hntm (hregs _ (by decide))]

/-! ## The pulses per second -/

/-- A PPS_IN edge shows its time. -/
theorem ppsIn_shows {t : Nat} {s : State} (hawake : awake s = true) (hruns : domRunning s .tkp 0 = true) :
    flag (ppsIn t s) F.NTM_PPSIN_NS_NEW = true ∧
      rd (ppsIn t s) F.NTM_PPSIN_NS_NS = nNs (net16 s (if 3 ≤ pstate s then t else tkpCycle t)) % 2 ^ 30 ∧
      flag (ppsIn t s) F.NTM_EVT_RAW_PPS_IN = true := by
  unfold ppsIn
  rw [if_pos ⟨hawake, hruns⟩]
  dsimp only
  generalize net16 s (if 3 ≤ pstate s then t else tkpCycle t) = n
  generalize (if flag s F.NTM_PPSIN_NS_NEW then wr s F.NTM_PPSIN_NS_OVR 1 else s) = u
  have hreg : ∀ v : State, reg (raise (setWide (setReg v A.NTM_PPSIN_FRAC (word (nFrac n))) A.NTM_PPSIN_SEC_LO (nSec n)) F.NTM_EVT_RAW_PPS_IN)
      F.NTM_PPSIN_NS_NS.addr = reg v F.NTM_PPSIN_NS_NS.addr := fun v => by
    rw [reg_raise_other _ _ _ (not_evfReg_of_ge (by decide)) (by decide), setWide, reg_setReg_other _ _ _ _ (by decide),
      reg_setReg_other _ _ _ _ (by decide), reg_setReg_other _ _ _ _ (by decide)]
  refine ⟨?_, ?_, flag_raise _ _ (not_evfReg_of_ge (by decide)) (by decide) rfl (by decide)⟩
  · rw [flag_congr (f := F.NTM_PPSIN_NS_NEW) (hreg _)]
    exact flag_wr_one _ _ (by decide) rfl
  · rw [rd_congr (hreg _), rd_wr_field _ _ _ _ (by decide) (by decide)]
    exact rd_wr_same _ _ _ (by decide)

theorem ppsinRead_new (u : State) : flag (ppsinRead u) F.NTM_PPSIN_NS_NEW = false :=
  (flag_wr_field _ _ _ _ (by decide) (by decide)).trans (flag_wr_zero u _ (by decide) rfl)

/-- Settles O39: rates, steps, readings and pulses of network time. -/
theorem networkTime : Obligations.NetworkTime := by
  refine ⟨fun t r d s hacc => ⟨_, rfl, incrNs_written hacc⟩, fun t r d s hacc => ⟨_, rfl, stepHi_written hacc⟩,
    fun t r d s hacc hsoft => ⟨_, rfl, ?_⟩, fun t r s hread hnone => ⟨_, rfl, ?_⟩,
    fun t s hawake hout hmode hphase => ⟨_, rfl, ?_⟩, fun t s hpps hlong => ⟨_, rfl, ?_⟩,
    fun t s hawake hruns => ⟨_, rfl, ppsIn_shows (s := at' t s) hawake hruns⟩, fun t r s hread hnone => ⟨_, rfl, ?_⟩⟩
  · have hwritten := bodyReg_ntmCtrl.written_narrow rfl hacc fun _ => (bit_withBit_other d (by decide) (by decide)).trans hsoft
    exact (hwritten.flag _ (by decide)).trans (ntmAct_clearCoast (at' t s) _ (bit_withBit d (by decide)))
  · rw [bodyReg_nowNs.read hread, readReg_ntm (.inl rfl) ((latchedWord_lockCount _ (at' t s) _ _).trans hnone), showReg_nowNs, ntmNow_lockCount]
    rfl
  · rw [ppsOutPulse, if_pos ⟨hawake, hout, hmode, hphase⟩]
    exact ⟨rfl, rfl⟩
  · rw [ppsOutEnd, if_pos ⟨hpps, hlong⟩]
  · rw [bodyReg_ppsin.read hread, readReg_ntm (.inr rfl) ((latchedWord_lockCount _ (at' t s) _ _).trans hnone), showReg_ppsin,
      (lockCount_written _ _).regs _ (by decide)]
    rw [if_pos rfl]
    exact ⟨rfl, (flag_congr (reg_busShow _ _ _ _)).trans (ppsinRead_new _)⟩

end Sys2Proof.Machine
end

section
/-!
SUPPORT. What the bridge leaves as it learns, counts, reports, forwards and sends (13 R345 to R350, R359): the frame counters of the
ETH ports, the fragments of the host and the transmit mailbox.
-/

namespace Sys2Proof.Machine

/-- `b` is no frame counter of an ETH port. -/
abbrev OffCounts (b : Nat) : Prop := ∀ p < 4, A.ETHP_RX_FRAMES p ≠ b ∧ A.ETHP_TX_FRAMES p ≠ b

/-- From `s` to `u` the frame counters of the ETH ports, the fragments and the transmit mailbox stay; at `level` 1 or more the number
of the next frame too, and at 2 or more the egress queues. -/
structure BridgeKept (level : Nat) (s u : State) : Prop where
  counts : ∀ p < 4, reg u (A.ETHP_RX_FRAMES p) = reg s (A.ETHP_RX_FRAMES p) ∧ reg u (A.ETHP_TX_FRAMES p) = reg s (A.ETHP_TX_FRAMES p)
  frags : u.eth.frags = s.eth.frags
  mbTx : u.eth.mbTx = s.eth.mbTx
  number : 1 ≤ level → u.eth.nextId = s.eth.nextId
  queues : 2 ≤ level → u.eth.high = s.eth.high ∧ u.eth.low = s.eth.low

/-- An ETH port's page holds its frame counters at 0x60 and 0x88. -/
theorem offCounts_port {b q : Nat} (o : Nat) (hb : b = 0xA1000 + o + 0x1000 * q)
    (ho : o < 0xFFC ∧ o ≠ 0x5C ∧ o ≠ 0x60 ∧ o ≠ 0x84 ∧ o ≠ 0x88) : OffCounts b ∧ OffCounts (b + 4) := by
  constructor <;> intro p hp <;> simp only [A.ETHP_RX_FRAMES, A.ETHP_TX_FRAMES] <;> omega

theorem port_of_linkIsUp {s : State} {p : Nat} (h : linkIsUp s p = true) : p < 4 := by
  simp only [linkIsUp, portOn, Bool.and_eq_true, decide_eq_true_eq] at h
  exact h.1.1.1.2

namespace BridgeKept
variable {k : Nat} {s u v : State}

theorem refl (s : State) : BridgeKept k s s := ⟨fun _ _ => ⟨rfl, rfl⟩, rfl, rfl, fun _ => rfl, fun _ => ⟨rfl, rfl⟩⟩

theorem trans (h : BridgeKept k s u) (h' : BridgeKept k u v) : BridgeKept k s v where
  counts p hp := ⟨(h'.counts p hp).1.trans (h.counts p hp).1, (h'.counts p hp).2.trans (h.counts p hp).2⟩
  frags := h'.frags.trans h.frags
  mbTx := h'.mbTx.trans h.mbTx
  number hk := (h'.number hk).trans (h.number hk)
  queues hk := ⟨(h'.queues hk).1.trans (h.queues hk).1, (h'.queues hk).2.trans (h.queues hk).2⟩

theorem ite {c : Prop} [Decidable c] (hu : BridgeKept k s u) (hv : BridgeKept k s v) : BridgeKept k s (if c then u else v) := by
  split
  · exact hu
  · exact hv

theorem foldl {α : Type} {f : State → α → State} {l : List α} (h : BridgeKept k s u)
    (hf : ∀ v, ∀ x ∈ l, BridgeKept k s v → BridgeKept k s (f v x)) : BridgeKept k s (l.foldl f u) :=
  List.foldlRecOn (motive := BridgeKept k s) l f h fun v hv x hx => hf v x hx hv

theorem setReg (h : BridgeKept k s u) (b : Nat) (w : Word) (hb : OffCounts b := by decide) : BridgeKept k s (setReg u b w) :=
  h.trans ⟨fun p hp => ⟨reg_setReg_other u b _ w (hb p hp).1, reg_setReg_other u b _ w (hb p hp).2⟩, rfl, rfl, fun _ => rfl,
    fun _ => ⟨rfl, rfl⟩⟩

theorem wrB (h : BridgeKept k s u) (f : Fld) (b : Bool) (hf : OffCounts f.addr := by decide) : BridgeKept k s (wrB u f b) := h.setReg _ _ hf

theorem bump (h : BridgeKept k s u) (b : Nat) (hb : OffCounts b ∧ OffCounts (b + 4) := by decide) : BridgeKept k s (bump u b) :=
  h.trans ⟨fun p hp => ⟨reg_bump_other u b _ (hb.1 p hp).1 (hb.2 p hp).1, reg_bump_other u b _ (hb.1 p hp).2 (hb.2 p hp).2⟩,
    by rw [bump_eth], by rw [bump_eth], fun _ => by rw [bump_eth], fun _ => by rw [bump_eth]; exact ⟨rfl, rfl⟩⟩

theorem raise (h : BridgeKept k s u) (f : Fld) (hf : OffCounts (f.addr - 0x10 + 0x10) := by decide) : BridgeKept k s (raise u f) :=
  h.trans ⟨fun p hp => ⟨reg_raise_other u f _ (not_evfReg_of_ge (by simp only [A.ETHP_RX_FRAMES]; omega)) (hf p hp).1,
      reg_raise_other u f _ (not_evfReg_of_ge (by simp only [A.ETHP_TX_FRAMES]; omega)) (hf p hp).2⟩,
    by rw [raise_eth], by rw [raise_eth], fun _ => by rw [raise_eth], fun _ => by rw [raise_eth]; exact ⟨rfl, rfl⟩⟩

/-- What writes no register and changes of the Ethernet what is not spoken of. -/
theorem beside (h : BridgeKept k s u) (hregs : v.regs = u.regs) (hfrags : v.eth.frags = u.eth.frags) (hmb : v.eth.mbTx = u.eth.mbTx)
    (hid : v.eth.nextId = u.eth.nextId) (hhigh : v.eth.high = u.eth.high) (hlow : v.eth.low = u.eth.low) : BridgeKept k s v :=
  h.trans ⟨fun _ _ => ⟨reg_congr hregs _, reg_congr hregs _⟩, hfrags, hmb, fun _ => hid, fun _ => ⟨hhigh, hlow⟩⟩

theorem setHigh (h : BridgeKept k s u) (hk : k ≤ 1) (p : Nat) (l : List EthItem) : BridgeKept k s (setHigh u p l) :=
  h.trans ⟨fun _ _ => ⟨rfl, rfl⟩, rfl, rfl, fun _ => rfl, fun hk' => absurd hk' (by omega)⟩

theorem setLow (h : BridgeKept k s u) (hk : k ≤ 1) (p : Nat) (l : List EthItem) : BridgeKept k s (setLow u p l) :=
  h.trans ⟨fun _ _ => ⟨rfl, rfl⟩, rfl, rfl, fun _ => rfl, fun hk' => absurd hk' (by omega)⟩

theorem nextEthId (h : BridgeKept 0 s u) : BridgeKept 0 s (nextEthId u) :=
  h.trans ⟨fun _ _ => ⟨rfl, rfl⟩, rfl, rfl, fun hk => absurd hk (by decide), fun hk => absurd hk (by decide)⟩

theorem mbRx (h : BridgeKept k s u) (l : List (List Word)) : BridgeKept k s { u with eth := { u.eth with mbRx := l } } :=
  h.beside rfl rfl rfl rfl rfl rfl

theorem macs (h : BridgeKept k s u) (l : List (Nat × Nat × Nat)) : BridgeKept k s { u with eth := { u.eth with macs := l } } :=
  h.beside rfl rfl rfl rfl rfl rfl

theorem paused (h : BridgeKept k s u) (l : List Nat) : BridgeKept k s { u with eth := { u.eth with paused := l } } :=
  h.beside rfl rfl rfl rfl rfl rfl

theorem pause (h : BridgeKept k s u) (l : List (Nat × Nat)) : BridgeKept k s { u with eth := { u.eth with pause := l } } :=
  h.beside rfl rfl rfl rfl rfl rfl

/-! ## The host -/

theorem hostDrop (h : BridgeKept k s u) : BridgeKept k s (hostDrop u) := (h.bump _).raise _

theorem queueFrame (h : BridgeKept k s u) (b : Nat) (f : LinkFrame) : BridgeKept k s (queueFrame u b f) :=
  h.beside rfl rfl rfl rfl rfl rfl

theorem hostSend (h : BridgeKept k s u) (kind port : Nat) (valid prov degr : Bool) (id ts : Nat) (f : List Byte) :
    BridgeKept k s (hostSend u kind port valid prov degr id ts f) := by
  unfold Machine.hostSend
  exact ite (ite (h.foldl fun _ _ _ h => h.queueFrame _ _) h.hostDrop)
    (ite (ite ((h.mbRx _).raise _) h.hostDrop) h)

theorem toHost (h : BridgeKept k s u) (i : EthItem) : BridgeKept k s (toHost u i) := h.hostSend _ _ _ _ _ _ _ _

theorem tsReport (h : BridgeKept k s u) (i : EthItem) (p : Nat) (ts : Option Nat) : BridgeKept k s (tsReport u i p ts) :=
  ite (h.hostSend _ _ _ _ _ _ _ _) h

/-! ## Forwarding -/

theorem setMacs (h : BridgeKept k s u) (l : List (Nat × Nat × Nat)) : BridgeKept k s (setMacs u l) :=
  (h.macs l).setReg A.ETH_MAC_COUNT _

theorem learn (h : BridgeKept k s u) (port m : Nat) : BridgeKept k s (learn u port m) :=
  ite (ite (h.setMacs _) (ite (h.setMacs _) ((h.bump _).raise _))) h

theorem egressDrop (h : BridgeKept k s u) (i : EthItem) (p : Nat) : BridgeKept k s (egressDrop u i p) := by
  unfold Machine.egressDrop
  split
  case isTrue => exact (h.bump _ (offCounts_port 0x90 rfl (by decide))).tsReport i p none
  case isFalse => exact ite h.hostDrop h

theorem egressPush (h : BridgeKept k s u) (hk : k ≤ 1) (i : EthItem) (p : Nat) : BridgeKept k s (egressPush u i p) :=
  ite (ite (h.setHigh hk _ _) (h.egressDrop i p)) (ite (h.setLow hk _ _) (h.egressDrop i p))

theorem pauseJudge (h : BridgeKept k s u) (p : Nat) : BridgeKept k s (pauseJudge u p) := by
  unfold Machine.pauseJudge
  split
  case isTrue =>
    have hpause := offCounts_port (b := A.ETHP_PAUSE_TX p) 0xA0 rfl (by decide)
    exact ite ((h.paused _).bump _ hpause) (ite ((h.paused _).bump _ hpause) h)
  case isFalse => exact h

/-- A frame stored in its ingress buffer leaves all but the queues as it was after it took its number. -/
theorem pushed (h : BridgeKept k s u) (hk : k ≤ 1) (i : EthItem) (ps : List Nat) (p : Nat) :
    BridgeKept k s (Machine.pauseJudge (ps.foldl (fun s p => Machine.egressPush s i p) u) p) :=
  (h.foldl fun _ p _ h => h.egressPush hk i p).pauseJudge p

theorem forward (h : BridgeKept 0 s u) (i : EthItem) (ps : List Nat) : BridgeKept 0 s (forward u i ps) := by
  unfold Machine.forward
  split
  case isTrue =>
    refine foldl ?_ fun _ p _ h => h.tsReport i p none
    split
    case isTrue => exact h.bump _ (offCounts_port 0x80 rfl (by decide))
    case isFalse => exact ite h.hostDrop h
  case isFalse => exact h.nextEthId.pushed (by decide) i ps i.port

theorem hostFrame (h : BridgeKept 0 s u) (w0 w1 : Word) (f : List Byte) : BridgeKept 0 s (hostFrame u w0 w1 f) := by
  unfold Machine.hostFrame
  extract_lets p i learnt
  have hlearnt : BridgeKept 0 s learnt := ite (h.learn _ _) h
  exact ite (ite (hlearnt.forward _ _) (ite (hlearnt.forward _ _) (hlearnt.egressDrop _ _)))
    (h.foldl fun _ p _ h => h.tsReport _ p none)

/-! ## Reception and egress -/

theorem pauseReceived (h : BridgeKept k s u) (p : Nat) (f : List Byte) : BridgeKept k s (pauseReceived u p f) := by
  have hevent : OffCounts ((F.ETHP_EVT_RAW_PAUSE_RX p).addr - 0x10 + 0x10) := (offCounts_port (q := p) 0x10 (by simp only; omega) (by decide)).1
  have hcounted := (h.bump (A.ETHP_PAUSE_RX p) (offCounts_port 0x98 rfl (by decide))).raise (F.ETHP_EVT_RAW_PAUSE_RX p) hevent
  exact ite ((hcounted.wrB (F.ETHP_STATUS_PAUSED p) _ (offCounts_port (q := p) 0xC rfl (by decide)).1).pause _) hcounted

theorem matchOpen (h : BridgeKept k s u) (key : List Byte) : BridgeKept k s (matchOpen u key) := by
  unfold Machine.matchOpen
  extract_lets l evicted
  have hevicted : BridgeKept k s evicted := ite ((h.bump _).raise _) h
  exact hevicted.beside rfl rfl rfl rfl rfl rfl

theorem ptpIngress (h : BridgeKept k s u) (p : Nat) (f : List Byte) : BridgeKept k s (ptpIngress u p f) := by
  unfold Machine.ptpIngress
  split
  · exact h
  · exact h.bump _
  · exact ite (h.bump _) h
  · exact ite (h.bump _) (ite (h.matchOpen _) h)

theorem bridgeFrame (h : BridgeKept 0 s u) (p sfd : Nat) (f : List Byte) : BridgeKept 0 s (bridgeFrame u p sfd f) :=
  have hlearnt := h.learn p (macSrc f)
  (ite (hlearnt.ptpIngress p f) hlearnt).forward _ _

theorem setMatch (h : BridgeKept k s u) (key : List Byte) (e : Option MatchEnt) : BridgeKept k s (setMatch u key e) :=
  h.beside rfl rfl rfl rfl rfl rfl

theorem corrected (h : BridgeKept k s u) (p : Nat) (f : List Byte) (o : Nat) (udp : Option Nat) (r : Int) :
    BridgeKept k s (corrected u p f o udp r).1 := h.bump _ (offCounts_port 0xA8 rfl (by decide))

theorem followUp (h : BridgeKept k s u) (p : Nat) (f key : List Byte) (o : Nat) (udp : Option Nat) :
    BridgeKept k s (followUp u p f key o udp).1 := by
  unfold Machine.followUp
  split
  · exact (h.bump _).raise _
  · split
    · exact (h.bump _).raise _
    · exact (h.setMatch _ _).corrected _ _ _ _ _

theorem tcEgress (h : BridgeKept k s u) (i : EthItem) (p sfd : Nat) : BridgeKept k s (tcEgress u i p sfd).1 := by
  unfold Machine.tcEgress
  dsimp only
  split
  · split
    · exact h
    · split
      · exact h.corrected _ _ _ _ _
      · split
        · split
          · exact h
          · exact h.setMatch _ _
        · split
          · exact h.followUp _ _ _ _ _
          · exact h
  · exact h

end BridgeKept

end Sys2Proof.Machine
end

section
/-!
THEOREM. O37: the ETH ports receive, send and change their links, and learnt addresses and match entries age (13 R343 to R347, R360).
-/

namespace Sys2Proof.Machine

/-! ## Reception -/

theorem rxFrames_bump (s : State) {p : Nat} {u : State} (hp : p < 4) (h : BridgeKept 0 (bump s (A.ETHP_RX_FRAMES p)) u) :
    (reg u (A.ETHP_RX_FRAMES p)).toNat = min ((reg s (A.ETHP_RX_FRAMES p)).toNat + 1) 0xFFFFFFFF := by
  rw [(h.counts p hp).1, reg_bump_toNat]

/-- A good frame is counted, and what the bridge makes of it counts in no frame counter. -/
theorem ethFrameReceived_good {p : Nat} (sfd : Nat) {f : List Byte} {s : State} (hup : linkIsUp s p = true) (hmin : 60 ≤ f.length)
    (hmax : f.length ≤ 9212) : BridgeKept 0 (bump s (A.ETHP_RX_FRAMES p)) (ethFrameReceived p sfd f true s) := by
  unfold ethFrameReceived
  rw [if_neg (by simp [hup]), if_neg (by simp), if_neg (by omega), if_neg (by omega)]
  exact .ite ((BridgeKept.refl _).pauseReceived p f) (.ite ((BridgeKept.refl _).bridgeFrame p sfd f) (.refl _))

theorem ethFrameReceived_fcs {p : Nat} (sfd : Nat) (f : List Byte) {s : State} (hup : linkIsUp s p = true) :
    ethFrameReceived p sfd f false s = bump s (A.ETHP_RX_FCS p) := by
  simp [ethFrameReceived, hup]

theorem ethFrameReceived_runt {p : Nat} (sfd : Nat) {f : List Byte} {s : State} (hup : linkIsUp s p = true) (hlen : f.length < 60) :
    ethFrameReceived p sfd f true s = bump s (A.ETHP_RX_RUNT p) := by
  simp [ethFrameReceived, hup, hlen]

/-! ## Egress -/

/-- A frame that leaves an ETH port is counted there, and no queue changes. -/
theorem sendOut_counts (s : State) (i : EthItem) {p : Nat} (sfd : Nat) (hp : p < 4) :
    (reg (sendOut s i p sfd) (A.ETHP_TX_FRAMES p)).toNat = min ((reg s (A.ETHP_TX_FRAMES p)).toNat + 1) 0xFFFFFFFF ∧
      (sendOut s i p sfd).eth.high = s.eth.high ∧ (sendOut s i p sfd).eth.low = s.eth.low := by
  have hclock : BridgeKept 2 s (tcEgress s i p sfd).1 := (BridgeKept.refl s).tcEgress i p sfd
  unfold sendOut
  extract_lets r counted eth sent
  have hsent : BridgeKept 2 counted sent := (BridgeKept.refl counted).beside rfl rfl rfl rfl rfl rfl
  have hreport := hsent.tsReport i p (some (hostStamp sent p sfd (A.ETHP_TX_LAT p)))
  have hqueues := hreport.queues le_rfl
  rw [show counted.eth = r.1.eth from bump_eth _ _, (hclock.queues le_rfl).1, (hclock.queues le_rfl).2] at hqueues
  refine ⟨?_, hqueues⟩
  rw [(hreport.counts p hp).2, show reg counted _ = _ from rfl, reg_bump_toNat, (hclock.counts p hp).2]

/-- The next frame of a bridge port leaves where nothing holds it. -/
theorem ethFrameEgress_pop {p : Nat} (sfd : Nat) {i : EthItem} {s u : State} (hbridging : bridging s = true)
    (hfree : p = 4 ∨ (linkIsUp s p = true ∧ pget 0 s.eth.pause p ≤ sfd)) (hpop : egressPop s p = some (i, u)) :
    ethFrameEgress p sfd s = pauseJudge (if p = 4 then toHost u i else sendOut u i p sfd) i.port := by
  have hp : p < 5 := hfree.elim (by omega) fun h => (port_of_linkIsUp h.1).trans (by decide)
  rw [ethFrameEgress, if_pos ⟨hp, hbridging, hfree⟩, hpop]

/-- On an ETH port it is counted, and the queues are left as they are without it. -/
theorem ethFrameEgress_counts {p : Nat} (sfd : Nat) {i : EthItem} {s u : State} (hp : p < 4) (hbridging : bridging s = true)
    (hup : linkIsUp s p = true) (hpause : pget 0 s.eth.pause p ≤ sfd) (hpop : egressPop s p = some (i, u))
    (hregs : u.regs = s.regs) :
    (ethFrameEgress p sfd s).eth.high = u.eth.high ∧ (ethFrameEgress p sfd s).eth.low = u.eth.low ∧
      (reg (ethFrameEgress p sfd s) (A.ETHP_TX_FRAMES p)).toNat = min ((reg s (A.ETHP_TX_FRAMES p)).toNat + 1) 0xFFFFFFFF := by
  rw [ethFrameEgress_pop sfd hbridging (.inr ⟨hup, hpause⟩) hpop, if_neg (by omega)]
  obtain ⟨hcount, hhigh, hlow⟩ := sendOut_counts u i sfd hp
  have hjudge := (BridgeKept.refl (k := 2) (sendOut u i p sfd)).pauseJudge i.port
  have hqueues := hjudge.queues le_rfl
  refine ⟨hqueues.1.trans hhigh, hqueues.2.trans hlow, ?_⟩
  rw [(hjudge.counts p hp).2, hcount, reg_congr hregs]

theorem egressPop_high {s : State} {p : Nat} {i : EthItem} {l : List EthItem} (h : highOf s p = i :: l) :
    egressPop s p = some (i, setHigh s p l) := by
  rw [egressPop, h]

theorem egressPop_low {s : State} {p : Nat} {i : EthItem} {l : List EthItem} (h : highOf s p = []) (h' : lowOf s p = i :: l) :
    egressPop s p = some (i, setLow s p l) := by
  rw [egressPop, h]
  dsimp only
  rw [h']

theorem highOf_setHigh (s : State) (p : Nat) (l : List EthItem) : pget [] (setHigh s p l).eth.high p = l := pget_pset_same _ _ _ _
theorem lowOf_setLow (s : State) (p : Nat) (l : List EthItem) : pget [] (setLow s p l).eth.low p = l := pget_pset_same _ _ _ _

/-! ## Links -/

theorem flag_raise_port (s : State) (p b : Nat) (hb : b < 32) :
    flag (raise s ⟨0xA1010 + 0x1000 * p, b, 1⟩) ⟨0xA1010 + 0x1000 * p, b, 1⟩ = true :=
  flag_raise _ _ (not_evfReg_of_ge (by simp only; omega)) (by simp only; omega) rfl hb

/-- Events of the port stand apart from its STATUS. -/
theorem reg_raise_portStatus (s : State) (p b : Nat) :
    reg (raise s ⟨0xA1010 + 0x1000 * p, b, 1⟩) (0xA100C + 0x1000 * p) = reg s (0xA100C + 0x1000 * p) :=
  reg_raise_other _ _ _ (not_evfReg_of_ge (by omega)) (by simp only; omega)

/-- What STATUS shows of a link that came up with a speed, negotiated or not, its pauses and its partner's word. -/
theorem linkWord_shows (an rx tx speed lp : Nat) (han : an ≤ 1) (hrx : rx ≤ 1) (htx : tx ≤ 1) (hspeed : speed < 4) (hlp : lp < 2 ^ 16) :
    fld (word (2 ^ 31 + (an * 2 ^ 30 + speed * 2 ^ 28 + rx * 2 ^ 27 + tx * 2 ^ 26 + lp))) 31 1 = 1 ∧
      fld (word (2 ^ 31 + (an * 2 ^ 30 + speed * 2 ^ 28 + rx * 2 ^ 27 + tx * 2 ^ 26 + lp))) 28 2 = speed := by
  simp only [fld, word, BitVec.toNat_ofNat, Nat.shiftRight_eq_div_pow]
  omega

theorem b2n_le (b : Bool) : b2n b ≤ 1 := by cases b <;> decide

theorem speedOf_lt (s : State) (p lp : Nat) : speedOf s p lp < 4 := by
  unfold speedOf
  split
  · decide
  · split <;> omega

/-- A link that comes up shows it, and the speed of its mode or of the PHY's word. -/
theorem linkUp_shows {p : Nat} (lp : Nat) {s : State} (hon : portOn s p = true) (hdown : flag s (F.ETHP_STATUS_LINK p) = false)
    (hoffer : negotiates s p = false ∨ offersFull s p lp = true) :
    flag (linkUp p lp s) (F.ETHP_STATUS_LINK p) = true ∧ flag (linkUp p lp s) (F.ETHP_EVT_RAW_LINK_UP p) = true ∧
      rd (linkUp p lp s) (F.ETHP_STATUS_SPEED p) = speedOf s p lp := by
  unfold linkUp
  rw [if_neg (by simp [hon, hdown]), if_neg (by obtain h | h := hoffer <;> simp [h])]
  have hlp : (if negotiates s p = true then lp % 2 ^ 16 else 0) < 2 ^ 16 := by split <;> omega
  obtain ⟨hlink, hspeed⟩ := linkWord_shows (b2n (negotiates s p)) (b2n (pauseOf s p lp).1) (b2n (pauseOf s p lp).2) (speedOf s p lp) _
    (b2n_le _) (b2n_le _) (b2n_le _) (speedOf_lt s p lp) hlp
  refine ⟨?_, flag_raise_port _ p 1 (by decide), ?_⟩
  · rw [flag_congr (reg_raise_portStatus _ p 1), flag, rd, reg_setReg_same]
    exact decide_eq_true hlink
  · rw [rd_congr (reg_raise_portStatus _ p 1), rd, reg_setReg_same]
    exact hspeed

/-- A port that goes down shows no link, and its queues are empty. -/
theorem portDown_shows (s : State) (p : Nat) : flag (portDown s p) (F.ETHP_STATUS_LINK p) = false ∧
    highOf (portDown s p) p = [] ∧ lowOf (portDown s p) p = [] := by
  have hlink : ∀ n < 2 ^ 16, fld (word n) 31 1 = 0 := fun n hn => by
    simp only [fld, word, BitVec.toNat_ofNat, Nat.shiftRight_eq_div_pow]
    omega
  unfold portDown
  extract_lets items dropped aged eth held lp
  have hdropped : BridgeKept 2 (setLow (setHigh s p []) p []) dropped :=
    (BridgeKept.refl _).foldl fun _ i _ h => h.egressDrop i p
  have hheld : BridgeKept 2 aged held := (BridgeKept.refl aged).beside rfl rfl rfl rfl rfl rfl
  have hqueues := ((hdropped.setMacs _).trans hheld).queues le_rfl
  refine ⟨?_, ?_, ?_⟩
  · rw [flag, rd, reg_setReg_same]
    have hzero := hlink lp (Nat.mod_lt _ (show 0 < 2 ^ 16 by decide))
    simp [hzero]
  · exact (congrArg (pget [] · p) hqueues.1).trans (pget_pset_same _ _ _ _)
  · exact (congrArg (pget [] · p) hqueues.2).trans (pget_pset_same _ _ _ _)

/-- A partner of half duplex: its word is shown with AN_FAIL. -/
theorem anFail_shows {p : Nat} (lp : Nat) {s : State} (hon : portOn s p = true) (hneg : negotiates s p = true) :
    flag (anFail p lp s) (F.ETHP_EVT_RAW_AN_FAIL p) = true ∧ rd (anFail p lp s) (F.ETHP_STATUS_LP_WORD p) = lp % 2 ^ 16 := by
  rw [anFail, if_pos ⟨hon, hneg⟩]
  exact ⟨flag_raise_port _ p 3 (by decide), (rd_congr (reg_raise_portStatus _ p 3)).trans (rd_wr_same _ _ _ (show 0 + 16 ≤ 32 by decide))⟩

/-- Settles O37: reception, egress, links and ageing of the ETH ports. -/
theorem ethernetPorts : Obligations.EthernetPorts := by
  refine ⟨fun t p n l s hup hmin hmax => ⟨_, rfl, ?_⟩, fun t p n l s hup => ⟨_, rfl, ?_⟩,
    fun t p n l s hup hlen => ⟨_, rfl, ?_⟩, fun t p s hp hheld hover => ⟨_, rfl, ?_⟩,
    fun t p n i l s hp hbridging hup hpause hhigh => ⟨_, rfl, ?_⟩,
    fun t p n i l s hp hbridging hup hpause hhigh hlow => ⟨_, rfl, ?_⟩,
    fun t n i l s hbridging hhigh => ⟨_, rfl, ?_⟩,
    fun t p n s hon hdown hoffer => ⟨_, rfl, linkUp_shows n (s := at' t s) hon hdown hoffer⟩,
    fun t p s hup => ⟨_, rfl, ?_⟩,
    fun t p n s hon hneg => ⟨_, rfl, anFail_shows n (s := at' t s) hon hneg⟩,
    fun t s => ⟨_, rfl, rfl⟩, fun t s => ⟨_, rfl, rfl⟩⟩
  · exact rxFrames_bump (at' t s) (port_of_linkIsUp hup) (ethFrameReceived_good n (s := at' t s) hup hmin hmax)
  · rw [ethFrameReceived_fcs n l (s := at' t s) hup]
    exact ⟨reg_bump_toNat _ _, bump_eth _ _⟩
  · rw [ethFrameReceived_runt n (s := at' t s) hup hlen]
    exact ⟨reg_bump_toNat _ _, bump_eth _ _⟩
  · rw [pauseQuantaEnd, if_pos ⟨hheld, hover⟩]
    exact ⟨flag_wr_zero _ _ (show 25 + 1 ≤ 32 by decide) rfl, pget_pset_same _ _ _ _⟩
  · obtain ⟨hhigh', -, hcount⟩ := ethFrameEgress_counts n (s := at' t s) hp hbridging hup hpause (egressPop_high (s := at' t s) hhigh) rfl
    exact ⟨(congrArg (pget [] · p) hhigh').trans (highOf_setHigh _ _ _), hcount⟩
  · obtain ⟨-, hlow', hcount⟩ := ethFrameEgress_counts n (s := at' t s) hp hbridging hup hpause (egressPop_low (s := at' t s) hhigh hlow) rfl
    exact ⟨(congrArg (pget [] · p) hlow').trans (lowOf_setLow _ _ _), hcount⟩
  · rw [ethFrameEgress_pop n (s := at' t s) hbridging (.inl rfl) (egressPop_high (s := at' t s) hhigh), if_pos rfl]
    have hkept := ((BridgeKept.refl (k := 2) (setHigh (at' t s) 4 l)).toHost i).pauseJudge i.port
    exact (congrArg (pget [] · 4) (hkept.queues le_rfl).1).trans (highOf_setHigh _ _ _)
  · rw [linkDown, if_pos (show linkIsUp (at' t s) p = true from hup)]
    obtain ⟨hlink, hhigh, hlow⟩ := portDown_shows (at' t s) p
    refine ⟨(flag_congr (reg_raise_portStatus _ p 2)).trans hlink, flag_raise_port _ p 2 (by decide), ?_, ?_⟩
    · rwa [highOf, raise_eth]
    · rwa [lowOf, raise_eth]

end Sys2Proof.Machine
end

section
/-!
THEOREM. O38: the host's frames are assembled and enter the bridge, and the mailbox gives and takes its records (13 R348 to R350).
-/

namespace Sys2Proof.Machine

/-! ## Assembly -/

/-- Whether port `p` works and its link is up is a matter of the power state and of the port's own registers. -/
theorem linkIsUp_congr {s u : State} {p : Nat} (hheld : u.held = s.held) (hwiping : u.wiping = s.wiping)
    (hregs : ∀ a ∈ [F.PWR_STATUS_STATE.addr, (F.ETHP_CTRL_ENABLE p).addr, (F.ETHP_STATUS_LINK p).addr, (F.LNQ_QUAD_CFG_ROLE 35).addr],
      reg u a = reg s a) : linkIsUp u p = linkIsUp s p := by
  have hawake : awake u = awake s := by rw [awake, awake, hheld, hwiping]
  have hpower : domRunning u .eth 0 = domRunning s .eth 0 :=
    congrArg (fun n => decide (2 ≤ n)) (rd_congr (f := F.PWR_STATUS_STATE) (hregs _ (by simp)))
  rw [linkIsUp, linkIsUp, portOn, portOn, hawake, hpower, flag_congr (f := F.ETHP_CTRL_ENABLE p) (hregs _ (by simp)),
    flag_congr (f := F.ETHP_STATUS_LINK p) (hregs _ (by simp)), rd_congr (f := F.LNQ_QUAD_CFG_ROLE 35) (hregs _ (by simp))]

/-- What TUN_BAD counts stops neither the bridge nor a link. -/
theorem tunBad_same (s : State) :
    (tunBad s).eth = s.eth ∧ bridging (tunBad s) = bridging s ∧ ∀ p, linkIsUp (tunBad s) p = linkIsUp s p := by
  have hreg : ∀ a, a ≠ A.ETH_TUN_BAD → a ≠ A.ETH_TUN_BAD + 4 → reg (tunBad s) a = reg s a := reg_bump_other s _
  have hheld : (tunBad s).held = s.held := bump_held _ _
  have hwiping : (tunBad s).wiping = s.wiping := bump_wiping _ _
  refine ⟨bump_eth _ _, ?_, fun p => linkIsUp_congr hheld hwiping ?_⟩
  · have hpower : domRunning (tunBad s) .eth 0 = domRunning s .eth 0 :=
      congrArg (fun n => decide (2 ≤ n)) (rd_congr (f := F.PWR_STATUS_STATE) (hreg _ (by decide) (by decide)))
    rw [bridging, bridging, awake, awake, hheld, hwiping, hpower, flag_congr (f := F.ETH_CTRL_ENABLE) (hreg _ (by decide) (by decide))]
  · intro a ha
    simp only [List.mem_cons, List.not_mem_nil, or_false] at ha
    obtain rfl | rfl | rfl | rfl := ha
    · exact hreg _ (by decide) (by decide)
    · exact hreg _ (by simp only [A.ETH_TUN_BAD]; omega) (by simp only [A.ETH_TUN_BAD]; omega)
    · exact hreg _ (by simp only [A.ETH_TUN_BAD]; omega) (by simp only [A.ETH_TUN_BAD]; omega)
    · exact hreg _ (by decide) (by decide)

/-- An assembly that a first fragment replaces was incomplete. -/
def fragFresh (s : State) (b : Nat) : State := if (pget none s.eth.frags b).isSome then tunBad s else s

theorem fragFresh_same (s : State) (b : Nat) :
    (fragFresh s b).eth = s.eth ∧ bridging (fragFresh s b) = bridging s ∧ ∀ p, linkIsUp (fragFresh s b) p = linkIsUp s p := by
  unfold fragFresh
  split
  · exact tunBad_same s
  · exact ⟨rfl, rfl, fun _ => rfl⟩

/-- The bundle is that of the tunnel. -/
abbrev OnTunnel (s : State) (b : Nat) : Prop :=
  rd s F.ETH_TUNNEL_CFG_PATH = 1 ∧ rd s F.ETH_TUNNEL_CFG_BUNDLE = b ∧ awake s = true ∧ domRunning s .eth 0 = true

/-- A frame with a bad header or length counts and drops the assembly. -/
theorem ethFromHost_bad {b len : Nat} {body : List Word} {s : State} (h : OnTunnel s b)
    (hbad : len < 16 ∨ 4096 < len ∨ headGood (body.getD 0 0#32) = false) :
    ethFromHost b len body s = tunBad (setFrag s b none) := by
  unfold ethFromHost
  rw [if_pos h]
  dsimp only
  rw [if_pos (by simpa using hbad)]

/-- A first fragment begins an assembly. -/
theorem ethFromHost_first {b len : Nat} {body : List Word} {s : State} (h : OnTunnel s b) (hmin : 16 ≤ len) (hmax : len ≤ 4096)
    (hgood : headGood (body.getD 0 0#32) = true) (hfirst : fld (body.getD 0 0#32) 22 2 = 0) :
    ethFromHost b len body s =
      fragAdd (fragFresh s b) b ⟨0, body.take 4, []⟩ (body.getD 0 0#32) ((unpackWords (body.drop 4)).take (len - 16)) := by
  unfold ethFromHost
  rw [if_pos h]
  dsimp only
  rw [if_neg (not_or.2 ⟨by omega, not_or.2 ⟨by omega, by rw [hgood]; decide⟩⟩), if_pos hfirst]
  rfl

theorem getD_take_zero (l : List Word) : (l.take 4).getD 0 0#32 = l.getD 0 0#32 := by cases l <;> rfl

/-- Little-endian words hold four bytes each. -/
theorem length_unpackWords (l : List Word) : (unpackWords l).length = 4 * l.length := by
  induction l with
  | nil => rfl
  | cons w l ih =>
    rw [unpackWords, List.flatMap_cons, List.length_append, ← unpackWords, ih]
    simp only [List.length_map, List.length_range, List.length_cons]
    omega

/-- A whole frame in one fragment goes on to the bridge. -/
theorem fragAdd_whole {s : State} {b : Nat} {head : List Word} {w0 : Word} {data : List Byte} (hlast : bit w0 21 = true)
    (hlen : data.length = fld (head.getD 0 0#32) 0 16) :
    fragAdd s b ⟨0, head, []⟩ w0 data = hostFrame (setFrag s b none) (head.getD 0 0#32) (head.getD 1 0#32) data := by
  unfold fragAdd
  dsimp only
  rw [if_pos hlast, List.nil_append, if_pos hlen]

/-- A frame that fits into its ingress buffer is stored and takes the next number. -/
theorem forward_fits {s : State} {i : EthItem} {ps : List Nat} (hfits : ingressUsed s i.port + (i.frame.length + 4) ≤ 24 * 1024) :
    (forward s i ps).eth.frags = s.eth.frags ∧ (forward s i ps).eth.nextId = s.eth.nextId + 1 := by
  unfold forward
  rw [if_neg (by simp only [ingressFits, decide_eq_true hfits]; decide)]
  have hkept := (BridgeKept.refl (k := 1) (nextEthId s)).pushed le_rfl i ps i.port
  exact ⟨hkept.frags, hkept.number le_rfl⟩

/-- A host frame for a port whose link is up is forwarded to it. -/
theorem hostFrame_toPort {s : State} {w0 : Word} (w1 : Word) (f : List Byte) (hbridging : bridging s = true)
    (hup : linkIsUp s (fld w0 24 4) = true) :
    hostFrame s w0 w1 f = forward s ⟨s.eth.nextId, 4, 0, 0, false, false, bit w0 17, fld w1 16 16, f⟩ [fld w0 24 4] := by
  have hport : fld w0 24 4 ≠ 15 := by have := port_of_linkIsUp hup; omega
  unfold hostFrame
  dsimp only
  rw [if_pos hbridging, if_neg hport, if_neg hport, if_pos hup]

theorem ethFromHost_whole {b len : Nat} {body : List Word} {s : State} (h : OnTunnel s b) (hbridging : bridging s = true)
    (hmax : len ≤ 4096) (hgood : headGood (body.getD 0 0#32) = true) (hfirst : fld (body.getD 0 0#32) 22 2 = 0)
    (hlast : bit (body.getD 0 0#32) 21 = true) (hlen : len = 16 + fld (body.getD 0 0#32) 0 16)
    (hwords : body.length = 4 + (fld (body.getD 0 0#32) 0 16 + 3) / 4) (hup : linkIsUp s (fld (body.getD 0 0#32) 24 4) = true)
    (hroom : ingressUsed s 4 + (fld (body.getD 0 0#32) 0 16 + 4) ≤ 24 * 1024) :
    pget none (ethFromHost b len body s).eth.frags b = none ∧ (ethFromHost b len body s).eth.nextId = s.eth.nextId + 1 := by
  have hbytes : ((unpackWords (body.drop 4)).take (len - 16)).length = fld (body.getD 0 0#32) 0 16 := by
    rw [List.length_take, length_unpackWords, List.length_drop]
    omega
  obtain ⟨heth, hsameB, hsameL⟩ := fragFresh_same s b
  rw [ethFromHost_first h (by omega) hmax hgood hfirst, fragAdd_whole hlast (by rw [getD_take_zero, hbytes]), getD_take_zero,
    hostFrame_toPort (s := setFrag (fragFresh s b) b none) _ _ (hsameB.trans hbridging) ((hsameL _).trans hup)]
  have hused : ingressUsed (setFrag (fragFresh s b) b none) 4 = ingressUsed s 4 :=
    (rfl : _ = ingressUsed (fragFresh s b) 4).trans (by rw [ingressUsed, ingressUsed, heth])
  obtain ⟨hfrags, hnumber⟩ := forward_fits (s := setFrag (fragFresh s b) b none)
    (i := ⟨(setFrag (fragFresh s b) b none).eth.nextId, 4, 0, 0, false, false, bit (body.getD 0 0#32) 17,
      fld ((body.take 4).getD 1 0#32) 16 16, (unpackWords (body.drop 4)).take (len - 16)⟩) (ps := [fld (body.getD 0 0#32) 24 4])
    (by simp only [hused, hbytes]; exact hroom)
  refine ⟨?_, ?_⟩
  · rw [hfrags]
    exact pget_pset_same _ _ _ _
  · rw [hnumber]
    exact congrArg (·.nextId + 1) heth

/-! ## The mailbox -/

def mbRxDataLoc : RegLoc := ⟨0xA0000, 0, .eth, ⟨0x54, 1, fun _ => 0, [⟨0, 32, .ro, [], false⟩]⟩, 0, 0⟩
def mbTxDataLoc : RegLoc := ⟨0xA0000, 0, .eth, ⟨0x58, 1, fun _ => 0, [⟨0, 32, .wo, [], false⟩]⟩, 0, 0⟩
def mbTxCtrlLoc : RegLoc :=
  ⟨0xA0000, 0, .eth, ⟨0x5C, 1, fun _ => 0, [⟨31, 1, .w1s, [], false⟩, ⟨30, 1, .w1s, [], false⟩, ⟨0, 12, .ro, [], false⟩]⟩, 0, 0⟩

theorem bodyReg_mbRxData : BodyReg A.ETH_MB_RX_DATA 0xA0000 mbRxDataLoc :=
  ⟨by decide, by decide, by decide, rfl, rfl, by decide, by decide, by decide⟩
theorem bodyReg_mbTxData : BodyReg A.ETH_MB_TX_DATA 0xA0000 mbTxDataLoc :=
  ⟨by decide, by decide, by decide, rfl, rfl, by decide, by decide, by decide⟩
theorem bodyReg_mbTxCtrl : BodyReg A.ETH_MB_TX_CTRL 0xA0000 mbTxCtrlLoc :=
  ⟨by decide, by decide, by decide, rfl, rfl, by decide, by decide, by decide⟩

theorem readReg_mbRxData (l : RegLoc) (r : Requester) (s : State) : readReg l r A.ETH_MB_RX_DATA s = mbRead s := rfl

/-- A read of the mailbox takes the words of its records, which LOCK does not touch. -/
theorem mbRead_congr {s u : State} (h : u.eth = s.eth) : (mbRead u).1 = (mbRead s).1 ∧ (mbRead u).2.eth.mbRx = (mbRead s).2.eth.mbRx := by
  unfold mbRead
  rw [h]
  split
  case h_1 hmb => exact ⟨rfl, by rw [h]⟩
  case h_2 => exact ⟨rfl, rfl⟩

theorem mbSend_empties (s : State) : (mbSend s).eth.mbTx = [] := by
  unfold mbSend
  dsimp only
  split
  · exact ((BridgeKept.refl (mbTxClear s)).hostFrame _ _ _).mbTx
  · rfl

/-- Settles O38: the host's frames on the bundle and in the mailbox. -/
theorem hostFramesAndMailbox : Obligations.HostFramesAndMailbox := by
  refine ⟨fun t b n l s hpath hbundle hawake hdom hbad => ⟨_, rfl, ?_⟩,
    fun t b n l s hpath hbundle hawake hdom hmin hmax hgood hfirst hmore => ⟨_, rfl, ?_⟩,
    fun t b n l s hpath hbundle hbridging hmax hgood hfirst hlast hlen hwords hup hroom => ⟨_, rfl, ?_⟩,
    fun t r s hread => ⟨_, rfl, ?_⟩, fun t r d s hacc => ⟨_, rfl, ?_⟩, fun t r s hacc => ⟨_, rfl, ?_⟩, fun t r s hacc => ⟨_, rfl, ?_⟩⟩
  · rw [ethFromHost_bad (s := at' t s) ⟨hpath, hbundle, hawake, hdom⟩ hbad]
    refine ⟨reg_bump_toNat _ _, ?_⟩
    rw [(tunBad_same _).1]
    exact pget_pset_same _ _ _ _
  · rw [ethFromHost_first (s := at' t s) ⟨hpath, hbundle, hawake, hdom⟩ hmin hmax hgood hfirst]
    unfold fragAdd
    dsimp only
    rw [if_neg (by simp only [hmore]; decide), if_pos (by decide)]
    exact pget_pset_same _ _ _ _
  · obtain ⟨⟨hawake, hdom⟩, -⟩ : (awake s = true ∧ domRunning s .eth 0 = true) ∧ _ := by
      simpa only [bridging, Bool.and_eq_true] using hbridging
    exact ethFromHost_whole (s := at' t s) ⟨hpath, hbundle, hawake, hdom⟩ hbridging hmax hgood hfirst hlast hlen hwords hup hroom
  · have heth : (lockCount 0xA0000 (at' t s)).eth = s.eth := by rw [(lockCount_written 0xA0000 (at' t s)).rest]; rfl
    rw [bodyReg_mbRxData.read hread, readReg_mbRxData]
    exact mbRead_congr heth
  · have hwritten := bodyReg_mbTxData.written_narrow rfl hacc
    rw [hwritten.rest]
    rfl
  · have hwritten := bodyReg_mbTxCtrl.written_narrow rfl hacc
    rw [hwritten.rest]
    exact mbSend_empties _
  · have hwritten := bodyReg_mbTxCtrl.written_narrow rfl hacc
    rw [hwritten.rest]
    rfl

end Sys2Proof.Machine
end

section
/-!
THEOREM. O41: the preview counts its frames and lines, its clock locks, and its tables take and give their entries (15 R384, R397 to
R399, R404, R405).
-/

namespace Sys2Proof.Machine

/-! ## What a latch point leaves -/

/-- The page of the preview but for STATUS, EVT_RAW and C_FRAMES. -/
abbrev VidWord (b : Nat) : Prop := 0xB0000 ≤ b ∧ b ≠ F.VID_STATUS_LINE.addr ∧ b ≠ F.VID_EVT_RAW_FRAME_START.addr ∧ b ≠ A.VID_C_FRAMES

/-- From `s` to `u` C_FRAMES and the state of the video PLL and its gap stay, and no event of the preview is cleared. -/
structure VidKept (s u : State) : Prop where
  frames : reg u A.VID_C_FRAMES = reg s A.VID_C_FRAMES
  pll : reg u F.CLK_STATUS_VID_LOCK.addr = reg s F.CLK_STATUS_VID_LOCK.addr
  gap : flag u F.VID_STATUS_TIMING_GAP = flag s F.VID_STATUS_TIMING_GAP
  lock : flag u F.VID_STATUS_CLK_LOCK = flag s F.VID_STATUS_CLK_LOCK
  raised : ∀ i, rdBit s F.VID_EVT_RAW_FRAME_START.addr i = true → rdBit u F.VID_EVT_RAW_FRAME_START.addr i = true

namespace VidKept
variable {s u v : State}

theorem refl (s : State) : VidKept s s := ⟨rfl, rfl, rfl, rfl, fun _ => id⟩

theorem trans (h : VidKept s u) (h' : VidKept u v) : VidKept s v :=
  ⟨h'.frames.trans h.frames, h'.pll.trans h.pll, h'.gap.trans h.gap, h'.lock.trans h.lock, fun i hi => h'.raised i (h.raised i hi)⟩

theorem ite {c : Prop} [Decidable c] (hu : VidKept s u) (hv : VidKept s v) : VidKept s (if c then u else v) := by
  split
  · exact hu
  · exact hv

/-- What changes of the preview's page only words not spoken of. -/
theorem of_regs (hregs : ∀ a, ¬ VidWord a → reg v a = reg u a) : VidKept u v :=
  ⟨hregs _ (by decide), hregs _ (by decide), flag_congr (hregs _ (by decide)), flag_congr (hregs _ (by decide)),
    fun _ hi => (rdBit_congr (hregs _ (by decide))).trans hi⟩

theorem setReg (h : VidKept s u) (b : Nat) (w : Word) (hb : VidWord b := by decide) : VidKept s (setReg u b w) :=
  h.trans (of_regs fun a ha => reg_setReg_other u b a w fun heq => ha (heq ▸ hb))

theorem bump (h : VidKept s u) (b : Nat) (hb : VidWord b ∧ VidWord (b + 4) := by decide) : VidKept s (bump u b) :=
  h.trans (of_regs fun a ha => reg_bump_other u b a (fun heq => ha (heq ▸ hb.1)) fun heq => ha (heq ▸ hb.2))

theorem onVid (h : VidKept s u) (f : Vid → Vid) : VidKept s (onVid u f) := h.trans (of_regs fun _ _ => rfl)

theorem raise (h : VidKept s u) (f : Fld) (hf : f.addr = F.VID_EVT_RAW_FRAME_START.addr := by decide) : VidKept s (raise u f) := by
  have hother (a : Nat) (ha : a ≠ F.VID_EVT_RAW_FRAME_START.addr) (hev : ¬ evfReg a) : reg (Machine.raise u f) a = reg u a :=
    reg_raise_other u f a hev (by rw [hf]; exact ha)
  exact h.trans ⟨hother _ (by decide) (not_evfReg_of_ge (by decide)), hother _ (by decide) (not_or.2 ⟨by decide, by decide⟩),
    flag_congr (hother _ (by decide) (not_evfReg_of_ge (by decide))), flag_congr (hother _ (by decide) (not_evfReg_of_ge (by decide))),
    fun i hi => rdBit_raise_of_set f (not_evfReg_of_ge (by decide)) hi⟩

/-- A field of STATUS other than TIMING_GAP and CLK_LOCK is written. -/
theorem status (h : VidKept s u) (f : Fld) (n : Nat)
    (hf : f.addr = F.VID_STATUS_LINE.addr ∧ (f.lo + f.len ≤ 2 ∨ 4 ≤ f.lo) := by decide) : VidKept s (wr u f n) :=
  have hother (a : Nat) (ha : a ≠ F.VID_STATUS_LINE.addr) : reg (wr u f n) a = reg u a := reg_wr_other u f n a (by rw [hf.1]; exact ha)
  h.trans ⟨hother _ (by decide), hother _ (by decide), flag_wr_field _ _ _ _ (by decide) (by simp only; omega),
    flag_wr_field _ _ _ _ (by decide) (by simp only; omega), fun _ hi => (rdBit_congr (hother _ (by decide))).trans hi⟩

theorem takeShown (h : VidKept s u) : VidKept s (takeShown u) := by
  unfold Machine.takeShown
  split
  · exact h.onVid _
  · exact ite (h.onVid _) (((((((h.bump _).raise _).status _ _).status _ _).onVid _).setReg A.VID_SHOWN_FRAME_LO _).setReg (A.VID_SHOWN_FRAME_LO + 4) _)

theorem sendLine (h : VidKept s u) (n : Nat) (pix : List (List Nat)) : VidKept s (sendLine u n pix) :=
  have hpins : VidKept s (linePins u n) := h.trans (of_regs fun _ _ => rfl)
  ite (hpins.onVid _) (hpins.onVid _)

theorem flag (h : VidKept s u) {i : Nat} (hi : Machine.flag s ⟨F.VID_EVT_RAW_FRAME_START.addr, i, 1⟩ = true) :
    Machine.flag u ⟨F.VID_EVT_RAW_FRAME_START.addr, i, 1⟩ = true := by
  rw [← rdBit_eq_flag] at hi ⊢
  exact h.raised i hi

end VidKept

theorem flag_raise_vid (s : State) {i : Nat} (hi : i < 32) :
    flag (raise s ⟨F.VID_EVT_RAW_FRAME_START.addr, i, 1⟩) ⟨F.VID_EVT_RAW_FRAME_START.addr, i, 1⟩ = true :=
  flag_raise _ _ (not_evfReg_of_ge (show 0x20000 ≤ F.VID_EVT_RAW_FRAME_START.addr by decide))
    (show 0x10 ≤ F.VID_EVT_RAW_FRAME_START.addr by decide) rfl hi

/-! ## Latch points -/

/-- The words of a line leave the registers and what a frame has checked. -/
theorem sendLine_leaves (s : State) (n : Nat) (pix : List (List Nat)) :
    (sendLine s n pix).regs = s.regs ∧ (sendLine s n pix).vid.done = s.vid.done := by
  unfold sendLine
  dsimp only
  split
  · exact ⟨rfl, rfl⟩
  · exact ⟨rfl, rfl⟩

/-- A latch point counts a frame with its event and begins line 0. -/
theorem vidLatch_begins (s : State) :
    (reg (vidLatch s) A.VID_C_FRAMES).toNat = min ((reg s A.VID_C_FRAMES).toNat + 1) 0xFFFFFFFF ∧ rd (vidLatch s) F.VID_STATUS_LINE = 0 ∧
      flag (vidLatch s) F.VID_STATUS_BLANK = true ∧ flag (vidLatch s) F.VID_EVT_RAW_FRAME_START = true ∧ (vidLatch s).vid.done = false := by
  unfold vidLatch
  extract_lets counted shown lined cleared
  have hshown : VidKept counted shown := (VidKept.refl counted).takeShown
  have hkept : VidKept counted (sendLine cleared 0 []) := ((((hshown.status _ _).status _ _).status _ _).onVid _).sendLine 0 []
  obtain ⟨hregs, hdone⟩ := sendLine_leaves cleared 0 []
  refine ⟨?_, ?_, ?_, hkept.flag (flag_raise_vid _ (by decide)), hdone⟩
  · rw [hkept.frames, reg_raise_other _ _ _ (not_evfReg_of_ge (by decide)) (by decide), reg_bump_toNat]
  · rw [rd_congr (reg_congr hregs _), show rd cleared F.VID_STATUS_LINE = rd lined F.VID_STATUS_LINE from rfl,
      rd_wr_field _ _ _ _ (by decide) (by decide), rd_wr_field _ _ _ _ (by decide) (by decide)]
    exact rd_wr_same _ _ _ (by decide)
  · rw [flag_congr (reg_congr hregs _), show flag cleared F.VID_STATUS_BLANK = flag lined F.VID_STATUS_BLANK from rfl,
      flag_wr_field _ _ _ _ (by decide) (by decide)]
    exact flag_wr_one _ _ (by decide) rfl

theorem vidLatch_kept (s : State) : flag (vidLatch s) F.VID_STATUS_TIMING_GAP = flag s F.VID_STATUS_TIMING_GAP ∧
    flag (vidLatch s) F.VID_STATUS_CLK_LOCK = flag s F.VID_STATUS_CLK_LOCK ∧
      flag (vidLatch s) F.CLK_STATUS_VID_LOCK = flag s F.CLK_STATUS_VID_LOCK ∧
        (flag s F.VID_EVT_RAW_TIMING_RESUMED = true → flag (vidLatch s) F.VID_EVT_RAW_TIMING_RESUMED = true) := by
  unfold vidLatch
  extract_lets counted shown lined cleared
  have hcounted : reg counted F.VID_STATUS_LINE.addr = reg s F.VID_STATUS_LINE.addr ∧
      reg counted F.CLK_STATUS_VID_LOCK.addr = reg s F.CLK_STATUS_VID_LOCK.addr :=
    ⟨(reg_raise_other _ _ _ (not_evfReg_of_ge (by decide)) (by decide)).trans (reg_bump_other _ _ _ (by decide) (by decide)),
      (reg_raise_other _ _ _ (not_or.2 ⟨by decide, by decide⟩) (by decide)).trans (reg_bump_other _ _ _ (by decide) (by decide))⟩
  have hevents : ∀ i, rdBit s F.VID_EVT_RAW_FRAME_START.addr i = true → rdBit counted F.VID_EVT_RAW_FRAME_START.addr i = true :=
    fun i hi => rdBit_raise_of_set _ (not_evfReg_of_ge (by decide)) ((rdBit_congr (reg_bump_other _ _ _ (by decide) (by decide))).trans hi)
  have hshown : VidKept counted shown := (VidKept.refl counted).takeShown
  have hkept : VidKept counted (sendLine cleared 0 []) := ((((hshown.status _ _).status _ _).status _ _).onVid _).sendLine 0 []
  refine ⟨hkept.gap.trans (flag_congr hcounted.1), hkept.lock.trans (flag_congr hcounted.1),
    flag_congr (hkept.pll.trans hcounted.2), fun hi => hkept.flag ?_⟩
  rw [← rdBit_eq_flag] at hi ⊢
  exact hevents _ hi

/-! ## The clock -/

/-- The generator starts, or does not: the PLL, its gap and the events of the preview stay. -/
theorem vidStart_kept (s : State) : flag (vidStart s) F.VID_STATUS_TIMING_GAP = flag s F.VID_STATUS_TIMING_GAP ∧
    flag (vidStart s) F.VID_STATUS_CLK_LOCK = flag s F.VID_STATUS_CLK_LOCK ∧
      flag (vidStart s) F.CLK_STATUS_VID_LOCK = flag s F.CLK_STATUS_VID_LOCK ∧
        (flag s F.VID_EVT_RAW_TIMING_RESUMED = true → flag (vidStart s) F.VID_EVT_RAW_TIMING_RESUMED = true) := by
  unfold vidStart
  split
  · have hactive : VidKept s (wr (onVid s fun v => { v with gap := none }) F.VID_STATUS_ACTIVE 1) := ((VidKept.refl s).onVid _).status _ _
    obtain ⟨hgap, hlock, hpll, hevents⟩ := vidLatch_kept (wr (onVid s fun v => { v with gap := none }) F.VID_STATUS_ACTIVE 1)
    exact ⟨hgap.trans hactive.gap, hlock.trans hactive.lock, hpll.trans (flag_congr hactive.pll),
      fun hi => hevents (hactive.flag hi)⟩
  · exact ⟨rfl, rfl, rfl, id⟩

theorem vidLockTo_shows (s : State) : flag (vidLockTo s true) F.VID_STATUS_CLK_LOCK = true ∧
    flag (vidLockTo s true) F.CLK_STATUS_VID_LOCK = true :=
  ⟨(flag_congr (reg_wr_other _ _ _ _ (by decide))).trans (flag_wrB_same _ _ _ (by decide) rfl), flag_wrB_same _ _ _ (by decide) rfl⟩

/-! ## Lines and the end of a frame -/

theorem line_underrunAt (y : Nat) (s : State) (u : Nat × Nat) : rd (underrunAt y s u) F.VID_STATUS_LINE = rd s F.VID_STATUS_LINE := by
  have hraise (v : State) (f : Fld) (hf : f.addr = F.VID_EVT_RAW_FRAME_START.addr) (b : Nat) (hb : 0xB0100 ≤ b) :
      reg (raise (bump v b) f) F.VID_STATUS_LINE.addr = reg v F.VID_STATUS_LINE.addr :=
    (reg_raise_other _ _ _ (not_evfReg_of_ge (by decide)) (by rw [hf]; decide)).trans
      (reg_bump_other _ _ _ (by simp only; omega) (by simp only; omega))
  unfold underrunAt
  extract_lets r stop n counted hit under off
  have hunder : rd under F.VID_STATUS_LINE = rd s F.VID_STATUS_LINE :=
    rd_congr (f := F.VID_STATUS_LINE) (u := under) (hraise s _ (by decide) _ (by simp only [A.VID_C_L0_UNDERRUN]; omega))
  split
  · rw [rd_congr (hraise _ _ (by decide) _ (by simp only [A.VID_C_L0_OFF]; omega)), rd_wr_field _ _ _ _ (by decide) (by decide), hunder]
  · exact hunder

theorem line_fetchLine (s : State) (y : Nat) : rd (fetchLine s y) F.VID_STATUS_LINE = rd s F.VID_STATUS_LINE := by
  unfold fetchLine
  extract_lets step
  exact rd_congr (reg_monSample (by decide) _ _ _ _)

/-- A line that starts shows its number. -/
theorem vidLine_shows {s : State} (under : List (Nat × Nat)) (hmore : rd s F.VID_STATUS_LINE + 1 < vLines s) :
    rd (vidLine s under) F.VID_STATUS_LINE = (rd s F.VID_STATUS_LINE + 1) % 4096 := by
  unfold vidLine
  rw [if_pos hmore]
  extract_lets shown y missed pix sent
  have hshown : rd shown F.VID_STATUS_LINE = (rd s F.VID_STATUS_LINE + 1) % 4096 :=
    (rd_wr_field _ _ _ _ (by decide) (by decide)).trans (rd_wr_same _ _ _ (by decide))
  have hline (m : Nat) (pix : List (List Nat)) : rd (sendLine shown m pix) F.VID_STATUS_LINE = (rd s F.VID_STATUS_LINE + 1) % 4096 :=
    (rd_congr (reg_congr (sendLine_leaves shown m pix).1 _)).trans hshown
  have hsent : rd sent F.VID_STATUS_LINE = (rd s F.VID_STATUS_LINE + 1) % 4096 := by
    dsimp only [sent]
    split
    · exact hline _ _
    · rw [foldl_keeps (fun u => rd u F.VID_STATUS_LINE) (fun u x => line_underrunAt _ u x)]
      exact hline _ _
  split
  · exact (line_fetchLine _ _).trans hsent
  · exact hsent

theorem peak_ite {c : Prop} [Decidable c] {u v : State} {n : Nat} (hu : u.vid.peak = n) (hv : v.vid.peak = n) :
    (if c then u else v).vid.peak = n := by
  split
  · exact hu
  · exact hv

theorem peak_freezeEnd (s : State) (l : Nat) : (freezeEnd s l).vid.peak = s.vid.peak :=
  peak_ite rfl (peak_ite rfl (peak_ite rfl (peak_ite rfl (peak_ite (peak_ite (congrArg (·.peak) (raise_vid _ _)) rfl) rfl))))

/-- The last active line closes the checks of its frame. -/
theorem vidEnd_shows (s : State) : (vidEnd s).vid.done = true ∧ reg (vidEnd s) A.VID_FETCH_PEAK = word s.vid.peak := by
  unfold vidEnd
  extract_lets frozen live res wrong shown marked counted
  have hfrozen : frozen.vid.peak = s.vid.peak := foldl_keeps (·.vid.peak) peak_freezeEnd [0, 1] s
  have hmarked : marked.vid.peak = s.vid.peak :=
    (foldl_keeps (·.vid.peak) (fun v i => congrArg (·.peak) (wrBit_vid v A.VID_RECT_MISMATCH i true)) wrong shown).trans
      ((foldl_keeps (·.vid.peak) (fun v i => congrArg (·.peak) (setReg_vid v (A.RECT_RESULT i) (res i))) live frozen).trans hfrozen)
  have hcounted : counted.vid.peak = s.vid.peak := by
    dsimp only [counted]
    split
    · exact hmarked
    · rw [raise_vid, bump_vid, hmarked]
  refine ⟨rfl, ?_⟩
  rw [show reg (onVid (setReg counted A.VID_FETCH_PEAK (word counted.vid.peak)) _) A.VID_FETCH_PEAK =
    reg (setReg counted A.VID_FETCH_PEAK (word counted.vid.peak)) A.VID_FETCH_PEAK from rfl, reg_setReg_same, hcounted]

/-! ## The table port -/

def vtblLoc : RegLoc := ⟨0xB0000, 0, .vid, ⟨200, 1, fun _ => 0, [⟨0, 32, .rw, [], false⟩]⟩, 0, 0⟩

theorem bodyReg_vtbl : BodyReg A.VID_TBL_DATA 0xB0000 vtblLoc :=
  ⟨by decide, by decide, by decide, rfl, rfl, by decide, by decide, by decide⟩

/-- The port holds no value itself. -/
theorem storeReg_vtbl (d : Word) (s : State) : storeReg vtblLoc A.VID_TBL_DATA d s = s := rfl

theorem readReg_vtbl (l : RegLoc) (r : Requester) (s : State) : readReg l r A.VID_TBL_DATA s = (vtblRead s, vtblNext s) := rfl

theorem vtblHere_congr {s u : State} (h : reg u F.VID_TBL_ADDR_INDEX.addr = reg s F.VID_TBL_ADDR_INDEX.addr) : vtblHere u = vtblHere s := by
  rw [vtblHere, vtblHere, rd_congr (f := F.VID_TBL_ADDR_TABLE) h, rd_congr (f := F.VID_TBL_ADDR_BANK) h,
    rd_congr (f := F.VID_TBL_ADDR_INDEX) h]

theorem vtblNext_index (s : State) :
    rd (vtblNext s) F.VID_TBL_ADDR_INDEX = ((vtblHere s).2.2 + 1) % vtblLength (vtblHere s).1 := by
  have hlength : ∀ n, vtblLength n ≤ 4096 ∧ 0 < vtblLength n := fun n => by
    obtain h | h : n < 4 ∨ 4 ≤ n := by omega
    · have : ∀ k < 4, vtblLength k ≤ 4096 ∧ 0 < vtblLength k := by decide
      exact this n h
    · rw [vtblLength, List.getD_eq_default _ _ h]
      decide
  obtain ⟨hle, hpos⟩ := hlength (vtblHere s).1
  rw [vtblNext]
  refine (rd_wr_same _ _ _ (by decide)).trans (Nat.mod_eq_of_lt ?_)
  exact (Nat.mod_lt _ hpos).trans_le hle

/-- What a write of TBL_DATA does: the entry of TBL_ADDR takes the bits of its table, and INDEX advances. -/
theorem pageAct_vtbl (d : Word) (o s : State) :
    pget 0#32 (pageAct 0xB0000 A.VID_TBL_DATA d o s).vid.tables (vtblKey (vtblHere s).1 (vtblHere s).2.1 (vtblHere s).2.2) =
        word (d.toNat % 2 ^ vtblBits (vtblHere s).1) ∧
      rd (pageAct 0xB0000 A.VID_TBL_DATA d o s) F.VID_TBL_ADDR_INDEX = ((vtblHere s).2.2 + 1) % vtblLength (vtblHere s).1 := by
  have hact : pageAct 0xB0000 A.VID_TBL_DATA d o s = vidAct A.VID_TBL_DATA d o s := rfl
  rw [hact, vidAct, if_pos rfl]
  exact ⟨pget_pset_same _ _ _ _, vtblNext_index _⟩

/-- Settles O41: latch points, lines, the end of a frame, the clock and the tables. -/
theorem previewTiming : Obligations.PreviewTiming := by
  refine ⟨fun t s hactive => ⟨_, rfl, ?_⟩, fun t l s hactive hmore => ⟨_, rfl, ?_⟩, fun t s hactive hlast hopen => ⟨_, rfl, ?_⟩,
    fun t s hon hgap => ⟨_, rfl, ?_⟩, fun t s hon hvid hgap hlock => ⟨_, rfl, ?_⟩, fun t r d s hacc => ⟨accessW t r A.VID_TBL_DATA d s, rfl, rfl, ?_⟩,
    fun t r s hread => ⟨access t r A.VID_TBL_DATA s, rfl, ?_⟩⟩
  · rw [if_pos (show vidActive (at' t s) = true from hactive)]
    exact vidLatch_begins (at' t s)
  · rw [if_pos (show vidActive (at' t s) = true from hactive)]
    exact vidLine_shows (s := at' t s) l hmore
  · rw [if_pos ⟨hactive, hlast, by simpa using hopen⟩]
    exact vidEnd_shows (at' t s)
  · rw [if_pos ⟨hon, hgap⟩]
    generalize hraised : raise (wr (vidLockTo (at' t s) true) F.VID_STATUS_TIMING_GAP 0) F.VID_EVT_RAW_TIMING_RESUMED = u
    have hstatus : reg u F.VID_STATUS_LINE.addr = reg (wr (vidLockTo (at' t s) true) F.VID_STATUS_TIMING_GAP 0) F.VID_STATUS_LINE.addr := by
      rw [← hraised]
      exact reg_raise_other _ _ _ (not_evfReg_of_ge (by decide)) (by decide)
    obtain ⟨hgap', hlock', -, hevent⟩ := vidStart_kept u
    refine ⟨hgap'.trans ((flag_congr (f := F.VID_STATUS_TIMING_GAP) hstatus).trans (flag_wr_zero _ _ (by decide) rfl)), ?_, hevent ?_⟩
    · rw [hlock', flag_congr (f := F.VID_STATUS_CLK_LOCK) hstatus, flag_wr_field _ _ _ _ (by decide) (by decide)]
      exact (vidLockTo_shows _).1
    · rw [← hraised]
      exact flag_raise_vid _ (by decide)
  · rw [if_pos ⟨hon, hvid, by simpa using hgap, by simpa using hlock⟩]
    obtain ⟨-, hlock', hpll, -⟩ := vidStart_kept (vidLockTo (at' t s) true)
    exact ⟨hlock'.trans (vidLockTo_shows _).1, hpll.trans (vidLockTo_shows _).2⟩
  · have hwritten := bodyReg_vtbl.written_narrow rfl hacc
    rw [storeReg_vtbl] at hwritten
    obtain ⟨hentry, hindex⟩ := pageAct_vtbl (word d) (at' t s) (at' t s)
    refine ⟨?_, (hwritten.rd _ (by decide)).trans hindex⟩
    rw [hwritten.rest]
    exact hentry
  · have hlock := lockCount_written 0xB0000 (at' t s)
    have hhere : vtblHere (lockCount 0xB0000 (at' t s)) = vtblHere s := vtblHere_congr (hlock.regs _ (by decide))
    have htables : (lockCount 0xB0000 (at' t s)).vid = s.vid := by rw [hlock.rest]; rfl
    rw [bodyReg_vtbl.read hread, readReg_vtbl]
    refine ⟨?_, (rd_congr (reg_busShow _ _ _ _)).trans ((vtblNext_index _).trans (by rw [hhere]))⟩
    rw [busShow_lastRead, vtblRead, vtblRead, hhere, htables]

end Sys2Proof.Machine
end

section
/-!
SUPPORT. A cause that is latched shows in the paths named, a refresh leaves what it leaves, and what the conditions of a reset read
(12 R321, R322, R332, R334).
-/

namespace Sys2Proof.Machine

/-! ## Latches and events -/

theorem latchSet_latches (s : State) (a b : Bool) {c : Nat} (hc : c < 32) :
    (a = true → bit (latched (latchSet s a b c) false) c = true) ∧ (b = true → bit (latched (latchSet s a b c) true) c = true) := by
  unfold latchSet
  extract_lets u
  have hb : reg u A.SAF_LATCH_B = reg s A.SAF_LATCH_B := by
    dsimp only [u]
    split
    · exact reg_setReg_other _ _ _ _ (by decide)
    · rfl
  constructor
  · rintro rfl
    have hu : bit (reg u A.SAF_LATCH_A) c = true := by
      dsimp only [u]
      split
      case isTrue => exact rdBit_wrBit_same s A.SAF_LATCH_A c true hc
      case isFalse h =>
        have hset : bit (latched s false) c = true := by simpa using h
        exact hset
    split
    · exact (rdBit_congr (reg_setReg_other u _ _ _ (by decide))).trans hu
    · exact hu
  · rintro rfl
    split
    case isTrue => exact rdBit_wrBit_same u A.SAF_LATCH_B c true hc
    case isFalse h =>
      have hset : bit (latched s true) c = true := by simpa using h
      exact (congrArg (bit · c) hb).trans hset

/-- A cause shows in the paths that it is latched in. -/
theorem safLatch_latches (s : State) (a b : Bool) (c : Nat) (o : Torque) (hc : c < 32 := by decide) :
    (a = true → bit (latched (safLatch s a b c o) false) c = true) ∧ (b = true → bit (latched (safLatch s a b c o) true) c = true) :=
  have hafter : GuardKept false (latchSet s a b c) (safLatch s a b c o) := GuardKept.safLatch_after s a b c o fun h => by cases h
  ⟨fun ha => hafter.latched false c ((latchSet_latches s a b hc).1 ha), fun hb => hafter.latched true c ((latchSet_latches s a b hc).2 hb)⟩

theorem flag_raise_saf (s : State) {i : Nat} (hi : i < 32) :
    flag (raise s ⟨F.SAF_EVT_RAW_LATCH.addr, i, 1⟩) ⟨F.SAF_EVT_RAW_LATCH.addr, i, 1⟩ = true :=
  flag_raise _ _ (not_evfReg_of_ge (show 0x20000 ≤ F.SAF_EVT_RAW_LATCH.addr by decide)) (show 0x10 ≤ F.SAF_EVT_RAW_LATCH.addr by decide) rfl hi

namespace GuardKept
variable {q : Bool} {s u v : State}

/-- An event that stands stays. -/
theorem event (h : GuardKept q s u) {i : Nat} (hi : flag s ⟨F.SAF_EVT_RAW_LATCH.addr, i, 1⟩ = true) :
    flag u ⟨F.SAF_EVT_RAW_LATCH.addr, i, 1⟩ = true := by
  rw [← rdBit_eq_flag] at hi ⊢
  exact h.raised i hi

theorem speedJudge (h : GuardKept q s u) (index : Bool) : GuardKept q s (speedJudge u index) :=
  ite (h.withSaf _) (ite (h.withSaf _) (ite (ite (h.withSaf _) (h.withSaf _)) h))

theorem agreeJudge (h : GuardKept q s u) : GuardKept q s (agreeJudge u) := h.withSaf _

theorem safSpeedRefresh (h : GuardKept q s u) : GuardKept q s (safSpeedRefresh u) := (h.speedJudge false).agreeJudge.safRefresh

end GuardKept

/-! ## The proof cycle through a refresh -/

theorem fbJudge_proof (s : State) (laser motor : Bool) : (fbJudge s laser motor).saf.proof = s.saf.proof ∧
    (fbJudge s laser motor).saf.proofAt = s.saf.proofAt := ⟨rfl, rfl⟩

/-- The outputs follow the proof cycle and leave its step. -/
theorem safOutputs_proof (s : State) : (safOutputs s).saf.proof = s.saf.proof ∧ (safOutputs s).saf.proofAt = s.saf.proofAt := by
  unfold safOutputs
  extract_lets permit staA staB had fell laserWas torqueWas emit torque laser event saf inhibited lit off released
  have hinhibited : inhibited.saf.proof = s.saf.proof ∧ inhibited.saf.proofAt = s.saf.proofAt := by
    dsimp only [inhibited]
    split
    · exact ⟨rfl, rfl⟩
    · exact ⟨rfl, rfl⟩
  have hlit : MotionKept inhibited lit := .ite ((MotionKept.refl _).lmpEdge _ _) (.ite_of_imp (.refl _) fun h => h.lmpEdge _ _)
  have hoff : off.saf = lit.saf := by
    dsimp only [off]
    split
    · exact (MotionKept.refl _).torqueOff.saf.trans (raise_saf lit _)
    · rfl
  have hreleased : released.saf = off.saf := (MotionKept.ite_of_imp (.refl off) fun h => h.lampRelease).saf
  obtain ⟨hproof, hat⟩ := fbJudge_proof released (laserWas ≠ laserCmd released) (torqueWas ≠ torqueCmd released)
  have hsaf : released.saf = inhibited.saf := hreleased.trans (hoff.trans hlit.saf)
  exact ⟨hproof.trans ((congrArg Saf.proof hsaf).trans hinhibited.1), hat.trans ((congrArg Saf.proofAt hsaf).trans hinhibited.2)⟩

/-- A refresh leaves the step of the proof cycle where the indicator is not open. -/
theorem safRefresh_proof {s : State} (hclosed : indicatorOpen s = false) :
    (safRefresh s).saf.proof = s.saf.proof ∧ (safRefresh s).saf.proofAt = s.saf.proofAt := by
  unfold safRefresh
  split
  · rw [hclosed]
    exact safOutputs_proof s
  · exact ⟨rfl, rfl⟩

/-! ## What the conditions of a reset read -/

/-- The page of the safety block. -/
abbrev SafPage (a : Nat) : Prop := 0x90000 ≤ a ∧ a < 0x91000

/-- From `s` to `u` what the indicator's report is judged from stays: the registers that no refresh of the safety block writes and
that lie off its page, the partner, and whether the device runs. -/
structure ReportKept (s u : State) : Prop where
  regs : ∀ a, guardWord a = false → ¬ SafPage a → reg u a = reg s a
  held : u.held = s.held
  wiping : u.wiping = s.wiping
  pair : u.pair = s.pair

namespace ReportKept
variable {s u : State} (h : ReportKept s u)
include h

theorem rd (f : Fld) (hf : guardWord f.addr = false ∧ ¬ SafPage f.addr := by decide) : rd u f = rd s f := rd_congr (h.regs _ hf.1 hf.2)

theorem flag (f : Fld) (hf : guardWord f.addr = false ∧ ¬ SafPage f.addr := by decide) : flag u f = flag s f :=
  flag_congr (h.regs _ hf.1 hf.2)

theorem sysOn : sysOn u = sysOn s := sysOn_congr h.held h.wiping (h.regs _ (by decide) (by decide))

theorem indicatorOpen : indicatorOpen u = indicatorOpen s := by
  have hlamp : ∀ l, Machine.rd s F.LMP_EMIT_CFG_EMIT_LAMP = l → Machine.flag u (F.LAMP_CFG_ENABLE l) = Machine.flag s (F.LAMP_CFG_ENABLE l) := fun l hl => by
    have hlt : l < 16 := hl ▸ Nat.mod_lt _ (by decide)
    refine flag_congr (h.regs _ ?_ (by simp only [SafPage]; omega))
    simp only [guardWord, driveWord, Bool.or_eq_false_iff, Bool.and_eq_false_imp, decide_eq_false_iff_not, decide_eq_true_eq,
      A.IRQ_EVF_DROPPED, A.LMP_ENG_RESTARTS, A.SAF_STATUS, A.SAF_LATCH_A, A.SAF_LATCH_B, A.SAF_STOP_MS, A.SAF_STOPS]
    omega
  have hchip : chip1 u = chip1 s := by rw [chip1, chip1, h.flag F.PAIR_CTRL_ENABLE, h.flag F.PAIR_ROLE_PAIR_ID]
  simp only [Machine.indicatorOpen, hchip, h.pair, h.sysOn, h.rd F.LMP_EMIT_CFG_EMIT_LAMP, h.flag F.LMP_CTRL_ENABLE, hlamp _ rfl,
    rdBit_congr (h.regs A.LMP_OPEN_NOW (by decide) (by decide))]

end ReportKept

end Sys2Proof.Machine
end

section
/-!
THEOREM. O36: comparisons, SS1, discrepancies, the budget's windows and the safety configuration (12 R320, R321, R324, R327, R331,
R339, R340).
-/

namespace Sys2Proof.Machine

/-! ## Causes that a comparison or a timer latches -/

/-- A cause latched in both paths shows in both after the refresh. -/
theorem latchBoth_shows (s : State) (c : Nat) (o : Torque) (hc : c < 32 := by decide) :
    bit (latched (safRefresh (safLatch s true true c o)) false) c = true ∧
      bit (latched (safRefresh (safLatch s true true c o)) true) c = true := by
  have hkept := (GuardKept.refl (q := false) (safLatch s true true c o)).safRefresh
  obtain ⟨hA, hB⟩ := safLatch_latches s true true c o hc
  exact ⟨hkept.latched false c (hA rfl), hkept.latched true c (hB rfl)⟩

/-- A cause latched in path A shows there after the refresh. -/
theorem latchA_shows (s : State) (b : Bool) (c : Nat) (o : Torque) (hc : c < 32 := by decide) :
    bit (latched (safRefresh (safLatch s true b c o)) false) c = true :=
  (GuardKept.refl (q := false) (safLatch s true b c o)).safRefresh.latched false c ((safLatch_latches s true b c o hc).1 rfl)

/-- The latches or the inputs of the two paths differ. -/
abbrev PathsDiffer (s : State) : Prop := latched s false ≠ latched s true ∨ s.saf.a.ins ≠ s.saf.b.ins

theorem differs_of {s : State} (h : PathsDiffer s) :
    (decide (latched s false ≠ latched s true) || decide (s.saf.a.ins ≠ s.saf.b.ins) || decide (torqueNow s false ≠ torqueNow s true)
      || decide (laserNow s false ≠ laserNow s true)) = true := by
  obtain h | h := h <;> simp [h]

/-- The state that a comparison of differing paths is noted in. -/
def differNoted (s : State) : State := { s with saf := { s.saf with differ := true } }

theorem pathCompare_again {t : Nat} {s : State} (hon : sysOn s = true) (hwas : s.saf.differ = true) (hdiffer : PathsDiffer s) :
    pathCompare t s = safRefresh (safLatch (differNoted (at' t s)) true true 12 .goes) := by
  unfold pathCompare
  dsimp only
  rw [if_neg (by rw [show sysOn (at' t s) = true from hon]; decide), differs_of (s := at' t s) hdiffer, if_pos]
  · rfl
  · rw [show (at' t s).saf.differ = true from hwas]
    rfl

theorem pathCompare_first {t : Nat} {s : State} (hon : sysOn s = true) (hwas : s.saf.differ = false) (hdiffer : PathsDiffer s) :
    pathCompare t s = safSpeedRefresh (bump (differNoted (at' t s)) A.SAF_MISMATCHES) := by
  unfold pathCompare
  dsimp only
  rw [if_neg (by rw [show sysOn (at' t s) = true from hon]; decide), differs_of (s := at' t s) hdiffer, if_neg, if_pos rfl]
  · rfl
  · rw [show (at' t s).saf.differ = false from hwas]
    decide

/-! ## SS1 -/

/-- SS1 that runs ends, and torque stays off. -/
theorem ss1End_shows {s : State} {t0 : Nat} (h : s.saf.ss1 = some t0) :
    (ss1End s).saf.ss1 = none ∧ (ss1End s).saf.ended = true ∧ flag (ss1End s) F.SAF_STATUS_STOPPING = false := by
  unfold ss1End
  rw [h]
  refine ⟨rfl, rfl, ?_⟩
  exact (flag_congr (f := F.SAF_STATUS_STOPPING) (reg_setReg_other _ _ _ _ (by decide))).trans (flag_wr_zero _ _ (by decide) rfl)

/-- STANDSTILL shown, and a stop of the polygon that had reached set-point 0 declared. -/
def standShown (s : State) : State :=
  let s := wr s F.SAF_STATUS_STANDSTILL 1
  if flag s F.MOT_STATUS_STOPPING ∧ s.ctl.mot.sp = 0 then motStandstill s else s

theorem standShown_kept (s : State) : GuardKept true (wr s F.SAF_STATUS_STANDSTILL 1) (standShown s) :=
  .ite_of_imp (.refl _) fun h => h.motion (MotionKept.refl _).motStandstill

theorem ss1Standstill_eq {t t0 : Nat} {s : State} (h : s.saf.ss1 = some t0) (hquiet : hallQuiet (at' t s) t0 = true) :
    ss1Standstill t s = safRefresh (standShown (ss1End (at' t s))) := by
  have hrun : (at' t s).saf.ss1 = some t0 := h
  unfold ss1Standstill
  dsimp only
  rw [hrun]
  dsimp only
  rw [if_pos hquiet]
  rfl

theorem ss1Standstill_shows {t t0 : Nat} {s : State} (h : s.saf.ss1 = some t0) (hquiet : hallQuiet (at' t s) t0 = true) :
    (ss1Standstill t s).saf.ss1 = none ∧ (ss1Standstill t s).saf.ended = true ∧ flag (ss1Standstill t s) F.SAF_STATUS_STANDSTILL = true := by
  obtain ⟨hnone, hended, -⟩ := ss1End_shows (s := at' t s) h
  rw [ss1Standstill_eq h hquiet]
  have hstill := (standShown_kept (ss1End (at' t s))).safRefresh
  obtain ⟨hss1, hend⟩ := hstill.ss1 rfl
  exact ⟨hss1.trans hnone, hend.trans hended,
    (hstill.stopping rfl F.SAF_STATUS_STANDSTILL (by simp)).trans (flag_wr_one _ _ (by decide) rfl)⟩

theorem ss1MaxExpire_shows {t t0 : Nat} {s : State} (h : s.saf.ss1 = some t0) (hlong : t0 + msec (cfgOf s.saf.a F.SAF_SS1_MAX) ≤ t) :
    (ss1MaxExpire t s).saf.ss1 = none ∧ (ss1MaxExpire t s).saf.ended = true ∧ flag (ss1MaxExpire t s) F.SAF_STATUS_STOPPING = false := by
  have hrun : (at' t s).saf.ss1 = some t0 := h
  obtain ⟨hnone, hended, hstop⟩ := ss1End_shows hrun
  have hkept := (GuardKept.refl (q := true) (ss1End (at' t s))).safRefresh
  unfold ss1MaxExpire
  dsimp only
  rw [hrun]
  dsimp only
  rw [if_pos (show t0 + msec (cfgOf (at' t s).saf.a F.SAF_SS1_MAX) ≤ t from hlong)]
  obtain ⟨hss1, hend⟩ := hkept.ss1 rfl
  exact ⟨hss1.trans hnone, hend.trans hended, (hkept.stopping rfl F.SAF_STATUS_STOPPING (by simp)).trans hstop⟩

/-! ## Timers -/

theorem ssDiscrepancy_shows {t t0 : Nat} {s : State} (h : s.saf.a.disc = some t0)
    (hlong : t0 + msec (cfgOf s.saf.a F.SAF_DISC_TIME) < t) : bit (latched (ssDiscrepancy t s) false) 3 = true := by
  unfold ssDiscrepancy
  extract_lets u due
  have hdue : due false = true := by
    dsimp only [due]
    rw [show (pathOf u false).disc = some t0 from h]
    exact decide_eq_true hlong
  rw [hdue, Bool.true_or, if_pos rfl]
  exact latchA_shows u (due true) 3 .stops

theorem speedAgree_shows {t t0 : Nat} {s : State} (h : (agreeJudge (at' t s)).saf.agree = some t0) (hon : sysOn s = true)
    (hlong : t0 + msec (cfgOf s.saf.a F.SAF_SPEED_AGREE_AGREE_MS) < t) :
    bit (latched (speedAgree t s) false) 13 = true ∧ bit (latched (speedAgree t s) true) 13 = true := by
  have hon' : sysOn (agreeJudge (at' t s)) = true := hon
  have hlong' : t0 + msec (cfgOf (agreeJudge (at' t s)).saf.a F.SAF_SPEED_AGREE_AGREE_MS) < t := hlong
  unfold speedAgree
  generalize agreeJudge (at' t s) = u at h hon' hlong' ⊢
  dsimp only
  rw [h]
  dsimp only
  rw [if_pos ⟨hon', hlong'⟩]
  exact latchBoth_shows u 13 .stops

theorem contactorMismatch_shows {t : Nat} {motor : Bool} {s : State} (h : mismatched (at' t s) false motor = true) :
    bit (latched (contactorMismatch t motor s) false) 7 = true := by
  unfold contactorMismatch
  dsimp only
  rw [h, Bool.true_or, if_pos rfl]
  exact latchA_shows _ _ 7 _

/-! ## The budget -/

/-- A path's budget without the sub-windows that have left the window at an instant. -/
def budgetTrim (t : Nat) (p : Path) : Path :=
  { p with budget := (p.budget.map fun e => (e.1, e.2.filter fun w => subWindow t ≤ w.1 + 8)).filter fun e => !e.2.isEmpty }

theorem budgetTrim_within (t : Nat) (p : Path) : ∀ e ∈ (budgetTrim t p).budget, ∀ w ∈ e.2, subWindow t ≤ w.1 + 8 := by
  intro e he w hw
  obtain ⟨e0, -, rfl⟩ := List.mem_map.1 (List.mem_filter.1 he).1
  simpa using (List.mem_filter.1 hw).2

theorem budgetSubwindow_paths (t : Nat) (s : State) : (budgetSubwindow t s).saf.a = budgetTrim t s.saf.a ∧
    (budgetSubwindow t s).saf.b = budgetTrim t s.saf.b := ⟨rfl, rfl⟩

/-! ## The safety configuration -/

/-- The window shown closed, LOCK shut, and the CRC that was computed. -/
def safShut (s : State) : State :=
  setReg (wr (setReg s 0x9002C 0#32) F.SAF_STATUS_WINDOW_OPEN 0) A.SAF_CFG_CRC_CALC (word (cfgCrc (cfgBlock s)))

theorem safShut_closed (s : State) : flag (safShut s) F.SAF_STATUS_WINDOW_OPEN = false :=
  (flag_congr (f := F.SAF_STATUS_WINDOW_OPEN) (reg_setReg_other _ _ _ _ (by decide))).trans (flag_wr_zero _ _ (by decide) rfl)

/-- A configuration that takes effect: valid, CONFIG cleared, and held by both paths. -/
def safTaken (s : State) : State :=
  let s := wrBit (wrBit (wr s F.SAF_STATUS_CFG_VALID 1) A.SAF_LATCH_A 0 false) A.SAF_LATCH_B 0 false
  let l := cfgBlock s
  onPath (onPath s false fun p => { p with cfg := l }) true fun p => { p with cfg := l }

theorem safTaken_window (s : State) : flag (safTaken s) F.SAF_STATUS_WINDOW_OPEN = flag s F.SAF_STATUS_WINDOW_OPEN := by
  have hstatus : reg (safTaken s) A.SAF_STATUS = reg (wr s F.SAF_STATUS_CFG_VALID 1) A.SAF_STATUS :=
    (reg_setReg_other _ _ _ _ (by decide)).trans (reg_setReg_other _ _ _ _ (by decide))
  exact (flag_congr (f := F.SAF_STATUS_WINDOW_OPEN) hstatus).trans (flag_wr_field _ _ _ _ (by decide) (by decide))

/-- A configuration that is refused latches CONFIG, with its detail. -/
def cfgFault (s : State) (a b : Bool) (n : Nat) : State :=
  safRefresh (raise (wr (safLatch s a b 0 .goes) F.SAF_FAULT_DETAIL_CRC n) F.SAF_EVT_RAW_CFG_FAULT)

theorem safClose_eq (s : State) : safClose s =
    if word (cfgCrc (cfgBlock s)) = reg (safShut s) A.SAF_CFG_CRC ∧
        rd (safShut s) F.SAF_SPEED_WIN_SPEED_MIN ≤ rd (safShut s) F.SAF_SPEED_WIN_SPEED_MAX
          ∧ rd (safShut s) F.SAF_ENV_ENV_FLOOR ≤ rd (safShut s) F.SAF_SPEED_WIN_SPEED_MIN then
      safSpeedRefresh (fbJudge (safTaken (safShut s)) true true)
    else cfgFault (safShut s) true true 1 := rfl

/-- The detail of a fault lies beside the latches and the state of the window. -/
theorem cfgFault_kept (s : State) (a b : Bool) (n : Nat) :
    flag (cfgFault s a b n) F.SAF_STATUS_WINDOW_OPEN = flag s F.SAF_STATUS_WINDOW_OPEN ∧
      (a = true → bit (latched (cfgFault s a b n) false) 0 = true) ∧ flag (cfgFault s a b n) F.SAF_EVT_RAW_CFG_FAULT = true := by
  have hlatch : GuardKept false s (safLatch s a b 0 .goes) := (GuardKept.refl s).safLatch a b 0 .goes
  unfold cfgFault
  generalize hdetail : wr (safLatch s a b 0 .goes) F.SAF_FAULT_DETAIL_CRC n = u
  have hother : ∀ k, k ≠ F.SAF_FAULT_DETAIL_CRC.addr → reg u k = reg (safLatch s a b 0 .goes) k := fun k hk => by
    rw [← hdetail]
    exact reg_wr_other _ _ _ _ hk
  have hraise := (GuardKept.refl (q := false) u).raise F.SAF_EVT_RAW_CFG_FAULT
  have hrefresh := (GuardKept.refl (q := false) (raise u F.SAF_EVT_RAW_CFG_FAULT)).safRefresh
  refine ⟨?_, fun ha => ?_, hrefresh.event (flag_raise_saf u (by decide))⟩
  · exact ((hraise.trans hrefresh).shown F.SAF_STATUS_WINDOW_OPEN (by simp)).trans
      ((flag_congr (f := F.SAF_STATUS_WINDOW_OPEN) (hother _ (by decide))).trans (hlatch.shown F.SAF_STATUS_WINDOW_OPEN (by simp)))
  · exact (hraise.trans hrefresh).latched false 0
      ((congrArg (bit · 0) (hother A.SAF_LATCH_A (by decide))).trans ((safLatch_latches s a b 0 .goes).1 ha))

/-- The SAFE_CONFIG window closes, whether the configuration takes effect or not. -/
theorem safClose_closed (s : State) : flag (safClose s) F.SAF_STATUS_WINDOW_OPEN = false := by
  rw [safClose_eq]
  split
  · have hkept := (((GuardKept.refl (q := false) (safTaken (safShut s))).fbJudge true true).safSpeedRefresh).shown
      F.SAF_STATUS_WINDOW_OPEN (by simp)
    exact hkept.trans ((safTaken_window _).trans (safShut_closed s))
  · exact (cfgFault_kept _ true true 1).1.trans (safShut_closed s)

def safCfgCtrlLoc : RegLoc := ⟨0x90000, 0, .ctl, ⟨128, 1, fun _ => 0, [⟨0, 1, .wo, [], false⟩]⟩, 0, 0⟩

theorem bodyReg_safCfgCtrl : BodyReg A.SAF_CFG_CTRL 0x90000 safCfgCtrlLoc :=
  ⟨by decide, by decide, by decide, rfl, rfl, by decide, by decide, by decide⟩

theorem pageAct_safCfgCtrl (d : Word) (o s : State) : pageAct 0x90000 A.SAF_CFG_CTRL d o s =
    if bit d 0 ∧ flag s F.SAF_STATUS_WINDOW_OPEN then safClose s else s := rfl

/-- A write of CFG_CTRL leaves the window closed, whether it was open or not. -/
theorem cfgClose_closed (d : Word) (o s : State) (hd : bit d 0 = true) :
    flag (pageAct 0x90000 A.SAF_CFG_CTRL d o s) F.SAF_STATUS_WINDOW_OPEN = false := by
  rw [pageAct_safCfgCtrl]
  split
  case isTrue => exact safClose_closed s
  case isFalse h => simpa [hd] using h

/-- Path `b` holds a configuration that CFG_CRC does not name. -/
def crcBad (s : State) (b : Bool) : Bool := decide (word (cfgCrc (pathOf s b).cfg) ≠ reg s A.SAF_CFG_CRC)

theorem crcRunCheck_eq (t : Nat) (s : State) : crcRunCheck t s =
    if sysOn (at' t s) ∧ cfgValid (at' t s) ∧ (crcBad (at' t s) false || crcBad (at' t s) true) then
      cfgFault (at' t s) (crcBad (at' t s) false) (crcBad (at' t s) true) 2
    else at' t s := rfl

theorem crcBad_congr (t : Nat) (s : State) (b : Bool) : crcBad (at' t s) b = crcBad s b := by cases b <;> rfl

/-- Settles O36: comparisons, SS1, the timers, the budget and the safety configuration. -/
theorem safetyStops : Obligations.SafetyStops := by
  refine ⟨fun t s hon hwas hdiffer => ⟨_, rfl, ?_⟩, fun t s hon hwas hdiffer => ⟨_, rfl, ?_⟩,
    fun t t0 s hrun hquiet => ⟨_, rfl, ss1Standstill_shows hrun hquiet⟩,
    fun t t0 s hrun hlong => ⟨_, rfl, ss1MaxExpire_shows hrun hlong⟩,
    fun t t0 s hdisc hlong => ⟨_, rfl, ssDiscrepancy_shows hdisc hlong⟩,
    fun t t0 s hagree hon hlong => ⟨_, rfl, speedAgree_shows hagree hon hlong⟩,
    fun t x s hbad => ⟨_, rfl, contactorMismatch_shows hbad⟩,
    fun t s => ⟨_, rfl, ?_⟩, fun t r s hacc => ⟨_, rfl, ?_⟩, fun t s hawake hopen hlong => ⟨_, rfl, ?_⟩,
    fun t s hon hvalid hbad => ⟨_, rfl, ?_⟩, fun t s hA hB => congrArg Host.Outcome.next ?_⟩
  · rw [pathCompare_again hon hwas hdiffer]
    exact latchBoth_shows _ 12 .goes
  · rw [pathCompare_first hon hwas hdiffer]
    have hkept := (GuardKept.refl (q := false) (bump (differNoted (at' t s)) A.SAF_MISMATCHES)).safSpeedRefresh
    refine ⟨hkept.differ.trans (congrArg Saf.differ (bump_saf _ _)), ?_⟩
    rw [hkept.regs _ (by decide), reg_bump_toNat]
    rfl
  · rw [(budgetSubwindow_paths t s).1, (budgetSubwindow_paths t s).2]
    exact ⟨budgetTrim_within t _, budgetTrim_within t _⟩
  · have hwritten := bodyReg_safCfgCtrl.written_narrow rfl hacc
    exact (hwritten.flag F.SAF_STATUS_WINDOW_OPEN (by decide)).trans (cfgClose_closed _ _ _ (by decide))
  · rw [cfgWindowTimeout, if_pos ⟨hawake, hopen, hlong⟩]
    exact safClose_closed _
  · have hbadA : crcBad (at' t s) false = true := (crcBad_congr t s false).trans (decide_eq_true hbad)
    rw [crcRunCheck_eq, hbadA, if_pos ⟨hon, hvalid, rfl⟩]
    obtain ⟨-, hlatch, hevent⟩ := cfgFault_kept (at' t s) true (crcBad (at' t s) true) 2
    exact ⟨hlatch rfl, hevent⟩
  · have hgoodA : crcBad (at' t s) false = false := (crcBad_congr t s false).trans (decide_eq_false (not_not.2 hA))
    have hgoodB : crcBad (at' t s) true = false := (crcBad_congr t s true).trans (decide_eq_false (not_not.2 hB))
    rw [crcRunCheck_eq, hgoodA, hgoodB, if_neg (by simp)]

end Sys2Proof.Machine
end

section
/-!
THEOREM. O35: the filtered inputs, SAFE_RESET and its refusals, and the proof cycle (12 R317, R319, R332 to R335).
-/

namespace Sys2Proof.Machine

/-! ## Inputs -/

/-- The inputs of a path with input `i` at a level. -/
def inputTaken (ins i : Nat) (level : Bool) : Nat :=
  if level then ins ||| 2 ^ i else if ins.testBit i then ins ^^^ 2 ^ i else ins

theorem testBit_inputTaken (ins i : Nat) (level : Bool) : (inputTaken ins i level).testBit i = level := by
  unfold inputTaken
  cases level with
  | true => simp [Nat.testBit_or]
  | false =>
    by_cases h : ins.testBit i = true
    · simp [h, Nat.testBit_xor]
    · simp [h]

/-- What the inputs of a path cause changes no input. -/
theorem inputCauses_kept (s : State) (b : Bool) : GuardKept false s (inputCauses s b) := by
  unfold inputCauses
  extract_lets levels stopped opened
  exact (GuardKept.ite_of_imp (.ite_of_imp (.refl s) fun h => h.safLatch _ _ _ _) fun h => h.safLatch _ _ _ _).onPath b _

/-- Path A takes a level and leaves path B's inputs; path B the reverse. -/
theorem pathInput_takes (s : State) (i : Nat) (level : Bool) :
    ((pathInput s false i level).saf.a.ins = inputTaken s.saf.a.ins i level ∧ (pathInput s false i level).saf.b.ins = s.saf.b.ins) ∧
      (pathInput s true i level).saf.b.ins = inputTaken s.saf.b.ins i level ∧ (pathInput s true i level).saf.a.ins = s.saf.a.ins :=
  ⟨⟨(inputCauses_kept _ false).insA, (inputCauses_kept _ false).insB⟩, (inputCauses_kept _ true).insB, (inputCauses_kept _ true).insA⟩

/-- What follows the inputs of a change: INPUTS, the feedback timers and the refresh. -/
theorem inputsShown_kept (s : State) :
    (safRefresh (fbJudge (safInputs s) false false)).saf.a.ins = s.saf.a.ins ∧
      (safRefresh (fbJudge (safInputs s) false false)).saf.b.ins = s.saf.b.ins :=
  have hkept := ((GuardKept.refl (q := false) (safInputs s)).fbJudge false false).safRefresh
  ⟨hkept.insA, hkept.insB⟩

theorem safetyInputChange_takes {t i : Nat} {level y : Bool} {s : State} (hawake : awake s = true) (hi : i < 6) (hreset : i ≠ 3) :
    (safetyInputChange t i level true y s).saf.a.ins.testBit i = level ∧
      (y = true → (safetyInputChange t i level true y s).saf.b.ins.testBit i = level) := by
  have hchange : safetyInputChange t i level true y s = safRefresh (fbJudge (safInputs
      (if y = true then pathInput (pathInput (at' t s) false i level) true i level else pathInput (at' t s) false i level)) false false) := by
    unfold safetyInputChange
    dsimp only
    rw [if_neg (not_or.2 ⟨by rw [show awake (at' t s) = true from hawake]; decide, by omega⟩)]
    simp only [hreset, false_and, if_false, if_true]
  obtain ⟨hA, hB⟩ := inputsShown_kept
    (if y = true then pathInput (pathInput (at' t s) false i level) true i level else pathInput (at' t s) false i level)
  obtain ⟨⟨htakenA, -⟩, -⟩ := pathInput_takes (at' t s) i level
  obtain ⟨-, htakenB, hkeptA⟩ := pathInput_takes (pathInput (at' t s) false i level) i level
  rw [hchange, hA, hB]
  cases y with
  | false =>
    rw [if_neg (by decide), htakenA]
    exact ⟨testBit_inputTaken _ _ _, nofun⟩
  | true =>
    rw [if_pos rfl, hkeptA, htakenA, htakenB]
    exact ⟨testBit_inputTaken _ _ _, fun _ => testBit_inputTaken _ _ _⟩

/-! ## An accepted reset -/

/-- A path with SAFE_RESET high. -/
def pathHigh (p : Path) : Path := { p with ins := p.ins ||| 8 }

/-- The latches and the proof cleared, and step 1 of the proof cycle begun. -/
def resetCleared (s : State) : State :=
  let s := setReg (setReg s A.SAF_LATCH_A 0#32) A.SAF_LATCH_B 0#32
  let s := onPath (onPath s false fun p => { p with torque := false }) true fun p => { p with torque := false }
  let s := { s with saf := { s.saf with ended := false, laser := false, delay := none, proof := 1, proofAt := s.now } }
  wr (wr (wr s F.SAF_STATUS_PROVEN 0) F.SAF_STATUS_STANDSTILL 0) F.SAF_STATUS_PROOF_RUNNING 1

/-- Lamp engines that the end of the latched causes stops. -/
def resetTold (s : State) : State :=
  if latched s false ≠ 0#32 ∨ latched s true ≠ 0#32 then lmpEdge (resetCleared s) 4 false else resetCleared s

/-- The reset counted, with its event. -/
def resetBegun (s : State) : State := raise (bump (resetTold s) A.SAF_RESETS) F.SAF_EVT_RAW_RESET_DONE

theorem resetAccept_eq (s : State) : resetAccept s = safRefresh (resetBegun s) := rfl

theorem resetTold_kept (s : State) : MotionKept (resetCleared s) (resetTold s) := .ite_of_imp (.refl _) fun h => h.lmpEdge 4 false

theorem saf_resetBegun (s : State) : (resetBegun s).saf = (resetCleared s).saf :=
  (raise_saf _ _).trans ((bump_saf _ _).trans (resetTold_kept s).saf)

/-- What clears the latches writes the latches and STATUS. -/
theorem reg_resetCleared (s : State) {a : Nat} (ha : a ≠ A.SAF_LATCH_A ∧ a ≠ A.SAF_LATCH_B ∧ a ≠ A.SAF_STATUS) :
    reg (resetCleared s) a = reg s a :=
  (reg_wr_other _ _ _ _ ha.2.2).trans ((reg_wr_other _ _ _ _ ha.2.2).trans ((reg_wr_other _ _ _ _ ha.2.2).trans
    ((reg_setReg_other _ _ _ _ ha.2.1).trans (reg_setReg_other _ _ _ _ ha.1))))

theorem resets_resetBegun (s : State) :
    (reg (resetBegun s) A.SAF_RESETS).toNat = min ((reg s A.SAF_RESETS).toNat + 1) 0xFFFFFFFF := by
  rw [resetBegun, reg_raise_other _ _ _ (not_evfReg_of_ge (by decide)) (by decide), reg_bump_toNat, (resetTold_kept s).regs _ (by decide),
    reg_resetCleared s ⟨by decide, by decide, by decide⟩]

/-- What lamp engines do on an edge lies in their own block. -/
theorem lmpEdge_aside (s : State) (src : Nat) (rise : Bool) :
    (lmpEdge s src rise).held = s.held ∧ (lmpEdge s src rise).wiping = s.wiping ∧ (lmpEdge s src rise).pair = s.pair := by
  have hstart : ∀ (v : State) (e : Nat), ((lampEngStart v e).held, (lampEngStart v e).wiping, (lampEngStart v e).pair) =
      (v.held, v.wiping, v.pair) := fun v e => by
    unfold lampEngStart
    dsimp only [setLampEng]
    split
    · simp only [bump_held, bump_wiping, bump_pair]
    · rfl
  have hall : ((lmpEdge s src rise).held, (lmpEdge s src rise).wiping, (lmpEdge s src rise).pair) = (s.held, s.wiping, s.pair) := by
    refine foldl_keeps (fun v : State => (v.held, v.wiping, v.pair)) (fun v e => ?_) _ s
    split
    · split
      · exact hstart v e
      · split
        · rfl
        · rfl
    · rfl
  simpa only [Prod.mk.injEq] using hall

theorem resetCleared_aside (s : State) :
    (resetCleared s).held = s.held ∧ (resetCleared s).wiping = s.wiping ∧ (resetCleared s).pair = s.pair := by
  simp [resetCleared, onPath]

theorem resetTold_aside (s : State) :
    (resetTold s).held = s.held ∧ (resetTold s).wiping = s.wiping ∧ (resetTold s).pair = s.pair := by
  obtain ⟨hheld, hwiping, hpair⟩ := resetCleared_aside s
  unfold resetTold
  generalize resetCleared s = u at hheld hwiping hpair ⊢
  split
  · obtain ⟨hheld', hwiping', hpair'⟩ := lmpEdge_aside u 4 false
    exact ⟨hheld'.trans hheld, hwiping'.trans hwiping, hpair'.trans hpair⟩
  · exact ⟨hheld, hwiping, hpair⟩

/-- An accepted reset leaves what the indicator's report is judged from. -/
theorem resetBegun_report (s : State) : ReportKept s (resetBegun s) := by
  obtain ⟨hheld, hwiping, hpair⟩ := resetTold_aside s
  refine ⟨fun a hguard hpage => ?_, (raise_held _ _).trans ((bump_held _ _).trans hheld),
    (raise_wiping _ _).trans ((bump_wiping _ _).trans hwiping), (raise_pair _ _).trans ((bump_pair _ _).trans hpair)⟩
  have hne : ∀ b, SafPage b → a ≠ b := fun b hb heq => hpage (heq ▸ hb)
  have hdrive : driveWord a = false := by
    simp only [guardWord, Bool.or_eq_false_iff] at hguard
    tauto
  rw [resetBegun, reg_raise_other _ _ _ (not_evfReg_of_driveWord hdrive) (hne _ (by decide)),
    reg_bump_other _ _ _ (hne _ (by decide)) (hne _ (by decide)), (resetTold_kept s).regs a hdrive,
    reg_resetCleared s ⟨hne _ (by decide), hne _ (by decide), hne _ (by decide)⟩]

/-- An accepted reset counts and begins the proof cycle. -/
theorem resetAccept_shows {s : State} (hclosed : indicatorOpen s = false) :
    (reg (resetAccept s) A.SAF_RESETS).toNat = min ((reg s A.SAF_RESETS).toNat + 1) 0xFFFFFFFF ∧ (resetAccept s).saf.proof = 1 ∧
      (resetAccept s).saf.proofAt = s.now := by
  rw [resetAccept_eq]
  obtain ⟨hproof, hat⟩ := safRefresh_proof ((resetBegun_report s).indicatorOpen.trans hclosed)
  refine ⟨?_, hproof.trans ?_, hat.trans ?_⟩
  · rw [(GuardKept.refl (q := false) (resetBegun s)).safRefresh.regs _ (by decide), resets_resetBegun]
  · rw [saf_resetBegun]
    rfl
  · rw [saf_resetBegun]
    rfl

theorem resetAccept_inputs (s : State) : (resetAccept s).saf.a.ins = s.saf.a.ins ∧ (resetAccept s).saf.b.ins = s.saf.b.ins := by
  have hkept := (GuardKept.refl (q := false) (resetBegun s)).safRefresh
  have hsaf : (resetBegun s).saf.a.ins = s.saf.a.ins ∧ (resetBegun s).saf.b.ins = s.saf.b.ins := by
    rw [saf_resetBegun]
    exact ⟨rfl, rfl⟩
  rw [resetAccept_eq]
  exact ⟨hkept.insA.trans hsaf.1, hkept.insB.trans hsaf.2⟩

theorem indicator_of_resetAllowed {s : State} (h : resetAllowed s = true) : indicatorOpen s = false := by
  simp only [resetAllowed, Bool.and_eq_true, Bool.not_eq_true'] at h
  obtain ⟨⟨⟨⟨⟨⟨-, hclosed⟩, -⟩, -⟩, -⟩, -⟩, -⟩ := h
  exact hclosed

/-! ## SAFE_RESET -/

/-- SAFE_RESET taken high by the paths named, and shown. -/
def resetTaken (s : State) (a b : Bool) : State :=
  let s := if a then onPath s false pathHigh else s
  safInputs (if b then onPath s true pathHigh else s)

/-- The instant since which SAFE_RESET has its level. -/
def pinNoted (s : State) : State := { s with saf := { s.saf with pinAt := s.now } }

/-- A refused reset is counted, with its event. -/
def resetRefuse (s : State) : State := raise (bump s A.SAF_RESET_REFUSED) F.SAF_EVT_RAW_RESET_REFUSED

theorem safeResetEdge_eq (s : State) (a b : Bool) : safeResetEdge s a b =
    if resetHigh s || !(resetHigh (resetTaken s a b)) then resetTaken s a b
    else if resetAllowed (pinNoted (resetTaken s a b)) then resetAccept (pinNoted (resetTaken s a b))
    else resetRefuse (pinNoted (resetTaken s a b)) := rfl

theorem testBit_high (n : Nat) : (n ||| 8).testBit 3 = true := by
  rw [Nat.testBit_or]
  exact Bool.or_eq_true_iff.2 (.inr (by decide))

theorem resetTaken_inputs (s : State) (a b : Bool) : (resetTaken s a b).saf.a.ins.testBit 3 = (a || s.saf.a.ins.testBit 3) ∧
    (resetTaken s a b).saf.b.ins.testBit 3 = (b || s.saf.b.ins.testBit 3) := by
  have hA : (resetTaken s a b).saf.a.ins = if a then s.saf.a.ins ||| 8 else s.saf.a.ins := by cases a <;> cases b <;> rfl
  have hB : (resetTaken s a b).saf.b.ins = if b then s.saf.b.ins ||| 8 else s.saf.b.ins := by cases a <;> cases b <;> rfl
  have hhigh : ∀ (c : Bool) (n : Nat), (if c then n ||| 8 else n).testBit 3 = (c || n.testBit 3) := fun c n => by
    cases c with
    | false => rfl
    | true => exact testBit_high n
  rw [hA, hB]
  exact ⟨hhigh _ _, hhigh _ _⟩

/-- Both paths with SAFE_RESET high. -/
def bothHigh (s : State) : State := { s with saf := { s.saf with a := pathHigh s.saf.a, b := pathHigh s.saf.b } }

theorem resetRefuse_proof (s : State) : (resetRefuse (pinNoted (safInputs (bothHigh s)))).saf.proof = s.saf.proof := by
  rw [resetRefuse, raise_saf, bump_saf]
  rfl

theorem resetTaken_both (s : State) : resetTaken s true true = safInputs (bothHigh s) := rfl

/-! ## What the conditions of a reset read -/

/-- INPUTS shown, and the instant of SAFE_RESET noted, leave the speeds of the paths. -/
theorem speedsDiffer_noted (s : State) : speedsDiffer (pinNoted (safInputs s)) = speedsDiffer s := by
  have hreg : ∀ a, a ≠ A.SAF_INPUTS → reg (pinNoted (safInputs s)) a = reg s a := fun a ha => reg_setReg_other s _ a _ ha
  have hspeed : ∀ b, pathSpeed (pinNoted (safInputs s)) b = pathSpeed s b := fun b => by
    simp only [pathSpeed, modelValid, indexSpeed, hallSpeed, flag_congr (f := F.MOT_STATUS_MODEL_VALID) (hreg _ (by decide)),
      rd_congr (f := F.MOT_GEOM_FACETS) (hreg _ (by decide)), rd_congr (f := F.MOT_GEOM_POLE_PAIRS) (hreg _ (by decide))]
    rfl
  simp only [speedsDiffer, hspeed, isStare, rd_congr (f := F.SCN_SCAN_MODE) (hreg _ (by decide))]
  rfl

theorem budgetPassed_noted (s : State) : budgetPassed (pinNoted (safInputs s)) = budgetPassed s := by
  have hreg : ∀ a, a ≠ A.SAF_INPUTS → reg (pinNoted (safInputs s)) a = reg s a := fun a ha => reg_setReg_other s _ a _ ha
  simp only [budgetPassed, budgetLimit, isStare, rd_congr (f := F.SCN_SCAN_MODE) (hreg _ (by decide))]
  rfl

/-- INPUTS shown and the instant of SAFE_RESET noted: no condition of a reset is about them. -/
theorem resetAllowed_noted (s : State) : resetAllowed (pinNoted (safInputs s)) = resetAllowed s := by
  have hreg : ∀ a, a ≠ A.SAF_INPUTS → reg (pinNoted (safInputs s)) a = reg s a := fun a ha => reg_setReg_other s _ a _ ha
  have hreport : ReportKept s (pinNoted (safInputs s)) :=
    ⟨fun a _ hpage => hreg a fun heq => hpage (heq ▸ (by decide : SafPage A.SAF_INPUTS)), rfl, rfl, rfl⟩
  have hlatched : ∀ b, latched (pinNoted (safInputs s)) b = latched s b := fun b => hreg _ (by cases b <;> decide)
  have hpath : ∀ b, pathOf (pinNoted (safInputs s)) b = pathOf s b := fun b => by cases b <;> rfl
  have hmismatched : ∀ b m, mismatched (pinNoted (safInputs s)) b m = mismatched s b m := fun b m => by
    simp only [mismatched, hpath]
    rfl
  have hpair : pairWhole (pinNoted (safInputs s)) = pairWhole s := by
    simp only [pairWhole, paired, hreport.flag F.PAIR_CTRL_ENABLE, hreport.flag F.PAIR_STATUS_PARTNER_OK,
      hreport.flag F.PAIR_STATUS_ID_CLASH, hreport.pair]
    rfl
  have hgone : unlistedGone (pinNoted (safInputs s)) = unlistedGone s := by
    simp only [unlistedGone, hlatched, budgetPassed_noted, speedsDiffer_noted]
    rfl
  simp only [resetAllowed, hlatched, hpath, hmismatched, hpair, hgone, hreport.indicatorOpen, hreg A.MOT_FAULT_LATCH (by decide),
    hreg A.THM_TRIP_LATCH (by decide), flag_congr (f := F.SAF_STATUS_RESET_STUCK) (hreg _ (by decide))]
  rfl

/-- A rising edge that is allowed is an accepted reset. -/
theorem safeResetEdge_accepted {s : State} (hlow : resetHigh s = false) (hallowed : resetAllowed (bothHigh s) = true) :
    safeResetEdge s true true = resetAccept (pinNoted (safInputs (bothHigh s))) := by
  obtain ⟨hA, hB⟩ := resetTaken_inputs s true true
  rw [safeResetEdge_eq, if_neg (by rw [hlow, resetHigh, hA, hB]; simp), resetTaken_both, resetAllowed_noted, if_pos hallowed]

/-- One that is not is counted as refused. -/
theorem safeResetEdge_refused {s : State} (hlow : resetHigh s = false) (hallowed : resetAllowed (bothHigh s) = false) :
    safeResetEdge s true true = resetRefuse (pinNoted (safInputs (bothHigh s))) := by
  obtain ⟨hA, hB⟩ := resetTaken_inputs s true true
  rw [safeResetEdge_eq, if_neg (by rw [hlow, resetHigh, hA, hB]; simp), resetTaken_both, resetAllowed_noted,
    if_neg (by rw [hallowed]; decide)]

/-- SAFE_RESET high shows in the paths named, whatever becomes of the edge. -/
theorem safeResetEdge_inputs (s : State) (a b : Bool) : (safeResetEdge s a b).saf.a.ins.testBit 3 = (a || s.saf.a.ins.testBit 3) ∧
    (safeResetEdge s a b).saf.b.ins.testBit 3 = (b || s.saf.b.ins.testBit 3) := by
  obtain ⟨hA, hB⟩ := resetTaken_inputs s a b
  rw [safeResetEdge_eq]
  split
  · exact ⟨hA, hB⟩
  · split
    · obtain ⟨hkeptA, hkeptB⟩ := resetAccept_inputs (pinNoted (resetTaken s a b))
      rw [hkeptA, hkeptB]
      exact ⟨hA, hB⟩
    · have hsaf : (resetRefuse (pinNoted (resetTaken s a b))).saf = (pinNoted (resetTaken s a b)).saf :=
        (raise_saf _ _).trans (bump_saf _ _)
      rw [hsaf]
      exact ⟨hA, hB⟩

/-! ## The proof cycle -/

/-- Step 1 passes to step 2, where the lamp is asked for. -/
theorem proofStepEnd_first {t : Nat} {s : State} (hproof : s.saf.proof = 1) (hlong : s.saf.proofAt + msec 10 ≤ t)
    (hmotor : contactorBad s true = false) (hlaser : contactorBad s false = false) :
    proofStepEnd t s = lampAsk { s with saf := { s.saf with proof := 2, proofAt := t } } := by
  unfold proofStepEnd
  simp only [hproof, hmotor, hlaser, hlong, Bool.or_false, Bool.false_eq_true, if_false, if_true]

/-- Step 2 fails after its time. -/
theorem proofStepEnd_second {t : Nat} {s : State} (hproof : s.saf.proof = 2) (hlong : s.saf.proofAt + msec 20 ≤ t) :
    proofStepEnd t s = proofFail s 8 .stays := by
  unfold proofStepEnd
  simp only [hproof, hlong, if_true]

/-- Step 3 of a laser contactor that is not monitored proves after FB_TIME. -/
theorem proofStepEnd_third {t : Nat} {s : State} (hproof : s.saf.proof = 3) (hfree : fbLaserOn s = false)
    (hlong : s.saf.proofAt + msec (cfgOf s.saf.a F.SAF_FB_TIME) ≤ t) : proofStepEnd t s = proofDone s := by
  unfold proofStepEnd
  simp only [hproof, hfree, hlong, Bool.not_false, if_true]

theorem proofFail_shows (s : State) : flag (proofFail s 8 .stays) F.SAF_EVT_RAW_PROOF_FAIL = true ∧
    bit (latched (proofFail s 8 .stays) false) 8 = true ∧ bit (latched (proofFail s 8 .stays) true) 8 = true := by
  obtain ⟨hA, hB⟩ := safLatch_latches s true true 8 .stays
  have hraise := (GuardKept.refl (q := false) (safLatch s true true 8 .stays)).raise F.SAF_EVT_RAW_PROOF_FAIL
  have hrefresh := (GuardKept.refl (q := false) (raise (safLatch s true true 8 .stays) F.SAF_EVT_RAW_PROOF_FAIL)).safRefresh
  exact ⟨hrefresh.event (flag_raise_saf _ (by decide)), (hraise.trans hrefresh).latched false 8 (hA rfl),
    (hraise.trans hrefresh).latched true 8 (hB rfl)⟩

/-- The proof shown complete, before its event. -/
def proofShown (s : State) : State :=
  let s := wr (wr s F.SAF_STATUS_PROVEN 1) F.SAF_STATUS_PROOF_RUNNING 0
  let d := if cfgOf s.saf.a F.SAF_EMIT_DELAY = 0 then none else some s.now
  { s with saf := { s.saf with proof := 0, delay := d } }

theorem proofDone_eq (s : State) : proofDone s = safRefresh (raise (proofShown s) F.SAF_EVT_RAW_PROOF_DONE) := rfl

theorem proofShown_proven (s : State) : flag (proofShown s) F.SAF_STATUS_PROVEN = true :=
  (flag_wr_field _ F.SAF_STATUS_PROOF_RUNNING F.SAF_STATUS_PROVEN _ (by decide) (by decide)).trans (flag_wr_one _ _ (by decide) rfl)

theorem proofDone_shows (s : State) : flag (proofDone s) F.SAF_STATUS_PROVEN = true ∧ flag (proofDone s) F.SAF_EVT_RAW_PROOF_DONE = true := by
  rw [proofDone_eq]
  have hraise := (GuardKept.refl (q := false) (proofShown s)).raise F.SAF_EVT_RAW_PROOF_DONE
  have hrefresh := (GuardKept.refl (q := false) (raise (proofShown s) F.SAF_EVT_RAW_PROOF_DONE)).safRefresh
  exact ⟨((hraise.trans hrefresh).shown F.SAF_STATUS_PROVEN (by simp)).trans (proofShown_proven s),
    hrefresh.event (flag_raise_saf _ (by decide))⟩

/-- Settles O35: inputs, resets, RESET_STUCK and the steps of the proof cycle. -/
theorem safetyInputsAndReset : Obligations.SafetyInputsAndReset := by
  refine ⟨fun t i x y s hawake hi hreset => ⟨_, rfl, safetyInputChange_takes hawake hi hreset⟩,
    fun t x y s hawake => ⟨_, rfl, ?_⟩, fun t s hawake hlow hallowed => ⟨_, rfl, ?_⟩, fun t s hawake hlow hallowed => ⟨_, rfl, ?_⟩,
    fun t s hawake hhigh hlong hclear => ⟨_, rfl, ?_⟩, fun t s hA hB hlong => ⟨_, rfl, ?_⟩,
    fun t s hproof hlong hmotor hlaser => ⟨_, rfl, ?_⟩, fun t s hproof hlong => ⟨_, rfl, ?_⟩,
    fun t s hproof hfree hlong => ⟨_, rfl, ?_⟩, fun t t0 s hdelay hlong => ⟨_, rfl, ?_⟩⟩
  · have hedge : safetyInputChange t 3 true x y s = safeResetEdge (at' t s) x y := by
      unfold safetyInputChange
      dsimp only
      rw [if_neg (not_or.2 ⟨by rw [show awake (at' t s) = true from hawake]; decide, by decide⟩), if_pos ⟨rfl, rfl⟩]
    rw [hedge]
    exact safeResetEdge_inputs (at' t s) x y
  · rw [if_pos hawake, safeResetEdge_accepted (s := at' t s) hlow hallowed]
    have hclosed := indicator_of_resetAllowed ((resetAllowed_noted (bothHigh (at' t s))).trans hallowed)
    obtain ⟨hcount, hproof, hat⟩ := resetAccept_shows hclosed
    refine ⟨hcount.trans ?_, hproof, hat⟩
    rw [show reg (pinNoted (safInputs (bothHigh (at' t s)))) A.SAF_RESETS = reg s A.SAF_RESETS from reg_setReg_other _ _ _ _ (by decide)]
  · rw [if_pos hawake, safeResetEdge_refused (s := at' t s) hlow hallowed]
    refine ⟨?_, resetRefuse_proof _⟩
    rw [resetRefuse, reg_raise_other _ _ _ (not_evfReg_of_ge (by decide)) (by decide), reg_bump_toNat,
      show reg (pinNoted (safInputs (bothHigh (at' t s)))) A.SAF_RESET_REFUSED = reg s A.SAF_RESET_REFUSED from
        reg_setReg_other _ _ _ _ (by decide)]
  · rw [resetStuck, if_pos ⟨hawake, hhigh, hlong, by simpa using hclear⟩]
    refine ⟨?_, flag_raise_saf _ (by decide)⟩
    rw [flag_congr (f := F.SAF_STATUS_RESET_STUCK) (reg_raise_other _ _ _ (not_evfReg_of_ge (by decide)) (by decide))]
    exact flag_wr_one _ _ (by decide) rfl
  · rw [resetStuckClear, if_pos ⟨by simpa using hA, by simpa using hB, hlong⟩]
    exact flag_wr_zero _ _ (by decide) rfl
  · rw [proofStepEnd_first (s := at' t s) hproof hlong hmotor hlaser]
    exact ⟨rfl, rfl, rfl⟩
  · rw [proofStepEnd_second (s := at' t s) hproof hlong]
    exact proofFail_shows (at' t s)
  · rw [proofStepEnd_third (s := at' t s) hproof hfree hlong]
    exact proofDone_shows (at' t s)
  · unfold emitDelayEnd
    dsimp only
    rw [show (at' t s).saf.delay = some t0 from hdelay]
    dsimp only
    rw [if_pos (show t0 + msec (cfgOf (at' t s).saf.a F.SAF_EMIT_DELAY) ≤ t from hlong)]
    exact (GuardKept.refl (q := false) { at' t s with saf := { (at' t s).saf with delay := none } }).safRefresh.delay

end Sys2Proof.Machine
end
